-- ==== Sys2Proof/Machine/RegNames.lean ====
section
/-! DEFINITION. The names of the registers and of their fields (24_register_index, R521 to R532, and each chapter's register tables). -/
namespace Sys2Proof.Machine

/-- Every register of the register index, the uniform registers of R513 once (prefix BLK, indexed by the block's number),
and the MSI-X table and PBA of R37. -/
inductive Reg where
  | PCI_LINK_STATUS | PCI_LINK_CTRL | PCI_LTR_BUSY | PCI_LTR_IDLE | PCI_RX_ERR_COUNT | PCI_REPLAY_COUNT
  | PCI_DOWNSPEED_COUNT | PCI_MMIO_BAD_COUNT | PCI_PTM_LAST | SLC_SLICE_CTRL | SLC_SLICE_PASID | SLC_SLICE_QUEUES
  | SLC_SLICE_VECTORS | SLC_SLICE_EVRINGS | SLC_SLICE_KEYS | SLC_SLICE_KEYS_USED | SLC_SLICE_STREAMS | SLC_SLICE_SEAL_QUOTA
  | SLC_SLICE_SEAL_USED | SLC_T_STATUS | SLC_T_GRANT | SLC_T_VECTORS | SLC_T_MBX | SLC_SLICE_MBX
  | SLC_SLICE_DPL_BASE | SLC_SLICE_DPL_PROD | SLC_SLICE_DPL_CONS | SLC_CFG_REFUSED_COUNT | SLC_VEC_DROP_COUNT | SLC_MBX_DROP_COUNT
  | SLC_DPL_LOST_COUNT | QC_RING_BASE | QC_HEAD_ADDR | QC_CTRL | QC_TAIL | QC_HEAD
  | QC_DONE | QC_STATUS | QC_BAD_DOORBELL_COUNT | QC_OWN_MISS_COUNT | EVR_BASE | EVR_HEAD_ADDR
  | EVR_CTRL | EVR_PROD | EVR_CONS | EVR_LOST_COUNT | EVR_T_CONS | EVR_T_STATUS
  | QE_BAD_DOORBELL_COUNT | QE_CFG_REFUSED_COUNT | QE_SC_BAD_COMPLETE_COUNT | QE_EV_NOROUTE_COUNT | QE_EVR_BAD_CONS_COUNT | QE_SC_BASE
  | QE_SC_CTRL | QE_SC_PROD | QE_SC_COMPLETE | QE_SC_OUTSTANDING | QE_SC_TIMEOUT | SCH_CREDIT_TOTAL
  | SCH_CREDIT_FREE | SCH_RESERVE_USE_COUNT | SCH_SENIOR_STAMP | SCH_SENIOR_QUEUE | SCH_PARK_USED | SCH_PARK_HOLD_COUNT
  | SCH_QUANTUM | SCH_REEXEC_COUNT | SCH_ABORT_COUNT | SCH_FLUSH_COUNT | SCH_STAMP_NEXT | MAR_CORE_ENABLE
  | MAR_CORE_ONLINE | MAR_CFG_REFUSED_COUNT | MAR_ECC_CORRECTED_COUNT | MAR_ECC_UNCORRECTED_COUNT | MAR_CORE_RESET_COUNT | MAR_TAG_FAULT_COUNT
  | MAR_SUSPEND_COUNT | MAR_TEAM_HOLD_COUNT | MAR_IMAGE_VERSION | MAR_KREGION_FREE | MAR_SCRATCH_FREE | MAR_CORE_STATUS
  | MAR_KERNEL_FAULT_COUNT | MAR_FAULT_INFO | MAR_FAULT_PC | MAR_FAULT_RESUME | HSH_CORE_ENABLE | HSH_CORE_ONLINE
  | HSH_CFG_REFUSED_COUNT | HSH_STREAM_LIMIT | HSH_SESSIONS_OPEN | HSH_CHECK_ERROR_COUNT | HSH_CALL_RETRY_COUNT | HSH_SESSION_FAIL_COUNT
  | HSH_STORE_CORRECTED_COUNT | HSH_BORROW_COUNT | HSH_MASK_STALL_COUNT | HSH_CORE_OFFLINE_COUNT | HSH_CALL_COUNT | CDE_UNIT_ENABLE
  | CDE_UNIT_ONLINE | CDE_CFG_REFUSED_COUNT | CDE_ECC_CORRECTED_COUNT | CDE_ECC_UNCORRECTED_COUNT | CDE_CHECK_ERROR_COUNT | CDE_UNIT_RESET_COUNT
  | CDE_KEYGEN_COUNT | CDE_KEYGEN_ATTEMPT_COUNT | CDE_KEYGEN_REPLACED_SEED_COUNT | CDE_PCT_FAIL_COUNT | CDE_UNIT_STATUS | BGN_MUL_ENABLE
  | BGN_MUL_ONLINE | BGN_CFG_REFUSED_COUNT | BGN_ECC_CORRECTED_COUNT | BGN_ECC_UNCORRECTED_COUNT | BGN_CHECK_ERROR_COUNT | BGN_COMPARE_MISMATCH_COUNT
  | BGN_INPUT_REJECT_COUNT | BGN_SECRET_REJECT_COUNT | BGN_ERASE_COUNT | BGN_ERASE_LAST | BGN_BLIND_REKEY_COUNT | BGN_MUL_STATUS
  | STR_PIPE_ENABLE | STR_PIPE_ONLINE | STR_CFG_REFUSED_COUNT | STR_SLICE_BYTES | STR_CHECK_ERROR_COUNT | STR_TAG_MISMATCH_COUNT
  | STR_YIELD_COUNT | STR_ERASE_COUNT | STR_ERASE_LAST | STR_PIPE_BYTES | ENT_STATUS | ENT_WAIT_LIMIT
  | ENT_CELL_ENABLE | ENT_CFG_REFUSED_COUNT | ENT_RESTART_FAIL_COUNT | ENT_STALL_COUNT | ENT_TIMEOUT_COUNT | ENT_COND_COUNT
  | ENT_SW_DATA | ENT_SW_STATUS | ENT_CELL_FAIL | ENT_DRBG_STATUS | KV_STATUS | KV_HOT_USED
  | KV_WINDOW_BLOCKS | KV_QUARANTINED_KEYS | KV_HOT_MISS_COUNT | KV_HOT_EVICT_COUNT | KV_HOT_CORRECTED_COUNT | KV_TABLE_FULL_COUNT
  | KV_RESERVE_COUNT | KV_CEIL_WAIT_COUNT | KV_TB_ERASED_COUNT | KV_ABANDONED_INDICES | KV_EVENT | KV_EVENT_EN
  | QRE_STATUS | QRE_STREAM_RELEASE | QRE_CFG_REFUSED_COUNT | QRE_HOLD_COUNT | QRE_APPEND_COUNT | QRE_VOID_COUNT
  | QRE_SHORT_COUNT | QRE_JOURNAL_QUEUED | QRE_JOURNAL_DROP_COUNT | QRE_STREAM_STATE | QRE_STREAM_SIZE | SEAL_STATUS
  | SEAL_CTRL | SEAL_STORAGE_LIMIT | SEAL_RETRY_TIME | SEAL_GROUP_TIME | SEAL_COMMIT | SEAL_ANCHOR_COMMIT
  | SEAL_ANCHOR_STATUS | SEAL_CFG_REFUSED_COUNT | SEAL_FETCH_COUNT | SEAL_REPOST_COUNT | SEAL_INTEGRITY_FAIL_COUNT | SEAL_TIMEOUT_COUNT
  | SEAL_SC_BUF | SEAL_RANGE_KV | SEAL_RANGE_QRE | SEAL_RANGE_SLICE | TIM_STATUS | TIM_CTRL
  | TIM_FREQ_BOUND | TIM_SLEW_RATE | TIM_STEP_THRESHOLD | TIM_LOCK_THRESHOLD | TIM_HOLDOVER_LIMIT | TIM_PPS_DELAY
  | TIM_TOD_NEXT | TIM_SET_SEC | TIM_SET_NS | TIM_PTM_OFFSET | TIM_PTM_INTERVAL | TIM_PPS_OUT_WIDTH
  | TIM_PPS_OUT_PHASE | TIM_SOURCE_ERROR | TIM_NOW_NS | TIM_NOW_SUBNS | TIM_NOW_SEC | TIM_FREQ_CORR
  | TIM_LAST_OFFSET | TIM_SLEW_REMAIN | TIM_AO_TRIM | TIM_STEP_COUNT | TIM_POLICY_LIMIT_COUNT | TIM_SOURCE_LOSS_COUNT
  | TIM_COPY_CORRECTED_COUNT | GLB_STATUS | GLB_BOOT_CTRL | GLB_BOOT_HOST_ADDR | GLB_BOOT_HOST_LEN | GLB_BOOT_TIME
  | GLB_POR_COUNT | SEQ_BINDER_ENABLE | SEQ_BINDER_ONLINE | SEQ_CFG_REFUSED_COUNT | SEQ_RESTART_COUNT | SEQ_PATCH_CORRECTED_COUNT
  | SEQ_MICROCODE_FAULT_COUNT | SEQ_PATCH_INFO | SEQ_MATCH | SEQ_BINDER_STATUS | SEQ_FAULT_INFO | DMA_BAD_DESC_COUNT
  | DMA_CANCEL_COUNT | DMA_SRAM_CORRECTED_COUNT | DMA_BYTES | DMA_CHAN_STATUS | LMC_STATUS | LMC_CONFIG
  | LMC_LINK_CORRECTED_COUNT | LMC_MAC_FAIL_COUNT | LMC_AREA_FULL_COUNT | LMC_PROTECTED_BYTES | TMP_STATUS | TMP_CTRL
  | TMP_OTP_COUNT | TMP_PENDING | TMP_AO_FILL | TMP_EVENT_COUNT | TMP_DISAGREE_COUNT | TMP_FABRIC_CODE_COUNT
  | TMP_EXT_CFG | TMP_CFG_REFUSED_COUNT | TMP_SRC_RESP | TMP_SRC_STATUS | TMP_AO_BUF | LCO_STATE
  | LCO_TRANSITION | LCO_DIAG_TOKEN | LCO_DIAG_ENTER | LCO_OTP_STATUS | LCO_FIELD_STATUS | LCO_PROV_DATA
  | LCO_PROV_CTRL | LCO_OTP_WRITE_COUNT | LCO_OTP_RETRY_COUNT | LCO_ROLLFORWARD_COUNT | LCO_CFG_REFUSED_COUNT | PWR_STATUS
  | PWR_CTRL | PWR_POWER_LIMIT | PWR_POWER_NOW | PWR_IDLE_DELAY | PWR_DOZE_DELAY | PWR_TEMP
  | PWR_VBAT_MV | PWR_WAKE_EN | PWR_WAKE_CAUSE | PWR_WAKE_TIME | PWR_SUPPLY_EVENT_COUNT | PWR_POLICY_LIMIT_COUNT
  | PWR_THERMAL_COUNT | PWR_DOZE_COUNT | PWR_SWITCH_COUNT | BLK_ERR_STATUS | BLK_ERR_FIRST | BLK_ERR_MERGED
  | BLK_ERR_COUNT | BLK_ERR_IRQ_EN | BLK_RECOVERY_COUNT | BLK_RECOVERY_LIMIT | BLK_QUIET_TIME | BLK_ERR_CLEAR_REFUSED
  | SMB_ALERT_EN | SMB_ALERT_STATUS | SMB_TEMP_HIGH | SMB_STATUS | SMB_MIRROR | SLC_SLICE_WEIGHTS
  | SLC_MBX_PENDING | GLB_CFG_REFUSED_COUNT | BLK_ID | MSIX_ADDR | MSIX_DATA | MSIX_CTRL
  | MSIX_PBA | SMB_PROTOCOL_COUNT
deriving DecidableEq, Repr, Inhabited

/-- Every field of those registers, named register_field. -/
inductive Fld where
  | PCI_LINK_STATUS_PM_STATE | PCI_LINK_STATUS_DEGRADED | PCI_LINK_STATUS_WIDTH | PCI_LINK_STATUS_SPEED
  | PCI_LINK_CTRL_RETRAIN | PCI_LINK_CTRL_AUTO_DOWNSPEED | PCI_LINK_CTRL_MAX_SPEED | PCI_LTR_BUSY_LATENCY_NS
  | PCI_LTR_IDLE_LATENCY_NS | PCI_RX_ERR_COUNT_COUNT | PCI_REPLAY_COUNT_COUNT | PCI_DOWNSPEED_COUNT_COUNT
  | PCI_MMIO_BAD_COUNT_COUNT | PCI_PTM_LAST_T1_NS | SLC_SLICE_CTRL_STATE | SLC_SLICE_CTRL_CFG_STATUS
  | SLC_SLICE_CTRL_NEW_ROUND | SLC_SLICE_CTRL_RESET | SLC_SLICE_CTRL_PAUSE | SLC_SLICE_CTRL_LOG_EN
  | SLC_SLICE_CTRL_ENABLE | SLC_SLICE_PASID_PASID_PENDING | SLC_SLICE_PASID_PASID_VALID | SLC_SLICE_PASID_PASID
  | SLC_SLICE_QUEUES_QCOUNT | SLC_SLICE_QUEUES_QBASE | SLC_SLICE_VECTORS_VCOUNT | SLC_SLICE_VECTORS_VBASE
  | SLC_SLICE_EVRINGS_ECOUNT | SLC_SLICE_EVRINGS_EBASE | SLC_SLICE_KEYS_KEY_QUOTA | SLC_SLICE_KEYS_USED_KEY_USED
  | SLC_SLICE_STREAMS_STREAM_USED | SLC_SLICE_STREAMS_STREAM_QUOTA | SLC_SLICE_SEAL_QUOTA_BLOCKS | SLC_SLICE_SEAL_USED_BLOCKS
  | SLC_T_STATUS_STATE | SLC_T_STATUS_PASID | SLC_T_GRANT_QCOUNT | SLC_T_GRANT_ECOUNT
  | SLC_T_VECTORS_VCOUNT | SLC_T_MBX_M2T_VECTOR | SLC_T_MBX_M2T_IRQ_EN | SLC_T_MBX_M2T_ACK
  | SLC_T_MBX_M2T_FULL | SLC_T_MBX_T2M_FULL | SLC_T_MBX_T2M_SEND | SLC_SLICE_MBX_M2T_SEND
  | SLC_SLICE_MBX_M2T_FULL | SLC_SLICE_MBX_T2M_ACK | SLC_SLICE_MBX_T2M_FULL | SLC_SLICE_DPL_BASE_BASE
  | SLC_SLICE_DPL_BASE_SIZE_LOG2 | SLC_SLICE_DPL_PROD_OVERFLOW | SLC_SLICE_DPL_PROD_PROD | SLC_SLICE_DPL_CONS_CONS
  | SLC_CFG_REFUSED_COUNT_COUNT | SLC_VEC_DROP_COUNT_COUNT | SLC_MBX_DROP_COUNT_COUNT | SLC_DPL_LOST_COUNT_COUNT
  | QC_RING_BASE_BASE | QC_RING_BASE_SIZE_LOG2 | QC_HEAD_ADDR_ADDR | QC_CTRL_STATE
  | QC_CTRL_WINDOW | QC_CTRL_EVRING | QC_CTRL_EV_MODE | QC_CTRL_EV_EN
  | QC_CTRL_RESET | QC_CTRL_ENABLE | QC_TAIL_TAIL | QC_HEAD_WRAP
  | QC_HEAD_HEAD | QC_DONE_DONE | QC_STATUS_PARKED | QC_STATUS_OWN_WAIT
  | QC_STATUS_INFLIGHT | QC_BAD_DOORBELL_COUNT_COUNT | QC_OWN_MISS_COUNT_COUNT | EVR_BASE_BASE
  | EVR_BASE_SIZE_LOG2 | EVR_HEAD_ADDR_ADDR | EVR_CTRL_VECTOR | EVR_CTRL_COAL_TIME
  | EVR_CTRL_COAL_COUNT | EVR_CTRL_IRQ_EN | EVR_CTRL_ENABLE | EVR_PROD_OVERFLOW
  | EVR_PROD_PROD | EVR_CONS_CONS | EVR_LOST_COUNT_COUNT | EVR_T_CONS_CONS
  | EVR_T_STATUS_OVERFLOW | EVR_T_STATUS_PROD | QE_BAD_DOORBELL_COUNT_COUNT | QE_CFG_REFUSED_COUNT_COUNT
  | QE_SC_BAD_COMPLETE_COUNT_COUNT | QE_EV_NOROUTE_COUNT_COUNT | QE_EVR_BAD_CONS_COUNT_COUNT | QE_SC_BASE_BASE
  | QE_SC_BASE_SIZE_LOG2 | QE_SC_CTRL_VECTOR | QE_SC_CTRL_HOLDOFF | QE_SC_CTRL_ENABLE
  | QE_SC_PROD_PROD | QE_SC_COMPLETE_TAG | QE_SC_COMPLETE_STATUS | QE_SC_OUTSTANDING_COUNT
  | QE_SC_TIMEOUT_MS | SCH_CREDIT_TOTAL_TOTAL | SCH_CREDIT_FREE_FREE | SCH_RESERVE_USE_COUNT_COUNT
  | SCH_SENIOR_STAMP_STAMP | SCH_SENIOR_QUEUE_VALID | SCH_SENIOR_QUEUE_QUEUE | SCH_PARK_USED_SLOTS
  | SCH_PARK_HOLD_COUNT_COUNT | SCH_QUANTUM_QUANTUM | SCH_REEXEC_COUNT_COUNT | SCH_ABORT_COUNT_COUNT
  | SCH_FLUSH_COUNT_COUNT | SCH_STAMP_NEXT_STAMP | MAR_CORE_ENABLE_EN | MAR_CORE_ONLINE_ONLINE
  | MAR_CFG_REFUSED_COUNT_COUNT | MAR_ECC_CORRECTED_COUNT_COUNT | MAR_ECC_UNCORRECTED_COUNT_COUNT | MAR_CORE_RESET_COUNT_COUNT
  | MAR_TAG_FAULT_COUNT_COUNT | MAR_SUSPEND_COUNT_COUNT | MAR_TEAM_HOLD_COUNT_COUNT | MAR_IMAGE_VERSION_VERSION
  | MAR_KREGION_FREE_BUNDLES | MAR_SCRATCH_FREE_PAGES | MAR_CORE_STATUS_STATE | MAR_CORE_STATUS_RUN_SLOT
  | MAR_CORE_STATUS_SUSPENDED | MAR_CORE_STATUS_SCRUBBING | MAR_CORE_STATUS_DRAINING | MAR_CORE_STATUS_READY
  | MAR_CORE_STATUS_LOADING | MAR_CORE_STATUS_FREE | MAR_KERNEL_FAULT_COUNT_COUNT | MAR_FAULT_INFO_VALID
  | MAR_FAULT_INFO_PRECISE | MAR_FAULT_INFO_ENGINE | MAR_FAULT_INFO_LANE | MAR_FAULT_INFO_SOCKET
  | MAR_FAULT_INFO_CAUSE | MAR_FAULT_PC_KERNEL | MAR_FAULT_PC_SLOT | MAR_FAULT_PC_BUNDLE
  | MAR_FAULT_RESUME_GO | MAR_FAULT_RESUME_START_LANE | HSH_CORE_ENABLE_EN | HSH_CORE_ONLINE_ONLINE
  | HSH_CFG_REFUSED_COUNT_COUNT | HSH_STREAM_LIMIT_BLOCKS | HSH_SESSIONS_OPEN_COUNT | HSH_CHECK_ERROR_COUNT_COUNT
  | HSH_CALL_RETRY_COUNT_COUNT | HSH_SESSION_FAIL_COUNT_COUNT | HSH_STORE_CORRECTED_COUNT_COUNT | HSH_BORROW_COUNT_COUNT
  | HSH_MASK_STALL_COUNT_COUNT | HSH_CORE_OFFLINE_COUNT_COUNT | HSH_CALL_COUNT_COUNT | CDE_UNIT_ENABLE_EN
  | CDE_UNIT_ONLINE_ONLINE | CDE_CFG_REFUSED_COUNT_COUNT | CDE_ECC_CORRECTED_COUNT_COUNT | CDE_ECC_UNCORRECTED_COUNT_COUNT
  | CDE_CHECK_ERROR_COUNT_COUNT | CDE_UNIT_RESET_COUNT_COUNT | CDE_KEYGEN_COUNT_COUNT | CDE_KEYGEN_ATTEMPT_COUNT_COUNT
  | CDE_KEYGEN_REPLACED_SEED_COUNT_COUNT | CDE_PCT_FAIL_COUNT_COUNT | CDE_UNIT_STATUS_STATE | CDE_UNIT_STATUS_SET
  | CDE_UNIT_STATUS_PARAMSET | CDE_UNIT_STATUS_BUSY | BGN_MUL_ENABLE_EN | BGN_MUL_ONLINE_ONLINE
  | BGN_CFG_REFUSED_COUNT_COUNT | BGN_ECC_CORRECTED_COUNT_COUNT | BGN_ECC_UNCORRECTED_COUNT_COUNT | BGN_CHECK_ERROR_COUNT_COUNT
  | BGN_COMPARE_MISMATCH_COUNT_COUNT | BGN_INPUT_REJECT_COUNT_COUNT | BGN_SECRET_REJECT_COUNT_COUNT | BGN_ERASE_COUNT_COUNT
  | BGN_ERASE_LAST_FC | BGN_BLIND_REKEY_COUNT_COUNT | BGN_MUL_STATUS_STATE | BGN_MUL_STATUS_SLOTS
  | STR_PIPE_ENABLE_EN | STR_PIPE_ONLINE_ONLINE | STR_CFG_REFUSED_COUNT_COUNT | STR_SLICE_BYTES_BYTES
  | STR_CHECK_ERROR_COUNT_COUNT | STR_TAG_MISMATCH_COUNT_COUNT | STR_YIELD_COUNT_COUNT | STR_ERASE_COUNT_COUNT
  | STR_ERASE_LAST_FC | STR_PIPE_BYTES_COUNT | ENT_STATUS_READY | ENT_STATUS_STATE
  | ENT_STATUS_CELL_OK | ENT_WAIT_LIMIT_MS | ENT_CELL_ENABLE_EN | ENT_CFG_REFUSED_COUNT_COUNT
  | ENT_RESTART_FAIL_COUNT_COUNT | ENT_STALL_COUNT_COUNT | ENT_TIMEOUT_COUNT_COUNT | ENT_COND_COUNT_COUNT
  | ENT_SW_DATA_DATA | ENT_SW_STATUS_CODE | ENT_CELL_FAIL_LAST_TEST | ENT_CELL_FAIL_COUNT
  | ENT_DRBG_STATUS_STALLED | ENT_DRBG_STATUS_CALLS | KV_STATUS_OPEN | KV_STATUS_BBK_VALID
  | KV_STATUS_KEYS | KV_HOT_USED_LINES | KV_WINDOW_BLOCKS_BLOCKS | KV_QUARANTINED_KEYS_COUNT
  | KV_HOT_MISS_COUNT_COUNT | KV_HOT_EVICT_COUNT_COUNT | KV_HOT_CORRECTED_COUNT_COUNT | KV_TABLE_FULL_COUNT_COUNT
  | KV_RESERVE_COUNT_COUNT | KV_CEIL_WAIT_COUNT_COUNT | KV_TB_ERASED_COUNT_COUNT | KV_ABANDONED_INDICES_COUNT
  | KV_EVENT_TABLE_FULL | KV_EVENT_TB_ERASED | KV_EVENT_QUARANTINE | KV_EVENT_CEIL_NEAR
  | KV_EVENT_EN_EN | QRE_STATUS_READY | QRE_STATUS_OPEN | QRE_STREAM_RELEASE_GO
  | QRE_STREAM_RELEASE_STREAM | QRE_CFG_REFUSED_COUNT_COUNT | QRE_HOLD_COUNT_COUNT | QRE_APPEND_COUNT_COUNT
  | QRE_VOID_COUNT_COUNT | QRE_SHORT_COUNT_COUNT | QRE_JOURNAL_QUEUED_COUNT | QRE_JOURNAL_DROP_COUNT_COUNT
  | QRE_STREAM_STATE_STATE | QRE_STREAM_STATE_SHORT | QRE_STREAM_STATE_HASH | QRE_STREAM_STATE_OWNER
  | QRE_STREAM_SIZE_SIZE | SEAL_STATUS_STATE | SEAL_STATUS_OPEN_RESULT | SEAL_STATUS_BRACED
  | SEAL_STATUS_EPOCH | SEAL_CTRL_CONFIRM | SEAL_CTRL_FORMAT | SEAL_CTRL_FORCE_OPEN
  | SEAL_CTRL_OPEN | SEAL_STORAGE_LIMIT_MS | SEAL_RETRY_TIME_MS | SEAL_GROUP_TIME_US
  | SEAL_COMMIT_COMMIT | SEAL_ANCHOR_COMMIT_COMMIT | SEAL_ANCHOR_STATUS_VALID | SEAL_ANCHOR_STATUS_EPOCH
  | SEAL_CFG_REFUSED_COUNT_COUNT | SEAL_FETCH_COUNT_COUNT | SEAL_REPOST_COUNT_COUNT | SEAL_INTEGRITY_FAIL_COUNT_COUNT
  | SEAL_TIMEOUT_COUNT_COUNT | SEAL_SC_BUF_BASE | SEAL_RANGE_KV_SPAN | SEAL_RANGE_KV_BASE
  | SEAL_RANGE_QRE_SPAN | SEAL_RANGE_QRE_BASE | SEAL_RANGE_SLICE_SPAN | SEAL_RANGE_SLICE_BASE
  | TIM_STATUS_GRADE | TIM_STATUS_HAS_TIME | TIM_STATUS_POLICY_LIMITED | TIM_STATUS_SLEWING
  | TIM_STATUS_REF10M_OK | TIM_STATUS_LOCK_RUN | TIM_CTRL_PPS_OUT_EN | TIM_CTRL_REF10M_EN
  | TIM_CTRL_STEP_EN | TIM_CTRL_SOURCE | TIM_FREQ_BOUND_PPB | TIM_SLEW_RATE_PPM
  | TIM_STEP_THRESHOLD_NS | TIM_LOCK_THRESHOLD_NS | TIM_HOLDOVER_LIMIT_S | TIM_PPS_DELAY_NS
  | TIM_TOD_NEXT_VALID | TIM_TOD_NEXT_SECONDS | TIM_SET_SEC_GO | TIM_SET_SEC_SECONDS
  | TIM_SET_NS_NS | TIM_PTM_OFFSET_NS | TIM_PTM_INTERVAL_MS | TIM_PPS_OUT_WIDTH_MS
  | TIM_PPS_OUT_PHASE_NS | TIM_SOURCE_ERROR_NS | TIM_NOW_NS_NS | TIM_NOW_SUBNS_SUBNS
  | TIM_NOW_SEC_SECONDS | TIM_FREQ_CORR_F | TIM_LAST_OFFSET_NS | TIM_SLEW_REMAIN_NS
  | TIM_AO_TRIM_PPB | TIM_STEP_COUNT_COUNT | TIM_POLICY_LIMIT_COUNT_COUNT | TIM_SOURCE_LOSS_COUNT_COUNT
  | TIM_COPY_CORRECTED_COUNT_COUNT | GLB_STATUS_READY | GLB_STATUS_BOOT_STATE | GLB_STATUS_BOOT_SLOT
  | GLB_STATUS_SELFTEST_DEGRADED | GLB_STATUS_PROG_BUSY | GLB_STATUS_PROG_FAIL | GLB_STATUS_BOOT_ERROR
  | GLB_BOOT_CTRL_CONFIRM | GLB_BOOT_CTRL_SLOT | GLB_BOOT_CTRL_RAISE_MIN | GLB_BOOT_CTRL_PROGRAM
  | GLB_BOOT_CTRL_RETRY | GLB_BOOT_HOST_ADDR_ADDR | GLB_BOOT_HOST_LEN_BYTES | GLB_BOOT_TIME_US
  | GLB_POR_COUNT_COUNT | SEQ_BINDER_ENABLE_EN | SEQ_BINDER_ONLINE_ONLINE | SEQ_CFG_REFUSED_COUNT_COUNT
  | SEQ_RESTART_COUNT_COUNT | SEQ_PATCH_CORRECTED_COUNT_COUNT | SEQ_MICROCODE_FAULT_COUNT_COUNT | SEQ_PATCH_INFO_WORDS
  | SEQ_PATCH_INFO_MATCH | SEQ_MATCH_EN | SEQ_MATCH_TARGET | SEQ_MATCH_ADDR
  | SEQ_BINDER_STATUS_STATE | SEQ_BINDER_STATUS_THREADS | SEQ_FAULT_INFO_VALID | SEQ_FAULT_INFO_PRECISE
  | SEQ_FAULT_INFO_THREAD | SEQ_FAULT_INFO_MADDR | SEQ_FAULT_INFO_CAUSE | DMA_BAD_DESC_COUNT_COUNT
  | DMA_CANCEL_COUNT_COUNT | DMA_SRAM_CORRECTED_COUNT_COUNT | DMA_BYTES_COUNT | DMA_CHAN_STATUS_STATE
  | DMA_CHAN_STATUS_HEAD | DMA_CHAN_STATUS_PENDING | LMC_STATUS_STATE | LMC_STATUS_RATE
  | LMC_CONFIG_RANKS2 | LMC_CONFIG_GIB | LMC_LINK_CORRECTED_COUNT_COUNT | LMC_MAC_FAIL_COUNT_COUNT
  | LMC_AREA_FULL_COUNT_COUNT | LMC_PROTECTED_BYTES_COUNT | TMP_STATUS_LOCKDOWN | TMP_STATUS_HALTED
  | TMP_STATUS_BBK_LOST | TMP_STATUS_BBK_CAUSE | TMP_STATUS_COUNT_SATURATED | TMP_STATUS_EVIDENCE_PENDING
  | TMP_CTRL_CONFIRM | TMP_CTRL_RESP_LOCK | TMP_CTRL_UNLOCK | TMP_CTRL_RESUME
  | TMP_OTP_COUNT_COUNT | TMP_PENDING_COUNT | TMP_PENDING_LOCKDOWN | TMP_AO_FILL_ENTRIES
  | TMP_EVENT_COUNT_COUNT | TMP_DISAGREE_COUNT_COUNT | TMP_FABRIC_CODE_COUNT_COUNT | TMP_EXT_CFG_MODE
  | TMP_CFG_REFUSED_COUNT_COUNT | TMP_SRC_RESP_MIN | TMP_SRC_RESP_RESP | TMP_SRC_STATUS_RAISED
  | TMP_SRC_STATUS_DETECTORS | TMP_SRC_STATUS_ACTIVE | TMP_SRC_STATUS_COUNT | TMP_AO_BUF_ENTRY
  | LCO_STATE_TRANSITION | LCO_STATE_INTENT_PENDING | LCO_STATE_WINDOW_OPEN | LCO_STATE_COPY_OK
  | LCO_STATE_DIAG_LEFT | LCO_STATE_STATE | LCO_TRANSITION_CONFIRM | LCO_TRANSITION_TARGET
  | LCO_DIAG_TOKEN_TOKEN | LCO_DIAG_ENTER_CONFIRM | LCO_DIAG_ENTER_SLOT | LCO_OTP_STATUS_BUSY
  | LCO_OTP_STATUS_BRACED | LCO_OTP_STATUS_QUEUED | LCO_FIELD_STATUS_WORD | LCO_FIELD_STATUS_ABANDONED
  | LCO_PROV_DATA_DATA | LCO_PROV_CTRL_CONFIRM | LCO_PROV_CTRL_CLOSE | LCO_PROV_CTRL_GO
  | LCO_PROV_CTRL_FIELD | LCO_OTP_WRITE_COUNT_COUNT | LCO_OTP_RETRY_COUNT_COUNT | LCO_ROLLFORWARD_COUNT_COUNT
  | LCO_CFG_REFUSED_COUNT_COUNT | PWR_STATUS_STATE | PWR_STATUS_BRACE | PWR_STATUS_POLICY_LIMITED
  | PWR_STATUS_THERMAL_LIMITED | PWR_STATUS_VBAT_LOW | PWR_STATUS_DISPATCH_HELD | PWR_STATUS_K
  | PWR_STATUS_BRACE_RAILS | PWR_CTRL_DOZE_EN | PWR_CTRL_IDLE_EN | PWR_POWER_LIMIT_W
  | PWR_POWER_NOW_CW | PWR_IDLE_DELAY_US | PWR_DOZE_DELAY_US | PWR_TEMP_T
  | PWR_VBAT_MV_MV | PWR_WAKE_EN_EN | PWR_WAKE_CAUSE_CAUSE | PWR_WAKE_TIME_SECONDS
  | PWR_SUPPLY_EVENT_COUNT_COUNT | PWR_POLICY_LIMIT_COUNT_COUNT | PWR_THERMAL_COUNT_COUNT | PWR_DOZE_COUNT_COUNT
  | PWR_SWITCH_COUNT_COUNT | BLK_ERR_STATUS_CAUSE | BLK_ERR_FIRST_CAUSE | BLK_ERR_FIRST_UNIT
  | BLK_ERR_FIRST_SYNDROME | BLK_ERR_MERGED_COUNT | BLK_ERR_COUNT_COUNT | BLK_ERR_IRQ_EN_EN
  | BLK_RECOVERY_COUNT_COUNT | BLK_RECOVERY_LIMIT_LIMIT | BLK_QUIET_TIME_MS | BLK_ERR_CLEAR_REFUSED_COUNT
  | SMB_ALERT_EN_EN | SMB_ALERT_STATUS_ALERT | SMB_TEMP_HIGH_T | SMB_STATUS_ADDR
  | SMB_MIRROR_VALUE | SLC_SLICE_WEIGHTS_MAR | SLC_SLICE_WEIGHTS_CDE | SLC_SLICE_WEIGHTS_BGN
  | SLC_SLICE_WEIGHTS_STR | SLC_MBX_PENDING_BITS | GLB_CFG_REFUSED_COUNT_COUNT | BLK_ID_VECTOR
  | BLK_ID_REVISION | BLK_ID_PART | MSIX_ADDR_ADDR | MSIX_DATA_DATA
  | MSIX_CTRL_MASK | MSIX_PBA_BITS | SMB_PROTOCOL_COUNT_COUNT
deriving DecidableEq, Repr, Inhabited

/-- The access codes of R7. -/
inductive Acc where
  | RO | RW | WO | W1C | W1S | RWL | SAT
deriving DecidableEq, Repr

/-- The reset classes of R9; none is that of the write-only fields. -/
inductive RCls where
  | A | P | L | F | S | O | none
deriving DecidableEq, Repr

/-- A row of a register table: bits, access, class and reset value. -/
structure FldDesc where
  hi : Nat
  lo : Nat
  acc : Acc
  cls : RCls
  reset : Nat
deriving DecidableEq, Repr

/-- Where a register lies: its BAR, the address of its first instance, the distance and number of its instances, and
whether it is marked (64). -/
structure RegDesc where
  bar : Nat
  base : Nat
  stride : Nat
  count : Nat
  wide : Bool
deriving DecidableEq, Repr

end Sys2Proof.Machine
end

