-- ==== Sys2Proof/Operand.lean ====
section
/-! DEFINITION. The types of the commands' operands. -/
namespace Sys2Proof

/-- The six EXEC pools, in the order of R210. -/
inductive Pool where
  | SVC | MAR | HSH | CDE | BGN | STR
deriving DecidableEq, Repr

/-- What asked for a host read that failed (R45). -/
inductive ReadOwner where
  /-- The job at an entry of a queue, with the DETAIL of R132. -/
  | job (q idx detail : Nat)
  /-- The descriptor at the head of a DMA channel. -/
  | dma (ch : Nat)
  /-- The buffer of a completed storage request (R383). -/
  | store (ch tag : Nat)
deriving DecidableEq, Repr

/-- The slice-table words written by SLICE_GRANT_WRITE (R67 to R69). -/
inductive Grant where
  | vectors | evrings | weights | keys | streams | sealQuota
deriving DecidableEq, Repr

/-- A fragment-table chain as read from host memory (R93): its tables in order, each the bytes
that the host answers, 16 to a descriptor, and, where a table's read fails, the cause of R132. -/
structure TableRead where
  tables : List (List Byte) := []
  fail : Nat := 1
deriving DecidableEq, Repr

/-- A key's sealed record as the host presents it when the store opens (R354): what it holds, or that it fails its check. -/
structure KeyImage where
  idx : Nat
  good : Bool := true
  gen : Nat := 0
  owner : Nat := 0
  family : Nat := 0
  paramset : Nat := 0
  cls : Nat := 1
  order : Nat := 0
  usage : Nat := 0
  pubOnly : Bool := false
  stateful : Bool := false
  keyLen : Nat := 0
  created : Nat := 0
  custody : Option Nat := none
  priv : List Byte := []
  pub : List Byte := []
deriving DecidableEq, Repr

/-- A custody record as presented (R359). -/
structure CustodyImage where
  num : Nat
  good : Bool := true
  id : Nat := 0
  set : Nat := 0
  types : Nat := 0
  levels : Nat := 0
  resLog2 : Nat := 10
  total : Nat := 0
  resEnd : Nat := 0
  winEpoch : Nat := 0
  ceil : Nat := 0
  pendEpoch : Nat := 0
  pendCeil : Nat := 0
  destroyed : Bool := false
  version : Nat := 0
deriving DecidableEq, Repr

/-- The vault area as presented. -/
structure VaultImage where
  keys : List KeyImage := []
  custody : List CustodyImage := []
deriving DecidableEq, Repr

/-- A stream's state record with its folios and node blocks, as presented (R398). -/
structure StreamImage where
  num : Nat
  owner : Nat := 0
  hash : Nat := 4
  closed : Bool := false
  latest : Nat := 0
  folio : Nat := 0
  folioFirst : Nat := 0
  folioBytes : List Byte := []
  folioAt : List Nat := []
  spare : Option Nat := none
  records : List (Nat × Nat × Nat) := []
  hashes : List (Nat × Nat × List Byte) := []
  nodeAt : List Nat := []
  nodeCount : Nat := 0
  nodeTail : List Byte := []
  sec : Nat := 0
  ns : Nat := 0
  grade : Nat := 3
deriving DecidableEq, Repr

/-- Quire's range and the slices' occupied blocks as presented. -/
structure QuireImage where
  streams : List StreamImage := []
  occupied : List (Nat × Nat) := []
  nextFolio : Nat := 0
  freeFolios : List Nat := []
deriving DecidableEq, Repr

/-- A range register of the store (R373). -/
inductive RangeSel where
  | kv | qre
  | slice (s : Nat)
deriving DecidableEq, Repr

/-- What a microword of class ALU does (R426): arithmetic, logic, compare. -/
inductive AluOp where
  | add | sub | and | or | xor | shl | shr | eq | ltu | lts
deriving DecidableEq, Repr

/-- The second operand of an ALU microword: a thread register, or a 10-bit immediate. -/
inductive AluArg where
  | reg (n : Nat)
  | imm (v : Nat)
deriving DecidableEq, Repr

/-- The fields of the job context that a microword can name. -/
inductive CtxField where
  | status | detail | result | stamp | chainPos | size
deriving DecidableEq, Repr

/-- Where a FIELD microword extracts from and inserts into: a word of the fetched entry, a field of the queue context, the job context. -/
inductive FieldAt where
  | entry (w : Nat)
  | queue (f : Machine.Fld)
  | job (f : CtxField)
deriving DecidableEq, Repr

/-- The three forms of a BRANCH microword. -/
inductive BranchKind where
  | jump | call | ret
deriving DecidableEq, Repr

/-- The places between which a STAGE microword moves data. -/
inductive StagePlace where
  | staging | park | context
deriving DecidableEq, Repr

/-- A DMA descriptor as a requester posts it (R447): OWN, and the job it is posted for. -/
structure DescArg where
  src : W64
  dst : W64
  len : W32
  line : Nat := 127
  burst : Nat := 0
  srcSpace : Nat := 0
  dstSpace : Nat := 0
  slice : Nat := 0
  own : Bool := true
  job : Option (Nat × Nat) := none
deriving DecidableEq, Repr

/-- Whose line of local memory failed (R455): a key record, the park record of a job, other data of a job, or the descriptor at the head of a channel. -/
inductive LineOwner where
  | key (k : Nat) (recordOk : Bool)
  | park (q i : Nat)
  | other (q i : Nat)
  | dma (ch : Nat)
deriving DecidableEq, Repr

end Sys2Proof
end

