-- ==== Sys2Proof/Syntax.lean ====
section
/-! DEFINITION. The commands of the block: one constructor per row of the table of operations and events. An event that the device itself
brings about (a timer, the end of a computation, a fault of a unit) is a command of the one sender, as is a register access. -/
namespace Sys2Proof

/-- The commands. Operands: q and i name a device queue and a place in its ring, c a core or a channel, b and t a binder and a thread, v the
written register value; the others are named at the row's meaning. -/
inductive Instr where
  /-- REGISTER_WRITE (R7): A write to a register that has no row of its own sets its RW, W1C and W1S fields as its access codes define. -/
  | registerWrite (r : Machine.Reg) (i : Nat) (v : W64)
  /-- REG64_LOW_HALF_WRITE (R5): The low-half write of a two-part 64-bit register write is held for that register until its high half is written. -/
  | reg64LowHalfWrite (r : Machine.Reg) (i : Nat) (v : W32)
  /-- REG64_HIGH_HALF_WRITE (R5): The high-half write applies the whole value, together with the held low half or with the current low half. -/
  | reg64HighHalfWrite (r : Machine.Reg) (i : Nat) (v : W32) (d : List Byte) (img : VaultImage)
  /-- REG64_LOW_HALF_READ (R5): The low-half read of a two-part 64-bit register read latches the high half. -/
  | reg64LowHalfRead (r : Machine.Reg) (i : Nat)
  /-- FABRIC_CODE_MISMATCH (R11): A fabric sink finds an integrity-code mismatch, discards the transaction and raises tamper source 8. -/
  | fabricCodeMismatch
  /-- MMIO_BAD_REQUEST (R40): An MMIO request of bad size or alignment, or to an unbacked address, reads zero or is ignored and is counted. -/
  | mmioBadRequest (bar a size : Nat) (write : Bool)
  /-- MMIO_MEMORY_SPACE_DISABLED (R40): A memory request that arrives while Memory Space Enable is 0 is answered with Unsupported Request. -/
  | mmioMemorySpaceDisabled
  /-- LINK_DOWNSPEED (R35): Failed equalization or persistent receiver errors make the link request a lower rate, and the reduction is counted. -/
  | linkDownspeed
  /-- RETRAIN (R57): A write of PCI_LINK_CTRL.RETRAIN retrains the link at MAX_SPEED, and the retrain is not counted as a recovery. -/
  | retrain (v : W32)
  /-- LINK_DOWN (R53): A link-down not caused by PERST# clears the class-L fields, latches LINK_DOWN and holds the LTSSM in Detect.Quiet. -/
  | linkDown
  /-- LINK_QUIET_TIME_EXPIRY (R53): Expiry of PCI_QUIET_TIME starts training, which uses 2.5 GT/s only when the recovery limit has been reached. -/
  | linkQuietTimeExpiry
  /-- LINK_RECOVERED (R53): The link reaches L0, PCI_RECOVERY_COUNT increments and PCI_ERR_STATUS clears. -/
  | linkRecovered (speed width : Nat)
  /-- HOST_READ_FAILURE (R45): A host read times out or completes poisoned, UR or CA, which fails its job or marks its DMA descriptor bad and logs the event in AER. -/
  | hostReadFailure (w : ReadOwner) (cause : Nat)
  /-- MSIX_UNMASK (R46): Unmasking a vector or the function sends one message for a set PBA bit, after the earlier writes. -/
  | msixUnmask (v : Option Nat)
  /-- LTR_IDLE_TIMER (R48): After 1 ms with no outstanding work, an LTR message with PCI_LTR_IDLE is sent. -/
  | ltrIdleTimer
  /-- BUS_MASTER_DISABLE (R49): Entry to D3hot, or clearing Bus Master Enable, stops memory requests and MSI-X messages, and jobs hold at their commit points. -/
  | busMasterDisable (d3 : Bool)
  /-- BUS_MASTER_ENABLE (R49): A return to D0 with Bus Master Enable set resumes the held work in order. -/
  | busMasterEnable
  /-- FLR (R50): A Function Level Reset clears the class-F and class-S fields, discards uncompleted jobs and DOE objects, and completes within 100 ms. -/
  | flr
  /-- DOE_REQUEST (R51): A complete DOE data object is received, and an oversized one is discarded and sets DOE Error. -/
  | doeRequest (d : List Byte)
  /-- DOE_DISCOVERY (R51): A DOE Discovery object is answered with the supported data object types. -/
  | doeDiscovery
  /-- DOE_ABORT (R51): A DOE Abort discards any object in transfer and clears DOE Error within 1 ms. -/
  | doeAbort
  /-- SPDM_GET_VERSION (R52): The SPDM responder returns a VERSION response with versions 1.1 and 1.2. -/
  | spdmGetVersion
  /-- SPDM_GET_CERTIFICATE (R52): The SPDM responder returns the slot 0 device identity chain. -/
  | spdmGetCertificate
  /-- SPDM_CHALLENGE (R52): The SPDM responder signs CHALLENGE_AUTH with the FRS-derived ECDSA P-384 key. -/
  | spdmChallenge
  /-- SPDM_GET_MEASUREMENTS (R52): The SPDM responder returns measurements 1 to 6, signed when the request asks for a signature. -/
  | spdmGetMeasurements
  /-- PERST_ASSERT (R509): Assertion of PERST# clears the class-L, F and S fields, discards uncompleted jobs and releases THERMTRIP#. -/
  | perstAssert
  /-- PERST_RELEASE (R32): Release of PERST# lets link training start, and THERMTRIP# is driven again if its latch is set. -/
  | perstRelease
  /-- HOT_RESET (R509): A hot reset clears the class-L, F and S fields and discards uncompleted jobs. -/
  | hotReset
  /-- PME_TURN_OFF (R500): PME_Turn_Off is answered with PME_TO_Ack, and the function enters L2/L3 Ready. -/
  | pmeTurnOff
  /-- PTM_EXCHANGE_COMPLETE (R408): A completed PTM exchange updates PCI_PTM_LAST and, in PTM mode, gives a time measurement. -/
  | ptmExchangeComplete (master mid t1 : Nat)
  /-- PTM_INTERVAL_TIMER (R408): Expiry of TIM_PTM_INTERVAL starts a PTM exchange. -/
  | ptmIntervalTimer
  /-- SLICE_ENABLE (R64): A write of ENABLE = 1 is checked against the PASID rules and enables the slice or is refused. -/
  | sliceEnable (sl : Nat)
  /-- SLICE_DISABLE (R64): A write of ENABLE = 0 disables a PAUSED slice, or is refused with BUSY. -/
  | sliceDisable (sl : Nat)
  /-- SLICE_PAUSE (R75): A write of PAUSE = 1 stops new fetches of the slice, and STATE becomes PAUSING. -/
  | slicePause (sl : Nat)
  /-- SLICE_UNPAUSE (R75): Clearing PAUSE returns STATE to RUN, and fetching resumes from the recorded tails. -/
  | sliceUnpause (sl : Nat)
  /-- SLICE_RESET (R76): A write of RESET moves the slice to RESETTING, stops its fetches and ends its jobs by queue resets. -/
  | sliceReset (sl : Nat)
  /-- SLICE_RESET_COMPLETE (R76): Once its jobs have ended, the slice clears its class-S fields, zeroes its mailboxes, destroys its EPHEMERAL keys and becomes PAUSED. -/
  | sliceResetComplete (sl : Nat)
  /-- SLICE_PASID_WRITE (R66): A new PASID takes effect for later requests, and PASID_PENDING stays set until the old requests complete. -/
  | slicePasidWrite (sl : Nat) (v : W32)
  /-- PASID_PENDING_CLEAR (R66): The last non-posted request issued under the old PASID completes, and PASID_PENDING clears. -/
  | pasidPendingClear (sl : Nat)
  /-- SLICE_QUEUES_WRITE (R71): A write of the queue grant is accepted only if every queue in the old and new ranges is disabled and drained. -/
  | sliceQueuesWrite (sl : Nat) (v : W32)
  /-- SLICE_GRANT_WRITE (R70): A write of any grant other than the queue range is checked and applies to commands accepted after it. -/
  | sliceGrantWrite (g : Grant) (sl : Nat) (v : W32)
  /-- T2M_SEND (R79): Setting T2M_FULL sets the slice's SLC_MBX_PENDING bit and sends the SLC block vector. -/
  | t2mSend (sl : Nat)
  /-- T2M_ACK (R77): A manager write of T2M_ACK clears T2M_FULL. -/
  | t2mAck (sl : Nat)
  /-- M2T_SEND (R79): A manager write of M2T_SEND sets M2T_FULL and sends the tenant's M2T vector when M2T_IRQ_EN is 1. -/
  | m2tSend (sl : Nat)
  /-- M2T_ACK (R77): A tenant write of M2T_ACK clears M2T_FULL. -/
  | m2tAck (sl : Nat)
  /-- MAILBOX_WRITE (R78): A write to a mailbox message area is stored, or is ignored and counted while FULL is 1. -/
  | mailboxWrite (sl : Nat) (tenant : Bool) (off : Nat) (d : List Byte)
  /-- DPL_LOG_ENABLE (R83): LOG_EN going from 0 to 1 starts the dirty-page log at round 0. -/
  | dplLogEnable (sl : Nat) (en : Bool)
  /-- NEW_ROUND (R83): A write of NEW_ROUND posts a round marker carrying OVERFLOW and starts the next round, or is refused with BUSY when no slot is free. -/
  | newRound (sl : Nat)
  /-- DOORBELL_WRITE (R91): A doorbell write is checked against the queue context and then ignored and counted, or accepted and recorded in QC_TAIL. -/
  | doorbellWrite (sl i : Nat) (v : W64)
  /-- ENTRY_FETCH (R95): The queue engine issues a read of consecutive entries inside the reorder window, or holds fetch when no park slots are free. -/
  | entryFetch (q k : Nat)
  /-- ENTRY_RECEIVED (R90): A fetched entry arrives and goes to its binder if OWN = 1, and otherwise sets OWN_WAIT. -/
  | entryReceived (q i : Nat) (d : List Byte)
  /-- OWN_WAIT_RETRY (R90): Every 2 µs a held entry is read again, and after 8 reads fetching stays held and QC_OWN_MISS_COUNT increments. -/
  | ownWaitRetry (q : Nat) (d : List Byte)
  /-- ENTRY_DECODE (R130): The binder runs the decode checks in order, reading fragment tables, and completes a failing entry without executing it. -/
  | entryDecode (q : Nat) (inT outT : TableRead)
  /-- JOB_DISPATCH (R215): The scheduler grants credits and EXEC slots by weighted deficit round robin and the senior reserve, and sends the job to its engine. -/
  | jobDispatch (p : Pool)
  /-- JOB_PARK (R219): A job that meets a storage wait writes its state to its park slots and releases its IN, EXEC and OUT credits. -/
  | jobPark (q i : Nat)
  /-- JOB_RESUME (R219): When its storage wait ends, a parked job takes credits again from IN onwards and resumes. -/
  | jobResume (q i : Nat)
  /-- EXECUTION_END (R209): A job's engine execution ends and its EXEC slot is released. -/
  | executionEnd (q i : Nat)
  /-- JOB_COMMIT (R205): At its commit point the binder issues the outputs, W6, W7, the head record, events and the MSI-X message in write order. -/
  | jobCommit (q i : Nat)
  /-- COAL_TIMER (R104): Expiry of COAL_TIME after the first unreported event sends the ring's MSI-X message. -/
  | coalTimer (e : Nat)
  /-- EVR_CONS_WRITE (R103): A write of CONS frees event-ring slots, or is ignored and counted when it is invalid. -/
  | evrConsWrite (e : Nat) (v : W32)
  /-- EVR_OVERFLOW_CLEAR (R106): Clearing OVERFLOW posts a CATCH_UP event for each queue whose missed flag is set. -/
  | evrOverflowClear (e : Nat)
  /-- QUEUE_ENABLE (R114): A write of ENABLE = 1 is checked, writes the head record and sets STATE to RUN, or is refused and counted. -/
  | queueEnable (q : Nat) (v : W32)
  /-- QUEUE_DISABLE (R114): A write of ENABLE = 0 stops fetching and sets STATE to DRAINING. -/
  | queueDisable (q : Nat) (v : W32)
  /-- QUEUE_RESET (R224): A write of QC_CTRL.RESET aborts or flushes the queue's entries, sets HEAD to QC_TAIL and writes the final head record. -/
  | queueReset (q : Nat) (v : W32)
  /-- EVR_ENABLE (R117): A write of EVR_CTRL.ENABLE = 1 takes effect only with a valid SIZE_LOG2, and is otherwise refused and counted. -/
  | evrEnable (e : Nat) (v : W32)
  /-- SC_POST (R109): The TQ4816 posts a storage request into a free slot of its channel. -/
  | scPost
  /-- SC_HOLDOFF_TIMER (R111): At the end of a holdoff in which entries were posted, the channel's message is sent. -/
  | scHoldoffTimer (c : Nat)
  /-- SC_COMPLETE (R110): A write of QE_SC_COMPLETE with a matching TAG ends the request and SEAL handles its status, and a completion that matches no request is ignored and counted. -/
  | scComplete (c tag status : Nat) (d : List Byte) (v : VaultImage)
  /-- SC_SLOT_TIMEOUT (R112): A request with no completion after QE_SC_TIMEOUT frees its slot and latches SC_TIMEOUT, and SEAL posts it again. -/
  | scSlotTimeout (c tag : Nat)
  /-- SC_ENABLE (R118): A write of QE_SC_CTRL.ENABLE = 1 enables the channel when SIZE_LOG2 is valid, and is otherwise refused. -/
  | scEnable (c : Nat) (v : W32)
  /-- SC_DISABLE (R118): Disabling a channel sends new and waiting requests to the next enabled channel. -/
  | scDisable (c : Nat) (v : W32)
  /-- NOP (R122): Opcode 0x0000 does nothing and completes in queue order. -/
  | nop (q i : Nat)
  /-- KEM_KEYGEN (R148): Creates a KEM key pair in the vault and writes its public key. -/
  | kemKeygen (q i : Nat)
  /-- KEM_ENCAPS (R150): Encapsulates to a held or inline public key and delivers the shared secret under R144. -/
  | kemEncaps (q i : Nat) (inp : List Byte)
  /-- KEM_DECAPS (R151): Decapsulates a ciphertext with implicit rejection and delivers the shared secret. -/
  | kemDecaps (q i : Nat) (inp : List Byte)
  /-- SIG_KEYGEN (R148): Creates a signature key pair, including a stateful key with its custody record. -/
  | sigKeygen (q i : Nat)
  /-- SIG_SIGN (R157): Signs the context and message, assigning the next index for a stateful key. -/
  | sigSign (q i : Nat) (inp : List Byte)
  /-- SIG_VERIFY (R162): Verifies a signature and reports SUCCESS or SIG_INVALID. -/
  | sigVerify (q i : Nat) (inp : List Byte)
  /-- SIG_VERIFY_BATCH (R164): Verifies up to 1,024 records and writes one result word per record. -/
  | sigVerifyBatch (q i : Nat) (inp : List Byte)
  /-- KEY_AGREE (R153): Computes a raw Diffie–Hellman output from a peer public key and delivers it. -/
  | keyAgree (q i : Nat) (inp : List Byte)
  /-- HYBRID_KEM (R155): Runs the hybrid combiner on two separately held keys in either direction. -/
  | hybridKem (q i : Nat) (inp : List Byte)
  /-- HASH (R171): Computes the digest of the input. -/
  | hash (q i : Nat) (inp : List Byte)
  /-- HMAC (R172): Computes or verifies an HMAC tag. -/
  | hmac (q i : Nat) (inp : List Byte)
  /-- KMAC (R172): Computes or verifies a KMAC tag. -/
  | kmac (q i : Nat) (inp : List Byte)
  /-- KDF (R174): Derives output key material and delivers it as a vault key, wrapped or plain. -/
  | kdf (q i : Nat) (inp : List Byte)
  /-- AEAD_ENCRYPT (R175): Encrypts with GCM, GMAC or CTR and appends the tag. -/
  | aeadEncrypt (q i : Nat) (inp : List Byte)
  /-- AEAD_DECRYPT (R176): Decrypts and checks the tag, zeroing a long plaintext on a mismatch. -/
  | aeadDecrypt (q i : Nat) (inp : List Byte)
  /-- XTS_ENCRYPT (R177): Encrypts data units with XTS-AES. -/
  | xtsEncrypt (q i : Nat) (inp : List Byte)
  /-- XTS_DECRYPT (R177): Decrypts data units with XTS-AES. -/
  | xtsDecrypt (q i : Nat) (inp : List Byte)
  /-- KEY_WRAP (R177): Wraps the input with AES-KW or AES-KWP. -/
  | keyWrap (q i : Nat) (inp : List Byte)
  /-- KEY_UNWRAP (R177): Unwraps to a vault key or, with DECRYPT usage, in plain form. -/
  | keyUnwrap (q i : Nat) (inp : List Byte)
  /-- CMAC (R172): Computes or verifies an AES-CMAC tag. -/
  | cmac (q i : Nat) (inp : List Byte)
  /-- RANDOM (R178): Returns DRBG output, or creates a random vault key. -/
  | random (q i : Nat)
  /-- KEY_IMPORT (R180): Validates and stores a raw or wrapped key, and returns its handle. -/
  | keyImport (q i : Nat) (inp : List Byte)
  /-- KEY_EXPORT_WRAPPED (R182): Exports a key with EXPORT usage as a KWP blob. -/
  | keyExportWrapped (q i : Nat)
  /-- KEY_DESTROY (R183): Makes the key unusable from its acceptance and commits once the jobs holding the key are done. -/
  | keyDestroy (q i : Nat)
  /-- KEY_DESTROY_COMMIT (R183): When every earlier holder has committed, the key is zeroized, its generation increments and KEY_USED falls. -/
  | keyDestroyCommit (k : Nat)
  /-- KEY_INFO (R184): Writes the 64-byte description of a key. -/
  | keyInfo (q i : Nat)
  /-- KEY_DERIVE (R185): Derives a new vault key from a held key or a passed result. -/
  | keyDerive (q i : Nat) (inp : List Byte)
  /-- STATEFUL_RESERVE (R186): Makes the next reservation block of a stateful key durable ahead of need. -/
  | statefulReserve (q i : Nat)
  /-- LEDGER_APPEND (R187): Appends a payload record and completes when the record is durable. -/
  | ledgerAppend (q i : Nat) (inp : List Byte)
  /-- LEDGER_CHECKPOINT (R188): Signs the stream tree at size N. -/
  | ledgerCheckpoint (q i : Nat)
  /-- LEDGER_PROVE_INCLUSION (R189): Code 0x00 writes an inclusion proof of a record. -/
  | ledgerProveInclusion (q i : Nat)
  /-- LEDGER_PROVE_CONSISTENCY (R189): Code 0x01 writes a consistency proof between two sizes. -/
  | ledgerProveConsistency (q i : Nat)
  /-- LEDGER_READ (R190): Writes records from a sequence number to the end of its folio. -/
  | ledgerRead (q i : Nat)
  /-- STREAM_OPEN (R191): Opens the lowest free stream for the slice. -/
  | streamOpen (q i : Nat)
  /-- STREAM_CLOSE (R191): Closes a stream after its earlier appends have committed. -/
  | streamClose (q i : Nat)
  /-- SEAL_WRITE (R192): Writes or discards up to 16 blocks of the slice and completes when they are durable. -/
  | sealWrite (q i : Nat) (inp : List Byte)
  /-- SEAL_READ (R192): Reads and checks up to 16 blocks of the slice. -/
  | sealRead (q i : Nat)
  /-- SEAL_ANCHOR_WARM (R387): Code 0x00 closes the open group and completes when the group is durable. -/
  | sealAnchorWarm (q i : Nat)
  /-- SEAL_ANCHOR_COLD (R388): Code 0x01 runs a cold anchor, which opens new windows and advances the OTP epoch. -/
  | sealAnchorCold (q i : Nat)
  /-- COLD_ANCHOR_EPOCH_BURN (R388): Once the prepared group is durable, the next epoch bit is burned and the anchor register takes epoch e + 1. -/
  | coldAnchorEpochBurn (ok : Bool)
  /-- TIME_STAMP (R195): Signs a time-stamp token over the digest of the input. -/
  | timeStamp (q i : Nat) (inp : List Byte)
  /-- TIME_READ (R196): Writes the 24-byte time at acceptance. -/
  | timeRead (q i : Nat)
  /-- KERNEL_RUN (R197): Code 0x00 runs a loaded kernel on the Marionette array. -/
  | kernelRun (q i : Nat) (inp : List Byte)
  /-- KERNEL_INFO (R197): Code 0x01 writes one record per loaded kernel. -/
  | kernelInfo (q i : Nat)
  /-- KERNEL_LOAD (R285): Code 0x02 checks a signed kernel bundle and loads it. -/
  | kernelLoad (q i : Nat) (inp : List Byte)
  /-- KERNEL_UNLOAD (R197): Code 0x03 unloads a kernel after the earlier RUNs of its ID. -/
  | kernelUnload (q i : Nat)
  /-- PATCH_QUERY (R198): Writes the patch version and the patch resource use. -/
  | patchQuery (q i : Nat)
  /-- SELF_TEST (R199): Runs known-answer tests on the selected groups. -/
  | selfTest (q i : Nat) (fails : List (Nat × Nat))
  /-- LC_INFO (R198): Writes the life-cycle and OTP summary. -/
  | lcInfo (q i : Nat)
  /-- ATTEST (R200): Writes the signed attestation body over the nonce and the measurements. -/
  | attest (q i : Nat) (inp : List Byte)
  /-- RECORD_PLACE (R208): Quire places a record in sequence order once its predecessor is placed. -/
  | recordPlace (q i : Nat)
  /-- ENGINE_FAULT (R222): An engine fault abandons the job, which is re-executed once or completes with ENGINE_FAULT. -/
  | engineFault (q i unit cause part place : Nat)
  /-- BINDER_RESTART (R430): A microcode fault, uncorrectable state or watchdog restarts the binder and re-executes its jobs. -/
  | binderRestart (b t cause : Nat)
  /-- BINDER_PRECISE_HALT (R429): In precise mode the faulting thread halts before its microword, and the other threads halt at their next boundary. -/
  | binderPreciseHalt (b t cause : Nat)
  /-- BINDER_RESUME (R429): The supervisor resumes a halted binder at the faulting microword or at the next one. -/
  | binderResume (b : Nat) (atNext : Bool)
  /-- SEQ_BINDER_ENABLE_WRITE (R425): Changing binder enables stops or restarts binders and moves their queues, and a write leaving none online is refused. -/
  | seqBinderEnableWrite (v : W32)
  /-- MICROWORD_ALU (R426): A microword of class ALU does arithmetic on thread registers. -/
  | microwordAlu (b t q i : Nat) (o : AluOp) (dst src : Nat) (arg : AluArg)
  /-- MICROWORD_FIELD (R426): A microword of class FIELD extracts or inserts a field of an entry or context. -/
  | microwordField (b t q i : Nat) (f : FieldAt) (insert : Bool) (reg lo len : Nat)
  /-- MICROWORD_BRANCH (R426): A microword of class BRANCH branches, calls or returns. -/
  | microwordBranch (b t q i : Nat) (kind : BranchKind) (cond target : Nat)
  /-- MICROWORD_DISPATCH (R426): A microword of class DISPATCH makes a multiway branch through a table. -/
  | microwordDispatch (b t q i reg : Nat) (table : List Nat)
  /-- MICROWORD_REQUEST (R426): A microword of class REQUEST issues a non-blocking request to a unit under a tag. -/
  | microwordRequest (b t q i tag reg : Nat)
  /-- MICROWORD_WAIT (R426): A microword of class WAIT yields until the named tags answer. -/
  | microwordWait (b t q i : Nat) (tags : List Nat)
  /-- MICROWORD_CHECK (R426): A microword of class CHECK records a decode verdict. -/
  | microwordCheck (b t q i cond target : Nat) (inT outT : TableRead)
  /-- MICROWORD_ACCEPT (R428): A microword of class ACCEPT takes the stamp and the settled effects, once only. -/
  | microwordAccept (b t q i : Nat) (inT outT : TableRead)
  /-- MICROWORD_STAGE (R426): A microword of class STAGE moves data between staging, park records and the job context. -/
  | microwordStage (b t q i : Nat) (src dst : StagePlace) (pos n dest : Nat)
  /-- MICROWORD_COMMIT (R428): A microword of class COMMIT marks the job's commit point. -/
  | microwordCommit (b t q i : Nat)
  /-- MICROWORD_HOSTWRITE (R428): A microword of class HOSTWRITE issues one write of the write order, and faults before COMMIT. -/
  | microwordHostwrite (b t q i : Nat)
  /-- MICROWORD_END (R426): A microword of class END releases the thread. -/
  | microwordEnd (b t q i : Nat)
  /-- JOB_PLACE (R251): A job granted a MAR slot is placed on an eligible core and quarter. -/
  | jobPlace (q i : Nat)
  /-- QUARTER_LOADED (R250): The load port finishes writing a job's inputs, and the quarter becomes READY. -/
  | quarterLoaded (c n : Nat) (inp : List Byte)
  /-- CORE_SWITCH (R252): The core starts the oldest READY or resumable job in a 4 cc switch. -/
  | coreSwitch (c : Nat)
  /-- BUNDLE_EXECUTE (R267): A core executes one bundle of four moves under its condition and checks loop ends. -/
  | bundleExecute (c : Nat)
  /-- JOB_SUSPEND (R253): After an MSK read has stalled for 2,048 cc, the job's registers are saved and another job runs. -/
  | jobSuspend (c : Nat)
  /-- JOB_UNSUSPEND (R253): The mask generator has output again, and the suspended job is restored. -/
  | jobUnsuspend (c n : Nat)
  /-- DRAIN_COMPLETE (R254): The job's outputs have left through the drain port, its execution ends and the scrub starts. -/
  | drainComplete (q i : Nat) (inp : List Byte)
  /-- QUARTER_SCRUB_COMPLETE (R254): The scrub of a quarter ends, and the quarter becomes FREE. -/
  | quarterScrubComplete (c n : Nat)
  /-- MAR_CORE_RESET (R250): A core reset abandons the core's running jobs, scrubs the core and reloads its instruction memory. -/
  | marCoreReset (c : Nat) (ecc : Bool) (bundle : Nat)
  /-- MAR_CORE_ENABLE_WRITE (R257): Changing core enables stops or reloads cores, and a write leaving none online is refused. -/
  | marCoreEnableWrite (v : W32)
  /-- MAR_FAULT_RESUME (R278): GO resumes a core halted in precise mode from START_LANE. -/
  | marFaultResume (c : Nat) (v : W32)
  /-- ALU_ADD (R272): ALU scalar add. -/
  | aluAdd (c u src field : Nat)
  /-- ALU_SUB (R272): ALU subtract, T − A. -/
  | aluSub (c u src field : Nat)
  /-- ALU_AND (R272): ALU bitwise AND. -/
  | aluAnd (c u src field : Nat)
  /-- ALU_OR (R272): ALU bitwise OR. -/
  | aluOr (c u src field : Nat)
  /-- ALU_XOR (R272): ALU bitwise XOR. -/
  | aluXor (c u src field : Nat)
  /-- ALU_ANDN (R272): ALU T AND NOT A. -/
  | aluAndn (c u src field : Nat)
  /-- ALU_SHL (R272): ALU shift left. -/
  | aluShl (c u src field : Nat)
  /-- ALU_SHR (R272): ALU logical shift right. -/
  | aluShr (c u src field : Nat)
  /-- ALU_SAR (R272): ALU arithmetic shift right. -/
  | aluSar (c u src field : Nat)
  /-- ALU_MINU (R272): ALU unsigned minimum. -/
  | aluMinu (c u src field : Nat)
  /-- ALU_MAXU (R272): ALU unsigned maximum. -/
  | aluMaxu (c u src field : Nat)
  /-- ALU_MUL (R272): ALU multiply, low bits. -/
  | aluMul (c u src field : Nat)
  /-- ALU_PASS (R272): ALU passes T to R. -/
  | aluPass (c u src field : Nat)
  /-- ALU_CMPEQ (R272): ALU compare for equality, writing a predicate. -/
  | aluCmpeq (c u src field : Nat)
  /-- ALU_CMPNE (R272): ALU compare for inequality, writing a predicate. -/
  | aluCmpne (c u src field : Nat)
  /-- ALU_CMPLTU (R272): ALU unsigned less-than compare. -/
  | aluCmpltu (c u src field : Nat)
  /-- ALU_CMPLTS (R272): ALU signed less-than compare. -/
  | aluCmplts (c u src field : Nat)
  /-- ALU_CMPLEU (R272): ALU unsigned less-or-equal compare. -/
  | aluCmpleu (c u src field : Nat)
  /-- VALU_ADD (R272): VALU per-lane add. -/
  | valuAdd (c u src field : Nat)
  /-- VALU_SUB (R272): VALU per-lane subtract. -/
  | valuSub (c u src field : Nat)
  /-- VALU_AND (R272): VALU per-lane AND. -/
  | valuAnd (c u src field : Nat)
  /-- VALU_OR (R272): VALU per-lane OR. -/
  | valuOr (c u src field : Nat)
  /-- VALU_XOR (R272): VALU per-lane XOR. -/
  | valuXor (c u src field : Nat)
  /-- VALU_ANDN (R272): VALU per-lane AND NOT. -/
  | valuAndn (c u src field : Nat)
  /-- VALU_SHL (R272): VALU per-lane shift left. -/
  | valuShl (c u src field : Nat)
  /-- VALU_SHR (R272): VALU per-lane logical shift right. -/
  | valuShr (c u src field : Nat)
  /-- VALU_SAR (R272): VALU per-lane arithmetic shift right. -/
  | valuSar (c u src field : Nat)
  /-- VALU_MINU (R272): VALU per-lane unsigned minimum. -/
  | valuMinu (c u src field : Nat)
  /-- VALU_MAXU (R272): VALU per-lane unsigned maximum. -/
  | valuMaxu (c u src field : Nat)
  /-- VALU_MINS (R272): VALU per-lane signed minimum. -/
  | valuMins (c u src field : Nat)
  /-- VALU_MAXS (R272): VALU per-lane signed maximum. -/
  | valuMaxs (c u src field : Nat)
  /-- VALU_CMPEQ (R272): VALU per-lane equality compare, loading the lane mask. -/
  | valuCmpeq (c u src field : Nat)
  /-- VALU_CMPLTU (R272): VALU per-lane unsigned less-than compare. -/
  | valuCmpltu (c u src field : Nat)
  /-- VALU_CMPLTS (R272): VALU per-lane signed less-than compare. -/
  | valuCmplts (c u src field : Nat)
  /-- VALU_BLEND (R272): VALU selects T or A by the lane mask. -/
  | valuBlend (c u src field : Nat)
  /-- VALU_BCAST (R272): VALU broadcasts lane 0 of T to every lane. -/
  | valuBcast (c u src field : Nat)
  /-- VALU_MULLO (R272): VALU per-lane multiply, low bits. -/
  | valuMullo (c u src field : Nat)
  /-- VALU_WIDEN (R272): VALU widens N lanes into D lanes. -/
  | valuWiden (c u src field : Nat)
  /-- VALU_NARROW (R272): VALU narrows D lanes into N lanes. -/
  | valuNarrow (c u src field : Nat)
  /-- MMUL_MUL (R272): MMUL modular multiply, T·A mod q. -/
  | mmulMul (c src field : Nat)
  /-- MMUL_MAC (R273): MMUL Q-mode multiply-accumulate into group DREG. -/
  | mmulMac (c src field : Nat)
  /-- MMUL_MACZ (R273): MMUL Q-mode multiply that writes the product into group DREG. -/
  | mmulMacz (c src field : Nat)
  /-- MMUL_MLD (R234): MMUL loads a modulus register. -/
  | mmulMld (c src field : Nat)
  /-- MADD_ADD (R272): MADD modular add. -/
  | maddAdd (c src field : Nat)
  /-- MADD_SUB (R272): MADD modular subtract. -/
  | maddSub (c src field : Nat)
  /-- MADD_RED (R272): MADD reduces lanes mod q. -/
  | maddRed (c src field : Nat)
  /-- MADD_NEG (R272): MADD modular negation. -/
  | maddNeg (c src field : Nat)
  /-- MADD_CENT (R272): MADD centred representative. -/
  | maddCent (c src field : Nat)
  /-- MADD_REDQ (R272): MADD reduces Q accumulators into D lanes. -/
  | maddRedq (c src field : Nat)
  /-- MADD_MLD (R234): MADD loads a modulus register. -/
  | maddMld (c src field : Nat)
  /-- BFY_CT (R274): Butterfly unit Cooley–Tukey butterflies between two groups. -/
  | bfyCt (c u src field : Nat)
  /-- BFY_GS (R274): Butterfly unit Gentleman–Sande butterflies between two groups. -/
  | bfyGs (c u src field : Nat)
  /-- BFY_CTP (R274): Butterfly unit in-group paired Cooley–Tukey butterflies. -/
  | bfyCtp (c u src field : Nat)
  /-- BFY_GSP (R274): Butterfly unit in-group paired Gentleman–Sande butterflies. -/
  | bfyGsp (c u src field : Nat)
  /-- BFY_MLD (R234): Butterfly unit loads a modulus register. -/
  | bfyMld (c u src field : Nat)
  /-- FXP_SADD (R275): FXP saturating signed add. -/
  | fxpSadd (c src field : Nat)
  /-- FXP_SSUB (R275): FXP saturating signed subtract. -/
  | fxpSsub (c src field : Nat)
  /-- FXP_UADD (R275): FXP saturating unsigned add. -/
  | fxpUadd (c src field : Nat)
  /-- FXP_USUB (R275): FXP saturating unsigned subtract. -/
  | fxpUsub (c src field : Nat)
  /-- FXP_RSHRU (R275): FXP rounding shift right, ties up. -/
  | fxpRshru (c src field : Nat)
  /-- FXP_RSHRE (R275): FXP rounding shift right, ties to even. -/
  | fxpRshre (c src field : Nat)
  /-- FXP_SSHL (R275): FXP saturating shift left. -/
  | fxpSshl (c src field : Nat)
  /-- FXP_SMULRH (R275): FXP rounded high-half multiply. -/
  | fxpSmulrh (c src field : Nat)
  /-- FXP_SABS (R275): FXP saturating absolute value. -/
  | fxpSabs (c src field : Nat)
  /-- FXP_CLAMP (R275): FXP clamps T to ±A. -/
  | fxpClamp (c src field : Nat)
  /-- FXP_GETSAT (R275): FXP returns and clears the sticky flag. -/
  | fxpGetsat (c src field : Nat)
  /-- BITF_EXT (R272): BITF extracts a field. -/
  | bitfExt (c src field : Nat)
  /-- BITF_INS (R272): BITF inserts a field. -/
  | bitfIns (c src field : Nat)
  /-- BITF_PACK (R272): BITF packs the lanes back to back. -/
  | bitfPack (c src field : Nat)
  /-- BITF_UNPACK (R272): BITF unpacks fields into lanes. -/
  | bitfUnpack (c src field : Nat)
  /-- BITF_SEXT (R272): BITF sign-extends a field. -/
  | bitfSext (c src field : Nat)
  /-- CLZ_CLZ (R272): CLZ counts leading zeros. -/
  | clzClz (c src field : Nat)
  /-- CLZ_CTZ (R272): CLZ counts trailing zeros. -/
  | clzCtz (c src field : Nat)
  /-- CLZ_POPC (R272): CLZ counts set bits. -/
  | clzPopc (c src field : Nat)
  /-- PERM_BPERM (R272): PERM permutes bytes under control vector C. -/
  | permBperm (c src field : Nat)
  /-- PERM_BREV (R272): PERM reverses the bytes in each lane. -/
  | permBrev (c src field : Nat)
  /-- LSU_LD (R272): LSU loads a word. -/
  | lsuLd (c src field : Nat)
  /-- LSU_ST (R272): LSU stores a word. -/
  | lsuSt (c src field : Nat)
  /-- LSU_LDR (R272): LSU loads a row. -/
  | lsuLdr (c src field : Nat)
  /-- LSU_STR (R272): LSU stores a row. -/
  | lsuStr (c src field : Nat)
  /-- LSU_LDV (R272): LSU vector load into group DREG. -/
  | lsuLdv (c src field : Nat)
  /-- LSU_STV (R272): LSU vector store. -/
  | lsuStv (c src field : Nat)
  /-- LSU_STVM (R272): LSU masked vector store. -/
  | lsuStvm (c src field : Nat)
  /-- GSU_GATHER (R277): GSU gathers elements by index, in lane order. -/
  | gsuGather (c src field : Nat)
  /-- GSU_SCATTER (R277): GSU scatters elements by index, in lane order. -/
  | gsuScatter (c src field : Nat)
  /-- XS_LD (R279): XS loads a scratch row. -/
  | xsLd (c src field : Nat)
  /-- XS_ST (R279): XS stores the selected bytes of a scratch row. -/
  | xsSt (c src field : Nat)
  /-- XS_LDV (R272): XS loads 7 scratch rows. -/
  | xsLdv (c src field : Nat)
  /-- XS_STV (R272): XS stores 7 scratch rows. -/
  | xsStv (c src field : Nat)
  /-- XS_LR (R279): XS load-reserved, which takes a reservation. -/
  | xsLr (c src field : Nat)
  /-- XS_SC (R279): XS store-conditional, which succeeds only while the reservation holds. -/
  | xsSc (c src field : Nat)
  /-- HP_OPEN (R280): HP opens a hash session. -/
  | hpOpen (c src field : Nat)
  /-- HP_ABSORB (R280): HP absorbs bytes into a session. -/
  | hpAbsorb (c src field : Nat)
  /-- HP_FINAL (R280): HP pads the input and starts squeezing. -/
  | hpFinal (c src field : Nat)
  /-- HP_SQUEEZE (R280): HP squeezes the next bytes. -/
  | hpSqueeze (c src field : Nat)
  /-- HP_SQUEEZE1 (R280): HP returns share 1 of the last squeezed block. -/
  | hpSqueeze1 (c src field : Nat)
  /-- HP_CLOSE (R280): HP closes a session. -/
  | hpClose (c src field : Nat)
  /-- SMP_UNIF12 (R245): SMP samples 12-bit uniform coefficients. -/
  | smpUnif12 (c src field : Nat)
  /-- SMP_UNIF23 (R245): SMP samples 23-bit uniform coefficients. -/
  | smpUnif23 (c src field : Nat)
  /-- SMP_UNIF16 (R245): SMP samples FN-DSA hash-to-point coefficients. -/
  | smpUnif16 (c src field : Nat)
  /-- SMP_CBD2 (R245): SMP samples centred binomial coefficients with eta 2. -/
  | smpCbd2 (c src field : Nat)
  /-- SMP_CBD3 (R245): SMP samples centred binomial coefficients with eta 3. -/
  | smpCbd3 (c src field : Nat)
  /-- SMP_BOUND2 (R245): SMP bounded rejection sampling with eta 2. -/
  | smpBound2 (c src field : Nat)
  /-- SMP_BOUND4 (R245): SMP bounded rejection sampling with eta 4. -/
  | smpBound4 (c src field : Nat)
  /-- SMP_RAW (R245): SMP returns raw stream bytes. -/
  | smpRaw (c src field : Nat)
  /-- MSK_RAND (R246): MSK returns a uniform random vector. -/
  | mskRand (c src field : Nat)
  /-- MSK_RANDQ (R246): MSK returns uniform lanes mod q. -/
  | mskRandq (c src field : Nat)
  /-- MSK_SHARE2 (R246): MSK splits a value into two shares. -/
  | mskShare2 (c src field : Nat)
  /-- MSK_SHARE3 (R246): MSK splits a value into three shares. -/
  | mskShare3 (c src field : Nat)
  /-- MSK_REFRESH2 (R246): MSK re-randomises two shares. -/
  | mskRefresh2 (c src field : Nat)
  /-- MSK_REFRESH3 (R246): MSK re-randomises three shares. -/
  | mskRefresh3 (c src field : Nat)
  /-- MSK_RELEASE2 (R246): MSK recombines two shares and clears the tag. -/
  | mskRelease2 (c src field : Nat)
  /-- MSK_RELEASE3 (R246): MSK recombines three shares and clears the tag. -/
  | mskRelease3 (c src field : Nat)
  /-- TWR_WRITE (R272): TWR writes a twiddle-RAM entry. -/
  | twrWrite (c src field : Nat)
  /-- CTL_JUMP (R268): CTL jumps to a bundle address. -/
  | ctlJump (c src field : Nat)
  /-- CTL_CALL (R268): CTL jumps and saves the return address in S31. -/
  | ctlCall (c src field : Nat)
  /-- CTL_BREAK (R268): CTL disarms a loop level. -/
  | ctlBreak (c src field : Nat)
  /-- CTL_END (R271): CTL ends the job with an output length once every operation in flight is done. -/
  | ctlEnd (c src field : Nat)
  /-- CTL_SYNC (R268): CTL waits until every team member reaches a SYNC. -/
  | ctlSync (c src field : Nat)
  /-- HASH_CALL_START (R291): A ready session call is taken round-robin onto a core of its kind. -/
  | hashCallStart (n q i : Nat) (sha2 masked fin : Bool) (blocks : Nat)
  /-- HASH_CALL_END (R298): A call finishes and writes its state back, or fails a check and is repeated once. -/
  | hashCallEnd (c : Nat) (good storeOk : Bool)
  /-- HASH_CHAIN_CALL (R293): A CHAIN call runs up to 16 Winternitz steps inside one SHA-2 core. -/
  | hashChainCall (n q i : Nat) (masked : Bool) (start pos steps : Nat) (value adrs : List Byte)
  /-- MASKED_CALL_WAIT_TIMEOUT (R295): A masked call that has waited ENT_WAIT_LIMIT for generator output fails its session with the entropy reason. -/
  | maskedCallWaitTimeout (n : Nat)
  /-- HSH_CORE_ENABLE_WRITE (R299): Changing hash-core enables stops or restores cores, and a write leaving a kind with no core is refused. -/
  | hshCoreEnableWrite (v : W32)
  /-- CDE_KEYGEN_ATTEMPT_END (R304): A systemizer attempt ends, and the next attempt starts or the systematic form completes. -/
  | cdeKeygenAttemptEnd (q i : Nat) (ok : Bool) (replaced : Nat)
  /-- CDE_PAIRWISE_TEST (R306): An encapsulation and decapsulation with the new key decide whether the key is created. -/
  | cdePairwiseTest (q i : Nat) (ok : Bool)
  /-- CDE_UNIT_RESET (R308): A unit that faults four times within one second is reset, and goes offline at the fourth reset within one minute. -/
  | cdeUnitReset (u : Nat)
  /-- CDE_UNIT_ENABLE_WRITE (R308): Changing CDE unit enables is accepted, or refused when it would leave no decoder unit. -/
  | cdeUnitEnableWrite (v : W32)
  /-- BGN_VALIDATION_END (R315): The fixed-time validation pass ends, and the arithmetic starts or the verdict is returned. -/
  | bgnValidationEnd (q i : Nat) (inp : List Byte)
  /-- BGN_COMPUTATION_END (R318): Both computations end and are compared, and a mismatch suppresses the result. -/
  | bgnComputationEnd (q i : Nat) (inp : List Byte) (equal : Bool)
  /-- BGN_MUL_ENABLE_WRITE (R329): Changing multiplier enables, refused when it would leave fewer than two. -/
  | bgnMulEnableWrite (v : W32)
  /-- STR_YIELD (R322): A streaming job passes STR_SLICE_BYTES while another waits, and yields the pipe. -/
  | strYield (q i : Nat)
  /-- STR_PIPE_ENABLE_WRITE (R329): Changing pipe enables, refused when it would leave no pipe. -/
  | strPipeEnableWrite (v : W32)
  /-- CELL_HEALTH_FAIL (R334): A noise cell fails a health test and is isolated, and ENT becomes DEGRADED if fewer than four cells pass. -/
  | cellHealthFail (c test : Nat)
  /-- CELL_RETEST_COMPLETE (R334): A re-enabled cell finishes its 1,024-sample test and joins the conditioner or is isolated. -/
  | cellRetestComplete (c test : Nat)
  /-- ENT_CELL_ENABLE_WRITE (R334): Changing cell enables, ignored when it would leave fewer than four cells. -/
  | entCellEnableWrite (v : W32)
  /-- CONDITIONER_OUTPUT (R335): The conditioner forms one 384-bit output from 1,024 raw bits. -/
  | conditionerOutput
  /-- DRBG_RESEED (R337): An instance reseeds from a conditioner output after 2^20 calls or 10 s. -/
  | drbgReseed (d : Nat)
  /-- DRBG_STALL (R337): An instance reaches 2^24 calls since its last reseed and stalls. -/
  | drbgStall (d : Nat)
  /-- STRING_SEED_DELIVERY (R338): A seed crosses a string to a mask generator or a blinding key. -/
  | stringSeedDelivery (k : Nat)
  /-- MASK_GEN_RESEED_REQUEST (R339): A generator reaches three quarters of its limit and requests a new seed. -/
  | maskGenReseedRequest (k : Nat)
  /-- MASK_GEN_DEADLINE (R339): A generator reaches its reseed deadline without a new seed and stalls. -/
  | maskGenDeadline (k : Nat)
  /-- ENT_STARTUP_TESTED (R340): The start-up samples are tested, the instances are instantiated, the strings are seeded and READY sets. -/
  | entStartupTested (fails : List (Nat × Nat))
  /-- ENTROPY_WAIT_TIMEOUT (R343): ENT_WAIT_LIMIT expires, and the job ends with ENTROPY_UNAVAILABLE and the decided DETAIL. -/
  | entropyWaitTimeout (q i : Nat)
  /-- ENT_QUIET_TIME_EXPIRY (R344): ENT_QUIET_TIME after DEGRADED starts a restart, or latches LATCHED at the limit. -/
  | entQuietTimeExpiry
  /-- ENT_RESTART_COMPLETE (R344): A restart's tests end, and the instances reseed or a new quiet period begins. -/
  | entRestartComplete (fails : List (Nat × Nat))
  /-- ENT_ERR_CLEAR_RESTART (R344): A write of 1 to NO_ENTROPY or LATCHED clears the cause and starts a restart. -/
  | entErrClearRestart (v : W32)
  /-- ENT_SW_DATA_READ (R345): A read of ENT_SW_DATA draws 64 bits from D7 and sets ENT_SW_STATUS.CODE. -/
  | entSwDataRead (whole : Bool)
  /-- HOT_KEY_LOAD (R357): A hot-store miss loads the key from its local-memory record, evicting a key if lines run short. -/
  | hotKeyLoad (k : Nat)
  /-- HOT_STORE_ECC_ERROR (R358): An uncorrectable hot-store word discards the resident copy and reloads the key. -/
  | hotStoreEccError (k : Nat) (localOk recordOk : Bool)
  /-- COMMIT_GROUP_CLOSE (R379): The open group closes after SEAL_GROUP_TIME or on request, and its PERSIST requests are posted. -/
  | commitGroupClose
  /-- SEAL_RETRY_TIMER (R383): After SEAL_RETRY_TIME a failed request is posted again. -/
  | sealRetryTimer
  /-- STORAGE_TIME_LIMIT (R384): A storage wait exceeds SEAL_STORAGE_LIMIT, and the job ends with STORAGE_TIMEOUT. -/
  | storageTimeLimit (q i : Nat)
  /-- STORE_OPEN (R389): A write of SEAL_CTRL.OPEN fetches the root record. -/
  | storeOpen (v : W32)
  /-- FORCE_OPEN (R390): FORCE_OPEN with CONFIRM opens a mismatched state, journals a rollback and runs a cold anchor. -/
  | forceOpen (v : W32) (img : VaultImage)
  /-- FORMAT (R391): FORMAT with CONFIRM draws a STORE_ID, burns an epoch bit and creates an empty store. -/
  | format (v : W32)
  /-- SEAL_CTRL_REFUSED (R389): A SEAL_CTRL write with several operations, a wrong state or no CONFIRM is counted. -/
  | sealCtrlRefused (v : W32)
  /-- SEAL_RANGE_WRITE (R373): A write of a range register is checked and applies to later commands, or is refused. -/
  | sealRangeWrite (r : RangeSel) (v : W64)
  /-- QRE_STREAM_STATE_LOADED (R389): Quire finishes loading the stream state, QRE READY sets, and the journal queue and the time floor apply. -/
  | qreStreamStateLoaded (img : QuireImage)
  /-- STREAM_RELEASE (R392): QRE_STREAM_RELEASE frees a CLOSED stream, or is ignored and counted. -/
  | streamRelease (v : W32)
  /-- JOURNAL_EVENT (R401): A device event is appended to stream 0, or queued or dropped while the store is not open. -/
  | journalEvent (ev : Nat) (d : List Byte)
  /-- PPS_EDGE (R408): A rising PPS_IN edge gives a phase measurement handled by the servo, slew or step. -/
  | ppsEdge
  /-- REF10M_MEASUREMENT (R409): The XTAL25M to 10 MHz ratio measured over each second sets f. -/
  | ref10mMeasurement (f : Int)
  /-- SLEW_COMPLETE (R410): The remaining slew correction reaches zero. -/
  | slewComplete
  /-- TIM_SLEW_RATE_WRITE (R410): A new slew rate applies at once to the remaining correction. -/
  | timSlewRateWrite (v : W32)
  /-- TIME_SET (R413): TIM_SET_SEC with GO steps, slews or loads the counter, or is ignored for invalid nanoseconds. -/
  | timeSet (sec : Nat)
  /-- TIME_SOURCE_LOSS (R415): No PPS edge for 1.5 s or four PTM intervals without an exchange moves the grade to HOLDOVER. -/
  | timeSourceLoss
  /-- HOLDOVER_LIMIT_EXPIRY (R415): TIM_HOLDOVER_LIMIT passes without REF10M_OK, and the grade becomes FREE. -/
  | holdoverLimitExpiry
  /-- TIM_NOW_READ (R421): A read of TIM_NOW_NS latches TIM_NOW_SEC and TIM_NOW_SUBNS. -/
  | timNowRead
  /-- PPS_OUT_PULSE (R420): NANOSECONDS passing the phase raises PPS_OUT for the configured width. -/
  | ppsOutPulse
  /-- DESCRIPTOR_POST (R446): A requester posts a descriptor with OWN set into its channel ring. -/
  | descriptorPost (c : Nat) (a : DescArg)
  /-- DMA_BURST (R446): A request on a line, or a free-running channel, moves one burst of the head descriptor. -/
  | dmaBurst (c : Nat) (data : List Byte)
  /-- DMA_DESCRIPTOR_END (R448): A descriptor ends with its code and DONE written, and then OWN cleared. -/
  | dmaDescriptorEnd (c : Nat)
  /-- DMA_CANCEL (R450): An abandoned job's descriptors end CANCELLED. -/
  | dmaCancel (q i : Nat)
  /-- LMC_MAC_FAILURE (R455): A line fails its MAC or link ECC, is read again after a retrain and then ends with CODE 0x03. -/
  | lmcMacFailure (w : LineOwner) (ch addr : Nat) (again : Bool)
  /-- LMC_RETRAIN (R456): A link-ECC error or drift latches the cause, ends accesses in flight and retrains in self-refresh. -/
  | lmcRetrain (cause ch addr : Nat) (jobs : List (Nat × Nat))
  /-- LMC_RETRAIN_COMPLETE (R456): The retrain ends, accesses resume, and the recovery is counted or limited. -/
  | lmcRetrainComplete
  /-- LMC_QUIET_TIME_EXPIRY (R456): LMC_QUIET_TIME passes with no cause, and LMC_ERR_STATUS clears. -/
  | lmcQuietTimeExpiry
  /-- LMC_TRAINING_COMPLETE (R451): Boot training of both channels ends, or fails for missing or unmatched memory. -/
  | lmcTrainingComplete (gib : Nat) (ranks2 matched : Bool)
  /-- TAMPER_ALARM (R461): A monitored source reaches its alarm condition. -/
  | tamperAlarm (n det : Nat)
  /-- DETECTOR_DISAGREE (R463): The window ends with only one detector of a quantity in alarm, which raises source 15. -/
  | detectorDisagree (n : Nat)
  /-- TAMPER_EVENT_RESPONSE (R468): The alarms within 1 at form one event, whose union of responses is executed in order. -/
  | tamperEventResponse
  /-- TMP_UNLOCK (R475): UNLOCK with CONFIRM clears LOCKDOWN when no evidence or lockdown source remains. -/
  | tmpUnlock (v : W32)
  /-- TMP_RESUME (R469): RESUME ends HALT and re-executes the abandoned jobs. -/
  | tmpResume (v : W32)
  /-- TMP_RESP_LOCK (R475): RESP_LOCK makes the response and external-input configuration read-only. -/
  | tmpRespLock (v : W32)
  /-- OTP_INTEGRITY_CHECK (R461): Every 1 s the OTP words are checked, and a failure raises source 13. -/
  | otpIntegrityCheck (bad : Option Nat)
  /-- LCO_TRANSITION (R483): An accepted transition burns the intent and the copies, journals the change and resets the main logic. -/
  | lcoTransition (v : W32)
  /-- OTP_WORD_DONE (R487): The programming of an OTP word ends with its read-back, a second burn or a failure. -/
  | otpWordDone (ok : Bool)
  /-- DIAG_ENTER (R484): A matching unused token burns its USED bit and resets into DIAG. -/
  | diagEnter (v : W32)
  /-- PROV_FIELD_WRITE (R485): GO writes an owner field once while the window is open. -/
  | provFieldWrite (v : W32)
  /-- PROV_CLOSE (R485): CLOSE with CONFIRM burns WINDOW_CLOSED. -/
  | provClose (v : W32)
  /-- MAIN_POWER_ON_RESET (R509): A main power-on reset clears the class-P, L, F and S fields, reloads class O and starts boot. -/
  | mainPowerOnReset (bbkOk coreLow : Bool)
  /-- BOOT_BUNDLE_LOADED (R436): A bundle slot is read and checked, and loaded or rejected. -/
  | bootBundleLoaded (slot : Nat) (flashOk : Bool) (d : List Byte)
  /-- BOOT_SELFTEST_COMPLETE (R441): The start-up tests end, and READY sets or boot fails with SELFTEST. -/
  | bootSelftestComplete (binders cores hash cde bgn str : W32)
  /-- BOOT_RETRY (R436): RETRY while FAILED boots from a bundle in host memory. -/
  | bootRetry (v : W32) (d : List Byte)
  /-- BOOT_PROGRAM (R437): PROGRAM with CONFIRM copies a checked host bundle into a flash slot. -/
  | bootProgram (v : W32) (d : List Byte)
  /-- BOOT_PROGRAM_COMPLETE (R437): The flash copy is read back and PROG_FAIL reports the result. -/
  | bootProgramComplete (good : Bool)
  /-- RAISE_MIN (R438): RAISE_MIN raises the OTP minimum patch version and journals the raise. -/
  | raiseMin (v : W32)
  /-- IDLE_ENTRY (R493): No work for PWR_IDLE_DELAY gates the fast clocks. -/
  | idleEntry
  /-- DOZE_ENTRY (R493): IDLE for PWR_DOZE_DELAY with L1.2 and no held writes turns the PLLs off. -/
  | dozeEntry
  /-- WAKE (R495): A TLP, a tamper event, a supply warning or a timer returns the device to ACTIVE. -/
  | wake
  /-- MAIN_RAILS_OFF (R493): The main rails fall with VAUX in range, and the state becomes DEEP. -/
  | mainRailsOff
  /-- VAUX_LOSS (R498): VAUX falls below 2.90 V, and the always-on domain switches to VBAT. -/
  | vauxLoss
  /-- VAUX_RETURN (R498): VAUX in range for 1 ms switches the always-on domain back to VAUX. -/
  | vauxReturn
  /-- AO_POWER_ON_RESET (R499): VAUX or VBAT rising after both were lost resets class A and invalidates the BBK and the anchor. -/
  | aoPowerOnReset (vaux : Bool)
  /-- DEEP_WAKE_SOURCE (R501): An enabled wake source in DEEP latches its cause and asserts WAKE#. -/
  | deepWakeSource (n : Nat)
  /-- VBAT_MEASURE (R499): The once-per-second VBAT reading updates PWR_VBAT_MV and VBAT_LOW. -/
  | vbatMeasure (mv : Nat)
  /-- GOVERNOR_WINDOW (R503): At each 100 µs window the governor lowers or raises its step, or holds dispatch. -/
  | governorWindow (avg cur : Nat)
  /-- THERMAL_READING (R504): Every 10 µs the thermal loop reads its sensors and lowers or raises its step. -/
  | thermalReading (sensor : Nat) (t : BitVec 16)
  /-- THERMTRIP (R32): The junction reaches 125 °C, THERMTRIP# asserts and latches, and the fast clocks stop. -/
  | thermtrip
  /-- BRACE_ENTER (R505): A rail crossing its warning level enters the brace state. -/
  | braceEnter (rail mv : Nat)
  /-- BRACE_LIFT (R506): Every warned rail stays above warning plus 10 mV for 200 µs, and the brace lifts and releases the held writes. -/
  | braceLift (v : VaultImage)
  /-- ERR_STATUS_CLEAR (R515): A write of 1 to an _ERR_STATUS bit clears it if its condition has ended, and is otherwise refused and counted. -/
  | errStatusClear (blk : Nat) (v : W32)
  /-- ERR_IRQ_EN_WRITE (R514): Setting an _ERR_IRQ_EN bit while its cause is set sends the block vector once. -/
  | errIrqEnWrite (blk : Nat) (v : W32)
  /-- SMB_READ_TEMP (R530): SMBus code 0x00 returns PWR_TEMP. -/
  | smbReadTemp (withPec : Bool)
  /-- SMB_READ_STATUS (R530): SMBus code 0x01 returns the status word. -/
  | smbReadStatus (withPec : Bool)
  /-- SMB_READ_POWER (R530): SMBus code 0x02 returns PWR_POWER_NOW. -/
  | smbReadPower (withPec : Bool)
  /-- SMB_READ_ALERT_STATUS (R530): SMBus code 0x03 Read Word returns SMB_ALERT_STATUS. -/
  | smbReadAlertStatus (withPec : Bool)
  /-- SMB_CLEAR_ALERT_STATUS (R530): SMBus code 0x03 Write Byte clears alert bits. -/
  | smbClearAlertStatus (v : Byte) (sent : Option Byte)
  /-- SMB_READ_POWER_LIMIT (R530): SMBus code 0x04 returns PWR_POWER_LIMIT. -/
  | smbReadPowerLimit (withPec : Bool)
  /-- SMB_READ_IDENTITY (R530): SMBus code 0x05 returns GLB_ID and the serial number by Block Read. -/
  | smbReadIdentity (withPec : Bool)
  /-- SMB_BAD_COMMAND (R529): An undefined code or a PEC mismatch is NACKed, counted and latched. -/
  | smbBadCommand (code : Byte) (pecBad : Bool)
  /-- SMB_ALERT_RESPONSE (R531): Winning the Alert Response Address cycle releases SMB_ALERT#. -/
  | smbAlertResponse
  /-- SMB_CLOCK_LOW_TIMEOUT (R529): 25 ms of clock low makes the target release the bus. -/
  | smbClockLowTimeout
  /-- SPDM_GET_CAPABILITIES (R52): The SPDM responder answers GET_CAPABILITIES with CERT_CAP, CHAL_CAP, MEAS_CAP with signature and MEAS_FRESH_CAP. -/
  | spdmGetCapabilities
  /-- SPDM_NEGOTIATE_ALGORITHMS (R52): The SPDM responder answers NEGOTIATE_ALGORITHMS with ECDSA P-384, SHA-384 and the DMTF measurement specification. -/
  | spdmNegotiateAlgorithms
  /-- SPDM_GET_DIGESTS (R52): The SPDM responder returns the digest of the slot 0 certificate chain. -/
  | spdmGetDigests
  /-- LINK_UP (R56): Link training started by PERST# release or a RETRAIN reaches L0 and sets SPEED, WIDTH and DEGRADED, without counting a recovery. -/
  | linkUp (speed width : Nat)
  /-- LINK_L1_ENTRY (R47): The link enters L1 or an L1 PM substate, updating PM_STATE and releasing CLKREQ# in L1.2. -/
  | linkL1Entry (pm : Nat)
  /-- CONFIG_REQUEST (R50): A configuration request is completed, with Configuration Request Retry Status during an FLR or before boot step 3. -/
  | configRequest (off : Nat) (v : Option W32)
  /-- RECEIVER_ERROR (R59): A receiver error on any lane increments PCI_RX_ERR_COUNT. -/
  | receiverError
  /-- REPLAY_TIMER_TIMEOUT (R59): A replay timer timeout or rollover increments PCI_REPLAY_COUNT. -/
  | replayTimerTimeout
  /-- SCRATCH_PAGE_SCRUB_COMPLETE (R254): The 512 cc scrub of a job's scratch page ends and the page becomes free for placement. -/
  | scratchPageScrubComplete (g p : Nat)
  /-- CDE_ZEROIZE_COMPLETE (R308): Zeroizing of an abandoned CDE decoder unit (2 µs) or systemizer half (16 µs) ends and the unit leaves ZEROIZING. -/
  | cdeZeroizeComplete (n : Nat)
  /-- AO_TRIM_MEASUREMENT (R417): Each second while the fast clocks run, TIM_AO_TRIM is updated from the measured error of XTAL32K against the time clock. -/
  | aoTrimMeasurement (ppb : Int)
  /-- REF10M_VALIDITY_CHANGE (R409): The 10 MHz input becomes valid or invalid and REF10M_OK changes. -/
  | ref10mValidityChange (ok : Bool)
  /-- TAMPER_CONDITION_END (R475): A tamper source's condition ends, clearing TMP_SRC_STATUS[n].ACTIVE, which allows RAISED to be cleared and LOCKDOWN to be unlocked. -/
  | tamperConditionEnd (n : Nat)
  /-- BRACE_RAIL_RECOVERY (R506): A warned rail rises above its warning level plus 10 mV, starting its 200 µs brace timer, or falls below it again, restarting that timer. -/
  | braceRailRecovery (rail mv : Nat) (above : Bool)
deriving DecidableEq, Repr

end Sys2Proof
end

