-- ==== Sys2Proof/Decode.lean ====
section
/-! DEFINITION. The table of operations and events gives no row any bits: a command reaches the block by what happens at its pins
and in its host's memory, and no word spells one. -/
namespace Sys2Proof

/-- The command that a word spells by the table's bits: none, for the table gives no row bits (spec/opcode_table.json). (DESIGN CHOICE: notes/assumptions/3) -/
def decodeTableWord (nbits w : Nat) : Option Instr :=
  match nbits, w with
  | _, _ => none

end Sys2Proof
end

