-- ==== Sys2Proof/Config.lean ====
section
/-! DEFINITION. What an implementation fixes and what the spec leaves open: constants without a body, so that no proof sees a value.
The algorithms of the cited standards (00_scope, Cited standards) stand here as functions of their operands: the spec names
them and gives no definition of them. -/
namespace Sys2Proof

/-- Byte i of the digest of m under the hash of a code (R171). (DESIGN CHOICE: notes/assumptions/13) -/
opaque Config.hash (code : Nat) (m : List Byte) (i : Nat) : Byte

/-- Byte i of KMAC256 (SP 800-185, SP 800-108) of n bytes under a key, with context x and label s. (DESIGN CHOICE: notes/assumptions/13) -/
opaque Config.kmac256 (key x s : List Byte) (n i : Nat) : Byte

/-- Byte i of an XTS-AES-256 encryption of a data unit under a tweak (IEEE 1619). (DESIGN CHOICE: notes/assumptions/13) -/
opaque Config.xtsEnc (key : List Byte) (tweak : Nat) (d : List Byte) (i : Nat) : Byte

/-- Byte i of the decryption. (DESIGN CHOICE: notes/assumptions/13) -/
opaque Config.xtsDec (key : List Byte) (tweak : Nat) (d : List Byte) (i : Nat) : Byte

/-- Byte i of AES-256-GCM over sealed records: key, IV, plaintext (R353). (DESIGN CHOICE: notes/assumptions/13) -/
opaque Config.sealRecord (key iv d : List Byte) (i : Nat) : Byte

/-- Byte i of what an algorithm of a cited standard gives: its name, its numbers (parameter set, modes, lengths), its operands. (DESIGN CHOICE: notes/assumptions/13) -/
opaque Config.alg (name : String) (ns : List Nat) (ins : List (List Byte)) (i : Nat) : Byte

/-- A number that an algorithm of a cited standard gives. (DESIGN CHOICE: notes/assumptions/13) -/
opaque Config.algNat (name : String) (ns : List Nat) (ins : List (List Byte)) : Nat

/-- A test of a cited standard: a signature's verification, a tag, the validity of a key or of a point. (DESIGN CHOICE: notes/assumptions/13) -/
opaque Config.holds (name : String) (ns : List Nat) (ins : List (List Byte)) : Bool

/-- Byte i of the n-th random draw. (DESIGN CHOICE: notes/assumptions/14) -/
opaque Config.random (n i : Nat) : Byte

/-- A free value: what the spec leaves open, by the counter of State and a place. (DESIGN CHOICE: notes/assumptions/14) -/
opaque Config.freeNat (n place : Nat) : Nat

/-- What the PI servo sets f to, in 1/1,024 ppb, from the offset of a measurement and the f in force (R410 gives no gains). (DESIGN CHOICE: notes/assumptions/49) -/
opaque Config.servoFreq (theta f : Int) : Int

/-- The part of an offset, in 2^-32 ns, that the PI servo leaves to a forward slew (R410). (DESIGN CHOICE: notes/assumptions/49) -/
opaque Config.servoSlew (theta f : Int) : Nat

/-- Which of the two ordering variants this device is: TQ4816-C, or TQ4816-I (R2). -/
opaque Config.variantC : Bool

end Sys2Proof
end

