-- ==== Sys2Proof/Machine/Bits.lean ====
section
/-! DEFINITION. Bit fields, byte order, counters: the helpers every meaning uses. -/
namespace Sys2Proof.Machine

/-- Bits hi to lo of a number ("Bit ranges are written [high:low]", 00_scope). -/
def bits (v hi lo : Nat) : Nat := (v / 2 ^ lo) % 2 ^ (hi + 1 - lo)

/-- Bit n of a number. -/
def bit (v n : Nat) : Bool := v.testBit n

/-- A truth value as the number a bit field shows. -/
def b2n (b : Bool) : Nat := if b then 1 else 0

/-- v with its bits hi to lo replaced by x. -/
def setBits (v hi lo x : Nat) : Nat :=
  v - bits v hi lo * 2 ^ lo + (x % 2 ^ (hi + 1 - lo)) * 2 ^ lo

/-- The n bytes of a number, least significant first (R4). -/
def leBytes (n v : Nat) : List Byte := (List.range n).map fun i => BitVec.ofNat 8 (v / 256 ^ i)

/-- The number that little-endian bytes spell (R4). -/
def leNat : List Byte → Nat
  | [] => 0
  | b :: t => b.toNat + 256 * leNat t

/-- A number from bytes that stand most significant first. -/
def beNat (l : List Byte) : Nat := leNat l.reverse

/-- The n bytes of a number, most significant first. -/
def beBytes (n v : Nat) : List Byte := (leBytes n v).reverse

/-- n zero bytes. -/
def zeros (n : Nat) : List Byte := List.replicate n 0

/-- The first n bytes, padded with zeros where there are fewer. -/
def padTo (n : Nat) (l : List Byte) : List Byte := l.take n ++ zeros (n - l.length)

/-- Bytes from position a, n of them. -/
def bslice (l : List Byte) (a n : Nat) : List Byte := (l.drop a).take n

/-- The little-endian number in bytes a to a+n-1. -/
def bfield (l : List Byte) (a n : Nat) : Nat := leNat (bslice l a n)

/-- n bytes given by their position: the form in which every value that the model leaves open stands. -/
def bytesOf (n : Nat) (f : Nat → Byte) : List Byte := (List.range n).map f

/-- x divided by y, rounded up. -/
def ceilDiv (x y : Nat) : Nat := (x + y - 1) / y

/-- A text as bytes (labels of derivations). -/
def label (t : String) : List Byte := t.toList.map fun c => BitVec.ofNat 8 c.toNat

/-- A number seen as a two's complement value of w bits. -/
def toSigned (w v : Nat) : Int := if 2 * (v % 2 ^ w) < 2 ^ w then (v % 2 ^ w : Nat) else (v % 2 ^ w : Nat) - (2 ^ w : Nat)

/-- A value kept in w bits, two's complement. -/
def fromSigned (w : Nat) (x : Int) : Nat := (x % (2 ^ w : Nat)).toNat

/-- A write-1-to-clear field of a width after a write of w to it. -/
def fieldW1C (width old w : Nat) : Nat := old.xor (old &&& w) % 2 ^ width

theorem leBytes_length (n v : Nat) : (leBytes n v).length = n := by simp [leBytes]

theorem bytesOf_length (n : Nat) (f : Nat → Byte) : (bytesOf n f).length = n := by simp [bytesOf]

theorem padTo_length (n : Nat) (l : List Byte) : (padTo n l).length = n := by
  simp [padTo, zeros]; omega

/-- b to the power e modulo m, by squaring over the lowest n bits of e. -/
def powMod (m : Nat) : Nat → Nat → Nat → Nat
  | 0, _, _ => 1 % m
  | n + 1, b, e =>
    let r := powMod m n (b * b % m) (e / 2)
    if e % 2 = 1 then b * r % m else r

end Sys2Proof.Machine
end

