-- ==== Sys2Proof/Machine/RegTable.lean ====
section
/-! DEFINITION. The register tables: bits, access, class, reset value and address of every field (R521 to R528 and each
chapter's register tables). A reset value that depends on the instance is given by Fld.reset. -/
namespace Sys2Proof.Machine

/-- The rows of the fields, in the order of Fld, part 0. -/
def fldTable0 : List (Fld × FldDesc) := [
  (.PCI_LINK_STATUS_PM_STATE, ⟨11, 9, .RO, .L, 0⟩),
  (.PCI_LINK_STATUS_DEGRADED, ⟨8, 8, .RO, .L, 0⟩),
  (.PCI_LINK_STATUS_WIDTH, ⟨7, 4, .RO, .L, 0⟩),
  (.PCI_LINK_STATUS_SPEED, ⟨3, 0, .RO, .L, 0⟩),
  (.PCI_LINK_CTRL_RETRAIN, ⟨5, 5, .WO, .none, 0⟩),
  (.PCI_LINK_CTRL_AUTO_DOWNSPEED, ⟨4, 4, .RW, .P, 1⟩),
  (.PCI_LINK_CTRL_MAX_SPEED, ⟨3, 0, .RW, .P, 5⟩),
  (.PCI_LTR_BUSY_LATENCY_NS, ⟨31, 0, .RW, .P, 20000⟩),
  (.PCI_LTR_IDLE_LATENCY_NS, ⟨31, 0, .RW, .P, 1000000⟩),
  (.PCI_RX_ERR_COUNT_COUNT, ⟨31, 0, .SAT, .P, 0⟩),
  (.PCI_REPLAY_COUNT_COUNT, ⟨31, 0, .SAT, .P, 0⟩),
  (.PCI_DOWNSPEED_COUNT_COUNT, ⟨31, 0, .SAT, .P, 0⟩),
  (.PCI_MMIO_BAD_COUNT_COUNT, ⟨31, 0, .SAT, .P, 0⟩),
  (.PCI_PTM_LAST_T1_NS, ⟨63, 0, .RO, .L, 0⟩),
  (.SLC_SLICE_CTRL_STATE, ⟨31, 28, .RO, .F, 0⟩),
  (.SLC_SLICE_CTRL_CFG_STATUS, ⟨27, 24, .RO, .F, 0⟩),
  (.SLC_SLICE_CTRL_NEW_ROUND, ⟨4, 4, .WO, .none, 0⟩),
  (.SLC_SLICE_CTRL_RESET, ⟨3, 3, .WO, .none, 0⟩),
  (.SLC_SLICE_CTRL_PAUSE, ⟨2, 2, .RW, .F, 0⟩),
  (.SLC_SLICE_CTRL_LOG_EN, ⟨1, 1, .RW, .F, 0⟩),
  (.SLC_SLICE_CTRL_ENABLE, ⟨0, 0, .RW, .F, 0⟩),
  (.SLC_SLICE_PASID_PASID_PENDING, ⟨31, 31, .RO, .F, 0⟩),
  (.SLC_SLICE_PASID_PASID_VALID, ⟨30, 30, .RW, .F, 0⟩),
  (.SLC_SLICE_PASID_PASID, ⟨19, 0, .RW, .F, 0⟩)]

/-- The rows of the fields, in the order of Fld, part 1. -/
def fldTable1 : List (Fld × FldDesc) := [
  (.SLC_SLICE_QUEUES_QCOUNT, ⟨26, 16, .RW, .F, 0⟩),
  (.SLC_SLICE_QUEUES_QBASE, ⟨13, 0, .RW, .F, 0⟩),
  (.SLC_SLICE_VECTORS_VCOUNT, ⟨26, 16, .RW, .F, 0⟩),
  (.SLC_SLICE_VECTORS_VBASE, ⟨12, 0, .RW, .F, 0⟩),
  (.SLC_SLICE_EVRINGS_ECOUNT, ⟨24, 16, .RW, .F, 0⟩),
  (.SLC_SLICE_EVRINGS_EBASE, ⟨11, 0, .RW, .F, 0⟩),
  (.SLC_SLICE_KEYS_KEY_QUOTA, ⟨16, 0, .RW, .F, 0⟩),
  (.SLC_SLICE_KEYS_USED_KEY_USED, ⟨16, 0, .RO, .P, 0⟩),
  (.SLC_SLICE_STREAMS_STREAM_USED, ⟨23, 16, .RO, .P, 0⟩),
  (.SLC_SLICE_STREAMS_STREAM_QUOTA, ⟨7, 0, .RW, .F, 0⟩),
  (.SLC_SLICE_SEAL_QUOTA_BLOCKS, ⟨31, 0, .RW, .F, 0⟩),
  (.SLC_SLICE_SEAL_USED_BLOCKS, ⟨31, 0, .RO, .P, 0⟩),
  (.SLC_T_STATUS_STATE, ⟨31, 28, .RO, .F, 0⟩),
  (.SLC_T_STATUS_PASID, ⟨19, 0, .RO, .F, 0⟩),
  (.SLC_T_GRANT_QCOUNT, ⟨26, 16, .RO, .F, 0⟩),
  (.SLC_T_GRANT_ECOUNT, ⟨8, 0, .RO, .F, 0⟩),
  (.SLC_T_VECTORS_VCOUNT, ⟨10, 0, .RO, .F, 0⟩),
  (.SLC_T_MBX_M2T_VECTOR, ⟨31, 21, .RW, .S, 0⟩),
  (.SLC_T_MBX_M2T_IRQ_EN, ⟨16, 16, .RW, .S, 0⟩),
  (.SLC_T_MBX_M2T_ACK, ⟨9, 9, .WO, .none, 0⟩),
  (.SLC_T_MBX_M2T_FULL, ⟨8, 8, .RO, .S, 0⟩),
  (.SLC_T_MBX_T2M_FULL, ⟨1, 1, .RO, .S, 0⟩),
  (.SLC_T_MBX_T2M_SEND, ⟨0, 0, .W1S, .S, 0⟩),
  (.SLC_SLICE_MBX_M2T_SEND, ⟨9, 9, .WO, .none, 0⟩)]

/-- The rows of the fields, in the order of Fld, part 2. -/
def fldTable2 : List (Fld × FldDesc) := [
  (.SLC_SLICE_MBX_M2T_FULL, ⟨8, 8, .RO, .S, 0⟩),
  (.SLC_SLICE_MBX_T2M_ACK, ⟨1, 1, .WO, .none, 0⟩),
  (.SLC_SLICE_MBX_T2M_FULL, ⟨0, 0, .RO, .S, 0⟩),
  (.SLC_SLICE_DPL_BASE_BASE, ⟨63, 12, .RW, .F, 0⟩),
  (.SLC_SLICE_DPL_BASE_SIZE_LOG2, ⟨4, 0, .RW, .F, 8⟩),
  (.SLC_SLICE_DPL_PROD_OVERFLOW, ⟨31, 31, .RO, .F, 0⟩),
  (.SLC_SLICE_DPL_PROD_PROD, ⟨19, 0, .RO, .F, 0⟩),
  (.SLC_SLICE_DPL_CONS_CONS, ⟨19, 0, .RW, .F, 0⟩),
  (.SLC_CFG_REFUSED_COUNT_COUNT, ⟨31, 0, .SAT, .P, 0⟩),
  (.SLC_VEC_DROP_COUNT_COUNT, ⟨31, 0, .SAT, .P, 0⟩),
  (.SLC_MBX_DROP_COUNT_COUNT, ⟨31, 0, .SAT, .P, 0⟩),
  (.SLC_DPL_LOST_COUNT_COUNT, ⟨31, 0, .SAT, .P, 0⟩),
  (.QC_RING_BASE_BASE, ⟨63, 12, .RWL, .F, 0⟩),
  (.QC_RING_BASE_SIZE_LOG2, ⟨4, 0, .RWL, .F, 4⟩),
  (.QC_HEAD_ADDR_ADDR, ⟨63, 3, .RWL, .F, 0⟩),
  (.QC_CTRL_STATE, ⟨31, 28, .RO, .S, 0⟩),
  (.QC_CTRL_WINDOW, ⟨24, 16, .RW, .F, 64⟩),
  (.QC_CTRL_EVRING, ⟨15, 8, .RW, .F, 0⟩),
  (.QC_CTRL_EV_MODE, ⟨3, 3, .RW, .F, 0⟩),
  (.QC_CTRL_EV_EN, ⟨2, 2, .RW, .F, 0⟩),
  (.QC_CTRL_RESET, ⟨1, 1, .WO, .none, 0⟩),
  (.QC_CTRL_ENABLE, ⟨0, 0, .RW, .F, 0⟩),
  (.QC_TAIL_TAIL, ⟨15, 0, .RWL, .S, 0⟩),
  (.QC_HEAD_WRAP, ⟨31, 16, .RWL, .S, 0⟩)]

/-- The rows of the fields, in the order of Fld, part 3. -/
def fldTable3 : List (Fld × FldDesc) := [
  (.QC_HEAD_HEAD, ⟨15, 0, .RWL, .S, 0⟩),
  (.QC_DONE_DONE, ⟨31, 0, .RWL, .S, 0⟩),
  (.QC_STATUS_PARKED, ⟨31, 16, .RO, .S, 0⟩),
  (.QC_STATUS_OWN_WAIT, ⟨12, 12, .RO, .S, 0⟩),
  (.QC_STATUS_INFLIGHT, ⟨8, 0, .RO, .S, 0⟩),
  (.QC_BAD_DOORBELL_COUNT_COUNT, ⟨31, 0, .SAT, .P, 0⟩),
  (.QC_OWN_MISS_COUNT_COUNT, ⟨31, 0, .SAT, .P, 0⟩),
  (.EVR_BASE_BASE, ⟨63, 12, .RWL, .F, 0⟩),
  (.EVR_BASE_SIZE_LOG2, ⟨4, 0, .RWL, .F, 4⟩),
  (.EVR_HEAD_ADDR_ADDR, ⟨63, 3, .RWL, .F, 0⟩),
  (.EVR_CTRL_VECTOR, ⟨31, 22, .RW, .F, 0⟩),
  (.EVR_CTRL_COAL_TIME, ⟨21, 12, .RW, .F, 0⟩),
  (.EVR_CTRL_COAL_COUNT, ⟨11, 4, .RW, .F, 0⟩),
  (.EVR_CTRL_IRQ_EN, ⟨1, 1, .RW, .F, 0⟩),
  (.EVR_CTRL_ENABLE, ⟨0, 0, .RW, .F, 0⟩),
  (.EVR_PROD_OVERFLOW, ⟨31, 31, .RO, .S, 0⟩),
  (.EVR_PROD_PROD, ⟨15, 0, .RO, .S, 0⟩),
  (.EVR_CONS_CONS, ⟨15, 0, .RW, .S, 0⟩),
  (.EVR_LOST_COUNT_COUNT, ⟨31, 0, .SAT, .P, 0⟩),
  (.EVR_T_CONS_CONS, ⟨15, 0, .RW, .S, 0⟩),
  (.EVR_T_STATUS_OVERFLOW, ⟨31, 31, .W1C, .S, 0⟩),
  (.EVR_T_STATUS_PROD, ⟨15, 0, .RO, .S, 0⟩),
  (.QE_BAD_DOORBELL_COUNT_COUNT, ⟨31, 0, .SAT, .P, 0⟩),
  (.QE_CFG_REFUSED_COUNT_COUNT, ⟨31, 0, .SAT, .P, 0⟩)]

/-- The rows of the fields, in the order of Fld, part 4. -/
def fldTable4 : List (Fld × FldDesc) := [
  (.QE_SC_BAD_COMPLETE_COUNT_COUNT, ⟨31, 0, .SAT, .P, 0⟩),
  (.QE_EV_NOROUTE_COUNT_COUNT, ⟨31, 0, .SAT, .P, 0⟩),
  (.QE_EVR_BAD_CONS_COUNT_COUNT, ⟨31, 0, .SAT, .P, 0⟩),
  (.QE_SC_BASE_BASE, ⟨63, 12, .RWL, .F, 0⟩),
  (.QE_SC_BASE_SIZE_LOG2, ⟨4, 0, .RWL, .F, 4⟩),
  (.QE_SC_CTRL_VECTOR, ⟨31, 22, .RW, .F, 0⟩),
  (.QE_SC_CTRL_HOLDOFF, ⟨17, 8, .RW, .F, 0⟩),
  (.QE_SC_CTRL_ENABLE, ⟨0, 0, .RW, .F, 0⟩),
  (.QE_SC_PROD_PROD, ⟨11, 0, .RO, .F, 0⟩),
  (.QE_SC_COMPLETE_TAG, ⟨31, 0, .WO, .none, 0⟩),
  (.QE_SC_COMPLETE_STATUS, ⟨47, 32, .WO, .none, 0⟩),
  (.QE_SC_OUTSTANDING_COUNT, ⟨12, 0, .RO, .F, 0⟩),
  (.QE_SC_TIMEOUT_MS, ⟨15, 0, .RW, .F, 500⟩),
  (.SCH_CREDIT_TOTAL_TOTAL, ⟨16, 0, .RO, .P, 0⟩),
  (.SCH_CREDIT_FREE_FREE, ⟨16, 0, .RO, .F, 0⟩),
  (.SCH_RESERVE_USE_COUNT_COUNT, ⟨31, 0, .SAT, .P, 0⟩),
  (.SCH_SENIOR_STAMP_STAMP, ⟨63, 0, .RO, .F, 0⟩),
  (.SCH_SENIOR_QUEUE_VALID, ⟨31, 31, .RO, .F, 0⟩),
  (.SCH_SENIOR_QUEUE_QUEUE, ⟨13, 0, .RO, .F, 0⟩),
  (.SCH_PARK_USED_SLOTS, ⟨20, 0, .RO, .F, 0⟩),
  (.SCH_PARK_HOLD_COUNT_COUNT, ⟨31, 0, .SAT, .P, 0⟩),
  (.SCH_QUANTUM_QUANTUM, ⟨23, 0, .RW, .P, 16384⟩),
  (.SCH_REEXEC_COUNT_COUNT, ⟨31, 0, .SAT, .P, 0⟩),
  (.SCH_ABORT_COUNT_COUNT, ⟨31, 0, .SAT, .P, 0⟩)]

/-- The rows of the fields, in the order of Fld, part 5. -/
def fldTable5 : List (Fld × FldDesc) := [
  (.SCH_FLUSH_COUNT_COUNT, ⟨31, 0, .SAT, .P, 0⟩),
  (.SCH_STAMP_NEXT_STAMP, ⟨63, 0, .RO, .F, 1⟩),
  (.MAR_CORE_ENABLE_EN, ⟨31, 0, .RW, .P, 4294967295⟩),
  (.MAR_CORE_ONLINE_ONLINE, ⟨31, 0, .RO, .P, 0⟩),
  (.MAR_CFG_REFUSED_COUNT_COUNT, ⟨31, 0, .SAT, .P, 0⟩),
  (.MAR_ECC_CORRECTED_COUNT_COUNT, ⟨31, 0, .SAT, .P, 0⟩),
  (.MAR_ECC_UNCORRECTED_COUNT_COUNT, ⟨31, 0, .SAT, .P, 0⟩),
  (.MAR_CORE_RESET_COUNT_COUNT, ⟨31, 0, .SAT, .P, 0⟩),
  (.MAR_TAG_FAULT_COUNT_COUNT, ⟨31, 0, .SAT, .P, 0⟩),
  (.MAR_SUSPEND_COUNT_COUNT, ⟨31, 0, .SAT, .P, 0⟩),
  (.MAR_TEAM_HOLD_COUNT_COUNT, ⟨31, 0, .SAT, .P, 0⟩),
  (.MAR_IMAGE_VERSION_VERSION, ⟨31, 0, .RO, .P, 0⟩),
  (.MAR_KREGION_FREE_BUNDLES, ⟨11, 0, .RO, .P, 0⟩),
  (.MAR_SCRATCH_FREE_PAGES, ⟨5, 0, .RO, .P, 48⟩),
  (.MAR_CORE_STATUS_STATE, ⟨31, 28, .RO, .P, 0⟩),
  (.MAR_CORE_STATUS_RUN_SLOT, ⟨27, 26, .RO, .P, 0⟩),
  (.MAR_CORE_STATUS_SUSPENDED, ⟨23, 20, .RO, .P, 0⟩),
  (.MAR_CORE_STATUS_SCRUBBING, ⟨19, 16, .RO, .P, 0⟩),
  (.MAR_CORE_STATUS_DRAINING, ⟨15, 12, .RO, .P, 0⟩),
  (.MAR_CORE_STATUS_READY, ⟨11, 8, .RO, .P, 0⟩),
  (.MAR_CORE_STATUS_LOADING, ⟨7, 4, .RO, .P, 0⟩),
  (.MAR_CORE_STATUS_FREE, ⟨3, 0, .RO, .P, 15⟩),
  (.MAR_KERNEL_FAULT_COUNT_COUNT, ⟨31, 0, .SAT, .P, 0⟩),
  (.MAR_FAULT_INFO_VALID, ⟨31, 31, .W1C, .P, 0⟩)]

/-- The rows of the fields, in the order of Fld, part 6. -/
def fldTable6 : List (Fld × FldDesc) := [
  (.MAR_FAULT_INFO_PRECISE, ⟨30, 30, .RO, .P, 0⟩),
  (.MAR_FAULT_INFO_ENGINE, ⟨29, 29, .RO, .P, 0⟩),
  (.MAR_FAULT_INFO_LANE, ⟨23, 16, .RO, .P, 0⟩),
  (.MAR_FAULT_INFO_SOCKET, ⟨15, 8, .RO, .P, 0⟩),
  (.MAR_FAULT_INFO_CAUSE, ⟨7, 0, .RO, .P, 0⟩),
  (.MAR_FAULT_PC_KERNEL, ⟨31, 16, .RO, .P, 0⟩),
  (.MAR_FAULT_PC_SLOT, ⟨15, 14, .RO, .P, 0⟩),
  (.MAR_FAULT_PC_BUNDLE, ⟨12, 0, .RO, .P, 0⟩),
  (.MAR_FAULT_RESUME_GO, ⟨8, 8, .WO, .none, 0⟩),
  (.MAR_FAULT_RESUME_START_LANE, ⟨7, 0, .RWL, .P, 0⟩),
  (.HSH_CORE_ENABLE_EN, ⟨31, 0, .RW, .P, 4294967295⟩),
  (.HSH_CORE_ONLINE_ONLINE, ⟨31, 0, .RO, .P, 0⟩),
  (.HSH_CFG_REFUSED_COUNT_COUNT, ⟨31, 0, .SAT, .P, 0⟩),
  (.HSH_STREAM_LIMIT_BLOCKS, ⟨7, 0, .RW, .P, 64⟩),
  (.HSH_SESSIONS_OPEN_COUNT, ⟨9, 0, .RO, .F, 0⟩),
  (.HSH_CHECK_ERROR_COUNT_COUNT, ⟨31, 0, .SAT, .P, 0⟩),
  (.HSH_CALL_RETRY_COUNT_COUNT, ⟨31, 0, .SAT, .P, 0⟩),
  (.HSH_SESSION_FAIL_COUNT_COUNT, ⟨31, 0, .SAT, .P, 0⟩),
  (.HSH_STORE_CORRECTED_COUNT_COUNT, ⟨31, 0, .SAT, .P, 0⟩),
  (.HSH_BORROW_COUNT_COUNT, ⟨31, 0, .SAT, .P, 0⟩),
  (.HSH_MASK_STALL_COUNT_COUNT, ⟨31, 0, .SAT, .P, 0⟩),
  (.HSH_CORE_OFFLINE_COUNT_COUNT, ⟨31, 0, .SAT, .P, 0⟩),
  (.HSH_CALL_COUNT_COUNT, ⟨63, 0, .SAT, .P, 0⟩),
  (.CDE_UNIT_ENABLE_EN, ⟨2, 0, .RW, .P, 7⟩)]

/-- The rows of the fields, in the order of Fld, part 7. -/
def fldTable7 : List (Fld × FldDesc) := [
  (.CDE_UNIT_ONLINE_ONLINE, ⟨2, 0, .RO, .P, 0⟩),
  (.CDE_CFG_REFUSED_COUNT_COUNT, ⟨31, 0, .SAT, .P, 0⟩),
  (.CDE_ECC_CORRECTED_COUNT_COUNT, ⟨31, 0, .SAT, .P, 0⟩),
  (.CDE_ECC_UNCORRECTED_COUNT_COUNT, ⟨31, 0, .SAT, .P, 0⟩),
  (.CDE_CHECK_ERROR_COUNT_COUNT, ⟨31, 0, .SAT, .P, 0⟩),
  (.CDE_UNIT_RESET_COUNT_COUNT, ⟨31, 0, .SAT, .P, 0⟩),
  (.CDE_KEYGEN_COUNT_COUNT, ⟨31, 0, .SAT, .P, 0⟩),
  (.CDE_KEYGEN_ATTEMPT_COUNT_COUNT, ⟨31, 0, .SAT, .P, 0⟩),
  (.CDE_KEYGEN_REPLACED_SEED_COUNT_COUNT, ⟨31, 0, .SAT, .P, 0⟩),
  (.CDE_PCT_FAIL_COUNT_COUNT, ⟨31, 0, .SAT, .P, 0⟩),
  (.CDE_UNIT_STATUS_STATE, ⟨31, 28, .RO, .P, 0⟩),
  (.CDE_UNIT_STATUS_SET, ⟨27, 24, .RO, .P, 0⟩),
  (.CDE_UNIT_STATUS_PARAMSET, ⟨23, 16, .RO, .P, 0⟩),
  (.CDE_UNIT_STATUS_BUSY, ⟨1, 0, .RO, .P, 0⟩),
  (.BGN_MUL_ENABLE_EN, ⟨3, 0, .RW, .P, 15⟩),
  (.BGN_MUL_ONLINE_ONLINE, ⟨3, 0, .RO, .P, 0⟩),
  (.BGN_CFG_REFUSED_COUNT_COUNT, ⟨31, 0, .SAT, .P, 0⟩),
  (.BGN_ECC_CORRECTED_COUNT_COUNT, ⟨31, 0, .SAT, .P, 0⟩),
  (.BGN_ECC_UNCORRECTED_COUNT_COUNT, ⟨31, 0, .SAT, .P, 0⟩),
  (.BGN_CHECK_ERROR_COUNT_COUNT, ⟨31, 0, .SAT, .P, 0⟩),
  (.BGN_COMPARE_MISMATCH_COUNT_COUNT, ⟨31, 0, .SAT, .P, 0⟩),
  (.BGN_INPUT_REJECT_COUNT_COUNT, ⟨31, 0, .SAT, .P, 0⟩),
  (.BGN_SECRET_REJECT_COUNT_COUNT, ⟨31, 0, .SAT, .P, 0⟩),
  (.BGN_ERASE_COUNT_COUNT, ⟨31, 0, .SAT, .P, 0⟩)]

/-- The rows of the fields, in the order of Fld, part 8. -/
def fldTable8 : List (Fld × FldDesc) := [
  (.BGN_ERASE_LAST_FC, ⟨7, 0, .RO, .P, 0⟩),
  (.BGN_BLIND_REKEY_COUNT_COUNT, ⟨31, 0, .SAT, .P, 0⟩),
  (.BGN_MUL_STATUS_STATE, ⟨31, 28, .RO, .P, 0⟩),
  (.BGN_MUL_STATUS_SLOTS, ⟨3, 0, .RO, .P, 0⟩),
  (.STR_PIPE_ENABLE_EN, ⟨1, 0, .RW, .P, 3⟩),
  (.STR_PIPE_ONLINE_ONLINE, ⟨1, 0, .RO, .P, 0⟩),
  (.STR_CFG_REFUSED_COUNT_COUNT, ⟨31, 0, .SAT, .P, 0⟩),
  (.STR_SLICE_BYTES_BYTES, ⟨23, 0, .RW, .P, 65536⟩),
  (.STR_CHECK_ERROR_COUNT_COUNT, ⟨31, 0, .SAT, .P, 0⟩),
  (.STR_TAG_MISMATCH_COUNT_COUNT, ⟨31, 0, .SAT, .P, 0⟩),
  (.STR_YIELD_COUNT_COUNT, ⟨31, 0, .SAT, .P, 0⟩),
  (.STR_ERASE_COUNT_COUNT, ⟨31, 0, .SAT, .P, 0⟩),
  (.STR_ERASE_LAST_FC, ⟨7, 0, .RO, .P, 0⟩),
  (.STR_PIPE_BYTES_COUNT, ⟨63, 0, .SAT, .P, 0⟩),
  (.ENT_STATUS_READY, ⟨31, 31, .RO, .P, 0⟩),
  (.ENT_STATUS_STATE, ⟨30, 28, .RO, .P, 0⟩),
  (.ENT_STATUS_CELL_OK, ⟨7, 0, .RO, .P, 0⟩),
  (.ENT_WAIT_LIMIT_MS, ⟨9, 0, .RW, .P, 50⟩),
  (.ENT_CELL_ENABLE_EN, ⟨7, 0, .RW, .P, 255⟩),
  (.ENT_CFG_REFUSED_COUNT_COUNT, ⟨31, 0, .SAT, .P, 0⟩),
  (.ENT_RESTART_FAIL_COUNT_COUNT, ⟨31, 0, .SAT, .P, 0⟩),
  (.ENT_STALL_COUNT_COUNT, ⟨31, 0, .SAT, .P, 0⟩),
  (.ENT_TIMEOUT_COUNT_COUNT, ⟨31, 0, .SAT, .P, 0⟩),
  (.ENT_COND_COUNT_COUNT, ⟨63, 0, .SAT, .P, 0⟩)]

/-- The rows of the fields, in the order of Fld, part 9. -/
def fldTable9 : List (Fld × FldDesc) := [
  (.ENT_SW_DATA_DATA, ⟨63, 0, .RO, .none, 0⟩),
  (.ENT_SW_STATUS_CODE, ⟨15, 0, .RO, .P, 17⟩),
  (.ENT_CELL_FAIL_LAST_TEST, ⟨31, 28, .RO, .P, 0⟩),
  (.ENT_CELL_FAIL_COUNT, ⟨23, 0, .SAT, .P, 0⟩),
  (.ENT_DRBG_STATUS_STALLED, ⟨31, 31, .RO, .P, 0⟩),
  (.ENT_DRBG_STATUS_CALLS, ⟨24, 0, .RO, .P, 0⟩),
  (.KV_STATUS_OPEN, ⟨31, 31, .RO, .P, 0⟩),
  (.KV_STATUS_BBK_VALID, ⟨30, 30, .RO, .A, 0⟩),
  (.KV_STATUS_KEYS, ⟨16, 0, .RO, .P, 0⟩),
  (.KV_HOT_USED_LINES, ⟨16, 0, .RO, .P, 0⟩),
  (.KV_WINDOW_BLOCKS_BLOCKS, ⟨12, 0, .RW, .P, 64⟩),
  (.KV_QUARANTINED_KEYS_COUNT, ⟨16, 0, .RO, .P, 0⟩),
  (.KV_HOT_MISS_COUNT_COUNT, ⟨31, 0, .SAT, .P, 0⟩),
  (.KV_HOT_EVICT_COUNT_COUNT, ⟨31, 0, .SAT, .P, 0⟩),
  (.KV_HOT_CORRECTED_COUNT_COUNT, ⟨31, 0, .SAT, .P, 0⟩),
  (.KV_TABLE_FULL_COUNT_COUNT, ⟨31, 0, .SAT, .P, 0⟩),
  (.KV_RESERVE_COUNT_COUNT, ⟨31, 0, .SAT, .P, 0⟩),
  (.KV_CEIL_WAIT_COUNT_COUNT, ⟨31, 0, .SAT, .P, 0⟩),
  (.KV_TB_ERASED_COUNT_COUNT, ⟨31, 0, .SAT, .P, 0⟩),
  (.KV_ABANDONED_INDICES_COUNT, ⟨63, 0, .SAT, .P, 0⟩),
  (.KV_EVENT_TABLE_FULL, ⟨3, 3, .W1C, .P, 0⟩),
  (.KV_EVENT_TB_ERASED, ⟨2, 2, .W1C, .P, 0⟩),
  (.KV_EVENT_QUARANTINE, ⟨1, 1, .W1C, .P, 0⟩),
  (.KV_EVENT_CEIL_NEAR, ⟨0, 0, .W1C, .P, 0⟩)]

/-- The rows of the fields, in the order of Fld, part 10. -/
def fldTable10 : List (Fld × FldDesc) := [
  (.KV_EVENT_EN_EN, ⟨3, 0, .RW, .P, 0⟩),
  (.QRE_STATUS_READY, ⟨31, 31, .RO, .P, 0⟩),
  (.QRE_STATUS_OPEN, ⟨8, 0, .RO, .P, 0⟩),
  (.QRE_STREAM_RELEASE_GO, ⟨31, 31, .WO, .none, 0⟩),
  (.QRE_STREAM_RELEASE_STREAM, ⟨7, 0, .WO, .none, 0⟩),
  (.QRE_CFG_REFUSED_COUNT_COUNT, ⟨31, 0, .SAT, .P, 0⟩),
  (.QRE_HOLD_COUNT_COUNT, ⟨31, 0, .SAT, .P, 0⟩),
  (.QRE_APPEND_COUNT_COUNT, ⟨63, 0, .SAT, .P, 0⟩),
  (.QRE_VOID_COUNT_COUNT, ⟨31, 0, .SAT, .P, 0⟩),
  (.QRE_SHORT_COUNT_COUNT, ⟨31, 0, .SAT, .P, 0⟩),
  (.QRE_JOURNAL_QUEUED_COUNT, ⟨10, 0, .RO, .P, 0⟩),
  (.QRE_JOURNAL_DROP_COUNT_COUNT, ⟨31, 0, .SAT, .P, 0⟩),
  (.QRE_STREAM_STATE_STATE, ⟨31, 28, .RO, .P, 0⟩),
  (.QRE_STREAM_STATE_SHORT, ⟨27, 27, .RO, .P, 0⟩),
  (.QRE_STREAM_STATE_HASH, ⟨23, 16, .RO, .P, 0⟩),
  (.QRE_STREAM_STATE_OWNER, ⟨11, 0, .RO, .P, 0⟩),
  (.QRE_STREAM_SIZE_SIZE, ⟨63, 0, .RO, .P, 0⟩),
  (.SEAL_STATUS_STATE, ⟨31, 28, .RO, .P, 0⟩),
  (.SEAL_STATUS_OPEN_RESULT, ⟨27, 24, .RO, .P, 0⟩),
  (.SEAL_STATUS_BRACED, ⟨20, 20, .RO, .P, 0⟩),
  (.SEAL_STATUS_EPOCH, ⟨12, 0, .RO, .O, 0⟩),
  (.SEAL_CTRL_CONFIRM, ⟨31, 16, .WO, .none, 0⟩),
  (.SEAL_CTRL_FORMAT, ⟨2, 2, .WO, .none, 0⟩),
  (.SEAL_CTRL_FORCE_OPEN, ⟨1, 1, .WO, .none, 0⟩)]

/-- The rows of the fields, in the order of Fld, part 11. -/
def fldTable11 : List (Fld × FldDesc) := [
  (.SEAL_CTRL_OPEN, ⟨0, 0, .WO, .none, 0⟩),
  (.SEAL_STORAGE_LIMIT_MS, ⟨15, 0, .RW, .P, 2000⟩),
  (.SEAL_RETRY_TIME_MS, ⟨9, 0, .RW, .P, 10⟩),
  (.SEAL_GROUP_TIME_US, ⟨9, 0, .RW, .P, 2⟩),
  (.SEAL_COMMIT_COMMIT, ⟨63, 0, .RO, .P, 0⟩),
  (.SEAL_ANCHOR_COMMIT_COMMIT, ⟨63, 0, .RO, .A, 0⟩),
  (.SEAL_ANCHOR_STATUS_VALID, ⟨31, 31, .RO, .A, 0⟩),
  (.SEAL_ANCHOR_STATUS_EPOCH, ⟨12, 0, .RO, .A, 0⟩),
  (.SEAL_CFG_REFUSED_COUNT_COUNT, ⟨31, 0, .SAT, .P, 0⟩),
  (.SEAL_FETCH_COUNT_COUNT, ⟨31, 0, .SAT, .P, 0⟩),
  (.SEAL_REPOST_COUNT_COUNT, ⟨31, 0, .SAT, .P, 0⟩),
  (.SEAL_INTEGRITY_FAIL_COUNT_COUNT, ⟨31, 0, .SAT, .P, 0⟩),
  (.SEAL_TIMEOUT_COUNT_COUNT, ⟨31, 0, .SAT, .P, 0⟩),
  (.SEAL_SC_BUF_BASE, ⟨63, 16, .RW, .F, 0⟩),
  (.SEAL_RANGE_KV_SPAN, ⟨62, 32, .RW, .P, 0⟩),
  (.SEAL_RANGE_KV_BASE, ⟨30, 0, .RW, .P, 0⟩),
  (.SEAL_RANGE_QRE_SPAN, ⟨62, 32, .RW, .P, 0⟩),
  (.SEAL_RANGE_QRE_BASE, ⟨30, 0, .RW, .P, 0⟩),
  (.SEAL_RANGE_SLICE_SPAN, ⟨62, 32, .RW, .P, 0⟩),
  (.SEAL_RANGE_SLICE_BASE, ⟨30, 0, .RW, .P, 0⟩),
  (.TIM_STATUS_GRADE, ⟨31, 30, .RO, .A, 3⟩),
  (.TIM_STATUS_HAS_TIME, ⟨29, 29, .RO, .A, 0⟩),
  (.TIM_STATUS_POLICY_LIMITED, ⟨28, 28, .RO, .P, 0⟩),
  (.TIM_STATUS_SLEWING, ⟨27, 27, .RO, .P, 0⟩)]

/-- The rows of the fields, in the order of Fld, part 12. -/
def fldTable12 : List (Fld × FldDesc) := [
  (.TIM_STATUS_REF10M_OK, ⟨26, 26, .RO, .P, 0⟩),
  (.TIM_STATUS_LOCK_RUN, ⟨4, 0, .RO, .P, 0⟩),
  (.TIM_CTRL_PPS_OUT_EN, ⟨4, 4, .RW, .P, 0⟩),
  (.TIM_CTRL_REF10M_EN, ⟨3, 3, .RW, .P, 0⟩),
  (.TIM_CTRL_STEP_EN, ⟨2, 2, .RW, .P, 1⟩),
  (.TIM_CTRL_SOURCE, ⟨1, 0, .RW, .P, 0⟩),
  (.TIM_FREQ_BOUND_PPB, ⟨19, 0, .RW, .P, 50000⟩),
  (.TIM_SLEW_RATE_PPM, ⟨9, 0, .RW, .P, 200⟩),
  (.TIM_STEP_THRESHOLD_NS, ⟨31, 0, .RW, .P, 1000000⟩),
  (.TIM_LOCK_THRESHOLD_NS, ⟨31, 0, .RW, .P, 1000⟩),
  (.TIM_HOLDOVER_LIMIT_S, ⟨23, 0, .RW, .P, 3600⟩),
  (.TIM_PPS_DELAY_NS, ⟨31, 0, .RW, .P, 0⟩),
  (.TIM_TOD_NEXT_VALID, ⟨63, 63, .RW, .P, 0⟩),
  (.TIM_TOD_NEXT_SECONDS, ⟨47, 0, .RW, .P, 0⟩),
  (.TIM_SET_SEC_GO, ⟨63, 63, .WO, .none, 0⟩),
  (.TIM_SET_SEC_SECONDS, ⟨47, 0, .WO, .none, 0⟩),
  (.TIM_SET_NS_NS, ⟨29, 0, .RW, .P, 0⟩),
  (.TIM_PTM_OFFSET_NS, ⟨63, 0, .RW, .P, 0⟩),
  (.TIM_PTM_INTERVAL_MS, ⟨9, 0, .RW, .P, 125⟩),
  (.TIM_PPS_OUT_WIDTH_MS, ⟨8, 0, .RW, .P, 100⟩),
  (.TIM_PPS_OUT_PHASE_NS, ⟨31, 0, .RW, .P, 0⟩),
  (.TIM_SOURCE_ERROR_NS, ⟨31, 0, .RW, .P, 100⟩),
  (.TIM_NOW_NS_NS, ⟨29, 0, .RO, .A, 0⟩),
  (.TIM_NOW_SUBNS_SUBNS, ⟨31, 0, .RO, .A, 0⟩)]

/-- The rows of the fields, in the order of Fld, part 13. -/
def fldTable13 : List (Fld × FldDesc) := [
  (.TIM_NOW_SEC_SECONDS, ⟨47, 0, .RO, .A, 0⟩),
  (.TIM_FREQ_CORR_F, ⟨31, 0, .RO, .P, 0⟩),
  (.TIM_LAST_OFFSET_NS, ⟨31, 0, .RO, .P, 0⟩),
  (.TIM_SLEW_REMAIN_NS, ⟨63, 0, .RO, .P, 0⟩),
  (.TIM_AO_TRIM_PPB, ⟨31, 0, .RO, .A, 0⟩),
  (.TIM_STEP_COUNT_COUNT, ⟨31, 0, .SAT, .P, 0⟩),
  (.TIM_POLICY_LIMIT_COUNT_COUNT, ⟨31, 0, .SAT, .P, 0⟩),
  (.TIM_SOURCE_LOSS_COUNT_COUNT, ⟨31, 0, .SAT, .P, 0⟩),
  (.TIM_COPY_CORRECTED_COUNT_COUNT, ⟨31, 0, .SAT, .P, 0⟩),
  (.GLB_STATUS_READY, ⟨31, 31, .RO, .P, 0⟩),
  (.GLB_STATUS_BOOT_STATE, ⟨30, 28, .RO, .P, 0⟩),
  (.GLB_STATUS_BOOT_SLOT, ⟨25, 24, .RO, .P, 3⟩),
  (.GLB_STATUS_SELFTEST_DEGRADED, ⟨23, 23, .RO, .P, 0⟩),
  (.GLB_STATUS_PROG_BUSY, ⟨22, 22, .RO, .P, 0⟩),
  (.GLB_STATUS_PROG_FAIL, ⟨21, 21, .RO, .P, 0⟩),
  (.GLB_STATUS_BOOT_ERROR, ⟨19, 16, .RO, .P, 0⟩),
  (.GLB_BOOT_CTRL_CONFIRM, ⟨31, 16, .WO, .none, 0⟩),
  (.GLB_BOOT_CTRL_SLOT, ⟨4, 4, .WO, .none, 0⟩),
  (.GLB_BOOT_CTRL_RAISE_MIN, ⟨2, 2, .WO, .none, 0⟩),
  (.GLB_BOOT_CTRL_PROGRAM, ⟨1, 1, .WO, .none, 0⟩),
  (.GLB_BOOT_CTRL_RETRY, ⟨0, 0, .WO, .none, 0⟩),
  (.GLB_BOOT_HOST_ADDR_ADDR, ⟨63, 12, .RW, .P, 0⟩),
  (.GLB_BOOT_HOST_LEN_BYTES, ⟨20, 0, .RW, .P, 0⟩),
  (.GLB_BOOT_TIME_US, ⟨31, 0, .RO, .P, 0⟩)]

/-- The rows of the fields, in the order of Fld, part 14. -/
def fldTable14 : List (Fld × FldDesc) := [
  (.GLB_POR_COUNT_COUNT, ⟨31, 0, .RO, .A, 0⟩),
  (.SEQ_BINDER_ENABLE_EN, ⟨7, 0, .RW, .P, 255⟩),
  (.SEQ_BINDER_ONLINE_ONLINE, ⟨7, 0, .RO, .P, 0⟩),
  (.SEQ_CFG_REFUSED_COUNT_COUNT, ⟨31, 0, .SAT, .P, 0⟩),
  (.SEQ_RESTART_COUNT_COUNT, ⟨31, 0, .SAT, .P, 0⟩),
  (.SEQ_PATCH_CORRECTED_COUNT_COUNT, ⟨31, 0, .SAT, .P, 0⟩),
  (.SEQ_MICROCODE_FAULT_COUNT_COUNT, ⟨31, 0, .SAT, .P, 0⟩),
  (.SEQ_PATCH_INFO_WORDS, ⟨28, 16, .RO, .P, 0⟩),
  (.SEQ_PATCH_INFO_MATCH, ⟨5, 0, .RO, .P, 0⟩),
  (.SEQ_MATCH_EN, ⟨31, 31, .RO, .P, 0⟩),
  (.SEQ_MATCH_TARGET, ⟨27, 16, .RO, .P, 0⟩),
  (.SEQ_MATCH_ADDR, ⟨15, 0, .RO, .P, 0⟩),
  (.SEQ_BINDER_STATUS_STATE, ⟨31, 28, .RO, .P, 0⟩),
  (.SEQ_BINDER_STATUS_THREADS, ⟨20, 16, .RO, .P, 0⟩),
  (.SEQ_FAULT_INFO_VALID, ⟨31, 31, .W1C, .P, 0⟩),
  (.SEQ_FAULT_INFO_PRECISE, ⟨30, 30, .RO, .P, 0⟩),
  (.SEQ_FAULT_INFO_THREAD, ⟨27, 24, .RO, .P, 0⟩),
  (.SEQ_FAULT_INFO_MADDR, ⟨23, 8, .RO, .P, 0⟩),
  (.SEQ_FAULT_INFO_CAUSE, ⟨7, 0, .RO, .P, 0⟩),
  (.DMA_BAD_DESC_COUNT_COUNT, ⟨31, 0, .SAT, .P, 0⟩),
  (.DMA_CANCEL_COUNT_COUNT, ⟨31, 0, .SAT, .P, 0⟩),
  (.DMA_SRAM_CORRECTED_COUNT_COUNT, ⟨31, 0, .SAT, .P, 0⟩),
  (.DMA_BYTES_COUNT, ⟨63, 0, .SAT, .P, 0⟩),
  (.DMA_CHAN_STATUS_STATE, ⟨31, 28, .RO, .P, 0⟩)]

/-- The rows of the fields, in the order of Fld, part 15. -/
def fldTable15 : List (Fld × FldDesc) := [
  (.DMA_CHAN_STATUS_HEAD, ⟨23, 16, .RO, .P, 0⟩),
  (.DMA_CHAN_STATUS_PENDING, ⟨8, 0, .RO, .P, 0⟩),
  (.LMC_STATUS_STATE, ⟨31, 28, .RO, .P, 0⟩),
  (.LMC_STATUS_RATE, ⟨15, 0, .RO, .P, 0⟩),
  (.LMC_CONFIG_RANKS2, ⟨5, 5, .RO, .P, 0⟩),
  (.LMC_CONFIG_GIB, ⟨4, 0, .RO, .P, 0⟩),
  (.LMC_LINK_CORRECTED_COUNT_COUNT, ⟨31, 0, .SAT, .P, 0⟩),
  (.LMC_MAC_FAIL_COUNT_COUNT, ⟨31, 0, .SAT, .P, 0⟩),
  (.LMC_AREA_FULL_COUNT_COUNT, ⟨31, 0, .SAT, .P, 0⟩),
  (.LMC_PROTECTED_BYTES_COUNT, ⟨63, 0, .SAT, .P, 0⟩),
  (.TMP_STATUS_LOCKDOWN, ⟨31, 31, .RO, .A, 0⟩),
  (.TMP_STATUS_HALTED, ⟨30, 30, .RO, .P, 0⟩),
  (.TMP_STATUS_BBK_LOST, ⟨29, 29, .W1C, .P, 0⟩),
  (.TMP_STATUS_BBK_CAUSE, ⟨28, 27, .RO, .P, 0⟩),
  (.TMP_STATUS_COUNT_SATURATED, ⟨26, 26, .RO, .O, 0⟩),
  (.TMP_STATUS_EVIDENCE_PENDING, ⟨25, 25, .RO, .A, 0⟩),
  (.TMP_CTRL_CONFIRM, ⟨31, 16, .WO, .none, 0⟩),
  (.TMP_CTRL_RESP_LOCK, ⟨3, 3, .W1S, .A, 0⟩),
  (.TMP_CTRL_UNLOCK, ⟨2, 2, .WO, .none, 0⟩),
  (.TMP_CTRL_RESUME, ⟨1, 1, .WO, .none, 0⟩),
  (.TMP_OTP_COUNT_COUNT, ⟨11, 0, .RO, .O, 0⟩),
  (.TMP_PENDING_COUNT, ⟨23, 16, .RO, .A, 0⟩),
  (.TMP_PENDING_LOCKDOWN, ⟨6, 6, .RO, .A, 0⟩),
  (.TMP_AO_FILL_ENTRIES, ⟨5, 0, .RO, .A, 0⟩)]

/-- The rows of the fields, in the order of Fld, part 16. -/
def fldTable16 : List (Fld × FldDesc) := [
  (.TMP_EVENT_COUNT_COUNT, ⟨31, 0, .SAT, .A, 0⟩),
  (.TMP_DISAGREE_COUNT_COUNT, ⟨31, 0, .SAT, .P, 0⟩),
  (.TMP_FABRIC_CODE_COUNT_COUNT, ⟨31, 0, .SAT, .P, 0⟩),
  (.TMP_EXT_CFG_MODE, ⟨7, 0, .RWL, .A, 0⟩),
  (.TMP_CFG_REFUSED_COUNT_COUNT, ⟨31, 0, .SAT, .P, 0⟩),
  (.TMP_SRC_RESP_MIN, ⟨15, 8, .RO, .O, 0⟩),
  (.TMP_SRC_RESP_RESP, ⟨7, 0, .RWL, .A, 0⟩),
  (.TMP_SRC_STATUS_RAISED, ⟨31, 31, .W1C, .A, 0⟩),
  (.TMP_SRC_STATUS_DETECTORS, ⟨30, 29, .RO, .A, 0⟩),
  (.TMP_SRC_STATUS_ACTIVE, ⟨28, 28, .RO, .P, 0⟩),
  (.TMP_SRC_STATUS_COUNT, ⟨15, 0, .SAT, .A, 0⟩),
  (.TMP_AO_BUF_ENTRY, ⟨127, 0, .RO, .A, 0⟩),
  (.LCO_STATE_TRANSITION, ⟨31, 31, .RO, .P, 0⟩),
  (.LCO_STATE_INTENT_PENDING, ⟨30, 30, .RO, .O, 0⟩),
  (.LCO_STATE_WINDOW_OPEN, ⟨29, 29, .RO, .O, 0⟩),
  (.LCO_STATE_COPY_OK, ⟨18, 16, .RO, .O, 0⟩),
  (.LCO_STATE_DIAG_LEFT, ⟨12, 8, .RO, .O, 0⟩),
  (.LCO_STATE_STATE, ⟨3, 0, .RO, .O, 0⟩),
  (.LCO_TRANSITION_CONFIRM, ⟨31, 16, .WO, .none, 0⟩),
  (.LCO_TRANSITION_TARGET, ⟨3, 0, .WO, .none, 0⟩),
  (.LCO_DIAG_TOKEN_TOKEN, ⟨31, 0, .WO, .none, 0⟩),
  (.LCO_DIAG_ENTER_CONFIRM, ⟨31, 16, .WO, .none, 0⟩),
  (.LCO_DIAG_ENTER_SLOT, ⟨3, 0, .WO, .none, 0⟩),
  (.LCO_OTP_STATUS_BUSY, ⟨31, 31, .RO, .P, 0⟩)]

/-- The rows of the fields, in the order of Fld, part 17. -/
def fldTable17 : List (Fld × FldDesc) := [
  (.LCO_OTP_STATUS_BRACED, ⟨30, 30, .RO, .P, 0⟩),
  (.LCO_OTP_STATUS_QUEUED, ⟨7, 0, .RO, .P, 0⟩),
  (.LCO_FIELD_STATUS_WORD, ⟨9, 0, .RO, .P, 0⟩),
  (.LCO_FIELD_STATUS_ABANDONED, ⟨21, 16, .RO, .O, 0⟩),
  (.LCO_PROV_DATA_DATA, ⟨31, 0, .WO, .none, 0⟩),
  (.LCO_PROV_CTRL_CONFIRM, ⟨31, 16, .WO, .none, 0⟩),
  (.LCO_PROV_CTRL_CLOSE, ⟨9, 9, .WO, .none, 0⟩),
  (.LCO_PROV_CTRL_GO, ⟨8, 8, .WO, .none, 0⟩),
  (.LCO_PROV_CTRL_FIELD, ⟨3, 0, .WO, .none, 0⟩),
  (.LCO_OTP_WRITE_COUNT_COUNT, ⟨31, 0, .SAT, .P, 0⟩),
  (.LCO_OTP_RETRY_COUNT_COUNT, ⟨31, 0, .SAT, .P, 0⟩),
  (.LCO_ROLLFORWARD_COUNT_COUNT, ⟨31, 0, .SAT, .P, 0⟩),
  (.LCO_CFG_REFUSED_COUNT_COUNT, ⟨31, 0, .SAT, .P, 0⟩),
  (.PWR_STATUS_STATE, ⟨31, 30, .RO, .P, 0⟩),
  (.PWR_STATUS_BRACE, ⟨29, 29, .RO, .P, 0⟩),
  (.PWR_STATUS_POLICY_LIMITED, ⟨28, 28, .RO, .P, 0⟩),
  (.PWR_STATUS_THERMAL_LIMITED, ⟨27, 27, .RO, .P, 0⟩),
  (.PWR_STATUS_VBAT_LOW, ⟨26, 26, .RO, .A, 0⟩),
  (.PWR_STATUS_DISPATCH_HELD, ⟨25, 25, .RO, .P, 0⟩),
  (.PWR_STATUS_K, ⟨20, 16, .RO, .P, 16⟩),
  (.PWR_STATUS_BRACE_RAILS, ⟨2, 0, .RO, .P, 0⟩),
  (.PWR_CTRL_DOZE_EN, ⟨1, 1, .RW, .P, 1⟩),
  (.PWR_CTRL_IDLE_EN, ⟨0, 0, .RW, .P, 1⟩),
  (.PWR_POWER_LIMIT_W, ⟨5, 0, .RW, .P, 35⟩)]

/-- The rows of the fields, in the order of Fld, part 18. -/
def fldTable18 : List (Fld × FldDesc) := [
  (.PWR_POWER_NOW_CW, ⟨15, 0, .RO, .P, 0⟩),
  (.PWR_IDLE_DELAY_US, ⟨9, 0, .RW, .P, 10⟩),
  (.PWR_DOZE_DELAY_US, ⟨15, 0, .RW, .P, 1000⟩),
  (.PWR_TEMP_T, ⟨15, 0, .RO, .P, 0⟩),
  (.PWR_VBAT_MV_MV, ⟨11, 0, .RO, .A, 0⟩),
  (.PWR_WAKE_EN_EN, ⟨2, 0, .RW, .A, 0⟩),
  (.PWR_WAKE_CAUSE_CAUSE, ⟨2, 0, .W1C, .A, 0⟩),
  (.PWR_WAKE_TIME_SECONDS, ⟨47, 0, .RW, .A, 0⟩),
  (.PWR_SUPPLY_EVENT_COUNT_COUNT, ⟨31, 0, .SAT, .P, 0⟩),
  (.PWR_POLICY_LIMIT_COUNT_COUNT, ⟨31, 0, .SAT, .P, 0⟩),
  (.PWR_THERMAL_COUNT_COUNT, ⟨31, 0, .SAT, .P, 0⟩),
  (.PWR_DOZE_COUNT_COUNT, ⟨31, 0, .SAT, .P, 0⟩),
  (.PWR_SWITCH_COUNT_COUNT, ⟨31, 0, .SAT, .A, 0⟩),
  (.BLK_ERR_STATUS_CAUSE, ⟨31, 0, .W1C, .P, 0⟩),
  (.BLK_ERR_FIRST_CAUSE, ⟨63, 56, .RO, .P, 0⟩),
  (.BLK_ERR_FIRST_UNIT, ⟨55, 48, .RO, .P, 0⟩),
  (.BLK_ERR_FIRST_SYNDROME, ⟨47, 0, .RO, .P, 0⟩),
  (.BLK_ERR_MERGED_COUNT, ⟨31, 0, .SAT, .P, 0⟩),
  (.BLK_ERR_COUNT_COUNT, ⟨31, 0, .SAT, .P, 0⟩),
  (.BLK_ERR_IRQ_EN_EN, ⟨31, 0, .RW, .P, 4294967295⟩),
  (.BLK_RECOVERY_COUNT_COUNT, ⟨31, 0, .RO, .P, 0⟩),
  (.BLK_RECOVERY_LIMIT_LIMIT, ⟨31, 0, .RW, .P, 0⟩),
  (.BLK_QUIET_TIME_MS, ⟨31, 0, .RW, .P, 0⟩),
  (.BLK_ERR_CLEAR_REFUSED_COUNT, ⟨31, 0, .SAT, .P, 0⟩)]

/-- The rows of the fields, in the order of Fld, part 19. -/
def fldTable19 : List (Fld × FldDesc) := [
  (.SMB_ALERT_EN_EN, ⟨5, 0, .RW, .P, 63⟩),
  (.SMB_ALERT_STATUS_ALERT, ⟨5, 0, .W1C, .P, 0⟩),
  (.SMB_TEMP_HIGH_T, ⟨15, 0, .RW, .P, 1600⟩),
  (.SMB_STATUS_ADDR, ⟨6, 0, .RO, .P, 0⟩),
  (.SMB_MIRROR_VALUE, ⟨31, 0, .RO, .P, 0⟩),
  (.SLC_SLICE_WEIGHTS_MAR, ⟨7, 0, .RW, .F, 16⟩),
  (.SLC_SLICE_WEIGHTS_CDE, ⟨15, 8, .RW, .F, 16⟩),
  (.SLC_SLICE_WEIGHTS_BGN, ⟨23, 16, .RW, .F, 16⟩),
  (.SLC_SLICE_WEIGHTS_STR, ⟨31, 24, .RW, .F, 16⟩),
  (.SLC_MBX_PENDING_BITS, ⟨31, 0, .RO, .F, 0⟩),
  (.GLB_CFG_REFUSED_COUNT_COUNT, ⟨31, 0, .SAT, .P, 0⟩),
  (.BLK_ID_VECTOR, ⟨31, 24, .RO, .P, 0⟩),
  (.BLK_ID_REVISION, ⟨23, 16, .RO, .P, 1⟩),
  (.BLK_ID_PART, ⟨15, 0, .RO, .P, 18454⟩),
  (.MSIX_ADDR_ADDR, ⟨63, 2, .RW, .F, 0⟩),
  (.MSIX_DATA_DATA, ⟨31, 0, .RW, .F, 0⟩),
  (.MSIX_CTRL_MASK, ⟨0, 0, .RW, .F, 1⟩),
  (.MSIX_PBA_BITS, ⟨63, 0, .RO, .F, 0⟩),
  (.SMB_PROTOCOL_COUNT_COUNT, ⟨31, 0, .SAT, .P, 0⟩)]

/-- Part k of the rows of the fields: 24 rows each, in the order of their numbers. -/
def fldPart (k : Nat) : List (Fld × FldDesc) :=
  match k with
  | 0 => fldTable0
  | 1 => fldTable1
  | 2 => fldTable2
  | 3 => fldTable3
  | 4 => fldTable4
  | 5 => fldTable5
  | 6 => fldTable6
  | 7 => fldTable7
  | 8 => fldTable8
  | 9 => fldTable9
  | 10 => fldTable10
  | 11 => fldTable11
  | 12 => fldTable12
  | 13 => fldTable13
  | 14 => fldTable14
  | 15 => fldTable15
  | 16 => fldTable16
  | 17 => fldTable17
  | 18 => fldTable18
  | _ => fldTable19

/-- The rows of the registers, in the order of Reg, part 0. -/
def regTable0 : List (Reg × RegDesc × List Fld) := [
  (.PCI_LINK_STATUS, ⟨0, 65792, 0, 1, false⟩, [.PCI_LINK_STATUS_PM_STATE, .PCI_LINK_STATUS_DEGRADED, .PCI_LINK_STATUS_WIDTH, .PCI_LINK_STATUS_SPEED]),
  (.PCI_LINK_CTRL, ⟨0, 65796, 0, 1, false⟩, [.PCI_LINK_CTRL_RETRAIN, .PCI_LINK_CTRL_AUTO_DOWNSPEED, .PCI_LINK_CTRL_MAX_SPEED]),
  (.PCI_LTR_BUSY, ⟨0, 65808, 0, 1, false⟩, [.PCI_LTR_BUSY_LATENCY_NS]),
  (.PCI_LTR_IDLE, ⟨0, 65812, 0, 1, false⟩, [.PCI_LTR_IDLE_LATENCY_NS]),
  (.PCI_RX_ERR_COUNT, ⟨0, 65824, 0, 1, false⟩, [.PCI_RX_ERR_COUNT_COUNT]),
  (.PCI_REPLAY_COUNT, ⟨0, 65828, 0, 1, false⟩, [.PCI_REPLAY_COUNT_COUNT]),
  (.PCI_DOWNSPEED_COUNT, ⟨0, 65832, 0, 1, false⟩, [.PCI_DOWNSPEED_COUNT_COUNT]),
  (.PCI_MMIO_BAD_COUNT, ⟨0, 65840, 0, 1, false⟩, [.PCI_MMIO_BAD_COUNT_COUNT]),
  (.PCI_PTM_LAST, ⟨0, 65856, 0, 1, true⟩, [.PCI_PTM_LAST_T1_NS]),
  (.SLC_SLICE_CTRL, ⟨0, 5242880, 64, 4096, false⟩, [.SLC_SLICE_CTRL_STATE, .SLC_SLICE_CTRL_CFG_STATUS, .SLC_SLICE_CTRL_NEW_ROUND, .SLC_SLICE_CTRL_RESET, .SLC_SLICE_CTRL_PAUSE, .SLC_SLICE_CTRL_LOG_EN, .SLC_SLICE_CTRL_ENABLE]),
  (.SLC_SLICE_PASID, ⟨0, 5242884, 64, 4096, false⟩, [.SLC_SLICE_PASID_PASID_PENDING, .SLC_SLICE_PASID_PASID_VALID, .SLC_SLICE_PASID_PASID]),
  (.SLC_SLICE_QUEUES, ⟨0, 5242888, 64, 4096, false⟩, [.SLC_SLICE_QUEUES_QCOUNT, .SLC_SLICE_QUEUES_QBASE]),
  (.SLC_SLICE_VECTORS, ⟨0, 5242892, 64, 4096, false⟩, [.SLC_SLICE_VECTORS_VCOUNT, .SLC_SLICE_VECTORS_VBASE]),
  (.SLC_SLICE_EVRINGS, ⟨0, 5242896, 64, 4096, false⟩, [.SLC_SLICE_EVRINGS_ECOUNT, .SLC_SLICE_EVRINGS_EBASE]),
  (.SLC_SLICE_KEYS, ⟨0, 5242904, 64, 4096, false⟩, [.SLC_SLICE_KEYS_KEY_QUOTA]),
  (.SLC_SLICE_KEYS_USED, ⟨0, 5242908, 64, 4096, false⟩, [.SLC_SLICE_KEYS_USED_KEY_USED]),
  (.SLC_SLICE_STREAMS, ⟨0, 5242912, 64, 4096, false⟩, [.SLC_SLICE_STREAMS_STREAM_USED, .SLC_SLICE_STREAMS_STREAM_QUOTA]),
  (.SLC_SLICE_SEAL_QUOTA, ⟨0, 5242916, 64, 4096, false⟩, [.SLC_SLICE_SEAL_QUOTA_BLOCKS]),
  (.SLC_SLICE_SEAL_USED, ⟨0, 5242920, 64, 4096, false⟩, [.SLC_SLICE_SEAL_USED_BLOCKS]),
  (.SLC_T_STATUS, ⟨2, 12288, 16384, 4096, false⟩, [.SLC_T_STATUS_STATE, .SLC_T_STATUS_PASID]),
  (.SLC_T_GRANT, ⟨2, 12292, 16384, 4096, false⟩, [.SLC_T_GRANT_QCOUNT, .SLC_T_GRANT_ECOUNT]),
  (.SLC_T_VECTORS, ⟨2, 12296, 16384, 4096, false⟩, [.SLC_T_VECTORS_VCOUNT]),
  (.SLC_T_MBX, ⟨2, 8704, 16384, 4096, false⟩, [.SLC_T_MBX_M2T_VECTOR, .SLC_T_MBX_M2T_IRQ_EN, .SLC_T_MBX_M2T_ACK, .SLC_T_MBX_M2T_FULL, .SLC_T_MBX_T2M_FULL, .SLC_T_MBX_T2M_SEND]),
  (.SLC_SLICE_MBX, ⟨0, 5242924, 64, 4096, false⟩, [.SLC_SLICE_MBX_M2T_SEND, .SLC_SLICE_MBX_M2T_FULL, .SLC_SLICE_MBX_T2M_ACK, .SLC_SLICE_MBX_T2M_FULL])]

/-- The rows of the registers, in the order of Reg, part 1. -/
def regTable1 : List (Reg × RegDesc × List Fld) := [
  (.SLC_SLICE_DPL_BASE, ⟨0, 5242928, 64, 4096, true⟩, [.SLC_SLICE_DPL_BASE_BASE, .SLC_SLICE_DPL_BASE_SIZE_LOG2]),
  (.SLC_SLICE_DPL_PROD, ⟨0, 5242936, 64, 4096, false⟩, [.SLC_SLICE_DPL_PROD_OVERFLOW, .SLC_SLICE_DPL_PROD_PROD]),
  (.SLC_SLICE_DPL_CONS, ⟨0, 5242940, 64, 4096, false⟩, [.SLC_SLICE_DPL_CONS_CONS]),
  (.SLC_CFG_REFUSED_COUNT, ⟨0, 131328, 0, 1, false⟩, [.SLC_CFG_REFUSED_COUNT_COUNT]),
  (.SLC_VEC_DROP_COUNT, ⟨0, 131332, 0, 1, false⟩, [.SLC_VEC_DROP_COUNT_COUNT]),
  (.SLC_MBX_DROP_COUNT, ⟨0, 131336, 0, 1, false⟩, [.SLC_MBX_DROP_COUNT_COUNT]),
  (.SLC_DPL_LOST_COUNT, ⟨0, 131340, 0, 1, false⟩, [.SLC_DPL_LOST_COUNT_COUNT]),
  (.QC_RING_BASE, ⟨0, 2097152, 128, 16384, true⟩, [.QC_RING_BASE_BASE, .QC_RING_BASE_SIZE_LOG2]),
  (.QC_HEAD_ADDR, ⟨0, 2097160, 128, 16384, true⟩, [.QC_HEAD_ADDR_ADDR]),
  (.QC_CTRL, ⟨0, 2097168, 128, 16384, false⟩, [.QC_CTRL_STATE, .QC_CTRL_WINDOW, .QC_CTRL_EVRING, .QC_CTRL_EV_MODE, .QC_CTRL_EV_EN, .QC_CTRL_RESET, .QC_CTRL_ENABLE]),
  (.QC_TAIL, ⟨0, 2097172, 128, 16384, false⟩, [.QC_TAIL_TAIL]),
  (.QC_HEAD, ⟨0, 2097176, 128, 16384, false⟩, [.QC_HEAD_WRAP, .QC_HEAD_HEAD]),
  (.QC_DONE, ⟨0, 2097180, 128, 16384, false⟩, [.QC_DONE_DONE]),
  (.QC_STATUS, ⟨0, 2097184, 128, 16384, false⟩, [.QC_STATUS_PARKED, .QC_STATUS_OWN_WAIT, .QC_STATUS_INFLIGHT]),
  (.QC_BAD_DOORBELL_COUNT, ⟨0, 2097188, 128, 16384, false⟩, [.QC_BAD_DOORBELL_COUNT_COUNT]),
  (.QC_OWN_MISS_COUNT, ⟨0, 2097192, 128, 16384, false⟩, [.QC_OWN_MISS_COUNT_COUNT]),
  (.EVR_BASE, ⟨0, 6291456, 64, 4096, true⟩, [.EVR_BASE_BASE, .EVR_BASE_SIZE_LOG2]),
  (.EVR_HEAD_ADDR, ⟨0, 6291464, 64, 4096, true⟩, [.EVR_HEAD_ADDR_ADDR]),
  (.EVR_CTRL, ⟨0, 6291472, 64, 4096, false⟩, [.EVR_CTRL_VECTOR, .EVR_CTRL_COAL_TIME, .EVR_CTRL_COAL_COUNT, .EVR_CTRL_IRQ_EN, .EVR_CTRL_ENABLE]),
  (.EVR_PROD, ⟨0, 6291476, 64, 4096, false⟩, [.EVR_PROD_OVERFLOW, .EVR_PROD_PROD]),
  (.EVR_CONS, ⟨0, 6291480, 64, 4096, false⟩, [.EVR_CONS_CONS]),
  (.EVR_LOST_COUNT, ⟨0, 6291484, 64, 4096, false⟩, [.EVR_LOST_COUNT_COUNT]),
  (.EVR_T_CONS, ⟨2, 12544, 8, 256, false⟩, [.EVR_T_CONS_CONS]),
  (.EVR_T_STATUS, ⟨2, 12548, 8, 256, false⟩, [.EVR_T_STATUS_OVERFLOW, .EVR_T_STATUS_PROD])]

/-- The rows of the registers, in the order of Reg, part 2. -/
def regTable2 : List (Reg × RegDesc × List Fld) := [
  (.QE_BAD_DOORBELL_COUNT, ⟨0, 196864, 0, 1, false⟩, [.QE_BAD_DOORBELL_COUNT_COUNT]),
  (.QE_CFG_REFUSED_COUNT, ⟨0, 196868, 0, 1, false⟩, [.QE_CFG_REFUSED_COUNT_COUNT]),
  (.QE_SC_BAD_COMPLETE_COUNT, ⟨0, 196872, 0, 1, false⟩, [.QE_SC_BAD_COMPLETE_COUNT_COUNT]),
  (.QE_EV_NOROUTE_COUNT, ⟨0, 196876, 0, 1, false⟩, [.QE_EV_NOROUTE_COUNT_COUNT]),
  (.QE_EVR_BAD_CONS_COUNT, ⟨0, 196880, 0, 1, false⟩, [.QE_EVR_BAD_CONS_COUNT_COUNT]),
  (.QE_SC_BASE, ⟨0, 197120, 64, 4, true⟩, [.QE_SC_BASE_BASE, .QE_SC_BASE_SIZE_LOG2]),
  (.QE_SC_CTRL, ⟨0, 197128, 64, 4, false⟩, [.QE_SC_CTRL_VECTOR, .QE_SC_CTRL_HOLDOFF, .QE_SC_CTRL_ENABLE]),
  (.QE_SC_PROD, ⟨0, 197132, 64, 4, false⟩, [.QE_SC_PROD_PROD]),
  (.QE_SC_COMPLETE, ⟨0, 197136, 64, 4, true⟩, [.QE_SC_COMPLETE_TAG, .QE_SC_COMPLETE_STATUS]),
  (.QE_SC_OUTSTANDING, ⟨0, 197144, 64, 4, false⟩, [.QE_SC_OUTSTANDING_COUNT]),
  (.QE_SC_TIMEOUT, ⟨0, 197148, 64, 4, false⟩, [.QE_SC_TIMEOUT_MS]),
  (.SCH_CREDIT_TOTAL, ⟨0, 327936, 4, 5, false⟩, [.SCH_CREDIT_TOTAL_TOTAL]),
  (.SCH_CREDIT_FREE, ⟨0, 327968, 4, 5, false⟩, [.SCH_CREDIT_FREE_FREE]),
  (.SCH_RESERVE_USE_COUNT, ⟨0, 328000, 4, 5, false⟩, [.SCH_RESERVE_USE_COUNT_COUNT]),
  (.SCH_SENIOR_STAMP, ⟨0, 328032, 0, 1, true⟩, [.SCH_SENIOR_STAMP_STAMP]),
  (.SCH_SENIOR_QUEUE, ⟨0, 328040, 0, 1, false⟩, [.SCH_SENIOR_QUEUE_VALID, .SCH_SENIOR_QUEUE_QUEUE]),
  (.SCH_PARK_USED, ⟨0, 328048, 0, 1, false⟩, [.SCH_PARK_USED_SLOTS]),
  (.SCH_PARK_HOLD_COUNT, ⟨0, 328052, 0, 1, false⟩, [.SCH_PARK_HOLD_COUNT_COUNT]),
  (.SCH_QUANTUM, ⟨0, 328064, 4, 5, false⟩, [.SCH_QUANTUM_QUANTUM]),
  (.SCH_REEXEC_COUNT, ⟨0, 328096, 0, 1, false⟩, [.SCH_REEXEC_COUNT_COUNT]),
  (.SCH_ABORT_COUNT, ⟨0, 328100, 0, 1, false⟩, [.SCH_ABORT_COUNT_COUNT]),
  (.SCH_FLUSH_COUNT, ⟨0, 328104, 0, 1, false⟩, [.SCH_FLUSH_COUNT_COUNT]),
  (.SCH_STAMP_NEXT, ⟨0, 328112, 0, 1, true⟩, [.SCH_STAMP_NEXT_STAMP]),
  (.MAR_CORE_ENABLE, ⟨0, 393472, 0, 1, false⟩, [.MAR_CORE_ENABLE_EN])]

/-- The rows of the registers, in the order of Reg, part 3. -/
def regTable3 : List (Reg × RegDesc × List Fld) := [
  (.MAR_CORE_ONLINE, ⟨0, 393476, 0, 1, false⟩, [.MAR_CORE_ONLINE_ONLINE]),
  (.MAR_CFG_REFUSED_COUNT, ⟨0, 393480, 0, 1, false⟩, [.MAR_CFG_REFUSED_COUNT_COUNT]),
  (.MAR_ECC_CORRECTED_COUNT, ⟨0, 393488, 0, 1, false⟩, [.MAR_ECC_CORRECTED_COUNT_COUNT]),
  (.MAR_ECC_UNCORRECTED_COUNT, ⟨0, 393492, 0, 1, false⟩, [.MAR_ECC_UNCORRECTED_COUNT_COUNT]),
  (.MAR_CORE_RESET_COUNT, ⟨0, 393496, 0, 1, false⟩, [.MAR_CORE_RESET_COUNT_COUNT]),
  (.MAR_TAG_FAULT_COUNT, ⟨0, 393500, 0, 1, false⟩, [.MAR_TAG_FAULT_COUNT_COUNT]),
  (.MAR_SUSPEND_COUNT, ⟨0, 393504, 0, 1, false⟩, [.MAR_SUSPEND_COUNT_COUNT]),
  (.MAR_TEAM_HOLD_COUNT, ⟨0, 393508, 0, 1, false⟩, [.MAR_TEAM_HOLD_COUNT_COUNT]),
  (.MAR_IMAGE_VERSION, ⟨0, 393520, 0, 1, false⟩, [.MAR_IMAGE_VERSION_VERSION]),
  (.MAR_KREGION_FREE, ⟨0, 393524, 0, 1, false⟩, [.MAR_KREGION_FREE_BUNDLES]),
  (.MAR_SCRATCH_FREE, ⟨0, 393984, 4, 4, false⟩, [.MAR_SCRATCH_FREE_PAGES]),
  (.MAR_CORE_STATUS, ⟨0, 393728, 4, 32, false⟩, [.MAR_CORE_STATUS_STATE, .MAR_CORE_STATUS_RUN_SLOT, .MAR_CORE_STATUS_SUSPENDED, .MAR_CORE_STATUS_SCRUBBING, .MAR_CORE_STATUS_DRAINING, .MAR_CORE_STATUS_READY, .MAR_CORE_STATUS_LOADING, .MAR_CORE_STATUS_FREE]),
  (.MAR_KERNEL_FAULT_COUNT, ⟨0, 393512, 0, 1, false⟩, [.MAR_KERNEL_FAULT_COUNT_COUNT]),
  (.MAR_FAULT_INFO, ⟨0, 394240, 16, 32, false⟩, [.MAR_FAULT_INFO_VALID, .MAR_FAULT_INFO_PRECISE, .MAR_FAULT_INFO_ENGINE, .MAR_FAULT_INFO_LANE, .MAR_FAULT_INFO_SOCKET, .MAR_FAULT_INFO_CAUSE]),
  (.MAR_FAULT_PC, ⟨0, 394244, 16, 32, false⟩, [.MAR_FAULT_PC_KERNEL, .MAR_FAULT_PC_SLOT, .MAR_FAULT_PC_BUNDLE]),
  (.MAR_FAULT_RESUME, ⟨0, 394248, 16, 32, false⟩, [.MAR_FAULT_RESUME_GO, .MAR_FAULT_RESUME_START_LANE]),
  (.HSH_CORE_ENABLE, ⟨0, 459008, 0, 1, false⟩, [.HSH_CORE_ENABLE_EN]),
  (.HSH_CORE_ONLINE, ⟨0, 459012, 0, 1, false⟩, [.HSH_CORE_ONLINE_ONLINE]),
  (.HSH_CFG_REFUSED_COUNT, ⟨0, 459016, 0, 1, false⟩, [.HSH_CFG_REFUSED_COUNT_COUNT]),
  (.HSH_STREAM_LIMIT, ⟨0, 459020, 0, 1, false⟩, [.HSH_STREAM_LIMIT_BLOCKS]),
  (.HSH_SESSIONS_OPEN, ⟨0, 459024, 0, 1, false⟩, [.HSH_SESSIONS_OPEN_COUNT]),
  (.HSH_CHECK_ERROR_COUNT, ⟨0, 459028, 0, 1, false⟩, [.HSH_CHECK_ERROR_COUNT_COUNT]),
  (.HSH_CALL_RETRY_COUNT, ⟨0, 459032, 0, 1, false⟩, [.HSH_CALL_RETRY_COUNT_COUNT]),
  (.HSH_SESSION_FAIL_COUNT, ⟨0, 459036, 0, 1, false⟩, [.HSH_SESSION_FAIL_COUNT_COUNT])]

/-- The rows of the registers, in the order of Reg, part 4. -/
def regTable4 : List (Reg × RegDesc × List Fld) := [
  (.HSH_STORE_CORRECTED_COUNT, ⟨0, 459040, 0, 1, false⟩, [.HSH_STORE_CORRECTED_COUNT_COUNT]),
  (.HSH_BORROW_COUNT, ⟨0, 459044, 0, 1, false⟩, [.HSH_BORROW_COUNT_COUNT]),
  (.HSH_MASK_STALL_COUNT, ⟨0, 459048, 0, 1, false⟩, [.HSH_MASK_STALL_COUNT_COUNT]),
  (.HSH_CORE_OFFLINE_COUNT, ⟨0, 459052, 0, 1, false⟩, [.HSH_CORE_OFFLINE_COUNT_COUNT]),
  (.HSH_CALL_COUNT, ⟨0, 459264, 8, 4, true⟩, [.HSH_CALL_COUNT_COUNT]),
  (.CDE_UNIT_ENABLE, ⟨0, 524544, 0, 1, false⟩, [.CDE_UNIT_ENABLE_EN]),
  (.CDE_UNIT_ONLINE, ⟨0, 524548, 0, 1, false⟩, [.CDE_UNIT_ONLINE_ONLINE]),
  (.CDE_CFG_REFUSED_COUNT, ⟨0, 524552, 0, 1, false⟩, [.CDE_CFG_REFUSED_COUNT_COUNT]),
  (.CDE_ECC_CORRECTED_COUNT, ⟨0, 524560, 0, 1, false⟩, [.CDE_ECC_CORRECTED_COUNT_COUNT]),
  (.CDE_ECC_UNCORRECTED_COUNT, ⟨0, 524564, 0, 1, false⟩, [.CDE_ECC_UNCORRECTED_COUNT_COUNT]),
  (.CDE_CHECK_ERROR_COUNT, ⟨0, 524568, 0, 1, false⟩, [.CDE_CHECK_ERROR_COUNT_COUNT]),
  (.CDE_UNIT_RESET_COUNT, ⟨0, 524572, 0, 1, false⟩, [.CDE_UNIT_RESET_COUNT_COUNT]),
  (.CDE_KEYGEN_COUNT, ⟨0, 524576, 0, 1, false⟩, [.CDE_KEYGEN_COUNT_COUNT]),
  (.CDE_KEYGEN_ATTEMPT_COUNT, ⟨0, 524580, 0, 1, false⟩, [.CDE_KEYGEN_ATTEMPT_COUNT_COUNT]),
  (.CDE_KEYGEN_REPLACED_SEED_COUNT, ⟨0, 524584, 0, 1, false⟩, [.CDE_KEYGEN_REPLACED_SEED_COUNT_COUNT]),
  (.CDE_PCT_FAIL_COUNT, ⟨0, 524588, 0, 1, false⟩, [.CDE_PCT_FAIL_COUNT_COUNT]),
  (.CDE_UNIT_STATUS, ⟨0, 524800, 4, 3, false⟩, [.CDE_UNIT_STATUS_STATE, .CDE_UNIT_STATUS_SET, .CDE_UNIT_STATUS_PARAMSET, .CDE_UNIT_STATUS_BUSY]),
  (.BGN_MUL_ENABLE, ⟨0, 590080, 0, 1, false⟩, [.BGN_MUL_ENABLE_EN]),
  (.BGN_MUL_ONLINE, ⟨0, 590084, 0, 1, false⟩, [.BGN_MUL_ONLINE_ONLINE]),
  (.BGN_CFG_REFUSED_COUNT, ⟨0, 590088, 0, 1, false⟩, [.BGN_CFG_REFUSED_COUNT_COUNT]),
  (.BGN_ECC_CORRECTED_COUNT, ⟨0, 590096, 0, 1, false⟩, [.BGN_ECC_CORRECTED_COUNT_COUNT]),
  (.BGN_ECC_UNCORRECTED_COUNT, ⟨0, 590100, 0, 1, false⟩, [.BGN_ECC_UNCORRECTED_COUNT_COUNT]),
  (.BGN_CHECK_ERROR_COUNT, ⟨0, 590104, 0, 1, false⟩, [.BGN_CHECK_ERROR_COUNT_COUNT]),
  (.BGN_COMPARE_MISMATCH_COUNT, ⟨0, 590108, 0, 1, false⟩, [.BGN_COMPARE_MISMATCH_COUNT_COUNT])]

/-- The rows of the registers, in the order of Reg, part 5. -/
def regTable5 : List (Reg × RegDesc × List Fld) := [
  (.BGN_INPUT_REJECT_COUNT, ⟨0, 590112, 0, 1, false⟩, [.BGN_INPUT_REJECT_COUNT_COUNT]),
  (.BGN_SECRET_REJECT_COUNT, ⟨0, 590116, 0, 1, false⟩, [.BGN_SECRET_REJECT_COUNT_COUNT]),
  (.BGN_ERASE_COUNT, ⟨0, 590120, 0, 1, false⟩, [.BGN_ERASE_COUNT_COUNT]),
  (.BGN_ERASE_LAST, ⟨0, 590124, 0, 1, false⟩, [.BGN_ERASE_LAST_FC]),
  (.BGN_BLIND_REKEY_COUNT, ⟨0, 590128, 0, 1, false⟩, [.BGN_BLIND_REKEY_COUNT_COUNT]),
  (.BGN_MUL_STATUS, ⟨0, 590336, 4, 4, false⟩, [.BGN_MUL_STATUS_STATE, .BGN_MUL_STATUS_SLOTS]),
  (.STR_PIPE_ENABLE, ⟨0, 655616, 0, 1, false⟩, [.STR_PIPE_ENABLE_EN]),
  (.STR_PIPE_ONLINE, ⟨0, 655620, 0, 1, false⟩, [.STR_PIPE_ONLINE_ONLINE]),
  (.STR_CFG_REFUSED_COUNT, ⟨0, 655624, 0, 1, false⟩, [.STR_CFG_REFUSED_COUNT_COUNT]),
  (.STR_SLICE_BYTES, ⟨0, 655628, 0, 1, false⟩, [.STR_SLICE_BYTES_BYTES]),
  (.STR_CHECK_ERROR_COUNT, ⟨0, 655632, 0, 1, false⟩, [.STR_CHECK_ERROR_COUNT_COUNT]),
  (.STR_TAG_MISMATCH_COUNT, ⟨0, 655636, 0, 1, false⟩, [.STR_TAG_MISMATCH_COUNT_COUNT]),
  (.STR_YIELD_COUNT, ⟨0, 655640, 0, 1, false⟩, [.STR_YIELD_COUNT_COUNT]),
  (.STR_ERASE_COUNT, ⟨0, 655644, 0, 1, false⟩, [.STR_ERASE_COUNT_COUNT]),
  (.STR_ERASE_LAST, ⟨0, 655648, 0, 1, false⟩, [.STR_ERASE_LAST_FC]),
  (.STR_PIPE_BYTES, ⟨0, 655872, 8, 2, true⟩, [.STR_PIPE_BYTES_COUNT]),
  (.ENT_STATUS, ⟨0, 721152, 0, 1, false⟩, [.ENT_STATUS_READY, .ENT_STATUS_STATE, .ENT_STATUS_CELL_OK]),
  (.ENT_WAIT_LIMIT, ⟨0, 721156, 0, 1, false⟩, [.ENT_WAIT_LIMIT_MS]),
  (.ENT_CELL_ENABLE, ⟨0, 721160, 0, 1, false⟩, [.ENT_CELL_ENABLE_EN]),
  (.ENT_CFG_REFUSED_COUNT, ⟨0, 721164, 0, 1, false⟩, [.ENT_CFG_REFUSED_COUNT_COUNT]),
  (.ENT_RESTART_FAIL_COUNT, ⟨0, 721168, 0, 1, false⟩, [.ENT_RESTART_FAIL_COUNT_COUNT]),
  (.ENT_STALL_COUNT, ⟨0, 721172, 0, 1, false⟩, [.ENT_STALL_COUNT_COUNT]),
  (.ENT_TIMEOUT_COUNT, ⟨0, 721176, 0, 1, false⟩, [.ENT_TIMEOUT_COUNT_COUNT]),
  (.ENT_COND_COUNT, ⟨0, 721184, 0, 1, true⟩, [.ENT_COND_COUNT_COUNT])]

/-- The rows of the registers, in the order of Reg, part 6. -/
def regTable6 : List (Reg × RegDesc × List Fld) := [
  (.ENT_SW_DATA, ⟨0, 721200, 0, 1, true⟩, [.ENT_SW_DATA_DATA]),
  (.ENT_SW_STATUS, ⟨0, 721208, 0, 1, false⟩, [.ENT_SW_STATUS_CODE]),
  (.ENT_CELL_FAIL, ⟨0, 721408, 4, 8, false⟩, [.ENT_CELL_FAIL_LAST_TEST, .ENT_CELL_FAIL_COUNT]),
  (.ENT_DRBG_STATUS, ⟨0, 721664, 4, 8, false⟩, [.ENT_DRBG_STATUS_STALLED, .ENT_DRBG_STATUS_CALLS]),
  (.KV_STATUS, ⟨0, 786688, 0, 1, false⟩, [.KV_STATUS_OPEN, .KV_STATUS_BBK_VALID, .KV_STATUS_KEYS]),
  (.KV_HOT_USED, ⟨0, 786692, 0, 1, false⟩, [.KV_HOT_USED_LINES]),
  (.KV_WINDOW_BLOCKS, ⟨0, 786696, 0, 1, false⟩, [.KV_WINDOW_BLOCKS_BLOCKS]),
  (.KV_QUARANTINED_KEYS, ⟨0, 786700, 0, 1, false⟩, [.KV_QUARANTINED_KEYS_COUNT]),
  (.KV_HOT_MISS_COUNT, ⟨0, 786704, 0, 1, false⟩, [.KV_HOT_MISS_COUNT_COUNT]),
  (.KV_HOT_EVICT_COUNT, ⟨0, 786708, 0, 1, false⟩, [.KV_HOT_EVICT_COUNT_COUNT]),
  (.KV_HOT_CORRECTED_COUNT, ⟨0, 786712, 0, 1, false⟩, [.KV_HOT_CORRECTED_COUNT_COUNT]),
  (.KV_TABLE_FULL_COUNT, ⟨0, 786716, 0, 1, false⟩, [.KV_TABLE_FULL_COUNT_COUNT]),
  (.KV_RESERVE_COUNT, ⟨0, 786720, 0, 1, false⟩, [.KV_RESERVE_COUNT_COUNT]),
  (.KV_CEIL_WAIT_COUNT, ⟨0, 786724, 0, 1, false⟩, [.KV_CEIL_WAIT_COUNT_COUNT]),
  (.KV_TB_ERASED_COUNT, ⟨0, 786728, 0, 1, false⟩, [.KV_TB_ERASED_COUNT_COUNT]),
  (.KV_ABANDONED_INDICES, ⟨0, 786736, 0, 1, true⟩, [.KV_ABANDONED_INDICES_COUNT]),
  (.KV_EVENT, ⟨0, 786744, 0, 1, false⟩, [.KV_EVENT_TABLE_FULL, .KV_EVENT_TB_ERASED, .KV_EVENT_QUARANTINE, .KV_EVENT_CEIL_NEAR]),
  (.KV_EVENT_EN, ⟨0, 786748, 0, 1, false⟩, [.KV_EVENT_EN_EN]),
  (.QRE_STATUS, ⟨0, 852224, 0, 1, false⟩, [.QRE_STATUS_READY, .QRE_STATUS_OPEN]),
  (.QRE_STREAM_RELEASE, ⟨0, 852228, 0, 1, false⟩, [.QRE_STREAM_RELEASE_GO, .QRE_STREAM_RELEASE_STREAM]),
  (.QRE_CFG_REFUSED_COUNT, ⟨0, 852232, 0, 1, false⟩, [.QRE_CFG_REFUSED_COUNT_COUNT]),
  (.QRE_HOLD_COUNT, ⟨0, 852236, 0, 1, false⟩, [.QRE_HOLD_COUNT_COUNT]),
  (.QRE_APPEND_COUNT, ⟨0, 852240, 0, 1, true⟩, [.QRE_APPEND_COUNT_COUNT]),
  (.QRE_VOID_COUNT, ⟨0, 852248, 0, 1, false⟩, [.QRE_VOID_COUNT_COUNT])]

/-- The rows of the registers, in the order of Reg, part 7. -/
def regTable7 : List (Reg × RegDesc × List Fld) := [
  (.QRE_SHORT_COUNT, ⟨0, 852252, 0, 1, false⟩, [.QRE_SHORT_COUNT_COUNT]),
  (.QRE_JOURNAL_QUEUED, ⟨0, 852256, 0, 1, false⟩, [.QRE_JOURNAL_QUEUED_COUNT]),
  (.QRE_JOURNAL_DROP_COUNT, ⟨0, 852260, 0, 1, false⟩, [.QRE_JOURNAL_DROP_COUNT_COUNT]),
  (.QRE_STREAM_STATE, ⟨0, 852480, 16, 256, false⟩, [.QRE_STREAM_STATE_STATE, .QRE_STREAM_STATE_SHORT, .QRE_STREAM_STATE_HASH, .QRE_STREAM_STATE_OWNER]),
  (.QRE_STREAM_SIZE, ⟨0, 852488, 16, 256, true⟩, [.QRE_STREAM_SIZE_SIZE]),
  (.SEAL_STATUS, ⟨0, 917760, 0, 1, false⟩, [.SEAL_STATUS_STATE, .SEAL_STATUS_OPEN_RESULT, .SEAL_STATUS_BRACED, .SEAL_STATUS_EPOCH]),
  (.SEAL_CTRL, ⟨0, 917764, 0, 1, false⟩, [.SEAL_CTRL_CONFIRM, .SEAL_CTRL_FORMAT, .SEAL_CTRL_FORCE_OPEN, .SEAL_CTRL_OPEN]),
  (.SEAL_STORAGE_LIMIT, ⟨0, 917768, 0, 1, false⟩, [.SEAL_STORAGE_LIMIT_MS]),
  (.SEAL_RETRY_TIME, ⟨0, 917772, 0, 1, false⟩, [.SEAL_RETRY_TIME_MS]),
  (.SEAL_GROUP_TIME, ⟨0, 917776, 0, 1, false⟩, [.SEAL_GROUP_TIME_US]),
  (.SEAL_COMMIT, ⟨0, 917784, 0, 1, true⟩, [.SEAL_COMMIT_COMMIT]),
  (.SEAL_ANCHOR_COMMIT, ⟨0, 917792, 0, 1, true⟩, [.SEAL_ANCHOR_COMMIT_COMMIT]),
  (.SEAL_ANCHOR_STATUS, ⟨0, 917800, 0, 1, false⟩, [.SEAL_ANCHOR_STATUS_VALID, .SEAL_ANCHOR_STATUS_EPOCH]),
  (.SEAL_CFG_REFUSED_COUNT, ⟨0, 917808, 0, 1, false⟩, [.SEAL_CFG_REFUSED_COUNT_COUNT]),
  (.SEAL_FETCH_COUNT, ⟨0, 917812, 0, 1, false⟩, [.SEAL_FETCH_COUNT_COUNT]),
  (.SEAL_REPOST_COUNT, ⟨0, 917816, 0, 1, false⟩, [.SEAL_REPOST_COUNT_COUNT]),
  (.SEAL_INTEGRITY_FAIL_COUNT, ⟨0, 917820, 0, 1, false⟩, [.SEAL_INTEGRITY_FAIL_COUNT_COUNT]),
  (.SEAL_TIMEOUT_COUNT, ⟨0, 917824, 0, 1, false⟩, [.SEAL_TIMEOUT_COUNT_COUNT]),
  (.SEAL_SC_BUF, ⟨0, 918016, 8, 4, true⟩, [.SEAL_SC_BUF_BASE]),
  (.SEAL_RANGE_KV, ⟨0, 918272, 0, 1, true⟩, [.SEAL_RANGE_KV_SPAN, .SEAL_RANGE_KV_BASE]),
  (.SEAL_RANGE_QRE, ⟨0, 918280, 0, 1, true⟩, [.SEAL_RANGE_QRE_SPAN, .SEAL_RANGE_QRE_BASE]),
  (.SEAL_RANGE_SLICE, ⟨0, 921600, 8, 4096, true⟩, [.SEAL_RANGE_SLICE_SPAN, .SEAL_RANGE_SLICE_BASE]),
  (.TIM_STATUS, ⟨0, 983296, 0, 1, false⟩, [.TIM_STATUS_GRADE, .TIM_STATUS_HAS_TIME, .TIM_STATUS_POLICY_LIMITED, .TIM_STATUS_SLEWING, .TIM_STATUS_REF10M_OK, .TIM_STATUS_LOCK_RUN]),
  (.TIM_CTRL, ⟨0, 983300, 0, 1, false⟩, [.TIM_CTRL_PPS_OUT_EN, .TIM_CTRL_REF10M_EN, .TIM_CTRL_STEP_EN, .TIM_CTRL_SOURCE])]

/-- The rows of the registers, in the order of Reg, part 8. -/
def regTable8 : List (Reg × RegDesc × List Fld) := [
  (.TIM_FREQ_BOUND, ⟨0, 983304, 0, 1, false⟩, [.TIM_FREQ_BOUND_PPB]),
  (.TIM_SLEW_RATE, ⟨0, 983308, 0, 1, false⟩, [.TIM_SLEW_RATE_PPM]),
  (.TIM_STEP_THRESHOLD, ⟨0, 983312, 0, 1, false⟩, [.TIM_STEP_THRESHOLD_NS]),
  (.TIM_LOCK_THRESHOLD, ⟨0, 983316, 0, 1, false⟩, [.TIM_LOCK_THRESHOLD_NS]),
  (.TIM_HOLDOVER_LIMIT, ⟨0, 983320, 0, 1, false⟩, [.TIM_HOLDOVER_LIMIT_S]),
  (.TIM_PPS_DELAY, ⟨0, 983324, 0, 1, false⟩, [.TIM_PPS_DELAY_NS]),
  (.TIM_TOD_NEXT, ⟨0, 983328, 0, 1, true⟩, [.TIM_TOD_NEXT_VALID, .TIM_TOD_NEXT_SECONDS]),
  (.TIM_SET_SEC, ⟨0, 983336, 0, 1, true⟩, [.TIM_SET_SEC_GO, .TIM_SET_SEC_SECONDS]),
  (.TIM_SET_NS, ⟨0, 983344, 0, 1, false⟩, [.TIM_SET_NS_NS]),
  (.TIM_PTM_OFFSET, ⟨0, 983352, 0, 1, true⟩, [.TIM_PTM_OFFSET_NS]),
  (.TIM_PTM_INTERVAL, ⟨0, 983360, 0, 1, false⟩, [.TIM_PTM_INTERVAL_MS]),
  (.TIM_PPS_OUT_WIDTH, ⟨0, 983364, 0, 1, false⟩, [.TIM_PPS_OUT_WIDTH_MS]),
  (.TIM_PPS_OUT_PHASE, ⟨0, 983368, 0, 1, false⟩, [.TIM_PPS_OUT_PHASE_NS]),
  (.TIM_SOURCE_ERROR, ⟨0, 983372, 0, 1, false⟩, [.TIM_SOURCE_ERROR_NS]),
  (.TIM_NOW_NS, ⟨0, 983376, 0, 1, false⟩, [.TIM_NOW_NS_NS]),
  (.TIM_NOW_SUBNS, ⟨0, 983380, 0, 1, false⟩, [.TIM_NOW_SUBNS_SUBNS]),
  (.TIM_NOW_SEC, ⟨0, 983384, 0, 1, true⟩, [.TIM_NOW_SEC_SECONDS]),
  (.TIM_FREQ_CORR, ⟨0, 983392, 0, 1, false⟩, [.TIM_FREQ_CORR_F]),
  (.TIM_LAST_OFFSET, ⟨0, 983396, 0, 1, false⟩, [.TIM_LAST_OFFSET_NS]),
  (.TIM_SLEW_REMAIN, ⟨0, 983400, 0, 1, true⟩, [.TIM_SLEW_REMAIN_NS]),
  (.TIM_AO_TRIM, ⟨0, 983408, 0, 1, false⟩, [.TIM_AO_TRIM_PPB]),
  (.TIM_STEP_COUNT, ⟨0, 983412, 0, 1, false⟩, [.TIM_STEP_COUNT_COUNT]),
  (.TIM_POLICY_LIMIT_COUNT, ⟨0, 983416, 0, 1, false⟩, [.TIM_POLICY_LIMIT_COUNT_COUNT]),
  (.TIM_SOURCE_LOSS_COUNT, ⟨0, 983420, 0, 1, false⟩, [.TIM_SOURCE_LOSS_COUNT_COUNT])]

/-- The rows of the registers, in the order of Reg, part 9. -/
def regTable9 : List (Reg × RegDesc × List Fld) := [
  (.TIM_COPY_CORRECTED_COUNT, ⟨0, 983424, 0, 1, false⟩, [.TIM_COPY_CORRECTED_COUNT_COUNT]),
  (.GLB_STATUS, ⟨0, 256, 0, 1, false⟩, [.GLB_STATUS_READY, .GLB_STATUS_BOOT_STATE, .GLB_STATUS_BOOT_SLOT, .GLB_STATUS_SELFTEST_DEGRADED, .GLB_STATUS_PROG_BUSY, .GLB_STATUS_PROG_FAIL, .GLB_STATUS_BOOT_ERROR]),
  (.GLB_BOOT_CTRL, ⟨0, 260, 0, 1, false⟩, [.GLB_BOOT_CTRL_CONFIRM, .GLB_BOOT_CTRL_SLOT, .GLB_BOOT_CTRL_RAISE_MIN, .GLB_BOOT_CTRL_PROGRAM, .GLB_BOOT_CTRL_RETRY]),
  (.GLB_BOOT_HOST_ADDR, ⟨0, 264, 0, 1, true⟩, [.GLB_BOOT_HOST_ADDR_ADDR]),
  (.GLB_BOOT_HOST_LEN, ⟨0, 272, 0, 1, false⟩, [.GLB_BOOT_HOST_LEN_BYTES]),
  (.GLB_BOOT_TIME, ⟨0, 276, 0, 1, false⟩, [.GLB_BOOT_TIME_US]),
  (.GLB_POR_COUNT, ⟨0, 280, 0, 1, false⟩, [.GLB_POR_COUNT_COUNT]),
  (.SEQ_BINDER_ENABLE, ⟨0, 262400, 0, 1, false⟩, [.SEQ_BINDER_ENABLE_EN]),
  (.SEQ_BINDER_ONLINE, ⟨0, 262404, 0, 1, false⟩, [.SEQ_BINDER_ONLINE_ONLINE]),
  (.SEQ_CFG_REFUSED_COUNT, ⟨0, 262408, 0, 1, false⟩, [.SEQ_CFG_REFUSED_COUNT_COUNT]),
  (.SEQ_RESTART_COUNT, ⟨0, 262412, 0, 1, false⟩, [.SEQ_RESTART_COUNT_COUNT]),
  (.SEQ_PATCH_CORRECTED_COUNT, ⟨0, 262416, 0, 1, false⟩, [.SEQ_PATCH_CORRECTED_COUNT_COUNT]),
  (.SEQ_MICROCODE_FAULT_COUNT, ⟨0, 262420, 0, 1, false⟩, [.SEQ_MICROCODE_FAULT_COUNT_COUNT]),
  (.SEQ_PATCH_INFO, ⟨0, 262424, 0, 1, false⟩, [.SEQ_PATCH_INFO_WORDS, .SEQ_PATCH_INFO_MATCH]),
  (.SEQ_MATCH, ⟨0, 262656, 4, 32, false⟩, [.SEQ_MATCH_EN, .SEQ_MATCH_TARGET, .SEQ_MATCH_ADDR]),
  (.SEQ_BINDER_STATUS, ⟨0, 262912, 4, 8, false⟩, [.SEQ_BINDER_STATUS_STATE, .SEQ_BINDER_STATUS_THREADS]),
  (.SEQ_FAULT_INFO, ⟨0, 263168, 4, 8, false⟩, [.SEQ_FAULT_INFO_VALID, .SEQ_FAULT_INFO_PRECISE, .SEQ_FAULT_INFO_THREAD, .SEQ_FAULT_INFO_MADDR, .SEQ_FAULT_INFO_CAUSE]),
  (.DMA_BAD_DESC_COUNT, ⟨0, 1048832, 0, 1, false⟩, [.DMA_BAD_DESC_COUNT_COUNT]),
  (.DMA_CANCEL_COUNT, ⟨0, 1048836, 0, 1, false⟩, [.DMA_CANCEL_COUNT_COUNT]),
  (.DMA_SRAM_CORRECTED_COUNT, ⟨0, 1048840, 0, 1, false⟩, [.DMA_SRAM_CORRECTED_COUNT_COUNT]),
  (.DMA_BYTES, ⟨0, 1048848, 0, 1, true⟩, [.DMA_BYTES_COUNT]),
  (.DMA_CHAN_STATUS, ⟨0, 1049088, 4, 128, false⟩, [.DMA_CHAN_STATUS_STATE, .DMA_CHAN_STATUS_HEAD, .DMA_CHAN_STATUS_PENDING]),
  (.LMC_STATUS, ⟨0, 1114368, 0, 1, false⟩, [.LMC_STATUS_STATE, .LMC_STATUS_RATE]),
  (.LMC_CONFIG, ⟨0, 1114372, 0, 1, false⟩, [.LMC_CONFIG_RANKS2, .LMC_CONFIG_GIB])]

/-- The rows of the registers, in the order of Reg, part 10. -/
def regTable10 : List (Reg × RegDesc × List Fld) := [
  (.LMC_LINK_CORRECTED_COUNT, ⟨0, 1114376, 0, 1, false⟩, [.LMC_LINK_CORRECTED_COUNT_COUNT]),
  (.LMC_MAC_FAIL_COUNT, ⟨0, 1114380, 0, 1, false⟩, [.LMC_MAC_FAIL_COUNT_COUNT]),
  (.LMC_AREA_FULL_COUNT, ⟨0, 1114384, 0, 1, false⟩, [.LMC_AREA_FULL_COUNT_COUNT]),
  (.LMC_PROTECTED_BYTES, ⟨0, 1114392, 0, 1, true⟩, [.LMC_PROTECTED_BYTES_COUNT]),
  (.TMP_STATUS, ⟨0, 1179904, 0, 1, false⟩, [.TMP_STATUS_LOCKDOWN, .TMP_STATUS_HALTED, .TMP_STATUS_BBK_LOST, .TMP_STATUS_BBK_CAUSE, .TMP_STATUS_COUNT_SATURATED, .TMP_STATUS_EVIDENCE_PENDING]),
  (.TMP_CTRL, ⟨0, 1179908, 0, 1, false⟩, [.TMP_CTRL_CONFIRM, .TMP_CTRL_RESP_LOCK, .TMP_CTRL_UNLOCK, .TMP_CTRL_RESUME]),
  (.TMP_OTP_COUNT, ⟨0, 1179912, 0, 1, false⟩, [.TMP_OTP_COUNT_COUNT]),
  (.TMP_PENDING, ⟨0, 1179916, 0, 1, false⟩, [.TMP_PENDING_COUNT, .TMP_PENDING_LOCKDOWN]),
  (.TMP_AO_FILL, ⟨0, 1179920, 0, 1, false⟩, [.TMP_AO_FILL_ENTRIES]),
  (.TMP_EVENT_COUNT, ⟨0, 1179924, 0, 1, false⟩, [.TMP_EVENT_COUNT_COUNT]),
  (.TMP_DISAGREE_COUNT, ⟨0, 1179928, 0, 1, false⟩, [.TMP_DISAGREE_COUNT_COUNT]),
  (.TMP_FABRIC_CODE_COUNT, ⟨0, 1179932, 0, 1, false⟩, [.TMP_FABRIC_CODE_COUNT_COUNT]),
  (.TMP_EXT_CFG, ⟨0, 1179936, 0, 1, false⟩, [.TMP_EXT_CFG_MODE]),
  (.TMP_CFG_REFUSED_COUNT, ⟨0, 1179940, 0, 1, false⟩, [.TMP_CFG_REFUSED_COUNT_COUNT]),
  (.TMP_SRC_RESP, ⟨0, 1180160, 4, 16, false⟩, [.TMP_SRC_RESP_MIN, .TMP_SRC_RESP_RESP]),
  (.TMP_SRC_STATUS, ⟨0, 1180288, 4, 16, false⟩, [.TMP_SRC_STATUS_RAISED, .TMP_SRC_STATUS_DETECTORS, .TMP_SRC_STATUS_ACTIVE, .TMP_SRC_STATUS_COUNT]),
  (.TMP_AO_BUF, ⟨0, 1180416, 16, 32, false⟩, [.TMP_AO_BUF_ENTRY]),
  (.LCO_STATE, ⟨0, 1245440, 0, 1, false⟩, [.LCO_STATE_TRANSITION, .LCO_STATE_INTENT_PENDING, .LCO_STATE_WINDOW_OPEN, .LCO_STATE_COPY_OK, .LCO_STATE_DIAG_LEFT, .LCO_STATE_STATE]),
  (.LCO_TRANSITION, ⟨0, 1245444, 0, 1, false⟩, [.LCO_TRANSITION_CONFIRM, .LCO_TRANSITION_TARGET]),
  (.LCO_DIAG_TOKEN, ⟨0, 1245456, 4, 8, false⟩, [.LCO_DIAG_TOKEN_TOKEN]),
  (.LCO_DIAG_ENTER, ⟨0, 1245488, 0, 1, false⟩, [.LCO_DIAG_ENTER_CONFIRM, .LCO_DIAG_ENTER_SLOT]),
  (.LCO_OTP_STATUS, ⟨0, 1245504, 0, 1, false⟩, [.LCO_OTP_STATUS_BUSY, .LCO_OTP_STATUS_BRACED, .LCO_OTP_STATUS_QUEUED]),
  (.LCO_FIELD_STATUS, ⟨0, 1245508, 0, 1, false⟩, [.LCO_FIELD_STATUS_WORD, .LCO_FIELD_STATUS_ABANDONED]),
  (.LCO_PROV_DATA, ⟨0, 1245520, 4, 12, false⟩, [.LCO_PROV_DATA_DATA])]

/-- The rows of the registers, in the order of Reg, part 11. -/
def regTable11 : List (Reg × RegDesc × List Fld) := [
  (.LCO_PROV_CTRL, ⟨0, 1245568, 0, 1, false⟩, [.LCO_PROV_CTRL_CONFIRM, .LCO_PROV_CTRL_CLOSE, .LCO_PROV_CTRL_GO, .LCO_PROV_CTRL_FIELD]),
  (.LCO_OTP_WRITE_COUNT, ⟨0, 1245584, 0, 1, false⟩, [.LCO_OTP_WRITE_COUNT_COUNT]),
  (.LCO_OTP_RETRY_COUNT, ⟨0, 1245588, 0, 1, false⟩, [.LCO_OTP_RETRY_COUNT_COUNT]),
  (.LCO_ROLLFORWARD_COUNT, ⟨0, 1245592, 0, 1, false⟩, [.LCO_ROLLFORWARD_COUNT_COUNT]),
  (.LCO_CFG_REFUSED_COUNT, ⟨0, 1245596, 0, 1, false⟩, [.LCO_CFG_REFUSED_COUNT_COUNT]),
  (.PWR_STATUS, ⟨0, 1310976, 0, 1, false⟩, [.PWR_STATUS_STATE, .PWR_STATUS_BRACE, .PWR_STATUS_POLICY_LIMITED, .PWR_STATUS_THERMAL_LIMITED, .PWR_STATUS_VBAT_LOW, .PWR_STATUS_DISPATCH_HELD, .PWR_STATUS_K, .PWR_STATUS_BRACE_RAILS]),
  (.PWR_CTRL, ⟨0, 1310980, 0, 1, false⟩, [.PWR_CTRL_DOZE_EN, .PWR_CTRL_IDLE_EN]),
  (.PWR_POWER_LIMIT, ⟨0, 1310984, 0, 1, false⟩, [.PWR_POWER_LIMIT_W]),
  (.PWR_POWER_NOW, ⟨0, 1310988, 0, 1, false⟩, [.PWR_POWER_NOW_CW]),
  (.PWR_IDLE_DELAY, ⟨0, 1310992, 0, 1, false⟩, [.PWR_IDLE_DELAY_US]),
  (.PWR_DOZE_DELAY, ⟨0, 1310996, 0, 1, false⟩, [.PWR_DOZE_DELAY_US]),
  (.PWR_TEMP, ⟨0, 1311000, 0, 1, false⟩, [.PWR_TEMP_T]),
  (.PWR_VBAT_MV, ⟨0, 1311004, 0, 1, false⟩, [.PWR_VBAT_MV_MV]),
  (.PWR_WAKE_EN, ⟨0, 1311008, 0, 1, false⟩, [.PWR_WAKE_EN_EN]),
  (.PWR_WAKE_CAUSE, ⟨0, 1311012, 0, 1, false⟩, [.PWR_WAKE_CAUSE_CAUSE]),
  (.PWR_WAKE_TIME, ⟨0, 1311016, 0, 1, true⟩, [.PWR_WAKE_TIME_SECONDS]),
  (.PWR_SUPPLY_EVENT_COUNT, ⟨0, 1311024, 0, 1, false⟩, [.PWR_SUPPLY_EVENT_COUNT_COUNT]),
  (.PWR_POLICY_LIMIT_COUNT, ⟨0, 1311028, 0, 1, false⟩, [.PWR_POLICY_LIMIT_COUNT_COUNT]),
  (.PWR_THERMAL_COUNT, ⟨0, 1311032, 0, 1, false⟩, [.PWR_THERMAL_COUNT_COUNT]),
  (.PWR_DOZE_COUNT, ⟨0, 1311036, 0, 1, false⟩, [.PWR_DOZE_COUNT_COUNT]),
  (.PWR_SWITCH_COUNT, ⟨0, 1311040, 0, 1, false⟩, [.PWR_SWITCH_COUNT_COUNT]),
  (.BLK_ERR_STATUS, ⟨0, 61440, 65536, 22, false⟩, [.BLK_ERR_STATUS_CAUSE]),
  (.BLK_ERR_FIRST, ⟨0, 61448, 65536, 22, true⟩, [.BLK_ERR_FIRST_CAUSE, .BLK_ERR_FIRST_UNIT, .BLK_ERR_FIRST_SYNDROME]),
  (.BLK_ERR_MERGED, ⟨0, 61456, 65536, 22, false⟩, [.BLK_ERR_MERGED_COUNT])]

/-- The rows of the registers, in the order of Reg, part 12. -/
def regTable12 : List (Reg × RegDesc × List Fld) := [
  (.BLK_ERR_COUNT, ⟨0, 61464, 65536, 22, false⟩, [.BLK_ERR_COUNT_COUNT]),
  (.BLK_ERR_IRQ_EN, ⟨0, 61472, 65536, 22, false⟩, [.BLK_ERR_IRQ_EN_EN]),
  (.BLK_RECOVERY_COUNT, ⟨0, 61480, 65536, 22, false⟩, [.BLK_RECOVERY_COUNT_COUNT]),
  (.BLK_RECOVERY_LIMIT, ⟨0, 61488, 65536, 22, false⟩, [.BLK_RECOVERY_LIMIT_LIMIT]),
  (.BLK_QUIET_TIME, ⟨0, 61496, 65536, 22, false⟩, [.BLK_QUIET_TIME_MS]),
  (.BLK_ERR_CLEAR_REFUSED, ⟨0, 61504, 65536, 22, false⟩, [.BLK_ERR_CLEAR_REFUSED_COUNT]),
  (.SMB_ALERT_EN, ⟨0, 1376512, 0, 1, false⟩, [.SMB_ALERT_EN_EN]),
  (.SMB_ALERT_STATUS, ⟨0, 1376516, 0, 1, false⟩, [.SMB_ALERT_STATUS_ALERT]),
  (.SMB_TEMP_HIGH, ⟨0, 1376520, 0, 1, false⟩, [.SMB_TEMP_HIGH_T]),
  (.SMB_STATUS, ⟨0, 1376528, 0, 1, false⟩, [.SMB_STATUS_ADDR]),
  (.SMB_MIRROR, ⟨0, 1380352, 4, 8, false⟩, [.SMB_MIRROR_VALUE]),
  (.SLC_SLICE_WEIGHTS, ⟨0, 5242900, 64, 4096, false⟩, [.SLC_SLICE_WEIGHTS_MAR, .SLC_SLICE_WEIGHTS_CDE, .SLC_SLICE_WEIGHTS_BGN, .SLC_SLICE_WEIGHTS_STR]),
  (.SLC_MBX_PENDING, ⟨0, 135168, 4, 128, false⟩, [.SLC_MBX_PENDING_BITS]),
  (.GLB_CFG_REFUSED_COUNT, ⟨0, 284, 0, 1, false⟩, [.GLB_CFG_REFUSED_COUNT_COUNT]),
  (.BLK_ID, ⟨0, 0, 65536, 22, false⟩, [.BLK_ID_VECTOR, .BLK_ID_REVISION, .BLK_ID_PART]),
  (.MSIX_ADDR, ⟨0, 4194304, 16, 8192, true⟩, [.MSIX_ADDR_ADDR]),
  (.MSIX_DATA, ⟨0, 4194312, 16, 8192, false⟩, [.MSIX_DATA_DATA]),
  (.MSIX_CTRL, ⟨0, 4194316, 16, 8192, false⟩, [.MSIX_CTRL_MASK]),
  (.MSIX_PBA, ⟨0, 4325376, 8, 128, true⟩, [.MSIX_PBA_BITS]),
  (.SMB_PROTOCOL_COUNT, ⟨0, 1376524, 0, 1, false⟩, [.SMB_PROTOCOL_COUNT_COUNT])]

/-- The rows of the registers, in the order of Reg. -/
def regTable : List (Reg × RegDesc × List Fld) :=
  regTable0 ++ regTable1 ++ regTable2 ++ regTable3 ++ regTable4 ++ regTable5 ++ regTable6 ++ regTable7 ++ regTable8 ++ regTable9 ++ regTable10 ++ regTable11 ++ regTable12

/-- Part k of the rows of the registers: 24 rows each, in the order of their numbers. -/
def regPart (k : Nat) : List (Reg × RegDesc × List Fld) :=
  match k with
  | 0 => regTable0
  | 1 => regTable1
  | 2 => regTable2
  | 3 => regTable3
  | 4 => regTable4
  | 5 => regTable5
  | 6 => regTable6
  | 7 => regTable7
  | 8 => regTable8
  | 9 => regTable9
  | 10 => regTable10
  | 11 => regTable11
  | _ => regTable12

/-- The row of each field. -/
def Fld.desc (f : Fld) : FldDesc := (((fldPart (f.ctorIdx / 24)).drop (f.ctorIdx % 24)).head?.map Prod.snd).getD ⟨0, 0, .RO, .none, 0⟩

/-- Where each register lies. -/
def Reg.desc (r : Reg) : RegDesc := (((regPart (r.ctorIdx / 24)).drop (r.ctorIdx % 24)).head?.map fun x => x.2.1).getD ⟨0, 0, 0, 0, false⟩

/-- The fields of each register. -/
def Reg.fields (r : Reg) : List Fld := (((regPart (r.ctorIdx / 24)).drop (r.ctorIdx % 24)).head?.map fun x => x.2.2).getD []

/-- Every register, for the address map. -/
def Reg.all : List Reg := regTable.map Prod.fst


/-- The totals of the five credit classes, by k (R209). -/
def creditTotal (k : Nat) : Nat :=
  match k with
  | 0 => 1024
  | 1 => 16384
  | 2 => 310
  | 3 => 16384
  | 4 => 65536
  | _ => 0

/-- MIN of tamper source n (R466). -/
def tmpMin (n : Nat) : Nat :=
  match n with
  | 0 => 0x91 | 6 => 0x91 | 7 => 0x91
  | 9 => 0x01 | 10 => 0x01 | 11 => 0x01 | 12 => 0x01
  | 13 => 0xC1 | 14 => 0xC1
  | _ => 0x81

/-- RESP of tamper source n at reset (R466). -/
def tmpResp (n : Nat) : Nat :=
  match n with
  | 0 => 0xBB | 6 => 0xBB | 7 => 0xBB
  | 4 => 0x83 | 15 => 0x83
  | 9 => 0x03 | 10 => 0x03 | 11 => 0x03 | 12 => 0x03
  | 13 => 0xC3 | 14 => 0xC3
  | _ => 0xA3

/-- The reset value of instance i of a field. -/
def Fld.reset (f : Fld) (i : Nat) : Nat :=
  if f = .SLC_SLICE_CTRL_STATE ∨ f = .SLC_SLICE_CTRL_ENABLE then (if i = 0 then 1 else 0)
  else if f = .SCH_CREDIT_TOTAL_TOTAL ∨ f = .SCH_CREDIT_FREE_FREE then creditTotal i
  else if f = .TMP_SRC_RESP_MIN then tmpMin i
  else if f = .TMP_SRC_RESP_RESP then tmpResp i
  else if f = .SMB_STATUS_ADDR then 0x5A
  else if f = .BLK_ID_VECTOR then i % 256
  else if f = .BLK_RECOVERY_LIMIT_LIMIT then (if i = 1 then 16 else if i = 11 then 8 else if i = 15 then 64 else if i = 17 then 8 else 0)
  else if f = .BLK_QUIET_TIME_MS then (if i = 1 then 100 else if i = 11 then 10000 else if i = 17 then 1000 else 0)
  else f.desc.reset

/-- How many bits a field has. -/
def Fld.width (f : Fld) : Nat := f.desc.hi + 1 - f.desc.lo

/-- The number that orders instance i of field f among all. -/
def fldOrd (k : Fld × Nat) : Nat := k.2 * 1024 + k.1.ctorIdx

/-- The number that orders instance i of register r among all. -/
def regOrd (k : Reg × Nat) : Nat := k.2 * 1024 + k.1.ctorIdx

end Sys2Proof.Machine
end

