-- ==== Sys2Proof/Machine/SMap.lean ====
section
/-! DEFINITION. Sparse data by key: a list of pairs in one canonical form.
The keys' numbers rise strictly and no entry equals what an unlisted key reads as, so equal maps are equal lists. -/
namespace Sys2Proof.Machine

/-- A sparse map as plain data. -/
abbrev SMap (κ α : Type) := List (κ × α)

/-- The entry of k, or what an unlisted key reads as. -/
def mget {κ α : Type} [DecidableEq κ] (d : κ → α) (m : SMap κ α) (k : κ) : α :=
  match m with
  | [] => d k
  | (k', v) :: t => if k' = k then v else mget d t k

/-- Every entry but that of k. -/
def mdel {κ α : Type} [DecidableEq κ] (m : SMap κ α) (k : κ) : SMap κ α := m.filter fun p => decide (p.1 ≠ k)

/-- An entry put before the first one with a higher number. -/
def mins {κ α : Type} (ord : κ → Nat) (m : SMap κ α) (k : κ) (v : α) : SMap κ α :=
  match m with
  | [] => [(k, v)]
  | (k', v') :: t => if ord k < ord k' then (k, v) :: (k', v') :: t else (k', v') :: mins ord t k v

/-- The map with k at v; writing what an unlisted key reads as removes the entry. -/
def mset {κ α : Type} [DecidableEq κ] [DecidableEq α] (ord : κ → Nat) (d : κ → α) (m : SMap κ α) (k : κ) (v : α) :
    SMap κ α :=
  if v = d k then mdel m k else mins ord (mdel m k) k v

/-- The canonical form. -/
def mwf {κ α : Type} [DecidableEq κ] [DecidableEq α] (ord : κ → Nat) (d : κ → α) : SMap κ α → Bool
  | [] => true
  | [(k, v)] => decide (v ≠ d k)
  | (k, v) :: (k', v') :: t => decide (v ≠ d k) && decide (ord k < ord k') && mwf ord d ((k', v') :: t)

/-- The order of plain numbers. -/
def natOrd (n : Nat) : Nat := n

/-- A map over numbers whose unlisted entries read as one value. -/
def nget {α : Type} (d : α) (m : SMap Nat α) (k : Nat) : α := mget (fun _ => d) m k

/-- Writing such a map. -/
def nset {α : Type} [DecidableEq α] (d : α) (m : SMap Nat α) (k : Nat) (v : α) : SMap Nat α :=
  mset natOrd (fun _ => d) m k v

/-- The canonical form of such a map. -/
def nwf {α : Type} [DecidableEq α] (d : α) (m : SMap Nat α) : Bool := mwf natOrd (fun _ => d) m

end Sys2Proof.Machine
end

