-- ==== Sys2Proof/Machine/StFront.lean ====
section
/-! DEFINITION. The state of the host side: messages sent, the PCIe function, slices, queues, event rings, storage channels, jobs. -/
namespace Sys2Proof.Machine

/-- What the TQ4816 has sent out of its pins, in order. A request carries its PASID prefix (R43). -/
inductive Msg where
  /-- A posted write to host memory; relaxed is its Relaxed Ordering attribute (R44). -/
  | write (pasid : Option Nat) (addr : Nat) (data : List Byte) (relaxed : Bool)
  /-- A memory read. -/
  | read (pasid : Option Nat) (addr len : Nat)
  /-- An MSI-X message of a vector (R46). -/
  | msix (vector : Nat)
  /-- An LTR message (R48): the latency value and its scale, the same for Snoop and No-Snoop. -/
  | ltr (value scale : Nat)
  /-- A PM_PME message (R47). -/
  | pme
  /-- The completion of a read of a register or of configuration space. -/
  | completion (data : List Byte)
  /-- Unsupported Request (R40). -/
  | unsupported
  /-- Configuration Request Retry Status (R50). -/
  | retryStatus
  /-- PME_TO_Ack (R500). -/
  | pmeToAck
  /-- A PTM request (R408). -/
  | ptmRequest
  /-- A data object in the DOE read mailbox (R51). -/
  | doe (data : List Byte)
  /-- An answer on the SMBus (R529, R530). -/
  | smb (data : List Byte)
  /-- NACK on the SMBus (R529). -/
  | smbNack
  /-- A pulse on PPS_OUT (R420). -/
  | ppsPulse (seconds : Nat)
deriving DecidableEq, Repr

/-- A memory request that has fallen due (R49): for a slice, whose PASID it takes when it is issued (R66), or without a prefix. relaxed marks output
data and DMA payload, which carry the Relaxed Ordering attribute when that is enabled at the issue (R44). -/
inductive HeldReq where
  | write (slice : Option Nat) (addr : Nat) (data : List Byte) (relaxed : Bool)
  | read (slice : Option Nat) (addr len : Nat)
deriving DecidableEq, Repr

/-- The SPDM responder's connection (R52). -/
structure SpdmX where
  version : Bool := false
  caps : Bool := false
  algos : Bool := false
  /-- The messages exchanged so far that the next signature covers. -/
  log : List Byte := []
deriving DecidableEq, Repr

/-- The PCIe function and its link (chapter 03). The configuration-space bits are those the chapter's rules read. -/
structure PciX where
  memSpace : Bool := false
  busMaster : Bool := false
  d3hot : Bool := false
  pasidEn : Bool := false
  relaxed : Bool := false
  tag10 : Bool := false
  mps : Nat := 128
  mrrs : Nat := 512
  ltrEn : Bool := false
  msixEn : Bool := false
  msixMask : Bool := false
  pmeEn : Bool := false
  l12En : Bool := false
  flrUntil : Option Nat := none
  perstLow : Bool := true
  quietSince : Option Nat := none
  training : Option Nat := none
  limited : Bool := false
  /-- The training under way follows a link-down: reaching L0 is a recovery (R53). -/
  recovering : Bool := false
  /-- Configuration dwords that software writes and no rule reads: the BARs. -/
  cfg : SMap Nat Nat := []
  ltrLast : Option (Nat × Nat) := none
  heldVectors : List Nat := []
  aerCount : Nat := 0
  /-- AER: status and mask of uncorrectable and correctable errors, severity, ECRC generation and checking (R37, R45). -/
  aerUnc : Nat := 0
  aerCor : Nat := 0
  aerUncMask : Nat := 0
  aerUncSev : Nat := 0x00462030
  aerCorMask : Nat := 0x2000
  ecrcGen : Bool := false
  ecrcCheck : Bool := false
  /-- Completion Timeout Value and Disable (R45), PTM Enable (R37). -/
  cplTimeout : Nat := 0
  cplOff : Bool := false
  ptmEn : Bool := false
  doeIn : Option (List Byte) := none
  doeErr : Bool := false
  spdm : SpdmX := {}
deriving DecidableEq, Repr

/-- What a slice holds beside its registers: mailboxes (R77), the dirty log's phase and round (R81, R83), reads outstanding under an old PASID (R66). -/
structure SliceX where
  t2m : List Byte := zeros 256
  m2t : List Byte := zeros 256
  phase : Bool := true
  round : Nat := 0
deriving DecidableEq, Repr

/-- What a queue context holds beside its registers (R90, R95, R101, R105, R137, R140). -/
structure QueueX where
  fetch : Nat := 0
  rereads : Nat := 0
  missHeld : Bool := false
  parkHeld : Bool := false
  quireHeld : Bool := false
  chainLen : Nat := 0
  chainFail : Option (Nat × Nat) := none
  passed : Option (List Byte) := none
  missed : Bool := false
  headTag : Nat := 0
deriving DecidableEq, Repr

/-- What an event-ring context holds beside its registers (R100, R102, R104). -/
structure RingX where
  phase : Bool := true
  since : Nat := 0
  timer : Option Nat := none
  lost : Nat := 0
deriving DecidableEq, Repr

/-- What the store asks of the host (R108). -/
inductive ScOp where
  | fetch | persist | discard
deriving DecidableEq, Repr

/-- A storage request of the store: the block, how many, the bytes to persist, and when it was posted for the first time. -/
structure ScReq where
  op : ScOp
  block : Nat
  count : Nat := 1
  data : List Byte := []
  since : Nat := 0
deriving DecidableEq, Repr

/-- A request posted in a slot of a channel: its TAG, its buffer, when it was posted and the timeout in force then (R112). -/
structure ScOut where
  tag : Nat
  buf : Nat
  req : ScReq
  at' : Nat
  limitMs : Nat
deriving DecidableEq, Repr

/-- What a storage channel holds beside its registers (R108, R111). -/
structure ChanX where
  posts : SMap Nat Nat := []
  outstanding : List ScOut := []
  holdoffUntil : Option Nat := none
  postedInHoldoff : Bool := false
deriving DecidableEq, Repr

/-- Where a fetched entry stands on its way. -/
inductive Stage where
  /-- Its read is outstanding. -/
  | fetching
  /-- It came with OWN = 0 (R90). -/
  | ownWait
  /-- It came with OWN = 1 and waits to be decoded. -/
  | fetched
  /-- Accepted, not dispatched. -/
  | accepted
  /-- Dispatched to its engine. -/
  | dispatched
  /-- Its execution has ended or a check failed; it waits for its commit. -/
  | ended
  /-- Parked on a storage wait (R219). -/
  | parked
  /-- Its W7 is issued; the head has not passed it. -/
  | done
deriving DecidableEq, Repr

/-- A time as records carry it (R136, R405). -/
structure Stamp where
  sec : Nat := 0
  ns : Nat := 0
  grade : Nat := 3
deriving DecidableEq, Repr

/-- The grants in force at a command's acceptance (R70): its event rings and its weights. The vectors are those of the ring's message (R73). -/
structure Grants where
  ebase : Nat := 0
  ecount : Nat := 0
  weights : List Nat := []
deriving DecidableEq, Repr

/-- Who an entry is: its queue, its place in the ring, its slice, its binder, its words, its stage; rd is the place of the first entry that its
read fetched with it. -/
structure JobEntry where
  q : Nat := 0
  idx : Nat := 0
  slice : Nat := 0
  pasid : Option Nat := none
  binder : Nat := 0
  words : List W64 := []
  stage : Stage := .fetching
  rd : Nat := 0
  /-- Its fragment tables have been asked for (R94). -/
  tabled : Bool := false
  /-- The edition that a loaded kernel gives its set, 0 for the built-in one (R145, R285). -/
  edition : Nat := 0
deriving DecidableEq, Repr

/-- What acceptance settled (R203, R135, R136, R159, R188, R285, R396) and what its chain hands it (R138). -/
structure JobAccept where
  stamp : Nat := 0
  time : Stamp := {}
  stream : Option Nat := none
  seq : Option Nat := none
  index : Option Nat := none
  keys : List Nat := []
  kernel : Option Nat := none
  size : Nat := 0
  sub : Nat := 0
  /-- POLICY_LIMITED as the time unit showed it. -/
  limited : Bool := false
  short : Bool := false
  chainPos : Nat := 0
  passed : Option (List Byte) := none
  inFrags : List (Nat × Nat) := []
  outFrags : List (Nat × Nat) := []
  grants : Grants := {}
deriving DecidableEq, Repr

/-- What a job holds (R209, R210, R218), its re-execution budget (R222), where it runs, and its storage wait (R384). -/
structure JobHold where
  inCred : Nat := 0
  outCred : Nat := 0
  pools : List Pool := []
  parkSlots : Nat := 0
  budget : Nat := 1
  /-- Its host input has been read: it lies in input staging, or in the park slots (R207, R219). -/
  staged : Bool := false
  /-- Records of a batch whose fault has persisted, with the DETAIL (R165). -/
  faulted : List (Nat × Nat) := []
  core : Option (Nat × Nat) := none
  input : List Byte := []
  /-- The park record and the data area of the job context, as STAGE microwords move data between them (R426). -/
  park : List Byte := []
  ctx : List Byte := []
  waitSince : Option Nat := none
  waitBlocks : List Nat := []
  /-- The senior job's reserved credits and slots that it holds (R213). -/
  resIn : Bool := false
  resOut : Bool := false
  resPools : List Pool := []
  /-- When the job first stalled for entropy (R343). -/
  entSince : Option Nat := none
  /-- The slot of the BGN, STR or CDE pool that it has, how far its engine has come, and its attempts (R304, R315, R320). -/
  slot : Option Nat := none
  /-- The further numbered slots of a batch, one for each record in flight (R210). -/
  slots : List Nat := []
  phase : Nat := 0
  attempts : Nat := 0
  /-- The core of its last engine fault (R251). -/
  avoid : Option Nat := none
deriving DecidableEq, Repr

/-- A job's outcome (R131 to R134), and what must be settled before its commit point (R205, R208). -/
structure JobResult where
  status : Nat := 0
  detail : Nat := 0
  result : Nat := 0
  ext : Option W64 := none
  output : List Byte := []
  pass : List Byte := []
  outputOnInvalid : Bool := false
  /-- The whole host input has been read (R394). -/
  inputRead : Bool := false
  checked : Bool := false
  computed : Bool := false
  created : Option Nat := none
  placed : Bool := false
  needCommit : Nat := 0
  /-- Its COMMIT microword has been executed, and how many of its writes are issued: 1 the outputs, 2 W6 too (R426, R428). -/
  committing : Bool := false
  written : Nat := 0
deriving DecidableEq, Repr

/-- A fetched entry. -/
structure Job extends JobEntry, JobAccept, JobHold, JobResult
deriving DecidableEq, Repr

end Sys2Proof.Machine
end

