-- ==== Sys2Proof/Machine/StStore.lean ====
section
/-! DEFINITION. The state of the key vault (chapter 15), the Quire ledger and the sealed store (chapter 16). -/
namespace Sys2Proof.Machine

/-- Persistence classes of keys (R349, R352). -/
inductive KCls where
  | ephemeral | durable | tamperBound
deriving DecidableEq, Repr

/-- A handle-table entry (R349): its attributes and the key's material. A free entry keeps its generation. -/
structure KeyX where
  used : Bool := false
  gen : Nat := 0
  owner : Nat := 0
  family : Nat := 0
  paramset : Nat := 0
  cls : KCls := .ephemeral
  order : Nat := 0
  usage : Nat := 0
  pubOnly : Bool := false
  stateful : Bool := false
  quarantined : Bool := false
  erased : Bool := false
  unusable : Bool := false
  destroying : Bool := false
  keyLen : Nat := 0
  created : Nat := 0
  priv : List Byte := []
  pub : List Byte := []
  localRec : Bool := false
  custody : Option Nat := none
deriving DecidableEq, Repr

/-- A custody record and the on-chip NEXT (R359, R360). -/
structure CustodyX where
  id : Nat := 0
  set : Nat := 0
  types : Nat := 0
  levels : Nat := 0
  resLog2 : Nat := 10
  n : Nat := 0
  resEnd : Nat := 0
  winEpoch : Nat := 0
  ceil : Nat := 0
  pendEpoch : Nat := 0
  pendCeil : Nat := 0
  destroyed : Bool := false
  version : Nat := 0
  next : Nat := 0
  signed : Nat := 0
  /-- The RES_END that a custody write under way will make durable, and the COMMIT that carries it (R361, R362). -/
  raising : Option (Nat × Nat) := none
  /-- A raise asked for that waits for the one under way, or for the cold anchor (R362, R363). -/
  raiseAsked : Bool := false
deriving DecidableEq, Repr

/-- A destroy accepted and not carried out yet (R183): the key, the stamp and the place of its entry. -/
structure DestroyX where
  key : Nat
  stamp : Nat
  q : Nat
  idx : Nat
deriving DecidableEq, Repr

/-- The key vault beside its registers. -/
structure KvX where
  keys : SMap Nat KeyX := []
  custody : SMap Nat CustodyX := []
  /-- Entries freed, longest free first; entries from fresh on have been free since power-up (R348). -/
  freed : List Nat := []
  fresh : Nat := 1
  nextCustody : Nat := 0
  /-- Keys resident in the hot-key store, least recently used first (R357). -/
  hot : List Nat := []
  bbk : Option (List Byte) := none
  kekE : List Byte := zeros 32
  /-- A cold anchor has been accepted and custody writes wait for it (R363). -/
  coldHeld : Bool := false
  destroys : List DestroyX := []
  /-- The BBK has been lost since the vault last opened (R355). -/
  bbkLost : Bool := false
deriving DecidableEq, Repr

/-- A node of the integrity tree: for level 1 eight slots of VERSION and BLOCK_MAC, above it eight counters (R376). -/
structure Node where
  vals : List (Nat × Nat) := List.replicate 8 (0, 0)
deriving DecidableEq, Repr

/-- The open commit group (R379). -/
structure OpenGroup where
  dirty : List Nat := []
  first : Option Nat := none
  closeAsked : Bool := false
deriving DecidableEq, Repr

/-- The persisting commit group (R379): its number, the requests not yet DONE, whether the root record is posted or DONE, and its root record. -/
structure PersistGroup where
  commit : Nat
  left : Nat
  blocks : List Nat
  rootPosted : Bool := false
  rootDone : Bool := false
  record : List Byte := []
deriving DecidableEq, Repr

/-- The anchor register's value (R387). -/
structure Anchor where
  valid : Bool := false
  epoch : Nat := 0
  commit : Nat := 0
  digest : List Byte := []
  mac : List Byte := []
deriving DecidableEq, Repr

/-- A write that waits to enter the open group: the device block, its new content, whether it frees the block. -/
structure Placement where
  block : Nat
  data : List Byte
  discard : Bool := false
  owner : Option (Nat × Nat) := none
deriving DecidableEq, Repr

/-- The sealed store beside its registers. -/
structure SealX where
  storeId : List Byte := zeros 16
  nodes : SMap Nat Node := []
  raw : SMap Nat (List Byte) := []
  data : SMap Nat (List Byte) := []
  openG : OpenGroup := {}
  persG : Option PersistGroup := none
  /-- Number of the open group. -/
  commit : Nat := 1
  prepared : Bool := false
  placeQ : List Placement := []
  /-- Freed blocks whose DISCARD waits for the group that freed them (R380). -/
  discards : List (Nat × Nat) := []
  /-- Requests waiting on chip for a slot, in order. -/
  scQ : List ScReq := []
  /-- Requests waiting SEAL_RETRY_TIME: when they may be posted again. -/
  retryQ : List (ScReq × Nat) := []
  /-- Blocks that failed a check once (R378). -/
  failed : List Nat := []
  anchor : Anchor := {}
  /-- A cold anchor's step (R388), 0 for none, and the job that asked for it. -/
  coldStep : Nat := 0
  coldCommit : Nat := 0
  force : Bool := false
  /-- The root record presented at the open in progress. -/
  presented : List Byte := []
  occupied : SMap Nat Nat := []
  /-- A request completed NO_SPACE and no PERSIST has been DONE since (R519). -/
  noSpace : Bool := false
  /-- FORMAT's step: 1 the epoch bit is being burned, 2 the empty tree is being persisted (R391). -/
  fmt : Nat := 0
  /-- The result that an open in progress will give (R389). -/
  openRes : Nat := 0
deriving DecidableEq, Repr

/-- A record complete and waiting for its predecessor (R208): sequence number, bytes without padding, the job that waits for it. -/
structure WaitRec where
  seq : Nat
  bytes : List Byte
  owner : Option (Nat × Nat) := none
deriving DecidableEq, Repr

/-- A Quire stream beside its registers: records placed, hashes of the range, folio position, checkpoint (R395 to R399). -/
structure StreamX where
  placed : Nat := 0
  /-- Hashes formed, keyed by level and index: level 0 are the leaves. -/
  hashes : SMap Nat (List Byte) := []
  folio : Nat := 0
  folioFirst : Nat := 0
  folioCount : Nat := 0
  folioUsed : Nat := 64
  folioBytes : List Byte := []
  /-- Device blocks where the stream's folios lie, oldest first. -/
  folioAt : List Nat := []
  spare : Option Nat := none
  /-- Where the next accepted record will lie: folio number and offset (R396). -/
  accFolio : Nat := 0
  accUsed : Nat := 64
  latest : Nat := 0
  lastTime : Stamp := {}
  waiting : List WaitRec := []
  /-- Every record placed: folio number, offset and length with padding. -/
  records : List (Nat × Nat × Nat) := []
  /-- Device blocks of the node blocks, 128 hashes each, and how many hashes they hold (R398). -/
  nodeAt : List Nat := []
  nodeCount : Nat := 0
  nodeTail : List Byte := []
deriving DecidableEq, Repr

/-- A journal event waiting for stream 0 (R401). -/
structure JEvent where
  event : Nat
  time : Stamp
  data : List Byte
deriving DecidableEq, Repr

/-- The ledger unit beside its registers. -/
structure QreX where
  streams : SMap Nat StreamX := []
  journal : List JEvent := []
  lost : Nat := 0
  /-- Next free block of the Quire range, counted from its base, and folios given back. -/
  nextFolio : Nat := 0
  freeFolios : List Nat := []
deriving DecidableEq, Repr

end Sys2Proof.Machine
end

