-- ==== Sys2Proof/Machine/StInfra.lean ====
section
/-! DEFINITION. The state of time, entropy, DMA, local memory, tamper, life cycle, power, boot and sequencer. -/
namespace Sys2Proof.Machine

/-- The time unit beside its registers: the counter (R405), the correction still to be made in units of 2^-32 ns (R410), the
keeper of the always-on domain (R417), the floor (R414), and what the servo remembers of its measurements. -/
structure TimX where
  sec : Nat := 0
  ns : Nat := 0
  sub : Nat := 0
  slew : Int := 0
  keeperSec : Nat := 0
  keeperNs : Nat := 0
  keeperSub : Nat := 0
  onKeeper : Bool := false
  floor : Option Stamp := none
  outliers : Nat := 0
  lastPps : Option Nat := none
  /-- When the last accepted measurement since the last set or floor step was made (R419). -/
  measuredAt : Option Nat := none
  lockedAt : Option Nat := none
  ppsOutSec : Option Nat := none
deriving DecidableEq, Repr

/-- An entry of the always-on event buffer (R473); id is the number of its event, the model's own. -/
structure AoEntry where
  sources : Nat
  done : Nat
  pend : Nat
  sec : Nat
  tick : Nat
  power : Nat
  countDone : Bool
  journaled : Bool := false
  id : Nat := 0
  spilled : Bool := false
  overflow : Nat := 0
deriving DecidableEq, Repr

/-- What an OTP operation is for (R488). -/
inductive OtpWhy where
  /-- A transition to a state (R483). -/
  | transition (target : Nat)
  /-- The roll-forward of an intent found at boot (R481). -/
  | rollForward (target : Nat)
  /-- The USED bit of a DIAG token (R484). -/
  | diag (slot : Nat)
  /-- An owner field (R485). -/
  | field (f : Nat)
  /-- WINDOW_CLOSED (R485). -/
  | windowClose
  /-- The count of a tamper event (R472): the event as its buffer entry shows it, whether it has that entry, whether it stands in TMP_PENDING. -/
  | tamper (e : AoEntry) (buffered pended : Bool)
  /-- The epoch bit of a cold anchor or of FORMAT (R388, R391). -/
  | epoch (format : Bool)
  /-- A minimum patch version (R489). -/
  | minPatch
  /-- The fuse root secret, at the first TEST boot (R486). -/
  | frs
  /-- The words of END_OF_LIFE (R491). -/
  | wipe
deriving DecidableEq, Repr

/-- An OTP operation: the words still to be programmed, each with the bits to burn. -/
structure OtpOp where
  why : OtpWhy
  words : List (Nat × Nat) := []
deriving DecidableEq, Repr

/-- The power states (R493), and the state with VAUX and VBAT both absent (R30). -/
inductive PwrMode where
  | active | idle | doze | deep | backup | unpowered
deriving DecidableEq, Repr

/-- The power block beside its registers: the state, when it began, the steps of the governor and of the thermal loop and
whether each holds dispatch, when the thermal loop last raised its step, the brace's rails (number, lowest mV, since when above
its level), when the brace began, PME_En as kept in the always-on domain, the THERMTRIP latch and pin, WAKE#, whether the
always-on domain runs on VBAT and whether the link is ready for L2 (R493 to R506, R32). -/
structure PwrX where
  mode : PwrMode := .active
  since : Nat := 0
  gov : Nat := 16
  therm : Nat := 16
  govHeld : Bool := false
  thermHeld : Bool := false
  raisedAt : Nat := 0
  rails : List (Nat × Nat × Option Nat) := []
  braceAt : Nat := 0
  pmeKept : Bool := false
  tripLatch : Bool := false
  tripPin : Bool := false
  wakePin : Bool := false
  onVbat : Bool := false
  l2Ready : Bool := false
  /-- The target won an Alert Response Address cycle and no enabled alert bit has set since (R531). -/
  alertQuiet : Bool := false
  /-- The level of SMB_ADDR when VDD_IO last rose (R20). -/
  strap : Bool := false
  /-- PME_Status (R47, R501): a wake is waiting to be reported. -/
  pmeStatus : Bool := false
  /-- The end of the always-on domain's own power-on reset, during which its pins are released (R30). -/
  aoUntil : Nat := 0
deriving DecidableEq, Repr

/-- The life-cycle block and OTP beside their registers (R480 to R490): the fuse root secret that feeds the derivations, the
1,024 words (an unlisted word is unburned), the operations in the order of request with the one in progress first, whether a word
is being programmed and has failed its read-back once, and what the next boot must know. -/
structure LcoX where
  frs : List Byte := zeros 32
  otp : SMap Nat Nat := []
  ops : List OtpOp := []
  started : Bool := false
  retried : Bool := false
  diagNext : Bool := false
  oldState : Nat := 0
deriving DecidableEq, Repr

/-- The tamper monitor beside its registers: the event buffer, oldest first; the alarms not answered yet, each source with the time of its
alarm (R468); the power-on marker of the always-on domain (R471). -/
structure TmpX where
  buf : List AoEntry := []
  event : List (Nat × Nat) := []
  marker : Bool := false
deriving DecidableEq, Repr

/-- A consumer of a string (R338): its seed, the outputs since the seed took effect, and whether it has asked for a new one or stalls. -/
structure GenX where
  seed : List Byte := []
  outputs : Nat := 0
  since : Nat := 0
  requested : Bool := false
  stalled : Bool := false
deriving DecidableEq, Repr

/-- The entropy unit beside its registers: cells isolated after a failed test, cells under the test of R334, conditioner outputs
not yet used, when each instance was last reseeded, the string consumers (0 to 31 Marionette, 32 to 39 masked Keccak,
40 and 41 masked SHA-2, 42 to 45 BGN blinding keys), and when the unit became DEGRADED. -/
structure EntX where
  isolated : List Nat := []
  testing : List Nat := []
  outputs : Nat := 0
  reseedAt : SMap Nat Nat := []
  gens : SMap Nat GenX := []
  quietSince : Option Nat := none
deriving DecidableEq, Repr

end Sys2Proof.Machine
end

