-- ==== Sys2Proof/Machine/StEngine.lean ====
section
/-! DEFINITION. The state of the compute engines. -/
namespace Sys2Proof.Machine

/-- A loaded kernel (R283, R285): its slot, its whole bundle, where its code and constants lie, and whether new RUNs take it. -/
structure KernelX where
  slot : Nat
  bundle : List Byte
  codeAt : Nat
  constAt : Nat
  live : Bool := true
deriving DecidableEq, Repr

/-- The states of a quarter (R250). -/
inductive QState where
  | free | loading | ready | running | suspended | draining | scrubbing
deriving DecidableEq, Repr

/-- A value with its secret tag (R228, R247). -/
structure Val where
  v : Nat := 0
  tag : Bool := false
deriving DecidableEq, Repr

/-- A port: its value, its tag, and the vector register it was last moved from (R266). -/
structure Port extends Val where
  src : Option Nat := none
deriving DecidableEq, Repr

/-- A hash session as a core sees it (R242, R280, R290): its function, whether it is masked, what it has absorbed, whether it
squeezes, how many bits of its stream are used, its tag, share 1 of the last squeezed block, its place in the session store. -/
structure HSess where
  isOpen : Bool := false
  kind : Nat := 0
  masked : Bool := false
  buf : List Byte := []
  squeezing : Bool := false
  pos : Nat := 0
  tag : Bool := false
  share1 : Nat := 0
  place : Nat := 0
deriving DecidableEq, Repr

/-- A unit operation under way (R231, R266): its trigger socket and operation field, its trigger and operand ports as they were,
the cycle in which it began, cycles per member, the next member; for a gather or scatter the first element to do, and for its faults the bundle and the
slot of its trigger (R277, R278). -/
structure Flight where
  sock : Nat
  op : Nat
  trig : Port
  ports : List Port
  start : Nat
  stride : Nat := 1
  next : Nat := 0
  elem : Nat := 0
  bundle : Nat := 0
  slot : Nat := 0
deriving DecidableEq, Repr

/-- A write that a unit makes at the end of a cycle: the socket of the register or port, from 0x1000 on the entry of the twiddle RAM; half, when it writes one half of a register only. -/
structure PWrite where
  when' : Nat
  dst : Nat
  val : Val
  half : Option Nat := none
deriving DecidableEq, Repr

/-- A fault of a core (R277, R278, R281, R282): its cause, whether it is an engine cause, the first element not done, the trigger
socket, the move slot, the trigger that a resume repeats, and the bundle of that trigger. -/
structure MFault where
  cause : Nat
  engine : Bool := false
  lane : Nat := 0
  sock : Nat := 0
  slot : Nat := 0
  op : Nat := 0
  trig : Port := {}
  bundle : Option Nat := none
deriving DecidableEq, Repr

/-- The registers of a core while it runs a job (R228): registers and ports by socket number, loop registers by socket number, modulus
registers by unit and number, twiddle RAM, the lane masks of the two VALUs, the FXP sticky flag, operations under way, writes to
come, when the grouped operations stop streaming (R231), the next bundle, the cycle, the reservation of XS (R279), whether it waits at a SYNC, its output length once it has ended, whether it waits for its masks or for a hash call. -/
structure CoreRun where
  regs : SMap Nat Val := []
  ports : SMap Nat Port := []
  mods : SMap Nat Nat := []
  twr : SMap Nat Nat := []
  masks : SMap Nat Nat := []
  sticky : Bool := false
  flights : List Flight := []
  writes : List PWrite := []
  streams : List Nat := []
  pc : Nat := 0
  cyc : Nat := 0
  resv : Option Nat := none
  sync : Bool := false
  ended : Option Nat := none
  maskStall : Bool := false
  hashStall : Bool := false
deriving DecidableEq, Repr

/-- A quarter of operand memory and its job slot (R228, R238, R250): its rows of 56 bits with their tags, the saved registers of a
suspended job, the sessions that its job reserved, and since when it stalls for its mask generator. -/
structure Quarter where
  st : QState := .free
  job : Option (Nat × Nat) := none
  member : Nat := 0
  rows : SMap Nat Val := []
  save : Option CoreRun := none
  sess : SMap Nat HSess := []
  sessions : Nat := 0
  pages : List Nat := []
  stallSince : Option Nat := none
  /-- The output length of its END, and what S28 and S29 held then (R271). -/
  outLen : Nat := 0
  w6 : Nat := 0
deriving DecidableEq, Repr

/-- A Marionette core (R228): its quarters, its registers, when it was reset within the last second, and its halt in precise mode. -/
structure CoreX where
  quarters : SMap Nat Quarter := []
  run : CoreRun := {}
  resets : List Nat := []
  halt : Option MFault := none
deriving DecidableEq, Repr

/-- A scratch page: the job that holds it, or that it is being scrubbed (R241, R254). -/
structure PageX where
  owner : Option (Nat × Nat) := none
  scrubbing : Bool := false
deriving DecidableEq, Repr

/-- A gathering's scratch (R241): the rows of its pages with their tags, and its 48 pages. -/
structure GatherX where
  rows : SMap Nat Val := []
  pages : SMap Nat PageX := []
deriving DecidableEq, Repr

/-- The Marionette array beside its registers: loaded kernels, cores, gatherings, the placement pointer (R251), and the built-in image. -/
structure MarX where
  kernels : List KernelX := []
  cores : SMap Nat CoreX := []
  gath : SMap Nat GatherX := []
  ptr : Nat := 0
  image : List Byte := []
deriving DecidableEq, Repr

/-- A call of a session (R287, R291, R293): of SHA-2 or Keccak, masked or not, its permutations or compressions, whether the session
squeezes after it; a chain's step count (0 for none), start position, start value and address fields; whether it is a repeat, the core to
avoid, when it first stalled for its masks. -/
structure HCall where
  sha2 : Bool := false
  masked : Bool := false
  blocks : Nat := 1
  fin : Bool := false
  steps : Nat := 0
  pos : Nat := 0
  data : List Byte := []
  adrs : List Byte := []
  retried : Bool := false
  avoid : Option Nat := none
  stalled : Option Nat := none
deriving DecidableEq, Repr

/-- An entry of the session store (R289, R290, R296): 0 CLOSED, 1 ABSORBING, 2 SQUEEZING; the job it serves; its ready call, its call in flight and the
core that serves it, whether the context is zeroized at that call's end, and the value that a CHAIN call left. -/
structure FSess where
  st : Nat := 0
  owner : Option (Nat × Nat) := none
  ready : Option HCall := none
  flight : Option (Nat × HCall) := none
  closing : Bool := false
  value : List Byte := []
deriving DecidableEq, Repr

/-- The hash farm beside its registers: sessions, the last requester served for each core kind, when each core failed a check within the last second. -/
structure HshX where
  sess : SMap Nat FSess := []
  last : SMap Nat Nat := []
  fails : SMap Nat (List Nat) := []
deriving DecidableEq, Repr

/-- The code engine beside its registers (R304, R308): the faults of each unit within one second, its resets within one minute, the
slots (0 to 3 of the decoder units, 4 and 5 the halves) being zeroized. -/
structure CdeX where
  faults : SMap Nat (List Nat) := []
  resets : SMap Nat (List Nat) := []
  zero : List Nat := []
deriving DecidableEq, Repr

/-- The big-number engine beside its registers: each multiplier's failures within one second (R329). The blinding keys are the seeds of the
string consumers 42 to 45 (R314, R338). -/
structure BgnX where
  fails : SMap Nat (List Nat) := []
deriving DecidableEq, Repr

/-- The stream cipher engine beside its registers: each pipe's failures within one second, and the streaming jobs that have been on a pipe, in
the order in which they go on it again, behind those that have not been (R322). -/
structure StrX where
  fails : SMap Nat (List Nat) := []
  yielded : List (Nat × Nat) := []
deriving DecidableEq, Repr

/-- One pool's round across the slices (R215): the slice being visited and the deficits, in femtoseconds of engine time. -/
structure RoundX where
  cursor : Option Nat := none
  deficits : SMap Nat Nat := []
deriving DecidableEq, Repr

/-- The scheduler beside its registers: a round for each pool of SCH_QUANTUM's index c. -/
structure SchX where
  rounds : SMap Nat RoundX := []
deriving DecidableEq, Repr

/-- A microthread of a binder (R423, R428): its 64 registers, its microaddress and return addresses, the job it works for, the
tags of its requests with the registers that take the answers, its microwords since its last WAIT (R430), whether it is halted in precise
mode and was the one that faulted (R429), whether it has executed ACCEPT (R428), the writes of the write order that it has issued (1 up to W7, 2 all), and whether its head move had an event due. -/
structure ThreadX where
  busy : Bool := false
  regs : SMap Nat Nat := []
  maddr : Nat := 0
  calls : List Nat := []
  job : Option (Nat × Nat) := none
  tags : List (Nat × Nat) := []
  issued : Nat := 0
  halted : Bool := false
  faulted : Bool := false
  accepted : Bool := false
  writes : Nat := 0
  event : Bool := false
deriving DecidableEq, Repr

/-- The sequencer beside its registers: the loaded bundle, the PROGRAM copy under way, the flash slots (R434 to R439), patch RAM (R432), the
microthreads by binder × 16 + thread, when each binder restarted within the last second (R430), the binders that run their last jobs
(R425), supervisor firmware and kernel constants, the flash slots tried at this boot, and when the main power-on reset was released. -/
structure SeqX where
  bundle : List Byte := []
  programming : Option (Nat × List Byte) := none
  flash : List (List Byte) := [[], []]
  patch : List Nat := []
  threads : SMap Nat ThreadX := []
  restarts : SMap Nat (List Nat) := []
  draining : List Nat := []
  supervisor : List Byte := []
  constants : List Byte := []
  /-- The slot 0 certificate chain, in flash at 0x0020_0000 (R52, R485). -/
  chain : List Byte := []
  tried : Nat := 0
  porAt : Nat := 0
deriving DecidableEq, Repr

/-- A descriptor of the descriptor SRAM (R447), with the job it is posted for, the model's own. -/
structure Desc where
  src : Nat := 0
  dst : Nat := 0
  len : Nat := 0
  line : Nat := 0
  burst : Nat := 0
  srcSpace : Nat := 0
  dstSpace : Nat := 0
  slice : Nat := 0
  own : Bool := false
  bad : Bool := false
  code : Nat := 0
  cause : Nat := 0
  bytes : Nat := 0
  job : Option (Nat × Nat) := none
deriving DecidableEq, Repr

/-- A channel: where the next descriptor is posted, the outcome with which the one at its head ends (R448, R449), whether its address lies outside the map. -/
structure DmaChan where
  tail : Nat := 0
  fin : Option (Nat × Nat) := none
  outside : Bool := false
deriving DecidableEq, Repr

/-- The DMA engine beside its registers (R445 to R450): the descriptor SRAM by 256 × channel + place, the channels, the line requests not served
yet, the channels served last with a write to host memory and with another transfer, on-chip staging by address. -/
structure DmaX where
  desc : SMap Nat Desc := []
  chans : SMap Nat DmaChan := []
  asked : List Nat := []
  lastWrite : Nat := 127
  lastOther : Nat := 127
  staging : SMap Nat Nat := []
deriving DecidableEq, Repr

/-- Local memory beside its registers (R452 to R457): K_LM, the data lines written since power-on reset by line number, the write counters of the
counter-tree region by level × 2^24 + place, the last cause's time while its quiet time runs. -/
structure LmcX where
  key : List Byte := []
  lines : SMap Nat (List Byte) := []
  ctr : SMap Nat Nat := []
  quietSince : Option Nat := none
deriving DecidableEq, Repr

end Sys2Proof.Machine
end

