-- ==== Sys2Proof/Machine/State.lean ====
section
/-! DEFINITION. The state of the TQ4816, its faults and refusals, and the state after reset. -/
namespace Sys2Proof.Machine

/-- Reasons to stop with a fault. No command of this block raises one: the spec gives every row of the table an effect. -/
inductive Fault where
  /-- Raised by nobody; kept so that the interface has a type. Safe. -/
  | none
deriving DecidableEq, Repr

/-- Reasons to refuse a command. -/
inductive Refusal where
  /-- The arm of a command that has no meaning yet. Safe: nothing is claimed of it. -/
  | notModelled (mnemonic : String)
deriving DecidableEq, Repr

/-- The state of the block. -/
structure State where
  pending : List Instr := []
  regs : SMap (Fld × Nat) Nat := []
  heldLow : SMap (Reg × Nat) Nat := []
  latchedHigh : SMap (Reg × Nat) Nat := []
  now : Nat := 0
  free : Nat := 0
  sent : List Msg := []
  held : List HeldReq := []
  pci : PciX := {}
  slices : SMap Nat SliceX := []
  queues : SMap Nat QueueX := []
  rings : SMap Nat RingX := []
  chans : SMap Nat ChanX := []
  jobs : List Job := []
  kv : KvX := {}
  store : SealX := {}
  qre : QreX := {}
  tim : TimX := {}
  lco : LcoX := {}
  tmp : TmpX := {}
  pwr : PwrX := {}
  mar : MarX := {}
  hsh : HshX := {}
  cde : CdeX := {}
  bgn : BgnX := {}
  str : StrX := {}
  sch : SchX := {}
  ent : EntX := {}
  seq : SeqX := {}
  dma : DmaX := {}
  lmc : LmcX := {}
deriving DecidableEq, Repr

/-- The state after reset. (DESIGN CHOICE: notes/assumptions/6; DESIGN CHOICE: notes/assumptions/83) -/
def State.reset : State := {}

end Sys2Proof.Machine
end

