-- ==== Sys2Proof/Machine/Ops.lean ====
section
/-! DEFINITION. The operations every meaning shares: register fields, messages, interrupts, block errors, host memory, random draws. -/
namespace Sys2Proof.Machine

open Sys2Proof

/-- What a command answers. -/
abbrev Out := Host.Outcome State Fault Refusal

/-! ### Register fields -/

/-- What a field instance that no entry lists reads as: its reset value. -/
def fldDefault (k : Fld × Nat) : Nat := k.1.reset k.2

/-- The value of instance i of a field. -/
def State.getF (s : State) (f : Fld) (i : Nat) : Nat := mget fldDefault s.regs (f, i)

/-- The state with instance i of a field at v, cut to the field's width. -/
def State.setF (s : State) (f : Fld) (i v : Nat) : State :=
  { s with regs := mset fldOrd fldDefault s.regs (f, i) (v % 2 ^ f.width) }

/-- A one-bit field read as a truth value. -/
def State.flag (s : State) (f : Fld) (i : Nat) : Bool := s.getF f i != 0

/-- The state with a one-bit field set or cleared. -/
def State.setFlag (s : State) (f : Fld) (i : Nat) (b : Bool) : State := s.setF f i (b2n b)

/-- A SAT counter increased by n: it stops at its maximum (R7). -/
def State.count (s : State) (f : Fld) (i n : Nat) : State := s.setF f i (min (s.getF f i + n) (2 ^ f.width - 1))

/-- Every field instance that satisfies p returned to its reset value (R9). -/
def State.dropF (s : State) (p : Fld → Nat → Bool) : State := { s with regs := s.regs.filter fun e => !p e.1.1 e.1.2 }

/-- The reset of whole classes (R9). -/
def State.dropClasses (s : State) (cs : List RCls) : State := s.dropF fun f _ => cs.contains f.desc.cls

/-- The instances of a field that are not at their reset value. -/
def State.listed (s : State) (f : Fld) : List Nat := (s.regs.filter fun e => decide (e.1.1 = f)).map fun e => e.1.2

/-- The low half held for a register; what is kept is the half plus 1, 0 for none (R5). (DEDUCED: notes/assumptions/11) -/
def State.setHeld (s : State) (r : Reg) (i v : Nat) : State := { s with heldLow := mset regOrd (fun _ => 0) s.heldLow (r, i) v }

/-! ### Parts of the state -/

def State.slice (s : State) (i : Nat) : SliceX := nget {} s.slices i
def State.queue (s : State) (i : Nat) : QueueX := nget {} s.queues i
def State.ring (s : State) (i : Nat) : RingX := nget {} s.rings i
def State.chan (s : State) (i : Nat) : ChanX := nget {} s.chans i
def State.key (s : State) (i : Nat) : KeyX := nget {} s.kv.keys i
def State.cust (s : State) (i : Nat) : CustodyX := nget {} s.kv.custody i
def State.stream (s : State) (i : Nat) : StreamX := nget {} s.qre.streams i

def State.setSlice (s : State) (i : Nat) (x : SliceX) : State := { s with slices := nset {} s.slices i x }
def State.setQueue (s : State) (i : Nat) (x : QueueX) : State := { s with queues := nset {} s.queues i x }
def State.setRing (s : State) (i : Nat) (x : RingX) : State := { s with rings := nset {} s.rings i x }
def State.setChan (s : State) (i : Nat) (x : ChanX) : State := { s with chans := nset {} s.chans i x }
def State.setKey (s : State) (i : Nat) (x : KeyX) : State := { s with kv := { s.kv with keys := nset {} s.kv.keys i x } }
def State.setCust (s : State) (i : Nat) (x : CustodyX) : State := { s with kv := { s.kv with custody := nset {} s.kv.custody i x } }
def State.setStream (s : State) (i : Nat) (x : StreamX) : State := { s with qre := { s.qre with streams := nset {} s.qre.streams i x } }

/-! ### Messages -/

/-- A message sent. (DEDUCED: notes/assumptions/80) -/
def State.say (s : State) (m : Msg) : State := { s with sent := s.sent ++ [m] }

/-- The main logic is powered: ACTIVE, IDLE or DOZE (R493). -/
def State.powered (s : State) : Bool := [PwrMode.active, .idle, .doze].contains s.pwr.mode

/-- The fast clocks are stopped: the THERMTRIP# latch is set (R32). (DEDUCED: notes/assumptions/91) -/
def State.stopped (s : State) : Bool := s.pwr.tripLatch

/-- A meaning that the fast clocks carry: nothing happens while they are stopped (R32). (DEDUCED: notes/assumptions/91) -/
def State.clocked (s : State) (f : State → Out) : Out := if s.stopped then .next s else f s

/-! ### Waking (R495) -/

/-- The counter as nanoseconds. -/
def State.timNanos (s : State) : Nat := s.tim.sec * 1000000000 + s.tim.ns

/-- The counter set to a time given in nanoseconds. -/
def State.loadNanos (s : State) (n : Nat) : State :=
  { s with tim := { s.tim with sec := n / 1000000000 % 2 ^ 48, ns := n % 1000000000, sub := 0 } }

/-- The counter loaded from the keeper rounded up to the next tick, never below its value on entry (R417). (DEDUCED: notes/assumptions/51) -/
def State.fromKeeper (s : State) : State :=
  if s.tim.onKeeper then
    let k := s.tim.keeperSec * 1000000000 + s.tim.keeperNs
    let up := ceilDiv (k * 32768) 1000000000 * 1000000000 / 32768
    let s1 := s.loadNanos (max (max k up) s.timNanos)
    { s1 with tim := { s1.tim with onKeeper := false } }
  else s

/-- On exit from DOZE every mask generator whose deadline has passed asks for a seed (R339, R497). -/
def State.wakeGens (s : State) : State :=
  { s with ent := { s.ent with gens := s.ent.gens.map fun e =>
      if e.1 < 42 ∧ e.2.seed ≠ [] ∧ e.2.since + 1000000 ≤ s.now then (e.1, { e.2 with requested := true }) else e } }

/-- The link leaves L1 and its substates (R47, R56): PM_STATE shows L0. -/
def State.linkExit (s : State) : State :=
  let p := s.getF .PCI_LINK_STATUS_PM_STATE 0
  if 1 ≤ p ∧ p ≤ 3 then s.setF .PCI_LINK_STATUS_PM_STATE 0 0 else s

/-- The device woken from IDLE or DOZE (R495, R510); the link leaves L1. -/
def State.awake (s0 : State) : State :=
  let s := s0.linkExit
  match s.pwr.mode with
  | .idle => ({ s with pwr := { s.pwr with mode := .active, since := s.now } }).setF .PWR_STATUS_STATE 0 1
  | .doze =>
    let s1 := ({ s with pwr := { s.pwr with mode := .active, since := s.now } }).setF .PWR_STATUS_STATE 0 2
    s1.fromKeeper.wakeGens
  | _ => s

/-- A memory request to the function: it wakes the device (R495); Unsupported Request while Memory Space Enable is 0 (R40), nothing while the clocks are
stopped. (DEDUCED: notes/assumptions/77) -/
def State.mmio (s : State) (f : State → Out) : Out :=
  s.clocked fun t => if t.pci.memSpace then f t.awake else .next (t.awake.say .unsupported)

/-- The function may issue memory requests and MSI-X messages (R49), its clocks running (R32). -/
def State.mayIssue (s : State) : Bool := s.pci.busMaster && !s.pci.d3hot && !s.stopped

/-- The PBA bit of a vector (R46). -/
def State.pba (s : State) (v : Nat) : Bool := bit (s.getF .MSIX_PBA_BITS (v / 64)) (v % 64)

/-- The PBA bit of a vector set or cleared. -/
def State.setPba (s : State) (v : Nat) (b : Bool) : State :=
  s.setF .MSIX_PBA_BITS (v / 64) (setBits (s.getF .MSIX_PBA_BITS (v / 64)) (v % 64) (v % 64) (b2n b))

/-- A vector or the function is masked (R46); MSI-X Enable 0 acts as the function's mask (DESIGN CHOICE, notes/assumptions/12). (DESIGN CHOICE: notes/assumptions/12) -/
def State.vectorMasked (s : State) (v : Nat) : Bool :=
  !s.pci.msixEn || s.pci.msixMask || s.flag .MSIX_CTRL_MASK v

/-- The message of a device vector: pending in the PBA while masked (R46), else sent, or held while the function may not issue (R49). (DESIGN CHOICE: notes/assumptions/12; DEDUCED: notes/assumptions/19) -/
def State.sendVector (s : State) (v : Nat) : State :=
  if s.vectorMasked v then s.setPba v true
  else if s.mayIssue then s.say (.msix v)
  else { s with pci := { s.pci with heldVectors := s.pci.heldVectors ++ [v] } }

/-- The vector of a block, by its number (R514). -/
def State.blockVector (s : State) (blk : Nat) : State := s.sendVector blk

/-- The message of local vector v of a slice, suppressed and counted outside the grant (R73). -/
def State.sliceVector (s : State) (sl v : Nat) : State :=
  if v < s.getF .SLC_SLICE_VECTORS_VCOUNT sl then s.sendVector (s.getF .SLC_SLICE_VECTORS_VBASE sl + v)
  else s.count .SLC_VEC_DROP_COUNT_COUNT 0 1

/-! ### Block errors (R514) -/

/-- The blocks by number, in the order of the BAR0 map. -/
def blkGLB : Nat := 0
def blkPCI : Nat := 1
def blkSLC : Nat := 2
def blkQE : Nat := 3
def blkSEQ : Nat := 4
def blkSCH : Nat := 5
def blkMAR : Nat := 6
def blkHSH : Nat := 7
def blkCDE : Nat := 8
def blkBGN : Nat := 9
def blkSTR : Nat := 10
def blkENT : Nat := 11
def blkKV : Nat := 12
def blkQRE : Nat := 13
def blkSEAL : Nat := 14
def blkTIM : Nat := 15
def blkDMA : Nat := 16
def blkLMC : Nat := 17
def blkTMP : Nat := 18
def blkLCO : Nat := 19
def blkPWR : Nat := 20
def blkSMB : Nat := 21

/-- The cause bit of a block set. -/
def State.setCause (s : State) (blk cause : Nat) : State :=
  s.setF .BLK_ERR_STATUS_CAUSE blk (setBits (s.getF .BLK_ERR_STATUS_CAUSE blk) cause cause 1)

/-- An error raised in a block: counted, its cause set, and latched as the first or merged (R514). (DEDUCED: notes/assumptions/86) -/
def State.raiseErr (s : State) (blk cause unit syn : Nat) : State :=
  let s1 := s.count .BLK_ERR_COUNT_COUNT blk 1
  if s.getF .BLK_ERR_STATUS_CAUSE blk = 0 then
    let s2 := (((s1.setF .BLK_ERR_FIRST_CAUSE blk cause).setF .BLK_ERR_FIRST_UNIT blk unit).setF .BLK_ERR_FIRST_SYNDROME blk syn).setCause blk cause
    if bit (s.getF .BLK_ERR_IRQ_EN_EN blk) cause then s2.blockVector blk else s2
  else (s1.count .BLK_ERR_MERGED_COUNT blk 1).setCause blk cause

/-- Bit n of SMB_ALERT_STATUS sets; an enabled bit that was clear asserts SMB_ALERT# again (R531, R532). -/
def State.alert (s : State) (n : Nat) : State :=
  if bit (s.getF .SMB_ALERT_STATUS_ALERT 0) n then s else
  let s1 := s.setF .SMB_ALERT_STATUS_ALERT 0 (setBits (s.getF .SMB_ALERT_STATUS_ALERT 0) n n 1)
  if bit (s.getF .SMB_ALERT_EN_EN 0) n then { s1 with pwr := { s1.pwr with alertQuiet := false } } else s1

/-- LOCKDOWN set. -/
def State.lockDown (s : State) : State := (s.setFlag .TMP_STATUS_LOCKDOWN 0 true).alert 3

/-! ### Random draws and free values -/

/-- n bytes drawn from a DRBG: a free value. (DESIGN CHOICE: notes/assumptions/14) -/
def State.draw (s : State) (n : Nat) : List Byte × State :=
  (bytesOf n (Config.random s.free), { s with free := s.free + 1 })

/-! ### Host memory -/

/-- The PASID that requests of a slice carry (R43): slice 0 has none unless one is bound. -/
def State.pasidOf (s : State) (sl : Nat) : Option Nat :=
  if s.flag .SLC_SLICE_PASID_PASID_VALID sl then some (s.getF .SLC_SLICE_PASID_PASID sl) else none

/-- The entries of a slice's log ring. -/
def State.dplSize (s : State) (sl : Nat) : Nat :=
  let k := s.getF .SLC_SLICE_DPL_BASE_SIZE_LOG2 sl
  2 ^ (if 8 ≤ k ∧ k ≤ 20 then k else 8)

/-- Free slots of the log ring: one is always left empty (R84). -/
def State.dplFree (s : State) (sl : Nat) : Nat :=
  let n := s.dplSize sl
  n - 1 - (s.getF .SLC_SLICE_DPL_PROD_PROD sl % n + n - s.getF .SLC_SLICE_DPL_CONS_CONS sl % n) % n

/-- Bytes of a host access cut at 4 KiB boundaries and at the largest request: address and length of each piece. -/
def hostPieces (most a : Nat) : Nat → Nat → List (Nat × Nat)
  | 0, _ => []
  | _ + 1, 0 => []
  | f + 1, n + 1 =>
    let k := min (n + 1) (min (max 1 most) (4096 - a % 4096))
    (a, k) :: hostPieces most (a + k) f (n + 1 - k)

/-- A write cut into requests of at most Max_Payload_Size, at most 512 B (R42), and sent. -/
def State.sendWrite (s : State) (pasid : Option Nat) (a : Nat) (d : List Byte) (ro : Bool) : State :=
  (hostPieces (min 512 s.pci.mps) a d.length d.length).foldl (fun t p => t.say (.write pasid p.1 (bslice d (p.1 - a) p.2) ro)) s

/-- A read cut into requests of at most Max_Read_Request_Size, at most 4 KiB (R42), and sent. -/
def State.sendRead (s : State) (pasid : Option Nat) (a n : Nat) : State :=
  (hostPieces (min 4096 s.pci.mrrs) a n n).foldl (fun t p => t.say (.read pasid p.1 p.2)) s

/-- A write without PASID prefix, held in its order while the function may not issue it (R49). -/
def State.plainOut (s : State) (a : Nat) (d : List Byte) : State :=
  if s.mayIssue then s.sendWrite none a d false else { s with held := s.held ++ [.write none a d false] }

/-- An 8-byte log entry written at PROD, without PASID prefix (R81, R82). PROD and PHASE go on as they are when BASE or SIZE_LOG2 is written. (DEDUCED: notes/assumptions/16) -/
def State.dplPut (s : State) (sl w : Nat) : State :=
  let p := s.getF .SLC_SLICE_DPL_PROD_PROD sl
  let x := s.slice sl
  let s1 := s.plainOut (s.getF .SLC_SLICE_DPL_BASE_BASE sl * 4096 + 8 * p) (leBytes 8 (w + b2n x.phase))
  if p + 1 = s.dplSize sl then (s1.setF .SLC_SLICE_DPL_PROD_PROD sl 0).setSlice sl { x with phase := !x.phase }
  else s1.setF .SLC_SLICE_DPL_PROD_PROD sl (p + 1)

/-- The log entry of one written page, or its loss (R82, R84). (DEDUCED: notes/assumptions/16) -/
def State.dplPage (s : State) (sl page : Nat) : State :=
  if 2 ≤ s.dplFree sl then s.dplPut sl (page * 4096)
  else (s.setFlag .SLC_SLICE_DPL_PROD_OVERFLOW sl true).count .SLC_DPL_LOST_COUNT_COUNT 0 1

/-- A memory request as it is issued: for a slice with the PASID bound then (R43, R66), cut to size (R42), and for a write the log entries of the
pages it touches (R82). -/
def State.send (s : State) (r : HeldReq) : State :=
  match r with
  | .read sl a n => s.sendRead (sl.elim none s.pasidOf) a n
  | .write none a d ro => s.sendWrite none a d (ro && s.pci.relaxed)
  | .write (some sl) a d ro =>
    let s1 := s.sendWrite (s.pasidOf sl) a d (ro && s.pci.relaxed)
    if s.flag .SLC_SLICE_CTRL_LOG_EN sl ∧ d ≠ [] then
      (List.range ((a + d.length - 1) / 4096 + 1 - a / 4096)).foldl (fun t i => t.dplPage sl (a / 4096 + i)) s1
    else s1

/-- A memory request that falls due: issued, or held in its order while the function may not issue it (R49). (DEDUCED: notes/assumptions/19) -/
def State.issue (s : State) (r : HeldReq) : State := if s.mayIssue then s.send r else { s with held := s.held ++ [r] }

/-- A memory write for a slice; ro marks output data and DMA payload (R44). (DEDUCED: notes/assumptions/80) -/
def State.hostWrite (s : State) (sl addr : Nat) (d : List Byte) (ro : Bool) : State :=
  if d = [] then s else s.issue (.write (some sl) addr d ro)

/-- A memory read for a slice. -/
def State.hostRead (s : State) (sl addr n : Nat) : State := s.issue (.read (some sl) addr n)

end Sys2Proof.Machine
end

