-- ==== Sys2Proof/Machine/Curves.lean ====
section
/-! DEFINITION. The groups and moduli that BGN works in: the curves of FIPS 186-5 and SP 800-186, X25519 and X448 (RFC 7748), Ed25519 and Ed448 (RFC 8032),
RSA keys (FIPS 186-5). The spec names these standards and repeats no constant of them; the constants and formulas here are theirs. -/
namespace Sys2Proof.Machine

open Sys2Proof

/-! ### Arithmetic modulo a prime -/

/-- b to the power e modulo m. -/
def modPow (m b e : Nat) : Nat := powMod m (Nat.log2 e + 1) (b % m) e

/-- The inverse of a modulo a prime p. -/
def modInv (p a : Nat) : Nat := modPow p a (p - 2)

/-- x − y modulo p. -/
def modSub (p x y : Nat) : Nat := (x % p + p - y % p) % p

/-- The extended Euclidean algorithm: the Bézout coefficient of a modulo m, with f steps. -/
def euclid (m : Nat) : Nat → Nat → Nat → Nat → Nat → Nat
  | 0, _, _, x, _ => x
  | f + 1, r0, r1, x0, x1 => if r1 = 0 then x0 else euclid m f r1 (r0 % r1) x1 (modSub m x0 (r0 / r1 % m * x1))

/-- The inverse of a modulo m, where they have no common factor. -/
def unitInv (m a : Nat) : Nat := euclid m (2 * Nat.log2 m + 4) (a % m) m 1 0

/-! ### P-256, P-384, P-521 -/

/-- A curve y² = x³ − 3x + b: its prime, b, the base point, the order of the group, the bytes of a coordinate and of a scalar. (PRESUMED: notes/assumptions/30) -/
structure WCurve where
  p : Nat
  b : Nat
  gx : Nat
  gy : Nat
  n : Nat
  len : Nat
deriving DecidableEq, Repr

def p256 : WCurve where
  p := 2 ^ 256 - 2 ^ 224 + 2 ^ 192 + 2 ^ 96 - 1
  b := 0x5ac635d8aa3a93e7b3ebbd55769886bc651d06b0cc53b0f63bce3c3e27d2604b
  gx := 0x6b17d1f2e12c4247f8bce6e563a440f277037d812deb33a0f4a13945d898c296
  gy := 0x4fe342e2fe1a7f9b8ee7eb4a7c0f9e162bce33576b315ececbb6406837bf51f5
  n := 0xffffffff00000000ffffffffffffffffbce6faada7179e84f3b9cac2fc632551
  len := 32

def p384 : WCurve where
  p := 2 ^ 384 - 2 ^ 128 - 2 ^ 96 + 2 ^ 32 - 1
  b := 0xb3312fa7e23ee7e4988e056be3f82d19181d9c6efe8141120314088f5013875ac656398d8a2ed19d2a85c8edd3ec2aef
  gx := 0xaa87ca22be8b05378eb1c71ef320ad746e1d3b628ba79b9859f741e082542a385502f25dbf55296c3a545e3872760ab7
  gy := 0x3617de4a96262c6f5d9e98bf9292dc29f8f41dbd289a147ce9da3113b5f0b8c00a60b1ce1d7e819d7a431d7c90ea0e5f
  n := 0xffffffffffffffffffffffffffffffffffffffffffffffffc7634d81f4372ddf581a0db248b0a77aecec196accc52973
  len := 48

def p521 : WCurve where
  p := 2 ^ 521 - 1
  b := 0x51953eb9618e1c9a1f929a21a0b68540eea2da725b99b315f3b8b489918ef109e156193951ec7e937b1652c0bd3bb1bf073573df883d2c34f1ef451fd46b503f00
  gx := 0xc6858e06b70404e9cd9e3ecb662395b4429c648139053fb521f828af606b4d3dbaa14b5e77efe75928fe1dc127a2ffa8de3348b3c1856a429bf97e7e31c2e5bd66
  gy := 0x11839296a789a3bc0045c8a5fb42c7d1bd998f54449579b446817afbd17273e662c97ee72995ef42640c550b9013fad0761353c7086a272c24088be94769fd16650
  n := 0x1fffffffffffffffffffffffffffffffffffffffffffffffffffffffffffffffffa51868783bf2f966b7fcc0148f709a5d03bb5c9b8899c47aebb6fb71e91386409
  len := 66

/-- A point; none is the neutral element. -/
abbrev Point := Option (Nat × Nat)

/-- The sum of two points. -/
def WCurve.add (c : WCurve) : Point → Point → Point
  | none, q => q
  | q, none => q
  | some (x1, y1), some (x2, y2) =>
    if x1 = x2 ∧ (y1 + y2) % c.p = 0 then none else
    let l := if x1 = x2 then modSub c.p (3 * x1 * x1) 3 * modInv c.p (2 * y1) % c.p
      else modSub c.p y2 y1 * modInv c.p (modSub c.p x2 x1) % c.p
    let x := modSub c.p (l * l) (x1 + x2)
    some (x, modSub c.p (l * modSub c.p x1 x) y1)

/-- A point times the lowest n bits of k. -/
def WCurve.mulBits (c : WCurve) : Nat → Nat → Point → Point
  | 0, _, _ => none
  | n + 1, k, q =>
    let r := c.mulBits n (k / 2) (c.add q q)
    if k % 2 = 1 then c.add q r else r

/-- A point times k. -/
def WCurve.mul (c : WCurve) (k : Nat) (q : Point) : Point := c.mulBits (Nat.log2 k + 1) k q

/-- The base point. -/
def WCurve.base (c : WCurve) : Point := some (c.gx, c.gy)

/-- A coordinate of a point. -/
def Point.x (q : Point) : Nat := q.elim 0 Prod.fst

/-- The uncompressed form of a point: 0x04, then both coordinates, big-endian. -/
def WCurve.encode (c : WCurve) (q : Point) : List Byte := (4 : Byte) :: beBytes c.len (q.elim 0 Prod.fst) ++ beBytes c.len (q.elim 0 Prod.snd)

/-- The coordinates that an uncompressed point spells. -/
def WCurve.coords (c : WCurve) (v : List Byte) : Nat × Nat := (beNat (bslice v 1 c.len), beNat (bslice v (1 + c.len) c.len))

/-- Both coordinates lie below p. -/
def WCurve.below (c : WCurve) (v : List Byte) : Bool := decide ((c.coords v).1 < c.p) && decide ((c.coords v).2 < c.p)

/-- The point lies on the curve. -/
def WCurve.holds (c : WCurve) (v : List Byte) : Bool :=
  let (x, y) := c.coords v
  y * y % c.p == (modSub c.p (x * x * x) (3 * x) + c.b) % c.p

/-- The scalar that random bytes give: 1 to n − 1 (R317). -/
def WCurve.scalar (c : WCurve) (d : List Byte) : Nat := 1 + beNat d % (c.n - 1)

/-- A scalar lies in 1 to n − 1. -/
def WCurve.inRange (c : WCurve) (k : Nat) : Bool := decide (1 ≤ k) && decide (k < c.n)

/-- The leftmost bits of a digest, as many as the order has. -/
def WCurve.digest (c : WCurve) (h : List Byte) : Nat := beNat h / 2 ^ (8 * h.length - (Nat.log2 c.n + 1))

/-- An ECDSA signature r ‖ s of a digest with a scalar and a nonce. -/
def WCurve.sign (c : WCurve) (d k : Nat) (h : List Byte) : List Byte :=
  let r := (c.mul k c.base).x % c.n
  beBytes c.len r ++ beBytes c.len (modInv c.n k * (c.digest h + r * d) % c.n)

/-- r and s of a signature lie in 1 to n − 1. -/
def WCurve.sigRange (c : WCurve) (sg : List Byte) : Bool := c.inRange (beNat (sg.take c.len)) && c.inRange (beNat (sg.drop c.len))

/-- An ECDSA signature of a digest verifies under a public key. -/
def WCurve.verify (c : WCurve) (pk h sg : List Byte) : Bool :=
  let r := beNat (sg.take c.len)
  let w := modInv c.n (beNat (sg.drop c.len))
  match c.add (c.mul (c.digest h * w % c.n) c.base) (c.mul (r * w % c.n) (some (c.coords pk))) with
  | none => false
  | some q => q.1 % c.n == r

/-! ### X25519, X448 -/

/-- The prime of X25519 and Ed25519, and of X448 and Ed448. -/
def p25519 : Nat := 2 ^ 255 - 19

def p448 : Nat := 2 ^ 448 - 2 ^ 224 - 1

/-- A Montgomery curve: its prime, (A − 2) / 4, the bits and bytes of a coordinate, the base point, the u-coordinates of small order. (PRESUMED: notes/assumptions/30) -/
structure MCurve where
  p : Nat
  a24 : Nat
  bits : Nat
  len : Nat
  base : Nat
  small : List Nat
deriving DecidableEq, Repr

def x25519 : MCurve where
  p := p25519
  a24 := 121665
  bits := 255
  len := 32
  base := 9
  small := [0, 1, p25519 - 1, 325606250916557431795983626356110631294008115727848805560023387167927233504,
    39382357235489614581723060781553021112529911719440698176882885853963445705823]

def x448 : MCurve where
  p := p448
  a24 := 39081
  bits := 448
  len := 56
  base := 5
  small := [0, 1, p448 - 1]

/-- One step of the ladder, for one bit of the scalar. -/
def MCurve.rung (c : MCurve) (u : Nat) (b : Bool) (s : (Nat × Nat) × (Nat × Nat)) : (Nat × Nat) × (Nat × Nat) :=
  let (q, r) := if b then (s.2, s.1) else s
  let a := q.1 + q.2
  let d := modSub c.p q.1 q.2
  let e := modSub c.p (a * a) (d * d)
  let da := modSub c.p r.1 r.2 * a
  let cb := (r.1 + r.2) * d
  let q' := (a * a * (d * d) % c.p, e * (a * a + c.a24 * e) % c.p)
  let r' := ((da + cb) * (da + cb) % c.p, u * (modSub c.p da cb * modSub c.p da cb) % c.p)
  if b then (r', q') else (q', r')

/-- The u-coordinate of k times a point. -/
def MCurve.mul (c : MCurve) (k u : Nat) : Nat :=
  let s := ((List.range c.bits).reverse).foldl (fun s i => c.rung u (k.testBit i) s) ((1, 0), (u, 1))
  s.1.1 * modInv c.p s.1.2 % c.p

/-- The scalar that a private key holds, clamped. -/
def MCurve.scalar (c : MCurve) (sk : List Byte) : Nat :=
  let k := leNat sk
  if c.bits = 255 then 2 ^ 254 + k % 2 ^ 254 / 8 * 8 else 2 ^ 447 + k % 2 ^ 447 / 4 * 4

/-- The coordinate that a peer value decodes to, reduced. -/
def MCurve.decode (c : MCurve) (v : List Byte) : Nat := leNat v % 2 ^ c.bits % c.p

/-- The raw output of a private key and a peer value. -/
def MCurve.agree (c : MCurve) (sk v : List Byte) : List Byte := leBytes c.len (c.mul (c.scalar sk) (c.decode v))

/-- The public key of a private key. -/
def MCurve.public (c : MCurve) (sk : List Byte) : List Byte := leBytes c.len (c.mul (c.scalar sk) c.base)

/-! ### Ed25519, Ed448 -/

/-- An Edwards curve ax² + y² = 1 + dx²y²: its prime, a, d, the base point, the order, the bits of y, the bytes of a key, log2 of the cofactor. (PRESUMED: notes/assumptions/30) -/
structure ECurve where
  p : Nat
  a : Nat
  d : Nat
  bx : Nat
  by' : Nat
  n : Nat
  ybits : Nat
  len : Nat
  cof : Nat
deriving DecidableEq, Repr

def ed25519 : ECurve where
  p := p25519
  a := p25519 - 1
  d := 37095705934669439343138083508754565189542113879843219016388785533085940283555
  bx := 15112221349535400772501151409588531511454012693041857206046113283949847762202
  by' := 46316835694926478169428394003475163141307993866256225615783033603165251855960
  n := 2 ^ 252 + 27742317777372353535851937790883648493
  ybits := 255
  len := 32
  cof := 3

def ed448 : ECurve where
  p := p448
  a := 1
  d := p448 - 39081
  bx := 224580040295924300187604334099896036246789641632564134246125461686950415467406032909029192869357953282578032075146446173674602635247710
  by' := 298819210078481492676017930443930673437544040154080242095928241372331506189835876003536878655418784733982303233503462500531545062832660
  n := 2 ^ 446 - 13818066809895115352007386748515426880336692474882178609894547503885
  ybits := 455
  len := 57
  cof := 2

/-- The sum of two points. -/
def ECurve.add (c : ECurve) (q r : Nat × Nat) : Nat × Nat :=
  let t := c.d * (q.1 * r.1 % c.p * (q.2 * r.2 % c.p) % c.p) % c.p
  ((q.1 * r.2 + r.1 * q.2) * modInv c.p (1 + t) % c.p, modSub c.p (q.2 * r.2) (c.a * (q.1 * r.1 % c.p)) * modInv c.p (modSub c.p 1 t) % c.p)

/-- A point times the lowest n bits of k. -/
def ECurve.mulBits (c : ECurve) : Nat → Nat → Nat × Nat → Nat × Nat
  | 0, _, _ => (0, 1)
  | n + 1, k, q =>
    let r := c.mulBits n (k / 2) (c.add q q)
    if k % 2 = 1 then c.add q r else r

/-- A point times k. -/
def ECurve.mul (c : ECurve) (k : Nat) (q : Nat × Nat) : Nat × Nat := c.mulBits (Nat.log2 k + 1) k q

/-- The encoding of a point: y, and the sign of x in the highest bit. -/
def ECurve.encode (c : ECurve) (q : Nat × Nat) : List Byte := leBytes c.len (q.2 + q.1 % 2 * 2 ^ (8 * c.len - 1))

/-- y and the sign bit that an encoding holds. -/
def ECurve.parts (c : ECurve) (v : List Byte) : Nat × Nat := (leNat v % 2 ^ (8 * c.len - 1), leNat v / 2 ^ (8 * c.len - 1))

/-- A square root modulo p of w, when w has one. -/
def ECurve.root (c : ECurve) (w : Nat) : Option Nat :=
  let x := if c.p % 8 = 5 then modPow c.p w ((c.p + 3) / 8) else modPow c.p w ((c.p + 1) / 4)
  let x' := if c.p % 8 = 5 ∧ x * x % c.p ≠ w % c.p then x * modPow c.p 2 ((c.p - 1) / 4) % c.p else x
  if x' * x' % c.p = w % c.p then some x' else none

/-- A root x for a y, when there is one. -/
def ECurve.xOf (c : ECurve) (y : Nat) : Option Nat := c.root (modSub c.p (y * y) 1 * modInv c.p (modSub c.p (c.d * (y * y)) c.a) % c.p)

/-- The point of an encoding, when it decodes. -/
def ECurve.decode (c : ECurve) (v : List Byte) : Option (Nat × Nat) :=
  let (y, sg) := c.parts v
  if c.p ≤ y then none else
  (c.xOf y).bind fun x => if x = 0 ∧ sg = 1 then none else some (if x % 2 = sg then x else c.p - x, y)

/-- The DETAIL that R317 gives a public key, 0 when it passes. -/
def ECurve.fault (c : ECurve) (v : List Byte) : Nat :=
  let (y, sg) := c.parts v
  if c.p ≤ y then 3 else
  match c.xOf y with
  | none => 4
  | some x =>
    if x = 0 ∧ sg = 1 then 1
    else if x = 0 ∧ y = 1 then 2
    else if c.mul (2 ^ c.cof) (x, y) = (0, 1) then 5 else 0

/-- The hash of the scheme: SHA-512, or SHAKE256 after the domain of Ed448 with its context. -/
def ECurve.hash (c : ECurve) (ctx m : List Byte) : List Byte :=
  if c.len = 32 then bytesOf 64 (Config.hash 3 m)
  else bytesOf 114 (Config.hash 7 (label "SigEd448" ++ [0] ++ leBytes 1 ctx.length ++ ctx ++ m))

/-- The scalar and the prefix of a private key. -/
def ECurve.secret (c : ECurve) (sk : List Byte) : Nat × List Byte :=
  let h := if c.len = 32 then bytesOf 64 (Config.hash 3 sk) else bytesOf 114 (Config.hash 7 sk)
  let k := leNat (h.take c.len)
  (if c.len = 32 then 2 ^ 254 + k % 2 ^ 254 / 8 * 8 else 2 ^ 447 + k % 2 ^ 447 / 4 * 4, h.drop c.len)

/-- The public key of a private key. -/
def ECurve.public (c : ECurve) (sk : List Byte) : List Byte := c.encode (c.mul (c.secret sk).1 (c.bx, c.by'))

/-- A signature. -/
def ECurve.sign (c : ECurve) (sk ctx m : List Byte) : List Byte :=
  let (d, pre) := c.secret sk
  let k := leNat (c.hash ctx (pre ++ m)) % c.n
  let r := c.encode (c.mul k (c.bx, c.by'))
  r ++ leBytes c.len ((k + leNat (c.hash ctx (r ++ c.public sk ++ m)) % c.n * d) % c.n)

/-- R decodes and S lies below the order of the group (R317). -/
def ECurve.sigRange (c : ECurve) (sg : List Byte) : Bool := (c.decode (sg.take c.len)).isSome && decide (leNat (sg.drop c.len) < c.n)

/-- A signature verifies under a public key. -/
def ECurve.verify (c : ECurve) (pk ctx m sg : List Byte) : Bool :=
  match c.decode pk, c.decode (sg.take c.len) with
  | some a, some r =>
    let k := leNat (c.hash ctx (sg.take c.len ++ pk ++ m)) % c.n
    c.mul (2 ^ c.cof) (c.mul (leNat (sg.drop c.len)) (c.bx, c.by')) == c.mul (2 ^ c.cof) (c.add r (c.mul k a))
  | _, _ => false

/-! ### RSA -/

/-- The parts of an RSA private form (R180), as numbers: n, e, d, p, q, dP, dQ, qInv. -/
structure RsaKey where
  n : Nat
  e : Nat
  d : Nat
  p : Nat
  q : Nat
  dp : Nat
  dq : Nat
  qi : Nat
deriving DecidableEq, Repr

/-- The bytes of the modulus in a private form of the given length. -/
def rsaModBytes (len : Nat) : Nat := (len - 4) * 2 / 9

/-- The parts of a private form. (PRESUMED: notes/assumptions/30) -/
def rsaKey (sk : List Byte) : RsaKey :=
  let w := rsaModBytes sk.length
  let f := fun a n => beNat (bslice sk a n)
  { n := f 0 w, e := f w 4, d := f (w + 4) w, p := f (2 * w + 4) (w / 2), q := f (2 * w + 4 + w / 2) (w / 2), dp := f (3 * w + 4) (w / 2),
    dq := f (3 * w + 4 + w / 2) (w / 2), qi := f (4 * w + 4) (w / 2) }

/-- The private form of a key whose modulus has w bytes. -/
def RsaKey.bytes (k : RsaKey) (w : Nat) : List Byte :=
  beBytes w k.n ++ beBytes 4 k.e ++ beBytes w k.d ++ beBytes (w / 2) k.p ++ beBytes (w / 2) k.q ++ beBytes (w / 2) k.dp ++ beBytes (w / 2) k.dq ++
    beBytes (w / 2) k.qi

/-- The secret parts are non-zero and below their moduli (R317). -/
def RsaKey.inRange (k : RsaKey) : Bool :=
  let ok := fun (x m : Nat) => decide (1 ≤ x) && decide (x < m)
  ok k.d k.n && ok k.p k.n && ok k.q k.n && ok k.dp k.p && ok k.dq k.q && ok k.qi k.p

/-- The CRT values belong to n, e and d (R181). -/
def RsaKey.consistent (k : RsaKey) : Bool :=
  k.inRange && k.n == k.p * k.q && k.dp == k.d % (k.p - 1) && k.dq == k.d % (k.q - 1) && k.qi * k.q % k.p == 1 % k.p && k.e * k.d % (k.p - 1) == 1 &&
    k.e * k.d % (k.q - 1) == 1

/-- The key of two primes and the exponent 65,537. (PRESUMED: notes/assumptions/30) -/
def rsaMake (p q : Nat) : RsaKey :=
  let d := unitInv ((p - 1) * (q - 1) / Nat.gcd (p - 1) (q - 1)) 65537
  { n := p * q, e := 65537, d := d, p := p, q := q, dp := d % (p - 1), dq := d % (q - 1), qi := unitInv p q }

end Sys2Proof.Machine
end

