-- ==== Sys2Proof/Machine/Quarters.lean ====
section
/-! DEFINITION. Cores, quarters and scratch pages, and how an abandoned or ended job leaves them (R250, R254, R255). -/
namespace Sys2Proof.Machine

open Sys2Proof

/-- A core. -/
def State.core (s : State) (c : Nat) : CoreX := nget {} s.mar.cores c

/-- A core replaced. -/
def State.setCore (s : State) (c : Nat) (x : CoreX) : State := { s with mar := { s.mar with cores := nset {} s.mar.cores c x } }

/-- A quarter of a core. -/
def State.quarter (s : State) (c n : Nat) : Quarter := nget {} (s.core c).quarters n

/-- A quarter replaced. -/
def State.setQuarter (s : State) (c n : Nat) (x : Quarter) : State :=
  s.setCore c { s.core c with quarters := nset {} (s.core c).quarters n x }

/-- A gathering's scratch. -/
def State.gather (s : State) (g : Nat) : GatherX := nget {} s.mar.gath g

/-- A gathering's scratch replaced. -/
def State.setGather (s : State) (g : Nat) (x : GatherX) : State := { s with mar := { s.mar with gath := nset {} s.mar.gath g x } }

/-- The RUNNING quarter of a core. -/
def State.runningQuarter (s : State) (c : Nat) : Option Nat := (List.range 4).find? fun n => decide ((s.quarter c n).st = .running)

/-- The quarters that hold anything, as core and number. -/
def State.busyQuarters (s : State) : List (Nat × Nat) :=
  s.mar.cores.flatMap fun c => (c.2.quarters.filter fun e => decide (e.2.st ≠ .free)).map fun e => (c.1, e.1)

/-- What a core keeps of its registers when its job is abandoned: every secret register, port and predicate is cleared, nothing is under way (R255). -/
def CoreRun.dropSecrets (r : CoreRun) : CoreRun :=
  { r with regs := r.regs.filter (fun e => !e.2.tag), ports := r.ports.filter (fun e => !e.2.tag), flights := [], writes := [], streams := [],
           resv := none, sync := false, ended := none, maskStall := false, hashStall := false }

/-- A quarter passed to its core's scrubber: its sessions are closed, its job leaves it; a running core drops its secrets and any halt (R254, R255). -/
def State.scrubQuarter (s : State) (c n : Nat) : State :=
  let x := s.quarter c n
  let s1 := if x.st = .running then s.setCore c { s.core c with run := (s.core c).run.dropSecrets, halt := none } else s
  s1.setQuarter c n { rows := x.rows, st := .scrubbing }

/-- The pages that a job holds in a gathering go to be scrubbed; its reservations end (R254, R279). -/
def State.scrubPages (s : State) (q i : Nat) : State :=
  { s with mar := { s.mar with gath := s.mar.gath.map fun g =>
      (g.1, { g.2 with pages := g.2.pages.map fun p => if p.2.owner = some (q, i) then (p.1, { owner := none, scrubbing := true }) else p }) } }

/-- Every quarter and page of a job is scrubbed: after its drain, or when it is abandoned. -/
def State.scrubJob (s : State) (q i : Nat) : State :=
  let l := s.busyQuarters.filter fun e => (s.quarter e.1 e.2).job == some (q, i)
  (l.foldl (fun t e => t.scrubQuarter e.1 e.2) s).scrubPages q i

/-- The sessions that serve a job, in the session store (R289). (DESIGN CHOICE: notes/assumptions/57) -/
def State.sessionsOf (s : State) (q i : Nat) : List Nat := (s.hsh.sess.filter fun e => e.2.owner == some (q, i)).map Prod.fst

/-- A session closed: its context is zeroized at once, or when the call in flight ends (R290, R296). -/
def State.closeSession (s : State) (n : Nat) : State :=
  let x := nget {} s.hsh.sess n
  let y : FSess := if x.flight.isSome then { x with closing := true, ready := none } else {}
  { s with hsh := { s.hsh with sess := nset {} s.hsh.sess n y } }

/-- A job leaves its engine: quarters and pages are scrubbed, its sessions closed (R254, R296). -/
def State.leaveEngine (s : State) (j : Job) : State :=
  let s1 := s.scrubJob j.q j.idx
  let s2 := (s1.sessionsOf j.q j.idx).foldl (fun t n => t.closeSession n) s1
  { s2 with str := { s2.str with yielded := s2.str.yielded.filter fun p => p != (j.q, j.idx) } }

/-- What a job holds in its engine is given up: it leaves, and its slots of CDE are zeroized (R255, R308). -/
def State.letGo (s : State) (j : Job) : State :=
  let s1 := s.leaveEngine j
  if j.pools.contains .CDE then
    let n := j.slot.getD 0
    { s1 with cde := { s1.cde with zero := if s1.cde.zero.contains n then s1.cde.zero else s1.cde.zero ++ [n] } }
  else s1

end Sys2Proof.Machine
end

