-- ==== Sys2Proof/Machine/Store.lean ====
section
/-! DEFINITION. The sealed store's shared operations: keys, the integrity tree, placements, commit groups, storage requests (chapter 16). -/
namespace Sys2Proof.Machine

open Sys2Proof

/-! ### Keys (R375, R387) -/

def State.sealKey (s : State) (l : String) (n : Nat) : List Byte :=
  bytesOf n (Config.kmac256 s.lco.frs s.store.storeId (label l) n)

def State.kXts (s : State) : List Byte := s.sealKey "UMVOR.SEAL.XTS" 64
def State.kMac (s : State) : List Byte := s.sealKey "UMVOR.SEAL.MAC" 32
def State.kTree (s : State) : List Byte := s.sealKey "UMVOR.SEAL.TREE" 32
def State.kRoot (s : State) : List Byte := s.sealKey "UMVOR.SEAL.ROOT" 32

/-- K_ANCHOR, from the battery-backed key (R387). -/
def State.kAnchor (s : State) : List Byte :=
  bytesOf 32 (Config.kmac256 (s.kv.bbk.getD []) s.store.storeId (label "UMVOR.SEAL.ANCHOR") 32)

/-- A MAC of 64 bits: one that computes to 0 is stored and compared as 1 (R375). -/
def mac64 (key x : List Byte) : Nat :=
  let m := leNat (bytesOf 8 (Config.kmac256 key x [] 32))
  if m = 0 then 1 else m

/-- The ciphertext of a block's content at a version (R375). -/
def State.blockCipher (s : State) (b v : Nat) (d : List Byte) : List Byte :=
  bytesOf 4096 (Config.xtsEnc s.kXts (v * 2 ^ 31 + b) d)

/-- The content of a block's ciphertext at a version. -/
def State.blockPlain (s : State) (b v : Nat) (c : List Byte) : List Byte :=
  bytesOf 4096 (Config.xtsDec s.kXts (v * 2 ^ 31 + b) c)

/-- The block MAC (R375). -/
def State.blockMac (s : State) (b v : Nat) (c : List Byte) : Nat := mac64 s.kMac (leBytes 8 b ++ leBytes 8 v ++ c)

/-! ### The integrity tree (R376, R377) -/

/-- Which device block stores node i of level l, 1 to 10. -/
def treeBlock (l i : Nat) : Nat :=
  match l with
  | 1 => 0x7F000000 + i / 32
  | 2 => 0x7F800000 + i / 64
  | 3 => 0x7F800000 + 0x80000 + i / 64
  | 4 => 0x7F800000 + 0x90000 + i / 64
  | 5 => 0x7F800000 + 0x92000 + i / 64
  | 6 => 0x7F800000 + 0x92400 + i / 64
  | 7 => 0x7F800000 + 0x92480 + i / 64
  | 8 => 0x7F800000 + 0x92490 + i / 64
  | 9 => 0x7F800000 + 0x92492 + i / 64
  | _ => 0x7F800000 + 0x92493 + i / 64

/-- How many nodes of a level one tree block stores. -/
def nodesPerBlock (l : Nat) : Nat := if l = 1 then 32 else 64

/-- The bytes of one node without its MAC. -/
def nodeContent (l : Nat) (n : Node) : List Byte :=
  n.vals.flatMap fun p => if l = 1 then leBytes 7 p.1 ++ leBytes 8 p.2 else leBytes 7 p.1

/-- Bytes of one node. -/
def nodeSize (l : Nat) : Nat := if l = 1 then 128 else 64

/-- A node read from its bytes. -/
def nodeParse (l : Nat) (d : List Byte) : Node :=
  { vals := (List.range 8).map fun j =>
      if l = 1 then (bfield d (15 * j) 7, bfield d (15 * j + 7) 8) else (bfield d (7 * j) 7, 0) }

/-- NODE_MAC (R376). -/
def State.nodeMac (s : State) (l i : Nat) (n : Node) (parent : Nat) : Nat :=
  mac64 s.kTree (leBytes 1 l ++ leBytes 8 i ++ nodeContent l n ++ leBytes 7 parent)

/-- The number of node i of level l among all nodes. -/
def nodeKey (l i : Nat) : Nat := l * 2 ^ 40 + i

/-- A node that SEAL holds. -/
def State.nodeHeld (s : State) (l i : Nat) : Option Node := (s.store.nodes.find? fun e => e.1 == nodeKey l i).map Prod.snd

/-- A tree block as fetched, if SEAL holds it. -/
def State.rawHeld (s : State) (b : Nat) : Option (List Byte) := (s.store.raw.find? fun e => e.1 == b).map Prod.snd

/-- What SEAL knows of a node: its value, the tree block it must fetch first, or a tree block that fails its check. -/
inductive NodeRes where
  | ok (n : Node)
  | need (b : Nat)
  | bad (b : Nat)
deriving DecidableEq, Repr

/-- Node i of level 11 - up, checked against its parent (R377, R378). -/
def State.node (s : State) : Nat → Nat → NodeRes
  | 0, _ => .ok ((s.nodeHeld 11 0).getD {})
  | up + 1, i =>
    let l := 10 - up
    match s.node up (i / 8) with
    | .ok p =>
      match s.nodeHeld l i with
      | some n => .ok n
      | none =>
        let c := (p.vals.getD (i % 8) (0, 0)).1
        if c = 0 then .ok {} else
        match s.rawHeld (treeBlock l i) with
        | none => .need (treeBlock l i)
        | some d =>
          let e := bslice d ((i % nodesPerBlock l) * nodeSize l) (nodeSize l)
          let n := nodeParse l e
          if bfield e (nodeSize l - 8) 8 = s.nodeMac l i n c then .ok n else .bad (treeBlock l i)
    | r => r

/-- The first tree block that must be fetched or fails before block b's path is complete: on each level from the top, every
node of the tree block that stores the path's node (R379). -/
def State.pathNeed (s : State) (b : Nat) : Option NodeRes :=
  (List.range 10).findSome? fun k =>
    let l := 10 - k
    let i := b / 8 ^ l
    let first := i / nodesPerBlock l * nodesPerBlock l
    (List.range (nodesPerBlock l)).findSome? fun j =>
      match s.node (k + 1) (first + j) with
      | .ok _ => none
      | r => some r

/-- The level-1 slot of a block: VERSION and BLOCK_MAC. -/
def State.blockSlot (s : State) (b : Nat) : NodeRes × Nat × Nat :=
  match s.node 10 (b / 8) with
  | .ok n => (.ok n, n.vals.getD (b % 8) (0, 0))
  | r => (r, 0, 0)

/-- What SEAL knows of a block's content: the bytes, a block to fetch first (a tree block or the block itself), or a block that fails. -/
inductive DataRes where
  | ok (d : List Byte)
  | need (b : Nat)
  | bad (b : Nat)
deriving DecidableEq, Repr

/-- A block's content (R192, R377, R380): SEAL's own copy, zeros for an empty slot, or a fetch. (DEDUCED: notes/assumptions/45) -/
def State.blockData (s : State) (b : Nat) : DataRes :=
  match s.store.placeQ.reverse.find? fun p => p.block == b with
  | some p => .ok p.data
  | none =>
  match s.store.data.find? fun e => e.1 == b with
  | some e => .ok e.2
  | none =>
    match s.blockSlot b with
    | (.ok _, _, m) => if m = 0 then .ok (zeros 4096) else .need b
    | (.need t, _) => .need t
    | (.bad t, _) => .bad t

/-! ### Storage requests -/

/-- A request put behind those that wait on chip for a slot (R111). -/
def State.scAsk (s : State) (r : ScReq) : State := { s with store := { s.store with scQ := s.store.scQ ++ [r] } }

/-- The four channels' outstanding requests. -/
def State.scOutstanding (s : State) : List ScReq := (List.range 4).flatMap fun c => (s.chan c).outstanding.map ScOut.req

/-- A FETCH of one block, unless it is asked for already (R534). -/
def State.askFetch (s : State) (b : Nat) : State :=
  if (s.store.scQ ++ s.scOutstanding ++ s.store.retryQ.map Prod.fst).any fun r => r.op == .fetch && r.block == b then s
  else s.scAsk { op := .fetch, block := b, since := s.now }

/-! ### Placement (R377, R379) -/

/-- Slot j of a node set. -/
def Node.set (n : Node) (j : Nat) (p : Nat × Nat) : Node := { vals := n.vals.set j p }

/-- One counter of the path of block b increased: level l + 1, whose child index is b div 8^l. -/
def State.bump (s : State) (b l : Nat) : State :=
  let c := b / 8 ^ l
  let n := match s.node (10 - l) (c / 8) with
    | .ok n => n
    | _ => {}
  { s with store := { s.store with nodes := nset {} s.store.nodes (nodeKey (l + 1) (c / 8)) (n.set (c % 8) ((n.vals.getD (c % 8) (0, 0)).1 + 1, 0)) } }

/-- A list with an element added unless it is there. -/
def addNew (l : List Nat) (x : Nat) : List Nat := if l.contains x then l else l ++ [x]

/-- The tree blocks on a block's path. -/
def pathBlocks (b : Nat) : List Nat := (List.range 10).map fun k => treeBlock (k + 1) (b / 8 ^ (k + 1))

/-- A version placed in the open group: VERSION and every counter of the path increased by one, the BLOCK_MAC written,
SEAL's own copy kept (R377, R380). The path must be complete. -/
def State.placeNow (s : State) (p : Placement) : State :=
  let b := p.block
  let (_, v, _) := s.blockSlot b
  let n := match s.node 10 (b / 8) with
    | .ok n => n
    | _ => {}
  let m := if p.discard then 0 else s.blockMac b (v + 1) (s.blockCipher b (v + 1) p.data)
  let s1 := (List.range 10).foldl (fun t k => t.bump b (k + 1)) s
  let g := s1.store.openG
  let g' : OpenGroup :=
    { dirty := (if p.discard then pathBlocks b else b :: pathBlocks b).foldl addNew g.dirty,
      first := some (g.first.getD s1.now), closeAsked := g.closeAsked }
  { s1 with
    store := { s1.store with
      nodes := nset {} s1.store.nodes (nodeKey 1 (b / 8)) (n.set (b % 8) (v + 1, m))
      data := if p.discard then mdel s1.store.data b else nset [] s1.store.data b p.data
      discards := if p.discard then s1.store.discards ++ [(b, s1.store.commit)]
        else s1.store.discards.filter fun e => e.1 != b
      scQ := if p.discard then s1.store.scQ else s1.store.scQ.filter fun r => !(decide (r.op = .discard) && r.block == b)
      openG := g' }
    jobs := s1.jobs.map fun j => if p.owner = some (j.q, j.idx) ∧ j.stage ≠ .done then { j with needCommit := s1.store.commit } else j }

/-- Waiting placements taken into the open group in order, up to one that must wait for a tree block or for room (R379). -/
def State.drainPlace (s : State) : Nat → State
  | 0 => s
  | f + 1 =>
    match s.store.placeQ with
    | [] => s
    | p :: rest =>
      if 65536 ≤ s.store.openG.dirty.length then s else
      match s.pathNeed p.block with
      | none => ({ s with store := { s.store with placeQ := rest } }.placeNow p).drainPlace f
      | some (.need t) => s.askFetch t
      | some _ => s

/-- A new version of a block handed to SEAL. (DEDUCED: notes/assumptions/45) -/
def State.place (s : State) (b : Nat) (d : List Byte) (owner : Option (Nat × Nat)) : State :=
  let s1 : State := { s with store := { s.store with placeQ := s.store.placeQ ++ [{ block := b, data := padTo 4096 d, owner := owner }] } }
  s1.drainPlace s1.store.placeQ.length

/-- A block freed (R377, R380). -/
def State.discardBlock (s : State) (b : Nat) (owner : Option (Nat × Nat)) : State :=
  let s1 : State := { s with store := { s.store with placeQ := s.store.placeQ ++ [{ block := b, data := zeros 4096, discard := true, owner := owner }] } }
  s1.drainPlace s1.store.placeQ.length

/-! ### Commit groups (R379, R386) -/

/-- The bytes of a tree block: held nodes with their MACs, other nodes as fetched or zeros. -/
def State.treeBytes (s : State) (b : Nat) : List Byte :=
  let l := if b < 0x7F800000 then 1 else
    (((List.range 9).map fun k => 10 - k).find? fun l => decide (treeBlock l 0 ≤ b)).getD 2
  let first := (b - treeBlock l 0) * nodesPerBlock l
  (List.range (nodesPerBlock l)).flatMap fun j =>
    let i := first + j
    match s.nodeHeld l i with
    | some n =>
      let c := match s.node (10 - l) (i / 8) with
        | .ok p => (p.vals.getD (i % 8) (0, 0)).1
        | _ => 0
      nodeContent l n ++ leBytes 8 (s.nodeMac l i n c)
    | none =>
      match s.rawHeld b with
      | some d => bslice d (j * nodeSize l) (nodeSize l)
      | none => zeros (nodeSize l)

/-- What SEAL persists of a dirty block. -/
def State.persistBytes (s : State) (b : Nat) : List Byte :=
  if 0x7F000000 ≤ b then s.treeBytes b
  else
    let (_, v, _) := s.blockSlot b
    s.blockCipher b v (nget (zeros 4096) s.store.data b)

/-- Insertion into an ascending list. -/
def insertAsc (l : List Nat) (x : Nat) : List Nat :=
  match l with
  | [] => [x]
  | y :: t => if x < y then x :: y :: t else y :: insertAsc t x

/-- An ascending list cut into contiguous runs inside aligned groups of 16 (R379): first element and length. -/
def runs16 : List Nat → List (Nat × Nat)
  | [] => []
  | x :: t =>
    match runs16 t with
    | (y, n) :: r => if y = x + 1 ∧ y / 16 = x / 16 then (x, n + 1) :: r else (x, 1) :: (y, n) :: r
    | [] => [(x, 1)]

/-- The OTP epoch in force. -/
def State.epoch (s : State) : Nat := s.getF .SEAL_STATUS_EPOCH 0

/-- Bytes 0 to 95 of a root record (R386). -/
def State.rootBody (s : State) (commit : Nat) (prepared : Bool) : List Byte :=
  [0x55, 0x4D, 0x56, 0x53, 0x01] ++ leBytes 1 (b2n prepared) ++ leBytes 2 s.epoch ++ padTo 16 s.store.storeId ++
    leBytes 8 commit ++ nodeContent 11 ((s.nodeHeld 11 0).getD {}) ++ zeros 8

/-- A root record: its body, its MAC, zeros (R386). -/
def State.rootRecord (s : State) (body : List Byte) : List Byte :=
  padTo 4096 (body ++ bytesOf 32 (Config.kmac256 s.kRoot body [] 32))

/-- The open group may close (R379): no group persists, and it holds a placement or its close is asked for. -/
def State.groupMayClose (s : State) : Bool :=
  s.store.persG.isNone && (s.store.openG.closeAsked || !s.store.openG.dirty.isEmpty)

/-- The open group closed: its PERSIST requests asked for, one per run; with none, the root record at once (R379). (DEDUCED: notes/assumptions/45) -/
def State.closeGroup (s : State) : State :=
  let g := s.store.openG
  let reqs := (runs16 (g.dirty.foldl insertAsc [])).map fun r =>
    ({ op := .persist, block := r.1, count := r.2, since := s.now,
       data := (List.range r.2).flatMap fun k => s.persistBytes (r.1 + k) } : ScReq)
  let body := s.rootBody s.store.commit s.store.prepared
  let rec' := s.rootRecord body
  let root : ScReq := { op := .persist, block := 0, count := 1, data := rec', since := s.now }
  { s with store := { s.store with
      openG := {}
      commit := s.store.commit + 1
      persG := some { commit := s.store.commit, left := reqs.length, blocks := g.dirty, record := rec', rootPosted := reqs.isEmpty }
      scQ := s.store.scQ ++ (if reqs.isEmpty then [root] else reqs) } }

/-- The open group asked to close at once (R379, R387). -/
def State.askClose (s : State) : State :=
  { s with store := { s.store with openG := { s.store.openG with closeAsked := true } } }

/-- The value the anchor register takes from root-record bytes 0 to 95 (R387). -/
def State.anchorFor (s : State) (body : List Byte) (epoch commit : Nat) : Anchor :=
  let d := bytesOf 16 (Config.hash 4 body)
  { valid := true, epoch := epoch, commit := commit, digest := d,
    mac := bytesOf 8 (Config.kmac256 s.kAnchor (leBytes 2 epoch ++ leBytes 8 commit ++ d) [] 32) }

/-- The anchor register written, and the registers that show it. -/
def State.setAnchor (s : State) (a : Anchor) : State :=
  ((({ s with store := { s.store with anchor := a } }.setFlag .SEAL_ANCHOR_STATUS_VALID 0 a.valid).setF .SEAL_ANCHOR_STATUS_EPOCH 0 a.epoch).setF
    .SEAL_ANCHOR_COMMIT_COMMIT 0 a.commit)

/-- Step 3 and 4 of R379, unless the brace holds it (R381): the anchor register takes the group's COMMIT and the group is
durable; freed blocks of durable groups are discarded at the host (R380). (DEDUCED: notes/assumptions/45) -/
def State.finishGroup (s : State) : State :=
  match s.store.persG with
  | none => s
  | some g =>
    if g.rootDone && !s.flag .PWR_STATUS_BRACE 0 && s.kv.bbk.isSome then
      let s1 := (s.setAnchor (s.anchorFor (g.record.take 96) s.epoch g.commit)).setF .SEAL_COMMIT_COMMIT 0 g.commit
      let now := s1.store.discards.filter fun e => e.2 ≤ g.commit
      { s1 with store := { s1.store with
          persG := none
          discards := s1.store.discards.filter fun e => g.commit < e.2
          scQ := s1.store.scQ ++ now.map fun e => ({ op := .discard, block := e.1, since := s1.now } : ScReq) } }
    else s

/-- A PERSIST of the persisting group is DONE (R379). (DEDUCED: notes/assumptions/45) -/
def State.persistDone (s : State) (r : ScReq) : State :=
  match s.store.persG with
  | none => s
  | some g =>
    if r.block = 0 then { s with store := { s.store with persG := some { g with rootDone := true } } }.finishGroup
    else
      let g' := { g with left := g.left - 1 }
      if g'.left = 0 then
        { s with store := { s.store with persG := some { g' with rootPosted := true },
                                         scQ := s.store.scQ ++ [({ op := .persist, block := 0, count := 1, data := g.record, since := s.now } : ScReq)] } }
      else { s with store := { s.store with persG := some g' } }

/-- A group is durable: the anchor register holds it or a later one. -/
def State.durable (s : State) (commit : Nat) : Bool := commit ≤ s.getF .SEAL_COMMIT_COMMIT 0

/-- A fetched block checked against its parent (R378): a tree block is kept as fetched, a data block must meet its BLOCK_MAC. True when it fails. -/
def State.fetched (s : State) (b : Nat) (d : List Byte) : Bool × State :=
  if 0x7F000000 ≤ b then (false, { s with store := { s.store with raw := nset [] s.store.raw b (padTo 4096 d) } })
  else
    let (_, v, m) := s.blockSlot b
    if s.blockMac b v (padTo 4096 d) = m then
      (false, { s with store := { s.store with data := nset [] s.store.data b (s.blockPlain b v (padTo 4096 d)) } })
    else (true, s)

/-- An integrity failure of a block: counted, latched, and its FETCH waits SEAL_RETRY_TIME (R378). -/
def State.integrityFail (s : State) (ch b : Nat) (r : ScReq) : State :=
  let s1 := (s.count .SEAL_INTEGRITY_FAIL_COUNT_COUNT 0 1).raiseErr blkSEAL 0 ch b
  { s1 with store := { s1.store with
      failed := addNew s1.store.failed b
      retryQ := s1.store.retryQ ++ [(r, s1.now + max 1 (s1.getF .SEAL_RETRY_TIME_MS 0) * 1000000)] } }

/-- The store is OPEN. -/
def State.storeOpen (s : State) : Bool := s.getF .SEAL_STATUS_STATE 0 == 2

end Sys2Proof.Machine
end

