-- ==== Sys2Proof/Machine/Ledger.lean ====
section
/-! DEFINITION. Quire's shared operations: records, folios, the Merkle Mountain Range, the device journal (R392 to R401, R535). -/
namespace Sys2Proof.Machine

open Sys2Proof

/-! ### Time as records carry it -/

/-- An order on times. -/
def Stamp.le (a b : Stamp) : Bool := decide (a.sec < b.sec) || (decide (a.sec = b.sec) && decide (a.ns ≤ b.ns))

/-- The later of two times. -/
def Stamp.later (a b : Stamp) : Stamp := if a.le b then b else a

/-- The time unit's present time with its grade. -/
def State.timeNow (s : State) : Stamp := { sec := s.tim.sec, ns := s.tim.ns, grade := s.getF .TIM_STATUS_GRADE 0 }

/-! ### Records (R393, R394) -/

/-- What a record says. -/
structure Rec where
  seq : Nat
  time : Stamp
  kind : Nat
  slice : Nat
  status : Nat := 0
  detail : Nat := 0
  payload : List Byte := []
deriving DecidableEq, Repr

/-- Header and payload of a record, without padding. -/
def Rec.bytes (r : Rec) : List Byte :=
  leBytes 8 r.seq ++ leBytes 6 r.time.sec ++ leBytes 4 r.time.ns ++ leBytes 1 r.time.grade ++ leBytes 1 r.kind ++
    leBytes 2 r.slice ++ leBytes 2 r.status ++ leBytes 2 r.detail ++ leBytes 2 r.payload.length ++ zeros 4 ++ r.payload

/-- Bytes padded with zeros to a multiple of 8. -/
def pad8 (l : List Byte) : List Byte := padTo (ceilDiv l.length 8 * 8) l

/-! ### The Merkle Mountain Range (R397) -/

/-- H of a stream, 32 bytes. -/
def State.streamHash (s : State) (st : Nat) (m : List Byte) : List Byte :=
  bytesOf 32 (Config.hash (s.getF .QRE_STREAM_STATE_HASH st) m)

/-- The number of hash i of level l. -/
def hashKey (l i : Nat) : Nat := l * 2 ^ 64 + i

/-- A hash of the range. -/
def StreamX.hashAt (x : StreamX) (l i : Nat) : List Byte := nget [] x.hashes (hashKey l i)

/-- The peaks of a range of n leaves, left to right: level and index of each mountain. -/
def peaks (n : Nat) : List (Nat × Nat) :=
  ((List.range 64).reverse.filter fun k => bit n k).map fun k => (k, n / 2 ^ k - 1)

/-- The bag of a list of peaks. -/
def bag (h : List Byte → List Byte) : List (List Byte) → List Byte
  | [] => h [3]
  | [p] => p
  | p :: q :: t => h (2 :: p ++ bag h (q :: t))

/-- The stream root at size n. -/
def State.rootAt (s : State) (st n : Nat) : List Byte :=
  bag (s.streamHash st) ((peaks n).map fun p => (s.stream st).hashAt p.1 p.2)

/-- The mountain of a range of n leaves that holds leaf i: its level. -/
def peakLevel (n i : Nat) : Nat :=
  ((peaks n).find? fun p => decide (i / 2 ^ p.1 = p.2)).elim 0 Prod.fst

/-- The other child of the node that has child i. -/
def sibling (i : Nat) : Nat := if i % 2 = 0 then i + 1 else i - 1

/-- The hashes of an inclusion proof of record i at size n, in order (R400). -/
def State.inclusion (s : State) (st i n : Nat) : List (List Byte) :=
  let x := s.stream st
  let lv := peakLevel n i
  let right := (peaks n).filter fun p => p.1 < lv
  let left := ((peaks n).filter fun p => lv < p.1).reverse
  (List.range lv).map (fun k => x.hashAt k (sibling (i / 2 ^ k))) ++
    (if right.isEmpty then [] else [bag (s.streamHash st) (right.map fun p => x.hashAt p.1 p.2)]) ++
    left.map fun p => x.hashAt p.1 p.2

/-- The hashes of a consistency proof from size m to size n, in order (R400). (DEDUCED: notes/assumptions/39) -/
def State.consistency (s : State) (st m n : Nat) : List (List Byte) :=
  if m = 0 then [] else
  let x := s.stream st
  let last := (peaks m).getLast?.getD (0, 0)
  let top := peakLevel n (last.2 * 2 ^ last.1)
  let climb := (List.range (top - last.1)).filterMap fun k =>
    let i := last.2 / 2 ^ k
    if i % 2 = 0 then some (x.hashAt (last.1 + k) (i + 1)) else none
  let right := (peaks n).filter fun p => p.1 < top
  (peaks m).map (fun p => x.hashAt p.1 p.2) ++ climb ++
    (if right.isEmpty then [] else [bag (s.streamHash st) (right.map fun p => x.hashAt p.1 p.2)])

/-- The interior nodes and leaves that an inclusion proof reads: level and index. -/
def inclusionNodes (i n : Nat) : List (Nat × Nat) :=
  (List.range (peakLevel n i)).map (fun k => (k, sibling (i / 2 ^ k))) ++ (peaks n).filter fun p => p.1 != peakLevel n i

/-- Those that a consistency proof reads. -/
def consistencyNodes (m n : Nat) : List (Nat × Nat) :=
  let last := (peaks m).getLast?.getD (0, 0)
  let top := peakLevel n (last.2 * 2 ^ last.1)
  peaks m ++ ((List.range (top - last.1)).filterMap fun k =>
    if last.2 / 2 ^ k % 2 = 0 then some (last.1 + k, last.2 / 2 ^ k + 1) else none) ++ (peaks n).filter fun p => p.1 < top

/-- Where the node blocks hold an interior node: its number in the order in which the nodes form (R398). -/
def nodeNumber (l i : Nat) : Nat :=
  let m := (i + 1) * 2 ^ l - 1
  m - ((List.range 64).filter fun b => bit m b).length + (l - 1)

/-- A proof: its 64-byte header and its hashes (R400). -/
def proofBytes (kind st k a n : Nat) (root : List Byte) (hs : List (List Byte)) : List Byte :=
  [0x55, 0x4D, 0x56, 0x50, 0x01] ++ leBytes 1 kind ++ leBytes 1 st ++ leBytes 1 k ++ leBytes 8 a ++ leBytes 8 n ++
    padTo 32 root ++ zeros 8 ++ hs.flatten

/-! ### Room in the Quire range (R395, R396, R398)
The first 256 blocks of the range hold the streams' state records; 16-block areas follow (DESIGN CHOICE, notes/assumptions/21). -/

/-- A free 16-block area of the Quire range. (DESIGN CHOICE: notes/assumptions/21) -/
def State.takeArea (s : State) : Option Nat × State :=
  match s.qre.freeFolios with
  | a :: t => (some a, { s with qre := { s.qre with freeFolios := t } })
  | [] =>
    if 256 + (s.qre.nextFolio + 1) * 16 ≤ s.getF .SEAL_RANGE_QRE_SPAN 0 then
      (some (s.getF .SEAL_RANGE_QRE_BASE 0 + 256 + s.qre.nextFolio * 16),
        { s with qre := { s.qre with nextFolio := s.qre.nextFolio + 1 } })
    else (none, s)

/-- A spare folio allocated for a stream that has none; when none can be had, the stream is SHORT (R396). -/
def State.trySpare (s : State) (st : Nat) : State :=
  let x := s.stream st
  if x.spare.isSome then s else
  match (if x.folio + 1 < 2 ^ 25 then s.takeArea else (none, s)) with
  | (some a, s1) => (s1.setStream st { x with spare := some a }).setFlag .QRE_STREAM_STATE_SHORT st false
  | (none, s1) =>
    if s1.flag .QRE_STREAM_STATE_SHORT st then s1
    else (s1.setFlag .QRE_STREAM_STATE_SHORT st true).raiseErr blkQRE 1 st (s1.getF .QRE_STREAM_SIZE_SIZE st)

/-- Where an accepted record of n bytes (padded) will lie, when it may be accepted: in the current folio or in the spare,
whose last 4 KiB are held back unless the record is short (R396). -/
def StreamX.plan (x : StreamX) (n : Nat) (short : Bool) : Option (Nat × Nat) :=
  let top := if short then 65536 else 61440
  if x.accFolio ≤ x.folio then
    if x.accUsed + n ≤ 65536 then some (x.folio, x.accUsed + n)
    else if x.spare.isSome ∧ 64 + n ≤ top then some (x.folio + 1, 64 + n) else none
  else if x.accUsed + n ≤ top then some (x.accFolio, x.accUsed + n) else none

/-! ### Placement (R208, R395, R398) -/

/-- The header of the current folio. -/
def State.folioHeader (s : State) (st : Nat) (x : StreamX) : List Byte :=
  [0x55, 0x4D, 0x56, 0x46, 0x01] ++ leBytes 1 st ++ leBytes 1 (s.getF .QRE_STREAM_STATE_HASH st) ++ [0] ++ leBytes 8 x.folio ++
    leBytes 8 x.folioFirst ++ leBytes 4 x.folioCount ++ leBytes 4 x.folioUsed ++ zeros 32

/-- Block k of the current folio placed in the store. -/
def State.placeFolioBlock (s : State) (st : Nat) (owner : Option (Nat × Nat)) (k : Nat) : State :=
  let x := s.stream st
  let all := s.folioHeader st x ++ x.folioBytes
  s.place ((x.folioAt.getLast?.getD 0) + k) (bslice all (4096 * k) 4096) owner

/-- One interior hash appended to the node blocks of a stream (R398). -/
def State.storeNode (s : State) (st : Nat) (h : List Byte) (owner : Option (Nat × Nat)) : State :=
  let x := s.stream st
  let k := x.nodeCount / 128
  let s1 := if x.nodeAt.length * 16 ≤ k then
      match s.takeArea with
      | (some a, t) => t.setStream st { x with nodeAt := x.nodeAt ++ [a] }
      | (none, t) => t
    else s
  let y := s1.stream st
  let tail := (if y.nodeCount % 128 = 0 then [] else y.nodeTail) ++ padTo 32 h
  let s2 := s1.setStream st { y with nodeCount := y.nodeCount + 1, nodeTail := tail }
  s2.place (y.nodeAt.getD (k / 16) 0 + k % 16) tail owner

/-- A hash that forms, and the nodes it completes above it. -/
def State.addHash (s : State) (st : Nat) (owner : Option (Nat × Nat)) : Nat → Nat → Nat → List Byte → State
  | 0, _, _, _ => s
  | f + 1, l, i, h =>
    let s1 := s.setStream st { s.stream st with hashes := nset [] (s.stream st).hashes (hashKey l i) h }
    let s2 := if l = 0 then s1 else s1.storeNode st h owner
    if i % 2 = 1 then
      State.addHash s2 st owner f (l + 1) (i / 2) (s2.streamHash st (1 :: (s2.stream st).hashAt l (i - 1) ++ h))
    else s2

/-- The stream-state record, written in every commit group in which the stream changes (R398); its layout is the model's. (DESIGN CHOICE: notes/assumptions/21) -/
def State.placeStreamState (s : State) (st : Nat) (owner : Option (Nat × Nat)) : State :=
  let x := s.stream st
  let b := leBytes 8 x.placed ++ leBytes 8 x.latest ++ leBytes 8 x.folio ++ leBytes 8 x.folioUsed ++ leBytes 8 x.folioCount ++
    leBytes 4 (s.getF .QRE_STREAM_STATE_OWNER st) ++ leBytes 4 (s.getF .QRE_STREAM_STATE_STATE st) ++
    ((peaks x.placed).map fun p => x.hashAt p.1 p.2).flatten
  s.place (s.getF .SEAL_RANGE_QRE_BASE 0 + st) b owner

/-- A void record and a short record counted as they are placed (R396, R402). -/
def State.countForm (s : State) (w : WaitRec) : State :=
  if bfield w.bytes 19 1 = 3 then s.count .QRE_VOID_COUNT_COUNT 0 1
  else if bfield w.bytes 22 2 = 0x0302 ∧ w.bytes.length = 32 then s.count .QRE_SHORT_COUNT_COUNT 0 1 else s

/-- The next record of a stream placed: into the current folio, or the spare when it does not fit; its leaf hashed, the spine
brought up to date, the blocks it touches placed (R395, R397, R398). -/
def State.placeRecord (s : State) (st : Nat) (w : WaitRec) : State :=
  let padded := pad8 w.bytes
  let n := padded.length
  let x := s.stream st
  let s0 := if x.folioUsed + n ≤ 65536 then s else
    (s.setStream st { x with
      folio := x.folio + 1, folioFirst := w.seq, folioCount := 0, folioUsed := 64, folioBytes := [],
      folioAt := x.folioAt ++ [x.spare.getD 0], spare := none }).trySpare st
  let y := s0.stream st
  let off := y.folioUsed
  let s1 := s0.setStream st { y with
    folioCount := y.folioCount + 1, folioUsed := off + n, folioBytes := y.folioBytes ++ padded,
    placed := y.placed + 1, records := y.records ++ [(y.folio, off, n)],
    waiting := y.waiting.filter fun r => r.seq != w.seq }
  let touched := addNew ((List.range ((off + n - 1) / 4096 + 1 - off / 4096)).map fun k => off / 4096 + k) 0
  let s2 := touched.foldl (fun t k => t.placeFolioBlock st w.owner k) s1
  let s3 := s2.addHash st w.owner 64 0 w.seq (s2.streamHash st (0 :: w.bytes))
  let s4 := ((s3.placeStreamState st w.owner).count .QRE_APPEND_COUNT_COUNT 0 1).countForm w
  { s4 with jobs := s4.jobs.map fun j => if w.owner = some (j.q, j.idx) ∧ j.stage ≠ .done then { j with placed := true } else j }

/-- Records that wait, placed while the next one in order is there (R208). -/
def State.drainRecords (s : State) (st : Nat) : Nat → State
  | 0 => s
  | f + 1 =>
    match (s.stream st).waiting.find? fun r => r.seq == (s.stream st).placed with
    | some w => (s.placeRecord st w).drainRecords st f
    | none => s

/-- A complete record handed to Quire: placed once its predecessor is (R208). -/
def State.giveRecord (s : State) (st : Nat) (w : WaitRec) : State :=
  let x := s.stream st
  (s.setStream st { x with waiting := x.waiting ++ [w] }).drainRecords st (x.waiting.length + 1)

/-- The next sequence number of a stream, assigned (R135). -/
def State.takeSeq (s : State) (st : Nat) : Nat × State :=
  (s.getF .QRE_STREAM_SIZE_SIZE st, s.setF .QRE_STREAM_SIZE_SIZE st (s.getF .QRE_STREAM_SIZE_SIZE st + 1))

/-- A time that does not fall below the stream's last record time, and the stream that took it (R393). -/
def State.takeTime (s : State) (st : Nat) (t : Stamp) : Stamp × State :=
  let x := s.stream st
  let t' := if st = 0 then { (x.lastTime.later t) with grade := t.grade } else t
  (t', s.setStream st { x with lastTime := t' })

/-! ### The device journal (R401, R535) -/

/-- Data cut into pieces of 240 bytes; no data is one empty piece. -/
def pieces240 : Nat → List Byte → List (List Byte)
  | 0, d => [d.take 240]
  | f + 1, d => if d.length ≤ 240 then [d] else d.take 240 :: pieces240 f (d.drop 240)

/-- One DEVICE record in stream 0. -/
def State.deviceRecord (s : State) (ev : Nat) (t : Stamp) (d : List Byte) : State :=
  let (seq, s1) := s.takeSeq 0
  let (rt, s2) := s1.takeTime 0 t
  s2.giveRecord 0 { seq := seq, bytes := Rec.bytes {
    seq := seq, time := rt, kind := 4, slice := 0xFFFF,
    payload := leBytes 2 ev ++ leBytes 2 d.length ++ leBytes 6 t.sec ++ leBytes 4 t.ns ++ leBytes 1 t.grade ++ [0] ++ d } }

/-- An event appended to stream 0, split where it is longer than 240 bytes. -/
def State.journalNow (s : State) (e : JEvent) : State :=
  (pieces240 (e.data.length / 240) e.data).foldl (fun t d => t.deviceRecord e.event e.time d) s

/-- A journal event: appended once the ledger is ready, else queued, else dropped and counted (R401). (DEDUCED: notes/assumptions/39) -/
def State.journal (s : State) (ev : Nat) (d : List Byte) : State :=
  let e : JEvent := { event := ev, time := s.timeNow, data := d }
  if s.flag .QRE_STATUS_READY 0 then s.journalNow e
  else if s.qre.journal.length < 1024 then
    { s with qre := { s.qre with journal := s.qre.journal ++ [e] } }.setF .QRE_JOURNAL_QUEUED_COUNT 0 (s.qre.journal.length + 1)
  else
    ({ s with qre := { s.qre with lost := min (s.qre.lost + 1) 0xFFFFFFFF } }.count .QRE_JOURNAL_DROP_COUNT_COUNT 0 1).raiseErr blkQRE 0 0
      (s.getF .QRE_STREAM_SIZE_SIZE 0)

/-- The journal queue appended in order, and one LOST record when events were dropped (R401, R535). (DEDUCED: notes/assumptions/39) -/
def State.journalDrain (s : State) : State :=
  let s1 := s.qre.journal.foldl (fun t e => t.journalNow e) s
  let s2 := if s.qre.lost = 0 then s1 else s1.journalNow { event := 0x000E, time := s.timeNow, data := leBytes 4 s.qre.lost }
  { s2 with qre := { s2.qre with journal := [], lost := 0 } }.setF .QRE_JOURNAL_QUEUED_COUNT 0 0

/-- A successful recovery of a block (R517): counted, its status cleared, a RECOVERY record queued. -/
def State.recovered (s : State) (blk : Nat) : State :=
  let n := s.getF .BLK_RECOVERY_COUNT_COUNT blk + 1
  let s1 := (s.setF .BLK_RECOVERY_COUNT_COUNT blk n).setF .BLK_ERR_STATUS_CAUSE blk 0
  s1.journal 0x000D (leBytes 1 blk ++ leBytes 1 (s.getF .BLK_ERR_FIRST_CAUSE blk) ++ zeros 2 ++ leBytes 4 n ++
    leBytes 8 (s.getF .BLK_ERR_FIRST_CAUSE blk * 2 ^ 56 + s.getF .BLK_ERR_FIRST_UNIT blk * 2 ^ 48 + s.getF .BLK_ERR_FIRST_SYNDROME blk))

/-- A recovery would raise the count above the limit (R517). -/
def State.recoveryLimited (s : State) (blk : Nat) : Bool :=
  decide (s.getF .BLK_RECOVERY_LIMIT_LIMIT blk < s.getF .BLK_RECOVERY_COUNT_COUNT blk + 1)

end Sys2Proof.Machine
end

