-- ==== Sys2Proof/Machine/Vault.lean ====
section
/-! DEFINITION. The key vault's shared operations: handles, the hot-key store, sealed records, custody, the battery-backed key (chapter 15). -/
namespace Sys2Proof.Machine

open Sys2Proof

/-- A KV event bit sets; when its enable bit is 1 and it was clear, the KV block vector is sent (R370). -/
def State.kvEvent (s : State) (n : Nat) : State :=
  let f : Fld := match n with
    | 0 => .KV_EVENT_CEIL_NEAR
    | 1 => .KV_EVENT_QUARANTINE
    | 2 => .KV_EVENT_TB_ERASED
    | _ => .KV_EVENT_TABLE_FULL
  let s1 := s.setFlag f 0 true
  if !s.flag f 0 && bit (s.getF .KV_EVENT_EN_EN 0) n then s1.blockVector blkKV else s1

/-! ### Entries (R347 to R349) -/

/-- The handle of an entry (R347). -/
def State.handle (s : State) (i : Nat) : Nat := (s.key i).gen * 65536 + i

/-- Entries in use. -/
def State.keysUsed (s : State) : List Nat := (s.kv.keys.filter fun e => e.2.used).map Prod.fst

/-- Keys a slice owns (R69). -/
def State.keyUsedBy (s : State) (sl : Nat) : Nat :=
  ((s.keysUsed).filter fun i => (s.key i).owner == sl).length

/-- The first entry at or above a number that is neither in use nor freed since power-up, with at most f tries. -/
def State.freshFrom (s : State) : Nat → Nat → Option Nat
  | 0, _ => none
  | f + 1, i => if 65535 < i then none else if (s.key i).used || s.kv.freed.contains i then s.freshFrom f (i + 1) else some i

/-- The free entry that has been free longest (R348), taken; none when the table is full. -/
def State.takeEntry (s : State) : Option Nat × State :=
  match s.freshFrom (s.kv.keys.length + s.kv.freed.length + 1) s.kv.fresh with
  | some i => (some i, { s with kv := { s.kv with fresh := i + 1 } })
  | none =>
    match s.kv.freed with
    | i :: t => (some i, { s with kv := { s.kv with freed := t } })
    | [] => (none, (s.count .KV_TABLE_FULL_COUNT_COUNT 0 1).kvEvent 3)

/-- A key removed: its material zeroized, its entry freed, its generation increased (R348, R352). -/
def State.removeKey (s : State) (i : Nat) : State :=
  if !(s.key i).used then s else
  let s1 := s.setKey i { gen := ((s.key i).gen + 1) % 4096 }
  { s1 with kv := { s1.kv with freed := s1.kv.freed ++ [i], hot := s1.kv.hot.filter (· != i) } }

/-- Every key that satisfies p removed. (DEDUCED: notes/assumptions/89) -/
def State.removeKeys (s : State) (p : KeyX → Bool) : State :=
  ((s.keysUsed).filter fun i => p (s.key i)).foldl (fun t i => t.removeKey i) s

/-- The 64-bit comparison of a handle at decode check 12 (R347): the DETAIL of BAD_HANDLE, 0 when the key is the slice's. -/
def State.handleFault (s : State) (sl h : Nat) : Nat :=
  if bits h 31 28 ≠ 0 then 3 else
  if h = 0 then 1 else
  let k := s.key (h % 65536)
  if !k.used || k.gen != bits h 27 16 || k.owner != sl || k.erased || k.destroying then 2 else 0

/-! ### The hot-key store (R356, R357) -/

/-- Families of R179 whose public keys are never resident: Classic McEliece codes (R356). -/
def neverResident (family paramset : Nat) : Bool := family == 1 && decide (0x10 ≤ paramset) && decide (paramset < 0x20)

/-- Lines a key takes: ceil(KEY_LEN / 64) per share, public material once (R356). -/
def KeyX.lines (k : KeyX) : Nat :=
  ceilDiv k.priv.length 64 * (if k.order = 2 then 3 else 2) +
    (if neverResident k.family k.paramset then 0 else ceilDiv k.pub.length 64)

/-- Lines occupied. (DEDUCED: notes/assumptions/38) -/
def State.hotUsed (s : State) : Nat := (s.kv.hot.map fun i => (s.key i).lines).sum

/-- A key that some job holds. -/
def State.keyHeld (s : State) (i : Nat) : Bool := s.jobs.any fun j => j.keys.contains i && j.stage != .done

/-- Keys evicted, least recently used first among those that no job holds, until n lines are free (R357). (DEDUCED: notes/assumptions/38) -/
def State.evictFor (s : State) (n : Nat) : List Nat → State
  | [] => s
  | i :: t =>
    if s.hotUsed + n ≤ 65536 then s
    else if s.keyHeld i then s.evictFor n t
    else
      let s1 := s.setKey i { s.key i with localRec := true }
      (({ s1 with kv := { s1.kv with hot := s1.kv.hot.filter (· != i) } }).count .KV_HOT_EVICT_COUNT_COUNT 0 1).evictFor n t

/-- A key made resident, the one used last (R357). (DEDUCED: notes/assumptions/38) -/
def State.makeHot (s : State) (i : Nat) : State :=
  let s1 := if s.kv.hot.contains i then s else s.evictFor (s.key i).lines s.kv.hot
  { s1 with kv := { s1.kv with hot := s1.kv.hot.filter (· != i) ++ [i] } }

/-! ### Sealed records (R353, R354); their layout is the model's (DESIGN CHOICE, notes/assumptions/22) -/

/-- KSK_D (R353). -/
def State.kskD (s : State) : List Byte := bytesOf 32 (Config.kmac256 s.lco.frs [] (label "UMVOR.KV.DURABLE") 32)

/-- KSK_T (R353). -/
def State.kskT (s : State) : List Byte :=
  bytesOf 32 (Config.kmac256 (s.kv.bbk.getD []) (bytesOf 32 (Config.kmac256 s.lco.frs [] (label "UMVOR.KV.TB-BIND") 32)) (label "UMVOR.KV.TBOUND") 32)

/-- The device block of a key's record. (DESIGN CHOICE: notes/assumptions/22) -/
def State.keyBlock (s : State) (i : Nat) : Nat := s.getF .SEAL_RANGE_KV_BASE 0 + i

/-- The device block of a custody record. (DESIGN CHOICE: notes/assumptions/22) -/
def State.custBlock (s : State) (c : Nat) : Nat := s.getF .SEAL_RANGE_KV_BASE 0 + 65536 + c

/-- A record encrypted and authenticated under a key, with the IV of its number and version (R353). (DESIGN CHOICE: notes/assumptions/22) -/
def State.sealed (s : State) (ksk : List Byte) (b : Nat) (d : List Byte) : List Byte :=
  bytesOf 4096 (Config.sealRecord ksk (leBytes 4 b ++ leBytes 8 ((s.blockSlot b).2.1 + 1)) d)

/-- What a key's record holds. (DESIGN CHOICE: notes/assumptions/22) -/
def KeyX.record (k : KeyX) : List Byte :=
  leBytes 2 k.gen ++ leBytes 2 k.owner ++ leBytes 1 k.family ++ leBytes 1 k.paramset ++ leBytes 1 k.order ++ leBytes 2 k.usage ++
    leBytes 1 (b2n k.pubOnly + 2 * b2n k.stateful) ++ leBytes 4 k.keyLen ++ leBytes 6 k.created ++
    leBytes 8 (k.custody.elim 0 (· + 1)) ++ leBytes 4 k.priv.length ++ k.priv ++ k.pub

/-- The record of a DURABLE or TAMPER_BOUND key written (R354); an EPHEMERAL key has none. -/
def State.writeKeyRecord (s : State) (i : Nat) (owner : Option (Nat × Nat)) : State :=
  let k := s.key i
  match k.cls with
  | .ephemeral => s
  | .durable => s.place (s.keyBlock i) (s.sealed s.kskD (s.keyBlock i) k.record) owner
  | .tamperBound => s.place (s.keyBlock i) (s.sealed s.kskT (s.keyBlock i) k.record) owner

/-- The record of a destroyed key freed. -/
def State.dropKeyRecord (s : State) (i : Nat) (owner : Option (Nat × Nat)) : State :=
  match (s.key i).cls with
  | .ephemeral => s
  | _ => s.discardBlock (s.keyBlock i) owner

/-- What a custody record holds (R359). (DESIGN CHOICE: notes/assumptions/22) -/
def CustodyX.record (c : CustodyX) : List Byte :=
  leBytes 8 c.id ++ leBytes 1 c.set ++ leBytes 2 c.types ++ leBytes 1 c.levels ++ leBytes 1 c.resLog2 ++ leBytes 8 c.n ++ leBytes 8 c.resEnd ++
    leBytes 2 c.winEpoch ++ leBytes 8 c.ceil ++ leBytes 2 c.pendEpoch ++ leBytes 8 c.pendCeil ++ leBytes 1 (b2n c.destroyed) ++ leBytes 4 c.version

/-- A custody record written with new contents: its version increases, and KV asks for the warm anchor itself (R359, R361). -/
def State.writeCust (s : State) (n : Nat) (c : CustodyX) (owner : Option (Nat × Nat)) : State :=
  let c' := { c with version := c.version + 1 }
  ((s.setCust n c').place (s.custBlock n) (s.sealed s.kskD (s.custBlock n) c'.record) owner).askClose

/-- A block's last version is not durable yet. -/
def State.blockPending (s : State) (b : Nat) : Bool :=
  s.store.placeQ.any (fun p => p.block == b) || s.store.openG.dirty.contains b ||
    (s.store.persG.elim false fun g => g.blocks.contains b)

/-! ### Reservations (R360 to R364) -/

/-- Indices of one reservation block. -/
def CustodyX.block (c : CustodyX) : Nat := 2 ^ c.resLog2

/-- KV_WINDOW_BLOCKS as it acts. -/
def State.windowBlocks (s : State) : Nat := max 1 (min 4096 (s.getF .KV_WINDOW_BLOCKS_BLOCKS 0))

/-- Where one more block would take RES_END: capped at CEIL and at N (R362). (DEDUCED: notes/assumptions/37) -/
def CustodyX.raised (c : CustodyX) : Nat := min (c.resEnd + c.block) (min c.ceil c.n)

/-- A raise of RES_END asked for: started, or waiting for the raise under way, the brace, or the cold anchor (R361 to R363). (DEDUCED: notes/assumptions/37) -/
def State.askRaise (s : State) (n : Nat) (owner : Option (Nat × Nat)) : State :=
  let c := s.cust n
  if c.raising.isSome || s.flag .PWR_STATUS_BRACE 0 || s.kv.coldHeld then s.setCust n { c with raiseAsked := true }
  else if c.raised ≤ c.resEnd then s.setCust n { c with raiseAsked := true }
  else
    let t := s.writeCust n { c with resEnd := c.raised, raiseAsked := false } owner
    t.setCust n { t.cust n with resEnd := c.resEnd, raising := some (c.raised, t.store.commit) }

/-- Raises whose record is durable take effect; a raise that waited, or that an index already assigned needs, is started (R161, R361, R362). (DEDUCED: notes/assumptions/37) -/
def State.settleCustody (s : State) : State :=
  (s.kv.custody.map Prod.fst).foldl (fun t n =>
    let c := t.cust n
    match c.raising with
    | some (e, _) =>
      if t.blockPending (t.custBlock n) then t else
        let t1 := (t.setCust n { c with resEnd := e, raising := none }).count .KV_RESERVE_COUNT_COUNT 0 1
        if c.raiseAsked || decide (e < c.next) then t1.askRaise n none else t1
    | none => if c.raiseAsked && !t.flag .PWR_STATUS_BRACE 0 && !t.kv.coldHeld then t.askRaise n none else t) s

/-- An index assigned at acceptance (R159): NEXT increases, the automatic or on-demand reserve starts (R362), CEIL_NEAR sets in the
window's last quarter (R364). (DEDUCED: notes/assumptions/37) -/
def State.assignIndex (s : State) (n : Nat) : Nat × State :=
  let c := s.cust n
  let i := c.next
  let s1 := s.setCust n { c with next := i + 1 }
  let s2 := if c.ceil < s.windowBlocks * 2 ^ (c.resLog2 - 2) + (i + 1) then s1.kvEvent 0 else s1
  let auto := i % c.block == c.block / 4 * 3 && c.resEnd == (i / c.block + 1) * c.block
  let s3 := if auto || c.resEnd ≤ i then s2.askRaise n none else s2
  (i, if c.ceil ≤ i then s3.count .KV_CEIL_WAIT_COUNT_COUNT 0 1 else s3)

/-- A signature with index i may be computed (R360). (DEDUCED: notes/assumptions/37) -/
def State.indexReady (s : State) (n i : Nat) : Bool := decide (i < (s.cust n).resEnd) && decide (i < (s.cust n).ceil)

/-! ### The battery-backed key (R353, R355) -/

/-- The BBK lost or erased: every TAMPER_BOUND key is erased, the anchor register becomes invalid. (DEDUCED: notes/assumptions/82) -/
def State.loseBbk (s : State) : State :=
  let s1 := ((s.keysUsed).filter fun i => decide ((s.key i).cls = .tamperBound)).foldl (fun t i =>
    let u := t.setKey i { t.key i with erased := true, priv := [], pub := [], localRec := false }
    { u with kv := { u.kv with hot := u.kv.hot.filter (· != i) } }) s
  (({ s1 with kv := { s1.kv with bbk := none, bbkLost := true } }).setFlag .KV_STATUS_BBK_VALID 0 false).setAnchor { s1.store.anchor with valid := false }

/-- A new BBK drawn from D7 when ENT is ready and none is present (R353). (DEDUCED: notes/assumptions/82) -/
def State.drawBbk (s : State) : State :=
  if s.kv.bbk.isSome then s else
  let (b, s1) := s.draw 32
  { s1 with kv := { s1.kv with bbk := some b } }.setFlag .KV_STATUS_BBK_VALID 0 true

/-- ERASE_SESSION's part of the vault (R469): every EPHEMERAL key removed, KEK_E replaced. (DEDUCED: notes/assumptions/89) -/
def State.eraseSession (s : State) : State :=
  let s1 := s.removeKeys fun k => decide (k.cls = .ephemeral)
  let (b, s2) := s1.draw 32
  { s2 with kv := { s2.kv with kekE := b } }

end Sys2Proof.Machine
end

