-- ==== Sys2Proof/Machine/Time.lean ====
section
/-! DEFINITION. Trusted time: the counter, the servo, steps, grades, the keeper (chapter 17). -/
namespace Sys2Proof.Machine

open Sys2Proof

/-- A time as nanoseconds. -/
def Stamp.nanos (t : Stamp) : Nat := t.sec * 1000000000 + t.ns

/-- TIM_FREQ_BOUND as it acts, in 1/1,024 ppb. -/
def State.freqBound (s : State) : Int := ((min 1000000 (s.getF .TIM_FREQ_BOUND_PPB 0) * 1024 : Nat) : Int)

/-- TIM_SLEW_RATE as it acts, in ppm. -/
def State.slewRate (s : State) : Nat := max 10 (min 500 (s.getF .TIM_SLEW_RATE_PPM 0))

/-- f, in 1/1,024 ppb. -/
def State.freq (s : State) : Int := toSigned 32 (s.getF .TIM_FREQ_CORR_F 0)

/-- A value held within plus and minus a bound. -/
def clampInt (b x : Int) : Int := if x < -b then -b else if b < x then b else x

/-- The slew in progress: the correction still to be made, and the register and bit that show it. -/
def State.setSlew (s : State) (x : Int) : State :=
  ({ s with tim := { s.tim with slew := x } }.setF .TIM_SLEW_REMAIN_NS 0 (fromSigned 64 (Int.tdiv x 4294967296))).setFlag .TIM_STATUS_SLEWING 0 (x != 0)

/-- The slew's share of one cycle of the time clock, in 2^-32 ns: 4 ns times the rate, or what is left (R406, R410). -/
def State.slewPart (s : State) : Int := clampInt (((4 * 4294967296 * s.slewRate / 1000000 : Nat) : Int)) s.tim.slew

/-- INC of one cycle, in 2^-32 ns (R406). -/
def State.timeInc (s : State) : Int :=
  17179869184 + (17179869184 * clampInt s.freqBound s.freq) / 1024000000000 + s.slewPart

/-- An amount in 2^-32 ns added to the counter. -/
def State.addSub (s : State) (d : Nat) : State :=
  let sub := s.tim.sub + d
  let ns := s.tim.ns + sub / 4294967296
  { s with tim := { s.tim with sub := sub % 4294967296, ns := ns % 1000000000, sec := (s.tim.sec + ns / 1000000000) % 2 ^ 48 } }

/-- One cycle of the time clock: the counter adds INC, the slew shrinks by its part (R406). (DESIGN CHOICE: notes/assumptions/2) -/
def State.timeTick (s : State) : State :=
  let s1 := if s.flag .TIM_STATUS_HAS_TIME 0 then s.addSub s.timeInc.toNat else s
  let s2 := if s.tim.slew = 0 then s1 else s1.setSlew (s.tim.slew - s.slewPart)
  { s2 with now := s2.now + 4 }

/-- One always-on tick of the keeper, 10^9 / 32,768 ns corrected by TIM_AO_TRIM (R417). (DESIGN CHOICE: notes/assumptions/2; DEDUCED: notes/assumptions/51) -/
def State.keeperTick (s : State) : State :=
  let d : Int := 131072000000000 + 131072000000000 * toSigned 32 (s.getF .TIM_AO_TRIM_PPB 0) / 1000000000
  let sub := s.tim.keeperSub + d.toNat
  let ns := s.tim.keeperNs + sub / 4294967296
  { s with
    now := s.now + 30518
    tim := { s.tim with
      keeperSub := sub % 4294967296, keeperNs := ns % 1000000000, keeperSec := (s.tim.keeperSec + ns / 1000000000) % 2 ^ 48 } }

/-- The counters of single-bit errors that the device corrects by itself, with nothing else to be seen of them (R239, R297, R358, R422, R432, and the checks of CDE, BGN, DMA and LMC). (DESIGN CHOICE: notes/assumptions/78) -/
def upsetCounters : List Fld :=
  [.MAR_ECC_CORRECTED_COUNT_COUNT, .HSH_STORE_CORRECTED_COUNT_COUNT, .CDE_ECC_CORRECTED_COUNT_COUNT, .BGN_ECC_CORRECTED_COUNT_COUNT,
   .KV_HOT_CORRECTED_COUNT_COUNT, .TIM_COPY_CORRECTED_COUNT_COUNT, .SEQ_PATCH_CORRECTED_COUNT_COUNT, .DMA_SRAM_CORRECTED_COUNT_COUNT,
   .LMC_LINK_CORRECTED_COUNT_COUNT]

/-- The errors corrected in a cycle: each counter rises by a free number, since nothing says how many there are. (DESIGN CHOICE: notes/assumptions/78) -/
def State.corrections (s : State) : State :=
  let s1 := (upsetCounters.zipIdx).foldl (fun (t : State) e => t.count e.1 0 (Config.freeNat s.free e.2)) s
  { s1 with free := s1.free + 1 }

/-- What the block does when no command waits: one cycle of the time clock with the errors corrected in it, one tick of the keeper while the keeper holds
the time, and nothing but the passing of time while the fast clocks stand still (R32, R406, R417; DESIGN CHOICE). (DESIGN CHOICE: notes/assumptions/2) -/
def State.idle (s : State) : State :=
  if s.tim.onKeeper then s.keeperTick else if s.pwr.tripLatch then { s with now := s.now + 4 } else s.timeTick.corrections

/-- The grade set. -/
def State.setGrade (s : State) (g : Nat) : State := s.setF .TIM_STATUS_GRADE 0 g

/-- The TIME_STEP record's data (R412). -/
def timeStepData (before after : Nat) (grade cause : Nat) : List Byte :=
  leBytes 6 (before / 1000000000) ++ leBytes 4 (before % 1000000000) ++ leBytes 6 (after / 1000000000) ++ leBytes 4 (after % 1000000000) ++
    leBytes 1 grade ++ leBytes 1 cause

/-- A forward step to a time, in ns (R412): counted, the grade STEPPED, journaled; a slew in progress is replaced. -/
def State.stepTo (s : State) (t cause : Nat) : State :=
  let before := s.timNanos
  let g := s.getF .TIM_STATUS_GRADE 0
  let s1 := (((s.loadNanos t).setSlew 0).count .TIM_STEP_COUNT_COUNT 0 1).setGrade 2
  (s1.setF .TIM_STATUS_LOCK_RUN 0 0).journal 0x0008 (timeStepData before t g cause)

/-- A first time obtained (R413 to R415): the floor is loaded where the time lies below it; the grade becomes FREE. -/
def State.firstTime (s : State) (t : Nat) : State :=
  let fl := s.tim.floor.elim 0 Stamp.nanos
  ((s.loadNanos (max t fl)).setFlag .TIM_STATUS_HAS_TIME 0 true).setGrade 3

/-- f set from a value, pinned at the bound (R411). (DESIGN CHOICE: notes/assumptions/49) -/
def State.setFreq (s : State) (f : Int) : State :=
  let b := s.freqBound
  let pinned := decide (f < -b) || decide (b < f)
  let s1 := (s.setF .TIM_FREQ_CORR_F 0 (fromSigned 32 (clampInt b f))).setFlag .TIM_STATUS_POLICY_LIMITED 0 pinned
  if pinned then s1.count .TIM_POLICY_LIMIT_COUNT_COUNT 0 1 else s1

/-- Entry to LOCKED after 16 good measurements, unless the recovery limit stands (R415, R416). -/
def State.tryLock (s : State) : State :=
  if s.getF .TIM_STATUS_LOCK_RUN 0 = 16 ∧ s.tim.slew = 0 ∧ s.getF .TIM_STATUS_GRADE 0 ≠ 0 ∧ s.flag .TIM_STATUS_HAS_TIME 0 then
    if bit (s.getF .BLK_ERR_STATUS_CAUSE blkTIM) 0 then
      if s.recoveryLimited blkTIM then
        if bit (s.getF .BLK_ERR_STATUS_CAUSE blkTIM) 1 then s
        else s.raiseErr blkTIM 1 0 (fromSigned 48 (toSigned 32 (s.getF .TIM_LAST_OFFSET_NS 0)))
      else { s with tim := { s.tim with lockedAt := some s.now } }.setGrade 0 |>.recovered blkTIM
    else if bit (s.getF .BLK_ERR_STATUS_CAUSE blkTIM) 1 then s
    else { s with tim := { s.tim with lockedAt := some s.now } }.setGrade 0
  else s

/-- A measurement with offset theta, in ns (R410): outliers are discarded, else the offset is slewed, left to the servo, or stepped. (DESIGN CHOICE: notes/assumptions/49) -/
def State.measure (s : State) (theta : Int) (cause : Nat) : State :=
  let out := s.getF .TIM_STATUS_GRADE 0 == 0 && decide (100000000 < theta.natAbs)
  if out && decide (s.tim.outliers < 2) then { s with tim := { s.tim with outliers := s.tim.outliers + 1 } } else
  let sat : Int := clampInt 2147483647 theta
  let good := decide (theta.natAbs ≤ s.getF .TIM_LOCK_THRESHOLD_NS 0)
  let s1 := ({ s with tim := { s.tim with outliers := 0, measuredAt := some s.now } }.setF .TIM_LAST_OFFSET_NS 0 (fromSigned 32 sat)).setF
    .TIM_STATUS_LOCK_RUN 0 (if good then min 16 (s.getF .TIM_STATUS_LOCK_RUN 0 + 1) else 0)
  let s2 :=
    if theta < 0 then (s1.setSlew (theta * 4294967296)).setFlag .TIM_STATUS_POLICY_LIMITED 0 false
    else if ((s.getF .TIM_STEP_THRESHOLD_NS 0 : Nat) : Int) < theta ∧ s.flag .TIM_CTRL_STEP_EN 0 then
      (s1.stepTo (s1.timNanos + theta.toNat) cause).setFlag .TIM_STATUS_POLICY_LIMITED 0 false
    else (s1.setFreq (Config.servoFreq theta s.freq)).setSlew ((Config.servoSlew theta s.freq : Nat) : Int)
  s2.tryLock

/-- The source is lost (R415, R416). (DEDUCED: notes/assumptions/52) -/
def State.sourceLost (s : State) : State :=
  let g := s.getF .TIM_STATUS_GRADE 0
  let s1 := (s.count .TIM_SOURCE_LOSS_COUNT_COUNT 0 1).setF .TIM_STATUS_LOCK_RUN 0 0
  let s2 := if g = 0 ∨ g = 2 then s1.setGrade 1 else s1
  let s3 := if g = 0 then { s2 with tim := { s2.tim with lockedAt := some s2.now } } else s2
  s3.raiseErr blkTIM 0 0 (fromSigned 48 (toSigned 32 (s.getF .TIM_LAST_OFFSET_NS 0)))

/-- The floor applied when the store opens (R414). (DEDUCED: notes/assumptions/52) -/
def State.applyFloor (s : State) (t : Stamp) : State :=
  let s1 := { s with tim := { s.tim with floor := some t } }
  if s.flag .TIM_STATUS_HAS_TIME 0 ∧ s.timNanos < t.nanos then
    let s2 := s1.stepTo t.nanos 3
    { s2 with tim := { s2.tim with measuredAt := none } }
  else s1

/-- Hand-over to the keeper on entry to DOZE, DEEP or BACKUP (R415, R417). (DEDUCED: notes/assumptions/51) -/
def State.toKeeper (s : State) : State :=
  let s1 := { s with tim := { s.tim with keeperSec := s.tim.sec, keeperNs := s.tim.ns, keeperSub := s.tim.sub, onKeeper := true } }.setSlew 0
  if s.getF .TIM_STATUS_GRADE 0 = 0 then
    { s1 with tim := { s1.tim with lockedAt := some s1.now } }.setGrade 1 |>.setF .TIM_STATUS_LOCK_RUN 0 0
  else s1

/-- ERROR_NS of a token (R419). (DEDUCED: notes/assumptions/52) -/
def State.errorNs (s : State) : Nat :=
  match s.tim.measuredAt with
  | none => 0xFFFFFFFF
  | some m =>
    let base := (toSigned 32 (s.getF .TIM_LAST_OFFSET_NS 0)).natAbs + s.getF .TIM_SOURCE_ERROR_NS 0
    let g := s.getF .TIM_STATUS_GRADE 0
    let trim := if s.tim.onKeeper then (toSigned 32 (s.getF .TIM_AO_TRIM_PPB 0)).natAbs else 0
    if g = 0 then min base 0xFFFFFFFF
    else if g = 3 then 0xFFFFFFFF
    else min (base + (s.now - m) * (trim + 1000) / 1000000000) 0xFFFFFFFF

/-! ### Commands -/

/-- PPS_EDGE (R408, R410, R413 to R415): a rising edge on PPS_IN. -/
def execPpsEdge (s0 : State) : Out := s0.clocked fun s =>
  if s.getF .TIM_CTRL_SOURCE 0 ≠ 1 then .next s else
  let tod := s.flag .TIM_TOD_NEXT_VALID 0
  let sec := if tod then some (s.getF .TIM_TOD_NEXT_SECONDS 0) else s.tim.lastPps.map (· + 1)
  match sec with
  | none => .next s
  | some x =>
    let s1 := { s with tim := { s.tim with lastPps := some x } }.setFlag .TIM_TOD_NEXT_VALID 0 false
    let delay := toSigned 32 (s.getF .TIM_PPS_DELAY_NS 0)
    if s.flag .TIM_STATUS_HAS_TIME 0 then
      .next (s1.measure (((x * 1000000000 : Nat) : Int) - (((s.timNanos : Nat) : Int) - delay)) (if tod then 1 else 0))
    else if tod then
      let t := (((x * 1000000000 : Nat) : Int) + delay).toNat
      .next (s1.firstTime t)
    else .next s1

/-- PTM_EXCHANGE_COMPLETE (R408, R59): master time, local time at the midpoint, and T1, in ns. -/
def execPtmExchangeComplete (master mid t1 : Nat) (s0 : State) : Out := s0.clocked fun s =>
  let s1 := s.setF .PCI_PTM_LAST_T1_NS 0 t1
  if s.getF .TIM_CTRL_SOURCE 0 ≠ 2 then .next s1 else
  let src := ((master : Nat) : Int) + toSigned 64 (s.getF .TIM_PTM_OFFSET_NS 0)
  if s.flag .TIM_STATUS_HAS_TIME 0 then .next (s1.measure (src - ((mid : Nat) : Int)) 0)
  else .next (s1.firstTime src.toNat)

/-- PTM_INTERVAL_TIMER (R408): a PTM request, without a PASID prefix. -/
def execPtmIntervalTimer (s0 : State) : Out := s0.clocked fun s =>
  if s.getF .TIM_CTRL_SOURCE 0 = 2 ∧ s.mayIssue then .next (s.say .ptmRequest) else .next s

/-- REF10M_MEASUREMENT (R409): f from the measured ratio, in 1/1,024 ppb. -/
def execRef10mMeasurement (f : Int) (s0 : State) : Out := s0.clocked fun s =>
  if s.flag .TIM_CTRL_REF10M_EN 0 ∧ s.flag .TIM_STATUS_REF10M_OK 0 then .next (s.setFreq f) else .next s

/-- REF10M_VALIDITY_CHANGE (R409). -/
def execRef10mValidityChange (ok : Bool) (s0 : State) : Out := s0.clocked fun s => .next (s.setFlag .TIM_STATUS_REF10M_OK 0 ok)

/-- SLEW_COMPLETE (R410): the time that the remaining slew takes has passed; the counter has made the whole correction. (DEDUCED: notes/assumptions/52) -/
def execSlewComplete (s0 : State) : Out := s0.clocked fun s =>
  if s.tim.slew = 0 then .next s else
  let ns := s.tim.slew.natAbs * 1000000 / (4294967296 * s.slewRate)
  let d : Int := ((ns * 4294967296 : Nat) : Int) + s.tim.slew
  let s1 := (s.addSub d.toNat).setSlew 0
  .next ({ s1 with now := s1.now + ns }.tryLock)

/-- TIM_SLEW_RATE_WRITE (R410, R421): the correction still to be made continues at the new rate. -/
def execTimSlewRateWrite (v : W32) (s0 : State) : Out := s0.mmio fun s => .next (s.setF .TIM_SLEW_RATE_PPM 0 v.toNat)

/-- TIME_SET (R413): TIM_SET_SEC written with GO. -/
def execTimeSet (sec : Nat) (s0 : State) : Out := s0.mmio fun u =>
  let s := u.setHeld .TIM_SET_SEC 0 0
  let ns := s.getF .TIM_SET_NS_NS 0
  if 999999999 < ns then .next s else
  let t := sec % 2 ^ 48 * 1000000000 + ns
  let s1 := { s with tim := { s.tim with measuredAt := none } }
  if s.flag .TIM_STATUS_HAS_TIME 0 then
    if s.timNanos < t then .next (s1.stepTo t 2)
    else .next (s1.setSlew ((((t : Nat) : Int) - ((s.timNanos : Nat) : Int)) * 4294967296))
  else
    let g := s.getF .TIM_STATUS_GRADE 0
    let s2 := s1.firstTime t
    let s3 := if t < s2.timNanos then s2.setSlew ((((t : Nat) : Int) - ((s2.timNanos : Nat) : Int)) * 4294967296) else s2
    .next (s3.journal 0x0008 (timeStepData 0 s2.timNanos g 2))

/-- TIME_SOURCE_LOSS (R415, R416): no edge for 1.5 s, or four PTM intervals without an exchange. -/
def execTimeSourceLoss (s0 : State) : Out := s0.clocked fun s =>
  if s.getF .TIM_CTRL_SOURCE 0 = 1 ∨ s.getF .TIM_CTRL_SOURCE 0 = 2 then .next s.sourceLost else .next s

/-- HOLDOVER_LIMIT_EXPIRY (R415). -/
def execHoldoverLimitExpiry (s0 : State) : Out := s0.clocked fun s =>
  if s.getF .TIM_STATUS_GRADE 0 = 1 ∧ ¬ s.flag .TIM_STATUS_REF10M_OK 0 then .next (s.setGrade 3) else .next s

/-- TIM_NOW_READ (R421): the read of TIM_NOW_NS latches the other two parts. (DEDUCED: notes/assumptions/52) -/
def execTimNowRead (s0 : State) : Out := s0.mmio fun s =>
  .next ((((s.setF .TIM_NOW_NS_NS 0 s.tim.ns).setF .TIM_NOW_SUBNS_SUBNS 0 s.tim.sub).setF .TIM_NOW_SEC_SECONDS 0 s.tim.sec).say
    (.completion (leBytes 4 s.tim.ns)))

/-- PPS_OUT_PULSE (R420): once per value of SECONDS, while enabled and the fast clocks run. -/
def execPpsOutPulse (s0 : State) : Out := s0.clocked fun s =>
  if s.flag .TIM_CTRL_PPS_OUT_EN 0 ∧ s.tim.onKeeper = false ∧ (s.tim.ppsOutSec.elim true fun x => decide (x < s.tim.sec)) then
    .next ({ s with tim := { s.tim with ppsOutSec := some s.tim.sec } }.say (.ppsPulse s.tim.sec))
  else .next s

/-- AO_TRIM_MEASUREMENT (R417): the error of XTAL32K against the time clock, in ppb. -/
def execAoTrimMeasurement (ppb : Int) (s0 : State) : Out := s0.clocked fun s =>
  if s.tim.onKeeper then .next s else .next (s.setF .TIM_AO_TRIM_PPB 0 (fromSigned 32 ppb))

end Sys2Proof.Machine
end

