-- ==== Sys2Proof/Machine/Queue.lean ====
section
/-! DEFINITION. Rings, doorbells and events: the shared operations of queues, event rings and storage channels (chapter 05). -/
namespace Sys2Proof.Machine

open Sys2Proof

/-! ### Entries (R119, R122) -/

/-- Word n of an entry. -/
def Job.w (j : Job) (n : Nat) : Nat := (j.words.getD n 0).toNat

def Job.opcode (j : Job) : Nat := bits (j.w 0) 15 0
def Job.paramset (j : Job) : Nat := bits (j.w 0) 23 16
def Job.flags (j : Job) : Nat := bits (j.w 0) 31 24
def Job.tag (j : Job) : Nat := bits (j.w 0) 63 32
def Job.handle (j : Job) : Nat := bits (j.w 1) 31 0
def Job.aux (j : Job) : Nat := bits (j.w 1) 63 32
def Job.inAddr (j : Job) : Nat := j.w 2
def Job.inLen (j : Job) : Nat := bits (j.w 3) 31 0
def Job.outLen (j : Job) : Nat := bits (j.w 3) 63 32
def Job.outAddr (j : Job) : Nat := j.w 4
def Job.arg0 (j : Job) : Nat := j.w 5
def Job.arg1 (j : Job) : Nat := j.w 6

def Job.fence (j : Job) : Bool := bit j.flags 0
def Job.stitch (j : Job) : Bool := bit j.flags 1
def Job.irq (j : Job) : Bool := bit j.flags 2
def Job.inInd (j : Job) : Bool := bit j.flags 3
def Job.outInd (j : Job) : Bool := bit j.flags 4
def Job.ledger (j : Job) : Bool := bit j.flags 5
def Job.timed (j : Job) : Bool := bit j.flags 6
def Job.prio (j : Job) : Bool := bit j.flags 7

/-- The entry's job, if it is fetched and the head has not passed it. -/
def State.job? (s : State) (q i : Nat) : Option Job := s.jobs.find? fun j => j.q == q && j.idx == i

/-- A job changed. -/
def State.updJob (s : State) (q i : Nat) (f : Job → Job) : State :=
  { s with jobs := s.jobs.map fun j => if j.q == q && j.idx == i then f j else j }

/-- The jobs of a queue that have not completed. -/
def State.openJobs (s : State) (q : Nat) : List Job := s.jobs.filter fun j => j.q == q && j.stage != .done

/-- Accepted and not completed. -/
def Job.live (j : Job) : Bool := j.stage != .done && decide (0 < j.stamp)

/-- Its execution goes on or waits: the stages in which an opcode's own work may be done. -/
def Job.running (j : Job) : Bool := j.stage == .dispatched

/-! ### Queues and their slices -/

/-- The slice that holds a device queue (R67). -/
def State.ownerOf (s : State) (q : Nat) : Option Nat :=
  (s.listed .SLC_SLICE_QUEUES_QCOUNT).find? fun i =>
    decide (s.getF .SLC_SLICE_QUEUES_QBASE i ≤ q) && decide (q < s.getF .SLC_SLICE_QUEUES_QBASE i + s.getF .SLC_SLICE_QUEUES_QCOUNT i)

/-- The slice that holds a device event ring. -/
def State.ringOwner (s : State) (e : Nat) : Option Nat :=
  (s.listed .SLC_SLICE_EVRINGS_ECOUNT).find? fun i =>
    decide (s.getF .SLC_SLICE_EVRINGS_EBASE i ≤ e) && decide (e < s.getF .SLC_SLICE_EVRINGS_EBASE i + s.getF .SLC_SLICE_EVRINGS_ECOUNT i)

/-- Entries of a queue's ring. -/
def State.ringSize (s : State) (q : Nat) : Nat := 2 ^ s.getF .QC_RING_BASE_SIZE_LOG2 q

/-- The distance from h up to a on a ring of n. -/
def dist (n a h : Nat) : Nat := (a + n - h % n) % n

/-- WINDOW as it acts. -/
def State.window (s : State) (q : Nat) : Nat := max 1 (min 256 (s.getF .QC_CTRL_WINDOW q))

/-- The host address of word n of an entry. -/
def State.entryAddr (s : State) (q i n : Nat) : Nat := s.getF .QC_RING_BASE_BASE q * 4096 + 64 * i + 8 * n

/-- The slice of a queue, 0 when none holds it. -/
def State.sliceOf (s : State) (q : Nat) : Nat := (s.ownerOf q).getD 0

/-! ### Event rings (R100 to R106) -/

/-- Entries of an event ring. -/
def State.evrSize (s : State) (e : Nat) : Nat := 2 ^ s.getF .EVR_BASE_SIZE_LOG2 e

/-- The event ring is full (R103). -/
def State.evrFull (s : State) (e : Nat) : Bool :=
  decide ((s.getF .EVR_PROD_PROD e + 1) % s.evrSize e = s.getF .EVR_T_CONS_CONS e)

/-- The ring's head record written (R102). -/
def State.evrHeadWrite (s : State) (sl e : Nat) : State :=
  s.hostWrite sl (s.getF .EVR_HEAD_ADDR_ADDR e * 8)
    (leBytes 8 (s.getF .EVR_PROD_PROD e + b2n (s.flag .EVR_T_STATUS_OVERFLOW e) * 2 ^ 31 + (s.ring e).lost % 2 ^ 32 * 2 ^ 32)) false

/-- The ring's message sent: the count cleared, the timer stopped (R104). -/
def State.evrMessage (s : State) (sl e : Nat) : State :=
  (s.setRing e { s.ring e with since := 0, timer := none }).sliceVector sl (s.getF .EVR_CTRL_VECTOR e)

/-- The message due by count or by a COAL_TIME of 0 (R104). -/
def State.evrCoalesce (s : State) (sl e : Nat) : State :=
  let x := s.ring e
  if s.flag .EVR_CTRL_IRQ_EN e && decide (0 < x.since) &&
      (decide (max 1 (s.getF .EVR_CTRL_COAL_COUNT e) ≤ x.since) || s.getF .EVR_CTRL_COAL_TIME e == 0) then s.evrMessage sl e else s

/-- The grants of a slice in force now (R70). -/
def State.grantsOf (s : State) (sl : Nat) : Grants :=
  { ebase := s.getF .SLC_SLICE_EVRINGS_EBASE sl, ecount := s.getF .SLC_SLICE_EVRINGS_ECOUNT sl,
    weights := [s.getF .SLC_SLICE_WEIGHTS_MAR sl, s.getF .SLC_SLICE_WEIGHTS_CDE sl, s.getF .SLC_SLICE_WEIGHTS_BGN sl, s.getF .SLC_SLICE_WEIGHTS_STR sl] }

/-- The 16 bytes of an event entry (R100). -/
def State.eventBytes (s : State) (sl e q reason : Nat) : List Byte :=
  leBytes 16 ((q - s.getF .SLC_SLICE_QUEUES_QBASE sl) + s.getF .QC_HEAD_HEAD q * 2 ^ 16 + s.getF .QC_HEAD_WRAP q * 2 ^ 32 + reason * 2 ^ 48 +
    b2n (s.ring e).phase * 2 ^ 63 + s.getF .QC_DONE_DONE q * 2 ^ 64 + (s.queue q).headTag * 2 ^ 96)

/-- An event of a ring lost: EVR_LOST_COUNT, and LOST of the head record (R102, R105, R116). (DEDUCED: notes/assumptions/92) -/
def State.loseEvent (s : State) (e : Nat) : State :=
  (s.count .EVR_LOST_COUNT_COUNT e 1).setRing e { s.ring e with lost := ((s.ring e).lost + 1) % 2 ^ 32 }

/-- An event entry for a queue's ring (R101, R105, R117), by the event-ring grant g: not routed, lost to a disabled ring, lost to a full ring, or written;
and the ring whose head record and message follow. -/
def State.eventEntry (s : State) (g : Grants) (sl q reason : Nat) : Option Nat × State :=
  let lr := s.getF .QC_CTRL_EVRING q
  if g.ecount ≤ lr then (none, s.count .QE_EV_NOROUTE_COUNT_COUNT 0 1) else
  let e := g.ebase + lr
  if !s.flag .EVR_CTRL_ENABLE e then (none, s.loseEvent e) else
  if s.flag .EVR_T_STATUS_OVERFLOW e || s.evrFull e then
    let first := !s.flag .EVR_T_STATUS_OVERFLOW e
    let s1 := (s.setFlag .EVR_T_STATUS_OVERFLOW e true).loseEvent e
    let s2 := (s1.setQueue q { s1.queue q with missed := true }).evrHeadWrite sl e
    (none, if first && s.flag .EVR_CTRL_IRQ_EN e then s2.evrMessage sl e else s2)
  else
    let p := s.getF .EVR_PROD_PROD e
    let s1 := s.hostWrite sl (s.getF .EVR_BASE_BASE e * 4096 + 16 * p) (s.eventBytes sl e q reason) false
    let wrap := p + 1 == s.evrSize e
    let x := s1.ring e
    let s2 := (s1.setF .EVR_PROD_PROD e (if wrap then 0 else p + 1)).setRing e
      { x with phase := if wrap then !x.phase else x.phase, since := x.since + 1, timer := some (x.timer.getD s1.now) }
    (some e, s2)

/-- An event posted under a grant: its entry, the ring's head record, the message when it is due. -/
def State.postEventBy (s : State) (g : Grants) (sl q reason : Nat) : State :=
  match s.eventEntry g sl q reason with
  | (none, s1) => s1
  | (some e, s1) => (s1.evrHeadWrite sl e).evrCoalesce sl e

/-- An event that no command's completion posts: the grants are those in force now. -/
def State.postEvent (s : State) (sl q reason : Nat) : State := s.postEventBy (s.grantsOf sl) sl q reason

/-- CATCH_UP events of the queues whose missed flag is set, in ascending local order (R106). One that finds the ring full is lost as any event (R105):
it is counted, and its queue's flag is set again. -/
def State.catchUp (s : State) (sl e : Nat) : List Nat → State
  | [] => s
  | q :: t =>
    if (s.queue q).missed && s.getF .SLC_SLICE_EVRINGS_EBASE sl + s.getF .QC_CTRL_EVRING q == e then
      ((s.setQueue q { s.queue q with missed := false }).postEvent sl q 2).catchUp sl e t
    else s.catchUp sl e t

/-! ### Head records (R97, R98) and the head's advance -/

/-- The queue's head record written. -/
def State.headWrite (s : State) (sl q : Nat) : State :=
  s.hostWrite sl (s.getF .QC_HEAD_ADDR_ADDR q * 8)
    (leBytes 8 (s.getF .QC_HEAD_HEAD q + s.getF .QC_HEAD_WRAP q * 2 ^ 16 + s.getF .QC_DONE_DONE q * 2 ^ 32)) false

/-- The head moved past one entry. -/
def State.passHead (s : State) (q tag : Nat) : State :=
  let h := s.getF .QC_HEAD_HEAD q
  let wrap := h + 1 == s.ringSize q
  let s1 := (s.setF .QC_HEAD_HEAD q (if wrap then 0 else h + 1)).setF .QC_DONE_DONE q (s.getF .QC_DONE_DONE q + 1)
  let s2 := if wrap then s1.setF .QC_HEAD_WRAP q (s.getF .QC_HEAD_WRAP q + 1) else s1
  s2.setQueue q { s2.queue q with headTag := tag }

/-- The COMPLETION event that a head record asks for (R101): EV_EN is 1, and EV_MODE is 1 or the advance passed an entry with IRQ. -/
def State.headEvent (s : State) (g : Grants) (sl q : Nat) (irq : Bool) : State :=
  if s.flag .QC_CTRL_EV_EN q && (s.flag .QC_CTRL_EV_MODE q || irq) then s.postEventBy g sl q 1 else s

/-- The head advanced over the contiguous prefix of completed entries: the grants of the last entry that it passed, if it moved (R70); whether it passed
an entry with IRQ; the state. -/
def State.advance (s : State) (q : Nat) : Nat → Option Grants × Bool × State
  | 0 => (none, false, s)
  | f + 1 =>
    match s.job? q (s.getF .QC_HEAD_HEAD q) with
    | some j =>
      if j.stage = .done then
        let s1 := { s with jobs := s.jobs.filter fun x => !(x.q == q && x.idx == j.idx) }.passHead q j.tag
        let r := s1.advance q f
        (some (r.1.getD j.grants), j.irq || r.2.1, r.2.2)
      else (none, false, s)
    | none => (none, false, s)

/-- A draining queue with nothing in flight becomes DISABLED and posts QUEUE_STOPPED (R101, R114). -/
def State.drained (s : State) (q : Nat) : State :=
  if s.getF .QC_CTRL_STATE q = 2 ∧ s.openJobs q = [] then (s.setF .QC_CTRL_STATE q 0).postEvent (s.sliceOf q) q 3 else s

/-- A pausing slice with no job left is PAUSED (R75). An entry that came with OWN = 0 is none yet. (DEDUCED: notes/assumptions/92) -/
def State.sliceDrained (s : State) (sl : Nat) : State :=
  if s.getF .SLC_SLICE_CTRL_STATE sl = 2 ∧ (s.jobs.any fun j => j.slice == sl && j.stage != .done && j.stage != .ownWait) = false then
    s.setF .SLC_SLICE_CTRL_STATE sl 3
  else s

/-- The head advances, then its record, its event and its message go out (R98, R101). -/
def State.moveHead (s : State) (q : Nat) : State :=
  let sl := s.sliceOf q
  let r := s.advance q (s.jobs.length)
  match r.1 with
  | some g => (((r.2.2.headWrite sl q).headEvent g sl q r.2.1).drained q).sliceDrained sl
  | none => (s.drained q).sliceDrained sl

/-! ### Credits (R209, R213) -/

/-- Job contexts in use. -/
def State.fetchUsed (s : State) : Nat := (s.jobs.filter fun j => j.stage != .done).length

/-- The senior job: the accepted, uncompleted job with the lowest stamp (R213). -/
def State.senior (s : State) : Option Job :=
  (s.jobs.filter Job.live).foldl (fun a j => match a with
    | none => some j
    | some b => if j.stamp < b.stamp then some j else some b) none

/-- A job is the senior job. -/
def State.isSenior (s : State) (j : Job) : Bool := s.senior.elim false fun b => b.q == j.q && b.idx == j.idx

/-- IN and OUT credits held. -/
def State.inUsed (s : State) : Nat := (s.jobs.map fun j => j.inCred).sum
def State.outUsed (s : State) : Nat := (s.jobs.map fun j => j.outCred).sum

/-- Slots of a pool (R210). -/
def poolSize : Pool → Nat
  | .SVC => 64
  | .MAR => 128
  | .HSH => 64
  | .CDE => 6
  | .BGN => 16
  | .STR => 32

/-- A Classic McEliece key generation whose matrix takes both halves of the systemizer (R302). -/
def Job.bigMatrix (j : Job) : Bool := j.opcode == 0x0110 && decide (0x12 ≤ j.paramset) && decide (j.paramset ≤ 0x14)

/-- The slots of MAR that a job has been given and not been placed in: one, or, for a batch, one for each record in flight (R210). -/
def State.unplaced (s : State) (j : Job) : Nat :=
  if j.opcode = 0x0123 then j.pools.count .MAR - (s.busyQuarters.filter fun e => (s.quarter e.1 e.2).job == some (j.q, j.idx)).length
  else if j.core.isNone then j.pools.count .MAR else 0

/-- Slots of a pool that jobs hold. In MAR a quarter counts until it is FREE again (R251); in CDE a large matrix counts twice (R302). -/
def State.poolUsed (s : State) (p : Pool) : Nat :=
  match p with
  | .MAR => (s.jobs.map s.unplaced).sum + s.busyQuarters.length
  | .CDE => ((s.jobs.map fun j => j.pools.count .CDE + if j.pools.contains .CDE && j.bigMatrix then 1 else 0)).sum
  | _ => (s.jobs.map fun j => j.pools.count p).sum

/-- Park slots reserved or occupied (R218). -/
def State.parkUsed (s : State) : Nat := (s.jobs.map fun j => j.parkSlots).sum

/-- A queue that is not disabled has outstanding entries: a doorbell has covered them and the head has not passed them (R88). -/
def State.queueWorks (s : State) (q : Nat) : Bool :=
  s.getF .QC_CTRL_STATE q != 0 && s.getF .QC_TAIL_TAIL q != s.getF .QC_HEAD_HEAD q

/-- The device has no outstanding work: no queue, no storage channel, no DOE exchange (R48). -/
def State.noWork (s : State) : Bool :=
  s.jobs.all (fun j => j.stage == .done) && !((s.listed .QC_CTRL_STATE).any s.queueWorks) && s.scOutstanding.isEmpty && s.pci.doeIn.isNone

/-! ### Storage channels (R108 to R112, R382, R383) -/

/-- A channel that SEAL may post to: enabled, with a buffer area (R382). -/
def State.chanOn (s : State) (c : Nat) : Bool := s.flag .QE_SC_CTRL_ENABLE c && s.getF .SEAL_SC_BUF_BASE c != 0

/-- The channel of a request (R109). -/
def State.chanFor (s : State) (block : Nat) : Option Nat :=
  ((List.range 4).map fun k => (block / 16 + k) % 4).find? fun c => s.chanOn c

/-- The channel's next slot is free (R111). -/
def State.slotFree (s : State) (c : Nat) : Bool :=
  (s.chan c).outstanding.all fun o => o.tag % 65536 != s.getF .QE_SC_PROD_PROD c

/-- A request that may be posted now: a slot is free, and no DISCARD of its block is outstanding (R380). -/
def State.postable (s : State) (r : ScReq) : Bool :=
  (s.chanFor r.block).elim false fun c =>
    s.slotFree c && !(s.scOutstanding.any fun o => decide (o.op ≠ .fetch) && decide (o.block < r.block + r.count) && decide (r.block < o.block + o.count))

/-- A channel's message, at most one per HOLDOFF (R111). -/
def State.scMessage (s : State) (c : Nat) : State :=
  let x := s.chan c
  if x.holdoffUntil.isSome then s.setChan c { x with postedInHoldoff := true }
  else
    let h := s.getF .QE_SC_CTRL_HOLDOFF c
    (s.setChan c { x with holdoffUntil := if h = 0 then none else some (s.now + h * 1000), postedInHoldoff := false }).sliceVector 0
      (s.getF .QE_SC_CTRL_VECTOR c)

/-- The code of a request in an entry (R108). -/
def ScOp.code : ScOp → Nat
  | .fetch => 1
  | .persist => 2
  | .discard => 3

/-- A request posted to slot PROD of a channel (R108, R109, R112, R382). -/
def State.scPost (s : State) (c : Nat) (r : ScReq) : State :=
  let p := s.getF .QE_SC_PROD_PROD c
  let x := s.chan c
  let n := (nget 0 x.posts p + 1) % 65536
  let buf := if r.op = .discard then 0 else s.getF .SEAL_SC_BUF_BASE c * 65536 + 65536 * p
  let tag := p + n * 65536
  let s1 := if r.op = .persist then s.sendWrite none buf r.data false else s
  let s2 := s1.sendWrite none (s.getF .QE_SC_BASE_BASE c * 4096 + 32 * p)
    (leBytes 8 (r.op.code + r.count * 256 + tag * 2 ^ 32) ++ leBytes 8 r.block ++ leBytes 8 buf ++ leBytes 8 (2 ^ 63)) false
  let s3 := s2.setChan c { x with
    posts := nset 0 x.posts p n
    outstanding := x.outstanding ++ [{ tag := tag, buf := buf, req := r, at' := s.now, limitMs := max 1 (s.getF .QE_SC_TIMEOUT_MS c) }] }
  let s4 := (s3.setF .QE_SC_PROD_PROD c ((p + 1) % 2 ^ s.getF .QE_SC_BASE_SIZE_LOG2 c)).setF .QE_SC_OUTSTANDING_COUNT c (x.outstanding.length + 1)
  let s5 := if r.op = .fetch then s4.count .SEAL_FETCH_COUNT_COUNT 0 1 else s4
  s5.scMessage c

/-- The first element that satisfies p taken out of a list. -/
def takeFirst {α : Type} (p : α → Bool) : List α → Option (α × List α)
  | [] => none
  | x :: t => if p x then some (x, t) else (takeFirst p t).map fun r => (r.1, x :: r.2)

/-- A request that ended without its data posted again (R383): at once, and counted, or after SEAL_RETRY_TIME. -/
def State.repost (s : State) (r : ScReq) (atOnce : Bool) : State :=
  if atOnce then (s.count .SEAL_REPOST_COUNT_COUNT 0 1).scAsk r
  else { s with store := { s.store with retryQ := s.store.retryQ ++ [(r, s.now + max 1 (s.getF .SEAL_RETRY_TIME_MS 0) * 1000000)] } }

/-- An outstanding request taken off a channel. -/
def State.scTake (s : State) (c tag : Nat) : Option ScOut × State :=
  let x := s.chan c
  match takeFirst (fun o => o.tag == tag) x.outstanding with
  | none => (none, s)
  | some (o, rest) => (some o, (s.setChan c { x with outstanding := rest }).setF .QE_SC_OUTSTANDING_COUNT c rest.length)

end Sys2Proof.Machine
end

