-- ==== Sys2Proof/Machine/Slices.lean ====
section
/-! DEFINITION. Slices, mailboxes, the dirty-page log (chapter 04): the commands of the slice table and the slice window. -/
namespace Sys2Proof.Machine

open Sys2Proof

/-- The device is ready to enable slices and queues (R442). -/
def State.ready (s : State) : Bool := s.flag .GLB_STATUS_READY 0

/-- A slice-table write accepted (R62). (DEDUCED: notes/assumptions/15) -/
def State.cfgOk (s : State) (sl : Nat) : State := s.setF .SLC_SLICE_CTRL_CFG_STATUS sl 0

/-- A slice-table write refused with a code: it changes nothing else, and is counted (R62). (DEDUCED: notes/assumptions/15) -/
def State.cfgRefuse (s : State) (sl code : Nat) : State :=
  (s.setF .SLC_SLICE_CTRL_CFG_STATUS sl code).count .SLC_CFG_REFUSED_COUNT_COUNT 0 1

/-- The enabled slices. -/
def State.enabledSlices (s : State) : List Nat :=
  addNew ((s.listed .SLC_SLICE_CTRL_ENABLE).filter fun i => s.flag .SLC_SLICE_CTRL_ENABLE i) 0

/-- Another enabled slice holds a PASID (R60). -/
def State.pasidTaken (s : State) (sl p : Nat) : Bool :=
  s.enabledSlices.any fun i => i != sl && s.flag .SLC_SLICE_PASID_PASID_VALID i && s.getF .SLC_SLICE_PASID_PASID i == p

/-- SLICE_ENABLE (R43, R60, R62, R64, R442). (DEDUCED: notes/assumptions/15) -/
def execSliceEnable (sl : Nat) (s0 : State) : Out := s0.mmio fun s =>
  if sl = 0 then .next (s.cfgRefuse sl 6) else
  if s.flag .SLC_SLICE_CTRL_ENABLE sl then .next (s.cfgOk sl) else
  if !s.ready || s.getF .SLC_SLICE_CTRL_STATE sl != 0 then .next (s.cfgRefuse sl 1) else
  if !s.pci.pasidEn || !s.flag .SLC_SLICE_PASID_PASID_VALID sl then .next (s.cfgRefuse sl 5) else
  if s.pasidTaken sl (s.getF .SLC_SLICE_PASID_PASID sl) then .next (s.cfgRefuse sl 4) else
  .next (((s.setFlag .SLC_SLICE_CTRL_ENABLE sl true).setF .SLC_SLICE_CTRL_STATE sl
    (if s.flag .SLC_SLICE_CTRL_PAUSE sl then 3 else 1)).cfgOk sl)

/-- SLICE_DISABLE (R64): only while PAUSED. (DEDUCED: notes/assumptions/15) -/
def execSliceDisable (sl : Nat) (s0 : State) : Out := s0.mmio fun s =>
  if sl = 0 then .next (s.cfgRefuse sl 6) else
  if s.getF .SLC_SLICE_CTRL_STATE sl = 3 then
    .next (((s.setFlag .SLC_SLICE_CTRL_ENABLE sl false).setF .SLC_SLICE_CTRL_STATE sl 0).cfgOk sl)
  else .next (s.cfgRefuse sl 1)

/-- The passed result that waits in a queue discarded: the next link will be CHAIN_BROKEN by FLUSHED (R140). -/
def State.dropPassed (s : State) (q : Nat) : State :=
  let x := s.queue q
  if x.passed.isSome then s.setQueue q { x with passed := none, chainFail := some (0x0503, x.chainLen - 1) } else s

/-- The queues of a slice that hold anything beside their reset values. -/
def State.queuesOf (s : State) (sl : Nat) : List Nat :=
  (s.queues.map Prod.fst).filter fun q =>
    decide (s.getF .SLC_SLICE_QUEUES_QBASE sl ≤ q) && decide (q < s.getF .SLC_SLICE_QUEUES_QBASE sl + s.getF .SLC_SLICE_QUEUES_QCOUNT sl)

/-- SLICE_PAUSE (R75, R140). (DEDUCED: notes/assumptions/15) -/
def execSlicePause (sl : Nat) (s0 : State) : Out := s0.mmio fun s =>
  if sl = 0 then .next (s.cfgRefuse sl 6) else
  if s.getF .SLC_SLICE_CTRL_STATE sl = 4 then .next (s.cfgRefuse sl 1) else
  let s1 := (s.setFlag .SLC_SLICE_CTRL_PAUSE sl true).cfgOk sl
  let s2 := if s.getF .SLC_SLICE_CTRL_STATE sl = 1 then s1.setF .SLC_SLICE_CTRL_STATE sl 2 else s1
  .next (((s2.queuesOf sl).foldl (fun t q => t.dropPassed q) s2).sliceDrained sl)

/-- SLICE_UNPAUSE (R75): fetching resumes from the recorded tails. (DEDUCED: notes/assumptions/15) -/
def execSliceUnpause (sl : Nat) (s0 : State) : Out := s0.mmio fun s =>
  if sl = 0 then .next (s.cfgRefuse sl 6) else
  let st := s.getF .SLC_SLICE_CTRL_STATE sl
  if st = 4 then .next (s.cfgRefuse sl 1) else
  let s1 := (s.setFlag .SLC_SLICE_CTRL_PAUSE sl false).cfgOk sl
  .next (if st = 2 ∨ st = 3 then s1.setF .SLC_SLICE_CTRL_STATE sl 1 else s1)

/-- A non-posted request issued under an old PASID is outstanding (R66): the reads of entries are those that outlast their command. -/
def State.oldReads (s : State) (sl : Nat) : Bool :=
  s.jobs.any fun j => j.slice == sl && j.stage == .fetching && j.pasid != s.pasidOf sl

/-- SLICE_PASID_WRITE (R65, R66). (DEDUCED: notes/assumptions/5) -/
def execSlicePasidWrite (sl : Nat) (v : W32) (s0 : State) : Out := s0.mmio fun s =>
  let valid := bit v.toNat 30
  let p := bits v.toNat 19 0
  if !valid && sl != 0 && s.flag .SLC_SLICE_CTRL_ENABLE sl then .next (s.cfgRefuse sl 1) else
  if valid && s.pasidTaken sl p then .next (s.cfgRefuse sl 4) else
  let s1 := ((s.setFlag .SLC_SLICE_PASID_PASID_VALID sl valid).setF .SLC_SLICE_PASID_PASID sl p).cfgOk sl
  .next (s1.setFlag .SLC_SLICE_PASID_PASID_PENDING sl (s1.oldReads sl))

/-- PASID_PENDING_CLEAR (R66): the last request issued under an old PASID has completed. -/
def execPasidPendingClear (sl : Nat) (s0 : State) : Out := s0.clocked fun s =>
  if s.oldReads sl then .next s
  else .next (s.setFlag .SLC_SLICE_PASID_PASID_PENDING sl false)

/-- Two ranges have an element in common. -/
def overlap (a n b m : Nat) : Bool := decide (0 < n) && decide (0 < m) && decide (a < b + m) && decide (b < a + n)

/-- A range overlaps that of another slice. -/
def State.grantOverlap (s : State) (count base : Fld) (sl a n : Nat) : Bool :=
  (s.listed count).any fun i => i != sl && overlap a n (s.getF base i) (s.getF count i)

/-- A queue is disabled and drained (R71). -/
def State.queueIdle (s : State) (q : Nat) : Bool :=
  !s.flag .QC_CTRL_ENABLE q && s.getF .QC_CTRL_STATE q == 0 && (s.openJobs q).isEmpty

/-- Every device queue of a range is disabled and drained: no queue of it is listed as enabled, in another state, or has a job. -/
def State.rangeIdle (s : State) (a n : Nat) : Bool :=
  let inside := fun q => decide (a ≤ q) && decide (q < a + n)
  (s.listed .QC_CTRL_ENABLE).all (fun q => !inside q || s.queueIdle q) &&
    (s.listed .QC_CTRL_STATE).all (fun q => !inside q || s.queueIdle q) &&
    s.jobs.all fun j => !inside j.q || j.stage == .done

/-- SLICE_QUEUES_WRITE (R62, R67, R71); the checks in the order of the codes of R62. (DEDUCED: notes/assumptions/15) -/
def execSliceQueuesWrite (sl : Nat) (v : W32) (s0 : State) : Out := s0.mmio fun s =>
  let n := bits v.toNat 26 16
  let a := bits v.toNat 13 0
  if !(s.rangeIdle (s.getF .SLC_SLICE_QUEUES_QBASE sl) (s.getF .SLC_SLICE_QUEUES_QCOUNT sl) && s.rangeIdle a n) then .next (s.cfgRefuse sl 1) else
  if s.grantOverlap .SLC_SLICE_QUEUES_QCOUNT .SLC_SLICE_QUEUES_QBASE sl a n then .next (s.cfgRefuse sl 2) else
  if 1024 < n ∨ 16384 < a + n then .next (s.cfgRefuse sl 3) else
  .next (((s.setF .SLC_SLICE_QUEUES_QCOUNT sl n).setF .SLC_SLICE_QUEUES_QBASE sl a).cfgOk sl)

/-- The PBA bits of vectors that leave a grant discarded (R73). -/
def State.dropPba (s : State) (a n b m : Nat) : State :=
  (List.range n).foldl (fun t i => if b ≤ a + i ∧ a + i < b + m then t else if t.pba (a + i) then t.setPba (a + i) false else t) s

/-- SLICE_GRANT_WRITE (R62, R67 to R70, R72, R73). (DEDUCED: notes/assumptions/15) -/
def execSliceGrantWrite (g : Grant) (sl : Nat) (v : W32) (s0 : State) : Out := s0.mmio fun s =>
  match g with
  | .vectors =>
    let n := bits v.toNat 26 16
    let a := bits v.toNat 12 0
    if s.grantOverlap .SLC_SLICE_VECTORS_VCOUNT .SLC_SLICE_VECTORS_VBASE sl a n then .next (s.cfgRefuse sl 2) else
    if 1024 < n ∨ 8192 < a + n ∨ (0 < n ∧ a < 64) then .next (s.cfgRefuse sl 3) else
    .next ((((s.dropPba (s.getF .SLC_SLICE_VECTORS_VBASE sl) (s.getF .SLC_SLICE_VECTORS_VCOUNT sl) a n).setF .SLC_SLICE_VECTORS_VCOUNT sl n).setF
      .SLC_SLICE_VECTORS_VBASE sl a).cfgOk sl)
  | .evrings =>
    let n := bits v.toNat 24 16
    let a := bits v.toNat 11 0
    if s.grantOverlap .SLC_SLICE_EVRINGS_ECOUNT .SLC_SLICE_EVRINGS_EBASE sl a n then .next (s.cfgRefuse sl 2) else
    if 256 < n ∨ 4096 < a + n then .next (s.cfgRefuse sl 3) else
    .next (((s.setF .SLC_SLICE_EVRINGS_ECOUNT sl n).setF .SLC_SLICE_EVRINGS_EBASE sl a).cfgOk sl)
  | .weights =>
    .next (((((s.setF .SLC_SLICE_WEIGHTS_MAR sl (bits v.toNat 7 0)).setF .SLC_SLICE_WEIGHTS_CDE sl (bits v.toNat 15 8)).setF
      .SLC_SLICE_WEIGHTS_BGN sl (bits v.toNat 23 16)).setF .SLC_SLICE_WEIGHTS_STR sl (bits v.toNat 31 24)).cfgOk sl)
  | .keys =>
    if 65536 < bits v.toNat 16 0 then .next (s.cfgRefuse sl 3)
    else .next ((s.setF .SLC_SLICE_KEYS_KEY_QUOTA sl (bits v.toNat 16 0)).cfgOk sl)
  | .streams => .next ((s.setF .SLC_SLICE_STREAMS_STREAM_QUOTA sl (bits v.toNat 7 0)).cfgOk sl)
  | .sealQuota =>
    if 2 ^ 31 < v.toNat then .next (s.cfgRefuse sl 3)
    else .next ((s.setF .SLC_SLICE_SEAL_QUOTA_BLOCKS sl v.toNat).cfgOk sl)

/-- The slice's window in BAR2 answers (R61). -/
def State.windowOn (s : State) (sl : Nat) : Bool := sl == 0 || s.flag .SLC_SLICE_CTRL_ENABLE sl

/-- The pending bit of a slice's mailbox (R79). (DESIGN CHOICE: notes/assumptions/4) -/
def State.setMbxPending (s : State) (sl : Nat) (b : Bool) : State :=
  s.setF .SLC_MBX_PENDING_BITS (sl / 32) (setBits (s.getF .SLC_MBX_PENDING_BITS (sl / 32)) (sl % 32) (sl % 32) (b2n b))

/-- T2M_SEND (R77, R79): T2M_FULL sets, the pending bit sets, the SLC block vector is sent. (DESIGN CHOICE: notes/assumptions/4) -/
def execT2mSend (sl : Nat) (s0 : State) : Out := s0.mmio fun s =>
  if !s.windowOn sl then .next s else
  if s.flag .SLC_T_MBX_T2M_FULL sl then .next (s.setFlag .SLC_T_MBX_T2M_SEND sl true) else
  .next ((((s.setFlag .SLC_T_MBX_T2M_SEND sl true).setFlag .SLC_T_MBX_T2M_FULL sl true).setMbxPending sl true).blockVector blkSLC)

/-- T2M_ACK (R62, R77): the manager clears T2M_FULL, and with it the pending bit. (DESIGN CHOICE: notes/assumptions/4) -/
def execT2mAck (sl : Nat) (s0 : State) : Out := s0.mmio fun s =>
  .next ((((s.setFlag .SLC_T_MBX_T2M_FULL sl false).setFlag .SLC_T_MBX_T2M_SEND sl false).setMbxPending sl false).cfgOk sl)

/-- M2T_SEND (R62, R77, R79): M2T_FULL sets; the tenant's vector is sent when M2T_IRQ_EN is 1. -/
def execM2tSend (sl : Nat) (s0 : State) : Out := s0.mmio fun s =>
  if s.flag .SLC_T_MBX_M2T_FULL sl then .next (s.cfgOk sl) else
  let s1 := (s.setFlag .SLC_T_MBX_M2T_FULL sl true).cfgOk sl
  .next (if s.flag .SLC_T_MBX_M2T_IRQ_EN sl then s1.sliceVector sl (s.getF .SLC_T_MBX_M2T_VECTOR sl) else s1)

/-- M2T_ACK (R77): the tenant clears M2T_FULL. (DESIGN CHOICE: notes/assumptions/4) -/
def execM2tAck (sl : Nat) (s0 : State) : Out := s0.mmio fun s =>
  if !s.windowOn sl then .next s else .next (s.setFlag .SLC_T_MBX_M2T_FULL sl false)

/-- Bytes written over a part of a list. -/
def overwrite (l : List Byte) (a : Nat) (d : List Byte) : List Byte := l.take a ++ d ++ l.drop (a + d.length)

/-- A mailbox write of R40: 4 or 8 bytes, or 16 to 64 bytes, naturally aligned, within one mailbox. -/
def mailboxForm (off n : Nat) : Bool :=
  [4, 8, 16, 32, 64].contains n && off % n == 0 && decide (off + n ≤ 256)

/-- MAILBOX_WRITE (R40, R61, R77, R78): by the tenant into T2M, or by the manager into M2T. -/
def execMailboxWrite (sl : Nat) (tenant : Bool) (off : Nat) (d : List Byte) (s0 : State) : Out := s0.mmio fun s =>
  if !mailboxForm off d.length then .next (s.count .PCI_MMIO_BAD_COUNT_COUNT 0 1) else
  if tenant then
    if !s.windowOn sl then .next s else
    if s.flag .SLC_T_MBX_T2M_FULL sl then .next (s.count .SLC_MBX_DROP_COUNT_COUNT 0 1)
    else .next (s.setSlice sl { s.slice sl with t2m := overwrite (s.slice sl).t2m off d })
  else if s.flag .SLC_T_MBX_M2T_FULL sl then .next (s.count .SLC_MBX_DROP_COUNT_COUNT 0 1)
  else .next (s.setSlice sl { s.slice sl with m2t := overwrite (s.slice sl).m2t off d })

/-- DPL_LOG_ENABLE (R64, R83): LOG_EN written; from 0 to 1, round numbers start at 0. (DEDUCED: notes/assumptions/16) -/
def execDplLogEnable (sl : Nat) (en : Bool) (s0 : State) : Out := s0.mmio fun s =>
  if sl = 0 then .next (s.cfgRefuse sl 6) else
  let s1 := (s.setFlag .SLC_SLICE_CTRL_LOG_EN sl en).cfgOk sl
  if en && !s.flag .SLC_SLICE_CTRL_LOG_EN sl then
    .next ((s1.setSlice sl { s1.slice sl with round := 0 }).setFlag .SLC_SLICE_DPL_PROD_OVERFLOW sl false)
  else .next s1

/-- NEW_ROUND (R83, R84): the marker of the round that ends, written while a slot is free; OVERFLOW cleared. (DEDUCED: notes/assumptions/16) -/
def execNewRound (sl : Nat) (s0 : State) : Out := s0.mmio fun s =>
  if !s.flag .SLC_SLICE_CTRL_LOG_EN sl || s.dplFree sl == 0 then .next (s.cfgRefuse sl 1) else
  let x := s.slice sl
  let s1 := s.dplPut sl (x.round % 2 ^ 52 * 4096 + b2n (s.flag .SLC_SLICE_DPL_PROD_OVERFLOW sl) * 4 + 2)
  .next (((s1.setSlice sl { s1.slice sl with round := x.round + 1 }).setFlag .SLC_SLICE_DPL_PROD_OVERFLOW sl false).cfgOk sl)

end Sys2Proof.Machine
end

