-- ==== Sys2Proof/Machine/Rings.lean ====
section
/-! DEFINITION. The commands of queues, event rings and storage channels (chapter 05), but for those that end jobs. -/
namespace Sys2Proof.Machine

open Sys2Proof

/-- The plain fields of QC_CTRL written (R113, R115). -/
def State.qcPlain (s : State) (q : Nat) (v : Nat) : State :=
  (((s.setF .QC_CTRL_WINDOW q (bits v 24 16)).setF .QC_CTRL_EVRING q (bits v 15 8)).setF .QC_CTRL_EV_MODE q (bits v 3 3)).setF .QC_CTRL_EV_EN q (bits v 2 2)

/-- QUEUE_ENABLE (R113, R114, R98, R101, R442): QC_CTRL written with ENABLE = 1; the head record, and the COMPLETION event of EV_MODE 1. (DEDUCED: notes/assumptions/17) -/
def execQueueEnable (q : Nat) (v : W32) (s0 : State) : Out := s0.mmio fun s =>
  let s1 := s.qcPlain q v.toNat
  if s.flag .QC_CTRL_ENABLE q then .next s1 else
  let k := s.getF .QC_RING_BASE_SIZE_LOG2 q
  let ok := s.ready && (s.ownerOf q).elim false (fun sl => s.windowOn sl) && decide (4 ≤ k) && decide (k ≤ 16) &&
    s.getF .QC_RING_BASE_BASE q != 0 && s.getF .QC_HEAD_ADDR_ADDR q != 0 &&
    decide (s.getF .QC_HEAD_HEAD q < 2 ^ k) && decide (s.getF .QC_TAIL_TAIL q < 2 ^ k) && s.getF .QC_CTRL_STATE q == 0
  if !ok then .next (s1.count .QE_CFG_REFUSED_COUNT_COUNT 0 1) else
  let s2 := ((s1.setFlag .QC_CTRL_ENABLE q true).setF .QC_CTRL_STATE q 1).setQueue q
    { s.queue q with fetch := s.getF .QC_HEAD_HEAD q, rereads := 0, missHeld := false, parkHeld := false, quireHeld := false }
  .next ((s2.headWrite (s.sliceOf q) q).headEvent (s.grantsOf (s.sliceOf q)) (s.sliceOf q) q false)

/-- Entries of a queue from place i on that are fetched and not decided dropped; FETCH is back at i (R90, R114). -/
def State.dropFrom (s : State) (q i : Nat) : State :=
  let n := s.ringSize q
  let h := s.getF .QC_HEAD_HEAD q
  ({ s with jobs := s.jobs.filter fun (j : Job) =>
      !(j.q == q && decide (dist n i h ≤ dist n j.idx h) && [Stage.fetching, .ownWait, .fetched].contains j.stage) } : State).setQueue q
    { s.queue q with fetch := i }

/-- QUEUE_DISABLE (R114, R140): fetching stops; what is fetched completes in order; entries from one whose OWN was 0 on are dropped. (DEDUCED: notes/assumptions/17) -/
def execQueueDisable (q : Nat) (v : W32) (s0 : State) : Out := s0.mmio fun s =>
  let s1 := s.qcPlain q v.toNat
  if !s.flag .QC_CTRL_ENABLE q then .next s1 else
  let s2 := match s.jobs.find? fun j => j.q == q && j.stage == .ownWait with
    | some j => s1.dropFrom q j.idx
    | none => s1
  let s3 := ((s2.setFlag .QC_CTRL_ENABLE q false).setF .QC_CTRL_STATE q 2).setFlag .QC_STATUS_OWN_WAIT q false
  .next (((s3.dropPassed q).drained q).sliceDrained (s.sliceOf q))

/-- EVR_ENABLE (R116, R117): EVR_CTRL written with ENABLE = 1. -/
def execEvrEnable (e : Nat) (v : W32) (s0 : State) : Out := s0.mmio fun s =>
  let s1 := (((s.setF .EVR_CTRL_VECTOR e (bits v.toNat 31 22)).setF .EVR_CTRL_COAL_TIME e (bits v.toNat 21 12)).setF .EVR_CTRL_COAL_COUNT e
    (bits v.toNat 11 4)).setF .EVR_CTRL_IRQ_EN e (bits v.toNat 1 1)
  let k := s.getF .EVR_BASE_SIZE_LOG2 e
  if 4 ≤ k ∧ k ≤ 16 then .next ((s1.setFlag .EVR_CTRL_ENABLE e true).evrCoalesce ((s.ringOwner e).getD 0) e)
  else .next (s1.count .QE_CFG_REFUSED_COUNT_COUNT 0 1)

/-- EVR_CONS_WRITE (R103). -/
def execEvrConsWrite (e : Nat) (v : W32) (s0 : State) : Out := s0.mmio fun s =>
  let c := bits v.toNat 15 0
  let n := s.evrSize e
  let old := s.getF .EVR_T_CONS_CONS e
  if n ≤ c ∨ dist n (s.getF .EVR_PROD_PROD e) old < dist n c old then .next (s.count .QE_EVR_BAD_CONS_COUNT_COUNT 0 1)
  else .next (s.setF .EVR_T_CONS_CONS e c)

/-- EVR_OVERFLOW_CLEAR (R105, R106): OVERFLOW cleared, then the CATCH_UP events. -/
def execEvrOverflowClear (e : Nat) (s0 : State) : Out := s0.mmio fun s =>
  if !s.flag .EVR_T_STATUS_OVERFLOW e then .next s else
  let sl := (s.ringOwner e).getD 0
  let s1 := s.setFlag .EVR_T_STATUS_OVERFLOW e false
  .next (s1.catchUp sl e (s1.queuesOf sl))

/-- COAL_TIMER (R104): the ring's timer has reached COAL_TIME. (DESIGN CHOICE: notes/assumptions/8) -/
def execCoalTimer (e : Nat) (s0 : State) : Out := s0.clocked fun s =>
  if (s.ring e).timer.isSome && s.flag .EVR_CTRL_IRQ_EN e then .next (s.evrMessage ((s.ringOwner e).getD 0) e) else .next s

/-- A latency in ns as an LTR message carries it: the smallest scale of 32^k ns that holds it in 10 bits, rounded up (R58). -/
def ltrCode (ns : Nat) : Nat × Nat :=
  let k := ((List.range 6).find? fun k => decide (ceilDiv ns (32 ^ k) < 1024)).getD 5
  (ceilDiv ns (32 ^ k), k)

/-- An LTR message, unless it would carry the value of the last one (R48). -/
def State.sendLtr (s : State) (ns : Nat) : State :=
  let c := ltrCode ns
  if s.pci.ltrEn && s.pci.ltrLast != some c then { s with pci := { s.pci with ltrLast := some c } }.say (.ltr c.1 c.2) else s

/-- The LTR message of a doorbell that reaches a device without work (R48). (DEDUCED: notes/assumptions/77) -/
def State.ltrBusy (s : State) : State :=
  if s.noWork then s.sendLtr (s.getF .PCI_LTR_BUSY_LATENCY_NS 0) else s

/-- The queue's fetching is paused with its slice (R75). -/
def State.sliceHeld (s : State) (sl : Nat) : Bool := s.flag .SLC_SLICE_CTRL_PAUSE sl || s.getF .SLC_SLICE_CTRL_STATE sl == 4

/-- The hold of R90 ends: the entry is read again, at once where the queue may fetch, else as OWN_WAIT's next reading. -/
def State.endMiss (s : State) (sl q : Nat) : State :=
  let s1 := s.setQueue q { s.queue q with missHeld := false, rereads := 0 }
  match s.jobs.find? fun j => j.q == q && j.stage == .ownWait with
  | none => s1
  | some j =>
    if s.sliceHeld sl || !s.mayIssue then s1 else
    ((s1.updJob q j.idx fun k => { k with stage := .fetching, pasid := s.pasidOf sl, rd := k.idx }).setFlag .QC_STATUS_OWN_WAIT q false).hostRead sl
      (s.entryAddr q j.idx 0) 64

/-- DOORBELL_WRITE (R43, R61, R75, R90 to R92, R48): local queue i of slice sl, the written value. A doorbell that repeats the recorded tail brings no
work and no LTR message. (DEDUCED: notes/assumptions/77) -/
def execDoorbellWrite (sl i : Nat) (v : W64) (s0 : State) : Out := s0.mmio fun s =>
  let x := bits v.toNat 31 0
  if !s.windowOn sl || (sl != 0 && !s.pci.pasidEn) || decide (s.getF .SLC_SLICE_QUEUES_QCOUNT sl ≤ i) then
    .next (s.count .QE_BAD_DOORBELL_COUNT_COUNT 0 1)
  else
    let q := s.getF .SLC_SLICE_QUEUES_QBASE sl + i
    let t := bits x 15 0
    let n := s.ringSize q
    let h := s.getF .QC_HEAD_HEAD q
    let old := s.getF .QC_TAIL_TAIL q
    if bits x 31 16 ≠ 0 ∨ !s.flag .QC_CTRL_ENABLE q ∨ s.getF .QC_CTRL_STATE q = 3 ∨ n ≤ t ∨ dist n t h < dist n old h then
      .next (s.count .QC_BAD_DOORBELL_COUNT_COUNT q 1)
    else
      let s1 := if t = old then s else s.ltrBusy.setF .QC_TAIL_TAIL q t
      .next (if (s.queue q).missHeld then s1.endMiss sl q else s1)

/-- A binder whose enable bit is clear, with accepted jobs still running (R425). -/
def State.draining (s : State) (b : Nat) : Bool := s.seq.draining.contains b && s.jobs.any fun j => j.live && j.binder == b

/-- A queue is on the way to its new binder: the binder it would have if those that drain were enabled drains (R425). -/
def State.moving (s : State) (q : Nat) : Bool :=
  (((List.range 8).map fun k => (q + k) % 8).find? fun b =>
    bit (s.getF .SEQ_BINDER_ONLINE_ONLINE 0) b && (bit (s.getF .SEQ_BINDER_ENABLE_EN 0) b || s.draining b)).elim false s.draining

/-- The queue may fetch: it and its slice run, no hold stands, its binder is settled, the function may issue requests (R49, R75, R76, R90, R220,
R425, R469). -/
def State.mayFetch (s : State) (q : Nat) : Bool :=
  s.mayIssue && s.getF .QC_CTRL_STATE q == 1 && (s.ownerOf q).elim false (fun sl => s.windowOn sl && !s.sliceHeld sl) &&
    !(s.queue q).missHeld && !(s.queue q).parkHeld && !(s.queue q).quireHeld && !s.flag .QC_STATUS_OWN_WAIT q && !s.moving q && !s.flag .TMP_STATUS_HALTED 0

/-- The binder that serves a queue: the lowest-numbered one both enabled and online, counted up from q mod 8 (R424). -/
def State.binderOf (s : State) (q : Nat) : Nat :=
  (((List.range 8).map fun k => (q + k) % 8).find? fun b =>
    bit (s.getF .SEQ_BINDER_ONLINE_ONLINE 0) b && bit (s.getF .SEQ_BINDER_ENABLE_EN 0) b).getD (q % 8)

/-- A FETCH context is free for a queue: the last one serves only the senior job's queue (R209, R213). -/
def State.fetchCredit (s : State) (q : Nat) : Bool :=
  decide (s.fetchUsed + 1 < 65536) || (decide (s.fetchUsed < 65536) && s.senior.elim false fun j => j.q == q)

/-- One entry fetched by the read that begins at place rd: its context taken, FETCH moved on. -/
def State.fetchOne (s : State) (q rd : Nat) : State :=
  let x := s.queue q
  let sl := s.sliceOf q
  let s1 := if s.fetchUsed + 1 < 65536 then s else s.count .SCH_RESERVE_USE_COUNT_COUNT 4 1
  let s2 : State := { s1 with jobs := s1.jobs ++ [({ q := q, idx := x.fetch, slice := sl, pasid := s.pasidOf sl, binder := s.binderOf q, rd := rd } : Job)] }
  s2.setQueue q { x with fetch := (x.fetch + 1) % s.ringSize q }

/-- Entries fetched one after another, as far as the tail, the window and the contexts allow (R95, R213). -/
def State.fetchRun (s : State) (q rd : Nat) : Nat → State
  | 0 => s
  | f + 1 =>
    let x := s.queue q
    let n := s.ringSize q
    if x.fetch ≠ s.getF .QC_TAIL_TAIL q ∧ dist n x.fetch (s.getF .QC_HEAD_HEAD q) < s.window q ∧
        ((s.openJobs q).length < s.window q) ∧ s.fetchCredit q then (s.fetchOne q rd).fetchRun q rd f else s

/-- Reads of entries that are outstanding: each by its queue and the place where it begins. The other reads are answered within their command. -/
def State.readsOut (s : State) : Nat := (((s.jobs.filter fun j => j.stage == .fetching).map fun j => (j.q, j.rd)).dedup).length

/-- Non-posted requests that may be outstanding: 768 with 10-bit tags, else 256 (R42). -/
def State.tagLimit (s : State) : Nat := if s.pci.tag10 then 768 else 256

/-- ENTRY_FETCH (R42, R95, R96, R209, R213, R220): one read of up to k consecutive entries, never across the ring's end, while a tag is free. -/
def execEntryFetch (q k : Nat) (s : State) : Out :=
  if !s.mayFetch q || decide (s.tagLimit ≤ s.readsOut) then .next s else
  let x := s.queue q
  let n := s.ringSize q
  let s1 := s.fetchRun q x.fetch (min k (min (n - x.fetch) (max 1 (s.pci.mrrs / 64))))
  let got := s1.jobs.length - s.jobs.length
  if got = 0 then .next s else .next (s1.say (.read (s.pasidOf (s.sliceOf q)) (s.entryAddr q x.fetch 0) (64 * got)))

/-- The eight words that an entry's 64 bytes spell, little-endian (R4, R119). -/
def entryWords (d : List Byte) : List W64 := (List.range 8).map fun k => BitVec.ofNat 64 (bfield d (8 * k) 8)

/-- OWN of an entry: bit 63 of its last word (R119). -/
def entryOwn (d : List Byte) : Bool := bit (bfield d 56 8) 63

/-- ENTRY_RECEIVED (R4, R89, R90, R114): the entry's 64 bytes have arrived. With OWN 0 fetching stops at it: what was fetched behind it is dropped, and
in a queue that drains the entry too. (DEDUCED: notes/assumptions/80) -/
def execEntryReceived (q i : Nat) (d : List Byte) (s0 : State) : Out := s0.clocked fun s =>
  match s.job? q i with
  | none => .next s
  | some j =>
    if j.stage ≠ .fetching then .next s else
    if entryOwn d then .next (s.updJob q i fun j => { j with words := entryWords d, stage := .fetched })
    else if s.getF .QC_CTRL_STATE q = 2 then .next (((s.dropFrom q i).drained q).sliceDrained (s.sliceOf q))
    else
      let n := s.ringSize q
      let s1 := ((s.updJob q i fun j => { j with stage := .ownWait }).dropFrom q ((i + 1) % n)).setFlag .QC_STATUS_OWN_WAIT q true
      .next ((s1.setQueue q { s1.queue q with rereads := 0 }).sliceDrained (s.sliceOf q))

/-- OWN_WAIT_RETRY (R4, R90): the entry read again after 2 µs, while the function may issue reads (R49) and the slice is not paused (R75); after the
eighth time fetching stays held and the miss is counted. (DEDUCED: notes/assumptions/19) -/
def execOwnWaitRetry (q : Nat) (d : List Byte) (s : State) : Out :=
  let x := s.queue q
  match s.jobs.find? fun j => j.q == q && j.stage == .ownWait with
  | none => .next s
  | some j =>
    if x.missHeld || !s.mayIssue || s.sliceHeld (s.sliceOf q) then .next s else
    let s1 := s.hostRead j.slice (s.entryAddr q j.idx 0) 64
    if entryOwn d then
      .next (((s1.updJob q j.idx fun j => { j with words := entryWords d, stage := .fetched }).setFlag .QC_STATUS_OWN_WAIT q false).setQueue q
        { x with rereads := 0 })
    else if x.rereads + 1 < 8 then .next (s1.setQueue q { x with rereads := x.rereads + 1 })
    else .next ((s1.setQueue q { x with rereads := 8, missHeld := true }).count .QC_OWN_MISS_COUNT_COUNT q 1)

/-- The plain fields of QE_SC_CTRL written. -/
def State.scPlain (s : State) (c v : Nat) : State :=
  (s.setF .QE_SC_CTRL_VECTOR c (bits v 31 22)).setF .QE_SC_CTRL_HOLDOFF c (bits v 17 8)

/-- SC_ENABLE (R118, R225): QE_SC_CTRL written with ENABLE = 1. -/
def execScEnable (c : Nat) (v : W32) (s0 : State) : Out := s0.mmio fun s =>
  let s1 := s.scPlain c v.toNat
  let k := s.getF .QE_SC_BASE_SIZE_LOG2 c
  if 4 ≤ k ∧ k ≤ 12 then .next (s1.setFlag .QE_SC_CTRL_ENABLE c true) else .next (s1.count .QE_CFG_REFUSED_COUNT_COUNT 0 1)

/-- SC_DISABLE (R109, R118): outstanding requests stay outstanding; new ones go to the next enabled channel. -/
def execScDisable (c : Nat) (v : W32) (s0 : State) : Out := s0.mmio fun s => .next ((s.scPlain c v.toNat).setFlag .QE_SC_CTRL_ENABLE c false)

/-- SC_POST (R108, R109, R111, R382, R534): the first waiting request that a channel can take is posted. -/
def execScPost (s : State) : Out :=
  if !s.mayIssue || s.flag .TMP_STATUS_HALTED 0 then .next s else
  match takeFirst (fun r => s.postable r) s.store.scQ with
  | none => .next s
  | some (r, rest) =>
    match s.chanFor r.block with
    | none => .next s
    | some c => .next ({ s with store := { s.store with scQ := rest } }.scPost c r)

/-- SC_HOLDOFF_TIMER (R111): the holdoff ends; a message is sent when entries were posted during it. (DESIGN CHOICE: notes/assumptions/8) -/
def execScHoldoffTimer (c : Nat) (s0 : State) : Out := s0.clocked fun s =>
  let x := s.chan c
  if x.holdoffUntil.isNone then .next s else
  let s1 := s.setChan c { x with holdoffUntil := none, postedInHoldoff := false }
  .next (if x.postedInHoldoff then s1.scMessage c else s1)

/-- SC_SLOT_TIMEOUT (R112, R383): the request ends in its slot, SC_TIMEOUT is latched, SEAL posts the request again at once. (DESIGN CHOICE: notes/assumptions/8) -/
def execScSlotTimeout (c tag : Nat) (s0 : State) : Out := s0.clocked fun s =>
  match s.scTake c tag with
  | (none, _) => .next s
  | (some o, s1) => .next ((s1.raiseErr blkQE 1 c tag).repost o.req true)

end Sys2Proof.Machine
end

