-- ==== Sys2Proof/Machine/Commit.lean ====
section
/-! DEFINITION. The commit point and the write order (R12, R97 to R105, R128, R133, R134, R137 to R140, R204, R205). -/
namespace Sys2Proof.Machine

open Sys2Proof

/-- STATUS codes (R131). -/
def stSuccess : Nat := 0x0000
def stSigInvalid : Nat := 0x0010
def stNotReady : Nat := 0x0011
def stBadOpcode : Nat := 0x0101
def stBadParamset : Nat := 0x0102
def stBadLength : Nat := 0x0103
def stInputRejected : Nat := 0x0104
def stLengthLimit : Nat := 0x0105
def stBadFragment : Nat := 0x0106
def stBadHandle : Nat := 0x0201
def stUsageDenied : Nat := 0x0202
def stKeyExhausted : Nat := 0x0203
def stKeyQuarantined : Nat := 0x0204
def stEntropy : Nat := 0x0301
def stNoPages : Nat := 0x0302
def stQuota : Nat := 0x0303
def stStorageTimeout : Nat := 0x0304
def stHostRead : Nat := 0x0401
def stHostWrite : Nat := 0x0402
def stEngineFault : Nat := 0x0501
def stAborted : Nat := 0x0502
def stFlushed : Nat := 0x0503
def stChainBroken : Nat := 0x0504
def stKernelFault : Nat := 0x0505
def stLockdown : Nat := 0x0601
def stLifecycle : Nat := 0x0602

/-- Bytes written over fragments in order, as output data (R44, R126). -/
def State.writeFrags (s : State) (sl : Nat) : List (Nat × Nat) → List Byte → State
  | [], _ => s
  | (a, n) :: t, d => (s.hostWrite sl a (d.take n) true).writeFrags sl t (d.drop n)

/-- The output goes to host memory: SUCCESS, or SIG_INVALID where the opcode writes one (R128); a stitched link writes only with
OUT_LEN not 0 (R138). The output holds public bytes alone: what is secret stands in pass. (DEDUCED: notes/assumptions/87) -/
def Job.writesOutput (j : Job) : Bool :=
  j.checked && (j.status == stSuccess || (j.status == stSigInvalid && j.outputOnInvalid)) &&
    (!j.stitch || j.outLen != 0)

/-- W7 of a completed entry: STATUS, DETAIL, RESULT saturated at 0x7FFF_FFFF (R133), OWN clear (R119). -/
def Job.w7 (j : Job) : Nat := j.status % 65536 + j.detail % 65536 * 65536 + min j.result (2 ^ 31 - 1) * 2 ^ 32

/-- A job past its commit point gives back what it holds (R209, R218). -/
def Job.finish (j : Job) : Job :=
  { j with stage := .done, inCred := 0, outCred := 0, pools := [], parkSlots := 0, core := none, passed := none, pass := [], input := [], park := [],
           ctx := [], waitSince := none,
           waitBlocks := [], resIn := false, resOut := false, resPools := [], entSince := none, slot := none, slots := [], phase := 0 }

/-- W7 of an entry written, the entry completed (R12, R89). -/
def State.writeW7 (s : State) (q i : Nat) : State :=
  match s.job? q i with
  | none => s
  | some j => (s.hostWrite j.slice (s.entryAddr q i 7) (leBytes 8 j.w7) false).updJob q i Job.finish

/-- What a completed link leaves for the next one (R138 to R140): its passed result, or its failure. (DEDUCED: notes/assumptions/23) -/
def State.linkDone (s : State) (j : Job) : State :=
  let x := s.queue j.q
  if !j.stitch || x.chainFail.isSome then s else
  if j.status ≠ stSuccess then s.setQueue j.q { x with chainFail := some (j.status, j.chainPos), passed := none }
  else if s.getF .QC_CTRL_STATE j.q ≠ 1 ∨ s.flag .SLC_SLICE_CTRL_PAUSE j.slice then
    s.setQueue j.q { x with chainFail := some (stFlushed, j.chainPos), passed := none }
  else s.setQueue j.q { x with passed := some j.pass }

/-- Everything a job's commit point asks for holds (R205, R208): its execution has ended, its record is placed, its versions are durable. -/
def State.mayCommit (s : State) (j : Job) : Bool :=
  j.stage == .ended && s.mayIssue && (j.seq.isNone || j.placed) && s.durable j.needCommit &&
    !(s.store.placeQ.any fun p => p.owner == some (j.q, j.idx))

/-- A job's output over its output area, when its status writes one and it is not written yet (R126, R128). -/
def State.writeOutput (s : State) (j : Job) : State :=
  if j.writesOutput && decide (j.written < 1) then
    s.writeFrags j.slice (if j.outInd then j.outFrags else [(j.outAddr, j.outLen)]) (j.output.take j.outLen)
  else s

/-- The writes of one entry, in the write order: outputs, W6, W7 (R12, R126, R134). -/
def State.commitWrites (s : State) (j : Job) : State :=
  let s1 := s.writeOutput j
  let s2 := match (if j.written < 2 then j.ext else none) with
    | some w => s1.hostWrite j.slice (s.entryAddr j.q j.idx 6) (leBytes 8 w.toNat) false
    | none => s1
  s2.writeW7 j.q j.idx

/-- JOB_COMMIT (R205): the writes in the write order, then the head, its record, the event and the message. -/
def execJobCommit (q i : Nat) (s : State) : Out :=
  match s.job? q i with
  | none => .next s
  | some j =>
    if s.mayCommit j then .next (((s.commitWrites j).linkDone j).moveHead q) else .next s

end Sys2Proof.Machine
end

