-- ==== Sys2Proof/Machine/Opcodes.lean ====
section
/-! DEFINITION. What each opcode is: its sizes, the flags, PARAMSET and AUX it accepts, the keys and services it needs
(R122, R141 to R147, R149, R156, R164, R170 to R198, R210, R218, R350, R351, R478). -/
namespace Sys2Proof.Machine

open Sys2Proof

/-! ### Parameter sets (R145 to R147, R171, R173) -/

/-- Sizes of a KEM set: public key, private key, ciphertext, shared secret (R145). A number from 256 on names a set in the edition of a loaded kernel, whose
sizes the spec leaves to that edition. (DEDUCED: notes/assumptions/24) -/
def kemSizes (ps : Nat) : Option (Nat × Nat × Nat × Nat) :=
  if 256 ≤ ps then
    let n := fun k => Config.algNat "KEM edition size" [ps % 256, ps / 256, k] []
    some (n 0, n 1, n 2, n 3)
  else
  match ps with
  | 0x01 => some (800, 1632, 768, 32)
  | 0x02 => some (1184, 2400, 1088, 32)
  | 0x03 => some (1568, 3168, 1568, 32)
  | 0x10 => some (261120, 6492, 96, 32)
  | 0x11 => some (524160, 13608, 156, 32)
  | 0x12 => some (1044992, 13932, 208, 32)
  | 0x13 => some (1047319, 13948, 194, 32)
  | 0x14 => some (1357824, 14120, 208, 32)
  | 0x20 => some (2249, 2305, 4433, 64)
  | 0x21 => some (4522, 4586, 8978, 64)
  | 0x22 => some (7245, 7317, 14421, 64)
  | 0x30 => some (32, 32, 32, 32)
  | 0x31 => some (56, 56, 56, 56)
  | 0x32 => some (65, 32, 65, 32)
  | 0x33 => some (97, 48, 97, 48)
  | 0x40 => some (1216, 2432, 1120, 32)
  | 0x41 => some (1665, 3216, 1665, 32)
  | _ => none

def kemPk (ps : Nat) : Nat := (kemSizes ps).elim 0 fun x => x.1
def kemSk (ps : Nat) : Nat := (kemSizes ps).elim 0 fun x => x.2.1
def kemCt (ps : Nat) : Nat := (kemSizes ps).elim 0 fun x => x.2.2.1
def kemSs (ps : Nat) : Nat := (kemSizes ps).elim 0 fun x => x.2.2.2

/-- Sizes of a signature set whose sizes the set alone fixes: public key, private key, signature (R146); 0 for no private key. -/
def sigSizes (ps : Nat) : Option (Nat × Nat × Nat) :=
  match ps with
  | 0x01 => some (1312, 2560, 2420)
  | 0x02 => some (1952, 4032, 3309)
  | 0x03 => some (2592, 4896, 4627)
  | 0x08 => some (32, 64, 7856)
  | 0x09 => some (32, 64, 17088)
  | 0x0A => some (48, 96, 16224)
  | 0x0B => some (48, 96, 35664)
  | 0x0C => some (64, 128, 29792)
  | 0x0D => some (64, 128, 49856)
  | 0x0E => some (32, 64, 7856)
  | 0x0F => some (32, 64, 17088)
  | 0x10 => some (48, 96, 16224)
  | 0x11 => some (48, 96, 35664)
  | 0x12 => some (64, 128, 29792)
  | 0x13 => some (64, 128, 49856)
  | 0x18 => some (897, 0, 666)
  | 0x19 => some (1793, 0, 1280)
  | 0x30 => some (65, 32, 64)
  | 0x31 => some (97, 48, 96)
  | 0x32 => some (133, 66, 132)
  | 0x38 => some (32, 32, 64)
  | 0x39 => some (57, 57, 114)
  | _ => none

def isLattice (ps : Nat) : Bool := decide (1 ≤ ps) && decide (ps ≤ 3)
def isMlDsa (ps : Nat) : Bool := isLattice ps
def isSlhDsa (ps : Nat) : Bool := decide (0x08 ≤ ps) && decide (ps ≤ 0x13)
def isFnDsa (ps : Nat) : Bool := ps == 0x18 || ps == 0x19
def isStateful (ps : Nat) : Bool := decide (0x20 ≤ ps) && decide (ps ≤ 0x23)
def isEcdsa (ps : Nat) : Bool := decide (0x30 ≤ ps) && decide (ps ≤ 0x32)
def isEddsa (ps : Nat) : Bool := ps == 0x38 || ps == 0x39
def isRsa (ps : Nat) : Bool := ps == 0x40 || ps == 0x41
def isHybrid (ps : Nat) : Bool := ps == 0x40 || ps == 0x41
def isClassical (ps : Nat) : Bool := decide (0x30 ≤ ps) && decide (ps ≤ 0x33)
def isMceliece (ps : Nat) : Bool := decide (0x10 ≤ ps) && decide (ps ≤ 0x14)
def isHqc (ps : Nat) : Bool := decide (0x20 ≤ ps) && decide (ps ≤ 0x22)

/-- A code of the signature table (R146). -/
def sigKnown (ps : Nat) : Bool := (sigSizes ps).isSome || isStateful ps || isRsa ps

/-- A set that serves verification only (R146). -/
def sigVerifyOnly (ps : Nat) : Bool := isFnDsa ps || ps == 0x41

/-- Hash (true for SHAKE256) and n, and h, of an LMS typecode of SP 800-208 (R147; the codes are those of the cited standards, notes/assumptions/30). (PRESUMED: notes/assumptions/30) -/
def lmsType (t : Nat) : Option ((Bool × Nat) × Nat) :=
  if 0x05 ≤ t ∧ t ≤ 0x09 then some ((false, 32), 5 * (t - 0x04))
  else if 0x0A ≤ t ∧ t ≤ 0x0E then some ((false, 24), 5 * (t - 0x09))
  else if 0x0F ≤ t ∧ t ≤ 0x13 then some ((true, 32), 5 * (t - 0x0E))
  else if 0x14 ≤ t ∧ t ≤ 0x18 then some ((true, 24), 5 * (t - 0x13))
  else none

/-- The number p of chains for n and log2 of the Winternitz code w = 0 to 3 (R147). -/
def chains (n w : Nat) : Nat :=
  if n = 32 then [265, 133, 67, 34].getD w 0 else [200, 101, 51, 26].getD w 0

/-- Hash and n, and the Winternitz code, of an LM-OTS typecode (R147). (PRESUMED: notes/assumptions/30) -/
def otsType (t : Nat) : Option ((Bool × Nat) × Nat) :=
  if 0x01 ≤ t ∧ t ≤ 0x04 then some ((false, 32), t - 1)
  else if 0x05 ≤ t ∧ t ≤ 0x08 then some ((false, 24), t - 5)
  else if 0x09 ≤ t ∧ t ≤ 0x0C then some ((true, 32), t - 9)
  else if 0x0D ≤ t ∧ t ≤ 0x10 then some ((true, 24), t - 13)
  else none

/-- n and h of an XMSS OID that SP 800-208 approves (R147). (PRESUMED: notes/assumptions/30) -/
def xmssOid (t : Nat) : Option (Nat × Nat) :=
  let h := fun k => [10, 16, 20].getD k 0
  if 0x01 ≤ t ∧ t ≤ 0x03 then some (32, h (t - 1))
  else if 0x0D ≤ t ∧ t ≤ 0x0F then some (24, h (t - 0x0D))
  else if 0x10 ≤ t ∧ t ≤ 0x12 then some (32, h (t - 0x10))
  else if 0x13 ≤ t ∧ t ≤ 0x15 then some (24, h (t - 0x13))
  else none

/-- n, h and d of an XMSS^MT OID that SP 800-208 approves (R147). (PRESUMED: notes/assumptions/30) -/
def xmssMtOid (t : Nat) : Option (Nat × Nat × Nat) :=
  let f := fun k => [(20, 2), (20, 4), (40, 2), (40, 4), (40, 8), (60, 3), (60, 6), (60, 12)].getD k (0, 1)
  if 0x01 ≤ t ∧ t ≤ 0x08 then some (32, f (t - 1))
  else if 0x21 ≤ t ∧ t ≤ 0x28 then some (24, f (t - 0x21))
  else if 0x29 ≤ t ∧ t ≤ 0x30 then some (32, f (t - 0x29))
  else if 0x31 ≤ t ∧ t ≤ 0x38 then some (24, f (t - 0x31))
  else none

/-- What a stateful set's typecodes say (R147, R149): public key, signature, log2 of N, the height of one tree, trees built,
chains and steps per chain. types is the 16-bit TYPE field, levels the L of HSS. -/
structure StatefulInfo where
  pk : Nat
  sig : Nat
  nLog2 : Nat
  height : Nat
  trees : Nat
  p : Nat
  steps : Nat
deriving DecidableEq, Repr

/-- The typecodes of LMS and LM-OTS must name one hash and one n. -/
def statefulInfo (set types levels : Nat) : Option StatefulInfo :=
  let lo := types % 256
  let hi := types / 256
  match set with
  | 0x20 =>
    match lmsType lo, otsType hi with
    | some ((b, n), h), some ((c, m), w) =>
      if b = c ∧ n = m then some ⟨24 + n, 12 + n * (chains n w + 1 + h), h, h, 1, chains n w, 2 ^ 2 ^ w - 1⟩ else none
    | _, _ => none
  | 0x21 =>
    match lmsType lo, otsType hi with
    | some ((b, n), h), some ((c, m), w) =>
      let s := 12 + n * (chains n w + 1 + h)
      if b = c ∧ n = m ∧ 2 ≤ levels ∧ levels ≤ 8 then some ⟨28 + n, 4 + (levels - 1) * (24 + n + s) + s, h * levels, h, levels, chains n w, 2 ^ 2 ^ w - 1⟩
      else none
    | _, _ => none
  | 0x22 =>
    match xmssOid types with
    | some (n, h) => some ⟨4 + 2 * n, 4 + n * (1 + chains n 2 + h), h, h, 1, chains n 2, 15⟩
    | none => none
  | 0x23 =>
    match xmssMtOid types with
    | some (n, h, d) => some ⟨4 + 2 * n, ceilDiv h 8 + n * (1 + d * chains n 2 + h), h, h / d, d, chains n 2, 15⟩
    | none => none
  | _ => none

/-- TYPE and levels that a stateful public key spells: its four-byte typecodes or OID, and for HSS the number of levels before them
(RFC 8554, RFC 8391). -/
def pubTypes (ps : Nat) (pk : List Byte) : Nat × Nat :=
  let w := fun i => beNat (bslice pk i 4)
  if ps = 0x20 then (w 0 + 256 * w 4, 0) else if ps = 0x21 then (w 4 + 256 * w 8, w 0) else (w 0, 0)

/-- A number of four bytes holds a typecode that the 16-bit TYPE can hold. -/
def typesFit (ps : Nat) (pk : List Byte) : Bool :=
  let w := fun i => beNat (bslice pk i 4)
  if ps = 0x20 then decide (w 0 < 256) && decide (w 4 < 256) else if ps = 0x21 then decide (w 4 < 256) && decide (w 8 < 256) else true

/-- What a stateful public key's typecodes or OID say (R147). -/
def pubStateful (ps : Nat) (pk : List Byte) : Option StatefulInfo :=
  if typesFit ps pk then statefulInfo ps (pubTypes ps pk).1 (pubTypes ps pk).2 else none

/-- The front of a new stateful public key: levels, typecodes or OID, most significant byte first (R146 to R148). -/
def pubFront (ps types levels : Nat) : List Byte :=
  if ps = 0x20 then beBytes 4 (types % 256) ++ beBytes 4 (types / 256)
  else if ps = 0x21 then beBytes 4 levels ++ beBytes 4 (types % 256) ++ beBytes 4 (types / 256)
  else beBytes 4 types

/-- Digest bytes of a hash code (R171); 0 for the two SHAKEs and for no hash. -/
def digestSize (code : Nat) : Nat :=
  match code with
  | 0x01 => 32
  | 0x02 => 48
  | 0x03 => 64
  | 0x04 => 32
  | 0x05 => 64
  | 0x08 => 48
  | 0x09 => 24
  | _ => 0

/-- Digest bytes of a PREHASH code (R156). -/
def prehashSize (code : Nat) : Nat := if code = 6 then 32 else if code = 7 then 64 else digestSize code

/-- The hash that PREHASH selects for a signature set; 0 for none (R156). -/
def prehashOf (ps code : Nat) : Nat :=
  if code ≠ 0 then code
  else if ps = 0x30 ∨ isRsa ps then 1 else if ps = 0x31 then 2 else if ps = 0x32 then 3 else 0

/-- Bytes of a symmetric type; none for a generic secret (R173). -/
def symLen (t : Nat) : Option Nat :=
  match t with
  | 1 => some 16
  | 2 => some 32
  | 3 => some 32
  | 4 => some 64
  | _ => none

/-- A length that a symmetric type may have (R173). -/
def symLenOk (t n : Nat) : Bool :=
  match symLen t with
  | some m => n == m
  | none => t == 5 && decide (1 ≤ n) && decide (n ≤ 256)

/-- The bytes of a secret wrapped with KWP (R144, R177). -/
def kwpLen (n : Nat) : Nat := 8 * ceilDiv n 8 + 8

/-! ### Usage (R350, R351) -/

def uEncaps : Nat := 0
def uDecaps : Nat := 1
def uAgree : Nat := 2
def uSign : Nat := 3
def uVerify : Nat := 4
def uEncrypt : Nat := 5
def uDecrypt : Nat := 6
def uMac : Nat := 7
def uWrap : Nat := 8
def uUnwrap : Nat := 9
def uDerive : Nat := 10
def uExport : Nat := 11
def uKernel : Nat := 12

/-- A value has no bit outside a mask. -/
def onlyBits (v mask : Nat) : Bool := v &&& mask == v

/-- The usage bits that a family lists. -/
def usageMask (family ps : Nat) : Nat :=
  if family = 1 then (if isClassical ps then 0x1807 else 0x1803)
  else if family = 2 then 0x1818
  else if ps = 5 then 0x1FE0 else 0x1BE0

def usageOk (family ps u : Nat) : Bool := onlyBits u (usageMask family ps)

/-- The masking order of a new private key (R143, R349): 0 none. -/
def keyOrder (family ps : Nat) (order2 : Bool) : Nat :=
  if family = 3 then 0
  else if order2 then 2
  else if family = 1 then (if isLattice ps || isHybrid ps then 1 else 0)
  else if isMlDsa ps || isSlhDsa ps || isStateful ps then 1 else 0

/-- ORDER2 may be set for a family (R143). -/
def order2Ok (family ps : Nat) : Bool := (family == 1 && (isLattice ps || isHybrid ps)) || (family == 2 && isMlDsa ps)

/-- A persistence class from its code. -/
def clsOf (c : Nat) : KCls := if c = 1 then .durable else if c = 2 then .tamperBound else .ephemeral

/-- The code of a persistence class. -/
def KCls.code : KCls → Nat
  | .ephemeral => 0
  | .durable => 1
  | .tamperBound => 2

/-! ### Opcodes and flags (R122, R141, R170, R198) -/

/-- The defined opcodes. -/
def opKnown (op : Nat) : Bool :=
  op == 0 || (0x0110 ≤ op && op ≤ 0x0112) || (0x0120 ≤ op && op ≤ 0x0123) || op == 0x0130 || op == 0x0140 ||
    (0x0200 ≤ op && op ≤ 0x0203) || (0x0300 ≤ op && op ≤ 0x0306) || op == 0x0400 || (0x0500 ≤ op && op ≤ 0x0505) ||
    (0x0600 ≤ op && op ≤ 0x0605) || (0x0700 ≤ op && op ≤ 0x0702) || op == 0x0800 || op == 0x0801 || op == 0x0900 ||
    (0x0F00 ≤ op && op ≤ 0x0F03)

/-- Accepted from slice 0 only (R170). -/
def Job.adminOnly (j : Job) : Bool :=
  decide (0x0F00 ≤ j.opcode) || j.opcode == 0x0702 || (j.opcode == 0x0900 && (j.paramset == 2 || j.paramset == 3))

def readsInput (op : Nat) : Bool :=
  [0x0111, 0x0112, 0x0121, 0x0122, 0x0123, 0x0130, 0x0140, 0x0200, 0x0201, 0x0202, 0x0203, 0x0300, 0x0301, 0x0302, 0x0303, 0x0304,
   0x0305, 0x0306, 0x0500, 0x0504, 0x0600, 0x0700, 0x0800, 0x0900, 0x0F03].contains op

def writesOut (op : Nat) : Bool :=
  [0x0110, 0x0111, 0x0112, 0x0120, 0x0121, 0x0123, 0x0130, 0x0140, 0x0200, 0x0201, 0x0202, 0x0203, 0x0300, 0x0301, 0x0302, 0x0303,
   0x0304, 0x0305, 0x0306, 0x0400, 0x0501, 0x0503, 0x0601, 0x0602, 0x0603, 0x0701, 0x0800, 0x0801, 0x0900, 0x0F00, 0x0F01, 0x0F02,
   0x0F03].contains op

def takesStitch (op : Nat) : Bool :=
  [0x0111, 0x0112, 0x0121, 0x0130, 0x0140, 0x0200, 0x0201, 0x0202, 0x0203, 0x0300, 0x0301, 0x0304, 0x0305, 0x0306, 0x0400,
   0x0900].contains op

def takesLedger (op : Nat) : Bool :=
  [0x0110, 0x0111, 0x0112, 0x0120, 0x0121, 0x0122, 0x0123, 0x0130, 0x0140, 0x0200, 0x0201, 0x0202, 0x0306, 0x0500, 0x0501, 0x0502,
   0x0504, 0x0700].contains op

/-- The opcode takes a key in the sense of R138: a passed result can be it. -/
def Job.takesKey (j : Job) : Bool :=
  [0x0201, 0x0202, 0x0300, 0x0301, 0x0302, 0x0303, 0x0304, 0x0305, 0x0306, 0x0504].contains j.opcode ||
    (j.opcode == 0x0900 && j.paramset == 0)

/-- The lowest flag that is set and not accepted (R122). -/
def Job.badFlag (j : Job) : Option Nat :=
  (List.range 8).find? fun b => bit j.flags b &&
    !(match b with
      | 1 => takesStitch j.opcode
      | 3 => readsInput j.opcode
      | 4 => writesOut j.opcode
      | 5 => takesLedger j.opcode
      | 6 => takesLedger j.opcode
      | _ => true)

/-- The passed result is this job's key (R138). -/
def Job.passedKey (j : Job) : Bool := j.passed.isSome && j.takesKey && j.handle == 0

/-- Bytes of the passed result that stand before the host input (R138). -/
def Job.passedLen (j : Job) : Nat := if j.passedKey then 0 else (j.passed.getD []).length

/-- Bytes of the whole input. -/
def Job.effIn (j : Job) : Nat := (if readsInput j.opcode then j.inLen else 0) + j.passedLen

/-- The opcodes of one job's LEDGER and ledger streams: the stream's number (R135, R187). -/
def Job.streamNo (j : Job) : Nat := if j.ledger then bits j.arg1 7 0 else bits j.aux 7 0

/-- The opcode appends a record (R135, R187). -/
def Job.appends (j : Job) : Bool := j.ledger || j.opcode == 0x0600

/-- The opcode reads its stream from AUX[7:0]. -/
def Job.ledgerOp (j : Job) : Bool := decide (0x0600 ≤ j.opcode) && decide (j.opcode ≤ 0x0605)

/-- A signing opcode: SIG_SIGN, LEDGER_CHECKPOINT, TIME_STAMP. -/
def Job.signs (j : Job) : Bool := j.opcode == 0x0121 || j.opcode == 0x0601 || j.opcode == 0x0800

/-! ### Keys that an entry names -/

/-- The key of a handle as the vault holds it. -/
def State.keyOf (s : State) (h : Nat) : KeyX := s.key (h % 65536)

/-- The key that the job's KEY_HANDLE names. -/
def State.jobKey (s : State) (j : Job) : KeyX := s.keyOf j.handle

/-- DELIVERY of the shared-secret opcodes and KDF, RANDOM, KEY_UNWRAP: 0 vault, 1 wrapped, 2 plain. -/
def Job.delivery (j : Job) : Nat :=
  if [0x0111, 0x0112, 0x0130, 0x0140].contains j.opcode then bits j.aux 9 8
  else if j.opcode = 0x0203 ∨ j.opcode = 0x0305 then bits j.aux 17 16
  else if j.opcode = 0x0400 then (if bits j.aux 25 24 = 1 then 0 else 2)
  else 2

/-- Delivers a secret under R144 or R174 or R177 or R178. -/
def Job.delivers (j : Job) : Bool := [0x0111, 0x0112, 0x0130, 0x0140, 0x0203, 0x0305, 0x0400].contains j.opcode

/-- The handle of the wrapping key, if the job has one (R144, R174, R182). -/
def Job.wrapHandle (j : Job) : Option Nat :=
  if j.opcode = 0x0501 then some (bits j.arg0 31 0)
  else if j.stitch then none
  else if j.delivers && j.delivery == 1 then some (if j.opcode = 0x0203 then bits j.arg1 31 0 else bits j.arg0 31 0)
  else none

/-- KEY_HANDLE is used by the opcode: none, optional, required. -/
inductive HandleUse where
  | unused | optional | required
deriving DecidableEq, Repr

def Job.handleUse (j : Job) : HandleUse :=
  let op := j.opcode
  if [0x0111, 0x0122, 0x0203].contains op || (op == 0x0900 && j.paramset == 0) then .optional
  else if op = 0x0500 then (if bit j.aux 0 then .required else .unused)
  else if [0x0112, 0x0121, 0x0130, 0x0140, 0x0201, 0x0202, 0x0300, 0x0301, 0x0302, 0x0303, 0x0304, 0x0305, 0x0306, 0x0501, 0x0502,
      0x0503, 0x0504, 0x0505, 0x0601, 0x0800].contains op then .required
  else .unused

/-- The handles an entry names, in order of check: KEY_HANDLE, the classical key of HYBRID_KEM, the wrapping key. -/
def Job.handles (j : Job) : List Nat :=
  (match j.handleUse with
    | .unused => []
    | .optional => if j.handle = 0 then [] else [j.handle]
    | .required => if j.passedKey then [] else [j.handle]) ++
  (if j.opcode = 0x0140 then [bits j.arg0 63 32] else []) ++
  (match j.wrapHandle with
    | some h => [h]
    | none => [])

/-! ### The key a job creates -/

/-- The opcode makes a new key in the vault: family, set, class code, usage, order 2, length of the raw form (0 when the key's bytes give it). -/
structure NewKey where
  family : Nat
  ps : Nat
  cls : Nat
  usage : Nat
  order2 : Bool := false
deriving DecidableEq, Repr

def Job.newKey (j : Job) : Option NewKey :=
  let op := j.opcode
  if op = 0x0110 then some { family := 1, ps := j.paramset, cls := bits j.aux 5 4, usage := bits j.arg0 15 0, order2 := bit j.aux 2 }
  else if op = 0x0120 then some { family := 2, ps := j.paramset, cls := bits j.aux 5 4, usage := bits j.arg0 15 0, order2 := bit j.aux 2 }
  else if op = 0x0500 then
    some { family := bits j.aux 15 8, ps := j.paramset, cls := bits j.aux 5 4, usage := bits j.arg0 15 0, order2 := bit j.aux 2 }
  else if op = 0x0504 then some { family := 3, ps := bits j.aux 7 0, cls := bits j.aux 17 16, usage := bits j.arg0 47 32 }
  else if op = 0x0400 then
    (if bits j.aux 25 24 = 1 then some { family := 3, ps := bits j.arg0 23 16, cls := bits j.arg0 25 24, usage := bits j.arg0 15 0 } else none)
  else if j.delivers && !j.stitch && j.delivery == 0 then
    (if op = 0x0203 then some { family := 3, ps := bits j.arg1 23 16, cls := 0, usage := bits j.arg1 15 0 }
     else some { family := 3, ps := 5, cls := 0, usage := bits j.arg0 15 0 })
  else none

/-! ### Kernels (R197, R283) -/

def KernelX.h (k : KernelX) (a n : Nat) : Nat := bfield k.bundle a n
def KernelX.id (k : KernelX) : Nat := k.h 6 2
def KernelX.version (k : KernelX) : Nat := k.h 8 2
def KernelX.flags (k : KernelX) : Nat := k.h 10 2
def KernelX.replaces (k : KernelX) : Bool := bit k.flags 0
def KernelX.outSecret (k : KernelX) : Bool := bit k.flags 1
def KernelX.team (k : KernelX) : Nat := 2 ^ bits k.flags 3 2
def KernelX.replSet (k : KernelX) : Nat := k.h 12 2
def KernelX.keySet (k : KernelX) : Nat := k.h 14 2
def KernelX.codeLen (k : KernelX) : Nat := k.h 20 2
def KernelX.entry (k : KernelX) : Nat := k.h 22 2
def KernelX.constLen (k : KernelX) : Nat := k.h 24 4
def KernelX.pages (k : KernelX) : Nat := k.h 28 1
def KernelX.formats (k : KernelX) : Nat := k.h 29 1
def KernelX.inBase (k : KernelX) : Nat := k.h 30 2
def KernelX.inMax (k : KernelX) : Nat := k.h 32 4
def KernelX.inGranule (k : KernelX) : Nat := k.h 36 4
def KernelX.outBase (k : KernelX) : Nat := k.h 40 2
def KernelX.keyBase (k : KernelX) : Nat := k.h 42 2
def KernelX.outMax (k : KernelX) : Nat := k.h 44 4
def KernelX.cycleLimit (k : KernelX) : Nat := k.h 48 4
def KernelX.sessions (k : KernelX) : Nat := max 1 (k.h 52 1)
def KernelX.modulus (k : KernelX) (i : Nat) : Nat := k.h (56 + 4 * i) 4

/-- The loaded kernel of an ID that new RUNs take. -/
def State.kernelOf (s : State) (id : Nat) : Option KernelX := s.mar.kernels.find? fun k => k.live && k.id == id

/-- The kernel of a slot. -/
def State.kernelAt (s : State) (slot : Nat) : Option KernelX := s.mar.kernels.find? fun k => k.slot == slot

/-- The family of the set that an entry works with (R179); 0 where it names none. -/
def Job.setFamily (j : Job) : Nat :=
  if [0x0110, 0x0111, 0x0112, 0x0130, 0x0140].contains j.opcode then 1
  else if [0x0120, 0x0121, 0x0122, 0x0123, 0x0601, 0x0800].contains j.opcode then 2
  else if j.opcode = 0x0500 ∨ j.opcode = 0x0501 then bits j.aux 15 8 else 0

/-- The loaded kernel that serves an entry's set in place of the built-in routine (R285). -/
def State.replacement (s : State) (j : Job) : Option KernelX :=
  s.mar.kernels.find? fun k => k.live && k.replaces && k.replSet == 256 * j.setFamily + j.paramset

/-- The edition in which an entry's set is served: 0 for the built-in one, else the replacing kernel's version and ID (R145, R285). (DEDUCED: notes/assumptions/24) -/
def State.editionOf (s : State) (j : Job) : Nat := (s.replacement j).elim 0 fun k => 1 + k.version * 65536 + k.id

/-- The set that gives an entry its KEM sizes: its own, or, for McEliece and HQC, its set in the edition that serves it (R145). -/
def Job.kset (j : Job) : Nat := if isMceliece j.paramset || isHqc j.paramset then j.paramset + 256 * j.edition else j.paramset

/-! ### Sizes that depend on the key -/

/-- The bytes of an RSA modulus from its public key (R146). -/
def KeyX.rsaBytes (k : KeyX) : Nat := k.pub.length - 4

/-- Typecodes and levels of a stateful key: from its custody record, or from its imported public key (R147, RFC 8554, RFC 8391). -/
def State.statefulOf (s : State) (k : KeyX) : Option StatefulInfo :=
  match k.custody with
  | some c => statefulInfo (s.cust c).set (s.cust c).types (s.cust c).levels
  | none => pubStateful k.paramset k.pub

/-- The key that fixes the sizes of an entry: the one of KEY_HANDLE, when it is a key of the slice; another slice's key gives nothing away. -/
def State.sizeKey (s : State) (j : Job) : KeyX := if s.handleFault j.slice j.handle = 0 then s.jobKey j else {}

/-- The largest signature of a set made with a key; a key that is not there gives 0 where the size depends on it. -/
def State.sigLen (s : State) (ps : Nat) (k : KeyX) : Nat :=
  if isRsa ps then k.rsaBytes
  else if isStateful ps then (s.statefulOf k).elim 0 StatefulInfo.sig
  else (sigSizes ps).elim 0 fun x => x.2.2

/-- The public key of a new or held signature key. -/
def sigPk (ps types levels : Nat) : Nat :=
  if isRsa ps then 128 * (types % 256) + 4
  else if isStateful ps then (statefulInfo ps types levels).elim 0 StatefulInfo.pk
  else (sigSizes ps).elim 0 fun x => x.1

/-! ### Check 7: PARAMSET and AUX (R142, R149, R156, R170 to R198, R135, R374)
The answer is the DETAIL of BAD_PARAMSET, 0 when nothing is wrong. -/

/-- The first defect of a list of conditions that must hold. -/
def firstFault (l : List (Bool × Nat)) : Nat := ((l.find? fun p => !p.1).map Prod.snd).getD 0

/-- The fields of R156 that are no lengths, and SALT_LEN of a set that has no salt (R165). (DEDUCED: notes/assumptions/24) -/
def sigArgOk (ps a : Nat) (digest : Bool) : Bool :=
  let pre := bits a 47 40
  bits a 31 24 == 0 && decide (pre ≤ 7) && (pre == 0 || isMlDsa ps || isSlhDsa ps || isEcdsa ps || isRsa ps) &&
    (bits a 23 16 == 0 || ps == 0x40) && (!digest || prehashOf ps pre != 0)

/-- SALT_LEN as it acts: 0 means the length of the hash (R156). -/
def saltLen (ps pre salt : Nat) : Nat := if salt = 0 then prehashSize (prehashOf ps pre) else salt

/-- The length fields of R156 fit: PK_LEN and SIG_LEN are 0 where nothing is verified, CTX_LEN is 0 for a set without context, and an RSA-PSS salt
leaves room in a modulus of the given bytes, 0 when it is not known. -/
def sigLensOk (ps a modulus : Nat) (verifying : Bool) : Bool :=
  (verifying || (bits a 63 48 == 0 && bits a 15 0 == 0)) && (bits a 39 32 == 0 || isMlDsa ps || isSlhDsa ps || ps == 0x39) &&
    (ps != 0x40 || modulus == 0 || decide (saltLen ps (bits a 47 40) (bits a 23 16) + prehashSize (prehashOf ps (bits a 47 40)) + 2 ≤ modulus))

/-- The length that an inline public key of a set may have (R163): an RSA modulus is a multiple of 64 bits (R146). -/
def pkLenOk (ps n : Nat) : Bool :=
  if isRsa ps then decide (12 ≤ n) && decide (n ≤ 1028) && (n - 4) % 8 == 0
  else if isStateful ps then (if ps = 0x20 then [48, 56] else if ps = 0x21 then [52, 60] else [52, 68]).contains n
  else (sigSizes ps).elim false fun x => n == x.1

/-- The AUX and ARG0 of the opcodes that deliver a shared secret (R142, R144, R155). (DEDUCED: notes/assumptions/24) -/
def Job.secretArgOk (j : Job) : Bool :=
  let dir := if j.opcode = 0x0140 then 1 else 0
  onlyBits j.aux (0x300 + dir) && decide (bits j.aux 9 8 ≤ 1) && (!j.stitch || bits j.aux 9 8 == 0) &&
    (j.stitch ||
      ((j.opcode == 0x0140 || bits j.arg0 63 32 == 0) &&
        (bits j.aux 9 8 == 1 || (bits j.arg0 31 16 == 0 && usageOk 3 5 (bits j.arg0 15 0)))))

/-- OKM_LEN within what a KDF code gives (R174). -/
def okmOk (code n : Nat) : Bool :=
  decide (1 ≤ n) && (if code < 0x28 then decide (n ≤ 255 * ([32, 48, 64].getD (code - 0x20) 0)) else decide (n ≤ 4096))

def kdfCode (ps : Nat) : Bool := [0x20, 0x21, 0x22, 0x28, 0x29, 0x2A].contains ps

/-- The new symmetric key of a deriving command is well formed: type, length, usage, class. -/
def newSymOk (t n u c : Nat) : Bool := decide (1 ≤ t) && decide (t ≤ 5) && symLenOk t n && usageOk 3 t u && decide (c ≤ 2)

/-- TAG_LEN as it acts (R172, R175). -/
def Job.tagLen (j : Job) : Nat :=
  let t := bits j.aux 23 0
  if j.opcode = 0x0201 then (if t = 0 then digestSize j.paramset else t)
  else if j.opcode = 0x0306 then (if t = 0 then 16 else t)
  else if j.opcode = 0x0202 then t
  else if j.paramset = 8 ∨ j.paramset = 9 then 0
  else let u := bits j.aux 28 24
    if u = 0 then 16 else u

def Job.ivLen (j : Job) : Nat := let n := bits j.aux 23 16
  if n = 0 then 12 else n

def Job.aadLen (j : Job) : Nat := bits j.aux 15 0
def Job.ivGen (j : Job) : Bool := bit j.aux 31

/-- The length of the key that KEY_DERIVE makes (R185). -/
def Job.deriveLen (j : Job) : Nat := (symLen (bits j.aux 7 0)).getD (bits j.aux 15 8)

/-- The RSA key of an import has the size RSA_WORDS gives; the set may be imported this way (R180). (DEDUCED: notes/assumptions/24) -/
def Job.importOk (j : Job) : Bool :=
  let fam := bits j.aux 15 8
  let ps := j.paramset
  let pubOnly := bit j.aux 1
  let w := bits j.aux 23 16
  onlyBits j.aux 0x00FFFF37 && decide (bits j.aux 5 4 ≤ 2) && (!bit j.aux 2 || (order2Ok fam ps && !pubOnly)) &&
    (if fam = 2 ∧ isRsa ps then decide (16 ≤ w) && decide (w ≤ 128) && (decide (32 ≤ w) || pubOnly) else w == 0) &&
    !(fam == 3 && pubOnly) && !(fam == 2 && (isStateful ps || isFnDsa ps) && !pubOnly) &&
    bits j.arg0 63 16 == 0 && usageOk fam ps (bits j.arg0 15 0)

/-- The device blocks that an entry of SEAL_WRITE or SEAL_READ names: the first of the slice's own numbers, and how many (R192). -/
def Job.sealFirst (j : Job) : Nat := bits j.arg0 30 0
def Job.sealCount (j : Job) : Nat := bits j.aux 12 8

/-- The argument fields of SEAL_WRITE and SEAL_READ (R192). (DEDUCED: notes/assumptions/25) -/
def State.sealArgOk (s : State) (j : Job) : Bool :=
  onlyBits j.aux (if j.opcode = 0x0700 then 0x1F01 else 0x1F00) && bits j.arg0 63 31 == 0 && decide (1 ≤ j.sealCount) &&
    decide (j.sealCount ≤ 16) && decide (j.sealFirst / 16 = (j.sealFirst + j.sealCount - 1) / 16) &&
    (!s.storeOpen || decide (j.sealFirst + j.sealCount ≤ s.getF .SEAL_RANGE_SLICE_SPAN j.slice))

/-- Check 7. (DEDUCED: notes/assumptions/24) -/
def State.paramFault (s : State) (j : Job) : Nat :=
  let op := j.opcode
  let ps := j.paramset
  let aux := j.aux
  let a0 := j.arg0
  let a1 := j.arg1
  if j.ledger && decide (bits a1 63 8 ≠ 0) then 3 else
  match op with
  | 0x0110 => firstFault [((kemSizes ps).isSome, 1),
      (onlyBits aux (if isMceliece ps then 0x35 else 0x34) && decide (bits aux 5 4 ≤ 2) && (!bit aux 2 || order2Ok 1 ps) &&
        usageOk 1 ps (bits a0 15 0), 3)]
  | 0x0111 => firstFault [((kemSizes ps).isSome, 1), (j.secretArgOk, 3)]
  | 0x0112 => firstFault [((kemSizes ps).isSome, 1), (j.secretArgOk, 3)]
  | 0x0120 => firstFault [(sigKnown ps, 1), (!sigVerifyOnly ps, 2),
      (onlyBits aux (if isStateful ps || ps == 0x40 then 0xFFFF0034 else 0x34) && decide (bits aux 5 4 ≤ 2) &&
        (!bit aux 2 || order2Ok 2 ps) && usageOk 2 ps (bits a0 15 0), 3),
      (ps != 0x40 || (decide (2 ≤ bits aux 31 16) && decide (bits aux 31 16 ≤ 4)), 3),
      (!isStateful ps || (decide (1 ≤ bits aux 5 4) && (bits a0 36 32 == 0 || (decide (6 ≤ bits a0 36 32) && decide (bits a0 36 32 ≤ 16))) &&
        (ps == 0x21 || bits a0 43 40 == 0) &&
        (statefulInfo ps (bits aux 31 16) (bits a0 43 40)).elim false fun x => decide (x.height ≤ 20)), 3)]
  | 0x0121 => firstFault [(sigKnown ps, 1), (!sigVerifyOnly ps, 2), (onlyBits aux 0x1008 && sigArgOk ps a0 (bit aux 12), 3)]
  | 0x0122 => firstFault [(sigKnown ps, 1), (onlyBits aux 0x1000 && sigArgOk ps a0 (bit aux 12), 3)]
  | 0x0123 => firstFault [(sigKnown ps, 1), (aux == 0 && bits a0 63 16 == 0 && decide (1 ≤ bits a0 15 0) && decide (bits a0 15 0 ≤ 1024), 3)]
  | 0x0130 => firstFault [(isClassical ps, 1), (j.secretArgOk, 3)]
  | 0x0140 => firstFault [(isHybrid ps, 1), (j.secretArgOk, 3)]
  | 0x0200 => firstFault [(decide (1 ≤ ps) && decide (ps ≤ 9), 1),
      (a0 == 0 && (if ps = 6 ∨ ps = 7 then decide (1 ≤ aux) && decide (aux < 2 ^ 24) else aux == 0), 3)]
  | 0x0201 => firstFault [((decide (1 ≤ ps) && decide (ps ≤ 5)) || ps == 8, 1),
      (a0 == 0 && onlyBits aux 0x80FFFFFF && decide (4 ≤ j.tagLen) && decide (j.tagLen ≤ digestSize ps), 3)]
  | 0x0202 => firstFault [(ps == 0x10 || ps == 0x11, 1),
      (decide (a0 < 256) && onlyBits aux 0xC0FFFFFF && decide (1 ≤ j.tagLen) && decide (j.tagLen ≤ 65536), 3)]
  | 0x0203 => firstFault [(kdfCode ps, 1),
      (onlyBits aux 0x3FFFF && decide (bits aux 17 16 ≤ 2) && okmOk ps (bits aux 15 0) && bits a0 63 32 == 0 &&
        (j.handle == 0 || bits a0 15 0 == 0) && (!j.stitch || bits aux 17 16 == 0) &&
        (bits aux 17 16 != 2 || (j.handle == 0 && j.passed.isNone)) &&
        (j.stitch || bits aux 17 16 != 0 || (bits a1 63 24 == 0 && newSymOk (bits a1 23 16) (bits aux 15 0) (bits a1 15 0) 0)), 3)]
  | 0x0300 => firstFault [((decide (1 ≤ ps) && decide (ps ≤ 4)) || ps == 8 || ps == 9, 1),
      (a0 == 0 && onlyBits aux 0x9FFFFFFF && (!j.ivGen || bits aux 23 16 == 0 || bits aux 23 16 == 12) &&
        (if ps < 8 then decide (bits aux 23 16 ≤ 128) && [0, 4, 8, 12, 13, 14, 15, 16].contains (bits aux 28 24)
         else bits aux 23 16 == 16 && bits aux 28 24 == 0 && j.aadLen == 0), 3)]
  | 0x0301 => firstFault [((decide (1 ≤ ps) && decide (ps ≤ 4)) || ps == 8 || ps == 9, 1),
      (a0 == 0 && onlyBits aux 0x1FFFFFFF &&
        (if ps < 8 then decide (bits aux 23 16 ≤ 128) && [0, 4, 8, 12, 13, 14, 15, 16].contains (bits aux 28 24)
         else bits aux 23 16 == 16 && bits aux 28 24 == 0 && j.aadLen == 0), 3)]
  | 0x0302 => firstFault [(ps == 0x20 || ps == 0x21, 1), (aux == 0 && decide (16 ≤ a0) && decide (a0 ≤ 16777216), 3)]
  | 0x0303 => firstFault [(ps == 0x20 || ps == 0x21, 1), (aux == 0 && decide (16 ≤ a0) && decide (a0 ≤ 16777216), 3)]
  | 0x0304 => firstFault [(ps == 0x30 || ps == 0x31, 1), (aux == 0 && a0 == 0, 3)]
  | 0x0305 => firstFault [(ps == 0x30 || ps == 0x31, 1),
      (onlyBits aux 0x30000 && (bits aux 17 16 == 0 || bits aux 17 16 == 2) && bits a0 63 16 == 0 && (!j.stitch || bits aux 17 16 == 0) &&
        (j.stitch || bits aux 17 16 == 2 || usageOk 3 5 (bits a0 15 0)), 3)]
  | 0x0306 => firstFault [(ps == 0x40 || ps == 0x41, 1),
      (a0 == 0 && onlyBits aux 0x80FFFFFF && decide (4 ≤ j.tagLen) && decide (j.tagLen ≤ 16), 3)]
  | 0x0400 => firstFault [(decide (ps ≤ 1), 1),
      (onlyBits aux 0x1FFFFFF && decide (1 ≤ bits aux 23 0) && (!j.stitch || bits aux 25 24 == 0) &&
        (if bits aux 25 24 = 0 then a0 == 0
         else bits a0 63 26 == 0 && newSymOk (bits a0 23 16) (bits aux 23 0) (bits a0 15 0) (bits a0 25 24)), 3)]
  | 0x0500 => firstFault [((match bits aux 15 8 with
        | 1 => (kemSizes ps).isSome
        | 2 => sigKnown ps
        | 3 => decide (1 ≤ ps) && decide (ps ≤ 5)
        | _ => true), 1),
      (!(bits aux 15 8 == 2 && ps == 0x41 && !bit aux 1), 2),
      (decide (1 ≤ bits aux 15 8) && decide (bits aux 15 8 ≤ 3) && j.importOk, 3)]
  | 0x0501 => firstFault [((match bits aux 15 8 with
        | 1 => (kemSizes ps).isSome
        | 2 => sigKnown ps
        | 3 => decide (1 ≤ ps) && decide (ps ≤ 5)
        | _ => true), 1),
      (onlyBits aux 0xFF00 && decide (1 ≤ bits aux 15 8) && decide (bits aux 15 8 ≤ 3) && bits a0 63 32 == 0, 3)]
  | 0x0504 => firstFault [(kdfCode ps, 1),
      (onlyBits aux 0x3FFFF && bits a0 15 0 == 0 && bits a0 63 48 == 0 && okmOk ps j.deriveLen &&
        newSymOk (bits aux 7 0) j.deriveLen (bits a0 47 32) (bits aux 17 16), 3)]
  | 0x0600 => firstFault [(ps == 0, 1), (decide (aux < 256) && a0 == 0, 3)]
  | 0x0601 => firstFault [(sigKnown ps, 1), (!sigVerifyOnly ps, 2),
      (decide (aux < 256) && sigArgOk ps a0 false, 3)]
  | 0x0602 => firstFault [(decide (ps ≤ 1), 1), (decide (aux < 256), 3)]
  | 0x0603 => firstFault [(ps == 0, 1), (decide (aux < 256), 3)]
  | 0x0604 => firstFault [(ps == 0, 1), (aux == 0 && (a0 == 1 || a0 == 4), 3)]
  | 0x0605 => firstFault [(ps == 0, 1), (decide (aux < 256) && a0 == 0, 3)]
  | 0x0700 => firstFault [(ps == 0, 1), (s.sealArgOk j, 3)]
  | 0x0701 => firstFault [(ps == 0, 1), (s.sealArgOk j, 3)]
  | 0x0702 => firstFault [(decide (ps ≤ 1), 1), (aux == 0 && a0 == 0, 3)]
  | 0x0800 => firstFault [(sigKnown ps, 1), (!sigVerifyOnly ps, 2), (onlyBits aux 1 && a0 == 0, 3)]
  | 0x0900 => firstFault [(decide (ps ≤ 3), 1),
      (match ps with
        | 0 => onlyBits aux 0xFFFFFF && bits a0 63 16 == 0 &&
            (s.kernelOf (bits a0 15 0)).elim false fun k => !k.outSecret || j.stitch
        | 3 => aux == 0 && bits a0 63 16 == 0 && (s.kernelOf (bits a0 15 0)).isSome
        | _ => aux == 0 && a0 == 0, 3)]
  | 0x0F01 => firstFault [(ps == 0, 1), (onlyBits aux 0xFFF && a0 == 0, 3)]
  | 0x0F03 => firstFault [(ps == 3, 1), (aux == 0 && a0 == 0, 3)]
  | 0x0000 => 0
  | _ => firstFault [(ps == 0, 1), (aux == 0 && a0 == 0, 3)]

/-! ### Checks 8 and 9: lengths (R126, R144, R148 to R198, R323, R286) -/

/-- Check 8: IN_LEN within the opcode's limit. -/
def Job.overLimit (j : Job) : Bool :=
  match j.opcode with
  | 0x0123 => decide (67108864 < j.inLen)
  | 0x0304 => decide (65536 < j.effIn)
  | 0x0305 => decide (65544 < j.effIn)
  | 0x0600 => decide (16384 < j.effIn)
  | 0x0900 => j.paramset == 2 && decide (1048576 < j.inLen)
  | _ => false

/-- The bytes of a private or public form of a set, for an import (R180): least and most. -/
def Job.importLen (j : Job) : Nat × Nat :=
  let ps := j.paramset
  let pubOnly := bit j.aux 1
  let w := bits j.aux 23 16
  let raw := match bits j.aux 15 8 with
    | 1 => let n := if pubOnly then kemPk j.kset else kemSk j.kset
      (n, n)
    | 2 =>
      if isRsa ps then (if pubOnly then (8 * w + 4, 8 * w + 4) else (36 * w + 4, 36 * w + 4))
      else if isStateful ps then (if ps = 0x20 then (48, 56) else if ps = 0x21 then (52, 60) else (52, 68))
      else let n := if pubOnly then (sigSizes ps).elim 0 (fun x => x.1) else (sigSizes ps).elim 0 (fun x => x.2.1)
        (n, n)
    | _ => match symLen ps with
      | some n => (n, n)
      | none => (1, 256)
  if bit j.aux 0 then (16 + kwpLen (16 + raw.1), 16 + kwpLen (16 + raw.2)) else raw

/-- The largest private or public form of a set, for an export (R182). -/
def exportMax (family ps : Nat) : Nat :=
  match family with
  | 1 => max (kemPk ps) (kemSk ps)
  | 2 => if isRsa ps then 4612 else if isStateful ps then 68 else (sigSizes ps).elim 0 fun x => max x.1 x.2.1
  | _ => (symLen ps).getD 256

/-- The public output of a secret-delivering opcode. -/
def Job.publicOut (j : Job) : Nat :=
  match j.opcode with
  | 0x0111 => kemCt j.kset
  | 0x0140 => if bit j.aux 0 then 0 else kemCt j.kset
  | _ => 0

/-- The largest output length L of R126. (DEDUCED: notes/assumptions/26) -/
def State.maxOut (s : State) (j : Job) : Nat :=
  let wrapped := fun n => if j.stitch then 0 else if j.delivery = 1 then kwpLen n else if j.delivery = 2 then n else 0
  match j.opcode with
  | 0x0110 => kemPk j.kset
  | 0x0111 => j.publicOut + wrapped (kemSs j.kset)
  | 0x0112 => wrapped (kemSs j.kset)
  | 0x0120 => sigPk j.paramset (bits j.aux 31 16) (bits j.arg0 43 40)
  | 0x0121 => s.sigLen j.paramset (s.sizeKey j)
  | 0x0123 => 4 * bits j.arg0 15 0
  | 0x0130 => wrapped (kemSs j.kset)
  | 0x0140 => j.publicOut + wrapped (kemSs j.kset)
  | 0x0200 => if j.paramset = 6 ∨ j.paramset = 7 then bits j.aux 23 0 else digestSize j.paramset
  | 0x0201 => if bit j.aux 31 then 0 else j.tagLen
  | 0x0202 => if bit j.aux 31 then 0 else j.tagLen
  | 0x0203 => wrapped (bits j.aux 15 0)
  | 0x0300 => if j.ivGen then j.effIn - j.aadLen + j.tagLen + 12 else j.effIn - j.ivLen - j.aadLen + j.tagLen
  | 0x0301 => j.effIn - j.ivLen - j.aadLen - j.tagLen
  | 0x0302 => j.effIn
  | 0x0303 => j.effIn
  | 0x0304 => if j.paramset = 0x30 then j.effIn + 8 else kwpLen j.effIn
  | 0x0305 => j.effIn - 8
  | 0x0306 => if bit j.aux 31 then 0 else j.tagLen
  | 0x0400 => bits j.aux 23 0
  | 0x0501 => 16 + kwpLen (16 + exportMax (bits j.aux 15 8) (if bits j.aux 15 8 = 1 then j.kset else j.paramset))
  | 0x0503 => 64
  | 0x0601 => 128 + s.sigLen j.paramset (s.sizeKey j)
  | 0x0602 => 2176
  | 0x0603 => 65536
  | 0x0701 => 4096 * j.sealCount
  | 0x0800 => 96 + s.sigLen j.paramset (s.sizeKey j)
  | 0x0801 => 24
  | 0x0900 => if j.paramset = 0 then bits j.aux 23 0 else if j.paramset = 1 then 3072 else 0
  | 0x0F00 => 64
  | 0x0F01 => 48
  | 0x0F02 => 32
  | 0x0F03 => 4963
  | _ => 0

/-- The largest result a stitched link passes on (R138). -/
def State.maxPass (s : State) (j : Job) : Nat :=
  match j.opcode with
  | 0x0111 => kemSs j.kset
  | 0x0112 => kemSs j.kset
  | 0x0130 => kemSs j.kset
  | 0x0140 => kemSs j.kset
  | 0x0203 => bits j.aux 15 0
  | 0x0305 => j.effIn - 8
  | 0x0400 => bits j.aux 23 0
  | _ => s.maxOut j

/-- IN_LEN fits the parameter set. (DEDUCED: notes/assumptions/26) -/
def State.inLenOk (s : State) (j : Job) : Bool :=
  let n := j.effIn
  let ps := j.paramset
  match j.opcode with
  | 0x0110 => j.inLen == 0
  | 0x0111 => n == if j.handle = 0 then kemPk j.kset else 0
  | 0x0112 => n == kemCt j.kset
  | 0x0120 => j.inLen == 0
  | 0x0121 => sigLensOk ps j.arg0 (s.sizeKey j).rsaBytes false && decide (bits j.arg0 39 32 ≤ n) && (!bit j.aux 12 || n == bits j.arg0 39 32 + prehashSize (prehashOf ps (bits j.arg0 47 40)))
  | 0x0122 =>
    let pk := bits j.arg0 63 48
    let rest := pk + bits j.arg0 15 0 + bits j.arg0 39 32
    sigLensOk ps j.arg0 (if j.handle = 0 then pk - 4 else (s.sizeKey j).rsaBytes) true && (if j.handle = 0 then pkLenOk ps pk else pk == 0) && decide (rest ≤ n) && (!bit j.aux 12 || n == rest + prehashSize (prehashOf ps (bits j.arg0 47 40)))
  | 0x0123 => decide (32 * bits j.arg0 15 0 ≤ n)
  | 0x0130 => n == kemPk j.kset
  | 0x0140 => n == if bit j.aux 0 then kemCt j.kset else 0
  | 0x0201 => !bit j.aux 31 || decide (j.tagLen ≤ n)
  | 0x0202 => decide (bits j.arg0 7 0 + (if bit j.aux 31 then j.tagLen else 0) ≤ n)
  | 0x0203 => decide (bits j.arg0 15 0 + bits j.arg0 31 16 ≤ n)
  | 0x0300 => decide ((if j.ivGen then 0 else j.ivLen) + j.aadLen ≤ n) && (ps != 3 && ps != 4 || n == (if j.ivGen then 0 else j.ivLen) + j.aadLen)
  | 0x0301 => decide (j.ivLen + j.aadLen + j.tagLen ≤ n) && (ps != 3 && ps != 4 || n == j.ivLen + j.aadLen + j.tagLen)
  | 0x0302 => n % max 1 (bits j.arg0 24 0) == 0
  | 0x0303 => n % max 1 (bits j.arg0 24 0) == 0
  | 0x0304 => if ps = 0x30 then decide (16 ≤ n) && n % 8 == 0 else decide (1 ≤ n)
  | 0x0305 => decide (if ps = 0x30 then 24 ≤ n else 16 ≤ n) && n % 8 == 0 && (j.stitch || j.delivery == 2 || decide (n - 8 ≤ 256))
  | 0x0306 => !bit j.aux 31 || decide (j.tagLen ≤ n)
  | 0x0500 => decide (j.importLen.1 ≤ n) && decide (n ≤ j.importLen.2)
  | 0x0504 => decide (bits j.arg0 31 16 ≤ n)
  | 0x0600 => decide (1 ≤ n)
  | 0x0601 => sigLensOk ps j.arg0 (s.sizeKey j).rsaBytes false && bits j.arg0 39 32 == 0
  | 0x0700 => bit j.aux 0 || n == 4096 * j.sealCount
  | 0x0800 => !bit j.aux 0 || n == 32
  | 0x0900 => if ps = 0 then (s.kernelOf (bits j.arg0 15 0)).elim true fun k =>
        decide (n ≤ k.inMax) && (k.inGranule == 0 || (decide (0 < n) && n % k.inGranule == 0))
      else true
  | 0x0F03 => n == 32
  | _ => true

/-- Check 9: the DETAIL and RESULT of BAD_LENGTH, if a length does not fit. -/
def State.lengthFault (s : State) (j : Job) : Option (Nat × Nat) :=
  if !s.inLenOk j then some (1, 0)
  else if j.outLen < s.maxOut j ∧ !(j.stitch && j.outLen == 0) then some (2, s.maxOut j % 2 ^ 31)
  else if j.stitch && decide (4096 < s.maxPass j) then some (3, 0)
  else none

/-! ### Pools, parking (R210, R218) -/

/-- The pool of a signature set (R210). -/
def sigPool (ps : Nat) : Pool :=
  if isMlDsa ps || isFnDsa ps then .MAR else if isSlhDsa ps || isStateful ps then .HSH else .BGN

/-- The pool of a KEM set, and of a hybrid both. -/
def kemPools (ps : Nat) : List Pool :=
  if isHybrid ps then [.MAR, .BGN] else if isLattice ps then [.MAR] else if isMceliece ps || isHqc ps then [.CDE] else [.BGN]

/-- The pools that a job takes a slot of, in order (R210). -/
def Job.poolsNeeded (j : Job) : List Pool :=
  let op := j.opcode
  if op = 0 then []
  else if op = 0x0110 ∨ op = 0x0111 ∨ op = 0x0112 then kemPools j.paramset
  else if op = 0x0130 then [.BGN]
  else if op = 0x0140 then [.MAR, .BGN]
  else if 0x0120 ≤ op ∧ op ≤ 0x0123 then [sigPool j.paramset]
  else if 0x0200 ≤ op ∧ op ≤ 0x0203 then [.HSH]
  else if 0x0300 ≤ op ∧ op ≤ 0x0306 then [.STR]
  else if op = 0x0504 then [.SVC, .HSH]
  else if op = 0x0601 ∨ op = 0x0800 then [.SVC, sigPool j.paramset]
  else if op = 0x0900 then [.MAR]
  else [.SVC]

/-- The job's class of a key it makes, exports or destroys is DURABLE or TAMPER_BOUND. -/
def State.touchesSealed (s : State) (j : Job) : Bool :=
  (match j.newKey with
    | some k => k.cls != 0
    | none => false) ||
    ((j.opcode == 0x0501 || j.opcode == 0x0502) && decide ((s.jobKey j).cls ≠ .ephemeral))

/-- The job signs with, or reserves for, a stateful private key. -/
def State.usesCustody (s : State) (j : Job) : Bool :=
  (j.signs || j.opcode == 0x0505) && (s.jobKey j).stateful && !(s.jobKey j).pubOnly

/-- The job may wait on storage (R218). (DEDUCED: notes/assumptions/33) -/
def State.mayPark (s : State) (j : Job) : Bool :=
  j.ledger || j.ledgerOp || (decide (0x0700 ≤ j.opcode) && decide (j.opcode ≤ 0x0702)) || j.opcode == 0x0505 ||
    (j.signs && s.usesCustody j) || (j.opcode == 0x0120 && isStateful j.paramset) || s.touchesSealed j

/-- Park slots that the job reserves (R218). (DEDUCED: notes/assumptions/33) -/
def State.parkNeed (s : State) (j : Job) : Nat :=
  if s.mayPark j then 1 + (if j.opcode = 0x0700 ∨ j.opcode = 0x0600 then ceilDiv j.inLen 4096 else 0) else 0

end Sys2Proof.Machine
end

