-- ==== Sys2Proof/Machine/EntryDecode.lean ====
section
/-! DEFINITION. ENTRY_DECODE: the decode checks, chains, and what acceptance settles (R93, R94, R130 to R140, R203, R218, R220, R396). -/
namespace Sys2Proof.Machine

open Sys2Proof

/-! ### Check 10: fragment tables (R93, R94) -/

/-- A verdict against an entry: STATUS, DETAIL, RESULT. -/
structure Verdict where
  status : Nat
  detail : Nat := 0
  result : Nat := 0
deriving DecidableEq, Repr

/-- How one table ends: at LAST, at a CHAIN to the next table, at a defect (STATUS and DETAIL), or unread past what the host gave. -/
inductive TableEnd where
  | last
  | chain (addr : Nat)
  | bad (detail : Nat)
  | unread
deriving DecidableEq, Repr

/-- One table, from its descriptor number i on: how it ends, how many descriptors of the job have been read with it, the fragments so far. A
descriptor is 16 bytes, its fields little-endian (R4): ADDR, LEN, FLAGS. f bounds the descriptors looked at. (DEDUCED: notes/assumptions/29) -/
def readTable (tb : List Byte) : Nat → Nat → Nat → List (Nat × Nat) → TableEnd × Nat × List (Nat × Nat)
  | 0, _, before, acc => (.bad 3, before, acc)
  | f + 1, i, before, acc =>
    let a := bfield tb (16 * i) 8
    let len := bfield tb (16 * i + 8) 4
    let fl := bfield tb (16 * i + 12) 4
    if tb.length < 16 * (i + 1) then (.unread, before, acc)
    else if 65536 < before + 1 then (.bad 5, before, acc)
    else if fl / 4 ≠ 0 then (.bad 1, before + 1, acc)
    else if fl = 3 then (.bad 2, before + 1, acc)
    else if fl = 2 then (.chain a, before + 1, acc)
    else if len = 0 then (.bad 6, before + 1, acc)
    else if fl = 1 then (.last, before + 1, acc ++ [(a, len)])
    else readTable tb f (i + 1) (before + 1) (acc ++ [(a, len)])

/-- What reading a chain of tables gives: the requests made, how many descriptors of the job have been read with it, its fragments or the defect. -/
structure ChainRead where
  reads : List (Nat × Nat) := []
  count : Nat := 0
  got : Except Verdict (List (Nat × Nat))

/-- A chain of tables from a table address on. side is DETAIL bit 15 of a fault in it: 0 for the input, 0x8000 for the output (R94). A table is asked for
as far as it is read. (DEDUCED: notes/assumptions/29) -/
def readChain (side fail want : Nat) (first : Bool) (addr before : Nat) (acc : List (Nat × Nat)) : List (List Byte) → ChainRead
  | [] =>
    if addr % 16 ≠ 0 then { count := before, got := .error { status := stBadFragment, detail := side + 7 } }
    else { reads := [(addr, 16)], count := before, got := .error { status := stHostRead, detail := side + (if first then 0x100 else 0x200) + fail } }
  | t :: rest =>
    if addr % 16 ≠ 0 then { count := before, got := .error { status := stBadFragment, detail := side + 7 } } else
    let r := readTable t 256 0 before acc
    let me := (addr, 16 * max 1 (r.2.1 - before))
    match r.1 with
    | .last =>
      { reads := [me], count := r.2.1,
        got := if (r.2.2.map Prod.snd).sum = want then .ok r.2.2 else .error { status := stBadFragment, detail := side + 4 } }
    | .chain a => let z := readChain side fail want false a r.2.1 r.2.2 rest
      { z with reads := me :: z.reads }
    | .bad d => { reads := [me], count := r.2.1, got := .error { status := stBadFragment, detail := side + d } }
    | .unread => { reads := [me], count := r.2.1, got := .error { status := stHostRead, detail := side + (if first then 0x100 else 0x200) + fail } }

/-- The input's fragments: one range, or the table chain's. -/
def Job.inputFrags (j : Job) (tr : TableRead) : ChainRead :=
  if readsInput j.opcode && j.inInd then readChain 0 tr.fail j.inLen true j.inAddr 0 [] tr.tables
  else { got := .ok (if readsInput j.opcode ∧ 0 < j.inLen then [(j.inAddr, j.inLen)] else []) }

/-- The job's output area is used: not that of a stitched link with OUT_LEN 0 (R138). -/
def Job.usesOut (j : Job) : Bool := writesOut j.opcode && !(j.stitch && j.outLen == 0)

/-- The output's fragments, after the descriptors that the input chain took of the job's 65,536. -/
def Job.outputFrags (j : Job) (tr : TableRead) (before : Nat) : ChainRead :=
  if j.usesOut && j.outInd then readChain 0x8000 tr.fail j.outLen true j.outAddr before [] tr.tables
  else { got := .ok (if j.usesOut ∧ 0 < j.outLen then [(j.outAddr, j.outLen)] else []) }

/-- The reads of fragment tables that check 10 makes: the output's only when the input's is sound. -/
def Job.tableReads (j : Job) (inT outT : TableRead) : List (Nat × Nat) :=
  let a := j.inputFrags inT
  a.reads ++ (match a.got with
    | .ok _ => (j.outputFrags outT a.count).reads
    | .error _ => [])

/-! ### Checks 11 to 17 -/

/-- Check 11: the output range wraps, or overlaps the issuing queue's ring or head record (R132). -/
def State.outputFault (s : State) (j : Job) (fr : List (Nat × Nat)) : Nat :=
  let ring := s.getF .QC_RING_BASE_BASE j.q * 4096
  let head := s.getF .QC_HEAD_ADDR_ADDR j.q * 8
  if s.maxOut j = 0 then 0
  else if fr.any fun f => decide (2 ^ 64 < f.1 + f.2) then 1
  else if fr.any fun f => overlap f.1 f.2 ring (64 * s.ringSize j.q) || overlap f.1 f.2 head 8 then 2
  else 0

/-- A handle that may name a key still to be rebuilt (R354): its entry is in nobody's use and the vault has not opened in PRODUCTION. (DEDUCED: notes/assumptions/25) -/
def State.rebuildPending (s : State) (h : Nat) : Bool :=
  bits h 31 28 == 0 && h != 0 && !(s.keyOf h).used && !s.flag .KV_STATUS_OPEN 0 && s.getF .LCO_STATE_STATE 0 == 2

/-- Check 12 for one handle: the DETAIL of BAD_HANDLE. (DEDUCED: notes/assumptions/25) -/
def State.handleCheck (s : State) (sl h : Nat) : Nat := if s.rebuildPending h then 0 else s.handleFault sl h

/-- The usage bits that the job's key needs (R350). -/
def Job.usageBits (j : Job) : List Nat :=
  match j.opcode with
  | 0x0111 => [uEncaps]
  | 0x0112 => [uDecaps]
  | 0x0121 => [uSign]
  | 0x0122 => [uVerify]
  | 0x0130 => [uAgree]
  | 0x0140 => [if bit j.aux 0 then uDecaps else uEncaps]
  | 0x0201 => [uMac]
  | 0x0202 => [uMac]
  | 0x0306 => [uMac]
  | 0x0203 => [uDerive]
  | 0x0504 => [uDerive]
  | 0x0300 => [uEncrypt]
  | 0x0302 => [uEncrypt]
  | 0x0301 => [uDecrypt]
  | 0x0303 => [uDecrypt]
  | 0x0304 => [uWrap]
  | 0x0305 => if !j.stitch && j.delivery == 2 then [uUnwrap, uDecrypt] else [uUnwrap]
  | 0x0500 => [uUnwrap]
  | 0x0501 => [uExport]
  | 0x0601 => [uSign]
  | 0x0800 => [uSign]
  | 0x0900 => [uKernel]
  | _ => []

/-- A symmetric key fits where a key of a type is wanted (R173). -/
def KeyX.symFits (k : KeyX) (t : Nat) : Bool :=
  k.family == 3 && (k.paramset == t || (k.paramset == 5 && k.keyLen == (symLen t).getD 0))

/-- The job's key has the family, set and type the opcode takes (R142, R155, R173, R182). -/
def State.setFits (s : State) (j : Job) (k : KeyX) : Bool :=
  let ps := j.paramset
  let op := j.opcode
  if 0x0110 ≤ op ∧ op ≤ 0x0112 then k.family == 1 && k.paramset == ps
  else if 0x0120 ≤ op ∧ op ≤ 0x0122 then k.family == 2 && k.paramset == ps
  else if op = 0x0130 then k.family == 1 && k.paramset == ps
  else if op = 0x0140 then k.family == 1 && k.paramset == (if ps = 0x40 then 2 else 3)
  else if op = 0x0201 ∨ op = 0x0202 ∨ op = 0x0203 ∨ op = 0x0504 then k.family == 3 && k.paramset == 5
  else if op = 0x0300 ∨ op = 0x0301 then k.symFits (if ps = 1 ∨ ps = 3 ∨ ps = 8 then 1 else 2)
  else if op = 0x0302 ∨ op = 0x0303 then k.symFits (if ps = 0x20 then 3 else 4)
  else if op = 0x0304 ∨ op = 0x0305 ∨ op = 0x0500 then k.symFits 1 || k.symFits 2
  else if op = 0x0306 then k.symFits (if ps = 0x40 then 1 else 2)
  else if op = 0x0501 then k.family == bits j.aux 15 8 && k.paramset == ps
  else if op = 0x0505 then k.stateful && !k.pubOnly
  else if op = 0x0601 ∨ op = 0x0800 then k.family == 2 && k.paramset == ps
  else if op = 0x0900 then
    (s.kernelOf (bits j.arg0 15 0)).elim false fun n => n.keySet != 0 && k.family * 256 + k.paramset == n.keySet
  else true

/-- An operation on a private part with a key that holds a public part alone. -/
def Job.needsSecret (j : Job) : Bool :=
  [0x0112, 0x0121, 0x0130, 0x0601, 0x0800].contains j.opcode || (j.opcode == 0x0140 && bit j.aux 0)

/-- A passed result used as a key has a length that fits (R173). -/
def Job.passedFits (j : Job) : Bool :=
  let n := (j.passed.getD []).length
  let k : KeyX := { family := 3, paramset := 5, keyLen := n }
  let ps := j.paramset
  match j.opcode with
  | 0x0300 => k.symFits (if ps = 1 ∨ ps = 3 ∨ ps = 8 then 1 else 2)
  | 0x0301 => k.symFits (if ps = 1 ∨ ps = 3 ∨ ps = 8 then 1 else 2)
  | 0x0302 => k.symFits (if ps = 0x20 then 3 else 4)
  | 0x0303 => k.symFits (if ps = 0x20 then 3 else 4)
  | 0x0304 => n == 16 || n == 32
  | 0x0305 => n == 16 || n == 32
  | 0x0306 => k.symFits (if ps = 0x40 then 1 else 2)
  | 0x0900 => false
  | _ => decide (1 ≤ n) && decide (n ≤ 256)

/-- Check 15 for KEY_HANDLE: usage and set (R350, R351, R173, R182). (DEDUCED: notes/assumptions/25) -/
def State.useFault (s : State) (j : Job) (k : KeyX) : Nat :=
  if !(j.usageBits.all fun b => bit k.usage b) then 1
  else if j.opcode = 0x0501 ∧ (k.cls = .tamperBound ∨ (k.stateful ∧ !k.pubOnly)) then 1
  else if j.needsSecret && k.pubOnly then 1
  else if !s.setFits j k then 2 else 0

/-- The classical key of HYBRID_KEM (R155). -/
def State.classicalFault (s : State) (j : Job) : Nat :=
  let k := s.keyOf (bits j.arg0 63 32)
  if !bit k.usage (if bit j.aux 0 then uAgree else uEncaps) then 1
  else if bit j.aux 0 && k.pubOnly then 1
  else if !(k.family == 1 && k.paramset == if j.paramset = 0x40 then 0x30 else 0x33) then 2 else 0

/-- The wrapping key (R144, R174, R182). -/
def State.wrapFault (s : State) (h : Nat) : Nat :=
  let k := s.keyOf h
  if !bit k.usage uWrap then 1 else if !(k.symFits 1 || k.symFits 2) then 2 else 0

/-- An accepted STREAM_CLOSE that has not committed closes the stream for every entry after it (R191). (DEDUCED: notes/assumptions/39) -/
def State.closing (s : State) (st : Nat) : Bool := s.jobs.any fun j => j.live && j.checked && j.opcode == 0x0605 && bits j.aux 7 0 == st

/-- A stream open and held by a slice, or held at all. -/
def State.streamHeld (s : State) (sl st : Nat) (closedToo : Bool) : Bool :=
  s.getF .QRE_STREAM_STATE_OWNER st == sl &&
    ((s.getF .QRE_STREAM_STATE_STATE st == 1 && (closedToo || !s.closing st)) || (closedToo && s.getF .QRE_STREAM_STATE_STATE st == 2))

/-- Check 15 for the ledger stream: 3 when the stream is not open or not the slice's. Before READY no stream can be judged. (DEDUCED: notes/assumptions/25) -/
def State.streamFault (s : State) (j : Job) : Nat :=
  if !s.flag .QRE_STATUS_READY 0 then 0
  else if j.ledger && !s.streamHeld j.slice j.streamNo false then 3
  else if j.ledgerOp && j.opcode != 0x0604 && !s.streamHeld j.slice j.streamNo (j.opcode == 0x0602 || j.opcode == 0x0603) then 3
  else if j.opcode = 0x0605 ∧ j.streamNo = 0 then 3
  else 0

/-- Check 15, all parts: the first DETAIL of USAGE_DENIED. -/
def State.deniedDetail (s : State) (j : Job) : Nat :=
  let own := if j.handleUse = .unused ∨ (j.handleUse = .optional ∧ j.handle = 0) then 0
    else if j.passedKey then (if j.passedFits then 0 else 2)
    else if s.rebuildPending j.handle ∨ ((s.jobKey j).unusable) then 0 else s.useFault j (s.jobKey j)
  if own ≠ 0 then own
  else if j.opcode = 0x0140 ∧ !s.rebuildPending (bits j.arg0 63 32) ∧ s.classicalFault j ≠ 0 then s.classicalFault j
  else if (j.wrapHandle.elim 0 fun h => if s.rebuildPending h then 0 else s.wrapFault h) ≠ 0 then j.wrapHandle.elim 0 s.wrapFault
  else if s.streamFault j ≠ 0 then 3
  else if j.opcode = 0x0702 ∧ j.paramset = 1 ∧ 4096 ≤ s.epoch then 1
  else 0

/-- Accepted jobs of a slice that may create a key and have not ended: each counts as a key (R72). -/
def State.creating (s : State) (sl : Nat) : Nat :=
  (s.jobs.filter fun j => j.live && j.slice == sl && j.newKey.isSome && !j.computed).length

/-- Streams a slice holds open, the device journal not counted (R69). A CLOSED stream is not open. -/
def State.streamUsedBy (s : State) (sl : Nat) : Nat :=
  ((s.listed .QRE_STREAM_STATE_STATE).filter fun n =>
    n != 0 && s.getF .QRE_STREAM_STATE_STATE n == 1 && s.getF .QRE_STREAM_STATE_OWNER n == sl).length

/-- The blocks of a slice that it occupies. -/
def State.sealUsedBy (s : State) (sl : Nat) : Nat := (s.store.occupied.filter fun e => e.2 == sl + 1).length

/-- The device blocks that a sealed-store entry names. -/
def State.jobBlocks (s : State) (j : Job) : List Nat :=
  (List.range j.sealCount).map fun k => s.getF .SEAL_RANGE_SLICE_BASE j.slice + j.sealFirst + k

/-- Blocks that accepted writes of a slice will occupy. -/
def State.claimed (s : State) (sl : Nat) : List Nat :=
  (s.jobs.filter fun j => j.live && j.slice == sl && j.opcode == 0x0700 && !bit j.aux 0 && !j.computed).flatMap s.jobBlocks

/-- Check 16: the DETAIL of QUOTA (R72, R348, R374), 0 when nothing is exceeded. -/
def State.quotaFault (s : State) (j : Job) : Nat :=
  match j.newKey with
  | some k =>
    if s.getF .SLC_SLICE_KEYS_KEY_QUOTA j.slice < s.keyUsedBy j.slice + s.creating j.slice + 1 then 1
    else match s.takeEntry.1 with
      | none => 1
      | some i => if k.cls ≠ 0 ∧ s.storeOpen ∧ s.getF .SEAL_RANGE_KV_SPAN 0 ≤ i then 1 else 0
  | none =>
    if j.opcode = 0x0604 then
      (if s.getF .SLC_SLICE_STREAMS_STREAM_QUOTA j.slice < s.streamUsedBy j.slice +
          (s.jobs.filter fun x => x.live && x.slice == j.slice && x.opcode == 0x0604 && !x.computed).length + 1 then 2 else 0)
    else if j.opcode = 0x0700 ∧ !bit j.aux 0 then
      let held := (s.claimed j.slice).filter fun b => nget 0 s.store.occupied b == 0
      let fresh := (s.jobBlocks j).filter fun b => nget 0 s.store.occupied b == 0 && !held.contains b
      if fresh ≠ [] ∧ s.getF .SLC_SLICE_SEAL_QUOTA_BLOCKS j.slice < s.sealUsedBy j.slice + held.dedup.length + fresh.length then 3 else 0
    else 0

/-- Check 17: the DETAIL of NOT_READY (R149, R354, R389, R418). (DEDUCED: notes/assumptions/25) -/
def State.notReady (s : State) (j : Job) : Nat :=
  let ledgerUse := j.ledger || j.ledgerOp
  let storeUse := ledgerUse || (decide (0x0700 ≤ j.opcode) && decide (j.opcode ≤ 0x0702)) || j.opcode == 0x0505 || s.touchesSealed j
  if j.handles.any fun h => s.rebuildPending h then 1
  else if storeUse && !s.storeOpen then 1
  else if j.newKey.isSome && s.getF .LCO_STATE_STATE 0 == 2 && !s.flag .KV_STATUS_OPEN 0 then 1
  else if ledgerUse && !s.flag .QRE_STATUS_READY 0 then 2
  else if (j.opcode == 0x0800 || j.opcode == 0x0801 || j.ledger || j.timed) && !s.flag .TIM_STATUS_HAS_TIME 0 then 3
  else 0

/-- Check 4: the life-cycle state permits the opcode (R478). -/
def State.permitted (s : State) (j : Job) : Bool :=
  let cls := match j.newKey with
    | some k => k.cls
    | none => 0
  match s.getF .LCO_STATE_STATE 0 with
  | 0 => [0x0000, 0x0F00, 0x0F01, 0x0F02].contains j.opcode
  | 2 => true
  | 15 => false
  | _ => !(j.ledgerOp || (decide (0x0700 ≤ j.opcode) && decide (j.opcode ≤ 0x0702)) || cls == 1 || cls == 2 ||
      (j.opcode == 0x0120 && isStateful j.paramset))

/-- Checks 1 to 9. -/
def State.firstChecks (s : State) (j : Job) : Option Verdict :=
  if s.flag .TMP_STATUS_LOCKDOWN 0 then some { status := stLockdown }
  else if !opKnown j.opcode then some { status := stBadOpcode, detail := 1 }
  else if j.adminOnly && j.slice != 0 then some { status := stBadOpcode, detail := 2 }
  else if !s.permitted j then some { status := stLifecycle, detail := s.getF .LCO_STATE_STATE 0 }
  else match j.badFlag with
  | some b => some { status := stBadOpcode, detail := 0x10 + b }
  | none =>
    if j.stitch && j.chainPos == 15 then some { status := stBadOpcode, detail := 4 }
    else if s.paramFault j ≠ 0 then some { status := stBadParamset, detail := s.paramFault j }
    else if j.overLimit then some { status := stLengthLimit, detail := 1 }
    else match s.lengthFault j with
    | some (d, r) => some { status := stBadLength, detail := d, result := r }
    | none => none

/-- Checks 12 to 17. -/
def State.lastChecks (s : State) (j : Job) : Option Verdict :=
  match (j.handles.map (s.handleCheck j.slice)).find? fun d => d != 0 with
  | some d => some { status := stBadHandle, detail := d }
  | none =>
    let k := s.jobKey j
    let live := s.usesCustody j && !k.unusable
    let c := s.cust (k.custody.getD 0)
    if live && k.quarantined then some { status := stKeyQuarantined }
    else if live && j.signs && decide (c.n ≤ c.next) then some { status := stKeyExhausted }
    else if s.deniedDetail j ≠ 0 then some { status := stUsageDenied, detail := s.deniedDetail j }
    else if s.quotaFault j ≠ 0 then some { status := stQuota, detail := s.quotaFault j }
    else if s.notReady j ≠ 0 then some { status := stNotReady, detail := s.notReady j }
    else none

/-- All checks in the order of R130: the verdict against the entry, or its input and output fragments. -/
def State.checks (s : State) (j : Job) (inT outT : TableRead) : Except Verdict (List (Nat × Nat) × List (Nat × Nat)) :=
  match s.firstChecks j with
  | some v => .error v
  | none =>
    let r := j.inputFrags inT
    match r.got with
    | .error v => .error v
    | .ok a =>
      match (j.outputFrags outT r.count).got with
      | .error v => .error v
      | .ok b =>
        if s.outputFault j b ≠ 0 then .error { status := stHostWrite, detail := s.outputFault j b }
        else match s.lastChecks j with
        | some v => .error v
        | none => .ok (a, b)

/-! ### Acceptance (R135, R136, R159, R188, R203, R218, R396) -/

/-- Bytes of the record that an appending entry will have, with padding (R393, R394). -/
def Job.recordLen (j : Job) : Nat := ceilDiv (32 + (if j.opcode = 0x0600 then j.effIn else 96)) 8 * 8

/-- The stamp, the time and the fetched key indices taken. -/
def State.acceptStamp (s : State) (j : Job) : Job × State :=
  let n := s.getF .SCH_STAMP_NEXT_STAMP 0
  ({ j with stamp := n, time := s.timeNow, sub := s.tim.sub, limited := s.flag .TIM_STATUS_POLICY_LIMITED 0, grants := s.grantsOf j.slice, checked := true, stage := .accepted, parkSlots := s.parkNeed j,
            keys := j.handles.map (· % 65536),
            size := s.getF .QRE_STREAM_SIZE_SIZE (bits j.aux 7 0),
            kernel := (if j.opcode = 0x0900 then s.kernelOf (bits j.arg0 15 0) else s.replacement j).map KernelX.slot },
    s.setF .SCH_STAMP_NEXT_STAMP 0 (n + 1))

/-- The ledger's part of acceptance: sequence number, record time, and the room of the record, full or short (R135, R396). -/
def State.acceptLedger (s : State) (j : Job) (room : Nat × Nat) (short : Bool) : Job × State :=
  let st := j.streamNo
  let (seq, s1) := s.takeSeq st
  let (t, s2) := s1.takeTime st j.time
  ({ j with stream := some st, seq := some seq, time := t, short := short },
    s2.setStream st { s2.stream st with accFolio := room.1, accUsed := room.2 })

/-- A time as W6 shows it (R136). -/
def Stamp.word (t : Stamp) : Nat := t.sec % 2 ^ 32 * 2 ^ 32 + t.ns % 2 ^ 30 * 4 + t.grade % 4

/-- RESULT_EXT as acceptance knows it (R134); a value that only the execution gives is a free value until then. -/
def Job.acceptExt (j : Job) (free : Nat) : Option W64 :=
  let op := j.opcode
  let num : Option Nat :=
    if j.ledger then j.seq
    else if j.timed ∨ op = 0x0800 ∨ op = 0x0801 then some j.time.word
    else if op = 0x0600 then j.seq
    else if op = 0x0601 then some j.size
    else if [0x0505, 0x0602, 0x0603, 0x0605, 0x0702].contains op || (op == 0x0900 && j.paramset == 0) then some (Config.freeNat free 0)
    else none
  num.map fun n => BitVec.ofNat 64 n

/-- An accepted job put in its place; a short record and a job whose key has no record end at once (R371, R396). -/
def State.settleAccepted (s : State) (j : Job) : State :=
  let j1 := if j.short then { j with status := stNoPages, computed := true, stage := .ended }
    else if j.keys.any (fun i => (s.key i).unusable) && j.opcode != 0x0502 && j.opcode != 0x0503 then
      { j with status := stEngineFault, detail := 0x6002, computed := true, stage := .ended }
    else j
  let s1 := { s with free := s.free + 1 }.updJob j.q j.idx fun _ => { j1 with ext := j1.acceptExt s.free }
  if j.opcode = 0x0502 then
    let s2 := s1.setKey (j.handle % 65536) { s1.key (j.handle % 65536) with destroying := true }
    { s2 with kv := { s2.kv with destroys := s2.kv.destroys ++ [{ key := j.handle % 65536, stamp := j.stamp, q := j.q, idx := j.idx }] } }
  else s1

/-- The stateful index assigned: each accepted signing takes one, whatever it will complete with (R159). -/
def State.acceptIndex (s : State) (j : Job) : Job × State :=
  let k := s.jobKey j
  match k.custody with
  | some c =>
    if j.signs && s.usesCustody j then
      let (i, s1) := s.assignIndex c
      ({ j with index := some i }, s1)
    else (j, s)
  | none => (j, s)

/-- A queue that stops fetching at an entry for want of park slots (R220) or of ledger room (R396). -/
def State.holdQueue (s : State) (q : Nat) (ledger : Bool) : State :=
  let x := s.queue q
  if ledger then
    if x.quireHeld then s else (s.setQueue q { x with quireHeld := true }).count .QRE_HOLD_COUNT_COUNT 0 1
  else if x.parkHeld then s else (s.setQueue q { x with parkHeld := true }).count .SCH_PARK_HOLD_COUNT_COUNT 0 1

/-- Where the record of an appending entry will lie: full, short, or nowhere yet. -/
def State.ledgerRoom (s : State) (j : Job) : Option ((Nat × Nat) × Bool) :=
  let x := s.stream j.streamNo
  match (if s.flag .QRE_STREAM_STATE_SHORT j.streamNo then none else x.plan j.recordLen false) with
  | some r => some (r, false)
  | none => (x.plan 32 true).map fun r => (r, true)

/-- An entry that passed every check: held, or accepted. -/
def State.accept (s : State) (j : Job) : State :=
  let s0 := s.setQueue j.q { s.queue j.q with parkHeld := false, quireHeld := false }
  if j.parkSlots = 0 ∧ 1048576 < s.parkUsed + s.parkNeed j then s.holdQueue j.q false else
  if j.appends then
    match s.ledgerRoom j with
    | none => s.holdQueue j.q true
    | some (r, short) =>
      let (j1, s1) := s0.acceptStamp j
      let (j2, s2) := s1.acceptLedger j1 r short
      let (j3, s3) := s2.acceptIndex j2
      s3.settleAccepted j3
  else
    let (j1, s1) := s0.acceptStamp j
    let (j2, s2) := s1.acceptIndex j1
    s2.settleAccepted j2

/-! ### The command -/

/-- The next entry of a queue to decode: fetched, with every earlier one decoded, and no link before it in its chain still open (R137, R203). -/
def State.nextToDecode (s : State) (q : Nat) : Option Job :=
  let n := s.ringSize q
  let h := s.getF .QC_HEAD_HEAD q
  let waiting := s.jobs.filter fun j => j.q == q && (j.stage == .fetching || j.stage == .ownWait || j.stage == .fetched)
  match waiting.foldl (fun (a : Option Job) j => match a with
      | none => some j
      | some b => if dist n j.idx h < dist n b.idx h then some j else some b) none with
  | some j =>
    if j.stage = .fetched ∧
        !((s.jobs.any fun k => k.q == q && k.stitch && k.stage != .done && k.stage != .fetched && k.stage != .fetching && k.stage != .ownWait &&
            dist n k.idx h + 1 == dist n j.idx h))
    then some j else none
  | none => none

/-- The chain after an entry (R137): one link longer, or ended. (DEDUCED: notes/assumptions/23) -/
def State.chainStep (s : State) (q : Nat) (stitch : Bool) : State :=
  let x := s.queue q
  if stitch then s.setQueue q { x with chainLen := x.chainLen + 1, passed := none }
  else s.setQueue q { x with chainLen := 0, passed := none, chainFail := none }

/-- The entry was decided: it leaves its chain in the state for the next link, unless the queue holds it. -/
def State.decided (s : State) (j : Job) : State :=
  match s.job? j.q j.idx with
  | some k => if k.stage = .fetched then s else s.chainStep j.q j.stitch
  | none => s

/-- A fetched entry with its place in its chain, and the edition of its set. -/
def State.linked (s : State) (j : Job) : Job :=
  { j with edition := s.editionOf j, binder := s.binderOf j.q, chainPos := (s.queue j.q).chainLen, passed := (s.queue j.q).passed }

/-- What the checks of R130 and the chain (R139) make of a fetched entry: the job ended with its verdict, or the job to be accepted. -/
def State.verdict (s : State) (j0 : Job) (inT outT : TableRead) : Except Job Job :=
  let x := s.queue j0.q
  let j := s.linked j0
  match x.chainFail with
  | some (st, pos) =>
    .error { j with status := stChainBroken, detail := x.chainLen - pos, result := st, computed := true, passed := none, stage := .ended }
  | none =>
    match s.checks j inT outT with
    | .error v => .error { j with status := v.status, detail := v.detail, result := v.result, computed := true, passed := none, stage := .ended }
    | .ok (a, b) => .ok { j with inFrags := a, outFrags := b }

/-- A failed check recorded: the entry's execution has ended. -/
def State.recordVerdict (s : State) (j : Job) : State := (s.updJob j.q j.idx fun _ => j).decided j

/-- The queue's next entry, if its binder can take it now (R425, R429). (DEDUCED: notes/assumptions/23) -/
def State.decodable (s : State) (q : Nat) : Option Job :=
  if 2 ≤ s.getF .SEQ_BINDER_STATUS_STATE (s.binderOf q) ∨ s.moving q then none else s.nextToDecode q

/-- The table reads that judging an entry makes: none for a broken chain, none when an earlier check fails, none when they were made before. -/
def State.tablesWanted (s : State) (j : Job) (inT outT : TableRead) : List (Nat × Nat) :=
  if (s.queue j.q).chainFail.isSome || (s.firstChecks (s.linked j)).isSome || j.tabled then [] else j.tableReads inT outT

/-- The entry's fragment tables are read (R43, R94), and what it goes on as; none while the function may not issue the reads (R49). -/
def State.readTables (s : State) (j : Job) (inT outT : TableRead) : Option (Job × State) :=
  let l := s.tablesWanted j inT outT
  if l = [] then some (j, s)
  else if !s.mayIssue then none
  else some ({ j with tabled := true },
    (l.foldl (fun t r => t.hostRead j.slice r.1 r.2) s).updJob j.q j.idx fun k => { k with tabled := true })

/-- ENTRY_DECODE (R130, R139, R140, R203): the queue's next entry is judged; it ends with the first failing check's status, or is accepted. While the
function may not read its fragment tables it waits (R49). (DEDUCED: notes/assumptions/23) -/
def execEntryDecode (q : Nat) (inT outT : TableRead) (s0 : State) : Out := s0.clocked fun s =>
  match (s.decodable q).bind fun j => s.readTables j inT outT with
  | none => .next s
  | some (j, t) =>
    match t.verdict j inT outT with
    | .error k => .next (t.recordVerdict k)
    | .ok k => .next ((t.accept k).decided k)

end Sys2Proof.Machine
end

