-- ==== Sys2Proof/Machine/Sched.lean ====
section
/-! DEFINITION. Credits, pools, weighted deficit round robin, parking (R209 to R219), and the end of an execution. -/
namespace Sys2Proof.Machine

open Sys2Proof

/-! ### Costs (R216), in femtoseconds; a quotient is rounded down -/

/-- n × 10^9 ns divided by a rate, in femtoseconds. (DEDUCED: notes/assumptions/27) -/
def perRate (n rate : Nat) : Nat := n * 1000000000000000 / max 1 rate

/-- What an opcode does with a set, for the rates of R168. -/
inductive Act where
  | keygen | encaps | decaps | sign | verify
deriving DecidableEq, Repr

def Job.act (j : Job) : Act :=
  match j.opcode with
  | 0x0110 => .keygen
  | 0x0120 => .keygen
  | 0x0111 => .encaps
  | 0x0140 => if bit j.aux 0 then .decaps else .encaps
  | 0x0112 => .decaps
  | 0x0130 => .decaps
  | 0x0122 => .verify
  | 0x0123 => .verify
  | _ => .sign

/-- The masking order the cost takes: that of the pair a key generation makes, or of the key the job uses. -/
def State.orderOf (s : State) (j : Job) : Nat :=
  if j.opcode = 0x0110 ∨ j.opcode = 0x0120 then (if bit j.aux 2 then 2 else 1) else (s.jobKey j).order

/-- The rate of a set on the Marionette array (R168); an order-2 key generation has two fifths of the listed rate. (DEDUCED: notes/assumptions/27) -/
def marRate (kem : Bool) (ps : Nat) (a : Act) (order2 : Bool) : Nat :=
  let pick := fun (kg e d1 d2 : Nat) => match a with
    | .keygen => if order2 then kg * 2 / 5 else kg
    | .encaps => e
    | .decaps => if order2 then d2 else d1
    | .sign => if order2 then d2 else d1
    | .verify => e
  if kem then
    match ps with
    | 0x01 => pick 1200000 1350000 900000 380000
    | 0x02 => pick 800000 900000 600000 250000
    | 0x03 => pick 520000 600000 400000 170000
    | 0x40 => pick 400000 450000 300000 300000
    | _ => pick 200000 200000 150000 150000
  else
    match ps with
    | 0x01 => pick 700000 1800000 250000 100000
    | 0x02 => pick 420000 1200000 150000 60000
    | 0x03 => pick 280000 800000 100000 40000
    | 0x18 => 1500000
    | _ => 750000

/-- Signing and verifying rates of an SLH-DSA set (R168). (DEDUCED: notes/assumptions/27) -/
def slhRate (ps : Nat) : Nat × Nat :=
  match ps with
  | 0x08 => (25, 100000)
  | 0x09 => (500, 36000)
  | 0x0A => (14, 70000)
  | 0x0B => (330, 24000)
  | 0x0C => (17, 48000)
  | 0x0D => (160, 23000)
  | 0x0E => (70, 180000)
  | 0x0F => (1500, 65000)
  | 0x10 => (40, 130000)
  | 0x11 => (1000, 45000)
  | 0x12 => (50, 90000)
  | _ => (480, 44000)

/-- Signing and verifying rates of a stateful key; levels verified divide the second (R168). -/
def statefulRate (ps : Nat) (x : StatefulInfo) : Nat × Nat :=
  let r := if ps = 0x20 ∨ ps = 0x21 then
      (match x.steps with
        | 1 => (450000, 1500000)
        | 3 => (340000, 1100000)
        | 15 => (200000, 600000)
        | _ => (30000, 90000))
    else (60000, 300000)
  (r.1, r.2 / max 1 x.trees)

/-- A stateful typecode or OID of the SHAKE family. -/
def statefulKeccak (ps types : Nat) : Bool :=
  if ps = 0x20 ∨ ps = 0x21 then decide (0x0F ≤ types % 256) else if ps = 0x22 then decide (0x10 ≤ types) else decide (0x29 ≤ types)

/-- The TYPE of a stateful key. -/
def State.typesOf (s : State) (j : Job) : Nat :=
  if j.opcode = 0x0120 then bits j.aux 31 16
  else match (s.jobKey j).custody with
    | some c => (s.cust c).types
    | none => (pubTypes j.paramset (s.jobKey j).pub).1

/-- What a stateful job's typecodes say; where no key says, the first typecodes of the set. -/
def State.infoOf (s : State) (j : Job) : StatefulInfo :=
  (if j.opcode = 0x0120 then statefulInfo j.paramset (bits j.aux 31 16) (bits j.arg0 43 40) else s.statefulOf (s.jobKey j)).getD
    ⟨0, 0, 20, 20, 1, 67, 15⟩

/-- The work that takes its input on a Keccak core. -/
def State.keccakWork (s : State) (j : Job) : Bool :=
  let ps := j.paramset
  match j.opcode with
  | 0x0200 => decide (4 ≤ ps) && decide (ps ≤ 8)
  | 0x0201 => decide (4 ≤ ps) && decide (ps ≤ 8)
  | 0x0202 => true
  | 0x0203 => ps == 0x2A
  | 0x0504 => ps == 0x2A
  | _ => if isSlhDsa ps then decide (0x0E ≤ ps) else statefulKeccak ps (s.typesOf j)

/-- The job's hash work holds key material, so that its sessions are masked (R293). A hash or a signature check of the host's bytes holds none. (DEDUCED: notes/assumptions/66) -/
def Job.masksCalls (j : Job) : Bool := j.passed.isSome || !([0x0200, 0x0122, 0x0123].contains j.opcode)

/-- The HSH pool's cost of one operation. (DEDUCED: notes/assumptions/27) -/
def State.hshCost (s : State) (j : Job) : Nat :=
  let ps := j.paramset
  let bytes := j.effIn * (if s.keccakWork j then 150000 else 420000)
  if j.opcode = 0x0203 ∨ j.opcode = 0x0504 then perRate 64 10000000 + bytes
  else if 0x0200 ≤ j.opcode ∧ j.opcode ≤ 0x0202 then perRate 64 15000000 + bytes
  else if isSlhDsa ps then
    let r := slhRate ps
    perRate 64 (match j.act with
      | .keygen => r.1 * (if ps % 2 = 0 then 100 else 25)
      | .verify => r.2
      | _ => r.1) + bytes
  else
    let x := s.infoOf j
    match j.act with
    | .keygen => 64000000000000000 * 32 * (x.trees * 2 ^ x.height * x.p * x.steps) / 2400000000 + bytes
    | .verify => perRate 64 (statefulRate ps x).2 + bytes
    | _ => perRate 64 (statefulRate ps x).1 + bytes

/-- Fixed part, one attempt, and search time of a Classic McEliece key generation, in µs (R306). -/
def mcelieceTimes (ps : Nat) : Nat × Nat × Nat :=
  match ps with
  | 0x10 => (988, 206, 21)
  | 0x11 => (2907, 605, 60)
  | 0x12 => (4476, 931, 93)
  | 0x13 => (4883, 1016, 102)
  | _ => (5813, 1209, 121)

/-- The CDE pool's cost. (DEDUCED: notes/assumptions/27) -/
def Job.cdeCost (j : Job) : Nat :=
  let ps := j.paramset
  if isMceliece ps && decide (j.act = .keygen) then
    let (f, a, g) := mcelieceTimes ps
    if bit j.aux 0 then (f + a + g) * 1000000000 else f * 1000000000 + a * 3460000000
  else
    let r := match ps with
      | 0x10 => (0, 45000, 120000)
      | 0x11 => (0, 23000, 70000)
      | 0x12 => (0, 12000, 36000)
      | 0x13 => (0, 12000, 40000)
      | 0x14 => (0, 9200, 34000)
      | 0x20 => (400000, 300000, 200000)
      | 0x21 => (180000, 140000, 90000)
      | _ => (100000, 80000, 50000)
    perRate 2 (match j.act with
      | .keygen => r.1
      | .encaps => r.2.1
      | _ => r.2.2)

/-- The listed RSA size nearest to a modulus, the larger when two are equally near (R216), in femtoseconds: private, verify. -/
def rsaTimes (modBits : Nat) : Nat × Nat :=
  if modBits < 1536 then (71400000000, 3300000000)
  else if modBits < 2560 then (71400000000, 4400000000)
  else if modBits < 3584 then (222000000000, 8900000000)
  else if modBits < 5120 then (500000000000, 15400000000)
  else if modBits < 7168 then (1667000000000, 33300000000)
  else (4000000000000, 61500000000)

/-- Time of one computation of a Diffie–Hellman set: key generation, static decapsulation (chapter 13, Engine time). -/
def dhTimes (ps : Nat) : Nat × Nat :=
  match ps with
  | 0x30 => (6700000000, 6700000000)
  | 0x31 => (20000000000, 20000000000)
  | 0x32 => (perRate 2 130000, 13300000000)
  | _ => (perRate 2 55000, 33300000000)

/-- Key generations per second, and the times of one signing and of one verification, of a curve set (chapter 13, Engine time). -/
def curveTimes (ps : Nat) : Nat × Nat × Nat :=
  match ps with
  | 0x30 => (130000, 16700000000, 20000000000)
  | 0x31 => (55000, 40000000000, 44400000000)
  | 0x32 => (24000, 90900000000, 100000000000)
  | 0x38 => (170000, 12500000000, 15400000000)
  | _ => (65000, 33300000000, 44400000000)

/-- The BGN pool's cost. (DEDUCED: notes/assumptions/27) -/
def State.bgnCost (s : State) (j : Job) : Nat :=
  let ps := if j.paramset = 0x40 ∧ isKemOp j.opcode then 0x30 else if j.paramset = 0x41 ∧ isKemOp j.opcode then 0x33 else j.paramset
  if isKemOp j.opcode then
    let (kg, dh) := dhTimes ps
    2 * (match j.act with
      | .keygen => kg
      | .encaps => kg + dh
      | _ => dh)
  else if isRsa ps then
    match j.act with
    | .keygen => 2 * perRate 2 (if bits j.aux 31 16 = 2 then 40 else if bits j.aux 31 16 = 3 then 12 else 5)
    | .verify => (rsaTimes (8 * (if j.handle = 0 then bits j.arg0 63 48 - 4 else (s.jobKey j).rsaBytes))).2
    | _ => 2 * (rsaTimes (8 * (s.jobKey j).rsaBytes)).1
  else
    let t := curveTimes ps
    match j.act with
    | .keygen => 2 * perRate 2 t.1
    | .verify => t.2.2
    | _ => 2 * t.2.1
where
  /-- An opcode whose set is a KEM set. -/
  isKemOp (op : Nat) : Bool := [0x0110, 0x0111, 0x0112, 0x0130, 0x0140].contains op

/-- The STR pool's cost: 40 ns plus 1 ns for 16 bytes, or 16 ns for each block pass (R216, R321). (DEDUCED: notes/assumptions/27) -/
def Job.strCost (j : Job) : Nat :=
  if j.opcode ≤ 0x0303 then 40000000 + ceilDiv j.effIn 16 * 1000000
  else
    let passes := if j.opcode = 0x0306 then max 1 (ceilDiv j.effIn 16) + 1
      else
        let n := if j.opcode = 0x0304 then ceilDiv j.effIn 8 else j.effIn / 8 - 1
        if n ≤ 1 then 1 else 6 * n
    passes * 16000000

/-- The cost of one record of a batch: its set, its public key, its bytes. (DEDUCED: notes/assumptions/27) -/
def recordCost (ps : Nat) (pk : List Byte) (n : Nat) : Nat :=
  match sigPool ps with
  | .MAR => perRate 32 (marRate false ps .verify false)
  | .HSH =>
    if isSlhDsa ps then perRate 64 (slhRate ps).2 + n * (if 0x0E ≤ ps then 150000 else 420000)
    else perRate 64 (statefulRate ps ((pubStateful ps pk).getD ⟨0, 0, 20, 20, 1, 67, 15⟩)).2 +
      n * (if statefulKeccak ps (pubTypes ps pk).1 then 150000 else 420000)
  | _ => if isRsa ps then (rsaTimes (8 * (pk.length - 4))).2 else (curveTimes ps).2.2

/-- The cost of a job in a pool (R216). A batch is charged record by record, as each is verified. (DEDUCED: notes/assumptions/27) -/
def State.cost (s : State) (p : Pool) (j : Job) : Nat :=
  if j.opcode = 0x0123 then 0 else
  (match p with
    | .SVC => 0
    | .MAR =>
      if j.opcode = 0x0900 then
        ((j.kernel.bind s.kernelAt).elim 0 fun k => k.cycleLimit * 833000 * k.team)
      else perRate 32 (marRate (decide (j.opcode < 0x0120) || j.opcode == 0x0140) j.paramset j.act (s.orderOf j == 2))
    | .HSH => s.hshCost j
    | .CDE => j.cdeCost
    | .BGN => s.bgnCost j
    | .STR => j.strCost)

/-! ### Who waits for a pool -/

/-- The pool that a job waits for next. -/
def Job.nextPool (j : Job) : Option Pool := j.poolsNeeded.find? fun p => !j.pools.contains p

/-- A FENCE entry waits until the head has passed every earlier entry (R204). -/
def State.fenceOk (s : State) (j : Job) : Bool := !j.fence || s.getF .QC_HEAD_HEAD j.q == j.idx

/-- The job waits for a slot of a pool. -/
def State.waitsFor (s : State) (p : Pool) (j : Job) : Bool :=
  j.stage == .accepted && j.nextPool == some p && s.fenceOk j &&
    !(decide (p = .CDE) && j.opcode == 0x0110 && isMceliece j.paramset && !bit (s.getF .CDE_UNIT_ENABLE_EN 0) 2)

/-- Of two jobs of a slice, the one that goes first: PRIO, then acceptance order. -/
def Job.before (a b : Job) : Bool := if a.prio = b.prio then decide (a.stamp < b.stamp) else a.prio

/-- The first of a list of jobs in an order. -/
def firstJob (before : Job → Job → Bool) (l : List Job) : Option Job :=
  l.foldl (fun a j => match a with
    | none => some j
    | some b => if before j b then some j else some b) none

/-- The slices with jobs waiting for a pool, ascending. -/
def State.waitingSlices (s : State) (p : Pool) : List Nat :=
  ((s.jobs.filter fun j => s.waitsFor p j).map fun j => j.slice).dedup.foldl insertAsc []

/-! ### Credits (R209, R211, R213) -/

/-- A reserved credit of class k granted. -/
def State.countReserve (s : State) (k : Nat) : State := s.count .SCH_RESERVE_USE_COUNT_COUNT k 1

/-- Unreserved slots of a pool that are free. -/
def State.poolFree (s : State) (p : Pool) : Nat :=
  poolSize p - 1 - (s.poolUsed p - (s.jobs.map fun j => j.resPools.count p).sum)

/-- The pool's reserved slot is free. -/
def State.poolReserveFree (s : State) (p : Pool) : Bool := s.jobs.all fun j => !j.resPools.contains p

/-- The jobs in a pool's numbered slots. -/
def State.slotsOf (s : State) (p : Pool) : List Nat := (s.jobs.filter fun j => j.pools.contains p).flatMap fun j => j.slot.toList ++ j.slots

/-- Units of an engine that are enabled and online. -/
def State.unitOn (s : State) (en on : Fld) (n : Nat) : Bool := bit (s.getF en 0) n && bit (s.getF on 0) n

/-- A key generation of Classic McEliece: it runs on the systemizer (R304). -/
def Job.systemizer (j : Job) : Bool := j.opcode == 0x0110 && isMceliece j.paramset

/-- The multiplier of a private-key job's second computation: the next online one after its home (R313). (DEDUCED: notes/assumptions/65) -/
def State.secondMul (s : State) (m : Nat) : Nat :=
  (((List.range 4).map fun k => (m + 1 + k) % 4).find? fun n => s.unitOn .BGN_MUL_ENABLE_EN .BGN_MUL_ONLINE_ONLINE n).getD m

/-- Home m uses neither multiplier of an attempt that failed with home avoid (R319). (DEDUCED: notes/assumptions/65) -/
def State.freshPair (s : State) (avoid : Option Nat) (m : Nat) : Bool :=
  avoid.elim true fun a => let used := [a, s.secondMul a]; !used.contains m && !used.contains (s.secondMul m)

/-- The slot number that a job gets in the numbered pools: its walker in HSH (R289); a slot of an online multiplier in BGN (R312); in STR one of
the online pipe with fewer jobs, pipe 0 on a tie (R320); in CDE a half of the systemizer, or a slot of the free decoder unit with the
lower number (R302). A re-execution goes to another unit than the one of its fault, when that is online. (DEDUCED: notes/assumptions/64) -/
def State.pickSlot (s : State) (p : Pool) (j : Job) : Option Nat :=
  let used := s.slotsOf p
  let low := fun (l : List Nat) => l.find? fun n => !used.contains n
  let other := fun (n : Nat) => j.avoid != some n
  match p with
  | .HSH => low (List.range 64)
  | .BGN =>
    if decide (j.act ≠ .verify) && (List.range 4).any (fun m => s.unitOn .BGN_MUL_ENABLE_EN .BGN_MUL_ONLINE_ONLINE m && (nget {} s.ent.gens (42 + m)).seed == []) then none else
    let on := fun n => s.unitOn .BGN_MUL_ENABLE_EN .BGN_MUL_ONLINE_ONLINE (n / 4)
    ((low ((List.range 16).filter fun n => on n && s.freshPair j.avoid (n / 4))).orElse fun _ =>
      low ((List.range 16).filter on)).orElse fun _ => low (List.range 16)
  | .CDE =>
    let free := fun (l : List Nat) => low (l.filter fun n => !s.cde.zero.contains n)
    if j.systemizer then
      if !s.unitOn .CDE_UNIT_ENABLE_EN .CDE_UNIT_ONLINE_ONLINE 2 then none
      else if j.bigMatrix && (used.any (fun n => decide (4 ≤ n)) || s.cde.zero.any fun n => decide (4 ≤ n)) then none
      else free [4, 5]
    else
      let on := (List.range 2).filter fun u => s.unitOn .CDE_UNIT_ENABLE_EN .CDE_UNIT_ONLINE_ONLINE u
      let us := (on.filter other) ++ on.filter fun u => !other u
      let idle := us.filter fun u => !(used.contains (2 * u) || used.contains (2 * u + 1))
      (free (idle.flatMap fun u => [2 * u, 2 * u + 1])).orElse fun _ => free (us.flatMap fun u => [2 * u, 2 * u + 1])
  | .STR =>
    let on := (List.range 2).filter fun n => s.unitOn .STR_PIPE_ENABLE_EN .STR_PIPE_ONLINE_ONLINE n
    let on' := if (on.filter other).isEmpty then on else on.filter other
    let load := fun n => (used.filter fun k => k / 16 == n).length
    let pipe := match on' with
      | [a, b] => if load b < load a then b else a
      | [a] => a
      | _ => 0
    (low ((List.range 16).map fun k => 16 * pipe + k)).orElse fun _ => low (List.range 32)
  | _ => none

/-- A slot of a pool for a job: an unreserved one, or the reserved one for the senior job; a numbered pool must have a slot of the job's kind. -/
def State.slotFor (s : State) (p : Pool) (j : Job) : Option Bool :=
  if (decide (p = .CDE) || decide (p = .BGN)) && (s.pickSlot p j).isNone then none
  else if 0 < s.poolFree p then some false
  else if s.isSenior j && s.poolReserveFree p then some true else none

/-- IN credits that a job's input wants. -/
def Job.inNeed (j : Job) : Nat := min 64 (ceilDiv j.effIn 256)

/-- OUT credits that a job's output wants. -/
def Job.outNeed (j : Job) : Nat := if j.writesOutput then min 16 (ceilDiv j.output.length 256) else 0

/-- Credits of a class for a job that wants n of them: all from the unreserved ones, or, for the senior job, what is free with the reserved one.
The answer is how many and whether the reserve is among them. -/
def grant (total used resHeld n : Nat) (senior reserveFree : Bool) : Option (Nat × Bool) :=
  let free := total - 1 - (used - resHeld)
  if n ≤ free then some (n, false)
  else if senior && reserveFree then some (min n (free + 1), true) else none

/-- IN credits for a job (R213). (DEDUCED: notes/assumptions/29) -/
def State.inGrant (s : State) (j : Job) : Option (Nat × Bool) :=
  grant 16384 s.inUsed ((s.jobs.filter fun x => x.resIn).length) j.inNeed (s.isSenior j) (s.jobs.all fun x => !x.resIn)

/-- OUT credits for a job. (DEDUCED: notes/assumptions/29) -/
def State.outGrant (s : State) (j : Job) : Option (Nat × Bool) :=
  grant 16384 s.outUsed ((s.jobs.filter fun x => x.resOut).length) j.outNeed (s.isSenior j) (s.jobs.all fun x => !x.resOut)

/-- IN credits taken and the input asked for, unless the job holds them or the input is at hand (R207, R209, R211); no read starts while
the function may not issue it (R49). (DEDUCED: notes/assumptions/19; DEDUCED: notes/assumptions/29) -/
def State.takeIn (s : State) (j : Job) : Option (Job × State) :=
  if j.pools ≠ [] ∨ j.inCred ≠ 0 then some (j, s) else
  if !j.staged && !j.inFrags.isEmpty && !s.mayIssue then none else
  (s.inGrant j).map fun g =>
    let s1 := if g.2 then s.countReserve 3 else s
    ({ j with inCred := g.1, resIn := g.2, staged := true },
      if j.staged then s1 else j.inFrags.foldl (fun t f => t.hostRead j.slice f.1 f.2) s1)

/-- A slot of a pool added to what a job holds. -/
def State.withSlot (s : State) (p : Pool) (j : Job) (reserved : Bool) : Job :=
  { j with pools := j.pools ++ [p], resPools := if reserved then j.resPools ++ [p] else j.resPools, slot := (s.pickSlot p j).orElse fun _ => j.slot }

/-- Unreserved slots of a pool for the further records of a batch, one for each record in flight while there are any (R210), and, where the pool numbers
its slots, one more number each. -/
def State.moreSlots (s : State) (p : Pool) (j : Job) : Nat → State
  | 0 => s
  | f + 1 =>
    let n := s.pickSlot p j
    if s.poolFree p = 0 ∨ (p ≠ .MAR ∧ n.isNone) then s
    else (s.updJob j.q j.idx fun k => { k with pools := k.pools ++ [p], slots := k.slots ++ n.toList }).moreSlots p j f

/-- A slot of a pool given to a job; with its last slot the job goes to its engine. -/
def State.giveSlot (s : State) (p : Pool) (j : Job) (reserved : Bool) : State :=
  let s1 := if reserved then s.countReserve 2 else s
  let j1 := s.withSlot p j reserved
  let s2 := s1.updJob j.q j.idx fun _ => if j1.nextPool.isNone then { j1 with stage := .dispatched } else j1
  if j.opcode = 0x0123 then s2.moreSlots p j1 (bits j.arg0 15 0 - 1) else s2

/-- A job dispatched to a pool, when its credits and a slot can be had. (DEDUCED: notes/assumptions/29) -/
def State.dispatchTo (s : State) (p : Pool) (j : Job) : Option State :=
  match s.slotFor p j with
  | none => none
  | some r => (s.takeIn j).map fun x => x.2.giveSlot p x.1 r

/-! ### The round (R215) -/

/-- The index c of a pool. -/
def poolCode : Pool → Nat
  | .MAR => 0
  | .HSH => 1
  | .CDE => 2
  | .BGN => 3
  | .STR => 4
  | .SVC => 5

/-- A job can be dispatched to a pool now: it waits for it, and its credits and a slot can be had. One that cannot holds up no other (R214). -/
def State.canGo (s : State) (p : Pool) (j : Job) : Bool := s.waitsFor p j && (s.dispatchTo p j).isSome

/-- The next job of a slice in a pool. (DEDUCED: notes/assumptions/28) -/
def State.nextOf (s : State) (p : Pool) (sl : Nat) : Option Job :=
  firstJob Job.before (s.jobs.filter fun j => j.slice == sl && s.canGo p j)

/-- The weight in a pool that was granted at a job's acceptance (R70); 0 acts as 1 (R68). -/
def Grants.weight (g : Grants) (p : Pool) : Nat :=
  max 1 (g.weights.getD (match p with
    | .MAR => 0
    | .CDE => 1
    | .BGN => 2
    | _ => 3) 0)

/-- What one visit adds to a slice's deficit: the weight is that of its next job. -/
def State.visit (s : State) (p : Pool) (sl : Nat) : Nat :=
  let q := s.getF .SCH_QUANTUM_QUANTUM (poolCode p)
  ((s.nextOf p sl).elim (s.grantsOf sl) fun j => j.grants).weight p * (if q = 0 then 1024 else q) * 1000000

/-- The slices in the order in which the round reaches them after a slice, that slice last. (DEDUCED: notes/assumptions/28) -/
def roundOrder (after : Option Nat) (l : List Nat) : List Nat :=
  match after with
  | none => l
  | some c => l.filter (fun x => decide (c < x)) ++ l.filter fun x => decide (x ≤ c)

/-- A pool's round as it stands. -/
def State.roundOf (s : State) (p : Pool) : RoundX := nget {} s.sch.rounds (poolCode p)

/-- Visits until a slice's deficit covers its next job. (DEDUCED: notes/assumptions/28) -/
def State.visitsNeeded (s : State) (p : Pool) (x : RoundX) (sl : Nat) : Nat :=
  ceilDiv ((s.nextOf p sl).elim 0 (fun j => s.cost p j) - nget 0 x.deficits sl) (s.visit p sl)

/-- The slice that dispatches next, and the round as it then stands: the visited slice while its deficit covers its next job; else
the slices are visited in turn, each visit adding to the deficit, until one does. (DEDUCED: notes/assumptions/28) -/
def State.turn (s : State) (p : Pool) : Option (Nat × RoundX) :=
  let l := (s.waitingSlices p).filter fun sl => (s.nextOf p sl).isSome
  let x0 := s.roundOf p
  let x : RoundX := { x0 with deficits := x0.deficits.filter fun e => (s.waitingSlices p).contains e.1 }
  match x.cursor.filter fun c => l.contains c && s.visitsNeeded p x c == 0 with
  | some c => some (c, x)
  | none =>
    let o := roundOrder x.cursor l
    match o.foldl (fun (a : Option (Nat × Nat)) sl =>
        let n := max 1 (s.visitsNeeded p x sl)
        match a with
        | some (m, c) => if n < m then some (n, sl) else some (m, c)
        | none => some (n, sl)) none with
    | none => none
    | some (n, c) =>
      let upTo := o.takeWhile (fun sl => sl != c) ++ [c]
      let d := o.foldl (fun t sl => nset 0 t sl (nget 0 t sl + (if upTo.contains sl then n else n - 1) * s.visit p sl)) x.deficits
      some (c, { cursor := some c, deficits := d })

/-- The round written back. -/
def State.setRound (s : State) (p : Pool) (x : RoundX) : State :=
  { s with sch := { s.sch with rounds := nset {} s.sch.rounds (poolCode p) x } }

/-- A dispatch charged to its slice; a slice with nothing left to wait has its deficit set to 0. (DEDUCED: notes/assumptions/28) -/
def State.charge (s : State) (p : Pool) (x : RoundX) (sl cost : Nat) : State :=
  let d := nget 0 x.deficits sl - cost
  s.setRound p { x with deficits := nset 0 x.deficits sl (if (s.waitingSlices p).contains sl then d else 0) }

/-- A record of a batch charged as its verification starts (R216). (DEDUCED: notes/assumptions/27) -/
def State.chargeRecord (s : State) (p : Pool) (sl cost : Nat) : State :=
  let x := s.roundOf p
  s.setRound p { x with deficits := nset 0 x.deficits sl (nget 0 x.deficits sl - cost) }

/-- Dispatch is stopped by a halt (R469) or held by the governor (R503). -/
def State.dispatchStopped (s : State) : Bool := s.flag .TMP_STATUS_HALTED 0 || s.flag .PWR_STATUS_DISPATCH_HELD 0

/-- The senior job, when it waits for a pool and only the pool's reserved slot is free: it bypasses the round. -/
def State.bypass (s : State) (p : Pool) : Option Job :=
  if s.poolFree p = 0 then (s.senior).filter fun j => s.canGo p j && s.poolReserveFree p else none

/-- JOB_DISPATCH (R209 to R216): the pool's next job takes its credits and a slot, and with its last slot goes to its engine. (DEDUCED: notes/assumptions/28) -/
def execJobDispatch (p : Pool) (s0 : State) : Out := s0.clocked fun s =>
  if s.dispatchStopped then .next s else
  match s.bypass p with
  | some j => .next ((s.dispatchTo p j).getD s)
  | none =>
    if p = .SVC then
      match firstJob (fun a b => decide (a.stamp < b.stamp)) (s.jobs.filter fun j => s.canGo p j) with
      | none => .next s
      | some j => .next ((s.dispatchTo p j).getD s)
    else
      match s.turn p with
      | none => .next s
      | some (sl, x) =>
        match s.nextOf p sl with
        | none => .next s
        | some j =>
          match s.dispatchTo p j with
          | none => .next s
          | some t => .next (t.charge p x sl (s.cost p j))

/-! ### Parking (R218, R219) and the end of an execution -/

/-- A block's content is on chip. -/
def DataRes.isOk : DataRes → Bool
  | .ok _ => true
  | _ => false

/-- What a job waits for from the store is there: its blocks, its index, and, once it has computed, its versions durable. (DEDUCED: notes/assumptions/33) -/
def State.waitOver (s : State) (j : Job) : Bool :=
  if j.computed then s.durable j.needCommit && !(s.store.placeQ.any fun p => p.owner == some (j.q, j.idx))
  else (j.waitBlocks.all fun b => (s.blockData b).isOk) &&
    (match j.index, (s.jobKey j).custody with
      | some i, some c => s.indexReady c i
      | _, _ => true)

/-- A job marked as waiting on storage, from now on. (DEDUCED: notes/assumptions/33) -/
def Job.startWait (j : Job) (now : Nat) (bs : List Nat) : Job :=
  { j with waitSince := some (j.waitSince.getD now), waitBlocks := bs }

/-- JOB_PARK (R14, R219): a job that meets a storage wait writes its input, its outputs and its state to its park slots, leaves its engine with its quarters
and sessions, releases its IN, EXEC and OUT credits and keeps its FETCH context. An input that streams stays in host memory (R207). (DEDUCED: notes/assumptions/33) -/
def execJobPark (q i : Nat) (s0 : State) : Out := s0.clocked fun s =>
  match s.job? q i with
  | none => .next s
  | some j =>
    if (j.stage = .dispatched ∨ j.stage = .ended) ∧ j.waitSince.isSome ∧ 0 < j.parkSlots then
      .next ((s.leaveEngine j).updJob q i fun j =>
        { j with stage := .parked, inCred := 0, outCred := 0, pools := [], core := none, resIn := false, resOut := false, resPools := [], slot := none,
                 slots := [], staged := j.staged && (j.computed || decide (j.inLen ≤ 16384)) })
    else .next s

/-- The slots of a list of pools taken one after the other, as far as they can be had: an earlier one is held while a later one is waited for (R14, R211). -/
def State.takeSlots (s : State) (j : Job) : List Pool → Job × State
  | [] => (j, s)
  | p :: t =>
    match s.slotFor p j with
    | none => (j, s)
    | some r =>
      let j1 := s.withSlot p j r
      ((if r then s.countReserve 2 else s).updJob j.q j.idx fun _ => j1).takeSlots j1 t

/-- JOB_RESUME (R211, R213, R219): the wait has ended; the job takes IN and its slots again, or, when it has computed, IN and OUT. It resumes with the last
of them. (DEDUCED: notes/assumptions/28) -/
def execJobResume (q i : Nat) (s0 : State) : Out := s0.clocked fun s =>
  match s.job? q i with
  | none => .next s
  | some j =>
    if j.stage ≠ .parked ∨ !s.waitOver j ∨ s.dispatchStopped then .next s else
    match s.takeIn j with
    | none => .next s
    | some (j1, s1) =>
      if j.computed then
        match s1.outGrant j1 with
        | none => .next s
        | some (n, r) =>
          .next ((if r then s1.countReserve 1 else s1).updJob q i fun _ =>
            { j1 with stage := .ended, outCred := n, resOut := r, waitSince := none, waitBlocks := [] })
      else
        let r := (s1.updJob q i fun _ => j1).takeSlots j1 (j1.poolsNeeded.filter fun p => !j1.pools.contains p)
        .next (if r.1.nextPool.isNone then r.2.updJob q i fun k => { k with stage := .dispatched, waitSince := none, waitBlocks := [] } else r.2)

/-- The end of a job's execution, when its output can take OUT credits: its slots are released, its engine is left. A job whose
versions are not durable yet starts its storage wait. (DEDUCED: notes/assumptions/29) -/
def State.endExecution (s : State) (j : Job) : Option State :=
  (s.outGrant j).map fun g =>
    let s1 := if g.2 then s.countReserve 1 else s
    (s1.leaveEngine j).updJob j.q j.idx fun k =>
      { k with stage := .ended, outCred := g.1, resOut := g.2, pools := [], resPools := [], core := none, slot := none, slots := [], phase := 0,
               waitSince := if s.waitOver j then none else some (k.waitSince.getD s.now) }

/-- EXECUTION_END (R205, R209): the job's result is computed; its output takes OUT credits, its slots are released. The execution of a job that is on cores
of the array ends with its drain (R254, DRAIN_COMPLETE). -/
def execExecutionEnd (q i : Nat) (s0 : State) : Out := s0.clocked fun s =>
  match s.job? q i with
  | none => .next s
  | some j => if j.stage = .dispatched ∧ j.computed ∧ j.core.isNone then .next ((s.endExecution j).getD s) else .next s

end Sys2Proof.Machine
end

