-- ==== Sys2Proof/Machine/Entropy.lean ====
section
/-! DEFINITION. The entropy unit: noise cells, conditioner, DRBG instances, strings, entropy failure (chapter 14). -/
namespace Sys2Proof.Machine

open Sys2Proof

/-- ENT states (R346). -/
def entStartup : Nat := 1
def entRun : Nat := 2
def entDegraded : Nat := 3
def entRestart : Nat := 4
def entLatched : Nat := 5

/-- Cells that pass: how many bits of CELL_OK are set. -/
def State.cellsOk (s : State) : Nat := ((List.range 8).filter fun c => bit (s.getF .ENT_STATUS_CELL_OK 0) c).length

/-- Fewer than four cells pass (R342). -/
def State.degraded (s : State) : Bool := decide (s.cellsOk < 4)

/-- One bit of CELL_OK. -/
def State.setCellOk (s : State) (c : Nat) (b : Bool) : State :=
  s.setF .ENT_STATUS_CELL_OK 0 (setBits (s.getF .ENT_STATUS_CELL_OK 0) c c (b2n b))

/-- ENT_CELL_FAIL[c] as one word. -/
def State.cellFailWord (s : State) (c : Nat) : Nat := s.getF .ENT_CELL_FAIL_LAST_TEST c * 2 ^ 28 + s.getF .ENT_CELL_FAIL_COUNT c

/-- A test failure of a cell recorded (R334). -/
def State.recordFail (s : State) (c test : Nat) : State := (s.setF .ENT_CELL_FAIL_LAST_TEST c test).count .ENT_CELL_FAIL_COUNT c 1

/-- A cell isolated after a failed test. -/
def State.isolate (s : State) (c test : Nat) : State :=
  let s1 := (s.recordFail c test).setCellOk c false
  { s1 with ent := { s1.ent with isolated := addNew s1.ent.isolated c, testing := s1.ent.testing.filter (· != c) } }

/-- Entry to DEGRADED in service: NO_ENTROPY is latched and the quiet time begins (R342, R344). -/
def State.enterDegraded (s : State) (c : Nat) : State :=
  let s1 : State := { s with ent := { s.ent with quietSince := some s.now } }
  (s1.setF .ENT_STATUS_STATE 0 entDegraded).raiseErr blkENT 0 c (s1.cellFailWord c)

/-- STATE brought in line with the number of passing cells: RUN turns DEGRADED below four, DEGRADED turns RUN at four (R342). (DEDUCED: notes/assumptions/67) -/
def State.settleCells (s : State) (c : Nat) : State :=
  if s.getF .ENT_STATUS_STATE 0 = entRun ∧ s.degraded then s.enterDegraded c
  else if s.getF .ENT_STATUS_STATE 0 = entDegraded ∧ !s.degraded ∧ s.flag .ENT_STATUS_READY 0 then
    { s with ent := { s.ent with quietSince := none } }.setF .ENT_STATUS_STATE 0 entRun
  else s

/-! ### Instances (R336, R337) -/

/-- An instance can give n generate calls now: it is instantiated, not stalled, and below its stall point. -/
def State.drbgOk (s : State) (d n : Nat) : Bool :=
  s.flag .ENT_STATUS_READY 0 && !s.flag .ENT_DRBG_STATUS_STALLED d && decide (s.getF .ENT_DRBG_STATUS_CALLS d + n ≤ 2 ^ 24)

/-- n generate calls counted. -/
def State.drbgCalls (s : State) (d n : Nat) : State :=
  s.setF .ENT_DRBG_STATUS_CALLS d (min (s.getF .ENT_DRBG_STATUS_CALLS d + n) (2 ^ 24))

/-- An instance reseeded. (DEDUCED: notes/assumptions/67) -/
def State.reseed (s : State) (d : Nat) : State :=
  let s1 : State := { s with ent := { s.ent with reseedAt := nset 0 s.ent.reseedAt d s.now } }
  (s1.setF .ENT_DRBG_STATUS_CALLS d 0).setFlag .ENT_DRBG_STATUS_STALLED d false

/-- The instance that serves a binder (R336). -/
def Job.drbg (j : Job) : Nat := j.binder / 2 % 4

/-- Generate calls that n bytes take. -/
def callsFor (n : Nat) : Nat := max 1 (ceilDiv n 65536)

/-- The mask generator of a core is without output (R339). -/
def State.genStalled (s : State) (k : Nat) : Bool := (nget {} s.ent.gens k).stalled

/-! ### Jobs that need entropy (R341, R343) -/

/-- A job marked as waiting for entropy, from its first stall. -/
def State.stallJob (s : State) (j : Job) : State :=
  if j.entSince.isSome then s
  else (s.updJob j.q j.idx fun j => { j with entSince := some s.now }).count .ENT_STALL_COUNT_COUNT 0 1

/-- n bytes for a job from its binder's instance: the bytes drawn, or the job's stall. -/
def State.jobDraw (s : State) (j : Job) (n : Nat) : Except State (List Byte × State) :=
  if s.drbgOk j.drbg (callsFor n) then .ok ((s.drbgCalls j.drbg (callsFor n)).draw n) else .error (s.stallJob j)

/-- Prediction-resistant bytes from D6: a reseed before every 65,536 bytes (R178, R337); any request stalls while DEGRADED (R342). (DEDUCED: notes/assumptions/67) -/
def State.freshDraw (s : State) (j : Job) (n : Nat) : Except State (List Byte × State) :=
  if s.flag .ENT_STATUS_READY 0 && !s.degraded && s.getF .ENT_STATUS_STATE 0 != entLatched && decide (callsFor n ≤ s.ent.outputs) then
    let s1 : State := { s with ent := { s.ent with outputs := s.ent.outputs - callsFor n } }
    .ok (((s1.reseed 6).drbgCalls 6 1).draw n)
  else .error (s.stallJob j)

/-- The opcode draws from an instance (R148, R157, R175, R178, R180 and the masks of R143). -/
def Job.drawsEntropy (j : Job) : Bool :=
  let op := j.opcode
  [0x0110, 0x0120, 0x0111, 0x0400].contains op || (op == 0x0140 && !bit j.aux 0) ||
    ((j.signs || op == 0x0F03) && !isStateful j.paramset && !bit j.aux 3) || (op == 0x0300 && j.ivGen)

/-- DETAIL of ENTROPY_UNAVAILABLE, decided when the limit expires (R343). -/
def State.entropyDetail (s : State) (j : Job) : Nat :=
  if !s.flag .ENT_STATUS_READY 0 then 1
  else if j.opcode = 0x0400 ∧ j.paramset = 1 then 4
  else if s.degraded then 2 else 3

/-! ### Commands -/

/-- CELL_HEALTH_FAIL (R333, R334, R342): recorded; a cell in service is isolated, and the unit may become DEGRADED. -/
def execCellHealthFail (c test : Nat) (s0 : State) : Out := s0.clocked fun s =>
  if bit (s.getF .ENT_STATUS_CELL_OK 0) c then
    let s1 := (s.isolate c test).settleCells c
    .next (s1.raiseErr blkENT 1 c (s1.cellFailWord c))
  else .next (s.recordFail c test)

/-- CELL_RETEST_COMPLETE (R334): the 1,024 samples of a re-enabled cell; test 0 stands for a pass. -/
def execCellRetestComplete (c test : Nat) (s0 : State) : Out := s0.clocked fun s =>
  if !s.ent.testing.contains c then .next s else
  if test = 0 then
    let s1 : State := { s with ent := { s.ent with testing := s.ent.testing.filter (· != c) } }
    .next ((s1.setCellOk c true).settleCells c)
  else
    let s1 := s.isolate c test
    .next (s1.raiseErr blkENT 1 c (s1.cellFailWord c))

/-- ENT_CELL_ENABLE_WRITE (R334, R346). -/
def execEntCellEnableWrite (v : W32) (s0 : State) : Out := s0.mmio fun s =>
  let new := bits v.toNat 7 0
  let old := s.getF .ENT_CELL_ENABLE_EN 0
  if ((List.range 8).filter fun c => bit new c).length < 4 then .next (s.count .ENT_CFG_REFUSED_COUNT_COUNT 0 1) else
  let s1 := s.setF .ENT_CELL_ENABLE_EN 0 new
  let s2 := (List.range 8).foldl (fun t c =>
    if bit old c && !bit new c then
      { t with ent := { t.ent with testing := t.ent.testing.filter (· != c) } }.setCellOk c false
    else if !bit old c && bit new c && !t.ent.isolated.contains c && t.getF .ENT_STATUS_STATE 0 ≥ entRun then
      { t with ent := { t.ent with testing := addNew t.ent.testing c } }
    else t) s1
  .next (s2.settleCells (((List.range 8).find? fun c => bit old c && !bit new c).getD 0))

/-- CONDITIONER_OUTPUT (R335, R342): one more output, while four or more cells pass. (DEDUCED: notes/assumptions/67) -/
def execConditionerOutput (s0 : State) : Out := s0.clocked fun s =>
  if s.degraded || s.getF .ENT_STATUS_STATE 0 == entLatched then .next s else
  .next ({ s with ent := { s.ent with outputs := s.ent.outputs + 1 } }.count .ENT_COND_COUNT_COUNT 0 1)

/-- DRBG_RESEED (R337): a conditioner output reseeds an instance, the stalled ones first, among them the one with the most calls. -/
def execDrbgReseed (d : Nat) (s0 : State) : Out := s0.clocked fun s =>
  let calls := fun e => s.getF .ENT_DRBG_STATUS_CALLS e
  let stalled := (List.range 8).filter fun e => s.flag .ENT_DRBG_STATUS_STALLED e
  let first := d == 6 || (if stalled.contains d then stalled.all fun e => decide (calls e ≤ calls d) else stalled.isEmpty)
  if !s.flag .ENT_STATUS_READY 0 || s.degraded || s.getF .ENT_STATUS_STATE 0 == entLatched || s.ent.outputs == 0 || 8 ≤ d || !first then .next s
  else .next ({ s with ent := { s.ent with outputs := s.ent.outputs - 1 } }.reseed d)

/-- DRBG_STALL (R337). -/
def execDrbgStall (d : Nat) (s0 : State) : Out := s0.clocked fun s =>
  if s.getF .ENT_DRBG_STATUS_CALLS d = 2 ^ 24 ∧ !s.flag .ENT_DRBG_STATUS_STALLED d then
    .next ((s.setFlag .ENT_DRBG_STATUS_STALLED d true).count .ENT_STALL_COUNT_COUNT 0 1)
  else .next s

/-- The instance that feeds a consumer's string (R336, R338). -/
def stringInstance (k : Nat) : Nat := if k < 32 then 4 else 5

/-- A seed drawn for a consumer takes effect. -/
def State.seedString (s : State) (k : Nat) : State :=
  let (b, s1) := (s.drbgCalls (stringInstance k) 1).draw 32
  { s1 with ent := { s1.ent with gens := nset {} s1.ent.gens k { seed := b, since := s1.now } } }

/-- STRING_SEED_DELIVERY (R338, R339, R341). (DEDUCED: notes/assumptions/67) -/
def execStringSeedDelivery (k : Nat) (s0 : State) : Out := s0.clocked fun s =>
  if 46 ≤ k ∨ !s.drbgOk (stringInstance k) 1 then .next s else
  let s1 := s.seedString k
  .next (if 42 ≤ k ∧ (nget {} s.ent.gens k).seed ≠ [] then s1.count .BGN_BLIND_REKEY_COUNT_COUNT 0 1 else s1)

/-- MASK_GEN_RESEED_REQUEST (R339): three quarters of a limit reached. -/
def execMaskGenReseedRequest (k : Nat) (s0 : State) : Out := s0.clocked fun s =>
  if 42 ≤ k then .next s else
  .next { s with ent := { s.ent with gens := nset {} s.ent.gens k { nget {} s.ent.gens k with requested := true } } }

/-- MASK_GEN_DEADLINE (R339): no new seed has arrived; the generator stalls. -/
def execMaskGenDeadline (k : Nat) (s0 : State) : Out := s0.clocked fun s =>
  let g := nget {} s.ent.gens k
  if 42 ≤ k ∨ !g.requested ∨ g.stalled then .next s else
  .next ({ s with ent := { s.ent with gens := nset {} s.ent.gens k { g with stalled := true } } }.count .ENT_STALL_COUNT_COUNT 0 1)

/-- Every enabled cell tested on 1,024 samples: those that fail are recorded and isolated, the others pass. -/
def State.testCells (s : State) (fails : List (Nat × Nat)) : State :=
  let s0 : State := { s with ent := { s.ent with isolated := [], testing := [] } }
  (List.range 8).foldl (fun t c =>
    if !bit (s.getF .ENT_CELL_ENABLE_EN 0) c then t.setCellOk c false
    else match fails.find? fun f => f.1 == c with
      | some f => t.isolate c f.2
      | none => t.setCellOk c true) s0

/-- CELL_FAIL raised for each cell that failed. -/
def State.raiseCellFails (s : State) (fails : List (Nat × Nat)) : State :=
  fails.foldl (fun t f => if bit (t.getF .ENT_CELL_ENABLE_EN 0) f.1 then t.raiseErr blkENT 1 f.1 (t.cellFailWord f.1) else t) s

/-- READY sets: the 46 strings seeded, KEK_E drawn, and a BBK where none is present (R338, R340, R353). (DEDUCED: notes/assumptions/67) -/
def State.entReady (s : State) : State :=
  let s1 := (List.range 46).foldl (fun t k => t.seedString k) s
  let (b, s2) := (s1.drbgCalls 7 1).draw 32
  let s3 : State := { s2 with kv := { s2.kv with kekE := b } }
  (if s3.kv.bbk.isSome then s3 else (s3.drbgCalls 7 1).drawBbk).setFlag .ENT_STATUS_READY 0 true

/-- ENT_STARTUP_TESTED (R340, R341): with four or more cells the instances are instantiated, the 46 strings seeded and READY sets;
with fewer the unit is DEGRADED. fails lists the failing cells and their tests. -/
def execEntStartupTested (fails : List (Nat × Nat)) (s0 : State) : Out := s0.clocked fun s =>
  if s.getF .ENT_STATUS_STATE 0 ≠ entStartup then .next s else
  let s1 := s.testCells fails
  if s1.degraded then .next ((s1.enterDegraded 0).raiseCellFails fails) else
  let s2 := (List.range 8).foldl (fun t d => t.reseed d) (s1.count .ENT_COND_COUNT_COUNT 0 8)
  .next ((s2.entReady.setF .ENT_STATUS_STATE 0 entRun).raiseCellFails fails)

/-- ENTROPY_WAIT_TIMEOUT (R341, R343): the limit has passed since the job's first stall, or since its acceptance before READY. -/
def execEntropyWaitTimeout (q i : Nat) (s0 : State) : Out := s0.clocked fun s =>
  match s.job? q i with
  | none => .next s
  | some j =>
    if (j.stage = .accepted ∨ j.stage = .dispatched) ∧ !j.computed ∧
        (j.entSince.isSome ∨ (!s.flag .ENT_STATUS_READY 0 ∧ j.drawsEntropy)) then
      .next (((s.letGo j).updJob q i fun j =>
        { j with status := stEntropy, detail := s.entropyDetail j, computed := true, stage := .ended, pools := [], resPools := [], core := none,
                 slot := none, slots := [], entSince := none }).count
        .ENT_TIMEOUT_COUNT_COUNT 0 1)
    else .next s

/-- ENT_QUIET_TIME_EXPIRY (R344): a restart, or LATCHED at the limit. -/
def execEntQuietTimeExpiry (s0 : State) : Out := s0.clocked fun s =>
  if s.getF .ENT_STATUS_STATE 0 ≠ entDegraded ∨ s.ent.quietSince = none then .next s else
  let s1 : State := { s with ent := { s.ent with quietSince := none } }
  if s.recoveryLimited blkENT then .next ((s1.setF .ENT_STATUS_STATE 0 entLatched).raiseErr blkENT 3 0 (s1.cellFailWord 0))
  else .next (s1.setF .ENT_STATUS_STATE 0 entRestart)

/-- ENT_RESTART_COMPLETE (R344): every enabled cell tested; the instances reseed, D6 first, or a new quiet period begins. -/
def execEntRestartComplete (fails : List (Nat × Nat)) (s0 : State) : Out := s0.clocked fun s =>
  if s.getF .ENT_STATUS_STATE 0 ≠ entRestart then .next s else
  let s1 := s.testCells fails
  if s1.degraded then
    let s2 := (s1.count .ENT_RESTART_FAIL_COUNT_COUNT 0 1).setF .ENT_STATUS_STATE 0 entDegraded
    .next { s2 with ent := { s2.ent with quietSince := some s2.now } }
  else
    let s2 := [6, 0, 1, 2, 3, 4, 5, 7].foldl (fun t d => t.reseed d) (s1.count .ENT_COND_COUNT_COUNT 0 8)
    let s3 := if s2.flag .ENT_STATUS_READY 0 then s2 else s2.entReady
    .next ((s3.setF .ENT_STATUS_STATE 0 entRun).recovered blkENT)

/-- One more clear refused (R515). -/
def State.clearRefused (s : State) (blk : Nat) : State := s.count .BLK_ERR_CLEAR_REFUSED_COUNT blk 1

/-- A write of 1 to NO_ENTROPY or LATCHED (R344, R515, R517): LATCHED clears with the recovery count, NO_ENTROPY stays while the
unit is degraded, and a restart starts unless one or the start-up is running. -/
def State.entClear (s : State) (v : Nat) : State :=
  let s1 := if bit v 3 then
      (s.setF .BLK_RECOVERY_COUNT_COUNT blkENT 0).setF .BLK_ERR_STATUS_CAUSE blkENT (setBits (s.getF .BLK_ERR_STATUS_CAUSE blkENT) 3 3 0)
    else s
  let held := s.degraded && decide (entDegraded ≤ s.getF .ENT_STATUS_STATE 0)
  let s2 := if bit v 0 then
      (if held then (if bit (s.getF .BLK_ERR_STATUS_CAUSE blkENT) 0 then s1.clearRefused blkENT else s1)
       else s1.setF .BLK_ERR_STATUS_CAUSE blkENT (setBits (s1.getF .BLK_ERR_STATUS_CAUSE blkENT) 0 0 0))
    else s1
  let st := s.getF .ENT_STATUS_STATE 0
  if (bit v 0 || bit v 3) && (st == entRun || st == entDegraded || st == entLatched) then
    { s2 with ent := { s2.ent with quietSince := none } }.setF .ENT_STATUS_STATE 0 entRestart
  else s2

/-- ENT_ERR_CLEAR_RESTART (R344): ENT_ERR_STATUS written with 1 to NO_ENTROPY or LATCHED. -/
def execEntErrClearRestart (v : W32) (s0 : State) : Out := s0.mmio fun s => .next (s.entClear v.toNat)

/-- ENT_SW_DATA_READ (R345, R5): 64 bits from D7; the low half of a two-part read latches the high half. -/
def execEntSwDataRead (whole : Bool) (s0 : State) : Out := s0.mmio fun s =>
  let fin := fun (t : State) (code : Nat) (w : List Byte) =>
    let t1 := t.setF .ENT_SW_STATUS_CODE 0 code
    if whole then t1.say (.completion w)
    else { t1 with latchedHigh := mset regOrd (fun _ => 0) t1.latchedHigh (.ENT_SW_DATA, 0) (bfield w 4 4 + 1) }.say (.completion (w.take 4))
  if !s.flag .ENT_STATUS_READY 0 then .next (fin s 0x0011 (zeros 8))
  else if s.degraded || s.getF .ENT_STATUS_STATE 0 == entLatched || !s.drbgOk 7 1 then .next (fin s 0x0301 (zeros 8))
  else
    let (w, s1) := (s.drbgCalls 7 1).draw 8
    .next (fin s1 0 w)

end Sys2Proof.Machine
end

