-- ==== Sys2Proof/Machine/Faults.lean ====
section
/-! DEFINITION. Engine faults: which block's error register records one, by its unit and cause (R132, R519); re-execution and the end of a job that
faults again (R222). -/
namespace Sys2Proof.Machine

open Sys2Proof

/-- The block of an ENGINE_FAULT unit (R132). -/
def unitBlock (unit : Nat) : Nat :=
  [blkSEQ, blkMAR, blkHSH, blkCDE, blkBGN, blkSTR, blkKV, blkQRE, blkSEAL, blkTIM, blkDMA, blkLMC, blkENT].getD unit blkSEQ

/-- The bit of the block's status register that a cause sets (R519); a cause that R519 gives no bit of its own sets the bit of the block's first check.
(DESIGN CHOICE: notes/assumptions/94) (DESIGN CHOICE: notes/assumptions/94) -/
def unitCause (unit cause : Nat) : Nat :=
  match unit with
  | 0 => 2
  | 1 => if cause = 2 ∨ cause = 3 ∨ cause = 4 ∨ cause = 5 then 0 else 3
  | 2 => if cause = 2 then 1 else if cause = 3 then 3 else 0
  | 3 => if cause = 3 then 1 else if cause = 5 then 2 else 0
  | 4 => if cause = 2 then 1 else if cause = 3 ∨ cause = 4 then 2 else if cause = 5 then 4 else 0
  | 5 => if cause = 4 then 1 else 0
  | 6 => if cause = 2 then 1 else if cause = 3 then 2 else 0
  | 7 => 2
  | 8 => 4
  | 9 => 2
  | 10 => 0
  | 11 => 1
  | _ => 2

/-- The syndrome: the ENGINE_FAULT DETAIL for SEQ, BGN, QRE, SEAL, TIM and ENT; the cause with its bundle or row for MAR; the cause for
HSH, CDE and STR; what the block names, given by the command, for KV, DMA and LMC. -/
def unitSyndrome (unit cause place : Nat) : Nat :=
  if unit = 0 ∨ unit = 4 ∨ unit = 7 ∨ unit = 8 ∨ unit = 9 ∨ 12 ≤ unit then unit * 4096 + cause
  else if unit = 1 then cause + place * 4096
  else if unit = 2 ∨ unit = 3 ∨ unit = 5 then cause
  else place

/-- An engine fault recorded in its block. (DESIGN CHOICE: notes/assumptions/94) -/
def State.raiseFault (s : State) (unit cause part place : Nat) : State :=
  s.raiseErr (unitBlock unit) (unitCause unit cause) part (unitSyndrome unit cause place)

/-! ### Units out of service -/

/-- Times within the last span of nanoseconds. -/
def recent (now span : Nat) (l : List Nat) : List Nat := l.filter fun t => decide (now < t + span)

/-- Bits that go from 0 to 1 bring their units back online (R250, R299, R308, R329). -/
def State.backOnline (s : State) (en on : Fld) (v : Nat) : State :=
  s.setF on 0 (s.getF on 0 ||| (v &&& (2 ^ 32 - 1 - s.getF en 0)))

/-! ### Re-execution (R222) -/

/-- A job whose steps so far are settled effects that re-execution does not repeat: a cold anchor, a reservation, a destroy (R206). -/
def Job.keepsPhase (j : Job) : Bool := [0x0702, 0x0505, 0x0502].contains j.opcode

/-- A job that executes again from its inputs, with its settled effects, and with its outcome where it has computed one. An input of more than 16 KiB is
read again from host memory, a shorter one stays in staging (R207, R209); a longer output will be written again (R128). (DEDUCED: notes/assumptions/31) -/
def Job.again (j : Job) (avoid : Option Nat) : Job :=
  let long := decide (16384 < j.inLen)
  { j with stage := .accepted, pools := [], resPools := [], core := none, slot := none, slots := [], outCred := 0, resOut := false, budget := 0,
           inCred := if long then 0 else j.inCred, resIn := !long && j.resIn, staged := !long && j.staged,
           written := if j.computed then j.written else 0, phase := if j.keepsPhase then j.phase else 0, attempts := if j.keepsPhase then j.attempts else 0,
           waitSince := none, waitBlocks := [], entSince := none, avoid := avoid }

/-- A job re-executed: its engine gives it up, its budget is spent. avoid names the core or unit of an engine fault. (DEDUCED: notes/assumptions/31) -/
def State.reexec (s : State) (j : Job) (avoid : Option Nat) : State :=
  ((s.letGo j).count .SCH_REEXEC_COUNT_COUNT 0 1).updJob j.q j.idx fun k => k.again avoid

/-- A job ended by an engine or kernel fault: it completes in queue order with that status, its record as any other's. -/
def State.failJob (s : State) (j : Job) (status detail : Nat) : State :=
  (s.letGo j).updJob j.q j.idx fun k =>
    { k with status := status, detail := detail, result := 0, output := [], pass := [], created := none, computed := true, stage := .ended,
             pools := [], resPools := [], core := none, slot := none, slots := [], phase := 0, waitSince := none, waitBlocks := [], entSince := none }

/-- An engine fault of a job (R222): re-executed once, then ENGINE_FAULT with its unit and cause. In a batch the fault that persists is the result of
one record, which one a free value, and the batch goes on (R165). (DEDUCED: notes/assumptions/93) -/
def State.engineFault (s : State) (j : Job) (unit cause : Nat) (avoid : Option Nat) : State :=
  if 0 < j.budget then s.reexec j avoid
  else if j.opcode = 0x0123 ∧ !j.computed then
    { s with free := s.free + 1 }.updJob j.q j.idx fun k =>
      { k with faulted := k.faulted ++ [(Config.freeNat s.free 0 % max 1 (bits j.arg0 15 0), unit * 4096 + cause)] }
  else s.failJob j stEngineFault (unit * 4096 + cause)


end Sys2Proof.Machine
end

