-- ==== Sys2Proof/Machine/OpBase.lean ====
section
/-! DEFINITION. What the rows of the opcodes share: the job they act on, its operands, its outcome, new keys, delivery of secrets
(R126, R133, R138, R144, R173, R348, R349). -/
namespace Sys2Proof.Machine

open Sys2Proof

/-- What an execution gives. -/
structure Res where
  status : Nat := 0
  detail : Nat := 0
  result : Nat := 0
  output : List Byte := []
  pass : List Byte := []
  onInvalid : Bool := false
  ext : Option Nat := none
  created : Option Nat := none
deriving DecidableEq, Repr

/-- The host's bytes of a job's input: IN_LEN of them. (DEDUCED: notes/assumptions/80) -/
def Job.hostInput (j : Job) (inp : List Byte) : List Byte := padTo (if readsInput j.opcode then j.inLen else 0) inp

/-- The whole input: a passed result that is not the key, then the host's bytes (R138). -/
def Job.full (j : Job) (inp : List Byte) : List Byte := (if j.passedKey then [] else j.passed.getD []) ++ j.hostInput inp

/-- The job that an execution's outcome leaves; RESULT is at most 0x7FFF_FFFF (R133). -/
def Job.ends (k : Job) (inp : List Byte) (r : Res) : Job :=
  { k with status := r.status, detail := r.detail, result := min r.result (2 ^ 31 - 1), output := r.output, pass := r.pass,
           outputOnInvalid := r.onInvalid, ext := (r.ext.map fun n => BitVec.ofNat 64 n).orElse fun _ => k.ext,
           created := r.created, input := k.hostInput inp, inputRead := true, computed := true, waitSince := none, waitBlocks := [], entSince := none }

/-- The quarters of a job drain (R254). -/
def State.drainJob (s : State) (q i : Nat) : State :=
  (s.busyQuarters.filter fun e => (s.quarter e.1 e.2).job == some (q, i)).foldl (fun t e => t.setQuarter e.1 e.2 { t.quarter e.1 e.2 with st := .draining }) s

/-- An output of more than 4 KiB is written as it is produced, a shorter one stays in staging until the commit point (R128, R157). -/
def State.streamOutput (s : State) (q i : Nat) : State :=
  match (s.job? q i).filter fun k => decide (4096 < min k.output.length k.outLen) with
  | none => s
  | some k => (s.writeOutput k).updJob q i fun k => { k with written := 1 }

/-- The job's execution ends with an outcome: its quarters drain, a long output goes to host memory; its slot stays until EXECUTION_END. (DEDUCED: notes/assumptions/34) -/
def State.endJob (s : State) (j : Job) (inp : List Byte) (r : Res) : State :=
  ((s.updJob j.q j.idx fun k => k.ends inp r).drainJob j.q j.idx).streamOutput j.q j.idx

/-- An outcome that is an output alone; a stitched link passes it on (R133, R138). -/
def Job.plain (j : Job) (out' : List Byte) : Res :=
  { result := if j.stitch && j.outLen == 0 then 0 else out'.length, output := out', pass := if j.stitch then out' else [] }

/-- An outcome without output. -/
def failed (status detail : Nat) : Res := { status := status, detail := detail }

/-- Units of an engine that are online. -/
def State.onlineOf (s : State) (f : Fld) (l : List Nat) : Nat := (l.filter fun n => bit (s.getF f 0) n).length

/-- No core of the hash farm is online for Keccak or SHA-2 work, masked or not; a masked SHA-2 core serves unmasked work too (R299). -/
def State.noHashCore (s : State) (keccak masked : Bool) : Bool :=
  s.onlineOf .HSH_CORE_ONLINE_ONLINE
    (if keccak then (if masked then (List.range 8).map (· + 16) else List.range 16) else if masked then [30, 31] else (List.range 8).map (· + 24)) == 0

/-- A job that cannot start because too few units of its engine are online: a private-key job of BGN takes two multipliers (R319) and a job of STR a
pipe (R328), and both end without retry; a hash session without a core fails, and its job is an engine fault like any other (R298, R299). A batch is
judged record by record (R165). -/
def State.engineGate (s : State) (j : Job) : Option State :=
  if j.opcode = 0x0123 then none
  else if j.pools.contains .BGN && decide (j.act ≠ .verify) && decide (s.onlineOf .BGN_MUL_ONLINE_ONLINE (List.range 4) < 2) then
    some ((s.raiseFault 4 5 0 0).endJob j [] (failed stEngineFault 0x4005))
  else if j.pools.contains .STR && s.getF .STR_PIPE_ONLINE_ONLINE 0 == 0 then
    some ((s.raiseFault 5 4 0 0).endJob j [] (failed stEngineFault 0x5004))
  else if j.pools.contains .HSH && s.noHashCore (s.keccakWork j) j.masksCalls then
    some (((s.count .HSH_SESSION_FAIL_COUNT_COUNT 0 1).raiseFault 2 3 0 0).engineFault j 2 3 none)
  else none

/-- A meaning applied to the job at an entry, when it is at its engine with a given opcode and has not computed. (DESIGN CHOICE: notes/assumptions/8; DEDUCED: notes/assumptions/34) -/
def State.onJob (s : State) (q i op : Nat) (f : Job → State → State) : Out :=
  match s.job? q i with
  | none => .next s
  | some j =>
    if j.stage = .dispatched ∧ j.opcode = op ∧ !j.computed ∧ !s.stopped then
      .next ((s.engineGate j).getD (f j s))
    else .next s

/-- Payload bytes counted for the pipe of a job of STR (R331). -/
def State.pipeBytes (s : State) (j : Job) (n : Nat) : State := s.count .STR_PIPE_BYTES_COUNT ((j.slot.getD 0) / 16) n

/-- The bytes of the job's key: the passed result, or the held private part (R138). -/
def State.keyBytes (s : State) (j : Job) : List Byte :=
  if j.passedKey then j.passed.getD [] else if j.handle = 0 then [] else (s.jobKey j).priv

/-- The masks that a private-key operation on the array takes are there (R143, R339). -/
def State.maskOk (s : State) (j : Job) : Bool :=
  match j.core with
  | some (c, _) => !(j.pools.contains .MAR && s.genStalled c)
  | none => true

/-- Bytes of KWP of a secret under a key (R144, R177). -/
def kwpBytes (key d : List Byte) : List Byte := bytesOf (kwpLen d.length) (Config.alg "AES-KWP wrap" [] [key, d])

/-- What a new key holds. -/
structure NewMat where
  priv : List Byte := []
  pub : List Byte := []
  pubOnly : Bool := false
  keyLen : Nat := 0
  custody : Option Nat := none
deriving DecidableEq, Repr

/-- A key created: the entry free for the longest time, its attributes fixed, resident, its record written (R348, R349, R354). -/
def State.createKey (s : State) (j : Job) (k : NewKey) (m : NewMat) : Option Nat × State :=
  match s.takeEntry with
  | (none, s1) => (none, s1)
  | (some i, s1) =>
    let s2 := s1.setKey i {
      used := true, gen := (s1.key i).gen, owner := j.slice, family := k.family, paramset := k.ps, cls := clsOf k.cls,
      order := if m.pubOnly then 0 else keyOrder k.family k.ps k.order2, usage := k.usage, pubOnly := m.pubOnly,
      stateful := k.family == 2 && isStateful k.ps, keyLen := m.keyLen,
      created := if s1.flag .TIM_STATUS_HAS_TIME 0 then s1.tim.sec else 0, priv := m.priv, pub := m.pub, custody := m.custody }
    (some i, (s2.makeHot i).writeKeyRecord i (some (j.q, j.idx)))

/-- 64 KiB extents for Classic McEliece public keys that are free in local memory (R453). -/
def State.extentsFree (s : State) : Nat :=
  let total := if s.getF .LMC_CONFIG_GIB 0 = 16 then 65536 else if s.getF .LMC_CONFIG_GIB 0 = 8 then 16384 else 0
  total - (s.keysUsed.map fun i => if neverResident (s.key i).family (s.key i).paramset then ceilDiv (s.key i).pub.length 65536 else 0).sum

/-- A key created and its handle returned, or QUOTA where no entry or no extent for its public key is free (R133, R348, R453). -/
def State.endWithKey (s : State) (j : Job) (inp : List Byte) (k : NewKey) (m : NewMat) (output : List Byte) : State :=
  if neverResident k.family k.ps && decide (s.extentsFree < ceilDiv m.pub.length 65536) then
    (s.count .LMC_AREA_FULL_COUNT_COUNT 0 1).endJob j inp (failed stQuota 1)
  else
  match s.createKey j k m with
  | (none, s1) => s1.endJob j inp (failed stQuota 1)
  | (some i, s1) => s1.endJob j inp { result := s1.handle i, output := output, created := some i }

/-- A secret delivered with the public outputs beside it (R144, R174, R177, R178). (DEDUCED: notes/assumptions/87) -/
def State.deliver (s : State) (j : Job) (inp pub secret : List Byte) : State :=
  if j.stitch then
    s.endJob j inp { result := if j.outLen = 0 then 0 else pub.length, output := pub, pass := secret }
  else
    match j.delivery with
    | 0 =>
      (match j.newKey with
        | some k => s.endWithKey j inp k { priv := secret, keyLen := secret.length } pub
        | none => s.endJob j inp { result := pub.length, output := pub })
    | 1 =>
      let o := pub ++ kwpBytes ((j.wrapHandle.elim [] fun h => (s.keyOf h).priv)) secret
      s.endJob j inp { result := o.length, output := o }
    | _ => s.endJob j inp { result := (pub ++ secret).length, output := pub ++ secret }

/-- A verdict against a public input counted where BGN gives it (R317, R330). -/
def State.bgnReject (s : State) (j : Job) (status detail : Nat) : State :=
  if j.poolsNeeded.contains .BGN then
    (if status = stInputRejected ∧ detail = 8 then
      (s.count .BGN_SECRET_REJECT_COUNT_COUNT 0 1).raiseErr blkBGN 3 ((j.slot.getD 0) / 4) detail
     else if status = stInputRejected ∨ (status = stSigInvalid ∧ detail = 1) then s.count .BGN_INPUT_REJECT_COUNT_COUNT 0 1 else s)
  else s

/-- A job ended by a verdict. -/
def State.reject (s : State) (j : Job) (inp : List Byte) (status detail : Nat) : State :=
  (s.bgnReject j status detail).endJob j inp (failed status detail)

/-- The SHA3-256 of bytes. -/
def sha3 (m : List Byte) : List Byte := bytesOf 32 (Config.hash 4 m)

/-- NOP (R122): does nothing; it takes no slot and completes in queue order, after a FENCE's wait. -/
def execNop (q i : Nat) (s : State) : Out :=
  match s.job? q i with
  | none => .next s
  | some j =>
    if j.stage = .accepted ∧ j.opcode = 0 ∧ !s.stopped ∧ s.fenceOk j ∧ !s.dispatchStopped then
      .next ((s.endJob j [] {}).updJob q i fun k => { k with stage := .ended })
    else .next s

end Sys2Proof.Machine
end

