-- ==== Sys2Proof/Machine/AsymOps.lean ====
section
/-! DEFINITION. The asymmetric opcodes (chapter 07): key generation, encapsulation, agreement, hybrids, signing, verification. -/
namespace Sys2Proof.Machine

open Sys2Proof

/-! ### Keys (R145, R146, R148, R180, R181) -/

/-- The ML-KEM and the classical set of a hybrid. -/
def hybridParts (ps : Nat) : Nat × Nat := if ps = 0x40 then (2, 0x30) else (3, 0x33)

/-- The curve of an ECDH set. -/
def ecdhCurve (ps : Nat) : WCurve := if ps = 0x32 then p256 else p384

/-- The curve of X25519 or X448. -/
def montCurve (ps : Nat) : MCurve := if ps = 0x30 then x25519 else x448

/-- The curve of an ECDSA set. -/
def ecdsaCurve (ps : Nat) : WCurve := if ps = 0x30 then p256 else if ps = 0x31 then p384 else p521

/-- The curve of an EdDSA set. -/
def eddsaCurve (ps : Nat) : ECurve := if ps = 0x38 then ed25519 else ed448

/-- Polynomials of an ML-KEM set, 12 bits a coefficient, two coefficients in three bytes (FIPS 203). -/
def mlkemVec (ps : Nat) (name : String) (seed : List Byte) : List Byte :=
  let c := fun i => Config.algNat name [ps, i] [seed] % 3329
  (List.range (128 * (ps + 1))).flatMap fun i => leBytes 3 (c (2 * i) + c (2 * i + 1) * 4096)

/-- Every coefficient of an ML-KEM public key is below q (FIPS 203). -/
def mlkemPkOk (ps : Nat) (pk : List Byte) : Bool :=
  (List.range (128 * (ps + 1))).all fun i =>
    let v := bfield pk (3 * i) 3
    decide (v % 4096 < 3329) && decide (v / 4096 < 3329)

/-- The public key that an ML-KEM private key holds. (PRESUMED: notes/assumptions/30) -/
def mlkemEk (ps : Nat) (sk : List Byte) : List Byte := bslice sk (384 * (ps + 1)) (384 * (ps + 1) + 32)

/-- The hash of the public key that an ML-KEM private key holds is right (R181). -/
def mlkemSkOk (ps : Nat) (sk : List Byte) : Bool := decide (bslice sk (768 * (ps + 1) + 32) 32 = sha3 (mlkemEk ps sk))

/-- Bytes of the secret vectors and of t0 in an ML-DSA private key (FIPS 204). (PRESUMED: notes/assumptions/30) -/
def mldsaParts (ps : Nat) : Nat × Nat := if ps = 1 then (768, 1664) else if ps = 2 then (1408, 2496) else (1440, 3328)

/-- The public key of ρ and the secret vectors, and the t0 that goes with it. -/
def mldsaPub (ps : Nat) (rho s : List Byte) : List Byte :=
  rho ++ bytesOf (((sigSizes ps).elim 0 fun z => z.1) - 32) (Config.alg "ML-DSA t1" [ps] [rho, s])

def mldsaT0 (ps : Nat) (rho s : List Byte) : List Byte := bytesOf (mldsaParts ps).2 (Config.alg "ML-DSA t0" [ps] [rho, s])

/-- An ML-DSA private key: ρ, K, the hash of the public key, the secret vectors, t0 (FIPS 204). -/
def mldsaKey (ps : Nat) (rho k s : List Byte) : List Byte := rho ++ k ++ bytesOf 64 (Config.hash 7 (mldsaPub ps rho s)) ++ s ++ mldsaT0 ps rho s

/-- The secret vectors of an ML-DSA private key. -/
def mldsaSecret (ps : Nat) (sk : List Byte) : List Byte := bslice sk 128 (mldsaParts ps).1

/-- The public data in an ML-DSA private key belongs to its secret (R181). -/
def mldsaSkOk (ps : Nat) (sk : List Byte) : Bool := decide (sk = mldsaKey ps (sk.take 32) (bslice sk 32 32) (mldsaSecret ps sk))

/-- The public key of a KEM private key of one component. -/
def kemPublic (ps : Nat) (sk : List Byte) : List Byte :=
  if isLattice ps then mlkemEk ps sk
  else if ps = 0x30 ∨ ps = 0x31 then (montCurve ps).public sk
  else if ps = 0x32 ∨ ps = 0x33 then (ecdhCurve ps).encode ((ecdhCurve ps).mul (beNat sk) (ecdhCurve ps).base)
  else bytesOf (kemPk ps) (Config.alg "KEM public key" [ps] [sk])

/-- A KEM private key of one component from its seed; f selects the "f" variant of Classic McEliece. -/
def kemSecret (ps f : Nat) (seed : List Byte) : List Byte :=
  if isLattice ps then
    let ek := mlkemVec ps "ML-KEM t" seed ++ bytesOf 32 (Config.alg "ML-KEM rho" [ps] [seed])
    mlkemVec ps "ML-KEM s" seed ++ ek ++ sha3 ek ++ bytesOf 32 (Config.alg "ML-KEM z" [ps] [seed])
  else if ps = 0x32 ∨ ps = 0x33 then beBytes (kemSk ps) ((ecdhCurve ps).scalar seed)
  else bytesOf (kemSk ps) (Config.alg "KEM key generation" [ps, f] [seed])

/-- The two parts of a composite private or public key. -/
def splitHybrid (ps : Nat) (sizeOf' : Nat → Nat) (k : List Byte) : List Byte × List Byte :=
  if isHybrid ps then (k.take (sizeOf' (hybridParts ps).1), k.drop (sizeOf' (hybridParts ps).1)) else (k, [])

/-- The public part of a private key. -/
def publicOf (family ps : Nat) (d : List Byte) : List Byte :=
  if family = 1 then
    let p := splitHybrid ps kemSk d
    if isHybrid ps then kemPublic (hybridParts ps).1 p.1 ++ kemPublic (hybridParts ps).2 p.2 else kemPublic ps d
  else if family = 2 then
    (if isMlDsa ps then mldsaPub ps (d.take 32) (mldsaSecret ps d)
     else if isSlhDsa ps then d.drop (d.length / 2)
     else if isEcdsa ps then (ecdsaCurve ps).encode ((ecdsaCurve ps).mul (beNat d) (ecdsaCurve ps).base)
     else if isEddsa ps then (eddsaCurve ps).public d
     else if isRsa ps then d.take (rsaModBytes d.length + 4)
     else [])
  else []

/-- A key pair of a KEM set from its seed: private and public part. -/
def kemPair (ps f : Nat) (seed : List Byte) : List Byte × List Byte :=
  let sk := if isHybrid ps then kemSecret (hybridParts ps).1 0 seed ++ kemSecret (hybridParts ps).2 0 seed else kemSecret ps f seed
  (sk, publicOf 1 ps sk)

/-- A prime of an RSA key from its seed: its two highest bits are 1, it is odd. -/
def rsaPrime (w k : Nat) (seed : List Byte) : Nat :=
  let n := 4 * w
  (2 ^ (n - 1) + 2 ^ (n - 2) + Config.algNat "RSA prime" [w, k] [seed] % 2 ^ (n - 2)) / 2 * 2 + 1

/-- A private key of a signature set that is not stateful, from its seed; w is the bytes of an RSA modulus. -/
def sigSecret (ps w : Nat) (seed : List Byte) : List Byte :=
  let b := fun (n : Nat) (name : String) => bytesOf n (Config.alg name [ps] [seed])
  if isMlDsa ps then mldsaKey ps (b 32 "ML-DSA rho") (b 32 "ML-DSA K") (b (mldsaParts ps).1 "ML-DSA secret")
  else if isEcdsa ps then beBytes (ecdsaCurve ps).len ((ecdsaCurve ps).scalar seed)
  else if isRsa ps then (rsaMake (rsaPrime w 0 seed) (rsaPrime w 1 seed)).bytes w
  else b ((sigSizes ps).elim 0 fun z => z.2.1) "signature key generation"

/-! ### Components (R152 to R155) -/

/-- The raw Diffie–Hellman output of a private scalar and a peer value (R152, R153). -/
def dhOut (ps : Nat) (sk peer : List Byte) : List Byte :=
  if ps = 0x30 ∨ ps = 0x31 then (montCurve ps).agree sk peer
  else beBytes (kemSs ps) ((ecdhCurve ps).mul (beNat sk) (some ((ecdhCurve ps).coords peer))).x

/-- An encapsulation with one set: ciphertext and shared secret; the classical sets make an ephemeral pair (R150, R152). -/
def encapsOne (ps : Nat) (pk rnd : List Byte) : List Byte × List Byte :=
  if isClassical ps then
    let eph := kemPair ps 0 rnd
    (eph.2, dhOut ps eph.1 pk)
  else (bytesOf (kemCt ps) (Config.alg "KEM encapsulation" [ps] [pk, rnd]), bytesOf (kemSs ps) (Config.alg "KEM shared secret" [ps] [pk, rnd]))

/-- A decapsulation with one set; the lattice and code sets reject implicitly (R151). -/
def decapsOne (ps : Nat) (sk ct : List Byte) : List Byte :=
  if isClassical ps then dhOut ps sk ct else bytesOf (kemSs ps) (Config.alg "KEM decapsulation" [ps] [sk, ct])

/-- The hybrid combiner (R154). -/
def combine (ps : Nat) (ssM ssC ctM ctC : List Byte) : List Byte :=
  sha3 (label "UMVOR.TUILIS.HKEM" ++ leBytes 1 ps ++ ssM ++ ssC ++ ctM ++ ctC)

/-- Encapsulation to a public key, or to the two public keys of a hybrid. -/
def encaps (ps : Nat) (pkM pkC rnd : List Byte) : List Byte × List Byte :=
  if isHybrid ps then
    let a := encapsOne (hybridParts ps).1 pkM (rnd.take 32)
    let b := encapsOne (hybridParts ps).2 pkC (rnd.drop 32)
    (a.1 ++ b.1, combine ps a.2 b.2 a.1 b.1)
  else encapsOne ps pkM rnd

/-- Decapsulation with a private key, or with the two of a hybrid. -/
def decaps (ps : Nat) (skM skC ct : List Byte) : List Byte :=
  if isHybrid ps then
    let n := kemCt (hybridParts ps).1
    combine ps (decapsOne (hybridParts ps).1 skM (ct.take n)) (decapsOne (hybridParts ps).2 skC (ct.drop n)) (ct.take n) (ct.drop n)
  else decapsOne ps skM ct

/-! ### Validation (R153, R163, R181, R317): the DETAIL of INPUT_REJECTED, 0 when the value passes -/

/-- An uncompressed point of a curve. -/
def WCurve.fault (c : WCurve) (v : List Byte) : Nat :=
  if v.getD 0 0 ≠ 4 then 0x10 else if !c.below v then 3 else if !c.holds v then 4 else 0

/-- A peer value of a Diffie–Hellman set. -/
def peerFault (ps : Nat) (v : List Byte) : Nat :=
  if ps = 0x32 ∨ ps = 0x33 then (ecdhCurve ps).fault v
  else if (montCurve ps).small.contains ((montCurve ps).decode v) then 5 else 0

/-- A KEM public key: the classical part last. -/
def kemPkFault (ps : Nat) (pkM pkC : List Byte) : Nat :=
  if isHybrid ps then
    if !mlkemPkOk (hybridParts ps).1 pkM then 0x10 else peerFault (hybridParts ps).2 pkC
  else if isLattice ps then (if mlkemPkOk ps pkM then 0 else 0x10)
  else if isClassical ps then peerFault ps pkM else 0

/-- A private scalar of an ECDH or ECDSA curve is in range; a scalar that its scheme clamps always is (R317). -/
def kemScalarOk (ps : Nat) (sk : List Byte) : Bool := if ps = 0x32 ∨ ps = 0x33 then (ecdhCurve ps).inRange (beNat sk) else true

/-- The private values of a signature set that BGN checks are in range (R317). -/
def sigScalarOk (ps : Nat) (sk : List Byte) : Bool :=
  if isEcdsa ps then (ecdsaCurve ps).inRange (beNat sk) else if isRsa ps then (rsaKey sk).inRange else true

/-- A ciphertext for a private key with its classical part: 0, or the first failed check of R317. -/
def ctFault (ps : Nat) (skM skC ct : List Byte) : Nat :=
  if isHybrid ps then
    let n := kemCt (hybridParts ps).1
    let f := peerFault (hybridParts ps).2 (ct.drop n)
    if f ≠ 0 then f else if kemScalarOk (hybridParts ps).2 skC then 0 else 8
  else if isClassical ps then
    let f := peerFault ps ct
    if f ≠ 0 then f else if kemScalarOk ps skM then 0 else 8
  else 0

/-- An RSA public key: n, big-endian, then e in 4 bytes (R163). -/
def rsaPkFault (pk : List Byte) : Nat :=
  let n := beNat (pk.take (pk.length - 4))
  let e := beNat (pk.drop (pk.length - 4))
  if n % 2 = 0 then 6 else if n < 2 ^ 1023 then 7 else if e % 2 = 0 ∨ e < 3 then 3 else 0

/-- What an inline stateful public key's typecodes say. -/
def inlineStateful (ps : Nat) (pk : List Byte) : Option StatefulInfo :=
  (pubStateful ps pk).filter fun x => x.pk == pk.length

/-- A signature public key (R163). -/
def sigPkFault (ps : Nat) (pk : List Byte) : Nat :=
  if isMlDsa ps || isFnDsa ps then (if Config.holds "public-key coefficients" [ps] [pk] then 0 else 0x10)
  else if isStateful ps then (if (inlineStateful ps pk).isSome then 0 else 0x10)
  else if isEcdsa ps then (ecdsaCurve ps).fault pk
  else if isEddsa ps then (eddsaCurve ps).fault pk
  else if isRsa ps then rsaPkFault pk
  else 0

/-- The DETAIL of INPUT_REJECTED for a public key of a family, 0 when it passes (R163, R181). (DEDUCED: notes/assumptions/35) -/
def publicFault (family ps : Nat) (d : List Byte) : Nat :=
  if family = 1 then
    let p := splitHybrid ps kemPk d
    kemPkFault ps p.1 p.2
  else if family = 2 then sigPkFault ps d else 0

/-- A KEM private key of one component that must not be stored. -/
def kemSecretBad (ps : Nat) (sk : List Byte) : Bool := if isLattice ps then !mlkemSkOk ps sk else isClassical ps && !kemScalarOk ps sk

/-- A private or symmetric key that must not be stored (R181); a set that R181 does not name has no check. (DEDUCED: notes/assumptions/35) -/
def secretBad (family ps : Nat) (d : List Byte) : Bool :=
  if family = 3 then (ps == 3 || ps == 4) && decide (d.take (d.length / 2) = d.drop (d.length / 2))
  else if family = 1 then
    let p := splitHybrid ps kemSk d
    if isHybrid ps then kemSecretBad (hybridParts ps).1 p.1 || kemSecretBad (hybridParts ps).2 p.2 else kemSecretBad ps d
  else if isMlDsa ps then !mldsaSkOk ps d
  else if isEcdsa ps then !(ecdsaCurve ps).inRange (beNat d)
  else isRsa ps && !(rsaKey d).consistent

/-! ### Key generation (R148, R149, R359, R362, R363) -/

/-- The attempts of a Classic McEliece key generation counted, unless CDE_KEYGEN_ATTEMPT_END has counted them, and the pair (R304, R310).
How many attempts and replaced seeds there were is a free value. (DEDUCED: notes/assumptions/64) -/
def State.keygenRun (s : State) (j : Job) : State :=
  let s1 := s.count .CDE_KEYGEN_COUNT_COUNT 0 1
  if j.attempts ≠ 0 then s1 else
  let n := 1 + Config.freeNat s.free 0 % 128
  (({ s1 with free := s1.free + 1 }).count .CDE_KEYGEN_ATTEMPT_COUNT_COUNT 0 n).count .CDE_KEYGEN_REPLACED_SEED_COUNT_COUNT 0 (Config.freeNat s.free 1)

/-- KEM_KEYGEN (R148, R152). -/
def execKemKeygen (q i : Nat) (s : State) : Out :=
  s.onJob q i 0x0110 fun j t =>
    if !t.maskOk j then t.stallJob j else
    match t.jobDraw j 64 with
    | .error u => u
    | .ok (seed, u) =>
      let p := kemPair j.kset (b2n (bit j.aux 0)) seed
      match j.newKey with
      | none => u
      | some k =>
        let v := if j.systemizer then u.keygenRun j else u
        v.endWithKey j [] k { priv := p.1, pub := p.2, keyLen := p.1.length } p.2

/-- The custody record of a new stateful key (R359, R362, R363): block 0 reserved, the window of the present epoch. -/
def State.newCustody (s : State) (j : Job) (x : StatefulInfo) : Nat × State :=
  let n := 2 ^ x.nLog2
  let r := if bits j.arg0 36 32 = 0 then 10 else bits j.arg0 36 32
  let e := min n (2 ^ r)
  let c := s.kv.nextCustody
  let s1 : State := { s with kv := { s.kv with nextCustody := c + 1 } }
  (c, s1.writeCust c { id := c + 1, set := j.paramset, types := bits j.aux 31 16, levels := bits j.arg0 43 40, resLog2 := r, n := n, resEnd := e,
                       winEpoch := s.epoch, ceil := min n (e + s.windowBlocks * 2 ^ r) } (some (j.q, j.idx)))

/-- The public key of a stateful key: its typecodes or OID in front, what the tree gives behind (R147, R148). (PRESUMED: notes/assumptions/30) -/
def statefulPub (ps types levels : Nat) (sk : List Byte) : List Byte :=
  let f := pubFront ps types levels
  f ++ bytesOf ((statefulInfo ps types levels).elim 0 StatefulInfo.pk - f.length) (Config.alg "stateful public key" [ps, types, levels] [sk])

/-- SIG_KEYGEN (R148, R149): the pair, and for a stateful set its custody record. -/
def execSigKeygen (q i : Nat) (s : State) : Out :=
  s.onJob q i 0x0120 fun j t =>
    if !t.maskOk j then t.stallJob j else
    if isStateful j.paramset && t.flag .PWR_STATUS_BRACE 0 then t.updJob q i fun k => k.startWait t.now [] else
    match t.jobDraw j 64 with
    | .error u => u
    | .ok (seed, u) =>
      let ps := j.paramset
      let types := bits j.aux 31 16
      let levels := bits j.arg0 43 40
      match j.newKey with
      | none => u
      | some k =>
        if isStateful ps then
          match statefulInfo ps types levels with
          | none => u
          | some x =>
            let sk := bytesOf 64 (Config.alg "stateful private seed" [ps, types, levels] [seed])
            let pk := statefulPub ps types levels sk
            let (c, u1) := u.newCustody j x
            u1.endWithKey j [] k { priv := sk, pub := pk, keyLen := Config.algNat "stateful key length" [ps, types, levels] [], custody := some c } pk
        else
          let sk := sigSecret ps (128 * bits j.aux 23 16) seed
          u.endWithKey j [] k { priv := sk, pub := publicOf 2 ps sk, keyLen := sk.length } (publicOf 2 ps sk)

/-! ### Encapsulation, decapsulation, agreement -/

/-- Randomness of an encapsulation. -/
def encapsDraw : Nat := 128

/-- KEM_ENCAPS (R150): to the held public key, or to the input when KEY_HANDLE is 0, which alone is checked. -/
def execKemEncaps (q i : Nat) (inp : List Byte) (s : State) : Out :=
  s.onJob q i 0x0111 fun j t =>
    let ps := j.kset
    let p := splitHybrid ps kemPk (if j.handle = 0 then j.full inp else (t.jobKey j).pub)
    let f := if j.handle = 0 then kemPkFault ps p.1 p.2 else 0
    if f ≠ 0 then t.reject j inp stInputRejected f else
    if !t.maskOk j then t.stallJob j else
    match t.jobDraw j encapsDraw with
    | .error u => u
    | .ok (rnd, u) =>
      let r := encaps ps p.1 p.2 rnd
      u.deliver j inp r.1 r.2

/-- KEM_DECAPS (R151, R152). -/
def execKemDecaps (q i : Nat) (inp : List Byte) (s : State) : Out :=
  s.onJob q i 0x0112 fun j t =>
    let ps := j.kset
    let sk := splitHybrid ps kemSk (t.jobKey j).priv
    let ct := j.full inp
    let f := ctFault ps sk.1 sk.2 ct
    if f ≠ 0 then t.reject j inp stInputRejected f else
    if !t.maskOk j then t.stallJob j else
    t.deliver j inp [] (decaps ps sk.1 sk.2 ct)

/-- KEY_AGREE (R153). -/
def execKeyAgree (q i : Nat) (inp : List Byte) (s : State) : Out :=
  s.onJob q i 0x0130 fun j t =>
    let ps := j.paramset
    let peer := j.full inp
    let f := peerFault ps peer
    if f ≠ 0 then t.reject j inp stInputRejected f else
    if !kemScalarOk ps (t.jobKey j).priv then t.reject j inp stInputRejected 8 else
    t.deliver j inp [] (dhOut ps (t.jobKey j).priv peer)

/-- HYBRID_KEM (R155): the combiner on two separately held keys. BGN checks the classical peer value in both directions (R316). -/
def execHybridKem (q i : Nat) (inp : List Byte) (s : State) : Out :=
  s.onJob q i 0x0140 fun j t =>
    let ps := j.paramset
    let a := t.jobKey j
    let b := t.keyOf (bits j.arg0 63 32)
    if bit j.aux 0 then
      let ct := j.full inp
      let f := ctFault ps a.priv b.priv ct
      if f ≠ 0 then t.reject j inp stInputRejected f else
      if !t.maskOk j then t.stallJob j else
      t.deliver j inp [] (decaps ps a.priv b.priv ct)
    else
      let f := peerFault (hybridParts ps).2 b.pub
      if f ≠ 0 then t.reject j inp stInputRejected f else
      match t.jobDraw j encapsDraw with
      | .error u => u
      | .ok (rnd, u) =>
        let r := encaps ps a.pub b.pub rnd
        u.deliver j inp r.1 r.2

/-! ### Signing (R156 to R161) -/

/-- What a signature is made of: set, key, PREHASH, the salt's length as it acts, flags of AUX, context, message. -/
structure SigIn where
  ps : Nat
  prehash : Nat := 0
  salt : Nat := 0
  digest : Bool := false
  ctx : List Byte := []
  msg : List Byte := []
deriving DecidableEq, Repr

/-- The numbers that go into a signature's algorithm. -/
def SigIn.nums (g : SigIn) : List Nat := [g.ps, prehashOf g.ps g.prehash, g.salt, b2n g.digest]

/-- The digest that is signed: the message itself with DIGEST_INPUT, else its hash (R156). -/
def SigIn.hashed (g : SigIn) : List Byte :=
  if g.digest then g.msg else bytesOf (prehashSize (prehashOf g.ps g.prehash)) (Config.hash (prehashOf g.ps g.prehash) g.msg)

/-- Random bytes that a signing draws: none for a deterministic one and for the schemes that are deterministic already (R157). -/
def signDraw (g : SigIn) (det : Bool) : Nat :=
  if det || isStateful g.ps || isEddsa g.ps then 0
  else if isRsa g.ps then g.salt
  else if isEcdsa g.ps then 96 else 32

/-- What stands in place of the drawn bytes in a deterministic signing (R157): rnd is 0 for ML-DSA, opt_rand is PK.seed for SLH-DSA; ECDSA takes the nonce of
FIPS 186-5, RSA-PSS no salt. -/
def fixedRandom (g : SigIn) (k : KeyX) : List Byte :=
  if isMlDsa g.ps then zeros 32
  else if isSlhDsa g.ps then k.pub.take (k.pub.length / 2)
  else if isEcdsa g.ps then bytesOf 96 (Config.alg "deterministic ECDSA nonce" g.nums [k.priv, g.hashed]) else []

/-- A signature of an LMS tree: q, the LM-OTS typecode, the one-time signature, the LMS typecode, the path (RFC 8554). -/
def lmsSignature (types q : Nat) (body : Nat → Byte) : List Byte :=
  match statefulInfo 0x20 types 0 with
  | none => []
  | some x =>
    let n := x.pk - 24
    beBytes 4 q ++ beBytes 4 (types / 256) ++ bytesOf (n * (x.p + 1)) body ++ beBytes 4 (types % 256) ++ bytesOf (n * x.height) fun i => body (n * (x.p + 1) + i)

/-- A stateful signature: a function of key, index and message, the index standing in it (R160). Below the top tree of HSS each tree's public key precedes
its signature (R147). (PRESUMED: notes/assumptions/30) -/
def statefulSignature (ps types levels index : Nat) (key msg : List Byte) : List Byte :=
  let body := fun l i => Config.alg "stateful signature" [ps, types, levels, index, l, i] [key, msg] 0
  match statefulInfo ps types levels with
  | none => []
  | some x =>
    let q := fun l => index / 2 ^ (x.height * (levels - 1 - l)) % 2 ^ x.height
    if ps = 0x20 then lmsSignature types index (body 0)
    else if ps = 0x21 then
      beBytes 4 (levels - 1) ++
        ((List.range (levels - 1)).flatMap fun l => lmsSignature types (q l) (body l) ++
          (statefulPub 0x20 types 0 (key ++ beBytes 1 (l + 1) ++ beBytes 8 (index / 2 ^ (x.height * (levels - 1 - l)))))) ++
        lmsSignature types (q (levels - 1)) (body (levels - 1))
    else
      let n := if ps = 0x22 then 4 else ceilDiv x.nLog2 8
      beBytes n index ++ bytesOf (x.sig - n) (body 0)

/-- The signature of a key over an input, with the bytes drawn or what stands for them; a stateful one is a function of key, index and message alone (R160). -/
def State.signature (s : State) (k : KeyX) (g : SigIn) (rnd : List Byte) (index : Nat) : List Byte :=
  if isStateful g.ps then
    let c := s.cust (k.custody.getD 0)
    statefulSignature g.ps c.types c.levels index k.priv g.msg
  else if isEcdsa g.ps then
    let c := ecdsaCurve g.ps
    c.sign (beNat k.priv) (c.scalar rnd) g.hashed
  else if isEddsa g.ps then (eddsaCurve g.ps).sign k.priv g.ctx g.msg
  else if isRsa g.ps then
    let r := rsaKey k.priv
    let m := 2 + beNat (bytesOf k.rsaBytes (Config.alg "EMSA-PSS encoding" g.nums [g.hashed, rnd])) % (r.n - 2)
    beBytes k.rsaBytes (modPow r.n m r.d)
  else bytesOf (s.sigLen g.ps k) (Config.alg "signature" g.nums [k.priv, g.ctx, g.msg, rnd])

/-- The rejection loop of ML-DSA reached its limit: an engine fault of the core, retried once (R158, R222, R258). -/
def State.rejectionLimit (s : State) (j : Job) : State :=
  let c := (j.core.getD (0, 0)).1
  (s.raiseFault 1 1 c 0).engineFault j 1 1 (j.core.map Prod.fst)

/-- A signature with the bytes drawn or what stands for them, unless ML-DSA's loop meets its limit. -/
def State.signWith (s : State) (j : Job) (k : KeyX) (g : SigIn) (rnd : List Byte) (fin : State → List Byte → State) : State :=
  if isMlDsa g.ps && Config.holds "ML-DSA rejection limit reached" g.nums [k.priv, g.ctx, g.msg, rnd] then s.rejectionLimit j
  else fin s (s.signature k g rnd 0)

/-- A signing job's step: it waits for its index (R161), for entropy, or gives what fin makes of its signature. (DEDUCED: notes/assumptions/97) -/
def State.sign (s : State) (j : Job) (inp : List Byte) (g : SigIn) (fin : State → List Byte → State) : State :=
  let k := s.jobKey j
  if isStateful g.ps then
    match k.custody, j.index with
    | some c, some n =>
      if s.indexReady c n then
        let c' := s.cust c
        fin (s.setCust c { c' with signed := max c'.signed (n + 1) }) (s.signature k g [] n)
      else s.updJob j.q j.idx fun x => x.startWait s.now []
    | _, _ => s
  else if !sigScalarOk g.ps k.priv then s.reject j inp stInputRejected 8
  else if !s.maskOk j then s.stallJob j
  else
    let n := signDraw g (bit j.aux 3 && j.opcode == 0x0121)
    if n = 0 then s.signWith j k g (fixedRandom g k) fin
    else
      match s.jobDraw j n with
      | .error u => u
      | .ok (rnd, u) => u.signWith j k g rnd fin

/-- The length of a salt as it acts: none where the set has none, none in a deterministic signing (R156, R157). -/
def actingSalt (ps pre salt : Nat) (det : Bool) : Nat := if ps = 0x40 ∧ !det then saltLen ps pre salt else 0

/-- The signature input that an entry's fields give. -/
def Job.sigIn (j : Job) (d : List Byte) : SigIn :=
  let c := bits j.arg0 39 32
  let pre := bits j.arg0 47 40
  { ps := j.paramset, prehash := pre, salt := actingSalt j.paramset pre (bits j.arg0 23 16) (bit j.aux 3 && j.opcode == 0x0121),
    digest := bit j.aux 12, ctx := d.take c, msg := d.drop c }

/-- SIG_SIGN (R157 to R161): RESULT is the signature's length, also where a stitched link writes none. -/
def execSigSign (q i : Nat) (inp : List Byte) (s : State) : Out :=
  s.onJob q i 0x0121 fun j t => t.sign j inp (j.sigIn (j.full inp)) fun u sg => u.endJob j inp { (j.plain sg) with result := sg.length }

/-! ### Verification (R162 to R166) -/

/-- The number in the four bytes from a place on, most significant first. -/
def be4 (d : List Byte) (a : Nat) : Nat := beNat (bslice d a 4)

/-- An LMS signature at the front of some bytes carries its key's typecodes and an index within the tree (R162). -/
def lmsHeadOk (types : Nat) (d : List Byte) : Bool :=
  (statefulInfo 0x20 types 0).elim false fun x =>
    decide (be4 d 0 < 2 ^ x.height) && be4 d 4 == types / 256 && be4 d (8 + (x.pk - 24) * (x.p + 1)) == types % 256

/-- The LMS signatures of an HSS signature, one for each level still to come, and the public keys between them: their typecodes and indices are in order,
and the bytes end with the last (R147, R162). -/
def hssOk : Nat → Nat → List Byte → Bool
  | 0, _, _ => false
  | f + 1, types, d =>
    (statefulInfo 0x20 types 0).elim false fun x =>
      lmsHeadOk types d &&
        (if f = 0 then d.length == x.sig
         else
          let p := d.drop x.sig
          (pubStateful 0x20 (p.take 8)).elim false fun y => hssOk f (pubTypes 0x20 p).1 (p.drop y.pk))

/-- A stateful signature has the size, the typecodes and the index that its key asks for (R162). -/
def statefulSigOk (ps : Nat) (pk sg : List Byte) : Bool :=
  (inlineStateful ps pk).elim false fun x =>
    let types := (pubTypes ps pk).1
    if ps = 0x21 then be4 sg 0 + 1 == (pubTypes ps pk).2 && hssOk (pubTypes ps pk).2 types (sg.drop 4)
    else sg.length == x.sig &&
      (if ps = 0x20 then lmsHeadOk types sg
       else decide (beNat (sg.take (if ps = 0x22 then 4 else ceilDiv x.nLog2 8)) < 2 ^ x.nLog2))

/-- The signature is well formed: a fixed size, or one within FN-DSA's formats; r and s, S, or the representative in range (R162, R317). -/
def sigWellFormed (g : SigIn) (pk sg : List Byte) : Bool :=
  let n := (sigSizes g.ps).elim 0 fun x => x.2.2
  if isStateful g.ps then statefulSigOk g.ps pk sg
  else if isRsa g.ps then
    let r := beNat sg
    sg.length == pk.length - 4 && decide (2 ≤ r) && decide (r < beNat (pk.take (pk.length - 4)))
  else if isEcdsa g.ps then sg.length == n && (ecdsaCurve g.ps).sigRange sg
  else if isEddsa g.ps then sg.length == n && (eddsaCurve g.ps).sigRange sg
  else if isFnDsa g.ps then decide (sg.length ≤ n) && Config.holds "signature well formed" g.nums [pk, sg]
  else sg.length == n && Config.holds "signature well formed" g.nums [pk, sg]

/-- The verification equation holds (R162). -/
def sigHolds (g : SigIn) (pk sg : List Byte) : Bool :=
  if isEcdsa g.ps then (ecdsaCurve g.ps).verify pk g.hashed sg
  else if isEddsa g.ps then (eddsaCurve g.ps).verify pk g.ctx g.msg sg
  else if isRsa g.ps then
    let w := pk.length - 4
    Config.holds "RSA encoding" g.nums [beBytes w (modPow (beNat (pk.take w)) (beNat sg) (beNat (pk.drop w))), g.hashed]
  else Config.holds "signature verifies" g.nums [pk, sg, g.ctx, g.msg]

/-- The verdict on one signature: STATUS and DETAIL (R162, R163, R317). An inline key is checked first; a held one was checked when it was stored. -/
def verifyOne (g : SigIn) (inline' : Bool) (pk sg : List Byte) : Nat × Nat :=
  let f := if inline' then sigPkFault g.ps pk else 0
  if f ≠ 0 then (stInputRejected, f)
  else if !sigWellFormed g pk sg then (stSigInvalid, 1)
  else if !sigHolds g pk sg then (stSigInvalid, 2)
  else (stSuccess, 0)

/-- SIG_VERIFY (R162, R163). -/
def execSigVerify (q i : Nat) (inp : List Byte) (s : State) : Out :=
  s.onJob q i 0x0122 fun j t =>
    let d := j.full inp
    let pkLen := bits j.arg0 63 48
    let pk := if j.handle = 0 then d.take pkLen else (t.jobKey j).pub
    let d1 := if j.handle = 0 then d.drop pkLen else d
    let n := bits j.arg0 15 0
    let v := verifyOne (j.sigIn (d1.drop n)) (j.handle == 0) pk (d1.take n)
    if v.1 = stSuccess then t.endJob j inp {} else t.reject j inp v.1 v.2

/-- A region of the input. -/
def inside (off n total : Nat) : Bool := decide (off + n ≤ total)

/-- The DETAIL of BAD_HANDLE for a handle that an entry of a stamp uses: a destroy accepted after it does not count (R183). -/
def State.handleFaultAt (s : State) (sl stamp h : Nat) : Nat :=
  let i := h % 65536
  let later := s.kv.destroys.any fun d => d.key == i && decide (stamp < d.stamp)
  (if later then s.setKey i { s.key i with destroying := false } else s).handleFault sl h

/-- One record of a batch that can be verified. -/
structure Record where
  g : SigIn
  inline' : Bool
  pk : List Byte
  sg : List Byte
deriving DecidableEq, Repr

/-- The checks of a record before its verification: its STATUS and DETAIL, or what is verified (R164, R165). (DEDUCED: notes/assumptions/93) -/
def State.batchRecord (s : State) (j : Job) (d r : List Byte) : Except (Nat × Nat) Record :=
  let ps := j.paramset
  let key := bfield r 0 4
  let pkOff := bfield r 4 4
  let pkLen := bfield r 8 2
  let sgLen := bfield r 10 2
  let sgOff := bfield r 12 4
  let msOff := bfield r 16 4
  let msLen := bfield r 20 4
  let ctx := bfield r 24 1
  let pre := bfield r 25 1
  let fl := bfield r 26 1
  let salt := bfield r 27 1
  let k := s.keyOf key
  let arg := pre * 2 ^ 40 + ctx * 2 ^ 32 + salt * 2 ^ 16
  let lens := inside sgOff sgLen d.length && inside msOff msLen d.length && bfield r 28 4 == 0 && decide (ctx ≤ msLen) &&
    decide (msLen ≤ 16777216) && sigLensOk ps arg (if key = 0 then pkLen - 4 else 0) true &&
    (if key = 0 then inside pkOff pkLen d.length && pkLenOk ps pkLen else pkOff == 0 && pkLen == 0)
  if !lens then .error (stBadLength, 1) else
  if fl / 2 ≠ 0 ∨ !sigArgOk ps arg (bit fl 0) then .error (stBadParamset, 3) else
  if bit fl 0 && msLen != ctx + prehashSize (prehashOf ps pre) then .error (stBadLength, 1) else
  if key ≠ 0 ∧ s.handleFaultAt j.slice j.stamp key ≠ 0 then .error (stBadHandle, s.handleFaultAt j.slice j.stamp key) else
  if key ≠ 0 ∧ k.unusable then .error (stEngineFault, 0x6002) else
  if key ≠ 0 ∧ !bit k.usage uVerify then .error (stUsageDenied, 1) else
  if key ≠ 0 ∧ !(k.family == 2 && k.paramset == ps) then .error (stUsageDenied, 2) else
  if key ≠ 0 ∧ !sigLensOk ps arg k.rsaBytes true then .error (stBadLength, 1) else
  let m := bslice d msOff msLen
  .ok { g := { ps := ps, prehash := pre, salt := actingSalt ps pre salt false, digest := bit fl 0, ctx := m.take ctx, msg := m.drop ctx }
        inline' := key == 0, pk := if key = 0 then bslice d pkOff pkLen else k.pub, sg := bslice d sgOff sgLen }

/-- The hash of a set of the HSH pool runs on Keccak cores. -/
def Record.keccak (r : Record) : Bool := if isSlhDsa r.g.ps then decide (0x0E ≤ r.g.ps) else statefulKeccak r.g.ps (pubTypes r.g.ps r.pk).1

/-- The hash farm has no core for a record's work (R299). -/
def State.recordDead (s : State) (r : Record) : Bool := sigPool r.g.ps == .HSH && s.noHashCore r.keccak false

/-- The result of record n of a batch: that of its checks, that of a fault that has persisted, or the verdict (R165). -/
def State.recordResult (s : State) (j : Job) (n : Nat) (c : Except (Nat × Nat) Record) : Nat × Nat :=
  match c with
  | .error v => v
  | .ok r =>
    match j.faulted.find? fun e => e.1 == n with
    | some e => (stEngineFault, e.2)
    | none => if s.recordDead r then (stEngineFault, 0x2003) else verifyOne r.g r.inline' r.pk r.sg

/-- SIG_VERIFY_BATCH (R164 to R166, R216): each record that passes its checks is charged and verified; a hash session without a core is retried once with the
whole entry (R222, R299). (DEDUCED: notes/assumptions/26; DEDUCED: notes/assumptions/93) -/
def execSigVerifyBatch (q i : Nat) (inp : List Byte) (s : State) : Out :=
  s.onJob q i 0x0123 fun j t =>
    let d := j.full inp
    let cs := (List.range (bits j.arg0 15 0)).map fun n => t.batchRecord j d (bslice d (32 * n) 32)
    let ok := cs.filterMap Except.toOption
    if 0 < j.budget ∧ ok.any t.recordDead then
      ((t.count .HSH_SESSION_FAIL_COUNT_COUNT 0 1).raiseFault 2 3 0 0).engineFault j 2 3 none
    else
    let rs := (cs.zipIdx).map fun e => t.recordResult j e.2 e.1
    let good := (rs.filter fun r => r.1 == stSuccess).length
    let t1 := ok.foldl (fun u r => u.chargeRecord (sigPool j.paramset) j.slice (recordCost j.paramset r.pk (r.g.ctx.length + r.g.msg.length))) t
    let u := rs.foldl (fun u r => u.bgnReject j r.1 r.2) t1
    u.endJob j inp
      { status := if good = rs.length then stSuccess else stSigInvalid, detail := if good = rs.length then 0 else 2, result := good,
        output := rs.flatMap fun r => leBytes 4 (r.1 + r.2 * 65536), onInvalid := true }

end Sys2Proof.Machine
end

