-- ==== Sys2Proof/Machine/SymOps.lean ====
section
/-! DEFINITION. Hashes, MACs, key derivation, ciphers, wrapping and RANDOM (R171 to R178). -/
namespace Sys2Proof.Machine

open Sys2Proof

/-! ### Hashes and MACs -/

/-- HASH (R171): RESULT is the digest's length, also where a stitched link writes none. -/
def execHash (q i : Nat) (inp : List Byte) (s : State) : Out :=
  s.onJob q i 0x0200 fun j t =>
    t.endJob j inp { (j.plain (bytesOf (t.maxOut j) (Config.hash j.paramset (j.full inp)))) with result := t.maxOut j }

/-- A tag written, RESULT its length, or the input's last bytes compared with it (R172). str tells that the comparison is STR's (R324). (DEDUCED: notes/assumptions/87) -/
def State.endMac (s : State) (j : Job) (inp msg : List Byte) (verify str : Bool) (tag : List Byte → List Byte) : State :=
  if verify then
    let n := msg.length - j.tagLen
    if tag (msg.take n) = msg.drop n then s.endJob j inp {}
    else (if str then s.count .STR_TAG_MISMATCH_COUNT_COUNT 0 1 else s).endJob j inp (failed stSigInvalid 3)
  else s.endJob j inp { (j.plain (tag msg)) with result := j.tagLen }

/-- HMAC (R172). -/
def execHmac (q i : Nat) (inp : List Byte) (s : State) : Out :=
  s.onJob q i 0x0201 fun j t =>
    t.endMac j inp (j.full inp) (bit j.aux 31) false fun m =>
      bytesOf j.tagLen (Config.alg "HMAC" [j.paramset] [t.keyBytes j, m])

/-- KMAC (R172): the customisation string stands before the message. -/
def execKmac (q i : Nat) (inp : List Byte) (s : State) : Out :=
  s.onJob q i 0x0202 fun j t =>
    let d := j.full inp
    let n := bits j.arg0 7 0
    t.endMac j inp (d.drop n) (bit j.aux 31) false fun m =>
      bytesOf j.tagLen (Config.alg "KMAC" [j.paramset, b2n (bit j.aux 30), j.tagLen] [t.keyBytes j, d.take n, m])

/-- CMAC (R172). -/
def execCmac (q i : Nat) (inp : List Byte) (s : State) : Out :=
  s.onJob q i 0x0306 fun j t =>
    (t.pipeBytes j (j.full inp).length).endMac j inp (j.full inp) (bit j.aux 31) true fun m =>
      bytesOf j.tagLen (Config.alg "CMAC" [j.paramset] [t.keyBytes j, m])

/-- Output key material of a KDF code: key material, salt or label, info or context (R174). -/
def kdfOut (ps n : Nat) (ikm salt info : List Byte) : List Byte := bytesOf n (Config.alg "KDF" [ps, n] [ikm, salt, info])

/-- KDF (R174). -/
def execKdf (q i : Nat) (inp : List Byte) (s : State) : Out :=
  s.onJob q i 0x0203 fun j t =>
    let d := j.full inp
    let a := bits j.arg0 15 0
    let b := bits j.arg0 31 16
    let ikm := if j.handle = 0 then d.take a else (t.jobKey j).priv
    let r := if j.handle = 0 then d.drop a else d
    t.deliver j inp [] (kdfOut j.paramset (bits j.aux 15 0) ikm (r.take b) (r.drop b))

/-! ### Ciphers (R175 to R177) -/

/-- The parameters of an AEAD job: set and tag length. -/
def Job.aeadNums (j : Job) : List Nat := [j.paramset, j.tagLen]

/-- AEAD_ENCRYPT (R175): IV, AAD, plaintext in; ciphertext and tag out, after the drawn IV with IV_GEN. -/
def execAeadEncrypt (q i : Nat) (inp : List Byte) (s : State) : Out :=
  s.onJob q i 0x0300 fun j t =>
    let fin := fun (u : State) (iv rest pre : List Byte) =>
      let aad := rest.take j.aadLen
      let pt := rest.drop j.aadLen
      let c := bytesOf pt.length (Config.alg "AEAD ciphertext" j.aeadNums [u.keyBytes j, iv, pt])
      let tag := bytesOf j.tagLen (Config.alg "AEAD tag" j.aeadNums [u.keyBytes j, iv, aad, c])
      (u.pipeBytes j pt.length).endJob j inp (j.plain (pre ++ c ++ tag))
    let d := j.full inp
    if j.ivGen then
      match t.jobDraw j 12 with
      | .error u => u
      | .ok (iv, u) => fin u iv d iv
    else fin t (d.take j.ivLen) (d.drop j.ivLen) []

/-- AEAD_DECRYPT (R176): a mismatch writes nothing of a plaintext of up to 4 KiB, and zeros over a longer one. (DEDUCED: notes/assumptions/65) -/
def execAeadDecrypt (q i : Nat) (inp : List Byte) (s : State) : Out :=
  s.onJob q i 0x0301 fun j t0 =>
    let d := j.full inp
    let iv := d.take j.ivLen
    let aad := (d.drop j.ivLen).take j.aadLen
    let r := d.drop (j.ivLen + j.aadLen)
    let n := r.length - j.tagLen
    let c := r.take n
    let t := t0.pipeBytes j n
    if bytesOf j.tagLen (Config.alg "AEAD tag" j.aeadNums [t.keyBytes j, iv, aad, c]) = r.drop n then
      t.endJob j inp (j.plain (bytesOf n (Config.alg "AEAD plaintext" j.aeadNums [t.keyBytes j, iv, c])))
    else
      let u := t.count .STR_TAG_MISMATCH_COUNT_COUNT 0 1
      if 4096 < n then u.endJob j inp { status := stSigInvalid, detail := 3, result := n, output := zeros n, onInvalid := true }
      else u.endJob j inp (failed stSigInvalid 3)

/-- The data units of an XTS job, each through f with its tweak (R177). (DEDUCED: notes/assumptions/65) -/
def Job.xtsUnits (j : Job) (d : List Byte) (f : Nat → List Byte → List Byte) : List Byte :=
  let du := bits j.arg0 24 0
  (List.range (d.length / max 1 du)).flatMap fun k => f ((j.arg1 + k) % 2 ^ 64) (bslice d (k * du) du)

/-- XTS_ENCRYPT (R177). -/
def execXtsEncrypt (q i : Nat) (inp : List Byte) (s : State) : Out :=
  s.onJob q i 0x0302 fun j t =>
    (t.pipeBytes j (j.full inp).length).endJob j inp (j.plain (j.xtsUnits (j.full inp) fun n u => bytesOf u.length (Config.xtsEnc (t.keyBytes j) n u)))

/-- XTS_DECRYPT (R177). -/
def execXtsDecrypt (q i : Nat) (inp : List Byte) (s : State) : Out :=
  s.onJob q i 0x0303 fun j t =>
    (t.pipeBytes j (j.full inp).length).endJob j inp (j.plain (j.xtsUnits (j.full inp) fun n u => bytesOf u.length (Config.xtsDec (t.keyBytes j) n u)))

/-- KEY_WRAP (R177). -/
def execKeyWrap (q i : Nat) (inp : List Byte) (s : State) : Out :=
  s.onJob q i 0x0304 fun j t =>
    let d := j.full inp
    (t.pipeBytes j d.length).endJob j inp (j.plain (if j.paramset = 0x30 then bytesOf (d.length + 8) (Config.alg "AES-KW wrap" [] [t.keyBytes j, d]) else kwpBytes (t.keyBytes j) d))

/-- KWP undone: the DETAIL of SIG_INVALID, or the bytes; their number lies within the last semiblock (R177). -/
def kwpOpen (key c : List Byte) : Except Nat (List Byte) :=
  if !Config.holds "AES-KWP integrity" [] [key, c] then .error 3
  else if !Config.holds "AES-KWP padding" [] [key, c] then .error 1
  else .ok (bytesOf (c.length - 15 + Config.algNat "AES-KWP length" [] [key, c] % 8) (Config.alg "AES-KWP unwrap" [] [key, c]))

/-- KEY_UNWRAP (R177). -/
def execKeyUnwrap (q i : Nat) (inp : List Byte) (s : State) : Out :=
  s.onJob q i 0x0305 fun j t0 =>
    let d := j.full inp
    let t := t0.pipeBytes j d.length
    let k := t.keyBytes j
    let r := if j.paramset = 0x30 then
        (if Config.holds "AES-KW integrity" [] [k, d] then .ok (bytesOf (d.length - 8) (Config.alg "AES-KW unwrap" [] [k, d])) else .error 3)
      else kwpOpen k d
    match r with
    | .error e => (t.count .STR_TAG_MISMATCH_COUNT_COUNT 0 1).endJob j inp (failed stSigInvalid e)
    | .ok p => t.deliver j inp [] p

/-- RANDOM (R178): from the binder's instance, or with code 0x01 from D6 with a reseed before every 65,536 bytes. -/
def execRandom (q i : Nat) (s : State) : Out :=
  s.onJob q i 0x0400 fun j t =>
    let n := bits j.aux 23 0
    match (if j.paramset = 1 then t.freshDraw j n else t.jobDraw j n) with
    | .error u => u
    | .ok (b, u) => if j.stitch then u.endJob j [] (j.plain b) else u.deliver j [] [] b

end Sys2Proof.Machine
end

