-- ==== Sys2Proof/Machine/KeyOps.lean ====
section
/-! DEFINITION. Key management (R180 to R186): import, export, destroy, information, derivation, reservation. -/
namespace Sys2Proof.Machine

open Sys2Proof

/-! ### Import and export (R180 to R182) -/

/-- BGN runs the checks of an imported key of this set (R316, R317). -/
def bgnFamily (family ps : Nat) : Bool :=
  (family == 1 && (isClassical ps || isHybrid ps)) || (family == 2 && (isEcdsa ps || isEddsa ps || isRsa ps))

/-- The 16-byte header of an export blob (R182). (DEDUCED: notes/assumptions/35) -/
def blobHeader (k : KeyX) (n : Nat) : List Byte :=
  [0x55, 0x4D, 0x56, 0x4B, 0x01] ++ leBytes 1 k.family ++ leBytes 1 k.paramset ++ leBytes 1 k.order ++ leBytes 2 k.usage ++
    leBytes 1 k.cls.code ++ [0] ++ leBytes 4 n

/-- A key's raw bytes and the usage it may have: the input itself, or what an export blob holds (R180, R182). (DEDUCED: notes/assumptions/35) -/
def State.importBytes (s : State) (j : Job) (d : List Byte) : Except (Nat × Nat) (List Byte × Nat) :=
  if !bit j.aux 0 then .ok (d, bits j.arg0 15 0) else
  match kwpOpen (s.keyBytes j) (d.drop 16) with
  | .error e => .error (stSigInvalid, e)
  | .ok p =>
    let h := p.take 16
    let ok := decide (h = d.take 16) && decide (h.take 5 = [0x55, 0x4D, 0x56, 0x4B, 0x01]) && bfield h 5 1 == bits j.aux 15 8 &&
      bfield h 6 1 == j.paramset && (bfield h 7 1 == 2) == bit j.aux 2 && bfield h 12 4 == p.length - 16
    if ok then .ok (p.drop 16, bits j.arg0 15 0 &&& bfield h 8 2) else .error (stInputRejected, 0x10)

/-- The raw form has the length that its set asks for. -/
def Job.rawLenOk (j : Job) (n : Nat) : Bool :=
  let l := { j with words := j.words.set 1 (BitVec.ofNat 64 (j.handle + (j.aux - b2n (bit j.aux 0)) * 2 ^ 32)) }.importLen
  decide (l.1 ≤ n) && decide (n ≤ l.2)

/-- KEY_IMPORT (R180, R181). (DEDUCED: notes/assumptions/35) -/
def execKeyImport (q i : Nat) (inp : List Byte) (s : State) : Out :=
  s.onJob q i 0x0500 fun j t =>
    let fam := bits j.aux 15 8
    let ps := if fam = 1 then j.kset else j.paramset
    let bad := fun (u : State) (d : Nat) =>
      (if bgnFamily fam ps then
        (if d = 8 then (u.count .BGN_SECRET_REJECT_COUNT_COUNT 0 1).raiseErr blkBGN 3 0 d else u.count .BGN_INPUT_REJECT_COUNT_COUNT 0 1)
       else u).endJob j inp (failed stInputRejected d)
    match t.importBytes j (j.full inp) with
    | .error e => t.endJob j inp (failed e.1 e.2)
    | .ok (d, usage) =>
      if !j.rawLenOk d.length then t.endJob j inp (failed stInputRejected 0x10) else
      match j.newKey with
      | none => t
      | some k =>
        if bit j.aux 1 then
          let f := publicFault fam ps d
          if f ≠ 0 then bad t f
          else t.endWithKey j inp { k with usage := usage } { pub := d, pubOnly := true, keyLen := d.length } []
        else if secretBad fam ps d then bad t 8
        else t.endWithKey j inp { k with usage := usage } { priv := d, pub := publicOf fam ps d, keyLen := d.length } []

/-- KEY_EXPORT_WRAPPED (R182). -/
def execKeyExportWrapped (q i : Nat) (s : State) : Out :=
  s.onJob q i 0x0501 fun j t =>
    let k := t.jobKey j
    let raw := if k.pubOnly then k.pub else k.priv
    let h := blobHeader k raw.length
    let o := h ++ kwpBytes (t.keyOf (bits j.arg0 31 0)).priv (h ++ raw)
    t.endJob j [] { result := o.length, output := o }

/-! ### Destroy (R183, R369) -/

/-- KEY_DESTROY (R183): the key is out of use from the entry's acceptance; the job waits for the jobs that hold it. (DEDUCED: notes/assumptions/36) -/
def execKeyDestroy (q i : Nat) (s : State) : Out :=
  s.onJob q i 0x0502 fun j t =>
    let k := j.handle % 65536
    (t.setKey k { t.key k with destroying := true }).updJob q i fun x => { x with phase := 1 }

/-- A job accepted before a destroy holds the key; a batch of the key's slice may name it in a record. (DEDUCED: notes/assumptions/32; DEDUCED: notes/assumptions/36) -/
def State.heldBefore (s : State) (k stamp : Nat) : Bool :=
  s.jobs.any fun j => j.live && decide (j.stamp < stamp) && (j.keys.contains k || (j.opcode == 0x0123 && j.slice == (s.key k).owner))

/-- A key zeroized in every copy, its entry freed; its custody record is kept and marked destroyed. (DEDUCED: notes/assumptions/36) -/
def State.destroyKey (s : State) (k : Nat) (owner : Option (Nat × Nat)) : State :=
  let s1 := match (s.key k).custody with
    | some c => if (s.key k).pubOnly then s else s.writeCust c { s.cust c with destroyed := true } owner
    | none => s
  (s1.dropKeyRecord k owner).removeKey k

/-- KEY_DESTROY_COMMIT (R183): every earlier holder has committed; the destroy is carried out, whatever its entry completed with. While the entry is live and
has not come to its engine, the destroy waits for it. (DEDUCED: notes/assumptions/36) -/
def execKeyDestroyCommit (k : Nat) (s0 : State) : Out := s0.clocked fun s =>
  match takeFirst (fun (d : DestroyX) => d.key == k) s.kv.destroys with
  | none => .next s
  | some (d, rest) =>
    if s.heldBefore k d.stamp then .next s else
    let s1 : State := { s with kv := { s.kv with destroys := rest } }
    match (s.job? d.q d.idx).filter fun j => j.live && j.stamp == d.stamp && !j.computed with
    | some j => if j.stage = .dispatched then .next ((s1.destroyKey k (some (d.q, d.idx))).endJob j [] {}) else .next s
    | none => .next (s1.destroyKey k none)

/-! ### Information, derivation, reservation (R184 to R186) -/

/-- The 64 bytes of KEY_INFO (R184). -/
def State.keyInfo (s : State) (h : Nat) : List Byte :=
  let i := h % 65536
  let k := s.key i
  let c := s.cust (k.custody.getD 0)
  let st := k.custody.isSome
  leBytes 4 h ++ leBytes 1 k.family ++ leBytes 1 k.paramset ++ leBytes 1 k.cls.code ++ leBytes 1 k.order ++ leBytes 2 k.usage ++
    leBytes 2 (b2n k.pubOnly + 2 * b2n k.stateful + 4 * b2n k.quarantined + 8 * b2n (s.kv.hot.contains i)) ++ leBytes 4 k.keyLen ++
    leBytes 8 (if st then c.next else 0) ++ leBytes 8 (if st then c.n - c.next else 0) ++ leBytes 8 (if st then c.resEnd else 0) ++
    leBytes 6 k.created ++ zeros 18

/-- KEY_INFO (R184). -/
def execKeyInfo (q i : Nat) (s : State) : Out :=
  s.onJob q i 0x0503 fun j t => t.endJob j [] { result := 64, output := t.keyInfo j.handle }

/-- KEY_DERIVE (R185). -/
def execKeyDerive (q i : Nat) (inp : List Byte) (s : State) : Out :=
  s.onJob q i 0x0504 fun j t =>
    let d := j.full inp
    let b := bits j.arg0 31 16
    let n := j.deriveLen
    match j.newKey with
    | none => t
    | some k => t.endWithKey j inp k { priv := kdfOut j.paramset n (t.keyBytes j) (d.take b) (d.drop b), keyLen := n } []

/-- Where the block in use ends: NEXT itself when NEXT lies on a block boundary (R363). -/
def CustodyX.useEnd (c : CustodyX) : Nat := ceilDiv c.next c.block * c.block

/-- STATEFUL_RESERVE (R186): waits for every raise already started, then decides; a raise it asks for must be durable. (DEDUCED: notes/assumptions/37) -/
def execStatefulReserve (q i : Nat) (s : State) : Out :=
  s.onJob q i 0x0505 fun j t =>
    match (t.jobKey j).custody with
    | none => t
    | some n =>
      let c := t.cust n
      let wait := fun (u : State) (f : Job → Job) => u.updJob q i fun k => f (k.startWait u.now [])
      if j.phase = 0 then
        if c.raising.isSome || c.raiseAsked || t.flag .PWR_STATUS_BRACE 0 then wait t id
        else if c.useEnd + 2 * c.block ≤ c.resEnd ∨ c.n ≤ c.resEnd then t.endJob j [] { ext := some c.resEnd }
        else wait (t.askRaise n (some (q, i))) fun k => { k with phase := 1, attempts := c.resEnd + 1 }
      else if j.attempts ≤ c.resEnd then t.endJob j [] { result := 1, ext := some c.resEnd }
      else wait t id

end Sys2Proof.Machine
end

