-- ==== Sys2Proof/Machine/Otp.lean ====
section
/-! DEFINITION. OTP: its map, its queue of operations, one word burned (R486 to R490). -/
namespace Sys2Proof.Machine

open Sys2Proof

/-- One OTP word. -/
def State.otpWord (s : State) (a : Nat) : Nat := nget 0 s.lco.otp a

/-- n OTP words as bytes. -/
def State.otpBytes (s : State) (a n : Nat) : List Byte := (List.range n).flatMap fun i => leBytes 4 (s.otpWord (a + i))

/-- Bits burned into a word. -/
def State.burn (s : State) (a v : Nat) : State :=
  { s with lco := { s.lco with otp := nset 0 s.lco.otp a (s.otpWord a ||| v % 2 ^ 32) } }

/-! ### The map (R490) -/

def otpPrk : Nat := 0x040
def otpSerial : Nat := 0x048
def otpSubsys : Nat := 0x04A
def otpCopies : Nat := 0x04B
def otpIntents : Nat := 0x04E
def otpLocks : Nat := 0x051
def otpFrs : Nat := 0x052
def otpPatchKey : Nat := 0x062
def otpKernelKey : Nat := 0x06A
def otpOwnerKey : Nat := 0x072
def otpChain : Nat := 0x082
def otpMinPatch : Nat := 0x09A
def otpDiagUsed : Nat := 0x0AA
def otpTokens : Nat := 0x0AB
def otpTamper : Nat := 0x12B
def otpEpoch : Nat := 0x16B

/-- The bit of OTP word 0x051 that holds WINDOW_CLOSED; bits 5 to 0 are the lock bits (DESIGN CHOICE, notes/assumptions/40). (DESIGN CHOICE: notes/assumptions/40) -/
def windowClosedBit : Nat := 31

/-- The device serial number, 8 bytes. -/
def State.serial (s : State) : List Byte := s.otpBytes otpSerial 2

/-- The minimum patch version: the largest of its 16 slots (R489). -/
def State.minPatch (s : State) : Nat := ((List.range 16).map fun i => s.otpWord (otpMinPatch + i)).foldl max 0

/-- Bits burned in a thermometer of n words. -/
def State.thermo (s : State) (a n : Nat) : Nat :=
  ((List.range n).map fun i => ((List.range 32).filter fun b => bit (s.otpWord (a + i)) b).length).sum

/-- The first slot of a slotted field that is locked: where it lies in 0x051, its first word, its size in words. -/
def State.validSlot (s : State) (lock a n : Nat) : Option Nat :=
  if bit (s.otpWord otpLocks) lock then some a else if bit (s.otpWord otpLocks) (lock + 1) then some (a + n) else none

/-- A slot has burned words and no lock (R486). (DEDUCED: notes/assumptions/71) -/
def State.slotAbandoned (s : State) (lock a n : Nat) : Bool :=
  !bit (s.otpWord otpLocks) lock && ((List.range n).any fun i => s.otpWord (a + i) != 0)

/-- The slot that a write of a slotted field uses: the first one neither locked nor partly burned. -/
def State.freeSlot (s : State) (lock a n : Nat) : Option (Nat × Nat) :=
  ([(lock, a), (lock + 1, a + n)]).find? fun p =>
    !bit (s.otpWord otpLocks) p.1 && ((List.range n).all fun i => s.otpWord (p.2 + i) == 0)

/-- The FRS that OTP holds, zeros when no slot is valid. -/
def State.otpFrsBytes (s : State) : List Byte := (s.validSlot 0 otpFrs 8).elim (zeros 32) fun a => s.otpBytes a 8

/-- Between two words of an operation a waiting tamper COUNT goes first (R488). -/
def otpNext (ops : List OtpOp) : List OtpOp :=
  let t := ops.filter fun o => match o.why with
    | .tamper _ _ _ => true
    | _ => false
  let r := ops.filter fun o => match o.why with
    | .tamper _ _ _ => false
    | _ => true
  t ++ r

/-- A word is programmed while one waits and no brace is in force; one under way goes on (R488, R505). The registers of
LCO_OTP_STATUS follow. -/
def State.otpShow (s : State) : State :=
  let n := s.lco.ops.length
  let braced := s.flag .PWR_STATUS_BRACE 0
  let go := decide (0 < n) && (s.lco.started || !braced)
  let ops := if s.lco.started then s.lco.ops else otpNext s.lco.ops
  ((({ s with lco := { s.lco with started := go, ops := ops } }).setFlag .LCO_OTP_STATUS_BUSY 0 go).setFlag .LCO_OTP_STATUS_BRACED 0 braced).setF
    .LCO_OTP_STATUS_QUEUED 0 (min 255 (n - b2n go))

/-- An OTP operation requested (R488). -/
def State.otpAsk (s : State) (o : OtpOp) : State := { s with lco := { s.lco with ops := s.lco.ops ++ [o] } }.otpShow

/-- The next bit of a thermometer of n words that is not burned: its word and the bit's value. -/
def State.thermoNext (s : State) (a n : Nat) : Option (Nat × Nat) :=
  let k := s.thermo a n
  if n * 32 ≤ k then none else some (a + k / 32, 2 ^ (k % 32))

/-- The persistent state that a copy decodes to (R480). -/
def copyState (w : Nat) : Nat :=
  if w = 0 then 0 else if w = 0xFF then 1 else if w = 0xFFFF then 2 else 0xF

/-- The pattern of a state (R480). -/
def statePattern (st : Nat) : Nat :=
  if st = 0 then 0 else if st = 1 then 0xFF else if st = 2 then 0xFFFF else 0xFFFFFFFF

/-- The three copies, decoded. -/
def State.copies (s : State) : List Nat := (List.range 3).map fun c => copyState (s.otpWord (otpCopies + c))

/-- The target of intent word n. -/
def intentTarget (n : Nat) : Nat := [1, 2, 0xF].getD n 0xF

/-- An intent is recorded: at least 9 bits of its pattern are burned (R481). -/
def State.intentSet (s : State) (n : Nat) : Bool :=
  decide (9 ≤ ((List.range 32).filter fun b => bit 0xA5A5A5A5 b && bit (s.otpWord (otpIntents + n)) b).length)

/-- The pending intent with the latest target: recorded, and the copies do not all decode to its target. -/
def State.pendingIntent (s : State) : Option Nat :=
  ([2, 1, 0].find? fun n => s.intentSet n && !(s.copies.all fun c => c == intentTarget n)).map intentTarget

/-- The slots of slotted fields: the lock bit, the first word, the words (R486). -/
def slottedSlots : List (Nat × Nat × Nat) :=
  [(0, otpFrs, 8), (1, otpFrs + 8, 8), (2, otpOwnerKey, 8), (3, otpOwnerKey + 8, 8), (4, otpChain, 12), (5, otpChain + 12, 12)]

/-- The class-O registers loaded from OTP (R9, R440, R472, R403, R486, R492). -/
def State.loadClassO (s : State) : State :=
  let d := (slottedSlots.map fun p => b2n (s.slotAbandoned p.1 p.2.1 p.2.2) * 2 ^ p.1).sum
  let s1 := (s.setF .SEAL_STATUS_EPOCH 0 (s.thermo otpEpoch 128)).setF .TMP_OTP_COUNT_COUNT 0 (s.thermo otpTamper 64)
  let s2 := s1.setFlag .TMP_STATUS_COUNT_SATURATED 0 (decide (2048 ≤ s.thermo otpTamper 64))
  let s3 := s2.setF .LCO_STATE_DIAG_LEFT 0 (16 - ((List.range 16).filter fun b => bit (s.otpWord otpDiagUsed) b).length)
  let s4 := (s3.setF .LCO_FIELD_STATUS_ABANDONED 0 d).setFlag .LCO_STATE_INTENT_PENDING 0 s.pendingIntent.isSome
  let s5 := s4.setFlag .LCO_STATE_WINDOW_OPEN 0 (s.getF .LCO_STATE_STATE 0 == 2 && !bit (s.otpWord otpLocks) windowClosedBit)
  s5.setF .LCO_STATE_COPY_OK 0 ((s.copies.zipIdx.map fun c => b2n (c.1 == s.getF .LCO_STATE_STATE 0) * 2 ^ c.2).sum)

/-! ### Measurements (R52, R200, R490) -/

/-- SHA-384 of bytes. -/
def sha384 (m : List Byte) : List Byte := bytesOf 48 (Config.hash 2 m)

/-- OTP words 0x000 to 0x0AA with the slots of FRS and PRK replaced by zeros. (DESIGN CHOICE: notes/assumptions/41) -/
def State.otpConfig (s : State) : List Byte :=
  (List.range 0xAB).flatMap fun a =>
    if (otpFrs ≤ a ∧ a < otpFrs + 16) ∨ (otpPrk ≤ a ∧ a < otpPrk + 8) then zeros 4 else leBytes 4 (s.otpWord a)

/-- Measurement i, 1 to 6; multi-byte numbers stand least significant first (DESIGN CHOICE, notes/assumptions/41). (DESIGN CHOICE: notes/assumptions/41) -/
def State.measurement (s : State) (i : Nat) : List Byte :=
  match i with
  | 1 => bytesOf 48 (Config.alg "SHA-384 of the Otfen boot ROM" [] [])
  | 2 => sha384 s.seq.bundle
  | 3 => leBytes 4 s.minPatch
  | 4 => leBytes 1 (s.getF .LCO_STATE_STATE 0)
  | 5 => sha384 s.otpConfig
  | _ => leBytes 4 (s.getF .TMP_OTP_COUNT_COUNT 0)

end Sys2Proof.Machine
end

