-- ==== Sys2Proof/Machine/LedgerOps.lean ====
section
/-! DEFINITION. Ledger, streams, sealed store and its anchors: the rows of their opcodes (R187 to R194, R208, R387, R388, R392 to R400). -/
namespace Sys2Proof.Machine

open Sys2Proof

/-! ### Waiting for blocks (R378, R384) -/

/-- A job reads blocks in a way that ends at the second failure of an item (R378). -/
def Job.readsBlocks (j : Job) : Bool := j.opcode == 0x0701 || j.opcode == 0x0603 || j.opcode == 0x0602

/-- The jobs that wait for an item which has failed twice: those that read blocks end with SIG_INVALID 0x0003 (R190, R192, R378). -/
def State.endReaders (s : State) (b : Nat) : State :=
  { s with jobs := s.jobs.map fun j =>
      if j.readsBlocks && !j.computed && j.waitBlocks.any (fun w => w == b || (pathBlocks w).contains b) then
        { j with status := stSigInvalid, detail := 3, computed := true, waitSince := none, waitBlocks := [] }
      else j }

/-- A checked item that fails: discarded, counted, latched, its FETCH posted again after SEAL_RETRY_TIME (R378). -/
def State.itemFailed (s : State) (b : Nat) : State :=
  let s1 : State := { s with store := { s.store with raw := mdel s.store.raw b } }
  let s2 := s1.integrityFail ((s.chanFor b).getD 0) b { op := .fetch, block := b, since := s.now }
  if s.store.failed.contains b then s2.endReaders b else s2

/-- What a block's content still needs asked for, or its failure handled. -/
def State.want (s : State) (b : Nat) : State :=
  match s.blockData b with
  | .ok _ => s
  | .need t => if s.store.retryQ.any fun r => r.1.block == t then s else s.askFetch t
  | .bad t => s.itemFailed t

/-- Placements and reads that a new item lets go on. -/
def State.pump (s : State) : State :=
  let s1 := s.drainPlace s.store.placeQ.length
  let s2 := match s1.store.placeQ with
    | [] => s1
    | p :: _ =>
      match s1.pathNeed p.block with
      | some (.bad t) => s1.itemFailed t
      | _ => s1
  (s2.jobs.flatMap fun j => j.waitBlocks).foldl (fun t b => t.want b) s2

/-- The content of a list of blocks, when all of it is there. -/
def State.readAll (s : State) : List Nat → Option (List Byte)
  | [] => some []
  | b :: t =>
    match s.blockData b with
    | .ok d => (s.readAll t).map fun r => d ++ r
    | _ => none

/-- A job that waits for blocks, what they need asked for. (DEDUCED: notes/assumptions/33) -/
def State.waitFor (s : State) (j : Job) (bs : List Nat) : State :=
  let since := if j.waitBlocks = bs then j.waitSince.getD s.now else s.now
  bs.foldl (fun t b => t.want b) (s.updJob j.q j.idx fun k => { k with waitSince := some since, waitBlocks := bs })

/-! ### Records (R187, R208, R393, R394) -/

/-- LEDGER_APPEND (R187): the payload is the whole input, a passed result first (R138). -/
def execLedgerAppend (q i : Nat) (inp : List Byte) (s : State) : Out :=
  s.onJob q i 0x0600 fun j t => t.endJob j inp { result := j.effIn }

/-- Output bytes that a job will write. -/
def Job.outBytes (j : Job) : List Byte := if j.writesOutput then j.output.take j.outLen else []

/-- The payload of an OUTCOME record (R394). -/
def State.outcome (s : State) (j : Job) : List Byte :=
  leBytes 2 j.opcode ++ leBytes 1 j.paramset ++ leBytes 1 j.flags ++ leBytes 4 j.tag ++ leBytes 4 j.handle ++
    leBytes 2 (j.q - s.getF .SLC_SLICE_QUEUES_QBASE j.slice) ++ leBytes 2 j.idx ++ leBytes 4 (j.result % 2 ^ 31) ++ leBytes 4 j.inLen ++
    leBytes 4 j.outBytes.length ++ zeros 4 ++ (if j.inputRead then sha3 j.input else zeros 32) ++
    (if j.outBytes = [] then zeros 32 else sha3 j.outBytes)

/-- The record of a job that has its outcome. -/
def State.jobRecord (s : State) (j : Job) (seq st : Nat) : Rec :=
  { seq := seq, time := j.time, slice := j.slice, status := j.status, detail := j.detail
    kind := if j.opcode = 0x0600 then (if j.slice = 0 ∧ st = 0 then 5 else 1) else 2
    payload := if j.short then [] else if j.opcode = 0x0600 then (if j.inputRead then j.full j.input else []) else s.outcome j }

/-- The record of a sequence number has been handed over. -/
def State.recordGiven (s : State) (st seq : Nat) : Bool :=
  decide (seq < (s.stream st).placed) || (s.stream st).waiting.any fun r => r.seq == seq

/-- RECORD_PLACE (R208, R393 to R396): the record of a job whose outcome is known is given to Quire, which places it once its
predecessor is placed. -/
def execRecordPlace (q i : Nat) (s0 : State) : Out := s0.clocked fun s =>
  match s.job? q i with
  | none => .next s
  | some j =>
    match j.stream, j.seq with
    | some st, some seq =>
      if j.stage = .done ∨ !j.computed ∨ s.recordGiven st seq then .next s
      else .next (s.giveRecord st { seq := seq, bytes := (s.jobRecord j seq st).bytes, owner := some (q, i) })
    | _, _ => .next s

/-! ### Checkpoints, proofs, reading (R188 to R190, R399, R400) -/

/-- Sets that take a context. -/
def takesContext (ps : Nat) : Bool := isMlDsa ps || isSlhDsa ps || ps == 0x39

/-- The checkpoint body (R399). -/
def State.checkpointBody (s : State) (j : Job) (st : Nat) : List Byte :=
  [0x55, 0x4D, 0x56, 0x43, 0x01] ++ leBytes 1 st ++ leBytes 1 (s.getF .QRE_STREAM_STATE_HASH st) ++ leBytes 1 j.time.grade ++ leBytes 8 j.size ++
    leBytes 6 j.time.sec ++ zeros 2 ++ leBytes 4 j.time.ns ++ leBytes 2 s.epoch ++ zeros 2 ++ padTo 32 (s.rootAt st j.size) ++ s.serial ++
    padTo 16 s.store.storeId ++ sha3 (s.jobKey j).pub ++ zeros 8

/-- LEDGER_CHECKPOINT (R188, R399): waits until every record below N has been placed. -/
def execLedgerCheckpoint (q i : Nat) (s : State) : Out :=
  s.onJob q i 0x0601 fun j t =>
    let st := bits j.aux 7 0
    if (t.stream st).placed < j.size then t else
    let body := t.checkpointBody j st
    t.sign j [] { (j.sigIn []) with digest := false, ctx := if takesContext j.paramset then label "UMVOR.QUIRE.CKPT" else [], msg := body } fun u sg =>
      let x := u.stream st
      (u.setStream st { x with latest := max x.latest j.size }).endJob j [] { result := (body ++ sg).length, output := body ++ sg, ext := some j.size }

/-- The device blocks that hold records k to the last of a run of bytes of a folio. (DESIGN CHOICE: notes/assumptions/21) -/
def StreamX.folioBlocks (x : StreamX) (folio first last : Nat) : List Nat :=
  (List.range (last / 4096 + 1 - first / 4096)).map fun k => x.folioAt.getD folio 0 + first / 4096 + k

/-- The device blocks that a node or a leaf of the range is read from. (DESIGN CHOICE: notes/assumptions/21) -/
def StreamX.nodeBlocks (x : StreamX) (p : Nat × Nat) : List Nat :=
  if p.1 = 0 then
    let r := x.records.getD p.2 (0, 64, 8)
    x.folioBlocks r.1 r.2.1 (r.2.1 + r.2.2 - 1)
  else
    let k := nodeNumber p.1 p.2 / 128
    [x.nodeAt.getD (k / 16) 0 + k % 16]

/-- The proof of a job once every block it reads is there. -/
def State.prove (s : State) (j : Job) (kind : Nat) (nodes : List (Nat × Nat)) (hs : List (List Byte)) (size : Nat) : State :=
  let st := bits j.aux 7 0
  let bs := (nodes.flatMap (s.stream st).nodeBlocks).dedup
  match s.readAll bs with
  | none => s.waitFor j bs
  | some _ =>
    let o := proofBytes kind st hs.length j.arg0 size (s.rootAt st size) hs
    s.endJob j [] { result := o.length, output := o, ext := some size }

/-- The size that a proof is about: ARG1, or the latest checkpoint (R189). -/
def State.proofSize (s : State) (j : Job) : Nat := if j.arg1 = 0 then (s.stream (bits j.aux 7 0)).latest else j.arg1

/-- LEDGER_PROVE code 0x00 (R189, R400). -/
def execLedgerProveInclusion (q i : Nat) (s : State) : Out :=
  s.onJob q i 0x0602 fun j t =>
    if j.paramset ≠ 0 then t else
    let st := bits j.aux 7 0
    let n := t.proofSize j
    if (t.stream st).latest < n ∨ n ≤ j.arg0 then t.endJob j [] (failed stInputRejected 3) else
    t.prove j 0 (inclusionNodes j.arg0 n) (t.inclusion st j.arg0 n) n

/-- LEDGER_PROVE code 0x01 (R189, R400). -/
def execLedgerProveConsistency (q i : Nat) (s : State) : Out :=
  s.onJob q i 0x0602 fun j t =>
    if j.paramset ≠ 1 then t else
    let st := bits j.aux 7 0
    let n := t.proofSize j
    if (t.stream st).latest < n ∨ n < j.arg0 then t.endJob j [] (failed stInputRejected 3) else
    t.prove j 1 (consistencyNodes j.arg0 n) (t.consistency st j.arg0 n) n

/-- LEDGER_READ (R190): from a record to the end of its folio, without the folio's header. -/
def execLedgerRead (q i : Nat) (s : State) : Out :=
  s.onJob q i 0x0603 fun j t =>
    let x := t.stream (bits j.aux 7 0)
    match x.records[j.arg0]? with
    | none => t.endJob j [] (failed stInputRejected 3)
    | some (folio, off, _) =>
      let l := (x.records.drop j.arg0).takeWhile fun r => r.1 == folio
      let n := (l.map fun r => r.2.2).sum
      let bs := x.folioBlocks folio off (off + n - 1)
      match t.readAll bs with
      | none => t.waitFor j bs
      | some d => t.endJob j [] { result := n, output := bslice d (off % 4096) n, ext := some (j.arg0 + l.length) }

/-! ### Streams (R191, R392, R396) -/

/-- A stream made OPEN for an owner, with a first folio and a spare; none when no folio can be had. -/
def State.makeStream (s : State) (st owner hash : Nat) (job : Option (Nat × Nat)) : Option State :=
  match s.takeArea with
  | (none, _) => none
  | (some a, s1) =>
    let s2 := s1.setStream st { folioAt := [a] }
    let s3 := (((s2.setF .QRE_STREAM_STATE_STATE st 1).setF .QRE_STREAM_STATE_OWNER st owner).setF .QRE_STREAM_STATE_HASH st hash).setF
      .QRE_STREAM_SIZE_SIZE st 0
    some (((s3.setF .QRE_STATUS_OPEN 0 (s3.getF .QRE_STATUS_OPEN 0 + 1)).trySpare st).placeStreamState st job)

/-- The lowest free stream from 1 to 255. -/
def State.freeStream (s : State) : Option Nat := ((List.range 255).map (· + 1)).find? fun n => s.getF .QRE_STREAM_STATE_STATE n == 0

/-- STREAM_OPEN (R191): the quota was checked at decode. (DEDUCED: notes/assumptions/39) -/
def execStreamOpen (q i : Nat) (s : State) : Out :=
  s.onJob q i 0x0604 fun j t =>
    match t.freeStream with
    | none => t.endJob j [] (failed stNoPages 0)
    | some n =>
      match t.makeStream n j.slice (bits j.arg0 7 0) (some (q, i)) with
      | none => t.endJob j [] (failed stNoPages 0)
      | some u => u.endJob j [] { result := n }

/-- STREAM_CLOSE (R191): waits for every entry that appends to the stream and was accepted before it. (DEDUCED: notes/assumptions/39) -/
def execStreamClose (q i : Nat) (s : State) : Out :=
  s.onJob q i 0x0605 fun j t =>
    let st := bits j.aux 7 0
    if t.jobs.any fun k => k.live && decide (k.stamp < j.stamp) && k.stream == some st then t else
    let t1 := (t.setF .QRE_STREAM_STATE_STATE st 2).setF .QRE_STATUS_OPEN 0 (t.getF .QRE_STATUS_OPEN 0 - 1)
    (t1.placeStreamState st (some (q, i))).endJob j [] { ext := some (t.getF .QRE_STREAM_SIZE_SIZE st) }

/-! ### Sealed store (R192 to R194) -/

/-- An earlier entry that touches one of a job's blocks has not taken effect (R193). -/
def State.blockBusy (s : State) (j : Job) : Bool :=
  s.jobs.any fun k => k.live && !k.computed && (k.opcode == 0x0700 || k.opcode == 0x0701) && k.checked && decide (k.stamp < j.stamp) &&
    (s.jobBlocks k).any fun b => (s.jobBlocks j).contains b

/-- SEAL_WRITE (R192, R193, R374, R377): each block placed or discarded. -/
def execSealWrite (q i : Nat) (inp : List Byte) (s : State) : Out :=
  s.onJob q i 0x0700 fun j t =>
    if t.blockBusy j then t else
    let d := j.full inp
    let t1 := (List.range j.sealCount).foldl (fun u k =>
      let b := u.getF .SEAL_RANGE_SLICE_BASE j.slice + j.sealFirst + k
      if bit j.aux 0 then
        { u with store := { u.store with occupied := mdel u.store.occupied b } }.discardBlock b (some (q, i))
      else
        { u with store := { u.store with occupied := nset 0 u.store.occupied b (j.slice + 1) } }.place b (bslice d (4096 * k) 4096) (some (q, i))) t
    t1.endJob j inp { result := j.sealCount }

/-- SEAL_READ (R192, R193). -/
def execSealRead (q i : Nat) (s : State) : Out :=
  s.onJob q i 0x0701 fun j t =>
    if t.blockBusy j then t else
    match t.readAll (t.jobBlocks j) with
    | none => t.waitFor j (t.jobBlocks j)
    | some d => t.endJob j [] { result := d.length, output := d }

/-- SEAL_ANCHOR code 0x00 (R194, R387): the open group closes, and the job waits until it is durable. -/
def execSealAnchorWarm (q i : Nat) (s : State) : Out :=
  s.onJob q i 0x0702 fun j t =>
    if j.paramset ≠ 0 then t else
    if t.flag .PWR_STATUS_BRACE 0 then t.updJob q i fun k => k.startWait t.now [] else
    (t.askClose.endJob j [] { ext := some t.epoch }).updJob q i fun k => { k with needCommit := t.store.commit }

/-! ### Cold anchors (R363, R388) -/

/-- The ACTIVE custody records whose keys are not quarantined. -/
def State.activeCustody (s : State) : List Nat :=
  (s.kv.custody.filter fun e => !e.2.destroyed &&
    !(s.kv.keys.any fun k => k.2.used && k.2.custody == some e.1 && k.2.quarantined)).map Prod.fst

/-- KV_WINDOW_BLOCKS blocks of a record, in indices. -/
def State.windowSize (s : State) (c : CustodyX) : Nat := s.windowBlocks * c.block

/-- Steps 2 and 3 of R363 with step 1 of R388: blocks beyond the one in use released, the next window written as pending, the
group that carries it marked PREPARED. -/
def State.coldPrepare (s : State) : State :=
  let s1 := { s with store := { s.store with prepared := true } }
  let s2 := s1.activeCustody.foldl (fun t n =>
    let c := t.cust n
    let e := min c.useEnd c.resEnd
    t.writeCust n { c with resEnd := e, pendEpoch := s.epoch + 1, pendCeil := min (e + t.windowSize c) c.n } none) s1
  { s2.askClose with store := { s2.askClose.store with coldStep := 2, coldCommit := s2.store.commit } }

/-- A cold anchor started, or gone on from step 1 once every custody write is durable. (DEDUCED: notes/assumptions/47) -/
def State.coldStart (s : State) : State :=
  let s1 : State := { s with kv := { s.kv with coldHeld := true } }
  if (s1.kv.custody.any fun e => e.2.raising.isSome) then { s1 with store := { s1.store with coldStep := 1 } } else s1.coldPrepare

/-- The epoch bit has been burned (steps 3 and 4 of R388, 4 and 5 of R363): the anchor register takes e + 1, the windows are in
force, and the next group carries the records. -/
def State.coldBurned (s : State) : State :=
  let a := s.store.anchor
  let s1 := (if s.kv.bbk.isSome then s.setAnchor
      { a with epoch := s.epoch, mac := bytesOf 8 (Config.kmac256 s.kAnchor (leBytes 2 s.epoch ++ leBytes 8 a.commit ++ a.digest) [] 32) } else s)
  let s2 : State := { s1 with store := { s1.store with prepared := false } }
  let s3 := (s2.kv.custody.map Prod.fst).foldl (fun t n =>
    let c := t.cust n
    if c.pendCeil = 0 then t
    else t.writeCust n { c with winEpoch := c.pendEpoch, ceil := c.pendCeil, pendEpoch := 0, pendCeil := 0 } none) s2
  let s4 := s3.askClose
  { s4 with store := { s4.store with coldStep := 4, coldCommit := s4.store.commit } }

/-- A cold anchor whose last group is durable: held raises go on, the journal records the new epoch (R388, R535). -/
def State.coldDone (s : State) : State :=
  let s1 : State := { s with kv := { s.kv with coldHeld := false }, store := { s.store with coldStep := 0 } }
  let s2 := if s.store.force then { s1 with store := { s1.store with force := false } }.setF .SEAL_STATUS_STATE 0 2 else s1
  (s2.journal 0x0003 (leBytes 2 s.epoch)).settleCustody

/-- The steps of a cold anchor that follow from what has become durable. Its epoch bit is asked of LCO once the prepared group is. (DEDUCED: notes/assumptions/47) -/
def State.coldAdvance (s : State) : State :=
  match s.store.coldStep with
  | 1 => s.coldStart
  | 2 =>
    if s.durable s.store.coldCommit then
      match s.thermoNext otpEpoch 128 with
      | some w => { s with store := { s.store with coldStep := 3 } }.otpAsk { why := .epoch false, words := [w] }
      | none => s
    else s
  | 4 => if s.durable s.store.coldCommit then s.coldDone else s
  | 5 => if s.flag .PWR_STATUS_BRACE 0 then s else s.coldBurned
  | _ => s

/-- SEAL_ANCHOR code 0x01 (R194, R363, R388): started when no other cold anchor runs; the job waits until its last group is durable. (DEDUCED: notes/assumptions/47) -/
def execSealAnchorCold (q i : Nat) (s : State) : Out :=
  s.onJob q i 0x0702 fun j t =>
    if j.paramset ≠ 1 then t else
    if j.phase = 0 then
      if t.flag .PWR_STATUS_BRACE 0 ∨ t.store.coldStep ≠ 0 then t.updJob q i fun k => k.startWait t.now []
      else (t.coldStart).updJob q i fun k => { k.startWait t.now [] with phase := 1 }
    else if t.store.coldStep = 0 then t.endJob j [] { ext := some t.epoch } else t.coldAdvance

/-- COLD_ANCHOR_EPOCH_BURN (R388, R488): the prepared group is durable and LCO has burned the next epoch bit; ok tells whether the
bit read back. Under the brace no burn starts, one under way ends, and the anchor write waits (R381, R505). (DEDUCED: notes/assumptions/47) -/
def execColdAnchorEpochBurn (ok : Bool) (s0 : State) : Out := s0.clocked fun s00 =>
  let s := s00.coldAdvance
  match s.lco.ops with
  | o :: rest =>
    if o.why ≠ .epoch false ∨ s.store.coldStep ≠ 3 ∨ !s.lco.started then .next s else
    if !ok then .next ((s.raiseErr blkLCO 0 0 ((o.words.map Prod.fst).headD 0)).count .LCO_OTP_RETRY_COUNT_COUNT 0 1) else
    let s1 := o.words.foldl (fun t w => (t.burn w.1 w.2).count .LCO_OTP_WRITE_COUNT_COUNT 0 1) s
    let s2 : State := { s1 with lco := { s1.lco with ops := rest, started := false }, store := { s1.store with coldStep := 5 } }
    .next s2.otpShow.loadClassO.coldAdvance
  | [] => .next s

end Sys2Proof.Machine
end

