-- ==== Sys2Proof/Machine/Farm.lean ====
section
/-! DEFINITION. The hash farm: sessions, calls, cores (R287 to R301). -/
namespace Sys2Proof.Machine

open Sys2Proof

/-! ### Cores and sessions (R287 to R289) -/

/-- The kind of a core: 0 unmasked Keccak, 1 masked Keccak, 2 unmasked SHA-2, 3 masked SHA-2. -/
def coreKind (c : Nat) : Nat := if c < 16 then 0 else if c < 24 then 1 else if c < 30 then 2 else 3

/-- The kind of core that a call takes. -/
def HCall.kind (h : HCall) : Nat := 2 * b2n h.sha2 + b2n h.masked

/-- The string consumer whose randomness a masked core draws (R294). -/
def coreGen (c : Nat) : Nat := if c < 24 then 32 + (c - 16) else 40 + (c - 30)

/-- The requester of a session: 0 to 31 Marionette cores, 32 to 95 walkers, 96 CDE, 97 Quire, 98 SEAL, 99 KV. -/
def requesterOf (n : Nat) : Nat := if n < 128 then n / 4 else if n < 640 then 32 + (n - 128) / 8 else 96 + (n - 640) / 32

/-- An entry of the session store. -/
def State.session (s : State) (n : Nat) : FSess := nget {} s.hsh.sess n

/-- An entry of the session store replaced. -/
def State.setSession (s : State) (n : Nat) (x : FSess) : State := { s with hsh := { s.hsh with sess := nset {} s.hsh.sess n x } }

/-- A core is in service. -/
def State.hashOn (s : State) (c : Nat) : Bool := s.unitOn .HSH_CORE_ENABLE_EN .HSH_CORE_ONLINE_ONLINE c

/-- The call in flight on a core: its session. -/
def State.servedBy (s : State) (c : Nat) : Option Nat :=
  (s.hsh.sess.find? fun e => e.2.flight.elim false fun f => f.1 == c).map Prod.fst

/-- Cores of a kind in service. -/
def State.coresOf (s : State) (kind : Nat) : List Nat := (List.range 32).filter fun c => coreKind c == kind && s.hashOn c

/-- A call of a kind waits. -/
def State.kindWaits (s : State) (kind : Nat) : Bool := s.hsh.sess.any fun e => e.2.ready.elim false fun h => h.kind == kind

/-- The core that a call can start on now: an idle one of its kind, with masks for a masked call, another one than that of a failed
check when there is another; a masked SHA-2 core for an unmasked SHA-2 call while no masked one waits (R288, R295, R298). Of several, the one with the lowest
number: R14 names none. (DEDUCED: notes/assumptions/66) -/
def State.coreFor (s : State) (h : HCall) : Option Nat :=
  let own := s.coresOf h.kind
  let own' := if (own.filter fun c => h.avoid != some c).isEmpty then own else own.filter fun c => h.avoid != some c
  let free := fun c => (s.servedBy c).isNone && (!h.masked || !s.genStalled (coreGen c))
  (own'.find? free).orElse fun _ =>
    if h.kind = 2 ∧ !s.kindWaits 3 then (s.coresOf 3).find? fun c => (s.servedBy c).isNone else none

/-- No core of a masked call's kind has masks (R295). -/
def State.maskless (s : State) (h : HCall) : Bool := h.masked && (s.coresOf h.kind).all fun c => s.genStalled (coreGen c)

/-- A kind has no core in service, nor one that lends itself. (DEDUCED: notes/assumptions/66) -/
def State.noCore (s : State) (h : HCall) : Bool := (s.coresOf h.kind).isEmpty && (h.kind != 2 || (s.coresOf 3).isEmpty)

/-! ### Failed sessions (R295, R298, R299) -/

/-- The unit and cause with which a requester's job ends when a session fails. (DEDUCED: notes/assumptions/66) -/
def sessionFault (n cause : Nat) : Nat × Nat :=
  if n < 128 then (1, 6) else if n < 640 then (2, cause) else if n < 672 then (3, 6) else if n < 704 then (7, 3) else if n < 736 then (8, 3) else (2, cause)

/-- A session fails: counted, closed, recorded, and its job becomes an engine fault. (DEDUCED: notes/assumptions/66) -/
def State.failSession (s : State) (n cause core : Nat) : State :=
  let x := s.session n
  let f := sessionFault n cause
  let s1 := ((s.setSession n {}).count .HSH_SESSION_FAIL_COUNT_COUNT 0 1).raiseFault 2 cause core 0
  let s2 := if f.1 = 2 then s1 else s1.raiseFault f.1 f.2 (if n < 128 then n / 4 else 0) 0
  match x.owner.bind fun p => s.job? p.1 p.2 with
  | none => s2
  | some j => s2.engineFault j f.1 f.2 none

/-! ### Taking calls (R288, R291, R292) -/

/-- The sessions with a ready call of a kind that can start. -/
def State.startable (s : State) (kind : Nat) : List Nat :=
  (s.hsh.sess.filter fun e => e.2.flight.isNone && e.2.ready.elim false fun h => h.kind == kind && (s.coreFor h).isSome).map Prod.fst

/-- The session whose call is taken next: that of the first requester after the one served last (R291);
of several ready calls of that requester, the one of its session with the lowest number: R14 and R291 name none. (DEDUCED: notes/assumptions/66) -/
def State.nextSession (s : State) (kind : Nat) : Option Nat :=
  let l := s.startable kind
  let after := nget 0 s.hsh.last kind
  ((List.range 100).map fun k => (after + k) % 100).findSome? fun r => l.find? fun n => requesterOf n == r

/-- The most blocks that a call runs in a row: 16 on a lent core; HSH_STREAM_LIMIT while other calls of its kind wait (R288, R292). (DEDUCED: notes/assumptions/66) -/
def State.runLength (s : State) (h : HCall) (core : Nat) (others : Bool) : Nat :=
  let lim := max 1 (s.getF .HSH_STREAM_LIMIT_BLOCKS 0)
  let a := if others then min h.blocks lim else h.blocks
  if coreKind core ≠ h.kind then min a 16 else a

/-- A call started: what exceeds its run stays ready (R288, R292). -/
def State.startCall (s : State) (n : Nat) (h : HCall) (core : Nat) : State :=
  let x := s.session n
  let others := s.hsh.sess.any fun e => e.1 != n && e.2.ready.elim false fun g => g.kind == h.kind
  let len := s.runLength h core others
  let rest := if len < h.blocks then some { h with blocks := h.blocks - len, stalled := none } else none
  let s1 := s.setSession n { x with ready := rest, flight := some (core, { h with blocks := len, fin := h.fin && rest.isNone, stalled := none }) }
  let s2 : State := { s1 with hsh := { s1.hsh with last := nset 0 s1.hsh.last h.kind (requesterOf n + 1) } }
  if coreKind core ≠ h.kind then s2.count .HSH_BORROW_COUNT_COUNT 0 1 else s2

/-- A masked call that finds no core with masks is marked, and counted once (R295). -/
def State.markStalls (s : State) : State :=
  s.hsh.sess.foldl (fun (t : State) e =>
    match e.2.ready with
    | some h =>
      if t.maskless h && h.stalled.isNone && e.2.flight.isNone && !t.noCore h then
        (t.setSession e.1 { e.2 with ready := some { h with stalled := some t.now } }).count .HSH_MASK_STALL_COUNT_COUNT 0 1
      else t
    | none => t) s

/-- Ready calls taken, while cores are free for them; calls of a kind without any core fail their sessions (R299). -/
def State.farmTake (s : State) : Nat → State
  | 0 => s.markStalls
  | f + 1 =>
    match s.hsh.sess.find? fun e => e.2.flight.isNone && e.2.ready.elim false fun h => s.noCore h with
    | some e => (s.failSession e.1 3 0).farmTake f
    | none =>
      match (List.range 4).findSome? fun k => s.nextSession k with
      | none => s.markStalls
      | some n =>
        match (s.session n).ready with
        | none => s.markStalls
        | some h =>
          match s.coreFor h with
          | none => s.markStalls
          | some c => (s.startCall n h c).farmTake f

/-- The farm's round with fuel for every session. -/
def State.farm (s : State) : State := s.farmTake (s.hsh.sess.length + 1)

/-- A session is one that a job's requester may use (R289). -/
def State.maySession (s : State) (n : Nat) (j : Job) : Bool :=
  decide (n < 768) && j.live &&
    (if n < 128 then (s.busyQuarters.any fun e => e.1 == n / 4 && (s.quarter e.1 e.2).job == some (j.q, j.idx))
     else if n < 640 then j.pools.contains .HSH && j.slot == some ((n - 128) / 8)
     else if n < 672 then j.pools.contains .CDE else true) &&
    (s.session n).owner.elim true (fun p => p == (j.q, j.idx)) && !(s.session n).closing

/-- A call issued by a session: it joins the ready list. A call that comes while another is ready breaks the rules of R290: cause PROTOCOL. (DEDUCED: notes/assumptions/66) -/
def State.issueCall (s : State) (n : Nat) (j : Job) (h : HCall) : State :=
  let x := s.session n
  if x.ready.isSome then s.failSession n 4 0
  else (s.setSession n { x with st := max 1 x.st, owner := some (j.q, j.idx), ready := some h }).farm

/-! ### Commands -/

/-- HASH_CALL_START (R288, R291, R292, R295): a session of a job issues a call, and the farm takes ready calls. -/
def execHashCallStart (n q i : Nat) (sha2 masked fin : Bool) (blocks : Nat) (s0 : State) : Out := s0.clocked fun s =>
  match s.job? q i with
  | none => .next s
  | some j =>
    if !s.maySession n j then .next s
    else .next (s.issueCall n j { sha2 := sha2, masked := masked && j.masksCalls, fin := fin, blocks := max 1 blocks })

/-- HASH_CHAIN_CALL (R293): a session of a job issues a chain of 1 to 16 steps; any other step count breaks the rules. -/
def execHashChainCall (n q i : Nat) (masked : Bool) (start pos steps : Nat) (value adrs : List Byte) (s0 : State) : Out := s0.clocked fun s =>
  match s.job? q i with
  | none => .next s
  | some j =>
    if !s.maySession n j then .next s
    else if steps = 0 ∨ 16 < steps then .next (s.failSession n 4 0)
    else .next (s.issueCall n j { sha2 := true, masked := masked && j.masksCalls, blocks := steps, steps := steps, pos := start + pos, data := value, adrs := adrs })

/-- A core's failed check: four within one second take it offline (R299). (DEDUCED: notes/assumptions/66) -/
def State.coreCheckFailed (s : State) (c : Nat) : State :=
  let l := recent s.now 1000000000 (nget [] s.hsh.fails c) ++ [s.now]
  let s1 := ({ s with hsh := { s.hsh with fails := nset [] s.hsh.fails c l } }).count .HSH_CHECK_ERROR_COUNT_COUNT 0 1
  if l.length < 4 ∨ !bit (s.getF .HSH_CORE_ONLINE_ONLINE 0) c then s1 else
  let s2 := (s1.setF .HSH_CORE_ONLINE_ONLINE 0 (setBits (s1.getF .HSH_CORE_ONLINE_ONLINE 0) c c 0)).count .HSH_CORE_OFFLINE_COUNT_COUNT 0 1
  s2.raiseErr blkHSH 2 c 0

/-- The value that a chain call returns (R293). -/
def HCall.chainValue (h : HCall) : List Byte :=
  bytesOf h.data.length (Config.alg "Winternitz chain" [h.pos, h.steps] [h.data, h.adrs])

/-- A call that has passed its checks: counted, its state written back. -/
def State.callDone (s : State) (c n : Nat) (h : HCall) : State :=
  let x := s.session n
  let s1 := s.count .HSH_CALL_COUNT_COUNT (coreKind c) 1
  if x.closing then s1.setSession n {} else
  s1.setSession n { x with flight := none, st := if h.fin then 2 else x.st, value := if h.steps = 0 then x.value else h.chainValue }

/-- HASH_CALL_END (R292, R296 to R299): the call on a core ends; good tells whether its checks passed, storeOk whether the session's words were
correctable. A failed call is discarded and repeated once on another core; a second failure fails the session. -/
def execHashCallEnd (c : Nat) (good storeOk : Bool) (s0 : State) : Out := s0.clocked fun s =>
  match s.servedBy c with
  | none => .next s
  | some n =>
    match (s.session n).flight with
    | none => .next s
    | some (_, h) =>
      let s1 := if good then s else s.coreCheckFailed c
      if (s.session n).closing then .next (if good then (s1.callDone c n h).farm else (s1.setSession n {}).farm)
      else if !storeOk then .next (s1.failSession n 2 c).farm
      else if good then .next (s1.callDone c n h).farm
      else if h.retried then .next (s1.failSession n 1 c).farm
      else
        let x := s1.session n
        let again : HCall := { h with retried := true, avoid := some c, blocks := h.blocks + (x.ready.elim 0 fun r => r.blocks),
                                      fin := x.ready.elim h.fin fun r => r.fin }
        .next ((s1.setSession n { x with flight := none, ready := some again }).count .HSH_CALL_RETRY_COUNT_COUNT 0 1).farm

/-- MASKED_CALL_WAIT_TIMEOUT (R295): the session of a masked call that has waited ENT_WAIT_LIMIT fails with the entropy unit's reason: its job
ends ENTROPY_UNAVAILABLE. (DEDUCED: notes/assumptions/97) -/
def execMaskedCallWaitTimeout (n : Nat) (s0 : State) : Out := s0.clocked fun s =>
  match (s.session n).ready with
  | none => .next s
  | some h =>
    if h.stalled.isNone then .next s else
    let s1 := s.setSession n {}
    match (s.session n).owner.bind fun p => s.job? p.1 p.2 with
    | none => .next s1
    | some j =>
      .next (((s1.letGo j).updJob j.q j.idx fun k =>
        { k with status := stEntropy, detail := s.entropyDetail j, computed := true, stage := .ended, pools := [], resPools := [], core := none,
                 slot := none, slots := [], entSince := none }).count .ENT_TIMEOUT_COUNT_COUNT 0 1)

/-- Each kind of core keeps one in service under an enable mask (R299). -/
def State.hashMaskOk (s : State) (v : Nat) : Bool :=
  [(15, 0), (23, 16), (29, 24), (31, 30)].all fun r => bits (v &&& s.getF .HSH_CORE_ONLINE_ONLINE 0) r.1 r.2 != 0

/-- HSH_CORE_ENABLE_WRITE (R299): refused when a kind would be left with no core both enabled and online. -/
def execHshCoreEnableWrite (v : W32) (s0 : State) : Out := s0.mmio fun s =>
  let s1 := s.backOnline .HSH_CORE_ENABLE_EN .HSH_CORE_ONLINE_ONLINE v.toNat
  if s1.hashMaskOk v.toNat then .next (s1.setF .HSH_CORE_ENABLE_EN 0 v.toNat).farm
  else .next (s.count .HSH_CFG_REFUSED_COUNT_COUNT 0 1)

end Sys2Proof.Machine
end

