-- ==== Sys2Proof/Machine/MarLanes.lean ====
section
/-! DEFINITION. Lanes of a Marionette vector and the arithmetic of the units on them (R229, R234 to R237, R272 to R275). -/
namespace Sys2Proof.Machine

open Sys2Proof

/-- Lane width of a mode: 0 N, 1 D, 2 Q, 3 S (R229, R265). -/
def laneW (mode : Nat) : Nat := if mode = 0 then 14 else if mode = 2 then 56 else 28

/-- Lanes of a register in a mode; a scalar has one. -/
def laneN (mode : Nat) : Nat := if mode = 0 then 32 else if mode = 1 then 16 else if mode = 2 then 8 else 1

/-- Lane i of a value. -/
def lane (w v i : Nat) : Nat := v / 2 ^ (w * i) % 2 ^ w

/-- Lanes put side by side, lane 0 lowest. -/
def packLanes (w : Nat) : List Nat → Nat
  | [] => 0
  | x :: t => x % 2 ^ w + 2 ^ w * packLanes w t

/-- A value of n lanes given lane by lane. -/
def buildLanes (w n : Nat) (f : Nat → Nat) : Nat := packLanes w ((List.range n).map f)

/-- An operation applied to the lanes of two values. -/
def lanes2 (mode : Nat) (f : Nat → Nat → Nat) (a b : Nat) : Nat :=
  buildLanes (laneW mode) (laneN mode) fun i => f (lane (laneW mode) a i) (lane (laneW mode) b i)

/-- A result that is negative or too large, cut to w bits. -/
def wrapInt (w : Nat) (x : Int) : Nat := fromSigned w x

/-- A shift amount's effect: at or above the width it gives 0 (R272). -/
def shl (w t a : Nat) : Nat := if w ≤ a then 0 else t * 2 ^ a % 2 ^ w
def shr (w t a : Nat) : Nat := if w ≤ a then 0 else t / 2 ^ a
def sar (w t a : Nat) : Nat := wrapInt w (toSigned w t / ((2 ^ (min a w) : Nat) : Int))

/-- The operations that ALU and VALU share, 0x00 to 0x0A, on one lane of w bits (R272). -/
def laneAlu (f w t a : Nat) : Nat :=
  match f with
  | 0x00 => (t + a) % 2 ^ w
  | 0x01 => (t + 2 ^ w - a) % 2 ^ w
  | 0x02 => t &&& a
  | 0x03 => t ||| a
  | 0x04 => t ^^^ a
  | 0x05 => t - (t &&& a)
  | 0x06 => shl w t (a % 32)
  | 0x07 => shr w t (a % 32)
  | 0x08 => sar w t (a % 32)
  | 0x09 => min t a
  | _ => max t a

/-- An ALU result on R (R272). -/
def aluOp (f w t a : Nat) : Nat :=
  match f with
  | 0x0B => t * a % 2 ^ w
  | 0x0C => t
  | 0x0D => b2n (t == a)
  | 0x0E => b2n (t != a)
  | 0x0F => b2n (decide (t < a))
  | 0x10 => b2n (decide (toSigned w t < toSigned w a))
  | 0x11 => b2n (decide (t ≤ a))
  | _ => laneAlu f w t a

/-- A VALU compare on one lane. -/
def valuCmp (f w t a : Nat) : Bool :=
  match f with
  | 0x0D => t == a
  | 0x0E => decide (t < a)
  | _ => decide (toSigned w t < toSigned w a)

/-- The other one-lane operations of VALU. -/
def valuLane (f w t a : Nat) : Nat :=
  match f with
  | 0x0B => if toSigned w t ≤ toSigned w a then t else a
  | 0x0C => if toSigned w t ≤ toSigned w a then a else t
  | 0x12 => t * a % 2 ^ w
  | _ => laneAlu f w t a

/-! ### Modular arithmetic (R234 to R237) -/

/-- The n low bits of a number reversed. -/
def bitRev (n i : Nat) : Nat := (List.range n).foldl (fun v k => v + b2n (bit i k) * 2 ^ (n - 1 - k)) 0

/-- A table's own modulus; the RAM has none (R237). -/
def tableMod (t : Nat) : Option Nat := if t = 0 then some 3329 else if t = 1 then some 8380417 else if t = 2 then some 12289 else none

/-- Entries of a table. -/
def tableLen (t : Nat) : Nat := if t = 0 then 128 else if t = 1 then 256 else if t = 2 then 1024 else 2048

/-- A ROM entry (R237). -/
def romEntry (t i : Nat) : Nat :=
  if t = 0 then powMod 3329 7 17 (bitRev 7 i) else if t = 1 then powMod 8380417 8 1753 (bitRev 8 i) else powMod 12289 10 7 (bitRev 10 i)

/-- A twiddle with NEG applied. -/
def twiddle (q e : Nat) (neg : Bool) : Nat := if neg then (q - e % q) % q else e % q

/-- The Cooley–Tukey and Gentleman–Sande butterflies of one lane (R236). -/
def butterfly (gs : Bool) (q z a b : Nat) : Nat × Nat :=
  if gs then ((a + b) % q, z * ((a % q + q - b % q) % q) % q) else ((a + z * b) % q, (a % q + q - z * b % q) % q)

/-- The modular operations of MADD on one lane: 0 ADD, 1 SUB, 2 RED, 3 NEG, 4 CENT (R272). -/
def maddLane (f w q t a : Nat) : Nat :=
  match f with
  | 0 => (t + a) % q
  | 1 => (t % q + q - a % q) % q
  | 2 => t % q
  | 3 => (q - t % q) % q
  | _ => if (q + 1) / 2 ≤ t % q then wrapInt w (((t % q : Nat) : Int) - ((q : Nat) : Int)) else t % q

/-! ### Fixed point (R275) -/

/-- A signed result held to w bits; whether it saturated. -/
def satS (w : Nat) (x : Int) : Nat × Bool :=
  let hi : Int := ((2 ^ (w - 1) : Nat) : Int) - 1
  let lo : Int := -((2 ^ (w - 1) : Nat) : Int)
  if hi < x then (wrapInt w hi, true) else if x < lo then (wrapInt w lo, true) else (wrapInt w x, false)

/-- An unsigned result held to w bits. -/
def satU (w : Nat) (x : Int) : Nat × Bool :=
  if x < 0 then (0, true) else if ((2 ^ w : Nat) : Int) ≤ x then (2 ^ w - 1, true) else (x.toNat, false)

/-- x / 2^s rounded to nearest, ties to even. -/
def roundEven (x : Int) (s : Nat) : Int :=
  if s = 0 then x else
  let d : Int := ((2 ^ s : Nat) : Int)
  let f := x / d
  let r := x % d
  if 2 * r < d then f else if d < 2 * r then f + 1 else if f % 2 = 0 then f else f + 1

/-- FXP on one lane of w bits: the result and whether it saturated. CLAMP with a negative A has no stated result: a free value of
the operands. (DESIGN CHOICE: notes/assumptions/53) -/
def fxpLane (f w t a : Nat) : Nat × Bool :=
  let x := toSigned w t
  let y := toSigned w a
  let s := a % 64
  match f with
  | 0x00 => satS w (x + y)
  | 0x01 => satS w (x - y)
  | 0x02 => satU w (((t + a : Nat)) : Int)
  | 0x03 => satU w (((t : Nat) : Int) - ((a : Nat) : Int))
  | 0x04 => (if s = 0 then t else if w ≤ s then 0 else wrapInt w ((x + ((2 ^ (s - 1) : Nat) : Int)) / ((2 ^ s : Nat) : Int)), false)
  | 0x05 => (if w ≤ s then 0 else wrapInt w (roundEven x s), false)
  | 0x06 => satS w (x * ((2 ^ s : Nat) : Int))
  | 0x07 => satS w ((x * y + ((2 ^ (w - 2) : Nat) : Int)) / ((2 ^ (w - 1) : Nat) : Int))
  | 0x08 => satS w ((x.natAbs : Nat) : Int)
  | _ => if y < 0 then (Config.algNat "FXP CLAMP with negative A" [w, t, a] [] % 2 ^ w, false) else (wrapInt w (min (max x (-y)) y), false)

/-! ### Bit fields, counting, bytes (R272) -/

/-- BITF on one lane: 0 EXT, 1 INS, 4 SEXT. A length outside 1 to 56 has no stated result: a free value of the operands. (DESIGN CHOICE: notes/assumptions/53) -/
def bitfLane (f w t a b : Nat) : Nat :=
  let pos := a % 64
  let len := a / 64 % 64
  if len = 0 ∨ 56 < len then Config.algNat "BITF length" [f, w, t, a, b] [] % 2 ^ w else
  match f with
  | 0 => t / 2 ^ pos % 2 ^ len % 2 ^ w
  | 1 => (t - t / 2 ^ pos % 2 ^ len * 2 ^ pos + b % 2 ^ len * 2 ^ pos) % 2 ^ w
  | _ => wrapInt w (toSigned len (t / 2 ^ pos % 2 ^ len))

/-- BITF PACK: the low LEN bits of every lane back to back. (DESIGN CHOICE: notes/assumptions/53) -/
def bitfPack (mode t a : Nat) : Nat :=
  let len := a / 64 % 64
  if len = 0 ∨ 56 < len then Config.algNat "BITF length" [2, mode, t, a] [] % 2 ^ 448
  else packLanes len ((List.range (laneN mode)).map fun i => lane (laneW mode) t i) % 2 ^ 448

/-- BITF UNPACK: consecutive fields of LEN bits from POS, one per lane. (DESIGN CHOICE: notes/assumptions/53) -/
def bitfUnpack (mode t a : Nat) : Nat :=
  let pos := a % 64
  let len := a / 64 % 64
  if len = 0 ∨ 56 < len then Config.algNat "BITF length" [3, mode, t, a] [] % 2 ^ 448
  else buildLanes (laneW mode) (laneN mode) fun i => t / 2 ^ (pos + len * i) % 2 ^ len

/-- CLZ on one lane: 0 CLZ, 1 CTZ, 2 POPC. -/
def clzLane (f w t : Nat) : Nat :=
  match f with
  | 0 => ((List.range w).find? fun i => bit t (w - 1 - i)).getD w
  | 1 => ((List.range w).find? fun i => bit t i).getD w
  | _ => ((List.range w).filter fun i => bit t i).length

/-- PERM BPERM: byte i of the result is byte C[i] of T, or 0. -/
def bperm (t c : Nat) : Nat := buildLanes 8 56 fun i => if lane 8 c i < 56 then lane 8 t (lane 8 c i) else 0

/-- PERM BREV: the bytes of each lane reversed. A lane of N, D or S does not hold whole bytes: no result is stated for it, a free value. (DESIGN CHOICE: notes/assumptions/53) -/
def brev (mode t : Nat) : Nat :=
  if mode = 2 then buildLanes 56 8 fun i => buildLanes 8 7 fun k => lane 8 (lane 56 t i) (6 - k)
  else Config.algNat "PERM BREV in a lane that is no whole number of bytes" [mode, t] [] % 2 ^ 448

end Sys2Proof.Machine
end

