-- ==== Sys2Proof/Machine/MarExec.lean ====
section
/-! DEFINITION. One Marionette core at work: its registers and ports, the units' operations, cycles (R229 to R249, R265 to R280). -/
namespace Sys2Proof.Machine

open Sys2Proof

/-- What a step asks of the hash farm (R290, R291): a session of the store opened, a call issued, a session closed. -/
inductive FarmAct where
  | opened (place : Nat)
  | call (place : Nat) (h : HCall)
  | closed (place : Nat)
deriving DecidableEq, Repr

/-- A core with what its job may reach: registers, operand memory, sessions and the free ones of the core in the session store, the gathering's scratch
with the job's pages, the kernel's constants and limits, the draws made, and what the step leaves for the array: what it asks of the hash farm, rows of
scratch written, a taken jump, a fault. Moves into registers wait for the end of the cycle. -/
structure Exe where
  run : CoreRun
  rows : SMap Nat Val := []
  sess : SMap Nat HSess := []
  nSess : Nat := 1
  places : List Nat := []
  acts : List FarmAct := []
  scr : SMap Nat Val := []
  pages : List Nat := []
  consts : List Byte := []
  codeLen : Nat := 0
  limit : Nat := 0
  outLim : Nat := 0
  outBase : Nat := 0
  outFmt : Nat := 0
  outSecret : Bool := false
  team : Nat := 1
  free : Nat := 0
  written : List Nat := []
  moves : List (Nat × Val) := []
  jump : Option Nat := none
  fault : Option MFault := none

/-! ### Registers and ports -/

/-- A register read by its socket. -/
def CoreRun.reg (r : CoreRun) (k : Nat) : Val := nget {} r.regs k

/-- A port read by its socket. -/
def CoreRun.port (r : CoreRun) (k : Nat) : Port := nget {} r.ports k

/-- The bits that a register holds: S 28, V 448, predicates 1, LS and LE 13, LC 16 (R228). -/
def regBits (k : Nat) : Nat := if k < 0x20 then 28 else if k < 0x60 then 448 else if k < 0x68 then 1 else if k < 0x70 then 13 else 16

/-- A register written: what is wider is cut to its low bits (R262). -/
def CoreRun.setReg (r : CoreRun) (k : Nat) (x : Val) : CoreRun :=
  { r with regs := nset {} r.regs k { x with v := x.v % 2 ^ regBits k } }

/-- A port written. -/
def CoreRun.setPort (r : CoreRun) (k : Nat) (p : Port) : CoreRun := { r with ports := nset {} r.ports k p }

/-- A value that a unit writes at the end of a later cycle. -/
def Exe.later (e : Exe) (w : PWrite) : Exe := { e with run := { e.run with writes := e.run.writes ++ [w] } }

/-- A fault; the first one stands. -/
def Exe.fail (e : Exe) (f : MFault) : Exe := if e.fault.isSome then e else { e with fault := some f }

/-! ### The operation field (R265) -/

def opFunc (op : Nat) : Nat := op / 1024
def opFunc3 (op : Nat) : Nat := op / 4096
def opSel (op : Nat) : Nat := op / 1024 % 4
def opMode (op : Nat) : Nat := op / 256 % 4
def opG (op : Nat) : Nat := 2 ^ (op / 64 % 4)
def opXF (op : Nat) : Nat := op % 64

/-- The trigger sockets (R264). -/
def tALU0 : Nat := 0x81
def tALU1 : Nat := 0x84
def tVALU0 : Nat := 0x87
def tVALU1 : Nat := 0x8A
def tMMUL : Nat := 0x8D
def tMADD : Nat := 0x90
def tBFY0 : Nat := 0x94
def tBFY1 : Nat := 0x99
def tFXP : Nat := 0x9D
def tBITF : Nat := 0xA1
def tCLZ : Nat := 0xA3
def tPERM : Nat := 0xA6
def tLSU : Nat := 0xAA
def tGSU : Nat := 0xAE
def tXS : Nat := 0xB2
def tHP : Nat := 0xB6
def tSMP : Nat := 0xB9
def tMSK : Nat := 0xBD
def tTWR : Nat := 0xC2
def tCTL : Nat := 0xC3

/-- The trigger sockets of the units, in order. -/
def triggers : List Nat := [tALU0, tALU1, tVALU0, tVALU1, tMMUL, tMADD, tBFY0, tBFY1, tFXP, tBITF, tCLZ, tPERM, tLSU, tGSU, tXS, tHP, tSMP, tMSK, tTWR, tCTL]

/-- The operand sockets of a unit (R264). -/
def operands (t : Nat) : List Nat :=
  if t = tCLZ ∨ t = tCTL then [] else
  if t = tBFY0 ∨ t = tBFY1 ∨ t = tBITF ∨ t = tLSU ∨ t = tGSU ∨ t = tXS ∨ t = tHP ∨ t = tMSK then [t - 2, t - 1] else [t - 1]

/-- Operand and trigger sockets together. -/
def inputSockets : List Nat := triggers.flatMap fun t => t :: operands t

/-- The result sockets. -/
def resultSockets : List Nat :=
  [0x82, 0x85, 0x88, 0x8B, 0x8E, 0x91, 0x95, 0x96, 0x9A, 0x9B, 0x9E, 0xA2, 0xA4, 0xA7, 0xAB, 0xAF, 0xB3, 0xB7, 0xBA, 0xBE, 0xBF, 0xC0]

/-- The result sockets of the units whose latency varies (R232). -/
def variableResults : List Nat := [0xB3, 0xB7, 0xBA, 0xBE, 0xBF, 0xC0]

/-- FUNC, MODE and GRP are listed for the unit (R263, R272). (DEDUCED: notes/assumptions/54) -/
def opLegal (t op : Nat) : Bool :=
  let f := opFunc op
  let f3 := opFunc3 op
  let m := opMode op
  let g1 := opG op == 1
  if t = tALU0 ∨ t = tALU1 then decide (f ≤ 0x11) && (m == 0 || m == 3) && g1
  else if t = tVALU0 ∨ t = tVALU1 then decide (f ≤ 0x14) && m != 3
  else if t = tMMUL then (match f3 with
    | 0 => decide (m ≤ 1)
    | 1 | 3 => m == 2
    | 2 => m == 3
    | _ => false)
  else if t = tMADD then (if f3 ≤ 4 then decide (m ≤ 1) else if f3 = 5 then m == 2 else f3 == 6 && m == 3)
  else if t = tBFY0 ∨ t = tBFY1 then (if f3 ≤ 3 then decide (m ≤ 1) else f3 == 4 && m == 3)
  else if t = tFXP then decide (f ≤ 0x0A)
  else if t = tBITF then decide (f ≤ 4) && (g1 || (f != 2 && f != 3))
  else if t = tCLZ then decide (f ≤ 2)
  else if t = tPERM then decide (f ≤ 1) && g1
  else if t = tLSU then (if f ≤ 1 then (m == 0 || m == 3) && g1 else if f ≤ 3 then g1 else decide (f ≤ 6))
  else if t = tGSU then decide (f ≤ 1) && m != 3
  else if t = tXS ∨ t = tHP then decide (f ≤ 5) && g1
  else if t = tSMP ∨ t = tMSK then g1
  else if t = tTWR then f == 0 && m == 3
  else t == tCTL && decide (f ≤ 4)

/-- MLD of one of the four units with modulus registers (R234). -/
def isMld (t op : Nat) : Bool :=
  (t == tMMUL && opFunc3 op == 2) || (t == tMADD && opFunc3 op == 6) || ((t == tBFY0 || t == tBFY1) && opFunc3 op == 4)

/-- MAC or MACZ. -/
def isMac (t op : Nat) : Bool := t == tMMUL && (opFunc3 op == 1 || opFunc3 op == 3)

/-- A grouped operation, which streams; MAC and MACZ stream at every G (R231, R273). -/
def streaming (t op : Nat) : Bool :=
  !isMld t op && (isMac t op || (decide (1 < opG op) &&
    (t == tVALU0 || t == tVALU1 || t == tMMUL || t == tMADD || t == tBFY0 || t == tBFY1 || t == tFXP || t == tBITF || t == tCLZ ||
      (t == tLSU && decide (4 ≤ opFunc op)) || t == tGSU)))

/-- A unit's base latency (R233). (DEDUCED: notes/assumptions/56) -/
def unitLatency (t op : Nat) : Nat :=
  let m := opMode op
  if t = tALU0 ∨ t = tALU1 ∨ t = tTWR then 1
  else if t = tVALU0 ∨ t = tVALU1 ∨ t = tMADD ∨ t = tPERM ∨ t = tMSK then 2
  else if t = tMMUL then (if m = 0 then 4 else 5)
  else if t = tBFY0 ∨ t = tBFY1 then (if m = 0 then 5 else 6)
  else if t = tFXP ∨ t = tLSU then 3
  else if t = tBITF ∨ t = tCLZ then (if m = 3 then 1 else 2)
  else if t = tGSU then 3 + ceilDiv (laneN m * opG op) 8
  else if t = tXS then (if opFunc op = 2 ∨ opFunc op = 3 then 18 else 12)
  else 1

/-- Members of an operation: G of them; a modulus load occupies its unit for 4 cc; other units have one. -/
def members (t op : Nat) : Nat :=
  if isMld t op then 4 else opG op

/-! ### Operands of a member (R266) -/

/-- What member m of an operand is: its register k + m in the cycle of the read, or the latched value. A group carries the OR of its members' tags
(R230). (DEDUCED: notes/assumptions/55) -/
def Exe.operand (e : Exe) (g m : Nat) (p : Port) : Val :=
  if g = 1 then p.toVal else
  match p.src with
  | some k => { v := (e.run.reg (0x20 + k + m)).v, tag := (List.range g).any fun i => (e.run.reg (0x20 + k + i)).tag }
  | none => p.toVal

/-- The inputs that an operation reads member by member, 0 the trigger's and from 1 the operand ports in their order: not an address, a control word, nor
what the operation ignores (R266, R272). (DEDUCED: notes/assumptions/55) -/
def groupInputs (t op : Nat) : List Nat :=
  let f := opFunc op
  let f3 := opFunc3 op
  if t = tVALU0 ∨ t = tVALU1 then (if f = 0x11 ∨ f = 0x13 then [0] else [0, 1])
  else if t = tMMUL then (if f3 = 2 then [] else [0, 1])
  else if t = tMADD then (if f3 ≤ 1 then [0, 1] else if f3 = 6 then [] else [0])
  else if t = tBFY0 ∨ t = tBFY1 then (if f3 = 4 then [] else [1, 2])
  else if t = tFXP then (if f = 0x0A then [] else if f = 8 then [0] else [0, 1])
  else if t = tBITF then (if f = 1 then [0, 1, 2] else [0, 1])
  else if t = tCLZ then [0]
  else if t = tLSU then (if f = 5 then [0] else if f = 6 then [0, 2] else [])
  else if t = tGSU then (if f = 0 then [1] else [1, 2])
  else []

/-- The port of an input: 0 the trigger, from 1 the operand ports. -/
def Flight.port (f : Flight) (k : Nat) : Port := if k = 0 then f.trig else f.ports.getD (k - 1) {}

/-- Member m of an input of an operation; one that is not read member by member is the latched value. -/
def Exe.input (e : Exe) (f : Flight) (k m : Nat) : Val :=
  e.operand (if (groupInputs f.sock f.op).contains k then opG f.op else 1) m (f.port k)

/-- The operation writes a group of registers named by DREG. -/
def grouped (t op : Nat) : Bool := decide (1 < opG op) && !isMld t op && !(t == tLSU && decide (opFunc op ≠ 4)) && !(t == tGSU && decide (opFunc op ≠ 0))

/-- The result socket of a unit. (DEDUCED: notes/assumptions/55) -/
def resultOf (t : Nat) : Nat := t + 1

/-- Member m of a result: on R for G1, otherwise into register DREG + m (R231). -/
def Exe.put (e : Exe) (f : Flight) (m : Nat) (x : Val) : Exe :=
  if opG f.op = 1 then e.later { when' := e.run.cyc + unitLatency f.sock f.op - 1, dst := resultOf f.sock, val := x }
  else e.later { when' := e.run.cyc + unitLatency f.sock f.op, dst := 0x20 + opXF f.op + m, val := x }

/-- A value into a vector register at the unit's latency. -/
def Exe.putReg (e : Exe) (f : Flight) (n : Nat) (x : Val) (half : Option Nat) : Exe :=
  e.later { when' := e.run.cyc + unitLatency f.sock f.op, dst := 0x20 + n, val := x, half := half }

/-! ### Modulus registers (R234) -/

/-- The number of a unit among those with modulus registers. -/
def modUnit (t : Nat) : Nat := if t = tMMUL then 0 else if t = tMADD then 1 else if t = tBFY0 then 2 else 3

/-- Modulus register m of a unit. -/
def CoreRun.modulus (r : CoreRun) (unit m : Nat) : Nat := nget 0 r.mods (4 * unit + m)

/-- A modulus that an operation of a mode may not use. -/
def badModulus (mode q : Nat) : Bool := q == 0 || (mode == 0 && decide (2 ^ 14 ≤ q)) || (mode == 1 && decide (2 ^ 28 ≤ q))

/-! ### Operand memory (R228, R238, R247) -/

/-- Words of a job's quarter. -/
def memWords : Nat := 30464

/-- A row with its tag. -/
def Exe.row (e : Exe) (r : Nat) : Val := nget {} e.rows r

/-- A row written whole. -/
def Exe.setRow (e : Exe) (r : Nat) (x : Val) : Exe := { e with rows := nset {} e.rows r { x with v := x.v % 2 ^ 56 } }

/-- n words from a word address, the first lowest; the tag of the rows they lie in. -/
def Exe.words (e : Exe) (a n : Nat) : Val :=
  { v := packLanes 14 ((List.range n).map fun i => lane 14 (e.row ((a + i) / 4)).v ((a + i) % 4))
    tag := (List.range n).any fun i => (e.row ((a + i) / 4)).tag }

/-- One word of a row replaced: a secret value tags the row, a public one leaves its tag. -/
def Exe.putWord (e : Exe) (a : Nat) (x : Val) : Exe :=
  let r := e.row (a / 4)
  e.setRow (a / 4) { v := setBits r.v (14 * (a % 4) + 13) (14 * (a % 4)) x.v, tag := r.tag || x.tag }

/-- n words stored from a word address. -/
def Exe.putWords (e : Exe) (a n : Nat) (x : Val) : Exe :=
  if n = 4 ∧ a % 4 = 0 then e.setRow (a / 4) x
  else (List.range n).foldl (fun t i => t.putWord (a + i) { x with v := lane 14 x.v i }) e

/-- Eight rows as a vector. -/
def Exe.vector (e : Exe) (r : Nat) : Val :=
  { v := packLanes 56 ((List.range 8).map fun i => (e.row (r + i)).v), tag := (List.range 8).any fun i => (e.row (r + i)).tag }

/-- A vector stored over eight rows. -/
def Exe.putVector (e : Exe) (r : Nat) (x : Val) : Exe :=
  (List.range 8).foldl (fun t i => t.setRow (r + i) { x with v := lane 56 x.v i }) e

/-- A masked vector store: the N lanes whose mask lane is not 0. A row of which every word is written takes the value's tag. -/
def Exe.putMasked (e : Exe) (r : Nat) (x mask : Val) : Exe :=
  let tag := x.tag || mask.tag
  (List.range 8).foldl (fun t i =>
    let on := fun k => lane 14 mask.v (4 * i + k) != 0
    if on 0 && on 1 && on 2 && on 3 then t.setRow (r + i) { v := lane 56 x.v i, tag := tag }
    else (List.range 4).foldl (fun u k => if on k then u.putWord (4 * (r + i) + k) { v := lane 14 x.v (4 * i + k), tag := tag } else u) t) e

/-! ### One member of an operation -/

/-- VALU (R272). (DEDUCED: notes/assumptions/55) -/
def Exe.valu (e : Exe) (f : Flight) (m : Nat) : Exe :=
  let op := f.op
  let g := opG op
  let mode := opMode op
  let w := laneW mode
  let n := laneN mode
  let fn := opFunc op
  let u := if f.sock = tVALU0 then 0 else 1
  let t := e.input f 0 m
  let a := e.input f 1 m
  let tag := t.tag || a.tag
  if fn = 0x0D ∨ fn = 0x0E ∨ fn = 0x0F then
    let c := fun i => valuCmp fn w (lane w t.v i) (lane w a.v i)
    let old := if m = 0 then 0 else nget 0 e.run.masks u
    let mask := (List.range n).foldl (fun x i => x + b2n (c i) * 2 ^ (m * n + i)) old
    ({ e with run := { e.run with masks := nset 0 e.run.masks u mask } }).put f m
      { v := buildLanes w n fun i => if c i then 2 ^ w - 1 else 0, tag := tag }
  else if fn = 0x10 then
    let mask := nget 0 e.run.masks u
    e.put f m { v := buildLanes w n fun i => if bit mask (m * n + i) then lane w t.v i else lane w a.v i, tag := tag }
  else if fn = 0x11 then
    let t0 := e.input f 0 0
    e.put f m { v := buildLanes w n fun _ => lane w t0.v 0, tag := t0.tag || a.tag }
  else if fn = 0x13 then
    let h := if g = 1 then opXF op % 2 else m % 2
    let x := e.input f 0 (m / 2)
    e.put f m { v := buildLanes 28 16 fun i => lane 14 x.v (16 * h + i), tag := x.tag || a.tag }
  else if fn = 0x14 then
    e.put f m { v := buildLanes 14 32 fun i => if i < 16 then lane 28 t.v i else lane 28 a.v (i - 16), tag := tag }
  else e.put f m { v := lanes2 mode (valuLane fn w) t.v a.v, tag := tag }

/-- MMUL (R272, R273). -/
def Exe.mmul (e : Exe) (f : Flight) (m : Nat) : Exe :=
  let op := f.op
  let g := opG op
  let t := e.input f 0 m
  let a := e.input f 1 m
  match opFunc3 op with
  | 0 =>
    let q := e.run.modulus 0 (opSel op)
    e.put f m { v := lanes2 (opMode op) (fun x y => x * y % q) t.v a.v, tag := t.tag || a.tag }
  | fn =>
    let acc : Val := if fn = 1 then e.operand g m { src := some (opXF op) } else {}
    let x : Val := { v := buildLanes 56 8 fun i => (lane 56 acc.v i + lane 56 t.v i % 2 ^ 28 * (lane 56 a.v i % 2 ^ 28)) % 2 ^ 56,
                     tag := t.tag || a.tag || acc.tag }
    let e1 := e.putReg f (opXF op + m) x none
    if g = 1 then e1.put f 0 x else e1

/-- MADD (R272). (DEDUCED: notes/assumptions/55) -/
def Exe.madd (e : Exe) (f : Flight) (m : Nat) : Exe :=
  let op := f.op
  let g := opG op
  let mode := opMode op
  let q := e.run.modulus 1 (opSel op)
  let t := e.input f 0 m
  let a := e.input f 1 m
  if opFunc3 op = 5 then
    let x : Val := { v := packLanes 28 ((List.range 8).map fun i => lane 56 t.v i % q), tag := t.tag || a.tag }
    if g = 1 then e.put f m x
    else
      let e1 := e.putReg f (opXF op + m / 2) x (some (m % 2))
      if g / 2 ≤ m then e1.putReg f (opXF op + m) { v := 0, tag := x.tag } none else e1
  else
    e.put f m { v := lanes2 mode (maddLane (opFunc3 op) (laneW mode) q) t.v a.v, tag := t.tag || a.tag }

/-- An entry of a twiddle table (R237). (DEDUCED: notes/assumptions/55) -/
def CoreRun.entry (r : CoreRun) (table i : Nat) : Nat := if table = 3 then nget 0 r.twr i else romEntry table i

/-- The butterfly units (R236, R274). (DEDUCED: notes/assumptions/55) -/
def Exe.bfy (e : Exe) (f : Flight) (m : Nat) : Exe :=
  let op := f.op
  let g := opG op
  let w := laneW (opMode op)
  let n := laneN (opMode op)
  let c := f.trig.v
  let q := e.run.modulus (modUnit f.sock) (opSel op)
  let a := e.input f 1 m
  let b := e.input f 2 m
  let tag := a.tag || b.tag || f.trig.tag
  let z := fun j => twiddle q (e.run.entry (bits c 1 0) (bits c 12 2 + j / 2 ^ bits c 16 13)) (bit c 17)
  let gs := opFunc3 op % 2 == 1
  let paired := decide (2 ≤ opFunc3 op)
  let d := 2 ^ bits c 20 18
  let cross := fun i => butterfly gs q (z (m * n + i)) (lane w a.v i) (lane w b.v i)
  let inside := fun (x base i : Nat) =>
    let lo := if i / d % 2 = 0 then i else i - d
    let r := butterfly gs q (z (base + m * n + lo)) (lane w x lo) (lane w x (lo + d))
    if i / d % 2 = 0 then r.1 else r.2
  let x : Val := { v := buildLanes w n fun i => if paired then inside a.v 0 i else (cross i).1, tag := tag }
  let y : Val := { v := buildLanes w n fun i => if paired then inside b.v (n * g) i else (cross i).2, tag := tag }
  if g = 1 then
    let at' := e.run.cyc + unitLatency f.sock op - 1
    let e1 := (e.later { when' := at', dst := f.sock + 1, val := x }).later { when' := at', dst := f.sock + 2, val := y }
    if bit c 27 then (e1.putReg f (opXF op) x none).putReg f (bits c 26 21) y none else e1
  else (e.putReg f (opXF op + m) x none).putReg f (bits c 26 21 + m) y none

/-- FXP (R275). -/
def Exe.fxp (e : Exe) (f : Flight) (m : Nat) : Exe :=
  let op := f.op
  let w := laneW (opMode op)
  let n := laneN (opMode op)
  let fn := opFunc op
  let t := e.input f 0 m
  let a := e.input f 1 m
  if fn = 0x0A then ({ e with run := { e.run with sticky := false } }).put f m { v := b2n e.run.sticky, tag := t.tag || a.tag }
  else
    let r := fun i => fxpLane fn w (lane w t.v i) (lane w a.v i)
    let sat := (List.range n).any fun i => (r i).2
    ({ e with run := { e.run with sticky := e.run.sticky || sat } }).put f m
      { v := buildLanes w n fun i => (r i).1, tag := t.tag || a.tag }

/-- BITF (R272). -/
def Exe.bitf (e : Exe) (f : Flight) (m : Nat) : Exe :=
  let op := f.op
  let mode := opMode op
  let w := laneW mode
  let t := e.input f 0 m
  let a := e.input f 1 m
  let b := e.input f 2 m
  let tag := t.tag || a.tag || b.tag
  match opFunc op with
  | 2 => e.put f m { v := bitfPack mode t.v a.v, tag := tag }
  | 3 => e.put f m { v := bitfUnpack mode t.v a.v, tag := tag }
  | fn => e.put f m { v := buildLanes w (laneN mode) fun i => bitfLane fn w (lane w t.v i) (lane w a.v i) (lane w b.v i), tag := tag }

/-- CLZ (R272). -/
def Exe.clz (e : Exe) (f : Flight) (m : Nat) : Exe :=
  let w := laneW (opMode f.op)
  let t := e.input f 0 m
  e.put f m { v := buildLanes w (laneN (opMode f.op)) fun i => clzLane (opFunc f.op) w (lane w t.v i), tag := t.tag }

/-- PERM (R272). -/
def Exe.perm (e : Exe) (f : Flight) (m : Nat) : Exe :=
  let c := f.ports.getD 0 {}
  if opFunc f.op = 0 then e.put f m { v := bperm f.trig.v c.v, tag := f.trig.tag || c.tag }
  else e.put f m { v := brev (opMode f.op) f.trig.v, tag := f.trig.tag || c.tag }

/-- LSU (R238, R272, R276). (DEDUCED: notes/assumptions/54) -/
def Exe.lsu (e : Exe) (f : Flight) (m : Nat) : Exe :=
  let op := f.op
  let g := opG op
  let a := (f.ports.getD 0 {}).v
  let n := if opMode op = 3 then 2 else 1
  let t := e.input f 0 m
  let row := a / 4 + 8 * m
  match opFunc op with
  | 0 => e.put f m (e.words a n)
  | 1 => e.putWords a n t
  | 2 => e.put f m (e.row (a / 4))
  | 3 => e.setRow (a / 4) t
  | 4 =>
    let x : Val := { v := (e.vector row).v, tag := (List.range g).any fun i => (e.vector (a / 4 + 8 * i)).tag }
    let e1 := e.putReg f (opXF op + m) x none
    if g = 1 then e1.put f 0 x else e1
  | 5 => e.putVector row t
  | _ => e.putMasked row t (e.input f 2 m)

end Sys2Proof.Machine
end

