-- ==== Sys2Proof/Machine/MarUnits.lean ====
section
/-! DEFINITION. The Marionette units that answer at once, triggers, moves and cycles (R231, R232, R241 to R248, R263, R268 to R271, R276 to R280). -/
namespace Sys2Proof.Machine

open Sys2Proof

/-- A fault of the unit at a trigger socket. -/
def unitFault (cause t op : Nat) (tr : Port) (slot : Nat) : MFault := { cause := cause, sock := t, slot := slot, op := op, trig := tr }

/-- A result on a port at the unit's latency. -/
def Exe.answer (e : Exe) (t op : Nat) (dst : Nat) (x : Val) : Exe :=
  e.later { when' := e.run.cyc + unitLatency t op - 1, dst := dst, val := x }

/-! ### ALU (R272) -/

/-- ALU0 and ALU1. -/
def Exe.alu (e : Exe) (t op : Nat) (tr : Port) : Exe :=
  let w := laneW (opMode op)
  let a := e.run.port (t - 1)
  let x : Val := { v := aluOp (opFunc op) w (tr.v % 2 ^ w) (a.v % 2 ^ w), tag := tr.tag || a.tag }
  let e1 := e.answer t op (resultOf t) x
  if 0x0D ≤ opFunc op ∧ opXF op % 8 ≠ 7 then e1.later { when' := e.run.cyc, dst := 0x60 + opXF op % 8, val := x } else e1

/-! ### GSU (R277) -/

/-- Elements of a gather or scatter from a start, in lane order: how many are done, the elements read, the state. (DEDUCED: notes/assumptions/54) -/
def Exe.gsuRun (e : Exe) (scatter : Bool) (w : Nat) (addr : Nat → Nat) (src : Nat → Val) (k : Nat) : Nat → Nat → List Val → Nat × List Val × Exe
  | 0, i, acc => (i, acc, e)
  | f + 1, i, acc =>
    if k ≤ i then (i, acc, e)
    else if memWords < addr i + w then (i, acc, e)
    else if scatter then Exe.gsuRun (e.putWords (addr i) w (src i)) scatter w addr src k f (i + 1) acc
    else e.gsuRun scatter w addr src k f (i + 1) (acc ++ [e.words (addr i) w])

/-- The word address of lane j of member m's index vector (R277). -/
def Exe.gsuAddr (e : Exe) (f : Flight) (m j : Nat) : Nat :=
  f.trig.v % 2 ^ 28 + lane (laneW (opMode f.op)) (e.input f 1 m).v j * 2 ^ opMode f.op

/-- The tag of a gather's group: the OR of the tags of the rows that it reads (R230, R247). -/
def Exe.gatherTag (e : Exe) (f : Flight) : Bool :=
  (List.range (opG f.op)).any fun m => (List.range (laneN (opMode f.op))).any fun j =>
    decide (e.gsuAddr f m j + 2 ^ opMode f.op ≤ memWords) && (e.words (e.gsuAddr f m j) (2 ^ opMode f.op)).tag

/-- Member m of a GATHER or SCATTER, from the operation's first element on: its elements in lane order, its index and data vectors as they are in this
cycle; after the last member R holds the number of elements (R266, R277). (DEDUCED: notes/assumptions/56) -/
def Exe.gsu (e : Exe) (f : Flight) (m : Nat) : Exe :=
  let op := f.op
  let n := laneN (opMode op)
  let lw := laneW (opMode op)
  let start := max f.elem (m * n)
  let stop := (m + 1) * n
  let bad := fun (u : Exe) (cause done : Nat) =>
    u.fail { cause := cause, lane := done, sock := f.sock, slot := f.slot, op := op, trig := f.trig, bundle := some f.bundle }
  if (e.input f 1 m).tag then bad e 0x07 start else
  let dat := e.input f 2 m
  let scatter := opFunc op == 1
  let r := e.gsuRun scatter (2 ^ opMode op) (fun i => e.gsuAddr f m (i % n)) (fun i => { v := lane lw dat.v (i % n), tag := dat.tag }) stop
    (stop - start) start []
  let done := r.1
  let e1 := r.2.2
  let e2 := if scatter ∨ done ≤ start then e1 else
    let old := e1.run.reg (0x20 + opXF op + m)
    let inDone := fun i => decide (start ≤ i) && decide (i < done)
    let v := buildLanes lw n fun j => if inDone (m * n + j) then (r.2.1.getD (m * n + j - start) {}).v else lane lw old.v j
    let whole := decide (start = m * n) && decide (done = stop)
    e1.later { when' := e1.run.cyc + unitLatency f.sock op, dst := 0x20 + opXF op + m, val := { v := v, tag := e.gatherTag f || (!whole && old.tag) } }
  if done < stop then bad e2 0x09 done
  else if m + 1 < opG op then e2
  else e2.answer f.sock op (resultOf f.sock) { v := n * opG op, tag := scatter && dat.tag }

/-! ### XS (R241, R279) -/

/-- The row of an XS address: a constant row, or a row of a page of the job. -/
inductive XRow where
  | const (r : Nat)
  | page (r : Nat)
  | bad
deriving DecidableEq, Repr

/-- An XS row address (R279). -/
def Exe.xrow (e : Exe) (a : Nat) : XRow :=
  if a < 8192 then (if 8 * a < e.consts.length then .const a else .bad)
  else
    match e.pages[(a - 8192) / 512]? with
    | some p => .page (512 * p + (a - 8192) % 512)
    | none => .bad

/-- A row read. -/
def Exe.xread (e : Exe) (a : Nat) : Val :=
  match e.xrow a with
  | .const r => { v := bfield e.consts (8 * r) 8 }
  | .page r => nget {} e.scr r
  | .bad => {}

/-- A row may be read, or written. -/
def Exe.xok (e : Exe) (write : Bool) (a : Nat) : Bool :=
  match e.xrow a with
  | .const _ => !write
  | .page _ => true
  | .bad => false

/-- The number of a row for reservations: rows of pages, then constant rows. -/
def Exe.xkey (e : Exe) (a : Nat) : Nat :=
  match e.xrow a with
  | .const r => 2 ^ 20 + r
  | .page r => r
  | .bad => 2 ^ 21

/-- The bytes of a row that a mask selects written; 0 selects all. Any write to a row clears the reservations on it. -/
def Exe.xwrite (e : Exe) (a mask : Nat) (x : Val) : Exe :=
  let k := e.xkey a
  let old := nget {} e.scr k
  let whole := mask == 0 || mask == 255
  let v := if whole then x.v % 2 ^ 64 else buildLanes 8 8 fun i => if bit mask i then lane 8 x.v i else lane 8 old.v i
  { e with scr := nset {} e.scr k { v := v, tag := x.tag || (!whole && old.tag) }, written := e.written ++ [k],
           run := if e.run.resv = some k then { e.run with resv := none } else e.run }

/-- XS (R272, R279). (DEDUCED: notes/assumptions/56) -/
def Exe.xs (e : Exe) (t op : Nat) (tr : Port) (slot : Nat) : Exe :=
  let a := (e.run.port 0xB0).v
  let d := e.run.port 0xB1
  let fn := opFunc op
  let rows := if fn = 2 ∨ fn = 3 then 7 else 1
  if !((List.range rows).all fun i => e.xok (fn == 1 || fn == 3 || fn == 5) (a + i)) then e.fail (unitFault 0x04 t op tr slot) else
  match fn with
  | 0 => e.answer t op 0xB3 (e.xread a)
  | 1 => e.xwrite a (d.v % 256) { v := tr.v, tag := tr.tag || d.tag }
  | 2 => e.answer t op 0xB3 { v := packLanes 64 ((List.range 7).map fun i => (e.xread (a + i)).v), tag := (List.range 7).any fun i => (e.xread (a + i)).tag }
  | 3 => (List.range 7).foldl (fun u i => u.xwrite (a + i) 0 { v := lane 64 tr.v i, tag := tr.tag }) e
  | 4 => ({ e with run := { e.run with resv := some (e.xkey a) } }).answer t op 0xB3 (e.xread a)
  | _ =>
    let ok := e.run.resv == some (e.xkey a)
    let e1 := if ok then e.xwrite a 0 tr.toVal else e
    ({ e1 with run := { e1.run with resv := none } }).answer t op 0xB3 { v := b2n ok, tag := tr.tag }

/-! ### HP and SMP (R242 to R245, R280) -/

/-- The hash code of a session's function (R171, R280). -/
def hpHash (kind : Nat) : Nat := ([4, 8, 5, 6, 7, 1, 3]).getD kind 4

/-- Byte i of a session's stream. -/
def HSess.byte (h : HSess) (i : Nat) : Nat := (Config.hash (hpHash h.kind) h.buf i).toNat

/-- n bits of a session's stream from a bit position, the least significant bit of each byte first. -/
def HSess.bitsAt (h : HSess) (p n : Nat) : Nat := ((List.range (n / 8 + 2)).map fun i => h.byte (p / 8 + i) * 256 ^ i).sum / 2 ^ (p % 8) % 2 ^ n

/-- Bytes of a value, least significant first. -/
def valBytes (n v : Nat) : List Byte := leBytes n v

/-- A random number of n bytes from the core's mask generator. -/
def Exe.draw (e : Exe) (n : Nat) : Nat × Exe := (leNat (bytesOf n (Config.random e.free)), { e with free := e.free + 1 })

/-- The rate of a session's function: the bytes that one permutation or compression takes or gives (R287, R291). -/
def HSess.rate (h : HSess) : Nat := ([136, 104, 72, 168, 136, 64, 128]).getD h.kind 136

/-- A call of a session for some blocks, unless there are none (R291). -/
def HSess.calls (h : HSess) (blocks : Nat) (fin : Bool) : List FarmAct :=
  if blocks = 0 then [] else [.call h.place { sha2 := decide (5 ≤ h.kind), masked := h.masked, blocks := blocks, fin := fin }]

/-- Blocks that FINAL pads the buffered input to: one of a sponge; of SHA-2 as many as the length field needs. -/
def HSess.padBlocks (h : HSess) : Nat :=
  if h.kind < 5 then 1 else ceilDiv (h.buf.length % h.rate + 1 + (if h.kind = 6 then 16 else 8)) h.rate

/-- Blocks of the stream that have been squeezed when its bits up to a position are used: a digest is one. -/
def HSess.squeezed (h : HSess) (pos : Nat) : Nat := if h.kind = 3 ∨ h.kind = 4 then max 1 (ceilDiv pos (8 * h.rate)) else 1

/-- A session after its stream has been used up to a position, with the call that gives the blocks it takes (R291). -/
def Exe.useStream (e : Exe) (n : Nat) (h : HSess) (pos : Nat) : Exe :=
  { e with sess := nset {} e.sess n { h with pos := pos }, acts := e.acts ++ h.calls (h.squeezed pos - h.squeezed h.pos) true }

/-- HP (R242, R244, R280), with the calls that the farm serves (R290, R291). (DEDUCED: notes/assumptions/56) -/
def Exe.hp (e : Exe) (t op : Nat) (tr : Port) (slot : Nat) : Exe :=
  let n := (e.run.port 0xB4).v % 4
  let d := e.run.port 0xB5
  let h : HSess := nget {} e.sess n
  let set := fun (u : Exe) (x : HSess) => { u with sess := nset {} u.sess n x }
  let len := let x := opXF op; if x = 0 then 56 else min 56 x
  let bad := e.fail (unitFault 0x08 t op tr slot)
  match opFunc op with
  | 0 =>
    if h.isOpen ∨ e.nSess ≤ (e.sess.filter fun s => s.2.isOpen).length ∨ 6 < opXF op % 16 then bad
    else
      let p := e.places.headD 768
      { set e { isOpen := true, kind := opXF op % 16, masked := bit (opXF op) 5, place := p } with places := e.places.drop 1, acts := e.acts ++ [.opened p] }
  | 1 =>
    if !h.isOpen ∨ h.squeezing then bad
    else if !h.masked ∧ tr.tag then e.fail (unitFault 0x07 t op tr slot)
    else
      let v := if h.masked then tr.v ^^^ d.v else tr.v
      let buf := h.buf ++ valBytes len v
      let e1 := set e { h with buf := buf, tag := h.tag || tr.tag || (h.masked && d.tag) }
      { e1 with acts := e.acts ++ h.calls (buf.length / h.rate - h.buf.length / h.rate) false }
  | 2 =>
    if !h.isOpen ∨ h.squeezing then bad
    else { set e { h with squeezing := true } with acts := e.acts ++ h.calls h.padBlocks true }
  | 3 =>
    if !h.isOpen ∨ !h.squeezing then bad else
    let v := h.bitsAt h.pos (8 * len)
    if h.masked then
      let (r, e1) := e.draw len
      (e1.useStream n { h with share1 := v ^^^ r } (h.pos + 8 * len)).answer t op 0xB7 { v := r, tag := h.tag }
    else (e.useStream n h (h.pos + 8 * len)).answer t op 0xB7 { v := v, tag := h.tag }
  | 4 => if !h.isOpen ∨ !h.masked ∨ !h.squeezing then bad else e.answer t op 0xB7 { v := h.share1, tag := h.tag }
  | _ => if !h.isOpen then bad else { set e {} with places := e.places ++ [h.place], acts := e.acts ++ [.closed h.place] }

/-- A sampler mode's candidate: how many bits it takes, and the coefficient where it is accepted (R245). -/
def smpCandidate (mode q : Nat) (h : HSess) (p : Nat) : Nat × Option Nat :=
  let eta := fun (k : Nat) =>
    let b := h.bitsAt p (2 * k)
    let x := ((List.range k).filter fun i => bit b i).length
    let y := ((List.range k).filter fun i => bit b (k + i)).length
    (x + q - y % q) % q
  match mode with
  | 0 => let c := h.bitsAt p 12; (12, if c < q then some c else none)
  | 1 => let c := h.bitsAt p 24 % 2 ^ 23; (24, if c < q then some c else none)
  | 2 => let b := h.bitsAt p 16; let c := b % 256 * 256 + b / 256; (16, if c < 61445 then some (c % 12289) else none)
  | 3 => (4, some (eta 2))
  | 4 => (6, some (eta 3))
  | 5 => let b := h.bitsAt p 4; (4, if b < 15 then some ((2 + q - b % 5) % q) else none)
  | _ => let b := h.bitsAt p 4; (4, if b < 9 then some ((4 + q - b % q) % q) else none)

/-- Accepted coefficients in stream order, n of them, and the position reached, among at most f candidates; fewer where these give fewer. (DEDUCED: notes/assumptions/50) -/
def smpFill (mode q : Nat) (h : HSess) : Nat → Nat → Nat → List Nat × Nat
  | _, 0, p => ([], p)
  | 0, _ + 1, p => ([], p)
  | f + 1, n + 1, p =>
    let c := smpCandidate mode q h p
    match c.2 with
    | some x => let r := smpFill mode q h f n (p + c.1); (x :: r.1, r.2)
    | none => smpFill mode q h f (n + 1) (p + c.1)

/-- A sampler's result after the bits that it consumes, 448 a cycle, behind the results still to come; one that is not filled is not ready before
CYCLE_LIMIT (R245, R271). (DEDUCED: notes/assumptions/50) -/
def Exe.sampled (e : Exe) (full : Bool) (used : Nat) (x : Val) : Exe :=
  let start := (e.run.writes.filter fun w => w.dst == 0xBA).foldl (fun c w => max c (w.when' + 1)) e.run.cyc
  let ready := start + max 1 (ceilDiv used 448) - 1
  e.later { when' := if full then ready else max ready e.limit, dst := 0xBA, val := x }

/-- SMP (R245, R280): the candidates of as many cycles as CYCLE_LIMIT leaves are searched, 112 of the shortest in each. (DEDUCED: notes/assumptions/50;
DEDUCED: notes/assumptions/56) (DEDUCED: notes/assumptions/50; DEDUCED: notes/assumptions/56) -/
def Exe.smp (e : Exe) (t op : Nat) (tr : Port) (slot : Nat) : Exe :=
  let n := (e.run.port 0xB8).v % 4
  let h : HSess := nget {} e.sess n
  let mode := opFunc3 op
  let q := e.run.modulus 0 (opSel op)
  if !h.isOpen ∨ !h.squeezing then e.fail (unitFault 0x08 t op tr slot) else
  let wide := mode == 1 || mode == 5 || mode == 6
  if mode ≠ 7 ∧ badModulus (if wide then 1 else 0) q then e.fail (unitFault 0x05 t op tr slot) else
  if mode = 7 then (e.useStream n h (h.pos + 448)).sampled true 448 { v := h.bitsAt h.pos 448, tag := h.tag } else
  let lanes := if wide then 16 else 32
  let r := smpFill mode q h (112 * (e.limit - e.run.cyc) + lanes) lanes h.pos
  (e.useStream n h r.2).sampled (r.1.length == lanes) (r.2 - h.pos) { v := packLanes (if wide then 28 else 14) r.1, tag := h.tag }

/-! ### MSK and TWR (R246, R272) -/

/-- One lane vector of random residues below q. -/
def Exe.drawMod (e : Exe) (mode q : Nat) : Nat × Exe :=
  (buildLanes (laneW mode) (laneN mode) fun i => leNat (bytesOf 8 fun k => Config.random e.free (8 * i + k)) % q, { e with free := e.free + 1 })

/-- A mask: Boolean or arithmetic modulo q. -/
def Exe.mask (e : Exe) (arith : Bool) (mode q : Nat) : Nat × Exe := if arith then e.drawMod mode q else e.draw 56

/-- Shares put together, or one taken from another. -/
def joinShare (arith : Bool) (mode q x y : Nat) : Nat := if arith then lanes2 mode (fun a b => (a + b) % q) x y else x ^^^ y
def splitShare (arith : Bool) (mode q x y : Nat) : Nat := if arith then lanes2 mode (fun a b => (a % q + q - b % q) % q) x y else x ^^^ y

/-- MSK (R246). -/
def Exe.msk (e : Exe) (t op : Nat) (tr : Port) (slot : Nat) : Exe :=
  let fn := opFunc3 op
  let mode := opMode op
  let arith := bit (opXF op) 0
  let q := e.run.modulus 1 (opSel op)
  let a := e.run.port 0xBB
  let b := e.run.port 0xBC
  if (fn = 1 ∨ (2 ≤ fn ∧ arith)) ∧ badModulus mode q then e.fail (unitFault 0x05 t op tr slot) else
  let out' := fun (u : Exe) (k v : Nat) => u.answer t op (0xBE + k) { v := v, tag := true }
  let join := joinShare arith mode q
  let cut := splitShare arith mode q
  match fn with
  | 0 => let (r, e1) := e.draw 56; out' e1 0 r
  | 1 => let (r, e1) := e.drawMod mode q; out' e1 0 r
  | 2 => let (r, e1) := e.mask arith mode q; out' (out' e1 0 (cut tr.v r)) 1 r
  | 3 =>
    let (r, e1) := e.mask arith mode q
    let (u, e2) := e1.mask arith mode q
    out' (out' (out' e2 0 (cut (cut tr.v r) u)) 1 r) 2 u
  | 4 => let (r, e1) := e.mask arith mode q; out' (out' e1 0 (cut tr.v r)) 1 (join a.v r)
  | 5 =>
    let (r, e1) := e.mask arith mode q
    let (u, e2) := e1.mask arith mode q
    out' (out' (out' e2 0 (cut (cut tr.v r) u)) 1 (join a.v r)) 2 (join b.v u)
  | 6 => e.answer t op 0xBE { v := join tr.v a.v }
  | _ => e.answer t op 0xBE { v := join (join tr.v a.v) b.v }

/-- TWR: an entry of the twiddle RAM, written at the end of the cycle: a butterfly of this cycle reads the old one (R272, R237). -/
def Exe.twrite (e : Exe) (tr : Port) : Exe :=
  e.later { when' := e.run.cyc, dst := 0x1000 + (e.run.port 0xC1).v % 2048, val := { v := tr.v % 2 ^ 28 } }

/-! ### CTL and loops (R268 to R271) -/

/-- LS, LE and LC of a level. -/
def CoreRun.ls (r : CoreRun) (k : Nat) : Nat := (r.reg (0x68 + k)).v
def CoreRun.le (r : CoreRun) (k : Nat) : Nat := (r.reg (0x6C + k)).v
def CoreRun.lc (r : CoreRun) (k : Nat) : Nat := (r.reg (0x70 + k)).v

/-- Levels from k on disarmed. -/
def CoreRun.disarm (r : CoreRun) (k : Nat) : CoreRun :=
  (List.range 4).foldl (fun t j => if k ≤ j then t.setReg (0x70 + j) {} else t) r

/-- A taken jump: every level that the target leaves is disarmed with those above it (R269). -/
def CoreRun.jumpTo (r : CoreRun) (target : Nat) : CoreRun :=
  match (List.range 4).find? fun k => r.lc k != 0 && (decide (target < r.ls k) || decide (r.le k < target)) with
  | some k => r.disarm k
  | none => r

/-- The output length fits the format and the limits (R271, R286). -/
def Exe.lengthOk (e : Exe) (n : Nat) : Bool :=
  decide (n ≤ e.outLim) && (if e.outFmt = 1 then n % 2 == 0 else if e.outFmt = 2 then n % 4 == 0 else true)

/-- Rows that an output of n bytes takes in a format (R286). -/
def rowsOf (fmt n : Nat) : Nat := if fmt = 0 then ceilDiv n 7 else if fmt = 1 then ceilDiv n 8 else ceilDiv n 8

/-- CTL (R268, R271). END takes effect once no operation is under way. What CALL and BREAK write is lost where a move writes the register in the same
cycle (R263). -/
def Exe.ctl (e : Exe) (t op : Nat) (tr : Port) (slot : Nat) : Exe :=
  match opFunc op with
  | 0 => { e with jump := some (tr.v % 2 ^ 28) }
  | 1 => ({ e with jump := some (tr.v % 2 ^ 28) }).later { when' := e.run.cyc, dst := 0x1F, val := { v := e.run.pc + 1 } }
  | 2 =>
    let k := opXF op % 4
    ({ e with jump := some (e.run.le k + 1) }).later { when' := e.run.cyc, dst := 0x70 + k, val := {} }
  | 3 =>
    if !e.lengthOk (tr.v % 2 ^ 28) then e.fail (unitFault 0x0D t op tr slot)
    else { e with run := { e.run with ended := some (tr.v % 2 ^ 28) } }
  | _ => if e.team = 1 then e else { e with run := { e.run with sync := true } }

/-! ### Flights -/

/-- One member of an operation under way. -/
def Exe.member (e : Exe) (f : Flight) (m : Nat) : Exe :=
  if isMld f.sock f.op then e
  else if f.sock = tVALU0 ∨ f.sock = tVALU1 then e.valu f m
  else if f.sock = tMMUL then e.mmul f m
  else if f.sock = tMADD then e.madd f m
  else if f.sock = tBFY0 ∨ f.sock = tBFY1 then e.bfy f m
  else if f.sock = tFXP then e.fxp f m
  else if f.sock = tBITF then e.bitf f m
  else if f.sock = tCLZ then e.clz f m
  else if f.sock = tPERM then e.perm f m
  else if f.sock = tLSU then e.lsu f m
  else e.gsu f m

/-- An operation works on operand memory; such operations take effect in the order of their triggers (R276). -/
def onMemory (t : Nat) : Bool := t == tLSU || t == tGSU

/-- Members are still to be done. -/
def Flight.going (f : Flight) : Bool := decide (f.next < members f.sock f.op)

/-- Its unit is still occupied in the next cycle (R231, R238). -/
def Flight.holds (f : Flight) (cyc : Nat) : Bool := f.going || decide (cyc + 1 < f.start + members f.sock f.op * f.stride)

/-- The members that are due in this cycle, in the order of the triggers; an operation that faults ends. -/
def Exe.flyAll (e : Exe) : List Flight → List Flight → Exe
  | kept, [] => { e with run := { e.run with flights := kept } }
  | kept, f :: t =>
    let blocked := onMemory f.sock && kept.any fun g => onMemory g.sock && g.going
    if !f.going then (if f.holds e.run.cyc then e.flyAll (kept ++ [f]) t else e.flyAll kept t)
    else if blocked || decide (e.run.cyc < f.start + f.next * f.stride) then e.flyAll (kept ++ [f]) t
    else
      let e1 := e.member f f.next
      let f1 := { f with next := f.next + 1 }
      if (e.fault.isNone && e1.fault.isSome) || !f1.holds e.run.cyc then e1.flyAll kept t else e1.flyAll (kept ++ [f1]) t

/-- Flights brought to the present cycle. -/
def Exe.fly (e : Exe) : Exe := e.flyAll [] e.run.flights

/-! ### Triggers (R232, R263) -/

/-- The faults of an operation that its trigger shows: registers that it reads or writes by groups not a multiple of G, a modulus, a twiddle, an address. (DEDUCED: notes/assumptions/54) -/
def Exe.triggerFault (e : Exe) (t op : Nat) (tr : Port) : Option Nat :=
  let g := opG op
  let srcs := tr :: (operands t).map e.run.port
  let misaligned := ((groupInputs t op).any fun i => (srcs.getD i {}).src.elim false fun k => k % g != 0) ||
    (grouped t op && (opXF op % g != 0 || ((t == tBFY0 || t == tBFY1) && bits tr.v 26 21 % g != 0)))
  let mode := opMode op
  if !opLegal t op then some 0x01
  else if isMld t op then (if tr.v % 2 ^ 28 % 2 = 0 ∨ tr.v % 2 ^ 28 < 3 then some 0x05 else none)
  else if misaligned then some 0x02
  else if t = tMMUL then (if opFunc3 op = 0 ∧ badModulus mode (e.run.modulus 0 (opSel op)) then some 0x05 else none)
  else if t = tMADD then
    (if badModulus (if opFunc3 op = 5 then 1 else mode) (e.run.modulus 1 (opSel op)) then some 0x05 else none)
  else if t = tBFY0 ∨ t = tBFY1 then
    let q := e.run.modulus (modUnit t) (opSel op)
    let tab := bits tr.v 1 0
    let n := laneN mode * g * (if 2 ≤ opFunc3 op then 2 else 1)
    if badModulus mode q then some 0x05
    else if tableLen tab ≤ bits tr.v 12 2 + (n - 1) / 2 ^ bits tr.v 16 13 ∨ (tableMod tab).elim false (fun m => m != q) then some 0x06
    else if 2 ≤ opFunc3 op ∧ laneN mode ≤ 2 ^ bits tr.v 20 18 then some 0x01
    else none
  else if t = tLSU then
    let a := (e.run.port 0xA8).v
    let fn := opFunc op
    let n := if fn ≤ 1 then (if mode = 3 then 2 else 1) else if fn ≤ 3 then 4 else 32 * g
    if (fn ≤ 1 ∧ mode = 3 ∧ a % 2 = 1) ∨ (2 ≤ fn ∧ a % 4 ≠ 0) then some 0x02
    else if memWords < a + n then some 0x03 else none
  else none

/-- A trigger: the unit's operation starts (R232). -/
def Exe.trigger (e : Exe) (t op slot : Nat) (tr : Port) : Exe :=
  match e.triggerFault t op tr with
  | some c => e.fail (unitFault c t op tr slot)
  | none =>
    if t = tALU0 ∨ t = tALU1 then e.alu t op tr
    else if t = tXS then e.xs t op tr slot
    else if t = tHP then e.hp t op tr slot
    else if t = tSMP then e.smp t op tr slot
    else if t = tMSK then e.msk t op tr slot
    else if t = tTWR then e.twrite tr
    else if t = tCTL then e.ctl t op tr slot
    else
      let stride := if t = tLSU ∧ 4 ≤ opFunc op ∧ (e.run.port 0xA8).v / 4 % 8 ≠ 0 then 2 else 1
      let f : Flight := { sock := t, op := op, trig := tr, ports := (operands t).map e.run.port, start := e.run.cyc, stride := stride,
                          bundle := e.run.pc, slot := slot }
      let e1 := if isMld t op then
          { e with run := { e.run with mods := nset 0 e.run.mods (4 * modUnit t + opSel op) (tr.v % 2 ^ 28) } } else e
      let last := e.run.cyc + (if (t = tLSU ∧ opFunc op ≠ 4) ∨ (t = tGSU ∧ opFunc op = 1) then 0 else unitLatency t op) + (opG op - 1) * stride
      let e2 := if streaming t op then { e1 with run := { e1.run with streams := e1.run.streams ++ [last] } } else e1
      ({ e2 with run := { e2.run with flights := e2.run.flights ++ [f] } }).fly

/-! ### Moves (R232, R248, R262, R263) -/

/-- The sockets that take no secret-tagged value (R248). -/
def publicSockets : List Nat := [0xA8, 0xB0, 0xAC, tGSU, 0xB4, 0xB8, tCTL] ++ (List.range 12).map (0x68 + ·)

/-- A value moved into a socket; op is the operation field. Registers take it at the end of the cycle. -/
def Exe.move (e : Exe) (slot dst op : Nat) (p : Port) : Exe :=
  if p.tag ∧ publicSockets.contains dst then e.fail (unitFault 0x07 (if triggers.contains dst then dst else 0) op p slot)
  else if dst < 0x74 then { e with moves := e.moves ++ [(dst, p.toVal)] }
  else if dst = 0xFF then e
  else
    let e1 := { e with run := e.run.setPort dst p }
    if triggers.contains dst then e1.trigger dst op slot p else e1

/-! ### Cycles -/

/-- One half of a vector register replaced. -/
def halfOf (old new : Val) (h : Nat) : Val :=
  if h = 0 then { v := new.v % 2 ^ 224 + old.v / 2 ^ 224 * 2 ^ 224, tag := new.tag }
  else { v := old.v % 2 ^ 224 + new.v % 2 ^ 224 * 2 ^ 224, tag := old.tag || new.tag }

/-- A unit's write carried out. -/
def CoreRun.applyWrite (r : CoreRun) (w : PWrite) : CoreRun :=
  if 0x1000 ≤ w.dst then { r with twr := nset 0 r.twr (w.dst - 0x1000) w.val.v }
  else if w.dst < 0x74 then
    r.setReg w.dst (match w.half with
      | some h => halfOf (r.reg w.dst) w.val h
      | none => w.val)
  else r.setPort w.dst { w.val with src := none }

/-- A loop count written over levels that do not nest (R270). -/
def CoreRun.badLoop (r : CoreRun) (k : Nat) : Bool :=
  r.lc k != 0 && (decide (r.le k < r.ls k) || (List.range 4).any fun j =>
    r.lc j != 0 && ((decide (j < k) && (decide (r.ls k < r.ls j) || decide (r.le j < r.le k))) ||
      (decide (k < j) && (decide (r.ls j < r.ls k) || decide (r.le k < r.le j)))))

/-- The end of a cycle: the units' writes that are due, but for those to a register that a move writes; then the moves (R263); then
the checks of the loop counts written (R270). -/
def Exe.endCycle (e : Exe) : Exe :=
  let due := e.run.writes.filter fun w => decide (w.when' ≤ e.run.cyc) && !(e.moves.any fun m => m.1 == w.dst)
  let kept := e.run.writes.filter fun w => decide (e.run.cyc < w.when')
  let r1 := due.foldl CoreRun.applyWrite { e.run with writes := kept }
  let r2 := e.moves.foldl (fun r m => r.setReg m.1 m.2) r1
  let bad := (List.range 4).any fun k => (e.moves.any fun m => m.1 == 0x70 + k) && r2.badLoop k
  let e1 := { e with run := { r2 with cyc := r2.cyc + 1, streams := r2.streams.filter fun c => decide (r2.cyc < c) }, moves := [] }
  if bad then e1.fail { cause := 0x0A } else e1

/-- A cycle in which no bundle starts. -/
def Exe.idleCycle (e : Exe) : Exe := e.fly.endCycle

/-- Idle cycles until nothing is under way, with at most f of them. (DEDUCED: notes/assumptions/56; DEDUCED: notes/assumptions/61) -/
def Exe.settleFor : Nat → Exe → Exe
  | 0, e => e
  | f + 1, e => if e.run.flights = [] ∧ e.run.writes = [] ∧ e.moves = [] then e else e.idleCycle.settleFor f

/-- The cycles that CYCLE_LIMIT leaves, and those of the longest operation beyond it (R271). -/
def Exe.fuel (e : Exe) : Nat := e.limit - e.run.cyc + 256

/-- Idle cycles until nothing is under way, or until the job has gone beyond its CYCLE_LIMIT. -/
def Exe.settle (e : Exe) : Exe := e.settleFor e.fuel

/-- The end of a cycle in which no more grouped operation may stream, until one more may (R231). (DEDUCED: notes/assumptions/56) -/
def Exe.roomFor : Nat → Exe → Exe
  | 0, e => e
  | f + 1, e => if e.run.streams.length < 2 ∨ e.fault.isSome then e else e.endCycle.fly.roomFor f

end Sys2Proof.Machine
end

