-- ==== Sys2Proof/Machine/MarBundle.lean ====
section
/-! DEFINITION. Bundles: decoding, stalls, conditions, loop ends; a core's step on the state (R261 to R271, R231, R232, R248). -/
namespace Sys2Proof.Machine

open Sys2Proof

/-- A move of a bundle (R262): its slot, sockets, operation field, and the immediate of LIMM. -/
structure MMove where
  slot : Nat
  dst : Nat
  src : Nat
  op : Nat
  imm : Nat := 0
deriving DecidableEq, Repr

/-- Slot n of a bundle. -/
def slotOf (b n : Nat) : Nat := b / 2 ^ (31 * n) % 2 ^ 31

/-- The moves of a bundle from slot n on, with f slots left; none where LIMM stands in the last slot or its immediate is too long. -/
def bundleMoves (b : Nat) : Nat → Nat → Option (List MMove)
  | 0, _ => some []
  | f + 1, n =>
    let w := slotOf b n
    let m : MMove := { slot := n, dst := bits w 30 23, src := bits w 22 15, op := bits w 14 0 }
    if m.dst = 0xFF ∧ m.src = 0xFF then bundleMoves b f (n + 1)
    else if m.src = 0xF1 then
      match f with
      | 0 => none
      | g + 1 =>
        let i := slotOf b (n + 1)
        if i < 2 ^ 28 then (bundleMoves b g (n + 2)).map fun l => { m with imm := i } :: l else none
    else (bundleMoves b f (n + 1)).map fun l => m :: l

/-- A socket that is reserved (R264). -/
def reservedSocket (k : Nat) : Bool :=
  (decide (0x74 ≤ k) && decide (k ≤ 0x7F)) || (decide (0xC4 ≤ k) && decide (k ≤ 0xEF)) || (decide (0xF2 ≤ k) && decide (k ≤ 0xFE))

/-- A move breaks a rule of R263. (DEDUCED: notes/assumptions/54) -/
def MMove.illegal (m : MMove) : Bool :=
  reservedSocket m.dst || reservedSocket m.src || inputSockets.contains m.src || resultSockets.contains m.dst ||
    m.dst == 0xF0 || m.dst == 0xF1 || m.dst == 0x67 || (m.src == 0xF0 && triggers.contains m.dst) ||
    (triggers.contains m.dst && !opLegal m.dst m.op)

/-- Two moves write the same register or port. -/
def clash : List MMove → Bool
  | [] => false
  | m :: t => (m.dst != 0xFF && t.any fun k => k.dst == m.dst) || clash t

/-- The moves of a bundle, when it breaks no rule; else the slot at fault. (DEDUCED: notes/assumptions/54) -/
def decodeBundle (b : Nat) : Except Nat (List MMove) :=
  match bundleMoves b 4 0 with
  | none => .error 3
  | some l =>
    match l.find? MMove.illegal with
    | some m => .error m.slot
    | none => if clash l then .error 0 else .ok l

/-- What a move's source supplies (R262, R264). -/
def Exe.source (e : Exe) (m : MMove) : Port :=
  if m.src < 0x67 ∨ (0x68 ≤ m.src ∧ m.src < 0x74) then
    { e.run.reg m.src with src := if 0x20 ≤ m.src ∧ m.src < 0x60 then some (m.src - 0x20) else none }
  else if m.src = 0xF0 then { v := m.op }
  else if m.src = 0xF1 then { v := m.imm }
  else if resultSockets.contains m.src then { (e.run.port m.src).toVal with src := none }
  else {}

/-- The bundle must wait in this cycle (R231, R232): for a unit, for a result, or until two grouped operations, or all that it has, may stream. -/
def Exe.stalls (e : Exe) (l : List MMove) : Bool :=
  let t := l.filter fun m => triggers.contains m.dst
  let n := (t.filter fun m => streaming m.dst m.op).length
  (t.any fun m => e.run.flights.any fun f => f.sock == m.dst) ||
    (l.any fun m => variableResults.contains m.src && e.run.writes.any fun w => w.dst == m.src && decide (e.run.cyc ≤ w.when')) ||
    (n != 0 && decide (2 < e.run.streams.length + min n 2))

/-- Idle cycles until the bundle may start, with at most f of them. -/
def Exe.await (l : List MMove) : Nat → Exe → Exe
  | 0, e => e
  | f + 1, e => if e.stalls l && e.fault.isNone then e.idleCycle.await l f else e

/-- The predicate that a condition reads, and the value it wants (R267). -/
def condition (c : Nat) : Option (Nat × Bool) :=
  if c = 0 then none else if c < 8 then some (c - 1, true) else if c = 8 then none else some (c - 9, false)

/-- The bundle takes effect. -/
def Exe.takes (e : Exe) (c : Nat) : Bool :=
  match condition c with
  | none => c == 0
  | some (p, want) => ((e.run.reg (0x60 + p)).v == 1) == want

/-- The condition's predicate is secret. -/
def Exe.condSecret (e : Exe) (c : Nat) : Bool := (condition c).elim false fun p => (e.run.reg (0x60 + p.1)).tag

/-- The units whose trigger takes no secret condition (R248). -/
def publicTriggers : List Nat := [tHP, tSMP, tXS, tMSK, tCTL]

/-- A trigger under a secret condition that R248 forbids. -/
def secretTrigger (secret : Bool) (m : MMove × Port) : Bool := secret && publicTriggers.contains m.1.dst

/-- The fault of a secret condition, whether the bundle takes effect or not: that must not depend on the secret (R248). -/
def Exe.condFault (e : Exe) (secret : Bool) (l : List (MMove × Port)) : Exe :=
  match l.find? (secretTrigger secret) with
  | some m => e.fail { cause := 0x07, sock := m.1.dst, slot := m.1.slot, op := m.1.op, trig := m.2 }
  | none => e

/-- One move of a bundle that takes effect; a grouped operation beyond the second waits within its bundle (R231). -/
def Exe.perform (e : Exe) (secret : Bool) (m : MMove × Port) : Exe :=
  if secretTrigger secret m then e
  else
    let e1 := if triggers.contains m.1.dst && streaming m.1.dst m.1.op then e.roomFor e.fuel else e
    e1.move m.1.slot m.1.dst m.1.op m.2

/-- The loop-end check at the end of a bundle (R269): the next bundle, with the counts as they then are. -/
def CoreRun.loopEnd (r : CoreRun) (pc : Nat) : Nat → Nat × CoreRun
  | 0 => (pc + 1, r)
  | f + 1 =>
    match ((List.range 4).reverse).find? fun k => r.lc k != 0 && r.le k == pc with
    | none => (pc + 1, r)
    | some k =>
      let r1 := r.setReg (0x70 + k) { v := r.lc k - 1 }
      if r1.lc k ≠ 0 then (r.ls k, r1) else r1.loopEnd pc f

/-- END takes effect once nothing is under way, before CYCLE_LIMIT is passed, with no secret row in a public output (R248, R271). -/
def Exe.finish (e : Exe) (n : Nat) : Exe :=
  let e1 := e.settle
  if e1.limit < e1.run.cyc then e1.fail { cause := 0x0C } else
  let secret := (List.range (rowsOf e.outFmt n)).any fun i => (e1.row (e.outBase / 4 + i)).tag
  if !e.outSecret && secret then e1.fail { cause := 0x07, sock := tCTL } else e1

/-- One bundle of a core (R267). -/
def Exe.bundle (e0 : Exe) (b : Nat) : Exe :=
  if e0.codeLen ≤ e0.run.pc then e0.fail { cause := 0x0B } else
  match decodeBundle b with
  | .error slot => e0.fail { cause := 0x01, slot := slot }
  | .ok l =>
    let e := Exe.await l e0.fuel e0
    if e.fault.isSome then e
    else if e.limit ≤ e.run.cyc then e.fail { cause := 0x0C } else
    let c := bits b 127 124
    let vals := l.map fun m => (m, e.source m)
    let e1 := e.fly.condFault (e.condSecret c) vals
    let e2 := if e.takes c then
        ((vals.filter fun m => !triggers.contains m.1.dst) ++ vals.filter fun m => triggers.contains m.1.dst).foldl
          (fun t m => t.perform (e.condSecret c) m) e1
      else e1
    let next := match e2.jump with
      | some t => (t, e2.run.jumpTo t)
      | none => e2.run.loopEnd e.run.pc 4
    let e3 := ({ e2 with run := { next.2 with pc := next.1 }, jump := none }).endCycle
    let e4 := if e2.jump.isSome then e3.idleCycle else e3
    match e4.run.ended with
    | some n => if e4.fault.isSome then e4 else e4.finish n
    | none => e4

/-! ### A core's step on the state -/

/-- The job of a quarter. -/
def State.quarterJob (s : State) (c n : Nat) : Option Job := (s.quarter c n).job.bind fun p => s.job? p.1 p.2

/-- The kernel of a job. -/
def State.jobKernel (s : State) (j : Job) : Option KernelX := j.kernel.bind s.kernelAt

/-- A kernel's constants. -/
def KernelX.consts (k : KernelX) : List Byte := bslice k.bundle (256 + 16 * k.codeLen) k.constLen

/-- A bundle of a kernel, counted from its first. -/
def KernelX.bundleAt (k : KernelX) (pc : Nat) : Nat := bfield k.bundle (256 + 16 * pc) 16

/-- The most bytes that a job's END may name: L and OUT_MAX (R271). -/
def outLimit (j : Job) (k : KernelX) : Nat := min (bits j.aux 23 0) k.outMax

/-- The sessions of a core that are CLOSED in the session store, none being zeroized (R289, R296). -/
def State.freePlaces (s : State) (c : Nat) : List Nat := ((List.range 4).map (4 * c + ·)).filter fun p => decide (s.session p = {})

/-- A core with its surroundings, for the job in its quarter n. -/
def State.exe (s : State) (c n : Nat) (j : Job) (k : KernelX) : Exe :=
  let x := s.quarter c n
  { run := (s.core c).run, rows := x.rows, sess := x.sess, nSess := x.sessions, places := s.freePlaces c, scr := (s.gather (c / 8)).rows, pages := x.pages, consts := k.consts,
    codeLen := k.codeLen, limit := k.cycleLimit, outLim := outLimit j k, outBase := k.outBase, outFmt := bits k.formats 7 4, outSecret := k.outSecret,
    team := k.team, free := s.free }

/-- The other cores of a gathering lose their reservations on rows that have been written (R279). -/
def State.clearReservations (s : State) (c : Nat) (rows : List Nat) : State :=
  if rows = [] then s else
  ((List.range 8).map (c / 8 * 8 + ·)).foldl (fun t k =>
    if k ≠ c ∧ ((t.core k).run.resv.elim false rows.contains) then
      t.setCore k { t.core k with run := { (t.core k).run with resv := none } } else t) s

/-- What a core asks of the hash farm for a job (R290, R291). -/
def State.farmAct (s : State) (j : Job) (a : FarmAct) : State :=
  match a with
  | .opened p => s.setSession p { st := 1, owner := some (j.q, j.idx) }
  | .call p h => s.issueCall p j h
  | .closed p => s.closeSession p

/-- What a core's step leaves, put back. -/
def State.putExe (s : State) (c n : Nat) (j : Job) (e : Exe) : State :=
  let s1 := ({ s with free := e.free }).setCore c { s.core c with run := e.run }
  let s2 := s1.setQuarter c n { s1.quarter c n with rows := e.rows, sess := e.sess }
  let s3 := (s2.setGather (c / 8) { s2.gather (c / 8) with rows := e.scr }).clearReservations c e.written
  e.acts.foldl (fun t a => t.farmAct j a) s3

/-- The cores run in precise mode: BLANK, TEST or DIAG, or before READY (R278, R478). -/
def State.precise (s : State) : Bool := decide (s.getF .LCO_STATE_STATE 0 ≤ 1) || s.getF .LCO_STATE_STATE 0 == 3 || !s.flag .GLB_STATUS_READY 0

/-- A fault recorded in a core's registers, unless one stands there (R282). -/
def State.recordFault (s : State) (c : Nat) (f : MFault) (kernel addr : Nat) : State :=
  if s.flag .MAR_FAULT_INFO_VALID c then s else
  let s1 := (((((s.setFlag .MAR_FAULT_INFO_VALID c true).setFlag .MAR_FAULT_INFO_PRECISE c s.precise).setFlag .MAR_FAULT_INFO_ENGINE c f.engine).setF
    .MAR_FAULT_INFO_LANE c f.lane).setF .MAR_FAULT_INFO_SOCKET c f.sock).setF .MAR_FAULT_INFO_CAUSE c f.cause
  ((s1.setF .MAR_FAULT_PC_KERNEL c kernel).setF .MAR_FAULT_PC_SLOT c f.slot).setF .MAR_FAULT_PC_BUNDLE c addr

end Sys2Proof.Machine
end

