-- ==== Sys2Proof/Machine/Evidence.lean ====
section
/-! DEFINITION. Tamper evidence: the always-on event buffer and its journal records (R470 to R474). -/
namespace Sys2Proof.Machine

open Sys2Proof

/-- Response bits (R465). -/
def rLog : Nat := 0
def rIrq : Nat := 1
def rHalt : Nat := 2
def rSession : Nat := 3
def rBound : Nat := 4
def rReset : Nat := 5
def rLockdown : Nat := 6
def rCount : Nat := 7

/-- The 16 bytes of a buffer entry (R473). (DEDUCED: notes/assumptions/81) -/
def AoEntry.bytes (e : AoEntry) : List Byte :=
  leBytes 2 e.sources ++ leBytes 1 e.done ++ leBytes 1 e.pend ++ leBytes 6 e.sec ++ leBytes 2 e.tick ++ leBytes 1 e.power ++
    leBytes 1 (b2n e.countDone + 2 * b2n e.journaled + 4 * b2n e.spilled) ++ leBytes 2 e.overflow

/-- POWER as the buffer and the records show it. (DEDUCED: notes/assumptions/81) -/
def State.powerCode (s : State) : Nat :=
  match s.pwr.mode with
  | .active | .idle => 0
  | .doze => 1
  | .deep => 2
  | .backup | .unpowered => 3

/-- The 8 bytes of a TAMPER record (R474). -/
def State.tamperData (s : State) (source resp det power : Nat) : List Byte :=
  leBytes 1 source ++ leBytes 1 resp ++ leBytes 1 det ++ leBytes 1 power ++ leBytes 2 (s.getF .TMP_OTP_COUNT_COUNT 0) ++ zeros 2

/-- The sources of a set, ascending. -/
def sourcesOf (m : Nat) : List Nat := (List.range 16).filter fun n => bit m n

/-- The registers that show the buffer. -/
def State.showBuf (s : State) : State :=
  (s.setFlag .TMP_STATUS_EVIDENCE_PENDING 0 (!s.tmp.buf.isEmpty)).setF .TMP_AO_FILL_ENTRIES 0 s.tmp.buf.length

/-- Entries that are journaled and counted leave the buffer. -/
def State.freeBuf (s : State) : State :=
  { s with tmp := { s.tmp with buf := s.tmp.buf.filter fun e => !(e.journaled && e.countDone) } }.showBuf

/-- The TAMPER records of an event, one per source with LOG in its responses. (DEDUCED: notes/assumptions/81) -/
def State.tamperRecords (s : State) (sources resp power : Nat) : State :=
  (sourcesOf sources).foldl (fun t n => t.journal 0x0005 (t.tamperData n resp (t.getF .TMP_SRC_STATUS_DETECTORS n) power)) s

/-- The buffer journaled once QRE is READY: each entry as AO_BUFFER, then the TAMPER records of its sources (R473). (DEDUCED: notes/assumptions/81) -/
def State.evidenceJournal (s : State) : State :=
  if !s.flag .QRE_STATUS_READY 0 then s else
  let s1 := (s.tmp.buf.filter fun e => !e.journaled).foldl (fun t e =>
    (t.journal 0x0006 e.bytes).tamperRecords e.sources (e.done ||| e.pend) e.power) s
  let s2 : State := { s1 with tmp := { s1.tmp with buf := s1.tmp.buf.map fun (e : AoEntry) => { e with journaled := true } } }
  s2.freeBuf

/-- An entry written; while the buffer is full it replaces entry 31 and is counted there. -/
def State.putBuf (s : State) (e : AoEntry) : State :=
  if s.tmp.buf.length < 32 then { s with tmp := { s.tmp with buf := s.tmp.buf ++ [e] } }.showBuf
  else
    let old := (s.tmp.buf.getD 31 e).overflow
    let last : AoEntry := { e with spilled := true, overflow := min 65535 (old + 1) }
    let s1 : State := { s with tmp := { s.tmp with buf := s.tmp.buf.take 31 ++ [last] } }
    (s1.raiseErr blkTMP 2 ((sourcesOf e.sources).headD 0) 0).showBuf

end Sys2Proof.Machine
end

