-- ==== Sys2Proof/Machine/StoreCmds.lean ====
section
/-! DEFINITION. The sealed store's own commands: storage completions, opening, formatting, ranges, time limits; the rebuild of the
key vault and of the streams (R110, R354 to R358, R363 to R368, R371, R373, R379 to R391, R398, R401). -/
namespace Sys2Proof.Machine

open Sys2Proof

/-! ### Presented records (R386, R389) -/

/-- The anchor register holds a value whose MAC verifies (R387). -/
def State.anchorValid (s : State) : Bool :=
  s.store.anchor.valid && s.kv.bbk.isSome &&
    decide (s.store.anchor.mac = bytesOf 8 (Config.kmac256 s.kAnchor
      (leBytes 2 s.store.anchor.epoch ++ leBytes 8 s.store.anchor.commit ++ s.store.anchor.digest) [] 32))

/-- The STORE_ID of a presented root record in use for the derivations. -/
def State.withStoreId (s : State) (d : List Byte) : State := { s with store := { s.store with storeId := bslice d 8 16 } }

/-- OPEN_RESULT of a presented root record: the first check of R389 that matches. (DEDUCED: notes/assumptions/46) -/
def State.judgeRoot (s0 : State) (d : List Byte) : Nat :=
  let s := s0.withStoreId d
  let body := bslice d 0 96
  let e := s.epoch
  let ep := bfield d 6 2
  let c := bfield d 24 8
  let a := s.store.anchor
  if bslice d 0 5 ≠ [0x55, 0x4D, 0x56, 0x53, 0x01] ∨ bslice d 96 32 ≠ bytesOf 32 (Config.kmac256 s.kRoot body [] 32) then 5
  else if ep ≠ e ∧ ¬ (ep + 1 = e ∧ bfield d 5 1 = 1) then 4
  else if s.anchorValid then
    if (c ≠ a.commit ∧ c ≠ a.commit + 1) ∨ (c = a.commit ∧ bytesOf 16 (Config.hash 4 body) ≠ a.digest) then 3 else 1
  else 2

/-- An open that ends REFUSED with a result. -/
def State.openRefused (s : State) (res : Nat) (d : List Byte) : State :=
  let s1 : State := { s with store := { s.store with presented := d, openRes := 0 } }
  ((s1.setF .SEAL_STATUS_OPEN_RESULT 0 res).setF .SEAL_STATUS_STATE 0 3).raiseErr blkSEAL 3 0 0

/-- The blocks of the system area that hold the range table: KV and Quire in block 1, 512 slices in each of the next eight (DESIGN
CHOICE, notes/assumptions/42). (DESIGN CHOICE: notes/assumptions/42) -/
def rangeBlocks : List Nat := (List.range 9).map (· + 1)

/-- A presented root record taken: its root node, its COMMIT; the range table is asked for. -/
def State.openLoad (s0 : State) (d : List Byte) (res : Nat) : State :=
  let s := s0.withStoreId d
  let s1 : State := { s with store := { s.store with
    nodes := nset {} [] (nodeKey 11 0) (nodeParse 11 (bslice d 32 56)), raw := [], data := [], openG := {}, persG := none,
    commit := bfield d 24 8 + 1, prepared := false, placeQ := [], discards := [], failed := [], presented := d, openRes := res } }
  rangeBlocks.foldl (fun t b => t.want b) (s1.setF .SEAL_COMMIT_COMMIT 0 (bfield d 24 8))

/-- The root record fetched at an open. -/
def State.rootPresented (s : State) (d : List Byte) : State :=
  let r := s.judgeRoot d
  if r ≤ 2 then s.openLoad d r else s.openRefused r d

/-! ### The range table (R373) -/

/-- One range of the table loaded from its 8 bytes. (DESIGN CHOICE: notes/assumptions/43) -/
def State.loadRange (s : State) (span base : Fld) (i : Nat) (d : List Byte) : State :=
  (s.setF base i (bfield d 0 4)).setF span i (bfield d 4 4)

/-- The range table loaded. (DESIGN CHOICE: notes/assumptions/42) -/
def State.loadRanges (s : State) (d : List Byte) : State :=
  let s1 := (s.loadRange .SEAL_RANGE_KV_SPAN .SEAL_RANGE_KV_BASE 0 (bslice d 0 8)).loadRange .SEAL_RANGE_QRE_SPAN .SEAL_RANGE_QRE_BASE 0 (bslice d 8 8)
  ((List.range 4096).filter fun i => bslice d (4096 + 8 * i) 8 != zeros 8).foldl (fun t i =>
    t.loadRange .SEAL_RANGE_SLICE_SPAN .SEAL_RANGE_SLICE_BASE i (bslice d (4096 + 8 * i) 8)) s1

/-- The bytes of a range. -/
def State.rangeBytes (s : State) (span base : Fld) (i : Nat) : List Byte := leBytes 4 (s.getF base i) ++ leBytes 4 (s.getF span i)

/-- A block of the range table placed. (DESIGN CHOICE: notes/assumptions/42) -/
def State.placeRange (s : State) (r : RangeSel) : State :=
  match r with
  | .slice i =>
    s.place (2 + i / 512) ((List.range 512).flatMap fun k => s.rangeBytes .SEAL_RANGE_SLICE_SPAN .SEAL_RANGE_SLICE_BASE (i / 512 * 512 + k)) none
  | _ =>
    s.place 1 (s.rangeBytes .SEAL_RANGE_KV_SPAN .SEAL_RANGE_KV_BASE 0 ++ s.rangeBytes .SEAL_RANGE_QRE_SPAN .SEAL_RANGE_QRE_BASE 0) none

/-! ### The key vault rebuilt (R354, R355, R363, R365, R366, R368, R371) -/

/-- What a custody image holds. -/
def custodyOf (c : CustodyImage) : CustodyX :=
  { id := c.id, set := c.set, types := c.types, levels := c.levels, resLog2 := c.resLog2, n := c.total, resEnd := c.resEnd, winEpoch := c.winEpoch,
    ceil := c.ceil, pendEpoch := c.pendEpoch, pendCeil := c.pendCeil, destroyed := c.destroyed, version := c.version }

/-- The pending fields that an interrupted cold anchor left, settled (R363). (DEDUCED: notes/assumptions/37) -/
def CustodyX.settle (x : CustodyX) (epoch : Nat) : CustodyX :=
  if x.pendCeil = 0 then x
  else if x.pendEpoch = epoch then { x with winEpoch := x.pendEpoch, ceil := x.pendCeil, pendEpoch := 0, pendCeil := 0 }
  else if epoch < x.pendEpoch then { x with pendEpoch := 0, pendCeil := 0 } else x

/-- Where a record stands after the open: NEXT = RES_END with a valid anchor (R365), both at the ceiling of the current epoch
without one (R366). -/
def CustodyX.start (x : CustodyX) (epoch : Nat) (anchored : Bool) : CustodyX :=
  let y := x.settle epoch
  if anchored then { y with next := y.resEnd }
  else if y.winEpoch = epoch then { y with next := y.ceil, resEnd := y.ceil } else { y with next := y.resEnd }

/-- A custody record taken from the vault area; one that fails its check is latched. -/
def State.loadCustody (s : State) (anchored : Bool) (c : CustodyImage) : State :=
  let x := custodyOf c
  let y := x.start s.epoch anchored
  let s0 : State := { s with kv := { s.kv with nextCustody := max s.kv.nextCustody (c.num + 1) } }
  if !c.good then (s0.setCust c.num x).raiseErr blkKV 3 0 c.num
  else
    let s1 := if !anchored && !x.destroyed && y.winEpoch == s.epoch then s0.count .KV_ABANDONED_INDICES_COUNT 0 (y.resEnd - x.resEnd) else s0
    if x.destroyed ∨ { y with next := 0 } = x then s1.setCust c.num y else s1.writeCust c.num y none

/-- A key starts in quarantine, whether or not it leaves it at this open. -/
def startsQuarantined (v : VaultImage) (anchored : Bool) (k : KeyImage) : Bool :=
  k.stateful && (!anchored || (k.custody.elim false fun c => v.custody.any fun x => x.num == c && !x.good))

/-- A key of the vault area is gone with the BBK (R355). (DEDUCED: notes/assumptions/82) -/
def State.tbLost (s : State) (k : KeyImage) : Bool := k.cls == 2 && !k.good && s.kv.bbkLost

/-- A key's entry rebuilt: with its index and generation; unusable when its record fails while its roots are present (R371); freed
when it was TAMPER_BOUND and the BBK has been lost. -/
def State.loadKey (s : State) (v : VaultImage) (anchored : Bool) (k : KeyImage) : State :=
  if s.tbLost k then
    let s1 := (s.setKey k.idx { gen := (k.gen + 1) % 4096 }).count .KV_TB_ERASED_COUNT_COUNT 0 1
    s1.discardBlock (s1.keyBlock k.idx) none
  else
    let held := startsQuarantined v anchored k && !(k.custody.elim false fun c =>
      (v.custody.any fun x => x.num == c && x.good) && (s.cust c).winEpoch == s.epoch)
    let s1 := s.setKey k.idx {
      used := true, gen := k.gen, owner := k.owner, family := k.family, paramset := k.paramset, cls := clsOf k.cls, order := k.order,
      usage := k.usage, pubOnly := k.pubOnly, stateful := k.stateful, quarantined := held, unusable := !k.good, keyLen := k.keyLen,
      created := k.created, priv := if k.good then k.priv else [], pub := if k.good then k.pub else [], localRec := k.good, custody := k.custody }
    if k.good then s1 else s1.raiseErr blkKV 1 0 k.idx

/-- The handle of a key image. (DESIGN CHOICE: notes/assumptions/43) -/
def imageHandle (k : KeyImage) : Nat := k.gen * 65536 + k.idx

/-- Images in ascending index order. -/
def byIndex (l : List KeyImage) : List KeyImage :=
  ((l.map fun k => k.idx).dedup.foldl insertAsc []).filterMap fun i => l.find? fun k => k.idx == i

/-- The vault rebuilt from what the host presents. (DESIGN CHOICE: notes/assumptions/43) -/
def State.kvRebuild (s : State) (v : VaultImage) (anchored : Bool) : State :=
  let ks := byIndex v.keys
  let s1 := v.custody.foldl (fun t c => t.loadCustody anchored c) s
  let s2 := ks.foldl (fun t k => t.loadKey v anchored k) s1
  let lost := ks.filter fun k => s.tbLost k
  let s3 := if lost = [] then s2 else (s2.kvEvent 2).journal 0x0009 (lost.flatMap fun k => leBytes 4 (imageHandle k))
  let q := ks.filter fun k => startsQuarantined v anchored k && !s.tbLost k
  let s4 := if q = [] then s3 else (s3.kvEvent 1).journal 0x000A (leBytes 4 q.length ++ q.flatMap fun k => leBytes 4 (imageHandle k))
  let s5 := s4.setF .KV_QUARANTINED_KEYS_COUNT 0 ((s4.keysUsed.filter fun i => (s4.key i).quarantined).length)
  { s5 with kv := { s5.kv with bbkLost := false } }.setFlag .KV_STATUS_OPEN 0 true

/-! ### Opening and formatting, as far as they have come (R389 to R391) -/

/-- The open in progress completed once the range table is there and no brace holds the anchor write: the anchor register takes the
presented record, the vault is rebuilt, and the store is OPEN, or, after FORCE_OPEN, its cold anchor starts. (DEDUCED: notes/assumptions/46) -/
def State.openAdvance (s : State) (v : VaultImage) : State :=
  if s.getF .SEAL_STATUS_STATE 0 ≠ 1 ∨ s.store.openRes = 0 ∨ s.flag .KV_STATUS_OPEN 0 ∨ s.flag .PWR_STATUS_BRACE 0 then s else
  let s0 := rangeBlocks.foldl (fun t b => t.want b) s
  match s0.readAll rangeBlocks with
  | none => s0
  | some d =>
    let c := bfield s.store.presented 24 8
    let s1 := s0.loadRanges d
    let s2 := if s1.kv.bbk.isSome then s1.setAnchor (s1.anchorFor (bslice s.store.presented 0 96) s1.epoch c) else s1
    let s3 := (s2.setF .SEAL_STATUS_OPEN_RESULT 0 s.store.openRes).journal 0x0001 (leBytes 1 s.store.openRes ++ [0] ++ leBytes 2 s2.epoch ++ leBytes 8 c)
    let s4 := s3.kvRebuild v (s.store.openRes == 1)
    let s5 : State := { s4 with store := { s4.store with openRes := 0 } }
    if s5.store.force then s5.coldStart else s5.setF .SEAL_STATUS_STATE 0 2

/-- FORMAT's epoch bit is burned: an empty tree, whose group is asked to close (R391). (DEDUCED: notes/assumptions/45) -/
def State.formatBurned (s : State) : State :=
  { s with store := { s.store with
      fmt := 2, nodes := [], raw := [], data := [], openG := { closeAsked := true }, persG := none, commit := 1, prepared := false, placeQ := [],
      discards := [], scQ := [], failed := [], occupied := [] } }.setF .SEAL_COMMIT_COMMIT 0 0

/-- FORMAT completed once its root record is durable: the ranges, stream 0, and the store OPEN. -/
def State.formatAdvance (s : State) : State :=
  if s.store.fmt ≠ 2 ∨ !s.durable 1 then s else
  let s1 : State := { s with store := { s.store with fmt := 0 }, qre := { s.qre with streams := [], nextFolio := 0, freeFolios := [] },
                             kv := { s.kv with custody := [], nextCustody := 0, bbkLost := false } }
  let s2 := (((s1.setF .SEAL_RANGE_KV_BASE 0 0x10000).setF .SEAL_RANGE_KV_SPAN 0 0x100000).setF .SEAL_RANGE_QRE_BASE 0 0x110000).setF
    .SEAL_RANGE_QRE_SPAN 0 0x10000000
  let s3 := s2.dropF fun f _ => f == .SEAL_RANGE_SLICE_BASE || f == .SEAL_RANGE_SLICE_SPAN
  let s4 := s3.placeRange .kv
  let s5 := (s4.makeStream 0 0 4 none).getD s4
  let s6 := (((s5.setFlag .KV_STATUS_OPEN 0 true).setFlag .QRE_STATUS_READY 0 true).setF .SEAL_STATUS_STATE 0 2).setF .SEAL_STATUS_OPEN_RESULT 0 1
  (s6.journal 0x0004 (padTo 16 s6.store.storeId)).journalDrain.evidenceJournal

/-- What has become possible after a storage completion or a lifted brace. -/
def State.storeSettle (s : State) (v : VaultImage) : State :=
  (((s.pump.finishGroup.settleCustody).coldAdvance).formatAdvance).openAdvance v

/-! ### Storage completions (R110, R383) -/

/-- The data of a FETCH in the buffer: judged as a root record, or checked against its parent. (DESIGN CHOICE: notes/assumptions/43) -/
def State.fetchDone (s : State) (o : ScOut) (d : List Byte) : State :=
  let s1 := s.issue (.read none o.buf 4096)
  if o.req.block = 0 then s1.rootPresented (padTo 4096 d)
  else
    let r := s1.fetched o.req.block d
    if r.1 then r.2.itemFailed o.req.block
    else { r.2 with store := { r.2.store with failed := r.2.store.failed.filter (· != o.req.block) } }

/-- NO_SPACE latched, until the next PERSIST that is DONE (R383, R519). -/
def State.noteNoSpace (s : State) (c b : Nat) : State :=
  { s with store := { s.store with noSpace := true } }.raiseErr blkSEAL 1 c b

/-- A request ended with a host status (R383): 0 DONE, 2 NO_SPACE, 3 ABSENT, every other MEDIA_ERROR. -/
def State.scEnded (s : State) (c : Nat) (o : ScOut) (status : Nat) (d : List Byte) : State :=
  match o.req.op with
  | .fetch =>
    if status = 0 then s.fetchDone o d
    else if status = 3 then (if o.req.block = 0 then s.openRefused 6 [] else s.itemFailed o.req.block)
    else s.repost o.req false
  | .persist =>
    if status = 0 then { s with store := { s.store with noSpace := false } }.persistDone o.req
    else if status = 2 then (s.noteNoSpace c o.req.block).repost o.req false
    else s.repost o.req false
  | .discard => if status = 0 ∨ status = 2 ∨ status = 3 then s else s.repost o.req false

/-- SC_COMPLETE (R110, R383): the host completes a request; d is what a FETCH's buffer holds, v the vault area as the host presents
it when the completion lets an open go on (notes/assumptions/43). -/
def execScComplete (c tag status : Nat) (d : List Byte) (v : VaultImage) (s0 : State) : Out := s0.mmio fun u =>
  let s := u.setHeld .QE_SC_COMPLETE c 0
  match s.scTake c tag with
  | (none, _) => .next (s.count .QE_SC_BAD_COMPLETE_COUNT_COUNT 0 1)
  | (some o, s1) => .next ((s1.scEnded c o status d).storeSettle v)

/-- COMMIT_GROUP_CLOSE (R379): SEAL_GROUP_TIME has passed since the first placement, or a close is asked for. -/
def execCommitGroupClose (s0 : State) : Out := s0.clocked fun s => if s.groupMayClose then .next s.closeGroup else .next s

/-- SEAL_RETRY_TIMER (R383): the request that has waited longest is posted again, and counted. -/
def execSealRetryTimer (s0 : State) : Out := s0.clocked fun s =>
  match s.store.retryQ with
  | [] => .next s
  | (r, _) :: rest => .next (({ s with store := { s.store with retryQ := rest } }.count .SEAL_REPOST_COUNT_COUNT 0 1).scAsk r)

/-! ### The storage time limit (R384) -/

/-- Two jobs wait on the same object. (DEDUCED: notes/assumptions/48) -/
def State.sameWait (s : State) (j k : Job) : Bool :=
  if j.computed then k.computed && k.needCommit == j.needCommit
  else !k.computed && ((j.waitBlocks.any fun b => k.waitBlocks.contains b) ||
    (j.index.isSome && k.index.isSome && (s.jobKey j).custody == (s.jobKey k).custody))

/-- UNIT and SYNDROME of a STORAGE_TIMEOUT: the channel and block of the request waited for. (DEDUCED: notes/assumptions/48) -/
def State.waitObject (s : State) (j : Job) : Nat × Nat :=
  let all := (List.range 4).flatMap fun c => (s.chan c).outstanding.map fun o => (c, o.req)
  if j.computed then
    if !s.durable j.needCommit then
      match all.find? fun r => decide (r.2.op = .persist) && r.2.block != 0 with
      | some r => (r.1, r.2.block)
      | none => if s.store.persG.isSome then (0, 0) else (0xFF, 0)
    else (0xFF, 0)
  else
    match all.find? fun r => decide (r.2.op = .fetch) && j.waitBlocks.any fun b => b == r.2.block || (pathBlocks b).contains r.2.block with
    | some r => (r.1, r.2.block)
    | none => (0xFF, 0)

/-- A job ended by the storage time limit: what it has placed stays placed. (DEDUCED: notes/assumptions/48) -/
def State.storageTimeout (s : State) (j : Job) : State :=
  let w := s.waitObject j
  let s1 := (s.letGo j).updJob j.q j.idx fun k =>
    { k with status := stStorageTimeout, detail := 0, result := 0, output := [], pass := [], computed := true, stage := .ended,
             waitSince := none, waitBlocks := [], needCommit := 0, pools := [], resPools := [], core := none, slot := none, slots := [] }
  let own := fun (o : Option (Nat × Nat)) => if o = some (j.q, j.idx) then none else o
  let s2 : State := { s1 with store := { s1.store with placeQ := s1.store.placeQ.map fun (p : Placement) => { p with owner := own p.owner } } }
  (s2.count .SEAL_TIMEOUT_COUNT_COUNT 0 1).raiseErr blkSEAL 2 w.1 w.2

/-- STORAGE_TIME_LIMIT (R384): the limit has passed since a job's wait began; of the jobs that wait on one object the one accepted
first ends first. (DESIGN CHOICE: notes/assumptions/8; DEDUCED: notes/assumptions/48) -/
def execStorageTimeLimit (q i : Nat) (s0 : State) : Out := s0.clocked fun s =>
  match s.job? q i with
  | none => .next s
  | some j =>
    if !j.live || j.waitSince.isNone || (s.jobs.any fun k => k.live && k.waitSince.isSome && decide (k.stamp < j.stamp) && s.sameWait j k)
    then .next s else .next (s.storageTimeout j)

/-! ### SEAL_CTRL (R389 to R391, R478) -/

/-- What a write of SEAL_CTRL asks for and gets. -/
inductive SealAct where
  | nothing | opening | force | format | refused
deriving DecidableEq, Repr

/-- SEAL_CTRL decided (R389): one operation, in PRODUCTION, in a state that accepts it, with CONFIRM and an epoch bit where it takes them. (DEDUCED: notes/assumptions/46) -/
def State.sealAct (s : State) (v : Nat) : SealAct :=
  let st := s.getF .SEAL_STATUS_STATE 0
  let confirm := bits v 31 16 == 0x5EA1
  let prod := s.getF .LCO_STATE_STATE 0 == 2
  let bit' := (s.thermoNext otpEpoch 128).isSome
  match bits v 2 0 with
  | 0 => .nothing
  | 1 => if prod && (st == 0 || st == 3) then .opening else .refused
  | 2 => if prod && confirm && st == 3 && s.getF .SEAL_STATUS_OPEN_RESULT 0 == 3 && bit' then .force else .refused
  | 4 => if prod && confirm && (st == 0 || st == 3) && bit' then .format else .refused
  | _ => .refused

/-- A refused write of SEAL_CTRL or of a range. -/
def State.sealRefuse (s : State) : State := s.count .SEAL_CFG_REFUSED_COUNT_COUNT 0 1

/-- The root record asked for. -/
def State.startOpen (s : State) : State :=
  (s.setF .SEAL_STATUS_STATE 0 1).scAsk { op := .fetch, block := 0, since := s.now }

/-- A mismatched state opened as OPENED_EPOCH, the rollback journaled (R390). (DEDUCED: notes/assumptions/46) -/
def State.startForce (s : State) : State :=
  let d := s.store.presented
  let s1 := s.journal 0x0002 (leBytes 8 s.store.anchor.commit ++ leBytes 8 (bfield d 24 8))
  let s2 : State := { s1 with store := { s1.store with force := true } }
  (s2.setF .SEAL_STATUS_STATE 0 1).openLoad d 2

/-- FORMAT begun: a STORE_ID drawn from D7, an epoch bit asked of LCO. -/
def State.startFormat (s : State) : State :=
  let (b, s1) := (s.drbgCalls 7 1).draw 16
  let s2 : State := { s1 with store := { s1.store with storeId := b, fmt := 1, openRes := 0 } }
  match s2.thermoNext otpEpoch 128 with
  | some w => (s2.setF .SEAL_STATUS_STATE 0 4).otpAsk { why := .epoch true, words := [w] }
  | none => s2

/-- A write of SEAL_CTRL. -/
def State.sealCtrl (s : State) (v : Nat) (img : VaultImage) : State :=
  match s.sealAct v with
  | .nothing => s
  | .opening => s.startOpen
  | .force => s.startForce.openAdvance img
  | .format => s.startFormat
  | .refused => s.sealRefuse

/-- STORE_OPEN (R389): SEAL_CTRL written with OPEN; v is the word written. -/
def execStoreOpen (v : W32) (s0 : State) : Out := s0.mmio fun s => .next (s.sealCtrl v.toNat {})

/-- FORCE_OPEN (R390): SEAL_CTRL written with FORCE_OPEN. -/
def execForceOpen (v : W32) (img : VaultImage) (s0 : State) : Out := s0.mmio fun s => .next (s.sealCtrl v.toNat img)

/-- FORMAT (R391): SEAL_CTRL written with FORMAT. -/
def execFormat (v : W32) (s0 : State) : Out := s0.mmio fun s => .next (s.sealCtrl v.toNat {})

/-- SEAL_CTRL_REFUSED (R389): a write of SEAL_CTRL that no rule accepts changes nothing and is counted. -/
def execSealCtrlRefused (v : W32) (s0 : State) : Out := s0.mmio fun s =>
  if s.sealAct v.toNat = .refused then .next s.sealRefuse else .next (s.sealCtrl v.toNat {})

/-! ### Ranges (R373) -/

/-- BASE and SPAN of a range register. (DESIGN CHOICE: notes/assumptions/42) -/
def rangeFields : RangeSel → Fld × Fld × Nat
  | .kv => (.SEAL_RANGE_KV_BASE, .SEAL_RANGE_KV_SPAN, 0)
  | .qre => (.SEAL_RANGE_QRE_BASE, .SEAL_RANGE_QRE_SPAN, 0)
  | .slice s => (.SEAL_RANGE_SLICE_BASE, .SEAL_RANGE_SLICE_SPAN, s)

/-- The range register itself. -/
def rangeReg : RangeSel → Reg × Nat
  | .kv => (.SEAL_RANGE_KV, 0)
  | .qre => (.SEAL_RANGE_QRE, 0)
  | .slice s => (.SEAL_RANGE_SLICE, s)

/-- The device blocks that a range's owner occupies. -/
def State.rangeOccupied (s : State) : RangeSel → List Nat
  | .kv => (s.keysUsed.filter fun i => decide ((s.key i).cls ≠ .ephemeral)).map s.keyBlock ++ (s.kv.custody.map Prod.fst).map s.custBlock
  | .qre =>
    let on := (s.listed .QRE_STREAM_STATE_STATE)
    on.map (fun n => s.getF .SEAL_RANGE_QRE_BASE 0 + n) ++ on.flatMap fun n =>
      let x := s.stream n
      (x.folioAt ++ x.nodeAt ++ x.spare.toList).map (· + 15)
  | .slice n => (s.store.occupied.filter fun e => e.2 == n + 1).map Prod.fst

/-- Every range whose SPAN is not 0, with its place. -/
def State.ranges (s : State) : List (RangeSel × Nat × Nat) :=
  ([RangeSel.kv, .qre] ++ (s.listed .SEAL_RANGE_SLICE_SPAN).map RangeSel.slice).filterMap fun r =>
    let f := rangeFields r
    if s.getF f.2.1 f.2.2 = 0 then none else some (r, s.getF f.1 f.2.2, s.getF f.2.1 f.2.2)

/-- A range write passes the checks of R373. -/
def State.rangeOk (s : State) (r : RangeSel) (base span : Nat) : Bool :=
  let f := rangeFields r
  let occ := s.rangeOccupied r
  let old := s.getF f.1 f.2.2
  s.storeOpen && base % 16 == 0 && span % 16 == 0 &&
    (span == 0 || (decide (0x10000 ≤ base) && decide (base + span ≤ 0x7F000000) &&
      s.ranges.all fun x => x.1 == r || decide (base + span ≤ x.2.1) || decide (x.2.1 + x.2.2 ≤ base))) &&
    (base == old || occ.isEmpty) && occ.all fun b => decide (b < old + span)

/-- SEAL_RANGE_WRITE (R373, R396): the range register takes BASE and SPAN, or the write is refused. -/
def execSealRangeWrite (r : RangeSel) (v : W64) (s0 : State) : Out := s0.mmio fun u =>
  let s := u.setHeld (rangeReg r).1 (rangeReg r).2 0
  let base := bits v.toNat 30 0
  let span := bits v.toNat 62 32
  if !s.rangeOk r base span then .next s.sealRefuse else
  let f := rangeFields r
  let s1 := ((s.setF f.1 f.2.2 base).setF f.2.1 f.2.2 span).placeRange r
  let short := s1.listed .QRE_STREAM_STATE_SHORT
  let s2 := short.foldl (fun t n => t.trySpare n) s1
  .next { s2 with queues := s2.queues.map fun e => (e.1, { e.2 with quireHeld := false }) }

/-! ### Streams and the journal (R389, R392, R398, R401) -/

/-- A stream loaded from its state record. (DESIGN CHOICE: notes/assumptions/43) -/
def State.loadStream (s : State) (m : StreamImage) : State :=
  let n := m.records.length
  let s1 := s.setStream m.num {
    placed := n, hashes := m.hashes.foldl (fun t h => nset [] t (hashKey h.1 h.2.1) h.2.2) [],
    folio := m.folio, folioFirst := m.folioFirst, folioCount := (m.records.filter fun r => r.1 == m.folio).length,
    folioUsed := 64 + m.folioBytes.length, folioBytes := m.folioBytes, folioAt := m.folioAt, spare := m.spare, accFolio := m.folio,
    accUsed := 64 + m.folioBytes.length, latest := m.latest, lastTime := { sec := m.sec, ns := m.ns, grade := m.grade },
    records := m.records, nodeAt := m.nodeAt, nodeCount := m.nodeCount, nodeTail := m.nodeTail }
  let s2 := ((s1.setF .QRE_STREAM_STATE_STATE m.num (if m.closed then 2 else 1)).setF .QRE_STREAM_STATE_OWNER m.num m.owner).setF
    .QRE_STREAM_STATE_HASH m.num m.hash
  let s3 := s2.setF .QRE_STREAM_SIZE_SIZE m.num n
  if m.closed then s3 else (s3.setF .QRE_STATUS_OPEN 0 (s3.getF .QRE_STATUS_OPEN 0 + 1)).trySpare m.num

/-- QRE_STREAM_STATE_LOADED (R389, R398, R401, R414, R473): Quire's range as the host presents it; READY sets, the journal queue is
appended, the time floor applies. -/
def execQreStreamStateLoaded (img : QuireImage) (s0 : State) : Out := s0.clocked fun s =>
  if !s.flag .KV_STATUS_OPEN 0 ∨ s.flag .QRE_STATUS_READY 0 then .next s else
  let s1 : State := { s with
    qre := { s.qre with streams := [], nextFolio := img.nextFolio, freeFolios := img.freeFolios }
    store := { s.store with occupied := img.occupied.foldl (fun t e => nset 0 t e.1 (e.2 + 1)) [] } }
  let s2 := img.streams.foldl (fun t m => t.loadStream m) s1
  let s3 := (s2.setFlag .QRE_STATUS_READY 0 true).journalDrain.evidenceJournal
  .next (match img.streams.find? fun m => m.num == 0 with
    | some m => s3.applyFloor { sec := m.sec, ns := m.ns, grade := m.grade }
    | none => s3)

/-- STREAM_RELEASE (R392): QRE_STREAM_RELEASE written with GO. (DEDUCED: notes/assumptions/39) -/
def execStreamRelease (v : W32) (s0 : State) : Out := s0.mmio fun s =>
  let n := bits v.toNat 7 0
  if !bit v.toNat 31 then .next s else
  if n = 0 ∨ s.getF .QRE_STREAM_STATE_STATE n ≠ 2 then .next (s.count .QRE_CFG_REFUSED_COUNT_COUNT 0 1) else
  let x := s.stream n
  let areas := x.folioAt ++ x.nodeAt ++ x.spare.toList
  let used := x.folioAt ++ x.nodeAt
  let s1 := (used.flatMap fun a => (List.range 16).map (a + ·)).foldl (fun t b =>
    match t.blockSlot b with
    | (.ok _, _, 0) => t
    | _ => t.discardBlock b none) s
  let s2 := (s1.setStream n {}).dropF fun f i => i == n &&
    [Fld.QRE_STREAM_STATE_STATE, .QRE_STREAM_STATE_SHORT, .QRE_STREAM_STATE_HASH, .QRE_STREAM_STATE_OWNER, .QRE_STREAM_SIZE_SIZE].contains f
  let s3 : State := { s2 with qre := { s2.qre with freeFolios := s2.qre.freeFolios ++ areas } }
  let s4 := (s3.place (s3.getF .SEAL_RANGE_QRE_BASE 0 + n) (zeros 4096) none)
  let s5 := (s4.listed .QRE_STREAM_STATE_SHORT).foldl (fun t k => t.trySpare k) s4
  .next { s5 with queues := s5.queues.map fun e => (e.1, { e.2 with quireHeld := false }) }

/-- JOURNAL_EVENT (R401, R535): a device event with its data. -/
def execJournalEvent (ev : Nat) (d : List Byte) (s0 : State) : Out := s0.clocked fun s => .next (s.journal ev d)

/-! ### The hot-key store (R357, R358, R371) -/

/-- HOT_KEY_LOAD (R357): a key that a dispatched job needs is loaded from its local-memory record. (DEDUCED: notes/assumptions/38) -/
def execHotKeyLoad (k : Nat) (s0 : State) : Out := s0.clocked fun s =>
  if !(s.key k).used || s.kv.hot.contains k || neverResident (s.key k).family (s.key k).paramset then .next s
  else .next ((s.makeHot k).count .KV_HOT_MISS_COUNT_COUNT 0 1)

end Sys2Proof.Machine
end

