-- ==== Sys2Proof/Machine/Recovery.lean ====
section
/-! DEFINITION. Abandonment, re-execution, queue reset, slice reset, FLR, PERST#, link-down, hot reset (R222 to R226, R76, R115, R255, R296,
R308, R509 to R511). -/
namespace Sys2Proof.Machine

open Sys2Proof

/-! ### Void records, jobs ended by a recovery -/

/-- A void record in the place of a job's record, unless that is placed already (R208). (DEDUCED: notes/assumptions/31) -/
def State.voidRecord (s : State) (j : Job) (status detail : Nat) : State :=
  match j.stream, j.seq with
  | some st, some n =>
    if n < (s.stream st).placed then s else
    let x := s.stream st
    let s1 := s.setStream st { x with waiting := x.waiting.filter fun r => r.seq != n }
    s1.giveRecord st { seq := n, bytes := Rec.bytes { seq := n, time := j.time, kind := 3, slice := j.slice, status := status, detail := detail } }
  | _, _ => s

/-- A key that a job created goes with the job while its record is not placed (R206). (DEDUCED: notes/assumptions/31) -/
def State.undoKey (s : State) (j : Job) : State :=
  match j.created with
  | none => s
  | some i =>
    let own := fun (p : Placement) => p.owner == some (j.q, j.idx)
    if decide ((s.key i).cls = .ephemeral) || s.store.placeQ.any own then
      ({ s with store := { s.store with placeQ := s.store.placeQ.filter fun p => !own p } }).removeKey i
    else s

/-- Placements lose the owner that is gone. (DEDUCED: notes/assumptions/48) -/
def State.disown (s : State) (q i : Nat) : State :=
  { s with store := { s.store with placeQ := s.store.placeQ.map fun (p : Placement) =>
      if (p.owner == some (q, i)) then { p with owner := none } else p } }

/-- The entry of a reset queue joins its chain as one that is decided (R137, R139): one that was read and not decided yet counts a link. -/
def State.chainOn (s : State) (j : Job) : State :=
  if j.stage = .fetched then s.chainStep j.q j.stitch else s

/-- A recovery ends a job with a status: its engine gives it up, a void record stands for it, its entry is written, W6 where its acceptance settled it
(R134). (DEDUCED: notes/assumptions/31) -/
def State.endByRecovery (s : State) (j : Job) (detail : Nat) : State :=
  let dispatched := j.stage == .dispatched || j.stage == .parked || (j.stage == .ended && decide (0 < j.stamp))
  let status := if dispatched then stAborted else stFlushed
  let s1 := (((s.letGo j).undoKey j).disown j.q j.idx).voidRecord j status detail
  let s2 := s1.count (if dispatched then .SCH_ABORT_COUNT_COUNT else .SCH_FLUSH_COUNT_COUNT) 0 1
  let k : Job := { j with status := status, detail := detail, result := 0, chainPos := if j.stage = .fetched then (s.queue j.q).chainLen else j.chainPos }
  let s3 := s2.updJob j.q j.idx fun x => { x with status := status, detail := detail, result := 0 }
  let s4 := match (if j.written < 2 then j.ext else none) with
    | some w => s3.hostWrite j.slice (s3.entryAddr j.q j.idx 6) (leBytes 8 w.toNat) false
    | none => s3
  ((s4.writeW7 j.q j.idx).chainOn j).linkDone k

/-- A second reset, restart or retrain, or a first one of a job whose key is gone: ABORTED in queue order, with a void record (R222, R327). (DEDUCED: notes/assumptions/89) -/
def State.abortJob (s : State) (j : Job) (detail : Nat) : State :=
  let s1 := (((s.letGo j).undoKey j).disown j.q j.idx).voidRecord j stAborted detail
  (s1.count .SCH_ABORT_COUNT_COUNT 0 1).updJob j.q j.idx fun k =>
    { k with status := stAborted, detail := detail, result := 0, output := [], pass := [], created := none, computed := true, stage := .ended,
             pools := [], resPools := [], core := none, slot := none, slots := [], phase := 0, waitSince := none, waitBlocks := [], entSince := none,
             needCommit := 0, placed := true }

/-- A reset, restart or retrain that affects a job (R222): re-executed once, then ABORTED with that recovery's DETAIL. -/
def State.resetJob (s : State) (j : Job) (detail : Nat) : State :=
  if 0 < j.budget then s.reexec j none else s.abortJob j detail

/-! ### Queue reset and slice reset (R115, R224, R76) -/

/-- One entry of a queue reset: completed before, at its commit point, ended, or never fetched; of the last nothing is known, and it ends its chain.
(DEDUCED: notes/assumptions/23) -/
def State.resetEntry (s : State) (q detail : Nat) (i : Nat) : State :=
  match s.job? q i with
  | some j =>
    if j.stage = .done then s
    else if s.mayCommit j || j.committing then (s.commitWrites j).linkDone j
    else s.endByRecovery j detail
  | none =>
    let s1 := s.setQueue q { s.queue q with chainLen := 0, chainFail := none, passed := none }
    (s1.hostWrite (s.sliceOf q) (s.entryAddr q i 7) (leBytes 8 (stFlushed + detail * 65536)) false).count .SCH_FLUSH_COUNT_COUNT 0 1

/-- A queue reset carried out (R101, R140, R224): every entry from HEAD up to QC_TAIL, then the final head record and its events. What its chain has come
to stays for the next link. -/
def State.queueReset (s : State) (q detail : Nat) : State :=
  let n := s.ringSize q
  let h := s.getF .QC_HEAD_HEAD q
  let tail := s.getF .QC_TAIL_TAIL q
  let k := dist n tail h
  let s1 := (List.range k).foldl (fun t e => t.resetEntry q detail ((h + e) % n)) s
  let tag := match s1.job? q ((tail + n - 1) % n) with
    | some j => if k = 0 then (s.queue q).headTag else j.tag
    | none => (s.queue q).headTag
  let passed := (List.range k).filterMap fun e => s1.job? q ((h + e) % n)
  let y := (s1.dropPassed q).queue q
  let s2 : State := { s1 with
    jobs := s1.jobs.filter fun (j : Job) => j.q != q
    seq := { s1.seq with threads := s1.seq.threads.filter fun e => e.2.job.elim true fun p => p.1 != q } }
  let s3 := (((s2.setF .QC_HEAD_HEAD q tail).setF .QC_DONE_DONE q (s2.getF .QC_DONE_DONE q + k)).setF .QC_HEAD_WRAP q
    (s2.getF .QC_HEAD_WRAP q + (h + k) / n)).setFlag .QC_STATUS_OWN_WAIT q false
  let s4 := (s3.setQueue q { missed := (s.queue q).missed, headTag := tag, chainLen := y.chainLen, chainFail := y.chainFail }).headWrite (s.sliceOf q) q
  let s5 := s4.headEvent ((passed.getLast?).elim (s.grantsOf (s.sliceOf q)) fun j => j.grants) (s.sliceOf q) q (passed.any fun j => j.irq)
  ((s5.setF .QC_CTRL_STATE q 0).setFlag .QC_CTRL_ENABLE q false).postEvent (s.sliceOf q) q 3

/-- QUEUE_RESET (R115, R223, R224): fetching stops at once; while the function may not issue writes the queue stays RESETTING. (DEDUCED: notes/assumptions/17) -/
def execQueueReset (q : Nat) (v : W32) (s0 : State) : Out := s0.mmio fun s =>
  let s1 := s.qcPlain q v.toNat
  let s2 := (s1.setFlag .QC_CTRL_ENABLE q false).setF .QC_CTRL_STATE q 3
  .next (if s.mayIssue then (s2.queueReset q 1).sliceDrained (s.sliceOf q) else s2)

/-- The queues of a slice that a slice reset resets: those with a place for their head record, with jobs, or with a state (R224). (DEDUCED: notes/assumptions/17) -/
def State.usedQueues (s : State) (sl : Nat) : List Nat :=
  let a := s.getF .SLC_SLICE_QUEUES_QBASE sl
  let n := s.getF .SLC_SLICE_QUEUES_QCOUNT sl
  (((s.listed .QC_HEAD_ADDR_ADDR ++ s.listed .QC_CTRL_STATE ++ (s.jobs.map fun j => j.q)).filter fun q => decide (a ≤ q) && decide (q < a + n)).dedup).foldl
    insertAsc []

/-- SLICE_RESET (R64, R76, R224): the slice is RESETTING; every queue of it is reset with DETAIL 0x0002. (DEDUCED: notes/assumptions/17) -/
def execSliceReset (sl : Nat) (s0 : State) : Out := s0.mmio fun s =>
  if sl = 0 then .next (s.cfgRefuse sl 6) else
  if s.getF .SLC_SLICE_CTRL_STATE sl = 4 then .next (s.cfgRefuse sl 1) else
  let s1 := (s.setF .SLC_SLICE_CTRL_STATE sl 4).cfgOk sl
  .next ((s1.usedQueues sl).foldl (fun t q => if t.mayIssue then t.queueReset q 2 else (t.setFlag .QC_CTRL_ENABLE q false).setF .QC_CTRL_STATE q 3) s1)

/-- The class-S fields of one slice at their reset values (R9, R76); a broken chain and the count of lost events stay. (DEDUCED: notes/assumptions/92) -/
def State.dropSlice (s : State) (sl : Nat) : State :=
  let qs := fun n => decide (s.getF .SLC_SLICE_QUEUES_QBASE sl ≤ n) && decide (n < s.getF .SLC_SLICE_QUEUES_QBASE sl + s.getF .SLC_SLICE_QUEUES_QCOUNT sl)
  let es := fun n => decide (s.getF .SLC_SLICE_EVRINGS_EBASE sl ≤ n) && decide (n < s.getF .SLC_SLICE_EVRINGS_EBASE sl + s.getF .SLC_SLICE_EVRINGS_ECOUNT sl)
  let queueF : List Fld := [.QC_CTRL_STATE, .QC_TAIL_TAIL, .QC_HEAD_WRAP, .QC_HEAD_HEAD, .QC_DONE_DONE, .QC_STATUS_PARKED, .QC_STATUS_OWN_WAIT, .QC_STATUS_INFLIGHT]
  let ringF : List Fld := [.EVR_PROD_OVERFLOW, .EVR_PROD_PROD, .EVR_CONS_CONS, .EVR_T_CONS_CONS, .EVR_T_STATUS_OVERFLOW, .EVR_T_STATUS_PROD]
  let s1 := s.dropF fun f n => decide (f.desc.cls = .S) && (if queueF.contains f then qs n else if ringF.contains f then es n else n == sl)
  let t1 := (s.queues.filter fun e => qs e.1).foldl (fun (t : State) e => t.setQueue e.1 { chainLen := e.2.chainLen, chainFail := e.2.chainFail }) s1
  (s.rings.filter fun e => es e.1).foldl (fun (t : State) e => t.setRing e.1 { lost := e.2.lost }) t1

/-- SLICE_RESET_COMPLETE (R76, R511): the jobs have ended and every queue's reset is carried out; class S, the pending bit of the mailbox (DESIGN
CHOICE, notes/assumptions/4), mailboxes and EPHEMERAL keys of the slice go, STATE is PAUSED. (DESIGN CHOICE: notes/assumptions/4) -/
def execSliceResetComplete (sl : Nat) (s0 : State) : Out := s0.clocked fun s =>
  if s.getF .SLC_SLICE_CTRL_STATE sl ≠ 4 ∨ (s.jobs.any fun j => j.slice == sl && j.stage != .done) ∨
      ((s.usedQueues sl).any fun q => s.getF .QC_CTRL_STATE q == 3) then .next s else
  let s1 := s.dropSlice sl
  let s2 := ((s1.setSlice sl { s1.slice sl with t2m := zeros 256, m2t := zeros 256 }).setMbxPending sl false).removeKeys fun k =>
    k.owner == sl && decide (k.cls = .ephemeral)
  .next ((s2.setF .SLC_SLICE_CTRL_STATE sl 3).setFlag .SLC_SLICE_CTRL_PAUSE sl true)

/-- Queue and slice resets that waited for the function to issue writes again (R49). (DEDUCED: notes/assumptions/17) -/
def State.finishResets (s : State) : State :=
  ((s.listed .QC_CTRL_STATE).filter fun q => s.getF .QC_CTRL_STATE q == 3).foldl (fun t q =>
    (t.queueReset q (if t.getF .SLC_SLICE_CTRL_STATE (t.sliceOf q) = 4 then 2 else 1)).sliceDrained (t.sliceOf q)) s

/-! ### FLR, PERST#, hot reset, link-down (R50, R53, R223, R225, R509 to R511) -/

/-- Every job discarded without W7: a void record for each whose record is not placed; the engines give them up (R225). (DEDUCED: notes/assumptions/32) -/
def State.discardJobs (s : State) (detail : Nat) : State :=
  let open' := (s.jobs.filter Job.live).foldl (fun (l : List Job) j =>
    (l.takeWhile fun k => k.stamp < j.stamp) ++ j :: l.dropWhile fun k => k.stamp < j.stamp) []
  let s1 := open'.foldl (fun t j =>
    (((t.letGo j).undoKey j).disown j.q j.idx).voidRecord j (if j.stage = .accepted then stFlushed else stAborted) detail) s
  { s1 with jobs := [], seq := { s1.seq with threads := [] } }

/-- The storage requests that the host has not answered are asked for again, at once (R225, R383); the post counts of the slots stay (R108). (DEDUCED: notes/assumptions/32) -/
def State.dropChannels (s : State) : State :=
  let reqs := s.chans.flatMap fun c => c.2.outstanding.map fun o => o.req
  reqs.foldl (fun t r => t.repost r true) { s with chans := s.chans.filterMap fun c => if c.2.posts = [] then none else some (c.1, { posts := c.2.posts }) }

/-- What every event that clears class F does (R510): jobs discarded, classes cleared, EPHEMERAL keys removed, DOE and SPDM state ended. (DEDUCED: notes/assumptions/32) -/
def State.clearFunction (s : State) (detail : Nat) (cs : List RCls) : State :=
  let s1 := (s.discardJobs detail).dropChannels
  let s2 := s1.dropClasses cs
  let rings := s.rings.filterMap fun e => if e.2.lost = 0 then none else some (e.1, ({ lost := e.2.lost } : RingX))
  let s3 := { s2 with slices := [], queues := [], rings := rings, heldLow := [], latchedHigh := [], held := [] }
  let s4 := s3.removeKeys fun k => decide (k.cls = .ephemeral)
  { s4 with
    kv := { s4.kv with destroys := s4.kv.destroys.map fun d => { d with stamp := 0 } }
    pci := { s4.pci with heldVectors := [], doeIn := none, doeErr := false, spdm := {} } }

/-- FLR (R50, R509, R511): classes F and S; the function's enables go, link and class L stay; Max_Payload_Size, Max_Read_Request_Size, PME_En, the L1.2
enable, the AER registers and the BARs stay (DEDUCED: notes/assumptions/32); configuration requests are retried for 100 ms. (DEDUCED: notes/assumptions/32) -/
def execFlr (s0 : State) : Out := s0.clocked fun s =>
  let s1 := s.clearFunction 3 [.F, .S]
  .next { s1 with pci := { s1.pci with
    memSpace := false, busMaster := false, d3hot := false, pasidEn := false, relaxed := false, tag10 := false, msixEn := false, msixMask := false,
    ltrEn := false, ptmEn := false, cplTimeout := 0, cplOff := false, flrUntil := some (s.now + 100000000) } }

/-- What PERST#, a hot reset and a link-down leave of the function and its link: configuration space as after reset (R509) but for PME_En, which the
always-on domain keeps (R501), and the AER registers, which are sticky. -/
def State.clearLink (s : State) : State :=
  let s1 := s.clearFunction 7 [.L, .F, .S]
  let p : PciX := { perstLow := s1.pci.perstLow, quietSince := s1.pci.quietSince, limited := s1.pci.limited, pmeEn := s1.pci.pmeEn, aerCount := s1.pci.aerCount,
                    aerUnc := s1.pci.aerUnc, aerCor := s1.pci.aerCor, aerUncMask := s1.pci.aerUncMask, aerUncSev := s1.pci.aerUncSev, aerCorMask := s1.pci.aerCorMask,
                    ecrcGen := s1.pci.ecrcGen, ecrcCheck := s1.pci.ecrcCheck }
  { s1 with pci := p }

/-- PCI_LINK_CTRL.MAX_SPEED as it acts (R57). -/
def State.maxSpeed (s : State) : Nat :=
  let v := s.getF .PCI_LINK_CTRL_MAX_SPEED 0
  if v = 0 ∨ 5 < v then 5 else v

/-- The rate that training aims at: 2.5 GT/s while the recovery limit stands (R54, R57), and in END_OF_LIFE (R30). -/
def State.targetSpeed (s : State) : Nat := if s.pci.limited ∨ s.getF .LCO_STATE_STATE 0 = 0xF then 1 else s.maxSpeed

/-- The training that may start: none without main power or with VAUX below its reset level (R24), or while the clocks are stopped (R32). -/
def State.trainTo (s : State) : Option Nat := if s.powered && !s.pwr.onVbat && !s.stopped then some s.targetSpeed else none

/-- PERST_ASSERT (R32, R509, R510): classes L, F and S; THERMTRIP# is released while PERST# is low, its latch stays. -/
def execPerstAssert (s : State) : Out :=
  let s1 := (s.awake).clearLink
  .next { s1 with pci := { s1.pci with perstLow := true, training := none, quietSince := none }, pwr := { s1.pwr with tripPin := false } }

/-- PERST_RELEASE (R24, R32, R54, R57, R501, R509): training starts at the highest rate allowed; THERMTRIP# is driven again where its latch is set; WAKE# ends. -/
def execPerstRelease (s : State) : Out :=
  if !s.pci.perstLow then .next s else
  .next { s with
    pci := { s.pci with perstLow := false, training := s.trainTo }
    pwr := { s.pwr with tripPin := s.pwr.tripLatch && s.getF .LCO_STATE_STATE 0 != 0xF, wakePin := false } }

/-- HOT_RESET (R509): classes L, F and S; the link then trains again, and not as a recovery. -/
def execHotReset (s0 : State) : Out := s0.clocked fun s =>
  let s1 := (s.awake).clearLink
  .next { s1 with pci := { s1.pci with training := if s1.pci.perstLow then none else s1.trainTo } }

/-- QUARTER_SCRUB_COMPLETE (R254): the quarter is zero throughout, its tags are clear, and it is FREE. -/
def execQuarterScrubComplete (c n : Nat) (s0 : State) : Out := s0.clocked fun s =>
  if (s.quarter c n).st = .scrubbing then .next (s.setQuarter c n {}) else .next s

/-- SCRATCH_PAGE_SCRUB_COMPLETE (R254): the rows of a page are zero, and it is free. -/
def execScratchPageScrubComplete (g p : Nat) (s0 : State) : Out := s0.clocked fun s =>
  let x := s.gather g
  let y := nget {} x.pages p
  if y.scrubbing then
    .next (s.setGather g { rows := x.rows.filter (fun r => !(r.1 / 512 == p)), pages := nset {} x.pages p {} })
  else .next s

end Sys2Proof.Machine
end

