-- ==== Sys2Proof/Machine/MarCmds.lean ====
section
/-! DEFINITION. Jobs on cores: placement, loading, switching, suspension, draining, core resets, faults (R250 to R258, R277 to R286). -/
namespace Sys2Proof.Machine

open Sys2Proof

/-! ### Placement (R251, R256) -/

/-- The loaded kernel that a job runs. (DESIGN CHOICE: notes/assumptions/57) -/
def State.runKernel (s : State) (j : Job) : Option KernelX := if j.opcode = 0x0900 ∧ j.paramset = 0 then s.jobKernel j else none

/-- Hash sessions, scratch pages and cores that a job takes; a built-in routine takes one session and one core (R243, R256). (DESIGN CHOICE: notes/assumptions/57) -/
def State.marNeeds (s : State) (j : Job) : Nat × Nat × Nat := (s.runKernel j).elim (1, 0, 1) fun k => (k.sessions, k.pages, k.team)

/-- A core that is in service. -/
def State.coreOn (s : State) (c : Nat) : Bool := s.unitOn .MAR_CORE_ENABLE_EN .MAR_CORE_ONLINE_ONLINE c

/-- The quarters of a core. -/
def State.quarters (s : State) (c : Nat) : List Quarter := (List.range 4).map fun n => s.quarter c n

/-- Quarters of a core that hold a job. -/
def State.residents (s : State) (c : Nat) : Nat := ((s.quarters c).filter fun x => decide (x.st ≠ .free) && decide (x.st ≠ .scrubbing)).length

/-- Free scratch pages of a gathering. -/
def State.freePages (s : State) (g : Nat) : List Nat := (List.range 48).filter fun p => decide (nget {} (s.gather g).pages p = {})

/-- FREE quarters of a gathering. -/
def State.freeQuarters (s : State) (g : Nat) : Nat :=
  (((List.range 8).map fun k => ((s.quarters (8 * g + k)).filter fun x => decide (x.st = .free)).length)).sum

/-- The gathering held for the senior job, when that is a team waiting for placement: the one with the most FREE quarters, the lowest on a tie (R256). -/
def State.heldGathering (s : State) : Option Nat :=
  match s.senior with
  | some j =>
    if j.stage = .dispatched ∧ j.core.isNone ∧ j.pools.contains .MAR ∧ 1 < (s.marNeeds j).2.2 then
      (List.range 4).find? fun g => (List.range 4).all fun h => decide (s.freeQuarters h ≤ s.freeQuarters g)
    else none
  | none => none

/-- A core is being reset (R250): for 40 µs. -/
def State.coreInReset (s : State) (c : Nat) : Bool := (s.core c).resets.any fun t => decide (s.now < t + 40000)

/-- A core is eligible for a job (R251). -/
def State.eligible (s : State) (j : Job) (c : Nat) : Bool :=
  let need := s.marNeeds j
  s.coreOn c && !s.coreInReset c && (s.quarters c).any (fun x => decide (x.st = .free)) &&
    decide (((s.quarters c).map fun x => x.sessions).sum + need.1 ≤ 4) && decide (need.2.1 ≤ (s.freePages (c / 8)).length) &&
    (s.isSenior j || s.heldGathering != some (c / 8))

/-- The rank of a core, lowest first: no RUNNING or READY job, fewest resident jobs, the first from the pointer on (R251). -/
def State.coreRank (s : State) (c : Nat) : Nat :=
  (if (s.quarters c).any (fun x => decide (x.st = .running) || decide (x.st = .ready)) then 1000000 else 0) + s.residents c * 1000 + (c + 32 - s.mar.ptr) % 32

/-- A list of cores in the order of their ranks. -/
def State.ranked (s : State) (l : List Nat) : List Nat :=
  l.foldl (fun o c => (o.takeWhile fun d => s.coreRank d ≤ s.coreRank c) ++ c :: o.dropWhile fun d => s.coreRank d ≤ s.coreRank c) []

/-- The cores that a job gets: the best eligible ones of one gathering; not the core of its last engine fault while another is eligible. (DEDUCED: notes/assumptions/59) -/
def State.chooseCores (s : State) (j : Job) : Option (List Nat) :=
  let team := (s.marNeeds j).2.2
  let all := s.ranked ((List.range 32).filter fun c => s.eligible j c)
  let pick := fun (l : List Nat) => (l.map (fun c => (l.filter fun d => d / 8 == c / 8).take team)).find? fun m => m.length == team
  (pick (all.filter fun c => j.avoid != some c)).orElse fun _ => pick all

/-- A member of a job put into the lowest FREE quarter of a core, which starts to load. -/
def State.placeMember (s : State) (j : Job) (sess : Nat) (pages : List Nat) (member c : Nat) : State :=
  match (List.range 4).find? fun n => decide ((s.quarter c n).st = .free) with
  | none => s
  | some n =>
    let s1 := s.setQuarter c n { st := .loading, job := some (j.q, j.idx), member := member, sessions := sess, pages := pages }
    { s1 with mar := { s1.mar with ptr := (c + 1) % 32 } }.updJob j.q j.idx fun k => if member = 0 then { k with core := some (c, n) } else k

/-- Scratch pages given to a job. -/
def State.takePages (s : State) (g : Nat) (j : Job) (pages : List Nat) : State :=
  s.setGather g { s.gather g with pages := pages.foldl (fun m p => nset {} m p { owner := some (j.q, j.idx) }) (s.gather g).pages }

/-- A job put on its cores. -/
def State.placeOn (s : State) (j : Job) (cores : List Nat) : State :=
  let need := s.marNeeds j
  let g := (cores.headD 0) / 8
  let pages := (s.freePages g).take need.2.1
  ((cores.zipIdx).foldl (fun t e => t.placeMember j need.1 pages e.2 e.1) s).takePages g j pages

/-- The quarters of a job, as core and number. -/
def State.quartersOf (s : State) (q i : Nat) : List (Nat × Nat) := s.busyQuarters.filter fun e => (s.quarter e.1 e.2).job == some (q, i)

/-- One more record of a batch is placed: each record in flight has a slot and a quarter of its own (R210). -/
def State.placeBatch (s : State) (j : Job) : State :=
  let n := (s.quartersOf j.q j.idx).length
  if j.pools.count .MAR ≤ n then s else
  match s.chooseCores j with
  | some (c :: _) => s.placeMember j 1 [] n c
  | _ => s

/-- JOB_PLACE (R251, R256): a job with its MAR slot is placed; a senior team that finds no place holds a gathering. (DEDUCED: notes/assumptions/59) -/
def execJobPlace (q i : Nat) (s0 : State) : Out := s0.clocked fun s =>
  match s.job? q i with
  | none => .next s
  | some j =>
    if j.stage ≠ .dispatched ∨ !j.pools.contains .MAR ∨ j.computed ∨ (j.opcode = 0x0900 ∧ j.paramset ≠ 0) then .next s
    else if j.opcode = 0x0123 then .next (s.placeBatch j)
    else if j.core.isSome then .next s else
    match s.chooseCores j with
    | some l => if (s.marNeeds j).2.2 ≤ s.poolFree .MAR + 1 then .next (s.placeOn j l) else .next s
    | none =>
      if s.isSenior j ∧ 1 < (s.marNeeds j).2.2 ∧ j.attempts = 0 then
        .next ((s.count .MAR_TEAM_HOLD_COUNT_COUNT 0 1).updJob q i fun k => { k with attempts := 1 })
      else .next s

/-! ### Loading (R249, R250, R286) -/

/-- The rows of bytes in a format: each row's number from 0 on, and the positions of the bytes it holds. -/
def formatRows (fmt : Nat) (d : List Byte) : List (Nat × Nat) :=
  if fmt = 0 then (List.range (ceilDiv d.length 7)).map fun r => (r, bfield d (7 * r) 7)
  else if fmt = 1 then (List.range (ceilDiv d.length 8)).map fun r =>
    (r, (List.range 4).foldl (fun v k => v + bfield d (8 * r + 2 * k) 2 % 2 ^ 14 * 2 ^ (14 * k)) 0)
  else (List.range (ceilDiv d.length 8)).map fun r =>
    (r, (List.range 2).foldl (fun v k => v + bfield d (8 * r + 4 * k) 4 % 2 ^ 28 * 2 ^ (28 * k)) 0)

/-- Bytes of a row in a format. -/
def rowBytes (fmt : Nat) : Nat := if fmt = 0 then 7 else 8

/-- Bytes placed in a quarter from a word address on; those before position n are secret. -/
def placeBytes (rows : SMap Nat Val) (base fmt n : Nat) (d : List Byte) : SMap Nat Val :=
  (formatRows fmt d).foldl (fun m r => nset {} m (base / 4 + r.1) { v := r.2, tag := decide (r.1 * rowBytes fmt < n) }) rows

/-- The bytes of rows in a format. -/
def unformat (fmt : Nat) (n : Nat) (row : Nat → Nat) : List Byte :=
  (if fmt = 0 then (List.range (ceilDiv n 7)).flatMap fun r => leBytes 7 (row r)
   else if fmt = 1 then (List.range (ceilDiv n 8)).flatMap fun r => (List.range 4).flatMap fun k => leBytes 2 (row r / 2 ^ (14 * k) % 2 ^ 14)
   else (List.range (ceilDiv n 8)).flatMap fun r => (List.range 2).flatMap fun k => leBytes 4 (row r / 2 ^ (28 * k) % 2 ^ 28)).take n

/-- The key of a RUN: its bytes, and whether they are private. -/
def State.runKey (s : State) (j : Job) : List Byte × Bool :=
  if j.handle = 0 then ([], false) else
  let k := s.jobKey j
  if k.pubOnly then (k.pub, false) else (k.priv, true)

/-- The rows that the load port writes for a kernel's job. -/
def State.loadedRows (s : State) (j : Job) (k : KernelX) (inp : List Byte) : SMap Nat Val :=
  let d := j.full inp
  let key := s.runKey j
  placeBytes (placeBytes [] k.inBase (bits k.formats 3 0) (if j.passedKey then 0 else (j.passed.getD []).length) d)
    k.keyBase 0 (if key.2 then key.1.length else 0) key.1

/-- QUARTER_LOADED (R250, R286): the job's inputs and key lie in the quarter, which is READY. -/
def execQuarterLoaded (c n : Nat) (inp : List Byte) (s0 : State) : Out := s0.clocked fun s =>
  let x := s.quarter c n
  match s.quarterJob c n with
  | none => .next s
  | some j =>
    if x.st ≠ .loading then .next s else
    .next (s.setQuarter c n { x with st := .ready, rows := (s.runKernel j).elim [] fun k => s.loadedRows j k inp })

/-! ### Switching (R252, R286) -/

/-- The modulus registers at a job's start: from the kernel's header, or those of the built-in routines (R234). A header gives 32 bits, of which none is
dropped: a modulus of 2^28 or more faults where it is used. -/
def State.startMods (s : State) (j : Job) : SMap Nat Nat :=
  (List.range 16).foldl (fun m i => nset 0 m i (match s.runKernel j with
    | some k => k.modulus i
    | none => [3329, 8380417, 12289, 0].getD (i % 4) 0)) []

/-- A modulus register that is loaded with an even modulus or one below 3; 0 is the register left unused, which faults where it is selected (R234).
(DEDUCED: notes/assumptions/59) (DEDUCED: notes/assumptions/59) -/
def KernelX.badModuli (k : KernelX) : Bool := (List.range 16).any fun i => k.modulus i != 0 && (k.modulus i % 2 == 0 || decide (k.modulus i < 3))

/-- The registers at a job's start (R286). (DEDUCED: notes/assumptions/59) -/
def State.startRun (s : State) (j : Job) (member : Nat) : CoreRun :=
  let vals := [(j.passed.getD []).length + j.inLen, bits j.aux 23 0, bits j.arg1 27 0, bits j.arg1 55 28, bits j.arg1 63 56, (s.runKey j).1.length, member]
  { regs := (vals.zipIdx).foldl (fun m e => nset {} m e.2 { v := e.1 % 2 ^ 28 }) []
    mods := s.startMods j, pc := (s.runKernel j).elim 0 KernelX.entry }

/-- The quarters of a core that may run: READY, or SUSPENDED while the mask generator has output. -/
def State.runnable (s : State) (c : Nat) : List Nat :=
  (List.range 4).filter fun n => decide ((s.quarter c n).st = .ready) || (decide ((s.quarter c n).st = .suspended) && !s.genStalled c)

/-- The stamp of a quarter's job. -/
def State.stampOf (s : State) (c n : Nat) : Nat := (s.quarterJob c n).elim 0 fun j => j.stamp

/-- The runnable quarter with the lowest stamp. -/
def State.nextQuarter (s : State) (c : Nat) : Option Nat :=
  (s.runnable c).find? fun n => (s.runnable c).all fun m => decide (s.stampOf c n ≤ s.stampOf c m)

/-- The registers with which a suspended job goes on (R252, R253): registers, predicates, loop registers and tags as they were saved; the switch has
cleared the ports and the twiddle RAM and loaded the modulus registers; what the stalled MSK operation gives comes as it would have.
(DEDUCED: notes/assumptions/59) (DEDUCED: notes/assumptions/59) -/
def State.resumeRun (s : State) (j : Job) (r : CoreRun) : CoreRun :=
  { r with ports := r.ports.filter (fun e => decide (0xBE ≤ e.1) && decide (e.1 ≤ 0xC0)), mods := s.startMods j, twr := [],
           writes := r.writes.filter (fun w => decide (0xBE ≤ w.dst) && decide (w.dst ≤ 0xC0)), flights := [], streams := [], maskStall := false }

/-- A core's halt in precise mode. -/
def State.haltCore (s : State) (c : Nat) (f : MFault) : State := s.setCore c { s.core c with halt := some f }

/-- A kernel fault of a core: recorded; in precise mode the core halts, in service mode the whole team is abandoned (R256, R278). -/
def State.coreFault (s : State) (c : Nat) (j : Job) (k : KernelX) (pc : Nat) (f0 : MFault) : State :=
  let f : MFault := { f0 with bundle := some (f0.bundle.getD pc) }
  let s1 := s.recordFault c f k.id (k.codeAt + f0.bundle.getD pc)
  let s2 := if f.cause = 7 then s1.count .MAR_TAG_FAULT_COUNT_COUNT 0 1 else s1
  if s.precise then s2.haltCore c f
  else (s2.count .MAR_KERNEL_FAULT_COUNT_COUNT 0 1).failJob j stKernelFault f.cause

/-- A quarter starts, or goes on with what it saved (R252, R253); a modulus that its header may not load is a fault (R234). -/
def State.switchTo (s : State) (c n : Nat) : State :=
  let x := s.quarter c n
  match s.quarterJob c n with
  | none => s
  | some j =>
    let run := if x.st = .suspended then s.resumeRun j (x.save.getD {}) else s.startRun j x.member
    let s1 := s.setCore c { s.core c with run := run }
    let s2 := s1.setQuarter c n { x with st := .running, save := none, stallSince := none }
    let s3 := if x.st = .suspended then s2.updJob j.q j.idx fun k => { k with entSince := none } else s2
    match s.runKernel j with
    | some k => if k.badModuli then s3.coreFault c j k run.pc { cause := 0x05 } else s3
    | none => s3

/-- CORE_SWITCH (R252): a core that runs nothing starts the job with the lowest acceptance stamp. -/
def execCoreSwitch (c : Nat) (s0 : State) : Out := s0.clocked fun s =>
  match s.runningQuarter c, s.nextQuarter c with
  | none, some n => .next (s.switchTo c n)
  | _, _ => .next s

/-! ### Faults (R255, R277, R278, R282) -/

/-- A session of a quarter's job has a call that has not ended (R290). -/
def State.hashBusy (s : State) (c n : Nat) : Bool :=
  (s.quarter c n).sess.any fun e => e.2.isOpen && ((s.session e.2.place).ready.isSome || (s.session e.2.place).flight.isSome)

/-- A core that has executed END drains its quarter once the last operation of its job, a call of a session among them, has ended (R254, R271). -/
def State.endRun (s : State) (c n : Nat) : State :=
  let r := (s.core c).run
  match r.ended with
  | none => s
  | some len =>
    if (s.quarter c n).st ≠ .running ∨ s.hashBusy c n then s
    else s.setQuarter c n { s.quarter c n with st := .draining, outLen := len, w6 := (r.reg 28).v + (r.reg 29).v * 2 ^ 28 }

/-- What a core's step leaves: a fault, an END, or the next bundle. A core that halts completes what is under way first (R278). -/
def State.afterStep (s : State) (c n : Nat) (j : Job) (k : KernelX) (pc : Nat) (e : Exe) : State :=
  match e.fault with
  | some f => (s.putExe c n j (if s.precise then e.settle else e)).coreFault c j k pc f
  | none => (s.putExe c n j e).endRun c n

/-! ### Bundles (R253, R256, R267, R268) -/

/-- Every member of a team has reached a SYNC, or has ended. (DEDUCED: notes/assumptions/59) -/
def State.teamSynced (s : State) (j : Job) : Bool :=
  s.busyQuarters.all fun e =>
    (s.quarter e.1 e.2).job != some (j.q, j.idx) || decide ((s.quarter e.1 e.2).st = .draining) ||
      (decide ((s.quarter e.1 e.2).st = .running) && (s.core e.1).run.sync)

/-- The team's barrier passed. -/
def State.releaseSync (s : State) (j : Job) : State :=
  s.busyQuarters.foldl (fun t e =>
    if (t.quarter e.1 e.2).job = some (j.q, j.idx) ∧ (t.quarter e.1 e.2).st = .running then
      t.setCore e.1 { t.core e.1 with run := { (t.core e.1).run with sync := false } } else t) s

/-- A bundle reads a result of MSK. -/
def readsMask (b : Nat) : Bool :=
  match decodeBundle b with
  | .ok l => l.any fun m => decide (0xBE ≤ m.src) && decide (m.src ≤ 0xC0)
  | .error _ => false

/-- A bundle has to do with the hash port: it triggers HP or the sampler, or reads a result of one. -/
def usesHash (b : Nat) : Bool :=
  match decodeBundle b with
  | .ok l => l.any fun m => m.dst == tHP || m.dst == tSMP || m.src == 0xB7 || m.src == 0xBA
  | .error _ => false

/-- A bundle opens a session. -/
def opensSession (b : Nat) : Bool :=
  match decodeBundle b with
  | .ok l => l.any fun m => m.dst == tHP && opFunc m.op == 0
  | .error _ => false

/-- A bundle waits for the farm: a call of its job's sessions has not ended, or it opens a session while those that are free are being zeroized
(R232, R290, R296). (DEDUCED: notes/assumptions/56) -/
def State.hashWaits (s : State) (c n b : Nat) : Bool :=
  (usesHash b && s.hashBusy c n) || (opensSession b && (s.freePlaces c).isEmpty && decide (((s.quarter c n).sess.filter fun e => e.2.isOpen).length < (s.quarter c n).sessions))

/-- A cycle in which a core starts no bundle, since it waits for its masks, its sessions or its team; a wait up to CYCLE_LIMIT is a fault
(R232, R246, R271). -/
def State.waitCycle (s : State) (c n : Nat) (j : Job) (k : KernelX) (masks hash : Bool) : State :=
  let x := s.quarter c n
  let s1 := (s.setCore c { s.core c with run := { (s.core c).run with maskStall := masks, hashStall := hash } }).setQuarter c n
    { x with stallSince := if masks then some (x.stallSince.getD s.now) else none }
  let e := (s1.exe c n j k).idleCycle
  s1.afterStep c n j k e.run.pc (if e.limit ≤ e.run.cyc then e.fail { cause := 0x0C } else e)

/-- A bundle executed on a core that does not wait. -/
def State.runBundle (s : State) (c n : Nat) (j : Job) (k : KernelX) (f : Exe → Exe) : State :=
  let s1 := (s.setCore c { s.core c with run := { (s.core c).run with maskStall := false, hashStall := false } }).setQuarter c n
    { s.quarter c n with stallSince := none }
  s1.afterStep c n j k (s.core c).run.pc (f (s1.exe c n j k))

/-- The bundle at a core's program counter executed, or a cycle of its wait. -/
def State.stepCore (s : State) (c n : Nat) (j : Job) (k : KernelX) : State :=
  let r := (s.core c).run
  let b := k.bundleAt r.pc
  if (s.core c).halt.isSome then s
  else if r.ended.isSome then (if s.hashBusy c n then s.waitCycle c n j k false true else s.endRun c n)
  else if r.sync then (if s.teamSynced j then s.releaseSync j else s.waitCycle c n j k false false)
  else if s.genStalled c && decide (r.pc < k.codeLen) && readsMask b then s.waitCycle c n j k true false
  else if decide (r.pc < k.codeLen) && s.hashWaits c n b then s.waitCycle c n j k false true
  else s.runBundle c n j k fun e => e.bundle b

/-- BUNDLE_EXECUTE (R267): one bundle of the kernel that a core runs. A built-in routine's bundles are the device's own and have no effect
here beside their opcode's. -/
def execBundleExecute (c : Nat) (s0 : State) : Out := s0.clocked fun s =>
  match s.runningQuarter c with
  | none => .next s
  | some n =>
    match s.quarterJob c n with
    | none => .next s
    | some j =>
      match s.runKernel j with
      | none => .next s
      | some k => .next (s.stepCore c n j k)

/-! ### Suspension (R253) -/

/-- A suspended job waits for entropy from its first stall (R253). -/
def State.stallFrom (s : State) (j : Job) (since : Option Nat) : State :=
  (s.stallJob j).updJob j.q j.idx fun k => { k with entSince := if j.entSince.isSome then j.entSince else some (since.getD s.now) }

/-- JOB_SUSPEND (R253): the registers of a job whose MSK read has stalled are saved; the wait for entropy counts from its first stall. (DEDUCED: notes/assumptions/59) -/
def execJobSuspend (c : Nat) (s0 : State) : Out := s0.clocked fun s =>
  match s.runningQuarter c with
  | none => .next s
  | some n =>
    match s.quarterJob c n with
    | none => .next s
    | some j =>
      let r := (s.core c).run
      if !s.genStalled c ∨ ((s.runKernel j).isSome ∧ !r.maskStall) then .next s else
      let x := s.quarter c n
      let s1 := (s.stallFrom j x.stallSince).setQuarter c n { x with st := .suspended, save := some { r with resv := none }, stallSince := none }
      .next ((s1.setCore c { s1.core c with run := {} }).count .MAR_SUSPEND_COUNT_COUNT 0 1)

/-- JOB_UNSUSPEND (R253): the generator has output again, and the suspended job is restored in its turn. -/
def execJobUnsuspend (c n : Nat) (s0 : State) : Out := s0.clocked fun s =>
  if (s.quarter c n).st = .suspended ∧ s.runningQuarter c = none ∧ s.nextQuarter c = some n then .next (s.switchTo c n) else .next s

/-! ### Draining (R249, R254, R256) -/

/-- What a kernel's job leaves: member 0's output, W6, and, with OUT_SECRET, the passed result alone (R249, R271, R286). -/
def State.drained' (s : State) (j : Job) (k : KernelX) (x : Quarter) (inp : List Byte) : State :=
  let fmt := bits k.formats 7 4
  let d := unformat fmt x.outLen fun r => (nget {} x.rows (k.outBase / 4 + r)).v
  s.endJob j inp (if k.outSecret then { result := 0, pass := d, ext := some x.w6 } else { (j.plain d) with result := d.length, ext := some x.w6 })

/-- DRAIN_COMPLETE (R254): every member has ended and the output has left; the execution ends, the scrub starts. -/
def execDrainComplete (q i : Nat) (inp : List Byte) (s0 : State) : Out := s0.clocked fun s =>
  match s.job? q i with
  | none => .next s
  | some j =>
    if j.stage ≠ .dispatched ∨ j.core.isNone then .next s else
    let l := s.quartersOf q i
    let s1 := if j.computed then s
      else match s.runKernel j, (l.find? fun e => (s.quarter e.1 e.2).member == 0) with
        | some k, some e =>
          if l.all fun e => decide ((s.quarter e.1 e.2).st = .draining) then s.drained' j k (s.quarter e.1 e.2) inp else s
        | _, _ => s
    match (s1.job? q i).filter fun j => j.computed with
    | some j1 => .next ((s1.endExecution j1).getD s1)
    | none => .next s1

/-! ### Core resets and enables (R250, R257) -/

/-- A job that loses its core without fault of its own: placed again, its budget kept (R250). -/
def State.unplace (s : State) (j : Job) : State :=
  (s.scrubJob j.q j.idx).updJob j.q j.idx fun k => { k with core := none }

/-- A core reset (R250): RUNNING and SUSPENDED jobs are re-executed or ABORTED, and so is one whose outputs had not left yet; LOADING and READY jobs are
placed again; every quarter is scrubbed; the fourth reset within one second takes the core offline. (DEDUCED: notes/assumptions/59) -/
def State.resetCore (s : State) (c : Nat) : State :=
  let s1 := (List.range 4).foldl (fun (t : State) n =>
    match t.quarterJob c n with
    | none => t
    | some j =>
      match (t.quarter c n).st with
      | .running | .suspended | .draining => t.resetJob j 4
      | .loading | .ready => t.unplace j
      | _ => t) s
  let s2 := (List.range 4).foldl (fun t n => t.scrubQuarter c n) s1
  let times := recent s.now 1000000000 (s.core c).resets ++ [s.now]
  let s3 := (s2.setCore c { s2.core c with run := {}, halt := none, resets := times }).count .MAR_CORE_RESET_COUNT_COUNT 0 1
  let s4 := s3.raiseErr blkMAR 1 c 3
  if 4 ≤ times.length then
    (s4.setF .MAR_CORE_ONLINE_ONLINE 0 (setBits (s4.getF .MAR_CORE_ONLINE_ONLINE 0) c c 0)).raiseErr blkMAR 2 c 3
  else s4

/-- MAR_CORE_RESET (R239, R250): on an uncorrectable instruction bundle, or on a protocol error of the hash network. (DEDUCED: notes/assumptions/59) -/
def execMarCoreReset (c : Nat) (ecc : Bool) (bundle : Nat) (s0 : State) : Out := s0.clocked fun s =>
  let s1 := if ecc then (s.count .MAR_ECC_UNCORRECTED_COUNT_COUNT 0 1).raiseErr blkMAR 0 c (3 + bundle * 4096) else s
  .next (s1.resetCore c)

/-- MAR_CORE_ENABLE_WRITE (R250, R257): refused when no core would be left both enabled and online; an enable from 0 to 1 reloads a core. -/
def execMarCoreEnableWrite (v : W32) (s0 : State) : Out := s0.mmio fun s =>
  let s1 := s.backOnline .MAR_CORE_ENABLE_EN .MAR_CORE_ONLINE_ONLINE v.toNat
  if v.toNat &&& s1.getF .MAR_CORE_ONLINE_ONLINE 0 = 0 then .next (s.count .MAR_CFG_REFUSED_COUNT_COUNT 0 1)
  else .next (s1.setF .MAR_CORE_ENABLE_EN 0 v.toNat)

/-! ### Resuming a halted core (R278, R282) -/

/-- The faulting operation repeated: a GATHER or SCATTER from an element on, any other whole. -/
def Exe.redo (e : Exe) (f : MFault) (lane : Nat) : Exe :=
  if f.sock = 0 then e
  else if f.sock = tGSU then
    let g : Flight := { sock := tGSU, op := f.op, trig := f.trig, ports := (operands tGSU).map e.run.port, start := e.run.cyc - lane / laneN (opMode f.op),
                        next := lane / laneN (opMode f.op), elem := lane, bundle := f.bundle.getD e.run.pc, slot := f.slot }
    ({ e with run := { e.run with flights := e.run.flights ++ [g] } }).fly
  else e.trigger f.sock f.op f.slot f.trig

/-- A halted core goes on. -/
def State.resumeCore (s : State) (c n : Nat) (j : Job) (k : KernelX) (f : MFault) (lane : Nat) : State :=
  let s1 := s.setCore c { s.core c with halt := none }
  s1.afterStep c n j k (f.bundle.getD (s1.core c).run.pc) ((s1.exe c n j k).redo f lane).endCycle

/-- MAR_FAULT_RESUME (R278, R282): START_LANE is written in precise mode; GO resumes a halted core, and is otherwise ignored and counted. -/
def execMarFaultResume (c : Nat) (v : W32) (s0 : State) : Out := s0.mmio fun s =>
  let lane := bits v.toNat 7 0
  let s1 := if s.precise then s.setF .MAR_FAULT_RESUME_START_LANE c lane else s
  if !bit v.toNat 8 then .next s1 else
  match (s.core c).halt, s.runningQuarter c with
  | some f, some n =>
    if f.sock ≠ tGSU ∧ lane ≠ 0 then .next (s1.count .MAR_CFG_REFUSED_COUNT_COUNT 0 1) else
    match s1.quarterJob c n with
    | none => .next (s1.setCore c { s1.core c with halt := none })
    | some j =>
      match s1.runKernel j with
      | none => .next (s1.setCore c { s1.core c with halt := none })
      | some k => .next (s1.resumeCore c n j k f lane)
  | _, _ => .next (s1.count .MAR_CFG_REFUSED_COUNT_COUNT 0 1)

end Sys2Proof.Machine
end

