-- ==== Sys2Proof/Machine/Admin.lean ====
section
/-! DEFINITION. Time, kernels and administration: the rows of their opcodes (R195 to R200, R283 to R286, R419). -/
namespace Sys2Proof.Machine

open Sys2Proof

/-! ### Time (R195, R196, R419) -/

/-- The body of a time-stamp token (R419). -/
def State.tokenBody (s : State) (j : Job) (digest : List Byte) : List Byte :=
  [0x55, 0x4D, 0x56, 0x54, 0x01] ++ leBytes 1 j.time.grade ++ leBytes 1 (b2n (s.flag .TIM_STATUS_POLICY_LIMITED 0) + 2 * b2n (bit j.aux 0)) ++ [0] ++
    leBytes 6 j.time.sec ++ zeros 2 ++ leBytes 4 j.time.ns ++ leBytes 4 s.errorNs ++ padTo 32 digest ++ s.serial ++ sha3 (s.jobKey j).pub

/-- TIME_STAMP (R195, R419). -/
def execTimeStamp (q i : Nat) (inp : List Byte) (s : State) : Out :=
  s.onJob q i 0x0800 fun j t =>
    let d := j.full inp
    let body := t.tokenBody j (if bit j.aux 0 then d else sha3 d)
    t.sign j inp { (j.sigIn []) with digest := false, ctx := if takesContext j.paramset then label "UMVOR.TIME.TOKEN" else [], msg := body } fun u sg =>
      u.endJob j inp { result := (body ++ sg).length, output := body ++ sg, ext := some j.time.word }

/-- The 24 bytes of a time (R196). -/
def Job.timeBytes (j : Job) : List Byte :=
  leBytes 6 j.time.sec ++ zeros 2 ++ leBytes 4 j.time.ns ++ leBytes 4 j.sub ++ leBytes 1 j.time.grade ++
    leBytes 1 (b2n j.limited) ++ zeros 6

/-- TIME_READ (R196). -/
def execTimeRead (q i : Nat) (s : State) : Out :=
  s.onJob q i 0x0801 fun j t => t.endJob j [] { result := 24, output := j.timeBytes, ext := some j.time.word }

/-! ### Loaded kernels (R240, R241, R283 to R285) -/

/-- A RUN, or a job whose set the kernel serves, has not ended and uses a kernel's slot (R285). -/
def State.kernelUsed (s : State) (slot : Nat) : Bool :=
  s.jobs.any fun j => j.live && ((j.opcode == 0x0900 && j.paramset == 0) || j.edition != 0) && !j.computed && j.kernel == some slot

/-- The kernels that occupy the array: those that new RUNs take, and earlier versions whose jobs have not ended. -/
def State.heldKernels (s : State) : List KernelX := s.mar.kernels.filter fun k => k.live || s.kernelUsed k.slot

/-- The first place of n units from a base below a top that no occupied place (start, length) touches. -/
def firstFit (base top n : Nat) (used : List (Nat × Nat)) : Option Nat :=
  (base :: used.map fun u => u.1 + u.2).foldl (fun best p =>
    if p + n ≤ top && used.all (fun u => decide (p + n ≤ u.1) || decide (u.1 + u.2 ≤ p)) then
      some (best.elim p fun b => min b p)
    else best) none

/-- Where a kernel's code would go: bundles 5,120 to 8,191 (R240). -/
def State.codePlace (s : State) (n : Nat) : Option Nat := firstFit 5120 8192 n (s.heldKernels.map fun k => (k.codeAt, k.codeLen))

/-- Where its constants would go: bytes 0 to 65,535 of the scratch (R241). -/
def State.constPlace (s : State) (n : Nat) : Option Nat := firstFit 0 65536 n (s.heldKernels.map fun k => (k.constAt, k.constLen))

/-- Free bundles of the loaded region. -/
def State.kregionFree (s : State) : Nat := 3072 - (s.heldKernels.map KernelX.codeLen).sum

/-- The family and PARAMSET of a scheme that has a key (R179), as the header's two-byte fields name it. -/
def schemeOk (n : Nat) : Bool :=
  let ps := n % 256
  if n / 256 = 1 then (kemSizes ps).isSome
  else if n / 256 = 2 then sigKnown ps
  else if n / 256 = 3 then decide (1 ≤ ps) && decide (ps ≤ 5)
  else false

/-- The bytes that n bytes of a format take as words: 4 words a row. -/
def regionWords (fmt n : Nat) : Nat := 4 * ceilDiv n (rowBytes fmt)

/-- A region lies within words 0 to 30,463 at a multiple of 4 (R283). (DEDUCED: notes/assumptions/58) -/
def regionOk (base fmt n : Nat) : Bool := base % 4 == 0 && decide (base + regionWords fmt n ≤ 30464)

/-- The largest private or public key of the set that a kernel's KEY_SET names. (DEDUCED: notes/assumptions/58) -/
def keySetBytes (n : Nat) : Nat :=
  if n = 0 then 0
  else if n / 256 = 1 then max (kemSk (n % 256)) (kemPk (n % 256))
  else if n / 256 = 2 then (sigSizes (n % 256)).elim 0 fun x => max x.1 x.2.1
  else 256

/-- The header's values are in their ranges (R283). (DEDUCED: notes/assumptions/58) -/
def KernelX.headerOk (k : KernelX) : Bool :=
  k.bundle.take 5 == [0x55, 0x4D, 0x4B, 0x42, 0x01] && (k.h 5 1 == 1 || k.h 5 1 == 2) && decide (1 ≤ k.id) && decide (k.id ≤ 0xFFFE) &&
    decide (k.flags < 16) && (k.h 5 1 == 1 || !k.replaces) && (if k.replaces then schemeOk k.replSet else k.replSet == 0) &&
    (k.keySet == 0 || schemeOk k.keySet) && decide (1 ≤ k.codeLen) && decide (k.codeLen ≤ 3072) && decide (k.entry < k.codeLen) &&
    k.constLen % 8 == 0 && decide (k.constLen ≤ 65536) && decide (k.pages ≤ 12) && decide (bits k.formats 3 0 ≤ 2) && decide (bits k.formats 7 4 ≤ 2) &&
    regionOk k.inBase (bits k.formats 3 0) k.inMax && regionOk k.outBase (bits k.formats 7 4) k.outMax &&
    regionOk k.keyBase 0 (keySetBytes k.keySet) && decide (k.h 52 1 ≤ 4) && k.h 53 3 == 0 &&
    (bslice k.bundle 120 32).all (fun b => decide (b.toNat < 128)) && (bslice k.bundle 152 104).all (fun b => b == 0) &&
    k.bundle.length == 256 + 16 * k.codeLen + k.constLen + 4627

/-- The digest in OTP of the key that checks a kernel: Umvor's, or the owner's where a slot is valid (R284, R490). -/
def State.kernelKey (s : State) (signer : Nat) : Option (List Byte) :=
  let d := if signer = 1 then some (s.otpBytes otpKernelKey 8) else (s.validSlot 2 otpOwnerKey 8).map fun a => s.otpBytes a 8
  d.filter fun b => b.any fun x => x != 0

/-- The signature over every byte before it verifies under the key whose digest OTP holds (R284). -/
def State.kernelSigned (s : State) (k : KernelX) : Bool :=
  (s.kernelKey (k.h 5 1)).elim false fun d =>
    let n := k.bundle.length - 4627
    Config.holds "kernel signature" [] [d, label "UMVOR.KERNEL", k.bundle.take n, k.bundle.drop n]

/-- Where a bundle would be loaded, when it passes every check: format, signature, version, free space. (DEDUCED: notes/assumptions/58) -/
def State.kernelFor (s : State) (d : List Byte) : Option KernelX :=
  let k : KernelX := { slot := 0, bundle := d, codeAt := 0, constAt := 0 }
  let held := s.heldKernels
  if !k.headerOk || !s.kernelSigned k || decide (s.getF .MAR_IMAGE_VERSION_VERSION 0 < k.h 16 4) || decide (64 ≤ held.length) ||
      (s.kernelOf k.id).elim false (fun o => decide (k.version < o.version)) then none
  else
    match s.codePlace k.codeLen, s.constPlace k.constLen, (List.range 64).find? fun n => held.all fun o => o.slot != n with
    | some a, some c, some n => some { k with slot := n, codeAt := a, constAt := c }
    | _, _, _ => none

/-- A kernel loaded: the earlier version of its ID serves only the RUNs accepted before the LOAD. (DEDUCED: notes/assumptions/58) -/
def State.putKernel (s : State) (j : Job) (k : KernelX) : State :=
  let old := s.heldKernels.map fun o => if o.id = k.id then { o with live := false } else o
  let s1 : State := { s with mar := { s.mar with kernels := old ++ [k] } }
  { s1 with jobs := s1.jobs.map fun x =>
      if x.opcode = 0x0900 ∧ x.paramset = 0 ∧ bits x.arg0 15 0 = k.id ∧ j.stamp < x.stamp ∧ x.core.isNone ∧ !x.computed then
        { x with kernel := some k.slot }
      else x }

/-- KERNEL_LOAD (R197, R283 to R285). (DEDUCED: notes/assumptions/58) -/
def execKernelLoad (q i : Nat) (inp : List Byte) (s : State) : Out :=
  s.onJob q i 0x0900 fun j t =>
    if j.paramset ≠ 2 then t else
    match t.kernelFor (j.hostInput inp) with
    | none => t.endJob j inp (failed stInputRejected 0x11)
    | some k => (t.putKernel j k).endJob j inp { result := k.slot }

/-- KERNEL_UNLOAD (R197, R285): new RUNs no longer find the kernel; the job ends when no RUN of the ID accepted before it is open. (DEDUCED: notes/assumptions/58) -/
def execKernelUnload (q i : Nat) (s : State) : Out :=
  s.onJob q i 0x0900 fun j t =>
    if j.paramset ≠ 3 then t else
    let id := bits j.arg0 15 0
    let t1 : State := { t with mar := { t.mar with kernels := t.mar.kernels.map fun k => if k.id = id then { k with live := false } else k } }
    if t1.jobs.any fun x => x.live && x.opcode == 0x0900 && x.paramset == 0 && bits x.arg0 15 0 == id && decide (x.stamp < j.stamp) then t1
    else t1.endJob j [] {}

/-- A record of KERNEL_INFO (R197). -/
def KernelX.info (k : KernelX) : List Byte :=
  leBytes 2 k.id ++ leBytes 2 k.version ++ leBytes 4 (b2n k.replaces) ++ padTo 32 (bslice k.bundle 120 32) ++ (sha3 k.bundle).take 8

/-- KERNEL_INFO (R197). -/
def execKernelInfo (q i : Nat) (s : State) : Out :=
  s.onJob q i 0x0900 fun j t =>
    if j.paramset ≠ 1 then t else
    let d := ((t.mar.kernels.filter fun k => k.live).take 64).flatMap KernelX.info
    t.endJob j [] { result := d.length, output := d }

/-! ### KERNEL_RUN (R197, R249 to R256, R286) -/

/-- A job that has no core is placed, when it finds its cores. -/
def State.placeRun (s : State) (j : Job) : State :=
  if j.core.isSome ∨ s.poolFree .MAR + 1 < (s.marNeeds j).2.2 then s else (s.chooseCores j).elim s fun l => s.placeOn j l

/-- Its quarters loaded and, on cores that run nothing, started. -/
def State.startQuarters (s : State) (q i : Nat) (inp : List Byte) (k : KernelX) : State :=
  (s.quartersOf q i).foldl (fun (t : State) e =>
    match t.quarterJob e.1 e.2 with
    | none => t
    | some j =>
      let x := t.quarter e.1 e.2
      let t1 := if x.st = .loading then t.setQuarter e.1 e.2 { x with st := .ready, rows := t.loadedRows j k inp } else t
      if (t1.runningQuarter e.1).isNone ∧ (t1.runnable e.1).contains e.2 then t1.switchTo e.1 e.2 else t1) s

/-- Its quarters that a core is running. -/
def State.runningOf (s : State) (q i : Nat) : List (Nat × Nat) :=
  (s.quartersOf q i).filter fun e => decide ((s.quarter e.1 e.2).st = .running) && (s.core e.1).halt.isNone

/-- A core of the job's that another command must wake: it waits for its masks, for a call of a session, or for a team that has not come to its SYNC. -/
def State.coreWaits (s : State) (j : Job) (e : Nat × Nat) : Bool :=
  let r := (s.core e.1).run
  (r.maskStall && s.genStalled e.1) || (r.hashStall && s.hashBusy e.1 e.2) || (r.sync && !s.teamSynced j) || (r.ended.isSome && s.hashBusy e.1 e.2)

/-- Bundles of a job's quarters executed in turn, until none of its cores goes on. -/
def State.runTeam (s : State) (q i : Nat) (k : KernelX) : Nat → State
  | 0 => s
  | f + 1 =>
    let l := s.runningOf q i
    if l.all fun e => (s.quarterJob e.1 e.2).elim true fun j => s.coreWaits j e then s else
    State.runTeam (l.foldl (fun (t : State) e =>
      if (t.quarter e.1 e.2).st = .running then (t.quarterJob e.1 e.2).elim t fun j => t.stepCore e.1 e.2 j k else t) s) q i k f

/-- KERNEL_RUN (R197): a job of a loaded kernel is placed, loaded and run to the ends of its members, as far as its cores are free, and its
output drained. -/
def execKernelRun (q i : Nat) (inp : List Byte) (s : State) : Out :=
  s.onJob q i 0x0900 fun j t =>
    match t.runKernel j with
    | none => t
    | some k =>
      let t1 := ((t.placeRun j).startQuarters q i inp k).runTeam q i k (2 * k.cycleLimit + 64)
      let l := t1.quartersOf q i
      match t1.job? q i, l.find? fun e => (t1.quarter e.1 e.2).member == 0 with
      | some j1, some e =>
        if l.all fun e => decide ((t1.quarter e.1 e.2).st = .draining) then t1.drained' j1 k (t1.quarter e.1 e.2) inp else t1
      | _, _ => t1

/-! ### Administration (R198 to R200) -/

/-- PATCH_QUERY (R198). -/
def execPatchQuery (q i : Nat) (s : State) : Out :=
  s.onJob q i 0x0F00 fun j t =>
    let d := leBytes 4 (bfield t.seq.bundle 8 4) ++ leBytes 4 t.minPatch ++ leBytes 2 (t.getF .SEQ_PATCH_INFO_MATCH 0) ++
      leBytes 2 (t.getF .SEQ_PATCH_INFO_WORDS 0) ++ zeros 4 ++ sha384 t.seq.bundle
    t.endJob j [] { result := 64, output := d }

/-- The units of the SELF_TEST groups, from bit 0 (R199). -/
def groupUnit (g : Nat) : Nat := [1, 2, 3, 4, 5, 0xC, 6, 7, 8, 9, 0xA, 0xB].getD g 0

/-- The groups that a SELF_TEST runs: those of its mask, or all. -/
def Job.testGroups (j : Job) : List Nat := (List.range 12).filter fun g => bits j.aux 11 0 == 0 || bit j.aux g

/-- The causes of the groups that failed. (DEDUCED: notes/assumptions/88) -/
def failedGroups (j : Job) (fails : List (Nat × Nat)) : List (Nat × Nat) := fails.filter fun f => j.testGroups.contains f.1

/-- The result word of a group; that of a group not selected is a free value. (DEDUCED: notes/assumptions/88) -/
def State.groupWord (s : State) (j : Job) (fails : List (Nat × Nat)) (g : Nat) : Nat :=
  if !j.testGroups.contains g then Config.freeNat s.free g
  else ((failedGroups j fails).find? fun f => f.1 == g).elim 0 fun f => stEngineFault + (groupUnit g * 4096 + f.2 % 4096) * 65536

/-- SELF_TEST (R199): fails lists the groups whose tests fail, with their causes. (DEDUCED: notes/assumptions/88) -/
def execSelfTest (q i : Nat) (fails : List (Nat × Nat)) (s : State) : Out :=
  s.onJob q i 0x0F01 fun j t =>
    let bad := (List.range 12).filter fun g => (failedGroups j fails).any fun f => f.1 == g
    let d := (List.range 12).flatMap fun g => leBytes 4 (t.groupWord j fails g)
    let t1 := bad.foldl (fun (u : State) g =>
      u.raiseFault (groupUnit g) (((failedGroups j fails).find? fun f => f.1 == g).elim 0 fun f => f.2 % 4096) 0 0) t
    { t1 with free := t1.free + 1 }.endJob j [] { result := bad.length, output := d }

/-- LC_INFO (R198). -/
def execLcInfo (q i : Nat) (s : State) : Out :=
  s.onJob q i 0x0F02 fun j t =>
    let d := leBytes 1 (t.getF .LCO_STATE_STATE 0) ++ leBytes 1 (b2n t.pendingIntent.isSome) ++ leBytes 1 (t.getF .LCO_STATE_DIAG_LEFT 0) ++
      leBytes 1 (t.getF .LCO_STATE_WINDOW_OPEN 0) ++ leBytes 4 (t.getF .TMP_OTP_COUNT_COUNT 0) ++ leBytes 2 t.epoch ++ zeros 2 ++ leBytes 4 t.minPatch ++ t.serial ++ zeros 8
    t.endJob j [] { result := 32, output := d }

/-- The attestation body (R200). (DESIGN CHOICE: notes/assumptions/41) -/
def State.attestBody (s : State) (nonce : List Byte) : List Byte :=
  padTo 32 nonce ++ s.serial ++ leBytes 8 (if s.flag .TIM_STATUS_HAS_TIME 0 then s.tim.sec else 0) ++
    (List.range 6).flatMap fun k => padTo 48 (s.measurement (k + 1))

/-- ATTEST (R200): signed with the ML-DSA-87 key that the fuse root secret gives. (DEDUCED: notes/assumptions/88) -/
def execAttest (q i : Nat) (inp : List Byte) (s : State) : Out :=
  s.onJob q i 0x0F03 fun j t =>
    let body := t.attestBody (j.full inp)
    match t.jobDraw j 32 with
    | .error u => u
    | .ok (rnd, u) =>
      let sk := bytesOf 4896 (Config.alg "device attestation key" [] [t.lco.frs])
      let o := body ++ bytesOf 4627 (Config.alg "signature" [3, 0, 0, 0] [sk, label "UMVOR.ATTEST", body, rnd])
      u.endJob j inp { result := o.length, output := o }

end Sys2Proof.Machine
end

