-- ==== Sys2Proof/Machine/Reset.lean ====
section
/-! DEFINITION. The erase line of the engines, alarms, and the main power-on reset with the first steps of boot (R326, R327, R355, R440, R461, R469 to
R471, R481, R491, R509 to R511). -/
namespace Sys2Proof.Machine

open Sys2Proof

/-! ### The erase line (R326, R327) -/

/-- The duration that an engine's _ERASE_LAST shows: at most 64 fc, a free value. (DEDUCED: notes/assumptions/65) -/
def State.eraseTime (s : State) (place : Nat) : Nat := Config.freeNat s.free place % 65

/-- The seeds of the multipliers' blinding keys zeroed, and drawn again when ENT can (R314, R326). (DEDUCED: notes/assumptions/65) -/
def State.reblind (s : State) : State :=
  (List.range 4).foldl (fun (t : State) m =>
    let u : State := { t with ent := { t.ent with gens := nset {} t.ent.gens (42 + m) {} } }
    if u.drbgOk 5 1 then u.seedString (42 + m) else u) s

/-- Jobs abandoned: those whose key the same response has removed end ABORTED, the others follow the engine-reset row (R223, R327). (DEDUCED: notes/assumptions/89) -/
def State.abandon (s : State) (l : List Job) (gone : List Nat) : State :=
  l.foldl (fun t j => if j.keys.any gone.contains then t.abortJob j 4 else t.resetJob j 4) s

/-- The erase line asserted in BGN and STR. gone lists the keys that the same response has removed; every job that holds one of them ends. -/
def State.eraseLine (s : State) (gone : List Nat) : State :=
  let hit := s.jobs.filter fun j =>
    (j.stage == .dispatched && (j.pools.contains .BGN || j.pools.contains .STR)) || (j.live && j.keys.any gone.contains)
  let s1 := ((s.abandon hit gone).count .BGN_ERASE_COUNT_COUNT 0 1).count .STR_ERASE_COUNT_COUNT 0 1
  let s2 := (s1.setF .BGN_ERASE_LAST_FC 0 (s.eraseTime 0)).setF .STR_ERASE_LAST_FC 0 (s.eraseTime 1)
  { s2 with free := s2.free + 1 }.reblind

/-- ERASE_SESSION (R469): every EPHEMERAL key removed, KEK_E replaced, the erase line asserted. -/
def State.respondSession (s : State) : State :=
  let gone := s.keysUsed.filter fun k => decide ((s.key k).cls = .ephemeral)
  s.eraseSession.eraseLine gone

/-- ERASE_TAMPER_BOUND (R355, R469): the BBK cleared, every TAMPER_BOUND key removed, the anchor register invalid, the erase line asserted. -/
def State.respondBound (s : State) : State :=
  let gone := s.keysUsed.filter fun k => decide ((s.key k).cls = .tamperBound)
  s.loseBbk.eraseLine gone

/-! ### Alarms (R461, R465) -/

/-- The set of responses in force for a source (R465): in BLANK and TEST LOG and IRQ alone. -/
def State.respOf (s : State) (n : Nat) : Nat :=
  let st := s.getF .LCO_STATE_STATE 0
  if st = 0 ∨ st = 1 then 3 else if st = 0xF then 0
  else s.getF .TMP_SRC_RESP_RESP n ||| s.getF .TMP_SRC_RESP_MIN n

/-- A source is monitored in the present power state (R461); in END_OF_LIFE none is. -/
def State.monitored (s : State) (n : Nat) : Bool :=
  let powered := s.powered
  if s.getF .LCO_STATE_STATE 0 = 0xF then false
  else if n = 3 then s.powered || decide (s.pwr.mode = .deep)
  else if [0, 4, 5, 6, 9, 10, 11, 12, 15].contains n then true
  else powered && decide (n < 15)

/-- An alarm of a source raised by one or both of its detectors (bit 0 the first, bit 1 the second). (DESIGN CHOICE: notes/assumptions/96) -/
def State.alarm (s : State) (n det : Nat) : State :=
  if !s.monitored n then s else
  let s1 := (((s.setFlag .TMP_SRC_STATUS_RAISED n true).setFlag .TMP_SRC_STATUS_ACTIVE n true).setF .TMP_SRC_STATUS_DETECTORS n
    (s.getF .TMP_SRC_STATUS_DETECTORS n ||| det % 4)).count .TMP_SRC_STATUS_COUNT n 1
  { s1 with tmp := { s1.tmp with event := s1.tmp.event ++ [(n, s1.now)] } }

/-- A bit of the tamper counter asked of LCO for an event; none when the counter is saturated (R472). Which bit it is follows when its word starts. (DEDUCED: notes/assumptions/81) -/
def State.askCount (s : State) (e : AoEntry) (buffered pended : Bool) : State :=
  if (s.thermoNext otpTamper 64).isSome then s.otpAsk { why := .tamper e buffered pended } else s.setFlag .TMP_STATUS_COUNT_SATURATED 0 true

/-! ### Boot steps 1 to 3 (R440) -/

/-- An entry that stands for no event. -/
def noEntry : AoEntry := { sources := 0, done := 0, pend := 0, sec := 0, tick := 0, power := 0, countDone := false }

/-- Buffer entries whose count has not been burned. -/
def State.uncounted (s : State) : List AoEntry := s.tmp.buf.filter fun e => !e.countDone && bit (e.done ||| e.pend) rCount

/-- Step 1: the pending LOCKDOWN, then COUNT once for each pending event (R470, R472). (DEDUCED: notes/assumptions/70) -/
def State.runPending (s : State) : State :=
  let s1 := if s.flag .TMP_PENDING_LOCKDOWN 0 then s.lockDown.setFlag .TMP_PENDING_LOCKDOWN 0 false else s
  (List.range (s.getF .TMP_PENDING_COUNT 0)).foldl (fun t k => t.askCount (s.uncounted.getD k noEntry) true true) s1

/-- How restrictive a state is, in the order of R477. -/
def restrict (st : Nat) : Nat := if st = 1 then 0 else if st = 0 then 1 else if st = 3 then 2 else if st = 2 then 3 else 4

/-- The most restrictive of a list of states. -/
def mostRestrictive (l : List Nat) : Nat := l.foldl (fun a b => if restrict a < restrict b then b else a) 1

/-- The state that two of three copies decode to, or the most restrictive one when no two agree (R481). -/
def State.majority (s : State) : Nat :=
  match s.copies with
  | [a, b, c] => if a = b ∨ a = c then a else if b = c then b else mostRestrictive [a, b, c]
  | l => mostRestrictive l

/-- Step 2 (R481): the state decoded, a pending intent rolled forward, a vote without intent raised as source 14. -/
def State.decodeLifeCycle (s : State) : State :=
  match s.pendingIntent with
  | some t =>
    let ws := ((List.range 3).filter fun c => s.otpWord (otpCopies + c) != statePattern t).map fun c => (otpCopies + c, statePattern t)
    (s.setF .LCO_STATE_STATE 0 (mostRestrictive (t :: s.copies))).otpAsk { why := .rollForward t, words := ws }
  | none =>
    let s1 := s.setF .LCO_STATE_STATE 0 s.majority
    if s.copies.all fun c => s.copies.all fun d => c == d then s1 else s1.alarm 14 1

/-- The words of OTP that END_OF_LIFE burns: trims, PRK, FRS, the key digests, owner key, chain and tokens (R491). -/
def wipeWords : List Nat :=
  List.range 0x48 ++ ((List.range (otpMinPatch - otpFrs)).map (· + otpFrs)) ++ (List.range 128).map (· + otpTokens)

/-- END_OF_LIFE at a boot (R491): the words wiped, the BBK and the anchor register erased; boot stops after step 3. -/
def State.endOfLife (s : State) : State :=
  let ws := (wipeWords.filter fun a => s.otpWord a != 0xFFFFFFFF).map fun a => (a, 0xFFFFFFFF)
  let s1 := s.loseBbk
  let s2 : State := { s1 with lco := { s1.lco with frs := zeros 32 }, store := { s1.store with anchor := {} } }
  if ws = [] then s2 else s2.otpAsk { why := .wipe, words := ws }

/-- A lost BBK reported: BBK_LOST with its cause, and a TAMPER record with SOURCE 0xFE (R471). (DEDUCED: notes/assumptions/82) -/
def State.reportBbk (s : State) (cause : Nat) : State :=
  ((s.setFlag .TMP_STATUS_BBK_LOST 0 true).setF .TMP_STATUS_BBK_CAUSE 0 cause).journal 0x0005 (s.tamperData 0xFE 0 cause s.powerCode)

/-- The FRS that feeds the derivations: in TEST and PRODUCTION that of the valid slot; in the other states none (R479). Two abandoned slots
raise OTP_INTEGRITY (R486). (DESIGN CHOICE: notes/assumptions/83) -/
def State.loadFrs (s : State) : State :=
  let st := s.getF .LCO_STATE_STATE 0
  let s1 : State := { s with lco := { s.lco with frs := if st = 1 ∨ st = 2 then s.otpFrsBytes else zeros 32 } }
  if (st = 1 ∨ st = 2) ∧ s.slotAbandoned 0 otpFrs 8 ∧ s.slotAbandoned 1 (otpFrs + 8) 8 then (s1.raiseErr blkLCO 1 0 otpFrs).alarm 13 1 else s1

/-- Steps 2 and 3: life cycle, DIAG when a token was spent for it, class O, and the LOAD step, or END_OF_LIFE's stop. -/
def State.bootRom (s : State) : State :=
  let s1 := s.decodeLifeCycle
  let s2 := if s1.lco.diagNext && s1.getF .LCO_STATE_STATE 0 == 2 then s1.setF .LCO_STATE_STATE 0 3 else s1
  let s3 := ({ s2 with lco := { s2.lco with diagNext := false } }).loadClassO.loadFrs
  if s3.getF .LCO_STATE_STATE 0 = 0xF then (s3.setF .GLB_STATUS_BOOT_STATE 0 1).endOfLife
  else s3.setF .GLB_STATUS_BOOT_STATE 0 2

/-! ### Main power-on reset (R509 to R511) -/

/-- What a main power-on reset clears beside the registers: jobs, contexts, vault, caches, engines; the anchor register, the BBK, OTP, the flash, the
event buffer and the keeper's time stay. (DESIGN CHOICE: notes/assumptions/90) -/
def State.dropMain (s : State) : State :=
  let s1 := (if s.tim.onKeeper then s else s.toKeeper).dropClasses [.P, .L, .F, .S]
  { s1 with
    heldLow := [], latchedHigh := [], held := [], slices := [], queues := [], rings := [], chans := [], jobs := []
    pci := { perstLow := s.pci.perstLow, pmeEn := s.pci.pmeEn }
    kv := { bbk := s.kv.bbk, bbkLost := s.kv.bbkLost }
    store := { anchor := s.store.anchor }
    qre := {}
    tim := { s1.tim with slew := 0, floor := none, outliers := 0, lastPps := none, ppsOutSec := none }
    lco := { otp := s.lco.otp, diagNext := s.lco.diagNext }
    pwr := { since := s.now, pmeKept := s.pwr.pmeKept, pmeStatus := s.pwr.pmeStatus, strap := s.pwr.strap, aoUntil := s.pwr.aoUntil, tripLatch := s.pwr.tripLatch, tripPin := s.pwr.tripPin, wakePin := s.pwr.wakePin }
    mar := {}, hsh := {}, cde := {}, bgn := {}, str := {}, sch := {}, ent := {}
    seq := { flash := s.seq.flash, chain := s.seq.chain, porAt := s.now }
    dma := {}, lmc := {} }

/-- The main power-on reset: classes P, L, F and S cleared, the time from the keeper, and boot from its first step (R440, R509). bbkOk tells
whether the always-on domain's BBK passes its check. (DESIGN CHOICE: notes/assumptions/90) -/
def State.mainReset (s : State) (bbkOk : Bool) : State :=
  let s1 := (s.dropMain.fromKeeper).setF .GLB_POR_COUNT_COUNT 0 (s.getF .GLB_POR_COUNT_COUNT 0 + 1)
  let s2 := if s1.tmp.marker then s1 else ({ s1 with tmp := { s1.tmp with marker := true } }).reportBbk 1
  let s3 := if bbkOk || s2.kv.bbk.isNone then s2 else s2.loseBbk.reportBbk 2
  let s4 := ((s3.runPending.setF .ENT_STATUS_STATE 0 entStartup)).bootRom
  { s4 with pci := { s4.pci with training := if s4.pci.perstLow then none else s4.trainTo } }

end Sys2Proof.Machine
end

