-- ==== Sys2Proof/Machine/Tamper.lean ====
section
/-! DEFINITION. The tamper monitor (chapter 20). -/
namespace Sys2Proof.Machine

open Sys2Proof

/-! ### Responses (R465 to R470) -/

/-- The implied responses join a set: LOCKDOWN implies both erases and RESET; ERASE_TAMPER_BOUND implies RESET while the main logic is powered (R467). -/
def implied (m : Nat) (powered : Bool) : Nat :=
  let m1 := if bit m rLockdown then m ||| (2 ^ rBound + 2 ^ rSession + 2 ^ rReset) else m
  if bit m1 rBound && powered then m1 ||| 2 ^ rReset else m1

/-- The union of the responses of the sources of an event (R468). -/
def State.union (s : State) (sources : Nat) : Nat := implied ((sourcesOf sources).foldl (fun m n => m ||| s.respOf n) 0) s.powered

/-- The buffer entry of an event (R473). Its AT lies within the second: 32,768 ticks. -/
def State.entryOf (s : State) (sources done pend : Nat) : AoEntry :=
  let has := s.flag .TIM_STATUS_HAS_TIME 0
  let sec := if s.tim.onKeeper then s.tim.keeperSec else s.tim.sec
  let ns := if s.tim.onKeeper then s.tim.keeperNs else s.tim.ns
  { sources := sources, done := done, pend := pend, sec := if has then sec else 0, tick := ns * 32768 / 1000000000, power := s.powerCode,
    countDone := !bit (done ||| pend) rCount, id := s.getF .TMP_EVENT_COUNT_COUNT 0 }

/-- One increment more stands in TMP_PENDING. -/
def State.pendCount (s : State) (n : Nat) : State := s.setF .TMP_PENDING_COUNT 0 (min 255 (s.getF .TMP_PENDING_COUNT 0 + n))

/-- An event without main power (R470). -/
def State.eventUnpowered (s : State) (sources m : Nat) : State :=
  let pend := m &&& (2 ^ rLog + 2 ^ rCount + 2 ^ rLockdown)
  let s1 := if bit m rBound then s.loseBbk else s
  let s2 := s1.putBuf (s1.entryOf sources (m &&& 2 ^ rBound) pend)
  let s3 := if bit m rCount then s2.pendCount 1 else s2
  if bit m rLockdown then s3.setFlag .TMP_PENDING_LOCKDOWN 0 true else s3

/-- The erases and the lockdown of an event, in their order (R468, R469). -/
def State.eventErase (s : State) (m : Nat) : State :=
  let s1 := if bit m rLockdown then s.lockDown else s
  let s2 := if bit m rBound then s1.respondBound else s1
  if bit m rSession then s2.respondSession else s2

/-- An event whose union holds RESET: COUNT and LOG become pending, IRQ is dropped, HALT is not executed (R469). -/
def State.eventReset (s : State) (sources m : Nat) : State :=
  let pend := m &&& (2 ^ rLog + 2 ^ rCount)
  let done := m &&& (2 ^ rLockdown + 2 ^ rBound + 2 ^ rSession + 2 ^ rReset)
  let s1 := (s.eventErase m).putBuf (s.entryOf sources done pend)
  (if bit m rCount then s1.pendCount 1 else s1).mainReset true

/-- HALT (R469): the erase line, every dispatched job abandoned, nothing fetched, dispatched or posted. -/
def State.halt (s : State) : State :=
  let s1 := s.eraseLine []
  ((s1.abandon (s1.jobs.filter fun j => j.stage == .dispatched) []).setFlag .TMP_STATUS_HALTED 0 true)

/-- COUNT of a running device (R472): while the brace is in force the increment waits in TMP_PENDING. (DEDUCED: notes/assumptions/70) -/
def State.eventCount (s : State) (e : AoEntry) (buffered : Bool) : State :=
  if (s.thermoNext otpTamper 64).isSome && s.flag .PWR_STATUS_BRACE 0 then (s.pendCount 1).askCount e buffered true else s.askCount e buffered false

/-- The status word of a source. -/
def State.srcWord (s : State) (n : Nat) : Nat :=
  s.getF .TMP_SRC_STATUS_RAISED n * 2 ^ 31 + s.getF .TMP_SRC_STATUS_DETECTORS n * 2 ^ 29 + s.getF .TMP_SRC_STATUS_ACTIVE n * 2 ^ 28 +
    s.getF .TMP_SRC_STATUS_COUNT n

/-- An event of a running device whose union holds no RESET. -/
def State.eventRunning (s : State) (sources m : Nat) : State :=
  let done := m &&& 0xFF
  let e := s.entryOf sources done 0
  let buffered := !s.flag .QRE_STATUS_READY 0 || (bit m rCount && (s.thermoNext otpTamper 64).isNone)
  let s1 := s.eventErase m
  let s2 := if bit m rHalt then s1.halt else s1
  let s3 := if buffered then s2.putBuf e else s2
  let s4 := if bit m rCount then s3.eventCount e buffered else s3
  let s5 := if bit m rIrq then s4.raiseErr blkTMP 0 ((sourcesOf sources).headD 0) (s4.srcWord ((sourcesOf sources).headD 0)) else s4
  if !bit m rLog then s5 else if buffered then s5.evidenceJournal else s5.tamperRecords sources done s5.powerCode

/-- The sources whose alarms form the next event: those within one always-on tick of the first (R468). (DEDUCED: notes/assumptions/70) -/
def State.eventSources (s : State) : Nat :=
  match s.tmp.event with
  | [] => 0
  | (_, t0) :: _ => ((s.tmp.event.filter fun e => decide (e.2 ≤ t0 + 30518)).map Prod.fst).foldl (fun m n => m ||| 2 ^ n) 0

/-- TAMPER_EVENT_RESPONSE (R465 to R470, R495): the alarms within one tick form one event, whose union of responses is executed in order. -/
def execTamperEventResponse (s : State) : Out :=
  match s.tmp.event with
  | [] => .next s
  | (_, t0) :: _ =>
    let sources := s.eventSources
    let s1 := (({ s with tmp := { s.tmp with event := s.tmp.event.filter fun e => !decide (e.2 ≤ t0 + 30518) } }).count .TMP_EVENT_COUNT_COUNT 0 1).awake.alert 5
    let m := s1.union sources
    .next (if !s1.powered then s1.eventUnpowered sources m
      else if bit m rReset then s1.eventReset sources m
      else s1.eventRunning sources m)

/-! ### Sources (R11, R461, R463) -/

/-- TAMPER_ALARM (R461 to R464): a source reaches its alarm condition; det tells which of its detectors fired, bit 0 the first. An external input in
mode DISABLED is not sampled. -/
def execTamperAlarm (n det : Nat) (s : State) : Out :=
  if 16 ≤ n ∨ (9 ≤ n ∧ n ≤ 12 ∧ bits (s.getF .TMP_EXT_CFG_MODE 0) (2 * (n - 9) + 1) (2 * (n - 9)) = 0) then .next s
  else .next (s.alarm n (if det % 4 = 0 then 1 else det))

/-- DETECTOR_DISAGREE (R463): only one detector of source n's quantity is in alarm when the window ends. -/
def execDetectorDisagree (n : Nat) (s : State) : Out :=
  let d := s.getF .TMP_SRC_STATUS_DETECTORS n
  if 15 ≤ n ∨ !s.flag .TMP_SRC_STATUS_ACTIVE n ∨ (d ≠ 1 ∧ d ≠ 2) then .next s
  else .next ((s.count .TMP_DISAGREE_COUNT_COUNT 0 1).alarm 15 d)

/-- FABRIC_CODE_MISMATCH (R11): the transaction is discarded, the mismatch counted, source 8 raised. (DESIGN CHOICE: notes/assumptions/96) -/
def execFabricCodeMismatch (s : State) : Out := .next ((s.count .TMP_FABRIC_CODE_COUNT_COUNT 0 1).alarm 8 1)

/-- OTP_INTEGRITY_CHECK (R461, R487): the address of a word that fails its check code or its read-back, if one does. -/
def execOtpIntegrityCheck (bad : Option Nat) (s : State) : Out :=
  match bad with
  | none => .next s
  | some a => .next ((s.raiseErr blkLCO 1 0 a).alarm 13 1)

/-- TAMPER_CONDITION_END (R475). (DEDUCED: notes/assumptions/70) -/
def execTamperConditionEnd (n : Nat) (s : State) : Out := .next (s.setFlag .TMP_SRC_STATUS_ACTIVE n false)

/-! ### Control (R469, R475) -/

/-- Nothing holds the lockdown: no evidence waits, no source with LOCKDOWN in its set is active. -/
def State.mayUnlock (s : State) : Bool :=
  !s.flag .TMP_STATUS_EVIDENCE_PENDING 0 &&
    (List.range 16).all fun n => !(bit (implied (s.respOf n) s.powered) rLockdown && s.flag .TMP_SRC_STATUS_ACTIVE n)

/-- TMP_UNLOCK (R475): TMP_CTRL written with UNLOCK. (DEDUCED: notes/assumptions/70) -/
def execTmpUnlock (v : W32) (s0 : State) : Out := s0.mmio fun s =>
  if !bit v.toNat 2 then .next s
  else if bits v.toNat 31 16 ≠ 0x5EA1 ∨ !s.mayUnlock then .next (s.count .TMP_CFG_REFUSED_COUNT_COUNT 0 1)
  else if !s.flag .TMP_STATUS_LOCKDOWN 0 then .next s
  else .next ((s.setFlag .TMP_STATUS_LOCKDOWN 0 false).journal 0x0005 (s.tamperData 0xFD 0 0 s.powerCode))

/-- TMP_RESUME (R469): TMP_CTRL written with RESUME; ignored unless HALTED. -/
def execTmpResume (v : W32) (s0 : State) : Out := s0.mmio fun s =>
  if bit v.toNat 1 ∧ s.flag .TMP_STATUS_HALTED 0 then .next (s.setFlag .TMP_STATUS_HALTED 0 false) else .next s

/-- TMP_RESP_LOCK (R475): TMP_CTRL written with RESP_LOCK. -/
def execTmpRespLock (v : W32) (s0 : State) : Out := s0.mmio fun s => .next (if bit v.toNat 3 then s.setFlag .TMP_CTRL_RESP_LOCK 0 true else s)

end Sys2Proof.Machine
end

