-- ==== Sys2Proof/Machine/LifeCycle.lean ====
section
/-! DEFINITION. Life cycle and OTP operations (chapter 21). -/
namespace Sys2Proof.Machine

open Sys2Proof

/-- A write of an LCO command that is refused. -/
def State.lcoRefuse (s : State) : State := s.count .LCO_CFG_REFUSED_COUNT_COUNT 0 1

/-! ### Transitions (R482, R483) -/

/-- A transition is one of those of R482. -/
def State.transitionOk (s : State) (t : Nat) : Bool :=
  let st := s.getF .LCO_STATE_STATE 0
  let known := (st == 0 && t == 1) || (st == 1 && t == 2 && (s.validSlot 0 otpFrs 8).isSome) || (st != 0xF && t == 0xF)
  known && !s.flag .LCO_STATE_TRANSITION 0 && s.flag .GLB_STATUS_READY 0 && (!s.flag .TMP_STATUS_LOCKDOWN 0 || t == 0xF)

/-- The intent word of a target. -/
def intentWord (t : Nat) : Nat := otpIntents + (if t = 1 then 0 else if t = 2 then 1 else 2)

/-- LCO_TRANSITION (R482, R483): the erases for END_OF_LIFE, then the intent and the copies asked of OTP. (DEDUCED: notes/assumptions/71) -/
def execLcoTransition (v : W32) (s0 : State) : Out := s0.mmio fun s =>
  let t := bits v.toNat 3 0
  if bits v.toNat 31 16 ≠ 0x5EA1 ∨ !s.transitionOk t then .next s.lcoRefuse else
  let s1 := (s.setFlag .LCO_STATE_TRANSITION 0 true)
  let s2 : State := { s1 with lco := { s1.lco with oldState := s.getF .LCO_STATE_STATE 0 } }
  let s3 := if t = 0xF then s2.respondBound.respondSession else s2
  .next (s3.otpAsk { why := .transition t,
                     words := (intentWord t, 0xA5A5A5A5) :: (List.range 3).map fun c => (otpCopies + c, statePattern t) })

/-- The RESULT byte of a LIFE_CYCLE record: the spec names no codes; free values, one for each outcome. (DEDUCED: notes/assumptions/71) -/
def lifeResult (ok : Bool) : Nat := Config.freeNat 0 (0x4C43 + b2n ok) % 256

/-- The LIFE_CYCLE record (R483). -/
def State.lifeRecord (s : State) (t : Nat) (ok : Bool) : State :=
  s.journal 0x000B (leBytes 1 s.lco.oldState ++ leBytes 1 t ++ leBytes 1 (lifeResult ok) ++ [0])

/-! ### DIAG and provisioning (R484, R485) -/

/-- The token registers as bytes. -/
def State.tokenBytes (s : State) : List Byte := (List.range 8).flatMap fun i => leBytes 4 (s.getF .LCO_DIAG_TOKEN_TOKEN i)

/-- DIAG_ENTER (R484): the slot's USED bit asked of OTP when the token matches; the token registers are cleared. (DEDUCED: notes/assumptions/71) -/
def execDiagEnter (v : W32) (s0 : State) : Out := s0.mmio fun s =>
  let n := bits v.toNat 3 0
  let s1 := s.dropF fun f _ => f == .LCO_DIAG_TOKEN_TOKEN
  if bits v.toNat 31 16 = 0x5EA1 ∧ s.getF .LCO_STATE_STATE 0 = 2 ∧ !bit (s.otpWord otpDiagUsed) n ∧
      s.otpBytes (otpTokens + 8 * n) 8 = sha3 s.tokenBytes then
    .next (s1.otpAsk { why := .diag n, words := [(otpDiagUsed, 2 ^ n)] })
  else .next s1.lcoRefuse

/-- The words that a provisioning write burns: the field's words, then the lock bit of its slot (R485, R486). -/
def State.fieldWords (s : State) (f : Nat) : Option (List (Nat × Nat)) :=
  let d := fun i => s.getF .LCO_PROV_DATA_DATA i
  let slot := fun (lock a n : Nat) =>
    if (s.validSlot lock a n).isSome then none
    else (s.freeSlot lock a n).map fun p => ((List.range n).map fun i => (p.2 + i, d i)) ++ [(otpLocks, 2 ^ p.1)]
  if f = 1 then (if s.otpWord otpSubsys = 0 then some [(otpSubsys, d 0)] else none)
  else if f = 2 then slot 2 otpOwnerKey 8
  else if f = 3 then slot 4 otpChain 12 else none

/-- PROV_FIELD_WRITE (R485, R486): LCO_PROV_CTRL written for a field. (DEDUCED: notes/assumptions/71) -/
def execProvFieldWrite (v : W32) (s0 : State) : Out := s0.mmio fun s =>
  let f := bits v.toNat 3 0
  let waiting := s.lco.ops.any fun o => decide (o.why = .field f)
  if !bit v.toNat 8 ∨ !s.flag .LCO_STATE_WINDOW_OPEN 0 ∨ waiting then .next s.lcoRefuse else
  match s.fieldWords f with
  | none => .next s.lcoRefuse
  | some ws => .next (s.otpAsk { why := .field f, words := ws })

/-- PROV_CLOSE (R485). -/
def execProvClose (v : W32) (s0 : State) : Out := s0.mmio fun s =>
  if bit v.toNat 9 ∧ bits v.toNat 31 16 = 0x5EA1 ∧ s.flag .LCO_STATE_WINDOW_OPEN 0 then
    .next (s.otpAsk { why := .windowClose, words := [(otpLocks, 2 ^ windowClosedBit)] })
  else .next s.lcoRefuse

/-! ### OTP words (R487, R488) -/

/-- The PATCH record (R439): cause 0 boot, 1 minimum raised. -/
def State.patchRecord (s : State) (cause : Nat) : State :=
  s.journal 0x000C (leBytes 4 (bfield s.seq.bundle 8 4) ++ leBytes 4 s.minPatch ++ leBytes 1 (s.getF .GLB_STATUS_BOOT_SLOT 0) ++ leBytes 1 cause ++
    zeros 2 ++ sha384 s.seq.bundle)

/-- The buffer entry of an event whose count has been burned. -/
def State.countBurned (s : State) (e : AoEntry) (buffered pended : Bool) : State :=
  let s1 := if pended then s.setF .TMP_PENDING_COUNT 0 (s.getF .TMP_PENDING_COUNT 0 - 1) else s
  { s1 with tmp := { s1.tmp with buf := s1.tmp.buf.map fun (x : AoEntry) =>
      if buffered ∧ x.id = e.id then { x with countDone := true } else x } }.freeBuf

/-- A count that could not be burned: latched, tried again at each boot, its event in the buffer (R472, R473). -/
def State.countFailed (s : State) (e : AoEntry) (buffered pended : Bool) : State :=
  let s1 := (s.raiseErr blkTMP 1 0 0)
  let s2 := if pended then s1 else s1.setF .TMP_PENDING_COUNT 0 (min 255 (s1.getF .TMP_PENDING_COUNT 0 + 1))
  if buffered then s2 else (s2.putBuf e).evidenceJournal

/-- What the end of an OTP operation brings: ok tells whether every word read back. (DEDUCED: notes/assumptions/71) -/
def State.otpFinish (s : State) (o : OtpOp) (ok : Bool) : State :=
  let s0 := s.loadClassO
  match o.why with
  | .transition t => if ok then (s0.lifeRecord t true).mainReset true else (s0.lifeRecord t false).setFlag .LCO_STATE_TRANSITION 0 false
  | .rollForward t =>
    if ok then ((s.setF .LCO_STATE_STATE 0 t).loadClassO.loadFrs).count .LCO_ROLLFORWARD_COUNT_COUNT 0 1
    else (s.setF .LCO_STATE_STATE 0 s.majority).loadClassO.loadFrs
  | .diag _ => if ok then { s0 with lco := { s0.lco with diagNext := true } }.mainReset true else s0
  | .field _ =>
    if ok then s0 else s0.setF .LCO_FIELD_STATUS_WORD 0 ((o.words.map Prod.fst).headD (s0.getF .LCO_FIELD_STATUS_WORD 0))
  | .windowClose => s0
  | .tamper e b p => if ok then s0.countBurned e b p else s0.countFailed e b p
  | .epoch fmt =>
    if !ok then s0 else if fmt then s0.formatBurned.formatAdvance
    else { s0 with store := { s0.store with coldStep := 5 } }.coldAdvance
  | .minPatch => if ok then s0.patchRecord 1 else s0
  | .frs => if ok then s0.loadFrs else s0
  | .wipe => s0

/-- The word that the first operation programs: a count's is the next bit of its thermometer at that time. -/
def State.wordOf (s : State) (o : OtpOp) : Option (Nat × Nat) :=
  match o.why with
  | .tamper _ _ _ => s.thermoNext otpTamper 64
  | _ => o.words.head?

/-- The words still to come after the first. -/
def OtpOp.rest (o : OtpOp) : OtpOp := { o with words := o.words.tail }

/-- The bits of a word that a failing burn leaves: a free value within the bits asked for. (DEDUCED: notes/assumptions/71) -/
def State.failBurn (s : State) (a v : Nat) : State := { s.burn a (Config.freeNat s.free 0 &&& v) with free := s.free + 1 }

/-- OTP_WORD_DONE (R487, R488): the word under programming ends with its read-back; ok tells whether it read back right. A word that did not is
burned once more, and fails its operation the second time. (DEDUCED: notes/assumptions/71) -/
def execOtpWordDone (ok : Bool) (s0 : State) : Out := s0.clocked fun s =>
  match s.lco.ops with
  | [] => .next s
  | o :: rest =>
    if !s.lco.started then .next s else
    match s.wordOf o with
    | none =>
      let s1 : State := { s with lco := { s.lco with ops := rest, started := false, retried := false } }
      .next (s1.otpFinish o (match o.why with | .tamper _ _ _ => false | _ => true)).otpShow
    | some (a, v) =>
      if ok then
        let s1 := (s.burn a v).count .LCO_OTP_WRITE_COUNT_COUNT 0 1
        let o' := o.rest
        if o'.words = [] then
          let s2 : State := { s1 with lco := { s1.lco with ops := rest, started := false, retried := false } }
          .next (s2.otpFinish o true).otpShow
        else
          let s2 : State := { s1 with lco := { s1.lco with ops := o' :: rest, started := false, retried := false } }
          .next s2.loadClassO.otpShow
      else if !s.lco.retried then
        let s1 := (s.failBurn a v).count .LCO_OTP_RETRY_COUNT_COUNT 0 1
        .next { s1 with lco := { s1.lco with retried := true } }
      else
        let s1 := (s.failBurn a v).raiseErr blkLCO 0 0 a
        let s2 : State := { s1 with lco := { s1.lco with ops := rest, started := false, retried := false } }
        .next (s2.otpFinish o false).otpShow

end Sys2Proof.Machine
end

