-- ==== Sys2Proof/Machine/Boot.lean ====
section
/-! DEFINITION. The patch bundle and boot (R434 to R443, R509). -/
namespace Sys2Proof.Machine

open Sys2Proof

/-! ### The bundle (R434, R435) -/

/-- A field of entry k of a bundle's section table. -/
def secField (d : List Byte) (k a n : Nat) : Nat := bfield d (64 + 48 * k + a) n

/-- The entry of a section type. -/
def secOf (d : List Byte) (ty : Nat) : Option Nat := (List.range 8).find? fun k => secField d k 0 1 == ty

/-- K_PATCH (R435). -/
def State.kPatch (s : State) : List Byte := bytesOf 32 (Config.kmac256 (s.otpBytes otpPrk 8) [] (label "UMVOR.PATCH") 32)

/-- A section's table entry, its additional authenticated data. -/
def secEntry (d : List Byte) (k : Nat) : List Byte := bslice d (64 + 48 * k) 48

/-- A section as it stands in the bundle. -/
def secRaw (d : List Byte) (k : Nat) : List Byte := bslice d (secField d k 4 4) (secField d k 8 4)

/-- A section is encrypted. -/
def secEnc (d : List Byte) (k : Nat) : Bool := bit (secField d k 1 1) 0

/-- A section's data, decrypted where it is encrypted. -/
def State.section (s : State) (d : List Byte) (ty : Nat) : List Byte :=
  match secOf d ty with
  | none => []
  | some k =>
    if secEnc d k then bytesOf (secField d k 8 4) (Config.alg "AES-256-GCM decryption" [] [s.kPatch, bslice d (64 + 48 * k + 12) 12, secEntry d k, secRaw d k])
    else secRaw d k

/-- One entry of the section table is in its ranges. -/
def secOk (d : List Byte) (k : Nat) : Bool :=
  let top := bfield d 16 4 - 4627
  if secField d k 0 1 = 0 then (secEntry d k).all fun b => b == 0
  else
    decide (secField d k 0 1 ≤ 4) && decide (secField d k 1 1 ≤ 1) && secField d k 2 2 == 0 && secField d k 4 4 % 16 == 0 &&
      decide (448 ≤ secField d k 4 4) && decide (secField d k 4 4 + secField d k 8 4 ≤ top) && (secEnc d k || secField d k 12 28 == 0) &&
      secField d k 40 8 == 0

/-- A section's data has the form of its type. -/
def secDataOk (ty : Nat) (c : List Byte) : Bool :=
  match ty with
  | 1 =>
    let m := bfield c 0 4
    let n := bfield c 4 4
    decide (m ≤ 32) && decide (n ≤ 4096) && c.length == 8 + 4 * m + 4 * n && (List.range m).all fun i => bfield c (8 + 4 * i) 4 / 2 ^ 28 == 0
  | 2 => decide (c.length ≤ 458752)
  | 3 => c.length == 4 + 5120 * 16
  | _ => decide (c.length ≤ 65536)

/-- Header, table and lengths are valid (R434); the contents of unencrypted sections too. (DEDUCED: notes/assumptions/72) -/
def State.bundleForm (s : State) (d : List Byte) : Bool :=
  d.take 5 == [0x55, 0x4D, 0x50, 0x42, 0x01] && decide (1 ≤ bfield d 6 1) && decide (bfield d 6 1 ≤ 8) && bfield d 7 1 == 0 &&
    decide (bfield d 12 4 ≤ bfield d 8 4) && bfield d 16 4 == d.length && decide (448 + 4627 ≤ d.length) && decide (d.length ≤ 1048576) &&
    (bslice d 20 44).all (fun b => b == 0) && (List.range 8).all (secOk d) &&
    ((List.range 8).filter fun k => secField d k 0 1 != 0).length == bfield d 6 1 &&
    ([1, 2, 3, 4].all fun ty => ((List.range 8).filter fun k => secField d k 0 1 == ty).length == 1) &&
    [1, 2, 3, 4].all fun ty => (secOf d ty).elim false fun k => secEnc d k || secDataOk ty (s.section d ty)

/-- The signature verifies under the patch key whose digest OTP holds (R435). -/
def State.bundleSigned (s : State) (d : List Byte) : Bool :=
  let n := d.length - 4627
  Config.holds "patch signature" [] [s.otpBytes otpPatchKey 8, label "UMVOR.PATCH", d.take n, d.drop n]

/-- Every encrypted section's tag matches, and its data has its form. (DEDUCED: notes/assumptions/72) -/
def State.bundleOpens (s : State) (d : List Byte) : Bool :=
  [1, 2, 3, 4].all fun ty => (secOf d ty).elim false fun k =>
    !secEnc d k || (Config.holds "AES-256-GCM tag" [] [s.kPatch, bslice d (64 + 48 * k + 12) 12, secEntry d k, secRaw d k, bslice d (64 + 48 * k + 24) 16] &&
      secDataOk ty (s.section d ty))

/-- The silicon stepping. -/
def stepping : Nat := 0xB0

/-- The first check of R436 that a bundle fails, 0 when it passes all. (DEDUCED: notes/assumptions/72) -/
def State.bundleError (s : State) (flashOk : Bool) (d : List Byte) : Nat :=
  if !flashOk then 1
  else if !s.bundleForm d then 2
  else if !s.bundleSigned d then 3
  else if bfield d 8 4 < s.minPatch then 4
  else if !s.bundleOpens d then 5
  else if bfield d 5 1 ≠ stepping then 7 else 0

/-- Match register i from a microcode section (R432, R434). -/
def State.loadMatch (s : State) (c : List Byte) (i : Nat) : State :=
  let w := bfield c (8 + 4 * i) 4
  ((s.setF .SEQ_MATCH_EN i 1).setF .SEQ_MATCH_TARGET i (bits w 27 16)).setF .SEQ_MATCH_ADDR i (bits w 15 0)

/-- A bundle that passed every check taken into use: match registers, patch RAM, supervisor, image, constants; the self-tests begin (R440). -/
def State.loadBundle (s : State) (slot : Nat) (d : List Byte) : State :=
  let c := s.section d 1
  let m := bfield c 0 4
  let n := bfield c 4 4
  let img := s.section d 3
  let s1 : State := { s with
    seq := { s.seq with bundle := d, patch := (List.range n).map fun i => bfield c (8 + 4 * m + 4 * i) 4, supervisor := s.section d 2, constants := s.section d 4 }
    mar := { s.mar with image := img.drop 4 } }
  let s2 := (List.range m).foldl (fun t i => t.loadMatch c i) (s1.dropF fun f _ => f == .SEQ_MATCH_EN || f == .SEQ_MATCH_TARGET || f == .SEQ_MATCH_ADDR)
  let s3 := ((s2.setF .SEQ_PATCH_INFO_WORDS 0 n).setF .SEQ_PATCH_INFO_MATCH 0 m).setF .MAR_IMAGE_VERSION_VERSION 0 (bfield img 0 4)
  ((s3.setF .GLB_STATUS_BOOT_STATE 0 3).setF .GLB_STATUS_BOOT_SLOT 0 slot).setF .GLB_STATUS_BOOT_ERROR 0 0

/-- Boot has failed with an error (R436, R441, R519). -/
def State.bootFailed (s : State) (err : Nat) : State :=
  (((s.setF .GLB_STATUS_BOOT_STATE 0 5).setF .GLB_STATUS_BOOT_ERROR 0 err).raiseErr blkGLB 0 0 err).alert 4

/-- A bundle needs ENT_STATUS.READY to be decrypted, and has to wait for it (R341, R435). -/
def State.decryptWaits (s : State) (d : List Byte) : Bool :=
  !s.flag .ENT_STATUS_READY 0 && [1, 2, 3, 4].any fun ty => (secOf d ty).elim false (secEnc d)

/-! ### Boot commands -/

/-- A word under programming when power falls is left with a free part of its bits (R508). (DEDUCED: notes/assumptions/74; DESIGN CHOICE: notes/assumptions/90) -/
def State.cutBurn (s : State) : State :=
  if !s.lco.started then s else
  match s.lco.ops with
  | [] => s
  | o :: _ =>
    match s.wordOf o with
    | none => s
    | some (a, v) => s.failBurn a v

/-- The level of SMB_ADDR after a main power-on reset (R20): sampled, low or high, where VDD_IO was cycled, else the one sampled before. The board sets
it, so it is a free value. (DESIGN CHOICE: notes/assumptions/18) -/
def State.smbSample (s : State) : Bool :=
  match Config.freeNat s.free 0 % 3 with
  | 0 => s.pwr.strap
  | k => k == 2

/-- MAIN_POWER_ON_RESET (R20, R24, R32, R440, R508 to R511): bbkOk tells whether the battery-backed key passes its check at power-up; coreLow that VDD_CORE
was below its reset level, which clears the THERMTRIP# latch. SMB_ADDR is sampled where VDD_IO has been cycled. The main logic does not leave reset
while VAUX is below its reset level, and does not boot while the THERMTRIP# latch stops its clocks. (DESIGN CHOICE: notes/assumptions/18; DESIGN CHOICE: notes/assumptions/90) -/
def execMainPowerOnReset (bbkOk coreLow : Bool) (s : State) : Out :=
  if s.pwr.onVbat then .next s else
  let s1 := s.cutBurn
  let p := { s1.pwr with strap := s1.smbSample }
  let s2 : State := { s1 with free := s1.free + 1, pwr := if coreLow then { p with tripLatch := false, tripPin := false } else p }
  .next (if s2.stopped then s2.dropMain else s2.mainReset bbkOk)

/-- BOOT_BUNDLE_LOADED (R436): what the flash answers for slot A (0), then for slot B (1): whether it answers with a valid SFDP table, and the bytes. (DEDUCED: notes/assumptions/72) -/
def execBootBundleLoaded (slot : Nat) (flashOk : Bool) (d : List Byte) (s0 : State) : Out := s0.clocked fun s =>
  if s.getF .GLB_STATUS_BOOT_STATE 0 ≠ 2 ∨ slot ≠ s.seq.tried ∨ 2 ≤ slot then .next s else
  let e := s.bundleError flashOk d
  if (e = 0 ∨ 5 ≤ e) ∧ s.decryptWaits d then .next s
  else if e = 0 then .next ((s.loadBundle slot d))
  else
    let s1 : State := { s with seq := { s.seq with tried := slot + 1 } }
    if slot = 0 then .next s1 else .next (s1.bootFailed e)

/-- A GLB command that is not valid now (R443). -/
def State.glbRefuse (s : State) : State := s.count .GLB_CFG_REFUSED_COUNT_COUNT 0 1

/-- The read of a bundle in host memory, without PASID prefix (R436). -/
def State.readBundle (s : State) : State :=
  s.sendRead none (s.getF .GLB_BOOT_HOST_ADDR_ADDR 0 * 4096) (s.getF .GLB_BOOT_HOST_LEN_BYTES 0)

/-- The bundle that the host memory holds: GLB_BOOT_HOST_LEN bytes. -/
def State.hostBundle (s : State) (d : List Byte) : List Byte := padTo (s.getF .GLB_BOOT_HOST_LEN_BYTES 0) d

/-- BOOT_RETRY (R436): GLB_BOOT_CTRL written with RETRY; d are the bytes in host memory. -/
def execBootRetry (v : W32) (d : List Byte) (s0 : State) : Out := s0.mmio fun s =>
  if !bit v.toNat 0 then .next s
  else if s.getF .GLB_STATUS_BOOT_STATE 0 ≠ 5 ∨ !s.mayIssue then .next s.glbRefuse
  else
    let b := s.hostBundle d
    let e := s.bundleError true b
    let s1 := s.readBundle
    if e = 0 then .next (s1.loadBundle 2 b) else .next (s1.bootFailed e)

/-- The units that the start-up tests found good, as the masks of the _ONLINE registers (R441). -/
def State.setOnline (s : State) (binders cores hash cde bgn str : Nat) : State :=
  let s1 := (((((s.setF .SEQ_BINDER_ONLINE_ONLINE 0 binders).setF .MAR_CORE_ONLINE_ONLINE 0 cores).setF .HSH_CORE_ONLINE_ONLINE 0 hash).setF
    .CDE_UNIT_ONLINE_ONLINE 0 cde).setF .BGN_MUL_ONLINE_ONLINE 0 bgn).setF .STR_PIPE_ONLINE_ONLINE 0 str
  (List.range 8).foldl (fun t b => t.setF .SEQ_BINDER_STATUS_STATE b (b2n (bit binders b))) s1

/-- Bits set in a mask of n units. -/
def ones (v n : Nat) : Nat := ((List.range n).filter fun k => bit v k).length

/-- Enough units are online for READY (R441). -/
def enoughUnits (binders cores hash cde bgn str : Nat) : Bool :=
  decide (1 ≤ ones binders 8) && decide (1 ≤ ones cores 32) &&
    ([(15, 0), (23, 16), (29, 24), (31, 30)].all fun r => bits hash r.1 r.2 != 0) && bits cde 1 0 != 0 && decide (2 ≤ ones bgn 4) && decide (1 ≤ ones str 2)

/-- The FRS drawn and asked of OTP at the first TEST boot (R486). (DESIGN CHOICE: notes/assumptions/83) -/
def State.drawFrs (s : State) : State :=
  if s.getF .LCO_STATE_STATE 0 ≠ 1 ∨ (s.validSlot 0 otpFrs 8).isSome ∨ s.lco.ops.any (fun o => decide (o.why = .frs)) then s else
  match s.freeSlot 0 otpFrs 8 with
  | none => s
  | some (lock, a) =>
    let (b, s1) := (s.drbgCalls 7 1).draw 32
    s1.otpAsk { why := .frs, words := ((List.range 8).map fun i => (a + i, bfield b (4 * i) 4)) ++ [(otpLocks, 2 ^ lock)] }

/-- BOOT_SELFTEST_COMPLETE (R441, R442): the masks of the units that passed; READY sets, or boot fails with SELFTEST. BGN's blinding keys come over the
strings, so the end waits for the entropy unit. (DEDUCED: notes/assumptions/72) -/
def execBootSelftestComplete (binders cores hash cde bgn str : W32) (s0 : State) : Out := s0.clocked fun s =>
  if s.getF .GLB_STATUS_BOOT_STATE 0 ≠ 3 ∨ !s.flag .ENT_STATUS_READY 0 then .next s else
  let s1 := s.setOnline binders.toNat cores.toNat hash.toNat cde.toNat bgn.toNat str.toNat
  let all := bits binders.toNat 7 0 == 0xFF && cores.toNat == 0xFFFFFFFF && hash.toNat == 0xFFFFFFFF && bits cde.toNat 2 0 == 7 && bits bgn.toNat 3 0 == 15 &&
    bits str.toNat 1 0 == 3
  let s2 := if all then s1 else (s1.setFlag .GLB_STATUS_SELFTEST_DEGRADED 0 true).raiseErr blkGLB 1 0 (s1.getF .GLB_STATUS_BOOT_ERROR 0)
  if !enoughUnits binders.toNat cores.toNat hash.toNat cde.toNat bgn.toNat str.toNat then .next (s2.bootFailed 6) else
  let s3 := ((s2.setFlag .GLB_STATUS_READY 0 true).setF .GLB_STATUS_BOOT_STATE 0 4).setF .GLB_BOOT_TIME_US 0 ((s.now - s.seq.porAt) / 1000)
  .next (s3.drawFrs.patchRecord 0)

/-- BOOT_PROGRAM (R437): GLB_BOOT_CTRL written with PROGRAM and CONFIRM; a bundle that passes the checks is copied into the slot. (DEDUCED: notes/assumptions/72) -/
def execBootProgram (v : W32) (d : List Byte) (s0 : State) : Out := s0.mmio fun s =>
  if !bit v.toNat 1 then .next s
  else if bits v.toNat 31 16 ≠ 0x5EA1 ∨ s.flag .GLB_STATUS_PROG_BUSY 0 ∨ !s.mayIssue then .next s.glbRefuse
  else
    let b := s.hostBundle d
    let s1 := s.readBundle
    if s.bundleError true b ≠ 0 then .next s1
    else .next ({ s1 with seq := { s1.seq with programming := some (bits v.toNat 4 4, b) } }.setFlag .GLB_STATUS_PROG_BUSY 0 true)

/-- BOOT_PROGRAM_COMPLETE (R437): the copy is read back; what a slot holds that fails it is a free value. (DEDUCED: notes/assumptions/72) -/
def execBootProgramComplete (good : Bool) (s0 : State) : Out := s0.clocked fun s =>
  match s.seq.programming with
  | none => .next s
  | some (slot, b) =>
    let held := if good then b else bytesOf b.length fun i => BitVec.ofNat 8 (Config.freeNat s.free i)
    let s1 : State := { s with seq := { s.seq with programming := none, flash := s.seq.flash.set slot held }, free := s.free + 1 }
    .next ((s1.setFlag .GLB_STATUS_PROG_BUSY 0 false).setFlag .GLB_STATUS_PROG_FAIL 0 (!good))

/-- RAISE_MIN (R438, R489): GLB_BOOT_CTRL written with RAISE_MIN after READY; the next free slot is written when the bundle's value is higher. -/
def execRaiseMin (v : W32) (s0 : State) : Out := s0.mmio fun s =>
  if !bit v.toNat 2 then .next s else
  let r := bfield s.seq.bundle 12 4
  match (List.range 16).find? fun k => s.otpWord (otpMinPatch + k) == 0 with
  | none => .next s.glbRefuse
  | some k =>
    if !s.flag .GLB_STATUS_READY 0 then .next s.glbRefuse
    else if r ≤ s.minPatch then .next s
    else .next (s.otpAsk { why := .minPatch, words := [(otpMinPatch + k, r)] })

end Sys2Proof.Machine
end

