-- ==== Sys2Proof/Machine/Engines.lean ====
section
/-! DEFINITION. Engine faults and the compute engines' own steps: code engine, big-number engine, stream cipher engine, hot-key store (R222, R239,
R258, R304 to R329, R358). -/
namespace Sys2Proof.Machine

open Sys2Proof

/-! ### Units (R308, R329) -/

/-- A failure of a multiplier: the fourth within one second takes it offline. -/
def State.mulFailed (s : State) (m : Nat) : State :=
  let l := recent s.now 1000000000 (nget [] s.bgn.fails m) ++ [s.now]
  let s1 : State := { s with bgn := { s.bgn with fails := nset [] s.bgn.fails m l } }
  if l.length < 4 ∨ !bit (s.getF .BGN_MUL_ONLINE_ONLINE 0) m then s1 else
  (s1.setF .BGN_MUL_ONLINE_ONLINE 0 (setBits (s1.getF .BGN_MUL_ONLINE_ONLINE 0) m m 0)).raiseErr blkBGN 4 m 0

/-- A failure of a pipe. -/
def State.pipeFailed (s : State) (p : Nat) : State :=
  let l := recent s.now 1000000000 (nget [] s.str.fails p) ++ [s.now]
  let s1 : State := { s with str := { s.str with fails := nset [] s.str.fails p l } }
  if l.length < 4 ∨ !bit (s.getF .STR_PIPE_ONLINE_ONLINE 0) p then s1 else
  (s1.setF .STR_PIPE_ONLINE_ONLINE 0 (setBits (s1.getF .STR_PIPE_ONLINE_ONLINE 0) p p 0)).raiseErr blkSTR 1 p 0

/-- A fault of a unit of CDE remembered. -/
def State.unitFailed (s : State) (u : Nat) : State :=
  { s with cde := { s.cde with faults := nset [] s.cde.faults u (recent s.now 1000000000 (nget [] s.cde.faults u) ++ [s.now]) } }

/-- The counters of an engine fault (R239, R307, R319, R328, R306). -/
def State.countFault (s : State) (unit cause : Nat) : State :=
  match unit with
  | 1 => if cause = 2 ∨ cause = 4 ∨ cause = 5 then s.count .MAR_ECC_UNCORRECTED_COUNT_COUNT 0 1 else s
  | 2 => if cause ≤ 3 then s.count .HSH_SESSION_FAIL_COUNT_COUNT 0 1 else s
  | 3 =>
    if cause = 1 ∨ cause = 2 then s.count .CDE_ECC_UNCORRECTED_COUNT_COUNT 0 1
    else if cause = 3 then s.count .CDE_CHECK_ERROR_COUNT_COUNT 0 1
    else if cause = 5 then s.count .CDE_PCT_FAIL_COUNT_COUNT 0 1 else s
  | 4 =>
    if cause = 1 then s.count .BGN_ECC_UNCORRECTED_COUNT_COUNT 0 1
    else if cause = 2 then s.count .BGN_CHECK_ERROR_COUNT_COUNT 0 1
    else if cause = 3 ∨ cause = 4 then s.count .BGN_COMPARE_MISMATCH_COUNT_COUNT 0 1 else s
  | 5 => if 1 ≤ cause ∧ cause ≤ 3 then s.count .STR_CHECK_ERROR_COUNT_COUNT 0 1 else s
  | _ => s

/-- The unit's own record of a fault, which may take it offline. -/
def State.noteUnit (s : State) (unit part : Nat) : State :=
  match unit with
  | 3 => s.unitFailed part
  | 4 => s.mulFailed part
  | 5 => s.pipeFailed part
  | _ => s

/-- The unit that a re-execution keeps away from (R251, R302, R319, R320). -/
def faultAvoid (unit part : Nat) : Option Nat := if unit = 1 ∨ 3 ≤ unit ∧ unit ≤ 5 then some part else none

/-- An engine fault counted, recorded in its block, noted by its unit, and taken by the job (R222, R258, R309, R328). -/
def State.takeFault (s : State) (j : Job) (unit cause part place : Nat) : State :=
  (((s.countFault unit cause).raiseFault unit cause part place).noteUnit unit part).engineFault j unit cause (faultAvoid unit part)

/-- A job is where a unit's fault can hit it: at the engine of that unit; in the binder or in an infrastructure block, anywhere from its acceptance
to its commit (R431). -/
def Job.faultable (j : Job) (unit : Nat) : Bool :=
  match unit with
  | 1 => j.stage == .dispatched && j.pools.contains .MAR
  | 2 => j.stage == .dispatched && j.pools.contains .HSH
  | 3 => j.stage == .dispatched && j.pools.contains .CDE
  | 4 => j.stage == .dispatched && j.pools.contains .BGN
  | 5 => j.stage == .dispatched && j.pools.contains .STR
  | _ => j.live && decide (unit ≤ 12)

/-- In precise mode an engine fault halts the core that runs the job (R278). -/
def State.haltsCore (s : State) (j : Job) (unit core : Nat) : Bool :=
  unit == 1 && s.precise && (s.runningQuarter core).elim false fun n => (s.quarter core n).job == some (j.q, j.idx)

/-- ENGINE_FAULT (R222, R258, R278, R300, R309, R319, R328, R404, R422, R431): unit and cause as R132 numbers them; part is the core, unit,
multiplier, pipe, stream or channel; place the bundle, row, key index, descriptor or address that the syndrome names. -/
def execEngineFault (q i unit cause part place : Nat) (s0 : State) : Out := s0.clocked fun s =>
  match s.job? q i with
  | none => .next s
  | some j =>
    if !j.faultable unit then .next s
    else if s.haltsCore j unit part then
      let f : MFault := { cause := cause, engine := true }
      let k := (s.runKernel j)
      .next ((((s.countFault unit cause).raiseFault unit cause part place).recordFault part f (k.elim 0xFFFF KernelX.id)
        ((k.elim 0 fun x => x.codeAt) + (s.core part).run.pc)).haltCore part f)
    else .next (s.takeFault j unit cause part place)

/-! ### The hot-key store (R358) -/

/-- HOT_STORE_ECC_ERROR (R352, R358): localOk tells whether the local-memory record passes its MAC, recordOk whether the sealed record does. (DEDUCED: notes/assumptions/38) -/
def execHotStoreEccError (k : Nat) (localOk recordOk : Bool) (s0 : State) : Out := s0.clocked fun s =>
  if !s.kv.hot.contains k then .next s else
  let s1 := ({ s with kv := { s.kv with hot := s.kv.hot.filter (· != k) } }).raiseErr blkKV 0 0 k
  let holders := s.jobs.filter fun j => j.live && j.keys.contains k && !j.computed
  let x := s.key k
  if localOk then .next (holders.foldl (fun t j => t.engineFault j 6 1 none) (s1.makeHot k))
  else if decide (x.cls = .ephemeral) then .next (holders.foldl (fun t j => t.failJob j stEngineFault 0x6001) (s1.removeKey k))
  else if recordOk then .next (holders.foldl (fun t j => t.engineFault j 6 1 none) (s1.makeHot k))
  else .next (holders.foldl (fun t j => t.failJob j stEngineFault 0x6002) ((s1.setKey k { x with unusable := true }).raiseErr blkKV 1 0 k))

/-! ### The code engine (R304 to R308) -/

/-- A key generation of Classic McEliece that is on the systemizer and has come to a step. -/
def State.keygenAt (s : State) (q i phase : Nat) : Option Job :=
  (s.job? q i).filter fun j => j.stage == .dispatched && j.systemizer && !j.computed && j.pools.contains .CDE && j.phase == phase

/-- CDE_KEYGEN_ATTEMPT_END (R304, R305): ok tells whether the square block was invertible; replaced counts the seeds replaced within the attempt. (DEDUCED: notes/assumptions/64) -/
def execCdeKeygenAttemptEnd (q i : Nat) (ok : Bool) (replaced : Nat) (s0 : State) : Out := s0.clocked fun s =>
  match s.keygenAt q i 0 with
  | none => .next s
  | some j =>
    let s1 := (s.count .CDE_KEYGEN_ATTEMPT_COUNT_COUNT 0 1).count .CDE_KEYGEN_REPLACED_SEED_COUNT_COUNT 0 replaced
    if ok then .next (s1.updJob q i fun k => { k with attempts := k.attempts + 1, phase := 1 })
    else if 128 ≤ j.attempts + 1 then .next (s1.takeFault j 3 4 2 0)
    else .next (s1.updJob q i fun k => { k with attempts := k.attempts + 1 })

/-- CDE_PAIRWISE_TEST (R306): the key is created when the test has passed; when it fails, the key is discarded and the job is an engine fault. -/
def execCdePairwiseTest (q i : Nat) (ok : Bool) (s0 : State) : Out := s0.clocked fun s =>
  match s.keygenAt q i 1 with
  | none => .next s
  | some j => if ok then execKemKeygen q i s else .next (s.takeFault j 3 5 2 0)

/-- The slots of a unit of CDE: two of each decoder unit, the two halves of the systemizer (R302). -/
def cdeSlots (u : Nat) : List Nat := [2 * u, 2 * u + 1]

/-- CDE_UNIT_RESET (R308): a unit that has faulted four times within one second; the fourth reset within one minute takes it offline. (DEDUCED: notes/assumptions/64) -/
def execCdeUnitReset (u : Nat) (s0 : State) : Out := s0.clocked fun s =>
  if 3 ≤ u ∨ (recent s.now 1000000000 (nget [] s.cde.faults u)).length < 4 then .next s else
  let js := s.jobs.filter fun j => j.stage == .dispatched && j.pools.contains .CDE && (cdeSlots u).contains (j.slot.getD 6)
  let s1 := js.foldl (fun t j => t.resetJob j 4) s
  let times := recent s.now 60000000000 (nget [] s.cde.resets u) ++ [s.now]
  let s2 : State := { s1 with cde := { s1.cde with faults := nset [] s1.cde.faults u [], resets := nset [] s1.cde.resets u times } }
  let s3 := (s2.count .CDE_UNIT_RESET_COUNT_COUNT 0 1).raiseErr blkCDE 3 u 0
  if times.length < 4 then .next s3 else
  .next ((s3.setF .CDE_UNIT_ONLINE_ONLINE 0 (setBits (s3.getF .CDE_UNIT_ONLINE_ONLINE 0) u u 0)).raiseErr blkCDE 4 u 0)

/-- CDE_UNIT_ENABLE_WRITE (R308): refused when no decoder unit would be left both enabled and online. -/
def execCdeUnitEnableWrite (v : W32) (s0 : State) : Out := s0.mmio fun s =>
  let s1 := s.backOnline .CDE_UNIT_ENABLE_EN .CDE_UNIT_ONLINE_ONLINE (bits v.toNat 2 0)
  if bits (v.toNat &&& s1.getF .CDE_UNIT_ONLINE_ONLINE 0) 1 0 = 0 then .next (s.count .CDE_CFG_REFUSED_COUNT_COUNT 0 1)
  else .next (s1.setF .CDE_UNIT_ENABLE_EN 0 (bits v.toNat 2 0))

/-- CDE_ZEROIZE_COMPLETE (R308): of decoder unit 0 or 1, or of half n - 2 of the systemizer. -/
def execCdeZeroizeComplete (n : Nat) (s0 : State) : Out := s0.clocked fun s =>
  let done := if n < 2 then cdeSlots n else [n + 2]
  .next { s with cde := { s.cde with zero := s.cde.zero.filter fun k => !done.contains k } }

/-! ### The big-number engine (R315, R318, R319, R329) -/

/-- The state that a meaning answers. -/
def Out.stateOr (o : Out) (s : State) : State :=
  match o with
  | .next t => t
  | _ => s

/-- The opcode of a job of the big-number engine carried out on its input. -/
def State.runBgn (s : State) (q i : Nat) (inp : List Byte) : State :=
  match s.job? q i with
  | none => s
  | some j =>
    Out.stateOr (match j.opcode with
      | 0x0110 => execKemKeygen q i s
      | 0x0111 => execKemEncaps q i inp s
      | 0x0112 => execKemDecaps q i inp s
      | 0x0120 => execSigKeygen q i s
      | 0x0121 => execSigSign q i inp s
      | 0x0122 => execSigVerify q i inp s
      | 0x0123 => execSigVerifyBatch q i inp s
      | 0x0130 => execKeyAgree q i inp s
      | 0x0140 => execHybridKem q i inp s
      | 0x0500 => execKeyImport q i inp s
      | 0x0601 => execLedgerCheckpoint q i s
      | 0x0800 => execTimeStamp q i inp s
      | _ => .next s) s

/-- A job whose computation is on the big-number engine. -/
def State.bgnJob (s : State) (q i : Nat) : Option Job :=
  (s.job? q i).filter fun j => j.stage == .dispatched && j.pools.contains .BGN && !j.computed

/-- A job ended by a verdict of the validation pass (R317). -/
def Job.verdict (j : Job) : Bool :=
  j.computed && (j.status == stInputRejected || (j.status == stSigInvalid && j.detail == 1))

/-- BGN_VALIDATION_END (R315, R317): the verdict of the first failed check ends the job; with none the arithmetic starts. -/
def execBgnValidationEnd (q i : Nat) (inp : List Byte) (s0 : State) : Out := s0.clocked fun s =>
  match (s.bgnJob q i).filter fun j => j.phase == 0 with
  | none => .next s
  | some _ =>
    let t := s.runBgn q i inp
    if (t.job? q i).elim false Job.verdict then .next t else .next (s.updJob q i fun k => { k with phase := 2 })

/-- BGN_COMPUTATION_END (R318, R319): equal tells whether verdicts and results of the two computations agree; a mismatch suppresses the result. (DEDUCED: notes/assumptions/65) -/
def execBgnComputationEnd (q i : Nat) (inp : List Byte) (equal : Bool) (s0 : State) : Out := s0.clocked fun s =>
  match (s.bgnJob q i).filter fun j => j.phase == 2 with
  | none => .next s
  | some j => if equal then .next (s.runBgn q i inp) else .next (s.takeFault j 4 3 ((j.slot.getD 0) / 4) 0)

/-- BGN_MUL_ENABLE_WRITE (R329): refused when fewer than two multipliers would be left both enabled and online. -/
def execBgnMulEnableWrite (v : W32) (s0 : State) : Out := s0.mmio fun s =>
  let s1 := s.backOnline .BGN_MUL_ENABLE_EN .BGN_MUL_ONLINE_ONLINE (bits v.toNat 3 0)
  if ((List.range 4).filter fun m => bit v.toNat m && bit (s1.getF .BGN_MUL_ONLINE_ONLINE 0) m).length < 2 then
    .next (s.count .BGN_CFG_REFUSED_COUNT_COUNT 0 1)
  else .next (s1.setF .BGN_MUL_ENABLE_EN 0 (bits v.toNat 3 0))

/-! ### The stream cipher engine (R321, R322, R329) -/

/-- A streaming job of a pipe (R321). -/
def Job.streamingOn (j : Job) (p : Nat) : Bool :=
  j.stage == .dispatched && !j.computed && j.pools.contains .STR && decide (0x0300 ≤ j.opcode) && decide (j.opcode ≤ 0x0303) && (j.slot.getD 0) / 16 == p

/-- STR_YIELD (R322): a streaming job yields its pipe to another one that waits; it keeps its state and rejoins the queue behind. (DEDUCED: notes/assumptions/65) -/
def execStrYield (q i : Nat) (s0 : State) : Out := s0.clocked fun s =>
  match s.job? q i with
  | none => .next s
  | some j =>
    let p := (j.slot.getD 0) / 16
    if !j.streamingOn p ∨ !(s.jobs.any fun k => k.streamingOn p && (k.q, k.idx) != (q, i)) then .next s else
    let l := s.str.yielded.filter (fun x => x != (q, i)) ++ [(q, i)]
    .next ({ s with str := { s.str with yielded := l } }.count .STR_YIELD_COUNT_COUNT 0 1)

/-- STR_PIPE_ENABLE_WRITE (R329): refused when no pipe would be left both enabled and online. -/
def execStrPipeEnableWrite (v : W32) (s0 : State) : Out := s0.mmio fun s =>
  let s1 := s.backOnline .STR_PIPE_ENABLE_EN .STR_PIPE_ONLINE_ONLINE (bits v.toNat 1 0)
  if bits (v.toNat &&& s1.getF .STR_PIPE_ONLINE_ONLINE 0) 1 0 = 0 then .next (s.count .STR_CFG_REFUSED_COUNT_COUNT 0 1)
  else .next (s1.setF .STR_PIPE_ENABLE_EN 0 (bits v.toNat 1 0))

end Sys2Proof.Machine
end

