-- ==== Sys2Proof/Machine/Seq.lean ====
section
/-! DEFINITION. The sequencer: binders, microthreads, microwords, binder restarts and halts (R423 to R433). -/
namespace Sys2Proof.Machine

open Sys2Proof

/-- A microthread of a binder. -/
def State.thread (s : State) (b t : Nat) : ThreadX := nget {} s.seq.threads (16 * b + t)

def State.setThread (s : State) (b t : Nat) (x : ThreadX) : State :=
  { s with seq := { s.seq with threads := nset {} s.seq.threads (16 * b + t) x } }

/-- Every thread of a binder changed, or gone. -/
def State.mapThreads (s : State) (b : Nat) (f : ThreadX → ThreadX) : State :=
  (List.range 16).foldl (fun t n => t.setThread b n (f (t.thread b n))) s

/-! ### Faults of a binder (R428 to R430) -/

/-- Causes of SEQ_FAULT_INFO. -/
def mcIllegal : Nat := 1
def mcEarly : Nat := 2
def mcBranch : Nat := 3
def mcWatchdog : Nat := 4
def mcStateEcc : Nat := 5
def mcPatchEcc : Nat := 6
def mcProtocol : Nat := 7

/-- A fault counted and, unless one stands there, recorded (R428, R429). -/
def State.recordMicro (s : State) (b t cause : Nat) : State :=
  let s1 := if cause ≤ mcBranch then s.count .SEQ_MICROCODE_FAULT_COUNT_COUNT 0 1 else s
  if s1.flag .SEQ_FAULT_INFO_VALID b then s1 else
  ((((s1.setFlag .SEQ_FAULT_INFO_VALID b true).setFlag .SEQ_FAULT_INFO_PRECISE b s.precise).setF .SEQ_FAULT_INFO_THREAD b t).setF
    .SEQ_FAULT_INFO_MADDR b (s.thread b t).maddr).setF .SEQ_FAULT_INFO_CAUSE b cause

/-- SEQ_FAULT_INFO as a word. -/
def State.microWord (s : State) (b : Nat) : Nat :=
  s.getF .SEQ_FAULT_INFO_VALID b * 2 ^ 31 + s.getF .SEQ_FAULT_INFO_PRECISE b * 2 ^ 30 + s.getF .SEQ_FAULT_INFO_THREAD b * 2 ^ 24 +
    s.getF .SEQ_FAULT_INFO_MADDR b * 2 ^ 8 + s.getF .SEQ_FAULT_INFO_CAUSE b

/-- A binder restart of one job of the binder (R223): decoded again, re-executed or ABORTED, or completed where it is past its commit point. -/
def State.restartJob (s : State) (j : Job) : State :=
  match s.job? j.q j.idx with
  | none => s
  | some k =>
    if !k.live then s
    else if k.committing then ((s.commitWrites k).linkDone k).moveHead k.q
    else s.resetJob k 5

/-- The binders both enabled and online. -/
def State.bindersOn (s : State) : List Nat :=
  (List.range 8).filter fun b => bit (s.getF .SEQ_BINDER_ONLINE_ONLINE 0) b && bit (s.getF .SEQ_BINDER_ENABLE_EN 0) b

/-- Jobs of a binder that is gone belong to the binder that serves their queue now (R424). (DEDUCED: notes/assumptions/63) -/
def State.rebind (s : State) (b : Nat) : State :=
  { s with jobs := s.jobs.map fun (j : Job) => if j.binder == b then { j with binder := s.binderOf j.q } else j }

/-- A binder restart (R430). The fourth within one second takes the binder OFFLINE, unless it is the last one online. (DEDUCED: notes/assumptions/63) -/
def State.restartBinder (s : State) (b : Nat) : State :=
  let s1 := s.mapThreads b fun _ => {}
  let s2 := (s1.jobs.filter fun j => j.binder == b).foldl State.restartJob s1
  let s3 := (s2.count .SEQ_RESTART_COUNT_COUNT 0 1).raiseErr blkSEQ 0 b (s.microWord b)
  let times := recent s.now 1000000000 (nget [] s.seq.restarts b) ++ [s.now]
  let s4 : State := { s3 with seq := { s3.seq with restarts := nset [] s3.seq.restarts b times } }
  if times.length < 4 then s4
  else if s4.bindersOn = [b] then s4.raiseErr blkSEQ 1 b (s.microWord b)
  else
    let s5 : State := { s4 with seq := { s4.seq with restarts := nset [] s4.seq.restarts b [], draining := s4.seq.draining.filter (· ≠ b) } }
    ((s5.setF .SEQ_BINDER_ONLINE_ONLINE 0 (setBits (s5.getF .SEQ_BINDER_ONLINE_ONLINE 0) b b 0)).setF .SEQ_BINDER_STATUS_STATE b 0).rebind b

/-- A halt in precise mode (R429): the faulting thread before its microword, the others at their next microword. -/
def State.haltBinder (s : State) (b t : Nat) : State :=
  let s1 := s.mapThreads b fun x => if x.busy then { x with halted := true } else x
  (s1.setThread b t { s1.thread b t with faulted := true }).setF .SEQ_BINDER_STATUS_STATE b 3

/-- The causes that halt a binder in precise mode: the microcode faults and an uncorrectable state word (R429). (DEDUCED: notes/assumptions/63) -/
def haltsPrecise (cause : Nat) : Bool := [mcIllegal, mcEarly, mcBranch, mcStateEcc, mcPatchEcc].contains cause

/-- A fault of a binder's thread: a halt in precise mode, a restart in service mode. (DEDUCED: notes/assumptions/63) -/
def State.microFault (s : State) (b t cause : Nat) : State :=
  let s1 := s.recordMicro b t cause
  if s.precise && haltsPrecise cause then s1.haltBinder b t else s1.restartBinder b

/-- BINDER_RESTART (R430): binder b restarts for a cause of SEQ_FAULT_INFO at thread t. -/
def execBinderRestart (b t cause : Nat) (s0 : State) : Out := s0.clocked fun s =>
  if 8 ≤ b ∨ 16 ≤ t ∨ cause = 0 ∨ 7 < cause ∨ s.getF .SEQ_BINDER_STATUS_STATE b ≠ 1 ∨ (s.precise && haltsPrecise cause) then .next s
  else .next ((s.recordMicro b t cause).restartBinder b)

/-- BINDER_PRECISE_HALT (R429): thread t of binder b faults in precise mode. -/
def execBinderPreciseHalt (b t cause : Nat) (s0 : State) : Out := s0.clocked fun s =>
  if 8 ≤ b ∨ 16 ≤ t ∨ !haltsPrecise cause ∨ s.getF .SEQ_BINDER_STATUS_STATE b ≠ 1 ∨ !s.precise ∨ !(s.thread b t).busy then .next s
  else .next ((s.recordMicro b t cause).haltBinder b t)

/-- BINDER_RESUME (R429): the supervisor resumes a halted binder at the faulting microword, or at the next one. -/
def execBinderResume (b : Nat) (atNext : Bool) (s0 : State) : Out := s0.mmio fun s =>
  if 8 ≤ b ∨ s.getF .SEQ_BINDER_STATUS_STATE b ≠ 3 then .next s else
  .next ((s.mapThreads b fun x =>
    { x with halted := false, faulted := false, maddr := if x.faulted && atNext then (x.maddr + 1) % 65536 else x.maddr }).setF
      .SEQ_BINDER_STATUS_STATE b 1)

/-! ### Enabling binders (R425) -/

/-- SEQ_BINDER_ENABLE_WRITE (R424, R425, R430): refused when no binder would be left both enabled and online. (DEDUCED: notes/assumptions/63) -/
def execSeqBinderEnableWrite (v : W32) (s0 : State) : Out := s0.mmio fun s =>
  let old := s.getF .SEQ_BINDER_ENABLE_EN 0
  let s1 := s.backOnline .SEQ_BINDER_ENABLE_EN .SEQ_BINDER_ONLINE_ONLINE (bits v.toNat 7 0)
  if bits v.toNat 7 0 &&& s1.getF .SEQ_BINDER_ONLINE_ONLINE 0 = 0 then .next (s.count .SEQ_CFG_REFUSED_COUNT_COUNT 0 1) else
  let s2 := s1.setF .SEQ_BINDER_ENABLE_EN 0 v.toNat
  let s3 := (List.range 8).foldl (fun (t : State) b =>
    if bit v.toNat b && t.getF .SEQ_BINDER_STATUS_STATE b == 0 && bit (t.getF .SEQ_BINDER_ONLINE_ONLINE 0) b then t.setF .SEQ_BINDER_STATUS_STATE b 1 else t) s2
  .next { s3 with seq := { s3.seq with
    draining := (List.range 8).filter fun b => !bit v.toNat b && (bit old b || s.seq.draining.contains b) } }

/-- STATE of a binder as it reads: a binder whose enable bit is clear is OFFLINE once its last job has completed (R425). (DEDUCED: notes/assumptions/63) -/
def State.binderState (s : State) (b : Nat) : Nat :=
  if bit (s.getF .SEQ_BINDER_ENABLE_EN 0) b || s.draining b then s.getF .SEQ_BINDER_STATUS_STATE b else 0

/-- THREADS of a binder as it reads. -/
def State.threadsBusy (s : State) (b : Nat) : Nat := ((List.range 16).filter fun t => (s.thread b t).busy).length

/-! ### Microwords (R426 to R428) -/

/-- What a microword does: the thread and the state go on, the thread yields where it stands, or the binder faults. -/
inductive Micro where
  | go (x : ThreadX) (s : State)
  | hold
  | fault (cause : Nat)

/-- A microaddress inside the store, and, in patch RAM, a word that was loaded (R427, R428). -/
def State.inStore (s : State) (a : Nat) : Bool :=
  decide (a < 0xC000) || (decide (a < 0xD000) && decide (a < 0xC000 + s.seq.patch.length))

/-- The address whose word is fetched for a microaddress: the patch word of the lowest enabled match register that names it (R432). -/
def State.fetchAddr (s : State) (a : Nat) : Nat :=
  if a < 0xC000 then
    ((List.range 32).find? fun i => s.flag .SEQ_MATCH_EN i && s.getF .SEQ_MATCH_ADDR i == a).elim a fun i => 0xC000 + s.getF .SEQ_MATCH_TARGET i
  else a

/-- The class of the microword at an address, where the model knows the word: patch RAM (R426). (DEDUCED: notes/assumptions/62) -/
def State.classAt (s : State) (a : Nat) : Option Nat :=
  if 0xC000 ≤ a ∧ a < 0xC000 + s.seq.patch.length then some (bits (s.seq.patch.getD (a - 0xC000) 0) 31 27) else none

/-- A register of a thread. -/
def ThreadX.reg (x : ThreadX) (r : Nat) : Nat := nget 0 x.regs r

def ThreadX.setReg (x : ThreadX) (r v : Nat) : ThreadX := { x with regs := nset 0 x.regs r (v % 2 ^ 32) }

/-- A branch to a microaddress (R428). -/
def State.branchTo (s : State) (x : ThreadX) (a : Nat) : Micro :=
  if s.inStore a then .go { x with maddr := a } s else .fault mcBranch

/-- A thread free for job (q, i), started at its microroutine's entry point, a free ROM address; or the thread that works for it already. -/
def State.threadFor (s : State) (b t q i : Nat) : Option (ThreadX × State) :=
  let x := s.thread b t
  if x.busy then (if x.job = some (q, i) then some (x, s) else none)
  else if s.seq.threads.any fun e => e.2.job == some (q, i) then none
  else
    match s.job? q i with
    | none => none
    | some j =>
      if j.stage ≠ .done ∧ (if j.stamp = 0 then s.binderOf q else j.binder) = b then
        some ({ busy := true, job := some (q, i), maddr := Config.freeNat s.free 0 % 0xC000 }, { s with free := s.free + 1 })
      else none

/-- A microword of a class in 0x0 to 0xC issued by thread t of binder b for job (q, i) (R423, R426): the word at the thread's microaddress is of
that class; in patch RAM the loaded word says so, in the ROM the command does. (DEDUCED: notes/assumptions/62) -/
def State.micro (s : State) (b t q i : Nat) (cls : List Nat) (body : ThreadX → State → Micro) : State :=
  if 8 ≤ b ∨ 16 ≤ t ∨ s.stopped ∨ s.getF .SEQ_BINDER_STATUS_STATE b ≠ 1 ∨ (s.thread b t).halted then s else
  match s.threadFor b t q i with
  | none => s
  | some (x, s1) =>
    let s0 := s1.setThread b t x
    let a := s.fetchAddr x.maddr
    if !s.inStore a then s0.microFault b t mcBranch else
    let c := s.classAt a
    if c.elim false (fun k => decide (0x0C < k)) then s0.microFault b t mcIllegal
    else if c.elim false (fun k => !cls.contains k) then s
    else if 65536 ≤ x.issued + 1 && !cls.contains 6 then s0.microFault b t mcWatchdog
    else
      match body { x with maddr := (a + 1) % 65536, issued := x.issued + 1 } s1 with
      | .go y s2 => s2.setThread b t y
      | .hold => s0
      | .fault k => s0.microFault b t k

/-- The result of an ALU operation on 32-bit values. -/
def AluOp.eval (o : AluOp) (a b : Nat) : Nat :=
  match o with
  | .add => (a + b) % 2 ^ 32
  | .sub => (a + 2 ^ 32 - b % 2 ^ 32) % 2 ^ 32
  | .and => a &&& b
  | .or => a ||| b
  | .xor => a ^^^ b
  | .shl => a * 2 ^ (b % 32) % 2 ^ 32
  | .shr => a / 2 ^ (b % 32)
  | .eq => b2n (a == b)
  | .ltu => b2n (decide (a < b))
  | .lts => b2n (decide (toSigned 32 a < toSigned 32 b))

/-- MICROWORD_ALU (R426). -/
def execMicrowordAlu (b t q i : Nat) (o : AluOp) (dst src : Nat) (arg : AluArg) (s : State) : Out :=
  .next (s.micro b t q i [0, 1] fun x s1 =>
    .go (x.setReg (dst % 64) (AluOp.eval o (x.reg (src % 64)) (match arg with | .reg n => x.reg (n % 64) | .imm v => v % 1024))) s1)

/-- A field of the job context. -/
def CtxField.get (f : CtxField) (j : Job) : Nat :=
  match f with
  | .status => j.status
  | .detail => j.detail
  | .result => j.result
  | .stamp => j.stamp
  | .chainPos => j.chainPos
  | .size => j.size

/-- The fields of the job context that a microroutine may write; the others are settled by acceptance (R206, R428). (DEDUCED: notes/assumptions/62) -/
def CtxField.put (f : CtxField) (j : Job) (v : Nat) : Job :=
  match f with
  | .status => { j with status := v % 65536 }
  | .detail => { j with detail := v % 65536 }
  | .result => { j with result := v % 2 ^ 31 }
  | .stamp | .chainPos | .size => j

/-- The word a FIELD microword names. -/
def State.fieldWord (s : State) (j : Job) (f : FieldAt) : Nat :=
  match f with
  | .entry w => j.w (w % 8)
  | .queue k => s.getF k j.q
  | .job k => CtxField.get k j

/-- That word replaced. The queue context is written only for a job past its COMMIT (R428). -/
def State.putFieldWord (s : State) (j : Job) (f : FieldAt) (v : Nat) : State :=
  match f with
  | .entry w => s.updJob j.q j.idx fun k => { k with words := k.words.set (w % 8) (BitVec.ofNat 64 v) }
  | .queue k => if j.committing then s.setF k j.q v else s
  | .job k => s.updJob j.q j.idx fun l => CtxField.put k l v

/-- MICROWORD_FIELD (R426): len bits from bit lo of the named word into a register, or the register's bits into the word. -/
def execMicrowordField (b t q i : Nat) (f : FieldAt) (insert : Bool) (reg lo len : Nat) (s : State) : Out :=
  .next (s.micro b t q i [2] fun x s1 =>
    match s1.job? q i with
    | none => .hold
    | some j =>
      let w := s1.fieldWord j f
      if len = 0 then .go x s1
      else if insert then .go x (s1.putFieldWord j f (setBits w (lo + len - 1) lo (x.reg (reg % 64))))
      else .go (x.setReg (reg % 64) (bits w (lo + len - 1) lo)) s1)

/-- MICROWORD_BRANCH (R426, R428): to a 16-bit microaddress when the register is not 0; a call keeps the return address. -/
def execMicrowordBranch (b t q i : Nat) (kind : BranchKind) (cond target : Nat) (s : State) : Out :=
  .next (s.micro b t q i [3] fun x s1 =>
    if x.reg (cond % 64) = 0 then .go x s1 else
    match kind with
    | .jump => s1.branchTo x (target % 65536)
    | .call => s1.branchTo { x with calls := x.maddr :: x.calls } (target % 65536)
    | .ret =>
      match x.calls with
      | [] => .fault mcBranch
      | a :: l => s1.branchTo { x with calls := l } a)

/-- MICROWORD_DISPATCH (R426): to the microaddress that a table holds at the register's value. (DEDUCED: notes/assumptions/62) -/
def execMicrowordDispatch (b t q i reg : Nat) (table : List Nat) (s : State) : Out :=
  .next (s.micro b t q i [4] fun x s1 => s1.branchTo x (table.getD (x.reg (reg % 64)) 0xFFFF))

/-- MICROWORD_REQUEST (R426): a request issued under a tag, whose answer will stand in a register; the thread goes on. -/
def execMicrowordRequest (b t q i tag reg : Nat) (s : State) : Out :=
  .next (s.micro b t q i [5] fun x s1 => .go { x with tags := x.tags.filter (fun p => p.1 != tag) ++ [(tag, reg % 64)] } s1)

/-- The answers of named tags: free values in their registers. -/
def answers (tags : List Nat) (x : ThreadX) (free : Nat) : ThreadX :=
  (x.tags.filter fun p => tags.contains p.1).foldl (fun y p => y.setReg p.2 (Config.freeNat free p.1)) x

/-- MICROWORD_WAIT (R426, R430): the named tags have answered; the watchdog's count starts again. (DEDUCED: notes/assumptions/62) -/
def execMicrowordWait (b t q i : Nat) (tags : List Nat) (s : State) : Out :=
  .next (s.micro b t q i [6] fun x s1 =>
    .go { answers tags x s1.free with tags := x.tags.filter (fun p => !tags.contains p.1), issued := 0 } { s1 with free := s1.free + 1 })

/-- The entry that job (q, i) is, when it is the queue's next to be decoded. -/
def State.decodableAt (s : State) (q i : Nat) : Option Job := (s.decodable q).bind fun j => if j.idx = i then some j else none

/-- MICROWORD_CHECK (R130, R426): when the register is not 0 and a check fails, the verdict of R130 is recorded and the thread branches to completion. (DEDUCED: notes/assumptions/62) -/
def execMicrowordCheck (b t q i cond target : Nat) (inT outT : TableRead) (s : State) : Out :=
  .next (s.micro b t q i [7] fun x s1 =>
    if x.reg (cond % 64) = 0 then .go x s1 else
    match s1.decodableAt q i with
    | none => .go x s1
    | some j0 =>
      match s1.readTables j0 inT outT with
      | none => .hold
      | some (j, s2) =>
        match s2.verdict j inT outT with
        | .error k => (s2.recordVerdict k).branchTo x (target % 65536)
        | .ok _ => .go x s2)

/-- MICROWORD_ACCEPT (R203, R206, R428): the acceptance point; effects settled before are reused, a second ACCEPT of the run is a fault. (DEDUCED: notes/assumptions/62) -/
def execMicrowordAccept (b t q i : Nat) (inT outT : TableRead) (s : State) : Out :=
  .next (s.micro b t q i [8] fun x s1 =>
    if x.accepted then .fault mcIllegal else
    match s1.job? q i with
    | none => .hold
    | some j =>
      if 0 < j.stamp then .go { x with accepted := true } s1 else
      match (s1.decodableAt q i).bind fun k => s1.readTables k inT outT with
      | none => .hold
      | some (k, s2) =>
        match s2.verdict k inT outT with
        | .error _ => .hold
        | .ok l => .go { x with accepted := true } ((s2.accept l).decided l))

/-- The bytes in a place of a job. -/
def StagePlace.get (p : StagePlace) (j : Job) : List Byte :=
  match p with
  | .staging => j.input
  | .park => j.park
  | .context => j.ctx

/-- A place of a job with new bytes. -/
def StagePlace.put (p : StagePlace) (j : Job) (d : List Byte) : Job :=
  match p with
  | .staging => { j with input := d }
  | .park => { j with park := d }
  | .context => { j with ctx := d }

/-- MICROWORD_STAGE (R426): n bytes from one place of the job to another. (DEDUCED: notes/assumptions/62) -/
def execMicrowordStage (b t q i : Nat) (src dst : StagePlace) (at' n to' : Nat) (s : State) : Out :=
  .next (s.micro b t q i [9] fun x s1 =>
    .go x (s1.updJob q i fun j =>
      let old := StagePlace.get dst j
      StagePlace.put dst j (padTo to' old ++ padTo n (bslice (StagePlace.get src j) at' n) ++ old.drop (to' + n))))

/-- MICROWORD_COMMIT (R205, R428): the job's commit point, once what it waits for is done; a second COMMIT is a fault. -/
def execMicrowordCommit (b t q i : Nat) (s : State) : Out :=
  .next (s.micro b t q i [10] fun x s1 =>
    match s1.job? q i with
    | none => .hold
    | some j =>
      if j.committing then .fault mcIllegal
      else if s1.mayCommit j then .go x (s1.updJob q i fun k => { k with committing := true })
      else .hold)

/-- What of the write order follows W7 (R97 to R105): the head record and, where its advance has an event due, the event entry, the event ring's head
record and its message. One microword issues them together, so that no other queue's event and no timer's message comes between. (DEDUCED: notes/assumptions/62) -/
def State.nextWrite (s : State) (x : ThreadX) (q : Nat) : ThreadX × State :=
  if x.writes = 1 then
    let r := s.advance q s.jobs.length
    ({ x with writes := 2, event := r.1.isSome && s.flag .QC_CTRL_EV_EN q && (s.flag .QC_CTRL_EV_MODE q || r.2.1) }, s.moveHead q)
  else (x, s)

/-- MICROWORD_HOSTWRITE (R12, R426, R428): the next write of the write order; before COMMIT it is a fault. -/
def execMicrowordHostwrite (b t q i : Nat) (s : State) : Out :=
  .next (s.micro b t q i [11] fun x s1 =>
    if !s1.mayIssue then .hold
    else if 0 < x.writes then .go (s1.nextWrite x q).1 (s1.nextWrite x q).2
    else
      match s1.job? q i with
      | none => .fault mcEarly
      | some j =>
        if !j.committing then .fault mcEarly
        else if j.stage = .done then .go { x with writes := 1 } s1
        else if j.writesOutput && decide (j.written < 1) then
          .go x ((s1.writeFrags j.slice (if j.outInd then j.outFrags else [(j.outAddr, j.outLen)]) (j.output.take j.outLen)).updJob q i fun k =>
            { k with written := 1 })
        else
          match (if j.written < 2 then j.ext else none) with
          | some w =>
            .go x ((s1.hostWrite j.slice (s1.entryAddr q i 6) (leBytes 8 w.toNat) false).updJob q i fun k => { k with written := 2 })
          | none => .go { x with writes := 1 } ((s1.writeW7 q i).linkDone j))

/-- MICROWORD_END (R426): the thread is released. -/
def execMicrowordEnd (b t q i : Nat) (s : State) : Out :=
  .next (s.micro b t q i [12] fun _ s1 => .go {} s1)

end Sys2Proof.Machine
end

