-- ==== Sys2Proof/Machine/Dma.lean ====
section
/-! DEFINITION. The DMA engine and local memory (chapter 19). -/
namespace Sys2Proof.Machine

open Sys2Proof

/-! ### Local memory (R451 to R454) -/

/-- Bytes of the data address map (R453). -/
def State.lmMapped (s : State) : Nat :=
  if s.getF .LMC_CONFIG_GIB 0 = 16 then 14 * 2 ^ 30 else if s.getF .LMC_CONFIG_GIB 0 = 8 then 7 * 2 ^ 30 else 0

/-- The lines that n bytes from a data address touch. -/
def linesOf (a n : Nat) : List Nat := if n = 0 then [] else (List.range ((a + n - 1) / 64 + 1 - a / 64)).map fun k => a / 64 + k

/-- Every line of the range passes its MAC: it was written under K_LM and the boot epoch in force (R452). -/
def State.lmReadable (s : State) (a n : Nat) : Bool := (linesOf a n).all fun l => s.lmc.lines.any fun e => e.1 == l

/-- Bytes read from local memory. (DEDUCED: notes/assumptions/69) -/
def State.lmRead (s : State) (a n : Nat) : List Byte :=
  bytesOf n fun k => (nget [] s.lmc.lines ((a + k) / 64)).getD ((a + k) % 64) 0

/-- The counters of a line of the counter-tree region and of every node above it increased (R454). -/
def countLine (m : SMap Nat Nat) (l : Nat) : SMap Nat Nat :=
  (List.range 8).foldl (fun t k => nset 0 t (k * 2 ^ 24 + l / 8 ^ k) ((nget 0 t (k * 2 ^ 24 + l / 8 ^ k) + 1) % 2 ^ 56)) m

/-- One line written with new bytes from a place in it on; what else an unwritten line holds is zero. -/
def State.lmLine (s : State) (l at' : Nat) (d : List Byte) : State :=
  let old := padTo 64 (nget [] s.lmc.lines l)
  { s with lmc := { s.lmc with
    lines := nset [] s.lmc.lines l (old.take at' ++ d ++ old.drop (at' + d.length))
    ctr := if l < 2 ^ 24 then countLine s.lmc.ctr l else s.lmc.ctr } }

/-- Bytes written to local memory. (DEDUCED: notes/assumptions/69) -/
def State.lmWrite (s : State) (a : Nat) (d : List Byte) : State :=
  (linesOf a d.length).foldl (fun (t : State) l =>
    let start := max a (64 * l)
    t.lmLine l (start % 64) (bslice d (start - a) (64 * (l + 1) - start))) s

/-! ### Channels and descriptors (R445 to R449) -/

def State.dchan (s : State) (c : Nat) : DmaChan := nget {} s.dma.chans c

def State.setDchan (s : State) (c : Nat) (x : DmaChan) : State := { s with dma := { s.dma with chans := nset {} s.dma.chans c x } }

def State.desc (s : State) (c i : Nat) : Desc := nget {} s.dma.desc (256 * c + i)

def State.setDesc (s : State) (c i : Nat) (d : Desc) : State := { s with dma := { s.dma with desc := nset {} s.dma.desc (256 * c + i) d } }

/-- The ring's head moved over descriptors that the engine does not own (R450). -/
def State.skipUnowned (s : State) (c : Nat) : Nat → State
  | 0 => s
  | f + 1 =>
    let h := s.getF .DMA_CHAN_STATUS_HEAD c
    if h = (s.dchan c).tail ∨ (s.desc c h).own then s else (s.setF .DMA_CHAN_STATUS_HEAD c ((h + 1) % 256)).skipUnowned c f

/-- The descriptor at the head of a channel, if the engine owns it. -/
def State.headDesc (s : State) (c : Nat) : Option Desc :=
  let d := s.desc c (s.getF .DMA_CHAN_STATUS_HEAD c)
  if d.own then some d else none

/-- A descriptor that reads or writes local memory. -/
def Desc.local' (d : Desc) : Bool := d.srcSpace == 1 || d.dstSpace == 1

/-- A descriptor that reads or writes host memory. -/
def Desc.host (d : Desc) : Bool := d.srcSpace == 0 || d.dstSpace == 0

/-- Bytes of the descriptor's next burst. -/
def Desc.chunk (d : Desc) : Nat := min (2 ^ (6 + d.burst)) (d.len - d.bytes)

/-- The outcome of a descriptor that cannot be carried out, and whether an address lies outside the map (R449). -/
def State.descFault (s : State) (d : Desc) : Option (Nat × Bool) :=
  if 3 ≤ d.srcSpace ∨ 3 ≤ d.dstSpace ∨ d.len = 0 ∨ 6 < d.burst then some (4, false)
  else if d.dstSpace = 0 ∧ 2 ^ 64 < d.dst + d.len then some (2, false)
  else if (d.srcSpace = 1 ∧ s.lmMapped < d.src + d.len) ∨ (d.dstSpace = 1 ∧ s.lmMapped < d.dst + d.len) then some (3, true)
  else none

/-- The head descriptor of a channel when it can move now: host bursts wait while the function may not issue (R49, R450), accesses to local memory
wait while the LMC retrains and while a line that fails its MAC has not been read again (R455, R456). (DEDUCED: notes/assumptions/68) -/
def State.burstReady (s : State) (c : Nat) : Option Desc :=
  match s.headDesc c, (s.dchan c).fin with
  | some d, none =>
    if (s.descFault d).isSome then some d
    else if (d.host && !s.mayIssue) || (d.local' && s.getF .LMC_STATUS_STATE 0 != 1) ||
        (d.srcSpace == 1 && !s.lmReadable (d.src + d.bytes) d.chunk) then none
    else some d
  | _, _ => none

/-- The channel that is served next in round-robin order after the one served last. (DEDUCED: notes/assumptions/68) -/
def nextAfter (last : Nat) (l : List Nat) : Option Nat :=
  l.foldl (fun (a : Option Nat) c => match a with
    | none => some c
    | some b => if (c + 127 - last) % 128 < (b + 127 - last) % 128 then some c else some b) none

/-- Bytes written to on-chip staging. -/
def State.stagingWrite (s : State) (a : Nat) (d : List Byte) : State :=
  { s with dma := { s.dma with staging := (List.range d.length).foldl (fun m k => nset 0 m (a + k) (d.getD k 0).toNat) s.dma.staging } }

/-- The source of a burst: the bytes, and the read requests of a host source. data is what the host answers. -/
def State.burstSource (s : State) (d : Desc) (data : List Byte) : List Byte × State :=
  let a := d.src + d.bytes
  match d.srcSpace with
  | 0 => (padTo d.chunk data, s.hostRead d.slice a d.chunk)
  | 1 => (s.lmRead a d.chunk, s)
  | _ => (bytesOf d.chunk fun k => BitVec.ofNat 8 (nget 0 s.dma.staging (a + k)), s)

/-- The destination of a burst written. -/
def State.burstDest (s : State) (d : Desc) (w : List Byte) : State :=
  let a := d.dst + d.bytes
  match d.dstSpace with
  | 0 => s.hostWrite d.slice a w true
  | 1 => s.lmWrite a w
  | _ => s.stagingWrite a w

/-- One burst of the head descriptor of a channel moved, or the descriptor's failure found (R446, R449). -/
def State.moveBurst (s : State) (c : Nat) (d : Desc) (data : List Byte) : State :=
  let h := s.getF .DMA_CHAN_STATUS_HEAD c
  let x := s.dchan c
  match s.descFault d with
  | some (code, o) => s.setDchan c { x with fin := some (code, 0), outside := o }
  | none =>
    let (w, s1) := s.burstSource d data
    let s2 := (s1.burstDest d w).count .DMA_BYTES_COUNT 0 w.length
    let s3 := s2.count .LMC_PROTECTED_BYTES_COUNT 0 ((b2n (d.srcSpace == 1) + b2n (d.dstSpace == 1)) * w.length)
    let s4 := s3.setDesc c h { d with bytes := d.bytes + w.length }
    if d.bytes + w.length = d.len then s4.setDchan c { x with fin := some (0, 0), outside := false } else s4

/-- DESCRIPTOR_POST (R446, R447, R450): a descriptor posted at the next place of channel c's ring, unless the engine still owns what is there. -/
def execDescriptorPost (c : Nat) (a : DescArg) (s0 : State) : Out := s0.clocked fun s =>
  let x := s.dchan c
  if 128 ≤ c ∨ (s.desc c x.tail).own then .next s else
  let s1 := s.setDesc c x.tail { src := a.src.toNat, dst := a.dst.toNat, len := a.len.toNat, line := a.line % 128, burst := a.burst % 8,
                                 srcSpace := a.srcSpace % 4, dstSpace := a.dstSpace % 4, slice := a.slice % 4096, own := a.own, job := a.job }
  .next ((s1.setDchan c { x with tail := (x.tail + 1) % 256 }).skipUnowned c 256)

/-- DMA_BURST (R446, R42, R43, R82): a request on line c, or the turn of a channel without a line. The engine serves writes to host memory first, then
other transfers, each kind in round-robin order; data is what host memory holds where the burst reads. (DEDUCED: notes/assumptions/68) -/
def execDmaBurst (c : Nat) (data : List Byte) (s0 : State) : Out := s0.clocked fun s =>
  let asked := if c < 96 then s.dma.asked.filter (· ≠ c) ++ [c] else s.dma.asked
  let ready := (asked ++ (List.range 32).map (· + 96)).filter fun k => (s.burstReady k).isSome
  let writes := ready.filter fun k => (s.burstReady k).elim false fun d => d.dstSpace == 0
  let pick := if writes = [] then nextAfter s.dma.lastOther ready else nextAfter s.dma.lastWrite writes
  let s0 : State := { s with dma := { s.dma with asked := asked } }
  match pick with
  | none => .next s0
  | some k =>
    match s.burstReady k with
    | none => .next s0
    | some d =>
      let x : DmaX := { s.dma with asked := asked.filter (· ≠ k) }
      let x1 : DmaX := if writes = [] then { x with lastOther := k } else { x with lastWrite := k }
      .next (({ s with dma := x1 } : State).moveBurst k d data)

/-- The job that a descriptor moves data for, where it still runs. -/
def State.descJob (s : State) (d : Desc) : Option Job :=
  d.job.bind fun p => (s.job? p.1 p.2).filter fun j => j.stage == .dispatched && !j.computed

/-- What a failed descriptor means to its requester (R449). (DEDUCED: notes/assumptions/68) -/
def State.descOutcome (s : State) (c : Nat) (d : Desc) (code cause : Nat) (outside : Bool) : State :=
  match s.descJob d with
  | none => s
  | some j =>
    match code with
    | 1 => s.failJob j stHostRead cause
    | 2 => s.failJob j stHostWrite 1
    | 3 => if outside then s.takeFault j 11 3 c d.src else (s.countFault 11 1).engineFault j 11 1 none
    | 4 => s.takeFault j 10 2 c (s.getF .DMA_CHAN_STATUS_HEAD c)
    | 6 => s.resetJob j 6
    | _ => s

/-- DMA_DESCRIPTOR_END (R448, R449): CODE, CAUSE, BAD and DONE are written, then OWN is cleared, and the channel goes on with its next descriptor. (DEDUCED: notes/assumptions/68) -/
def execDmaDescriptorEnd (c : Nat) (s0 : State) : Out := s0.clocked fun s =>
  let x := s.dchan c
  match s.headDesc c, x.fin with
  | some d, some (code, cause) =>
    let h := s.getF .DMA_CHAN_STATUS_HEAD c
    let s1 := s.setDesc c h { d with own := false, bad := code != 0, code := code, cause := if code = 1 then cause else 0 }
    let s2 := if code = 0 then s1 else s1.count .DMA_BAD_DESC_COUNT_COUNT 0 1
    let s3 := if code = 5 then s2.count .DMA_CANCEL_COUNT_COUNT 0 1 else s2
    let s4 := (s3.setDchan c { x with fin := none, outside := false }).descOutcome c d code cause x.outside
    .next ((s4.setF .DMA_CHAN_STATUS_HEAD c ((h + 1) % 256)).skipUnowned c 256)
  | _, _ => .next s

/-- One descriptor of an abandoned job: it ends CANCELLED at once, or, when started, as soon as its read completes (R450). -/
def State.cancelDesc (s : State) (k : Nat) (d : Desc) : State :=
  let c := k / 256
  if k % 256 = s.getF .DMA_CHAN_STATUS_HEAD c ∧ 0 < d.bytes then s.setDchan c { s.dchan c with fin := some (5, 0) }
  else
    (((s.setDesc c (k % 256) { d with own := false, bad := true, code := 5 }).setDchan c
      (if k % 256 = s.getF .DMA_CHAN_STATUS_HEAD c then { s.dchan c with fin := none, outside := false } else s.dchan c)).count
        .DMA_BAD_DESC_COUNT_COUNT 0 1).count .DMA_CANCEL_COUNT_COUNT 0 1

/-- DMA_CANCEL (R450): the descriptors of a job that no longer runs. (DEDUCED: notes/assumptions/68) -/
def execDmaCancel (q i : Nat) (s0 : State) : Out := s0.clocked fun s =>
  if (s.job? q i).elim false Job.running then .next s else
  let mine := s.dma.desc.filter fun e => e.2.own && e.2.job == some (q, i)
  let s1 := mine.foldl (fun (t : State) e => t.cancelDesc e.1 e.2) s
  .next (((mine.map fun e => e.1 / 256).dedup).foldl (fun (t : State) c => t.skipUnowned c 256) s1)

/-- STATE and PENDING of DMA_CHAN_STATUS as they read (R459). -/
def State.dmaPending (s : State) (c : Nat) : Nat := (s.dma.desc.filter fun e => e.1 / 256 == c && e.2.own).length

def State.dmaState (s : State) (c : Nat) : Nat :=
  match s.headDesc c with
  | none => 0
  | some d => if d.host && !s.mayIssue then 3 else if decide (c < 96) && !s.dma.asked.contains c then 2 else 1

/-! ### Training and retrain (R451, R455 to R457) -/

/-- A cause of LMC noted: its quiet time starts. (DEDUCED: notes/assumptions/69) -/
def State.lmcCause (s : State) (cause ch addr : Nat) : State :=
  let s1 := s.raiseErr blkLMC cause ch addr
  { s1 with lmc := { s1.lmc with quietSince := some s1.now } }

/-- LMC_MAC_FAILURE (R455, R358, R223): a line failed its MAC or its link ECC; again tells whether it passes when it is read again after a retrain. -/
def execLmcMacFailure (w : LineOwner) (ch addr : Nat) (again : Bool) (s0 : State) : Out := s0.clocked fun s =>
  if again ∨ s.getF .LMC_STATUS_STATE 0 ≠ 1 then .next s else
  let s1 := (s.count .LMC_MAC_FAIL_COUNT_COUNT 0 1).lmcCause 1 ch addr
  match w with
  | .dma c =>
    if ((s1.headDesc c).elim false Desc.local') then .next (s1.setDchan c { s1.dchan c with fin := some (3, 0), outside := false }) else .next s1
  | .other q i =>
    match s1.job? q i with
    | none => .next s1
    | some j => if j.running then .next ((s1.countFault 11 1).engineFault j 11 1 none) else .next s1
  | .park q i =>
    match s1.job? q i with
    | none => .next s1
    | some j => if j.stage = .parked then .next (s1.abortJob j 6) else .next s1
  | .key k recordOk =>
    let x := s1.key k
    if !x.used then .next s1 else
    let holders := s1.jobs.filter fun j => j.live && j.keys.contains k && !j.computed
    if decide (x.cls = .ephemeral) then
      .next (if s1.kv.hot.contains k then s1.setKey k { x with localRec := false }
        else holders.foldl (fun t j => t.failJob j stEngineFault 0x6001) (s1.removeKey k))
    else if recordOk then .next s1
    else .next (holders.foldl (fun t j => t.failJob j stEngineFault 0x6002) ((s1.setKey k { x with unusable := true }).raiseErr blkKV 1 0 k))

/-- Descriptors whose local-memory access is in flight: those at the head of their channel that have begun. -/
def State.inFlight (s : State) : List (Nat × Desc) :=
  (List.range 128).filterMap fun c => match s.headDesc c with
    | some d => if d.local' && decide (0 < d.bytes) && (s.dchan c).fin.isNone then some (c, d) else none
    | none => none

/-- LMC_RETRAIN (R456, R457, R223): cause 0 is a link-ECC error, 2 drift; jobs are those whose engines have an access in flight. Nothing happens while
LIMIT stands. (DEDUCED: notes/assumptions/69) -/
def execLmcRetrain (cause ch addr : Nat) (jobs : List (Nat × Nat)) (s0 : State) : Out := s0.clocked fun s =>
  if s.getF .LMC_STATUS_STATE 0 ≠ 1 ∨ bit (s.getF .BLK_ERR_STATUS_CAUSE blkLMC) 3 ∨ (cause ≠ 0 ∧ cause ≠ 2) then .next s else
  let s1 := s.lmcCause cause ch addr
  let fl := s1.inFlight
  let s2 := fl.foldl (fun (t : State) e => (t.setDchan e.1 { t.dchan e.1 with fin := some (6, 0) })) s1
  let s3 := jobs.foldl (fun (t : State) p => match t.job? p.1 p.2 with
    | some j => if j.running && !j.computed && !(fl.any fun e => e.2.job == some p) then t.resetJob j 6 else t
    | none => t) s2
  .next (s3.setF .LMC_STATUS_STATE 0 2)

/-- LMC_RETRAIN_COMPLETE (R456, R457, R517): accesses resume; the recovery is counted and recorded, or LIMIT is latched and the link runs at 3,200 MT/s. (DEDUCED: notes/assumptions/69) -/
def execLmcRetrainComplete (s0 : State) : Out := s0.clocked fun s =>
  if s.getF .LMC_STATUS_STATE 0 ≠ 2 then .next s else
  let s1 := s.setF .LMC_STATUS_STATE 0 1
  if s.recoveryLimited blkLMC then .next ((s1.setF .LMC_STATUS_RATE 0 3200).lmcCause 3 0 0)
  else
    let held := s1.getF .BLK_ERR_STATUS_CAUSE blkLMC
    .next (((s1.setF .LMC_STATUS_RATE 0 8533).recovered blkLMC).setF .BLK_ERR_STATUS_CAUSE blkLMC held)

/-- LMC_QUIET_TIME_EXPIRY (R456, R457): LMC_ERR_STATUS clears, LIMIT apart. (DEDUCED: notes/assumptions/69) -/
def execLmcQuietTimeExpiry (s0 : State) : Out := s0.clocked fun s =>
  if s.lmc.quietSince = none ∨ s.getF .LMC_STATUS_STATE 0 ≠ 1 then .next s else
  let v := s.getF .BLK_ERR_STATUS_CAUSE blkLMC
  .next (({ s with lmc := { s.lmc with quietSince := none } } : State).setF .BLK_ERR_STATUS_CAUSE blkLMC (if bit v 3 then 8 else 0))

/-- LMC_TRAINING_COMPLETE (R440, R451, R452, R456): both channels hold gib GiB in all and match, or training fails. K_LM is drawn. (DEDUCED: notes/assumptions/69) -/
def execLmcTrainingComplete (gib : Nat) (ranks2 matched : Bool) (s0 : State) : Out := s0.clocked fun s =>
  if s.getF .LMC_STATUS_STATE 0 ≠ 0 then .next s else
  if !matched ∨ (gib ≠ 8 ∧ gib ≠ 16) then
    .next (((s.setF .LMC_STATUS_STATE 0 3).raiseErr blkLMC 4 0 0).bootFailed 6)
  else
    let (k, s1) := s.draw 32
    let s2 : State := { s1 with lmc := { key := k } }
    .next (((((s2.setF .LMC_STATUS_STATE 0 1).setF .LMC_STATUS_RATE 0 8533).setF .LMC_CONFIG_GIB 0 gib).setFlag .LMC_CONFIG_RANKS2 0 ranks2))

end Sys2Proof.Machine
end

