-- ==== Sys2Proof/Machine/MarRows.lean ====
section
/-! DEFINITION. The operations of the Marionette units, one row each (R272 to R280, R268): a core executes a bundle of one move into the
unit's trigger, and the operation runs to its end. c is the core, src the socket that supplies the trigger value, field the rest of the
operation field (MODE, GRP, XF, and MSEL where the unit has it). -/
namespace Sys2Proof.Machine

open Sys2Proof

/-- A bundle of one move, always taken (R261, R262). (DEDUCED: notes/assumptions/61) -/
def oneMove (dst src op : Nat) : Nat :=
  dst % 256 * 2 ^ 23 + src % 256 * 2 ^ 15 + op % 2 ^ 15 + 0x7FFFFFFF * (2 ^ 31 + 2 ^ 62 + 2 ^ 93)

/-- The bundle of one move on the kernel that a core runs, and everything that it started, to its end; a cycle of its wait where it needs masks of a
generator without output, or a session whose call has not ended (R232, R246). (DEDUCED: notes/assumptions/61) -/
def State.unitRow (s : State) (c dst src op : Nat) : State :=
  if s.stopped then s else
  match s.runningQuarter c with
  | none => s
  | some n =>
    match s.quarterJob c n with
    | none => s
    | some j =>
      match s.runKernel j with
      | none => s
      | some k =>
        let r := (s.core c).run
        let b := oneMove dst src op
        if r.ended.isSome ∨ (s.core c).halt.isSome ∨ r.sync then s
        else if s.genStalled c && decide (r.pc < k.codeLen) && (readsMask b || dst % 256 == tMSK) then s.waitCycle c n j k true false
        else if decide (r.pc < k.codeLen) && s.hashWaits c n b then s.waitCycle c n j k false true
        else s.runBundle c n j k fun e => (e.bundle b).settle

/-- A unit with a FUNC of 5 bits. -/
def opWith (func field : Nat) : Nat := func * 1024 + field % 1024

/-- A unit with an operation of 3 bits and MSEL. -/
def opWith3 (func field : Nat) : Nat := func * 4096 + field % 4096

/-- ALU_ADD (R272): ALU scalar add. -/
def execAluAdd (c u src field : Nat) (s : State) : Out := .next (s.unitRow c (if u = 0 then tALU0 else tALU1) src (opWith 0 field))

/-- ALU_SUB (R272): ALU subtract, T − A. -/
def execAluSub (c u src field : Nat) (s : State) : Out := .next (s.unitRow c (if u = 0 then tALU0 else tALU1) src (opWith 1 field))

/-- ALU_AND (R272): ALU bitwise AND. -/
def execAluAnd (c u src field : Nat) (s : State) : Out := .next (s.unitRow c (if u = 0 then tALU0 else tALU1) src (opWith 2 field))

/-- ALU_OR (R272): ALU bitwise OR. -/
def execAluOr (c u src field : Nat) (s : State) : Out := .next (s.unitRow c (if u = 0 then tALU0 else tALU1) src (opWith 3 field))

/-- ALU_XOR (R272): ALU bitwise XOR. -/
def execAluXor (c u src field : Nat) (s : State) : Out := .next (s.unitRow c (if u = 0 then tALU0 else tALU1) src (opWith 4 field))

/-- ALU_ANDN (R272): ALU T AND NOT A. -/
def execAluAndn (c u src field : Nat) (s : State) : Out := .next (s.unitRow c (if u = 0 then tALU0 else tALU1) src (opWith 5 field))

/-- ALU_SHL (R272): ALU shift left. -/
def execAluShl (c u src field : Nat) (s : State) : Out := .next (s.unitRow c (if u = 0 then tALU0 else tALU1) src (opWith 6 field))

/-- ALU_SHR (R272): ALU logical shift right. -/
def execAluShr (c u src field : Nat) (s : State) : Out := .next (s.unitRow c (if u = 0 then tALU0 else tALU1) src (opWith 7 field))

/-- ALU_SAR (R272): ALU arithmetic shift right. -/
def execAluSar (c u src field : Nat) (s : State) : Out := .next (s.unitRow c (if u = 0 then tALU0 else tALU1) src (opWith 8 field))

/-- ALU_MINU (R272): ALU unsigned minimum. -/
def execAluMinu (c u src field : Nat) (s : State) : Out := .next (s.unitRow c (if u = 0 then tALU0 else tALU1) src (opWith 9 field))

/-- ALU_MAXU (R272): ALU unsigned maximum. -/
def execAluMaxu (c u src field : Nat) (s : State) : Out := .next (s.unitRow c (if u = 0 then tALU0 else tALU1) src (opWith 10 field))

/-- ALU_MUL (R272): ALU multiply, low bits. -/
def execAluMul (c u src field : Nat) (s : State) : Out := .next (s.unitRow c (if u = 0 then tALU0 else tALU1) src (opWith 11 field))

/-- ALU_PASS (R272): ALU passes T to R. -/
def execAluPass (c u src field : Nat) (s : State) : Out := .next (s.unitRow c (if u = 0 then tALU0 else tALU1) src (opWith 12 field))

/-- ALU_CMPEQ (R272): ALU compare for equality, writing a predicate. -/
def execAluCmpeq (c u src field : Nat) (s : State) : Out := .next (s.unitRow c (if u = 0 then tALU0 else tALU1) src (opWith 13 field))

/-- ALU_CMPNE (R272): ALU compare for inequality, writing a predicate. -/
def execAluCmpne (c u src field : Nat) (s : State) : Out := .next (s.unitRow c (if u = 0 then tALU0 else tALU1) src (opWith 14 field))

/-- ALU_CMPLTU (R272): ALU unsigned less-than compare. -/
def execAluCmpltu (c u src field : Nat) (s : State) : Out := .next (s.unitRow c (if u = 0 then tALU0 else tALU1) src (opWith 15 field))

/-- ALU_CMPLTS (R272): ALU signed less-than compare. -/
def execAluCmplts (c u src field : Nat) (s : State) : Out := .next (s.unitRow c (if u = 0 then tALU0 else tALU1) src (opWith 16 field))

/-- ALU_CMPLEU (R272): ALU unsigned less-or-equal compare. -/
def execAluCmpleu (c u src field : Nat) (s : State) : Out := .next (s.unitRow c (if u = 0 then tALU0 else tALU1) src (opWith 17 field))

/-- VALU_ADD (R272): VALU per-lane add. -/
def execValuAdd (c u src field : Nat) (s : State) : Out := .next (s.unitRow c (if u = 0 then tVALU0 else tVALU1) src (opWith 0 field))

/-- VALU_SUB (R272): VALU per-lane subtract. -/
def execValuSub (c u src field : Nat) (s : State) : Out := .next (s.unitRow c (if u = 0 then tVALU0 else tVALU1) src (opWith 1 field))

/-- VALU_AND (R272): VALU per-lane AND. -/
def execValuAnd (c u src field : Nat) (s : State) : Out := .next (s.unitRow c (if u = 0 then tVALU0 else tVALU1) src (opWith 2 field))

/-- VALU_OR (R272): VALU per-lane OR. -/
def execValuOr (c u src field : Nat) (s : State) : Out := .next (s.unitRow c (if u = 0 then tVALU0 else tVALU1) src (opWith 3 field))

/-- VALU_XOR (R272): VALU per-lane XOR. -/
def execValuXor (c u src field : Nat) (s : State) : Out := .next (s.unitRow c (if u = 0 then tVALU0 else tVALU1) src (opWith 4 field))

/-- VALU_ANDN (R272): VALU per-lane AND NOT. -/
def execValuAndn (c u src field : Nat) (s : State) : Out := .next (s.unitRow c (if u = 0 then tVALU0 else tVALU1) src (opWith 5 field))

/-- VALU_SHL (R272): VALU per-lane shift left. -/
def execValuShl (c u src field : Nat) (s : State) : Out := .next (s.unitRow c (if u = 0 then tVALU0 else tVALU1) src (opWith 6 field))

/-- VALU_SHR (R272): VALU per-lane logical shift right. -/
def execValuShr (c u src field : Nat) (s : State) : Out := .next (s.unitRow c (if u = 0 then tVALU0 else tVALU1) src (opWith 7 field))

/-- VALU_SAR (R272): VALU per-lane arithmetic shift right. -/
def execValuSar (c u src field : Nat) (s : State) : Out := .next (s.unitRow c (if u = 0 then tVALU0 else tVALU1) src (opWith 8 field))

/-- VALU_MINU (R272): VALU per-lane unsigned minimum. -/
def execValuMinu (c u src field : Nat) (s : State) : Out := .next (s.unitRow c (if u = 0 then tVALU0 else tVALU1) src (opWith 9 field))

/-- VALU_MAXU (R272): VALU per-lane unsigned maximum. -/
def execValuMaxu (c u src field : Nat) (s : State) : Out := .next (s.unitRow c (if u = 0 then tVALU0 else tVALU1) src (opWith 10 field))

/-- VALU_MINS (R272): VALU per-lane signed minimum. -/
def execValuMins (c u src field : Nat) (s : State) : Out := .next (s.unitRow c (if u = 0 then tVALU0 else tVALU1) src (opWith 11 field))

/-- VALU_MAXS (R272): VALU per-lane signed maximum. -/
def execValuMaxs (c u src field : Nat) (s : State) : Out := .next (s.unitRow c (if u = 0 then tVALU0 else tVALU1) src (opWith 12 field))

/-- VALU_CMPEQ (R272): VALU per-lane equality compare, loading the lane mask. -/
def execValuCmpeq (c u src field : Nat) (s : State) : Out := .next (s.unitRow c (if u = 0 then tVALU0 else tVALU1) src (opWith 13 field))

/-- VALU_CMPLTU (R272): VALU per-lane unsigned less-than compare. -/
def execValuCmpltu (c u src field : Nat) (s : State) : Out := .next (s.unitRow c (if u = 0 then tVALU0 else tVALU1) src (opWith 14 field))

/-- VALU_CMPLTS (R272): VALU per-lane signed less-than compare. -/
def execValuCmplts (c u src field : Nat) (s : State) : Out := .next (s.unitRow c (if u = 0 then tVALU0 else tVALU1) src (opWith 15 field))

/-- VALU_BLEND (R272): VALU selects T or A by the lane mask. -/
def execValuBlend (c u src field : Nat) (s : State) : Out := .next (s.unitRow c (if u = 0 then tVALU0 else tVALU1) src (opWith 16 field))

/-- VALU_BCAST (R272): VALU broadcasts lane 0 of T to every lane. -/
def execValuBcast (c u src field : Nat) (s : State) : Out := .next (s.unitRow c (if u = 0 then tVALU0 else tVALU1) src (opWith 17 field))

/-- VALU_MULLO (R272): VALU per-lane multiply, low bits. -/
def execValuMullo (c u src field : Nat) (s : State) : Out := .next (s.unitRow c (if u = 0 then tVALU0 else tVALU1) src (opWith 18 field))

/-- VALU_WIDEN (R272): VALU widens N lanes into D lanes. -/
def execValuWiden (c u src field : Nat) (s : State) : Out := .next (s.unitRow c (if u = 0 then tVALU0 else tVALU1) src (opWith 19 field))

/-- VALU_NARROW (R272): VALU narrows D lanes into N lanes. -/
def execValuNarrow (c u src field : Nat) (s : State) : Out := .next (s.unitRow c (if u = 0 then tVALU0 else tVALU1) src (opWith 20 field))

/-- MMUL_MUL (R272): MMUL modular multiply, T·A mod q. -/
def execMmulMul (c src field : Nat) (s : State) : Out := .next (s.unitRow c tMMUL src (opWith3 0 field))

/-- MMUL_MAC (R273): MMUL Q-mode multiply-accumulate into group DREG. -/
def execMmulMac (c src field : Nat) (s : State) : Out := .next (s.unitRow c tMMUL src (opWith3 1 field))

/-- MMUL_MLD (R234): MMUL loads a modulus register. -/
def execMmulMld (c src field : Nat) (s : State) : Out := .next (s.unitRow c tMMUL src (opWith3 2 field))

/-- MMUL_MACZ (R273): MMUL Q-mode multiply that writes the product into group DREG. -/
def execMmulMacz (c src field : Nat) (s : State) : Out := .next (s.unitRow c tMMUL src (opWith3 3 field))

/-- MADD_ADD (R272): MADD modular add. -/
def execMaddAdd (c src field : Nat) (s : State) : Out := .next (s.unitRow c tMADD src (opWith3 0 field))

/-- MADD_SUB (R272): MADD modular subtract. -/
def execMaddSub (c src field : Nat) (s : State) : Out := .next (s.unitRow c tMADD src (opWith3 1 field))

/-- MADD_RED (R272): MADD reduces lanes mod q. -/
def execMaddRed (c src field : Nat) (s : State) : Out := .next (s.unitRow c tMADD src (opWith3 2 field))

/-- MADD_NEG (R272): MADD modular negation. -/
def execMaddNeg (c src field : Nat) (s : State) : Out := .next (s.unitRow c tMADD src (opWith3 3 field))

/-- MADD_CENT (R272): MADD centred representative. -/
def execMaddCent (c src field : Nat) (s : State) : Out := .next (s.unitRow c tMADD src (opWith3 4 field))

/-- MADD_REDQ (R272): MADD reduces Q accumulators into D lanes. -/
def execMaddRedq (c src field : Nat) (s : State) : Out := .next (s.unitRow c tMADD src (opWith3 5 field))

/-- MADD_MLD (R234): MADD loads a modulus register. -/
def execMaddMld (c src field : Nat) (s : State) : Out := .next (s.unitRow c tMADD src (opWith3 6 field))

/-- BFY_CT (R274): Butterfly unit Cooley–Tukey butterflies between two groups. -/
def execBfyCt (c u src field : Nat) (s : State) : Out := .next (s.unitRow c (if u = 0 then tBFY0 else tBFY1) src (opWith3 0 field))

/-- BFY_GS (R274): Butterfly unit Gentleman–Sande butterflies between two groups. -/
def execBfyGs (c u src field : Nat) (s : State) : Out := .next (s.unitRow c (if u = 0 then tBFY0 else tBFY1) src (opWith3 1 field))

/-- BFY_CTP (R274): Butterfly unit in-group paired Cooley–Tukey butterflies. -/
def execBfyCtp (c u src field : Nat) (s : State) : Out := .next (s.unitRow c (if u = 0 then tBFY0 else tBFY1) src (opWith3 2 field))

/-- BFY_GSP (R274): Butterfly unit in-group paired Gentleman–Sande butterflies. -/
def execBfyGsp (c u src field : Nat) (s : State) : Out := .next (s.unitRow c (if u = 0 then tBFY0 else tBFY1) src (opWith3 3 field))

/-- BFY_MLD (R234): Butterfly unit loads a modulus register. -/
def execBfyMld (c u src field : Nat) (s : State) : Out := .next (s.unitRow c (if u = 0 then tBFY0 else tBFY1) src (opWith3 4 field))

/-- FXP_SADD (R275): FXP saturating signed add. -/
def execFxpSadd (c src field : Nat) (s : State) : Out := .next (s.unitRow c tFXP src (opWith 0 field))

/-- FXP_SSUB (R275): FXP saturating signed subtract. -/
def execFxpSsub (c src field : Nat) (s : State) : Out := .next (s.unitRow c tFXP src (opWith 1 field))

/-- FXP_UADD (R275): FXP saturating unsigned add. -/
def execFxpUadd (c src field : Nat) (s : State) : Out := .next (s.unitRow c tFXP src (opWith 2 field))

/-- FXP_USUB (R275): FXP saturating unsigned subtract. -/
def execFxpUsub (c src field : Nat) (s : State) : Out := .next (s.unitRow c tFXP src (opWith 3 field))

/-- FXP_RSHRU (R275): FXP rounding shift right, ties up. -/
def execFxpRshru (c src field : Nat) (s : State) : Out := .next (s.unitRow c tFXP src (opWith 4 field))

/-- FXP_RSHRE (R275): FXP rounding shift right, ties to even. -/
def execFxpRshre (c src field : Nat) (s : State) : Out := .next (s.unitRow c tFXP src (opWith 5 field))

/-- FXP_SSHL (R275): FXP saturating shift left. -/
def execFxpSshl (c src field : Nat) (s : State) : Out := .next (s.unitRow c tFXP src (opWith 6 field))

/-- FXP_SMULRH (R275): FXP rounded high-half multiply. -/
def execFxpSmulrh (c src field : Nat) (s : State) : Out := .next (s.unitRow c tFXP src (opWith 7 field))

/-- FXP_SABS (R275): FXP saturating absolute value. -/
def execFxpSabs (c src field : Nat) (s : State) : Out := .next (s.unitRow c tFXP src (opWith 8 field))

/-- FXP_CLAMP (R275): FXP clamps T to ±A. -/
def execFxpClamp (c src field : Nat) (s : State) : Out := .next (s.unitRow c tFXP src (opWith 9 field))

/-- FXP_GETSAT (R275): FXP returns and clears the sticky flag. -/
def execFxpGetsat (c src field : Nat) (s : State) : Out := .next (s.unitRow c tFXP src (opWith 10 field))

/-- BITF_EXT (R272): BITF extracts a field. -/
def execBitfExt (c src field : Nat) (s : State) : Out := .next (s.unitRow c tBITF src (opWith 0 field))

/-- BITF_INS (R272): BITF inserts a field. -/
def execBitfIns (c src field : Nat) (s : State) : Out := .next (s.unitRow c tBITF src (opWith 1 field))

/-- BITF_PACK (R272): BITF packs the lanes back to back. -/
def execBitfPack (c src field : Nat) (s : State) : Out := .next (s.unitRow c tBITF src (opWith 2 field))

/-- BITF_UNPACK (R272): BITF unpacks fields into lanes. -/
def execBitfUnpack (c src field : Nat) (s : State) : Out := .next (s.unitRow c tBITF src (opWith 3 field))

/-- BITF_SEXT (R272): BITF sign-extends a field. -/
def execBitfSext (c src field : Nat) (s : State) : Out := .next (s.unitRow c tBITF src (opWith 4 field))

/-- CLZ_CLZ (R272): CLZ counts leading zeros. -/
def execClzClz (c src field : Nat) (s : State) : Out := .next (s.unitRow c tCLZ src (opWith 0 field))

/-- CLZ_CTZ (R272): CLZ counts trailing zeros. -/
def execClzCtz (c src field : Nat) (s : State) : Out := .next (s.unitRow c tCLZ src (opWith 1 field))

/-- CLZ_POPC (R272): CLZ counts set bits. -/
def execClzPopc (c src field : Nat) (s : State) : Out := .next (s.unitRow c tCLZ src (opWith 2 field))

/-- PERM_BPERM (R272): PERM permutes bytes under control vector C. -/
def execPermBperm (c src field : Nat) (s : State) : Out := .next (s.unitRow c tPERM src (opWith 0 field))

/-- PERM_BREV (R272): PERM reverses the bytes in each lane. -/
def execPermBrev (c src field : Nat) (s : State) : Out := .next (s.unitRow c tPERM src (opWith 1 field))

/-- LSU_LD (R272): LSU loads a word. -/
def execLsuLd (c src field : Nat) (s : State) : Out := .next (s.unitRow c tLSU src (opWith 0 field))

/-- LSU_ST (R272): LSU stores a word. -/
def execLsuSt (c src field : Nat) (s : State) : Out := .next (s.unitRow c tLSU src (opWith 1 field))

/-- LSU_LDR (R272): LSU loads a row. -/
def execLsuLdr (c src field : Nat) (s : State) : Out := .next (s.unitRow c tLSU src (opWith 2 field))

/-- LSU_STR (R272): LSU stores a row. -/
def execLsuStr (c src field : Nat) (s : State) : Out := .next (s.unitRow c tLSU src (opWith 3 field))

/-- LSU_LDV (R272): LSU vector load into group DREG. -/
def execLsuLdv (c src field : Nat) (s : State) : Out := .next (s.unitRow c tLSU src (opWith 4 field))

/-- LSU_STV (R272): LSU vector store. -/
def execLsuStv (c src field : Nat) (s : State) : Out := .next (s.unitRow c tLSU src (opWith 5 field))

/-- LSU_STVM (R272): LSU masked vector store. -/
def execLsuStvm (c src field : Nat) (s : State) : Out := .next (s.unitRow c tLSU src (opWith 6 field))

/-- GSU_GATHER (R277): GSU gathers elements by index, in lane order. -/
def execGsuGather (c src field : Nat) (s : State) : Out := .next (s.unitRow c tGSU src (opWith 0 field))

/-- GSU_SCATTER (R277): GSU scatters elements by index, in lane order. -/
def execGsuScatter (c src field : Nat) (s : State) : Out := .next (s.unitRow c tGSU src (opWith 1 field))

/-- XS_LD (R279): XS loads a scratch row. -/
def execXsLd (c src field : Nat) (s : State) : Out := .next (s.unitRow c tXS src (opWith 0 field))

/-- XS_ST (R279): XS stores the selected bytes of a scratch row. -/
def execXsSt (c src field : Nat) (s : State) : Out := .next (s.unitRow c tXS src (opWith 1 field))

/-- XS_LDV (R272): XS loads 7 scratch rows. -/
def execXsLdv (c src field : Nat) (s : State) : Out := .next (s.unitRow c tXS src (opWith 2 field))

/-- XS_STV (R272): XS stores 7 scratch rows. -/
def execXsStv (c src field : Nat) (s : State) : Out := .next (s.unitRow c tXS src (opWith 3 field))

/-- XS_LR (R279): XS load-reserved, which takes a reservation. -/
def execXsLr (c src field : Nat) (s : State) : Out := .next (s.unitRow c tXS src (opWith 4 field))

/-- XS_SC (R279): XS store-conditional, which succeeds only while the reservation holds. -/
def execXsSc (c src field : Nat) (s : State) : Out := .next (s.unitRow c tXS src (opWith 5 field))

/-- HP_OPEN (R280): HP opens a hash session. -/
def execHpOpen (c src field : Nat) (s : State) : Out := .next (s.unitRow c tHP src (opWith 0 field))

/-- HP_ABSORB (R280): HP absorbs bytes into a session. -/
def execHpAbsorb (c src field : Nat) (s : State) : Out := .next (s.unitRow c tHP src (opWith 1 field))

/-- HP_FINAL (R280): HP pads the input and starts squeezing. -/
def execHpFinal (c src field : Nat) (s : State) : Out := .next (s.unitRow c tHP src (opWith 2 field))

/-- HP_SQUEEZE (R280): HP squeezes the next bytes. -/
def execHpSqueeze (c src field : Nat) (s : State) : Out := .next (s.unitRow c tHP src (opWith 3 field))

/-- HP_SQUEEZE1 (R280): HP returns share 1 of the last squeezed block. -/
def execHpSqueeze1 (c src field : Nat) (s : State) : Out := .next (s.unitRow c tHP src (opWith 4 field))

/-- HP_CLOSE (R280): HP closes a session. -/
def execHpClose (c src field : Nat) (s : State) : Out := .next (s.unitRow c tHP src (opWith 5 field))

/-- SMP_UNIF12 (R245): SMP samples 12-bit uniform coefficients. -/
def execSmpUnif12 (c src field : Nat) (s : State) : Out := .next (s.unitRow c tSMP src (opWith3 0 field))

/-- SMP_UNIF23 (R245): SMP samples 23-bit uniform coefficients. -/
def execSmpUnif23 (c src field : Nat) (s : State) : Out := .next (s.unitRow c tSMP src (opWith3 1 field))

/-- SMP_UNIF16 (R245): SMP samples FN-DSA hash-to-point coefficients. -/
def execSmpUnif16 (c src field : Nat) (s : State) : Out := .next (s.unitRow c tSMP src (opWith3 2 field))

/-- SMP_CBD2 (R245): SMP samples centred binomial coefficients with eta 2. -/
def execSmpCbd2 (c src field : Nat) (s : State) : Out := .next (s.unitRow c tSMP src (opWith3 3 field))

/-- SMP_CBD3 (R245): SMP samples centred binomial coefficients with eta 3. -/
def execSmpCbd3 (c src field : Nat) (s : State) : Out := .next (s.unitRow c tSMP src (opWith3 4 field))

/-- SMP_BOUND2 (R245): SMP bounded rejection sampling with eta 2. -/
def execSmpBound2 (c src field : Nat) (s : State) : Out := .next (s.unitRow c tSMP src (opWith3 5 field))

/-- SMP_BOUND4 (R245): SMP bounded rejection sampling with eta 4. -/
def execSmpBound4 (c src field : Nat) (s : State) : Out := .next (s.unitRow c tSMP src (opWith3 6 field))

/-- SMP_RAW (R245): SMP returns raw stream bytes. -/
def execSmpRaw (c src field : Nat) (s : State) : Out := .next (s.unitRow c tSMP src (opWith3 7 field))

/-- MSK_RAND (R246): MSK returns a uniform random vector. -/
def execMskRand (c src field : Nat) (s : State) : Out := .next (s.unitRow c tMSK src (opWith3 0 field))

/-- MSK_RANDQ (R246): MSK returns uniform lanes mod q. -/
def execMskRandq (c src field : Nat) (s : State) : Out := .next (s.unitRow c tMSK src (opWith3 1 field))

/-- MSK_SHARE2 (R246): MSK splits a value into two shares. -/
def execMskShare2 (c src field : Nat) (s : State) : Out := .next (s.unitRow c tMSK src (opWith3 2 field))

/-- MSK_SHARE3 (R246): MSK splits a value into three shares. -/
def execMskShare3 (c src field : Nat) (s : State) : Out := .next (s.unitRow c tMSK src (opWith3 3 field))

/-- MSK_REFRESH2 (R246): MSK re-randomises two shares. -/
def execMskRefresh2 (c src field : Nat) (s : State) : Out := .next (s.unitRow c tMSK src (opWith3 4 field))

/-- MSK_REFRESH3 (R246): MSK re-randomises three shares. -/
def execMskRefresh3 (c src field : Nat) (s : State) : Out := .next (s.unitRow c tMSK src (opWith3 5 field))

/-- MSK_RELEASE2 (R246): MSK recombines two shares and clears the tag. -/
def execMskRelease2 (c src field : Nat) (s : State) : Out := .next (s.unitRow c tMSK src (opWith3 6 field))

/-- MSK_RELEASE3 (R246): MSK recombines three shares and clears the tag. -/
def execMskRelease3 (c src field : Nat) (s : State) : Out := .next (s.unitRow c tMSK src (opWith3 7 field))

/-- TWR_WRITE (R272): TWR writes a twiddle-RAM entry. -/
def execTwrWrite (c src field : Nat) (s : State) : Out := .next (s.unitRow c tTWR src (opWith 0 field))

/-- CTL_JUMP (R268): CTL jumps to a bundle address. -/
def execCtlJump (c src field : Nat) (s : State) : Out := .next (s.unitRow c tCTL src (opWith 0 field))

/-- CTL_CALL (R268): CTL jumps and saves the return address in S31. -/
def execCtlCall (c src field : Nat) (s : State) : Out := .next (s.unitRow c tCTL src (opWith 1 field))

/-- CTL_BREAK (R268): CTL disarms a loop level. -/
def execCtlBreak (c src field : Nat) (s : State) : Out := .next (s.unitRow c tCTL src (opWith 2 field))

/-- CTL_END (R271): CTL ends the job with an output length once every operation in flight is done. -/
def execCtlEnd (c src field : Nat) (s : State) : Out := .next (s.unitRow c tCTL src (opWith 3 field))

/-- CTL_SYNC (R268): CTL waits until every team member reaches a SYNC. -/
def execCtlSync (c src field : Nat) (s : State) : Out := .next (s.unitRow c tCTL src (opWith 4 field))

end Sys2Proof.Machine
end

