-- ==== Sys2Proof/Machine/Power.lean ====
section
/-! DEFINITION. Power states, the always-on domain, the clock rate, the supply monitor, THERMTRIP# (R32, R493 to R508). -/
namespace Sys2Proof.Machine

open Sys2Proof

/-! ### IDLE, DOZE, wake (R493 to R497) -/

/-- An entry is work (R494): fetched or accepted and not parked. An entry that came with OWN = 0 and waits for a doorbell is not. -/
def State.entryWorks (s : State) (j : Job) : Bool :=
  j.stage != .done && j.stage != .parked && !(j.stage == .ownWait && (s.queue j.q).missHeld)

/-- The device has no work (R494). (DEDUCED: notes/assumptions/73) -/
def State.workless (s : State) : Bool :=
  !(s.jobs.any s.entryWorks) && !(s.dma.desc.any fun e => e.2.own) && s.store.scQ.isEmpty && s.pci.doeIn.isNone &&
    s.getF .ENT_STATUS_STATE 0 != entStartup && s.getF .ENT_STATUS_STATE 0 != entRestart && s.getF .GLB_STATUS_BOOT_STATE 0 != 3

/-- A write of OTP, of the anchor register or of custody waits (R496). (DEDUCED: notes/assumptions/74) -/
def State.writesWait (s : State) : Bool :=
  !s.lco.ops.isEmpty || s.store.persG.elim false (fun g => g.rootDone) || s.store.coldStep != 0 || s.store.fmt != 0 ||
    s.kv.custody.any fun e => e.2.raising.isSome || e.2.raiseAsked

/-- IDLE_ENTRY (R493, R494): PWR_IDLE_DELAY has passed without work. (DEDUCED: notes/assumptions/73) -/
def execIdleEntry (s0 : State) : Out := s0.clocked fun s =>
  if s.pwr.mode = .active ∧ s.flag .PWR_CTRL_IDLE_EN 0 ∧ s.workless then
    .next { s with pwr := { s.pwr with mode := .idle, since := s.now } }
  else .next s

/-- DOZE_ENTRY (R417, R493, R496, R47): IDLE has lasted PWR_DOZE_DELAY; the link is in L1.2 and nothing holds the entry. Time goes to the keeper. -/
def execDozeEntry (s0 : State) : Out := s0.clocked fun s =>
  if s.pwr.mode = .idle ∧ s.flag .PWR_CTRL_DOZE_EN 0 ∧ s.getF .PCI_LINK_STATUS_PM_STATE 0 = 3 ∧ !s.flag .PWR_STATUS_BRACE 0 ∧ !s.writesWait ∧ s.workless then
    .next ((({ s with pwr := { s.pwr with mode := .doze, since := s.now } } : State).count .PWR_DOZE_COUNT_COUNT 0 1).toKeeper)
  else .next s

/-- WAKE (R417, R495, R497): a TLP or link exit, a tamper event, a supply warning or a device timer. (DEDUCED: notes/assumptions/77) -/
def execWake (s : State) : Out := .next s.awake

/-! ### DEEP, BACKUP, the always-on domain (R493, R498 to R501) -/

/-- The main logic loses its state: jobs are lost, the time goes to the keeper, PME_En stays in the always-on domain, the always-on state is m. -/
def State.mainOff (s : State) (m : PwrMode) : State :=
  let pme := s.pci.pmeEn
  let s1 := s.cutBurn.dropMain
  { s1 with pwr := { s1.pwr with mode := m, pmeKept := pme, onVbat := s.pwr.onVbat }, pci := { s1.pci with training := none } }

/-- MAIN_RAILS_OFF (R32, R223, R493, R500): the main rails fall with VAUX in range; VDD_CORE below its reset level clears the THERMTRIP# latch. -/
def execMainRailsOff (s : State) : Out :=
  if !s.powered then .next { s with pwr := { s.pwr with tripLatch := false, tripPin := false } } else
  let s1 := s.mainOff .deep
  .next { s1 with pwr := { s1.pwr with tripLatch := false, tripPin := false } }

/-- VAUX_LOSS (R24, R29, R498): VAUX falls below 2.90 V; with the main rails on, the main logic is held in power-on reset; WAKE# is released. (DEDUCED: notes/assumptions/73) -/
def execVauxLoss (s : State) : Out :=
  if s.pwr.onVbat then .next s else
  let s1 := if s.powered then s.mainOff .backup else { s with pwr := { s.pwr with mode := .backup } }
  .next ((({ s1 with pwr := { s1.pwr with onVbat := true, wakePin := false, since := s.now } } : State)).count .PWR_SWITCH_COUNT_COUNT 0 1)

/-- VAUX_RETURN (R498, R501): VAUX has been in range for 1 ms; a wake latched in BACKUP asserts WAKE#. -/
def execVauxReturn (s : State) : Out :=
  if !s.pwr.onVbat then .next s else
  .next { s with pwr := { s.pwr with
    mode := .deep, onVbat := false, since := s.now, wakePin := s.pwr.wakePin || (s.pwr.pmeKept && s.getF .PWR_WAKE_CAUSE_CAUSE 0 != 0) } }

/-- AO_POWER_ON_RESET (R27, R30, R32, R355, R418, R471, R499): VAUX or VBAT rises after both were lost; vaux tells which. The always-on pins are released
for 2 ms; the THERMTRIP# latch is VDD_CORE's alone. -/
def execAoPowerOnReset (vaux : Bool) (s : State) : Out :=
  let s1 := (s.mainOff .deep).dropClasses [.A]
  .next { s1 with
    kv := { s1.kv with bbk := none, bbkLost := true }, store := { s1.store with anchor := {} }, tmp := {}, tim := {}
    lco := { s1.lco with diagNext := false }
    pci := { s1.pci with pmeEn := false }
    pwr := { mode := if vaux then .deep else .backup, since := s.now, onVbat := !vaux, aoUntil := s.now + 2000000, strap := s.pwr.strap,
             tripLatch := s.pwr.tripLatch, tripPin := s.pwr.tripPin } }

/-- A wake source occurs: 0 an event in the always-on buffer, 1 the keeper's time, 2 VBAT_LOW (R501). -/
def State.wakeSource (s : State) (n : Nat) : Bool :=
  match n with
  | 0 => !s.tmp.buf.isEmpty
  | 1 => decide (s.getF .PWR_WAKE_TIME_SECONDS 0 ≤ s.tim.keeperSec)
  | 2 => s.flag .PWR_STATUS_VBAT_LOW 0
  | _ => false

/-- DEEP_WAKE_SOURCE (R47, R501): an enabled source is latched; if PME_En was 1 at entry, PME_Status sets and WAKE# asserts in DEEP, in BACKUP when VAUX
returns. -/
def execDeepWakeSource (n : Nat) (s : State) : Out :=
  if s.powered ∨ !s.wakeSource n ∨ !bit (s.getF .PWR_WAKE_EN_EN 0) n then .next s else
  let s1 := s.setF .PWR_WAKE_CAUSE_CAUSE 0 (setBits (s.getF .PWR_WAKE_CAUSE_CAUSE 0) n n 1)
  .next { s1 with pwr := { s1.pwr with wakePin := s.pwr.wakePin || (decide (s.pwr.mode = .deep) && s.pwr.pmeKept), pmeStatus := s.pwr.pmeStatus || s.pwr.pmeKept } }

/-- VBAT_MEASURE (R499): once per second while VAUX is present. -/
def execVbatMeasure (mv : Nat) (s : State) : Out :=
  if s.pwr.onVbat then .next s else .next ((s.setF .PWR_VBAT_MV_MV 0 mv).setFlag .PWR_STATUS_VBAT_LOW 0 (decide (mv < 2400)))

/-- PME_TURN_OFF (R500): PME_TO_Ack, then L2/L3 Ready. (DEDUCED: notes/assumptions/75) -/
def execPmeTurnOff (s0 : State) : Out := s0.clocked fun s =>
  let s1 := s.awake
  .next (({ s1 with pwr := { s1.pwr with l2Ready := true } } : State).say .pmeToAck |>.setF .PCI_LINK_STATUS_PM_STATE 0 4)

/-! ### The clock rate (R502 to R504) -/

/-- K and DISPATCH_HELD from the governor, the thermal loop and the brace (R502). (DEDUCED: notes/assumptions/73) -/
def State.rate (s : State) : State :=
  let k := min (min s.pwr.gov s.pwr.therm) (if s.flag .PWR_STATUS_BRACE 0 then 8 else 16)
  (s.setF .PWR_STATUS_K 0 k).setFlag .PWR_STATUS_DISPATCH_HELD 0 (s.pwr.govHeld || s.pwr.thermHeld)

/-- PWR_POWER_LIMIT as it acts, in units of 10 mW (R512). -/
def State.powerLimit (s : State) : Nat := 100 * max 10 (min 40 (s.getF .PWR_POWER_LIMIT_W 0))

/-- GOVERNOR_WINDOW (R16, R503): avg is the last window's average and cur what the current window's would be, in units of 10 mW. (DEDUCED: notes/assumptions/73) -/
def execGovernorWindow (avg cur : Nat) (s0 : State) : Out := s0.clocked fun s =>
  let s1 := s.setF .PWR_POWER_NOW_CW 0 (min avg 65535)
  if s.powerLimit < cur then
    let p := if 4 < s.pwr.gov then { s.pwr with gov := s.pwr.gov - 1, govHeld := false } else { s.pwr with govHeld := true }
    .next (((({ s1 with pwr := p } : State).setFlag .PWR_STATUS_POLICY_LIMITED 0 true).count .PWR_POLICY_LIMIT_COUNT_COUNT 0 1).rate)
  else
    let p := { s.pwr with govHeld := false, gov := if avg * 100 < 95 * s.powerLimit then min 16 (s.pwr.gov + 1) else s.pwr.gov }
    .next ((({ s1 with pwr := p } : State).setFlag .PWR_STATUS_POLICY_LIMITED 0 false).rate)

/-- The variant maximum in 1/16 °C (R2, R504). -/
def thermalMax : Int := if Config.variantC then 95 * 16 else 105 * 16

/-- THERMAL_READING (R504): the hottest of the 16 sensors, in 1/16 °C, two's complement, and which one it is. (DEDUCED: notes/assumptions/73) -/
def execThermalReading (sensor : Nat) (t : BitVec 16) (s : State) : Out :=
  let s0 := s.setF .PWR_TEMP_T 0 t.toNat
  let s1 := if toSigned 16 (s.getF .SMB_TEMP_HIGH_T 0) ≤ t.toInt then s0.alert 0 else s0
  if thermalMax ≤ t.toInt then
    let th := max 4 (s.pwr.therm - 1)
    let s2 : State := { s1 with pwr := { s1.pwr with therm := th, thermHeld := th == 4 } }
    let s3 := if s.pwr.therm = 16 then (s2.count .PWR_THERMAL_COUNT_COUNT 0 1).raiseErr blkPWR 1 sensor t.toNat |>.alert 1 else s2
    .next ((s3.setFlag .PWR_STATUS_THERMAL_LIMITED 0 true).rate)
  else if t.toInt ≤ thermalMax - 32 ∧ s.pwr.therm < 16 ∧ s.pwr.raisedAt + 100000 ≤ s.now then
    let s2 : State := { s1 with pwr := { s1.pwr with therm := s.pwr.therm + 1, thermHeld := false, raisedAt := s.now } }
    .next ((s2.setFlag .PWR_STATUS_THERMAL_LIMITED 0 (s.pwr.therm + 1 != 16)).rate)
  else .next s1

/-- THERMTRIP (R3, R32, R326): the junction reaches 125 °C; the fast clocks stop, the latch is set, the pin asserts unless PERST# is low or the device is in
END_OF_LIFE (R29), the erase line asserts. (DEDUCED: notes/assumptions/91) -/
def execThermtrip (s : State) : Out :=
  if !s.powered ∨ s.pwr.tripLatch then .next s else
  let s1 := s.eraseLine []
  .next { s1 with pwr := { s1.pwr with tripLatch := true, tripPin := !s.pci.perstLow && s.getF .LCO_STATE_STATE 0 != 0xF } }

/-! ### The brace (R505 to R507) -/

/-- The rails of a brace as SUPPLY byte 0 shows them. -/
def State.braceRails (s : State) : Nat := s.pwr.rails.foldl (fun m r => m ||| 2 ^ r.1) 0

/-- BRACE_ENTER (R495, R505, R506, R519): a rail (0 VDD_CORE, 1 VDD_IO, 2 VAUX) has been below its warning level for 0.5 µs, at mv. (DEDUCED: notes/assumptions/74) -/
def execBraceEnter (rail mv : Nat) (s0 : State) : Out :=
  if 3 ≤ rail ∨ !s0.powered then .next s0 else
  let s := s0.awake
  if s.pwr.rails.any fun r => r.1 == rail then
    .next { s with pwr := { s.pwr with rails := s.pwr.rails.map fun r => if r.1 = rail then (rail, min mv r.2.1, none) else r } }
  else
    let first := !s.flag .PWR_STATUS_BRACE 0
    let s1 : State := { s with pwr := { s.pwr with rails := s.pwr.rails ++ [(rail, mv, none)], braceAt := if first then s.now else s.pwr.braceAt } }
    let s2 := (((s1.setFlag .PWR_STATUS_BRACE 0 true).setF .PWR_STATUS_BRACE_RAILS 0 s1.braceRails).setFlag .SEAL_STATUS_BRACED 0 true).raiseErr blkPWR 0 rail mv |>.alert 2
    .next (s2.otpShow.rate)

/-- BRACE_RAIL_RECOVERY (R506): a warned rail rises above its warning level plus 10 mV, or falls below that again; mv is the lowest value in between. (DEDUCED: notes/assumptions/74) -/
def execBraceRailRecovery (rail mv : Nat) (above : Bool) (s : State) : Out :=
  .next { s with pwr := { s.pwr with rails := s.pwr.rails.map fun r =>
    if r.1 = rail then (rail, min mv r.2.1, if above then some s.now else none) else r } }

/-- The 12 bytes of a SUPPLY record (R507). -/
def State.supplyData (s : State) : List Byte :=
  let low := fun n => ((s.pwr.rails.find? fun r => r.1 == n).map fun r => r.2.1).getD 0
  leBytes 1 s.braceRails ++ zeros 1 ++ leBytes 2 (low 0) ++ leBytes 2 (low 1) ++ leBytes 2 (low 2) ++ leBytes 4 ((s.now - s.pwr.braceAt) / 1000)

/-- BRACE_LIFT (R161, R361, R381, R472, R488, R506, R507): every warned rail has been above its level plus 10 mV for 200 µs; the held writes go on. v is the
vault area that the host presents where an open had waited. (DEDUCED: notes/assumptions/74) -/
def execBraceLift (v : VaultImage) (s : State) : Out :=
  if !s.flag .PWR_STATUS_BRACE 0 ∨ (s.pwr.rails.any fun r => r.2.2.isNone) then .next s else
  let d := s.supplyData
  let s1 : State := { s with pwr := { s.pwr with rails := [] } }
  let s2 := ((s1.setFlag .PWR_STATUS_BRACE 0 false).setF .PWR_STATUS_BRACE_RAILS 0 0).setFlag .SEAL_STATUS_BRACED 0 false
  let s3 := ((s2.rate.otpShow).storeSettle v).count .PWR_SUPPLY_EVENT_COUNT_COUNT 0 1
  .next (s3.journal 0x0007 d)

end Sys2Proof.Machine
end

