-- ==== Sys2Proof/Machine/Pcie.lean ====
section
/-! DEFINITION. The PCI Express function: link, requests, interrupts, LTR, configuration space, DOE and SPDM (chapter 03). -/
namespace Sys2Proof.Machine

open Sys2Proof

/-! ### MMIO (R40) -/

/-- A 4-byte piece of BAR0 that a register or the manager's mailbox view backs (R513, R521, R525). The recovery registers exist in four blocks. -/
def backed0 (a : Nat) : Bool :=
  (decide (0x00800000 ≤ a) && decide (a < 0x00A00000)) ||
    regTable.any fun r =>
      let d := r.2.1
      d.bar == 0 &&
        (List.range (if d.wide then 2 else 1)).any fun h =>
          decide (d.base + 4 * h ≤ a) && (if d.stride = 0 then a == d.base + 4 * h
            else (a - d.base - 4 * h) % d.stride == 0 && decide ((a - d.base - 4 * h) / d.stride < d.count)) &&
          !((decide (r.1 = .BLK_RECOVERY_COUNT) || decide (r.1 = .BLK_RECOVERY_LIMIT) || decide (r.1 = .BLK_QUIET_TIME)) &&
            !([1, 11, 15, 17].contains ((a - d.base) / d.stride)))

/-- A 16- to 64-byte write within one mailbox window of BAR2. -/
def wideMailbox (a size : Nat) (write : Bool) : Bool :=
  write && [16, 32, 64].contains size && a % size == 0 &&
    decide (0x2000 ≤ a % 0x4000) && decide (a % 0x4000 + size ≤ 0x2200) && (a % 0x4000 - 0x2000) / 256 == (a % 0x4000 + size - 1 - 0x2000) / 256

/-- A 4-byte piece of a slice window that a doorbell, a mailbox or a register backs (R74, R77, R91, R116, R525): not the word behind a doorbell. -/
def backed2 (a : Nat) : Bool :=
  let o := a % 0x4000
  (decide (o < 0x2000) && o % 8 == 0) || (decide (0x2000 ≤ o) && decide (o ≤ 0x2200)) || [0x3000, 0x3004, 0x3008].contains o ||
    (decide (0x3100 ≤ o) && decide (o < 0x3900))

/-- A register, a doorbell or a mailbox backs the 4 bytes at an address of a BAR. -/
def backed (bar a : Nat) : Bool := if bar = 0 then backed0 a else backed2 a

/-- A request that R40's last two rows cover. -/
def badRequest (bar a size : Nat) (write : Bool) : Bool :=
  if (size = 4 ∨ size = 8) ∧ a % size = 0 then
    !(backed bar a || (size == 8 && backed bar (a + 4)))
  else !(bar == 2 && wideMailbox a size write)

/-- MMIO_BAD_REQUEST (R40): reads zero or is ignored, and is counted. -/
def execMmioBadRequest (bar a size : Nat) (write : Bool) (s0 : State) : Out := s0.mmio fun s =>
  if !badRequest bar a size write then .next s else
  let s1 := s.count .PCI_MMIO_BAD_COUNT_COUNT 0 1
  .next (if write then s1 else s1.say (.completion (zeros size)))

/-- MMIO_MEMORY_SPACE_DISABLED (R40). (DEDUCED: notes/assumptions/75) -/
def execMmioMemorySpaceDisabled (s0 : State) : Out := s0.clocked fun s => .next (if s.pci.memSpace then s else s.awake.say .unsupported)

/-! ### The link (R34, R35, R47, R53 to R59) -/

/-- The link in L0 at a rate and width. (DEDUCED: notes/assumptions/75) -/
def State.linkAt (s : State) (speed width : Nat) : State :=
  (((s.setF .PCI_LINK_STATUS_SPEED 0 speed).setF .PCI_LINK_STATUS_WIDTH 0 width).setFlag .PCI_LINK_STATUS_DEGRADED 0
    (decide (speed < 5) || decide (width < 8))).setF .PCI_LINK_STATUS_PM_STATE 0 0

/-- LINK_DOWNSPEED (R35): the link, up or training, takes the next lower rate. -/
def execLinkDownspeed (s0 : State) : Out := s0.clocked fun s =>
  if !s.flag .PCI_LINK_CTRL_AUTO_DOWNSPEED 0 then .next s else
  match s.pci.training with
  | some r =>
    if r ≤ 1 then .next s
    else .next (({ s with pci := { s.pci with training := some (r - 1) } } : State).count .PCI_DOWNSPEED_COUNT_COUNT 0 1)
  | none =>
    let r := s.getF .PCI_LINK_STATUS_SPEED 0
    if r ≤ 1 then .next s
    else .next (((s.setF .PCI_LINK_STATUS_SPEED 0 (r - 1)).setFlag .PCI_LINK_STATUS_DEGRADED 0 true).count .PCI_DOWNSPEED_COUNT_COUNT 0 1)

/-- RETRAIN (R35, R54, R57): PCI_LINK_CTRL written; with RETRAIN 1 the link trains at MAX_SPEED, and not as a recovery. -/
def execRetrain (v : W32) (s0 : State) : Out := s0.mmio fun s =>
  let s1 := (s.setF .PCI_LINK_CTRL_MAX_SPEED 0 (bits v.toNat 3 0)).setF .PCI_LINK_CTRL_AUTO_DOWNSPEED 0 (bits v.toNat 4 4)
  if !bit v.toNat 5 then .next s1
  else .next { s1 with pci := { s1.pci with training := if s1.pci.perstLow then none else s1.trainTo, recovering := false } }

/-- LINK_DOWN (R53, R55, R223, R509): a link-down that PERST# did not cause. The syndrome, the LTSSM state, is a free value. (DEDUCED: notes/assumptions/75) -/
def execLinkDown (s : State) : Out :=
  if s.pci.perstLow ∨ s.pci.quietSince.isSome then .next s else
  let s1 := (s.awake).clearLink
  let s2 : State := { s1 with free := s1.free + 1, pci := { s1.pci with quietSince := some s1.now, training := none, recovering := true } }
  .next (s2.raiseErr blkPCI 0 0 (Config.freeNat s1.free 0))

/-- LINK_QUIET_TIME_EXPIRY (R53, R54): training starts at MAX_SPEED, or at 2.5 GT/s with LINK_LIMIT latched. (DEDUCED: notes/assumptions/75) -/
def execLinkQuietTimeExpiry (s0 : State) : Out := s0.clocked fun s =>
  if s.pci.quietSince.isNone then .next s else
  let s1 : State := { s with pci := { s.pci with quietSince := none } }
  if s.recoveryLimited blkPCI then
    let s2 : State := { s1 with pci := { s1.pci with limited := true } }
    .next (({ s2 with pci := { s2.pci with training := s2.trainTo } } : State).raiseErr blkPCI 1 0 0)
  else .next { s1 with pci := { s1.pci with training := s1.trainTo } }

/-- The width that training ends with: lane 0 alone in END_OF_LIFE (R29, R30). -/
def State.linkWidth (s : State) (w : Nat) : Nat :=
  if s.getF .LCO_STATE_STATE 0 = 0xF then 1 else if w = 1 ∨ w = 2 ∨ w = 4 then w else 8

/-- LINK_RECOVERED (R53, R54, R517): training after a link-down reaches L0; the recovery counts unless the limit stands. -/
def execLinkRecovered (speed width : Nat) (s0 : State) : Out := s0.clocked fun s =>
  match s.pci.training with
  | none => .next s
  | some r =>
    if !s.pci.recovering ∨ s.pci.perstLow then .next s else
    let s1 : State := { s with pci := { s.pci with training := none, recovering := false } }
    let s2 := s1.linkAt (max 1 (min speed r)) (s.linkWidth width)
    .next (if s.pci.limited then s2 else s2.recovered blkPCI)

/-- LINK_UP (R47, R56, R57): training after PERST#, a hot reset or RETRAIN reaches L0; nothing is counted. A wake from DEEP that still waits is reported
by PME. -/
def execLinkUp (speed width : Nat) (s0 : State) : Out := s0.clocked fun s =>
  match s.pci.training with
  | none => .next s
  | some r =>
    if s.pci.recovering ∨ s.pci.perstLow then .next s else
    let s1 := ({ s with pci := { s.pci with training := none } } : State).linkAt (max 1 (min speed r)) (s.linkWidth width)
    .next (if s.pwr.pmeStatus && s.pci.pmeEn then s1.say .pme else s1)

/-- LINK_L1_ENTRY (R47): 1 L1, 2 L1.1, 3 L1.2; L1.2 only where the host has enabled it. CLKREQ# is released while PM_STATE is 3. -/
def execLinkL1Entry (pm : Nat) (s0 : State) : Out := s0.clocked fun s =>
  if pm = 0 ∨ 3 < pm ∨ s.getF .PCI_LINK_STATUS_SPEED 0 = 0 ∨ s.pwr.l2Ready ∨ (pm = 3 ∧ !s.pci.l12En) then .next s
  else .next (s.setF .PCI_LINK_STATUS_PM_STATE 0 pm)

/-- RECEIVER_ERROR (R59). -/
def execReceiverError (s0 : State) : Out := s0.clocked fun s => .next (s.count .PCI_RX_ERR_COUNT_COUNT 0 1)

/-- REPLAY_TIMER_TIMEOUT (R59). -/
def execReplayTimerTimeout (s0 : State) : Out := s0.clocked fun s => .next (s.count .PCI_REPLAY_COUNT_COUNT 0 1)

/-! ### Failed reads (R45) -/

/-- An entry whose own read failed: it ends with HOST_READ_ERROR in its place. -/
def Job.unread (j : Job) (detail : Nat) : Job :=
  { j with words := List.replicate 8 0, status := stHostRead, detail := detail, computed := true, stage := .ended }

/-- The failure logged in AER (R45): the uncorrectable status bit of its cause (R132), and for a poisoned completion the Advisory Non-Fatal bit of the
correctable status. -/
def State.logAer (s : State) (cause : Nat) : State :=
  let p := s.pci
  let b := match cause with
    | 1 => 14
    | 2 => 20
    | 3 => 15
    | _ => 12
  { s with pci := { p with aerCount := p.aerCount + 1, aerUnc := p.aerUnc ||| 2 ^ b, aerCor := if cause = 4 then p.aerCor ||| 2 ^ 13 else p.aerCor } }

/-- The cause of a failed read, as R132 numbers them. -/
def readCause (w : ReadOwner) (cause : Nat) : Nat :=
  match w with
  | .job _ _ detail => bits detail 3 0
  | _ => cause

/-- HOST_READ_FAILURE (R45, R449, R383): logged in AER; the job ends with HOST_READ_ERROR, the descriptor is marked bad, or the storage request is
posted again after SEAL_RETRY_TIME. -/
def execHostReadFailure (w : ReadOwner) (cause : Nat) (s0 : State) : Out := s0.clocked fun s =>
  let s1 := s.logAer (readCause w cause)
  match w with
  | .job q i detail =>
    match s1.job? q i with
    | none => .next s1
    | some j =>
      if j.stage = .fetching then .next (s1.updJob q i fun k => k.unread detail)
      else if (j.stage = .accepted ∨ j.stage = .dispatched) ∧ !j.computed then .next (s1.failJob j stHostRead detail)
      else .next s1
  | .dma c =>
    if (s1.headDesc c).elim false (fun d => d.srcSpace == 0) then .next (s1.setDchan c { s1.dchan c with fin := some (1, cause), outside := false })
    else .next s1
  | .store c tag =>
    match s1.scTake c tag with
    | (some o, s2) => if o.req.op = .fetch then .next (s2.repost o.req false) else .next s1
    | (none, _) => .next s1

/-! ### Interrupts, LTR, bus mastering (R46, R48, R49) -/

/-- The message of a vector whose PBA bit is set, once nothing masks it. -/
def State.unpend (s : State) (v : Nat) : State :=
  if s.pba v ∧ !s.vectorMasked v then (s.setPba v false).sendVector v else s

/-- Vectors with their PBA bit set, ascending. -/
def State.pendingVectors (s : State) : List Nat :=
  (s.listed .MSIX_PBA_BITS).flatMap fun k => ((List.range 64).filter fun b => s.pba (64 * k + b)).map fun b => 64 * k + b

/-- Every vector that nothing masks any more. -/
def State.unpendAll (s : State) : State := s.pendingVectors.foldl (fun t v => t.unpend v) s

/-- MSIX_UNMASK (R46): a vector, by a write of its table entry, or with none the function, by a configuration write. -/
def execMsixUnmask (v : Option Nat) (s0 : State) : Out :=
  match v with
  | some n => s0.mmio fun s => if 8192 ≤ n then .next s else .next ((s.setF .MSIX_CTRL_MASK n 0).unpend n)
  | none => s0.clocked fun s => .next ({ s with pci := { s.pci with msixMask := false } } : State).unpendAll

/-- LTR_IDLE_TIMER (R48): 1 ms without outstanding work. (DEDUCED: notes/assumptions/77) -/
def execLtrIdleTimer (s0 : State) : Out := s0.clocked fun s =>
  .next (if s.noWork then s.sendLtr (s.getF .PCI_LTR_IDLE_LATENCY_NS 0) else s)

/-- BUS_MASTER_DISABLE (R49): entry to D3hot, or Bus Master Enable cleared; what would issue a request holds. (DEDUCED: notes/assumptions/19) -/
def execBusMasterDisable (d3 : Bool) (s0 : State) : Out := s0.clocked fun s =>
  .next { s with pci := if d3 then { s.pci with d3hot := true } else { s.pci with busMaster := false } }

/-- What waited for the function to issue requests again, in order: held requests, each with the PASID bound now (R66) and its log entries (R82), held
messages, then queue and slice resets (R49). (DEDUCED: notes/assumptions/19) -/
def State.resumeIssue (s : State) : State :=
  if !s.mayIssue then s else
  let vectors := s.pci.heldVectors
  (vectors.foldl (fun t v => t.sendVector v)
    (s.held.foldl (fun t r => t.send r) ({ s with held := [], pci := { s.pci with heldVectors := [] } } : State))).finishResets

/-- BUS_MASTER_ENABLE (R49): back in D0 with Bus Master Enable set. (DEDUCED: notes/assumptions/19) -/
def execBusMasterEnable (s0 : State) : Out := s0.clocked fun s =>
  .next ({ s with pci := { s.pci with busMaster := true, d3hot := false } } : State).resumeIssue

/-! ### Configuration space (R36, R37, R50) -/

/-- Configuration requests are retried during an FLR and before boot step 3 has completed (R50, R440). (DEDUCED: notes/assumptions/75) -/
def State.cfgRetry (s : State) : Bool :=
  s.pci.flrUntil.elim false (fun t => decide (s.now < t)) || s.getF .GLB_STATUS_BOOT_STATE 0 == 0 ||
    (s.getF .GLB_STATUS_BOOT_STATE 0 == 1 && s.getF .LCO_STATE_STATE 0 != 0xF)

/-- Dwords that software writes and no rule reads, stored as written: cache line size, the BARs, interrupt line, Link Control. Every other dword that the
rules do not describe reads as 0 and ignores what is written (DESIGN CHOICE, notes/assumptions/44): so do the third BAR pair (R39) and the Expansion ROM
BAR (R36). -/
def cfgStored (off : Nat) : Bool := [0x00C, 0x010, 0x014, 0x018, 0x01C, 0x03C, 0x080].contains off

/-- The dword of configuration space at an offset: header, capability structures, and the bits that the rules read. In END_OF_LIFE MSI-X, PASID, PTM and
DOE are absent from the capability lists (chapter 03). (PRESUMED: notes/assumptions/44) -/
def State.cfgRead (s : State) (off : Nat) : Nat :=
  let ext := fun (id ver next : Nat) => id + ver * 2 ^ 16 + next * 2 ^ 20
  let eol := s.getF .LCO_STATE_STATE 0 == 0xF
  if eol && ([0x050, 0x054, 0x058].contains off || (decide (0x220 ≤ off) && decide (off < 0x238)) || decide (0x250 ≤ off)) then 0 else
  match off with
  | 0x000 => 0x48161F3A
  | 0x004 => 0x00100000 + b2n s.pci.memSpace * 2 + b2n s.pci.busMaster * 4
  | 0x008 => 0x108000B0
  | 0x00C => nget 0 s.pci.cfg 0x00C % 256
  | 0x010 => nget 0 s.pci.cfg 0x010 / 2 ^ 24 * 2 ^ 24 + 0x4
  | 0x018 => nget 0 s.pci.cfg 0x018 / 2 ^ 26 * 2 ^ 26 + 0xC
  | 0x02C => if s.otpWord otpSubsys = 0 then 0x00001F3A else s.otpWord otpSubsys
  | 0x034 => 0x40
  | 0x03C => nget 0 s.pci.cfg 0x03C % 256
  | 0x040 => if eol then 0xC0037001 else 0xC0035001
  | 0x044 => (if s.pci.d3hot then 3 else 0) + 8 + b2n s.pci.pmeEn * 256 + b2n s.pwr.pmeStatus * 2 ^ 15
  | 0x050 => 0x11 + 0x70 * 2 ^ 8 + (0x1FFF + b2n s.pci.msixMask * 2 ^ 14 + b2n s.pci.msixEn * 2 ^ 15) * 2 ^ 16
  | 0x054 => 0x00400000
  | 0x058 => 0x00420000
  | 0x070 => 0x00020010
  | 0x074 => 0x10008002
  | 0x078 => b2n s.pci.relaxed * 16 + (Nat.log2 (s.pci.mps / 128)) * 32 + (Nat.log2 (s.pci.mrrs / 128)) * 2 ^ 12
  | 0x07C => 5 + 8 * 2 ^ 4 + 2 * 2 ^ 10 + 4 * 2 ^ 15
  | 0x080 => nget 0 s.pci.cfg 0x080 % 2 ^ 16 + (s.getF .PCI_LINK_STATUS_SPEED 0 + s.getF .PCI_LINK_STATUS_WIDTH 0 * 16) * 2 ^ 16
  | 0x094 => 0x00630817
  | 0x098 => s.pci.cplTimeout + b2n s.pci.cplOff * 16 + b2n s.pci.ltrEn * 2 ^ 10 + b2n s.pci.tag10 * 2 ^ 12
  | 0x09C => 0x3E
  | 0x100 => ext 0x0001 2 0x148
  | 0x104 => s.pci.aerUnc
  | 0x108 => s.pci.aerUncMask
  | 0x10C => s.pci.aerUncSev
  | 0x110 => s.pci.aerCor
  | 0x114 => s.pci.aerCorMask
  | 0x118 => 0x0A0 + b2n s.pci.ecrcGen * 2 ^ 6 + b2n s.pci.ecrcCheck * 2 ^ 8
  | 0x148 => ext 0x0003 1 0x158
  | 0x14C => bfield s.serial 0 4
  | 0x150 => bfield s.serial 4 4
  | 0x158 => ext 0x0019 1 0x178
  | 0x178 => ext 0x0025 1 0x184
  | 0x17C => 0x80000001
  | 0x184 => ext 0x0026 1 0x1B0
  | 0x1B0 => ext 0x0027 1 0x1E0
  | 0x1E0 => ext 0x002A 1 (if eol then 0x238 else 0x220)
  | 0x220 => ext 0x001B 1 0x228
  | 0x224 => 20 * 2 ^ 8 + b2n s.pci.pasidEn * 2 ^ 16
  | 0x228 => ext 0x001F 1 0x238
  | 0x22C => 1
  | 0x230 => b2n s.pci.ptmEn
  | 0x238 => ext 0x0018 1 0x240
  | 0x240 => ext 0x001E 1 (if eol then 0 else 0x250)
  | 0x244 => 0x1F + 10 * 2 ^ 8 + 2 ^ 16 + 6 * 2 ^ 19
  | 0x248 => b2n s.pci.l12En * 5
  | 0x250 => ext 0x002E 1 0
  | 0x25C => b2n s.pci.doeErr * 4
  | o => if cfgStored o then nget 0 s.pci.cfg o else 0

/-- A payload or request size of its 3-bit code. -/
def sizeOf' (code most : Nat) : Nat := min most (128 * 2 ^ min code 5)

/-- A dword written to configuration space. (PRESUMED: notes/assumptions/44) -/
def State.cfgWrite (s : State) (off v : Nat) : State :=
  match off with
  | 0x004 =>
    let s1 : State := { s with pci := { s.pci with memSpace := bit v 1, busMaster := bit v 2 } }
    if !s.mayIssue && s1.mayIssue then s1.resumeIssue else s1
  | 0x044 =>
    let s1 : State := { s with pci := { s.pci with d3hot := bits v 1 0 == 3, pmeEn := bit v 8 },
                               pwr := { s.pwr with pmeStatus := s.pwr.pmeStatus && !bit v 15 } }
    if !s.mayIssue && s1.mayIssue then s1.resumeIssue else s1
  | 0x050 => ({ s with pci := { s.pci with msixEn := bit v 31, msixMask := bit v 30 } } : State).unpendAll
  | 0x078 =>
    let s1 : State := { s with pci := { s.pci with relaxed := bit v 4, mps := sizeOf' (bits v 7 5) 512, mrrs := sizeOf' (bits v 14 12) 4096 } }
    if bit v 15 then (match execFlr s1 with | .next t => t | _ => s1) else s1
  | 0x098 => { s with pci := { s.pci with cplTimeout := bits v 3 0, cplOff := bit v 4, ltrEn := bit v 10, tag10 := bit v 12 } }
  | 0x104 => { s with pci := { s.pci with aerUnc := fieldW1C 32 s.pci.aerUnc v } }
  | 0x108 => { s with pci := { s.pci with aerUncMask := v % 2 ^ 32 } }
  | 0x10C => { s with pci := { s.pci with aerUncSev := v % 2 ^ 32 } }
  | 0x110 => { s with pci := { s.pci with aerCor := fieldW1C 32 s.pci.aerCor v } }
  | 0x114 => { s with pci := { s.pci with aerCorMask := v % 2 ^ 32 } }
  | 0x118 => { s with pci := { s.pci with ecrcGen := bit v 6, ecrcCheck := bit v 8 } }
  | 0x230 => { s with pci := { s.pci with ptmEn := bit v 0 } }
  | 0x224 => { s with pci := { s.pci with pasidEn := bit v 16 } }
  | 0x248 => { s with pci := { s.pci with l12En := bit v 0 || bit v 2 } }
  | o => if cfgStored o then { s with pci := { s.pci with cfg := nset 0 s.pci.cfg o (v % 2 ^ 32) } } else s

/-- CONFIG_REQUEST (R36, R37, R50, R440): a read (none) or a write of the dword at an offset. (PRESUMED: notes/assumptions/44) -/
def execConfigRequest (off : Nat) (v : Option W32) (s1 : State) : Out := s1.clocked fun s0 =>
  let s := s0.awake
  if s.cfgRetry then .next (s.say .retryStatus) else
  match v with
  | none => .next (s.say (.completion (leBytes 4 (s.cfgRead off))))
  | some w => .next ((s.cfgWrite off w.toNat).say (.completion []))

/-! ### DOE and SPDM (R51, R52). The layouts of the messages are those of the PCI-SIG and DMTF standards that R51 and R52 name. -/

/-- A data object of a type: header, length in dwords, content, padding. -/
def doeObject (ty : Nat) (d : List Byte) : List Byte :=
  let n := ceilDiv (8 + d.length) 4
  leBytes 2 0x0001 ++ leBytes 1 ty ++ zeros 1 ++ leBytes 4 n ++ padTo (4 * n - 8) d

/-- DOE_REQUEST (R51): a complete data object; one above 4,096 B is discarded and sets DOE Error; one of another type is discarded. -/
def execDoeRequest (d : List Byte) (s1 : State) : Out := s1.clocked fun s0 =>
  let s := s0.awake
  if s.pci.doeErr then .next s
  else if 4096 < d.length then .next { s with pci := { s.pci with doeIn := none, doeErr := true } }
  else if bfield d 0 2 ≠ 1 ∨ 1 < bfield d 2 1 then .next s
  else .next { s with pci := { s.pci with doeIn := some d } }

/-- The mailbox's object of a type. -/
def State.doeObj (s : State) (ty : Nat) : Option (List Byte) := s.pci.doeIn.filter fun d => bfield d 2 1 == ty

/-- The answer in the read mailbox. -/
def State.doeAnswer (s : State) (ty : Nat) (d : List Byte) : State :=
  ({ s with pci := { s.pci with doeIn := none } } : State).say (.doe (doeObject ty d))

/-- DOE_DISCOVERY (R51): the data object types by index. -/
def execDoeDiscovery (s0 : State) : Out := s0.clocked fun s =>
  match s.doeObj 0 with
  | none => .next s
  | some d =>
    let n := bfield d 8 1
    .next (s.doeAnswer 0 (if n = 0 then leBytes 2 1 ++ [0, 1] else if n = 1 then leBytes 2 1 ++ [1, 0] else leBytes 2 0xFFFF ++ [0, 0]))

/-- DOE_ABORT (R51). -/
def execDoeAbort (s0 : State) : Out := s0.clocked fun s => .next { s with pci := { s.pci with doeIn := none, doeErr := false } }

/-- The SPDM request in the mailbox, if its code is the one asked for: its message. (PRESUMED: notes/assumptions/44) -/
def State.spdmMsg (s : State) (code : Nat) : Option (List Byte) :=
  ((s.doeObj 1).map fun d => d.drop 8).filter fun m => bfield m 1 1 == code

/-- An SPDM response, with the connection's new state; request and response join the log. -/
def State.spdmSay (s : State) (x : SpdmX) (req resp : List Byte) : State :=
  (({ s with pci := { s.pci with spdm := { x with log := x.log ++ req ++ resp } } } : State)).doeAnswer 1 resp

/-- The version byte of a request. -/
def verOf (m : List Byte) : Byte := m.headD 0x10

/-- An ERROR response: 1 InvalidRequest, 4 UnexpectedRequest. (PRESUMED: notes/assumptions/76) -/
def State.spdmError (s : State) (m : List Byte) (code : Nat) : State := s.doeAnswer 1 ([verOf m, 0x7F] ++ leBytes 1 code ++ [0])

/-- SPDM_GET_VERSION (R52): VERSION with 1.1 and 1.2; the connection starts afresh. (PRESUMED: notes/assumptions/76) -/
def execSpdmGetVersion (s0 : State) : Out := s0.clocked fun s =>
  match s.spdmMsg 0x84 with
  | none => .next s
  | some m => .next (s.spdmSay { version := true } m ([0x10, 0x04, 0, 0, 0, 2] ++ leBytes 2 0x1100 ++ leBytes 2 0x1200))

/-- SPDM_GET_CAPABILITIES (R52): CERT_CAP, CHAL_CAP, MEAS_CAP with signature, MEAS_FRESH_CAP; CTExponent is a free value. (PRESUMED: notes/assumptions/76) -/
def execSpdmGetCapabilities (s0 : State) : Out := s0.clocked fun s =>
  match s.spdmMsg 0xE1 with
  | none => .next s
  | some m =>
    if !s.pci.spdm.version then .next (s.spdmError m 4) else
    let s1 : State := { s with free := s.free + 1 }
    let r := [verOf m, 0x61, 0, 0, 0] ++ leBytes 1 (Config.freeNat s.free 0) ++ [0, 0] ++ leBytes 4 0x36 ++
      (if verOf m = 0x12 then leBytes 4 4096 ++ leBytes 4 4096 else [])
    .next (s1.spdmSay { s1.pci.spdm with caps := true } m r)

/-- SPDM_NEGOTIATE_ALGORITHMS (R52): ECDSA P-384, SHA-384, DMTF measurements. -/
def execSpdmNegotiateAlgorithms (s0 : State) : Out := s0.clocked fun s =>
  match s.spdmMsg 0xE3 with
  | none => .next s
  | some m =>
    if !s.pci.spdm.caps then .next (s.spdmError m 4) else
    let r := [verOf m, 0x63, 0, 0] ++ leBytes 2 36 ++ [1, 0] ++ leBytes 4 4 ++ leBytes 4 0x80 ++ leBytes 4 2 ++ zeros 16
    .next (s.spdmSay { s.pci.spdm with algos := true } m r)

/-- The SHA-384 digest of the slot 0 chain. -/
def State.chainHash (s : State) : List Byte := bytesOf 48 (Config.hash 2 s.seq.chain)

/-- SPDM_GET_DIGESTS (R52). (PRESUMED: notes/assumptions/76) -/
def execSpdmGetDigests (s0 : State) : Out := s0.clocked fun s =>
  match s.spdmMsg 0x81 with
  | none => .next s
  | some m =>
    if !s.pci.spdm.algos then .next (s.spdmError m 4)
    else .next (s.spdmSay s.pci.spdm m ([verOf m, 0x01, 0, 1] ++ s.chainHash))

/-- SPDM_GET_CERTIFICATE (R52): the asked part of the slot 0 chain, as much as one data object holds. (PRESUMED: notes/assumptions/76) -/
def execSpdmGetCertificate (s0 : State) : Out := s0.clocked fun s =>
  match s.spdmMsg 0x82 with
  | none => .next s
  | some m =>
    if !s.pci.spdm.algos then .next (s.spdmError m 4) else
    let at' := bfield m 4 2
    if bfield m 2 1 ≠ 0 ∨ s.seq.chain.length < at' then .next (s.spdmError m 1) else
    let n := min (bfield m 6 2) (min (s.seq.chain.length - at') 4080)
    .next (s.spdmSay s.pci.spdm m ([verOf m, 0x02, 0, 0] ++ leBytes 2 n ++ leBytes 2 (s.seq.chain.length - at' - n) ++ bslice s.seq.chain at' n))

/-- A DMTF measurement block: index, specification, the raw or digest form of its value. (DESIGN CHOICE: notes/assumptions/41) -/
def State.measBlock (s : State) (i : Nat) : List Byte :=
  let v := s.measurement i
  leBytes 1 i ++ [1] ++ leBytes 2 (3 + v.length) ++ leBytes 1 (if i = 3 ∨ i = 4 ∨ i = 6 then 0x80 + i else i) ++ leBytes 2 v.length ++ v

/-- The ECDSA P-384 signature of the device identity key, derived from the fuse root secret, over a transcript. (PRESUMED: notes/assumptions/76) -/
def State.spdmSign (s : State) (rnd transcript : List Byte) : List Byte := bytesOf 96 (Config.alg "SPDM ECDSA P-384" [] [s.lco.frs, rnd, transcript])

/-- SPDM_CHALLENGE (R52): CHALLENGE_AUTH, signed over the exchange so far. (PRESUMED: notes/assumptions/44) -/
def execSpdmChallenge (s0 : State) : Out := s0.clocked fun s =>
  match s.spdmMsg 0x83 with
  | none => .next s
  | some m =>
    if !s.pci.spdm.algos then .next (s.spdmError m 4)
    else if bfield m 2 1 ≠ 0 then .next (s.spdmError m 1) else
    let (nonce, s1) := s.draw 32
    let (rnd, s2) := s1.draw 48
    let ms := if bfield m 3 1 = 0 then [] else bytesOf 48 (Config.hash 2 ((List.range 6).flatMap fun k => s.measBlock (k + 1)))
    let body := [verOf m, 0x03, 0, 1] ++ s.chainHash ++ nonce ++ ms ++ [0, 0]
    .next (s2.spdmSay { s2.pci.spdm with log := [] } [] (body ++ s2.spdmSign rnd (s.pci.spdm.log ++ m ++ body)))

/-- SPDM_GET_MEASUREMENTS (R52): the count, one measurement, or all six; signed when the request asks for it. (PRESUMED: notes/assumptions/44) -/
def execSpdmGetMeasurements (s0 : State) : Out := s0.clocked fun s =>
  match s.spdmMsg 0xE0 with
  | none => .next s
  | some m =>
    if !s.pci.spdm.algos then .next (s.spdmError m 4) else
    let op := bfield m 3 1
    if op ≠ 0xFF ∧ 6 < op then .next (s.spdmError m 1) else
    let l := if op = 0 then [] else if op = 0xFF then (List.range 6).map (· + 1) else [op]
    let rec' := l.flatMap s.measBlock
    let (nonce, s1) := s.draw 32
    let body := [verOf m, 0x60] ++ leBytes 1 (if op = 0 then 6 else 0) ++ [0] ++ leBytes 1 l.length ++ leBytes 3 rec'.length ++ rec' ++ nonce ++ [0, 0]
    if bit (bfield m 2 1) 0 then
      let (rnd, s2) := s1.draw 48
      .next (s2.spdmSay { s2.pci.spdm with log := [] } [] (body ++ s2.spdmSign rnd (s.pci.spdm.log ++ m ++ body)))
    else .next (s1.spdmSay s1.pci.spdm m body)

end Sys2Proof.Machine
end

