-- ==== Sys2Proof/Machine/Views.lean ====
section
/-! DEFINITION. What a register reads as: the stored fields, the fields that mirror other state, the registers that END_OF_LIFE leaves readable. -/
namespace Sys2Proof.Machine

open Sys2Proof

/-- The quarters of a core in a state, as a bit mask (R260). -/
def State.quarterMask (s : State) (c : Nat) (st : QState) : Nat :=
  ((List.range 4).map fun n => if (s.quarter c n).st = st then 2 ^ n else 0).sum

/-- STATE of MAR_CORE_STATUS (R250, R257, R260): a disabled core is OFFLINE after its last scrub, RESET lasts as long as a core reset; HASH_WAIT while a call
of the core's sessions is ready or under way, MASK_WAIT while it waits for its generator. (DEDUCED: notes/assumptions/84) -/
def State.coreState (s : State) (c : Nat) : Nat :=
  if !bit (s.getF .MAR_CORE_ONLINE_ONLINE 0) c ||
      (!bit (s.getF .MAR_CORE_ENABLE_EN 0) c && (s.quarters c).all fun x => decide (x.st = .free)) then 0
  else if s.coreInReset c then 5
  else if (s.runningQuarter c).isNone then 1
  else if (s.core c).run.maskStall then 4
  else if (List.range 4).any (fun k => (s.session (4 * c + k)).ready.isSome || (s.session (4 * c + k)).flight.isSome) then 3
  else 2

/-- The slots of a unit of the code engine: two of a decoder unit, the halves of the systemizer. -/
def unitSlots (u : Nat) : List Nat := [2 * u, 2 * u + 1]

/-- The jobs in slots of a pool's unit. -/
def State.jobsIn (s : State) (p : Pool) (slots : List Nat) : List Job :=
  s.jobs.filter fun j => j.pools.contains p && j.slot.elim false slots.contains

/-- The job that runs in a unit: of those dispatched there, the one accepted first. -/
def State.unitJob (s : State) (u : Nat) : Option Job :=
  firstJob (fun a b => decide (a.stamp < b.stamp)) ((s.jobsIn .CDE (unitSlots u)).filter Job.running)

/-- STATE of CDE_UNIT_STATUS (R311). (DEDUCED: notes/assumptions/64; DEDUCED: notes/assumptions/84) -/
def State.unitState (s : State) (u : Nat) : Nat :=
  if !bit (s.getF .CDE_UNIT_ONLINE_ONLINE 0) u then 0
  else if (s.unitJob u).isSome then 2
  else if (unitSlots u).any s.cde.zero.contains then 3 else 1

/-- BUSY of CDE_UNIT_STATUS (R311): a large matrix occupies both halves (R302). (DEDUCED: notes/assumptions/84) -/
def State.unitBusy (s : State) (u : Nat) : Nat :=
  let js := s.jobsIn .CDE (unitSlots u)
  if js.any (fun j => j.bigMatrix) then 3
  else b2n (js.any fun j => j.slot == some (2 * u)) + 2 * b2n (js.any fun j => j.slot == some (2 * u + 1))

/-- STATE of BGN_MUL_STATUS (R330): what the first computation of its home slots is at. (DEDUCED: notes/assumptions/84) -/
def State.mulState (s : State) (m : Nat) : Nat :=
  if !bit (s.getF .BGN_MUL_ONLINE_ONLINE 0) m then 0 else
  match firstJob (fun a b => decide (a.stamp < b.stamp)) ((s.jobsIn .BGN ((List.range 4).map (4 * m + ·))).filter fun j => j.running && !j.computed) with
  | none => 1
  | some j => if j.phase = 0 then 2 else 3

/-- SLOTS of BGN_MUL_STATUS (R330). -/
def State.mulSlots (s : State) (m : Nat) : Nat :=
  ((List.range 4).map fun n => if (s.jobsIn .BGN [4 * m + n]).isEmpty then 0 else 2 ^ n).sum

/-- Credits of class k not held (R209). -/
def State.creditFree (s : State) (k : Nat) : Nat :=
  match k with
  | 1 => 16384 - s.outUsed
  | 2 => 310 - (s.poolUsed .SVC + s.poolUsed .MAR + s.poolUsed .HSH + s.poolUsed .CDE + s.poolUsed .BGN + s.poolUsed .STR)
  | 3 => 16384 - s.inUsed
  | 4 => 65536 - s.fetchUsed
  | k => creditTotal k

/-- The status word of SMBus code 0x01 (R530). -/
def State.smbStatus (s : State) : Nat :=
  b2n s.ready + 2 * b2n (s.getF .GLB_STATUS_BOOT_STATE 0 == 5) + 4 * s.getF .PWR_STATUS_THERMAL_LIMITED 0 + 8 * s.getF .PWR_STATUS_BRACE 0 +
    16 * s.getF .TMP_STATUS_LOCKDOWN 0 + 32 * s.getF .TMP_STATUS_EVIDENCE_PENDING 0 + 64 * s.getF .PWR_STATUS_STATE 0 + 256 * s.getF .LCO_STATE_STATE 0

/-- The 12 bytes of SMBus code 0x05 (R524, R530). -/
def State.smbIdentity (s : State) : List Byte := leBytes 4 0x00014816 ++ s.serial

/-- SMB_MIRROR[n] (R530). -/
def State.smbMirror (s : State) (n : Nat) : Nat :=
  match n with
  | 0 => s.getF .PWR_TEMP_T 0
  | 1 => s.smbStatus
  | 2 => s.getF .PWR_POWER_NOW_CW 0
  | 3 => s.getF .SMB_ALERT_STATUS_ALERT 0
  | 4 => s.getF .PWR_POWER_LIMIT_W 0
  | 5 => bfield s.smbIdentity 0 4
  | 6 => bfield s.smbIdentity 4 4
  | 7 => bfield s.smbIdentity 8 4
  | _ => 0

/-- The SMBus address in use: what SMB_ADDR was when it was sampled (R20). (DESIGN CHOICE: notes/assumptions/18) -/
def State.smbAddress (s : State) : Nat := 0x5A + b2n s.pwr.strap

/-- A field of a slice window answers: the window of a slice that is not enabled reads as zero (R61). -/
def State.windowReads (s : State) (f : Fld) (i : Nat) : Bool :=
  match f with
  | .SLC_T_STATUS_STATE => s.windowOn i
  | .SLC_T_STATUS_PASID => s.windowOn i
  | .SLC_T_GRANT_QCOUNT => s.windowOn i
  | .SLC_T_GRANT_ECOUNT => s.windowOn i
  | .SLC_T_VECTORS_VCOUNT => s.windowOn i
  | .SLC_T_MBX_M2T_VECTOR => s.windowOn i
  | .SLC_T_MBX_M2T_IRQ_EN => s.windowOn i
  | .SLC_T_MBX_M2T_FULL => s.windowOn i
  | .SLC_T_MBX_T2M_FULL => s.windowOn i
  | .SLC_T_MBX_T2M_SEND => s.windowOn i
  | .EVR_T_CONS_CONS => (s.ringOwner i).elim false s.windowOn
  | .EVR_T_STATUS_OVERFLOW => (s.ringOwner i).elim false s.windowOn
  | .EVR_T_STATUS_PROD => (s.ringOwner i).elim false s.windowOn
  | _ => true

/-- What instance i of a field reads as when the function answers: WO fields read 0 (R7), the mirrors read what they mirror. (DEDUCED: notes/assumptions/84) -/
def State.view (s : State) (f : Fld) (i : Nat) : Nat :=
  if f.desc.acc = .WO ∨ !s.windowReads f i then 0 else
  match f with
  | .SLC_SLICE_KEYS_USED_KEY_USED => s.keyUsedBy i
  | .SLC_SLICE_STREAMS_STREAM_USED => s.streamUsedBy i
  | .SLC_SLICE_SEAL_USED_BLOCKS => s.sealUsedBy i
  | .SLC_T_STATUS_STATE => s.getF .SLC_SLICE_CTRL_STATE i
  | .SLC_T_STATUS_PASID => s.getF .SLC_SLICE_PASID_PASID i
  | .SLC_T_GRANT_QCOUNT => s.getF .SLC_SLICE_QUEUES_QCOUNT i
  | .SLC_T_GRANT_ECOUNT => s.getF .SLC_SLICE_EVRINGS_ECOUNT i
  | .SLC_T_VECTORS_VCOUNT => s.getF .SLC_SLICE_VECTORS_VCOUNT i
  | .SLC_SLICE_MBX_M2T_FULL => s.getF .SLC_T_MBX_M2T_FULL i
  | .SLC_SLICE_MBX_T2M_FULL => s.getF .SLC_T_MBX_T2M_FULL i
  | .QC_STATUS_PARKED => ((s.openJobs i).filter fun j => j.stage == .parked).length
  | .QC_STATUS_INFLIGHT => (s.openJobs i).length
  | .EVR_CONS_CONS => s.getF .EVR_T_CONS_CONS i
  | .EVR_PROD_OVERFLOW => s.getF .EVR_T_STATUS_OVERFLOW i
  | .EVR_T_STATUS_PROD => s.getF .EVR_PROD_PROD i
  | .SCH_CREDIT_FREE_FREE => s.creditFree i
  | .SCH_SENIOR_STAMP_STAMP => s.senior.elim 0 fun j => j.stamp
  | .SCH_SENIOR_QUEUE_VALID => b2n s.senior.isSome
  | .SCH_SENIOR_QUEUE_QUEUE => s.senior.elim 0 fun j => j.q
  | .SCH_PARK_USED_SLOTS => s.parkUsed
  | .MAR_KREGION_FREE_BUNDLES => if s.mar.image = [] then 0 else s.kregionFree
  | .MAR_SCRATCH_FREE_PAGES => (s.freePages i).length
  | .MAR_CORE_STATUS_STATE => s.coreState i
  | .MAR_CORE_STATUS_RUN_SLOT => (s.runningQuarter i).getD 0
  | .MAR_CORE_STATUS_SUSPENDED => s.quarterMask i .suspended
  | .MAR_CORE_STATUS_SCRUBBING => s.quarterMask i .scrubbing
  | .MAR_CORE_STATUS_DRAINING => s.quarterMask i .draining
  | .MAR_CORE_STATUS_READY => s.quarterMask i .ready
  | .MAR_CORE_STATUS_LOADING => s.quarterMask i .loading
  | .MAR_CORE_STATUS_FREE => s.quarterMask i .free
  | .HSH_SESSIONS_OPEN_COUNT => (s.hsh.sess.filter fun e => e.2.st != 0).length
  | .CDE_UNIT_STATUS_STATE => s.unitState i
  | .CDE_UNIT_STATUS_SET => (s.unitJob i).elim 0 fun j => if isMceliece j.paramset then 1 else 2
  | .CDE_UNIT_STATUS_PARAMSET => (s.unitJob i).elim 0 fun j => j.paramset
  | .CDE_UNIT_STATUS_BUSY => s.unitBusy i
  | .BGN_MUL_STATUS_STATE => s.mulState i
  | .BGN_MUL_STATUS_SLOTS => s.mulSlots i
  | .KV_STATUS_KEYS => s.keysUsed.length
  | .KV_HOT_USED_LINES => s.hotUsed
  | .SEQ_BINDER_STATUS_STATE => s.binderState i
  | .SEQ_BINDER_STATUS_THREADS => s.threadsBusy i
  | .DMA_CHAN_STATUS_STATE => s.dmaState i
  | .DMA_CHAN_STATUS_PENDING => s.dmaPending i
  | .TMP_AO_BUF_ENTRY => (s.tmp.buf[i]?).elim 0 fun e => leNat e.bytes
  | .SMB_MIRROR_VALUE => s.smbMirror i
  | .SMB_STATUS_ADDR => s.smbAddress
  | f => s.getF f i

/-- The function answers every register: not in END_OF_LIFE, which leaves GLB_ID and LCO_STATE (R30, R524). (DESIGN CHOICE: notes/assumptions/10) -/
def State.readable (s : State) (r : Reg) (i : Nat) : Bool :=
  s.getF .LCO_STATE_STATE 0 != 0xF || decide (r = .LCO_STATE) || (decide (r = .BLK_ID) && i == 0)

/-- What instance i of a register reads as, reserved bits 0 (R6, R7). -/
def State.regValue (s : State) (r : Reg) (i : Nat) : Nat :=
  if s.readable r i then (r.fields.map fun f => s.view f i * 2 ^ f.desc.lo).sum else 0

/-- What a 32-bit read of the high half of a 64-bit register answers (R5): the half latched at the read of the low half, or where none has been
latched the high half as it is. (DEDUCED: notes/assumptions/11) -/
def State.highHalf (s : State) (r : Reg) (i : Nat) : Nat :=
  let h := mget (fun _ => 0) s.latchedHigh (r, i)
  if h = 0 then s.regValue r i / 2 ^ 32 else h - 1

end Sys2Proof.Machine
end

