-- ==== Sys2Proof/Machine/Uniform.lean ====
section
/-! DEFINITION. The uniform error registers and the SMBus target (chapters 23 and 24). -/
namespace Sys2Proof.Machine

open Sys2Proof

/-! ### Clearing causes (R515 to R519) -/

/-- The limit causes: the cause of each block that recovers by itself whose condition is "count at limit" (R516). -/
def limitCause (blk : Nat) : Option Nat :=
  match blk with
  | 1 => some 1
  | 11 => some 3
  | 15 => some 1
  | 17 => some 3
  | _ => none

/-- Units of an _ONLINE register that are clear. -/
def State.someOffline (s : State) (f : Fld) : Bool := s.getF f 0 != 2 ^ f.width - 1

/-- The lasting condition of a cause (R519, the causes marked †); a limit cause has none left once its count is 0 (R515). (DEDUCED: notes/assumptions/86) -/
def State.causeHolds (s : State) (blk cause : Nat) : Bool :=
  match blk, cause with
  | 0, 0 => s.getF .GLB_STATUS_BOOT_STATE 0 == 5
  | 0, 1 => s.flag .GLB_STATUS_SELFTEST_DEGRADED 0
  | 4, 1 => decide (((List.range 8).filter fun b => bit (s.getF .SEQ_BINDER_ONLINE_ONLINE 0) b).length ≤ 1)
  | 6, 2 => s.someOffline .MAR_CORE_ONLINE_ONLINE
  | 7, 2 => s.someOffline .HSH_CORE_ONLINE_ONLINE
  | 8, 4 => s.someOffline .CDE_UNIT_ONLINE_ONLINE
  | 9, 4 => s.someOffline .BGN_MUL_ONLINE_ONLINE
  | 10, 1 => s.someOffline .STR_PIPE_ONLINE_ONLINE
  | 13, 1 => (s.listed .QRE_STREAM_STATE_SHORT).any fun n => s.flag .QRE_STREAM_STATE_SHORT n
  | 14, 1 => s.store.noSpace
  | 14, 3 => s.getF .SEAL_STATUS_STATE 0 == 3
  | 15, 0 => s.getF .TIM_STATUS_GRADE 0 != 0
  | 20, 1 => s.flag .PWR_STATUS_THERMAL_LIMITED 0
  | _, _ => false

/-- A write of 1 to one cause bit: cleared, or refused and counted while its condition lasts (R515). (DEDUCED: notes/assumptions/86) -/
def State.clearCause (s : State) (blk cause : Nat) : State :=
  if !bit (s.getF .BLK_ERR_STATUS_CAUSE blk) cause then s
  else if s.causeHolds blk cause then s.clearRefused blk
  else s.setF .BLK_ERR_STATUS_CAUSE blk (setBits (s.getF .BLK_ERR_STATUS_CAUSE blk) cause cause 0)

/-- A write of 1 to a limit cause sets _RECOVERY_COUNT to 0 (R515, R517); PCI may train at every rate again (R54). (DEDUCED: notes/assumptions/86) -/
def State.dropLimit (s : State) (blk v : Nat) : State :=
  match limitCause blk with
  | none => s
  | some c =>
    if !bit v c then s else
    let s1 := s.setF .BLK_RECOVERY_COUNT_COUNT blk 0
    if blk = blkPCI then { s1 with pci := { s1.pci with limited := false } } else s1

/-- ERR_STATUS_CLEAR (R515, R517): _ERR_STATUS of a block written; NO_ENTROPY and LATCHED of ENT also start a restart (R344). (DEDUCED: notes/assumptions/86) -/
def execErrStatusClear (blk : Nat) (v : W32) (s0 : State) : Out := s0.mmio fun s =>
  let ent := decide (blk = blkENT)
  let bitsLeft := (List.range 32).filter fun c => bit v.toNat c && !(ent && (c == 0 || c == 3))
  let s1 := bitsLeft.foldl (fun (t : State) c => t.clearCause blk c) (if ent then s else s.dropLimit blk v.toNat)
  .next (if ent then s1.entClear v.toNat else s1)

/-- ERR_IRQ_EN_WRITE (R514): an enable bit that goes from 0 to 1 while its cause is set sends the block vector, once for the write. -/
def execErrIrqEnWrite (blk : Nat) (v : W32) (s0 : State) : Out := s0.mmio fun s =>
  let old := s.getF .BLK_ERR_IRQ_EN_EN blk
  let s1 := s.setF .BLK_ERR_IRQ_EN_EN blk v.toNat
  if (List.range 32).any fun c => bit v.toNat c && !bit old c && bit (s.getF .BLK_ERR_STATUS_CAUSE blk) c then .next (s1.blockVector blk)
  else .next s1

/-! ### The SMBus target (R529 to R531) -/

/-- The target answers while the main logic runs (R29, R529), whatever PERST# is, with its clocks going (R32): not before the boot ROM has left
BOOT_STATE RESET, and not in END_OF_LIFE. -/
def State.smbOn (s : State) : Bool := s.powered && !s.stopped && s.getF .GLB_STATUS_BOOT_STATE 0 != 0 && s.getF .LCO_STATE_STATE 0 != 0xF

/-- One bit of the CRC-8 of PEC. (PRESUMED: notes/assumptions/60) -/
def pecStep (c : Nat) : Nat := if 128 ≤ c then (2 * c).xor 0x107 else 2 * c

/-- PEC: the CRC-8 of SMBus over the bytes of a message, its addresses among them. (PRESUMED: notes/assumptions/60) -/
def pec (l : List Byte) : Nat := l.foldl (fun c b => pecStep (pecStep (pecStep (pecStep (pecStep (pecStep (pecStep (pecStep (c.xor b.toNat))))))))) 0

/-- The address byte of a message: the 7-bit address and the direction. -/
def State.smbAddr (s : State) (rd : Nat) : Nat := 2 * s.smbAddress + rd

/-- A read answered: the data, and PEC when the host clocks it (R529). (PRESUMED: notes/assumptions/60) -/
def State.smbRead (s : State) (code : Nat) (d : List Byte) (withPec : Bool) : Out :=
  if !s.smbOn then .next s else
  let msg := leBytes 1 (s.smbAddr 0) ++ leBytes 1 code ++ leBytes 1 (s.smbAddr 1) ++ d
  .next (s.say (.smb (if withPec then d ++ leBytes 1 (pec msg) else d)))

/-- SMB_READ_TEMP (R530): code 0x00. -/
def execSmbReadTemp (withPec : Bool) (s : State) : Out := s.smbRead 0 (leBytes 2 (s.getF .PWR_TEMP_T 0)) withPec

/-- SMB_READ_STATUS (R530): code 0x01. -/
def execSmbReadStatus (withPec : Bool) (s : State) : Out := s.smbRead 1 (leBytes 2 s.smbStatus) withPec

/-- SMB_READ_POWER (R530): code 0x02. -/
def execSmbReadPower (withPec : Bool) (s : State) : Out := s.smbRead 2 (leBytes 2 (s.getF .PWR_POWER_NOW_CW 0)) withPec

/-- SMB_READ_ALERT_STATUS (R530): code 0x03, Read Word. -/
def execSmbReadAlertStatus (withPec : Bool) (s : State) : Out := s.smbRead 3 (leBytes 2 (s.getF .SMB_ALERT_STATUS_ALERT 0)) withPec

/-- SMB_READ_POWER_LIMIT (R530): code 0x04, Read Byte. -/
def execSmbReadPowerLimit (withPec : Bool) (s : State) : Out := s.smbRead 4 (leBytes 1 (s.getF .PWR_POWER_LIMIT_W 0)) withPec

/-- SMB_READ_IDENTITY (R530): code 0x05, Block Read of 12 bytes, the count before them. -/
def execSmbReadIdentity (withPec : Bool) (s : State) : Out := s.smbRead 5 (leBytes 1 12 ++ s.smbIdentity) withPec

/-- Alert bits cleared (R530, R532). (DEDUCED: notes/assumptions/85) -/
def State.clearAlerts (s : State) (v : Nat) : State :=
  (List.range 6).foldl (fun (t : State) n =>
    if bit v n then t.setF .SMB_ALERT_STATUS_ALERT 0 (setBits (t.getF .SMB_ALERT_STATUS_ALERT 0) n n 0) else t) s

/-- The transfer refused: NACK, counted, PROTOCOL latched with the command code (R519, R529). (DEDUCED: notes/assumptions/85) -/
def State.smbRefuse (s : State) (code : Nat) : State :=
  ((s.say .smbNack).count .SMB_PROTOCOL_COUNT_COUNT 0 1).raiseErr blkSMB 0 0 code

/-- SMB_CLEAR_ALERT_STATUS (R530): code 0x03, Write Byte; a PEC that the host sends must match (R529). (DEDUCED: notes/assumptions/85) -/
def execSmbClearAlertStatus (v : Byte) (sent : Option Byte) (s : State) : Out :=
  if !s.smbOn then .next s else
  let good := leBytes 1 (pec (leBytes 1 (s.smbAddr 0) ++ leBytes 1 3 ++ [v]))
  if sent.elim true fun p => [p] == good then .next (s.clearAlerts v.toNat) else .next (s.smbRefuse 3)

/-- SMB_BAD_COMMAND (R529): a code that R530 does not list, or a PEC mismatch. -/
def execSmbBadCommand (code : Byte) (pecBad : Bool) (s : State) : Out :=
  if !s.smbOn || (decide (code.toNat ≤ 5) && !pecBad) then .next s else .next (s.smbRefuse code.toNat)

/-- SMB_ALERT# is asserted (R531). -/
def State.smbAlert (s : State) : Bool :=
  s.smbOn && (s.getF .SMB_ALERT_STATUS_ALERT 0 &&& s.getF .SMB_ALERT_EN_EN 0) != 0 && !s.pwr.alertQuiet

/-- SMB_ALERT_RESPONSE (R531): the cycle is won: the target's address is sent and SMB_ALERT# released. (PRESUMED: notes/assumptions/60) -/
def execSmbAlertResponse (s : State) : Out :=
  if s.smbAlert then .next ({ s with pwr := { s.pwr with alertQuiet := true } }.say (.smb (leBytes 1 (s.smbAddr 1)))) else .next s

/-- SMB_CLOCK_LOW_TIMEOUT (R529): the target releases the bus; no register changes. -/
def execSmbClockLowTimeout (s0 : State) : Out := s0.clocked fun s => .next s

end Sys2Proof.Machine
end

