-- ==== Sys2Proof/Machine/RegWrite.lean ====
section
/-! DEFINITION. Register writes that have no row of their own, and the halves of two-part accesses (R5 to R7). -/
namespace Sys2Proof.Machine

open Sys2Proof

/-- The registers whose every write is a command of its own in the table. (DEDUCED: notes/assumptions/9) -/
def ownRows : List Reg := [
  .SLC_SLICE_CTRL, .SLC_SLICE_PASID, .SLC_SLICE_QUEUES, .SLC_SLICE_VECTORS, .SLC_SLICE_EVRINGS, .SLC_SLICE_WEIGHTS, .SLC_SLICE_KEYS,
  .SLC_SLICE_STREAMS, .SLC_SLICE_SEAL_QUOTA, .SLC_SLICE_MBX, .QC_CTRL, .EVR_CONS, .EVR_T_CONS, .EVR_T_STATUS, .QE_SC_CTRL, .QE_SC_COMPLETE,
  .SEQ_BINDER_ENABLE, .MAR_CORE_ENABLE, .MAR_FAULT_RESUME, .HSH_CORE_ENABLE, .CDE_UNIT_ENABLE, .BGN_MUL_ENABLE, .STR_PIPE_ENABLE,
  .ENT_CELL_ENABLE, .QRE_STREAM_RELEASE, .SEAL_CTRL, .SEAL_RANGE_KV, .SEAL_RANGE_QRE, .SEAL_RANGE_SLICE, .TIM_SLEW_RATE, .TIM_SET_SEC,
  .TMP_CTRL, .LCO_TRANSITION, .LCO_DIAG_ENTER, .LCO_PROV_CTRL, .GLB_BOOT_CTRL, .BLK_ERR_STATUS, .BLK_ERR_IRQ_EN]

/-- A write whose value makes it a command of its own: a ring enabled, a retrain, a vector unmasked. (DEDUCED: notes/assumptions/9) -/
def ownRowBy (r : Reg) (v : Nat) : Bool :=
  match r with
  | .EVR_CTRL => bit v 0
  | .PCI_LINK_CTRL => bit v 5
  | .MSIX_CTRL => !bit v 0
  | _ => false

/-- Instances of a register. The tenant registers of event rings are numbered by device ring, as their fields are. (DESIGN CHOICE: notes/assumptions/20) -/
def Reg.instances (r : Reg) : Nat := if r = .EVR_T_CONS ∨ r = .EVR_T_STATUS then 4096 else r.desc.count

/-- The register has an instance i: the recovery registers stand in PCI, ENT, TIM and LMC only, _QUIET_TIME of TIM ignores writes (R513, R516). -/
def regExists (r : Reg) (i : Nat) : Bool :=
  decide (i < r.instances) && match r with
  | .BLK_RECOVERY_LIMIT => [1, 11, 15, 17].contains i
  | .BLK_QUIET_TIME => [1, 11, 17].contains i
  | _ => true

/-- A field of instance i is locked (R7): a queue, ring or channel context while it is enabled, the log ring's place while it is in use (R80), the
tamper responses by RESP_LOCK. -/
def State.locked (s : State) (r : Reg) (i : Nat) : Bool :=
  match r with
  | .QC_RING_BASE => s.flag .QC_CTRL_ENABLE i
  | .QC_HEAD_ADDR => s.flag .QC_CTRL_ENABLE i
  | .QC_TAIL => s.flag .QC_CTRL_ENABLE i
  | .QC_HEAD => s.flag .QC_CTRL_ENABLE i
  | .QC_DONE => s.flag .QC_CTRL_ENABLE i
  | .SLC_SLICE_DPL_BASE => s.flag .SLC_SLICE_CTRL_LOG_EN i
  | .EVR_BASE => s.flag .EVR_CTRL_ENABLE i
  | .EVR_HEAD_ADDR => s.flag .EVR_CTRL_ENABLE i
  | .QE_SC_BASE => s.flag .QE_SC_CTRL_ENABLE i
  | .TMP_SRC_RESP => s.flag .TMP_CTRL_RESP_LOCK 0
  | .TMP_EXT_CFG => s.flag .TMP_CTRL_RESP_LOCK 0
  | _ => false

/-- A WO field whose value a later command uses (R484, R485). (DEDUCED: notes/assumptions/71) -/
def heldWO (f : Fld) : Bool := decide (f = .LCO_DIAG_TOKEN_TOKEN) || decide (f = .LCO_PROV_DATA_DATA)

/-- A field after a write of w to it, by its access code (R7). -/
def fieldAfter (acc : Acc) (locked held : Bool) (width old w : Nat) : Nat :=
  match acc with
  | .RW => w
  | .RWL => if locked then old else w
  | .W1C => fieldW1C width old w
  | .W1S => old ||| w
  | .WO => if held then w else old
  | .RO => old
  | .SAT => old

/-- One field of a register written. -/
def State.writeField (s : State) (r : Reg) (i v : Nat) (f : Fld) : State :=
  let acc := f.desc.acc
  if acc = .RO ∨ acc = .SAT ∨ (acc = .WO ∧ !heldWO f) then s
  else s.setF f i (fieldAfter acc (s.locked r i) (heldWO f) f.width (s.getF f i) (bits v f.desc.hi f.desc.lo))

/-- What a write of a register without a row of its own does beside its fields: a slice-table write is accepted, or refused while the log is on (R62,
R80), a source set to 0 is lost
(R415), an alarm that is still active cannot be cleared (R475). -/
def State.writeReg (s : State) (r : Reg) (i v : Nat) : State :=
  let t := r.fields.foldl (fun (t : State) f => t.writeField r i v f) s
  match r with
  | .SLC_SLICE_DPL_BASE => if s.locked r i then s.cfgRefuse i 1 else t.cfgOk i
  | .SLC_SLICE_DPL_CONS => t.cfgOk i
  | .SLC_T_MBX =>
    if s.windowOn i then
      (s.setF .SLC_T_MBX_M2T_VECTOR i (bits v 31 21)).setF .SLC_T_MBX_M2T_IRQ_EN i (bits v 16 16)
    else s
  | .TIM_CTRL =>
    let was := s.getF .TIM_CTRL_SOURCE 0
    if (was = 1 ∨ was = 2) ∧ bits v 1 0 % 3 = 0 then t.sourceLost else t
  | .TMP_SRC_STATUS =>
    if bit v 31 && s.flag .TMP_SRC_STATUS_RAISED i && s.flag .TMP_SRC_STATUS_ACTIVE i then s.clearRefused blkTMP else t
  | _ => t

/-- A write of a register as a whole, where it is written at all: not in END_OF_LIFE, and not where the table has a row of its own for it. (DESIGN CHOICE: notes/assumptions/10; DEDUCED: notes/assumptions/52; DEDUCED: notes/assumptions/70) -/
def State.plainWrite (s : State) (r : Reg) (i v : Nat) : State :=
  if s.getF .LCO_STATE_STATE 0 = 0xF ∨ !regExists r i ∨ ownRows.contains r ∨ ownRowBy r v then s else s.writeReg r i v

/-- The current value of a register's low half, WO fields and action bits taken as 0 (R5). -/
def State.currentLow (s : State) (r : Reg) (i : Nat) : Nat := s.regValue r i % 2 ^ 32

/-- REGISTER_WRITE (R5 to R7): one access to the whole register. (DEDUCED: notes/assumptions/9) -/
def execRegisterWrite (r : Reg) (i : Nat) (v : W64) (s0 : State) : Out := s0.mmio fun s => .next ((s.plainWrite r i v.toNat).setHeld r i 0)

/-- REG64_LOW_HALF_WRITE (R5): held for that register; a second one replaces it. (DEDUCED: notes/assumptions/11) -/
def execReg64LowHalfWrite (r : Reg) (i : Nat) (v : W32) (s0 : State) : Out := s0.mmio fun s =>
  if !r.desc.wide || !decide (i < r.instances) then .next s else .next (s.setHeld r i (v.toNat + 1))

/-- The whole value that a high-half write applies (R5). (DEDUCED: notes/assumptions/11) -/
def State.wholeValue (s : State) (r : Reg) (i : Nat) (v : W32) : W64 :=
  let h := mget (fun _ => 0) s.heldLow (r, i)
  BitVec.ofNat 64 (v.toNat * 2 ^ 32 + if h = 0 then s.currentLow r i else h - 1)

/-- REG64_HIGH_HALF_WRITE (R5): the whole value is applied, as its own command where the register has one; d and img are what a storage completion brings (R110). (DEDUCED: notes/assumptions/11) -/
def execReg64HighHalfWrite (r : Reg) (i : Nat) (v : W32) (d : List Byte) (img : VaultImage) (s0 : State) : Out := s0.mmio fun s =>
  if !r.desc.wide || !decide (i < r.instances) then .next s else
  let w := s.wholeValue r i v
  let s1 := s.setHeld r i 0
  match r with
  | .SEAL_RANGE_KV => execSealRangeWrite .kv w s1
  | .SEAL_RANGE_QRE => execSealRangeWrite .qre w s1
  | .SEAL_RANGE_SLICE => execSealRangeWrite (.slice i) w s1
  | .TIM_SET_SEC => if bit w.toNat 63 then execTimeSet (bits w.toNat 47 0) s1 else .next s1
  | .QE_SC_COMPLETE => execScComplete i (bits w.toNat 31 0) (bits w.toNat 47 32) d img s1
  | _ => .next (s1.plainWrite r i w.toNat)

/-- REG64_LOW_HALF_READ (R5): the low half answered, the high half latched (what is kept is the half plus 1); ENT_SW_DATA's read has a row of its own (R345). -/
def execReg64LowHalfRead (r : Reg) (i : Nat) (s0 : State) : Out := s0.mmio fun s =>
  if !r.desc.wide || !decide (i < r.instances) || decide (r = .ENT_SW_DATA) then .next s else
  let w := s.regValue r i
  let s1 : State := { s with latchedHigh := mset regOrd (fun _ => 0) s.latchedHigh (r, i) (w / 2 ^ 32 + 1) }
  .next (s1.say (.completion (leBytes 4 w)))

end Sys2Proof.Machine
end

