-- ==== Sys2Proof/Machine/Dispatch.lean ====
section
/-! DEFINITION. The dispatch: each command calls its meaning. -/
namespace Sys2Proof.Machine

open Sys2Proof

/-- A command's effect on everything but the queue. -/
def exec (cmd : Instr) (s : State) : Host.Outcome State Fault Refusal :=
  match cmd with
  | .registerWrite r i v => Sys2Proof.Machine.execRegisterWrite r i v s
  | .reg64LowHalfWrite r i v => Sys2Proof.Machine.execReg64LowHalfWrite r i v s
  | .reg64HighHalfWrite r i v d img => Sys2Proof.Machine.execReg64HighHalfWrite r i v d img s
  | .reg64LowHalfRead r i => Sys2Proof.Machine.execReg64LowHalfRead r i s
  | .fabricCodeMismatch => Sys2Proof.Machine.execFabricCodeMismatch s
  | .mmioBadRequest bar a size write => Sys2Proof.Machine.execMmioBadRequest bar a size write s
  | .mmioMemorySpaceDisabled => Sys2Proof.Machine.execMmioMemorySpaceDisabled s
  | .linkDownspeed => Sys2Proof.Machine.execLinkDownspeed s
  | .retrain v => Sys2Proof.Machine.execRetrain v s
  | .linkDown => Sys2Proof.Machine.execLinkDown s
  | .linkQuietTimeExpiry => Sys2Proof.Machine.execLinkQuietTimeExpiry s
  | .linkRecovered speed width => Sys2Proof.Machine.execLinkRecovered speed width s
  | .hostReadFailure w cause => Sys2Proof.Machine.execHostReadFailure w cause s
  | .msixUnmask v => Sys2Proof.Machine.execMsixUnmask v s
  | .ltrIdleTimer => Sys2Proof.Machine.execLtrIdleTimer s
  | .busMasterDisable d3 => Sys2Proof.Machine.execBusMasterDisable d3 s
  | .busMasterEnable => Sys2Proof.Machine.execBusMasterEnable s
  | .flr => Sys2Proof.Machine.execFlr s
  | .doeRequest d => Sys2Proof.Machine.execDoeRequest d s
  | .doeDiscovery => Sys2Proof.Machine.execDoeDiscovery s
  | .doeAbort => Sys2Proof.Machine.execDoeAbort s
  | .spdmGetVersion => Sys2Proof.Machine.execSpdmGetVersion s
  | .spdmGetCertificate => Sys2Proof.Machine.execSpdmGetCertificate s
  | .spdmChallenge => Sys2Proof.Machine.execSpdmChallenge s
  | .spdmGetMeasurements => Sys2Proof.Machine.execSpdmGetMeasurements s
  | .perstAssert => Sys2Proof.Machine.execPerstAssert s
  | .perstRelease => Sys2Proof.Machine.execPerstRelease s
  | .hotReset => Sys2Proof.Machine.execHotReset s
  | .pmeTurnOff => Sys2Proof.Machine.execPmeTurnOff s
  | .ptmExchangeComplete master mid t1 => Sys2Proof.Machine.execPtmExchangeComplete master mid t1 s
  | .ptmIntervalTimer => Sys2Proof.Machine.execPtmIntervalTimer s
  | .sliceEnable sl => Sys2Proof.Machine.execSliceEnable sl s
  | .sliceDisable sl => Sys2Proof.Machine.execSliceDisable sl s
  | .slicePause sl => Sys2Proof.Machine.execSlicePause sl s
  | .sliceUnpause sl => Sys2Proof.Machine.execSliceUnpause sl s
  | .sliceReset sl => Sys2Proof.Machine.execSliceReset sl s
  | .sliceResetComplete sl => Sys2Proof.Machine.execSliceResetComplete sl s
  | .slicePasidWrite sl v => Sys2Proof.Machine.execSlicePasidWrite sl v s
  | .pasidPendingClear sl => Sys2Proof.Machine.execPasidPendingClear sl s
  | .sliceQueuesWrite sl v => Sys2Proof.Machine.execSliceQueuesWrite sl v s
  | .sliceGrantWrite g sl v => Sys2Proof.Machine.execSliceGrantWrite g sl v s
  | .t2mSend sl => Sys2Proof.Machine.execT2mSend sl s
  | .t2mAck sl => Sys2Proof.Machine.execT2mAck sl s
  | .m2tSend sl => Sys2Proof.Machine.execM2tSend sl s
  | .m2tAck sl => Sys2Proof.Machine.execM2tAck sl s
  | .mailboxWrite sl tenant off d => Sys2Proof.Machine.execMailboxWrite sl tenant off d s
  | .dplLogEnable sl en => Sys2Proof.Machine.execDplLogEnable sl en s
  | .newRound sl => Sys2Proof.Machine.execNewRound sl s
  | .doorbellWrite sl i v => Sys2Proof.Machine.execDoorbellWrite sl i v s
  | .entryFetch q k => Sys2Proof.Machine.execEntryFetch q k s
  | .entryReceived q i d => Sys2Proof.Machine.execEntryReceived q i d s
  | .ownWaitRetry q d => Sys2Proof.Machine.execOwnWaitRetry q d s
  | .entryDecode q inT outT => Sys2Proof.Machine.execEntryDecode q inT outT s
  | .jobDispatch p => Sys2Proof.Machine.execJobDispatch p s
  | .jobPark q i => Sys2Proof.Machine.execJobPark q i s
  | .jobResume q i => Sys2Proof.Machine.execJobResume q i s
  | .executionEnd q i => Sys2Proof.Machine.execExecutionEnd q i s
  | .jobCommit q i => Sys2Proof.Machine.execJobCommit q i s
  | .coalTimer e => Sys2Proof.Machine.execCoalTimer e s
  | .evrConsWrite e v => Sys2Proof.Machine.execEvrConsWrite e v s
  | .evrOverflowClear e => Sys2Proof.Machine.execEvrOverflowClear e s
  | .queueEnable q v => Sys2Proof.Machine.execQueueEnable q v s
  | .queueDisable q v => Sys2Proof.Machine.execQueueDisable q v s
  | .queueReset q v => Sys2Proof.Machine.execQueueReset q v s
  | .evrEnable e v => Sys2Proof.Machine.execEvrEnable e v s
  | .scPost => Sys2Proof.Machine.execScPost s
  | .scHoldoffTimer c => Sys2Proof.Machine.execScHoldoffTimer c s
  | .scComplete c tag status d v => Sys2Proof.Machine.execScComplete c tag status d v s
  | .scSlotTimeout c tag => Sys2Proof.Machine.execScSlotTimeout c tag s
  | .scEnable c v => Sys2Proof.Machine.execScEnable c v s
  | .scDisable c v => Sys2Proof.Machine.execScDisable c v s
  | .nop q i => Sys2Proof.Machine.execNop q i s
  | .kemKeygen q i => Sys2Proof.Machine.execKemKeygen q i s
  | .kemEncaps q i inp => Sys2Proof.Machine.execKemEncaps q i inp s
  | .kemDecaps q i inp => Sys2Proof.Machine.execKemDecaps q i inp s
  | .sigKeygen q i => Sys2Proof.Machine.execSigKeygen q i s
  | .sigSign q i inp => Sys2Proof.Machine.execSigSign q i inp s
  | .sigVerify q i inp => Sys2Proof.Machine.execSigVerify q i inp s
  | .sigVerifyBatch q i inp => Sys2Proof.Machine.execSigVerifyBatch q i inp s
  | .keyAgree q i inp => Sys2Proof.Machine.execKeyAgree q i inp s
  | .hybridKem q i inp => Sys2Proof.Machine.execHybridKem q i inp s
  | .hash q i inp => Sys2Proof.Machine.execHash q i inp s
  | .hmac q i inp => Sys2Proof.Machine.execHmac q i inp s
  | .kmac q i inp => Sys2Proof.Machine.execKmac q i inp s
  | .kdf q i inp => Sys2Proof.Machine.execKdf q i inp s
  | .aeadEncrypt q i inp => Sys2Proof.Machine.execAeadEncrypt q i inp s
  | .aeadDecrypt q i inp => Sys2Proof.Machine.execAeadDecrypt q i inp s
  | .xtsEncrypt q i inp => Sys2Proof.Machine.execXtsEncrypt q i inp s
  | .xtsDecrypt q i inp => Sys2Proof.Machine.execXtsDecrypt q i inp s
  | .keyWrap q i inp => Sys2Proof.Machine.execKeyWrap q i inp s
  | .keyUnwrap q i inp => Sys2Proof.Machine.execKeyUnwrap q i inp s
  | .cmac q i inp => Sys2Proof.Machine.execCmac q i inp s
  | .random q i => Sys2Proof.Machine.execRandom q i s
  | .keyImport q i inp => Sys2Proof.Machine.execKeyImport q i inp s
  | .keyExportWrapped q i => Sys2Proof.Machine.execKeyExportWrapped q i s
  | .keyDestroy q i => Sys2Proof.Machine.execKeyDestroy q i s
  | .keyDestroyCommit k => Sys2Proof.Machine.execKeyDestroyCommit k s
  | .keyInfo q i => Sys2Proof.Machine.execKeyInfo q i s
  | .keyDerive q i inp => Sys2Proof.Machine.execKeyDerive q i inp s
  | .statefulReserve q i => Sys2Proof.Machine.execStatefulReserve q i s
  | .ledgerAppend q i inp => Sys2Proof.Machine.execLedgerAppend q i inp s
  | .ledgerCheckpoint q i => Sys2Proof.Machine.execLedgerCheckpoint q i s
  | .ledgerProveInclusion q i => Sys2Proof.Machine.execLedgerProveInclusion q i s
  | .ledgerProveConsistency q i => Sys2Proof.Machine.execLedgerProveConsistency q i s
  | .ledgerRead q i => Sys2Proof.Machine.execLedgerRead q i s
  | .streamOpen q i => Sys2Proof.Machine.execStreamOpen q i s
  | .streamClose q i => Sys2Proof.Machine.execStreamClose q i s
  | .sealWrite q i inp => Sys2Proof.Machine.execSealWrite q i inp s
  | .sealRead q i => Sys2Proof.Machine.execSealRead q i s
  | .sealAnchorWarm q i => Sys2Proof.Machine.execSealAnchorWarm q i s
  | .sealAnchorCold q i => Sys2Proof.Machine.execSealAnchorCold q i s
  | .coldAnchorEpochBurn ok => Sys2Proof.Machine.execColdAnchorEpochBurn ok s
  | .timeStamp q i inp => Sys2Proof.Machine.execTimeStamp q i inp s
  | .timeRead q i => Sys2Proof.Machine.execTimeRead q i s
  | .kernelRun q i inp => Sys2Proof.Machine.execKernelRun q i inp s
  | .kernelInfo q i => Sys2Proof.Machine.execKernelInfo q i s
  | .kernelLoad q i inp => Sys2Proof.Machine.execKernelLoad q i inp s
  | .kernelUnload q i => Sys2Proof.Machine.execKernelUnload q i s
  | .patchQuery q i => Sys2Proof.Machine.execPatchQuery q i s
  | .selfTest q i fails => Sys2Proof.Machine.execSelfTest q i fails s
  | .lcInfo q i => Sys2Proof.Machine.execLcInfo q i s
  | .attest q i inp => Sys2Proof.Machine.execAttest q i inp s
  | .recordPlace q i => Sys2Proof.Machine.execRecordPlace q i s
  | .engineFault q i unit cause part place => Sys2Proof.Machine.execEngineFault q i unit cause part place s
  | .binderRestart b t cause => Sys2Proof.Machine.execBinderRestart b t cause s
  | .binderPreciseHalt b t cause => Sys2Proof.Machine.execBinderPreciseHalt b t cause s
  | .binderResume b atNext => Sys2Proof.Machine.execBinderResume b atNext s
  | .seqBinderEnableWrite v => Sys2Proof.Machine.execSeqBinderEnableWrite v s
  | .microwordAlu b t q i o dst src arg => Sys2Proof.Machine.execMicrowordAlu b t q i o dst src arg s
  | .microwordField b t q i f insert reg lo len => Sys2Proof.Machine.execMicrowordField b t q i f insert reg lo len s
  | .microwordBranch b t q i kind cond target => Sys2Proof.Machine.execMicrowordBranch b t q i kind cond target s
  | .microwordDispatch b t q i reg table => Sys2Proof.Machine.execMicrowordDispatch b t q i reg table s
  | .microwordRequest b t q i tag reg => Sys2Proof.Machine.execMicrowordRequest b t q i tag reg s
  | .microwordWait b t q i tags => Sys2Proof.Machine.execMicrowordWait b t q i tags s
  | .microwordCheck b t q i cond target inT outT => Sys2Proof.Machine.execMicrowordCheck b t q i cond target inT outT s
  | .microwordAccept b t q i inT outT => Sys2Proof.Machine.execMicrowordAccept b t q i inT outT s
  | .microwordStage b t q i src dst pos n dest => Sys2Proof.Machine.execMicrowordStage b t q i src dst pos n dest s
  | .microwordCommit b t q i => Sys2Proof.Machine.execMicrowordCommit b t q i s
  | .microwordHostwrite b t q i => Sys2Proof.Machine.execMicrowordHostwrite b t q i s
  | .microwordEnd b t q i => Sys2Proof.Machine.execMicrowordEnd b t q i s
  | .jobPlace q i => Sys2Proof.Machine.execJobPlace q i s
  | .quarterLoaded c n inp => Sys2Proof.Machine.execQuarterLoaded c n inp s
  | .coreSwitch c => Sys2Proof.Machine.execCoreSwitch c s
  | .bundleExecute c => Sys2Proof.Machine.execBundleExecute c s
  | .jobSuspend c => Sys2Proof.Machine.execJobSuspend c s
  | .jobUnsuspend c n => Sys2Proof.Machine.execJobUnsuspend c n s
  | .drainComplete q i inp => Sys2Proof.Machine.execDrainComplete q i inp s
  | .quarterScrubComplete c n => Sys2Proof.Machine.execQuarterScrubComplete c n s
  | .marCoreReset c ecc bundle => Sys2Proof.Machine.execMarCoreReset c ecc bundle s
  | .marCoreEnableWrite v => Sys2Proof.Machine.execMarCoreEnableWrite v s
  | .marFaultResume c v => Sys2Proof.Machine.execMarFaultResume c v s
  | .aluAdd c u src field => Sys2Proof.Machine.execAluAdd c u src field s
  | .aluSub c u src field => Sys2Proof.Machine.execAluSub c u src field s
  | .aluAnd c u src field => Sys2Proof.Machine.execAluAnd c u src field s
  | .aluOr c u src field => Sys2Proof.Machine.execAluOr c u src field s
  | .aluXor c u src field => Sys2Proof.Machine.execAluXor c u src field s
  | .aluAndn c u src field => Sys2Proof.Machine.execAluAndn c u src field s
  | .aluShl c u src field => Sys2Proof.Machine.execAluShl c u src field s
  | .aluShr c u src field => Sys2Proof.Machine.execAluShr c u src field s
  | .aluSar c u src field => Sys2Proof.Machine.execAluSar c u src field s
  | .aluMinu c u src field => Sys2Proof.Machine.execAluMinu c u src field s
  | .aluMaxu c u src field => Sys2Proof.Machine.execAluMaxu c u src field s
  | .aluMul c u src field => Sys2Proof.Machine.execAluMul c u src field s
  | .aluPass c u src field => Sys2Proof.Machine.execAluPass c u src field s
  | .aluCmpeq c u src field => Sys2Proof.Machine.execAluCmpeq c u src field s
  | .aluCmpne c u src field => Sys2Proof.Machine.execAluCmpne c u src field s
  | .aluCmpltu c u src field => Sys2Proof.Machine.execAluCmpltu c u src field s
  | .aluCmplts c u src field => Sys2Proof.Machine.execAluCmplts c u src field s
  | .aluCmpleu c u src field => Sys2Proof.Machine.execAluCmpleu c u src field s
  | .valuAdd c u src field => Sys2Proof.Machine.execValuAdd c u src field s
  | .valuSub c u src field => Sys2Proof.Machine.execValuSub c u src field s
  | .valuAnd c u src field => Sys2Proof.Machine.execValuAnd c u src field s
  | .valuOr c u src field => Sys2Proof.Machine.execValuOr c u src field s
  | .valuXor c u src field => Sys2Proof.Machine.execValuXor c u src field s
  | .valuAndn c u src field => Sys2Proof.Machine.execValuAndn c u src field s
  | .valuShl c u src field => Sys2Proof.Machine.execValuShl c u src field s
  | .valuShr c u src field => Sys2Proof.Machine.execValuShr c u src field s
  | .valuSar c u src field => Sys2Proof.Machine.execValuSar c u src field s
  | .valuMinu c u src field => Sys2Proof.Machine.execValuMinu c u src field s
  | .valuMaxu c u src field => Sys2Proof.Machine.execValuMaxu c u src field s
  | .valuMins c u src field => Sys2Proof.Machine.execValuMins c u src field s
  | .valuMaxs c u src field => Sys2Proof.Machine.execValuMaxs c u src field s
  | .valuCmpeq c u src field => Sys2Proof.Machine.execValuCmpeq c u src field s
  | .valuCmpltu c u src field => Sys2Proof.Machine.execValuCmpltu c u src field s
  | .valuCmplts c u src field => Sys2Proof.Machine.execValuCmplts c u src field s
  | .valuBlend c u src field => Sys2Proof.Machine.execValuBlend c u src field s
  | .valuBcast c u src field => Sys2Proof.Machine.execValuBcast c u src field s
  | .valuMullo c u src field => Sys2Proof.Machine.execValuMullo c u src field s
  | .valuWiden c u src field => Sys2Proof.Machine.execValuWiden c u src field s
  | .valuNarrow c u src field => Sys2Proof.Machine.execValuNarrow c u src field s
  | .mmulMul c src field => Sys2Proof.Machine.execMmulMul c src field s
  | .mmulMac c src field => Sys2Proof.Machine.execMmulMac c src field s
  | .mmulMacz c src field => Sys2Proof.Machine.execMmulMacz c src field s
  | .mmulMld c src field => Sys2Proof.Machine.execMmulMld c src field s
  | .maddAdd c src field => Sys2Proof.Machine.execMaddAdd c src field s
  | .maddSub c src field => Sys2Proof.Machine.execMaddSub c src field s
  | .maddRed c src field => Sys2Proof.Machine.execMaddRed c src field s
  | .maddNeg c src field => Sys2Proof.Machine.execMaddNeg c src field s
  | .maddCent c src field => Sys2Proof.Machine.execMaddCent c src field s
  | .maddRedq c src field => Sys2Proof.Machine.execMaddRedq c src field s
  | .maddMld c src field => Sys2Proof.Machine.execMaddMld c src field s
  | .bfyCt c u src field => Sys2Proof.Machine.execBfyCt c u src field s
  | .bfyGs c u src field => Sys2Proof.Machine.execBfyGs c u src field s
  | .bfyCtp c u src field => Sys2Proof.Machine.execBfyCtp c u src field s
  | .bfyGsp c u src field => Sys2Proof.Machine.execBfyGsp c u src field s
  | .bfyMld c u src field => Sys2Proof.Machine.execBfyMld c u src field s
  | .fxpSadd c src field => Sys2Proof.Machine.execFxpSadd c src field s
  | .fxpSsub c src field => Sys2Proof.Machine.execFxpSsub c src field s
  | .fxpUadd c src field => Sys2Proof.Machine.execFxpUadd c src field s
  | .fxpUsub c src field => Sys2Proof.Machine.execFxpUsub c src field s
  | .fxpRshru c src field => Sys2Proof.Machine.execFxpRshru c src field s
  | .fxpRshre c src field => Sys2Proof.Machine.execFxpRshre c src field s
  | .fxpSshl c src field => Sys2Proof.Machine.execFxpSshl c src field s
  | .fxpSmulrh c src field => Sys2Proof.Machine.execFxpSmulrh c src field s
  | .fxpSabs c src field => Sys2Proof.Machine.execFxpSabs c src field s
  | .fxpClamp c src field => Sys2Proof.Machine.execFxpClamp c src field s
  | .fxpGetsat c src field => Sys2Proof.Machine.execFxpGetsat c src field s
  | .bitfExt c src field => Sys2Proof.Machine.execBitfExt c src field s
  | .bitfIns c src field => Sys2Proof.Machine.execBitfIns c src field s
  | .bitfPack c src field => Sys2Proof.Machine.execBitfPack c src field s
  | .bitfUnpack c src field => Sys2Proof.Machine.execBitfUnpack c src field s
  | .bitfSext c src field => Sys2Proof.Machine.execBitfSext c src field s
  | .clzClz c src field => Sys2Proof.Machine.execClzClz c src field s
  | .clzCtz c src field => Sys2Proof.Machine.execClzCtz c src field s
  | .clzPopc c src field => Sys2Proof.Machine.execClzPopc c src field s
  | .permBperm c src field => Sys2Proof.Machine.execPermBperm c src field s
  | .permBrev c src field => Sys2Proof.Machine.execPermBrev c src field s
  | .lsuLd c src field => Sys2Proof.Machine.execLsuLd c src field s
  | .lsuSt c src field => Sys2Proof.Machine.execLsuSt c src field s
  | .lsuLdr c src field => Sys2Proof.Machine.execLsuLdr c src field s
  | .lsuStr c src field => Sys2Proof.Machine.execLsuStr c src field s
  | .lsuLdv c src field => Sys2Proof.Machine.execLsuLdv c src field s
  | .lsuStv c src field => Sys2Proof.Machine.execLsuStv c src field s
  | .lsuStvm c src field => Sys2Proof.Machine.execLsuStvm c src field s
  | .gsuGather c src field => Sys2Proof.Machine.execGsuGather c src field s
  | .gsuScatter c src field => Sys2Proof.Machine.execGsuScatter c src field s
  | .xsLd c src field => Sys2Proof.Machine.execXsLd c src field s
  | .xsSt c src field => Sys2Proof.Machine.execXsSt c src field s
  | .xsLdv c src field => Sys2Proof.Machine.execXsLdv c src field s
  | .xsStv c src field => Sys2Proof.Machine.execXsStv c src field s
  | .xsLr c src field => Sys2Proof.Machine.execXsLr c src field s
  | .xsSc c src field => Sys2Proof.Machine.execXsSc c src field s
  | .hpOpen c src field => Sys2Proof.Machine.execHpOpen c src field s
  | .hpAbsorb c src field => Sys2Proof.Machine.execHpAbsorb c src field s
  | .hpFinal c src field => Sys2Proof.Machine.execHpFinal c src field s
  | .hpSqueeze c src field => Sys2Proof.Machine.execHpSqueeze c src field s
  | .hpSqueeze1 c src field => Sys2Proof.Machine.execHpSqueeze1 c src field s
  | .hpClose c src field => Sys2Proof.Machine.execHpClose c src field s
  | .smpUnif12 c src field => Sys2Proof.Machine.execSmpUnif12 c src field s
  | .smpUnif23 c src field => Sys2Proof.Machine.execSmpUnif23 c src field s
  | .smpUnif16 c src field => Sys2Proof.Machine.execSmpUnif16 c src field s
  | .smpCbd2 c src field => Sys2Proof.Machine.execSmpCbd2 c src field s
  | .smpCbd3 c src field => Sys2Proof.Machine.execSmpCbd3 c src field s
  | .smpBound2 c src field => Sys2Proof.Machine.execSmpBound2 c src field s
  | .smpBound4 c src field => Sys2Proof.Machine.execSmpBound4 c src field s
  | .smpRaw c src field => Sys2Proof.Machine.execSmpRaw c src field s
  | .mskRand c src field => Sys2Proof.Machine.execMskRand c src field s
  | .mskRandq c src field => Sys2Proof.Machine.execMskRandq c src field s
  | .mskShare2 c src field => Sys2Proof.Machine.execMskShare2 c src field s
  | .mskShare3 c src field => Sys2Proof.Machine.execMskShare3 c src field s
  | .mskRefresh2 c src field => Sys2Proof.Machine.execMskRefresh2 c src field s
  | .mskRefresh3 c src field => Sys2Proof.Machine.execMskRefresh3 c src field s
  | .mskRelease2 c src field => Sys2Proof.Machine.execMskRelease2 c src field s
  | .mskRelease3 c src field => Sys2Proof.Machine.execMskRelease3 c src field s
  | .twrWrite c src field => Sys2Proof.Machine.execTwrWrite c src field s
  | .ctlJump c src field => Sys2Proof.Machine.execCtlJump c src field s
  | .ctlCall c src field => Sys2Proof.Machine.execCtlCall c src field s
  | .ctlBreak c src field => Sys2Proof.Machine.execCtlBreak c src field s
  | .ctlEnd c src field => Sys2Proof.Machine.execCtlEnd c src field s
  | .ctlSync c src field => Sys2Proof.Machine.execCtlSync c src field s
  | .hashCallStart n q i sha2 masked fin blocks => Sys2Proof.Machine.execHashCallStart n q i sha2 masked fin blocks s
  | .hashCallEnd c good storeOk => Sys2Proof.Machine.execHashCallEnd c good storeOk s
  | .hashChainCall n q i masked start pos steps value adrs => Sys2Proof.Machine.execHashChainCall n q i masked start pos steps value adrs s
  | .maskedCallWaitTimeout n => Sys2Proof.Machine.execMaskedCallWaitTimeout n s
  | .hshCoreEnableWrite v => Sys2Proof.Machine.execHshCoreEnableWrite v s
  | .cdeKeygenAttemptEnd q i ok replaced => Sys2Proof.Machine.execCdeKeygenAttemptEnd q i ok replaced s
  | .cdePairwiseTest q i ok => Sys2Proof.Machine.execCdePairwiseTest q i ok s
  | .cdeUnitReset u => Sys2Proof.Machine.execCdeUnitReset u s
  | .cdeUnitEnableWrite v => Sys2Proof.Machine.execCdeUnitEnableWrite v s
  | .bgnValidationEnd q i inp => Sys2Proof.Machine.execBgnValidationEnd q i inp s
  | .bgnComputationEnd q i inp equal => Sys2Proof.Machine.execBgnComputationEnd q i inp equal s
  | .bgnMulEnableWrite v => Sys2Proof.Machine.execBgnMulEnableWrite v s
  | .strYield q i => Sys2Proof.Machine.execStrYield q i s
  | .strPipeEnableWrite v => Sys2Proof.Machine.execStrPipeEnableWrite v s
  | .cellHealthFail c test => Sys2Proof.Machine.execCellHealthFail c test s
  | .cellRetestComplete c test => Sys2Proof.Machine.execCellRetestComplete c test s
  | .entCellEnableWrite v => Sys2Proof.Machine.execEntCellEnableWrite v s
  | .conditionerOutput => Sys2Proof.Machine.execConditionerOutput s
  | .drbgReseed d => Sys2Proof.Machine.execDrbgReseed d s
  | .drbgStall d => Sys2Proof.Machine.execDrbgStall d s
  | .stringSeedDelivery k => Sys2Proof.Machine.execStringSeedDelivery k s
  | .maskGenReseedRequest k => Sys2Proof.Machine.execMaskGenReseedRequest k s
  | .maskGenDeadline k => Sys2Proof.Machine.execMaskGenDeadline k s
  | .entStartupTested fails => Sys2Proof.Machine.execEntStartupTested fails s
  | .entropyWaitTimeout q i => Sys2Proof.Machine.execEntropyWaitTimeout q i s
  | .entQuietTimeExpiry => Sys2Proof.Machine.execEntQuietTimeExpiry s
  | .entRestartComplete fails => Sys2Proof.Machine.execEntRestartComplete fails s
  | .entErrClearRestart v => Sys2Proof.Machine.execEntErrClearRestart v s
  | .entSwDataRead whole => Sys2Proof.Machine.execEntSwDataRead whole s
  | .hotKeyLoad k => Sys2Proof.Machine.execHotKeyLoad k s
  | .hotStoreEccError k localOk recordOk => Sys2Proof.Machine.execHotStoreEccError k localOk recordOk s
  | .commitGroupClose => Sys2Proof.Machine.execCommitGroupClose s
  | .sealRetryTimer => Sys2Proof.Machine.execSealRetryTimer s
  | .storageTimeLimit q i => Sys2Proof.Machine.execStorageTimeLimit q i s
  | .storeOpen v => Sys2Proof.Machine.execStoreOpen v s
  | .forceOpen v img => Sys2Proof.Machine.execForceOpen v img s
  | .format v => Sys2Proof.Machine.execFormat v s
  | .sealCtrlRefused v => Sys2Proof.Machine.execSealCtrlRefused v s
  | .sealRangeWrite r v => Sys2Proof.Machine.execSealRangeWrite r v s
  | .qreStreamStateLoaded img => Sys2Proof.Machine.execQreStreamStateLoaded img s
  | .streamRelease v => Sys2Proof.Machine.execStreamRelease v s
  | .journalEvent ev d => Sys2Proof.Machine.execJournalEvent ev d s
  | .ppsEdge => Sys2Proof.Machine.execPpsEdge s
  | .ref10mMeasurement f => Sys2Proof.Machine.execRef10mMeasurement f s
  | .slewComplete => Sys2Proof.Machine.execSlewComplete s
  | .timSlewRateWrite v => Sys2Proof.Machine.execTimSlewRateWrite v s
  | .timeSet sec => Sys2Proof.Machine.execTimeSet sec s
  | .timeSourceLoss => Sys2Proof.Machine.execTimeSourceLoss s
  | .holdoverLimitExpiry => Sys2Proof.Machine.execHoldoverLimitExpiry s
  | .timNowRead => Sys2Proof.Machine.execTimNowRead s
  | .ppsOutPulse => Sys2Proof.Machine.execPpsOutPulse s
  | .descriptorPost c a => Sys2Proof.Machine.execDescriptorPost c a s
  | .dmaBurst c data => Sys2Proof.Machine.execDmaBurst c data s
  | .dmaDescriptorEnd c => Sys2Proof.Machine.execDmaDescriptorEnd c s
  | .dmaCancel q i => Sys2Proof.Machine.execDmaCancel q i s
  | .lmcMacFailure w ch addr again => Sys2Proof.Machine.execLmcMacFailure w ch addr again s
  | .lmcRetrain cause ch addr jobs => Sys2Proof.Machine.execLmcRetrain cause ch addr jobs s
  | .lmcRetrainComplete => Sys2Proof.Machine.execLmcRetrainComplete s
  | .lmcQuietTimeExpiry => Sys2Proof.Machine.execLmcQuietTimeExpiry s
  | .lmcTrainingComplete gib ranks2 matched => Sys2Proof.Machine.execLmcTrainingComplete gib ranks2 matched s
  | .tamperAlarm n det => Sys2Proof.Machine.execTamperAlarm n det s
  | .detectorDisagree n => Sys2Proof.Machine.execDetectorDisagree n s
  | .tamperEventResponse => Sys2Proof.Machine.execTamperEventResponse s
  | .tmpUnlock v => Sys2Proof.Machine.execTmpUnlock v s
  | .tmpResume v => Sys2Proof.Machine.execTmpResume v s
  | .tmpRespLock v => Sys2Proof.Machine.execTmpRespLock v s
  | .otpIntegrityCheck bad => Sys2Proof.Machine.execOtpIntegrityCheck bad s
  | .lcoTransition v => Sys2Proof.Machine.execLcoTransition v s
  | .otpWordDone ok => Sys2Proof.Machine.execOtpWordDone ok s
  | .diagEnter v => Sys2Proof.Machine.execDiagEnter v s
  | .provFieldWrite v => Sys2Proof.Machine.execProvFieldWrite v s
  | .provClose v => Sys2Proof.Machine.execProvClose v s
  | .mainPowerOnReset bbkOk coreLow => Sys2Proof.Machine.execMainPowerOnReset bbkOk coreLow s
  | .bootBundleLoaded slot flashOk d => Sys2Proof.Machine.execBootBundleLoaded slot flashOk d s
  | .bootSelftestComplete binders cores hash cde bgn str => Sys2Proof.Machine.execBootSelftestComplete binders cores hash cde bgn str s
  | .bootRetry v d => Sys2Proof.Machine.execBootRetry v d s
  | .bootProgram v d => Sys2Proof.Machine.execBootProgram v d s
  | .bootProgramComplete good => Sys2Proof.Machine.execBootProgramComplete good s
  | .raiseMin v => Sys2Proof.Machine.execRaiseMin v s
  | .idleEntry => Sys2Proof.Machine.execIdleEntry s
  | .dozeEntry => Sys2Proof.Machine.execDozeEntry s
  | .wake => Sys2Proof.Machine.execWake s
  | .mainRailsOff => Sys2Proof.Machine.execMainRailsOff s
  | .vauxLoss => Sys2Proof.Machine.execVauxLoss s
  | .vauxReturn => Sys2Proof.Machine.execVauxReturn s
  | .aoPowerOnReset vaux => Sys2Proof.Machine.execAoPowerOnReset vaux s
  | .deepWakeSource n => Sys2Proof.Machine.execDeepWakeSource n s
  | .vbatMeasure mv => Sys2Proof.Machine.execVbatMeasure mv s
  | .governorWindow avg cur => Sys2Proof.Machine.execGovernorWindow avg cur s
  | .thermalReading sensor t => Sys2Proof.Machine.execThermalReading sensor t s
  | .thermtrip => Sys2Proof.Machine.execThermtrip s
  | .braceEnter rail mv => Sys2Proof.Machine.execBraceEnter rail mv s
  | .braceLift v => Sys2Proof.Machine.execBraceLift v s
  | .errStatusClear blk v => Sys2Proof.Machine.execErrStatusClear blk v s
  | .errIrqEnWrite blk v => Sys2Proof.Machine.execErrIrqEnWrite blk v s
  | .smbReadTemp withPec => Sys2Proof.Machine.execSmbReadTemp withPec s
  | .smbReadStatus withPec => Sys2Proof.Machine.execSmbReadStatus withPec s
  | .smbReadPower withPec => Sys2Proof.Machine.execSmbReadPower withPec s
  | .smbReadAlertStatus withPec => Sys2Proof.Machine.execSmbReadAlertStatus withPec s
  | .smbClearAlertStatus v sent => Sys2Proof.Machine.execSmbClearAlertStatus v sent s
  | .smbReadPowerLimit withPec => Sys2Proof.Machine.execSmbReadPowerLimit withPec s
  | .smbReadIdentity withPec => Sys2Proof.Machine.execSmbReadIdentity withPec s
  | .smbBadCommand code pecBad => Sys2Proof.Machine.execSmbBadCommand code pecBad s
  | .smbAlertResponse => Sys2Proof.Machine.execSmbAlertResponse s
  | .smbClockLowTimeout => Sys2Proof.Machine.execSmbClockLowTimeout s
  | .spdmGetCapabilities => Sys2Proof.Machine.execSpdmGetCapabilities s
  | .spdmNegotiateAlgorithms => Sys2Proof.Machine.execSpdmNegotiateAlgorithms s
  | .spdmGetDigests => Sys2Proof.Machine.execSpdmGetDigests s
  | .linkUp speed width => Sys2Proof.Machine.execLinkUp speed width s
  | .linkL1Entry pm => Sys2Proof.Machine.execLinkL1Entry pm s
  | .configRequest off v => Sys2Proof.Machine.execConfigRequest off v s
  | .receiverError => Sys2Proof.Machine.execReceiverError s
  | .replayTimerTimeout => Sys2Proof.Machine.execReplayTimerTimeout s
  | .scratchPageScrubComplete g p => Sys2Proof.Machine.execScratchPageScrubComplete g p s
  | .cdeZeroizeComplete n => Sys2Proof.Machine.execCdeZeroizeComplete n s
  | .aoTrimMeasurement ppb => Sys2Proof.Machine.execAoTrimMeasurement ppb s
  | .ref10mValidityChange ok => Sys2Proof.Machine.execRef10mValidityChange ok s
  | .tamperConditionEnd n => Sys2Proof.Machine.execTamperConditionEnd n s
  | .braceRailRecovery rail mv above => Sys2Proof.Machine.execBraceRailRecovery rail mv above s

end Sys2Proof.Machine
end

