-- ==== Sys2Proof/Machine/Step.lean ====
section
/-! DEFINITION. One step: the command at the front of the queue, or one tick of time when none waits. -/
namespace Sys2Proof.Machine

open Sys2Proof

/-- One step. (DESIGN CHOICE: notes/assumptions/1; DESIGN CHOICE: notes/assumptions/2; DESIGN CHOICE: notes/assumptions/79) -/
def step (s : State) : Host.Outcome State Fault Refusal :=
  match s.pending with
  | [] => .next s.idle
  | c :: rest => exec c { s with pending := rest }

/-- The state with the command that a word spells put at the front of its queue; no word spells one. (DESIGN CHOICE: notes/assumptions/3) -/
def State.withFetchWord (s : State) (nbits w : Nat) : State :=
  match decodeTableWord nbits w with
  | some c => { s with pending := c :: s.pending }
  | none => s

end Sys2Proof.Machine
end

