-- ==== Sys2Proof/WellFormed.lean ====
section
/-! DEFINITION. Which commands the hardware can be given: the ranges of the instance numbers and encoded fields of the operands. -/
namespace Sys2Proof

/-- A number below a count of instances, or below what its field holds. -/
def below (n x : Nat) : Bool := decide (x < n)

/-- A number of at least n. -/
def atLeast (n x : Nat) : Bool := decide (n ≤ x)

/-- A device queue: 16,384 of them (R67). -/
def isQueue (q : Nat) : Bool := below 16384 q

/-- A place in the ring of a device queue: a ring has at most 2^16 entries (R88). -/
def isPlace (q i : Nat) : Bool := isQueue q && below 65536 i

/-- A slice: 4,096 of them (R60). -/
def isSlice (s : Nat) : Bool := below 4096 s

/-- A key index: 1 to 65,535 (R347). -/
def isKey (k : Nat) : Bool := atLeast 1 k && below 65536 k

/-- A register with an instance of that number. The registers of event rings are numbered by device ring. -/
def isRegister (r : Machine.Reg) (i : Nat) : Bool := below (if r = .EVR_T_CONS ∨ r = .EVR_T_STATUS then 4096 else r.desc.count) i

/-- The eight words of a command entry (R89). -/
def isEntry (d : List Byte) : Bool := decide (d.length = 64)

/-- A link speed: 2.5 to 32 GT/s as 1 to 5 (R59). -/
def isSpeed (v : Nat) : Bool := atLeast 1 v && below 6 v

/-- A link width: 1, 2, 4 or 8 lanes (R34). -/
def isWidth (w : Nat) : Bool := [1, 2, 4, 8].contains w

/-- An L1 state of PM_STATE: L1, L1.1 or L1.2 (R47). -/
def isL1 (pm : Nat) : Bool := atLeast 1 pm && below 4 pm

/-- The byte address of a dword of configuration space. -/
def isConfigDword (a : Nat) : Bool := a % 4 == 0 && below 4096 a

/-- SECONDS: 48 bits (R405). -/
def isSeconds (v : Nat) : Bool := below (2 ^ 48) v

/-- A bit field of a 64-bit word. -/
def isField (lo len : Nat) : Bool := atLeast 1 len && decide (lo + len ≤ 64)

/-- The command's operands are in their ranges. -/
def Instr.wf (c : Instr) : Bool :=
  match c with
  | .registerWrite r i _ => isRegister r i
  | .reg64LowHalfWrite r i _ => isRegister r i
  | .reg64HighHalfWrite r i _ _ _ => isRegister r i
  | .reg64LowHalfRead r i => isRegister r i
  | .fabricCodeMismatch => true
  | .mmioBadRequest bar _ size _ => below 3 bar && atLeast 1 size
  | .mmioMemorySpaceDisabled => true
  | .linkDownspeed => true
  | .retrain _ => true
  | .linkDown => true
  | .linkQuietTimeExpiry => true
  | .linkRecovered speed width => isSpeed speed && isWidth width
  | .hostReadFailure _ cause => below 256 cause
  | .msixUnmask _ => true
  | .ltrIdleTimer => true
  | .busMasterDisable _ => true
  | .busMasterEnable => true
  | .flr => true
  | .doeRequest _ => true
  | .doeDiscovery => true
  | .doeAbort => true
  | .spdmGetVersion => true
  | .spdmGetCertificate => true
  | .spdmChallenge => true
  | .spdmGetMeasurements => true
  | .perstAssert => true
  | .perstRelease => true
  | .hotReset => true
  | .pmeTurnOff => true
  | .ptmExchangeComplete _ _ _ => true
  | .ptmIntervalTimer => true
  | .sliceEnable sl => isSlice sl
  | .sliceDisable sl => isSlice sl
  | .slicePause sl => isSlice sl
  | .sliceUnpause sl => isSlice sl
  | .sliceReset sl => isSlice sl
  | .sliceResetComplete sl => isSlice sl
  | .slicePasidWrite sl _ => isSlice sl
  | .pasidPendingClear sl => isSlice sl
  | .sliceQueuesWrite sl _ => isSlice sl
  | .sliceGrantWrite _ sl _ => isSlice sl
  | .t2mSend sl => isSlice sl
  | .t2mAck sl => isSlice sl
  | .m2tSend sl => isSlice sl
  | .m2tAck sl => isSlice sl
  | .mailboxWrite sl _ off _ => isSlice sl && below 256 off
  | .dplLogEnable sl _ => isSlice sl
  | .newRound sl => isSlice sl
  | .doorbellWrite sl i _ => isSlice sl && below 1024 i
  | .entryFetch q k => isQueue q && atLeast 1 k
  | .entryReceived q i d => isPlace q i && isEntry d
  | .ownWaitRetry q d => isQueue q && isEntry d
  | .entryDecode q _ _ => isQueue q
  | .jobDispatch _ => true
  | .jobPark q i => isPlace q i
  | .jobResume q i => isPlace q i
  | .executionEnd q i => isPlace q i
  | .jobCommit q i => isPlace q i
  | .coalTimer e => below 4096 e
  | .evrConsWrite e _ => below 4096 e
  | .evrOverflowClear e => below 4096 e
  | .queueEnable q _ => isQueue q
  | .queueDisable q _ => isQueue q
  | .queueReset q _ => isQueue q
  | .evrEnable e _ => below 4096 e
  | .scPost => true
  | .scHoldoffTimer c => below 4 c
  | .scComplete c tag status _ _ => below 4 c && below 4294967296 tag && below 65536 status
  | .scSlotTimeout c tag => below 4 c && below 4294967296 tag
  | .scEnable c _ => below 4 c
  | .scDisable c _ => below 4 c
  | .nop q i => isPlace q i
  | .kemKeygen q i => isPlace q i
  | .kemEncaps q i _ => isPlace q i
  | .kemDecaps q i _ => isPlace q i
  | .sigKeygen q i => isPlace q i
  | .sigSign q i _ => isPlace q i
  | .sigVerify q i _ => isPlace q i
  | .sigVerifyBatch q i _ => isPlace q i
  | .keyAgree q i _ => isPlace q i
  | .hybridKem q i _ => isPlace q i
  | .hash q i _ => isPlace q i
  | .hmac q i _ => isPlace q i
  | .kmac q i _ => isPlace q i
  | .kdf q i _ => isPlace q i
  | .aeadEncrypt q i _ => isPlace q i
  | .aeadDecrypt q i _ => isPlace q i
  | .xtsEncrypt q i _ => isPlace q i
  | .xtsDecrypt q i _ => isPlace q i
  | .keyWrap q i _ => isPlace q i
  | .keyUnwrap q i _ => isPlace q i
  | .cmac q i _ => isPlace q i
  | .random q i => isPlace q i
  | .keyImport q i _ => isPlace q i
  | .keyExportWrapped q i => isPlace q i
  | .keyDestroy q i => isPlace q i
  | .keyDestroyCommit k => isKey k
  | .keyInfo q i => isPlace q i
  | .keyDerive q i _ => isPlace q i
  | .statefulReserve q i => isPlace q i
  | .ledgerAppend q i _ => isPlace q i
  | .ledgerCheckpoint q i => isPlace q i
  | .ledgerProveInclusion q i => isPlace q i
  | .ledgerProveConsistency q i => isPlace q i
  | .ledgerRead q i => isPlace q i
  | .streamOpen q i => isPlace q i
  | .streamClose q i => isPlace q i
  | .sealWrite q i _ => isPlace q i
  | .sealRead q i => isPlace q i
  | .sealAnchorWarm q i => isPlace q i
  | .sealAnchorCold q i => isPlace q i
  | .coldAnchorEpochBurn _ => true
  | .timeStamp q i _ => isPlace q i
  | .timeRead q i => isPlace q i
  | .kernelRun q i _ => isPlace q i
  | .kernelInfo q i => isPlace q i
  | .kernelLoad q i _ => isPlace q i
  | .kernelUnload q i => isPlace q i
  | .patchQuery q i => isPlace q i
  | .selfTest q i _ => isPlace q i
  | .lcInfo q i => isPlace q i
  | .attest q i _ => isPlace q i
  | .recordPlace q i => isPlace q i
  | .engineFault q i unit cause _ _ => isPlace q i && below 16 unit && below 4096 cause
  | .binderRestart b t cause => below 8 b && below 16 t && below 256 cause
  | .binderPreciseHalt b t cause => below 8 b && below 16 t && below 256 cause
  | .binderResume b _ => below 8 b
  | .seqBinderEnableWrite _ => true
  | .microwordAlu b t q i _ dst src _ => below 8 b && below 16 t && isPlace q i && below 64 dst && below 64 src
  | .microwordField b t q i _ _ reg lo len => below 8 b && below 16 t && isPlace q i && below 64 reg && isField lo len
  | .microwordBranch b t q i _ _ target => below 8 b && below 16 t && isPlace q i && below 65536 target
  | .microwordDispatch b t q i reg _ => below 8 b && below 16 t && isPlace q i && below 64 reg
  | .microwordRequest b t q i tag reg => below 8 b && below 16 t && isPlace q i && below 64 tag && below 64 reg
  | .microwordWait b t q i _ => below 8 b && below 16 t && isPlace q i
  | .microwordCheck b t q i _ target _ _ => below 8 b && below 16 t && isPlace q i && below 65536 target
  | .microwordAccept b t q i _ _ => below 8 b && below 16 t && isPlace q i
  | .microwordStage b t q i _ _ _ _ _ => below 8 b && below 16 t && isPlace q i
  | .microwordCommit b t q i => below 8 b && below 16 t && isPlace q i
  | .microwordHostwrite b t q i => below 8 b && below 16 t && isPlace q i
  | .microwordEnd b t q i => below 8 b && below 16 t && isPlace q i
  | .jobPlace q i => isPlace q i
  | .quarterLoaded c n _ => below 32 c && below 4 n
  | .coreSwitch c => below 32 c
  | .bundleExecute c => below 32 c
  | .jobSuspend c => below 32 c
  | .jobUnsuspend c n => below 32 c && below 4 n
  | .drainComplete q i _ => isPlace q i
  | .quarterScrubComplete c n => below 32 c && below 4 n
  | .marCoreReset c _ _ => below 32 c
  | .marCoreEnableWrite _ => true
  | .marFaultResume c _ => below 32 c
  | .aluAdd c u src field => below 32 c && below 2 u && below 256 src && below 1024 field
  | .aluSub c u src field => below 32 c && below 2 u && below 256 src && below 1024 field
  | .aluAnd c u src field => below 32 c && below 2 u && below 256 src && below 1024 field
  | .aluOr c u src field => below 32 c && below 2 u && below 256 src && below 1024 field
  | .aluXor c u src field => below 32 c && below 2 u && below 256 src && below 1024 field
  | .aluAndn c u src field => below 32 c && below 2 u && below 256 src && below 1024 field
  | .aluShl c u src field => below 32 c && below 2 u && below 256 src && below 1024 field
  | .aluShr c u src field => below 32 c && below 2 u && below 256 src && below 1024 field
  | .aluSar c u src field => below 32 c && below 2 u && below 256 src && below 1024 field
  | .aluMinu c u src field => below 32 c && below 2 u && below 256 src && below 1024 field
  | .aluMaxu c u src field => below 32 c && below 2 u && below 256 src && below 1024 field
  | .aluMul c u src field => below 32 c && below 2 u && below 256 src && below 1024 field
  | .aluPass c u src field => below 32 c && below 2 u && below 256 src && below 1024 field
  | .aluCmpeq c u src field => below 32 c && below 2 u && below 256 src && below 1024 field
  | .aluCmpne c u src field => below 32 c && below 2 u && below 256 src && below 1024 field
  | .aluCmpltu c u src field => below 32 c && below 2 u && below 256 src && below 1024 field
  | .aluCmplts c u src field => below 32 c && below 2 u && below 256 src && below 1024 field
  | .aluCmpleu c u src field => below 32 c && below 2 u && below 256 src && below 1024 field
  | .valuAdd c u src field => below 32 c && below 2 u && below 256 src && below 1024 field
  | .valuSub c u src field => below 32 c && below 2 u && below 256 src && below 1024 field
  | .valuAnd c u src field => below 32 c && below 2 u && below 256 src && below 1024 field
  | .valuOr c u src field => below 32 c && below 2 u && below 256 src && below 1024 field
  | .valuXor c u src field => below 32 c && below 2 u && below 256 src && below 1024 field
  | .valuAndn c u src field => below 32 c && below 2 u && below 256 src && below 1024 field
  | .valuShl c u src field => below 32 c && below 2 u && below 256 src && below 1024 field
  | .valuShr c u src field => below 32 c && below 2 u && below 256 src && below 1024 field
  | .valuSar c u src field => below 32 c && below 2 u && below 256 src && below 1024 field
  | .valuMinu c u src field => below 32 c && below 2 u && below 256 src && below 1024 field
  | .valuMaxu c u src field => below 32 c && below 2 u && below 256 src && below 1024 field
  | .valuMins c u src field => below 32 c && below 2 u && below 256 src && below 1024 field
  | .valuMaxs c u src field => below 32 c && below 2 u && below 256 src && below 1024 field
  | .valuCmpeq c u src field => below 32 c && below 2 u && below 256 src && below 1024 field
  | .valuCmpltu c u src field => below 32 c && below 2 u && below 256 src && below 1024 field
  | .valuCmplts c u src field => below 32 c && below 2 u && below 256 src && below 1024 field
  | .valuBlend c u src field => below 32 c && below 2 u && below 256 src && below 1024 field
  | .valuBcast c u src field => below 32 c && below 2 u && below 256 src && below 1024 field
  | .valuMullo c u src field => below 32 c && below 2 u && below 256 src && below 1024 field
  | .valuWiden c u src field => below 32 c && below 2 u && below 256 src && below 1024 field
  | .valuNarrow c u src field => below 32 c && below 2 u && below 256 src && below 1024 field
  | .mmulMul c src field => below 32 c && below 256 src && below 4096 field
  | .mmulMac c src field => below 32 c && below 256 src && below 4096 field
  | .mmulMacz c src field => below 32 c && below 256 src && below 4096 field
  | .mmulMld c src field => below 32 c && below 256 src && below 4096 field
  | .maddAdd c src field => below 32 c && below 256 src && below 4096 field
  | .maddSub c src field => below 32 c && below 256 src && below 4096 field
  | .maddRed c src field => below 32 c && below 256 src && below 4096 field
  | .maddNeg c src field => below 32 c && below 256 src && below 4096 field
  | .maddCent c src field => below 32 c && below 256 src && below 4096 field
  | .maddRedq c src field => below 32 c && below 256 src && below 4096 field
  | .maddMld c src field => below 32 c && below 256 src && below 4096 field
  | .bfyCt c u src field => below 32 c && below 2 u && below 256 src && below 4096 field
  | .bfyGs c u src field => below 32 c && below 2 u && below 256 src && below 4096 field
  | .bfyCtp c u src field => below 32 c && below 2 u && below 256 src && below 4096 field
  | .bfyGsp c u src field => below 32 c && below 2 u && below 256 src && below 4096 field
  | .bfyMld c u src field => below 32 c && below 2 u && below 256 src && below 4096 field
  | .fxpSadd c src field => below 32 c && below 256 src && below 1024 field
  | .fxpSsub c src field => below 32 c && below 256 src && below 1024 field
  | .fxpUadd c src field => below 32 c && below 256 src && below 1024 field
  | .fxpUsub c src field => below 32 c && below 256 src && below 1024 field
  | .fxpRshru c src field => below 32 c && below 256 src && below 1024 field
  | .fxpRshre c src field => below 32 c && below 256 src && below 1024 field
  | .fxpSshl c src field => below 32 c && below 256 src && below 1024 field
  | .fxpSmulrh c src field => below 32 c && below 256 src && below 1024 field
  | .fxpSabs c src field => below 32 c && below 256 src && below 1024 field
  | .fxpClamp c src field => below 32 c && below 256 src && below 1024 field
  | .fxpGetsat c src field => below 32 c && below 256 src && below 1024 field
  | .bitfExt c src field => below 32 c && below 256 src && below 1024 field
  | .bitfIns c src field => below 32 c && below 256 src && below 1024 field
  | .bitfPack c src field => below 32 c && below 256 src && below 1024 field
  | .bitfUnpack c src field => below 32 c && below 256 src && below 1024 field
  | .bitfSext c src field => below 32 c && below 256 src && below 1024 field
  | .clzClz c src field => below 32 c && below 256 src && below 1024 field
  | .clzCtz c src field => below 32 c && below 256 src && below 1024 field
  | .clzPopc c src field => below 32 c && below 256 src && below 1024 field
  | .permBperm c src field => below 32 c && below 256 src && below 1024 field
  | .permBrev c src field => below 32 c && below 256 src && below 1024 field
  | .lsuLd c src field => below 32 c && below 256 src && below 1024 field
  | .lsuSt c src field => below 32 c && below 256 src && below 1024 field
  | .lsuLdr c src field => below 32 c && below 256 src && below 1024 field
  | .lsuStr c src field => below 32 c && below 256 src && below 1024 field
  | .lsuLdv c src field => below 32 c && below 256 src && below 1024 field
  | .lsuStv c src field => below 32 c && below 256 src && below 1024 field
  | .lsuStvm c src field => below 32 c && below 256 src && below 1024 field
  | .gsuGather c src field => below 32 c && below 256 src && below 1024 field
  | .gsuScatter c src field => below 32 c && below 256 src && below 1024 field
  | .xsLd c src field => below 32 c && below 256 src && below 1024 field
  | .xsSt c src field => below 32 c && below 256 src && below 1024 field
  | .xsLdv c src field => below 32 c && below 256 src && below 1024 field
  | .xsStv c src field => below 32 c && below 256 src && below 1024 field
  | .xsLr c src field => below 32 c && below 256 src && below 1024 field
  | .xsSc c src field => below 32 c && below 256 src && below 1024 field
  | .hpOpen c src field => below 32 c && below 256 src && below 1024 field
  | .hpAbsorb c src field => below 32 c && below 256 src && below 1024 field
  | .hpFinal c src field => below 32 c && below 256 src && below 1024 field
  | .hpSqueeze c src field => below 32 c && below 256 src && below 1024 field
  | .hpSqueeze1 c src field => below 32 c && below 256 src && below 1024 field
  | .hpClose c src field => below 32 c && below 256 src && below 1024 field
  | .smpUnif12 c src field => below 32 c && below 256 src && below 4096 field
  | .smpUnif23 c src field => below 32 c && below 256 src && below 4096 field
  | .smpUnif16 c src field => below 32 c && below 256 src && below 4096 field
  | .smpCbd2 c src field => below 32 c && below 256 src && below 4096 field
  | .smpCbd3 c src field => below 32 c && below 256 src && below 4096 field
  | .smpBound2 c src field => below 32 c && below 256 src && below 4096 field
  | .smpBound4 c src field => below 32 c && below 256 src && below 4096 field
  | .smpRaw c src field => below 32 c && below 256 src && below 4096 field
  | .mskRand c src field => below 32 c && below 256 src && below 4096 field
  | .mskRandq c src field => below 32 c && below 256 src && below 4096 field
  | .mskShare2 c src field => below 32 c && below 256 src && below 4096 field
  | .mskShare3 c src field => below 32 c && below 256 src && below 4096 field
  | .mskRefresh2 c src field => below 32 c && below 256 src && below 4096 field
  | .mskRefresh3 c src field => below 32 c && below 256 src && below 4096 field
  | .mskRelease2 c src field => below 32 c && below 256 src && below 4096 field
  | .mskRelease3 c src field => below 32 c && below 256 src && below 4096 field
  | .twrWrite c src field => below 32 c && below 256 src && below 1024 field
  | .ctlJump c src field => below 32 c && below 256 src && below 1024 field
  | .ctlCall c src field => below 32 c && below 256 src && below 1024 field
  | .ctlBreak c src field => below 32 c && below 256 src && below 1024 field
  | .ctlEnd c src field => below 32 c && below 256 src && below 1024 field
  | .ctlSync c src field => below 32 c && below 256 src && below 1024 field
  | .hashCallStart n q i _ _ _ blocks => below 768 n && isPlace q i && atLeast 1 blocks
  | .hashCallEnd c _ _ => below 32 c
  | .hashChainCall n q i _ _ _ steps _ _ => below 768 n && isPlace q i && atLeast 1 steps
  | .maskedCallWaitTimeout n => below 768 n
  | .hshCoreEnableWrite _ => true
  | .cdeKeygenAttemptEnd q i _ _ => isPlace q i
  | .cdePairwiseTest q i _ => isPlace q i
  | .cdeUnitReset u => below 3 u
  | .cdeUnitEnableWrite _ => true
  | .bgnValidationEnd q i _ => isPlace q i
  | .bgnComputationEnd q i _ _ => isPlace q i
  | .bgnMulEnableWrite _ => true
  | .strYield q i => isPlace q i
  | .strPipeEnableWrite _ => true
  | .cellHealthFail c test => below 8 c && below 16 test
  | .cellRetestComplete c test => below 8 c && below 16 test
  | .entCellEnableWrite _ => true
  | .conditionerOutput => true
  | .drbgReseed d => below 8 d
  | .drbgStall d => below 8 d
  | .stringSeedDelivery k => below 46 k
  | .maskGenReseedRequest k => below 42 k
  | .maskGenDeadline k => below 42 k
  | .entStartupTested _ => true
  | .entropyWaitTimeout q i => isPlace q i
  | .entQuietTimeExpiry => true
  | .entRestartComplete _ => true
  | .entErrClearRestart _ => true
  | .entSwDataRead _ => true
  | .hotKeyLoad k => isKey k
  | .hotStoreEccError k _ _ => isKey k
  | .commitGroupClose => true
  | .sealRetryTimer => true
  | .storageTimeLimit q i => isPlace q i
  | .storeOpen _ => true
  | .forceOpen _ _ => true
  | .format _ => true
  | .sealCtrlRefused _ => true
  | .sealRangeWrite _ _ => true
  | .qreStreamStateLoaded _ => true
  | .streamRelease _ => true
  | .journalEvent ev _ => below 65536 ev
  | .ppsEdge => true
  | .ref10mMeasurement _ => true
  | .slewComplete => true
  | .timSlewRateWrite _ => true
  | .timeSet sec => isSeconds sec
  | .timeSourceLoss => true
  | .holdoverLimitExpiry => true
  | .timNowRead => true
  | .ppsOutPulse => true
  | .descriptorPost c _ => below 128 c
  | .dmaBurst c _ => below 128 c
  | .dmaDescriptorEnd c => below 128 c
  | .dmaCancel q i => isPlace q i
  | .lmcMacFailure _ ch _ _ => below 128 ch
  | .lmcRetrain cause ch _ _ => below 5 cause && below 128 ch
  | .lmcRetrainComplete => true
  | .lmcQuietTimeExpiry => true
  | .lmcTrainingComplete gib _ _ => below 32 gib
  | .tamperAlarm n det => below 16 n && below 4 det
  | .detectorDisagree n => below 16 n
  | .tamperEventResponse => true
  | .tmpUnlock _ => true
  | .tmpResume _ => true
  | .tmpRespLock _ => true
  | .otpIntegrityCheck _ => true
  | .lcoTransition _ => true
  | .otpWordDone _ => true
  | .diagEnter _ => true
  | .provFieldWrite _ => true
  | .provClose _ => true
  | .mainPowerOnReset _ _ => true
  | .bootBundleLoaded slot _ _ => below 2 slot
  | .bootSelftestComplete _ _ _ _ _ _ => true
  | .bootRetry _ _ => true
  | .bootProgram _ _ => true
  | .bootProgramComplete _ => true
  | .raiseMin _ => true
  | .idleEntry => true
  | .dozeEntry => true
  | .wake => true
  | .mainRailsOff => true
  | .vauxLoss => true
  | .vauxReturn => true
  | .aoPowerOnReset _ => true
  | .deepWakeSource n => below 3 n
  | .vbatMeasure mv => below 65536 mv
  | .governorWindow _ _ => true
  | .thermalReading sensor _ => below 16 sensor
  | .thermtrip => true
  | .braceEnter rail mv => below 3 rail && below 65536 mv
  | .braceLift _ => true
  | .errStatusClear blk _ => below 22 blk
  | .errIrqEnWrite blk _ => below 22 blk
  | .smbReadTemp _ => true
  | .smbReadStatus _ => true
  | .smbReadPower _ => true
  | .smbReadAlertStatus _ => true
  | .smbClearAlertStatus _ _ => true
  | .smbReadPowerLimit _ => true
  | .smbReadIdentity _ => true
  | .smbBadCommand _ _ => true
  | .smbAlertResponse => true
  | .smbClockLowTimeout => true
  | .spdmGetCapabilities => true
  | .spdmNegotiateAlgorithms => true
  | .spdmGetDigests => true
  | .linkUp speed width => isSpeed speed && isWidth width
  | .linkL1Entry pm => isL1 pm
  | .configRequest off _ => isConfigDword off
  | .receiverError => true
  | .replayTimerTimeout => true
  | .scratchPageScrubComplete g p => below 4 g && below 48 p
  | .cdeZeroizeComplete n => below 6 n
  | .aoTrimMeasurement _ => true
  | .ref10mValidityChange _ => true
  | .tamperConditionEnd n => below 16 n
  | .braceRailRecovery rail mv _ => below 3 rail && below 65536 mv

/-- A well-formed command. -/
abbrev Instr.WellFormed (c : Instr) : Prop := c.wf = true

end Sys2Proof
end

