-- ==== Sys2Proof/Safety.lean ====
section
/-! DEFINITION. The terms in which claims are stated: the invariant of the state, effects on registers alone, a job at its engine. -/
namespace Sys2Proof.Machine

open Sys2Proof

/-- The register file is in canonical form, and every field holds what fits into it (R6). -/
def State.regsOk (s : State) : Prop := mwf fldOrd fldDefault s.regs = true ∧ ∀ e ∈ s.regs, e.2 < 2 ^ e.1.1.width

/-- The counter and the keeper hold a time: NANOSECONDS below 10^9, SUBNS 32 bits, SECONDS 48 bits (R405). -/
def State.timeOk (s : State) : Prop :=
  (s.tim.sec < 2 ^ 48 ∧ s.tim.ns < 1000000000 ∧ s.tim.sub < 2 ^ 32) ∧
    (s.tim.keeperSec < 2 ^ 48 ∧ s.tim.keeperNs < 1000000000 ∧ s.tim.keeperSub < 2 ^ 32)

/-- What every step keeps. -/
def State.Inv (s : State) : Prop := s.regsOk ∧ s.timeOk

/-- t is s but for its registers, of which exactly those listed have the values listed. -/
def Sets (s t : State) (l : List ((Fld × Nat) × Nat)) : Prop :=
  t = { s with regs := t.regs } ∧ (∀ e ∈ l, t.getF e.1.1 e.1.2 = e.2) ∧ ∀ f i, (∀ e ∈ l, e.1 ≠ (f, i)) → t.getF f i = s.getF f i

/-- t is s but for messages sent and for its registers, of which exactly those listed have the values listed. -/
def SetsSaying (s t : State) (l : List ((Fld × Nat) × Nat)) (ms : List Msg) : Prop :=
  t = { s with regs := t.regs, sent := s.sent ++ ms } ∧ (∀ e ∈ l, t.getF e.1.1 e.1.2 = e.2) ∧
    ∀ f i, (∀ e ∈ l, e.1 ≠ (f, i)) → t.getF f i = s.getF f i

/-- A SAT counter after one more. -/
def State.plus (s : State) (f : Fld) (i n : Nat) : Nat := min (s.getF f i + n) (2 ^ f.width - 1)

/-- The job at an entry is at its engine with an opcode, it has not computed, enough units of the engine are online, and the clocks run. -/
def State.AtEngine (s : State) (q i op : Nat) (j : Job) : Prop :=
  s.job? q i = some j ∧ j.stage = .dispatched ∧ j.opcode = op ∧ j.computed = false ∧ s.engineGate j = none ∧ s.stopped = false

/-- The write requests that bytes at a host address take (R42). -/
def State.writeMsgs (s : State) (pasid : Option Nat) (a : Nat) (d : List Byte) (ro : Bool) : List Msg :=
  (hostPieces (min 512 s.pci.mps) a d.length d.length).map fun p => .write pasid p.1 (bslice d (p.1 - a) p.2) ro

/-- The write requests of a job's output over its fragments, where it writes one and has not written it yet (R126, R128). -/
def State.outMsgs (s : State) (j : Job) : List Msg :=
  if j.writesOutput = true ∧ j.written < 1 then
    let frags := if j.outInd then j.outFrags else [(j.outAddr, j.outLen)]
    (frags.zip (frags.scanl (fun n f => n + f.2) 0)).flatMap fun f =>
      s.writeMsgs (s.pasidOf j.slice) f.1.1 (bslice (j.output.take j.outLen) f.2 f.1.2) s.pci.relaxed
  else []

/-- The DRBG instance of a job's binder can give n bytes now. -/
def State.CanDraw (s : State) (j : Job) (n : Nat) : Prop := s.drbgOk j.drbg (callsFor n) = true

/-- The n bytes that the next draw gives: a free value. -/
def State.nextRandom (s : State) (n : Nat) : List Byte := bytesOf n (Config.random s.free)

/-- The state after a job has drawn n bytes: the calls counted, the next draw a fresh value. -/
def State.afterDraw (s : State) (j : Job) (n : Nat) : State := { s.drbgCalls j.drbg (callsFor n) with free := s.free + 1 }

/-- t is s with an error raised in a block: its cause is set, it is counted, and it is the first where none stood there. -/
def Raised (s t : State) (blk cause : Nat) : Prop :=
  bit (t.getF .BLK_ERR_STATUS_CAUSE blk) cause = true ∧ t.getF .BLK_ERR_COUNT_COUNT blk = s.plus .BLK_ERR_COUNT_COUNT blk 1 ∧
    (s.getF .BLK_ERR_STATUS_CAUSE blk = 0 → t.getF .BLK_ERR_FIRST_CAUSE blk = cause)

/-- Thread t of a binder in service stands at a loaded microword of one of the classes, for the job at an entry, short of the watchdog. -/
def State.Issuing (s : State) (b t q i : Nat) (cls : List Nat) (x : ThreadX) : Prop :=
  b < 8 ∧ t < 16 ∧ s.getF .SEQ_BINDER_STATUS_STATE b = 1 ∧ s.thread b t = x ∧ x.busy = true ∧ x.halted = false ∧ x.job = some (q, i) ∧
    s.inStore (s.fetchAddr x.maddr) = true ∧ (∀ c, s.classAt (s.fetchAddr x.maddr) = some c → c ∈ cls) ∧ x.issued + 1 < 65536 ∧ s.stopped = false

/-- A thread after a microword that only goes on to the next one. -/
def State.stepped (s : State) (x : ThreadX) : ThreadX := { x with maddr := (s.fetchAddr x.maddr + 1) % 65536, issued := x.issued + 1 }

/-- Core c runs kernel k for the job in its quarter n, and is at a bundle: not ended, not halted, at no barrier. -/
def State.RunsKernel (s : State) (c n : Nat) (j : Job) (k : KernelX) : Prop :=
  s.runningQuarter c = some n ∧ s.quarterJob c n = some j ∧ s.runKernel j = some k ∧ (s.core c).run.ended = none ∧ (s.core c).halt = none ∧
    (s.core c).run.sync = false

/-- The function takes memory requests: Memory Space Enable is 1 (R40), the fast clocks run (R32), and there is nothing to wake (R495). -/
def State.Serves (s : State) : Prop := s.stopped = false ∧ s.pci.memSpace = true ∧ s.awake = s

/-- The commands that are a memory request to the function. -/
def MemoryRequest (c : Instr) : Bool :=
  match c with
  | .registerWrite _ _ _ | .reg64LowHalfWrite _ _ _ | .reg64HighHalfWrite _ _ _ _ _ | .reg64LowHalfRead _ _ => true
  | .errStatusClear _ _ | .errIrqEnWrite _ _ | .mmioBadRequest _ _ _ _ | .retrain _ | .msixUnmask (some _) => true
  | .sliceEnable _ | .sliceDisable _ | .slicePause _ | .sliceUnpause _ | .sliceReset _ | .slicePasidWrite _ _ | .sliceQueuesWrite _ _ => true
  | .sliceGrantWrite _ _ _ | .t2mSend _ | .t2mAck _ | .m2tSend _ | .m2tAck _ | .mailboxWrite _ _ _ _ | .dplLogEnable _ _ | .newRound _ => true
  | .doorbellWrite _ _ _ | .queueEnable _ _ | .queueDisable _ _ | .queueReset _ _ | .evrEnable _ _ | .evrConsWrite _ _ | .evrOverflowClear _ => true
  | .scEnable _ _ | .scDisable _ _ | .scComplete _ _ _ _ _ => true
  | .binderResume _ _ | .seqBinderEnableWrite _ | .marCoreEnableWrite _ | .marFaultResume _ _ | .hshCoreEnableWrite _ => true
  | .cdeUnitEnableWrite _ | .bgnMulEnableWrite _ | .strPipeEnableWrite _ | .entCellEnableWrite _ | .entErrClearRestart _ | .entSwDataRead _ => true
  | .storeOpen _ | .forceOpen _ _ | .format _ | .sealCtrlRefused _ | .sealRangeWrite _ _ | .streamRelease _ => true
  | .timSlewRateWrite _ | .timeSet _ | .timNowRead | .tmpUnlock _ | .tmpResume _ | .tmpRespLock _ => true
  | .lcoTransition _ | .diagEnter _ | .provFieldWrite _ | .provClose _ | .bootRetry _ _ | .bootProgram _ _ | .raiseMin _ => true
  | _ => false

/-- The commands that the fast clocks carry, the memory requests among them: nothing of them happens while the THERMTRIP latch is set (R32). The
others are events on pins, supplies, sensors and detectors. (DEDUCED: notes/assumptions/91) -/
def FastClocked (c : Instr) : Bool :=
  match c with
  | .linkDown | .perstAssert | .perstRelease | .mainPowerOnReset _ _ | .wake | .mainRailsOff | .vauxLoss | .vauxReturn | .aoPowerOnReset _ => false
  | .deepWakeSource _ | .vbatMeasure _ | .thermalReading _ _ | .thermtrip | .braceEnter _ _ | .braceRailRecovery _ _ _ | .braceLift _ => false
  | .fabricCodeMismatch | .tamperAlarm _ _ | .tamperConditionEnd _ | .detectorDisagree _ | .tamperEventResponse | .otpIntegrityCheck _ => false
  | _ => true

/-- The main logic runs for the SMBus target. -/
def State.Running (s : State) : Prop := s.smbOn = true

/-! ### The rows of the Marionette units -/

/-- Rows of ALU: the command, the trigger socket, the operation field (R272). u is the unit of a pair, src the source socket, f the rest of the field. -/
def UnitRowScalar (c u src f : Nat) (e : Instr × Nat × Nat) : Prop := e ∈ [
  (.aluAdd c u src f, if u = 0 then tALU0 else tALU1, opWith 0 f),
  (.aluSub c u src f, if u = 0 then tALU0 else tALU1, opWith 1 f),
  (.aluAnd c u src f, if u = 0 then tALU0 else tALU1, opWith 2 f),
  (.aluOr c u src f, if u = 0 then tALU0 else tALU1, opWith 3 f),
  (.aluXor c u src f, if u = 0 then tALU0 else tALU1, opWith 4 f),
  (.aluAndn c u src f, if u = 0 then tALU0 else tALU1, opWith 5 f),
  (.aluShl c u src f, if u = 0 then tALU0 else tALU1, opWith 6 f),
  (.aluShr c u src f, if u = 0 then tALU0 else tALU1, opWith 7 f),
  (.aluSar c u src f, if u = 0 then tALU0 else tALU1, opWith 8 f),
  (.aluMinu c u src f, if u = 0 then tALU0 else tALU1, opWith 9 f),
  (.aluMaxu c u src f, if u = 0 then tALU0 else tALU1, opWith 10 f),
  (.aluMul c u src f, if u = 0 then tALU0 else tALU1, opWith 11 f),
  (.aluPass c u src f, if u = 0 then tALU0 else tALU1, opWith 12 f),
  (.aluCmpeq c u src f, if u = 0 then tALU0 else tALU1, opWith 13 f),
  (.aluCmpne c u src f, if u = 0 then tALU0 else tALU1, opWith 14 f),
  (.aluCmpltu c u src f, if u = 0 then tALU0 else tALU1, opWith 15 f),
  (.aluCmplts c u src f, if u = 0 then tALU0 else tALU1, opWith 16 f),
  (.aluCmpleu c u src f, if u = 0 then tALU0 else tALU1, opWith 17 f)]

/-- Rows of VALU: the command, the trigger socket, the operation field (R272). u is the unit of a pair, src the source socket, f the rest of the field. -/
def UnitRowVector (c u src f : Nat) (e : Instr × Nat × Nat) : Prop := e ∈ [
  (.valuAdd c u src f, if u = 0 then tVALU0 else tVALU1, opWith 0 f),
  (.valuSub c u src f, if u = 0 then tVALU0 else tVALU1, opWith 1 f),
  (.valuAnd c u src f, if u = 0 then tVALU0 else tVALU1, opWith 2 f),
  (.valuOr c u src f, if u = 0 then tVALU0 else tVALU1, opWith 3 f),
  (.valuXor c u src f, if u = 0 then tVALU0 else tVALU1, opWith 4 f),
  (.valuAndn c u src f, if u = 0 then tVALU0 else tVALU1, opWith 5 f),
  (.valuShl c u src f, if u = 0 then tVALU0 else tVALU1, opWith 6 f),
  (.valuShr c u src f, if u = 0 then tVALU0 else tVALU1, opWith 7 f),
  (.valuSar c u src f, if u = 0 then tVALU0 else tVALU1, opWith 8 f),
  (.valuMinu c u src f, if u = 0 then tVALU0 else tVALU1, opWith 9 f),
  (.valuMaxu c u src f, if u = 0 then tVALU0 else tVALU1, opWith 10 f),
  (.valuMins c u src f, if u = 0 then tVALU0 else tVALU1, opWith 11 f),
  (.valuMaxs c u src f, if u = 0 then tVALU0 else tVALU1, opWith 12 f),
  (.valuCmpeq c u src f, if u = 0 then tVALU0 else tVALU1, opWith 13 f),
  (.valuCmpltu c u src f, if u = 0 then tVALU0 else tVALU1, opWith 14 f),
  (.valuCmplts c u src f, if u = 0 then tVALU0 else tVALU1, opWith 15 f),
  (.valuBlend c u src f, if u = 0 then tVALU0 else tVALU1, opWith 16 f),
  (.valuBcast c u src f, if u = 0 then tVALU0 else tVALU1, opWith 17 f),
  (.valuMullo c u src f, if u = 0 then tVALU0 else tVALU1, opWith 18 f),
  (.valuWiden c u src f, if u = 0 then tVALU0 else tVALU1, opWith 19 f),
  (.valuNarrow c u src f, if u = 0 then tVALU0 else tVALU1, opWith 20 f)]

/-- Rows of MMUL, MADD, BFY: the command, the trigger socket, the operation field (R272). u is the unit of a pair, src the source socket, f the rest of the field. -/
def UnitRowModular (c u src f : Nat) (e : Instr × Nat × Nat) : Prop := e ∈ [
  (.mmulMul c src f, tMMUL, opWith3 0 f),
  (.mmulMac c src f, tMMUL, opWith3 1 f),
  (.mmulMld c src f, tMMUL, opWith3 2 f),
  (.mmulMacz c src f, tMMUL, opWith3 3 f),
  (.maddAdd c src f, tMADD, opWith3 0 f),
  (.maddSub c src f, tMADD, opWith3 1 f),
  (.maddRed c src f, tMADD, opWith3 2 f),
  (.maddNeg c src f, tMADD, opWith3 3 f),
  (.maddCent c src f, tMADD, opWith3 4 f),
  (.maddRedq c src f, tMADD, opWith3 5 f),
  (.maddMld c src f, tMADD, opWith3 6 f),
  (.bfyCt c u src f, if u = 0 then tBFY0 else tBFY1, opWith3 0 f),
  (.bfyGs c u src f, if u = 0 then tBFY0 else tBFY1, opWith3 1 f),
  (.bfyCtp c u src f, if u = 0 then tBFY0 else tBFY1, opWith3 2 f),
  (.bfyGsp c u src f, if u = 0 then tBFY0 else tBFY1, opWith3 3 f),
  (.bfyMld c u src f, if u = 0 then tBFY0 else tBFY1, opWith3 4 f)]

/-- Rows of FXP, BITF: the command, the trigger socket, the operation field (R272). u is the unit of a pair, src the source socket, f the rest of the field. -/
def UnitRowFixed (c _u src f : Nat) (e : Instr × Nat × Nat) : Prop := e ∈ [
  (.fxpSadd c src f, tFXP, opWith 0 f),
  (.fxpSsub c src f, tFXP, opWith 1 f),
  (.fxpUadd c src f, tFXP, opWith 2 f),
  (.fxpUsub c src f, tFXP, opWith 3 f),
  (.fxpRshru c src f, tFXP, opWith 4 f),
  (.fxpRshre c src f, tFXP, opWith 5 f),
  (.fxpSshl c src f, tFXP, opWith 6 f),
  (.fxpSmulrh c src f, tFXP, opWith 7 f),
  (.fxpSabs c src f, tFXP, opWith 8 f),
  (.fxpClamp c src f, tFXP, opWith 9 f),
  (.fxpGetsat c src f, tFXP, opWith 10 f),
  (.bitfExt c src f, tBITF, opWith 0 f),
  (.bitfIns c src f, tBITF, opWith 1 f),
  (.bitfPack c src f, tBITF, opWith 2 f),
  (.bitfUnpack c src f, tBITF, opWith 3 f),
  (.bitfSext c src f, tBITF, opWith 4 f)]

/-- Rows of CLZ, PERM, LSU, GSU: the command, the trigger socket, the operation field (R272). u is the unit of a pair, src the source socket, f the rest of the field. -/
def UnitRowBytes (c _u src f : Nat) (e : Instr × Nat × Nat) : Prop := e ∈ [
  (.clzClz c src f, tCLZ, opWith 0 f),
  (.clzCtz c src f, tCLZ, opWith 1 f),
  (.clzPopc c src f, tCLZ, opWith 2 f),
  (.permBperm c src f, tPERM, opWith 0 f),
  (.permBrev c src f, tPERM, opWith 1 f),
  (.lsuLd c src f, tLSU, opWith 0 f),
  (.lsuSt c src f, tLSU, opWith 1 f),
  (.lsuLdr c src f, tLSU, opWith 2 f),
  (.lsuStr c src f, tLSU, opWith 3 f),
  (.lsuLdv c src f, tLSU, opWith 4 f),
  (.lsuStv c src f, tLSU, opWith 5 f),
  (.lsuStvm c src f, tLSU, opWith 6 f),
  (.gsuGather c src f, tGSU, opWith 0 f),
  (.gsuScatter c src f, tGSU, opWith 1 f)]

/-- Rows of XS, HP, TWR: the command, the trigger socket, the operation field (R272). u is the unit of a pair, src the source socket, f the rest of the field. -/
def UnitRowScratch (c _u src f : Nat) (e : Instr × Nat × Nat) : Prop := e ∈ [
  (.xsLd c src f, tXS, opWith 0 f),
  (.xsSt c src f, tXS, opWith 1 f),
  (.xsLdv c src f, tXS, opWith 2 f),
  (.xsStv c src f, tXS, opWith 3 f),
  (.xsLr c src f, tXS, opWith 4 f),
  (.xsSc c src f, tXS, opWith 5 f),
  (.hpOpen c src f, tHP, opWith 0 f),
  (.hpAbsorb c src f, tHP, opWith 1 f),
  (.hpFinal c src f, tHP, opWith 2 f),
  (.hpSqueeze c src f, tHP, opWith 3 f),
  (.hpSqueeze1 c src f, tHP, opWith 4 f),
  (.hpClose c src f, tHP, opWith 5 f),
  (.twrWrite c src f, tTWR, opWith 0 f)]

/-- Rows of SMP, MSK: the command, the trigger socket, the operation field (R272). u is the unit of a pair, src the source socket, f the rest of the field. -/
def UnitRowRandom (c _u src f : Nat) (e : Instr × Nat × Nat) : Prop := e ∈ [
  (.smpUnif12 c src f, tSMP, opWith3 0 f),
  (.smpUnif23 c src f, tSMP, opWith3 1 f),
  (.smpUnif16 c src f, tSMP, opWith3 2 f),
  (.smpCbd2 c src f, tSMP, opWith3 3 f),
  (.smpCbd3 c src f, tSMP, opWith3 4 f),
  (.smpBound2 c src f, tSMP, opWith3 5 f),
  (.smpBound4 c src f, tSMP, opWith3 6 f),
  (.smpRaw c src f, tSMP, opWith3 7 f),
  (.mskRand c src f, tMSK, opWith3 0 f),
  (.mskRandq c src f, tMSK, opWith3 1 f),
  (.mskShare2 c src f, tMSK, opWith3 2 f),
  (.mskShare3 c src f, tMSK, opWith3 3 f),
  (.mskRefresh2 c src f, tMSK, opWith3 4 f),
  (.mskRefresh3 c src f, tMSK, opWith3 5 f),
  (.mskRelease2 c src f, tMSK, opWith3 6 f),
  (.mskRelease3 c src f, tMSK, opWith3 7 f)]

/-- Rows of CTL: the command, the trigger socket, the operation field (R272). u is the unit of a pair, src the source socket, f the rest of the field. -/
def UnitRowControl (c _u src f : Nat) (e : Instr × Nat × Nat) : Prop := e ∈ [
  (.ctlJump c src f, tCTL, opWith 0 f),
  (.ctlCall c src f, tCTL, opWith 1 f),
  (.ctlBreak c src f, tCTL, opWith 2 f),
  (.ctlEnd c src f, tCTL, opWith 3 f),
  (.ctlSync c src f, tCTL, opWith 4 f)]

/-- Every row of a Marionette unit with the move that it stands for. -/
def UnitRow (c u src f : Nat) (e : Instr × Nat × Nat) : Prop :=
  UnitRowScalar c u src f e ∨ UnitRowVector c u src f e ∨ UnitRowModular c u src f e ∨ UnitRowFixed c u src f e ∨ UnitRowBytes c u src f e ∨
    UnitRowScratch c u src f e ∨ UnitRowRandom c u src f e ∨ UnitRowControl c u src f e

end Sys2Proof.Machine
end

