-- ==== Sys2Proof/Certificates/Slice0/Obligations.lean ====
section
/-! DEFINITION. The statements for the provers: what the block does, command by command and as a whole. -/
open Sys2Proof Sys2Proof.Machine

/-- O1. A step takes the command at the front of the queue and runs exec on the rest. (spec/opcode_table.json, 01_architecture) For every command c,
every queue rest and every state s: step of s with the queue c :: rest is exec of c on s with the queue rest. The queue is the model's own form of the
commands that wait; commands come from one sender (log entry 1). -/
def Obligations.StepRunsTheFrontCommand : Prop :=
  ∀ (c : Instr) (rest : List Instr) (s : State), step { s with pending := c :: rest } = exec c { s with pending := rest }

/-- O2. Every step removes exactly the command at the front of the queue and leaves the rest in order. (01_architecture, 98_reader) Whatever the state
and the command, the queue after a step is the queue before it without its first command; no command's meaning adds, drops or reorders a waiting
command. This is the model's queue (log entry 1). -/
def Obligations.StepServesTheQueueInOrder : Prop := ∀ s t : State, step s = .next t → t.pending = s.pending.tail

/-- O3. No state and no command stop the block: every step answers a next state. (spec/opcode_table.json) For every state there is a state that step
answers as the next one. The spec gives every command an effect, so none ends in a fault or a refusal. -/
def Obligations.EveryStepAnswersANextState : Prop := ∀ s : State, ∃ t : State, step s = .next t

/-- O4. On an empty queue the counter advances by one increment plus its correction. (17_trusted_time (R406, R417)) With no command waiting, the
counter running and no THERMTRIP latch, a step is one cycle of the time clock: the state after it is that of timeTick but for the nine counters of
corrected errors, which never fall, and the draw of their free increments. With the keeper holding the time it is one tick of the keeper; with the
latch set, only time passes. A tick on an empty queue and the free increments are the model's choices (DESIGN CHOICE, log entries 2 and 78). -/
def Obligations.IdleStepIsOneTick : Prop :=
  ∀ s : State, s.pending = [] →
    (s.tim.onKeeper = true → step s = .next s.keeperTick) ∧
    (s.tim.onKeeper = false → s.pwr.tripLatch = false → ∃ t, step s = .next t ∧ t = { s.timeTick with regs := t.regs, free := t.free } ∧
      (∀ f i, (f ∉ upsetCounters ∨ i ≠ 0) → t.getF f i = s.timeTick.getF f i) ∧
      (s.regsOk → ∀ f ∈ upsetCounters, s.timeTick.getF f 0 ≤ t.getF f 0)) ∧
    (s.tim.onKeeper = false → s.pwr.tripLatch = true → step s = .next { s with now := s.now + 4 })

/-- O5. The state after reset meets the invariant that every step keeps. (22_power_clocks_resets, 17_trusted_time (R405)) In the state after reset the
register file is in canonical form with every field within its width, the counter and the keeper hold a legal time, no command waits, nothing has been
sent and no job is fetched. -/
def Obligations.ResetMeetsTheInvariant : Prop :=
  State.reset.Inv ∧ State.reset.pending = [] ∧ State.reset.sent = [] ∧ State.reset.jobs = []

/-- O6. Every step keeps registers canonical and within their widths, and both clocks at a legal time. (00_scope (R6), 17_trusted_time (R405)) For
every state that meets the invariant, and every command or tick: if step answers a next state, it meets the invariant too. The invariant: the register
file lists each field instance at most once, in rising order, only where it differs from its reset value, every value fits its field; the counter and
the keeper hold SECONDS below 2^48, NANOSECONDS below 10^9 and a 32-bit SUBNS. -/
def Obligations.StepKeepsTheInvariant : Prop := ∀ s t : State, s.Inv → step s = .next t → t.Inv

/-- O7. Every block's _ID reads its vector, revision 0x01 and part 0x4816; GLB_ID stays readable in END_OF_LIFE. (R524) In every state outside
END_OF_LIFE in which the identity fields hold their reset values (no write reaches them), the _ID register of block n reads n in [31:24], 0x01 in
[23:16] and 0x4816 in [15:0], for the 22 blocks: 0x0001_4816 for GLB and 0x0E01_4816 for SEAL. In END_OF_LIFE GLB_ID still reads so, LCO_STATE reads
its STATE, and every other register reads 0 (the last: chapter 03). -/
def Obligations.BlockIdentities : Prop :=
  ∀ (s : State) (n : Nat), n < 22 → (∀ f ∈ Reg.BLK_ID.fields, s.getF f n = f.reset n) →
    (s.getF .LCO_STATE_STATE 0 ≠ 0xF ∨ n = 0 → s.regValue .BLK_ID n = n * 2 ^ 24 + 0x014816) ∧
    (s.getF .LCO_STATE_STATE 0 ≠ 0xF → n = 0 → s.regValue .BLK_ID n = 0x00014816) ∧
    (s.getF .LCO_STATE_STATE 0 ≠ 0xF → n = 14 → s.regValue .BLK_ID n = 0x0E014816) ∧
    (s.getF .LCO_STATE_STATE 0 = 0xF → ∀ (r : Reg) (i : Nat), r ≠ .LCO_STATE → ¬(r = .BLK_ID ∧ i = 0) → s.regValue r i = 0)

/-- O8. A register write changes each field by its access code and nothing else. (00_scope (R5, R6, R7)) Where a register has no row of its own,
exists in this instance and the device is not in END_OF_LIFE, REGISTER_WRITE answers a next state. In it RW fields hold what was written, RWL fields
too unless locked, W1C bits written 1 are clear, W1S bits written 1 are set, RO and SAT fields keep their values, and so do WO fields but the two
whose value a later command uses. Reserved bits have no effect. Every other field, everything else of the state but a held low half is unchanged. Five
registers do more and are excepted (next statement). Premises: register values fit their fields (the invariant), Memory Space Enable is 1, the clocks
run and nothing sleeps. -/
def Obligations.RegisterWriteFollowsAccessCodes : Prop :=
  ∀ (r : Reg) (i : Nat) (v : W64) (s : State), s.regsOk → s.Serves → s.getF .LCO_STATE_STATE 0 ≠ 0xF → regExists r i = true → r ∉ ownRows → ownRowBy r v.toNat = false →
    r ∉ [Reg.SLC_SLICE_DPL_BASE, .SLC_SLICE_DPL_CONS, .SLC_T_MBX, .TIM_CTRL, .TMP_SRC_STATUS] →
    ∃ t, exec (.registerWrite r i v) s = .next t ∧
      (∀ f ∈ r.fields, t.getF f i =
        match f.desc.acc with
        | .RW => bits v.toNat f.desc.hi f.desc.lo
        | .RWL => if s.locked r i then s.getF f i else bits v.toNat f.desc.hi f.desc.lo
        | .W1C => (s.getF f i).xor (s.getF f i &&& bits v.toNat f.desc.hi f.desc.lo)
        | .W1S => s.getF f i ||| bits v.toNat f.desc.hi f.desc.lo
        | .WO => if f = .LCO_DIAG_TOKEN_TOKEN ∨ f = .LCO_PROV_DATA_DATA then bits v.toNat f.desc.hi f.desc.lo else s.getF f i
        | .RO => s.getF f i
        | .SAT => s.getF f i) ∧
      (∀ f j, ¬(f ∈ r.fields ∧ j = i) → t.getF f j = s.getF f j) ∧
      (∀ r' j, ¬(r' = r ∧ j = i) → mget (fun _ => 0) t.heldLow (r', j) = mget (fun _ => 0) s.heldLow (r', j)) ∧
      t = { s with regs := t.regs, heldLow := t.heldLow }

/-- O9. Mailbox, dirty-log and tamper-status registers, and what every memory request meets while memory space is off, asleep or without clocks.
(04_slices (R62, R77, R80, R85), 20_tamper (R475), 03_pcie_attachment (R40), 02_package_and_pins (R32), 22_power_clocks_resets (R495)) A write of
SLC_T_MBX through an open window changes M2T_VECTOR and M2T_IRQ_EN alone. A write of SLC_SLICE_DPL_CONS sets CONS and reports CFG_STATUS 0, one of
SLC_SLICE_DPL_BASE its two fields and CFG_STATUS 0, or, while LOG_EN is 1, nothing but CFG_STATUS BUSY and the count of refused writes. A write of
TMP_SRC_STATUS that would clear RAISED while the source is ACTIVE changes nothing but the count of refused clears. In each, only a low half held for
that register may go beside. Every command that is a memory request answers Unsupported Request while Memory Space Enable is 0, and acts in a sleeping
device as it acts once that is awake. While the THERMTRIP latch is set no memory request and no other command of the fast clocks changes anything. -/
def Obligations.RegistersThatDoMore : Prop :=
  (∀ (c : Instr) (s : State), MemoryRequest c = true → s.stopped = false →
    (s.pci.memSpace = false → exec c s = .next (s.awake.say .unsupported)) ∧ (s.pci.memSpace = true → exec c s = exec c s.awake)) ∧
  (∀ (c : Instr) (s : State), s.stopped = true → MemoryRequest c = true ∨ FastClocked c = true → exec c s = .next s) ∧
  ∀ (i : Nat) (v : W64) (s : State), s.Serves → s.getF .LCO_STATE_STATE 0 ≠ 0xF →
    (i < 4096 → (i = 0 ∨ s.getF .SLC_SLICE_CTRL_ENABLE i ≠ 0) → ∃ t, exec (.registerWrite .SLC_T_MBX i v) s = .next t ∧
      Sets { s with heldLow := t.heldLow } t [((.SLC_T_MBX_M2T_VECTOR, i), bits v.toNat 31 21), ((.SLC_T_MBX_M2T_IRQ_EN, i), bits v.toNat 16 16)]) ∧
    (i < 4096 → ∃ t, exec (.registerWrite .SLC_SLICE_DPL_CONS i v) s = .next t ∧
      Sets { s with heldLow := t.heldLow } t [((.SLC_SLICE_DPL_CONS_CONS, i), bits v.toNat Fld.SLC_SLICE_DPL_CONS_CONS.desc.hi Fld.SLC_SLICE_DPL_CONS_CONS.desc.lo),
        ((.SLC_SLICE_CTRL_CFG_STATUS, i), 0)]) ∧
    (i < 4096 → s.getF .SLC_SLICE_CTRL_LOG_EN i ≠ 0 → ∃ t, exec (.registerWrite .SLC_SLICE_DPL_BASE i v) s = .next t ∧
      Sets { s with heldLow := t.heldLow } t [((.SLC_SLICE_CTRL_CFG_STATUS, i), 1), ((.SLC_CFG_REFUSED_COUNT_COUNT, 0), s.plus .SLC_CFG_REFUSED_COUNT_COUNT 0 1)]) ∧
    (i < 4096 → s.getF .SLC_SLICE_CTRL_LOG_EN i = 0 → ∃ t, exec (.registerWrite .SLC_SLICE_DPL_BASE i v) s = .next t ∧
      Sets { s with heldLow := t.heldLow } t [((.SLC_SLICE_DPL_BASE_BASE, i), bits v.toNat Fld.SLC_SLICE_DPL_BASE_BASE.desc.hi Fld.SLC_SLICE_DPL_BASE_BASE.desc.lo),
        ((.SLC_SLICE_DPL_BASE_SIZE_LOG2, i), bits v.toNat Fld.SLC_SLICE_DPL_BASE_SIZE_LOG2.desc.hi Fld.SLC_SLICE_DPL_BASE_SIZE_LOG2.desc.lo),
        ((.SLC_SLICE_CTRL_CFG_STATUS, i), 0)]) ∧
    (i < 16 → bit v.toNat 31 = true → s.getF .TMP_SRC_STATUS_RAISED i ≠ 0 → s.getF .TMP_SRC_STATUS_ACTIVE i ≠ 0 →
      ∃ t, exec (.registerWrite .TMP_SRC_STATUS i v) s = .next t ∧
        Sets { s with heldLow := t.heldLow } t [((.BLK_ERR_CLEAR_REFUSED_COUNT, blkTMP), s.plus .BLK_ERR_CLEAR_REFUSED_COUNT blkTMP 1)])

/-- O10. The low half is held for its register alone, the high half applies the whole, and a two-part read latches the high half. (00_scope (R5)) For
a 64-bit register: a low-half write holds the half for that register and instance, replaces one held before, leaves every other held half and every
register unchanged. A high-half write after it, on a register without a row of its own, answers what REGISTER_WRITE of the whole value answers. A
high-half write with no low half held answers what REGISTER_WRITE of the high half with the register's current low half answers. For the five wide
registers whose write is a row of its own, the high-half write answers what that row answers with the whole value. A low-half read sends the low 4
bytes of the register's value and latches the rest, which a read of the high half then gives, and changes nothing else; a held low half does not show
in it (ENT_SW_DATA has a row of its own). -/
def Obligations.TwoPartAccess : Prop :=
  ∀ (r : Reg) (i : Nat) (s : State), s.Serves → r.desc.wide = true → i < r.instances →
    (∀ lo : W32, ∃ t, exec (.reg64LowHalfWrite r i lo) s = .next t ∧ t = { s with heldLow := t.heldLow } ∧
      mget (fun _ => 0) t.heldLow (r, i) = lo.toNat + 1 ∧
      (∀ r' j, (r', j) ≠ (r, i) → mget (fun _ => 0) t.heldLow (r', j) = mget (fun _ => 0) s.heldLow (r', j)) ∧
      (∀ r' j, t.regValue r' j = s.regValue r' j) ∧
      (∀ (hi : W32) (d : List Byte) (img : VaultImage),
        (r ∉ ownRows → ∃ u, exec (.reg64HighHalfWrite r i hi d img) t = .next u ∧ exec (.registerWrite r i (hi ++ lo)) t = .next u) ∧
        (∃ u, exec (.reg64HighHalfWrite r i hi d img) t = .next u ∧ mget (fun _ => 0) u.heldLow (r, i) = 0 ∧
          let w := (hi ++ lo).toNat
          (r = .SEAL_RANGE_KV → exec (.sealRangeWrite .kv (hi ++ lo)) s = .next { u with heldLow := mset regOrd (fun _ => 0) s.heldLow (r, i) 0 }) ∧
          (r = .SEAL_RANGE_QRE → exec (.sealRangeWrite .qre (hi ++ lo)) s = .next { u with heldLow := mset regOrd (fun _ => 0) s.heldLow (r, i) 0 }) ∧
          (r = .SEAL_RANGE_SLICE → exec (.sealRangeWrite (.slice i) (hi ++ lo)) s = .next { u with heldLow := mset regOrd (fun _ => 0) s.heldLow (r, i) 0 }) ∧
          (r = .TIM_SET_SEC → bit w 63 = true → exec (.timeSet (bits w 47 0)) s = .next { u with heldLow := mset regOrd (fun _ => 0) s.heldLow (r, i) 0 }) ∧
          (r = .TIM_SET_SEC → bit w 63 = false → u = { s with heldLow := u.heldLow }) ∧
          (r = .QE_SC_COMPLETE → exec (.scComplete i (bits w 31 0) (bits w 47 32) d img) s = .next { u with heldLow := mset regOrd (fun _ => 0) s.heldLow (r, i) 0 })))) ∧
    (∀ (hi : W32) (d : List Byte) (img : VaultImage), r ∉ ownRows → mget (fun _ => 0) s.heldLow (r, i) = 0 →
      ∃ u, exec (.reg64HighHalfWrite r i hi d img) s = .next u ∧
        exec (.registerWrite r i (BitVec.ofNat 64 (hi.toNat * 2 ^ 32 + s.regValue r i % 2 ^ 32))) s = .next u) ∧
    (r ≠ .ENT_SW_DATA → ∃ t, exec (.reg64LowHalfRead r i) s = .next t ∧ t = { s with latchedHigh := t.latchedHigh, sent := s.sent ++ [.completion (leBytes 4 (s.regValue r i))] } ∧
      mget (fun _ => 0) t.latchedHigh (r, i) = s.regValue r i / 2 ^ 32 + 1 ∧ t.highHalf r i = s.regValue r i / 2 ^ 32 ∧
      (∀ r' j, (r', j) ≠ (r, i) → mget (fun _ => 0) t.latchedHigh (r', j) = mget (fun _ => 0) s.latchedHigh (r', j)))

/-- O11. Causes clear only once their condition has ended, a cleared limit ends its count, an enabled set cause sends its vector once.
(23_block_errors (R514, R515, R517, R519), 03_pcie_attachment (R54)) ERR_STATUS_CLEAR with a single bit, for a block other than the four that recover
by themselves: a set cause whose condition of R519 has ended clears that bit and nothing else; one whose condition lasts changes nothing but the
block's count of refused clears; a cause that is not set changes nothing. For PCI, TIM and LMC a clear of exactly the limit cause, while it is set,
clears the cause and sets the recovery count to 0, with nothing else of the registers changed; PCI may then train at every rate again.
ERR_IRQ_EN_WRITE sets the enable bits; if some bit goes from 0 to 1 while its cause is set, the block's vector is sent once (as a message, a pending
bit or a held message, as R46 and R49 have it); otherwise nothing is sent and no other field changes. -/
def Obligations.BlockErrorsLatchAndClear : Prop :=
  (∀ (s : State) (blk c : Nat), s.Serves → blk < 22 → limitCause blk = none → c < 32 → s.regsOk →
    let was := s.getF .BLK_ERR_STATUS_CAUSE blk
    (bit was c = false → exec (.errStatusClear blk (BitVec.ofNat 32 (2 ^ c))) s = .next s) ∧
    (bit was c = true → s.causeHolds blk c = true → ∃ t, exec (.errStatusClear blk (BitVec.ofNat 32 (2 ^ c))) s = .next t ∧
      Sets s t [((.BLK_ERR_CLEAR_REFUSED_COUNT, blk), s.plus .BLK_ERR_CLEAR_REFUSED_COUNT blk 1)]) ∧
    (bit was c = true → s.causeHolds blk c = false → ∃ t, exec (.errStatusClear blk (BitVec.ofNat 32 (2 ^ c))) s = .next t ∧
      Sets s t [((.BLK_ERR_STATUS_CAUSE, blk), was - 2 ^ c)])) ∧
  (∀ (s : State) (blk c : Nat), s.Serves → s.regsOk → (blk, c) ∈ [(1, 1), (15, 1), (17, 3)] → bit (s.getF .BLK_ERR_STATUS_CAUSE blk) c = true →
    ∃ t, exec (.errStatusClear blk (BitVec.ofNat 32 (2 ^ c))) s = .next t ∧
      t.getF .BLK_ERR_STATUS_CAUSE blk = s.getF .BLK_ERR_STATUS_CAUSE blk - 2 ^ c ∧ t.getF .BLK_RECOVERY_COUNT_COUNT blk = 0 ∧
      (∀ f i, (f, i) ∉ [(Fld.BLK_ERR_STATUS_CAUSE, blk), (.BLK_RECOVERY_COUNT_COUNT, blk)] → t.getF f i = s.getF f i) ∧
      t = { s with regs := t.regs, pci := if blk = 1 then { s.pci with limited := false } else s.pci }) ∧
  (∀ (s : State) (blk : Nat) (v : W32), s.Serves →
    (let s1 := s.setF .BLK_ERR_IRQ_EN_EN blk v.toNat
     (∃ c < 32, bit v.toNat c = true ∧ bit (s.getF .BLK_ERR_IRQ_EN_EN blk) c = false ∧ bit (s.getF .BLK_ERR_STATUS_CAUSE blk) c = true) →
       exec (.errIrqEnWrite blk v) s = .next (s1.sendVector blk)) ∧
    ((∀ c < 32, bit v.toNat c = true → bit (s.getF .BLK_ERR_IRQ_EN_EN blk) c = false → bit (s.getF .BLK_ERR_STATUS_CAUSE blk) c = false) →
      ∃ t, exec (.errIrqEnWrite blk v) s = .next t ∧ Sets s t [((.BLK_ERR_IRQ_EN_EN, blk), v.toNat)]))

/-- O12. The SMBus target answers its codes with PEC, clears alerts, counts and NACKs bad transfers, releases its pin, and a read alters nothing.
(24_register_index (R529, R530, R531), 23_block_errors (R514)) While the main logic runs, each SMBus read sends one answer (code 0x00 the temperature,
0x01 the status word, 0x02 the power, 0x03 the alert status, 0x04 the power limit, 0x05 a count of 12, GLB_ID and the serial number), with PEC over
the whole message when the host clocks it, and changes nothing else; with the main logic stopped a read changes nothing; neither does a clock-low
timeout. A byte written to code 0x03 without PEC, or with the right PEC, clears exactly the alert bits it sets. An undefined code or a wrong PEC is
NACKed, SMB_PROTOCOL_COUNT rises by one and stops at its maximum, and cause PROTOCOL (bit 0) is set with the command code as syndrome where it is the
first. With SMB_ALERT# asserted, the Alert Response Address cycle sends the target's address and releases the pin with no alert bit changed. That PEC
is the CRC-8 of the cited SMBus standard is PRESUMED (log entry 60). -/
def Obligations.SmbusTarget : Prop :=
  (∀ (s : State) (p : Bool),
    (s.Running →
      let tells := fun (code : Nat) (d : List Byte) =>
        s.say (.smb (if p then d ++ leBytes 1 (pec (leBytes 1 (2 * s.smbAddress) ++ leBytes 1 code ++ leBytes 1 (2 * s.smbAddress + 1) ++ d)) else d))
      exec (.smbReadTemp p) s = .next (tells 0 (leBytes 2 (s.getF .PWR_TEMP_T 0))) ∧
      exec (.smbReadStatus p) s = .next (tells 1 (leBytes 2 s.smbStatus)) ∧
      exec (.smbReadPower p) s = .next (tells 2 (leBytes 2 (s.getF .PWR_POWER_NOW_CW 0))) ∧
      exec (.smbReadAlertStatus p) s = .next (tells 3 (leBytes 2 (s.getF .SMB_ALERT_STATUS_ALERT 0))) ∧
      exec (.smbReadPowerLimit p) s = .next (tells 4 (leBytes 1 (s.getF .PWR_POWER_LIMIT_W 0))) ∧
      exec (.smbReadIdentity p) s = .next (tells 5 (leBytes 1 12 ++ leBytes 4 0x00014816 ++ s.serial))) ∧
    exec .smbClockLowTimeout s = .next s ∧
    (¬s.Running → ∀ c ∈ [Instr.smbReadTemp p, .smbReadStatus p, .smbReadPower p, .smbReadAlertStatus p, .smbReadPowerLimit p, .smbReadIdentity p],
      exec c s = .next s)) ∧
  (∀ s : State, s.Running → s.regsOk →
    (∀ (v : Byte) (sent : Option Byte),
      (sent = none ∨ sent = some (BitVec.ofNat 8 (pec (leBytes 1 (2 * s.smbAddress) ++ leBytes 1 3 ++ [v])))) →
      ∃ t, exec (.smbClearAlertStatus v sent) s = .next t ∧ t = { s with regs := t.regs } ∧
        (∀ n < 6, bit (t.getF .SMB_ALERT_STATUS_ALERT 0) n = (bit (s.getF .SMB_ALERT_STATUS_ALERT 0) n && !bit v.toNat n)) ∧
        ∀ f i, (f, i) ≠ (.SMB_ALERT_STATUS_ALERT, 0) → t.getF f i = s.getF f i) ∧
    (∀ (code : Byte) (pecBad : Bool), (5 < code.toNat ∨ pecBad = true) →
      ∃ t, exec (.smbBadCommand code pecBad) s = .next t ∧ Msg.smbNack ∈ t.sent.drop s.sent.length ∧
        t.getF .SMB_PROTOCOL_COUNT_COUNT 0 = s.plus .SMB_PROTOCOL_COUNT_COUNT 0 1 ∧ bit (t.getF .BLK_ERR_STATUS_CAUSE 21) 0 = true ∧
        (s.getF .BLK_ERR_STATUS_CAUSE 21 = 0 → t.getF .BLK_ERR_FIRST_CAUSE 21 = 0 ∧ t.getF .BLK_ERR_FIRST_SYNDROME 21 = code.toNat)) ∧
    (s.smbAlert = true → exec .smbAlertResponse s =
      .next { s with pwr := { s.pwr with alertQuiet := true }, sent := s.sent ++ [.smb (leBytes 1 (2 * s.smbAddress + 1))] }))

/-- O13. PAUSE, RESET, LOG_EN and ENABLE on slice 0 are refused; ENABLE rises under the PASID rules and falls only while PAUSED. (R64) On slice 0 each
of the six control commands answers a next state that differs in CFG_STATUS 6 (SLICE0) and the count of refused writes alone. On another slice that is
off, with the device ready, PASID Enable set, a valid PASID and no other enabled slice holding it, SLICE_ENABLE sets ENABLE, STATE (RUN, or PAUSED
while PAUSE is 1) and CFG_STATUS 0, and nothing else; without PASID Enable or a valid PASID it is refused with 5, with a PASID held by another with 4.
SLICE_DISABLE while PAUSED clears ENABLE, sets STATE OFF and changes nothing else: grants, keys, streams and blocks stay; in any other STATE it is
refused with BUSY. -/
def Obligations.SliceControlFollowsItsRules : Prop :=
  ∀ s : State, s.Serves →
    (∀ c ∈ [Instr.sliceEnable 0, .sliceDisable 0, .slicePause 0, .sliceUnpause 0, .sliceReset 0, .dplLogEnable 0 true, .dplLogEnable 0 false],
      ∃ t, exec c s = .next t ∧
        Sets s t [((.SLC_SLICE_CTRL_CFG_STATUS, 0), 6), ((.SLC_CFG_REFUSED_COUNT_COUNT, 0), s.plus .SLC_CFG_REFUSED_COUNT_COUNT 0 1)]) ∧
    (∀ sl : Nat, sl ≠ 0 → s.getF .SLC_SLICE_CTRL_ENABLE sl = 0 → s.getF .GLB_STATUS_READY 0 ≠ 0 → s.getF .SLC_SLICE_CTRL_STATE sl = 0 →
      let mayBind := s.pci.pasidEn = true ∧ s.getF .SLC_SLICE_PASID_PASID_VALID sl ≠ 0
      let taken := ∃ i, i ≠ sl ∧ (i = 0 ∨ s.getF .SLC_SLICE_CTRL_ENABLE i ≠ 0) ∧ s.getF .SLC_SLICE_PASID_PASID_VALID i ≠ 0 ∧
        s.getF .SLC_SLICE_PASID_PASID i = s.getF .SLC_SLICE_PASID_PASID sl
      (mayBind → ¬taken → ∃ t, exec (.sliceEnable sl) s = .next t ∧
        Sets s t [((.SLC_SLICE_CTRL_ENABLE, sl), 1), ((.SLC_SLICE_CTRL_STATE, sl), if s.getF .SLC_SLICE_CTRL_PAUSE sl = 0 then 1 else 3),
          ((.SLC_SLICE_CTRL_CFG_STATUS, sl), 0)]) ∧
      (¬mayBind → ∃ t, exec (.sliceEnable sl) s = .next t ∧
        Sets s t [((.SLC_SLICE_CTRL_CFG_STATUS, sl), 5), ((.SLC_CFG_REFUSED_COUNT_COUNT, 0), s.plus .SLC_CFG_REFUSED_COUNT_COUNT 0 1)]) ∧
      (mayBind → taken → ∃ t, exec (.sliceEnable sl) s = .next t ∧
        Sets s t [((.SLC_SLICE_CTRL_CFG_STATUS, sl), 4), ((.SLC_CFG_REFUSED_COUNT_COUNT, 0), s.plus .SLC_CFG_REFUSED_COUNT_COUNT 0 1)])) ∧
    (∀ sl : Nat, sl ≠ 0 →
      (s.getF .SLC_SLICE_CTRL_STATE sl = 3 → ∃ t, exec (.sliceDisable sl) s = .next t ∧
        Sets s t [((.SLC_SLICE_CTRL_ENABLE, sl), 0), ((.SLC_SLICE_CTRL_STATE, sl), 0), ((.SLC_SLICE_CTRL_CFG_STATUS, sl), 0)]) ∧
      (s.getF .SLC_SLICE_CTRL_STATE sl ≠ 3 → ∃ t, exec (.sliceDisable sl) s = .next t ∧
        Sets s t [((.SLC_SLICE_CTRL_CFG_STATUS, sl), 1), ((.SLC_CFG_REFUSED_COUNT_COUNT, 0), s.plus .SLC_CFG_REFUSED_COUNT_COUNT 0 1)]))

/-- O14. Pausing stops fetching until nothing is left, un-pausing resumes, and slice 0 and a resetting slice take neither. (04_slices (R66, R75)) On a
running slice other than 0 none of whose queues holds a passed result, SLICE_PAUSE sets PAUSE, and STATE to PAUSING while a job of the slice is left
(an entry that came with OWN 0 is none yet, log entry 92) and to PAUSED when none is; nothing else changes but CFG_STATUS 0. From then on no queue of
the slice may fetch. SLICE_UNPAUSE of a pausing or paused slice clears PAUSE and returns STATE to RUN. PASID_PENDING_CLEAR clears the bit once no read
under another PASID is outstanding. -/
def Obligations.SlicePauseAndResume : Prop :=
  ∀ (s : State) (sl : Nat), sl ≠ 0 → s.Serves →
    (s.getF .SLC_SLICE_CTRL_STATE sl = 1 → (∀ e ∈ s.queues, (s.queue e.1).passed = none) →
      ∃ t, exec (.slicePause sl) s = .next t ∧
        Sets s t [((.SLC_SLICE_CTRL_PAUSE, sl), 1), ((.SLC_SLICE_CTRL_CFG_STATUS, sl), 0),
          ((.SLC_SLICE_CTRL_STATE, sl), if (∃ j ∈ s.jobs, j.slice = sl ∧ j.stage ≠ .done ∧ j.stage ≠ .ownWait) then 2 else 3)] ∧
        ∀ q, t.ownerOf q = some sl → t.mayFetch q = false) ∧
    (s.getF .SLC_SLICE_CTRL_STATE sl = 2 ∨ s.getF .SLC_SLICE_CTRL_STATE sl = 3 →
      ∃ t, exec (.sliceUnpause sl) s = .next t ∧
        Sets s t [((.SLC_SLICE_CTRL_PAUSE, sl), 0), ((.SLC_SLICE_CTRL_CFG_STATUS, sl), 0), ((.SLC_SLICE_CTRL_STATE, sl), 1)]) ∧
    ((∀ j ∈ s.jobs, j.slice = sl → j.stage = .fetching → j.pasid = s.pasidOf sl) →
      ∃ t, exec (.pasidPendingClear sl) s = .next t ∧ Sets s t [((.SLC_SLICE_PASID_PASID_PENDING, sl), 0)])

/-- O15. A PASID write binds the slice unless another enabled slice holds it, and pends while old requests are outstanding. (04_slices (R60, R62, R65,
R66)) A write that keeps or sets PASID_VALID with a PASID no other enabled slice holds sets both fields, CFG_STATUS 0, and PASID_PENDING to 1 exactly
while some read of the slice carries another PASID; nothing else changes. One with a PASID that another enabled slice holds is refused with 4 and
counted, and so is, with 1, one that would unbind an enabled slice (the last is the model's choice, log entry 5). -/
def Obligations.SlicePasidBinding : Prop :=
  ∀ (s : State) (sl : Nat) (v : W32), s.Serves →
    let p := bits v.toNat 19 0
    let taken := ∃ i, i ≠ sl ∧ (i = 0 ∨ s.getF .SLC_SLICE_CTRL_ENABLE i ≠ 0) ∧ s.getF .SLC_SLICE_PASID_PASID_VALID i ≠ 0 ∧
      s.getF .SLC_SLICE_PASID_PASID i = p
    (bit v.toNat 30 = true → ¬taken → ∃ t, exec (.slicePasidWrite sl v) s = .next t ∧
      Sets s t [((.SLC_SLICE_PASID_PASID_VALID, sl), 1), ((.SLC_SLICE_PASID_PASID, sl), p), ((.SLC_SLICE_CTRL_CFG_STATUS, sl), 0),
        ((.SLC_SLICE_PASID_PASID_PENDING, sl), if (∃ j ∈ s.jobs, j.slice = sl ∧ j.stage = .fetching ∧ j.pasid ≠ some p) then 1 else 0)]) ∧
    (bit v.toNat 30 = true → taken → ∃ t, exec (.slicePasidWrite sl v) s = .next t ∧
      Sets s t [((.SLC_SLICE_CTRL_CFG_STATUS, sl), 4), ((.SLC_CFG_REFUSED_COUNT_COUNT, 0), s.plus .SLC_CFG_REFUSED_COUNT_COUNT 0 1)]) ∧
    (bit v.toNat 30 = false → sl ≠ 0 → s.getF .SLC_SLICE_CTRL_ENABLE sl ≠ 0 → ∃ t, exec (.slicePasidWrite sl v) s = .next t ∧
      Sets s t [((.SLC_SLICE_CTRL_CFG_STATUS, sl), 1), ((.SLC_CFG_REFUSED_COUNT_COUNT, 0), s.plus .SLC_CFG_REFUSED_COUNT_COUNT 0 1)])

/-- O16. A queue range is accepted only if every queue in the old and the new range is disabled and drained. (R71) If every device queue of the old
and of the new range is disabled, in STATE 0 and without an entry fetched and not completed, and the new range is inside the device and overlaps no
other slice's, the write sets QCOUNT, QBASE and CFG_STATUS 0 and nothing else. If some queue of either range is not so, the write is refused with BUSY
and changes nothing else but the count of refused writes. -/
def Obligations.QueueRangeMovesOnlyWhenIdle : Prop :=
  ∀ (s : State) (sl : Nat) (v : W32), s.Serves →
    let n := bits v.toNat 26 16
    let a := bits v.toNat 13 0
    let inRange := fun q => (s.getF .SLC_SLICE_QUEUES_QBASE sl ≤ q ∧ q < s.getF .SLC_SLICE_QUEUES_QBASE sl + s.getF .SLC_SLICE_QUEUES_QCOUNT sl) ∨ (a ≤ q ∧ q < a + n)
    let idle := fun q => s.getF .QC_CTRL_ENABLE q = 0 ∧ s.getF .QC_CTRL_STATE q = 0 ∧ ∀ j ∈ s.jobs, j.q = q → j.stage = .done
    ((∀ q, inRange q → idle q) → n ≤ 1024 → a + n ≤ 16384 →
      (∀ i, i ≠ sl → ∀ q, a ≤ q → q < a + n → ¬(s.getF .SLC_SLICE_QUEUES_QBASE i ≤ q ∧ q < s.getF .SLC_SLICE_QUEUES_QBASE i + s.getF .SLC_SLICE_QUEUES_QCOUNT i)) →
      ∃ t, exec (.sliceQueuesWrite sl v) s = .next t ∧
        Sets s t [((.SLC_SLICE_QUEUES_QCOUNT, sl), n), ((.SLC_SLICE_QUEUES_QBASE, sl), a), ((.SLC_SLICE_CTRL_CFG_STATUS, sl), 0)]) ∧
    ((∃ q, inRange q ∧ ¬idle q) → ∃ t, exec (.sliceQueuesWrite sl v) s = .next t ∧
      Sets s t [((.SLC_SLICE_CTRL_CFG_STATUS, sl), 1), ((.SLC_CFG_REFUSED_COUNT_COUNT, 0), s.plus .SLC_CFG_REFUSED_COUNT_COUNT 0 1)])

/-- O17. Grants are written when they fit, and refused with OVERLAP or RANGE when they do not. (04_slices (R62, R67, R68, R69, R70)) Weights and the
stream quota are always written; a key quota of at most 65,536 and a sealed-store quota of at most 2^31 blocks are; an event-ring range inside the
device that overlaps no other slice's is, and so is a vector range at or above vector 64 (with no message pending in the PBA for a vector that
leaves). Each sets its fields and CFG_STATUS 0 and nothing else. Out-of-range grants are refused with 3 and counted. -/
def Obligations.GrantWritesTakeEffect : Prop :=
  ∀ (s : State) (sl : Nat) (v : W32), s.Serves →
    let n := v.toNat
    let free := fun (count base : Fld) (a m : Nat) => ∀ i, i ≠ sl → ∀ x, a ≤ x → x < a + m → ¬(s.getF base i ≤ x ∧ x < s.getF base i + s.getF count i)
    let ok := fun (g : Grant) (l : List ((Fld × Nat) × Nat)) => ∃ t, exec (.sliceGrantWrite g sl v) s = .next t ∧
      Sets s t (l ++ [((.SLC_SLICE_CTRL_CFG_STATUS, sl), 0)])
    let outOfRange := fun (g : Grant) => ∃ t, exec (.sliceGrantWrite g sl v) s = .next t ∧
      Sets s t [((.SLC_SLICE_CTRL_CFG_STATUS, sl), 3), ((.SLC_CFG_REFUSED_COUNT_COUNT, 0), s.plus .SLC_CFG_REFUSED_COUNT_COUNT 0 1)]
    ok .weights [((.SLC_SLICE_WEIGHTS_MAR, sl), bits n 7 0), ((.SLC_SLICE_WEIGHTS_CDE, sl), bits n 15 8),
      ((.SLC_SLICE_WEIGHTS_BGN, sl), bits n 23 16), ((.SLC_SLICE_WEIGHTS_STR, sl), bits n 31 24)] ∧
    ok .streams [((.SLC_SLICE_STREAMS_STREAM_QUOTA, sl), bits n 7 0)] ∧
    (bits n 16 0 ≤ 65536 → ok .keys [((.SLC_SLICE_KEYS_KEY_QUOTA, sl), bits n 16 0)]) ∧ (65536 < bits n 16 0 → outOfRange .keys) ∧
    (n ≤ 2 ^ 31 → ok .sealQuota [((.SLC_SLICE_SEAL_QUOTA_BLOCKS, sl), n)]) ∧ (2 ^ 31 < n → outOfRange .sealQuota) ∧
    (bits n 24 16 ≤ 256 → bits n 11 0 + bits n 24 16 ≤ 4096 →
      free .SLC_SLICE_EVRINGS_ECOUNT .SLC_SLICE_EVRINGS_EBASE (bits n 11 0) (bits n 24 16) →
      ok .evrings [((.SLC_SLICE_EVRINGS_ECOUNT, sl), bits n 24 16), ((.SLC_SLICE_EVRINGS_EBASE, sl), bits n 11 0)]) ∧
    (bits n 26 16 ≤ 1024 → bits n 12 0 + bits n 26 16 ≤ 8192 → 64 ≤ bits n 12 0 →
      free .SLC_SLICE_VECTORS_VCOUNT .SLC_SLICE_VECTORS_VBASE (bits n 12 0) (bits n 26 16) → (∀ x, s.pba x = false) →
      ok .vectors [((.SLC_SLICE_VECTORS_VCOUNT, sl), bits n 26 16), ((.SLC_SLICE_VECTORS_VBASE, sl), bits n 12 0)])

/-- O18. At or above VCOUNT a vector sends nothing and is counted; a pending message of a vector that leaves the grant is discarded. (R73) A local
vector at or above VCOUNT sends no message: the only effect is one more in SLC_VEC_DROP_COUNT. An event ring whose vector is so still has its
message's state settled: the count cleared and the timer stopped. When VCOUNT is lowered with the base kept, the PBA bit of every vector that leaves
is clear after the write, and of every vector outside the old grant or inside the new one is unchanged. -/
def Obligations.LoweredVectorCountSilencesRings : Prop :=
  ∀ (s : State) (sl : Nat), s.regsOk → s.Serves →
    (∀ x, s.getF .SLC_SLICE_VECTORS_VCOUNT sl ≤ x → s.sliceVector sl x = s.count .SLC_VEC_DROP_COUNT_COUNT 0 1) ∧
    (∀ e, s.getF .SLC_SLICE_VECTORS_VCOUNT sl ≤ s.getF .EVR_CTRL_VECTOR e → s.ringOwner e = some sl → (s.ring e).timer ≠ none →
      s.getF .EVR_CTRL_IRQ_EN e ≠ 0 →
      exec (.coalTimer e) s = .next ((s.setRing e { s.ring e with since := 0, timer := none }).count .SLC_VEC_DROP_COUNT_COUNT 0 1)) ∧
    (∀ v : W32, let n := bits v.toNat 26 16; let a := s.getF .SLC_SLICE_VECTORS_VBASE sl; let m := s.getF .SLC_SLICE_VECTORS_VCOUNT sl
      bits v.toNat 12 0 = a → n ≤ m → m ≤ 1024 → a + m ≤ 8192 → 64 ≤ a →
      (∀ i, i ≠ sl → ∀ x, a ≤ x → x < a + m → ¬(s.getF .SLC_SLICE_VECTORS_VBASE i ≤ x ∧ x < s.getF .SLC_SLICE_VECTORS_VBASE i + s.getF .SLC_SLICE_VECTORS_VCOUNT i)) →
      ∃ t, exec (.sliceGrantWrite .vectors sl v) s = .next t ∧ t = { s with regs := t.regs } ∧ t.getF .SLC_SLICE_VECTORS_VCOUNT sl = n ∧
        ∀ x, t.pba x = if a + n ≤ x ∧ x < a + m then false else s.pba x)

/-- O19. Mailboxes: a message is written only while its FULL bit is 0, SEND sets FULL, ACK clears it. (04_slices (R62, R77, R78, R79),
03_pcie_attachment (R40)) Through an open window with T2M_FULL 0, a well-formed tenant write changes exactly its bytes of the slice's T2M area; while
T2M_FULL is 1 it changes only SLC_MBX_DROP_COUNT; the same for the manager and M2T. T2M_SEND then sets T2M_FULL and the slice's bit of SLC_MBX_PENDING
and sends the SLC block's vector. T2M_ACK clears T2M_FULL and, with the model's reading (DESIGN CHOICE, log entry 4), T2M_SEND and the pending bit.
M2T_SEND sets M2T_FULL and sends the tenant's vector only if M2T_IRQ_EN is 1; while M2T_FULL is 1 it sends nothing. M2T_ACK clears M2T_FULL. The
manager's two writes are slice-table writes and report CFG_STATUS 0. -/
def Obligations.MailboxHandshake : Prop :=
  ∀ (s : State) (sl : Nat), s.Serves → (sl = 0 ∨ s.getF .SLC_SLICE_CTRL_ENABLE sl ≠ 0) →
    (∀ (off : Nat) (d : List Byte), d.length ∈ [4, 8, 16, 32, 64] → off % d.length = 0 → off + d.length ≤ 256 →
      (s.getF .SLC_T_MBX_T2M_FULL sl = 0 → exec (.mailboxWrite sl true off d) s =
        .next (s.setSlice sl { s.slice sl with t2m := (s.slice sl).t2m.take off ++ d ++ (s.slice sl).t2m.drop (off + d.length) })) ∧
      (s.getF .SLC_T_MBX_M2T_FULL sl = 0 → exec (.mailboxWrite sl false off d) s =
        .next (s.setSlice sl { s.slice sl with m2t := (s.slice sl).m2t.take off ++ d ++ (s.slice sl).m2t.drop (off + d.length) })) ∧
      (s.getF .SLC_T_MBX_T2M_FULL sl ≠ 0 → ∃ t, exec (.mailboxWrite sl true off d) s = .next t ∧
        Sets s t [((.SLC_MBX_DROP_COUNT_COUNT, 0), s.plus .SLC_MBX_DROP_COUNT_COUNT 0 1)]) ∧
      (s.getF .SLC_T_MBX_M2T_FULL sl ≠ 0 → ∃ t, exec (.mailboxWrite sl false off d) s = .next t ∧
        Sets s t [((.SLC_MBX_DROP_COUNT_COUNT, 0), s.plus .SLC_MBX_DROP_COUNT_COUNT 0 1)])) ∧
    (s.getF .SLC_T_MBX_T2M_FULL sl = 0 → ∃ t : State, exec (.t2mSend sl) s = .next (t.sendVector 2) ∧ t = { s with regs := t.regs } ∧
      t.getF .SLC_T_MBX_T2M_FULL sl = 1 ∧ bit (t.getF .SLC_MBX_PENDING_BITS (sl / 32)) (sl % 32) = true ∧
      ∀ f i, (f, i) ∉ [(Fld.SLC_T_MBX_T2M_FULL, sl), (.SLC_T_MBX_T2M_SEND, sl), (.SLC_MBX_PENDING_BITS, sl / 32)] → t.getF f i = s.getF f i) ∧
    (∃ t, exec (.t2mAck sl) s = .next t ∧ t = { s with regs := t.regs } ∧ t.getF .SLC_T_MBX_T2M_FULL sl = 0 ∧ t.getF .SLC_SLICE_CTRL_CFG_STATUS sl = 0 ∧
      bit (t.getF .SLC_MBX_PENDING_BITS (sl / 32)) (sl % 32) = false ∧
      ∀ f i, (f, i) ∉ [(Fld.SLC_T_MBX_T2M_FULL, sl), (.SLC_T_MBX_T2M_SEND, sl), (.SLC_MBX_PENDING_BITS, sl / 32), (.SLC_SLICE_CTRL_CFG_STATUS, sl)] →
        t.getF f i = s.getF f i) ∧
    (s.getF .SLC_T_MBX_M2T_FULL sl = 0 → exec (.m2tSend sl) s = .next (
      let t := (s.setF .SLC_T_MBX_M2T_FULL sl 1).setF .SLC_SLICE_CTRL_CFG_STATUS sl 0
      if s.getF .SLC_T_MBX_M2T_IRQ_EN sl = 0 then t else t.sliceVector sl (s.getF .SLC_T_MBX_M2T_VECTOR sl))) ∧
    (s.getF .SLC_T_MBX_M2T_FULL sl ≠ 0 → ∃ t, exec (.m2tSend sl) s = .next t ∧ Sets s t [((.SLC_SLICE_CTRL_CFG_STATUS, sl), 0)]) ∧
    (∃ t, exec (.m2tAck sl) s = .next t ∧ Sets s t [((.SLC_T_MBX_M2T_FULL, sl), 0)])

/-- O20. Enabling the dirty-page log starts round 0, and NEW_ROUND writes the marker of the round that ends. (03_pcie_attachment (R49), 04_slices
(R81, R83, R84)) On a slice other than 0, DPL_LOG_ENABLE writes LOG_EN; from 0 to 1 the round number becomes 0. While the log is on, a slot is free
and the function may issue requests, NEW_ROUND writes an 8-byte marker at PROD with the number of the round that ends, its OVERFLOW state, the marker
code and the phase, moves PROD by one (to 0 at the end of the ring, the phase inverted), advances the round number, clears OVERFLOW and answers
CFG_STATUS 0. With no free slot or the log off it is refused with BUSY. -/
def Obligations.DirtyLogRounds : Prop :=
  ∀ (s : State) (sl : Nat), s.Serves →
    (sl ≠ 0 → ∀ en : Bool, ∃ t, exec (.dplLogEnable sl en) s = .next t ∧ t.getF .SLC_SLICE_CTRL_LOG_EN sl = b2n en ∧ t.getF .SLC_SLICE_CTRL_CFG_STATUS sl = 0 ∧
      (en = true → s.getF .SLC_SLICE_CTRL_LOG_EN sl = 0 → (t.slice sl).round = 0) ∧
      t = { s with regs := t.regs, slices := t.slices } ∧ (∀ i, i ≠ sl → t.slice i = s.slice i) ∧
      ∀ f i, (f, i) ∉ [(Fld.SLC_SLICE_CTRL_LOG_EN, sl), (.SLC_SLICE_CTRL_CFG_STATUS, sl), (.SLC_SLICE_DPL_PROD_OVERFLOW, sl)] → t.getF f i = s.getF f i) ∧
    (s.getF .SLC_SLICE_CTRL_LOG_EN sl ≠ 0 → s.dplFree sl ≠ 0 → s.regsOk → s.mayIssue = true → 8 ≤ s.pci.mps →
      let p := s.getF .SLC_SLICE_DPL_PROD_PROD sl
      let x := s.slice sl
      ∃ t, exec (.newRound sl) s = .next t ∧ (t.slice sl).round = x.round + 1 ∧ t.getF .SLC_SLICE_DPL_PROD_OVERFLOW sl = 0 ∧
        t.getF .SLC_SLICE_CTRL_CFG_STATUS sl = 0 ∧
        t.getF .SLC_SLICE_DPL_PROD_PROD sl = (if p + 1 = s.dplSize sl then 0 else (p + 1) % 2 ^ Fld.SLC_SLICE_DPL_PROD_PROD.width) ∧
        (t.slice sl).phase = (if p + 1 = s.dplSize sl then !x.phase else x.phase) ∧
        t.sent = s.sent ++ [.write none (s.getF .SLC_SLICE_DPL_BASE_BASE sl * 4096 + 8 * p)
          (leBytes 8 (x.round % 2 ^ 52 * 4096 + (if s.getF .SLC_SLICE_DPL_PROD_OVERFLOW sl = 0 then 0 else 4) + 2 + b2n x.phase)) false] ∧
        t = { s with regs := t.regs, slices := t.slices, sent := t.sent } ∧
        ∀ f i, (f, i) ∉ [(Fld.SLC_SLICE_DPL_PROD_PROD, sl), (.SLC_SLICE_DPL_PROD_OVERFLOW, sl), (.SLC_SLICE_CTRL_CFG_STATUS, sl)] → t.getF f i = s.getF f i) ∧
    ((s.getF .SLC_SLICE_CTRL_LOG_EN sl = 0 ∨ s.dplFree sl = 0) → ∃ t, exec (.newRound sl) s = .next t ∧
      Sets s t [((.SLC_SLICE_CTRL_CFG_STATUS, sl), 1), ((.SLC_CFG_REFUSED_COUNT_COUNT, 0), s.plus .SLC_CFG_REFUSED_COUNT_COUNT 0 1)])

/-- O21. A doorbell that fails a check changes its counter alone; an accepted one moves QC_TAIL and ends an OWN_WAIT hold. (03_pcie_attachment (R43,
R49), 04_slices (R75), 05_rings_and_doorbells (R90, R91, R92)) For local queue i of slice sl: outside an open window, without PASID Enable on slices
other than 0, or at or above QCOUNT, only QE_BAD_DOORBELL_COUNT rises. With bits [31:16] set, ENABLE 0, STATE RESETTING, TAIL outside the ring, or a
tail moved backwards or past the head, only the queue's QC_BAD_DOORBELL_COUNT rises. Otherwise, with work already outstanding and no OWN_WAIT hold,
QC_TAIL becomes TAIL and nothing else changes; the upper 32 bits of the written value have no effect. With a hold, the hold ends, and where the slice
is not paused and the function may issue requests the held entry is read again, under the PASID bound now, and OWN_WAIT clears; where not, the entry
keeps waiting and nothing is sent. -/
def Obligations.DoorbellTable : Prop :=
  ∀ (s : State) (sl i : Nat) (v : W64), s.Serves →
    let open' := (sl = 0 ∨ s.getF .SLC_SLICE_CTRL_ENABLE sl ≠ 0) ∧ (sl ≠ 0 → s.pci.pasidEn = true) ∧ i < s.getF .SLC_SLICE_QUEUES_QCOUNT sl
    let q := s.getF .SLC_SLICE_QUEUES_QBASE sl + i
    let n := 2 ^ s.getF .QC_RING_BASE_SIZE_LOG2 q
    let h := s.getF .QC_HEAD_HEAD q
    let x := v.toNat % 2 ^ 32
    let good := x < 2 ^ 16 ∧ s.getF .QC_CTRL_ENABLE q ≠ 0 ∧ s.getF .QC_CTRL_STATE q ≠ 3 ∧ x < n ∧ dist n (s.getF .QC_TAIL_TAIL q) h ≤ dist n x h
    (¬open' → ∃ t, exec (.doorbellWrite sl i v) s = .next t ∧ Sets s t [((.QE_BAD_DOORBELL_COUNT_COUNT, 0), s.plus .QE_BAD_DOORBELL_COUNT_COUNT 0 1)]) ∧
    (open' → ¬good → ∃ t, exec (.doorbellWrite sl i v) s = .next t ∧ Sets s t [((.QC_BAD_DOORBELL_COUNT_COUNT, q), s.plus .QC_BAD_DOORBELL_COUNT_COUNT q 1)]) ∧
    (open' → good → s.openJobs q ≠ [] → (s.queue q).missHeld = false → ∃ t, exec (.doorbellWrite sl i v) s = .next t ∧ t = { s with regs := t.regs } ∧
      t.getF .QC_TAIL_TAIL q = (if x = s.getF .QC_TAIL_TAIL q then s.getF .QC_TAIL_TAIL q else x) ∧
      ∀ f j, (f, j) ≠ (.QC_TAIL_TAIL, q) → t.getF f j = s.getF f j) ∧
    (open' → good → (s.queue q).missHeld = true → ∀ j ∈ s.jobs, j.q = q → j.stage = .ownWait → s.job? q j.idx = some j →
      (∀ k ∈ s.jobs, k.q = q → k.stage = .ownWait → k.idx = j.idx) →
      ∃ t, exec (.doorbellWrite sl i v) s = .next t ∧ (t.queue q).missHeld = false ∧ (t.queue q).rereads = 0 ∧
        (s.sliceHeld sl = false → s.mayIssue = true → 64 ≤ s.pci.mrrs → t.getF .QC_STATUS_OWN_WAIT q = 0 ∧
          t.job? q j.idx = some { j with stage := .fetching, pasid := s.pasidOf sl, rd := j.idx } ∧
          t.sent = s.sent ++ [.read (s.pasidOf sl) (s.entryAddr q j.idx 0) 64]) ∧
        (s.sliceHeld sl = true ∨ s.mayIssue = false → t.jobs = s.jobs ∧ t.sent = s.sent ∧ t.held = s.held ∧
          t.getF .QC_STATUS_OWN_WAIT q = s.getF .QC_STATUS_OWN_WAIT q))

/-- O22. Entries are fetched in ring order, in one read, never past the tail, the window or the end of the ring. (03_pcie_attachment (R42),
05_rings_and_doorbells (R95, R96), 09_ordering_and_recovery (R209)) While the queue may fetch, a tag is free for one more read (768 with 10-bit tags,
else 256), FETCH differs from the tail, less than WINDOW entries are open, and a context is free: ENTRY_FETCH of up to k entries takes between 1 and k
consecutive entries from FETCH on, none beyond the end of the ring, gives each a job context of the queue's slice, binder and PASID, moves FETCH past
them, and sends one read of 64 bytes for each. The registers but the count of reserve use, the other queues and everything else are unchanged. -/
def Obligations.FetchStaysInsideTheWindow : Prop :=
  ∀ (s : State) (q k : Nat), s.mayFetch q = true → s.readsOut < s.tagLimit → 0 < k → (s.queue q).fetch < s.ringSize q → (s.queue q).fetch ≠ s.getF .QC_TAIL_TAIL q →
    dist (s.ringSize q) (s.queue q).fetch (s.getF .QC_HEAD_HEAD q) < s.window q → (s.openJobs q).length < s.window q → s.fetchCredit q = true →
    ∃ (t : State) (n : Nat), exec (.entryFetch q k) s = .next t ∧ 1 ≤ n ∧ n ≤ k ∧ (s.queue q).fetch + n ≤ s.ringSize q ∧
      t.jobs = s.jobs ++ (List.range n).map (fun i =>
        ({ q := q, idx := (s.queue q).fetch + i, slice := s.sliceOf q, pasid := s.pasidOf (s.sliceOf q), binder := s.binderOf q,
           rd := (s.queue q).fetch } : Job)) ∧
      t.queue q = { s.queue q with fetch := ((s.queue q).fetch + n) % s.ringSize q } ∧ (∀ p, p ≠ q → t.queue p = s.queue p) ∧
      t.sent = s.sent ++ [.read (s.pasidOf (s.sliceOf q)) (s.entryAddr q (s.queue q).fetch 0) (64 * n)] ∧
      t = { s with regs := t.regs, jobs := t.jobs, queues := t.queues, sent := t.sent } ∧
      ∀ f i, (f, i) ≠ (.SCH_RESERVE_USE_COUNT_COUNT, 4) → t.getF f i = s.getF f i

/-- O23. An entry that arrives with OWN = 1 is taken; with OWN = 0 fetching stops at it and it is read again up to eight times, then held. (00_scope
(R4), 03_pcie_attachment (R49), 04_slices (R75), 05_rings_and_doorbells (R89, R90, R114)) ENTRY_RECEIVED of an entry being fetched: with OWN = 1 its
eight words are kept and nothing but the job changes; with OWN = 0 the queue's OWN_WAIT sets, FETCH goes back to the place behind it, and what was
fetched of the queue behind it is dropped; in a queue that drains, the entry is dropped too. OWN_WAIT_RETRY does nothing while the function may not
issue a read or the slice is paused, and else reads the entry again: with OWN = 1 the words are taken and OWN_WAIT clears; with OWN = 0 the count of
reads rises; at the eighth the queue is held and QC_OWN_MISS_COUNT rises by one. That entries behind one with OWN 0 are dropped is DEDUCED (log entry
17). -/
def Obligations.OwnershipWaits : Prop :=
  ∀ (s : State) (q i : Nat) (d : List Byte) (j : Job), s.job? q i = some j →
    let own := bit (bfield d 56 8) 63
    let words := (List.range 8).map fun k => BitVec.ofNat 64 (bfield d (8 * k) 8)
    let n := s.ringSize q
    let h := s.getF .QC_HEAD_HEAD q
    let undecided := fun (k : Job) => k.stage = .fetching ∨ k.stage = .ownWait ∨ k.stage = .fetched
    (s.stopped = false → j.stage = .fetching →
      (own = true → exec (.entryReceived q i d) s = .next (s.updJob q i fun j => { j with words := words, stage := .fetched })) ∧
      (own = false → s.getF .QC_CTRL_STATE q ≠ 2 → s.getF .SLC_SLICE_CTRL_STATE (s.sliceOf q) ≠ 2 → dist n i h + 1 < n → i < n →
        ∃ t, exec (.entryReceived q i d) s = .next t ∧ t = { s with regs := t.regs, jobs := t.jobs, queues := t.queues } ∧
          t.getF .QC_STATUS_OWN_WAIT q = 1 ∧ (∀ f k, (f, k) ≠ (.QC_STATUS_OWN_WAIT, q) → t.getF f k = s.getF f k) ∧
          t.job? q i = some { j with stage := .ownWait } ∧ t.queue q = { s.queue q with fetch := (i + 1) % n, rereads := 0 } ∧
          (∀ p, p ≠ q → t.queue p = s.queue p) ∧
          ∀ k, (k.q, k.idx) ≠ (q, i) → (k ∈ t.jobs ↔ k ∈ s.jobs ∧ ¬(k.q = q ∧ dist n ((i + 1) % n) h ≤ dist n k.idx h ∧ undecided k))) ∧
      (own = false → s.getF .QC_CTRL_STATE q = 2 → ∃ t, exec (.entryReceived q i d) s = .next t ∧ (t.queue q).fetch = i ∧
        ∀ k, k ∈ t.jobs ↔ k ∈ s.jobs ∧ ¬(k.q = q ∧ dist n i h ≤ dist n k.idx h ∧ undecided k))) ∧
    (s.mayIssue = false ∨ s.sliceHeld (s.sliceOf q) = true → exec (.ownWaitRetry q d) s = .next s) ∧
    (j.stage = .ownWait → (s.queue q).missHeld = false → s.mayIssue = true → s.sliceHeld (s.sliceOf q) = false → 64 ≤ s.pci.mrrs →
      (∀ k ∈ s.jobs, k.q = q → k.stage = .ownWait → k = j) →
      (own = true → ∃ t, exec (.ownWaitRetry q d) s = .next t ∧ t.getF .QC_STATUS_OWN_WAIT q = 0 ∧
        t.job? q i = some { j with words := words, stage := .fetched } ∧ t.sent = s.sent ++ [.read (s.pasidOf j.slice) (s.entryAddr q i 0) 64]) ∧
      (own = false → (s.queue q).rereads < 7 → exec (.ownWaitRetry q d) s =
        .next ((s.say (.read (s.pasidOf j.slice) (s.entryAddr q i 0) 64)).setQueue q { s.queue q with rereads := (s.queue q).rereads + 1 })) ∧
      (own = false → (s.queue q).rereads = 7 → ∃ t, exec (.ownWaitRetry q d) s = .next t ∧
        t.getF .QC_OWN_MISS_COUNT_COUNT q = s.plus .QC_OWN_MISS_COUNT_COUNT q 1 ∧ (t.queue q).missHeld = true ∧
        ∀ f k, (f, k) ≠ (.QC_OWN_MISS_COUNT_COUNT, q) → t.getF f k = s.getF f k))

/-- O24. A queue is enabled only when its context is sound, writes its head record, and drains when it is disabled. (05_rings_and_doorbells (R98,
R101, R113, R114)) With the device ready, the queue in an enabled slice's grant, SIZE_LOG2 4 to 16, BASE and ADDR not 0, HEAD and TAIL inside the ring
and STATE DISABLED: QUEUE_ENABLE writes the plain fields, ENABLE 1, STATE RUN, sets FETCH to HEAD, and writes the head record, with the COMPLETION
event of EV_MODE 1 behind it. If one of these fails while ENABLE is 0, ENABLE stays 0 and QE_CFG_REFUSED_COUNT rises. QUEUE_DISABLE of an enabled
queue with no entry open clears ENABLE, and a queue with an entry accepted and none of OWN 0 becomes DRAINING with every entry kept. -/
def Obligations.QueueEnableAndDisable : Prop :=
  ∀ (s : State) (q : Nat) (v : W32), s.Serves →
    let k := s.getF .QC_RING_BASE_SIZE_LOG2 q
    let plain := [((Fld.QC_CTRL_WINDOW, q), bits v.toNat 24 16), ((.QC_CTRL_EVRING, q), bits v.toNat 15 8), ((.QC_CTRL_EV_MODE, q), bits v.toNat 3 3),
      ((.QC_CTRL_EV_EN, q), bits v.toNat 2 2)]
    let sound := s.getF .GLB_STATUS_READY 0 ≠ 0 ∧ (∃ sl, s.ownerOf q = some sl ∧ (sl = 0 ∨ s.getF .SLC_SLICE_CTRL_ENABLE sl ≠ 0)) ∧ 4 ≤ k ∧ k ≤ 16 ∧
      s.getF .QC_RING_BASE_BASE q ≠ 0 ∧ s.getF .QC_HEAD_ADDR_ADDR q ≠ 0 ∧ s.getF .QC_HEAD_HEAD q < 2 ^ k ∧ s.getF .QC_TAIL_TAIL q < 2 ^ k ∧ s.getF .QC_CTRL_STATE q = 0
    (s.getF .QC_CTRL_ENABLE q = 0 → sound → ∃ u : State, exec (.queueEnable q v) s =
        .next ((u.headWrite (s.sliceOf q) q).headEvent (s.grantsOf (s.sliceOf q)) (s.sliceOf q) q false) ∧
      u.queue q = { s.queue q with fetch := s.getF .QC_HEAD_HEAD q, rereads := 0, missHeld := false, parkHeld := false, quireHeld := false } ∧
      (∀ p, p ≠ q → u.queue p = s.queue p) ∧ Sets { s with queues := u.queues } u (plain ++ [((.QC_CTRL_ENABLE, q), 1), ((.QC_CTRL_STATE, q), 1)])) ∧
    (s.getF .QC_CTRL_ENABLE q = 0 → ¬sound → ∃ t, exec (.queueEnable q v) s = .next t ∧
      Sets s t (plain ++ [((.QE_CFG_REFUSED_COUNT_COUNT, 0), s.plus .QE_CFG_REFUSED_COUNT_COUNT 0 1)])) ∧
    (s.getF .QC_CTRL_ENABLE q ≠ 0 → (∀ j ∈ s.jobs, j.q = q → j.stage ≠ .ownWait) →
      (s.queue q).passed = none → s.openJobs q ≠ [] → s.getF .SLC_SLICE_CTRL_STATE (s.sliceOf q) ≠ 2 →
      ∃ t, exec (.queueDisable q v) s = .next t ∧
        Sets s t (plain ++ [((.QC_CTRL_ENABLE, q), 0), ((.QC_CTRL_STATE, q), 2), ((.QC_STATUS_OWN_WAIT, q), 0)])) ∧
    (s.getF .QC_CTRL_ENABLE q ≠ 0 → ∃ t, exec (.queueDisable q v) s = .next t ∧ t.getF .QC_CTRL_ENABLE q = 0)

/-- O25. An event ring is full at one slot before CONS; a CONS outside the ring or past PROD is ignored and counted. (R103) A ring counts as full
exactly when (PROD + 1) mod 2^SIZE_LOG2 is CONS. EVR_CONS_WRITE of a value inside the ring that does not move CONS past PROD sets CONS and nothing
else. Any other value changes nothing but QE_EVR_BAD_CONS_COUNT, which rises by one. -/
def Obligations.EventRingFullAndConsumer : Prop :=
  ∀ (s : State) (e : Nat) (v : W32), s.regsOk → s.Serves →
    let n := 2 ^ s.getF .EVR_BASE_SIZE_LOG2 e
    let c := v.toNat % 2 ^ 16
    let good := c < n ∧ dist n c (s.getF .EVR_T_CONS_CONS e) ≤ dist n (s.getF .EVR_PROD_PROD e) (s.getF .EVR_T_CONS_CONS e)
    (s.evrFull e = true ↔ (s.getF .EVR_PROD_PROD e + 1) % n = s.getF .EVR_T_CONS_CONS e) ∧
    (good → ∃ t, exec (.evrConsWrite e v) s = .next t ∧ Sets s t [((.EVR_T_CONS_CONS, e), c)]) ∧
    (¬good → ∃ t, exec (.evrConsWrite e v) s = .next t ∧ Sets s t [((.QE_EVR_BAD_CONS_COUNT_COUNT, 0), s.plus .QE_EVR_BAD_CONS_COUNT_COUNT 0 1)])

/-- O26. Event rings: enabling, the coalescing timer, and the CATCH_UP events after OVERFLOW is cleared. (05_rings_and_doorbells (R104, R105, R106,
R117)) EVR_ENABLE with SIZE_LOG2 4 to 16 and no event waiting for its message writes the plain fields and ENABLE 1 and nothing else; with any other
SIZE_LOG2 ENABLE keeps its value and QE_CFG_REFUSED_COUNT rises. COAL_TIMER of a ring with its timer running and IRQ_EN 1 clears the count, stops the
timer and sends the ring's vector. EVR_OVERFLOW_CLEAR of a ring whose slice has no queue with its missed flag clears OVERFLOW and nothing else; with
one missed queue, that queue's flag clears and its CATCH_UP event is posted. -/
def Obligations.EventRingControl : Prop :=
  ∀ (s : State) (e : Nat) (v : W32), s.Serves →
    let plain := [((Fld.EVR_CTRL_VECTOR, e), bits v.toNat 31 22), ((.EVR_CTRL_COAL_TIME, e), bits v.toNat 21 12), ((.EVR_CTRL_COAL_COUNT, e), bits v.toNat 11 4),
      ((.EVR_CTRL_IRQ_EN, e), bits v.toNat 1 1)]
    let sized := 4 ≤ s.getF .EVR_BASE_SIZE_LOG2 e ∧ s.getF .EVR_BASE_SIZE_LOG2 e ≤ 16
    (sized → (s.ring e).since = 0 → ∃ t, exec (.evrEnable e v) s = .next t ∧ Sets s t (plain ++ [((.EVR_CTRL_ENABLE, e), 1)])) ∧
    (¬sized → ∃ t, exec (.evrEnable e v) s = .next t ∧ Sets s t (plain ++ [((.QE_CFG_REFUSED_COUNT_COUNT, 0), s.plus .QE_CFG_REFUSED_COUNT_COUNT 0 1)])) ∧
    ((s.ring e).timer ≠ none → s.getF .EVR_CTRL_IRQ_EN e ≠ 0 → exec (.coalTimer e) s =
      .next ((s.setRing e { s.ring e with since := 0, timer := none }).sliceVector ((s.ringOwner e).getD 0) (s.getF .EVR_CTRL_VECTOR e))) ∧
    (s.getF .EVR_T_STATUS_OVERFLOW e ≠ 0 → (∀ q, (s.queue q).missed = false) → ∃ t, exec (.evrOverflowClear e) s = .next t ∧
      Sets s t [((.EVR_T_STATUS_OVERFLOW, e), 0)]) ∧
    (∀ q x, s.getF .EVR_T_STATUS_OVERFLOW e ≠ 0 → s.queues = [(q, x)] → x.missed = true → (s.ringOwner e).getD 0 = 0 →
      s.getF .SLC_SLICE_QUEUES_QBASE 0 ≤ q → q < s.getF .SLC_SLICE_QUEUES_QBASE 0 + s.getF .SLC_SLICE_QUEUES_QCOUNT 0 →
      s.getF .SLC_SLICE_EVRINGS_EBASE 0 + s.getF .QC_CTRL_EVRING q = e →
      exec (.evrOverflowClear e) s = .next (((s.setF .EVR_T_STATUS_OVERFLOW e 0).setQueue q { x with missed := false }).postEvent 0 q 2))

/-- O27. Storage channels: enabling, posting, the holdoff and the slot timeout. (05_rings_and_doorbells (R108, R109, R111, R112, R118),
16_quire_and_sealed_store (R383)) SC_ENABLE with SIZE_LOG2 4 to 12 writes VECTOR, HOLDOFF and ENABLE 1; with any other ENABLE keeps its value and
QE_CFG_REFUSED_COUNT rises. SC_DISABLE writes ENABLE 0 and keeps every outstanding request. SC_POST, while requests may go out, takes the first
waiting request that a channel can take off the queue and posts it there: it is outstanding with a TAG of slot and post count, PROD moves on in the
ring, and the entry is written to the channel's ring. SC_HOLDOFF_TIMER ends the holdoff and sends a message only if entries were posted during it.
SC_SLOT_TIMEOUT ends an outstanding request in its slot: it is no longer outstanding, the error SC_TIMEOUT is raised with channel and TAG, and the
request is asked for again. -/
def Obligations.StorageChannelControl : Prop :=
  ∀ (s : State) (c : Nat) (v : W32), s.Serves →
    let plain := [((Fld.QE_SC_CTRL_VECTOR, c), bits v.toNat 31 22), ((.QE_SC_CTRL_HOLDOFF, c), bits v.toNat 17 8)]
    let sized := 4 ≤ s.getF .QE_SC_BASE_SIZE_LOG2 c ∧ s.getF .QE_SC_BASE_SIZE_LOG2 c ≤ 12
    (sized → ∃ t, exec (.scEnable c v) s = .next t ∧ Sets s t (plain ++ [((.QE_SC_CTRL_ENABLE, c), 1)])) ∧
    (¬sized → ∃ t, exec (.scEnable c v) s = .next t ∧ Sets s t (plain ++ [((.QE_CFG_REFUSED_COUNT_COUNT, 0), s.plus .QE_CFG_REFUSED_COUNT_COUNT 0 1)])) ∧
    (∃ t, exec (.scDisable c v) s = .next t ∧ Sets s t (plain ++ [((.QE_SC_CTRL_ENABLE, c), 0)])) ∧
    (∀ (r : ScReq) (rest : List ScReq), s.mayIssue = true → s.getF .TMP_STATUS_HALTED 0 = 0 → s.store.scQ = r :: rest → s.postable r = true →
      s.chanFor r.block = some c →
      let p := s.getF .QE_SC_PROD_PROD c
      ∃ t, exec .scPost s = .next t ∧ t.store.scQ = rest ∧
        (∃ o, (t.chan c).outstanding = (s.chan c).outstanding ++ [o] ∧ o.req = r ∧ o.tag % 65536 = p % 65536 ∧ o.at' = s.now) ∧
        t.getF .QE_SC_PROD_PROD c = (p + 1) % 2 ^ s.getF .QE_SC_BASE_SIZE_LOG2 c % 2 ^ 12 ∧
        (∀ d, d ≠ c → t.chan d = s.chan d)) ∧
    ((s.chan c).holdoffUntil ≠ none → (s.chan c).postedInHoldoff = false → exec (.scHoldoffTimer c) s =
      .next (s.setChan c { s.chan c with holdoffUntil := none, postedInHoldoff := false })) ∧
    ((s.chan c).holdoffUntil ≠ none → (s.chan c).postedInHoldoff = true → exec (.scHoldoffTimer c) s =
      .next ((s.setChan c { s.chan c with holdoffUntil := none, postedInHoldoff := false }).scMessage c)) ∧
    (∀ (o : ScOut) (l : List ScOut), (s.chan c).outstanding = o :: l → exec (.scSlotTimeout c o.tag) s =
      .next (((((s.setChan c { s.chan c with outstanding := l }).setF .QE_SC_OUTSTANDING_COUNT c l.length).raiseErr blkQE 1 c o.tag).count
        .SEAL_REPOST_COUNT_COUNT 0 1).scAsk o.req))

/-- O28. A storage completion without an outstanding request is ignored and counted; a matching one takes the request off its channel and acts on it.
(05_rings_and_doorbells (R110), 16_quire_and_sealed_store (R383)) SC_COMPLETE with a TAG that no outstanding request of the channel has changes
nothing but QE_SC_BAD_COMPLETE_COUNT. A low half held for the register is dropped. With a matching TAG the request is taken off, the channel's count
falls, the host's status is acted on, and what that makes possible in the store follows. SEAL_RETRY_TIMER posts the request that has waited longest
again, and counts it. -/
def Obligations.StorageCompletions : Prop :=
  ∀ (s : State) (c tag status : Nat) (d : List Byte) (v : VaultImage), s.Serves →
    ((∀ o ∈ (s.chan c).outstanding, o.tag ≠ tag) → ∃ t, exec (.scComplete c tag status d v) s = .next t ∧
      t.heldLow = mset regOrd (fun _ => 0) s.heldLow (.QE_SC_COMPLETE, c) 0 ∧ Sets { s with heldLow := t.heldLow } t [((.QE_SC_BAD_COMPLETE_COUNT_COUNT, 0), s.plus .QE_SC_BAD_COMPLETE_COUNT_COUNT 0 1)]) ∧
    (∀ (a b : List ScOut) (o : ScOut), (s.chan c).outstanding = a ++ o :: b → o.tag = tag → (∀ x ∈ a, x.tag ≠ tag) →
      exec (.scComplete c tag status d v) s =
        .next (((((s.setHeld .QE_SC_COMPLETE c 0).setChan c { s.chan c with outstanding := a ++ b }).setF .QE_SC_OUTSTANDING_COUNT c (a ++ b).length).scEnded c o status d).storeSettle v)) ∧
    (∀ (r : ScReq) (n : Nat) (rest : List (ScReq × Nat)), s.store.retryQ = (r, n) :: rest → exec .sealRetryTimer s =
      .next ((({ s with store := { s.store with retryQ := rest } } : State).count .SEAL_REPOST_COUNT_COUNT 0 1).scAsk r))

/-- O29. A queue reset leaves HEAD at the tail, the queue DISABLED and no entry; a slice reset completes only when every job is gone. (04_slices
(R76), 05_rings_and_doorbells (R115), 09_ordering_and_recovery (R224)) QUEUE_RESET while the function may issue requests: the queue is DISABLED with
ENABLE 0, HEAD equals the TAIL the queue had, no job of the queue is left; while the function may not, the queue is RESETTING. SLICE_RESET of another
slice than 0 that is not resetting sets STATE RESETTING and clears ENABLE of each of its queues in use; without such a queue it changes nothing else;
while it is resetting it is refused with BUSY. SLICE_RESET_COMPLETE with no job of the slice left and no queue of it still resetting empties the
mailboxes, sets PAUSE and STATE PAUSED, and changes no grant of the slice; with a job left or a queue resetting it changes nothing. -/
def Obligations.QueueAndSliceResets : Prop :=
  ∀ s : State, s.Serves →
    (∀ (q : Nat) (v : W32), s.mayIssue = false → ∃ t, exec (.queueReset q v) s = .next t ∧ t.getF .QC_CTRL_ENABLE q = 0 ∧ t.getF .QC_CTRL_STATE q = 3 ∧
      t.jobs = s.jobs ∧ t.sent = s.sent) ∧
    (∀ (q : Nat) (v : W32), s.mayIssue = true → s.regsOk → ∃ t, exec (.queueReset q v) s = .next t ∧ t.getF .QC_CTRL_ENABLE q = 0 ∧ t.getF .QC_CTRL_STATE q = 0 ∧
      t.getF .QC_HEAD_HEAD q = s.getF .QC_TAIL_TAIL q ∧ ∀ j ∈ t.jobs, j.q ≠ q) ∧
    (∀ sl, sl ≠ 0 → s.getF .SLC_SLICE_CTRL_STATE sl ≠ 4 → s.usedQueues sl = [] → ∃ t, exec (.sliceReset sl) s = .next t ∧
      Sets s t [((.SLC_SLICE_CTRL_STATE, sl), 4), ((.SLC_SLICE_CTRL_CFG_STATUS, sl), 0)]) ∧
    (∀ sl, sl ≠ 0 → s.getF .SLC_SLICE_CTRL_STATE sl ≠ 4 → ∃ t, exec (.sliceReset sl) s = .next t ∧ t.getF .SLC_SLICE_CTRL_STATE sl = 4 ∧
      ∀ q ∈ s.usedQueues sl, t.getF .QC_CTRL_ENABLE q = 0) ∧
    (∀ sl, sl ≠ 0 → s.getF .SLC_SLICE_CTRL_STATE sl = 4 → ∃ t, exec (.sliceReset sl) s = .next t ∧
      Sets s t [((.SLC_SLICE_CTRL_CFG_STATUS, sl), 1), ((.SLC_CFG_REFUSED_COUNT_COUNT, 0), s.plus .SLC_CFG_REFUSED_COUNT_COUNT 0 1)]) ∧
    (∀ sl, s.getF .SLC_SLICE_CTRL_STATE sl = 4 → (∀ j ∈ s.jobs, j.slice = sl → j.stage = .done) →
      (∀ q ∈ s.usedQueues sl, s.getF .QC_CTRL_STATE q ≠ 3) → ∃ t, exec (.sliceResetComplete sl) s = .next t ∧
      t.getF .SLC_SLICE_CTRL_STATE sl = 3 ∧ t.getF .SLC_SLICE_CTRL_PAUSE sl = 1 ∧ (t.slice sl).t2m = zeros 256 ∧ (t.slice sl).m2t = zeros 256 ∧
      t.getF .SLC_SLICE_QUEUES_QCOUNT sl = s.getF .SLC_SLICE_QUEUES_QCOUNT sl ∧ t.getF .SLC_SLICE_VECTORS_VCOUNT sl = s.getF .SLC_SLICE_VECTORS_VCOUNT sl) ∧
    (∀ sl, s.getF .SLC_SLICE_CTRL_STATE sl = 4 →
      (∃ j ∈ s.jobs, j.slice = sl ∧ j.stage ≠ .done) ∨ (∃ q ∈ s.usedQueues sl, s.getF .QC_CTRL_STATE q = 3) → exec (.sliceResetComplete sl) s = .next s)

/-- O30. An entry that fails a check ends with that check's status; the checks come in their order; nothing else changes. (03_pcie_attachment (R49),
06_command_packets (R130, R131, R132, R139)) ENTRY_DECODE of a queue's next entry, outside a broken chain: during LOCKDOWN it ends with LOCKDOWN;
outside it an unknown opcode ends with BAD_OPCODE 1, an admin opcode outside slice 0 with BAD_OPCODE 2, an opcode the life-cycle state does not permit
with LIFECYCLE and that state; whatever check fails first, the entry takes its status, DETAIL and RESULT, its execution has ended, and beside the
reads of its fragment tables no key, credit, stream, register or message changes. While those reads are wanted and the function may not issue them,
nothing changes. After a broken link the entry ends with CHAIN_BROKEN, its distance from that link and the link's status. -/
def Obligations.DecodeChecksComeFirst : Prop :=
  ∀ (s : State) (q : Nat) (inT outT : TableRead) (j : Job), s.stopped = false → s.decodable q = some j → s.job? j.q j.idx = some j →
    let ends := fun (k : Job) (u : State) (st d r : Nat) => ∃ t, exec (.entryDecode q inT outT) s = .next t ∧
      t.job? j.q j.idx = some { u.linked k with status := st, detail := d, result := r, computed := true, passed := none, stage := .ended } ∧
      t = { u with jobs := t.jobs, queues := t.queues } ∧ ∀ p i, (p, i) ≠ (j.q, j.idx) → t.job? p i = s.job? p i
    (s.tablesWanted j inT outT ≠ [] → s.mayIssue = false → exec (.entryDecode q inT outT) s = .next s) ∧
    (∀ k u, s.readTables j inT outT = some (k, u) →
      u = { s with jobs := u.jobs, sent := u.sent } ∧
      ((s.queue j.q).chainFail = none → ∀ v, u.checks (u.linked k) inT outT = .error v → ends k u v.status v.detail v.result)) ∧
    ((s.queue j.q).chainFail = none →
      (s.getF .TMP_STATUS_LOCKDOWN 0 ≠ 0 → ends j s 0x0601 0 0) ∧
      (s.getF .TMP_STATUS_LOCKDOWN 0 = 0 → opKnown j.opcode = false → ends j s 0x0101 1 0) ∧
      (s.getF .TMP_STATUS_LOCKDOWN 0 = 0 → opKnown j.opcode = true → j.adminOnly = true → j.slice ≠ 0 → ends j s 0x0101 2 0) ∧
      (s.getF .TMP_STATUS_LOCKDOWN 0 = 0 → opKnown j.opcode = true → (j.adminOnly = true → j.slice = 0) → s.permitted j = false →
        ends j s 0x0602 (s.getF .LCO_STATE_STATE 0) 0)) ∧
    (∀ st pos, (s.queue j.q).chainFail = some (st, pos) → ends j s 0x0504 ((s.queue j.q).chainLen - pos) st)

/-- O31. An accepted entry takes the next acceptance stamp, its binder, its time, its grants and its park slots. (04_slices (R70),
09_ordering_and_recovery (R203, R218)) ENTRY_DECODE of an entry that passes every check, appends to no stream, signs with no stateful key, destroys no
key, uses no key without a record, and finds its park slots: it becomes an accepted job with the value of SCH_STAMP_NEXT as its stamp, which then
rises by one, the time in force, the event-ring and weight grants of its slice, the fragments and park slots the checks gave; no other register
changes, and no other job. -/
def Obligations.AcceptanceTakesTheNextStamp : Prop :=
  ∀ (s u : State) (q : Nat) (inT outT : TableRead) (j j0 : Job) (a b : List (Nat × Nat)), s.stopped = false → s.decodable q = some j →
    s.job? j.q j.idx = some j → (s.queue j.q).chainFail = none → s.readTables j inT outT = some (j0, u) →
    let j1 := u.linked j0
    let k : Job := { j1 with inFrags := a, outFrags := b }
    u.checks j1 inT outT = .ok (a, b) → u.parkUsed + u.parkNeed k ≤ 1048576 → k.appends = false → (u.jobKey k).custody = none → k.opcode ≠ 0x0502 →
    (∀ h ∈ k.handles, (s.key (h % 65536)).unusable = false) → k.short = false → s.regsOk →
    let n := s.getF .SCH_STAMP_NEXT_STAMP 0
    ∃ t x, exec (.entryDecode q inT outT) s = .next t ∧ t.job? j.q j.idx = some x ∧ x.stage = .accepted ∧ x.stamp = n ∧ x.words = j.words ∧
      x.binder = s.binderOf j.q ∧ x.time = s.timeNow ∧ x.checked = true ∧ x.parkSlots = u.parkNeed k ∧ x.inFrags = a ∧ x.outFrags = b ∧
      x.grants = s.grantsOf j.slice ∧ t.getF .SCH_STAMP_NEXT_STAMP 0 = (n + 1) % 2 ^ Fld.SCH_STAMP_NEXT_STAMP.width ∧
      (∀ f i, (f, i) ≠ (.SCH_STAMP_NEXT_STAMP, 0) → t.getF f i = s.getF f i) ∧ (∀ p i, (p, i) ≠ (j.q, j.idx) → t.job? p i = s.job? p i) ∧ t.kv = s.kv

/-- O32. A dispatched job takes a slot of its pool and goes to its engine with its last one; dispatch stops while halted or held.
(09_ordering_and_recovery (R209, R210, R215), 20_tamper (R469), 22_power_clocks_resets (R503)) While dispatch runs, no reserved slot is at issue and
exactly one job waits for a pool, holding its IN credits already: JOB_DISPATCH of that pool gives it a slot (a batch further ones too), it is at its
engine when this was its last pool, its other holdings and every other job are unchanged, and no register changes. While TMP is HALTED or the governor
holds dispatch, nothing changes. -/
def Obligations.DispatchGivesASlot : Prop :=
  ∀ (s : State) (p : Pool),
    (s.getF .TMP_STATUS_HALTED 0 ≠ 0 ∨ s.getF .PWR_STATUS_DISPATCH_HELD 0 ≠ 0 → exec (.jobDispatch p) s = .next s) ∧
    (∀ j : Job, s.stopped = false → s.dispatchStopped = false → s.jobs.filter (fun k => s.waitsFor p k) = [j] → s.job? j.q j.idx = some j → 0 < s.poolFree p →
      (p = .CDE ∨ p = .BGN → (s.pickSlot p j).isSome = true) → j.inCred ≠ 0 →
      ∃ t x, exec (.jobDispatch p) s = .next t ∧ t.job? j.q j.idx = some x ∧ (∃ n, x.pools = j.pools ++ List.replicate (n + 1) p ∧ (j.opcode ≠ 0x0123 → n = 0)) ∧ x.resPools = j.resPools ∧
        x.stage = (if ({ j with pools := j.pools ++ [p] } : Job).nextPool = none then .dispatched else .accepted) ∧ x.inCred = j.inCred ∧
        (∀ a b, (a, b) ≠ (j.q, j.idx) → t.job? a b = s.job? a b) ∧ t = { s with jobs := t.jobs, sch := t.sch })

/-- O33. A job on a storage wait gives up its credits and slots and keeps its context; it resumes when its wait is over. (09_ordering_and_recovery
(R218, R219)) JOB_PARK of a dispatched or ended job with a storage wait and park slots: it is parked, its IN, OUT and EXEC holdings and its slot are
gone, an input of up to 16 KiB or one already used is kept, everything else of it and every other job stays. JOB_RESUME of a parked job that has
computed, whose versions are durable, with IN credits held and OUT credits free: its execution has ended and its wait is cleared. While its wait lasts
JOB_RESUME changes nothing. -/
def Obligations.ParkingReleasesCredits : Prop :=
  ∀ (s : State) (q i : Nat) (j : Job), s.stopped = false → s.job? q i = some j →
    ((j.stage = .dispatched ∨ j.stage = .ended) → j.waitSince ≠ none → 0 < j.parkSlots →
      ∃ t, exec (.jobPark q i) s = .next t ∧
        t.job? q i = some { j with stage := .parked, inCred := 0, outCred := 0, pools := [], core := none, resIn := false, resOut := false, resPools := [],
                                          slot := none, slots := [], staged := j.staged && (j.computed || decide (j.inLen ≤ 16384)) } ∧
        ∀ a b, (a, b) ≠ (q, i) → t.job? a b = s.job? a b) ∧
    (j.stage = .parked → s.waitOver j = false → exec (.jobResume q i) s = .next s) ∧
    (j.stage = .parked → s.waitOver j = true → s.dispatchStopped = false → j.inCred ≠ 0 → j.computed = true →
      ∀ n, s.outGrant j = some (n, false) → exec (.jobResume q i) s =
        .next (s.updJob q i fun _ => { j with stage := .ended, outCred := n, resOut := false, waitSince := none, waitBlocks := [] }))

/-- O34. A computed job leaves its engine: it takes OUT credits, its slots are released, and one whose versions are not durable starts to wait.
(09_ordering_and_recovery (R205, R209, R219)) EXECUTION_END of a dispatched job outside the array that has computed, whose output finds unreserved OUT
credits: the job's stage is ended with those credits, no slot, no pool; its storage wait starts now unless what it must see durable is durable. While
no OUT credits can be had it changes nothing, nor does it for a job in a quarter of the array, whose execution ends with its drain. -/
def Obligations.ExecutionEndReleasesSlots : Prop :=
  ∀ (s : State) (q i : Nat) (j : Job), s.job? q i = some j → j.stage = .dispatched → j.computed = true →
    (s.outGrant j = none ∨ j.core ≠ none → exec (.executionEnd q i) s = .next s) ∧
    (∀ n, s.stopped = false → j.core = none → s.outGrant j = some (n, false) → j.q = q → j.idx = i → exec (.executionEnd q i) s = .next ((s.leaveEngine j).updJob q i fun k =>
      { k with stage := .ended, outCred := n, resOut := false, pools := [], resPools := [], core := none, slot := none, slots := [], phase := 0,
               waitSince := if s.waitOver j then none else some (k.waitSince.getD s.now) }))

/-- O35. At its commit point a job writes its outputs, then W6, then W7, and gives back what it holds. (01_architecture (R12), 03_pcie_attachment
(R42), 06_command_packets (R122, R128, R133, R134), 09_ordering_and_recovery (R205)) JOB_COMMIT of an ended job whose record is placed and versions
are durable, on a slice whose dirty log is off: it sends the output fragments' bytes, cut at Max_Payload_Size and at 4 KiB boundaries, where it writes
an output, then RESULT_EXT to W6 where it has one, then W7 with STATUS, DETAIL, RESULT and OWN 0, in that order and before anything else it sends;
after it the job holds nothing. A job whose commit point is not reached changes nothing. NOP ends with SUCCESS without an engine. -/
def Obligations.CommitWritesInOrder : Prop :=
  ∀ (s : State) (q i : Nat) (j : Job), s.job? q i = some j → j.q = q → j.idx = i →
    (s.mayCommit j = false → exec (.jobCommit q i) s = .next s) ∧
    (s.mayCommit j = true → s.getF .SLC_SLICE_CTRL_LOG_EN j.slice = 0 →
      let ext := match (if j.written < 2 then j.ext else none) with
        | some w => [(s.entryAddr q i 6, leBytes 8 w.toNat)]
        | none => []
      ∃ t, exec (.jobCommit q i) s = .next t ∧
        (∃ more, t.sent = s.sent ++ s.outMsgs j ++
          ((ext ++ [(s.entryAddr q i 7, leBytes 8 (j.status % 2 ^ 16 + j.detail % 2 ^ 16 * 2 ^ 16 + min j.result 0x7FFFFFFF * 2 ^ 32))]).flatMap fun w =>
            s.writeMsgs (s.pasidOf j.slice) w.1 w.2 false) ++ more) ∧
        (∀ x ∈ t.jobs, x.q = q → x.idx = i → x.stage = .done ∧ x.inCred = 0 ∧ x.outCred = 0 ∧ x.pools = [] ∧ x.parkSlots = 0)) ∧
    (s.stopped = false → j.stage = .accepted → j.opcode = 0 → s.fenceOk j = true → s.dispatchStopped = false → exec (.nop q i) s =
      .next ((s.endJob j [] {}).updJob q i fun k => { k with stage := .ended }))

/-- O36. What an execution gives goes into its job and its quarters, a long output goes out at once, and too few units end a job as ENGINE_FAULT.
(06_command_packets (R128, R131, R133, R134), 12_hash_farm_and_code_engine (R299), 13_bignum_and_stream_engines (R319, R328)) endJob, the shared end
of every opcode's execution, gives the job its STATUS, DETAIL, RESULT saturated at 0x7FFF_FFFF, output, passed result and RESULT_EXT (the one
acceptance gave where the execution gives none), marks it computed with its whole input read and no wait, keeps who it is and what it holds, and
changes no other job and no quarter of another job. With an output of at most 4 KiB nothing else of the state changes; a longer one is written to the
output area at once. A private-key job of BGN with fewer than two multipliers online, and a job of STR with no pipe online, end so with ENGINE_FAULT
and the fault latched in its block; a job of HSH without a core of its kind is an engine fault. -/
def Obligations.OutcomesReachTheirJobAlone : Prop :=
  ∀ (s : State) (q i : Nat) (j : Job) (inp : List Byte), s.job? q i = some j → j.q = q → j.idx = i →
    (∀ r : Res, ∃ t x, t = s.endJob j inp r ∧ t.job? q i = some x ∧ x.status = r.status ∧ x.detail = r.detail ∧ x.result = min r.result 0x7FFFFFFF ∧
      x.output = r.output ∧ x.pass = r.pass ∧ x.ext = (match r.ext with | some n => some (BitVec.ofNat 64 n) | none => j.ext) ∧ x.created = r.created ∧
      x.computed = true ∧ x.inputRead = true ∧ x.waitSince = none ∧ x.stage = j.stage ∧ x.words = j.words ∧ x.stamp = j.stamp ∧ x.pools = j.pools ∧
      x.inCred = j.inCred ∧ x.seq = j.seq ∧ (∀ a b, (a, b) ≠ (q, i) → t.job? a b = s.job? a b) ∧
      (∀ c n, (s.quarter c n).job ≠ some (q, i) → t.quarter c n = s.quarter c n) ∧
      (min r.output.length j.outLen ≤ 4096 → x.written = j.written ∧ t = { s with jobs := t.jobs, mar := t.mar }) ∧
      (4096 < min r.output.length j.outLen → x.written = 1 ∧
        (s.mayIssue = true → s.getF .SLC_SLICE_CTRL_LOG_EN j.slice = 0 → t.sent = s.sent ++ s.outMsgs (j.ends inp r) ∧
          t = { s with jobs := t.jobs, mar := t.mar, sent := t.sent }))) ∧
    (∀ op, j.stage = .dispatched → j.opcode = op → j.computed = false → s.stopped = false →
      ∀ c ∈ [(0x0200, Instr.hash q i inp), (0x0122, .sigVerify q i inp), (0x0300, .aeadEncrypt q i inp), (0x0130, .keyAgree q i inp)], c.1 = op →
        (j.pools.contains .BGN = true → j.act ≠ .verify → s.onlineOf .BGN_MUL_ONLINE_ONLINE (List.range 4) < 2 →
          exec c.2 s = .next ((s.raiseFault 4 5 0 0).endJob j [] { status := 0x0501, detail := 0x4005 })) ∧
        (j.pools = [.STR] → s.getF .STR_PIPE_ONLINE_ONLINE 0 = 0 →
          exec c.2 s = .next ((s.raiseFault 5 4 0 0).endJob j [] { status := 0x0501, detail := 0x5004 })) ∧
        (j.pools = [.HSH] → s.noHashCore (s.keccakWork j) j.masksCalls = true →
          exec c.2 s = .next (((s.count .HSH_SESSION_FAIL_COUNT_COUNT 0 1).raiseFault 2 3 0 0).engineFault j 2 3 none)))

/-- O37. KEM key generation, encapsulation, decapsulation and key agreement. (07_pqc_operations (R148, R150, R151, R152, R153, R155),
13_bignum_and_stream_engines (R317)) For a job at its engine with the masks and random bytes it needs: KEM_KEYGEN draws 64 bytes, makes the pair of
the set and ends with the new key and its public part as output. KEM_ENCAPS draws its randomness, encapsulates to the held public key or to the input,
outputs the ciphertext and delivers the shared secret. KEM_DECAPS and KEY_AGREE deliver what the private key makes of the input, HYBRID_KEM the
combiner's value over two held keys. Where a public value fails its validation each ends with INPUT_REJECTED and the check's DETAIL; a held public key
of KEM_ENCAPS is not checked again. The lattice and code-based schemes are uninterpreted. -/
def Obligations.KemOpcodes : Prop :=
  ∀ (s : State) (q i : Nat) (j : Job) (inp : List Byte),
    (s.AtEngine q i 0x0110 j → s.maskOk j = true → s.CanDraw j 64 → j.systemizer = false → ∀ k, j.newKey = some k →
      let p := kemPair j.kset (b2n (bit j.aux 0)) (s.nextRandom 64)
      exec (.kemKeygen q i) s = .next ((s.afterDraw j 64).endWithKey j [] k { priv := p.1, pub := p.2, keyLen := p.1.length } p.2)) ∧
    (s.AtEngine q i 0x0110 j → s.maskOk j = true → s.CanDraw j 64 → j.systemizer = true → ∀ k, j.newKey = some k →
      let p := kemPair j.kset (b2n (bit j.aux 0)) (s.nextRandom 64)
      exec (.kemKeygen q i) s = .next (((s.afterDraw j 64).keygenRun j).endWithKey j [] k { priv := p.1, pub := p.2, keyLen := p.1.length } p.2)) ∧
    (s.AtEngine q i 0x0111 j →
      let pk := splitHybrid j.kset kemPk (if j.handle = 0 then j.full inp else (s.jobKey j).pub)
      (j.handle ≠ 0 ∨ kemPkFault j.kset pk.1 pk.2 = 0 → s.maskOk j = true → s.CanDraw j 128 → exec (.kemEncaps q i inp) s =
        .next ((s.afterDraw j 128).deliver j inp (encaps j.kset pk.1 pk.2 (s.nextRandom 128)).1 (encaps j.kset pk.1 pk.2 (s.nextRandom 128)).2)) ∧
      (j.handle = 0 → kemPkFault j.kset pk.1 pk.2 ≠ 0 → exec (.kemEncaps q i inp) s = .next (s.reject j inp 0x0104 (kemPkFault j.kset pk.1 pk.2)))) ∧
    (s.AtEngine q i 0x0112 j →
      let sk := splitHybrid j.kset kemSk (s.jobKey j).priv
      (ctFault j.kset sk.1 sk.2 (j.full inp) = 0 → s.maskOk j = true → exec (.kemDecaps q i inp) s =
        .next (s.deliver j inp [] (decaps j.kset sk.1 sk.2 (j.full inp)))) ∧
      (ctFault j.kset sk.1 sk.2 (j.full inp) ≠ 0 → exec (.kemDecaps q i inp) s =
        .next (s.reject j inp 0x0104 (ctFault j.kset sk.1 sk.2 (j.full inp))))) ∧
    (s.AtEngine q i 0x0130 j →
      (peerFault j.kset (j.full inp) = 0 → kemScalarOk j.kset (s.jobKey j).priv = true → exec (.keyAgree q i inp) s =
        .next (s.deliver j inp [] (dhOut j.kset (s.jobKey j).priv (j.full inp)))) ∧
      (peerFault j.kset (j.full inp) ≠ 0 → exec (.keyAgree q i inp) s = .next (s.reject j inp 0x0104 (peerFault j.kset (j.full inp)))) ∧
      (peerFault j.kset (j.full inp) = 0 → kemScalarOk j.kset (s.jobKey j).priv = false → exec (.keyAgree q i inp) s = .next (s.reject j inp 0x0104 8))) ∧
    (s.AtEngine q i 0x0140 j →
      let a := s.jobKey j
      let b := s.keyOf (bits j.arg0 63 32)
      (bit j.aux 0 = true → ctFault j.paramset a.priv b.priv (j.full inp) = 0 → s.maskOk j = true → exec (.hybridKem q i inp) s =
        .next (s.deliver j inp [] (decaps j.paramset a.priv b.priv (j.full inp)))) ∧
      (bit j.aux 0 = true → ctFault j.paramset a.priv b.priv (j.full inp) ≠ 0 → exec (.hybridKem q i inp) s =
        .next (s.reject j inp 0x0104 (ctFault j.paramset a.priv b.priv (j.full inp)))) ∧
      (bit j.aux 0 = false → peerFault (hybridParts j.paramset).2 b.pub ≠ 0 → exec (.hybridKem q i inp) s =
        .next (s.reject j inp 0x0104 (peerFault (hybridParts j.paramset).2 b.pub))) ∧
      (bit j.aux 0 = false → peerFault (hybridParts j.paramset).2 b.pub = 0 → s.CanDraw j 128 → exec (.hybridKem q i inp) s =
        .next ((s.afterDraw j 128).deliver j inp (encaps j.paramset a.pub b.pub (s.nextRandom 128)).1 (encaps j.paramset a.pub b.pub (s.nextRandom 128)).2)))

/-- O38. Signature key generation, signing, verification and batch verification. (07_pqc_operations (R148, R149, R156, R157, R158, R159, R160, R161,
R162, R164, R165, R166)) For a job at its engine: SIG_KEYGEN ends with the new key and its public part, of a stateful set with a new custody record.
SIG_SIGN of a deterministic scheme gives the key's signature over context and message, RESULT its length; a hedged one draws its bytes first; an ML-
DSA signing whose rejection loop reaches its limit raises engine fault 0x1001 of its core, retried like any other; a stateful one uses its assigned
index once that is durable, and waits before. SIG_VERIFY ends SUCCESS when the signature verifies and with the verdict's STATUS and DETAIL when it
does not. SIG_VERIFY_BATCH writes one result word for each record, charges each verified record, counts the good ones in RESULT and ends SUCCESS when
all are good, else SIG_INVALID 2; a record without a hash core makes it retry once. The lattice and hash-based schemes are uninterpreted. -/
def Obligations.SignatureOpcodes : Prop :=
  ∀ (s : State) (q i : Nat) (j : Job) (inp : List Byte),
    (s.AtEngine q i 0x0120 j → s.maskOk j = true → s.CanDraw j 64 → isStateful j.paramset = false → ∀ k, j.newKey = some k →
      let sk := sigSecret j.paramset (128 * bits j.aux 23 16) (s.nextRandom 64)
      let pk := publicOf 2 j.paramset sk
      exec (.sigKeygen q i) s = .next ((s.afterDraw j 64).endWithKey j [] k { priv := sk, pub := pk, keyLen := sk.length } pk)) ∧
    (s.AtEngine q i 0x0120 j → s.maskOk j = true → s.CanDraw j 64 → isStateful j.paramset = true → s.getF .PWR_STATUS_BRACE 0 = 0 → ∀ k x, j.newKey = some k →
      statefulInfo j.paramset (bits j.aux 31 16) (bits j.arg0 43 40) = some x →
      let sk := bytesOf 64 (Config.alg "stateful private seed" [j.paramset, bits j.aux 31 16, bits j.arg0 43 40] [s.nextRandom 64])
      let pk := statefulPub j.paramset (bits j.aux 31 16) (bits j.arg0 43 40) sk
      let c := (s.afterDraw j 64).newCustody j x
      ∃ n, exec (.sigKeygen q i) s = .next (c.2.endWithKey j [] k { priv := sk, pub := pk, keyLen := n, custody := some c.1 } pk)) ∧
    (s.AtEngine q i 0x0121 j →
      let g := j.sigIn (j.full inp)
      let k := s.jobKey j
      let fin := fun (u : State) (sg : List Byte) => u.endJob j inp { (j.plain sg) with result := sg.length }
      let tooLong := fun (rnd : List Byte) => isMlDsa g.ps && Config.holds "ML-DSA rejection limit reached" g.nums [k.priv, g.ctx, g.msg, rnd]
      let limit := fun (u : State) => (u.raiseFault 1 1 (j.core.getD (0, 0)).1 0).engineFault j 1 1 (j.core.map Prod.fst)
      (isStateful g.ps = false → sigScalarOk g.ps k.priv = true → s.maskOk j = true → signDraw g (bit j.aux 3) = 0 →
        (tooLong (fixedRandom g k) = false → exec (.sigSign q i inp) s = .next (fin s (s.signature k g (fixedRandom g k) 0))) ∧
        (tooLong (fixedRandom g k) = true → exec (.sigSign q i inp) s = .next (limit s))) ∧
      (isStateful g.ps = false → sigScalarOk g.ps k.priv = true → s.maskOk j = true → ∀ n, signDraw g (bit j.aux 3) = n + 1 → s.CanDraw j (n + 1) →
        (tooLong (s.nextRandom (n + 1)) = false → exec (.sigSign q i inp) s =
          .next (fin (s.afterDraw j (n + 1)) ((s.afterDraw j (n + 1)).signature k g (s.nextRandom (n + 1)) 0))) ∧
        (tooLong (s.nextRandom (n + 1)) = true → exec (.sigSign q i inp) s = .next (limit (s.afterDraw j (n + 1))))) ∧
      (isStateful g.ps = false → sigScalarOk g.ps k.priv = false → exec (.sigSign q i inp) s = .next (s.reject j inp 0x0104 8)) ∧
      (∀ c n, isStateful g.ps = true → k.custody = some c → j.index = some n →
        (s.indexReady c n = true → exec (.sigSign q i inp) s =
          .next (fin (s.setCust c { s.cust c with signed := max (s.cust c).signed (n + 1) }) (s.signature k g [] n))) ∧
        (s.indexReady c n = false → exec (.sigSign q i inp) s = .next (s.updJob q i fun x => x.startWait s.now [])))) ∧
    (s.AtEngine q i 0x0122 j →
      let d := if j.handle = 0 then (j.full inp).drop (bits j.arg0 63 48) else j.full inp
      let pk := if j.handle = 0 then (j.full inp).take (bits j.arg0 63 48) else (s.jobKey j).pub
      let v := verifyOne (j.sigIn (d.drop (bits j.arg0 15 0))) (j.handle == 0) pk (d.take (bits j.arg0 15 0))
      (v.1 = 0 → exec (.sigVerify q i inp) s = .next (s.endJob j inp {})) ∧
      (v.1 ≠ 0 → exec (.sigVerify q i inp) s = .next (s.reject j inp v.1 v.2))) ∧
    (s.AtEngine q i 0x0123 j →
      let cs := (List.range (bits j.arg0 15 0)).map fun n => s.batchRecord j (j.full inp) (bslice (j.full inp) (32 * n) 32)
      let ok := cs.filterMap Except.toOption
      let rs := cs.zipIdx.map fun e => s.recordResult j e.2 e.1
      let good := (rs.filter fun r => r.1 == 0).length
      let charged := ok.foldl (fun u r => u.chargeRecord (sigPool j.paramset) j.slice (recordCost j.paramset r.pk (r.g.ctx.length + r.g.msg.length))) s
      (j.budget = 0 ∨ ok.any s.recordDead = false → exec (.sigVerifyBatch q i inp) s = .next ((rs.foldl (fun u r => u.bgnReject j r.1 r.2) charged).endJob j inp
        { status := if good = rs.length then 0 else 0x0010, detail := if good = rs.length then 0 else 2, result := good,
          output := rs.flatMap fun r => leBytes 4 (r.1 + r.2 * 65536), onInvalid := true })) ∧
      (0 < j.budget → ok.any s.recordDead = true → exec (.sigVerifyBatch q i inp) s =
        .next (((s.count .HSH_SESSION_FAIL_COUNT_COUNT 0 1).raiseFault 2 3 0 0).engineFault j 2 3 none)))

/-- O39. HASH, HMAC, KMAC, CMAC and KDF. (08_service_operations (R171, R172, R174), 06_command_packets (R138)) For a job at its engine: HASH outputs
the digest of the whole input. The three MACs output the tag of their message, or, in a verification, end SUCCESS exactly when the input's last bytes
are the tag of the bytes before them, and SIG_INVALID 3 when they are not, which for CMAC is also counted as a tag mismatch of STR. KDF delivers
output key material from the key or the input. RESULT is the length of digest or tag. A stitched link passes its output on. The algorithms' values are
uninterpreted. -/
def Obligations.HashMacAndKdfOpcodes : Prop :=
  ∀ (s : State) (q i : Nat) (j : Job) (inp : List Byte),
    let d := j.full inp
    (s.AtEngine q i 0x0200 j → exec (.hash q i inp) s = .next (s.endJob j inp { (j.plain (bytesOf (s.maxOut j) (Config.hash j.paramset d))) with result := s.maxOut j })) ∧
    (s.AtEngine q i 0x0201 j →
      let tag := fun m => bytesOf j.tagLen (Config.alg "HMAC" [j.paramset] [s.keyBytes j, m])
      let m := d.take (d.length - j.tagLen)
      (bit j.aux 31 = false → exec (.hmac q i inp) s = .next (s.endJob j inp { (j.plain (tag d)) with result := j.tagLen })) ∧
      (bit j.aux 31 = true → tag m = d.drop (d.length - j.tagLen) → exec (.hmac q i inp) s = .next (s.endJob j inp {})) ∧
      (bit j.aux 31 = true → tag m ≠ d.drop (d.length - j.tagLen) → exec (.hmac q i inp) s = .next (s.endJob j inp { status := 0x0010, detail := 3 }))) ∧
    (s.AtEngine q i 0x0202 j →
      let n := bits j.arg0 7 0
      let tag := fun m => bytesOf j.tagLen (Config.alg "KMAC" [j.paramset, b2n (bit j.aux 30), j.tagLen] [s.keyBytes j, d.take n, m])
      let e := d.drop n
      (bit j.aux 31 = false → exec (.kmac q i inp) s = .next (s.endJob j inp { (j.plain (tag e)) with result := j.tagLen })) ∧
      (bit j.aux 31 = true → tag (e.take (e.length - j.tagLen)) = e.drop (e.length - j.tagLen) → exec (.kmac q i inp) s = .next (s.endJob j inp {})) ∧
      (bit j.aux 31 = true → tag (e.take (e.length - j.tagLen)) ≠ e.drop (e.length - j.tagLen) → exec (.kmac q i inp) s =
        .next (s.endJob j inp { status := 0x0010, detail := 3 }))) ∧
    (s.AtEngine q i 0x0306 j →
      let tag := fun m => bytesOf j.tagLen (Config.alg "CMAC" [j.paramset] [s.keyBytes j, m])
      let t := s.count .STR_PIPE_BYTES_COUNT (j.slot.getD 0 / 16) d.length
      let m := d.take (d.length - j.tagLen)
      (bit j.aux 31 = false → exec (.cmac q i inp) s = .next (t.endJob j inp { (j.plain (tag d)) with result := j.tagLen })) ∧
      (bit j.aux 31 = true → tag m = d.drop (d.length - j.tagLen) → exec (.cmac q i inp) s = .next (t.endJob j inp {})) ∧
      (bit j.aux 31 = true → tag m ≠ d.drop (d.length - j.tagLen) → exec (.cmac q i inp) s =
        .next ((t.count .STR_TAG_MISMATCH_COUNT_COUNT 0 1).endJob j inp { status := 0x0010, detail := 3 }))) ∧
    (s.AtEngine q i 0x0203 j →
      let a := bits j.arg0 15 0
      let r := if j.handle = 0 then d.drop a else d
      exec (.kdf q i inp) s = .next (s.deliver j inp [] (kdfOut j.paramset (bits j.aux 15 0) (if j.handle = 0 then d.take a else (s.jobKey j).priv)
        (r.take (bits j.arg0 31 16)) (r.drop (bits j.arg0 31 16)))))

/-- O40. AEAD, XTS, key wrapping and RANDOM. (08_service_operations (R175, R176, R177, R178), 13_bignum_and_stream_engines (R324, R331)) For a job at
its engine: AEAD_ENCRYPT outputs ciphertext and tag, after the drawn IV when it draws one. AEAD_DECRYPT outputs the plaintext when the tag fits; when
it does not it ends with SIG_INVALID 3, is counted, and writes nothing of a plaintext of up to 4 KiB and zeros over a longer one. XTS works unit by
unit with the running tweak. KEY_WRAP outputs the wrapped input; KEY_UNWRAP delivers the unwrapped bytes or ends with SIG_INVALID and its DETAIL.
RANDOM gives bytes drawn. Every payload byte is counted for its pipe. The algorithms' values are uninterpreted. -/
def Obligations.CipherOpcodes : Prop :=
  ∀ (s : State) (q i : Nat) (j : Job) (inp : List Byte),
    let d := j.full inp
    let counted := fun (t : State) n => t.count .STR_PIPE_BYTES_COUNT (j.slot.getD 0 / 16) n
    let sealed := fun (iv rest : List Byte) =>
      let pt := rest.drop j.aadLen
      let c := bytesOf pt.length (Config.alg "AEAD ciphertext" [j.paramset, j.tagLen] [s.keyBytes j, iv, pt])
      c ++ bytesOf j.tagLen (Config.alg "AEAD tag" [j.paramset, j.tagLen] [s.keyBytes j, iv, rest.take j.aadLen, c])
    (s.AtEngine q i 0x0300 j → j.ivGen = false → exec (.aeadEncrypt q i inp) s =
      .next ((counted s ((d.drop j.ivLen).drop j.aadLen).length).endJob j inp (j.plain (sealed (d.take j.ivLen) (d.drop j.ivLen))))) ∧
    (s.AtEngine q i 0x0300 j → j.ivGen = true → s.CanDraw j 12 → exec (.aeadEncrypt q i inp) s =
      .next ((counted (s.afterDraw j 12) (d.drop j.aadLen).length).endJob j inp (j.plain (s.nextRandom 12 ++ sealed (s.nextRandom 12) d)))) ∧
    (s.AtEngine q i 0x0301 j →
      let iv := d.take j.ivLen
      let r := d.drop (j.ivLen + j.aadLen)
      let n := r.length - j.tagLen
      let good := bytesOf j.tagLen (Config.alg "AEAD tag" [j.paramset, j.tagLen] [s.keyBytes j, iv, (d.drop j.ivLen).take j.aadLen, r.take n]) = r.drop n
      (good → exec (.aeadDecrypt q i inp) s =
        .next ((counted s n).endJob j inp (j.plain (bytesOf n (Config.alg "AEAD plaintext" [j.paramset, j.tagLen] [s.keyBytes j, iv, r.take n]))))) ∧
      (¬good → n ≤ 4096 → exec (.aeadDecrypt q i inp) s =
        .next (((counted s n).count .STR_TAG_MISMATCH_COUNT_COUNT 0 1).endJob j inp { status := 0x0010, detail := 3 })) ∧
      (¬good → 4096 < n → exec (.aeadDecrypt q i inp) s = .next (((counted s n).count .STR_TAG_MISMATCH_COUNT_COUNT 0 1).endJob j inp
        { status := 0x0010, detail := 3, result := n, output := List.replicate n 0, onInvalid := true }))) ∧
    (s.AtEngine q i 0x0302 j → exec (.xtsEncrypt q i inp) s = .next ((counted s d.length).endJob j inp
      (j.plain (j.xtsUnits d fun n u => bytesOf u.length (Config.xtsEnc (s.keyBytes j) n u))))) ∧
    (s.AtEngine q i 0x0303 j → exec (.xtsDecrypt q i inp) s = .next ((counted s d.length).endJob j inp
      (j.plain (j.xtsUnits d fun n u => bytesOf u.length (Config.xtsDec (s.keyBytes j) n u))))) ∧
    (s.AtEngine q i 0x0304 j → exec (.keyWrap q i inp) s = .next ((counted s d.length).endJob j inp (j.plain
      (if j.paramset = 0x30 then bytesOf (d.length + 8) (Config.alg "AES-KW wrap" [] [s.keyBytes j, d]) else kwpBytes (s.keyBytes j) d)))) ∧
    (s.AtEngine q i 0x0305 j → j.paramset = 0x30 →
      (Config.holds "AES-KW integrity" [] [s.keyBytes j, d] = true → exec (.keyUnwrap q i inp) s =
        .next ((counted s d.length).deliver j inp [] (bytesOf (d.length - 8) (Config.alg "AES-KW unwrap" [] [s.keyBytes j, d])))) ∧
      (Config.holds "AES-KW integrity" [] [s.keyBytes j, d] = false → exec (.keyUnwrap q i inp) s =
        .next (((counted s d.length).count .STR_TAG_MISMATCH_COUNT_COUNT 0 1).endJob j inp { status := 0x0010, detail := 3 }))) ∧
    (s.AtEngine q i 0x0305 j → j.paramset ≠ 0x30 →
      (∀ p, kwpOpen (s.keyBytes j) d = .ok p → exec (.keyUnwrap q i inp) s = .next ((counted s d.length).deliver j inp [] p)) ∧
      (∀ e, kwpOpen (s.keyBytes j) d = .error e → exec (.keyUnwrap q i inp) s =
        .next (((counted s d.length).count .STR_TAG_MISMATCH_COUNT_COUNT 0 1).endJob j inp { status := 0x0010, detail := e }))) ∧
    (s.AtEngine q i 0x0400 j → j.paramset ≠ 1 → s.CanDraw j (bits j.aux 23 0) →
      (j.stitch = true → exec (.random q i) s = .next ((s.afterDraw j (bits j.aux 23 0)).endJob j [] (j.plain (s.nextRandom (bits j.aux 23 0))))) ∧
      (j.stitch = false → exec (.random q i) s = .next ((s.afterDraw j (bits j.aux 23 0)).deliver j [] [] (s.nextRandom (bits j.aux 23 0)))))

/-- O41. Importing, exporting, destroying, describing, deriving and reserving keys. (08_service_operations (R180, R181, R182, R183, R184, R185, R186),
15_key_vault_and_custody (R357)) For a job at its engine: KEY_IMPORT in the clear of a consistent private or a valid public key creates it with the
usage asked for; one that fails its check ends with INPUT_REJECTED. KEY_EXPORT_WRAPPED outputs header and wrapped header and key. KEY_DESTROY puts the
key out of use; KEY_DESTROY_COMMIT, once no job accepted before holds the key or is a batch of its slice, zeroizes it and frees its entry. KEY_INFO
outputs the 64 bytes of the key's description. KEY_DERIVE creates a symmetric key. STATEFUL_RESERVE ends at once with RES_END when two blocks stand
reserved beyond the one in use and no raise is under way. HOT_KEY_LOAD makes a key resident and counts the miss. -/
def Obligations.KeyManagementOpcodes : Prop :=
  ∀ (s : State) (q i : Nat) (j : Job) (inp : List Byte),
    (s.AtEngine q i 0x0500 j → bit j.aux 0 = false → j.rawLenOk (j.full inp).length = true → ∀ k, j.newKey = some k →
      let fam := bits j.aux 15 8
      let ps := if fam = 1 then j.kset else j.paramset
      let use := { k with usage := bits j.arg0 15 0 }
      (bit j.aux 1 = true → publicFault fam ps (j.full inp) = 0 → exec (.keyImport q i inp) s =
        .next (s.endWithKey j inp use { pub := j.full inp, pubOnly := true, keyLen := (j.full inp).length } [])) ∧
      (bit j.aux 1 = false → secretBad fam ps (j.full inp) = false → exec (.keyImport q i inp) s =
        .next (s.endWithKey j inp use { priv := j.full inp, pub := publicOf fam ps (j.full inp), keyLen := (j.full inp).length } [])) ∧
      (bit j.aux 1 = true → publicFault fam ps (j.full inp) ≠ 0 → bgnFamily fam ps = false → exec (.keyImport q i inp) s =
        .next (s.endJob j inp { status := 0x0104, detail := publicFault fam ps (j.full inp) }))) ∧
    (s.AtEngine q i 0x0501 j →
      let k := s.jobKey j
      let raw := if k.pubOnly then k.pub else k.priv
      let h := [0x55, 0x4D, 0x56, 0x4B, 0x01] ++ leBytes 1 k.family ++ leBytes 1 k.paramset ++ leBytes 1 k.order ++ leBytes 2 k.usage ++
        leBytes 1 k.cls.code ++ [0] ++ leBytes 4 raw.length
      let o := h ++ kwpBytes (s.keyOf (bits j.arg0 31 0)).priv (h ++ raw)
      exec (.keyExportWrapped q i) s = .next (s.endJob j [] { result := o.length, output := o })) ∧
    (s.AtEngine q i 0x0502 j → exec (.keyDestroy q i) s =
      .next ((s.setKey (j.handle % 65536) { s.key (j.handle % 65536) with destroying := true }).updJob q i fun x => { x with phase := 1 })) ∧
    (∀ (k : Nat) (d : DestroyX) (rest : List DestroyX), s.kv.destroys = d :: rest → d.key = k →
      (∀ x ∈ s.jobs, x.live = true → k ∈ x.keys ∨ (x.opcode = 0x0123 ∧ x.slice = (s.key k).owner) → d.stamp ≤ x.stamp) → s.stopped = false →
      s.job? d.q d.idx = some j → j.live = true → j.stamp = d.stamp → j.stage = .dispatched → j.computed = false →
      exec (.keyDestroyCommit k) s =
        .next ((({ s with kv := { s.kv with destroys := rest } } : State).destroyKey k (some (d.q, d.idx))).endJob j [] {})) ∧
    (s.AtEngine q i 0x0503 j → exec (.keyInfo q i) s = .next (s.endJob j [] { result := 64, output := s.keyInfo j.handle })) ∧
    (s.AtEngine q i 0x0504 j → ∀ k, j.newKey = some k → exec (.keyDerive q i inp) s = .next (s.endWithKey j inp k
      { priv := kdfOut j.paramset j.deriveLen (s.keyBytes j) ((j.full inp).take (bits j.arg0 31 16)) ((j.full inp).drop (bits j.arg0 31 16)), keyLen := j.deriveLen } [])) ∧
    (s.AtEngine q i 0x0505 j → ∀ n, (s.jobKey j).custody = some n → j.phase = 0 → (s.cust n).raising = none → (s.cust n).raiseAsked = false →
      s.getF .PWR_STATUS_BRACE 0 = 0 → (s.cust n).useEnd + 2 * (s.cust n).block ≤ (s.cust n).resEnd →
      exec (.statefulReserve q i) s = .next (s.endJob j [] { ext := some (s.cust n).resEnd })) ∧
    (∀ k, s.stopped = false → (s.key k).used = true → s.kv.hot.contains k = false → neverResident (s.key k).family (s.key k).paramset = false →
      exec (.hotKeyLoad k) s = .next ((s.makeHot k).count .KV_HOT_MISS_COUNT_COUNT 0 1))

/-- O42. Appending to, certifying, proving, reading, opening and closing ledger streams. (08_service_operations (R187, R188, R189, R190, R191),
09_ordering_and_recovery (R208), 16_quire_and_sealed_store (R394, R399, R400)) For a job at its engine: LEDGER_APPEND ends with the length of its
input, a passed result included. LEDGER_CHECKPOINT with a deterministic key, once every record below its size is placed, outputs the checkpoint body
and its signature and raises the latest checkpoint. The two proofs of LEDGER_PROVE and LEDGER_READ end with INPUT_REJECTED 3 outside the stream, with
the proof or the folio's records when their blocks are on chip, and otherwise ask for the blocks and wait. STREAM_OPEN gives the lowest free stream
its first folio, or ends with LEDGER_NO_PAGES. STREAM_CLOSE waits for earlier appending entries, then closes the stream. RECORD_PLACE hands a computed
job's record to Quire once. -/
def Obligations.LedgerOpcodes : Prop :=
  ∀ (s : State) (q i : Nat) (j : Job) (inp : List Byte),
    let st := bits j.aux 7 0
    (s.AtEngine q i 0x0600 j → exec (.ledgerAppend q i inp) s = .next (s.endJob j inp { result := j.effIn })) ∧
    (s.AtEngine q i 0x0601 j → j.size ≤ (s.stream st).placed →
      let body := s.checkpointBody j st
      let g := { (j.sigIn []) with digest := false, ctx := if takesContext j.paramset then label "UMVOR.QUIRE.CKPT" else [], msg := body }
      let o := body ++ s.signature (s.jobKey j) g [] 0
      exec (.ledgerCheckpoint q i) s = .next (s.sign j [] g fun u sg =>
        (u.setStream st { u.stream st with latest := max (u.stream st).latest j.size }).endJob j [] { result := (body ++ sg).length, output := body ++ sg, ext := some j.size }) ∧
      (isStateful j.paramset = false → isEddsa j.paramset = true → s.maskOk j = true →
       exec (.ledgerCheckpoint q i) s = .next ((s.setStream st { s.stream st with latest := max (s.stream st).latest j.size }).endJob j []
        { result := o.length, output := o, ext := some j.size }))) ∧
    (s.AtEngine q i 0x0602 j → j.paramset = 0 →
      let n := if j.arg1 = 0 then (s.stream st).latest else j.arg1
      ((s.stream st).latest < n ∨ n ≤ j.arg0 → exec (.ledgerProveInclusion q i) s = .next (s.endJob j [] { status := 0x0104, detail := 3 })) ∧
      (n ≤ (s.stream st).latest → j.arg0 < n → exec (.ledgerProveInclusion q i) s =
        .next (s.prove j 0 (inclusionNodes j.arg0 n) (s.inclusion st j.arg0 n) n))) ∧
    (s.AtEngine q i 0x0602 j → j.paramset = 1 →
      let n := if j.arg1 = 0 then (s.stream st).latest else j.arg1
      ((s.stream st).latest < n ∨ n < j.arg0 → exec (.ledgerProveConsistency q i) s = .next (s.endJob j [] { status := 0x0104, detail := 3 })) ∧
      (n ≤ (s.stream st).latest → j.arg0 ≤ n → exec (.ledgerProveConsistency q i) s =
        .next (s.prove j 1 (consistencyNodes j.arg0 n) (s.consistency st j.arg0 n) n))) ∧
    (∀ kind nodes hs n d, s.readAll ((nodes.flatMap (s.stream st).nodeBlocks).dedup) = some d → s.prove j kind nodes hs n =
      (let o := proofBytes kind st hs.length j.arg0 n (s.rootAt st n) hs
       s.endJob j [] { result := o.length, output := o, ext := some n })) ∧
    (s.AtEngine q i 0x0603 j →
      ((s.stream st).records.length ≤ j.arg0 → exec (.ledgerRead q i) s = .next (s.endJob j [] { status := 0x0104, detail := 3 })) ∧
      (∀ folio off len, (s.stream st).records[j.arg0]? = some (folio, off, len) →
        let l := ((s.stream st).records.drop j.arg0).takeWhile fun r => r.1 == folio
        let n := (l.map fun r => r.2.2).sum
        let bs := (s.stream st).folioBlocks folio off (off + n - 1)
        (∀ d, s.readAll bs = some d → exec (.ledgerRead q i) s =
          .next (s.endJob j [] { result := n, output := bslice d (off % 4096) n, ext := some (j.arg0 + l.length) })) ∧
        (s.readAll bs = none → exec (.ledgerRead q i) s = .next (s.waitFor j bs)))) ∧
    (s.AtEngine q i 0x0604 j →
      (s.freeStream = none → exec (.streamOpen q i) s = .next (s.endJob j [] { status := 0x0302 })) ∧
      (∀ n, s.freeStream = some n → s.makeStream n j.slice (bits j.arg0 7 0) (some (q, i)) = none → exec (.streamOpen q i) s = .next (s.endJob j [] { status := 0x0302 })) ∧
      (∀ n t, s.freeStream = some n → s.makeStream n j.slice (bits j.arg0 7 0) (some (q, i)) = some t → exec (.streamOpen q i) s =
        .next (t.endJob j [] { result := n }))) ∧
    (s.AtEngine q i 0x0605 j → (∀ k ∈ s.jobs, k.live = true → k.stamp < j.stamp → k.stream ≠ some st) → exec (.streamClose q i) s =
      .next ((((s.setF .QRE_STREAM_STATE_STATE st 2).setF .QRE_STATUS_OPEN 0 (s.getF .QRE_STATUS_OPEN 0 - 1)).placeStreamState st (some (q, i))).endJob j []
        { ext := some (s.getF .QRE_STREAM_SIZE_SIZE st) })) ∧
    (∀ n m, s.stopped = false → s.job? q i = some j → j.stream = some n → j.seq = some m → j.stage ≠ .done → j.computed = true → s.recordGiven n m = false →
      exec (.recordPlace q i) s = .next (s.giveRecord n { seq := m, bytes := (s.jobRecord j m n).bytes, owner := some (q, i) }))

/-- O43. Sealed-store writes and reads, the warm and the cold anchor. (08_service_operations (R192, R193, R194), 16_quire_and_sealed_store (R387,
R388)) For a job at its engine with no earlier entry on its blocks: SEAL_WRITE places each of its blocks with the slice's bytes, or discards each, and
ends with the count of blocks. SEAL_READ ends with the blocks' content when all of it is on chip, and otherwise asks for it and waits. SEAL_ANCHOR
code 0 outside the brace asks the open group to close and ends once the group it needs is durable; code 1 waits under the brace and behind another
cold anchor, starts the cold anchor when none runs, and ends when it is done. COLD_ANCHOR_EPOCH_BURN with the next epoch bit asked for and its burn
started burns the bit; with a failed read-back nothing is burned and the retry is counted. -/
def Obligations.SealedStoreOpcodes : Prop :=
  ∀ (s : State) (q i : Nat) (j : Job) (inp : List Byte),
    (s.AtEngine q i 0x0700 j → s.blockBusy j = false →
      let b := fun (u : State) k => u.getF .SEAL_RANGE_SLICE_BASE j.slice + j.sealFirst + k
      (bit j.aux 0 = false → exec (.sealWrite q i inp) s = .next (((List.range j.sealCount).foldl (fun (u : State) k =>
        ({ u with store := { u.store with occupied := nset 0 u.store.occupied (b u k) (j.slice + 1) } } : State).place (b u k)
          (bslice (j.full inp) (4096 * k) 4096) (some (q, i))) s).endJob j inp { result := j.sealCount })) ∧
      (bit j.aux 0 = true → exec (.sealWrite q i inp) s = .next (((List.range j.sealCount).foldl (fun (u : State) k =>
        ({ u with store := { u.store with occupied := mdel u.store.occupied (b u k) } } : State).discardBlock (b u k) (some (q, i))) s).endJob j inp
          { result := j.sealCount }))) ∧
    (s.AtEngine q i 0x0700 j → s.blockBusy j = true → exec (.sealWrite q i inp) s = .next s) ∧
    (s.AtEngine q i 0x0701 j → s.blockBusy j = false →
      (∀ d, s.readAll (s.jobBlocks j) = some d → exec (.sealRead q i) s = .next (s.endJob j [] { result := d.length, output := d })) ∧
      (s.readAll (s.jobBlocks j) = none → exec (.sealRead q i) s = .next (s.waitFor j (s.jobBlocks j)))) ∧
    (s.AtEngine q i 0x0702 j → j.paramset = 0 →
      (s.getF .PWR_STATUS_BRACE 0 = 0 → exec (.sealAnchorWarm q i) s =
        .next ((s.askClose.endJob j [] { ext := some s.epoch }).updJob q i fun k => { k with needCommit := s.store.commit })) ∧
      (s.getF .PWR_STATUS_BRACE 0 ≠ 0 → exec (.sealAnchorWarm q i) s = .next (s.updJob q i fun k => k.startWait s.now []))) ∧
    (s.AtEngine q i 0x0702 j → j.paramset = 1 →
      (j.phase = 0 → s.getF .PWR_STATUS_BRACE 0 = 0 → s.store.coldStep = 0 → exec (.sealAnchorCold q i) s =
        .next (s.coldStart.updJob q i fun k => { k.startWait s.now [] with phase := 1 })) ∧
      (j.phase = 0 → s.getF .PWR_STATUS_BRACE 0 ≠ 0 ∨ s.store.coldStep ≠ 0 → exec (.sealAnchorCold q i) s = .next (s.updJob q i fun k => k.startWait s.now [])) ∧
      (j.phase ≠ 0 → s.store.coldStep ≠ 0 → exec (.sealAnchorCold q i) s = .next s.coldAdvance) ∧
      (j.phase ≠ 0 → s.store.coldStep = 0 → exec (.sealAnchorCold q i) s = .next (s.endJob j [] { ext := some s.epoch }))) ∧
    (∀ (w b : Nat) (rest : List OtpOp), s.lco.ops = { why := .epoch false, words := [(w, b)] } :: rest → s.store.coldStep = 3 → s.lco.started = true → s.stopped = false →
      (exec (.coldAnchorEpochBurn true) s = .next (let s1 := (s.burn w b).count .LCO_OTP_WRITE_COUNT_COUNT 0 1
        ({ s1 with lco := { s1.lco with ops := rest, started := false }, store := { s1.store with coldStep := 5 } } : State).otpShow.loadClassO.coldAdvance)) ∧
      (exec (.coldAnchorEpochBurn false) s = .next ((s.raiseErr blkLCO 0 0 w).count .LCO_OTP_RETRY_COUNT_COUNT 0 1)))

/-- O44. Time stamps, time readings, patch and life-cycle information, self-tests and attestation. (08_service_operations (R195, R196, R198, R199,
R200), 17_trusted_time (R419)) For a job at its engine: TIME_STAMP with a deterministic key outputs the token body and its signature with the accepted
time in RESULT_EXT. TIME_READ outputs the 24 bytes of its time. PATCH_QUERY and LC_INFO output 64 and 32 bytes about the patch bundle and the life
cycle. SELF_TEST with no failing group outputs twelve words, zero for each selected group, and ends SUCCESS; with failing groups RESULT counts those
of them that were selected. ATTEST draws 32 bytes and outputs the attestation body with its ML-DSA-87 signature. The algorithms' values are
uninterpreted. -/
def Obligations.TimeAndAdminOpcodes : Prop :=
  ∀ (s : State) (q i : Nat) (j : Job) (inp : List Byte),
    (s.AtEngine q i 0x0800 j →
      let d := j.full inp
      let body := s.tokenBody j (if bit j.aux 0 then d else sha3 d)
      let g := { (j.sigIn []) with digest := false, ctx := if takesContext j.paramset then label "UMVOR.TIME.TOKEN" else [], msg := body }
      let o := body ++ s.signature (s.jobKey j) g [] 0
      exec (.timeStamp q i inp) s = .next (s.sign j inp g fun u sg => u.endJob j inp { result := (body ++ sg).length, output := body ++ sg, ext := some j.time.word }) ∧
      (isStateful j.paramset = false → isEddsa j.paramset = true → s.maskOk j = true →
       exec (.timeStamp q i inp) s = .next (s.endJob j inp { result := o.length, output := o, ext := some j.time.word }))) ∧
    (s.AtEngine q i 0x0801 j → exec (.timeRead q i) s = .next (
      let o := leBytes 6 j.time.sec ++ zeros 2 ++ leBytes 4 j.time.ns ++ leBytes 4 j.sub ++ leBytes 1 j.time.grade ++
        leBytes 1 (b2n j.limited) ++ zeros 6
      s.endJob j [] { result := 24, output := o, ext := some j.time.word })) ∧
    (s.AtEngine q i 0x0F00 j → exec (.patchQuery q i) s = .next (
      let o := leBytes 4 (bfield s.seq.bundle 8 4) ++ leBytes 4 s.minPatch ++ leBytes 2 (s.getF .SEQ_PATCH_INFO_MATCH 0) ++
        leBytes 2 (s.getF .SEQ_PATCH_INFO_WORDS 0) ++ zeros 4 ++ sha384 s.seq.bundle
      s.endJob j [] { result := 64, output := o })) ∧
    (s.AtEngine q i 0x0F01 j → bits j.aux 11 0 = 0 → exec (.selfTest q i []) s =
      .next (({ s with free := s.free + 1 } : State).endJob j [] { result := 0, output := zeros 48 })) ∧
    (∀ fails : List (Nat × Nat), s.AtEngine q i 0x0F01 j → ∃ t x, exec (.selfTest q i fails) s = .next t ∧ t.job? q i = some x ∧ x.status = 0 ∧ x.computed = true ∧
      x.output.length = 48 ∧
      x.result = ((List.range 12).filter fun g => (bits j.aux 11 0 == 0 || bit j.aux g) && fails.any fun f => f.1 == g).length) ∧
    (s.AtEngine q i 0x0F02 j → exec (.lcInfo q i) s = .next (
      let o := leBytes 1 (s.getF .LCO_STATE_STATE 0) ++ leBytes 1 (b2n s.pendingIntent.isSome) ++ leBytes 1 (s.getF .LCO_STATE_DIAG_LEFT 0) ++
        leBytes 1 (s.getF .LCO_STATE_WINDOW_OPEN 0) ++ leBytes 4 (s.getF .TMP_OTP_COUNT_COUNT 0) ++ leBytes 2 s.epoch ++ zeros 2 ++ leBytes 4 s.minPatch ++ s.serial ++ zeros 8
      s.endJob j [] { result := 32, output := o })) ∧
    (s.AtEngine q i 0x0F03 j → s.CanDraw j 32 →
      let body := s.attestBody (j.full inp)
      let sk := bytesOf 4896 (Config.alg "device attestation key" [] [s.lco.frs])
      let o := body ++ bytesOf 4627 (Config.alg "signature" [3, 0, 0, 0] [sk, label "UMVOR.ATTEST", body, s.nextRandom 32])
      exec (.attest q i inp) s = .next ((s.afterDraw j 32).endJob j inp { result := o.length, output := o }))

/-- O45. Loading, listing, unloading and running kernels. (08_service_operations (R197), 11_marionette_instruction_set (R283, R284, R285, R286)) For a
job at its engine: KERNEL_LOAD of a bundle that passes every check makes it the kernel that new runs of its ID take, with its slot in RESULT; of one
that fails it ends with INPUT_REJECTED 0x11 and loads nothing. KERNEL_INFO outputs 48 bytes for each of up to 64 loaded kernels. KERNEL_UNLOAD takes
the ID from new runs and ends when no run of it accepted before is open. KERNEL_RUN is placed, its quarters are loaded and started, and its bundles
are executed in turn; when every member has drained, its output ends the job. -/
def Obligations.KernelOpcodes : Prop :=
  ∀ (s : State) (q i : Nat) (j : Job) (inp : List Byte), s.AtEngine q i 0x0900 j →
    (j.paramset = 2 → s.kernelFor (j.hostInput inp) = none → exec (.kernelLoad q i inp) s = .next (s.endJob j inp { status := 0x0104, detail := 0x11 })) ∧
    (∀ k, j.paramset = 2 → s.kernelFor (j.hostInput inp) = some k → exec (.kernelLoad q i inp) s =
      .next ((s.putKernel j k).endJob j inp { result := k.slot }) ∧ (s.putKernel j k).kernelOf k.id = some k) ∧
    (j.paramset = 1 →
      let d := ((s.mar.kernels.filter fun k => k.live).take 64).flatMap KernelX.info
      exec (.kernelInfo q i) s = .next (s.endJob j [] { result := d.length, output := d }) ∧ d.length ≤ 48 * 64) ∧
    (j.paramset = 3 → (∀ x ∈ s.jobs, x.live = true → x.opcode = 0x0900 → x.paramset = 0 → bits x.arg0 15 0 = bits j.arg0 15 0 → j.stamp ≤ x.stamp) →
      exec (.kernelUnload q i) s = .next (({ s with mar := { s.mar with kernels := s.mar.kernels.map fun k => if k.id = bits j.arg0 15 0 then { k with live := false } else k } } : State).endJob j [] {})) ∧
    (∀ k, s.runKernel j = some k →
      let t := ((s.placeRun j).startQuarters q i inp k).runTeam q i k (2 * k.cycleLimit + 64)
      (∀ x n m, t.job? q i = some x → (∀ e ∈ t.quartersOf q i, (t.quarter e.1 e.2).st = .draining) → (t.quartersOf q i).find? (fun e => (t.quarter e.1 e.2).member == 0) = some (n, m) →
        exec (.kernelRun q i inp) s = .next (t.drained' x k (t.quarter n m) inp)) ∧
      ((∃ e ∈ t.quartersOf q i, (t.quarter e.1 e.2).st ≠ .draining) → exec (.kernelRun q i inp) s = .next t))

/-- O46. Every microword class has its effect on its thread, its job and the state, and the thread goes on to the next microword.
(18_sequencer_and_boot (R423, R426, R428, R430)) For a thread of a binder in service at a loaded microword of the class: ALU puts the operation's
value into a register; FIELD extracts a bit field of an entry word; BRANCH goes on, jumps, calls or returns; DISPATCH goes to the table's address;
REQUEST binds a tag to a register; WAIT frees its tags and restarts the watchdog; CHECK reads the fragment tables, records the failed verdict and
branches; ACCEPT takes the acceptance point, and a second one of the run is a fault; STAGE moves the bytes; COMMIT passes the commit point once it is
reached; HOSTWRITE before COMMIT is a fault, and after it, with no output and no W6 to write, writes W7; END frees the thread. -/
def Obligations.MicrowordsRun : Prop :=
  ∀ (s : State) (b t q i : Nat) (x : ThreadX),
    let y := s.stepped x
    (s.Issuing b t q i [0, 1] x → ∀ (o : AluOp) (d a : Nat),
      (∀ r, exec (.microwordAlu b t q i o d a (.reg r)) s = .next (s.setThread b t (y.setReg (d % 64) (AluOp.eval o (x.reg (a % 64)) (x.reg (r % 64)))))) ∧
      (∀ v, exec (.microwordAlu b t q i o d a (.imm v)) s = .next (s.setThread b t (y.setReg (d % 64) (AluOp.eval o (x.reg (a % 64)) (v % 1024)))))) ∧
    (s.Issuing b t q i [2] x → ∀ (j : Job) (w r lo len : Nat), s.job? q i = some j → w < 8 → 0 < len →
      exec (.microwordField b t q i (.entry w) false r lo len) s = .next (s.setThread b t (y.setReg (r % 64) (bits (j.w w) (lo + len - 1) lo)))) ∧
    (s.Issuing b t q i [3] x → ∀ (kind : BranchKind) (r a : Nat),
      (x.reg (r % 64) = 0 → exec (.microwordBranch b t q i kind r a) s = .next (s.setThread b t y)) ∧
      (x.reg (r % 64) ≠ 0 → s.inStore (a % 65536) = true →
        exec (.microwordBranch b t q i .jump r a) s = .next (s.setThread b t { y with maddr := a % 65536 }) ∧
        exec (.microwordBranch b t q i .call r a) s = .next (s.setThread b t { y with maddr := a % 65536, calls := y.maddr :: x.calls })) ∧
      (∀ p l, x.reg (r % 64) ≠ 0 → x.calls = p :: l → s.inStore p = true →
        exec (.microwordBranch b t q i .ret r a) s = .next (s.setThread b t { y with maddr := p, calls := l })) ∧
      (x.reg (r % 64) ≠ 0 → s.inStore (a % 65536) = false → exec (.microwordBranch b t q i .jump r a) s = .next ((s.setThread b t x).microFault b t 3))) ∧
    (s.Issuing b t q i [4] x → ∀ (r : Nat) (l : List Nat) (a : Nat), l[x.reg (r % 64)]? = some a → s.inStore a = true →
      exec (.microwordDispatch b t q i r l) s = .next (s.setThread b t { y with maddr := a })) ∧
    (s.Issuing b t q i [5] x → ∀ g r, (∀ p ∈ x.tags, p.1 ≠ g) →
      exec (.microwordRequest b t q i g r) s = .next (s.setThread b t { y with tags := x.tags ++ [(g, r % 64)] })) ∧
    (s.Issuing b t q i [6] x → ∀ l : List Nat, ∃ z : ThreadX, exec (.microwordWait b t q i l) s = .next ({ s with free := s.free + 1 }.setThread b t z) ∧
      z.maddr = y.maddr ∧ z.issued = 0 ∧ (∀ p, p ∈ z.tags ↔ p ∈ x.tags ∧ p.1 ∉ l) ∧
      ∀ r, (∀ p ∈ x.tags, p.1 ∈ l → p.2 ≠ r) → z.reg r = x.reg r) ∧
    (s.Issuing b t q i [7] x → ∀ (r a : Nat) (inT outT : TableRead),
      (x.reg (r % 64) = 0 → exec (.microwordCheck b t q i r a inT outT) s = .next (s.setThread b t y)) ∧
      (∀ j k e u, x.reg (r % 64) ≠ 0 → s.decodableAt q i = some j → s.readTables j inT outT = some (e, u) → u.verdict e inT outT = .error k →
        s.inStore (a % 65536) = true →
        exec (.microwordCheck b t q i r a inT outT) s = .next ((u.recordVerdict k).setThread b t { y with maddr := a % 65536 }))) ∧
    (s.Issuing b t q i [8] x → ∀ inT outT,
      (x.accepted = true → exec (.microwordAccept b t q i inT outT) s = .next ((s.setThread b t x).microFault b t 1)) ∧
      (∀ j k l e u, x.accepted = false → s.job? q i = some j → j.stamp = 0 → s.decodableAt q i = some k → s.readTables k inT outT = some (e, u) →
        u.verdict e inT outT = .ok l →
        exec (.microwordAccept b t q i inT outT) s = .next (((u.accept l).decided l).setThread b t { y with accepted := true }))) ∧
    (s.Issuing b t q i [9] x → ∀ a n to' : Nat, exec (.microwordStage b t q i .park .staging a n to') s =
      .next ((s.updJob q i fun k => { k with input := padTo to' k.input ++ padTo n (bslice k.park a n) ++ k.input.drop (to' + n) }).setThread b t y)) ∧
    (s.Issuing b t q i [10] x → ∀ j, s.job? q i = some j →
      (j.committing = false → s.mayCommit j = true →
        exec (.microwordCommit b t q i) s = .next ((s.updJob q i fun k => { k with committing := true }).setThread b t y)) ∧
      (j.committing = true → exec (.microwordCommit b t q i) s = .next ((s.setThread b t x).microFault b t 1))) ∧
    (s.Issuing b t q i [11] x → ∀ j, s.job? q i = some j → s.mayIssue = true → x.writes = 0 →
      (j.committing = false → exec (.microwordHostwrite b t q i) s = .next ((s.setThread b t x).microFault b t 2)) ∧
      (j.committing = true → j.stage ≠ .done → j.writesOutput = false → j.ext = none →
        exec (.microwordHostwrite b t q i) s = .next (((s.writeW7 q i).linkDone j).setThread b t { y with writes := 1 }))) ∧
    (s.Issuing b t q i [12] x → exec (.microwordEnd b t q i) s = .next (s.setThread b t {}))

/-- O47. A binder restarts or halts on a fault, is resumed, goes offline at its fourth restart, and one binder always stays on. (18_sequencer_and_boot
(R425, R428, R429, R430)) BINDER_RESTART of a binder in service restarts it: with no job of its own in flight every thread of it is free,
SEQ_RESTART_COUNT rises and cause 0 of SEQ is raised; its fourth restart within a second clears its ONLINE bit and makes it OFFLINE, unless it is the
last one on, which stays and raises cause 1. BINDER_PRECISE_HALT in precise mode halts the faulting thread before its microword and the other busy
threads, STATE 3. BINDER_RESUME ends the halt, the faulting thread at its microword or at the next one, STATE 1. SEQ_BINDER_ENABLE_WRITE sets the
enables, bits from 0 to 1 coming back online; a write that leaves none both enabled and online changes only SEQ_CFG_REFUSED_COUNT. -/
def Obligations.BinderFaultsAndEnables : Prop :=
  ∀ (s : State) (b t cause : Nat), b < 8 → t < 16 → s.stopped = false →
    (s.getF .SEQ_BINDER_STATUS_STATE b = 1 → 1 ≤ cause → cause ≤ 7 → (s.precise && haltsPrecise cause) = false → s.regsOk →
      ∃ u, exec (.binderRestart b t cause) s = .next u ∧
        ((∀ j ∈ s.jobs, j.binder ≠ b) →
          (∀ n < 16, u.thread b n = {}) ∧ u.jobs = s.jobs ∧ u.getF .SEQ_RESTART_COUNT_COUNT 0 = s.plus .SEQ_RESTART_COUNT_COUNT 0 1 ∧
          ((recent s.now 1000000000 (nget [] s.seq.restarts b)).length < 3 → Raised s u 4 0 ∧
            u.getF .SEQ_BINDER_STATUS_STATE b = 1 ∧ u.getF .SEQ_BINDER_ONLINE_ONLINE 0 = s.getF .SEQ_BINDER_ONLINE_ONLINE 0) ∧
          (3 ≤ (recent s.now 1000000000 (nget [] s.seq.restarts b)).length → s.bindersOn ≠ [b] →
            u.getF .SEQ_BINDER_STATUS_STATE b = 0 ∧ bit (u.getF .SEQ_BINDER_ONLINE_ONLINE 0) b = false) ∧
          (3 ≤ (recent s.now 1000000000 (nget [] s.seq.restarts b)).length → s.bindersOn = [b] →
            u.getF .SEQ_BINDER_STATUS_STATE b = 1 ∧ u.getF .SEQ_BINDER_ONLINE_ONLINE 0 = s.getF .SEQ_BINDER_ONLINE_ONLINE 0 ∧
            bit (u.getF .BLK_ERR_STATUS_CAUSE 4) 1 = true))) ∧
    (s.getF .SEQ_BINDER_STATUS_STATE b = 1 → s.precise = true → haltsPrecise cause = true → (s.thread b t).busy = true →
      ∃ u, exec (.binderPreciseHalt b t cause) s = .next u ∧ u.getF .SEQ_BINDER_STATUS_STATE b = 3 ∧
        u.thread b t = { s.thread b t with halted := true, faulted := true } ∧
        (∀ n < 16, n ≠ t → u.thread b n = if (s.thread b n).busy then { s.thread b n with halted := true } else s.thread b n) ∧
        (s.getF .SEQ_FAULT_INFO_VALID b = 0 → u.getF .SEQ_FAULT_INFO_VALID b = 1 ∧ u.getF .SEQ_FAULT_INFO_THREAD b = t ∧ u.getF .SEQ_FAULT_INFO_CAUSE b = cause)) ∧
    (s.Serves → s.getF .SEQ_BINDER_STATUS_STATE b = 3 → ∀ atNext : Bool, ∃ u, exec (.binderResume b atNext) s = .next u ∧ u.getF .SEQ_BINDER_STATUS_STATE b = 1 ∧
      (∀ n < 16, u.thread b n = { s.thread b n with
        halted := false
        faulted := false
        maddr := if (s.thread b n).faulted ∧ atNext = true then ((s.thread b n).maddr + 1) % 65536 else (s.thread b n).maddr }) ∧
      ∀ f k, (f, k) ≠ (.SEQ_BINDER_STATUS_STATE, b) → u.getF f k = s.getF f k) ∧
    (∀ v : W32, s.Serves → s.regsOk →
      let en := v.toNat % 256
      let on := s.getF .SEQ_BINDER_ONLINE_ONLINE 0 ||| (en &&& (2 ^ 32 - 1 - s.getF .SEQ_BINDER_ENABLE_EN 0))
      (en &&& on = 0 → ∃ u, exec (.seqBinderEnableWrite v) s = .next u ∧ Sets s u [((.SEQ_CFG_REFUSED_COUNT_COUNT, 0), s.plus .SEQ_CFG_REFUSED_COUNT_COUNT 0 1)]) ∧
      (en &&& on ≠ 0 → ∃ u, exec (.seqBinderEnableWrite v) s = .next u ∧ u.getF .SEQ_BINDER_ENABLE_EN 0 = en ∧ u.getF .SEQ_BINDER_ONLINE_ONLINE 0 = on ∧
        u.jobs = s.jobs ∧ ∀ n < 8, u.thread n t = s.thread n t))

/-- O48. A job is placed on the best eligible core, loaded, run in the order of stamps, suspended while masks fail, drained and scrubbed.
(10_marionette_array (R234, R249, R250, R251, R252, R253, R254, R256), 11_marionette_instruction_set (R267, R271)) JOB_PLACE of a job of one core, no
batch, with an eligible core puts it into the lowest FREE quarter of an eligible core, loading, with its sessions and free pages; unless only the
avoided core is eligible, it is not that one, and no other has a lower rank. QUARTER_LOADED makes a loading quarter READY. CORE_SWITCH of an idle core
starts the runnable quarter with the lowest stamp: a suspended one, through JOB_UNSUSPEND too, with the registers it saved, a ready one with those of
its start; a modulus that the header may not load is a kernel fault. BUNDLE_EXECUTE runs the bundle at the program counter; a core that waits for its
masks, a session or its team only lets a cycle pass. JOB_SUSPEND saves the registers without the reservation, counts, and its job's wait for entropy
counts from the first stall. DRAIN_COMPLETE ends the execution of a computed job. A scrubbed quarter is empty and FREE, a scrubbed page free. -/
def Obligations.MarionettePlacement : Prop :=
  ∀ (s : State) (q i c n : Nat) (j : Job), s.stopped = false →
    (s.job? q i = some j → j.stage = .dispatched → j.core = none → .MAR ∈ j.pools → j.computed = false → (j.opcode = 0x0900 → j.paramset = 0) →
      j.opcode ≠ 0x0123 → (s.marNeeds j).2.2 = 1 → (∃ d < 32, s.eligible j d = true) →
      ∃ t c n, exec (.jobPlace q i) s = .next t ∧ c < 32 ∧ n < 4 ∧ s.eligible j c = true ∧ (s.quarter c n).st = .free ∧
        (∀ m < n, (s.quarter c m).st ≠ .free) ∧
        ((∀ d < 32, s.eligible j d = true → j.avoid = some d) ∨
          j.avoid ≠ some c ∧ ∀ d < 32, s.eligible j d = true → j.avoid ≠ some d → s.coreRank c ≤ s.coreRank d) ∧
        t.quarter c n = ({ st := .loading, job := some (q, i), member := 0, sessions := (s.marNeeds j).1, pages := (s.freePages (c / 8)).take (s.marNeeds j).2.1 } : Quarter) ∧
        t.job? q i = some { j with core := some (c, n) } ∧ t.regs = s.regs) ∧
    (s.quarterJob c n = some j → (s.quarter c n).st = .loading → ∀ inp, exec (.quarterLoaded c n inp) s =
      .next (s.setQuarter c n { s.quarter c n with st := .ready, rows := (s.runKernel j).elim [] fun k => s.loadedRows j k inp })) ∧
    (s.runningQuarter c = none → s.runnable c ≠ [] → ∃ m, exec (.coreSwitch c) s = .next (s.switchTo c m) ∧ m ∈ s.runnable c ∧
        (∀ p ∈ s.runnable c, s.stampOf c m ≤ s.stampOf c p) ∧
        ((s.quarter c m).st = .suspended → exec (.jobUnsuspend c m) s = .next (s.switchTo c m))) ∧
    (s.quarterJob c n = some j →
      let t := s.switchTo c n
      let run := if (s.quarter c n).st = .suspended then s.resumeRun j ((s.quarter c n).save.getD {}) else s.startRun j (s.quarter c n).member
      ((∀ k, s.runKernel j = some k → k.badModuli = false) →
        (t.core c).run = run ∧ t.quarter c n = { s.quarter c n with st := .running, save := none, stallSince := none } ∧
        (∀ p, p ≠ n → t.quarter c p = s.quarter c p) ∧ ((s.quarter c n).st = .suspended → ∃ x, t.job? j.q j.idx = some x ∧ x.entSince = none)) ∧
      (∀ k, s.runKernel j = some k → k.badModuli = true → s.precise = false → ∃ x, t.job? j.q j.idx = some x ∧ x.status = 0x0505 ∧ x.detail = 5 ∧ x.stage = .ended)) ∧
    (∀ k, s.RunsKernel c n j k →
      let b := k.bundleAt (s.core c).run.pc
      let masks := s.genStalled c && decide ((s.core c).run.pc < k.codeLen) && readsMask b
      let hash := decide ((s.core c).run.pc < k.codeLen) && s.hashWaits c n b
      (masks = false → hash = false → exec (.bundleExecute c) s = .next (s.runBundle c n j k fun e => e.bundle b)) ∧
      (masks = true → exec (.bundleExecute c) s = .next (s.waitCycle c n j k true false)) ∧
      (masks = false → hash = true → exec (.bundleExecute c) s = .next (s.waitCycle c n j k false true)) ∧
      ((s.core c).run.maskStall = true → s.genStalled c = true → ∃ t x, exec (.jobSuspend c) s = .next t ∧
        (t.quarter c n).st = .suspended ∧ (t.quarter c n).save = some { (s.core c).run with resv := none } ∧ (t.core c).run = {} ∧
        t.getF .MAR_SUSPEND_COUNT_COUNT 0 = s.plus .MAR_SUSPEND_COUNT_COUNT 0 1 ∧ t.job? j.q j.idx = some x ∧
        (j.entSince = none → x.entSince = some ((s.quarter c n).stallSince.getD s.now)) ∧ (j.entSince ≠ none → x.entSince = j.entSince))) ∧
    (∀ k, s.runningQuarter c = some n → s.quarterJob c n = some j → s.runKernel j = some k → (s.core c).run.ended = none → (s.core c).halt = none →
      (s.core c).run.sync = true →
      (s.teamSynced j = false → exec (.bundleExecute c) s = .next (s.waitCycle c n j k false false)) ∧
      (s.teamSynced j = true → exec (.bundleExecute c) s = .next (s.releaseSync j))) ∧
    (∀ inp, s.job? q i = some j → j.stage = .dispatched → j.core ≠ none → j.computed = true →
      exec (.drainComplete q i inp) s = .next ((s.endExecution j).getD s)) ∧
    (∀ inp k e, s.job? q i = some j → j.stage = .dispatched → j.core ≠ none → j.computed = false → s.runKernel j = some k →
      (s.quartersOf q i).find? (fun e => (s.quarter e.1 e.2).member == 0) = some e → (∀ e ∈ s.quartersOf q i, (s.quarter e.1 e.2).st = .draining) →
      let u := s.drained' j k (s.quarter e.1 e.2) inp
      ∃ x, u.job? q i = some x ∧ x.computed = true ∧ exec (.drainComplete q i inp) s = .next ((u.endExecution x).getD u)) ∧
    ((s.quarter c n).st = .scrubbing → ∃ t, exec (.quarterScrubComplete c n) s = .next t ∧ t.quarter c n = {} ∧ t = { s with mar := t.mar } ∧
      ∀ d m, (d, m) ≠ (c, n) → t.quarter d m = s.quarter d m) ∧
    (∀ g p, (nget {} (s.gather g).pages p).scrubbing = true → ∃ t, exec (.scratchPageScrubComplete g p) s = .next t ∧
      nget {} (t.gather g).pages p = {} ∧ (∀ m, m ≠ p → nget {} (t.gather g).pages m = nget {} (s.gather g).pages m) ∧
      (∀ r, r / 512 = p → nget {} (t.gather g).rows r = {}) ∧ (∀ r, r / 512 ≠ p → nget {} (t.gather g).rows r = nget {} (s.gather g).rows r))

/-- O49. An engine fault re-executes its job once and then ends it; cores reset, go offline and resume as R250 and R278 say. (09_ordering_and_recovery
(R222), 10_marionette_array (R250, R257, R258), 11_marionette_instruction_set (R278, R282)) ENGINE_FAULT of a job at the unit, outside a precise-mode
halt: with budget left the job executes again from its inputs, away from the failed part, its budget spent, and SCH_REEXEC_COUNT rises; without, it
ends as ENGINE_FAULT with DETAIL unit times 4,096 plus cause, and a batch notes that as the result of one of its records. MAR_CORE_RESET without an
ECC error of a core whose quarters are all FREE counts, raises cause 1, clears the core's run and halt and has every quarter scrubbed; the fourth
within a second takes it offline. MAR_CORE_ENABLE_WRITE sets the enables, bits from 0 to 1 come online; one that leaves no core on is refused and
counted. MAR_FAULT_RESUME with GO on a core that is not halted is counted and changes no core; without GO it writes only START_LANE, in precise mode.
-/
def Obligations.FaultsAtEngines : Prop :=
  ∀ (s : State) (q i : Nat) (j : Job), s.stopped = false → s.job? q i = some j →
    (∀ unit cause part place, j.faultable unit = true → s.haltsCore j unit part = false → ∃ t, exec (.engineFault q i unit cause part place) s = .next t ∧
      (0 < j.budget → t.job? q i = some (j.again (faultAvoid unit part)) ∧ t.getF .SCH_REEXEC_COUNT_COUNT 0 = s.plus .SCH_REEXEC_COUNT_COUNT 0 1) ∧
      (j.budget = 0 → j.opcode = 0x0123 → j.computed = false → ∃ n < max 1 (bits j.arg0 15 0),
        t.job? q i = some { j with faulted := j.faulted ++ [(n, unit * 4096 + cause)] }) ∧
      (j.budget = 0 → j.opcode ≠ 0x0123 ∨ j.computed = true → ∃ x, t.job? q i = some x ∧ x.status = 0x0501 ∧ x.detail = unit * 4096 + cause ∧ x.result = 0 ∧ x.stage = .ended ∧ x.computed = true ∧
        x.pools = [] ∧ x.stamp = j.stamp) ∧ ∀ a b, (a, b) ≠ (q, i) → t.job? a b = s.job? a b) ∧
    (∀ c bundle, c < 32 → s.regsOk → (∀ n < 4, s.quarter c n = {}) → ∃ t, exec (.marCoreReset c false bundle) s = .next t ∧
      t.getF .MAR_CORE_RESET_COUNT_COUNT 0 = s.plus .MAR_CORE_RESET_COUNT_COUNT 0 1 ∧ bit (t.getF .BLK_ERR_STATUS_CAUSE 6) 1 = true ∧
      (t.core c).run = {} ∧ (t.core c).halt = none ∧ t.jobs = s.jobs ∧ (∀ n < 4, (t.quarter c n).st = .scrubbing) ∧
      ((recent s.now 1000000000 (s.core c).resets).length < 3 → t.getF .MAR_CORE_ONLINE_ONLINE 0 = s.getF .MAR_CORE_ONLINE_ONLINE 0) ∧
      (3 ≤ (recent s.now 1000000000 (s.core c).resets).length → bit (t.getF .MAR_CORE_ONLINE_ONLINE 0) c = false ∧ bit (t.getF .BLK_ERR_STATUS_CAUSE 6) 2 = true)) ∧
    (∀ v : W32, s.Serves → s.regsOk →
      let on := s.getF .MAR_CORE_ONLINE_ONLINE 0 ||| (v.toNat &&& (2 ^ 32 - 1 - s.getF .MAR_CORE_ENABLE_EN 0))
      (v.toNat &&& on = 0 → ∃ t, exec (.marCoreEnableWrite v) s = .next t ∧ Sets s t [((.MAR_CFG_REFUSED_COUNT_COUNT, 0), s.plus .MAR_CFG_REFUSED_COUNT_COUNT 0 1)]) ∧
      (v.toNat &&& on ≠ 0 → ∃ t, exec (.marCoreEnableWrite v) s = .next t ∧
        Sets s t [((.MAR_CORE_ENABLE_EN, 0), v.toNat), ((.MAR_CORE_ONLINE_ONLINE, 0), on)])) ∧
    (∀ (c : Nat) (v : W32), s.Serves → s.precise = true →
      (bit v.toNat 8 = false → ∃ t, exec (.marFaultResume c v) s = .next t ∧ Sets s t [((.MAR_FAULT_RESUME_START_LANE, c), v.toNat % 256)]) ∧
      (bit v.toNat 8 = true → (s.core c).halt = none → ∃ t, exec (.marFaultResume c v) s = .next t ∧
        Sets s t [((.MAR_FAULT_RESUME_START_LANE, c), v.toNat % 256), ((.MAR_CFG_REFUSED_COUNT_COUNT, 0), s.plus .MAR_CFG_REFUSED_COUNT_COUNT 0 1)]) ∧
      (bit v.toNat 8 = true → ∀ f n k r, (s.core c).halt = some f → s.runningQuarter c = some n → s.quarterJob c n = some k → s.runKernel k = some r →
        (f.sock = 0xAE ∨ v.toNat % 256 = 0) →
        exec (.marFaultResume c v) s = .next ((s.setF .MAR_FAULT_RESUME_START_LANE c (v.toNat % 256)).resumeCore c n k r f (v.toNat % 256))))

/-- O50. The code, big-number and stream engines: attempts, verdicts, comparisons, unit resets, yields and enables. (12_hash_farm_and_code_engine
(R304, R305, R306, R308), 13_bignum_and_stream_engines (R315, R317, R319, R322, R329), 15_key_vault_and_custody (R358)) CDE_KEYGEN_ATTEMPT_END counts
the attempt and its replaced seeds and moves a good one to its pairwise test, which creates the key; the 128th bad attempt is an engine fault.
CDE_UNIT_RESET of a unit with fewer than four faults in a second does nothing; else it counts, raises cause 3 and forgets the faults.
CDE_ZEROIZE_COMPLETE frees the zeroized slots. BGN_VALIDATION_END with no failed check starts the arithmetic; BGN_COMPUTATION_END carries the opcode
out (shown for KEY_AGREE) when the two computations agree and is an engine fault when not. STR_YIELD puts a streaming job behind another that waits,
and counts. The three enable writes set the enables and refuse what leaves too few units. HOT_STORE_ECC_ERROR raises cause 0 of KV, and an EPHEMERAL
key lost ends its jobs. -/
def Obligations.EngineUnits : Prop :=
  ∀ (s : State) (q i : Nat) (j : Job), s.stopped = false → s.job? q i = some j → j.stage = .dispatched → j.computed = false →
    (j.pools.contains .CDE = true → j.systemizer = true → j.phase = 0 → ∀ r, ∃ t, exec (.cdeKeygenAttemptEnd q i true r) s = .next t ∧
      t.job? q i = some { j with attempts := j.attempts + 1, phase := 1 } ∧
      t.getF .CDE_KEYGEN_ATTEMPT_COUNT_COUNT 0 = s.plus .CDE_KEYGEN_ATTEMPT_COUNT_COUNT 0 1 ∧
      t.getF .CDE_KEYGEN_REPLACED_SEED_COUNT_COUNT 0 = s.plus .CDE_KEYGEN_REPLACED_SEED_COUNT_COUNT 0 r) ∧
    (j.pools.contains .CDE = true → j.systemizer = true → j.phase = 1 →
      (∀ k, s.AtEngine q i 0x0110 j → s.maskOk j = true → s.CanDraw j 64 → j.newKey = some k →
        let p := kemPair j.kset (b2n (bit j.aux 0)) (s.nextRandom 64)
        exec (.cdePairwiseTest q i true) s =
          .next (((s.afterDraw j 64).keygenRun j).endWithKey j [] k { priv := p.1, pub := p.2, keyLen := p.1.length } p.2)) ∧
      exec (.cdePairwiseTest q i false) s = .next (s.takeFault j 3 5 2 0)) ∧
    (∀ u < 3, ((recent s.now 1000000000 (nget [] s.cde.faults u)).length < 4 → exec (.cdeUnitReset u) s = .next s) ∧
      (4 ≤ (recent s.now 1000000000 (nget [] s.cde.faults u)).length → (∀ k ∈ s.jobs, .CDE ∉ k.pools) → s.regsOk →
        ∃ t, exec (.cdeUnitReset u) s = .next t ∧ t.getF .CDE_UNIT_RESET_COUNT_COUNT 0 = s.plus .CDE_UNIT_RESET_COUNT_COUNT 0 1 ∧
          bit (t.getF .BLK_ERR_STATUS_CAUSE 8) 3 = true ∧ nget [] t.cde.faults u = [] ∧ t.jobs = s.jobs)) ∧
    (∀ n, exec (.cdeZeroizeComplete n) s =
      .next { s with cde := { s.cde with zero := s.cde.zero.filter fun k => !(if n < 2 then [2 * n, 2 * n + 1] else [n + 2]).contains k } }) ∧
    (j.pools.contains .BGN = true → j.phase = 0 → ∀ inp, (((s.runBgn q i inp).job? q i).elim false Job.verdict = false →
        exec (.bgnValidationEnd q i inp) s = .next (s.updJob q i fun k => { k with phase := 2 })) ∧
      (((s.runBgn q i inp).job? q i).elim false Job.verdict = true → exec (.bgnValidationEnd q i inp) s = .next (s.runBgn q i inp))) ∧
    (j.pools.contains .BGN = true → j.phase = 2 → ∀ inp,
      exec (.bgnComputationEnd q i inp false) s = .next (s.takeFault j 4 3 ((j.slot.getD 0) / 4) 0) ∧
      exec (.bgnComputationEnd q i inp true) s = .next (s.runBgn q i inp) ∧
      (s.AtEngine q i 0x0130 j → peerFault j.kset (j.full inp) = 0 → kemScalarOk j.kset (s.jobKey j).priv = true →
        exec (.bgnComputationEnd q i inp true) s = .next (s.deliver j inp [] (dhOut j.kset (s.jobKey j).priv (j.full inp))))) ∧
    (∀ k ∈ s.jobs, (k.q, k.idx) ≠ (q, i) → j.streamingOn ((j.slot.getD 0) / 16) = true → k.streamingOn ((j.slot.getD 0) / 16) = true →
      ∃ t, exec (.strYield q i) s = .next t ∧ t.str.yielded = s.str.yielded.filter (fun x => x != (q, i)) ++ [(q, i)] ∧
        Sets { s with str := t.str } t [((.STR_YIELD_COUNT_COUNT, 0), s.plus .STR_YIELD_COUNT_COUNT 0 1)]) ∧
    (∀ v : W32, s.Serves → s.regsOk →
      let back := fun (en on : Fld) (x : Nat) => s.getF on 0 ||| (x &&& (2 ^ 32 - 1 - s.getF en 0))
      let cde := back .CDE_UNIT_ENABLE_EN .CDE_UNIT_ONLINE_ONLINE (v.toNat % 8)
      let bgn := back .BGN_MUL_ENABLE_EN .BGN_MUL_ONLINE_ONLINE (v.toNat % 16)
      let str := back .STR_PIPE_ENABLE_EN .STR_PIPE_ONLINE_ONLINE (v.toNat % 4)
      ((v.toNat &&& cde) % 4 ≠ 0 → ∃ t, exec (.cdeUnitEnableWrite v) s = .next t ∧ Sets s t [((.CDE_UNIT_ENABLE_EN, 0), v.toNat % 8), ((.CDE_UNIT_ONLINE_ONLINE, 0), cde)]) ∧
      ((v.toNat &&& cde) % 4 = 0 → ∃ t, exec (.cdeUnitEnableWrite v) s = .next t ∧
        Sets s t [((.CDE_CFG_REFUSED_COUNT_COUNT, 0), s.plus .CDE_CFG_REFUSED_COUNT_COUNT 0 1)]) ∧
      (2 ≤ ((List.range 4).filter fun m => bit v.toNat m && bit bgn m).length → ∃ t, exec (.bgnMulEnableWrite v) s = .next t ∧
        Sets s t [((.BGN_MUL_ENABLE_EN, 0), v.toNat % 16), ((.BGN_MUL_ONLINE_ONLINE, 0), bgn)]) ∧
      ((v.toNat &&& str) % 4 ≠ 0 → ∃ t, exec (.strPipeEnableWrite v) s = .next t ∧ Sets s t [((.STR_PIPE_ENABLE_EN, 0), v.toNat % 4), ((.STR_PIPE_ONLINE_ONLINE, 0), str)])) ∧
    (∀ k a b, s.kv.hot.contains k = true → s.regsOk → ∃ t, exec (.hotStoreEccError k a b) s = .next t ∧ bit (t.getF .BLK_ERR_STATUS_CAUSE 12) 0 = true ∧
      (a = false → (s.key k).cls = .ephemeral → j.stamp ≠ 0 → k ∈ j.keys → ∃ x, t.job? q i = some x ∧ x.status = 0x0501 ∧ x.detail = 0x6001))

/-- O51. Each of the 119 unit rows runs a one-move bundle into its unit's trigger, and an ALU row leaves its value on the result port.
(11_marionette_instruction_set (R261, R262, R272), 10_marionette_array (R232, R246)) For a core that runs a kernel: every unit row answers the state
after the bundle of one move, from the source socket into the trigger socket of its unit with the operation field of R272, run until nothing is under
way; one that needs masks of a generator without output, or a session whose call has not ended, waits a cycle instead. For an idle core inside its
code and cycle limit, an S-mode ALU row with a scalar register as source leaves on R, from T in that register and A on the operand port, both as
28-bit words: the sum, difference, logical, shifted, minimum, maximum, product or passed value, or the compare's 1 or 0; the other scalar and vector
registers and operand memory keep their values. -/
def Obligations.UnitRowsRunTheirMove : Prop :=
  ∀ (s : State) (c n : Nat) (j : Job) (k : KernelX) (u src : Nat), s.stopped = false → s.RunsKernel c n j k →
    (∀ f e, UnitRow c u src f e →
      let b := oneMove e.2.1 src e.2.2
      let inCode := decide ((s.core c).run.pc < k.codeLen)
      let masks := s.genStalled c && inCode && (readsMask b || e.2.1 == tMSK)
      let hash := inCode && s.hashWaits c n b
      (masks = false → hash = false → exec e.1 s = .next (s.runBundle c n j k fun x => (x.bundle b).settle)) ∧
      (masks = true → exec e.1 s = .next (s.waitCycle c n j k true false)) ∧
      (masks = false → hash = true → exec e.1 s = .next (s.waitCycle c n j k false true))) ∧
    ((s.core c).run.flights = [] → (s.core c).run.writes = [] → (s.core c).run.streams = [] → (s.core c).run.pc < k.codeLen →
      (s.core c).run.cyc < k.cycleLimit → src < 32 → u < 2 →
      let port := if u = 0 then tALU0 else tALU1
      let T := BitVec.ofNat 28 ((s.core c).run.reg src).v
      let A := BitVec.ofNat 28 ((s.core c).run.port (port - 1)).v
      let f := 0x307
      let one := fun (b : Bool) => if b then (1 : Nat) else 0
      ∀ e ∈ [(Instr.aluAdd c u src f, (T + A).toNat), (.aluSub c u src f, (T - A).toNat), (.aluAnd c u src f, (T &&& A).toNat),
          (.aluOr c u src f, (T ||| A).toNat), (.aluXor c u src f, (T ^^^ A).toNat), (.aluAndn c u src f, (T &&& ~~~A).toNat),
          (.aluShl c u src f, (T <<< (A.toNat % 32)).toNat), (.aluShr c u src f, (T >>> (A.toNat % 32)).toNat),
          (.aluSar c u src f, (T.sshiftRight (A.toNat % 32)).toNat), (.aluMinu c u src f, min T.toNat A.toNat), (.aluMaxu c u src f, max T.toNat A.toNat),
          (.aluMul c u src f, (T * A).toNat), (.aluPass c u src f, T.toNat), (.aluCmpeq c u src f, one (T == A)), (.aluCmpne c u src f, one (T != A)),
          (.aluCmpltu c u src f, one (T.ult A)), (.aluCmplts c u src f, one (T.slt A)), (.aluCmpleu c u src f, one (T.ule A))],
        ∃ t, exec e.1 s = .next t ∧ ((t.core c).run.port (port + 1)).v = e.2 ∧
          ((t.core c).run.port (port + 1)).tag = (((s.core c).run.reg src).tag || ((s.core c).run.port (port - 1)).tag) ∧
          (∀ r < 0x70, (t.core c).run.reg r = (s.core c).run.reg r) ∧ (t.quarter c n).rows = (s.quarter c n).rows ∧ t.regs = s.regs)

/-- O52. Modular operations take any lane value and return the canonical representative; MMUL is the exact product modulo q. (R235) For one member of
an operation in N or D mode, with a selected modulus q from 1 to 2^(lane width), and any operand lanes: MMUL's MUL writes T·A mod q in every lane;
MADD's ADD, SUB, RED and NEG write the representative in [0, q) of T + A, T - A, T and -T (CENT, which R272 defines as centred, is the value less q
from (q + 1)/2 on, in two's complement); CT and GS butterflies write A + zB, A - zB and A + B, z(A - B) modulo q, with z the lane's twiddle, so that
every lane written is below q. REDQ writes each 56-bit lane modulo q, and zeros above. -/
def Obligations.ModularArithmetic : Prop :=
  ∀ (e : Exe) (f : Flight) (q : Nat), opG f.op = 1 →
    let w := laneW (opMode f.op)
    let n := laneN (opMode f.op)
    let op := opFunc3 f.op
    let T := fun i => lane w f.trig.v i
    let P := fun i => lane w (f.ports.getD 0 {}).v i
    let Q := fun i => lane w (f.ports.getD 1 {}).v i
    (opMode f.op ≤ 1 → 0 < q → q ≤ 2 ^ w →
      (op = 0 → e.run.modulus 0 (opSel f.op) = q → ∃ p, (e.mmul f 0).run.writes = e.run.writes ++ [p] ∧ p.dst = f.sock + 1 ∧
        ∀ i < n, lane w p.val.v i = T i * P i % q ∧ lane w p.val.v i < q) ∧
      (op ≤ 4 → e.run.modulus 1 (opSel f.op) = q → ∃ p, (e.madd f 0).run.writes = e.run.writes ++ [p] ∧ p.dst = f.sock + 1 ∧
        ∀ i < n, (lane w p.val.v i : Int) =
            (match op with
              | 0 => ((T i : Int) + (P i : Int)) % (q : Int)
              | 1 => ((T i : Int) - (P i : Int)) % (q : Int)
              | 2 => (T i : Int) % (q : Int)
              | 3 => (-(T i : Int)) % (q : Int)
              | _ => if (q + 1) / 2 ≤ T i % q then ((T i : Int) % (q : Int) - (q : Int)) % ((2 ^ w : Nat) : Int) else (T i : Int) % (q : Int)) ∧
          (op ≤ 3 → lane w p.val.v i < q)) ∧
      (op ≤ 1 → e.run.modulus (modUnit f.sock) (opSel f.op) = q → ∃ p r more, (e.bfy f 0).run.writes = e.run.writes ++ [p, r] ++ more ∧
        p.dst = f.sock + 1 ∧ r.dst = f.sock + 2 ∧ ∀ i < n,
          let z := twiddle q (e.run.entry (bits f.trig.v 1 0) (bits f.trig.v 12 2 + i / 2 ^ bits f.trig.v 16 13)) (bit f.trig.v 17)
          (op = 0 → (lane w p.val.v i : Int) = ((P i : Int) + (z : Int) * (Q i : Int)) % (q : Int) ∧
            (lane w r.val.v i : Int) = ((P i : Int) - (z : Int) * (Q i : Int)) % (q : Int)) ∧
          (op = 1 → (lane w p.val.v i : Int) = ((P i : Int) + (Q i : Int)) % (q : Int) ∧
            (lane w r.val.v i : Int) = ((z : Int) * ((P i : Int) - (Q i : Int))) % (q : Int)) ∧
          lane w p.val.v i < q ∧ lane w r.val.v i < q)) ∧
    (opMode f.op = 2 → op = 5 → 0 < q → q < 2 ^ 28 → e.run.modulus 1 (opSel f.op) = q → ∃ p, (e.madd f 0).run.writes = e.run.writes ++ [p] ∧
      (∀ i < 8, lane 28 p.val.v i = T i % q) ∧ ∀ i < 16, 8 ≤ i → lane 28 p.val.v i = 0)

/-- O53. A call takes a free core of its kind, its end is checked, a failed one is repeated once elsewhere, and masks may time out.
(12_hash_farm_and_code_engine (R288, R291, R292, R293, R295, R298, R299)) With an empty session store: HASH_CALL_START, and HASH_CHAIN_CALL of 1 to 16
steps, by a session the job may use with a core for the call (masked only where the job's calls are), puts the session's call in flight on that core,
whole when the core is of its kind; a chain of any other length fails the session. HASH_CALL_END of the only session: a passed call is counted for the
kind of core and leaves its session without a call, finished if it was its last; a first failed check is counted, also as a retry; a second, and an
uncorrectable session, fails the session. MASKED_CALL_WAIT_TIMEOUT ends the session's job as ENTROPY_UNAVAILABLE and counts. HSH_CORE_ENABLE_WRITE
sets the enables, or, leaving a kind without a core, is refused and counted. -/
def Obligations.FarmCalls : Prop :=
  ∀ (s : State) (n q i c : Nat) (j : Job), s.stopped = false → s.job? q i = some j →
    (∀ (sha2 masked fin : Bool) (b start pos steps : Nat) (value adrs : List Byte), s.hsh.sess = [] → s.maySession n j = true →
      (∀ h : HCall, h = { sha2 := sha2, masked := masked && j.masksCalls, fin := fin, blocks := max 1 b } → s.coreFor h = some c → coreKind c = h.kind →
        ∃ t, exec (.hashCallStart n q i sha2 masked fin b) s = .next t ∧ t.session n = { st := 1, owner := some (q, i), flight := some (c, h) } ∧
          t = { s with hsh := t.hsh }) ∧
      (∀ h : HCall, h = { sha2 := true, masked := masked && j.masksCalls, blocks := steps, steps := steps, pos := start + pos, data := value, adrs := adrs } →
        1 ≤ steps → steps ≤ 16 → s.coreFor h = some c → coreKind c = h.kind →
        ∃ t, exec (.hashChainCall n q i masked start pos steps value adrs) s = .next t ∧
          t.session n = { st := 1, owner := some (q, i), flight := some (c, h) } ∧ t = { s with hsh := t.hsh }) ∧
      (steps = 0 ∨ 16 < steps → exec (.hashChainCall n q i masked start pos steps value adrs) s = .next (s.failSession n 4 0))) ∧
    (∀ (x : FSess) (h : HCall), s.hsh.sess = [(n, x)] → x.flight = some (c, h) → x.ready = none → x.closing = false →
      (∃ t, exec (.hashCallEnd c true true) s = .next t ∧
        t.session n = { x with flight := none, st := if h.fin = true then 2 else x.st, value := if h.steps = 0 then x.value else h.chainValue } ∧
        t.getF .HSH_CALL_COUNT_COUNT (coreKind c) = s.plus .HSH_CALL_COUNT_COUNT (coreKind c) 1) ∧
      (h.retried = false → ∃ t, exec (.hashCallEnd c false true) s = .next t ∧
        t.getF .HSH_CALL_RETRY_COUNT_COUNT 0 = s.plus .HSH_CALL_RETRY_COUNT_COUNT 0 1 ∧
        t.getF .HSH_CHECK_ERROR_COUNT_COUNT 0 = s.plus .HSH_CHECK_ERROR_COUNT_COUNT 0 1) ∧
      (h.retried = true → exec (.hashCallEnd c false true) s = .next ((s.coreCheckFailed c).failSession n 1 c).farm) ∧
      exec (.hashCallEnd c true false) s = .next (s.failSession n 2 c).farm) ∧
    (∀ h : HCall, (s.session n).ready = some h → h.stalled.isSome = true → (s.session n).owner = some (q, i) →
      ∃ t x, exec (.maskedCallWaitTimeout n) s = .next t ∧ t.session n = {} ∧ t.job? q i = some x ∧ x.status = 0x0301 ∧
        x.detail = s.entropyDetail j ∧ x.stage = .ended ∧ x.computed = true ∧ x.pools = [] ∧
        t.getF .ENT_TIMEOUT_COUNT_COUNT 0 = s.plus .ENT_TIMEOUT_COUNT_COUNT 0 1) ∧
    (∀ v : W32, s.Serves → s.regsOk → s.hsh.sess = [] →
      let on := s.getF .HSH_CORE_ONLINE_ONLINE 0 ||| (v.toNat &&& (2 ^ 32 - 1 - s.getF .HSH_CORE_ENABLE_EN 0))
      let kept := ∀ r ∈ [(15, 0), (23, 16), (29, 24), (31, 30)], bits (v.toNat &&& on) r.1 r.2 ≠ 0
      (kept → ∃ t, exec (.hshCoreEnableWrite v) s = .next t ∧ Sets s t [((.HSH_CORE_ENABLE_EN, 0), v.toNat), ((.HSH_CORE_ONLINE_ONLINE, 0), on)]) ∧
      (¬kept → ∃ t, exec (.hshCoreEnableWrite v) s = .next t ∧ Sets s t [((.HSH_CFG_REFUSED_COUNT_COUNT, 0), s.plus .HSH_CFG_REFUSED_COUNT_COUNT 0 1)]))

/-- O54. Noise cells, the conditioner, the instances and the strings: tests, reseeds, stalls, degradation, restart and software reads. (14_entropy
(R333, R334, R335, R337, R338, R339, R340, R342, R343, R344, R345)) A failing cell out of service is only recorded; one in service with more than four
passing is isolated, raises CELL_FAIL and leaves STATE; with exactly four, STATE turns DEGRADED. A passed retest puts a cell back.
ENT_CELL_ENABLE_WRITE leaving fewer than four cells is refused and counted. A conditioner output is one more, and counted. A reseed of D6 takes one,
its count 0, its stall gone. At 2^24 calls an instance stalls and counts. A string's seed draws from its instance; a request and a deadline mark and
stall a mask generator. Tested start-up sets READY, STATE RUN, and seeds every string and KEK_E. An expired wait ends its job as ENTROPY_UNAVAILABLE.
The quiet time ends in a restart, or, at the limit, LATCHED; a restart ends in RUN; a clear starts one. ENT_SW_DATA gives eight drawn bytes with CODE
0, and zeros with NOT_READY before READY. -/
def Obligations.EntropySources : Prop :=
  ∀ (s : State), s.regsOk → s.stopped = false →
    (∀ c k, c < 8 → k < 16 →
      (bit (s.getF .ENT_STATUS_CELL_OK 0) c = false → ∃ t, exec (.cellHealthFail c k) s = .next t ∧
        Sets s t [((.ENT_CELL_FAIL_LAST_TEST, c), k), ((.ENT_CELL_FAIL_COUNT, c), s.plus .ENT_CELL_FAIL_COUNT c 1)]) ∧
      (bit (s.getF .ENT_STATUS_CELL_OK 0) c = true → 4 < s.cellsOk → (s.getF .ENT_STATUS_STATE 0 = 2) → ∃ t, exec (.cellHealthFail c k) s = .next t ∧
        bit (t.getF .ENT_STATUS_CELL_OK 0) c = false ∧ t.getF .ENT_STATUS_STATE 0 = 2 ∧ c ∈ t.ent.isolated ∧ Raised s t 11 1) ∧
      (bit (s.getF .ENT_STATUS_CELL_OK 0) c = true → s.cellsOk = 4 → s.getF .ENT_STATUS_STATE 0 = 2 → ∃ t, exec (.cellHealthFail c k) s = .next t ∧
        bit (t.getF .ENT_STATUS_CELL_OK 0) c = false ∧ t.getF .ENT_STATUS_STATE 0 = 3 ∧ t.ent.quietSince = some s.now ∧
        bit (t.getF .BLK_ERR_STATUS_CAUSE 11) 0 = true ∧ bit (t.getF .BLK_ERR_STATUS_CAUSE 11) 1 = true) ∧
      (c ∈ s.ent.testing → ∃ t, exec (.cellRetestComplete c 0) s = .next t ∧ bit (t.getF .ENT_STATUS_CELL_OK 0) c = true ∧ c ∉ t.ent.testing)) ∧
    (∀ v : W32, s.Serves → (((List.range 8).filter fun c => bit v.toNat c).length < 4 → ∃ t, exec (.entCellEnableWrite v) s = .next t ∧
        Sets s t [((.ENT_CFG_REFUSED_COUNT_COUNT, 0), s.plus .ENT_CFG_REFUSED_COUNT_COUNT 0 1)]) ∧
      (4 ≤ ((List.range 8).filter fun c => bit v.toNat c).length → ∃ t, exec (.entCellEnableWrite v) s = .next t ∧
        t.getF .ENT_CELL_ENABLE_EN 0 = v.toNat % 256 ∧ ∀ c < 8, bit v.toNat c = false → bit (s.getF .ENT_CELL_ENABLE_EN 0) c = true →
          bit (t.getF .ENT_STATUS_CELL_OK 0) c = false)) ∧
    (s.degraded = false → s.getF .ENT_STATUS_STATE 0 ≠ 5 →
      (∃ t, exec .conditionerOutput s = .next t ∧ t.ent.outputs = s.ent.outputs + 1 ∧ t.getF .ENT_COND_COUNT_COUNT 0 = s.plus .ENT_COND_COUNT_COUNT 0 1) ∧
      (s.getF .ENT_STATUS_READY 0 ≠ 0 → 0 < s.ent.outputs → ∃ t, exec (.drbgReseed 6) s = .next t ∧ t.ent.outputs = s.ent.outputs - 1 ∧
        t.getF .ENT_DRBG_STATUS_CALLS 6 = 0 ∧ t.getF .ENT_DRBG_STATUS_STALLED 6 = 0) ∧
      (s.Serves → s.drbgOk 7 1 = true → ∃ t, exec (.entSwDataRead true) s = .next t ∧ t.getF .ENT_SW_STATUS_CODE 0 = 0 ∧
        t.sent = s.sent ++ [.completion (s.nextRandom 8)] ∧ t.free = s.free + 1)) ∧
    (s.Serves → s.getF .ENT_STATUS_READY 0 = 0 → ∃ t, exec (.entSwDataRead true) s = .next t ∧
      t = { s with regs := t.regs, sent := s.sent ++ [.completion (zeros 8)] } ∧ t.getF .ENT_SW_STATUS_CODE 0 = 0x11) ∧
    (∀ d, s.getF .ENT_DRBG_STATUS_CALLS d = 2 ^ 24 → s.getF .ENT_DRBG_STATUS_STALLED d = 0 → ∃ t, exec (.drbgStall d) s = .next t ∧
      Sets s t [((.ENT_DRBG_STATUS_STALLED, d), 1), ((.ENT_STALL_COUNT_COUNT, 0), s.plus .ENT_STALL_COUNT_COUNT 0 1)]) ∧
    (∀ k < 42, let d := if k < 32 then 4 else 5
      (s.drbgOk d 1 = true → ∃ t, exec (.stringSeedDelivery k) s = .next t ∧ nget {} t.ent.gens k = { seed := s.nextRandom 32, since := s.now } ∧
        t.getF .ENT_DRBG_STATUS_CALLS d = s.getF .ENT_DRBG_STATUS_CALLS d + 1) ∧
      (∃ t, exec (.maskGenReseedRequest k) s = .next t ∧ nget {} t.ent.gens k = { nget {} s.ent.gens k with requested := true } ∧ t.regs = s.regs) ∧
      ((nget {} s.ent.gens k).requested = true → (nget {} s.ent.gens k).stalled = false → ∃ t, exec (.maskGenDeadline k) s = .next t ∧
        nget {} t.ent.gens k = { nget {} s.ent.gens k with stalled := true } ∧ t.getF .ENT_STALL_COUNT_COUNT 0 = s.plus .ENT_STALL_COUNT_COUNT 0 1)) ∧
    (s.getF .ENT_STATUS_STATE 0 = 1 → 4 ≤ ((List.range 8).filter fun c => bit (s.getF .ENT_CELL_ENABLE_EN 0) c).length →
      ∃ t, exec (.entStartupTested []) s = .next t ∧ t.getF .ENT_STATUS_READY 0 = 1 ∧ t.getF .ENT_STATUS_STATE 0 = 2 ∧
        (∀ k < 46, (nget {} t.ent.gens k).seed.length = 32) ∧ t.kv.kekE.length = 32 ∧ t.kv.bbk.isSome = true) ∧
    (∀ q i j, s.job? q i = some j → j.stage = .dispatched → j.computed = false → j.entSince.isSome = true →
      ∃ t x, exec (.entropyWaitTimeout q i) s = .next t ∧ t.job? q i = some x ∧ x.status = 0x0301 ∧ x.detail = s.entropyDetail j ∧ x.stage = .ended ∧
        x.pools = [] ∧ t.getF .ENT_TIMEOUT_COUNT_COUNT 0 = s.plus .ENT_TIMEOUT_COUNT_COUNT 0 1) ∧
    (s.getF .ENT_STATUS_STATE 0 = 3 → s.ent.quietSince ≠ none →
      (s.recoveryLimited 11 = false → ∃ t, exec .entQuietTimeExpiry s = .next t ∧ Sets { s with ent := { s.ent with quietSince := none } } t [((.ENT_STATUS_STATE, 0), 4)]) ∧
      (s.recoveryLimited 11 = true → ∃ t, exec .entQuietTimeExpiry s = .next t ∧ t.getF .ENT_STATUS_STATE 0 = 5 ∧ Raised s t 11 3)) ∧
    (s.getF .ENT_STATUS_STATE 0 = 4 → 4 ≤ ((List.range 8).filter fun c => bit (s.getF .ENT_CELL_ENABLE_EN 0) c).length → s.getF .ENT_STATUS_READY 0 ≠ 0 →
      ∃ t, exec (.entRestartComplete []) s = .next t ∧ t.getF .ENT_STATUS_STATE 0 = 2 ∧ ∀ d < 8, t.getF .ENT_DRBG_STATUS_STALLED d = 0) ∧
    (∀ v : W32, s.Serves → (bit v.toNat 0 = true ∨ bit v.toNat 3 = true) → s.getF .ENT_STATUS_STATE 0 = 3 →
      ∃ t, exec (.entErrClearRestart v) s = .next t ∧ t.getF .ENT_STATUS_STATE 0 = 4 ∧ t.ent.quietSince = none)

/-- O55. The sealed store's control: groups close, requests repeat, waits end, SEAL_CTRL opens, forces or formats, ranges and streams change.
(16_quire_and_sealed_store (R373, R379, R383, R384, R389, R390, R391, R392, R401)) A group that may close becomes the group being persisted, with the
next COMMIT for the one after. SEAL_RETRY_TIMER asks the request that waited longest again and counts. The storage time limit ends the job that waits
and was accepted first as STORAGE_TIMEOUT, counted. OPEN in PRODUCTION from CLOSED or REFUSED asks for block 0, STATE OPENING; FORCE_OPEN with CONFIRM
after a mismatch opens, STATE OPENING or further; FORMAT with CONFIRM draws a STORE_ID, STATE FORMATTING; each write that no rule accepts changes only
the count of refusals, as does a range that fails its checks; a range that passes takes BASE and SPAN (a low half held for the register is dropped).
An empty ledger loaded sets READY. A release of a closed stream frees it; one of any other stream is counted. An event before READY joins the journal
queue. -/
def Obligations.StoreControl : Prop :=
  ∀ s : State, s.regsOk → s.stopped = false →
    (s.groupMayClose = true → ∃ t, exec .commitGroupClose s = .next t ∧ t = { s with store := t.store } ∧ t.store.openG = {} ∧
      t.store.commit = s.store.commit + 1 ∧ ∃ g, t.store.persG = some g ∧ g.commit = s.store.commit ∧ g.blocks = s.store.openG.dirty) ∧
    (s.groupMayClose = false → exec .commitGroupClose s = .next s) ∧
    (∀ r a l, s.store.retryQ = (r, a) :: l → ∃ t, exec .sealRetryTimer s = .next t ∧ t.store = { s.store with retryQ := l, scQ := s.store.scQ ++ [r] } ∧
      t.getF .SEAL_REPOST_COUNT_COUNT 0 = s.plus .SEAL_REPOST_COUNT_COUNT 0 1) ∧
    (∀ q i j, s.job? q i = some j → j.live = true → j.waitSince.isSome = true → (∀ k ∈ s.jobs, k.live = true → k.waitSince.isSome = true → j.stamp ≤ k.stamp) →
      ∃ t x, exec (.storageTimeLimit q i) s = .next t ∧ t.job? q i = some x ∧ x.status = stStorageTimeout ∧ x.stage = .ended ∧ x.waitSince = none ∧
        t.getF .SEAL_TIMEOUT_COUNT_COUNT 0 = s.plus .SEAL_TIMEOUT_COUNT_COUNT 0 1 ∧ bit (t.getF .BLK_ERR_STATUS_CAUSE 14) 2 = true) ∧
    (∀ v : W32, s.Serves → s.getF .LCO_STATE_STATE 0 = 2 →
      let st := s.getF .SEAL_STATUS_STATE 0
      (v.toNat % 8 = 1 → (st = 0 ∨ st = 3) → ∃ t, exec (.storeOpen v) s = .next t ∧
        Sets { s with store := t.store } t [((.SEAL_STATUS_STATE, 0), 1)] ∧ t.store.scQ = s.store.scQ ++ [{ op := .fetch, block := 0, since := s.now }]) ∧
      (v.toNat % 8 = 2 → bits v.toNat 31 16 = 0x5EA1 → st = 3 → s.getF .SEAL_STATUS_OPEN_RESULT 0 = 3 → (s.thermoNext otpEpoch 128).isSome = true →
        ∀ img, exec (.forceOpen v img) s = .next (s.startForce.openAdvance img) ∧ s.startForce.store.force = true ∧ s.startForce.getF .SEAL_STATUS_STATE 0 = 1) ∧
      (v.toNat % 8 = 4 → bits v.toNat 31 16 = 0x5EA1 → (st = 0 ∨ st = 3) → (s.thermoNext otpEpoch 128).isSome = true →
        ∃ t, exec (.format v) s = .next t ∧ t.store.storeId = s.nextRandom 16 ∧ t.store.fmt = 1 ∧ t.getF .SEAL_STATUS_STATE 0 = 4) ∧
      (s.sealAct v.toNat = .refused → ∀ c img, c ∈ [Instr.storeOpen v, .forceOpen v img, .format v, .sealCtrlRefused v] →
        ∃ t, exec c s = .next t ∧ Sets s t [((.SEAL_CFG_REFUSED_COUNT_COUNT, 0), s.plus .SEAL_CFG_REFUSED_COUNT_COUNT 0 1)])) ∧
    (∀ r (v : W64), s.Serves →
      (s.rangeOk r (bits v.toNat 30 0) (bits v.toNat 62 32) = false → ∃ t, exec (.sealRangeWrite r v) s = .next t ∧
        Sets (s.setHeld (rangeReg r).1 (rangeReg r).2 0) t [((.SEAL_CFG_REFUSED_COUNT_COUNT, 0), s.plus .SEAL_CFG_REFUSED_COUNT_COUNT 0 1)]) ∧
      (s.rangeOk r (bits v.toNat 30 0) (bits v.toNat 62 32) = true → ∃ t, exec (.sealRangeWrite r v) s = .next t ∧
        t.getF (rangeFields r).1 (rangeFields r).2.2 = bits v.toNat 30 0 ∧ t.getF (rangeFields r).2.1 (rangeFields r).2.2 = bits v.toNat 62 32)) ∧
    (s.getF .KV_STATUS_OPEN 0 ≠ 0 → s.getF .QRE_STATUS_READY 0 = 0 → s.qre.journal = [] → s.qre.lost = 0 → s.tmp.buf = [] →
      ∃ t, exec (.qreStreamStateLoaded {}) s = .next t ∧ t.getF .QRE_STATUS_READY 0 = 1 ∧ t.qre.streams = [] ∧ t.kv = s.kv) ∧
    (∀ v : W32, s.Serves → bit v.toNat 31 = true →
      ((v.toNat % 256 = 0 ∨ s.getF .QRE_STREAM_STATE_STATE (v.toNat % 256) ≠ 2) → ∃ t, exec (.streamRelease v) s = .next t ∧
        Sets s t [((.QRE_CFG_REFUSED_COUNT_COUNT, 0), s.plus .QRE_CFG_REFUSED_COUNT_COUNT 0 1)]) ∧
      (v.toNat % 256 ≠ 0 → s.getF .QRE_STREAM_STATE_STATE (v.toNat % 256) = 2 → ∃ t, exec (.streamRelease v) s = .next t ∧
        t.getF .QRE_STREAM_STATE_STATE (v.toNat % 256) = 0 ∧ ∀ q, (t.queue q).quireHeld = false)) ∧
    (s.getF .QRE_STATUS_READY 0 = 0 → s.qre.journal.length < 1024 → ∀ ev d, ∃ t, exec (.journalEvent ev d) s = .next t ∧
      t.qre = { s.qre with journal := s.qre.journal ++ [{ event := ev, time := s.timeNow, data := d }] } ∧
      Sets { s with qre := t.qre } t [((.QRE_JOURNAL_QUEUED_COUNT, 0), s.qre.journal.length + 1)])

/-- O56. Trusted time: edges, exchanges, steps, slews, grades and reads. (17_trusted_time (R408, R409, R410, R411, R412, R413, R414, R415, R416, R417,
R420, R421)) With a time, a PPS edge of source 1 and a PTM exchange of source 2 are measurements of their offset; other sources ignore edges, and an
exchange then only records T1. A measurement above the outlier bound in LOCKED is dropped the first two times. A PTM timer sends a request. A valid
reference measurement sets f within the bound. A completed slew has made its whole correction. TIM_SLEW_RATE takes its value. TIME_SET forwards steps
to the time, grade STEPPED; backwards it slews; a first time is loaded, never below the floor, grade FREE; NANOSECONDS above 999,999,999 are ignored.
A lost source turns LOCKED or STEPPED to HOLDOVER, is counted and raises cause 0. An expired holdover without reference turns FREE. A read of TIM_NOW
latches one time. PPS_OUT pulses once a second. AO_TRIM is stored outside the keeper. -/
def Obligations.TimeControl : Prop :=
  ∀ s : State, s.Inv → s.stopped = false →
    (s.getF .TIM_CTRL_SOURCE 0 = 1 → s.getF .TIM_STATUS_HAS_TIME 0 ≠ 0 → s.getF .TIM_TOD_NEXT_VALID 0 ≠ 0 →
      exec .ppsEdge s = .next ((({ s with tim := { s.tim with lastPps := some (s.getF .TIM_TOD_NEXT_SECONDS 0) } }).setF .TIM_TOD_NEXT_VALID 0 0).measure
        ((s.getF .TIM_TOD_NEXT_SECONDS 0 : Int) * 1000000000 - ((s.timNanos : Int) - toSigned 32 (s.getF .TIM_PPS_DELAY_NS 0))) 1)) ∧
    (s.getF .TIM_CTRL_SOURCE 0 ≠ 1 → exec .ppsEdge s = .next s) ∧
    (∀ m mid t1, t1 < 2 ^ 64 →
      (s.getF .TIM_CTRL_SOURCE 0 = 2 → s.getF .TIM_STATUS_HAS_TIME 0 ≠ 0 → exec (.ptmExchangeComplete m mid t1) s =
        .next ((s.setF .PCI_PTM_LAST_T1_NS 0 t1).measure ((m : Int) + toSigned 64 (s.getF .TIM_PTM_OFFSET_NS 0) - (mid : Int)) 0)) ∧
      (s.getF .TIM_CTRL_SOURCE 0 ≠ 2 → ∃ t, exec (.ptmExchangeComplete m mid t1) s = .next t ∧ Sets s t [((.PCI_PTM_LAST_T1_NS, 0), t1)])) ∧
    (∀ theta cause, s.getF .TIM_STATUS_GRADE 0 = 0 → 100000000 < theta.natAbs → s.tim.outliers < 2 →
      s.measure theta cause = { s with tim := { s.tim with outliers := s.tim.outliers + 1 } }) ∧
    (s.getF .TIM_CTRL_SOURCE 0 = 2 → s.mayIssue = true → exec .ptmIntervalTimer s = .next (s.say .ptmRequest)) ∧
    (∀ f : Int, s.getF .TIM_CTRL_REF10M_EN 0 ≠ 0 → s.getF .TIM_STATUS_REF10M_OK 0 ≠ 0 → -s.freqBound ≤ f → f ≤ s.freqBound →
      ∃ t, exec (.ref10mMeasurement f) s = .next t ∧ toSigned 32 (t.getF .TIM_FREQ_CORR_F 0) = f ∧ t.getF .TIM_STATUS_POLICY_LIMITED 0 = 0 ∧
        ∀ g k, (g, k) ∉ [(Fld.TIM_FREQ_CORR_F, 0), (.TIM_STATUS_POLICY_LIMITED, 0)] → t.getF g k = s.getF g k) ∧
    (∀ b, ∃ t, exec (.ref10mValidityChange b) s = .next t ∧ Sets s t [((.TIM_STATUS_REF10M_OK, 0), b2n b)]) ∧
    (s.tim.slew ≠ 0 → ∃ t, exec .slewComplete s = .next t ∧ t.tim.slew = 0 ∧ t.getF .TIM_STATUS_SLEWING 0 = 0) ∧
    (∀ v : W32, s.Serves → ∃ t, exec (.timSlewRateWrite v) s = .next t ∧ Sets s t [((.TIM_SLEW_RATE_PPM, 0), v.toNat % 2 ^ Fld.TIM_SLEW_RATE_PPM.width)]) ∧
    (∀ sec < 2 ^ 48, s.Serves → let ns := s.getF .TIM_SET_NS_NS 0
      (999999999 < ns → exec (.timeSet sec) s = .next (s.setHeld .TIM_SET_SEC 0 0)) ∧
      (ns ≤ 999999999 → s.getF .TIM_STATUS_HAS_TIME 0 ≠ 0 → s.timNanos < sec * 1000000000 + ns → ∃ t, exec (.timeSet sec) s = .next t ∧
        t.tim.sec = sec ∧ t.tim.ns = ns ∧ t.tim.slew = 0 ∧ t.getF .TIM_STATUS_GRADE 0 = 2 ∧ t.getF .TIM_STEP_COUNT_COUNT 0 = s.plus .TIM_STEP_COUNT_COUNT 0 1) ∧
      (ns ≤ 999999999 → s.getF .TIM_STATUS_HAS_TIME 0 ≠ 0 → sec * 1000000000 + ns ≤ s.timNanos → ∃ t, exec (.timeSet sec) s = .next t ∧
        t.tim.sec = s.tim.sec ∧ t.tim.ns = s.tim.ns ∧ t.tim.slew = ((sec * 1000000000 + ns : Nat) - (s.timNanos : Int)) * 4294967296) ∧
      (ns ≤ 999999999 → s.getF .TIM_STATUS_HAS_TIME 0 = 0 → s.tim.floor = none → ∃ t, exec (.timeSet sec) s = .next t ∧
        t.tim.sec = sec ∧ t.tim.ns = ns ∧ t.getF .TIM_STATUS_HAS_TIME 0 = 1 ∧ t.getF .TIM_STATUS_GRADE 0 = 3)) ∧
    ((s.getF .TIM_CTRL_SOURCE 0 = 1 ∨ s.getF .TIM_CTRL_SOURCE 0 = 2) → ∃ t, exec .timeSourceLoss s = .next t ∧ Raised s t 15 0 ∧
      t.getF .TIM_STATUS_GRADE 0 = (if s.getF .TIM_STATUS_GRADE 0 = 0 ∨ s.getF .TIM_STATUS_GRADE 0 = 2 then 1 else s.getF .TIM_STATUS_GRADE 0) ∧
      t.getF .TIM_SOURCE_LOSS_COUNT_COUNT 0 = s.plus .TIM_SOURCE_LOSS_COUNT_COUNT 0 1 ∧ t.getF .TIM_STATUS_LOCK_RUN 0 = 0) ∧
    (s.getF .TIM_STATUS_GRADE 0 = 1 → s.getF .TIM_STATUS_REF10M_OK 0 = 0 → ∃ t, exec .holdoverLimitExpiry s = .next t ∧ Sets s t [((.TIM_STATUS_GRADE, 0), 3)]) ∧
    (s.Serves → ∃ t, exec .timNowRead s = .next t ∧ SetsSaying s t [((.TIM_NOW_NS_NS, 0), s.tim.ns), ((.TIM_NOW_SUBNS_SUBNS, 0), s.tim.sub), ((.TIM_NOW_SEC_SECONDS, 0), s.tim.sec)]
      [.completion (leBytes 4 s.tim.ns)]) ∧
    (s.getF .TIM_CTRL_PPS_OUT_EN 0 ≠ 0 → s.tim.onKeeper = false → (s.tim.ppsOutSec = none → exec .ppsOutPulse s =
      .next { s with tim := { s.tim with ppsOutSec := some s.tim.sec }, sent := s.sent ++ [.ppsPulse s.tim.sec] }) ∧
      (s.tim.ppsOutSec = some s.tim.sec → exec .ppsOutPulse s = .next s)) ∧
    (∀ p : Int, s.tim.onKeeper = false → -2 ^ 31 ≤ p → p < 2 ^ 31 → ∃ t, exec (.aoTrimMeasurement p) s = .next t ∧
      toSigned 32 (t.getF .TIM_AO_TRIM_PPB 0) = p ∧ ∀ f k, (f, k) ≠ (.TIM_AO_TRIM_PPB, 0) → t.getF f k = s.getF f k)

/-- O57. Descriptors are posted, moved, ended and cancelled; local memory trains, fails, retrains and recovers. (19_dma_and_local_memory (R446, R447,
R449, R450, R451, R452, R455, R456, R457), 18_sequencer_and_boot (R440)) A descriptor posted with OWN to an idle channel stands at its tail, which
moves on; a place still owned by the engine keeps its descriptor. A burst of the only ready channel, staging to staging, copies its bytes and counts
them, and finishes the descriptor with its last. A finished descriptor loses OWN with its CODE and BAD, and the head moves on; a failed one is
counted. An unstarted descriptor of a job that does not run ends CANCELLED, counted. An LMC line failing its MAC is counted, raises cause 1 and starts
the quiet time; one that passes again changes nothing. A retrain raises its cause and sets RETRAIN; its end sets READY at 8,533 MT/s and counts the
recovery, or, at the limit, 3,200 and LIMIT. The quiet time's end clears the causes but LIMIT. Training sets the size, READY and a drawn key, or fails
boot with SELFTEST. -/
def Obligations.DmaAndLocalMemory : Prop :=
  ∀ (s : State) (c : Nat), c < 128 → s.regsOk → s.stopped = false →
    let h := s.getF .DMA_CHAN_STATUS_HEAD c
    let tail := (s.dchan c).tail
    (∀ a : DescArg, (s.desc c tail).own = true → exec (.descriptorPost c a) s = .next s) ∧
    (∀ a : DescArg, a.own = true → h = tail → tail < 256 → (s.desc c tail).own = false → ∃ t, exec (.descriptorPost c a) s = .next t ∧
      t.desc c tail = ({ src := a.src.toNat, dst := a.dst.toNat, len := a.len.toNat, line := a.line % 128, burst := a.burst % 8, srcSpace := a.srcSpace % 4, dstSpace := a.dstSpace % 4, slice := a.slice % 4096, own := true, job := a.job } : Desc) ∧
      (t.dchan c).tail = (tail + 1) % 256 ∧ t = { s with dma := t.dma }) ∧
    (∀ d : Desc, 96 ≤ c → s.burstReady c = some d → (∀ k, k ≠ c → s.burstReady k = none) → s.dma.asked = [] → s.descFault d = none →
      d.srcSpace = 2 → d.dstSpace = 2 → ∀ data, ∃ t, exec (.dmaBurst c data) s = .next t ∧ t.desc c h = { d with bytes := d.bytes + d.chunk } ∧
        (t.dchan c).fin = (if d.bytes + d.chunk = d.len then some (0, 0) else none) ∧ t.getF .DMA_BYTES_COUNT 0 = s.plus .DMA_BYTES_COUNT 0 d.chunk ∧
        (∀ k < d.chunk, nget 0 t.dma.staging (d.dst + d.bytes + k) = nget 0 s.dma.staging (d.src + d.bytes + k) % 256) ∧ t.sent = s.sent) ∧
    (∀ d code cause, s.headDesc c = some d → (s.dchan c).fin = some (code, cause) → d.job = none → (h + 1) % 256 = tail →
      ∃ t, exec (.dmaDescriptorEnd c) s = .next t ∧ t.desc c h = { d with own := false, bad := code != 0, code := code, cause := if code = 1 then cause else 0 } ∧
        t.getF .DMA_CHAN_STATUS_HEAD c = tail ∧ (t.dchan c).fin = none ∧
        t.getF .DMA_BAD_DESC_COUNT_COUNT 0 = (if code = 0 then s.getF .DMA_BAD_DESC_COUNT_COUNT 0 else s.plus .DMA_BAD_DESC_COUNT_COUNT 0 1)) ∧
    (∀ q i (j : Job), s.job? q i = some j → j.stage = .dispatched → exec (.dmaCancel q i) s = .next s) ∧
    (∀ q i n (d : Desc), s.job? q i = none → s.dma.desc = [(n, d)] → d.own = true → d.job = some (q, i) → d.bytes = 0 → ∃ t, exec (.dmaCancel q i) s = .next t ∧
      t.desc (n / 256) (n % 256) = { d with own := false, bad := true, code := 5 } ∧
      t.getF .DMA_CANCEL_COUNT_COUNT 0 = s.plus .DMA_CANCEL_COUNT_COUNT 0 1 ∧ t.getF .DMA_BAD_DESC_COUNT_COUNT 0 = s.plus .DMA_BAD_DESC_COUNT_COUNT 0 1) ∧
    (∀ w ch a, exec (.lmcMacFailure w ch a true) s = .next s) ∧
    (s.getF .LMC_STATUS_STATE 0 = 1 → ∀ q i ch a, s.job? q i = none → ∃ t, exec (.lmcMacFailure (.other q i) ch a false) s = .next t ∧
      t.getF .LMC_MAC_FAIL_COUNT_COUNT 0 = s.plus .LMC_MAC_FAIL_COUNT_COUNT 0 1 ∧ Raised s t 17 1 ∧ t.lmc = { s.lmc with quietSince := some s.now }) ∧
    (∀ cause ch a, s.getF .LMC_STATUS_STATE 0 = 1 → bit (s.getF .BLK_ERR_STATUS_CAUSE 17) 3 = false → (cause = 0 ∨ cause = 2) → s.dma.desc = [] →
      ∃ t, exec (.lmcRetrain cause ch a []) s = .next t ∧ t.getF .LMC_STATUS_STATE 0 = 2 ∧ Raised s t 17 cause ∧ t.jobs = s.jobs) ∧
    (s.getF .LMC_STATUS_STATE 0 = 2 →
      (s.recoveryLimited 17 = false → ∃ t, exec .lmcRetrainComplete s = .next t ∧ t.getF .LMC_STATUS_STATE 0 = 1 ∧ t.getF .LMC_STATUS_RATE 0 = 8533 ∧
        t.getF .BLK_RECOVERY_COUNT_COUNT 17 = (s.getF .BLK_RECOVERY_COUNT_COUNT 17 + 1) % 2 ^ 32 ∧
        t.getF .BLK_ERR_STATUS_CAUSE 17 = s.getF .BLK_ERR_STATUS_CAUSE 17) ∧
      (s.recoveryLimited 17 = true → ∃ t, exec .lmcRetrainComplete s = .next t ∧ t.getF .LMC_STATUS_STATE 0 = 1 ∧ t.getF .LMC_STATUS_RATE 0 = 3200 ∧
        Raised s t 17 3)) ∧
    (s.lmc.quietSince ≠ none → s.getF .LMC_STATUS_STATE 0 = 1 → ∃ t, exec .lmcQuietTimeExpiry s = .next t ∧
      Sets { s with lmc := { s.lmc with quietSince := none } } t
        [((.BLK_ERR_STATUS_CAUSE, 17), if bit (s.getF .BLK_ERR_STATUS_CAUSE 17) 3 = true then 8 else 0)]) ∧
    (s.getF .LMC_STATUS_STATE 0 = 0 → ∀ r : Bool,
      (∀ g, g = 8 ∨ g = 16 → ∃ t, exec (.lmcTrainingComplete g r true) s = .next t ∧ t.lmc = { key := s.nextRandom 32 } ∧
        t.getF .LMC_STATUS_STATE 0 = 1 ∧ t.getF .LMC_STATUS_RATE 0 = 8533 ∧ t.getF .LMC_CONFIG_GIB 0 = g ∧ t.getF .LMC_CONFIG_RANKS2 0 = b2n r) ∧
      (∀ g, ∃ t, exec (.lmcTrainingComplete g r false) s = .next t ∧ t.getF .LMC_STATUS_STATE 0 = 3 ∧ t.getF .GLB_STATUS_BOOT_STATE 0 = 5 ∧
        t.getF .GLB_STATUS_BOOT_ERROR 0 = 6 ∧ t.lmc = s.lmc))

/-- O58. Alarms raise their source and start an event, the event is answered, control is guarded, and OTP changes only by its operations. (20_tamper
(R461, R463, R465, R468, R469, R470, R475), 21_life_cycle (R482, R484, R485, R487, R488), 01_architecture (R11)) An alarm of a monitored source sets
RAISED, ACTIVE and its detectors, counts, and starts an event; a fabric mismatch is counted and alarms source 8, a disagreement source 15, a bad OTP
word source 13; the end of a condition clears ACTIVE alone. An event with LOG and IRQ before the ledger is ready is counted, buffered as evidence and
raises cause 0; one with ERASE_TAMPER_BOUND without main power clears the BBK. UNLOCK with CONFIRM ends a lockdown that nothing holds; RESUME ends
HALTED; RESP_LOCK locks. A transition of R482 asks OTP for its intent and three copies; DIAG_ENTER with a matching token for its USED bit; a field and
the window's close for theirs; each other write is refused and counted. A word that reads back is burned and counted; one that fails is burned once
more, counted. -/
def Obligations.TamperAndLifeCycle : Prop :=
  ∀ s : State, s.regsOk →
    let alarmed := fun (t : State) (n : Nat) => t.getF .TMP_SRC_STATUS_RAISED n = 1 ∧ t.getF .TMP_SRC_STATUS_ACTIVE n = 1 ∧
      t.getF .TMP_SRC_STATUS_COUNT n = s.plus .TMP_SRC_STATUS_COUNT n 1 ∧ t.tmp = { s.tmp with event := s.tmp.event ++ [(n, s.now)] }
    let refused := fun (c : Instr) => s.Serves → ∃ t, exec c s = .next t ∧ Sets s t [((.LCO_CFG_REFUSED_COUNT_COUNT, 0), s.plus .LCO_CFG_REFUSED_COUNT_COUNT 0 1)]
    let asks := fun (c : Instr) (o : OtpOp) => s.Serves → ∃ t, exec c s = .next t ∧ t.lco.ops = [o] ∧ t.lco.otp = s.lco.otp
    (∀ n d, n < 16 → d < 4 → d ≠ 0 → s.monitored n = true → ¬(9 ≤ n ∧ n ≤ 12) → ∃ t, exec (.tamperAlarm n d) s = .next t ∧ alarmed t n ∧
      t.getF .TMP_SRC_STATUS_DETECTORS n = s.getF .TMP_SRC_STATUS_DETECTORS n ||| d) ∧
    (s.monitored 8 = true → ∃ t, exec .fabricCodeMismatch s = .next t ∧ alarmed t 8 ∧ t.getF .TMP_FABRIC_CODE_COUNT_COUNT 0 = s.plus .TMP_FABRIC_CODE_COUNT_COUNT 0 1) ∧
    (∀ n < 15, s.getF .TMP_SRC_STATUS_ACTIVE n ≠ 0 → (s.getF .TMP_SRC_STATUS_DETECTORS n = 1 ∨ s.getF .TMP_SRC_STATUS_DETECTORS n = 2) → s.monitored 15 = true →
      ∃ t, exec (.detectorDisagree n) s = .next t ∧ alarmed t 15 ∧ t.getF .TMP_DISAGREE_COUNT_COUNT 0 = s.plus .TMP_DISAGREE_COUNT_COUNT 0 1) ∧
    exec (.otpIntegrityCheck none) s = .next s ∧
    (s.monitored 13 = true → ∀ a, ∃ t, exec (.otpIntegrityCheck (some a)) s = .next t ∧ alarmed t 13 ∧ Raised s t 19 1) ∧
    (∀ n, ∃ t, exec (.tamperConditionEnd n) s = .next t ∧ Sets s t [((.TMP_SRC_STATUS_ACTIVE, n), 0)]) ∧
    (∀ n t0, n < 16 → s.tmp.event = [(n, t0)] → s.pwr.mode = .active → s.respOf n = 3 → s.getF .QRE_STATUS_READY 0 = 0 → s.tmp.buf.length < 32 →
      ∃ t, exec .tamperEventResponse s = .next t ∧ t.tmp.event = [] ∧ t.getF .TMP_EVENT_COUNT_COUNT 0 = s.plus .TMP_EVENT_COUNT_COUNT 0 1 ∧
        t.tmp.buf.length = s.tmp.buf.length + 1 ∧ t.getF .TMP_STATUS_EVIDENCE_PENDING 0 = 1 ∧ Raised s t 18 0 ∧
        bit (t.getF .SMB_ALERT_STATUS_ALERT 0) 5 = true ∧ t.jobs = s.jobs ∧ t.kv = s.kv) ∧
    (∀ n t0, n < 16 → s.tmp.event = [(n, t0)] → s.pwr.mode = .deep → bit (s.respOf n) 4 = true → ∃ t, exec .tamperEventResponse s = .next t ∧
      t.kv.bbk = none ∧ t.kv.bbkLost = true ∧ t.store.anchor.valid = false) ∧
    (∀ v : W32, s.Serves →
      (bit v.toNat 2 = true → (bits v.toNat 31 16 ≠ 0x5EA1 ∨ s.mayUnlock = false) → ∃ t, exec (.tmpUnlock v) s = .next t ∧
        Sets s t [((.TMP_CFG_REFUSED_COUNT_COUNT, 0), s.plus .TMP_CFG_REFUSED_COUNT_COUNT 0 1)]) ∧
      (bit v.toNat 2 = true → bits v.toNat 31 16 = 0x5EA1 → s.mayUnlock = true → s.getF .TMP_STATUS_LOCKDOWN 0 ≠ 0 →
        ∃ t, exec (.tmpUnlock v) s = .next t ∧ t.getF .TMP_STATUS_LOCKDOWN 0 = 0) ∧
      (bit v.toNat 1 = true → s.getF .TMP_STATUS_HALTED 0 ≠ 0 → ∃ t, exec (.tmpResume v) s = .next t ∧ Sets s t [((.TMP_STATUS_HALTED, 0), 0)]) ∧
      (bit v.toNat 3 = true → ∃ t, exec (.tmpRespLock v) s = .next t ∧ Sets s t [((.TMP_CTRL_RESP_LOCK, 0), 1)])) ∧
    (∀ v : W32, let g := v.toNat % 16
      (bits v.toNat 31 16 ≠ 0x5EA1 ∨ s.transitionOk g = false → refused (.lcoTransition v)) ∧
      (bits v.toNat 31 16 = 0x5EA1 → s.transitionOk g = true → g ≠ 0xF → s.lco.ops = [] → asks (.lcoTransition v)
        { why := .transition g, words := (intentWord g, 0xA5A5A5A5) :: (List.range 3).map fun c => (otpCopies + c, statePattern g) }) ∧
      (bits v.toNat 31 16 = 0x5EA1 → s.getF .LCO_STATE_STATE 0 = 2 → bit (s.otpWord otpDiagUsed) g = false →
        s.otpBytes (otpTokens + 8 * g) 8 = sha3 s.tokenBytes → s.lco.ops = [] →
        asks (.diagEnter v) { why := .diag g, words := [(otpDiagUsed, 2 ^ g)] }) ∧
      (s.Serves → s.getF .LCO_STATE_STATE 0 ≠ 2 → ∃ t, exec (.diagEnter v) s = .next t ∧ t.getF .LCO_CFG_REFUSED_COUNT_COUNT 0 = s.plus .LCO_CFG_REFUSED_COUNT_COUNT 0 1 ∧
        ∀ i, t.getF .LCO_DIAG_TOKEN_TOKEN i = 0) ∧
      (bit v.toNat 8 = true → s.getF .LCO_STATE_WINDOW_OPEN 0 ≠ 0 → s.lco.ops = [] → ∀ ws, s.fieldWords g = some ws →
        asks (.provFieldWrite v) { why := .field g, words := ws }) ∧
      (s.getF .LCO_STATE_WINDOW_OPEN 0 = 0 → refused (.provFieldWrite v) ∧ refused (.provClose v)) ∧
      (bit v.toNat 9 = true → bits v.toNat 31 16 = 0x5EA1 → s.getF .LCO_STATE_WINDOW_OPEN 0 ≠ 0 → s.lco.ops = [] →
        asks (.provClose v) { why := .windowClose, words := [(otpLocks, 2 ^ windowClosedBit)] })) ∧
    (∀ (o : OtpOp) a v, s.lco.ops = [o] → o.why = .windowClose → o.words = [(a, v)] → s.lco.started = true → s.stopped = false →
      (∃ t, exec (.otpWordDone true) s = .next t ∧ t.otpWord a = (s.otpWord a ||| v % 2 ^ 32) ∧ (∀ b, b ≠ a → t.otpWord b = s.otpWord b) ∧ t.lco.ops = [] ∧
        t.getF .LCO_OTP_WRITE_COUNT_COUNT 0 = s.plus .LCO_OTP_WRITE_COUNT_COUNT 0 1) ∧
      (s.lco.retried = false → ∃ t, exec (.otpWordDone false) s = .next t ∧ t.lco.retried = true ∧ t.lco.ops = [o] ∧
        (∀ b, b ≠ a → t.otpWord b = s.otpWord b) ∧ t.getF .LCO_OTP_RETRY_COUNT_COUNT 0 = s.plus .LCO_OTP_RETRY_COUNT_COUNT 0 1))

/-- O59. Boot loads, tests and programs bundles; power states, supplies, clock rate and brace follow their events. (18_sequencer_and_boot (R436, R437,
R438, R441), 22_power_clocks_resets (R493, R496, R498, R499, R501, R503, R504, R505, R506, R509)) A bundle that passes every check is taken into use,
BOOT_STATE SELFTEST; from slot A one that fails leads to slot B; self-tests with every unit set READY, with too few fail boot; RETRY and PROGRAM out
of turn are refused; RAISE_MIN asks OTP for the next slot. A main power-on reset loses every job and key entry, keeps OTP and flash, counts, samples
the strap, and READY is 0; without VAUX it does nothing, and with the THERMTRIP latch set boot does not start. Work-free IDLE, DOZE with L1.2, and
wake change the state as told. Lost rails go to DEEP, lost VAUX to BACKUP, counted; an always-on reset loses the BBK. A wake source is latched; VBAT
is measured. A window over the limit lowers the rate by one step down to 4, then holds dispatch; one below 95% of it raises it. Heat lowers it,
THERMTRIP latches. A warned rail braces: rate at most 8, no OTP word starts; when every rail has recovered the brace lifts, counted. -/
def Obligations.BootAndPower : Prop :=
  ∀ s : State, s.regsOk →
    let runs := s.stopped = false
    (∀ slot ok d, runs → s.getF .GLB_STATUS_BOOT_STATE 0 = 2 → slot = s.seq.tried → slot < 2 →
      (s.bundleError ok d = 0 → s.decryptWaits d = false → ∃ t, exec (.bootBundleLoaded slot ok d) s = .next t ∧ t.getF .GLB_STATUS_BOOT_STATE 0 = 3 ∧
        t.getF .GLB_STATUS_BOOT_SLOT 0 = slot ∧ t.getF .GLB_STATUS_BOOT_ERROR 0 = 0 ∧ t.seq.bundle = d) ∧
      (s.bundleError ok d ∈ [1, 2, 3, 4] → slot = 0 → exec (.bootBundleLoaded slot ok d) s = .next { s with seq := { s.seq with tried := 1 } }) ∧
      (s.bundleError ok d ∈ [1, 2, 3, 4] → slot = 1 → ∃ t, exec (.bootBundleLoaded slot ok d) s = .next t ∧ t.getF .GLB_STATUS_BOOT_STATE 0 = 5 ∧
        t.getF .GLB_STATUS_BOOT_ERROR 0 = s.bundleError ok d ∧ Raised s t 0 0)) ∧
    (runs → s.getF .GLB_STATUS_BOOT_STATE 0 = 3 → s.getF .ENT_STATUS_READY 0 ≠ 0 →
      (∃ t, exec (.bootSelftestComplete 0xFF 0xFFFFFFFF 0xFFFFFFFF 7 15 3) s = .next t ∧ t.getF .GLB_STATUS_READY 0 = 1 ∧
        t.getF .GLB_STATUS_BOOT_STATE 0 = 4 ∧ t.getF .MAR_CORE_ONLINE_ONLINE 0 = 0xFFFFFFFF) ∧
      (∀ a b c d e, ∃ t, exec (.bootSelftestComplete 0 a b c d e) s = .next t ∧ t.getF .GLB_STATUS_BOOT_STATE 0 = 5 ∧ t.getF .GLB_STATUS_BOOT_ERROR 0 = 6 ∧
        t.getF .GLB_STATUS_READY 0 = s.getF .GLB_STATUS_READY 0)) ∧
    (∀ (v : W32) d, s.Serves → let busy := ∃ t : State, exec (.bootProgram v d) s = .next t ∧ Sets s t [((.GLB_CFG_REFUSED_COUNT_COUNT, 0), s.plus .GLB_CFG_REFUSED_COUNT_COUNT 0 1)]
      (bit v.toNat 0 = true → s.getF .GLB_STATUS_BOOT_STATE 0 ≠ 5 → ∃ t, exec (.bootRetry v d) s = .next t ∧
        Sets s t [((.GLB_CFG_REFUSED_COUNT_COUNT, 0), s.plus .GLB_CFG_REFUSED_COUNT_COUNT 0 1)]) ∧
      (bit v.toNat 0 = true → s.getF .GLB_STATUS_BOOT_STATE 0 = 5 → s.mayIssue = true → s.bundleError true (s.hostBundle d) = 0 →
        ∃ t, exec (.bootRetry v d) s = .next t ∧ t.getF .GLB_STATUS_BOOT_STATE 0 = 3 ∧ t.getF .GLB_STATUS_BOOT_SLOT 0 = 2 ∧ t.seq.bundle = s.hostBundle d) ∧
      (bit v.toNat 1 = true → bits v.toNat 31 16 ≠ 0x5EA1 → busy) ∧
      (bit v.toNat 1 = true → bits v.toNat 31 16 = 0x5EA1 → s.getF .GLB_STATUS_PROG_BUSY 0 = 0 → s.mayIssue = true → s.bundleError true (s.hostBundle d) = 0 →
        ∃ t, exec (.bootProgram v d) s = .next t ∧ t.seq.programming = some (bits v.toNat 4 4, s.hostBundle d) ∧ t.getF .GLB_STATUS_PROG_BUSY 0 = 1) ∧
      (∀ k, bit v.toNat 2 = true → s.getF .GLB_STATUS_READY 0 ≠ 0 → k < 16 → s.otpWord (otpMinPatch + k) = 0 → (∀ m < k, s.otpWord (otpMinPatch + m) ≠ 0) →
        s.minPatch < bfield s.seq.bundle 12 4 → s.lco.ops = [] → ∃ t, exec (.raiseMin v) s = .next t ∧
          t.lco.ops = [{ why := .minPatch, words := [(otpMinPatch + k, bfield s.seq.bundle 12 4)] }])) ∧
    (∀ slot b, runs → s.seq.programming = some (slot, b) → slot < 2 → s.seq.flash.length = 2 → ∃ t, exec (.bootProgramComplete true) s = .next t ∧
      t.seq.flash[slot]? = some b ∧ t.seq.programming = none ∧ t.getF .GLB_STATUS_PROG_BUSY 0 = 0 ∧ t.getF .GLB_STATUS_PROG_FAIL 0 = 0) ∧
    (∀ a core, (s.pwr.onVbat = true → exec (.mainPowerOnReset a core) s = .next s) ∧
      (s.pwr.onVbat = false → runs ∨ core = true → ∃ t, exec (.mainPowerOnReset a core) s = .next t ∧ t.pwr.strap = s.cutBurn.smbSample ∧
        t.pwr.tripLatch = false ∧ t.kv.keys = []) ∧
      (s.pwr.onVbat = false → s.pwr.tripLatch = true → core = false → ∃ t, exec (.mainPowerOnReset a core) s = .next t ∧ t.jobs = [] ∧
        t.pwr.tripLatch = true ∧ t.pci.training = none)) ∧
    (∀ a core, s.pwr.onVbat = false → runs ∨ core = true → s.lco.started = false → ∃ t, exec (.mainPowerOnReset a core) s = .next t ∧ t.jobs = [] ∧ t.lco.otp = s.lco.otp ∧ t.seq.flash = s.seq.flash ∧
      t.getF .GLB_STATUS_READY 0 = 0 ∧ t.getF .GLB_POR_COUNT_COUNT 0 = (s.getF .GLB_POR_COUNT_COUNT 0 + 1) % 2 ^ 32 ∧ t.getF .ENT_STATUS_STATE 0 = 1) ∧
    (runs → s.pwr.mode = .active → s.getF .PWR_CTRL_IDLE_EN 0 ≠ 0 → s.workless = true → exec .idleEntry s =
      .next { s with pwr := { s.pwr with mode := .idle, since := s.now } }) ∧
    (s.pwr.mode = .idle → s.workless = true →
      (runs → s.getF .PWR_CTRL_DOZE_EN 0 ≠ 0 → s.getF .PCI_LINK_STATUS_PM_STATE 0 = 3 → s.getF .PWR_STATUS_BRACE 0 = 0 → s.writesWait = false →
        ∃ t, exec .dozeEntry s = .next t ∧ t.pwr.mode = .doze ∧ t.tim.onKeeper = true ∧ t.tim.keeperSec = s.tim.sec ∧ t.tim.keeperNs = s.tim.ns ∧
          t.getF .PWR_DOZE_COUNT_COUNT 0 = s.plus .PWR_DOZE_COUNT_COUNT 0 1) ∧
      ∃ t, exec .wake s = .next t ∧ t.pwr.mode = .active ∧ t.getF .PWR_STATUS_STATE 0 = 1) ∧
    (s.powered = true → ∃ t, exec .mainRailsOff s = .next t ∧ t.pwr.mode = .deep ∧ t.pwr.tripLatch = false ∧ t.jobs = [] ∧ t.kv.keys = [] ∧ t.kv.bbk = s.kv.bbk) ∧
    (s.pwr.onVbat = false → ∃ t, exec .vauxLoss s = .next t ∧ t.pwr.mode = .backup ∧ t.pwr.onVbat = true ∧ t.pwr.wakePin = false ∧ t.kv.bbk = s.kv.bbk ∧
      t.getF .PWR_SWITCH_COUNT_COUNT 0 = s.plus .PWR_SWITCH_COUNT_COUNT 0 1) ∧
    (s.pwr.onVbat = true → ∃ t, exec .vauxReturn s = .next t ∧ t = { s with pwr := t.pwr } ∧ t.pwr.mode = .deep ∧ t.pwr.onVbat = false) ∧
    (∀ b, ∃ t, exec (.aoPowerOnReset b) s = .next t ∧ t.kv.bbk = none ∧ t.kv.bbkLost = true ∧ t.tmp.buf = [] ∧ t.pwr.onVbat = !b ∧
      t.pwr.tripLatch = s.pwr.tripLatch) ∧
    (∀ n < 3, s.powered = false → s.wakeSource n = true → bit (s.getF .PWR_WAKE_EN_EN 0) n = true → ∃ t, exec (.deepWakeSource n) s = .next t ∧
      bit (t.getF .PWR_WAKE_CAUSE_CAUSE 0) n = true ∧ (s.pwr.pmeKept = true → t.pwr.pmeStatus = true ∧ (s.pwr.mode = .deep → t.pwr.wakePin = true))) ∧
    (∀ mv < 4096, s.pwr.onVbat = false → ∃ t, exec (.vbatMeasure mv) s = .next t ∧
      Sets s t [((.PWR_VBAT_MV_MV, 0), mv), ((.PWR_STATUS_VBAT_LOW, 0), if mv < 2400 then 1 else 0)]) ∧
    (∀ a now, runs → let limit := 100 * max 10 (min 40 (s.getF .PWR_POWER_LIMIT_W 0))
      (limit < now → 4 < s.pwr.gov → ∃ t, exec (.governorWindow a now) s = .next t ∧ t.pwr.gov = s.pwr.gov - 1 ∧ t.getF .PWR_STATUS_POLICY_LIMITED 0 = 1) ∧
      (limit < now → s.pwr.gov ≤ 4 → ∃ t, exec (.governorWindow a now) s = .next t ∧ t.pwr.gov = s.pwr.gov ∧ t.getF .PWR_STATUS_DISPATCH_HELD 0 = 1) ∧
      (now ≤ limit → ∃ t, exec (.governorWindow a now) s = .next t ∧ t.pwr.govHeld = false ∧ t.getF .PWR_POWER_NOW_CW 0 = min a 65535 ∧
        t.pwr.gov = if a * 100 < 95 * limit then min 16 (s.pwr.gov + 1) else s.pwr.gov)) ∧
    (∀ sensor (x : BitVec 16), thermalMax ≤ x.toInt → ∃ t, exec (.thermalReading sensor x) s = .next t ∧ t.pwr.therm = max 4 (s.pwr.therm - 1) ∧
      t.getF .PWR_TEMP_T 0 = x.toNat ∧ t.getF .PWR_STATUS_THERMAL_LIMITED 0 = 1) ∧
    (s.powered = true → s.pwr.tripLatch = false → ∃ t, exec .thermtrip s = .next t ∧ t.pwr.tripLatch = true ∧
      t.pwr.tripPin = (!s.pci.perstLow && s.getF .LCO_STATE_STATE 0 != 0xF)) ∧
    (∀ rail < 3, s.pwr.mode = .active → s.pwr.rails = [] → s.getF .PWR_STATUS_BRACE 0 = 0 → ∀ mv, ∃ t, exec (.braceEnter rail mv) s = .next t ∧
      t.getF .PWR_STATUS_BRACE 0 = 1 ∧ t.getF .PWR_STATUS_BRACE_RAILS 0 = 2 ^ rail ∧ t.getF .PWR_STATUS_K 0 ≤ 8 ∧ t.pwr.rails = [(rail, mv, none)] ∧
      (s.lco.started = false → t.lco.started = false)) ∧
    (∀ rail lowest mv, s.pwr.rails = [(rail, lowest, none)] → exec (.braceRailRecovery rail mv true) s =
      .next { s with pwr := { s.pwr with rails := [(rail, min mv lowest, some s.now)] } }) ∧
    (∀ img, s.getF .PWR_STATUS_BRACE 0 ≠ 0 →
      ((∃ r ∈ s.pwr.rails, r.2.2 = none) → exec (.braceLift img) s = .next s) ∧
      ((∀ r ∈ s.pwr.rails, r.2.2 ≠ none) → ∃ t, exec (.braceLift img) s = .next t ∧ t.getF .PWR_STATUS_BRACE 0 = 0 ∧ t.pwr.rails = [] ∧
        t.getF .PWR_SUPPLY_EVENT_COUNT_COUNT 0 = s.plus .PWR_SUPPLY_EVENT_COUNT_COUNT 0 1))

/-- O60. The function answers requests, holds and resumes its messages, trains, loses and recovers its link, resets, and speaks DOE and SPDM.
(03_pcie_attachment (R35, R40, R45, R46, R47, R48, R49, R50, R51, R52, R53), 22_power_clocks_resets (R500)) A bad request is counted, and a read
answered with zeros; with memory space off a request is unsupported. The link steps down, trains on RETRAIN, and goes up; LINK_DOWN clears jobs and
raises cause 0; its quiet time leads to training, at 2.5 GT/s at the limit; recovery counts. L1 sets PM_STATE, a wake clears it. A failed read of an
entry ends it with HOST_READ_ERROR. Without bus mastering requests and messages are held, and sent in order when it returns; an unmasked vector's
pending message is sent. LTR reports once, in the smallest scale, rounded up. FLR, PERST#, hot reset and PME_Turn_Off do as R500 and R509 tell. DOE
objects of known types are taken, discovery answered, abort clears; SPDM requests out of order get ERROR, in order their response. A configuration
request is answered, or retried. Receiver and replay events are counted. The byte layouts of configuration space and SPDM are PRESUMED (log entry 44).
-/
def Obligations.PcieFunction : Prop :=
  ∀ s : State, s.regsOk → s.stopped = false →
    let w := s.awake
    let counted := fun (c : Instr) (f : Fld) => ∃ t, exec c s = .next t ∧ Sets s t [((f, 0), s.plus f 0 1)]
    (∀ bar a n wr, s.pci.memSpace = true → badRequest bar a n wr = true → ∃ t, exec (.mmioBadRequest bar a n wr) s = .next t ∧
      SetsSaying w t [((.PCI_MMIO_BAD_COUNT_COUNT, 0), s.plus .PCI_MMIO_BAD_COUNT_COUNT 0 1)] (if wr = true then [] else [.completion (zeros n)])) ∧
    (s.pci.memSpace = false → exec .mmioMemorySpaceDisabled s = .next (w.say .unsupported)) ∧
    counted .receiverError .PCI_RX_ERR_COUNT_COUNT ∧ counted .replayTimerTimeout .PCI_REPLAY_COUNT_COUNT ∧
    (s.getF .PCI_LINK_CTRL_AUTO_DOWNSPEED 0 ≠ 0 → s.pci.training = none → 1 < s.getF .PCI_LINK_STATUS_SPEED 0 → ∃ t, exec .linkDownspeed s = .next t ∧
      Sets s t [((.PCI_LINK_STATUS_SPEED, 0), s.getF .PCI_LINK_STATUS_SPEED 0 - 1), ((.PCI_LINK_STATUS_DEGRADED, 0), 1), ((.PCI_DOWNSPEED_COUNT_COUNT, 0), s.plus .PCI_DOWNSPEED_COUNT_COUNT 0 1)]) ∧
    (∀ v : W32, s.pci.memSpace = true → bit v.toNat 5 = true → ∃ t, exec (.retrain v) s = .next t ∧
      t.pci.training = (if s.pci.perstLow = true then none else t.trainTo) ∧ t.pci.recovering = false ∧
      t.getF .PCI_LINK_CTRL_MAX_SPEED 0 = v.toNat % 16) ∧
    (∀ r sp wd, s.pci.training = some r → s.pci.perstLow = false → 1 ≤ r → r ≤ 5 →
      (s.pci.recovering = false → ∃ t, exec (.linkUp sp wd) s = .next t ∧ t.pci.training = none ∧ t.getF .PCI_LINK_STATUS_SPEED 0 = max 1 (min sp r) ∧
        t.sent = s.sent ++ (if (s.pwr.pmeStatus && s.pci.pmeEn) = true then [.pme] else []) ∧
        t.getF .BLK_RECOVERY_COUNT_COUNT 1 = s.getF .BLK_RECOVERY_COUNT_COUNT 1) ∧
      (s.pci.recovering = true → s.pci.limited = false → ∃ t, exec (.linkRecovered sp wd) s = .next t ∧ t.pci.training = none ∧ t.pci.recovering = false ∧
        t.getF .BLK_RECOVERY_COUNT_COUNT 1 = (s.getF .BLK_RECOVERY_COUNT_COUNT 1 + 1) % 2 ^ 32 ∧ t.getF .BLK_ERR_STATUS_CAUSE 1 = 0)) ∧
    (s.pci.perstLow = false → s.pci.quietSince = none → ∃ t, exec .linkDown s = .next t ∧ t.jobs = [] ∧ bit (t.getF .BLK_ERR_STATUS_CAUSE 1) 0 = true ∧
      t.pci.quietSince = some s.now ∧ t.pci.recovering = true) ∧
    (s.pci.quietSince ≠ none →
      (s.recoveryLimited 1 = false → exec .linkQuietTimeExpiry s = .next { s with pci := { s.pci with quietSince := none, training := s.trainTo } }) ∧
      (s.recoveryLimited 1 = true → ∃ t, exec .linkQuietTimeExpiry s = .next t ∧ Raised s t 1 1 ∧ t.pci.limited = true ∧
        t.pci.training = if s.powered = true ∧ s.pwr.onVbat = false then some 1 else none)) ∧
    (∀ pm, pm = 1 ∨ pm = 2 ∨ (pm = 3 ∧ s.pci.l12En = true) → s.getF .PCI_LINK_STATUS_SPEED 0 ≠ 0 → s.pwr.l2Ready = false → ∃ t, exec (.linkL1Entry pm) s = .next t ∧
      Sets s t [((.PCI_LINK_STATUS_PM_STATE, 0), pm)]) ∧
    (1 ≤ s.getF .PCI_LINK_STATUS_PM_STATE 0 → s.getF .PCI_LINK_STATUS_PM_STATE 0 ≤ 3 → ∃ t, exec .wake s = .next t ∧ t.getF .PCI_LINK_STATUS_PM_STATE 0 = 0) ∧
    (∀ q i j cause d, s.job? q i = some j → j.stage = .fetching → let c := bits d 3 0
      exec (.hostReadFailure (.job q i d) cause) s =
      .next (({ s with pci := { s.pci with
        aerCount := s.pci.aerCount + 1
        aerUnc := s.pci.aerUnc ||| 2 ^ (if c = 1 then 14 else if c = 2 then 20 else if c = 3 then 15 else 12)
        aerCor := if c = 4 then s.pci.aerCor ||| 2 ^ 13 else s.pci.aerCor } } : State).updJob q i fun k => { k with
        words := List.replicate 8 0
        status := stHostRead
        detail := d
        computed := true
        stage := .ended })) ∧
    (∀ d3 : Bool, ∃ t, exec (.busMasterDisable d3) s = .next t ∧ t.mayIssue = false ∧
      (∀ v, t.sendVector v = if s.vectorMasked v = true then t.setPba v true else { t with pci := { t.pci with heldVectors := t.pci.heldVectors ++ [v] } }) ∧
      ∀ m, t.issue m = { t with held := t.held ++ [m] }) ∧
    (∀ v a d, s.pci.heldVectors = [v] → s.held = [.write none a d false] → s.pci.msixEn = true → s.pci.msixMask = false → s.getF .MSIX_CTRL_MASK v = 0 → (∀ q, s.getF .QC_CTRL_STATE q ≠ 3) →
      ∃ t, exec .busMasterEnable s = .next t ∧ t.sent = s.sent ++ s.writeMsgs none a d false ++ [.msix v] ∧ t.held = [] ∧ t.pci.heldVectors = []) ∧
    (∀ v < 8192, s.pci.memSpace = true → s.pba v = true → s.mayIssue = true → s.pci.msixEn = true → s.pci.msixMask = false → ∃ t, exec (.msixUnmask (some v)) s = .next t ∧
      t.sent = s.sent ++ [.msix v] ∧ t.pba v = false ∧ t.getF .MSIX_CTRL_MASK v = 0) ∧
    (∀ n < 2 ^ 32, n ≤ (ltrCode n).1 * 32 ^ (ltrCode n).2 ∧ (ltrCode n).1 < 1024 ∧ ∀ k < (ltrCode n).2, 1024 * 32 ^ k ≤ n + 32 ^ k - 1) ∧
    (s.pci.ltrEn = true → s.noWork = true → let c := ltrCode (s.getF .PCI_LTR_IDLE_LATENCY_NS 0)
      (s.pci.ltrLast = some c → exec .ltrIdleTimer s = .next s) ∧
      (s.pci.ltrLast ≠ some c → exec .ltrIdleTimer s = .next (({ s with pci := { s.pci with ltrLast := some c } } : State).say (.ltr c.1 c.2)))) ∧
    (∃ t, exec .flr s = .next t ∧ t.jobs = [] ∧ t.queues = [] ∧ t.pci.busMaster = false ∧ t.pci.memSpace = false ∧ t.pci.flrUntil = some (s.now + 100000000) ∧ t.lco = s.lco) ∧
    (∃ t, exec .perstAssert s = .next t ∧ t.jobs = [] ∧ t.pci.perstLow = true ∧ t.pwr.tripPin = false ∧ t.pwr.tripLatch = s.pwr.tripLatch) ∧
    (s.pci.perstLow = true → ∃ t, exec .perstRelease s = .next t ∧ t.pci = { s.pci with perstLow := false, training := s.trainTo } ∧ t.regs = s.regs ∧
      t.pwr.wakePin = false) ∧
    (∃ t, exec .hotReset s = .next t ∧ t.jobs = [] ∧ t.pci.busMaster = false ∧ t.lco = s.lco ∧ t.pci.training = if s.pci.perstLow = true then none else t.trainTo) ∧
    (∃ t, exec .pmeTurnOff s = .next t ∧ t.pwr.l2Ready = true ∧ t.sent = s.sent ++ [.pmeToAck] ∧ t.getF .PCI_LINK_STATUS_PM_STATE 0 = 4) ∧
    (∀ d, s.pci.doeErr = false → d.length ≤ 4096 → bfield d 0 2 = 1 → bfield d 2 1 ≤ 1 → exec (.doeRequest d) s = .next { w with pci := { s.pci with doeIn := some d } }) ∧
    (∀ d, s.pci.doeIn = some d → bfield d 2 1 = 0 → bfield d 8 1 = 0 → ∃ t, exec .doeDiscovery s = .next t ∧ t.pci.doeIn = none ∧
      t.sent = s.sent ++ [.doe (doeObject 0 [1, 0, 0, 1])]) ∧
    exec .doeAbort s = .next { s with pci := { s.pci with doeIn := none, doeErr := false } } ∧
    (∀ d code, s.pci.doeIn = some d → bfield d 2 1 = 1 → code = bfield (d.drop 8) 1 1 →
      let answers := fun (c : Instr) (first : Nat) => ∃ t r, exec c s = .next t ∧ t.pci.doeIn = none ∧ t.sent = s.sent ++ [.doe (doeObject 1 r)] ∧ bfield r 1 1 = first
      (code = 0x84 → answers .spdmGetVersion 0x04) ∧
      (code = 0xE1 → answers .spdmGetCapabilities (if s.pci.spdm.version = true then 0x61 else 0x7F)) ∧
      (code = 0xE3 → answers .spdmNegotiateAlgorithms (if s.pci.spdm.caps = true then 0x63 else 0x7F)) ∧
      (code = 0x81 → answers .spdmGetDigests (if s.pci.spdm.algos = true then 0x01 else 0x7F)) ∧
      (code = 0x82 → bfield (d.drop 8) 2 1 = 0 → bfield (d.drop 8) 4 2 ≤ s.seq.chain.length → answers .spdmGetCertificate (if s.pci.spdm.algos = true then 0x02 else 0x7F)) ∧
      (code = 0x83 → bfield (d.drop 8) 2 1 = 0 → answers .spdmChallenge (if s.pci.spdm.algos = true then 0x03 else 0x7F)) ∧
      (code = 0xE0 → bfield (d.drop 8) 3 1 ≤ 6 → answers .spdmGetMeasurements (if s.pci.spdm.algos = true then 0x60 else 0x7F))) ∧
    (∀ off, (w.cfgRetry = true → ∀ v, exec (.configRequest off v) s = .next (w.say .retryStatus)) ∧
      (w.cfgRetry = false → exec (.configRequest off none) s = .next (w.say (.completion (leBytes 4 (w.cfgRead off))))))
end

