-- ==== Sys2Proof/Laws/Reg.lean ====
section
/-! SUPPORT. The laws of the register tables: every reset value fits its field. -/
namespace Sys2Proof.Machine
/-- A field's reset value fits it. -/
def descFits (d : FldDesc) : Bool := decide (d.reset < 2 ^ (d.hi + 1 - d.lo))

theorem fldTable0_fits : (fldTable0.all fun e => descFits e.2) = true := by rfl
theorem fldTable1_fits : (fldTable1.all fun e => descFits e.2) = true := by rfl
theorem fldTable2_fits : (fldTable2.all fun e => descFits e.2) = true := by rfl
theorem fldTable3_fits : (fldTable3.all fun e => descFits e.2) = true := by rfl
theorem fldTable4_fits : (fldTable4.all fun e => descFits e.2) = true := by rfl
theorem fldTable5_fits : (fldTable5.all fun e => descFits e.2) = true := by rfl
theorem fldTable6_fits : (fldTable6.all fun e => descFits e.2) = true := by rfl
theorem fldTable7_fits : (fldTable7.all fun e => descFits e.2) = true := by rfl
theorem fldTable8_fits : (fldTable8.all fun e => descFits e.2) = true := by rfl
theorem fldTable9_fits : (fldTable9.all fun e => descFits e.2) = true := by rfl
theorem fldTable10_fits : (fldTable10.all fun e => descFits e.2) = true := by rfl
theorem fldTable11_fits : (fldTable11.all fun e => descFits e.2) = true := by rfl
theorem fldTable12_fits : (fldTable12.all fun e => descFits e.2) = true := by rfl
theorem fldTable13_fits : (fldTable13.all fun e => descFits e.2) = true := by rfl
theorem fldTable14_fits : (fldTable14.all fun e => descFits e.2) = true := by rfl
theorem fldTable15_fits : (fldTable15.all fun e => descFits e.2) = true := by rfl
theorem fldTable16_fits : (fldTable16.all fun e => descFits e.2) = true := by rfl
theorem fldTable17_fits : (fldTable17.all fun e => descFits e.2) = true := by rfl
theorem fldTable18_fits : (fldTable18.all fun e => descFits e.2) = true := by rfl
theorem fldTable19_fits : (fldTable19.all fun e => descFits e.2) = true := by simp [fldTable19, descFits]
theorem fldPart_fits (k : Nat) : ∀ e ∈ fldPart k, descFits e.2 = true := by
  refine List.all_eq_true.1 ?_
  unfold fldPart
  split
  · exact fldTable0_fits
  · exact fldTable1_fits
  · exact fldTable2_fits
  · exact fldTable3_fits
  · exact fldTable4_fits
  · exact fldTable5_fits
  · exact fldTable6_fits
  · exact fldTable7_fits
  · exact fldTable8_fits
  · exact fldTable9_fits
  · exact fldTable10_fits
  · exact fldTable11_fits
  · exact fldTable12_fits
  · exact fldTable13_fits
  · exact fldTable14_fits
  · exact fldTable15_fits
  · exact fldTable16_fits
  · exact fldTable17_fits
  · exact fldTable18_fits
  · exact fldTable19_fits

/-- The reset value in a field's row fits the field. -/
theorem desc_reset_lt (f : Fld) : f.desc.reset < 2 ^ f.width := by
  have h : descFits f.desc = true := by
    unfold Fld.desc
    rw [List.head?_drop]
    cases hx : (fldPart (f.ctorIdx / 24))[f.ctorIdx % 24]? with
    | none => decide
    | some e => exact fldPart_fits _ e (List.mem_of_getElem? hx)
  simpa [descFits, Fld.width] using h

theorem width_sliceState : Fld.SLC_SLICE_CTRL_STATE.width = 4 := rfl
theorem width_sliceEnable : Fld.SLC_SLICE_CTRL_ENABLE.width = 1 := rfl
theorem width_creditTotal : Fld.SCH_CREDIT_TOTAL_TOTAL.width = 17 := rfl
theorem width_creditFree : Fld.SCH_CREDIT_FREE_FREE.width = 17 := rfl
theorem width_tmpMin : Fld.TMP_SRC_RESP_MIN.width = 8 := rfl
theorem width_tmpResp : Fld.TMP_SRC_RESP_RESP.width = 8 := rfl
theorem width_smbAddr : Fld.SMB_STATUS_ADDR.width = 7 := rfl
theorem width_blkVector : Fld.BLK_ID_VECTOR.width = 8 := rfl
theorem width_recoveryLimit : Fld.BLK_RECOVERY_LIMIT_LIMIT.width = 32 := rfl
theorem width_quietTime : Fld.BLK_QUIET_TIME_MS.width = 32 := rfl
theorem creditTotal_lt (i : Nat) : creditTotal i < 2 ^ 17 := by unfold creditTotal; split <;> norm_num
theorem tmpMin_lt (i : Nat) : tmpMin i < 2 ^ 8 := by unfold tmpMin; split <;> norm_num
theorem tmpResp_lt (i : Nat) : tmpResp i < 2 ^ 8 := by unfold tmpResp; split <;> norm_num
/-- The reset value of an instance is one of those that depend on the instance, or that of the row. -/
theorem reset_cases (f : Fld) (i : Nat) (P : Nat → Fld → Prop)
    (h1 : ∀ f, f = .SLC_SLICE_CTRL_STATE ∨ f = .SLC_SLICE_CTRL_ENABLE → P (if i = 0 then 1 else 0) f)
    (h2 : ∀ f, f = .SCH_CREDIT_TOTAL_TOTAL ∨ f = .SCH_CREDIT_FREE_FREE → P (creditTotal i) f)
    (h3 : P (tmpMin i) .TMP_SRC_RESP_MIN) (h4 : P (tmpResp i) .TMP_SRC_RESP_RESP) (h5 : P 0x5A .SMB_STATUS_ADDR)
    (h6 : P (i % 256) .BLK_ID_VECTOR)
    (h7 : ∀ n ≤ 64, P n .BLK_RECOVERY_LIMIT_LIMIT) (h8 : ∀ n ≤ 10000, P n .BLK_QUIET_TIME_MS) (h9 : P f.desc.reset f) : P (f.reset i) f := by
  unfold Fld.reset
  by_cases e1 : f = .SLC_SLICE_CTRL_STATE ∨ f = .SLC_SLICE_CTRL_ENABLE
  · rw [if_pos e1]; exact h1 f e1
  rw [if_neg e1]
  by_cases e2 : f = .SCH_CREDIT_TOTAL_TOTAL ∨ f = .SCH_CREDIT_FREE_FREE
  · rw [if_pos e2]; exact h2 f e2
  rw [if_neg e2]
  by_cases e3 : f = .TMP_SRC_RESP_MIN
  · rw [if_pos e3, e3]; exact h3
  rw [if_neg e3]
  by_cases e4 : f = .TMP_SRC_RESP_RESP
  · rw [if_pos e4, e4]; exact h4
  rw [if_neg e4]
  by_cases e5 : f = .SMB_STATUS_ADDR
  · rw [if_pos e5, e5]; exact h5
  rw [if_neg e5]
  by_cases e6 : f = .BLK_ID_VECTOR
  · rw [if_pos e6, e6]; exact h6
  rw [if_neg e6]
  by_cases e7 : f = .BLK_RECOVERY_LIMIT_LIMIT
  · rw [if_pos e7, e7]; apply h7; split <;> [omega; split <;> [omega; split <;> [omega; split <;> omega]]]
  rw [if_neg e7]
  by_cases e8 : f = .BLK_QUIET_TIME_MS
  · rw [if_pos e8, e8]; apply h8; split <;> [omega; split <;> [omega; split <;> omega]]
  rw [if_neg e8]; exact h9

/-- Every reset value fits its field. -/
theorem fldDefault_lt (k : Fld × Nat) : fldDefault k < 2 ^ k.1.width := by
  obtain ⟨f, i⟩ := k
  show f.reset i < 2 ^ f.width
  refine reset_cases f i (fun n g => n < 2 ^ g.width) ?_ ?_ ?_ ?_ ?_ ?_ ?_ ?_ (desc_reset_lt f)
  · intro f h; rcases h with h | h
    · simp only [h, width_sliceState]; split <;> norm_num
    · simp only [h, width_sliceEnable]; split <;> norm_num
  · intro f h; rcases h with h | h
    · simp only [h, width_creditTotal]; exact creditTotal_lt i
    · simp only [h, width_creditFree]; exact creditTotal_lt i
  · simp only [width_tmpMin]; exact tmpMin_lt i
  · simp only [width_tmpResp]; exact tmpResp_lt i
  · simp only [width_smbAddr]; norm_num
  · simp only [width_blkVector]; omega
  · intro n hn; simp only [width_recoveryLimit]; omega
  · intro n hn; simp only [width_quietTime]; omega
end Sys2Proof.Machine
end

