-- ==== Sys2Proof/Laws/SMap.lean ====
section
/-! SUPPORT. The laws of sparse maps: a read after a write, and the canonical form that every write keeps. -/
namespace Sys2Proof.Machine

variable {κ α : Type}

theorem mget_mdel_same [DecidableEq κ] (d : κ → α) (m : SMap κ α) (k : κ) : mget d (mdel m k) k = d k := by
  induction m with
  | nil => rfl
  | cons e t ih =>
    by_cases h : e.1 = k
    · simpa [mdel, h] using ih
    · have : mdel (e :: t) k = e :: mdel t k := by simp [mdel, h]
      rw [this]; simp [mget, h, ih]

theorem mget_mdel_ne [DecidableEq κ] (d : κ → α) (m : SMap κ α) {k k' : κ} (hk : k' ≠ k) : mget d (mdel m k) k' = mget d m k' := by
  induction m with
  | nil => rfl
  | cons e t ih =>
    by_cases h : e.1 = k
    · have h2 : e.1 ≠ k' := fun h3 => hk (h3.symm.trans h)
      have : mdel (e :: t) k = mdel t k := by simp [mdel, h]
      rw [this, ih]; simp [mget, h2]
    · have : mdel (e :: t) k = e :: mdel t k := by simp [mdel, h]
      rw [this]; simp only [mget]; split <;> simp_all

theorem mget_mins_same [DecidableEq κ] (ord : κ → Nat) (d : κ → α) (m : SMap κ α) (k : κ) (v : α) (hm : ∀ e ∈ m, e.1 ≠ k) :
    mget d (mins ord m k v) k = v := by
  induction m with
  | nil => simp [mins, mget]
  | cons e t ih =>
    obtain ⟨k', v'⟩ := e
    have h1 : k' ≠ k := hm (k', v') (by simp)
    simp only [mins]; split
    · simp [mget]
    · simp [mget, h1, ih (fun e he => hm e (by simp [he]))]

theorem mget_mins_ne [DecidableEq κ] (ord : κ → Nat) (d : κ → α) (m : SMap κ α) {k k' : κ} (v : α) (hk : k' ≠ k) :
    mget d (mins ord m k v) k' = mget d m k' := by
  induction m with
  | nil => simp [mins, mget, hk.symm]
  | cons e t ih =>
    obtain ⟨a, b⟩ := e
    simp only [mins]; split
    · simp [mget, hk.symm]
    · simp only [mget]; split <;> simp_all

theorem mdel_keys [DecidableEq κ] (m : SMap κ α) (k : κ) : ∀ e ∈ mdel m k, e.1 ≠ k := by simp [mdel]

/-- A read after a write of the same key gives the value written. -/
theorem mget_mset_same [DecidableEq κ] [DecidableEq α] (ord : κ → Nat) (d : κ → α) (m : SMap κ α) (k : κ) (v : α) : mget d (mset ord d m k v) k = v := by
  unfold mset; split
  · rename_i h; rw [mget_mdel_same, h]
  · exact mget_mins_same ord d _ k v (mdel_keys m k)

/-- A write leaves every other key alone. -/
theorem mget_mset_ne [DecidableEq κ] [DecidableEq α] (ord : κ → Nat) (d : κ → α) (m : SMap κ α) {k k' : κ} (v : α) (hk : k' ≠ k) :
    mget d (mset ord d m k v) k' = mget d m k' := by
  unfold mset; split
  · exact mget_mdel_ne d m hk
  · rw [mget_mins_ne ord d _ v hk, mget_mdel_ne d m hk]

/-- The canonical form said of every pair of neighbours. -/
theorem mwf_iff [DecidableEq κ] [DecidableEq α] (ord : κ → Nat) (d : κ → α) (m : SMap κ α) :
    mwf ord d m = true ↔ (∀ e ∈ m, e.2 ≠ d e.1) ∧ m.Pairwise (fun a b => ord a.1 < ord b.1) := by
  induction m with
  | nil => simp [mwf]
  | cons e t ih =>
    obtain ⟨k, v⟩ := e
    cases t with
    | nil => simp [mwf]
    | cons e' t' =>
      obtain ⟨k', v'⟩ := e'
      have : mwf ord d ((k, v) :: (k', v') :: t') = (decide (v ≠ d k) && decide (ord k < ord k') && mwf ord d ((k', v') :: t')) := rfl
      rw [this, Bool.and_eq_true, Bool.and_eq_true, ih]
      simp only [decide_eq_true_eq]
      constructor
      · rintro ⟨⟨h1, h2⟩, h3, h4⟩
        refine ⟨?_, ?_⟩
        · intro e he; rcases List.mem_cons.1 he with rfl | he
          · exact h1
          · exact h3 e he
        · refine List.pairwise_cons.2 ⟨?_, h4⟩
          intro e he; rcases List.mem_cons.1 he with rfl | he
          · exact h2
          · exact lt_trans h2 ((List.pairwise_cons.1 h4).1 e he)
      · rintro ⟨h1, h2⟩
        have h3 := List.pairwise_cons.1 h2
        exact ⟨⟨h1 (k, v) (by simp), h3.1 (k', v') (by simp)⟩, fun e he => h1 e (by simp [he]), h3.2⟩

theorem mwf_mdel [DecidableEq κ] [DecidableEq α] (ord : κ → Nat) (d : κ → α) (m : SMap κ α) (k : κ) (h : mwf ord d m = true) : mwf ord d (mdel m k) = true := by
  rw [mwf_iff] at h ⊢
  exact ⟨fun e he => h.1 e (List.mem_filter.1 he).1, h.2.sublist List.filter_sublist⟩

theorem mem_mins (ord : κ → Nat) (m : SMap κ α) (k : κ) (v : α) : ∀ e ∈ mins ord m k v, e = (k, v) ∨ e ∈ m := by
  induction m with
  | nil => intro e he; simp [mins] at he; exact .inl he
  | cons x t ih =>
    obtain ⟨a, b⟩ := x
    intro e he; simp only [mins] at he; split at he
    · rcases List.mem_cons.1 he with rfl | he
      · exact .inl rfl
      · exact .inr he
    · rcases List.mem_cons.1 he with rfl | he
      · exact .inr (by simp)
      · rcases ih e he with h | h
        · exact .inl h
        · exact .inr (by simp [h])

theorem mwf_mins [DecidableEq κ] [DecidableEq α] (ord : κ → Nat) (hinj : Function.Injective ord) (d : κ → α) (m : SMap κ α) (k : κ) (v : α) (hv : v ≠ d k)
    (hk : ∀ e ∈ m, e.1 ≠ k) (h : mwf ord d m = true) : mwf ord d (mins ord m k v) = true := by
  rw [mwf_iff] at h ⊢
  refine ⟨fun e he => ?_, ?_⟩
  · rcases mem_mins ord m k v e he with rfl | he
    · exact hv
    · exact h.1 e he
  · have hp := h.2; clear h
    induction m with
    | nil => simp [mins]
    | cons x t ih =>
      obtain ⟨a, b⟩ := x
      have h3 := List.pairwise_cons.1 hp
      simp only [mins]; split
      · rename_i hlt
        refine List.pairwise_cons.2 ⟨?_, hp⟩
        intro e he; rcases List.mem_cons.1 he with rfl | he
        · exact hlt
        · exact lt_trans hlt (h3.1 e he)
      · rename_i hge
        refine List.pairwise_cons.2 ⟨?_, ih (fun e he => hk e (by simp [he])) h3.2⟩
        intro e he; rcases mem_mins ord t k v e he with rfl | he
        · have : ord a ≠ ord k := fun hh => hk (a, b) (by simp) (hinj hh)
          have : ord a < ord k := by omega
          simpa using this
        · exact h3.1 e he

/-- Every write keeps the canonical form. -/
theorem mwf_mset [DecidableEq κ] [DecidableEq α] (ord : κ → Nat) (hinj : Function.Injective ord) (d : κ → α) (m : SMap κ α) (k : κ) (v : α) (h : mwf ord d m = true) :
    mwf ord d (mset ord d m k v) = true := by
  unfold mset; split
  · exact mwf_mdel ord d m k h
  · rename_i hv; exact mwf_mins ord hinj d _ k v hv (mdel_keys m k) (mwf_mdel ord d m k h)

/-- Leaving entries out keeps the canonical form. -/
theorem mwf_filter [DecidableEq κ] [DecidableEq α] (ord : κ → Nat) (d : κ → α) (m : SMap κ α) (p : κ × α → Bool) (h : mwf ord d m = true) :
    mwf ord d (m.filter p) = true := by
  rw [mwf_iff] at h ⊢
  exact ⟨fun e he => h.1 e (List.mem_filter.1 he).1, h.2.sublist List.filter_sublist⟩

theorem natOrd_injective : Function.Injective natOrd := fun _ _ h => h

@[simp] theorem nget_nset_same {β : Type} [DecidableEq β] (d : β) (m : SMap Nat β) (k : Nat) (v : β) : nget d (nset d m k v) k = v :=
  mget_mset_same _ _ m k v

theorem nget_nset_ne {β : Type} [DecidableEq β] (d : β) (m : SMap Nat β) {k k' : Nat} (v : β) (h : k' ≠ k) :
    nget d (nset d m k v) k' = nget d m k' := mget_mset_ne _ _ m v h

theorem nwf_nset {β : Type} [DecidableEq β] (d : β) (m : SMap Nat β) (k : Nat) (v : β) (h : nwf d m = true) : nwf d (nset d m k v) = true :=
  mwf_mset _ natOrd_injective _ m k v h

@[simp] theorem nget_nil {β : Type} (d : β) (k : Nat) : nget d [] k = d := rfl

theorem fld_ctorIdx_lt (f : Fld) : f.ctorIdx < 1024 := by cases f <;> decide

theorem fld_ctorIdx_injective : Function.Injective Fld.ctorIdx := by
  intro a b h
  have h1 := Fld.ofNat_ctorIdx a
  have h2 := Fld.ofNat_ctorIdx b
  rw [← h1, ← h2, h]

theorem fldOrd_injective : Function.Injective fldOrd := by
  rintro ⟨f, i⟩ ⟨g, j⟩ h
  have hf := fld_ctorIdx_lt f
  have hg := fld_ctorIdx_lt g
  simp only [fldOrd] at h
  have h1 : f.ctorIdx = g.ctorIdx := by omega
  have h2 : i = j := by omega
  rw [fld_ctorIdx_injective h1, h2]

end Sys2Proof.Machine
end

