-- ==== Sys2Proof/Machine/Pins.lean ====
section
/-! DEFINITION. The state of each pin, as the state of the device gives it (R29 to R32). -/
namespace Sys2Proof.Machine

open Sys2Proof

/-- The rows of R29's table. -/
inductive Pin where
  | pet | perRefclk | perst | clkreq | wake | mem | qspi | smb | inputs | ppsOut | tdo | xtal25m | xtal32k | tamperIn | tamperDrv | thermtrip
deriving DecidableEq, Repr

/-- What a pin does (R29). `lane0` is lane 0 alone at 2.5 GT/s, the other lanes at high impedance; `off` an open drain that does not conduct. -/
inductive PinState where
  | highZ | off | pullDown | input | active | lane0 | asserted | driven | stopped | oscillating | sampled
deriving DecidableEq, Repr

/-- The columns of R29's table. -/
inductive PinColumn where
  | unpowered | backup | deep | reset | running | endOfLife
deriving DecidableEq, Repr

/-- The column that holds: the main logic is in reset until its boot ROM starts, BOOT_STATE 0 (R440). (DEDUCED: notes/assumptions/95) -/
def State.pinColumn (s : State) : PinColumn :=
  match s.pwr.mode with
  | .unpowered => .unpowered
  | .backup => .backup
  | .deep => .deep
  | _ =>
    if s.pwr.onVbat ∨ s.getF .GLB_STATUS_BOOT_STATE 0 = 0 then .reset
    else if s.getF .LCO_STATE_STATE 0 = 0xF then .endOfLife else .running

/-- The pins of the link, of memory, flash, SMBus and debug (R29), which the main logic owns: released unless it runs. While PERST# is low the lanes are
as in reset. JTAG is open in BLANK, TEST and DIAG (R478). (DEDUCED: notes/assumptions/95) -/
def State.mainPin (s : State) (p : Pin) : PinState :=
  let c := s.pinColumn
  let running := decide (c = .running)
  match p with
  | .pet =>
    if s.pci.perstLow then .highZ else if running then .active else if c = .endOfLife then .lane0 else .highZ
  | .perRefclk =>
    if running ∨ c = .reset then .input else if c = .endOfLife then .lane0 else .highZ
  | .clkreq => if running && !s.pci.perstLow then .active else .off
  | .mem => if running then .driven else .highZ
  | .qspi => if running && decide (s.getF .GLB_STATUS_BOOT_STATE 0 ≤ 3) then .driven else .highZ
  | .smb => if running then .active else .off
  | .inputs => if running ∨ c = .reset then .input else .highZ
  | .ppsOut => if running && s.flag .TIM_CTRL_PPS_OUT_EN 0 then .driven else .pullDown
  | .tdo => if running && [0, 1, 3].contains (s.getF .LCO_STATE_STATE 0) then .driven else .highZ
  | .xtal25m => if running ∨ c = .reset ∨ c = .endOfLife then .oscillating else .stopped
  | _ => if running && s.pwr.tripPin then .asserted else .off

/-- The state of a pin (R29). The pins of the always-on domain are released in its first 2 ms (R30); PERST# is read from DEEP on; WAKE# asserts as R501
says. -/
def State.pin (s : State) (p : Pin) : PinState :=
  let c := s.pinColumn
  let alwaysOn := decide (c ≠ .unpowered) && decide (c ≠ .endOfLife) && decide (s.pwr.aoUntil ≤ s.now)
  match p with
  | .perst => if c = .unpowered ∨ c = .backup then .highZ else .input
  | .wake => if (c = .deep ∨ c = .reset ∨ c = .running) ∧ s.pwr.wakePin then .asserted else .off
  | .xtal32k => if alwaysOn then .oscillating else .stopped
  | .tamperIn => if alwaysOn then .sampled else .highZ
  | .tamperDrv => if alwaysOn then .driven else .highZ
  | q => s.mainPin q

end Sys2Proof.Machine
end

