-- ==== Sys2Proof/Laws/State.lean ====
section
/-! SUPPORT. The laws of the state's shared updates: what each field is after each, and register reads after register writes. -/
namespace Sys2Proof.Machine

open Sys2Proof

/-! ### setF -/

@[simp] theorem State.setF_pending (s : State) (f : Fld) (i v : Nat) : (s.setF f i v).pending = s.pending := (rfl)
@[simp] theorem State.setF_heldLow (s : State) (f : Fld) (i v : Nat) : (s.setF f i v).heldLow = s.heldLow := (rfl)
@[simp] theorem State.setF_latchedHigh (s : State) (f : Fld) (i v : Nat) : (s.setF f i v).latchedHigh = s.latchedHigh := (rfl)
@[simp] theorem State.setF_now (s : State) (f : Fld) (i v : Nat) : (s.setF f i v).now = s.now := (rfl)
@[simp] theorem State.setF_held (s : State) (f : Fld) (i v : Nat) : (s.setF f i v).held = s.held := (rfl)
@[simp] theorem State.setF_free (s : State) (f : Fld) (i v : Nat) : (s.setF f i v).free = s.free := (rfl)
@[simp] theorem State.setF_sent (s : State) (f : Fld) (i v : Nat) : (s.setF f i v).sent = s.sent := (rfl)
@[simp] theorem State.setF_pci (s : State) (f : Fld) (i v : Nat) : (s.setF f i v).pci = s.pci := (rfl)
@[simp] theorem State.setF_slices (s : State) (f : Fld) (i v : Nat) : (s.setF f i v).slices = s.slices := (rfl)
@[simp] theorem State.setF_queues (s : State) (f : Fld) (i v : Nat) : (s.setF f i v).queues = s.queues := (rfl)
@[simp] theorem State.setF_rings (s : State) (f : Fld) (i v : Nat) : (s.setF f i v).rings = s.rings := (rfl)
@[simp] theorem State.setF_chans (s : State) (f : Fld) (i v : Nat) : (s.setF f i v).chans = s.chans := (rfl)
@[simp] theorem State.setF_jobs (s : State) (f : Fld) (i v : Nat) : (s.setF f i v).jobs = s.jobs := (rfl)
@[simp] theorem State.setF_kv (s : State) (f : Fld) (i v : Nat) : (s.setF f i v).kv = s.kv := (rfl)
@[simp] theorem State.setF_store (s : State) (f : Fld) (i v : Nat) : (s.setF f i v).store = s.store := (rfl)
@[simp] theorem State.setF_qre (s : State) (f : Fld) (i v : Nat) : (s.setF f i v).qre = s.qre := (rfl)
@[simp] theorem State.setF_tim (s : State) (f : Fld) (i v : Nat) : (s.setF f i v).tim = s.tim := (rfl)
@[simp] theorem State.setF_lco (s : State) (f : Fld) (i v : Nat) : (s.setF f i v).lco = s.lco := (rfl)
@[simp] theorem State.setF_tmp (s : State) (f : Fld) (i v : Nat) : (s.setF f i v).tmp = s.tmp := (rfl)
@[simp] theorem State.setF_pwr (s : State) (f : Fld) (i v : Nat) : (s.setF f i v).pwr = s.pwr := (rfl)
@[simp] theorem State.setF_mar (s : State) (f : Fld) (i v : Nat) : (s.setF f i v).mar = s.mar := (rfl)
@[simp] theorem State.setF_hsh (s : State) (f : Fld) (i v : Nat) : (s.setF f i v).hsh = s.hsh := (rfl)
@[simp] theorem State.setF_cde (s : State) (f : Fld) (i v : Nat) : (s.setF f i v).cde = s.cde := (rfl)
@[simp] theorem State.setF_bgn (s : State) (f : Fld) (i v : Nat) : (s.setF f i v).bgn = s.bgn := (rfl)
@[simp] theorem State.setF_str (s : State) (f : Fld) (i v : Nat) : (s.setF f i v).str = s.str := (rfl)
@[simp] theorem State.setF_sch (s : State) (f : Fld) (i v : Nat) : (s.setF f i v).sch = s.sch := (rfl)
@[simp] theorem State.setF_ent (s : State) (f : Fld) (i v : Nat) : (s.setF f i v).ent = s.ent := (rfl)
@[simp] theorem State.setF_seq (s : State) (f : Fld) (i v : Nat) : (s.setF f i v).seq = s.seq := (rfl)
@[simp] theorem State.setF_dma (s : State) (f : Fld) (i v : Nat) : (s.setF f i v).dma = s.dma := (rfl)
@[simp] theorem State.setF_lmc (s : State) (f : Fld) (i v : Nat) : (s.setF f i v).lmc = s.lmc := (rfl)

/-! ### setFlag -/

@[simp] theorem State.setFlag_pending (s : State) (f : Fld) (i : Nat) (b : Bool) : (s.setFlag f i b).pending = s.pending := (rfl)
@[simp] theorem State.setFlag_heldLow (s : State) (f : Fld) (i : Nat) (b : Bool) : (s.setFlag f i b).heldLow = s.heldLow := (rfl)
@[simp] theorem State.setFlag_latchedHigh (s : State) (f : Fld) (i : Nat) (b : Bool) : (s.setFlag f i b).latchedHigh = s.latchedHigh := (rfl)
@[simp] theorem State.setFlag_now (s : State) (f : Fld) (i : Nat) (b : Bool) : (s.setFlag f i b).now = s.now := (rfl)
@[simp] theorem State.setFlag_held (s : State) (f : Fld) (i : Nat) (b : Bool) : (s.setFlag f i b).held = s.held := (rfl)
@[simp] theorem State.setFlag_free (s : State) (f : Fld) (i : Nat) (b : Bool) : (s.setFlag f i b).free = s.free := (rfl)
@[simp] theorem State.setFlag_sent (s : State) (f : Fld) (i : Nat) (b : Bool) : (s.setFlag f i b).sent = s.sent := (rfl)
@[simp] theorem State.setFlag_pci (s : State) (f : Fld) (i : Nat) (b : Bool) : (s.setFlag f i b).pci = s.pci := (rfl)
@[simp] theorem State.setFlag_slices (s : State) (f : Fld) (i : Nat) (b : Bool) : (s.setFlag f i b).slices = s.slices := (rfl)
@[simp] theorem State.setFlag_queues (s : State) (f : Fld) (i : Nat) (b : Bool) : (s.setFlag f i b).queues = s.queues := (rfl)
@[simp] theorem State.setFlag_rings (s : State) (f : Fld) (i : Nat) (b : Bool) : (s.setFlag f i b).rings = s.rings := (rfl)
@[simp] theorem State.setFlag_chans (s : State) (f : Fld) (i : Nat) (b : Bool) : (s.setFlag f i b).chans = s.chans := (rfl)
@[simp] theorem State.setFlag_jobs (s : State) (f : Fld) (i : Nat) (b : Bool) : (s.setFlag f i b).jobs = s.jobs := (rfl)
@[simp] theorem State.setFlag_kv (s : State) (f : Fld) (i : Nat) (b : Bool) : (s.setFlag f i b).kv = s.kv := (rfl)
@[simp] theorem State.setFlag_store (s : State) (f : Fld) (i : Nat) (b : Bool) : (s.setFlag f i b).store = s.store := (rfl)
@[simp] theorem State.setFlag_qre (s : State) (f : Fld) (i : Nat) (b : Bool) : (s.setFlag f i b).qre = s.qre := (rfl)
@[simp] theorem State.setFlag_tim (s : State) (f : Fld) (i : Nat) (b : Bool) : (s.setFlag f i b).tim = s.tim := (rfl)
@[simp] theorem State.setFlag_lco (s : State) (f : Fld) (i : Nat) (b : Bool) : (s.setFlag f i b).lco = s.lco := (rfl)
@[simp] theorem State.setFlag_tmp (s : State) (f : Fld) (i : Nat) (b : Bool) : (s.setFlag f i b).tmp = s.tmp := (rfl)
@[simp] theorem State.setFlag_pwr (s : State) (f : Fld) (i : Nat) (b : Bool) : (s.setFlag f i b).pwr = s.pwr := (rfl)
@[simp] theorem State.setFlag_mar (s : State) (f : Fld) (i : Nat) (b : Bool) : (s.setFlag f i b).mar = s.mar := (rfl)
@[simp] theorem State.setFlag_hsh (s : State) (f : Fld) (i : Nat) (b : Bool) : (s.setFlag f i b).hsh = s.hsh := (rfl)
@[simp] theorem State.setFlag_cde (s : State) (f : Fld) (i : Nat) (b : Bool) : (s.setFlag f i b).cde = s.cde := (rfl)
@[simp] theorem State.setFlag_bgn (s : State) (f : Fld) (i : Nat) (b : Bool) : (s.setFlag f i b).bgn = s.bgn := (rfl)
@[simp] theorem State.setFlag_str (s : State) (f : Fld) (i : Nat) (b : Bool) : (s.setFlag f i b).str = s.str := (rfl)
@[simp] theorem State.setFlag_sch (s : State) (f : Fld) (i : Nat) (b : Bool) : (s.setFlag f i b).sch = s.sch := (rfl)
@[simp] theorem State.setFlag_ent (s : State) (f : Fld) (i : Nat) (b : Bool) : (s.setFlag f i b).ent = s.ent := (rfl)
@[simp] theorem State.setFlag_seq (s : State) (f : Fld) (i : Nat) (b : Bool) : (s.setFlag f i b).seq = s.seq := (rfl)
@[simp] theorem State.setFlag_dma (s : State) (f : Fld) (i : Nat) (b : Bool) : (s.setFlag f i b).dma = s.dma := (rfl)
@[simp] theorem State.setFlag_lmc (s : State) (f : Fld) (i : Nat) (b : Bool) : (s.setFlag f i b).lmc = s.lmc := (rfl)

/-! ### count -/

@[simp] theorem State.count_pending (s : State) (f : Fld) (i n : Nat) : (s.count f i n).pending = s.pending := (rfl)
@[simp] theorem State.count_heldLow (s : State) (f : Fld) (i n : Nat) : (s.count f i n).heldLow = s.heldLow := (rfl)
@[simp] theorem State.count_latchedHigh (s : State) (f : Fld) (i n : Nat) : (s.count f i n).latchedHigh = s.latchedHigh := (rfl)
@[simp] theorem State.count_now (s : State) (f : Fld) (i n : Nat) : (s.count f i n).now = s.now := (rfl)
@[simp] theorem State.count_held (s : State) (f : Fld) (i n : Nat) : (s.count f i n).held = s.held := (rfl)
@[simp] theorem State.count_free (s : State) (f : Fld) (i n : Nat) : (s.count f i n).free = s.free := (rfl)
@[simp] theorem State.count_sent (s : State) (f : Fld) (i n : Nat) : (s.count f i n).sent = s.sent := (rfl)
@[simp] theorem State.count_pci (s : State) (f : Fld) (i n : Nat) : (s.count f i n).pci = s.pci := (rfl)
@[simp] theorem State.count_slices (s : State) (f : Fld) (i n : Nat) : (s.count f i n).slices = s.slices := (rfl)
@[simp] theorem State.count_queues (s : State) (f : Fld) (i n : Nat) : (s.count f i n).queues = s.queues := (rfl)
@[simp] theorem State.count_rings (s : State) (f : Fld) (i n : Nat) : (s.count f i n).rings = s.rings := (rfl)
@[simp] theorem State.count_chans (s : State) (f : Fld) (i n : Nat) : (s.count f i n).chans = s.chans := (rfl)
@[simp] theorem State.count_jobs (s : State) (f : Fld) (i n : Nat) : (s.count f i n).jobs = s.jobs := (rfl)
@[simp] theorem State.count_kv (s : State) (f : Fld) (i n : Nat) : (s.count f i n).kv = s.kv := (rfl)
@[simp] theorem State.count_store (s : State) (f : Fld) (i n : Nat) : (s.count f i n).store = s.store := (rfl)
@[simp] theorem State.count_qre (s : State) (f : Fld) (i n : Nat) : (s.count f i n).qre = s.qre := (rfl)
@[simp] theorem State.count_tim (s : State) (f : Fld) (i n : Nat) : (s.count f i n).tim = s.tim := (rfl)
@[simp] theorem State.count_lco (s : State) (f : Fld) (i n : Nat) : (s.count f i n).lco = s.lco := (rfl)
@[simp] theorem State.count_tmp (s : State) (f : Fld) (i n : Nat) : (s.count f i n).tmp = s.tmp := (rfl)
@[simp] theorem State.count_pwr (s : State) (f : Fld) (i n : Nat) : (s.count f i n).pwr = s.pwr := (rfl)
@[simp] theorem State.count_mar (s : State) (f : Fld) (i n : Nat) : (s.count f i n).mar = s.mar := (rfl)
@[simp] theorem State.count_hsh (s : State) (f : Fld) (i n : Nat) : (s.count f i n).hsh = s.hsh := (rfl)
@[simp] theorem State.count_cde (s : State) (f : Fld) (i n : Nat) : (s.count f i n).cde = s.cde := (rfl)
@[simp] theorem State.count_bgn (s : State) (f : Fld) (i n : Nat) : (s.count f i n).bgn = s.bgn := (rfl)
@[simp] theorem State.count_str (s : State) (f : Fld) (i n : Nat) : (s.count f i n).str = s.str := (rfl)
@[simp] theorem State.count_sch (s : State) (f : Fld) (i n : Nat) : (s.count f i n).sch = s.sch := (rfl)
@[simp] theorem State.count_ent (s : State) (f : Fld) (i n : Nat) : (s.count f i n).ent = s.ent := (rfl)
@[simp] theorem State.count_seq (s : State) (f : Fld) (i n : Nat) : (s.count f i n).seq = s.seq := (rfl)
@[simp] theorem State.count_dma (s : State) (f : Fld) (i n : Nat) : (s.count f i n).dma = s.dma := (rfl)
@[simp] theorem State.count_lmc (s : State) (f : Fld) (i n : Nat) : (s.count f i n).lmc = s.lmc := (rfl)

/-! ### dropF -/

@[simp] theorem State.dropF_pending (s : State) (p : Fld → Nat → Bool) : (s.dropF p).pending = s.pending := (rfl)
@[simp] theorem State.dropF_heldLow (s : State) (p : Fld → Nat → Bool) : (s.dropF p).heldLow = s.heldLow := (rfl)
@[simp] theorem State.dropF_latchedHigh (s : State) (p : Fld → Nat → Bool) : (s.dropF p).latchedHigh = s.latchedHigh := (rfl)
@[simp] theorem State.dropF_now (s : State) (p : Fld → Nat → Bool) : (s.dropF p).now = s.now := (rfl)
@[simp] theorem State.dropF_held (s : State) (p : Fld → Nat → Bool) : (s.dropF p).held = s.held := (rfl)
@[simp] theorem State.dropF_free (s : State) (p : Fld → Nat → Bool) : (s.dropF p).free = s.free := (rfl)
@[simp] theorem State.dropF_sent (s : State) (p : Fld → Nat → Bool) : (s.dropF p).sent = s.sent := (rfl)
@[simp] theorem State.dropF_pci (s : State) (p : Fld → Nat → Bool) : (s.dropF p).pci = s.pci := (rfl)
@[simp] theorem State.dropF_slices (s : State) (p : Fld → Nat → Bool) : (s.dropF p).slices = s.slices := (rfl)
@[simp] theorem State.dropF_queues (s : State) (p : Fld → Nat → Bool) : (s.dropF p).queues = s.queues := (rfl)
@[simp] theorem State.dropF_rings (s : State) (p : Fld → Nat → Bool) : (s.dropF p).rings = s.rings := (rfl)
@[simp] theorem State.dropF_chans (s : State) (p : Fld → Nat → Bool) : (s.dropF p).chans = s.chans := (rfl)
@[simp] theorem State.dropF_jobs (s : State) (p : Fld → Nat → Bool) : (s.dropF p).jobs = s.jobs := (rfl)
@[simp] theorem State.dropF_kv (s : State) (p : Fld → Nat → Bool) : (s.dropF p).kv = s.kv := (rfl)
@[simp] theorem State.dropF_store (s : State) (p : Fld → Nat → Bool) : (s.dropF p).store = s.store := (rfl)
@[simp] theorem State.dropF_qre (s : State) (p : Fld → Nat → Bool) : (s.dropF p).qre = s.qre := (rfl)
@[simp] theorem State.dropF_tim (s : State) (p : Fld → Nat → Bool) : (s.dropF p).tim = s.tim := (rfl)
@[simp] theorem State.dropF_lco (s : State) (p : Fld → Nat → Bool) : (s.dropF p).lco = s.lco := (rfl)
@[simp] theorem State.dropF_tmp (s : State) (p : Fld → Nat → Bool) : (s.dropF p).tmp = s.tmp := (rfl)
@[simp] theorem State.dropF_pwr (s : State) (p : Fld → Nat → Bool) : (s.dropF p).pwr = s.pwr := (rfl)
@[simp] theorem State.dropF_mar (s : State) (p : Fld → Nat → Bool) : (s.dropF p).mar = s.mar := (rfl)
@[simp] theorem State.dropF_hsh (s : State) (p : Fld → Nat → Bool) : (s.dropF p).hsh = s.hsh := (rfl)
@[simp] theorem State.dropF_cde (s : State) (p : Fld → Nat → Bool) : (s.dropF p).cde = s.cde := (rfl)
@[simp] theorem State.dropF_bgn (s : State) (p : Fld → Nat → Bool) : (s.dropF p).bgn = s.bgn := (rfl)
@[simp] theorem State.dropF_str (s : State) (p : Fld → Nat → Bool) : (s.dropF p).str = s.str := (rfl)
@[simp] theorem State.dropF_sch (s : State) (p : Fld → Nat → Bool) : (s.dropF p).sch = s.sch := (rfl)
@[simp] theorem State.dropF_ent (s : State) (p : Fld → Nat → Bool) : (s.dropF p).ent = s.ent := (rfl)
@[simp] theorem State.dropF_seq (s : State) (p : Fld → Nat → Bool) : (s.dropF p).seq = s.seq := (rfl)
@[simp] theorem State.dropF_dma (s : State) (p : Fld → Nat → Bool) : (s.dropF p).dma = s.dma := (rfl)
@[simp] theorem State.dropF_lmc (s : State) (p : Fld → Nat → Bool) : (s.dropF p).lmc = s.lmc := (rfl)

/-! ### say -/

@[simp] theorem State.say_pending (s : State) (m : Msg) : (s.say m).pending = s.pending := (rfl)
@[simp] theorem State.say_regs (s : State) (m : Msg) : (s.say m).regs = s.regs := (rfl)
@[simp] theorem State.say_heldLow (s : State) (m : Msg) : (s.say m).heldLow = s.heldLow := (rfl)
@[simp] theorem State.say_latchedHigh (s : State) (m : Msg) : (s.say m).latchedHigh = s.latchedHigh := (rfl)
@[simp] theorem State.say_now (s : State) (m : Msg) : (s.say m).now = s.now := (rfl)
@[simp] theorem State.say_held (s : State) (m : Msg) : (s.say m).held = s.held := (rfl)
@[simp] theorem State.say_free (s : State) (m : Msg) : (s.say m).free = s.free := (rfl)
@[simp] theorem State.say_pci (s : State) (m : Msg) : (s.say m).pci = s.pci := (rfl)
@[simp] theorem State.say_slices (s : State) (m : Msg) : (s.say m).slices = s.slices := (rfl)
@[simp] theorem State.say_queues (s : State) (m : Msg) : (s.say m).queues = s.queues := (rfl)
@[simp] theorem State.say_rings (s : State) (m : Msg) : (s.say m).rings = s.rings := (rfl)
@[simp] theorem State.say_chans (s : State) (m : Msg) : (s.say m).chans = s.chans := (rfl)
@[simp] theorem State.say_jobs (s : State) (m : Msg) : (s.say m).jobs = s.jobs := (rfl)
@[simp] theorem State.say_kv (s : State) (m : Msg) : (s.say m).kv = s.kv := (rfl)
@[simp] theorem State.say_store (s : State) (m : Msg) : (s.say m).store = s.store := (rfl)
@[simp] theorem State.say_qre (s : State) (m : Msg) : (s.say m).qre = s.qre := (rfl)
@[simp] theorem State.say_tim (s : State) (m : Msg) : (s.say m).tim = s.tim := (rfl)
@[simp] theorem State.say_lco (s : State) (m : Msg) : (s.say m).lco = s.lco := (rfl)
@[simp] theorem State.say_tmp (s : State) (m : Msg) : (s.say m).tmp = s.tmp := (rfl)
@[simp] theorem State.say_pwr (s : State) (m : Msg) : (s.say m).pwr = s.pwr := (rfl)
@[simp] theorem State.say_mar (s : State) (m : Msg) : (s.say m).mar = s.mar := (rfl)
@[simp] theorem State.say_hsh (s : State) (m : Msg) : (s.say m).hsh = s.hsh := (rfl)
@[simp] theorem State.say_cde (s : State) (m : Msg) : (s.say m).cde = s.cde := (rfl)
@[simp] theorem State.say_bgn (s : State) (m : Msg) : (s.say m).bgn = s.bgn := (rfl)
@[simp] theorem State.say_str (s : State) (m : Msg) : (s.say m).str = s.str := (rfl)
@[simp] theorem State.say_sch (s : State) (m : Msg) : (s.say m).sch = s.sch := (rfl)
@[simp] theorem State.say_ent (s : State) (m : Msg) : (s.say m).ent = s.ent := (rfl)
@[simp] theorem State.say_seq (s : State) (m : Msg) : (s.say m).seq = s.seq := (rfl)
@[simp] theorem State.say_dma (s : State) (m : Msg) : (s.say m).dma = s.dma := (rfl)
@[simp] theorem State.say_lmc (s : State) (m : Msg) : (s.say m).lmc = s.lmc := (rfl)
@[simp] theorem State.say_getF (s : State) (m : Msg) (g : Fld) (j : Nat) : (s.say m).getF g j = s.getF g j := (rfl)

/-! ### Requests to host memory -/

/-- Messages sent one after the other. -/
theorem State.say_fold {α : Type} (l : List α) (f : α → Msg) (s : State) :
    l.foldl (fun t p => t.say (f p)) s = { s with sent := s.sent ++ l.map f } := by
  induction l generalizing s with
  | nil => simp
  | cons x r ih => rw [List.foldl_cons, ih]; simp [State.say]

/-- A write to host memory is its requests and nothing else (R42). -/
theorem State.sendWrite_eq (s : State) (p : Option Nat) (a : Nat) (d : List Byte) (ro : Bool) :
    s.sendWrite p a d ro = { s with sent := s.sent ++ s.writeMsgs p a d ro } := State.say_fold _ _ s

/-- A read of host memory is its requests and nothing else (R42). -/
theorem State.sendRead_eq (s : State) (p : Option Nat) (a n : Nat) :
    s.sendRead p a n = { s with sent := s.sent ++ (hostPieces (min 4096 s.pci.mrrs) a n n).map fun x => .read p x.1 x.2 } := State.say_fold _ _ s

/-- t is s but for registers, slices, and messages sent or held. -/
def OnlySends (s t : State) : Prop := t = { s with regs := t.regs, slices := t.slices, sent := t.sent, held := t.held }

theorem OnlySends.refl (s : State) : OnlySends s s := rfl

theorem OnlySends.trans {s t u : State} (h : OnlySends s t) (k : OnlySends t u) : OnlySends s u := by
  unfold OnlySends at *; rw [k, h]

theorem OnlySends.foldl {α : Type} (f : State → α → State) (h : ∀ t x, OnlySends t (f t x)) (l : List α) (s : State) : OnlySends s (l.foldl f s) := by
  induction l generalizing s with
  | nil => exact OnlySends.refl s
  | cons x r ih => exact (h s x).trans (ih _)

theorem State.plainOut_only (s : State) (a : Nat) (d : List Byte) : OnlySends s (s.plainOut a d) := by
  unfold State.plainOut; split
  · rw [State.sendWrite_eq]; rfl
  · rfl

theorem State.dplPut_only (s : State) (sl w : Nat) : OnlySends s (s.dplPut sl w) := by
  unfold State.dplPut; dsimp only; split <;> exact (State.plainOut_only s _ _).trans rfl

theorem State.dplPage_only (s : State) (sl page : Nat) : OnlySends s (s.dplPage sl page) := by
  unfold State.dplPage; split
  · exact State.dplPut_only s sl _
  · rfl

/-- A request issued changes nothing but what is sent and the log ring of its slice (R42, R43, R82). -/
theorem State.send_only (s : State) (r : HeldReq) : OnlySends s (s.send r) := by
  unfold State.send; split
  · rw [State.sendRead_eq]; rfl
  · rw [State.sendWrite_eq]; rfl
  · dsimp only; split
    · refine OnlySends.trans (t := s.sendWrite _ _ _ _) ?_ (OnlySends.foldl _ (fun t i => State.dplPage_only t _ _) _ _)
      rw [State.sendWrite_eq]; rfl
    · rw [State.sendWrite_eq]; rfl

/-- A memory request that falls due, sent or held, changes nothing else of the state. -/
theorem State.issue_only (s : State) (r : HeldReq) : OnlySends s (s.issue r) := by
  unfold State.issue; split
  · exact State.send_only s r
  · rfl

/-- While the function may not issue, nothing is sent (R49). -/
theorem State.issue_held (s : State) (r : HeldReq) (h : s.mayIssue = false) : s.issue r = { s with held := s.held ++ [r] } := by
  unfold State.issue; rw [if_neg (by simp [h])]

/-- A request that may be issued leaves at once (R49). -/
theorem State.issue_sent (s : State) (r : HeldReq) (h : s.mayIssue = true) : s.issue r = s.send r := by
  unfold State.issue; rw [if_pos h]

/-! ### setSlice -/

@[simp] theorem State.setSlice_pending (s : State) (i : Nat) (x : SliceX) : (s.setSlice i x).pending = s.pending := (rfl)
@[simp] theorem State.setSlice_regs (s : State) (i : Nat) (x : SliceX) : (s.setSlice i x).regs = s.regs := (rfl)
@[simp] theorem State.setSlice_heldLow (s : State) (i : Nat) (x : SliceX) : (s.setSlice i x).heldLow = s.heldLow := (rfl)
@[simp] theorem State.setSlice_latchedHigh (s : State) (i : Nat) (x : SliceX) : (s.setSlice i x).latchedHigh = s.latchedHigh := (rfl)
@[simp] theorem State.setSlice_now (s : State) (i : Nat) (x : SliceX) : (s.setSlice i x).now = s.now := (rfl)
@[simp] theorem State.setSlice_held (s : State) (i : Nat) (x : SliceX) : (s.setSlice i x).held = s.held := (rfl)
@[simp] theorem State.setSlice_free (s : State) (i : Nat) (x : SliceX) : (s.setSlice i x).free = s.free := (rfl)
@[simp] theorem State.setSlice_sent (s : State) (i : Nat) (x : SliceX) : (s.setSlice i x).sent = s.sent := (rfl)
@[simp] theorem State.setSlice_pci (s : State) (i : Nat) (x : SliceX) : (s.setSlice i x).pci = s.pci := (rfl)
@[simp] theorem State.setSlice_queues (s : State) (i : Nat) (x : SliceX) : (s.setSlice i x).queues = s.queues := (rfl)
@[simp] theorem State.setSlice_rings (s : State) (i : Nat) (x : SliceX) : (s.setSlice i x).rings = s.rings := (rfl)
@[simp] theorem State.setSlice_chans (s : State) (i : Nat) (x : SliceX) : (s.setSlice i x).chans = s.chans := (rfl)
@[simp] theorem State.setSlice_jobs (s : State) (i : Nat) (x : SliceX) : (s.setSlice i x).jobs = s.jobs := (rfl)
@[simp] theorem State.setSlice_kv (s : State) (i : Nat) (x : SliceX) : (s.setSlice i x).kv = s.kv := (rfl)
@[simp] theorem State.setSlice_store (s : State) (i : Nat) (x : SliceX) : (s.setSlice i x).store = s.store := (rfl)
@[simp] theorem State.setSlice_qre (s : State) (i : Nat) (x : SliceX) : (s.setSlice i x).qre = s.qre := (rfl)
@[simp] theorem State.setSlice_tim (s : State) (i : Nat) (x : SliceX) : (s.setSlice i x).tim = s.tim := (rfl)
@[simp] theorem State.setSlice_lco (s : State) (i : Nat) (x : SliceX) : (s.setSlice i x).lco = s.lco := (rfl)
@[simp] theorem State.setSlice_tmp (s : State) (i : Nat) (x : SliceX) : (s.setSlice i x).tmp = s.tmp := (rfl)
@[simp] theorem State.setSlice_pwr (s : State) (i : Nat) (x : SliceX) : (s.setSlice i x).pwr = s.pwr := (rfl)
@[simp] theorem State.setSlice_mar (s : State) (i : Nat) (x : SliceX) : (s.setSlice i x).mar = s.mar := (rfl)
@[simp] theorem State.setSlice_hsh (s : State) (i : Nat) (x : SliceX) : (s.setSlice i x).hsh = s.hsh := (rfl)
@[simp] theorem State.setSlice_cde (s : State) (i : Nat) (x : SliceX) : (s.setSlice i x).cde = s.cde := (rfl)
@[simp] theorem State.setSlice_bgn (s : State) (i : Nat) (x : SliceX) : (s.setSlice i x).bgn = s.bgn := (rfl)
@[simp] theorem State.setSlice_str (s : State) (i : Nat) (x : SliceX) : (s.setSlice i x).str = s.str := (rfl)
@[simp] theorem State.setSlice_sch (s : State) (i : Nat) (x : SliceX) : (s.setSlice i x).sch = s.sch := (rfl)
@[simp] theorem State.setSlice_ent (s : State) (i : Nat) (x : SliceX) : (s.setSlice i x).ent = s.ent := (rfl)
@[simp] theorem State.setSlice_seq (s : State) (i : Nat) (x : SliceX) : (s.setSlice i x).seq = s.seq := (rfl)
@[simp] theorem State.setSlice_dma (s : State) (i : Nat) (x : SliceX) : (s.setSlice i x).dma = s.dma := (rfl)
@[simp] theorem State.setSlice_lmc (s : State) (i : Nat) (x : SliceX) : (s.setSlice i x).lmc = s.lmc := (rfl)
@[simp] theorem State.setSlice_getF (s : State) (i : Nat) (x : SliceX) (g : Fld) (j : Nat) : (s.setSlice i x).getF g j = s.getF g j := (rfl)

/-! ### setQueue -/

@[simp] theorem State.setQueue_pending (s : State) (i : Nat) (x : QueueX) : (s.setQueue i x).pending = s.pending := (rfl)
@[simp] theorem State.setQueue_regs (s : State) (i : Nat) (x : QueueX) : (s.setQueue i x).regs = s.regs := (rfl)
@[simp] theorem State.setQueue_heldLow (s : State) (i : Nat) (x : QueueX) : (s.setQueue i x).heldLow = s.heldLow := (rfl)
@[simp] theorem State.setQueue_latchedHigh (s : State) (i : Nat) (x : QueueX) : (s.setQueue i x).latchedHigh = s.latchedHigh := (rfl)
@[simp] theorem State.setQueue_now (s : State) (i : Nat) (x : QueueX) : (s.setQueue i x).now = s.now := (rfl)
@[simp] theorem State.setQueue_held (s : State) (i : Nat) (x : QueueX) : (s.setQueue i x).held = s.held := (rfl)
@[simp] theorem State.setQueue_free (s : State) (i : Nat) (x : QueueX) : (s.setQueue i x).free = s.free := (rfl)
@[simp] theorem State.setQueue_sent (s : State) (i : Nat) (x : QueueX) : (s.setQueue i x).sent = s.sent := (rfl)
@[simp] theorem State.setQueue_pci (s : State) (i : Nat) (x : QueueX) : (s.setQueue i x).pci = s.pci := (rfl)
@[simp] theorem State.setQueue_slices (s : State) (i : Nat) (x : QueueX) : (s.setQueue i x).slices = s.slices := (rfl)
@[simp] theorem State.setQueue_rings (s : State) (i : Nat) (x : QueueX) : (s.setQueue i x).rings = s.rings := (rfl)
@[simp] theorem State.setQueue_chans (s : State) (i : Nat) (x : QueueX) : (s.setQueue i x).chans = s.chans := (rfl)
@[simp] theorem State.setQueue_jobs (s : State) (i : Nat) (x : QueueX) : (s.setQueue i x).jobs = s.jobs := (rfl)
@[simp] theorem State.setQueue_kv (s : State) (i : Nat) (x : QueueX) : (s.setQueue i x).kv = s.kv := (rfl)
@[simp] theorem State.setQueue_store (s : State) (i : Nat) (x : QueueX) : (s.setQueue i x).store = s.store := (rfl)
@[simp] theorem State.setQueue_qre (s : State) (i : Nat) (x : QueueX) : (s.setQueue i x).qre = s.qre := (rfl)
@[simp] theorem State.setQueue_tim (s : State) (i : Nat) (x : QueueX) : (s.setQueue i x).tim = s.tim := (rfl)
@[simp] theorem State.setQueue_lco (s : State) (i : Nat) (x : QueueX) : (s.setQueue i x).lco = s.lco := (rfl)
@[simp] theorem State.setQueue_tmp (s : State) (i : Nat) (x : QueueX) : (s.setQueue i x).tmp = s.tmp := (rfl)
@[simp] theorem State.setQueue_pwr (s : State) (i : Nat) (x : QueueX) : (s.setQueue i x).pwr = s.pwr := (rfl)
@[simp] theorem State.setQueue_mar (s : State) (i : Nat) (x : QueueX) : (s.setQueue i x).mar = s.mar := (rfl)
@[simp] theorem State.setQueue_hsh (s : State) (i : Nat) (x : QueueX) : (s.setQueue i x).hsh = s.hsh := (rfl)
@[simp] theorem State.setQueue_cde (s : State) (i : Nat) (x : QueueX) : (s.setQueue i x).cde = s.cde := (rfl)
@[simp] theorem State.setQueue_bgn (s : State) (i : Nat) (x : QueueX) : (s.setQueue i x).bgn = s.bgn := (rfl)
@[simp] theorem State.setQueue_str (s : State) (i : Nat) (x : QueueX) : (s.setQueue i x).str = s.str := (rfl)
@[simp] theorem State.setQueue_sch (s : State) (i : Nat) (x : QueueX) : (s.setQueue i x).sch = s.sch := (rfl)
@[simp] theorem State.setQueue_ent (s : State) (i : Nat) (x : QueueX) : (s.setQueue i x).ent = s.ent := (rfl)
@[simp] theorem State.setQueue_seq (s : State) (i : Nat) (x : QueueX) : (s.setQueue i x).seq = s.seq := (rfl)
@[simp] theorem State.setQueue_dma (s : State) (i : Nat) (x : QueueX) : (s.setQueue i x).dma = s.dma := (rfl)
@[simp] theorem State.setQueue_lmc (s : State) (i : Nat) (x : QueueX) : (s.setQueue i x).lmc = s.lmc := (rfl)
@[simp] theorem State.setQueue_getF (s : State) (i : Nat) (x : QueueX) (g : Fld) (j : Nat) : (s.setQueue i x).getF g j = s.getF g j := (rfl)

/-! ### setRing -/

@[simp] theorem State.setRing_pending (s : State) (i : Nat) (x : RingX) : (s.setRing i x).pending = s.pending := (rfl)
@[simp] theorem State.setRing_regs (s : State) (i : Nat) (x : RingX) : (s.setRing i x).regs = s.regs := (rfl)
@[simp] theorem State.setRing_heldLow (s : State) (i : Nat) (x : RingX) : (s.setRing i x).heldLow = s.heldLow := (rfl)
@[simp] theorem State.setRing_latchedHigh (s : State) (i : Nat) (x : RingX) : (s.setRing i x).latchedHigh = s.latchedHigh := (rfl)
@[simp] theorem State.setRing_now (s : State) (i : Nat) (x : RingX) : (s.setRing i x).now = s.now := (rfl)
@[simp] theorem State.setRing_held (s : State) (i : Nat) (x : RingX) : (s.setRing i x).held = s.held := (rfl)
@[simp] theorem State.setRing_free (s : State) (i : Nat) (x : RingX) : (s.setRing i x).free = s.free := (rfl)
@[simp] theorem State.setRing_sent (s : State) (i : Nat) (x : RingX) : (s.setRing i x).sent = s.sent := (rfl)
@[simp] theorem State.setRing_pci (s : State) (i : Nat) (x : RingX) : (s.setRing i x).pci = s.pci := (rfl)
@[simp] theorem State.setRing_slices (s : State) (i : Nat) (x : RingX) : (s.setRing i x).slices = s.slices := (rfl)
@[simp] theorem State.setRing_queues (s : State) (i : Nat) (x : RingX) : (s.setRing i x).queues = s.queues := (rfl)
@[simp] theorem State.setRing_chans (s : State) (i : Nat) (x : RingX) : (s.setRing i x).chans = s.chans := (rfl)
@[simp] theorem State.setRing_jobs (s : State) (i : Nat) (x : RingX) : (s.setRing i x).jobs = s.jobs := (rfl)
@[simp] theorem State.setRing_kv (s : State) (i : Nat) (x : RingX) : (s.setRing i x).kv = s.kv := (rfl)
@[simp] theorem State.setRing_store (s : State) (i : Nat) (x : RingX) : (s.setRing i x).store = s.store := (rfl)
@[simp] theorem State.setRing_qre (s : State) (i : Nat) (x : RingX) : (s.setRing i x).qre = s.qre := (rfl)
@[simp] theorem State.setRing_tim (s : State) (i : Nat) (x : RingX) : (s.setRing i x).tim = s.tim := (rfl)
@[simp] theorem State.setRing_lco (s : State) (i : Nat) (x : RingX) : (s.setRing i x).lco = s.lco := (rfl)
@[simp] theorem State.setRing_tmp (s : State) (i : Nat) (x : RingX) : (s.setRing i x).tmp = s.tmp := (rfl)
@[simp] theorem State.setRing_pwr (s : State) (i : Nat) (x : RingX) : (s.setRing i x).pwr = s.pwr := (rfl)
@[simp] theorem State.setRing_mar (s : State) (i : Nat) (x : RingX) : (s.setRing i x).mar = s.mar := (rfl)
@[simp] theorem State.setRing_hsh (s : State) (i : Nat) (x : RingX) : (s.setRing i x).hsh = s.hsh := (rfl)
@[simp] theorem State.setRing_cde (s : State) (i : Nat) (x : RingX) : (s.setRing i x).cde = s.cde := (rfl)
@[simp] theorem State.setRing_bgn (s : State) (i : Nat) (x : RingX) : (s.setRing i x).bgn = s.bgn := (rfl)
@[simp] theorem State.setRing_str (s : State) (i : Nat) (x : RingX) : (s.setRing i x).str = s.str := (rfl)
@[simp] theorem State.setRing_sch (s : State) (i : Nat) (x : RingX) : (s.setRing i x).sch = s.sch := (rfl)
@[simp] theorem State.setRing_ent (s : State) (i : Nat) (x : RingX) : (s.setRing i x).ent = s.ent := (rfl)
@[simp] theorem State.setRing_seq (s : State) (i : Nat) (x : RingX) : (s.setRing i x).seq = s.seq := (rfl)
@[simp] theorem State.setRing_dma (s : State) (i : Nat) (x : RingX) : (s.setRing i x).dma = s.dma := (rfl)
@[simp] theorem State.setRing_lmc (s : State) (i : Nat) (x : RingX) : (s.setRing i x).lmc = s.lmc := (rfl)
@[simp] theorem State.setRing_getF (s : State) (i : Nat) (x : RingX) (g : Fld) (j : Nat) : (s.setRing i x).getF g j = s.getF g j := (rfl)

/-! ### setChan -/

@[simp] theorem State.setChan_pending (s : State) (i : Nat) (x : ChanX) : (s.setChan i x).pending = s.pending := (rfl)
@[simp] theorem State.setChan_regs (s : State) (i : Nat) (x : ChanX) : (s.setChan i x).regs = s.regs := (rfl)
@[simp] theorem State.setChan_heldLow (s : State) (i : Nat) (x : ChanX) : (s.setChan i x).heldLow = s.heldLow := (rfl)
@[simp] theorem State.setChan_latchedHigh (s : State) (i : Nat) (x : ChanX) : (s.setChan i x).latchedHigh = s.latchedHigh := (rfl)
@[simp] theorem State.setChan_now (s : State) (i : Nat) (x : ChanX) : (s.setChan i x).now = s.now := (rfl)
@[simp] theorem State.setChan_held (s : State) (i : Nat) (x : ChanX) : (s.setChan i x).held = s.held := (rfl)
@[simp] theorem State.setChan_free (s : State) (i : Nat) (x : ChanX) : (s.setChan i x).free = s.free := (rfl)
@[simp] theorem State.setChan_sent (s : State) (i : Nat) (x : ChanX) : (s.setChan i x).sent = s.sent := (rfl)
@[simp] theorem State.setChan_pci (s : State) (i : Nat) (x : ChanX) : (s.setChan i x).pci = s.pci := (rfl)
@[simp] theorem State.setChan_slices (s : State) (i : Nat) (x : ChanX) : (s.setChan i x).slices = s.slices := (rfl)
@[simp] theorem State.setChan_queues (s : State) (i : Nat) (x : ChanX) : (s.setChan i x).queues = s.queues := (rfl)
@[simp] theorem State.setChan_rings (s : State) (i : Nat) (x : ChanX) : (s.setChan i x).rings = s.rings := (rfl)
@[simp] theorem State.setChan_jobs (s : State) (i : Nat) (x : ChanX) : (s.setChan i x).jobs = s.jobs := (rfl)
@[simp] theorem State.setChan_kv (s : State) (i : Nat) (x : ChanX) : (s.setChan i x).kv = s.kv := (rfl)
@[simp] theorem State.setChan_store (s : State) (i : Nat) (x : ChanX) : (s.setChan i x).store = s.store := (rfl)
@[simp] theorem State.setChan_qre (s : State) (i : Nat) (x : ChanX) : (s.setChan i x).qre = s.qre := (rfl)
@[simp] theorem State.setChan_tim (s : State) (i : Nat) (x : ChanX) : (s.setChan i x).tim = s.tim := (rfl)
@[simp] theorem State.setChan_lco (s : State) (i : Nat) (x : ChanX) : (s.setChan i x).lco = s.lco := (rfl)
@[simp] theorem State.setChan_tmp (s : State) (i : Nat) (x : ChanX) : (s.setChan i x).tmp = s.tmp := (rfl)
@[simp] theorem State.setChan_pwr (s : State) (i : Nat) (x : ChanX) : (s.setChan i x).pwr = s.pwr := (rfl)
@[simp] theorem State.setChan_mar (s : State) (i : Nat) (x : ChanX) : (s.setChan i x).mar = s.mar := (rfl)
@[simp] theorem State.setChan_hsh (s : State) (i : Nat) (x : ChanX) : (s.setChan i x).hsh = s.hsh := (rfl)
@[simp] theorem State.setChan_cde (s : State) (i : Nat) (x : ChanX) : (s.setChan i x).cde = s.cde := (rfl)
@[simp] theorem State.setChan_bgn (s : State) (i : Nat) (x : ChanX) : (s.setChan i x).bgn = s.bgn := (rfl)
@[simp] theorem State.setChan_str (s : State) (i : Nat) (x : ChanX) : (s.setChan i x).str = s.str := (rfl)
@[simp] theorem State.setChan_sch (s : State) (i : Nat) (x : ChanX) : (s.setChan i x).sch = s.sch := (rfl)
@[simp] theorem State.setChan_ent (s : State) (i : Nat) (x : ChanX) : (s.setChan i x).ent = s.ent := (rfl)
@[simp] theorem State.setChan_seq (s : State) (i : Nat) (x : ChanX) : (s.setChan i x).seq = s.seq := (rfl)
@[simp] theorem State.setChan_dma (s : State) (i : Nat) (x : ChanX) : (s.setChan i x).dma = s.dma := (rfl)
@[simp] theorem State.setChan_lmc (s : State) (i : Nat) (x : ChanX) : (s.setChan i x).lmc = s.lmc := (rfl)
@[simp] theorem State.setChan_getF (s : State) (i : Nat) (x : ChanX) (g : Fld) (j : Nat) : (s.setChan i x).getF g j = s.getF g j := (rfl)

/-! ### setKey -/

@[simp] theorem State.setKey_pending (s : State) (i : Nat) (x : KeyX) : (s.setKey i x).pending = s.pending := (rfl)
@[simp] theorem State.setKey_regs (s : State) (i : Nat) (x : KeyX) : (s.setKey i x).regs = s.regs := (rfl)
@[simp] theorem State.setKey_heldLow (s : State) (i : Nat) (x : KeyX) : (s.setKey i x).heldLow = s.heldLow := (rfl)
@[simp] theorem State.setKey_latchedHigh (s : State) (i : Nat) (x : KeyX) : (s.setKey i x).latchedHigh = s.latchedHigh := (rfl)
@[simp] theorem State.setKey_now (s : State) (i : Nat) (x : KeyX) : (s.setKey i x).now = s.now := (rfl)
@[simp] theorem State.setKey_held (s : State) (i : Nat) (x : KeyX) : (s.setKey i x).held = s.held := (rfl)
@[simp] theorem State.setKey_free (s : State) (i : Nat) (x : KeyX) : (s.setKey i x).free = s.free := (rfl)
@[simp] theorem State.setKey_sent (s : State) (i : Nat) (x : KeyX) : (s.setKey i x).sent = s.sent := (rfl)
@[simp] theorem State.setKey_pci (s : State) (i : Nat) (x : KeyX) : (s.setKey i x).pci = s.pci := (rfl)
@[simp] theorem State.setKey_slices (s : State) (i : Nat) (x : KeyX) : (s.setKey i x).slices = s.slices := (rfl)
@[simp] theorem State.setKey_queues (s : State) (i : Nat) (x : KeyX) : (s.setKey i x).queues = s.queues := (rfl)
@[simp] theorem State.setKey_rings (s : State) (i : Nat) (x : KeyX) : (s.setKey i x).rings = s.rings := (rfl)
@[simp] theorem State.setKey_chans (s : State) (i : Nat) (x : KeyX) : (s.setKey i x).chans = s.chans := (rfl)
@[simp] theorem State.setKey_jobs (s : State) (i : Nat) (x : KeyX) : (s.setKey i x).jobs = s.jobs := (rfl)
@[simp] theorem State.setKey_store (s : State) (i : Nat) (x : KeyX) : (s.setKey i x).store = s.store := (rfl)
@[simp] theorem State.setKey_qre (s : State) (i : Nat) (x : KeyX) : (s.setKey i x).qre = s.qre := (rfl)
@[simp] theorem State.setKey_tim (s : State) (i : Nat) (x : KeyX) : (s.setKey i x).tim = s.tim := (rfl)
@[simp] theorem State.setKey_lco (s : State) (i : Nat) (x : KeyX) : (s.setKey i x).lco = s.lco := (rfl)
@[simp] theorem State.setKey_tmp (s : State) (i : Nat) (x : KeyX) : (s.setKey i x).tmp = s.tmp := (rfl)
@[simp] theorem State.setKey_pwr (s : State) (i : Nat) (x : KeyX) : (s.setKey i x).pwr = s.pwr := (rfl)
@[simp] theorem State.setKey_mar (s : State) (i : Nat) (x : KeyX) : (s.setKey i x).mar = s.mar := (rfl)
@[simp] theorem State.setKey_hsh (s : State) (i : Nat) (x : KeyX) : (s.setKey i x).hsh = s.hsh := (rfl)
@[simp] theorem State.setKey_cde (s : State) (i : Nat) (x : KeyX) : (s.setKey i x).cde = s.cde := (rfl)
@[simp] theorem State.setKey_bgn (s : State) (i : Nat) (x : KeyX) : (s.setKey i x).bgn = s.bgn := (rfl)
@[simp] theorem State.setKey_str (s : State) (i : Nat) (x : KeyX) : (s.setKey i x).str = s.str := (rfl)
@[simp] theorem State.setKey_sch (s : State) (i : Nat) (x : KeyX) : (s.setKey i x).sch = s.sch := (rfl)
@[simp] theorem State.setKey_ent (s : State) (i : Nat) (x : KeyX) : (s.setKey i x).ent = s.ent := (rfl)
@[simp] theorem State.setKey_seq (s : State) (i : Nat) (x : KeyX) : (s.setKey i x).seq = s.seq := (rfl)
@[simp] theorem State.setKey_dma (s : State) (i : Nat) (x : KeyX) : (s.setKey i x).dma = s.dma := (rfl)
@[simp] theorem State.setKey_lmc (s : State) (i : Nat) (x : KeyX) : (s.setKey i x).lmc = s.lmc := (rfl)
@[simp] theorem State.setKey_getF (s : State) (i : Nat) (x : KeyX) (g : Fld) (j : Nat) : (s.setKey i x).getF g j = s.getF g j := (rfl)

/-! ### setCust -/

@[simp] theorem State.setCust_pending (s : State) (i : Nat) (x : CustodyX) : (s.setCust i x).pending = s.pending := (rfl)
@[simp] theorem State.setCust_regs (s : State) (i : Nat) (x : CustodyX) : (s.setCust i x).regs = s.regs := (rfl)
@[simp] theorem State.setCust_heldLow (s : State) (i : Nat) (x : CustodyX) : (s.setCust i x).heldLow = s.heldLow := (rfl)
@[simp] theorem State.setCust_latchedHigh (s : State) (i : Nat) (x : CustodyX) : (s.setCust i x).latchedHigh = s.latchedHigh := (rfl)
@[simp] theorem State.setCust_now (s : State) (i : Nat) (x : CustodyX) : (s.setCust i x).now = s.now := (rfl)
@[simp] theorem State.setCust_held (s : State) (i : Nat) (x : CustodyX) : (s.setCust i x).held = s.held := (rfl)
@[simp] theorem State.setCust_free (s : State) (i : Nat) (x : CustodyX) : (s.setCust i x).free = s.free := (rfl)
@[simp] theorem State.setCust_sent (s : State) (i : Nat) (x : CustodyX) : (s.setCust i x).sent = s.sent := (rfl)
@[simp] theorem State.setCust_pci (s : State) (i : Nat) (x : CustodyX) : (s.setCust i x).pci = s.pci := (rfl)
@[simp] theorem State.setCust_slices (s : State) (i : Nat) (x : CustodyX) : (s.setCust i x).slices = s.slices := (rfl)
@[simp] theorem State.setCust_queues (s : State) (i : Nat) (x : CustodyX) : (s.setCust i x).queues = s.queues := (rfl)
@[simp] theorem State.setCust_rings (s : State) (i : Nat) (x : CustodyX) : (s.setCust i x).rings = s.rings := (rfl)
@[simp] theorem State.setCust_chans (s : State) (i : Nat) (x : CustodyX) : (s.setCust i x).chans = s.chans := (rfl)
@[simp] theorem State.setCust_jobs (s : State) (i : Nat) (x : CustodyX) : (s.setCust i x).jobs = s.jobs := (rfl)
@[simp] theorem State.setCust_store (s : State) (i : Nat) (x : CustodyX) : (s.setCust i x).store = s.store := (rfl)
@[simp] theorem State.setCust_qre (s : State) (i : Nat) (x : CustodyX) : (s.setCust i x).qre = s.qre := (rfl)
@[simp] theorem State.setCust_tim (s : State) (i : Nat) (x : CustodyX) : (s.setCust i x).tim = s.tim := (rfl)
@[simp] theorem State.setCust_lco (s : State) (i : Nat) (x : CustodyX) : (s.setCust i x).lco = s.lco := (rfl)
@[simp] theorem State.setCust_tmp (s : State) (i : Nat) (x : CustodyX) : (s.setCust i x).tmp = s.tmp := (rfl)
@[simp] theorem State.setCust_pwr (s : State) (i : Nat) (x : CustodyX) : (s.setCust i x).pwr = s.pwr := (rfl)
@[simp] theorem State.setCust_mar (s : State) (i : Nat) (x : CustodyX) : (s.setCust i x).mar = s.mar := (rfl)
@[simp] theorem State.setCust_hsh (s : State) (i : Nat) (x : CustodyX) : (s.setCust i x).hsh = s.hsh := (rfl)
@[simp] theorem State.setCust_cde (s : State) (i : Nat) (x : CustodyX) : (s.setCust i x).cde = s.cde := (rfl)
@[simp] theorem State.setCust_bgn (s : State) (i : Nat) (x : CustodyX) : (s.setCust i x).bgn = s.bgn := (rfl)
@[simp] theorem State.setCust_str (s : State) (i : Nat) (x : CustodyX) : (s.setCust i x).str = s.str := (rfl)
@[simp] theorem State.setCust_sch (s : State) (i : Nat) (x : CustodyX) : (s.setCust i x).sch = s.sch := (rfl)
@[simp] theorem State.setCust_ent (s : State) (i : Nat) (x : CustodyX) : (s.setCust i x).ent = s.ent := (rfl)
@[simp] theorem State.setCust_seq (s : State) (i : Nat) (x : CustodyX) : (s.setCust i x).seq = s.seq := (rfl)
@[simp] theorem State.setCust_dma (s : State) (i : Nat) (x : CustodyX) : (s.setCust i x).dma = s.dma := (rfl)
@[simp] theorem State.setCust_lmc (s : State) (i : Nat) (x : CustodyX) : (s.setCust i x).lmc = s.lmc := (rfl)
@[simp] theorem State.setCust_getF (s : State) (i : Nat) (x : CustodyX) (g : Fld) (j : Nat) : (s.setCust i x).getF g j = s.getF g j := (rfl)

/-! ### setStream -/

@[simp] theorem State.setStream_pending (s : State) (i : Nat) (x : StreamX) : (s.setStream i x).pending = s.pending := (rfl)
@[simp] theorem State.setStream_regs (s : State) (i : Nat) (x : StreamX) : (s.setStream i x).regs = s.regs := (rfl)
@[simp] theorem State.setStream_heldLow (s : State) (i : Nat) (x : StreamX) : (s.setStream i x).heldLow = s.heldLow := (rfl)
@[simp] theorem State.setStream_latchedHigh (s : State) (i : Nat) (x : StreamX) : (s.setStream i x).latchedHigh = s.latchedHigh := (rfl)
@[simp] theorem State.setStream_now (s : State) (i : Nat) (x : StreamX) : (s.setStream i x).now = s.now := (rfl)
@[simp] theorem State.setStream_held (s : State) (i : Nat) (x : StreamX) : (s.setStream i x).held = s.held := (rfl)
@[simp] theorem State.setStream_free (s : State) (i : Nat) (x : StreamX) : (s.setStream i x).free = s.free := (rfl)
@[simp] theorem State.setStream_sent (s : State) (i : Nat) (x : StreamX) : (s.setStream i x).sent = s.sent := (rfl)
@[simp] theorem State.setStream_pci (s : State) (i : Nat) (x : StreamX) : (s.setStream i x).pci = s.pci := (rfl)
@[simp] theorem State.setStream_slices (s : State) (i : Nat) (x : StreamX) : (s.setStream i x).slices = s.slices := (rfl)
@[simp] theorem State.setStream_queues (s : State) (i : Nat) (x : StreamX) : (s.setStream i x).queues = s.queues := (rfl)
@[simp] theorem State.setStream_rings (s : State) (i : Nat) (x : StreamX) : (s.setStream i x).rings = s.rings := (rfl)
@[simp] theorem State.setStream_chans (s : State) (i : Nat) (x : StreamX) : (s.setStream i x).chans = s.chans := (rfl)
@[simp] theorem State.setStream_jobs (s : State) (i : Nat) (x : StreamX) : (s.setStream i x).jobs = s.jobs := (rfl)
@[simp] theorem State.setStream_kv (s : State) (i : Nat) (x : StreamX) : (s.setStream i x).kv = s.kv := (rfl)
@[simp] theorem State.setStream_store (s : State) (i : Nat) (x : StreamX) : (s.setStream i x).store = s.store := (rfl)
@[simp] theorem State.setStream_tim (s : State) (i : Nat) (x : StreamX) : (s.setStream i x).tim = s.tim := (rfl)
@[simp] theorem State.setStream_lco (s : State) (i : Nat) (x : StreamX) : (s.setStream i x).lco = s.lco := (rfl)
@[simp] theorem State.setStream_tmp (s : State) (i : Nat) (x : StreamX) : (s.setStream i x).tmp = s.tmp := (rfl)
@[simp] theorem State.setStream_pwr (s : State) (i : Nat) (x : StreamX) : (s.setStream i x).pwr = s.pwr := (rfl)
@[simp] theorem State.setStream_mar (s : State) (i : Nat) (x : StreamX) : (s.setStream i x).mar = s.mar := (rfl)
@[simp] theorem State.setStream_hsh (s : State) (i : Nat) (x : StreamX) : (s.setStream i x).hsh = s.hsh := (rfl)
@[simp] theorem State.setStream_cde (s : State) (i : Nat) (x : StreamX) : (s.setStream i x).cde = s.cde := (rfl)
@[simp] theorem State.setStream_bgn (s : State) (i : Nat) (x : StreamX) : (s.setStream i x).bgn = s.bgn := (rfl)
@[simp] theorem State.setStream_str (s : State) (i : Nat) (x : StreamX) : (s.setStream i x).str = s.str := (rfl)
@[simp] theorem State.setStream_sch (s : State) (i : Nat) (x : StreamX) : (s.setStream i x).sch = s.sch := (rfl)
@[simp] theorem State.setStream_ent (s : State) (i : Nat) (x : StreamX) : (s.setStream i x).ent = s.ent := (rfl)
@[simp] theorem State.setStream_seq (s : State) (i : Nat) (x : StreamX) : (s.setStream i x).seq = s.seq := (rfl)
@[simp] theorem State.setStream_dma (s : State) (i : Nat) (x : StreamX) : (s.setStream i x).dma = s.dma := (rfl)
@[simp] theorem State.setStream_lmc (s : State) (i : Nat) (x : StreamX) : (s.setStream i x).lmc = s.lmc := (rfl)
@[simp] theorem State.setStream_getF (s : State) (i : Nat) (x : StreamX) (g : Fld) (j : Nat) : (s.setStream i x).getF g j = s.getF g j := (rfl)

/-! ### updJob -/

@[simp] theorem State.updJob_pending (s : State) (q i : Nat) (f : Job → Job) : (s.updJob q i f).pending = s.pending := (rfl)
@[simp] theorem State.updJob_regs (s : State) (q i : Nat) (f : Job → Job) : (s.updJob q i f).regs = s.regs := (rfl)
@[simp] theorem State.updJob_heldLow (s : State) (q i : Nat) (f : Job → Job) : (s.updJob q i f).heldLow = s.heldLow := (rfl)
@[simp] theorem State.updJob_latchedHigh (s : State) (q i : Nat) (f : Job → Job) : (s.updJob q i f).latchedHigh = s.latchedHigh := (rfl)
@[simp] theorem State.updJob_now (s : State) (q i : Nat) (f : Job → Job) : (s.updJob q i f).now = s.now := (rfl)
@[simp] theorem State.updJob_held (s : State) (q i : Nat) (f : Job → Job) : (s.updJob q i f).held = s.held := (rfl)
@[simp] theorem State.updJob_free (s : State) (q i : Nat) (f : Job → Job) : (s.updJob q i f).free = s.free := (rfl)
@[simp] theorem State.updJob_sent (s : State) (q i : Nat) (f : Job → Job) : (s.updJob q i f).sent = s.sent := (rfl)
@[simp] theorem State.updJob_pci (s : State) (q i : Nat) (f : Job → Job) : (s.updJob q i f).pci = s.pci := (rfl)
@[simp] theorem State.updJob_slices (s : State) (q i : Nat) (f : Job → Job) : (s.updJob q i f).slices = s.slices := (rfl)
@[simp] theorem State.updJob_queues (s : State) (q i : Nat) (f : Job → Job) : (s.updJob q i f).queues = s.queues := (rfl)
@[simp] theorem State.updJob_rings (s : State) (q i : Nat) (f : Job → Job) : (s.updJob q i f).rings = s.rings := (rfl)
@[simp] theorem State.updJob_chans (s : State) (q i : Nat) (f : Job → Job) : (s.updJob q i f).chans = s.chans := (rfl)
@[simp] theorem State.updJob_kv (s : State) (q i : Nat) (f : Job → Job) : (s.updJob q i f).kv = s.kv := (rfl)
@[simp] theorem State.updJob_store (s : State) (q i : Nat) (f : Job → Job) : (s.updJob q i f).store = s.store := (rfl)
@[simp] theorem State.updJob_qre (s : State) (q i : Nat) (f : Job → Job) : (s.updJob q i f).qre = s.qre := (rfl)
@[simp] theorem State.updJob_tim (s : State) (q i : Nat) (f : Job → Job) : (s.updJob q i f).tim = s.tim := (rfl)
@[simp] theorem State.updJob_lco (s : State) (q i : Nat) (f : Job → Job) : (s.updJob q i f).lco = s.lco := (rfl)
@[simp] theorem State.updJob_tmp (s : State) (q i : Nat) (f : Job → Job) : (s.updJob q i f).tmp = s.tmp := (rfl)
@[simp] theorem State.updJob_pwr (s : State) (q i : Nat) (f : Job → Job) : (s.updJob q i f).pwr = s.pwr := (rfl)
@[simp] theorem State.updJob_mar (s : State) (q i : Nat) (f : Job → Job) : (s.updJob q i f).mar = s.mar := (rfl)
@[simp] theorem State.updJob_hsh (s : State) (q i : Nat) (f : Job → Job) : (s.updJob q i f).hsh = s.hsh := (rfl)
@[simp] theorem State.updJob_cde (s : State) (q i : Nat) (f : Job → Job) : (s.updJob q i f).cde = s.cde := (rfl)
@[simp] theorem State.updJob_bgn (s : State) (q i : Nat) (f : Job → Job) : (s.updJob q i f).bgn = s.bgn := (rfl)
@[simp] theorem State.updJob_str (s : State) (q i : Nat) (f : Job → Job) : (s.updJob q i f).str = s.str := (rfl)
@[simp] theorem State.updJob_sch (s : State) (q i : Nat) (f : Job → Job) : (s.updJob q i f).sch = s.sch := (rfl)
@[simp] theorem State.updJob_ent (s : State) (q i : Nat) (f : Job → Job) : (s.updJob q i f).ent = s.ent := (rfl)
@[simp] theorem State.updJob_seq (s : State) (q i : Nat) (f : Job → Job) : (s.updJob q i f).seq = s.seq := (rfl)
@[simp] theorem State.updJob_dma (s : State) (q i : Nat) (f : Job → Job) : (s.updJob q i f).dma = s.dma := (rfl)
@[simp] theorem State.updJob_lmc (s : State) (q i : Nat) (f : Job → Job) : (s.updJob q i f).lmc = s.lmc := (rfl)
@[simp] theorem State.updJob_getF (s : State) (q i : Nat) (f : Job → Job) (g : Fld) (j : Nat) : (s.updJob q i f).getF g j = s.getF g j := (rfl)

@[simp] theorem State.say_sent (s : State) (m : Msg) : (s.say m).sent = s.sent ++ [m] := (rfl)

/-! ### Register reads after register writes -/

/-- A field read after its write gives the value written, cut to the field's width. -/
theorem State.getF_setF_same (s : State) (f : Fld) (i v : Nat) : (s.setF f i v).getF f i = v % 2 ^ f.width :=
  mget_mset_same fldOrd fldDefault s.regs (f, i) _

/-- A write leaves every other field instance alone. -/
theorem State.getF_setF_ne (s : State) {f g : Fld} {i j : Nat} (v : Nat) (h : (g, j) ≠ (f, i)) : (s.setF f i v).getF g j = s.getF g j :=
  mget_mset_ne fldOrd fldDefault s.regs _ h

/-- A field read after any write. -/
@[simp] theorem State.getF_setF (s : State) (f g : Fld) (i j v : Nat) :
    (s.setF f i v).getF g j = if g = f ∧ j = i then v % 2 ^ f.width else s.getF g j := by
  split
  · rename_i h; rw [h.1, h.2, State.getF_setF_same]
  · rename_i h; exact State.getF_setF_ne s v (by simpa using h)

/-- Reading depends on the register file alone. -/
theorem State.getF_regs {s t : State} (h : t.regs = s.regs) (f : Fld) (i : Nat) : t.getF f i = s.getF f i := by
  unfold State.getF; rw [h]

/-- A one-bit field as a truth value after a register write. -/
@[simp] theorem State.flag_setF (s : State) (f g : Fld) (i j v : Nat) :
    (s.setF f i v).flag g j = if g = f ∧ j = i then v % 2 ^ f.width != 0 else s.flag g j := by
  unfold State.flag; rw [State.getF_setF]; split <;> rfl

/-- In a state whose values fit, a field's value is below 2 to its width. -/
theorem State.getF_lt {s : State} (h : s.regsOk) (f : Fld) (i : Nat) :
    s.getF f i < 2 ^ f.width := by
  have key : ∀ m : SMap (Fld × Nat) Nat, (∀ e ∈ m, e.2 < 2 ^ e.1.1.width) → mget fldDefault m (f, i) < 2 ^ f.width := by
    intro m hm
    induction m with
    | nil => exact fldDefault_lt (f, i)
    | cons e t ih =>
      obtain ⟨k, v⟩ := e
      simp only [mget]; split
      · rename_i hk; have := hm (k, v) (by simp); rw [hk] at this; exact this
      · exact ih fun e he => hm e (by simp [he])
  exact key s.regs h.2

/-! ### Effects on registers alone -/

/-- Writing a listed field keeps the frame of a chain of register writes. -/
theorem Sets.refl (s : State) : Sets s s [] := ⟨rfl, by simp, by simp⟩

/-- A register write after a chain of them, on a field the chain has not written. -/
theorem Sets.setF {s t : State} {l : List ((Fld × Nat) × Nat)} (h : Sets s t l) (f : Fld) (i v : Nat)
    (hn : ∀ e ∈ l, e.1 ≠ (f, i)) (hv : v < 2 ^ f.width) : Sets s (t.setF f i v) (l ++ [((f, i), v)]) := by
  obtain ⟨h1, h2, h3⟩ := h
  refine ⟨?_, ?_, ?_⟩
  · rw [h1]; rfl
  · intro e he
    rcases List.mem_append.1 he with he | he
    · rw [State.getF_setF_ne t v (hn e he)]; exact h2 e he
    · rw [List.mem_singleton.1 he]; show (t.setF f i v).getF f i = v
      rw [State.getF_setF_same, Nat.mod_eq_of_lt hv]
  · intro g j hg
    have hne : (g, j) ≠ (f, i) := fun h => hg ((f, i), v) (by simp) h.symm
    rw [State.getF_setF_ne t v hne]
    exact h3 g j fun e he => hg e (List.mem_append.2 (.inl he))

/-- Writing a field keeps the register file well formed. -/
theorem State.setF_regsOk {s : State} (h : s.regsOk) (f : Fld) (i v : Nat) : (s.setF f i v).regsOk := by
  refine ⟨mwf_mset fldOrd fldOrd_injective fldDefault _ _ _ h.1, fun e he => ?_⟩
  have he : e ∈ mset fldOrd fldDefault s.regs (f, i) (v % 2 ^ f.width) := he
  unfold mset at he; split at he
  · exact h.2 e (List.mem_filter.1 he).1
  · rcases mem_mins _ _ _ _ e he with rfl | he
    · exact Nat.mod_lt _ (Nat.pow_pos (by decide))
    · exact h.2 e (List.mem_filter.1 he).1

/-- Returning fields to their reset values keeps the register file well formed. -/
theorem State.dropF_regsOk {s : State} (h : s.regsOk) (p : Fld → Nat → Bool) : (s.dropF p).regsOk :=
  ⟨mwf_filter fldOrd fldDefault _ _ h.1, fun e he => h.2 e (List.mem_filter.1 he).1⟩

/-- Parts of the state that are no registers do not matter to the register file's form. -/
theorem State.regsOk_regs {s t : State} (h : t.regs = s.regs) (k : s.regsOk) : t.regsOk := by
  unfold State.regsOk; rw [h]; exact k

end Sys2Proof.Machine
end

