-- ==== Sys2Proof/Laws/Width.lean ====
section
/-! SUPPORT. The laws of the register tables: the width of every field, so that no proof computes one from the table. -/
namespace Sys2Proof.Machine

open Sys2Proof

@[simp] theorem width_PCI_LINK_STATUS_PM_STATE : Fld.PCI_LINK_STATUS_PM_STATE.width = 3 := (rfl)
@[simp] theorem width_PCI_LINK_STATUS_DEGRADED : Fld.PCI_LINK_STATUS_DEGRADED.width = 1 := (rfl)
@[simp] theorem width_PCI_LINK_STATUS_WIDTH : Fld.PCI_LINK_STATUS_WIDTH.width = 4 := (rfl)
@[simp] theorem width_PCI_LINK_STATUS_SPEED : Fld.PCI_LINK_STATUS_SPEED.width = 4 := (rfl)
@[simp] theorem width_PCI_LINK_CTRL_RETRAIN : Fld.PCI_LINK_CTRL_RETRAIN.width = 1 := (rfl)
@[simp] theorem width_PCI_LINK_CTRL_AUTO_DOWNSPEED : Fld.PCI_LINK_CTRL_AUTO_DOWNSPEED.width = 1 := (rfl)
@[simp] theorem width_PCI_LINK_CTRL_MAX_SPEED : Fld.PCI_LINK_CTRL_MAX_SPEED.width = 4 := (rfl)
@[simp] theorem width_PCI_LTR_BUSY_LATENCY_NS : Fld.PCI_LTR_BUSY_LATENCY_NS.width = 32 := (rfl)
@[simp] theorem width_PCI_LTR_IDLE_LATENCY_NS : Fld.PCI_LTR_IDLE_LATENCY_NS.width = 32 := (rfl)
@[simp] theorem width_PCI_RX_ERR_COUNT_COUNT : Fld.PCI_RX_ERR_COUNT_COUNT.width = 32 := (rfl)
@[simp] theorem width_PCI_REPLAY_COUNT_COUNT : Fld.PCI_REPLAY_COUNT_COUNT.width = 32 := (rfl)
@[simp] theorem width_PCI_DOWNSPEED_COUNT_COUNT : Fld.PCI_DOWNSPEED_COUNT_COUNT.width = 32 := (rfl)
@[simp] theorem width_PCI_MMIO_BAD_COUNT_COUNT : Fld.PCI_MMIO_BAD_COUNT_COUNT.width = 32 := (rfl)
@[simp] theorem width_PCI_PTM_LAST_T1_NS : Fld.PCI_PTM_LAST_T1_NS.width = 64 := (rfl)
@[simp] theorem width_SLC_SLICE_CTRL_STATE : Fld.SLC_SLICE_CTRL_STATE.width = 4 := (rfl)
@[simp] theorem width_SLC_SLICE_CTRL_CFG_STATUS : Fld.SLC_SLICE_CTRL_CFG_STATUS.width = 4 := (rfl)
@[simp] theorem width_SLC_SLICE_CTRL_NEW_ROUND : Fld.SLC_SLICE_CTRL_NEW_ROUND.width = 1 := (rfl)
@[simp] theorem width_SLC_SLICE_CTRL_RESET : Fld.SLC_SLICE_CTRL_RESET.width = 1 := (rfl)
@[simp] theorem width_SLC_SLICE_CTRL_PAUSE : Fld.SLC_SLICE_CTRL_PAUSE.width = 1 := (rfl)
@[simp] theorem width_SLC_SLICE_CTRL_LOG_EN : Fld.SLC_SLICE_CTRL_LOG_EN.width = 1 := (rfl)
@[simp] theorem width_SLC_SLICE_CTRL_ENABLE : Fld.SLC_SLICE_CTRL_ENABLE.width = 1 := (rfl)
@[simp] theorem width_SLC_SLICE_PASID_PASID_PENDING : Fld.SLC_SLICE_PASID_PASID_PENDING.width = 1 := (rfl)
@[simp] theorem width_SLC_SLICE_PASID_PASID_VALID : Fld.SLC_SLICE_PASID_PASID_VALID.width = 1 := (rfl)
@[simp] theorem width_SLC_SLICE_PASID_PASID : Fld.SLC_SLICE_PASID_PASID.width = 20 := (rfl)
@[simp] theorem width_SLC_SLICE_QUEUES_QCOUNT : Fld.SLC_SLICE_QUEUES_QCOUNT.width = 11 := (rfl)
@[simp] theorem width_SLC_SLICE_QUEUES_QBASE : Fld.SLC_SLICE_QUEUES_QBASE.width = 14 := (rfl)
@[simp] theorem width_SLC_SLICE_VECTORS_VCOUNT : Fld.SLC_SLICE_VECTORS_VCOUNT.width = 11 := (rfl)
@[simp] theorem width_SLC_SLICE_VECTORS_VBASE : Fld.SLC_SLICE_VECTORS_VBASE.width = 13 := (rfl)
@[simp] theorem width_SLC_SLICE_EVRINGS_ECOUNT : Fld.SLC_SLICE_EVRINGS_ECOUNT.width = 9 := (rfl)
@[simp] theorem width_SLC_SLICE_EVRINGS_EBASE : Fld.SLC_SLICE_EVRINGS_EBASE.width = 12 := (rfl)
@[simp] theorem width_SLC_SLICE_KEYS_KEY_QUOTA : Fld.SLC_SLICE_KEYS_KEY_QUOTA.width = 17 := (rfl)
@[simp] theorem width_SLC_SLICE_KEYS_USED_KEY_USED : Fld.SLC_SLICE_KEYS_USED_KEY_USED.width = 17 := (rfl)
@[simp] theorem width_SLC_SLICE_STREAMS_STREAM_USED : Fld.SLC_SLICE_STREAMS_STREAM_USED.width = 8 := (rfl)
@[simp] theorem width_SLC_SLICE_STREAMS_STREAM_QUOTA : Fld.SLC_SLICE_STREAMS_STREAM_QUOTA.width = 8 := (rfl)
@[simp] theorem width_SLC_SLICE_SEAL_QUOTA_BLOCKS : Fld.SLC_SLICE_SEAL_QUOTA_BLOCKS.width = 32 := (rfl)
@[simp] theorem width_SLC_SLICE_SEAL_USED_BLOCKS : Fld.SLC_SLICE_SEAL_USED_BLOCKS.width = 32 := (rfl)
@[simp] theorem width_SLC_T_STATUS_STATE : Fld.SLC_T_STATUS_STATE.width = 4 := (rfl)
@[simp] theorem width_SLC_T_STATUS_PASID : Fld.SLC_T_STATUS_PASID.width = 20 := (rfl)
@[simp] theorem width_SLC_T_GRANT_QCOUNT : Fld.SLC_T_GRANT_QCOUNT.width = 11 := (rfl)
@[simp] theorem width_SLC_T_GRANT_ECOUNT : Fld.SLC_T_GRANT_ECOUNT.width = 9 := (rfl)
@[simp] theorem width_SLC_T_VECTORS_VCOUNT : Fld.SLC_T_VECTORS_VCOUNT.width = 11 := (rfl)
@[simp] theorem width_SLC_T_MBX_M2T_VECTOR : Fld.SLC_T_MBX_M2T_VECTOR.width = 11 := (rfl)
@[simp] theorem width_SLC_T_MBX_M2T_IRQ_EN : Fld.SLC_T_MBX_M2T_IRQ_EN.width = 1 := (rfl)
@[simp] theorem width_SLC_T_MBX_M2T_ACK : Fld.SLC_T_MBX_M2T_ACK.width = 1 := (rfl)
@[simp] theorem width_SLC_T_MBX_M2T_FULL : Fld.SLC_T_MBX_M2T_FULL.width = 1 := (rfl)
@[simp] theorem width_SLC_T_MBX_T2M_FULL : Fld.SLC_T_MBX_T2M_FULL.width = 1 := (rfl)
@[simp] theorem width_SLC_T_MBX_T2M_SEND : Fld.SLC_T_MBX_T2M_SEND.width = 1 := (rfl)
@[simp] theorem width_SLC_SLICE_MBX_M2T_SEND : Fld.SLC_SLICE_MBX_M2T_SEND.width = 1 := (rfl)
@[simp] theorem width_SLC_SLICE_MBX_M2T_FULL : Fld.SLC_SLICE_MBX_M2T_FULL.width = 1 := (rfl)
@[simp] theorem width_SLC_SLICE_MBX_T2M_ACK : Fld.SLC_SLICE_MBX_T2M_ACK.width = 1 := (rfl)
@[simp] theorem width_SLC_SLICE_MBX_T2M_FULL : Fld.SLC_SLICE_MBX_T2M_FULL.width = 1 := (rfl)
@[simp] theorem width_SLC_SLICE_DPL_BASE_BASE : Fld.SLC_SLICE_DPL_BASE_BASE.width = 52 := (rfl)
@[simp] theorem width_SLC_SLICE_DPL_BASE_SIZE_LOG2 : Fld.SLC_SLICE_DPL_BASE_SIZE_LOG2.width = 5 := (rfl)
@[simp] theorem width_SLC_SLICE_DPL_PROD_OVERFLOW : Fld.SLC_SLICE_DPL_PROD_OVERFLOW.width = 1 := (rfl)
@[simp] theorem width_SLC_SLICE_DPL_PROD_PROD : Fld.SLC_SLICE_DPL_PROD_PROD.width = 20 := (rfl)
@[simp] theorem width_SLC_SLICE_DPL_CONS_CONS : Fld.SLC_SLICE_DPL_CONS_CONS.width = 20 := (rfl)
@[simp] theorem width_SLC_CFG_REFUSED_COUNT_COUNT : Fld.SLC_CFG_REFUSED_COUNT_COUNT.width = 32 := (rfl)
@[simp] theorem width_SLC_VEC_DROP_COUNT_COUNT : Fld.SLC_VEC_DROP_COUNT_COUNT.width = 32 := (rfl)
@[simp] theorem width_SLC_MBX_DROP_COUNT_COUNT : Fld.SLC_MBX_DROP_COUNT_COUNT.width = 32 := (rfl)
@[simp] theorem width_SLC_DPL_LOST_COUNT_COUNT : Fld.SLC_DPL_LOST_COUNT_COUNT.width = 32 := (rfl)
@[simp] theorem width_QC_RING_BASE_BASE : Fld.QC_RING_BASE_BASE.width = 52 := (rfl)
@[simp] theorem width_QC_RING_BASE_SIZE_LOG2 : Fld.QC_RING_BASE_SIZE_LOG2.width = 5 := (rfl)
@[simp] theorem width_QC_HEAD_ADDR_ADDR : Fld.QC_HEAD_ADDR_ADDR.width = 61 := (rfl)
@[simp] theorem width_QC_CTRL_STATE : Fld.QC_CTRL_STATE.width = 4 := (rfl)
@[simp] theorem width_QC_CTRL_WINDOW : Fld.QC_CTRL_WINDOW.width = 9 := (rfl)
@[simp] theorem width_QC_CTRL_EVRING : Fld.QC_CTRL_EVRING.width = 8 := (rfl)
@[simp] theorem width_QC_CTRL_EV_MODE : Fld.QC_CTRL_EV_MODE.width = 1 := (rfl)
@[simp] theorem width_QC_CTRL_EV_EN : Fld.QC_CTRL_EV_EN.width = 1 := (rfl)
@[simp] theorem width_QC_CTRL_RESET : Fld.QC_CTRL_RESET.width = 1 := (rfl)
@[simp] theorem width_QC_CTRL_ENABLE : Fld.QC_CTRL_ENABLE.width = 1 := (rfl)
@[simp] theorem width_QC_TAIL_TAIL : Fld.QC_TAIL_TAIL.width = 16 := (rfl)
@[simp] theorem width_QC_HEAD_WRAP : Fld.QC_HEAD_WRAP.width = 16 := (rfl)
@[simp] theorem width_QC_HEAD_HEAD : Fld.QC_HEAD_HEAD.width = 16 := (rfl)
@[simp] theorem width_QC_DONE_DONE : Fld.QC_DONE_DONE.width = 32 := (rfl)
@[simp] theorem width_QC_STATUS_PARKED : Fld.QC_STATUS_PARKED.width = 16 := (rfl)
@[simp] theorem width_QC_STATUS_OWN_WAIT : Fld.QC_STATUS_OWN_WAIT.width = 1 := (rfl)
@[simp] theorem width_QC_STATUS_INFLIGHT : Fld.QC_STATUS_INFLIGHT.width = 9 := (rfl)
@[simp] theorem width_QC_BAD_DOORBELL_COUNT_COUNT : Fld.QC_BAD_DOORBELL_COUNT_COUNT.width = 32 := (rfl)
@[simp] theorem width_QC_OWN_MISS_COUNT_COUNT : Fld.QC_OWN_MISS_COUNT_COUNT.width = 32 := (rfl)
@[simp] theorem width_EVR_BASE_BASE : Fld.EVR_BASE_BASE.width = 52 := (rfl)
@[simp] theorem width_EVR_BASE_SIZE_LOG2 : Fld.EVR_BASE_SIZE_LOG2.width = 5 := (rfl)
@[simp] theorem width_EVR_HEAD_ADDR_ADDR : Fld.EVR_HEAD_ADDR_ADDR.width = 61 := (rfl)
@[simp] theorem width_EVR_CTRL_VECTOR : Fld.EVR_CTRL_VECTOR.width = 10 := (rfl)
@[simp] theorem width_EVR_CTRL_COAL_TIME : Fld.EVR_CTRL_COAL_TIME.width = 10 := (rfl)
@[simp] theorem width_EVR_CTRL_COAL_COUNT : Fld.EVR_CTRL_COAL_COUNT.width = 8 := (rfl)
@[simp] theorem width_EVR_CTRL_IRQ_EN : Fld.EVR_CTRL_IRQ_EN.width = 1 := (rfl)
@[simp] theorem width_EVR_CTRL_ENABLE : Fld.EVR_CTRL_ENABLE.width = 1 := (rfl)
@[simp] theorem width_EVR_PROD_OVERFLOW : Fld.EVR_PROD_OVERFLOW.width = 1 := (rfl)
@[simp] theorem width_EVR_PROD_PROD : Fld.EVR_PROD_PROD.width = 16 := (rfl)
@[simp] theorem width_EVR_CONS_CONS : Fld.EVR_CONS_CONS.width = 16 := (rfl)
@[simp] theorem width_EVR_LOST_COUNT_COUNT : Fld.EVR_LOST_COUNT_COUNT.width = 32 := (rfl)
@[simp] theorem width_EVR_T_CONS_CONS : Fld.EVR_T_CONS_CONS.width = 16 := (rfl)
@[simp] theorem width_EVR_T_STATUS_OVERFLOW : Fld.EVR_T_STATUS_OVERFLOW.width = 1 := (rfl)
@[simp] theorem width_EVR_T_STATUS_PROD : Fld.EVR_T_STATUS_PROD.width = 16 := (rfl)
@[simp] theorem width_QE_BAD_DOORBELL_COUNT_COUNT : Fld.QE_BAD_DOORBELL_COUNT_COUNT.width = 32 := (rfl)
@[simp] theorem width_QE_CFG_REFUSED_COUNT_COUNT : Fld.QE_CFG_REFUSED_COUNT_COUNT.width = 32 := (rfl)
@[simp] theorem width_QE_SC_BAD_COMPLETE_COUNT_COUNT : Fld.QE_SC_BAD_COMPLETE_COUNT_COUNT.width = 32 := (rfl)
@[simp] theorem width_QE_EV_NOROUTE_COUNT_COUNT : Fld.QE_EV_NOROUTE_COUNT_COUNT.width = 32 := (rfl)
@[simp] theorem width_QE_EVR_BAD_CONS_COUNT_COUNT : Fld.QE_EVR_BAD_CONS_COUNT_COUNT.width = 32 := (rfl)
@[simp] theorem width_QE_SC_BASE_BASE : Fld.QE_SC_BASE_BASE.width = 52 := (rfl)
@[simp] theorem width_QE_SC_BASE_SIZE_LOG2 : Fld.QE_SC_BASE_SIZE_LOG2.width = 5 := (rfl)
@[simp] theorem width_QE_SC_CTRL_VECTOR : Fld.QE_SC_CTRL_VECTOR.width = 10 := (rfl)
@[simp] theorem width_QE_SC_CTRL_HOLDOFF : Fld.QE_SC_CTRL_HOLDOFF.width = 10 := (rfl)
@[simp] theorem width_QE_SC_CTRL_ENABLE : Fld.QE_SC_CTRL_ENABLE.width = 1 := (rfl)
@[simp] theorem width_QE_SC_PROD_PROD : Fld.QE_SC_PROD_PROD.width = 12 := (rfl)
@[simp] theorem width_QE_SC_COMPLETE_TAG : Fld.QE_SC_COMPLETE_TAG.width = 32 := (rfl)
@[simp] theorem width_QE_SC_COMPLETE_STATUS : Fld.QE_SC_COMPLETE_STATUS.width = 16 := (rfl)
@[simp] theorem width_QE_SC_OUTSTANDING_COUNT : Fld.QE_SC_OUTSTANDING_COUNT.width = 13 := (rfl)
@[simp] theorem width_QE_SC_TIMEOUT_MS : Fld.QE_SC_TIMEOUT_MS.width = 16 := (rfl)
@[simp] theorem width_SCH_CREDIT_TOTAL_TOTAL : Fld.SCH_CREDIT_TOTAL_TOTAL.width = 17 := (rfl)
@[simp] theorem width_SCH_CREDIT_FREE_FREE : Fld.SCH_CREDIT_FREE_FREE.width = 17 := (rfl)
@[simp] theorem width_SCH_RESERVE_USE_COUNT_COUNT : Fld.SCH_RESERVE_USE_COUNT_COUNT.width = 32 := (rfl)
@[simp] theorem width_SCH_SENIOR_STAMP_STAMP : Fld.SCH_SENIOR_STAMP_STAMP.width = 64 := (rfl)
@[simp] theorem width_SCH_SENIOR_QUEUE_VALID : Fld.SCH_SENIOR_QUEUE_VALID.width = 1 := (rfl)
@[simp] theorem width_SCH_SENIOR_QUEUE_QUEUE : Fld.SCH_SENIOR_QUEUE_QUEUE.width = 14 := (rfl)
@[simp] theorem width_SCH_PARK_USED_SLOTS : Fld.SCH_PARK_USED_SLOTS.width = 21 := (rfl)
@[simp] theorem width_SCH_PARK_HOLD_COUNT_COUNT : Fld.SCH_PARK_HOLD_COUNT_COUNT.width = 32 := (rfl)
@[simp] theorem width_SCH_QUANTUM_QUANTUM : Fld.SCH_QUANTUM_QUANTUM.width = 24 := (rfl)
@[simp] theorem width_SCH_REEXEC_COUNT_COUNT : Fld.SCH_REEXEC_COUNT_COUNT.width = 32 := (rfl)
@[simp] theorem width_SCH_ABORT_COUNT_COUNT : Fld.SCH_ABORT_COUNT_COUNT.width = 32 := (rfl)
@[simp] theorem width_SCH_FLUSH_COUNT_COUNT : Fld.SCH_FLUSH_COUNT_COUNT.width = 32 := (rfl)
@[simp] theorem width_SCH_STAMP_NEXT_STAMP : Fld.SCH_STAMP_NEXT_STAMP.width = 64 := (rfl)
@[simp] theorem width_MAR_CORE_ENABLE_EN : Fld.MAR_CORE_ENABLE_EN.width = 32 := (rfl)
@[simp] theorem width_MAR_CORE_ONLINE_ONLINE : Fld.MAR_CORE_ONLINE_ONLINE.width = 32 := (rfl)
@[simp] theorem width_MAR_CFG_REFUSED_COUNT_COUNT : Fld.MAR_CFG_REFUSED_COUNT_COUNT.width = 32 := (rfl)
@[simp] theorem width_MAR_ECC_CORRECTED_COUNT_COUNT : Fld.MAR_ECC_CORRECTED_COUNT_COUNT.width = 32 := (rfl)
@[simp] theorem width_MAR_ECC_UNCORRECTED_COUNT_COUNT : Fld.MAR_ECC_UNCORRECTED_COUNT_COUNT.width = 32 := (rfl)
@[simp] theorem width_MAR_CORE_RESET_COUNT_COUNT : Fld.MAR_CORE_RESET_COUNT_COUNT.width = 32 := (rfl)
@[simp] theorem width_MAR_TAG_FAULT_COUNT_COUNT : Fld.MAR_TAG_FAULT_COUNT_COUNT.width = 32 := (rfl)
@[simp] theorem width_MAR_SUSPEND_COUNT_COUNT : Fld.MAR_SUSPEND_COUNT_COUNT.width = 32 := (rfl)
@[simp] theorem width_MAR_TEAM_HOLD_COUNT_COUNT : Fld.MAR_TEAM_HOLD_COUNT_COUNT.width = 32 := (rfl)
@[simp] theorem width_MAR_IMAGE_VERSION_VERSION : Fld.MAR_IMAGE_VERSION_VERSION.width = 32 := (rfl)
@[simp] theorem width_MAR_KREGION_FREE_BUNDLES : Fld.MAR_KREGION_FREE_BUNDLES.width = 12 := (rfl)
@[simp] theorem width_MAR_SCRATCH_FREE_PAGES : Fld.MAR_SCRATCH_FREE_PAGES.width = 6 := (rfl)
@[simp] theorem width_MAR_CORE_STATUS_STATE : Fld.MAR_CORE_STATUS_STATE.width = 4 := (rfl)
@[simp] theorem width_MAR_CORE_STATUS_RUN_SLOT : Fld.MAR_CORE_STATUS_RUN_SLOT.width = 2 := (rfl)
@[simp] theorem width_MAR_CORE_STATUS_SUSPENDED : Fld.MAR_CORE_STATUS_SUSPENDED.width = 4 := (rfl)
@[simp] theorem width_MAR_CORE_STATUS_SCRUBBING : Fld.MAR_CORE_STATUS_SCRUBBING.width = 4 := (rfl)
@[simp] theorem width_MAR_CORE_STATUS_DRAINING : Fld.MAR_CORE_STATUS_DRAINING.width = 4 := (rfl)
@[simp] theorem width_MAR_CORE_STATUS_READY : Fld.MAR_CORE_STATUS_READY.width = 4 := (rfl)
@[simp] theorem width_MAR_CORE_STATUS_LOADING : Fld.MAR_CORE_STATUS_LOADING.width = 4 := (rfl)
@[simp] theorem width_MAR_CORE_STATUS_FREE : Fld.MAR_CORE_STATUS_FREE.width = 4 := (rfl)
@[simp] theorem width_MAR_KERNEL_FAULT_COUNT_COUNT : Fld.MAR_KERNEL_FAULT_COUNT_COUNT.width = 32 := (rfl)
@[simp] theorem width_MAR_FAULT_INFO_VALID : Fld.MAR_FAULT_INFO_VALID.width = 1 := (rfl)
@[simp] theorem width_MAR_FAULT_INFO_PRECISE : Fld.MAR_FAULT_INFO_PRECISE.width = 1 := (rfl)
@[simp] theorem width_MAR_FAULT_INFO_ENGINE : Fld.MAR_FAULT_INFO_ENGINE.width = 1 := (rfl)
@[simp] theorem width_MAR_FAULT_INFO_LANE : Fld.MAR_FAULT_INFO_LANE.width = 8 := (rfl)
@[simp] theorem width_MAR_FAULT_INFO_SOCKET : Fld.MAR_FAULT_INFO_SOCKET.width = 8 := (rfl)
@[simp] theorem width_MAR_FAULT_INFO_CAUSE : Fld.MAR_FAULT_INFO_CAUSE.width = 8 := (rfl)
@[simp] theorem width_MAR_FAULT_PC_KERNEL : Fld.MAR_FAULT_PC_KERNEL.width = 16 := (rfl)
@[simp] theorem width_MAR_FAULT_PC_SLOT : Fld.MAR_FAULT_PC_SLOT.width = 2 := (rfl)
@[simp] theorem width_MAR_FAULT_PC_BUNDLE : Fld.MAR_FAULT_PC_BUNDLE.width = 13 := (rfl)
@[simp] theorem width_MAR_FAULT_RESUME_GO : Fld.MAR_FAULT_RESUME_GO.width = 1 := (rfl)
@[simp] theorem width_MAR_FAULT_RESUME_START_LANE : Fld.MAR_FAULT_RESUME_START_LANE.width = 8 := (rfl)
@[simp] theorem width_HSH_CORE_ENABLE_EN : Fld.HSH_CORE_ENABLE_EN.width = 32 := (rfl)
@[simp] theorem width_HSH_CORE_ONLINE_ONLINE : Fld.HSH_CORE_ONLINE_ONLINE.width = 32 := (rfl)
@[simp] theorem width_HSH_CFG_REFUSED_COUNT_COUNT : Fld.HSH_CFG_REFUSED_COUNT_COUNT.width = 32 := (rfl)
@[simp] theorem width_HSH_STREAM_LIMIT_BLOCKS : Fld.HSH_STREAM_LIMIT_BLOCKS.width = 8 := (rfl)
@[simp] theorem width_HSH_SESSIONS_OPEN_COUNT : Fld.HSH_SESSIONS_OPEN_COUNT.width = 10 := (rfl)
@[simp] theorem width_HSH_CHECK_ERROR_COUNT_COUNT : Fld.HSH_CHECK_ERROR_COUNT_COUNT.width = 32 := (rfl)
@[simp] theorem width_HSH_CALL_RETRY_COUNT_COUNT : Fld.HSH_CALL_RETRY_COUNT_COUNT.width = 32 := (rfl)
@[simp] theorem width_HSH_SESSION_FAIL_COUNT_COUNT : Fld.HSH_SESSION_FAIL_COUNT_COUNT.width = 32 := (rfl)
@[simp] theorem width_HSH_STORE_CORRECTED_COUNT_COUNT : Fld.HSH_STORE_CORRECTED_COUNT_COUNT.width = 32 := (rfl)
@[simp] theorem width_HSH_BORROW_COUNT_COUNT : Fld.HSH_BORROW_COUNT_COUNT.width = 32 := (rfl)
@[simp] theorem width_HSH_MASK_STALL_COUNT_COUNT : Fld.HSH_MASK_STALL_COUNT_COUNT.width = 32 := (rfl)
@[simp] theorem width_HSH_CORE_OFFLINE_COUNT_COUNT : Fld.HSH_CORE_OFFLINE_COUNT_COUNT.width = 32 := (rfl)
@[simp] theorem width_HSH_CALL_COUNT_COUNT : Fld.HSH_CALL_COUNT_COUNT.width = 64 := (rfl)
@[simp] theorem width_CDE_UNIT_ENABLE_EN : Fld.CDE_UNIT_ENABLE_EN.width = 3 := (rfl)
@[simp] theorem width_CDE_UNIT_ONLINE_ONLINE : Fld.CDE_UNIT_ONLINE_ONLINE.width = 3 := (rfl)
@[simp] theorem width_CDE_CFG_REFUSED_COUNT_COUNT : Fld.CDE_CFG_REFUSED_COUNT_COUNT.width = 32 := (rfl)
@[simp] theorem width_CDE_ECC_CORRECTED_COUNT_COUNT : Fld.CDE_ECC_CORRECTED_COUNT_COUNT.width = 32 := (rfl)
@[simp] theorem width_CDE_ECC_UNCORRECTED_COUNT_COUNT : Fld.CDE_ECC_UNCORRECTED_COUNT_COUNT.width = 32 := (rfl)
@[simp] theorem width_CDE_CHECK_ERROR_COUNT_COUNT : Fld.CDE_CHECK_ERROR_COUNT_COUNT.width = 32 := (rfl)
@[simp] theorem width_CDE_UNIT_RESET_COUNT_COUNT : Fld.CDE_UNIT_RESET_COUNT_COUNT.width = 32 := (rfl)
@[simp] theorem width_CDE_KEYGEN_COUNT_COUNT : Fld.CDE_KEYGEN_COUNT_COUNT.width = 32 := (rfl)
@[simp] theorem width_CDE_KEYGEN_ATTEMPT_COUNT_COUNT : Fld.CDE_KEYGEN_ATTEMPT_COUNT_COUNT.width = 32 := (rfl)
@[simp] theorem width_CDE_KEYGEN_REPLACED_SEED_COUNT_COUNT : Fld.CDE_KEYGEN_REPLACED_SEED_COUNT_COUNT.width = 32 := (rfl)
@[simp] theorem width_CDE_PCT_FAIL_COUNT_COUNT : Fld.CDE_PCT_FAIL_COUNT_COUNT.width = 32 := (rfl)
@[simp] theorem width_CDE_UNIT_STATUS_STATE : Fld.CDE_UNIT_STATUS_STATE.width = 4 := (rfl)
@[simp] theorem width_CDE_UNIT_STATUS_SET : Fld.CDE_UNIT_STATUS_SET.width = 4 := (rfl)
@[simp] theorem width_CDE_UNIT_STATUS_PARAMSET : Fld.CDE_UNIT_STATUS_PARAMSET.width = 8 := (rfl)
@[simp] theorem width_CDE_UNIT_STATUS_BUSY : Fld.CDE_UNIT_STATUS_BUSY.width = 2 := (rfl)
@[simp] theorem width_BGN_MUL_ENABLE_EN : Fld.BGN_MUL_ENABLE_EN.width = 4 := (rfl)
@[simp] theorem width_BGN_MUL_ONLINE_ONLINE : Fld.BGN_MUL_ONLINE_ONLINE.width = 4 := (rfl)
@[simp] theorem width_BGN_CFG_REFUSED_COUNT_COUNT : Fld.BGN_CFG_REFUSED_COUNT_COUNT.width = 32 := (rfl)
@[simp] theorem width_BGN_ECC_CORRECTED_COUNT_COUNT : Fld.BGN_ECC_CORRECTED_COUNT_COUNT.width = 32 := (rfl)
@[simp] theorem width_BGN_ECC_UNCORRECTED_COUNT_COUNT : Fld.BGN_ECC_UNCORRECTED_COUNT_COUNT.width = 32 := (rfl)
@[simp] theorem width_BGN_CHECK_ERROR_COUNT_COUNT : Fld.BGN_CHECK_ERROR_COUNT_COUNT.width = 32 := (rfl)
@[simp] theorem width_BGN_COMPARE_MISMATCH_COUNT_COUNT : Fld.BGN_COMPARE_MISMATCH_COUNT_COUNT.width = 32 := (rfl)
@[simp] theorem width_BGN_INPUT_REJECT_COUNT_COUNT : Fld.BGN_INPUT_REJECT_COUNT_COUNT.width = 32 := (rfl)
@[simp] theorem width_BGN_SECRET_REJECT_COUNT_COUNT : Fld.BGN_SECRET_REJECT_COUNT_COUNT.width = 32 := (rfl)
@[simp] theorem width_BGN_ERASE_COUNT_COUNT : Fld.BGN_ERASE_COUNT_COUNT.width = 32 := (rfl)
@[simp] theorem width_BGN_ERASE_LAST_FC : Fld.BGN_ERASE_LAST_FC.width = 8 := (rfl)
@[simp] theorem width_BGN_BLIND_REKEY_COUNT_COUNT : Fld.BGN_BLIND_REKEY_COUNT_COUNT.width = 32 := (rfl)
@[simp] theorem width_BGN_MUL_STATUS_STATE : Fld.BGN_MUL_STATUS_STATE.width = 4 := (rfl)
@[simp] theorem width_BGN_MUL_STATUS_SLOTS : Fld.BGN_MUL_STATUS_SLOTS.width = 4 := (rfl)
@[simp] theorem width_STR_PIPE_ENABLE_EN : Fld.STR_PIPE_ENABLE_EN.width = 2 := (rfl)
@[simp] theorem width_STR_PIPE_ONLINE_ONLINE : Fld.STR_PIPE_ONLINE_ONLINE.width = 2 := (rfl)
@[simp] theorem width_STR_CFG_REFUSED_COUNT_COUNT : Fld.STR_CFG_REFUSED_COUNT_COUNT.width = 32 := (rfl)
@[simp] theorem width_STR_SLICE_BYTES_BYTES : Fld.STR_SLICE_BYTES_BYTES.width = 24 := (rfl)
@[simp] theorem width_STR_CHECK_ERROR_COUNT_COUNT : Fld.STR_CHECK_ERROR_COUNT_COUNT.width = 32 := (rfl)
@[simp] theorem width_STR_TAG_MISMATCH_COUNT_COUNT : Fld.STR_TAG_MISMATCH_COUNT_COUNT.width = 32 := (rfl)
@[simp] theorem width_STR_YIELD_COUNT_COUNT : Fld.STR_YIELD_COUNT_COUNT.width = 32 := (rfl)
@[simp] theorem width_STR_ERASE_COUNT_COUNT : Fld.STR_ERASE_COUNT_COUNT.width = 32 := (rfl)
@[simp] theorem width_STR_ERASE_LAST_FC : Fld.STR_ERASE_LAST_FC.width = 8 := (rfl)
@[simp] theorem width_STR_PIPE_BYTES_COUNT : Fld.STR_PIPE_BYTES_COUNT.width = 64 := (rfl)
@[simp] theorem width_ENT_STATUS_READY : Fld.ENT_STATUS_READY.width = 1 := (rfl)
@[simp] theorem width_ENT_STATUS_STATE : Fld.ENT_STATUS_STATE.width = 3 := (rfl)
@[simp] theorem width_ENT_STATUS_CELL_OK : Fld.ENT_STATUS_CELL_OK.width = 8 := (rfl)
@[simp] theorem width_ENT_WAIT_LIMIT_MS : Fld.ENT_WAIT_LIMIT_MS.width = 10 := (rfl)
@[simp] theorem width_ENT_CELL_ENABLE_EN : Fld.ENT_CELL_ENABLE_EN.width = 8 := (rfl)
@[simp] theorem width_ENT_CFG_REFUSED_COUNT_COUNT : Fld.ENT_CFG_REFUSED_COUNT_COUNT.width = 32 := (rfl)
@[simp] theorem width_ENT_RESTART_FAIL_COUNT_COUNT : Fld.ENT_RESTART_FAIL_COUNT_COUNT.width = 32 := (rfl)
@[simp] theorem width_ENT_STALL_COUNT_COUNT : Fld.ENT_STALL_COUNT_COUNT.width = 32 := (rfl)
@[simp] theorem width_ENT_TIMEOUT_COUNT_COUNT : Fld.ENT_TIMEOUT_COUNT_COUNT.width = 32 := (rfl)
@[simp] theorem width_ENT_COND_COUNT_COUNT : Fld.ENT_COND_COUNT_COUNT.width = 64 := (rfl)
@[simp] theorem width_ENT_SW_DATA_DATA : Fld.ENT_SW_DATA_DATA.width = 64 := (rfl)
@[simp] theorem width_ENT_SW_STATUS_CODE : Fld.ENT_SW_STATUS_CODE.width = 16 := (rfl)
@[simp] theorem width_ENT_CELL_FAIL_LAST_TEST : Fld.ENT_CELL_FAIL_LAST_TEST.width = 4 := (rfl)
@[simp] theorem width_ENT_CELL_FAIL_COUNT : Fld.ENT_CELL_FAIL_COUNT.width = 24 := (rfl)
@[simp] theorem width_ENT_DRBG_STATUS_STALLED : Fld.ENT_DRBG_STATUS_STALLED.width = 1 := (rfl)
@[simp] theorem width_ENT_DRBG_STATUS_CALLS : Fld.ENT_DRBG_STATUS_CALLS.width = 25 := (rfl)
@[simp] theorem width_KV_STATUS_OPEN : Fld.KV_STATUS_OPEN.width = 1 := (rfl)
@[simp] theorem width_KV_STATUS_BBK_VALID : Fld.KV_STATUS_BBK_VALID.width = 1 := (rfl)
@[simp] theorem width_KV_STATUS_KEYS : Fld.KV_STATUS_KEYS.width = 17 := (rfl)
@[simp] theorem width_KV_HOT_USED_LINES : Fld.KV_HOT_USED_LINES.width = 17 := (rfl)
@[simp] theorem width_KV_WINDOW_BLOCKS_BLOCKS : Fld.KV_WINDOW_BLOCKS_BLOCKS.width = 13 := (rfl)
@[simp] theorem width_KV_QUARANTINED_KEYS_COUNT : Fld.KV_QUARANTINED_KEYS_COUNT.width = 17 := (rfl)
@[simp] theorem width_KV_HOT_MISS_COUNT_COUNT : Fld.KV_HOT_MISS_COUNT_COUNT.width = 32 := (rfl)
@[simp] theorem width_KV_HOT_EVICT_COUNT_COUNT : Fld.KV_HOT_EVICT_COUNT_COUNT.width = 32 := (rfl)
@[simp] theorem width_KV_HOT_CORRECTED_COUNT_COUNT : Fld.KV_HOT_CORRECTED_COUNT_COUNT.width = 32 := (rfl)
@[simp] theorem width_KV_TABLE_FULL_COUNT_COUNT : Fld.KV_TABLE_FULL_COUNT_COUNT.width = 32 := (rfl)
@[simp] theorem width_KV_RESERVE_COUNT_COUNT : Fld.KV_RESERVE_COUNT_COUNT.width = 32 := (rfl)
@[simp] theorem width_KV_CEIL_WAIT_COUNT_COUNT : Fld.KV_CEIL_WAIT_COUNT_COUNT.width = 32 := (rfl)
@[simp] theorem width_KV_TB_ERASED_COUNT_COUNT : Fld.KV_TB_ERASED_COUNT_COUNT.width = 32 := (rfl)
@[simp] theorem width_KV_ABANDONED_INDICES_COUNT : Fld.KV_ABANDONED_INDICES_COUNT.width = 64 := (rfl)
@[simp] theorem width_KV_EVENT_TABLE_FULL : Fld.KV_EVENT_TABLE_FULL.width = 1 := (rfl)
@[simp] theorem width_KV_EVENT_TB_ERASED : Fld.KV_EVENT_TB_ERASED.width = 1 := (rfl)
@[simp] theorem width_KV_EVENT_QUARANTINE : Fld.KV_EVENT_QUARANTINE.width = 1 := (rfl)
@[simp] theorem width_KV_EVENT_CEIL_NEAR : Fld.KV_EVENT_CEIL_NEAR.width = 1 := (rfl)
@[simp] theorem width_KV_EVENT_EN_EN : Fld.KV_EVENT_EN_EN.width = 4 := (rfl)
@[simp] theorem width_QRE_STATUS_READY : Fld.QRE_STATUS_READY.width = 1 := (rfl)
@[simp] theorem width_QRE_STATUS_OPEN : Fld.QRE_STATUS_OPEN.width = 9 := (rfl)
@[simp] theorem width_QRE_STREAM_RELEASE_GO : Fld.QRE_STREAM_RELEASE_GO.width = 1 := (rfl)
@[simp] theorem width_QRE_STREAM_RELEASE_STREAM : Fld.QRE_STREAM_RELEASE_STREAM.width = 8 := (rfl)
@[simp] theorem width_QRE_CFG_REFUSED_COUNT_COUNT : Fld.QRE_CFG_REFUSED_COUNT_COUNT.width = 32 := (rfl)
@[simp] theorem width_QRE_HOLD_COUNT_COUNT : Fld.QRE_HOLD_COUNT_COUNT.width = 32 := (rfl)
@[simp] theorem width_QRE_APPEND_COUNT_COUNT : Fld.QRE_APPEND_COUNT_COUNT.width = 64 := (rfl)
@[simp] theorem width_QRE_VOID_COUNT_COUNT : Fld.QRE_VOID_COUNT_COUNT.width = 32 := (rfl)
@[simp] theorem width_QRE_SHORT_COUNT_COUNT : Fld.QRE_SHORT_COUNT_COUNT.width = 32 := (rfl)
@[simp] theorem width_QRE_JOURNAL_QUEUED_COUNT : Fld.QRE_JOURNAL_QUEUED_COUNT.width = 11 := (rfl)
@[simp] theorem width_QRE_JOURNAL_DROP_COUNT_COUNT : Fld.QRE_JOURNAL_DROP_COUNT_COUNT.width = 32 := (rfl)
@[simp] theorem width_QRE_STREAM_STATE_STATE : Fld.QRE_STREAM_STATE_STATE.width = 4 := (rfl)
@[simp] theorem width_QRE_STREAM_STATE_SHORT : Fld.QRE_STREAM_STATE_SHORT.width = 1 := (rfl)
@[simp] theorem width_QRE_STREAM_STATE_HASH : Fld.QRE_STREAM_STATE_HASH.width = 8 := (rfl)
@[simp] theorem width_QRE_STREAM_STATE_OWNER : Fld.QRE_STREAM_STATE_OWNER.width = 12 := (rfl)
@[simp] theorem width_QRE_STREAM_SIZE_SIZE : Fld.QRE_STREAM_SIZE_SIZE.width = 64 := (rfl)
@[simp] theorem width_SEAL_STATUS_STATE : Fld.SEAL_STATUS_STATE.width = 4 := (rfl)
@[simp] theorem width_SEAL_STATUS_OPEN_RESULT : Fld.SEAL_STATUS_OPEN_RESULT.width = 4 := (rfl)
@[simp] theorem width_SEAL_STATUS_BRACED : Fld.SEAL_STATUS_BRACED.width = 1 := (rfl)
@[simp] theorem width_SEAL_STATUS_EPOCH : Fld.SEAL_STATUS_EPOCH.width = 13 := (rfl)
@[simp] theorem width_SEAL_CTRL_CONFIRM : Fld.SEAL_CTRL_CONFIRM.width = 16 := (rfl)
@[simp] theorem width_SEAL_CTRL_FORMAT : Fld.SEAL_CTRL_FORMAT.width = 1 := (rfl)
@[simp] theorem width_SEAL_CTRL_FORCE_OPEN : Fld.SEAL_CTRL_FORCE_OPEN.width = 1 := (rfl)
@[simp] theorem width_SEAL_CTRL_OPEN : Fld.SEAL_CTRL_OPEN.width = 1 := (rfl)
@[simp] theorem width_SEAL_STORAGE_LIMIT_MS : Fld.SEAL_STORAGE_LIMIT_MS.width = 16 := (rfl)
@[simp] theorem width_SEAL_RETRY_TIME_MS : Fld.SEAL_RETRY_TIME_MS.width = 10 := (rfl)
@[simp] theorem width_SEAL_GROUP_TIME_US : Fld.SEAL_GROUP_TIME_US.width = 10 := (rfl)
@[simp] theorem width_SEAL_COMMIT_COMMIT : Fld.SEAL_COMMIT_COMMIT.width = 64 := (rfl)
@[simp] theorem width_SEAL_ANCHOR_COMMIT_COMMIT : Fld.SEAL_ANCHOR_COMMIT_COMMIT.width = 64 := (rfl)
@[simp] theorem width_SEAL_ANCHOR_STATUS_VALID : Fld.SEAL_ANCHOR_STATUS_VALID.width = 1 := (rfl)
@[simp] theorem width_SEAL_ANCHOR_STATUS_EPOCH : Fld.SEAL_ANCHOR_STATUS_EPOCH.width = 13 := (rfl)
@[simp] theorem width_SEAL_CFG_REFUSED_COUNT_COUNT : Fld.SEAL_CFG_REFUSED_COUNT_COUNT.width = 32 := (rfl)
@[simp] theorem width_SEAL_FETCH_COUNT_COUNT : Fld.SEAL_FETCH_COUNT_COUNT.width = 32 := (rfl)
@[simp] theorem width_SEAL_REPOST_COUNT_COUNT : Fld.SEAL_REPOST_COUNT_COUNT.width = 32 := (rfl)
@[simp] theorem width_SEAL_INTEGRITY_FAIL_COUNT_COUNT : Fld.SEAL_INTEGRITY_FAIL_COUNT_COUNT.width = 32 := (rfl)
@[simp] theorem width_SEAL_TIMEOUT_COUNT_COUNT : Fld.SEAL_TIMEOUT_COUNT_COUNT.width = 32 := (rfl)
@[simp] theorem width_SEAL_SC_BUF_BASE : Fld.SEAL_SC_BUF_BASE.width = 48 := (rfl)
@[simp] theorem width_SEAL_RANGE_KV_SPAN : Fld.SEAL_RANGE_KV_SPAN.width = 31 := (rfl)
@[simp] theorem width_SEAL_RANGE_KV_BASE : Fld.SEAL_RANGE_KV_BASE.width = 31 := (rfl)
@[simp] theorem width_SEAL_RANGE_QRE_SPAN : Fld.SEAL_RANGE_QRE_SPAN.width = 31 := (rfl)
@[simp] theorem width_SEAL_RANGE_QRE_BASE : Fld.SEAL_RANGE_QRE_BASE.width = 31 := (rfl)
@[simp] theorem width_SEAL_RANGE_SLICE_SPAN : Fld.SEAL_RANGE_SLICE_SPAN.width = 31 := (rfl)
@[simp] theorem width_SEAL_RANGE_SLICE_BASE : Fld.SEAL_RANGE_SLICE_BASE.width = 31 := (rfl)
@[simp] theorem width_TIM_STATUS_GRADE : Fld.TIM_STATUS_GRADE.width = 2 := (rfl)
@[simp] theorem width_TIM_STATUS_HAS_TIME : Fld.TIM_STATUS_HAS_TIME.width = 1 := (rfl)
@[simp] theorem width_TIM_STATUS_POLICY_LIMITED : Fld.TIM_STATUS_POLICY_LIMITED.width = 1 := (rfl)
@[simp] theorem width_TIM_STATUS_SLEWING : Fld.TIM_STATUS_SLEWING.width = 1 := (rfl)
@[simp] theorem width_TIM_STATUS_REF10M_OK : Fld.TIM_STATUS_REF10M_OK.width = 1 := (rfl)
@[simp] theorem width_TIM_STATUS_LOCK_RUN : Fld.TIM_STATUS_LOCK_RUN.width = 5 := (rfl)
@[simp] theorem width_TIM_CTRL_PPS_OUT_EN : Fld.TIM_CTRL_PPS_OUT_EN.width = 1 := (rfl)
@[simp] theorem width_TIM_CTRL_REF10M_EN : Fld.TIM_CTRL_REF10M_EN.width = 1 := (rfl)
@[simp] theorem width_TIM_CTRL_STEP_EN : Fld.TIM_CTRL_STEP_EN.width = 1 := (rfl)
@[simp] theorem width_TIM_CTRL_SOURCE : Fld.TIM_CTRL_SOURCE.width = 2 := (rfl)
@[simp] theorem width_TIM_FREQ_BOUND_PPB : Fld.TIM_FREQ_BOUND_PPB.width = 20 := (rfl)
@[simp] theorem width_TIM_SLEW_RATE_PPM : Fld.TIM_SLEW_RATE_PPM.width = 10 := (rfl)
@[simp] theorem width_TIM_STEP_THRESHOLD_NS : Fld.TIM_STEP_THRESHOLD_NS.width = 32 := (rfl)
@[simp] theorem width_TIM_LOCK_THRESHOLD_NS : Fld.TIM_LOCK_THRESHOLD_NS.width = 32 := (rfl)
@[simp] theorem width_TIM_HOLDOVER_LIMIT_S : Fld.TIM_HOLDOVER_LIMIT_S.width = 24 := (rfl)
@[simp] theorem width_TIM_PPS_DELAY_NS : Fld.TIM_PPS_DELAY_NS.width = 32 := (rfl)
@[simp] theorem width_TIM_TOD_NEXT_VALID : Fld.TIM_TOD_NEXT_VALID.width = 1 := (rfl)
@[simp] theorem width_TIM_TOD_NEXT_SECONDS : Fld.TIM_TOD_NEXT_SECONDS.width = 48 := (rfl)
@[simp] theorem width_TIM_SET_SEC_GO : Fld.TIM_SET_SEC_GO.width = 1 := (rfl)
@[simp] theorem width_TIM_SET_SEC_SECONDS : Fld.TIM_SET_SEC_SECONDS.width = 48 := (rfl)
@[simp] theorem width_TIM_SET_NS_NS : Fld.TIM_SET_NS_NS.width = 30 := (rfl)
@[simp] theorem width_TIM_PTM_OFFSET_NS : Fld.TIM_PTM_OFFSET_NS.width = 64 := (rfl)
@[simp] theorem width_TIM_PTM_INTERVAL_MS : Fld.TIM_PTM_INTERVAL_MS.width = 10 := (rfl)
@[simp] theorem width_TIM_PPS_OUT_WIDTH_MS : Fld.TIM_PPS_OUT_WIDTH_MS.width = 9 := (rfl)
@[simp] theorem width_TIM_PPS_OUT_PHASE_NS : Fld.TIM_PPS_OUT_PHASE_NS.width = 32 := (rfl)
@[simp] theorem width_TIM_SOURCE_ERROR_NS : Fld.TIM_SOURCE_ERROR_NS.width = 32 := (rfl)
@[simp] theorem width_TIM_NOW_NS_NS : Fld.TIM_NOW_NS_NS.width = 30 := (rfl)
@[simp] theorem width_TIM_NOW_SUBNS_SUBNS : Fld.TIM_NOW_SUBNS_SUBNS.width = 32 := (rfl)
@[simp] theorem width_TIM_NOW_SEC_SECONDS : Fld.TIM_NOW_SEC_SECONDS.width = 48 := (rfl)
@[simp] theorem width_TIM_FREQ_CORR_F : Fld.TIM_FREQ_CORR_F.width = 32 := (rfl)
@[simp] theorem width_TIM_LAST_OFFSET_NS : Fld.TIM_LAST_OFFSET_NS.width = 32 := (rfl)
@[simp] theorem width_TIM_SLEW_REMAIN_NS : Fld.TIM_SLEW_REMAIN_NS.width = 64 := (rfl)
@[simp] theorem width_TIM_AO_TRIM_PPB : Fld.TIM_AO_TRIM_PPB.width = 32 := (rfl)
@[simp] theorem width_TIM_STEP_COUNT_COUNT : Fld.TIM_STEP_COUNT_COUNT.width = 32 := (rfl)
@[simp] theorem width_TIM_POLICY_LIMIT_COUNT_COUNT : Fld.TIM_POLICY_LIMIT_COUNT_COUNT.width = 32 := (rfl)
@[simp] theorem width_TIM_SOURCE_LOSS_COUNT_COUNT : Fld.TIM_SOURCE_LOSS_COUNT_COUNT.width = 32 := (rfl)
@[simp] theorem width_TIM_COPY_CORRECTED_COUNT_COUNT : Fld.TIM_COPY_CORRECTED_COUNT_COUNT.width = 32 := (rfl)
@[simp] theorem width_GLB_STATUS_READY : Fld.GLB_STATUS_READY.width = 1 := (rfl)
@[simp] theorem width_GLB_STATUS_BOOT_STATE : Fld.GLB_STATUS_BOOT_STATE.width = 3 := (rfl)
@[simp] theorem width_GLB_STATUS_BOOT_SLOT : Fld.GLB_STATUS_BOOT_SLOT.width = 2 := (rfl)
@[simp] theorem width_GLB_STATUS_SELFTEST_DEGRADED : Fld.GLB_STATUS_SELFTEST_DEGRADED.width = 1 := (rfl)
@[simp] theorem width_GLB_STATUS_PROG_BUSY : Fld.GLB_STATUS_PROG_BUSY.width = 1 := (rfl)
@[simp] theorem width_GLB_STATUS_PROG_FAIL : Fld.GLB_STATUS_PROG_FAIL.width = 1 := (rfl)
@[simp] theorem width_GLB_STATUS_BOOT_ERROR : Fld.GLB_STATUS_BOOT_ERROR.width = 4 := (rfl)
@[simp] theorem width_GLB_BOOT_CTRL_CONFIRM : Fld.GLB_BOOT_CTRL_CONFIRM.width = 16 := (rfl)
@[simp] theorem width_GLB_BOOT_CTRL_SLOT : Fld.GLB_BOOT_CTRL_SLOT.width = 1 := (rfl)
@[simp] theorem width_GLB_BOOT_CTRL_RAISE_MIN : Fld.GLB_BOOT_CTRL_RAISE_MIN.width = 1 := (rfl)
@[simp] theorem width_GLB_BOOT_CTRL_PROGRAM : Fld.GLB_BOOT_CTRL_PROGRAM.width = 1 := (rfl)
@[simp] theorem width_GLB_BOOT_CTRL_RETRY : Fld.GLB_BOOT_CTRL_RETRY.width = 1 := (rfl)
@[simp] theorem width_GLB_BOOT_HOST_ADDR_ADDR : Fld.GLB_BOOT_HOST_ADDR_ADDR.width = 52 := (rfl)
@[simp] theorem width_GLB_BOOT_HOST_LEN_BYTES : Fld.GLB_BOOT_HOST_LEN_BYTES.width = 21 := (rfl)
@[simp] theorem width_GLB_BOOT_TIME_US : Fld.GLB_BOOT_TIME_US.width = 32 := (rfl)
@[simp] theorem width_GLB_POR_COUNT_COUNT : Fld.GLB_POR_COUNT_COUNT.width = 32 := (rfl)
@[simp] theorem width_SEQ_BINDER_ENABLE_EN : Fld.SEQ_BINDER_ENABLE_EN.width = 8 := (rfl)
@[simp] theorem width_SEQ_BINDER_ONLINE_ONLINE : Fld.SEQ_BINDER_ONLINE_ONLINE.width = 8 := (rfl)
@[simp] theorem width_SEQ_CFG_REFUSED_COUNT_COUNT : Fld.SEQ_CFG_REFUSED_COUNT_COUNT.width = 32 := (rfl)
@[simp] theorem width_SEQ_RESTART_COUNT_COUNT : Fld.SEQ_RESTART_COUNT_COUNT.width = 32 := (rfl)
@[simp] theorem width_SEQ_PATCH_CORRECTED_COUNT_COUNT : Fld.SEQ_PATCH_CORRECTED_COUNT_COUNT.width = 32 := (rfl)
@[simp] theorem width_SEQ_MICROCODE_FAULT_COUNT_COUNT : Fld.SEQ_MICROCODE_FAULT_COUNT_COUNT.width = 32 := (rfl)
@[simp] theorem width_SEQ_PATCH_INFO_WORDS : Fld.SEQ_PATCH_INFO_WORDS.width = 13 := (rfl)
@[simp] theorem width_SEQ_PATCH_INFO_MATCH : Fld.SEQ_PATCH_INFO_MATCH.width = 6 := (rfl)
@[simp] theorem width_SEQ_MATCH_EN : Fld.SEQ_MATCH_EN.width = 1 := (rfl)
@[simp] theorem width_SEQ_MATCH_TARGET : Fld.SEQ_MATCH_TARGET.width = 12 := (rfl)
@[simp] theorem width_SEQ_MATCH_ADDR : Fld.SEQ_MATCH_ADDR.width = 16 := (rfl)
@[simp] theorem width_SEQ_BINDER_STATUS_STATE : Fld.SEQ_BINDER_STATUS_STATE.width = 4 := (rfl)
@[simp] theorem width_SEQ_BINDER_STATUS_THREADS : Fld.SEQ_BINDER_STATUS_THREADS.width = 5 := (rfl)
@[simp] theorem width_SEQ_FAULT_INFO_VALID : Fld.SEQ_FAULT_INFO_VALID.width = 1 := (rfl)
@[simp] theorem width_SEQ_FAULT_INFO_PRECISE : Fld.SEQ_FAULT_INFO_PRECISE.width = 1 := (rfl)
@[simp] theorem width_SEQ_FAULT_INFO_THREAD : Fld.SEQ_FAULT_INFO_THREAD.width = 4 := (rfl)
@[simp] theorem width_SEQ_FAULT_INFO_MADDR : Fld.SEQ_FAULT_INFO_MADDR.width = 16 := (rfl)
@[simp] theorem width_SEQ_FAULT_INFO_CAUSE : Fld.SEQ_FAULT_INFO_CAUSE.width = 8 := (rfl)
@[simp] theorem width_DMA_BAD_DESC_COUNT_COUNT : Fld.DMA_BAD_DESC_COUNT_COUNT.width = 32 := (rfl)
@[simp] theorem width_DMA_CANCEL_COUNT_COUNT : Fld.DMA_CANCEL_COUNT_COUNT.width = 32 := (rfl)
@[simp] theorem width_DMA_SRAM_CORRECTED_COUNT_COUNT : Fld.DMA_SRAM_CORRECTED_COUNT_COUNT.width = 32 := (rfl)
@[simp] theorem width_DMA_BYTES_COUNT : Fld.DMA_BYTES_COUNT.width = 64 := (rfl)
@[simp] theorem width_DMA_CHAN_STATUS_STATE : Fld.DMA_CHAN_STATUS_STATE.width = 4 := (rfl)
@[simp] theorem width_DMA_CHAN_STATUS_HEAD : Fld.DMA_CHAN_STATUS_HEAD.width = 8 := (rfl)
@[simp] theorem width_DMA_CHAN_STATUS_PENDING : Fld.DMA_CHAN_STATUS_PENDING.width = 9 := (rfl)
@[simp] theorem width_LMC_STATUS_STATE : Fld.LMC_STATUS_STATE.width = 4 := (rfl)
@[simp] theorem width_LMC_STATUS_RATE : Fld.LMC_STATUS_RATE.width = 16 := (rfl)
@[simp] theorem width_LMC_CONFIG_RANKS2 : Fld.LMC_CONFIG_RANKS2.width = 1 := (rfl)
@[simp] theorem width_LMC_CONFIG_GIB : Fld.LMC_CONFIG_GIB.width = 5 := (rfl)
@[simp] theorem width_LMC_LINK_CORRECTED_COUNT_COUNT : Fld.LMC_LINK_CORRECTED_COUNT_COUNT.width = 32 := (rfl)
@[simp] theorem width_LMC_MAC_FAIL_COUNT_COUNT : Fld.LMC_MAC_FAIL_COUNT_COUNT.width = 32 := (rfl)
@[simp] theorem width_LMC_AREA_FULL_COUNT_COUNT : Fld.LMC_AREA_FULL_COUNT_COUNT.width = 32 := (rfl)
@[simp] theorem width_LMC_PROTECTED_BYTES_COUNT : Fld.LMC_PROTECTED_BYTES_COUNT.width = 64 := (rfl)
@[simp] theorem width_TMP_STATUS_LOCKDOWN : Fld.TMP_STATUS_LOCKDOWN.width = 1 := (rfl)
@[simp] theorem width_TMP_STATUS_HALTED : Fld.TMP_STATUS_HALTED.width = 1 := (rfl)
@[simp] theorem width_TMP_STATUS_BBK_LOST : Fld.TMP_STATUS_BBK_LOST.width = 1 := (rfl)
@[simp] theorem width_TMP_STATUS_BBK_CAUSE : Fld.TMP_STATUS_BBK_CAUSE.width = 2 := (rfl)
@[simp] theorem width_TMP_STATUS_COUNT_SATURATED : Fld.TMP_STATUS_COUNT_SATURATED.width = 1 := (rfl)
@[simp] theorem width_TMP_STATUS_EVIDENCE_PENDING : Fld.TMP_STATUS_EVIDENCE_PENDING.width = 1 := (rfl)
@[simp] theorem width_TMP_CTRL_CONFIRM : Fld.TMP_CTRL_CONFIRM.width = 16 := (rfl)
@[simp] theorem width_TMP_CTRL_RESP_LOCK : Fld.TMP_CTRL_RESP_LOCK.width = 1 := (rfl)
@[simp] theorem width_TMP_CTRL_UNLOCK : Fld.TMP_CTRL_UNLOCK.width = 1 := (rfl)
@[simp] theorem width_TMP_CTRL_RESUME : Fld.TMP_CTRL_RESUME.width = 1 := (rfl)
@[simp] theorem width_TMP_OTP_COUNT_COUNT : Fld.TMP_OTP_COUNT_COUNT.width = 12 := (rfl)
@[simp] theorem width_TMP_PENDING_COUNT : Fld.TMP_PENDING_COUNT.width = 8 := (rfl)
@[simp] theorem width_TMP_PENDING_LOCKDOWN : Fld.TMP_PENDING_LOCKDOWN.width = 1 := (rfl)
@[simp] theorem width_TMP_AO_FILL_ENTRIES : Fld.TMP_AO_FILL_ENTRIES.width = 6 := (rfl)
@[simp] theorem width_TMP_EVENT_COUNT_COUNT : Fld.TMP_EVENT_COUNT_COUNT.width = 32 := (rfl)
@[simp] theorem width_TMP_DISAGREE_COUNT_COUNT : Fld.TMP_DISAGREE_COUNT_COUNT.width = 32 := (rfl)
@[simp] theorem width_TMP_FABRIC_CODE_COUNT_COUNT : Fld.TMP_FABRIC_CODE_COUNT_COUNT.width = 32 := (rfl)
@[simp] theorem width_TMP_EXT_CFG_MODE : Fld.TMP_EXT_CFG_MODE.width = 8 := (rfl)
@[simp] theorem width_TMP_CFG_REFUSED_COUNT_COUNT : Fld.TMP_CFG_REFUSED_COUNT_COUNT.width = 32 := (rfl)
@[simp] theorem width_TMP_SRC_RESP_MIN : Fld.TMP_SRC_RESP_MIN.width = 8 := (rfl)
@[simp] theorem width_TMP_SRC_RESP_RESP : Fld.TMP_SRC_RESP_RESP.width = 8 := (rfl)
@[simp] theorem width_TMP_SRC_STATUS_RAISED : Fld.TMP_SRC_STATUS_RAISED.width = 1 := (rfl)
@[simp] theorem width_TMP_SRC_STATUS_DETECTORS : Fld.TMP_SRC_STATUS_DETECTORS.width = 2 := (rfl)
@[simp] theorem width_TMP_SRC_STATUS_ACTIVE : Fld.TMP_SRC_STATUS_ACTIVE.width = 1 := (rfl)
@[simp] theorem width_TMP_SRC_STATUS_COUNT : Fld.TMP_SRC_STATUS_COUNT.width = 16 := (rfl)
@[simp] theorem width_TMP_AO_BUF_ENTRY : Fld.TMP_AO_BUF_ENTRY.width = 128 := (rfl)
@[simp] theorem width_LCO_STATE_TRANSITION : Fld.LCO_STATE_TRANSITION.width = 1 := (rfl)
@[simp] theorem width_LCO_STATE_INTENT_PENDING : Fld.LCO_STATE_INTENT_PENDING.width = 1 := (rfl)
@[simp] theorem width_LCO_STATE_WINDOW_OPEN : Fld.LCO_STATE_WINDOW_OPEN.width = 1 := (rfl)
@[simp] theorem width_LCO_STATE_COPY_OK : Fld.LCO_STATE_COPY_OK.width = 3 := (rfl)
@[simp] theorem width_LCO_STATE_DIAG_LEFT : Fld.LCO_STATE_DIAG_LEFT.width = 5 := (rfl)
@[simp] theorem width_LCO_STATE_STATE : Fld.LCO_STATE_STATE.width = 4 := (rfl)
@[simp] theorem width_LCO_TRANSITION_CONFIRM : Fld.LCO_TRANSITION_CONFIRM.width = 16 := (rfl)
@[simp] theorem width_LCO_TRANSITION_TARGET : Fld.LCO_TRANSITION_TARGET.width = 4 := (rfl)
@[simp] theorem width_LCO_DIAG_TOKEN_TOKEN : Fld.LCO_DIAG_TOKEN_TOKEN.width = 32 := (rfl)
@[simp] theorem width_LCO_DIAG_ENTER_CONFIRM : Fld.LCO_DIAG_ENTER_CONFIRM.width = 16 := (rfl)
@[simp] theorem width_LCO_DIAG_ENTER_SLOT : Fld.LCO_DIAG_ENTER_SLOT.width = 4 := (rfl)
@[simp] theorem width_LCO_OTP_STATUS_BUSY : Fld.LCO_OTP_STATUS_BUSY.width = 1 := (rfl)
@[simp] theorem width_LCO_OTP_STATUS_BRACED : Fld.LCO_OTP_STATUS_BRACED.width = 1 := (rfl)
@[simp] theorem width_LCO_OTP_STATUS_QUEUED : Fld.LCO_OTP_STATUS_QUEUED.width = 8 := (rfl)
@[simp] theorem width_LCO_FIELD_STATUS_WORD : Fld.LCO_FIELD_STATUS_WORD.width = 10 := (rfl)
@[simp] theorem width_LCO_FIELD_STATUS_ABANDONED : Fld.LCO_FIELD_STATUS_ABANDONED.width = 6 := (rfl)
@[simp] theorem width_LCO_PROV_DATA_DATA : Fld.LCO_PROV_DATA_DATA.width = 32 := (rfl)
@[simp] theorem width_LCO_PROV_CTRL_CONFIRM : Fld.LCO_PROV_CTRL_CONFIRM.width = 16 := (rfl)
@[simp] theorem width_LCO_PROV_CTRL_CLOSE : Fld.LCO_PROV_CTRL_CLOSE.width = 1 := (rfl)
@[simp] theorem width_LCO_PROV_CTRL_GO : Fld.LCO_PROV_CTRL_GO.width = 1 := (rfl)
@[simp] theorem width_LCO_PROV_CTRL_FIELD : Fld.LCO_PROV_CTRL_FIELD.width = 4 := (rfl)
@[simp] theorem width_LCO_OTP_WRITE_COUNT_COUNT : Fld.LCO_OTP_WRITE_COUNT_COUNT.width = 32 := (rfl)
@[simp] theorem width_LCO_OTP_RETRY_COUNT_COUNT : Fld.LCO_OTP_RETRY_COUNT_COUNT.width = 32 := (rfl)
@[simp] theorem width_LCO_ROLLFORWARD_COUNT_COUNT : Fld.LCO_ROLLFORWARD_COUNT_COUNT.width = 32 := (rfl)
@[simp] theorem width_LCO_CFG_REFUSED_COUNT_COUNT : Fld.LCO_CFG_REFUSED_COUNT_COUNT.width = 32 := (rfl)
@[simp] theorem width_PWR_STATUS_STATE : Fld.PWR_STATUS_STATE.width = 2 := (rfl)
@[simp] theorem width_PWR_STATUS_BRACE : Fld.PWR_STATUS_BRACE.width = 1 := (rfl)
@[simp] theorem width_PWR_STATUS_POLICY_LIMITED : Fld.PWR_STATUS_POLICY_LIMITED.width = 1 := (rfl)
@[simp] theorem width_PWR_STATUS_THERMAL_LIMITED : Fld.PWR_STATUS_THERMAL_LIMITED.width = 1 := (rfl)
@[simp] theorem width_PWR_STATUS_VBAT_LOW : Fld.PWR_STATUS_VBAT_LOW.width = 1 := (rfl)
@[simp] theorem width_PWR_STATUS_DISPATCH_HELD : Fld.PWR_STATUS_DISPATCH_HELD.width = 1 := (rfl)
@[simp] theorem width_PWR_STATUS_K : Fld.PWR_STATUS_K.width = 5 := (rfl)
@[simp] theorem width_PWR_STATUS_BRACE_RAILS : Fld.PWR_STATUS_BRACE_RAILS.width = 3 := (rfl)
@[simp] theorem width_PWR_CTRL_DOZE_EN : Fld.PWR_CTRL_DOZE_EN.width = 1 := (rfl)
@[simp] theorem width_PWR_CTRL_IDLE_EN : Fld.PWR_CTRL_IDLE_EN.width = 1 := (rfl)
@[simp] theorem width_PWR_POWER_LIMIT_W : Fld.PWR_POWER_LIMIT_W.width = 6 := (rfl)
@[simp] theorem width_PWR_POWER_NOW_CW : Fld.PWR_POWER_NOW_CW.width = 16 := (rfl)
@[simp] theorem width_PWR_IDLE_DELAY_US : Fld.PWR_IDLE_DELAY_US.width = 10 := (rfl)
@[simp] theorem width_PWR_DOZE_DELAY_US : Fld.PWR_DOZE_DELAY_US.width = 16 := (rfl)
@[simp] theorem width_PWR_TEMP_T : Fld.PWR_TEMP_T.width = 16 := (rfl)
@[simp] theorem width_PWR_VBAT_MV_MV : Fld.PWR_VBAT_MV_MV.width = 12 := (rfl)
@[simp] theorem width_PWR_WAKE_EN_EN : Fld.PWR_WAKE_EN_EN.width = 3 := (rfl)
@[simp] theorem width_PWR_WAKE_CAUSE_CAUSE : Fld.PWR_WAKE_CAUSE_CAUSE.width = 3 := (rfl)
@[simp] theorem width_PWR_WAKE_TIME_SECONDS : Fld.PWR_WAKE_TIME_SECONDS.width = 48 := (rfl)
@[simp] theorem width_PWR_SUPPLY_EVENT_COUNT_COUNT : Fld.PWR_SUPPLY_EVENT_COUNT_COUNT.width = 32 := (rfl)
@[simp] theorem width_PWR_POLICY_LIMIT_COUNT_COUNT : Fld.PWR_POLICY_LIMIT_COUNT_COUNT.width = 32 := (rfl)
@[simp] theorem width_PWR_THERMAL_COUNT_COUNT : Fld.PWR_THERMAL_COUNT_COUNT.width = 32 := (rfl)
@[simp] theorem width_PWR_DOZE_COUNT_COUNT : Fld.PWR_DOZE_COUNT_COUNT.width = 32 := (rfl)
@[simp] theorem width_PWR_SWITCH_COUNT_COUNT : Fld.PWR_SWITCH_COUNT_COUNT.width = 32 := (rfl)
@[simp] theorem width_BLK_ERR_STATUS_CAUSE : Fld.BLK_ERR_STATUS_CAUSE.width = 32 := (rfl)
@[simp] theorem width_BLK_ERR_FIRST_CAUSE : Fld.BLK_ERR_FIRST_CAUSE.width = 8 := (rfl)
@[simp] theorem width_BLK_ERR_FIRST_UNIT : Fld.BLK_ERR_FIRST_UNIT.width = 8 := (rfl)
@[simp] theorem width_BLK_ERR_FIRST_SYNDROME : Fld.BLK_ERR_FIRST_SYNDROME.width = 48 := (rfl)
@[simp] theorem width_BLK_ERR_MERGED_COUNT : Fld.BLK_ERR_MERGED_COUNT.width = 32 := (rfl)
@[simp] theorem width_BLK_ERR_COUNT_COUNT : Fld.BLK_ERR_COUNT_COUNT.width = 32 := (rfl)
@[simp] theorem width_BLK_ERR_IRQ_EN_EN : Fld.BLK_ERR_IRQ_EN_EN.width = 32 := (rfl)
@[simp] theorem width_BLK_RECOVERY_COUNT_COUNT : Fld.BLK_RECOVERY_COUNT_COUNT.width = 32 := (rfl)
@[simp] theorem width_BLK_RECOVERY_LIMIT_LIMIT : Fld.BLK_RECOVERY_LIMIT_LIMIT.width = 32 := (rfl)
@[simp] theorem width_BLK_QUIET_TIME_MS : Fld.BLK_QUIET_TIME_MS.width = 32 := (rfl)
@[simp] theorem width_BLK_ERR_CLEAR_REFUSED_COUNT : Fld.BLK_ERR_CLEAR_REFUSED_COUNT.width = 32 := (rfl)
@[simp] theorem width_SMB_ALERT_EN_EN : Fld.SMB_ALERT_EN_EN.width = 6 := (rfl)
@[simp] theorem width_SMB_ALERT_STATUS_ALERT : Fld.SMB_ALERT_STATUS_ALERT.width = 6 := (rfl)
@[simp] theorem width_SMB_TEMP_HIGH_T : Fld.SMB_TEMP_HIGH_T.width = 16 := (rfl)
@[simp] theorem width_SMB_STATUS_ADDR : Fld.SMB_STATUS_ADDR.width = 7 := (rfl)
@[simp] theorem width_SMB_MIRROR_VALUE : Fld.SMB_MIRROR_VALUE.width = 32 := (rfl)
@[simp] theorem width_SLC_SLICE_WEIGHTS_MAR : Fld.SLC_SLICE_WEIGHTS_MAR.width = 8 := (rfl)
@[simp] theorem width_SLC_SLICE_WEIGHTS_CDE : Fld.SLC_SLICE_WEIGHTS_CDE.width = 8 := (rfl)
@[simp] theorem width_SLC_SLICE_WEIGHTS_BGN : Fld.SLC_SLICE_WEIGHTS_BGN.width = 8 := (rfl)
@[simp] theorem width_SLC_SLICE_WEIGHTS_STR : Fld.SLC_SLICE_WEIGHTS_STR.width = 8 := (rfl)
@[simp] theorem width_SLC_MBX_PENDING_BITS : Fld.SLC_MBX_PENDING_BITS.width = 32 := (rfl)
@[simp] theorem width_GLB_CFG_REFUSED_COUNT_COUNT : Fld.GLB_CFG_REFUSED_COUNT_COUNT.width = 32 := (rfl)
@[simp] theorem width_BLK_ID_VECTOR : Fld.BLK_ID_VECTOR.width = 8 := (rfl)
@[simp] theorem width_BLK_ID_REVISION : Fld.BLK_ID_REVISION.width = 8 := (rfl)
@[simp] theorem width_BLK_ID_PART : Fld.BLK_ID_PART.width = 16 := (rfl)
@[simp] theorem width_MSIX_ADDR_ADDR : Fld.MSIX_ADDR_ADDR.width = 62 := (rfl)
@[simp] theorem width_MSIX_DATA_DATA : Fld.MSIX_DATA_DATA.width = 32 := (rfl)
@[simp] theorem width_MSIX_CTRL_MASK : Fld.MSIX_CTRL_MASK.width = 1 := (rfl)
@[simp] theorem width_MSIX_PBA_BITS : Fld.MSIX_PBA_BITS.width = 64 := (rfl)
@[simp] theorem width_SMB_PROTOCOL_COUNT_COUNT : Fld.SMB_PROTOCOL_COUNT_COUNT.width = 32 := (rfl)

end Sys2Proof.Machine
end

