-- ==== Sys2Proof/Laws/Errors.lean ====
section
/-! SUPPORT. What a register reads after each shared update, and the laws of raising a block error. -/
namespace Sys2Proof.Machine

open Sys2Proof

theorem State.getF_lt_of {s : State} (h : s.regsOk) (f : Fld) (i n : Nat) (hn : 2 ^ f.width = n := by rfl) : s.getF f i < n := hn ▸ State.getF_lt h f i

theorem min_width_mod (a w : Nat) : min a (2 ^ w - 1) % 2 ^ w = min a (2 ^ w - 1) := by
  apply Nat.mod_eq_of_lt; have : 0 < 2 ^ w := by positivity
  omega

@[simp] theorem State.count_getF (s : State) (f g : Fld) (i j n : Nat) :
    (s.count f i n).getF g j = if g = f ∧ j = i then s.plus f i n else s.getF g j := by
  unfold State.count State.plus; rw [State.getF_setF, min_width_mod]

@[simp] theorem State.setFlag_getF (s : State) (f g : Fld) (i j : Nat) (b : Bool) :
    (s.setFlag f i b).getF g j = if g = f ∧ j = i then b2n b % 2 ^ f.width else s.getF g j := State.getF_setF s f g i j _

@[simp] theorem State.setFlag_flag (s : State) (f g : Fld) (i j : Nat) (b : Bool) :
    (s.setFlag f i b).flag g j = if g = f ∧ j = i then b2n b % 2 ^ f.width != 0 else s.flag g j := State.flag_setF s f g i j _

theorem State.flag_eq_true {s : State} {f : Fld} {i : Nat} : (s.flag f i = true) = (s.getF f i ≠ 0) := by simp [State.flag]

theorem State.flag_eq_false {s : State} {f : Fld} {i : Nat} : (s.flag f i = false) = (s.getF f i = 0) := by simp [State.flag]

theorem setBits_one (x c : Nat) : setBits x c c 1 = x ||| 2 ^ c := by
  have hb : bits x c c = x / 2 ^ c % 2 := by simp [bits]
  obtain ⟨q, l, hl, hx⟩ : ∃ q l, l < 2 ^ c ∧ x = 2 ^ c * q + l := ⟨x / 2 ^ c, x % 2 ^ c, Nat.mod_lt _ (by positivity), (Nat.div_add_mod x _).symm⟩
  have hq : x / 2 ^ c = q := by rw [hx, Nat.mul_add_div (by positivity), Nat.div_eq_of_lt hl, Nat.add_zero]
  have e : setBits x c c 1 = 2 ^ c * (q - q % 2 + 1) + l := by
    unfold setBits; rw [hb, hq]; simp only [Nat.add_sub_cancel_left, pow_one, Nat.one_mod, one_mul]
    have h1 : q % 2 * 2 ^ c ≤ 2 ^ c * q := by rw [Nat.mul_comm]; exact Nat.mul_le_mul_left _ (Nat.mod_le _ _)
    have h2 : 2 ^ c * (q - q % 2 + 1) = 2 ^ c * q - q % 2 * 2 ^ c + 2 ^ c := by
      rw [Nat.mul_add, Nat.mul_sub, Nat.mul_comm (2 ^ c) (q % 2), mul_one]
    rw [h2, hx]; omega
  rw [e]; apply Nat.eq_of_testBit_eq; intro j
  rw [Nat.testBit_or, Nat.testBit_two_pow, hx, Nat.testBit_two_pow_mul_add _ hl, Nat.testBit_two_pow_mul_add _ hl]
  by_cases hj : j < c
  · simp [hj, show ¬ c = j by omega]
  · simp only [hj, if_false]
    obtain ⟨k, rfl⟩ : ∃ k, j = c + k := ⟨j - c, by omega⟩
    simp only [Nat.add_sub_cancel_left]
    cases k with
    | zero => simp; omega
    | succ k =>
      rw [Nat.testBit_succ, Nat.testBit_succ]
      have : (q - q % 2 + 1) / 2 = q / 2 := by omega
      simp [this]

theorem setBits_one_lt {x c : Nat} (w : Nat) (h : x < 2 ^ w) (hc : c < w) : setBits x c c 1 < 2 ^ w := by
  rw [setBits_one]; exact Nat.or_lt_two_pow h (Nat.pow_lt_pow_right (by norm_num) hc)

theorem bit_setBits_one (x c n : Nat) : bit (setBits x c c 1) n = (decide (n = c) || bit x n) := by
  rw [setBits_one]; unfold bit; rw [Nat.testBit_or, Nat.testBit_two_pow]
  by_cases h : c = n
  · subst h; simp
  · simp [h, Ne.symm h]

theorem bit_zero_of_lt (x n : Nat) (h : x < 2 ^ n) : bit x n = false := Nat.testBit_lt_two_pow h

/-- A vector sent touches the PBA, the messages and the held vectors alone. -/

theorem State.sendVector_frame (s : State) (v : Nat) :
    (s.sendVector v) = { s with regs := (s.sendVector v).regs, sent := (s.sendVector v).sent, pci := { s.pci with heldVectors := (s.sendVector v).pci.heldVectors } } := by
  unfold State.sendVector; split
  · rfl
  · split <;> rfl

theorem State.sendVector_getF (s : State) (v : Nat) (g : Fld) (j : Nat) (hg : g ≠ .MSIX_PBA_BITS) : (s.sendVector v).getF g j = s.getF g j := by
  unfold State.sendVector; split
  · unfold State.setPba; simp [hg]
  · split <;> rfl

theorem State.raiseErr_frame (s : State) (b c u y : Nat) :
    (s.raiseErr b c u y) = { s with regs := (s.raiseErr b c u y).regs, sent := (s.raiseErr b c u y).sent, pci := { s.pci with heldVectors := (s.raiseErr b c u y).pci.heldVectors } } := by
  unfold State.raiseErr; dsimp only; split
  · split
    · unfold State.blockVector; rw [State.sendVector_frame]; rfl
    · rfl
  · rfl

theorem State.raiseErr_getF (s : State) (b c u y : Nat) (g : Fld) (j : Nat)
    (hg : g ∉ [Fld.MSIX_PBA_BITS, .BLK_ERR_COUNT_COUNT, .BLK_ERR_FIRST_CAUSE, .BLK_ERR_FIRST_UNIT, .BLK_ERR_FIRST_SYNDROME, .BLK_ERR_STATUS_CAUSE, .BLK_ERR_MERGED_COUNT]) :
    (s.raiseErr b c u y).getF g j = s.getF g j := by
  simp only [List.mem_cons, not_or, List.not_mem_nil] at hg
  obtain ⟨h1, h2, h3, h4, h5, h6, h7, -⟩ := hg
  unfold State.raiseErr State.setCause; dsimp only; split
  · split
    · unfold State.blockVector; rw [State.sendVector_getF _ _ _ _ h1]; simp [*]
    · simp [*]
  · simp [*]

theorem State.raiseErr_getF_other (s : State) (b c u y : Nat) (g : Fld) (j : Nat) (hj : j ≠ b) (hg : g ≠ .MSIX_PBA_BITS) : (s.raiseErr b c u y).getF g j = s.getF g j := by
  unfold State.raiseErr State.setCause; dsimp only; split
  · split
    · unfold State.blockVector; rw [State.sendVector_getF _ _ _ _ hg]; simp [*]
    · simp [*]
  · simp [*]

theorem State.raiseErr_cause (s : State) (b c u y : Nat) :
    (s.raiseErr b c u y).getF .BLK_ERR_STATUS_CAUSE b = setBits (s.getF .BLK_ERR_STATUS_CAUSE b) c c 1 % 2 ^ 32 := by
  unfold State.raiseErr State.setCause; dsimp only; split
  · split
    · unfold State.blockVector; rw [State.sendVector_getF _ _ _ _ (by decide)]; simp
    · simp
  · simp

theorem State.raiseErr_raised (s : State) (b c u y : Nat) (hc : c < 32) (hs : s.regsOk) : Raised s (s.raiseErr b c u y) b c := by
  refine ⟨?_, ?_, ?_⟩
  · rw [State.raiseErr_cause, Nat.mod_eq_of_lt (setBits_one_lt 32 (State.getF_lt_of hs _ _ _) hc), bit_setBits_one]; simp
  · unfold State.raiseErr State.setCause; dsimp only; split
    · split
      · unfold State.blockVector; rw [State.sendVector_getF _ _ _ _ (by decide)]; simp
      · simp
    · simp
  · intro h0
    unfold State.raiseErr State.setCause; dsimp only; rw [if_pos h0]
    split
    · unfold State.blockVector; rw [State.sendVector_getF _ _ _ _ (by decide)]; simp; omega
    · simp; omega

@[simp] theorem State.raiseErr_pending (s : State) (b c u y : Nat) : (s.raiseErr b c u y).pending = s.pending := by rw [raiseErr_frame]

@[simp] theorem State.raiseErr_now (s : State) (b c u y : Nat) : (s.raiseErr b c u y).now = s.now := by rw [raiseErr_frame]

@[simp] theorem State.raiseErr_jobs (s : State) (b c u y : Nat) : (s.raiseErr b c u y).jobs = s.jobs := by rw [raiseErr_frame]

@[simp] theorem State.raiseErr_tim (s : State) (b c u y : Nat) : (s.raiseErr b c u y).tim = s.tim := by rw [raiseErr_frame]

@[simp] theorem State.raiseErr_ent (s : State) (b c u y : Nat) : (s.raiseErr b c u y).ent = s.ent := by rw [raiseErr_frame]

@[simp] theorem State.raiseErr_lmc (s : State) (b c u y : Nat) : (s.raiseErr b c u y).lmc = s.lmc := by rw [raiseErr_frame]

@[simp] theorem State.raiseErr_dma (s : State) (b c u y : Nat) : (s.raiseErr b c u y).dma = s.dma := by rw [raiseErr_frame]

@[simp] theorem State.raiseErr_tmp (s : State) (b c u y : Nat) : (s.raiseErr b c u y).tmp = s.tmp := by rw [raiseErr_frame]

@[simp] theorem State.raiseErr_kv (s : State) (b c u y : Nat) : (s.raiseErr b c u y).kv = s.kv := by rw [raiseErr_frame]

@[simp] theorem State.raiseErr_lco (s : State) (b c u y : Nat) : (s.raiseErr b c u y).lco = s.lco := by rw [raiseErr_frame]

@[simp] theorem State.raiseErr_seq (s : State) (b c u y : Nat) : (s.raiseErr b c u y).seq = s.seq := by rw [raiseErr_frame]

@[simp] theorem State.raiseErr_pwr (s : State) (b c u y : Nat) : (s.raiseErr b c u y).pwr = s.pwr := by rw [raiseErr_frame]

@[simp] theorem State.raiseErr_mar (s : State) (b c u y : Nat) : (s.raiseErr b c u y).mar = s.mar := by rw [raiseErr_frame]

@[simp] theorem State.raiseErr_hsh (s : State) (b c u y : Nat) : (s.raiseErr b c u y).hsh = s.hsh := by rw [raiseErr_frame]

@[simp] theorem State.raiseErr_qre (s : State) (b c u y : Nat) : (s.raiseErr b c u y).qre = s.qre := by rw [raiseErr_frame]

@[simp] theorem State.raiseErr_store (s : State) (b c u y : Nat) : (s.raiseErr b c u y).store = s.store := by rw [raiseErr_frame]

@[simp] theorem State.raiseErr_queues (s : State) (b c u y : Nat) : (s.raiseErr b c u y).queues = s.queues := by rw [raiseErr_frame]

@[simp] theorem State.raiseErr_free (s : State) (b c u y : Nat) : (s.raiseErr b c u y).free = s.free := by rw [raiseErr_frame]


/-- At its engine, a job's command runs its effect. -/

theorem State.onJob_at {s : State} {q i op : Nat} {j : Job} (h : s.AtEngine q i op j) (f : Job → State → State) : s.onJob q i op f = .next (f j s) := by
  obtain ⟨h1, h2, h3, h4, h5, h6⟩ := h
  simp [State.onJob, h1, h2, h3, h4, h5, h6]

/-- The job at an entry says which entry it is. -/

theorem State.AtEngine.entry {s : State} {q i op : Nat} {j : Job} (h : s.AtEngine q i op j) : j.q = q ∧ j.idx = i := by
  simpa using List.find?_some h.1

/-- A draw that can be made gives the next random bytes. -/

theorem State.jobDraw_can {s : State} {j : Job} {n : Nat} (h : s.CanDraw j n) : s.jobDraw j n = .ok (s.nextRandom n, s.afterDraw j n) := by
  have h : s.drbgOk j.drbg (callsFor n) = true := h
  unfold State.jobDraw; rw [if_pos h]; rfl

end Sys2Proof.Machine
end

