-- ==== Sys2Proof/Laws/Journal.lean ====
section
/-! SUPPORT. What the device journal can change: every operation under it, and the fields and parts of the state it leaves alone. -/
namespace Sys2Proof.Machine

open Sys2Proof

/-- The fields the device journal and the records of a stream write. -/
def journalFlds : List Fld := [.QRE_STREAM_SIZE_SIZE, .QRE_STREAM_STATE_SHORT, .QRE_APPEND_COUNT_COUNT, .QRE_VOID_COUNT_COUNT, .QRE_SHORT_COUNT_COUNT,
  .QRE_JOURNAL_QUEUED_COUNT, .QRE_JOURNAL_DROP_COUNT_COUNT, .MSIX_PBA_BITS]
/-- The error fields of the Quire. -/
def errFlds : List Fld := [.BLK_ERR_COUNT_COUNT, .BLK_ERR_FIRST_CAUSE, .BLK_ERR_FIRST_UNIT, .BLK_ERR_FIRST_SYNDROME, .BLK_ERR_STATUS_CAUSE, .BLK_ERR_MERGED_COUNT]

/-- t is s after writing what the journal may write and nothing else. -/
structure Journals (s t : State) : Prop where
  frame : t = { s with regs := t.regs, sent := t.sent, pci := { s.pci with heldVectors := t.pci.heldVectors }, jobs := t.jobs, store := t.store, qre := t.qre }
  fields : ∀ f i, f ∉ journalFlds → (f ∈ errFlds → i ≠ blkQRE) → t.getF f i = s.getF f i


theorem Journals.refl (s : State) : Journals s s := ⟨rfl, fun _ _ _ _ => rfl⟩

theorem Journals.trans {s t u : State} (h : Journals s t) (k : Journals t u) : Journals s u := by
  refine ⟨?_, fun f i h1 h2 => (k.fields f i h1 h2).trans (h.fields f i h1 h2)⟩
  rw [k.frame]; conv_lhs => rw [h.frame]

theorem Journals.setF {s t : State} (h : Journals s t) (f : Fld) (i v : Nat) (hf : f ∈ journalFlds) : Journals s (t.setF f i v) := by
  refine h.trans ⟨rfl, fun g j h1 h2 => ?_⟩
  rw [State.getF_setF_ne]; intro e; simp at e; exact h1 (e.1 ▸ hf)

theorem Journals.qre {s t : State} (h : Journals s t) (x : QreX) : Journals s { t with qre := x } := h.trans ⟨rfl, fun _ _ _ _ => rfl⟩

theorem Journals.store {s t : State} (h : Journals s t) (x : SealX) : Journals s { t with store := x } := h.trans ⟨rfl, fun _ _ _ _ => rfl⟩

theorem Journals.jobs {s t : State} (h : Journals s t) (x : List Job) : Journals s { t with jobs := x } := h.trans ⟨rfl, fun _ _ _ _ => rfl⟩

theorem Journals.count {s t : State} (h : Journals s t) (f : Fld) (i n : Nat) (hf : f ∈ journalFlds) : Journals s (t.count f i n) := h.setF f i _ hf

theorem Journals.setFlag {s t : State} (h : Journals s t) (f : Fld) (i : Nat) (b : Bool) (hf : f ∈ journalFlds) : Journals s (t.setFlag f i b) := h.setF f i _ hf

theorem Journals.setStream {s t : State} (h : Journals s t) (i : Nat) (x : StreamX) : Journals s (t.setStream i x) := h.qre _

theorem Journals.raiseErr {s t : State} (h : Journals s t) (c u y : Nat) : Journals s (t.raiseErr blkQRE c u y) := by
  refine h.trans ⟨?_, fun g j h1 h2 => ?_⟩
  · conv_lhs => rw [State.raiseErr_frame]
    simp
  · by_cases hg : g ∈ errFlds
    · exact State.raiseErr_getF_other _ _ _ _ _ _ _ (h2 hg) (fun e => h1 (e ▸ by decide))
    · refine State.raiseErr_getF _ _ _ _ _ _ _ ?_
      intro hm; simp only [List.mem_cons, List.not_mem_nil, or_false] at hm
      rcases hm with rfl | hm
      · exact h1 (by decide)
      · exact hg (by simp [errFlds]; grind)
theorem Journals.foldl {α} {s : State} (f : State → α → State) (hf : ∀ t a, Journals t (f t a)) (l : List α) (t : State) (h : Journals s t) : Journals s (l.foldl f t) := by
  induction l generalizing t with
  | nil => exact h
  | cons a l ih => exact ih _ (h.trans (hf t a))

theorem Journals.bump (s : State) (b l : Nat) : Journals s (s.bump b l) := (Journals.refl s).store _

theorem Journals.placeNow (s : State) (p : Placement) : Journals s (s.placeNow p) := by
  unfold State.placeNow; dsimp only
  have h : Journals s ((List.range 10).foldl (fun t k => t.bump p.block (k + 1)) s) := Journals.foldl _ (fun t k => Journals.bump t _ _) _ _ (Journals.refl s)
  revert h; generalize (List.range 10).foldl (fun (t : State) k => t.bump p.block (k + 1)) s = x; intro h
  exact h.trans ⟨rfl, fun _ _ _ _ => rfl⟩

theorem Journals.scAsk (s : State) (r : ScReq) : Journals s (s.scAsk r) := (Journals.refl s).store _

theorem Journals.askFetch (s : State) (b : Nat) : Journals s (s.askFetch b) := by
  unfold State.askFetch; split
  · exact Journals.refl s
  · exact Journals.scAsk s _

theorem Journals.drainPlace (n : Nat) (s : State) : Journals s (s.drainPlace n) := by
  induction n generalizing s with
  | zero => exact Journals.refl s
  | succ n ih =>
    unfold State.drainPlace; split
    · exact Journals.refl s
    · split
      · exact Journals.refl s
      · split
        · exact (((Journals.refl s).store _).trans (Journals.placeNow _ _)).trans (ih _)
        · exact Journals.askFetch s _
        · exact Journals.refl s

theorem Journals.place (s : State) (b : Nat) (d) (o) : Journals s (s.place b d o) := ((Journals.refl s).store _).trans (Journals.drainPlace _ _)

theorem Journals.discardBlock (s : State) (b : Nat) (o) : Journals s (s.discardBlock b o) := ((Journals.refl s).store _).trans (Journals.drainPlace _ _)

theorem Journals.takeArea (s : State) : Journals s s.takeArea.2 := by
  unfold State.takeArea; split
  · exact (Journals.refl s).qre _
  · split
    · exact (Journals.refl s).qre _
    · exact Journals.refl s

theorem Journals.trySpare (s : State) (st : Nat) : Journals s (s.trySpare st) := by
  unfold State.trySpare; dsimp only; split
  · exact Journals.refl s
  · have h : Journals s (if (s.stream st).folio + 1 < 2 ^ 25 then s.takeArea else (none, s)).2 := by
      split
      · exact Journals.takeArea s
      · exact Journals.refl s
    revert h
    generalize (if (s.stream st).folio + 1 < 2 ^ 25 then s.takeArea else (none, s)) = x
    intro h
    split
    · exact (h.setStream _ _).setFlag _ _ _ (by decide)
    · split
      · exact h
      · exact (h.setFlag _ _ _ (by decide)).raiseErr _ _ _

theorem Journals.storeNode (s : State) (st : Nat) (h : List Byte) (o) : Journals s (s.storeNode st h o) := by
  unfold State.storeNode; dsimp only
  refine Journals.trans (Journals.setStream (t := if _ then _ else _) ?_ _ _) (Journals.place _ _ _ _)
  split
  · have k := Journals.takeArea s
    revert k; generalize s.takeArea = x; intro k
    split
    · exact k.setStream _ _
    · exact k
  · exact Journals.refl s

theorem Journals.addHash (st : Nat) (o) (n : Nat) (s : State) (l i : Nat) (h : List Byte) : Journals s (s.addHash st o n l i h) := by
  induction n generalizing s l i h with
  | zero => exact Journals.refl s
  | succ n ih =>
    unfold State.addHash; dsimp only
    have k : Journals s (if l = 0 then s.setStream st { s.stream st with hashes := nset [] (s.stream st).hashes (hashKey l i) h } else (s.setStream st { s.stream st with hashes := nset [] (s.stream st).hashes (hashKey l i) h }).storeNode st h o) := by
      split
      · exact (Journals.refl s).setStream _ _
      · exact ((Journals.refl s).setStream _ _).trans (Journals.storeNode _ _ _ _)
    split
    · exact k.trans (ih _ _ _ _)
    · exact k

theorem Journals.countForm {s t : State} (h : Journals s t) (w : WaitRec) : Journals s (t.countForm w) := by
  unfold State.countForm; split
  · exact h.count _ _ _ (by decide)
  · split
    · exact h.count _ _ _ (by decide)
    · exact h

theorem Journals.placeRecord (s : State) (st : Nat) (w : WaitRec) : Journals s (s.placeRecord st w) := by
  unfold State.placeRecord; dsimp only
  refine Journals.jobs (Journals.countForm (Journals.count (Journals.trans (Journals.trans (Journals.foldl _ (fun t k => Journals.place t _ _ _) _ _ (Journals.setStream ?_ _ _)) (Journals.addHash _ _ _ _ _ _ _)) (Journals.place _ _ _ _)) _ _ _ (by decide)) _) _
  split
  · exact Journals.refl s
  · exact ((Journals.refl s).setStream _ _).trans (Journals.trySpare _ _)

theorem Journals.drainRecords (st n : Nat) (s : State) : Journals s (s.drainRecords st n) := by
  induction n generalizing s with
  | zero => exact Journals.refl s
  | succ n ih =>
    unfold State.drainRecords; split
    · exact (Journals.placeRecord _ _ _).trans (ih _)
    · exact Journals.refl s

theorem Journals.giveRecord {s t : State} (h : Journals s t) (st : Nat) (w) : Journals s (t.giveRecord st w) := (h.setStream _ _).trans (Journals.drainRecords _ _ _)

theorem Journals.deviceRecord (s : State) (e : Nat) (t d) : Journals s (s.deviceRecord e t d) := by
  unfold State.deviceRecord State.takeSeq State.takeTime; dsimp only
  exact ((((Journals.refl s).setF _ _ _ (by decide)).setStream _ _).giveRecord _ _)

theorem Journals.journalNow (s : State) (e : JEvent) : Journals s (s.journalNow e) := Journals.foldl _ (fun t _ => Journals.deviceRecord t _ _ _) _ _ (Journals.refl s)

theorem Journals.journal (s : State) (e : Nat) (d) : Journals s (s.journal e d) := by
  unfold State.journal; dsimp only; split
  · exact Journals.journalNow s _
  · split
    · exact ((Journals.refl s).qre _).setF _ _ _ (by decide)
    · exact (((Journals.refl s).qre _).count _ _ _ (by decide)).raiseErr _ _ _

theorem State.journal_getF (s : State) (e : Nat) (d) (f : Fld) (i : Nat) (h : f ∉ journalFlds := by decide) (h2 : f ∉ errFlds := by decide) : (s.journal e d).getF f i = s.getF f i :=
  (Journals.journal s e d).fields f i h fun h => absurd h h2

theorem State.journal_getF_err (s : State) (e : Nat) (d) (f : Fld) (i : Nat) (h : f ∉ journalFlds := by decide) (h2 : i ≠ blkQRE := by decide) : (s.journal e d).getF f i = s.getF f i :=
  (Journals.journal s e d).fields f i h fun _ => h2

@[simp] theorem State.journal_tim (s : State) (e : Nat) (d) : (s.journal e d).tim = s.tim := by rw [(Journals.journal s e d).frame]

@[simp] theorem State.journal_lco (s : State) (e : Nat) (d) : (s.journal e d).lco = s.lco := by rw [(Journals.journal s e d).frame]

@[simp] theorem State.journal_tmp (s : State) (e : Nat) (d) : (s.journal e d).tmp = s.tmp := by rw [(Journals.journal s e d).frame]

@[simp] theorem State.journal_ent (s : State) (e : Nat) (d) : (s.journal e d).ent = s.ent := by rw [(Journals.journal s e d).frame]

@[simp] theorem State.journal_pwr (s : State) (e : Nat) (d) : (s.journal e d).pwr = s.pwr := by rw [(Journals.journal s e d).frame]

@[simp] theorem State.journal_kv (s : State) (e : Nat) (d) : (s.journal e d).kv = s.kv := by rw [(Journals.journal s e d).frame]

@[simp] theorem State.journal_seq (s : State) (e : Nat) (d) : (s.journal e d).seq = s.seq := by rw [(Journals.journal s e d).frame]

@[simp] theorem State.journal_pending (s : State) (e : Nat) (d) : (s.journal e d).pending = s.pending := by rw [(Journals.journal s e d).frame]

@[simp] theorem State.journal_now (s : State) (e : Nat) (d) : (s.journal e d).now = s.now := by rw [(Journals.journal s e d).frame]

@[simp] theorem State.journal_lmc (s : State) (e : Nat) (d) : (s.journal e d).lmc = s.lmc := by rw [(Journals.journal s e d).frame]

@[simp] theorem State.journal_dma (s : State) (e : Nat) (d) : (s.journal e d).dma = s.dma := by rw [(Journals.journal s e d).frame]

@[simp] theorem State.journal_mar (s : State) (e : Nat) (d) : (s.journal e d).mar = s.mar := by rw [(Journals.journal s e d).frame]

@[simp] theorem State.journal_queues (s : State) (e : Nat) (d) : (s.journal e d).queues = s.queues := by rw [(Journals.journal s e d).frame]

@[simp] theorem State.journal_free (s : State) (e : Nat) (d) : (s.journal e d).free = s.free := by rw [(Journals.journal s e d).frame]
end Sys2Proof.Machine
end

