-- ==== Sys2Proof/Tests/Slice0.lean ====
section
/-! SUPPORT. Tests of the model's author: ill-formed commands, witnesses for the hypotheses of every statement, single steps of the spec's own examples. -/
namespace Sys2Proof.Machine

open Sys2Proof

-- The kernel evaluates these tests one after another, so that no thread waits on another's check.
set_option Elab.async false

/-- The state after reset with Memory Space Enable set. -/
def base : State := { State.reset with pci := { State.reset.pci with memSpace := true } }

/-- That state with registers changed. -/
def rg (l : List (Fld × Nat × Nat)) : State := l.foldl (fun s e => s.setF e.1 e.2.1 e.2.2) base

theorem reset_regsOk : State.reset.regsOk := ⟨rfl, by simp [State.reset]⟩

theorem base_regsOk : base.regsOk := reset_regsOk

theorem rg_regsOk (l : List (Fld × Nat × Nat)) : (rg l).regsOk := by
  have h : ∀ s : State, s.regsOk → (l.foldl (fun s e => s.setF e.1 e.2.1 e.2.2) s).regsOk := by
    induction l with
    | nil => exact fun s h => h
    | cons e t ih => exact fun s h => ih _ (s.setF_regsOk h _ _ _)
  exact h _ base_regsOk

/-- A field that the list does not name holds its reset value in every instance. -/
theorem rg_getF (l : List (Fld × Nat × Nat)) (f : Fld) (i : Nat) (h : (l.all fun e => decide (e.1 ≠ f)) = true) : (rg l).getF f i = f.reset i := by
  have k : ∀ s : State, (l.foldl (fun s e => s.setF e.1 e.2.1 e.2.2) s).getF f i = s.getF f i := by
    induction l with
    | nil => exact fun _ => rfl
    | cons e t ih =>
      simp only [List.all_cons, Bool.and_eq_true, decide_eq_true_eq] at h
      intro s
      rw [List.foldl_cons, ih h.2, State.getF_setF_ne]
      intro e'; exact h.1 (Prod.mk.inj e').1.symm
  exact k base

/-- The fields whose reset value depends on the instance. -/
def varied : List Fld := [.SLC_SLICE_CTRL_STATE, .SLC_SLICE_CTRL_ENABLE, .SCH_CREDIT_TOTAL_TOTAL, .SCH_CREDIT_FREE_FREE, .TMP_SRC_RESP_MIN, .TMP_SRC_RESP_RESP,
  .SMB_STATUS_ADDR, .BLK_ID_VECTOR, .BLK_RECOVERY_LIMIT_LIMIT, .BLK_QUIET_TIME_MS]

/-- Every other field that the list does not name and whose reset value is 0 is 0 in every instance. -/
theorem rg_zero (l : List (Fld × Nat × Nat)) (f : Fld) (i : Nat) (h : (l.all fun e => decide (e.1 ≠ f)) = true := by decide)
    (hv : f ∉ varied := by decide) (h0 : f.desc.reset = 0 := by rfl) : (rg l).getF f i = 0 := by
  rw [rg_getF l f i h, ← h0]
  simp [varied] at hv
  simp [Fld.reset, hv]

/-- Power as after reset, memory space on and the link not in L1: the function serves memory requests. -/
theorem serves_of {s : State} (h1 : s.pwr = base.pwr) (h2 : s.pci.memSpace = true) (h3 : s.getF .PCI_LINK_STATUS_PM_STATE 0 = 0) : s.Serves := by
  have h4 : s.linkExit = s := by unfold State.linkExit; simp [h3]
  refine ⟨by unfold State.stopped; rw [h1]; rfl, h2, ?_⟩
  have h5 : s.pwr.mode = .active := by rw [h1]; rfl
  unfold State.awake; simp only [h4, h5]

/-- Registers other than the link's power state leave a function that serves memory requests. -/
theorem rg_serves (l : List (Fld × Nat × Nat)) (h : (l.all fun e => decide (e.1 ≠ .PCI_LINK_STATUS_PM_STATE)) = true := by decide) : (rg l).Serves := by
  have k : ∀ s : State, (l.foldl (fun s e => s.setF e.1 e.2.1 e.2.2) s).pwr = s.pwr ∧ (l.foldl (fun s e => s.setF e.1 e.2.1 e.2.2) s).pci = s.pci := by
    clear h; induction l with
    | nil => exact fun _ => ⟨rfl, rfl⟩
    | cons e t ih => exact fun s => ih (s.setF e.1 e.2.1 e.2.2)
  exact serves_of (k base).1 (by rw [show (rg l).pci = base.pci from (k base).2]; rfl) (rg_zero l _ 0 h)

/-- A job of slice 0 at place 2 of queue 1 with four of its words; the others are 0. -/
def jb (w0 w1 w3 w5 : Nat) : Job := { q := 1, idx := 2, words := [BitVec.ofNat 64 w0, BitVec.ofNat 64 w1, 0, BitVec.ofNat 64 w3, 0, BitVec.ofNat 64 w5, 0, 0] }

/-- The same job at its engine. -/
def atEngine (w0 w1 w3 w5 : Nat) : Job := { jb w0 w1 w3 w5 with stage := .dispatched }

/-- Registers and one job. -/
def withJob (l : List (Fld × Nat × Nat)) (j : Job) : State := { rg l with jobs := [j] }

/-! ### Ill-formed commands: one for each check of WellFormed -/

theorem test_wf_register : (Instr.registerWrite .EVR_BASE 4095 0).wf = true ∧ (Instr.registerWrite .EVR_BASE 4096 0).wf = false := by decide
theorem test_wf_bar : (Instr.mmioBadRequest 2 0 4 true).wf = true ∧ (Instr.mmioBadRequest 3 0 4 true).wf = false ∧ (Instr.mmioBadRequest 2 0 0 true).wf = false := by decide
theorem test_wf_link : (Instr.linkUp 5 8).wf = true ∧ (Instr.linkUp 0 8).wf = false ∧ (Instr.linkUp 6 8).wf = false ∧ (Instr.linkUp 5 3).wf = false := by decide
theorem test_wf_link_state : (Instr.linkL1Entry 3).wf = true ∧ (Instr.linkL1Entry 0).wf = false ∧ (Instr.linkL1Entry 4).wf = false := by decide
theorem test_wf_config : (Instr.configRequest 4092 none).wf = true ∧ (Instr.configRequest 2 none).wf = false ∧ (Instr.configRequest 4096 none).wf = false := by decide
theorem test_wf_cause : (Instr.hostReadFailure (.job 0 0 0) 255).wf = true ∧ (Instr.hostReadFailure (.job 0 0 0) 256).wf = false := by decide
theorem test_wf_slice : (Instr.sliceEnable 4095).wf = true ∧ (Instr.sliceEnable 4096).wf = false := by decide
theorem test_wf_mailbox : (Instr.mailboxWrite 0 true 255 []).wf = true ∧ (Instr.mailboxWrite 0 true 256 []).wf = false := by decide
theorem test_wf_doorbell : (Instr.doorbellWrite 0 1023 0).wf = true ∧ (Instr.doorbellWrite 0 1024 0).wf = false := by decide
theorem test_wf_queue : (Instr.entryFetch 16383 1).wf = true ∧ (Instr.entryFetch 16384 1).wf = false ∧ (Instr.entryFetch 16383 0).wf = false := by decide
theorem test_wf_place : (Instr.jobPark 16383 65535).wf = true ∧ (Instr.jobPark 16383 65536).wf = false ∧ (Instr.jobPark 16384 0).wf = false := by decide
theorem test_wf_entry : (Instr.ownWaitRetry 0 (zeros 64)).wf = true ∧ (Instr.ownWaitRetry 0 (zeros 63)).wf = false := by decide
theorem test_wf_event_ring : (Instr.coalTimer 4095).wf = true ∧ (Instr.coalTimer 4096).wf = false := by decide
theorem test_wf_channel : (Instr.scHoldoffTimer 3).wf = true ∧ (Instr.scHoldoffTimer 4).wf = false := by decide
theorem test_wf_completion : (Instr.scSlotTimeout 0 4294967295).wf = true ∧ (Instr.scSlotTimeout 0 4294967296).wf = false := by decide
theorem test_wf_key : (Instr.hotKeyLoad 65535).wf = true ∧ (Instr.hotKeyLoad 0).wf = false ∧ (Instr.hotKeyLoad 65536).wf = false := by decide
theorem test_wf_fault : (Instr.engineFault 0 0 15 4095 0 0).wf = true ∧ (Instr.engineFault 0 0 16 0 0 0).wf = false ∧ (Instr.engineFault 0 0 0 4096 0 0).wf = false := by decide
theorem test_wf_binder : (Instr.binderRestart 7 15 255).wf = true ∧ (Instr.binderRestart 8 0 0).wf = false ∧ (Instr.binderRestart 0 16 0).wf = false ∧
    (Instr.binderRestart 0 0 256).wf = false := by decide
theorem test_wf_microword : (Instr.microwordAlu 0 0 0 0 .add 63 63 (.imm 0)).wf = true ∧ (Instr.microwordAlu 0 0 0 0 .add 64 0 (.imm 0)).wf = false ∧
    (Instr.microwordBranch 0 0 0 0 .jump 0 65535).wf = true ∧ (Instr.microwordBranch 0 0 0 0 .jump 0 65536).wf = false := by decide
theorem test_wf_field : (Instr.microwordField 0 0 0 0 (.entry 0) false 0 63 1).wf = true ∧ (Instr.microwordField 0 0 0 0 (.entry 0) false 0 0 0).wf = false ∧
    (Instr.microwordField 0 0 0 0 (.entry 0) false 0 63 2).wf = false := by decide
theorem test_wf_core : (Instr.jobUnsuspend 31 3).wf = true ∧ (Instr.jobUnsuspend 32 0).wf = false ∧ (Instr.jobUnsuspend 0 4).wf = false := by decide
theorem test_wf_page : (Instr.scratchPageScrubComplete 3 47).wf = true ∧ (Instr.scratchPageScrubComplete 4 0).wf = false ∧ (Instr.scratchPageScrubComplete 0 48).wf = false := by decide
theorem test_wf_unit_row : (Instr.aluAdd 31 1 255 1023).wf = true ∧ (Instr.aluAdd 0 2 0 0).wf = false ∧ (Instr.aluAdd 0 0 256 0).wf = false ∧
    (Instr.aluAdd 0 0 0 1024).wf = false ∧ (Instr.mmulMul 0 0 4095).wf = true ∧ (Instr.mmulMul 0 0 4096).wf = false := by decide
theorem test_wf_session : (Instr.maskedCallWaitTimeout 767).wf = true ∧ (Instr.maskedCallWaitTimeout 768).wf = false ∧
    (Instr.hashCallStart 0 0 0 false false false 0).wf = false := by decide
theorem test_wf_engine_unit : (Instr.cdeUnitReset 2).wf = true ∧ (Instr.cdeUnitReset 3).wf = false ∧ (Instr.cdeZeroizeComplete 5).wf = true ∧
    (Instr.cdeZeroizeComplete 6).wf = false := by decide
theorem test_wf_entropy : (Instr.cellHealthFail 7 15).wf = true ∧ (Instr.cellHealthFail 8 0).wf = false ∧ (Instr.cellHealthFail 0 16).wf = false ∧
    (Instr.drbgStall 7).wf = true ∧ (Instr.drbgStall 8).wf = false ∧ (Instr.stringSeedDelivery 45).wf = true ∧ (Instr.stringSeedDelivery 46).wf = false ∧
    (Instr.maskGenDeadline 41).wf = true ∧ (Instr.maskGenDeadline 42).wf = false := by decide
theorem test_wf_event : (Instr.journalEvent 65535 []).wf = true ∧ (Instr.journalEvent 65536 []).wf = false := by decide
theorem test_wf_seconds : (Instr.timeSet (2 ^ 48 - 1)).wf = true ∧ (Instr.timeSet (2 ^ 48)).wf = false := by decide
theorem test_wf_dma : (Instr.dmaBurst 127 []).wf = true ∧ (Instr.dmaBurst 128 []).wf = false ∧ (Instr.lmcRetrain 4 0 0 []).wf = true ∧
    (Instr.lmcRetrain 5 0 0 []).wf = false ∧ (Instr.lmcTrainingComplete 31 true true).wf = true ∧ (Instr.lmcTrainingComplete 32 true true).wf = false := by decide
theorem test_wf_tamper : (Instr.tamperAlarm 15 3).wf = true ∧ (Instr.tamperAlarm 16 0).wf = false ∧ (Instr.tamperAlarm 0 4).wf = false := by decide
theorem test_wf_power : (Instr.bootBundleLoaded 1 true []).wf = true ∧ (Instr.bootBundleLoaded 2 true []).wf = false ∧ (Instr.deepWakeSource 2).wf = true ∧
    (Instr.deepWakeSource 3).wf = false ∧ (Instr.vbatMeasure 65535).wf = true ∧ (Instr.vbatMeasure 65536).wf = false ∧ (Instr.thermalReading 15 0).wf = true ∧
    (Instr.thermalReading 16 0).wf = false ∧ (Instr.braceEnter 2 0).wf = true ∧ (Instr.braceEnter 3 0).wf = false := by decide
theorem test_wf_block : (Instr.errStatusClear 21 0).wf = true ∧ (Instr.errStatusClear 22 0).wf = false := by decide

/-! ### Witnesses: the hypotheses of each statement are met, clause by clause -/

theorem test_step_takes_the_front : step { base with pending := [.perstAssert, .wake] } = exec .perstAssert { base with pending := [.wake] } := rfl

theorem test_order_witness : ∃ t : State, step { base with pending := [.doeAbort, .wake] } = .next t ∧ t.pending = [.wake] := ⟨_, rfl, rfl⟩

theorem test_idle_witness : base.pending = [] ∧ base.tim.onKeeper = false ∧ base.pwr.tripLatch = false ∧
    ({ base with tim := { base.tim with onKeeper := true } } : State).tim.onKeeper = true ∧
    ({ base with pwr := { base.pwr with tripLatch := true } } : State).pwr.tripLatch = true := ⟨rfl, rfl, rfl, rfl, rfl⟩

theorem test_invariant_witness : ∃ t : State, State.reset.Inv ∧ step State.reset = .next t :=
  ⟨_, ⟨reset_regsOk, by unfold State.timeOk; decide⟩, rfl⟩

theorem test_identity_witness : (∀ f ∈ Reg.BLK_ID.fields, base.getF f 14 = f.reset 14) ∧ base.getF .LCO_STATE_STATE 0 ≠ 0xF ∧
    (∀ f ∈ Reg.BLK_ID.fields, (rg [(.LCO_STATE_STATE, 0, 0xF)]).getF f 0 = f.reset 0) ∧ (rg [(.LCO_STATE_STATE, 0, 0xF)]).getF .LCO_STATE_STATE 0 = 0xF := by decide +kernel

/-- One register for each access code and for both sides of a lock: W1C with RO, RWL unlocked and locked, RW, WO with RW, W1C alone. -/
theorem test_register_write_witness : (∀ r ∈ [Reg.MAR_FAULT_INFO, .QC_RING_BASE, .PCI_LTR_IDLE, .PCI_LINK_CTRL, .KV_EVENT, .LCO_DIAG_TOKEN],
      base.getF .LCO_STATE_STATE 0 ≠ 0xF ∧ regExists r 0 = true ∧ r ∉ ownRows ∧ ownRowBy r 0 = false ∧
        r ∉ [Reg.SLC_SLICE_DPL_BASE, .SLC_SLICE_DPL_CONS, .SLC_T_MBX, .TIM_CTRL, .TMP_SRC_STATUS]) ∧ base.regsOk ∧
    base.locked .QC_RING_BASE 0 = false ∧ (rg [(.QC_CTRL_ENABLE, 0, 1)]).locked .QC_RING_BASE 0 = true ∧ (rg [(.QC_CTRL_ENABLE, 0, 1)]).regsOk :=
  ⟨by decide +kernel, reset_regsOk, by decide +kernel, by decide +kernel, rg_regsOk _⟩

theorem test_registers_that_do_more_witness : base.getF .LCO_STATE_STATE 0 ≠ 0xF ∧
    (MemoryRequest (.errIrqEnWrite 21 0) = true ∧ State.reset.stopped = false ∧ State.reset.pci.memSpace = false ∧ base.stopped = false ∧ base.pci.memSpace = true) ∧
    (({ base with pwr := { base.pwr with tripLatch := true } } : State).stopped = true ∧ FastClocked .doeAbort = true) ∧
    (rg [(.SLC_SLICE_CTRL_LOG_EN, 4095, 1)]).getF .SLC_SLICE_CTRL_LOG_EN 4095 ≠ 0 ∧ (rg [(.SLC_SLICE_CTRL_LOG_EN, 4095, 1)]).getF .SLC_SLICE_CTRL_LOG_EN 0 = 0 ∧
    (rg [(.SLC_SLICE_CTRL_ENABLE, 4095, 1)]).getF .SLC_SLICE_CTRL_ENABLE 4095 ≠ 0 ∧ bit (0x80000000 : W64).toNat 31 = true ∧
    (rg [(.TMP_SRC_STATUS_RAISED, 15, 1), (.TMP_SRC_STATUS_ACTIVE, 15, 1)]).getF .TMP_SRC_STATUS_RAISED 15 ≠ 0 ∧
    (rg [(.TMP_SRC_STATUS_RAISED, 15, 1), (.TMP_SRC_STATUS_ACTIVE, 15, 1)]).getF .TMP_SRC_STATUS_ACTIVE 15 ≠ 0 := by decide +kernel

theorem test_two_part_witness : (∀ r ∈ [Reg.SEAL_RANGE_KV, .SEAL_RANGE_QRE, .SEAL_RANGE_SLICE, .TIM_SET_SEC, .QE_SC_COMPLETE], r.desc.wide = true ∧ 0 < r.instances) ∧
    bit ((0x80000000 : W32) ++ (0 : W32)).toNat 63 = true ∧ bit ((0 : W32) ++ (0xFFFFFFFF : W32)).toNat 63 = false ∧
    Reg.QC_RING_BASE.desc.wide = true ∧ 16383 < Reg.QC_RING_BASE.instances ∧ Reg.QC_RING_BASE ∉ ownRows ∧
    mget (fun _ => 0) base.heldLow (Reg.QC_RING_BASE, 16383) = 0 ∧ Reg.QC_RING_BASE ≠ .ENT_SW_DATA := by decide +kernel

theorem test_block_errors_witness : limitCause 21 = none ∧ bit (base.getF .BLK_ERR_STATUS_CAUSE 21) 31 = false ∧
    (∃ s : State, s.regsOk ∧ limitCause 20 = none ∧ bit (s.getF .BLK_ERR_STATUS_CAUSE 20) 1 = true ∧ s.causeHolds 20 1 = true) ∧
    (∃ s : State, s.regsOk ∧ bit (s.getF .BLK_ERR_STATUS_CAUSE 21) 31 = true ∧ s.causeHolds 21 31 = false) ∧
    (∀ e ∈ [((1 : Nat), (1 : Nat)), (15, 1), (17, 3)], bit ((rg [(.BLK_ERR_STATUS_CAUSE, e.1, 2 ^ e.2)]).getF .BLK_ERR_STATUS_CAUSE e.1) e.2 = true) ∧
    bit (1 : W32).toNat 0 = true ∧ bit ((rg [(.BLK_ERR_IRQ_EN_EN, 21, 0), (.BLK_ERR_STATUS_CAUSE, 21, 1)]).getF .BLK_ERR_IRQ_EN_EN 21) 0 = false ∧
    bit ((rg [(.BLK_ERR_IRQ_EN_EN, 21, 0), (.BLK_ERR_STATUS_CAUSE, 21, 1)]).getF .BLK_ERR_STATUS_CAUSE 21) 0 = true ∧
    (∀ c < 32, bit (0xFFFFFFFF : W32).toNat c = true → bit (base.getF .BLK_ERR_IRQ_EN_EN 21) c = false → bit (base.getF .BLK_ERR_STATUS_CAUSE 21) c = false) :=
  ⟨rfl, by decide +kernel, ⟨rg [(.BLK_ERR_STATUS_CAUSE, 20, 2), (.PWR_STATUS_THERMAL_LIMITED, 0, 1)], rg_regsOk _, by decide +kernel⟩,
    ⟨rg [(.BLK_ERR_STATUS_CAUSE, 21, 2 ^ 31)], rg_regsOk _, by decide +kernel⟩, by decide +kernel, by decide, by decide +kernel, by decide +kernel, by decide +kernel⟩

theorem test_smbus_witness : (rg [(.GLB_STATUS_BOOT_STATE, 0, 4)]).Running ∧ ¬base.Running ∧ ¬({ base with pwr := { base.pwr with tripLatch := true } } : State).Running ∧
    5 < (6 : Byte).toNat ∧ (rg [(.GLB_STATUS_BOOT_STATE, 0, 4), (.SMB_ALERT_STATUS_ALERT, 0, 1), (.SMB_ALERT_EN_EN, 0, 1)]).smbAlert = true := by
  unfold State.Running; decide +kernel

/-- Slice 5 is off and may be enabled; slice 0 holds PASID 7. -/
def sliceOff : State :=
  { rg [(.GLB_STATUS_READY, 0, 1), (.SLC_SLICE_PASID_PASID_VALID, 5, 1), (.SLC_SLICE_PASID_PASID, 5, 9), (.SLC_SLICE_PASID_PASID_VALID, 0, 1),
      (.SLC_SLICE_PASID_PASID, 0, 7)] with pci := { base.pci with pasidEn := true } }

theorem test_slice_control_witness : sliceOff.getF .SLC_SLICE_CTRL_ENABLE 5 = 0 ∧ sliceOff.getF .GLB_STATUS_READY 0 ≠ 0 ∧ sliceOff.getF .SLC_SLICE_CTRL_STATE 5 = 0 ∧
    sliceOff.pci.pasidEn = true ∧ sliceOff.getF .SLC_SLICE_PASID_PASID_VALID 5 ≠ 0 ∧
    ¬(∃ i, i ≠ 5 ∧ (i = 0 ∨ sliceOff.getF .SLC_SLICE_CTRL_ENABLE i ≠ 0) ∧ sliceOff.getF .SLC_SLICE_PASID_PASID_VALID i ≠ 0 ∧
        sliceOff.getF .SLC_SLICE_PASID_PASID i = sliceOff.getF .SLC_SLICE_PASID_PASID 5) ∧
    (let s := sliceOff.setF .SLC_SLICE_PASID_PASID 5 7
     ∃ i, i ≠ 5 ∧ (i = 0 ∨ s.getF .SLC_SLICE_CTRL_ENABLE i ≠ 0) ∧ s.getF .SLC_SLICE_PASID_PASID_VALID i ≠ 0 ∧ s.getF .SLC_SLICE_PASID_PASID i = s.getF .SLC_SLICE_PASID_PASID 5) ∧
    ¬(base.pci.pasidEn = true) ∧ (rg [(.SLC_SLICE_CTRL_STATE, 5, 3)]).getF .SLC_SLICE_CTRL_STATE 5 = 3 := by
  refine ⟨by decide +kernel, by decide +kernel, by decide +kernel, rfl, by decide +kernel, ?_, ⟨0, by decide +kernel⟩, by decide, by decide +kernel⟩
  rintro ⟨i, h1, h2, h3, h4⟩
  rcases h2 with rfl | h2
  · revert h4; decide +kernel
  · by_cases h0 : i = 0
    · subst h0; revert h4; decide +kernel
    · exact h2 ((rg_getF _ .SLC_SLICE_CTRL_ENABLE i (by decide)).trans (by simp [Fld.reset, h0]))

theorem test_slice_pause_witness : (rg [(.SLC_SLICE_CTRL_STATE, 5, 1)]).getF .SLC_SLICE_CTRL_STATE 5 = 1 ∧
    (∀ e ∈ (rg [(.SLC_SLICE_CTRL_STATE, 5, 1)]).queues, ((rg [(.SLC_SLICE_CTRL_STATE, 5, 1)]).queue e.1).passed = none) ∧
    (∃ j ∈ (withJob [] { jb 0 0 0 0 with slice := 5 }).jobs, j.slice = 5 ∧ j.stage ≠ .done ∧ j.stage ≠ .ownWait) ∧
    (rg [(.SLC_SLICE_CTRL_STATE, 5, 2)]).getF .SLC_SLICE_CTRL_STATE 5 = 2 ∧ (rg [(.SLC_SLICE_CTRL_STATE, 5, 3)]).getF .SLC_SLICE_CTRL_STATE 5 = 3 ∧
    (∀ j ∈ (withJob [] { jb 0 0 0 0 with slice := 5 }).jobs, j.slice = 5 → j.stage = .fetching → j.pasid = (withJob [] { jb 0 0 0 0 with slice := 5 }).pasidOf 5) := by
  decide +kernel

theorem test_pasid_witness : (∃ j ∈ (withJob [] { jb 0 0 0 0 with slice := 5, pasid := some 8 }).jobs, j.slice = 5 ∧ j.stage = .fetching ∧ j.pasid ≠ some 7) ∧
    bit (0x40000007 : W32).toNat 30 = true ∧ bit (0 : W32).toNat 30 = false ∧ (rg [(.SLC_SLICE_CTRL_ENABLE, 5, 1)]).getF .SLC_SLICE_CTRL_ENABLE 5 ≠ 0 ∧
    sliceOff.getF .SLC_SLICE_PASID_PASID 0 = bits (0x40000007 : W32).toNat 19 0 ∧ sliceOff.getF .SLC_SLICE_PASID_PASID_VALID 0 ≠ 0 ∧
    ¬(∃ i, i ≠ 5 ∧ (i = 0 ∨ base.getF .SLC_SLICE_CTRL_ENABLE i ≠ 0) ∧ base.getF .SLC_SLICE_PASID_PASID_VALID i ≠ 0 ∧ base.getF .SLC_SLICE_PASID_PASID i = 7) := by
  refine ⟨by decide +kernel, by decide, by decide, by decide +kernel, by decide +kernel, by decide +kernel, ?_⟩
  rintro ⟨i, -, -, h, -⟩; exact h (rg_zero [] _ i)

/-- The range 0 to 1,023 in a device that has no other grant; and a range with an enabled queue in it. -/
theorem test_queue_range_witness : bits (0x04000000 : W32).toNat 26 16 = 1024 ∧ bits (0x04000000 : W32).toNat 13 0 + 1024 ≤ 16384 ∧
    (∀ q, base.getF .QC_CTRL_ENABLE q = 0 ∧ base.getF .QC_CTRL_STATE q = 0) ∧
    (∀ i, i ≠ 5 → ∀ q, 0 ≤ q → q < 0 + 1024 → ¬(base.getF .SLC_SLICE_QUEUES_QBASE i ≤ q ∧ q < base.getF .SLC_SLICE_QUEUES_QBASE i + base.getF .SLC_SLICE_QUEUES_QCOUNT i)) ∧
    (rg [(.QC_CTRL_ENABLE, 3, 1)]).getF .QC_CTRL_ENABLE 3 ≠ 0 := by
  refine ⟨by decide, by decide, fun q => ⟨rg_zero [] _ q, rg_zero [] _ q⟩, fun i hi q h1 h2 => ?_, by decide +kernel⟩
  rintro ⟨h3, h4⟩
  have h5 : base.getF .SLC_SLICE_QUEUES_QCOUNT i = 0 := rg_zero [] _ i
  omega

theorem test_grant_witness : bits (0x00010000 : W32).toNat 16 0 ≤ 65536 ∧ 65536 < bits (0x00010001 : W32).toNat 16 0 ∧ (0x80000000 : W32).toNat ≤ 2 ^ 31 ∧
    2 ^ 31 < (0x80000001 : W32).toNat ∧ bits (0x01000F00 : W32).toNat 24 16 ≤ 256 ∧ bits (0x01000F00 : W32).toNat 11 0 + 256 ≤ 4096 ∧
    bits (0x04001C00 : W32).toNat 26 16 ≤ 1024 ∧ bits (0x04001C00 : W32).toNat 12 0 + 1024 ≤ 8192 ∧ 64 ≤ bits (0x04001C00 : W32).toNat 12 0 ∧
    (∀ f ∈ [Fld.SLC_SLICE_EVRINGS_ECOUNT, .SLC_SLICE_VECTORS_VCOUNT], ∀ i, base.getF f i = 0) ∧ ∀ x, base.pba x = false := by
  refine ⟨by decide, by decide, by decide, by decide, by decide, by decide, by decide, by decide, by decide, ?_, fun x => ?_⟩
  · intro f hf i; simp at hf; rcases hf with rfl | rfl
    · exact rg_zero [] _ i
    · exact rg_zero [] _ i
  · unfold State.pba
    rw [show base.getF .MSIX_PBA_BITS (x / 64) = 0 from rg_zero [] _ _]; simp [bit]

theorem test_lowered_vectors_witness : (rg [(.SLC_SLICE_VECTORS_VCOUNT, 0, 8), (.SLC_SLICE_VECTORS_VBASE, 0, 64)]).getF .SLC_SLICE_VECTORS_VCOUNT 0 ≤ 8 ∧
    (∃ s : State, s.regsOk ∧ s.getF .SLC_SLICE_VECTORS_VCOUNT 0 ≤ s.getF .EVR_CTRL_VECTOR 0 ∧ s.ringOwner 0 = some 0 ∧ (s.ring 0).timer ≠ none ∧ s.getF .EVR_CTRL_IRQ_EN 0 ≠ 0) ∧
    (let s := rg [(.SLC_SLICE_VECTORS_VCOUNT, 5, 8), (.SLC_SLICE_VECTORS_VBASE, 5, 64)]
     bits (0x00040040 : W32).toNat 12 0 = s.getF .SLC_SLICE_VECTORS_VBASE 5 ∧ bits (0x00040040 : W32).toNat 26 16 ≤ s.getF .SLC_SLICE_VECTORS_VCOUNT 5 ∧
       64 ≤ s.getF .SLC_SLICE_VECTORS_VBASE 5 ∧ ∀ i, i ≠ 5 → s.getF .SLC_SLICE_VECTORS_VCOUNT i = 0) := by
  refine ⟨by decide +kernel, ⟨{ rg [(.SLC_SLICE_EVRINGS_ECOUNT, 0, 1), (.EVR_CTRL_IRQ_EN, 0, 1)] with rings := [(0, { timer := some 5, since := 1 })] },
    State.regsOk_regs rfl (rg_regsOk _), by decide +kernel⟩, by decide +kernel, by decide +kernel, by decide +kernel, fun i hi => ?_⟩
  unfold rg; simp [hi]; exact rg_zero [] _ i

theorem test_mailbox_witness : (rg [(.SLC_SLICE_CTRL_ENABLE, 5, 1)]).getF .SLC_SLICE_CTRL_ENABLE 5 ≠ 0 ∧ base.getF .SLC_T_MBX_T2M_FULL 5 = 0 ∧
    base.getF .SLC_T_MBX_M2T_FULL 5 = 0 ∧ (rg [(.SLC_T_MBX_T2M_FULL, 5, 1)]).getF .SLC_T_MBX_T2M_FULL 5 ≠ 0 ∧
    (rg [(.SLC_T_MBX_M2T_FULL, 5, 1)]).getF .SLC_T_MBX_M2T_FULL 5 ≠ 0 ∧ (zeros 64).length ∈ [4, 8, 16, 32, 64] ∧ 192 % (zeros 64).length = 0 ∧ 192 + (zeros 64).length ≤ 256 := by
  decide +kernel

/-- Registers in a function that may issue requests. -/
def mastering (l : List (Fld × Nat × Nat)) : State := { rg l with pci := { base.pci with busMaster := true } }

theorem test_dirty_log_witness : (mastering [(.SLC_SLICE_CTRL_LOG_EN, 5, 1), (.SLC_SLICE_DPL_BASE_SIZE_LOG2, 5, 10)]).regsOk ∧
    (let s := mastering [(.SLC_SLICE_CTRL_LOG_EN, 5, 1), (.SLC_SLICE_DPL_BASE_SIZE_LOG2, 5, 10)]
     s.getF .SLC_SLICE_CTRL_LOG_EN 5 ≠ 0 ∧ s.dplFree 5 ≠ 0 ∧ s.mayIssue = true) ∧ base.getF .SLC_SLICE_CTRL_LOG_EN 5 = 0 ∧
    (rg [(.SLC_SLICE_CTRL_LOG_EN, 5, 1), (.SLC_SLICE_DPL_BASE_SIZE_LOG2, 5, 10), (.SLC_SLICE_DPL_PROD_PROD, 5, 1023)]).dplFree 5 = 0 :=
  ⟨State.regsOk_regs rfl (rg_regsOk _), by decide +kernel⟩

/-- Queue 3 of slice 0, a ring of 16, enabled, FETCH 2, TAIL 4. -/
def q3 : State :=
  { rg [(.SLC_SLICE_QUEUES_QCOUNT, 0, 8), (.QC_RING_BASE_SIZE_LOG2, 3, 4), (.QC_CTRL_ENABLE, 3, 1), (.QC_CTRL_STATE, 3, 1), (.QC_TAIL_TAIL, 3, 4),
      (.QC_CTRL_WINDOW, 3, 8), (.QC_HEAD_HEAD, 3, 2), (.GLB_STATUS_READY, 0, 1)] with
    queues := [(3, { fetch := 2 })], pci := { base.pci with busMaster := true, memSpace := true, perstLow := false } }

theorem test_doorbell_witness : (3 < q3.getF .SLC_SLICE_QUEUES_QCOUNT 0 ∧ q3.getF .SLC_SLICE_QUEUES_QBASE 0 + 3 = 3) ∧ ¬(8 < q3.getF .SLC_SLICE_QUEUES_QCOUNT 0) ∧
    (6 < 2 ^ 16 ∧ q3.getF .QC_CTRL_ENABLE 3 ≠ 0 ∧ q3.getF .QC_CTRL_STATE 3 ≠ 3 ∧ 6 < 2 ^ q3.getF .QC_RING_BASE_SIZE_LOG2 3 ∧
      dist 16 (q3.getF .QC_TAIL_TAIL 3) (q3.getF .QC_HEAD_HEAD 3) ≤ dist 16 6 (q3.getF .QC_HEAD_HEAD 3)) ∧
    ¬(dist 16 (q3.getF .QC_TAIL_TAIL 3) (q3.getF .QC_HEAD_HEAD 3) ≤ dist 16 3 (q3.getF .QC_HEAD_HEAD 3)) ∧
    ({ q3 with jobs := [{ jb 0 0 0 0 with q := 3 }] } : State).openJobs 3 ≠ [] ∧ (q3.queue 3).missHeld = false ∧
    (let j : Job := { jb 0 0 0 0 with q := 3, stage := .ownWait }
     let s : State := { q3 with jobs := [j], queues := [(3, { fetch := 3, missHeld := true, rereads := 8 })] }
     (s.queue 3).missHeld = true ∧ s.mayIssue = true ∧ ({ s with pci := base.pci } : State).mayIssue = false ∧ s.job? 3 j.idx = some j ∧ ∀ k ∈ s.jobs, k.q = 3 → k.stage = .ownWait → k.idx = j.idx) := by decide +kernel

theorem test_fetch_witness : q3.mayFetch 3 = true ∧ (q3.queue 3).fetch < q3.ringSize 3 ∧ (q3.queue 3).fetch ≠ q3.getF .QC_TAIL_TAIL 3 ∧
    dist (q3.ringSize 3) (q3.queue 3).fetch (q3.getF .QC_HEAD_HEAD 3) < q3.window 3 ∧ (q3.openJobs 3).length < q3.window 3 ∧ q3.fetchCredit 3 = true := by decide +kernel

theorem test_ownership_witness : (withJob [] (jb 0 0 0 0)).job? 1 2 = some (jb 0 0 0 0) ∧ (jb 0 0 0 0).stage = .fetching ∧
    bit ([0, 0, 0, 0, 0, 0, 0, 0x8000000000000000] : List W64)[7].toNat 63 = true ∧ bit (([] : List W64).getD 7 0).toNat 63 = false ∧
    (let j : Job := { jb 0 0 0 0 with stage := .ownWait }
     let s : State := { mastering [] with jobs := [j] }
     s.job? 1 2 = some j ∧ s.mayIssue = true ∧ (s.queue 1).missHeld = false ∧ (∀ k ∈ s.jobs, k.q = 1 → k.stage = .ownWait → k = j)) ∧
    base.mayIssue = false ∧ (({ mastering [] with jobs := [jb 0 0 0 0], queues := [(1, { rereads := 7 })] } : State).queue 1).rereads = 7 := by decide +kernel

theorem test_queue_enable_witness : (let s := rg [(.GLB_STATUS_READY, 0, 1), (.SLC_SLICE_QUEUES_QCOUNT, 0, 8), (.QC_RING_BASE_SIZE_LOG2, 3, 16), (.QC_RING_BASE_BASE, 3, 1), (.QC_HEAD_ADDR_ADDR, 3, 1)]
      s.getF .QC_CTRL_ENABLE 3 = 0 ∧ s.getF .GLB_STATUS_READY 0 ≠ 0 ∧ s.ownerOf 3 = some 0 ∧ s.getF .QC_RING_BASE_SIZE_LOG2 3 = 16 ∧ s.getF .QC_RING_BASE_BASE 3 ≠ 0 ∧
        s.getF .QC_HEAD_ADDR_ADDR 3 ≠ 0 ∧ s.getF .QC_HEAD_HEAD 3 < 2 ^ 16 ∧ s.getF .QC_TAIL_TAIL 3 < 2 ^ 16 ∧ s.getF .QC_CTRL_STATE 3 = 0) ∧
    ¬(base.getF .GLB_STATUS_READY 0 ≠ 0) ∧
    (let s : State := { q3 with jobs := [{ jb 0 0 0 0 with q := 3, stage := .accepted }] }
     s.getF .QC_CTRL_ENABLE 3 ≠ 0 ∧ (∀ j ∈ s.jobs, j.q = 3 → j.stage ≠ .ownWait ∧ dist (s.ringSize 3) j.idx (s.getF .QC_HEAD_HEAD 3) < s.ringSize 3) ∧
       (s.queue 3).passed = none ∧ s.openJobs 3 ≠ [] ∧ s.getF .SLC_SLICE_CTRL_STATE (s.sliceOf 3) ≠ 2) := by decide +kernel

theorem test_event_ring_witness : (let s := rg [(.EVR_BASE_SIZE_LOG2, 0, 4), (.EVR_PROD_PROD, 0, 15)]
      (14 < 2 ^ s.getF .EVR_BASE_SIZE_LOG2 0 ∧ dist 16 14 (s.getF .EVR_T_CONS_CONS 0) ≤ dist 16 (s.getF .EVR_PROD_PROD 0) (s.getF .EVR_T_CONS_CONS 0)) ∧
        ¬(16 < 2 ^ s.getF .EVR_BASE_SIZE_LOG2 0) ∧ s.evrFull 0 = true) ∧ (rg [(.EVR_BASE_SIZE_LOG2, 0, 4)]).evrFull 0 = false := by decide +kernel

theorem test_event_ring_control_witness : (let s := rg [(.EVR_BASE_SIZE_LOG2, 0, 16)]
      4 ≤ s.getF .EVR_BASE_SIZE_LOG2 0 ∧ s.getF .EVR_BASE_SIZE_LOG2 0 ≤ 16 ∧ (s.ring 0).since = 0) ∧ ¬(4 ≤ (rg [(.EVR_BASE_SIZE_LOG2, 0, 3)]).getF .EVR_BASE_SIZE_LOG2 0) ∧ ¬((rg [(.EVR_BASE_SIZE_LOG2, 0, 17)]).getF .EVR_BASE_SIZE_LOG2 0 ≤ 16) ∧
    (let s : State := { rg [(.SLC_SLICE_EVRINGS_ECOUNT, 0, 1), (.EVR_CTRL_IRQ_EN, 0, 1)] with rings := [(0, { timer := some 5, since := 1 })] }
     (s.ring 0).timer ≠ none ∧ s.getF .EVR_CTRL_IRQ_EN 0 ≠ 0) ∧
    (let s : State := { rg [(.SLC_SLICE_EVRINGS_ECOUNT, 0, 1), (.SLC_SLICE_QUEUES_QCOUNT, 0, 1), (.EVR_T_STATUS_OVERFLOW, 0, 1)] with queues := [(0, { missed := true })] }
     s.getF .EVR_T_STATUS_OVERFLOW 0 ≠ 0 ∧ s.queues = [(0, { missed := true })] ∧ (s.ringOwner 0).getD 0 = 0 ∧ s.getF .SLC_SLICE_QUEUES_QBASE 0 ≤ 0 ∧
       0 < s.getF .SLC_SLICE_QUEUES_QBASE 0 + s.getF .SLC_SLICE_QUEUES_QCOUNT 0 ∧ s.getF .SLC_SLICE_EVRINGS_EBASE 0 + s.getF .QC_CTRL_EVRING 0 = 0) ∧
    ∀ q, (base.queue q).missed = false := ⟨by decide +kernel, by decide +kernel, by decide +kernel, by decide +kernel, by decide +kernel, fun _ => rfl⟩

/-- Channel 1 is enabled with a ring of 16 and one request waits. -/
def chan1 : State :=
  { rg [(.QE_SC_BASE_SIZE_LOG2, 1, 4), (.QE_SC_CTRL_ENABLE, 1, 1), (.SEAL_SC_BUF_BASE, 1, 1)] with
    pci := { base.pci with busMaster := true, memSpace := true, perstLow := false }
    store := { base.store with scQ := [{ op := .fetch, block := 1, since := 0 }] } }

theorem test_storage_channel_witness : (4 ≤ (rg [(.QE_SC_BASE_SIZE_LOG2, 1, 12)]).getF .QE_SC_BASE_SIZE_LOG2 1 ∧ (rg [(.QE_SC_BASE_SIZE_LOG2, 1, 12)]).getF .QE_SC_BASE_SIZE_LOG2 1 ≤ 12) ∧
    ¬((rg [(.QE_SC_BASE_SIZE_LOG2, 1, 13)]).getF .QE_SC_BASE_SIZE_LOG2 1 ≤ 12) ∧
    (chan1.mayIssue = true ∧ chan1.getF .TMP_STATUS_HALTED 0 = 0 ∧ chan1.postable { op := .fetch, block := 1, since := 0 } = true ∧ chan1.chanFor 1 = some 1) ∧
    (let s : State := { chan1 with chans := [(1, { holdoffUntil := some 5, postedInHoldoff := true, outstanding := [{ req := { op := .fetch, block := 1, since := 0 }, tag := 7, buf := 0, limitMs := 0, at' := 0 }] })] }
     (s.chan 1).holdoffUntil ≠ none ∧ (s.chan 1).postedInHoldoff = true ∧ ∃ o l, (s.chan 1).outstanding = o :: l) ∧
    ((({ chan1 with chans := [(1, { holdoffUntil := some 5 })] } : State).chan 1).postedInHoldoff = false) :=
  ⟨by decide +kernel, by decide +kernel, by decide +kernel, ⟨by decide +kernel, by decide +kernel, ⟨_, _, rfl⟩⟩, by decide +kernel⟩

theorem test_storage_completion_witness : (∀ o ∈ (base.chan 1).outstanding, o.tag ≠ 7) ∧
    (let s : State := { chan1 with chans := [(1, { outstanding := [{ req := { op := .fetch, block := 1, since := 0 }, tag := 6, buf := 0, limitMs := 0, at' := 0 }, { req := { op := .fetch, block := 2, since := 0 }, tag := 7, buf := 0, limitMs := 0, at' := 0 }] })] }
     ∃ a b o, (s.chan 1).outstanding = a ++ o :: b ∧ o.tag = 7 ∧ ∀ x ∈ a, x.tag ≠ 7) ∧
    ∃ r n rest, ({ base with store := { base.store with retryQ := [({ op := .fetch, block := 1, since := 0 }, 5)] } } : State).store.retryQ = (r, n) :: rest :=
  ⟨by decide +kernel, ⟨[{ req := { op := .fetch, block := 1, since := 0 }, tag := 6, buf := 0, limitMs := 0, at' := 0 }], [], { req := { op := .fetch, block := 2, since := 0 }, tag := 7, buf := 0, limitMs := 0, at' := 0 },
    by decide +kernel⟩, ⟨_, _, _, rfl⟩⟩

theorem test_resets_witness : q3.mayIssue = true ∧ (rg [(.SLC_SLICE_CTRL_STATE, 5, 1)]).getF .SLC_SLICE_CTRL_STATE 5 ≠ 4 ∧ (rg [(.SLC_SLICE_CTRL_STATE, 5, 1)]).usedQueues 5 = [] ∧
    (let s := rg [(.SLC_SLICE_CTRL_STATE, 5, 1), (.SLC_SLICE_QUEUES_QCOUNT, 5, 8), (.QC_CTRL_ENABLE, 3, 1), (.QC_CTRL_STATE, 3, 1)]; 3 ∈ s.usedQueues 5) ∧
    (rg [(.SLC_SLICE_CTRL_STATE, 5, 4)]).getF .SLC_SLICE_CTRL_STATE 5 = 4 ∧
    (∃ j ∈ (withJob [(.SLC_SLICE_CTRL_STATE, 5, 4)] { jb 0 0 0 0 with slice := 5 }).jobs, j.slice = 5 ∧ j.stage ≠ .done) := by decide +kernel

/-- A job of queue 3 in a stage, its words NOP. -/
def nopAt (st : Stage) : Job := { q := 3, idx := 2, words := List.replicate 8 0, stage := st }

/-- Queue 3 with that one job. -/
def q3job (j : Job) : State := { q3 with jobs := [j] }

/-- The entry waits for decoding: in LOCKDOWN, with an unknown opcode, with an admin opcode on slice 5, in a state that does not permit it, behind a broken link. -/
theorem test_decode_witness : (∀ o ∈ [0x0000, 0xFFFF, 0x0110], let j : Job := { nopAt .fetched with words := [BitVec.ofNat 64 o, 0, 0, 0, 0, 0, 0, 0] }
      (q3job j).decodable 3 = some j ∧ (q3job j).job? j.q j.idx = some j ∧ ((q3job j).queue 3).chainFail = none) ∧
    ((q3job (nopAt .fetched)).setF .TMP_STATUS_LOCKDOWN 0 1).getF .TMP_STATUS_LOCKDOWN 0 ≠ 0 ∧
    (q3.getF .TMP_STATUS_LOCKDOWN 0 = 0 ∧ opKnown 0xFFFF = false ∧ opKnown 0x0F00 = true ∧ (jb 0x0F00 0 0 0).adminOnly = true ∧
      ({ jb 0x0F00 0 0 0 with slice := 5 } : Job).slice ≠ 0 ∧ opKnown 0x0110 = true ∧ q3.permitted (jb 0x0110 0 0 0) = false) ∧
    (({ q3 with queues := [(3, { fetch := 3, chainLen := 1, chainFail := some (0x0101, 0) })] } : State).queue 3).chainFail = some (0x0101, 0) := by decide +kernel

theorem test_acceptance_witness : let j := nopAt .fetched
    let s := q3job j
    s.decodable 3 = some j ∧ s.job? 3 2 = some j ∧ (s.queue 3).chainFail = none ∧ s.checks { j with binder := s.binderOf 3, chainPos := 0, passed := none } {} {} = .ok ([], []) ∧
      s.parkUsed + s.parkNeed j ≤ 1048576 ∧ j.appends = false ∧ (s.jobKey j).custody = none ∧ j.opcode ≠ 0x0502 ∧
      (∀ h ∈ j.handles, (s.key (h % 65536)).unusable = false) ∧ j.short = false := by decide +kernel

/-- An accepted LC_INFO that waits for its pool. -/
def lcJob : Job := { nopAt .accepted with words := [0x0F02, 0, 0, 0x2000000000, 0x1000, 0, 0, 0], stamp := 1, inCred := 1, checked := true }

theorem test_dispatch_witness : (∃ p, (q3job lcJob).dispatchStopped = false ∧ (q3job lcJob).jobs.filter (fun k => (q3job lcJob).waitsFor p k) = [lcJob] ∧
      (q3job lcJob).job? lcJob.q lcJob.idx = some lcJob ∧ 0 < (q3job lcJob).poolFree p ∧ (p ≠ .CDE ∧ p ≠ .BGN) ∧ lcJob.inCred ≠ 0) ∧
    (rg [(.TMP_STATUS_HALTED, 0, 1)]).getF .TMP_STATUS_HALTED 0 ≠ 0 ∧ (rg [(.PWR_STATUS_DISPATCH_HELD, 0, 1)]).getF .PWR_STATUS_DISPATCH_HELD 0 ≠ 0 :=
  ⟨⟨.SVC, by decide +kernel⟩, by decide +kernel, by decide +kernel⟩

theorem test_parking_witness : (let j : Job := { lcJob with stage := .dispatched, waitSince := some 0, parkSlots := 3 }
      (q3job j).job? 3 2 = some j ∧ j.waitSince ≠ none ∧ 0 < j.parkSlots) ∧
    (let j : Job := { lcJob with stage := .parked, needCommit := 5, computed := true }
     (q3job j).waitOver j = false) ∧
    (let j : Job := { lcJob with stage := .parked, computed := true }
     (q3job j).waitOver j = true ∧ (q3job j).dispatchStopped = false ∧ ((q3job j).outGrant j).elim false (fun e => e.2 == false) = true) := by decide +kernel

theorem test_execution_end_witness : (let j : Job := { lcJob with stage := .dispatched, computed := true }
      (q3job j).job? 3 2 = some j ∧ ((q3job j).outGrant j).elim false (fun e => e.2 == false) = true) ∧
    (let j : Job := { lcJob with stage := .dispatched, computed := true }
     ({ q3 with jobs := [{ j with stamp := 2, output := zeros 32 }, { j with idx := 1, outCred := 16384 }] } : State).outGrant { j with stamp := 2, output := zeros 32 } = none) := by decide +kernel

theorem test_commit_witness : (let j : Job := { lcJob with stage := .ended, computed := true }
      (q3job j).mayCommit j = true ∧ (q3job j).job? 3 2 = some j ∧ (q3job j).getF .SLC_SLICE_CTRL_LOG_EN 0 = 0) ∧
    (q3job lcJob).mayCommit lcJob = false ∧
    (let j := nopAt .accepted
     (q3job j).job? 3 2 = some j ∧ j.opcode = 0 ∧ (q3job j).fenceOk j = true ∧ (q3job j).dispatchStopped = false) := by decide +kernel

theorem test_outcome_witness : ∀ e ∈ [(0x0200, Pool.HSH), (0x0122, .HSH), (0x0300, .STR), (0x0130, .BGN)],
    let j : Job := { nopAt .dispatched with words := [BitVec.ofNat 64 e.1, 0, 0, 0, 0, 0, 0, 0], pools := [e.2] }
    (q3job j).job? 3 2 = some j ∧ j.opcode = e.1 ∧ j.computed = false ∧
      ((q3job j).engineGate j).isSome = true := by decide +kernel

/-- Entropy ready and every unit of every engine online. -/
def engines : List (Fld × Nat × Nat) := [(.ENT_STATUS_READY, 0, 1), (.HSH_CORE_ONLINE_ONLINE, 0, 0xFFFFFFFF), (.HSH_CORE_ENABLE_EN, 0, 0xFFFFFFFF),
  (.BGN_MUL_ONLINE_ONLINE, 0, 15), (.BGN_MUL_ENABLE_EN, 0, 15), (.STR_PIPE_ONLINE_ONLINE, 0, 3), (.CDE_UNIT_ONLINE_ONLINE, 0, 7)]

/-- Every opcode's statement assumes its job at its engine, and some a draw of 1 to 128 bytes: such states there are, whatever the pool. Where a clause
also asks for the verdict of an uninterpreted check, the clause beside it takes the other verdict. -/
theorem test_at_engine_witness : ∀ op ∈ [0x0110, 0x0111, 0x0112, 0x0120, 0x0121, 0x0122, 0x0123, 0x0130, 0x0140, 0x0200, 0x0201, 0x0202, 0x0203, 0x0300, 0x0301, 0x0302,
      0x0303, 0x0304, 0x0305, 0x0306, 0x0400, 0x0500, 0x0501, 0x0502, 0x0503, 0x0504, 0x0505, 0x0600, 0x0601, 0x0602, 0x0603, 0x0604, 0x0605, 0x0700, 0x0701, 0x0702,
      0x0800, 0x0801, 0x0900, 0x0F00, 0x0F01, 0x0F02, 0x0F03],
    let j : Job := { atEngine op 0 0 0 with pools := (atEngine op 0 0 0).poolsNeeded }
    (withJob engines j).AtEngine 1 2 op j ∧ (withJob engines j).CanDraw j 128 ∧ (withJob engines j).maskOk j = true := by
  unfold State.AtEngine State.CanDraw; decide +kernel

/-- Key generation of a set without and with a systemizer; a value that the checks of validation pass, and one that they do not. -/
theorem test_kem_witness : (jb 0x00020110 0 0 0).systemizer = false ∧ (jb 0x00100110 0 0 0).systemizer = true ∧ (jb 0x00020110 0 0 0).newKey.isSome = true ∧
    kemPkFault 0x20 [] [] = 0 ∧ kemPkFault 0x32 [0] [] ≠ 0 ∧ ctFault 2 [] [] [] = 0 ∧ ctFault 0x32 [] [] [0] ≠ 0 ∧ peerFault 0x32 [0] ≠ 0 ∧
    bit (jb 0x00400140 0 0 0).aux 0 = false ∧ bit (jb 0x00400140 (2 ^ 32) 0 0).aux 0 = true := by decide +kernel

theorem test_signature_witness : (isStateful 1 = false ∧ isRsa 1 = false ∧ isRsa 0x40 = true ∧ isStateful 0x20 = true) ∧ (jb 0x00010120 0 0 0).newKey.isSome = true ∧
    (sigSizes 1).isSome = true ∧ signDraw { ps := 1, prehash := 0, salt := 0, digest := false, ctx := [], msg := [] } true = 0 ∧
    signDraw { ps := 1, prehash := 0, salt := 0, digest := false, ctx := [], msg := [] } false = 32 ∧ isMlDsa 1 = true ∧
    ¬(isEcdsa 1 = true ∨ isEddsa 1 = true ∨ isRsa 1 = true) ∧
    (let s : State := { base with kv := { base.kv with custody := [(0, { resEnd := 1024, ceil := 1024 })] } }
     s.indexReady 0 1023 = true ∧ s.indexReady 0 1024 = false) := by decide +kernel

theorem test_mac_witness : bit (jb 0x0201 0 0 0).aux 31 = false ∧ bit (jb 0x0201 (2 ^ 63) 0 0).aux 31 = true := by decide +kernel

theorem test_cipher_witness : (jb 0x0300 0 0 0).ivGen = false ∧ (jb 0x0300 (2 ^ 63) 0 0).ivGen = true ∧ (jb 0x00300305 0 0 0).paramset = 0x30 ∧
    (jb 0x00310305 0 0 0).paramset ≠ 0x30 ∧ (jb 0x0400 0 0 0).paramset ≠ 1 ∧ (jb 0x02000400 0 0 0).stitch = true ∧ (jb 0x0400 0 0 0).stitch = false ∧
    (zeros 4096).length ≤ 4096 := by decide +kernel

theorem test_key_witness : (∃ aux, bit (jb 0x00010500 (aux * 2 ^ 32) 0 0).aux 0 = false ∧ bit (jb 0x00010500 (aux * 2 ^ 32) 0 0).aux 1 = false ∧
      (jb 0x00010500 (aux * 2 ^ 32) 0 0).rawLenOk 16 = true ∧ (jb 0x00010500 (aux * 2 ^ 32) 0 0).newKey.isSome = true ∧ secretBad 3 1 (zeros 16) = false) ∧
    (∃ aux, bit (jb 0x00200500 (aux * 2 ^ 32) 0 0).aux 0 = false ∧ bit (jb 0x00200500 (aux * 2 ^ 32) 0 0).aux 1 = true ∧
      (jb 0x00200500 (aux * 2 ^ 32) 0 0).rawLenOk (kemPk 0x20) = true ∧ (jb 0x00200500 (aux * 2 ^ 32) 0 0).newKey.isSome = true ∧ publicFault 1 0x20 (zeros 1) = 0 ∧ bgnFamily 1 0x20 = false) ∧
    (let j : Job := { nopAt .dispatched with words := [0x0502, 1, 0, 0, 0, 0, 0, 0], stamp := 4 }
     let s : State := { q3job j with kv := { base.kv with destroys := [{ key := 1, stamp := 4, q := 3, idx := 2 }], keys := [(1, { used := true })] } }
     s.kv.destroys = [{ key := 1, stamp := 4, q := 3, idx := 2 }] ∧ (∀ x ∈ s.jobs, x.live = true → 1 ∈ x.keys → 4 ≤ x.stamp) ∧ s.job? 3 2 = some j ∧
       j.stage = .dispatched ∧ j.computed = false ∧ (s.key 1).used = true ∧ s.kv.hot.contains 1 = false ∧ neverResident (s.key 1).family (s.key 1).paramset = false) ∧
    (jb 0x00050504 0 0 0).newKey.isSome = true ∧
    (let j := atEngine 0x0505 1 0 0
     let s : State := { withJob engines j with kv := { base.kv with keys := [(1, { used := true, custody := some 0 })], custody := [(0, { resLog2 := 10, resEnd := 4096 })] } }
     (s.jobKey j).custody = some 0 ∧ j.phase = 0 ∧ (s.cust 0).raising = none ∧ (s.cust 0).raiseAsked = false ∧ s.getF .PWR_STATUS_BRACE 0 = 0 ∧
       (s.cust 0).useEnd + 2 * (s.cust 0).block ≤ (s.cust 0).resEnd) :=
  ⟨⟨0x0300, by decide +kernel⟩, ⟨0x0102, by decide +kernel⟩, by decide +kernel, by decide +kernel, by decide +kernel⟩

/-- The code of a kernel whose only bundle ends it (R271). -/
def endCode : List Nat := [oneMove tCTL 0 (opWith 3 0)]

/-- A kernel of one core with ID 1, a cycle limit of 10 and the code given (R283). -/
def kern (code : List Nat) : KernelX :=
  { slot := 0, bundle := zeros 6 ++ leBytes 2 1 ++ zeros 12 ++ leBytes 2 code.length ++ zeros 26 ++ leBytes 4 10 ++ zeros 204 ++ code.flatMap (leBytes 16),
    codeAt := 0, constAt := 0 }

/-- A KERNEL_RUN of it at its engine. -/
def runJob : Job := { q := 1, idx := 2, words := [0x900, 0, 0, 0, 0, 1, 0, 0], stage := .dispatched, kernel := some 0, pools := [.MAR], stamp := 1 }

/-- That job in a device whose core 0 is online with the kernel loaded. -/
def runState (code : List Nat) : State :=
  { rg [(.MAR_CORE_ENABLE_EN, 0, 1), (.MAR_CORE_ONLINE_ONLINE, 0, 1)] with jobs := [runJob], mar := { base.mar with kernels := [kern code] } }

/-- Its core 0 runs it in quarter 0. -/
def running (code : List Nat) (run : CoreRun) : State :=
  let s := runState code
  { s with jobs := [{ runJob with core := some (0, 0) }]
           mar := { s.mar with cores := [(0, { quarters := [(0, { st := .running, job := some (1, 2) })], run := run })] } }

theorem test_ledger_witness : (let j := atEngine 0x0601 0 0 0
      j.size ≤ ((withJob [] j).stream 0).placed ∧ isStateful 0x38 = false ∧ isEddsa 0x38 = true) ∧
    (let s : State := { base with qre := { base.qre with streams := [(0, { latest := 4, records := [(0, 0, 128), (0, 128, 128)] })] } }
     (s.stream 0).latest < 5 ∧ 4 ≤ (s.stream 0).latest ∧ 3 < 4 ∧ (s.stream 0).records.length ≤ 2 ∧ (s.stream 0).records[1]?.isSome = true) ∧
    base.readAll [] = some [] ∧ ({ base with store := { base.store with nodes := [(nodeKey 11 0, { vals := List.replicate 8 (1, 0) })] } } : State).readAll [64] = none ∧ base.freeStream = some 1 ∧
    (rg [(.SEAL_RANGE_QRE_SPAN, 0, 1)]).makeStream 1 0 0 none = none ∧ ((rg [(.SEAL_RANGE_QRE_SPAN, 0, 100000)]).makeStream 1 0 0 none).isSome = true ∧
    ({ base with regs := (List.range 255).map fun n => ((.QRE_STREAM_STATE_STATE, n + 1), 1) } : State).freeStream = none ∧
    (∀ k ∈ (withJob engines (atEngine 0x0605 0 0 0)).jobs, k.live = true → k.stamp < (atEngine 0x0605 0 0 0).stamp → k.stream ≠ some 0) ∧
    (let j : Job := { atEngine 0x0600 0 0 0 with stream := some 0, seq := some 0, computed := true }
     (withJob [] j).job? 1 2 = some j ∧ j.stage ≠ .done ∧ (withJob [] j).recordGiven 0 0 = false) := by decide +kernel

theorem test_sealed_store_witness : (let j : Job := { atEngine 0x0700 (2 ^ 40) 4096 0 with stamp := 2 }
      (withJob [] j).blockBusy j = false ∧ bit j.aux 0 = false ∧ bit (atEngine 0x0700 (2 ^ 32) 0 0).aux 0 = true ∧
        (let k : Job := { j with idx := 1, stamp := 1, checked := true }; ({ withJob [] j with jobs := [k, j] } : State).blockBusy j = true)) ∧
    (jb 0x00010702 0 0 0).paramset = 1 ∧ (jb 0x0702 0 0 0).paramset = 0 ∧ base.getF .PWR_STATUS_BRACE 0 = 0 ∧ (rg [(.PWR_STATUS_BRACE, 0, 1)]).getF .PWR_STATUS_BRACE 0 ≠ 0 ∧
    base.store.coldStep = 0 ∧
    (let s : State := { base with lco := { base.lco with ops := [{ why := .epoch false, words := [(otpEpoch, 1)] }], started := true }, store := { base.store with coldStep := 3 } }
     s.lco.ops = { why := .epoch false, words := [(otpEpoch, 1)] } :: [] ∧ s.store.coldStep = 3 ∧ s.lco.started = true) := by decide +kernel

theorem test_admin_witness : isStateful 0x38 = false ∧ isEddsa 0x38 = true ∧ bits (jb 0x0F01 0 0 0).aux 11 0 = 0 := by decide +kernel

theorem test_kernel_witness : (jb 0x00020900 0 0 0).paramset = 2 ∧ base.kernelFor [] = none ∧ (jb 0x00010900 0 0 0).paramset = 1 ∧ (jb 0x00030900 0 0 0).paramset = 3 ∧
    (runState endCode).job? 1 2 = some runJob ∧ (runState endCode).engineGate runJob = none ∧ (runState endCode).runKernel runJob = some (kern endCode) ∧
    (let k := kern endCode
     let t := (((runState endCode).placeRun runJob).startQuarters 1 2 [] k).runTeam 1 2 k (2 * k.cycleLimit + 64)
     (t.job? 1 2).isSome = true ∧ (∀ e ∈ t.quartersOf 1 2, (t.quarter e.1 e.2).st = .draining) ∧ (t.quartersOf 1 2).find? (fun e => (t.quarter e.1 e.2).member == 0) = some (0, 0)) ∧
    (let k := kern endCode
     let s : State := { runState endCode with mar := { (runState endCode).mar with cores := [(0, { quarters := [(0, { st := .running, job := some (1, 1) })] })] } }
     let t := ((s.placeRun runJob).startQuarters 1 2 [] k).runTeam 1 2 k (2 * k.cycleLimit + 64)
     ∃ e ∈ t.quartersOf 1 2, (t.quarter e.1 e.2).st ≠ .draining) := by decide +kernel

/-- Thread 0 of binder 0, in service, works for the job at place 2 of queue 3. -/
def thr (j : Job) (x : ThreadX) : State := { (q3job j).setF .SEQ_BINDER_STATUS_STATE 0 1 with seq := { base.seq with threads := [(0, x)] } }

/-- A busy thread at the first ROM word, register 1 set, one return address, one tag outstanding. -/
def thread0 : ThreadX := { busy := true, job := some (3, 2), regs := [(1, 1)], calls := [5], tags := [(4, 7)] }

theorem thr_issuing (j : Job) (x : ThreadX) (cls : List Nat) (h : x.busy = true ∧ x.halted = false ∧ x.job = some (3, 2) ∧ x.maddr = 0 ∧ x.issued = 0) :
    (thr j x).Issuing 0 0 3 2 cls x := by
  have hx : (thr j x).thread 0 0 = x := rfl
  have ha : (thr j x).fetchAddr x.maddr = 0 := by rw [h.2.2.2.1]; rfl
  refine ⟨by decide, by decide, rfl, hx, h.1, h.2.1, h.2.2.1, ?_, ?_, by rw [h.2.2.2.2]; decide, rfl⟩
  · rw [ha]; rfl
  · rw [ha]; intro c hc; exact absurd hc (by simp [State.classAt])

theorem test_microword_witness : (∀ cls, (thr (nopAt .fetched) thread0).Issuing 0 0 3 2 cls thread0) ∧ thread0.reg 0 = 0 ∧ thread0.reg 1 ≠ 0 ∧ thread0.calls = 5 :: [] ∧
    (thr (nopAt .fetched) thread0).inStore 0xBFFF = true ∧ (thr (nopAt .fetched) thread0).inStore 5 = true ∧ (thr (nopAt .fetched) thread0).inStore 0xC000 = false ∧
    ([8, 9] : List Nat)[thread0.reg 1]? = some 9 ∧ (∀ p ∈ thread0.tags, p.1 ≠ 5) ∧ thread0.writes = 0 ∧ thread0.accepted = false ∧ (nopAt .fetched).stamp = 0 ∧
    (thr (nopAt .fetched) thread0).decodableAt 3 2 = some (nopAt .fetched) ∧ ((thr (nopAt .fetched) thread0).verdict (nopAt .fetched) {} {}).isOk = true ∧
    (let j : Job := { nopAt .fetched with words := [0xFFFF, 0, 0, 0, 0, 0, 0, 0] }
     (thr j thread0).decodableAt 3 2 = some j ∧ ((thr j thread0).verdict j {} {}).isOk = false) ∧
    (∀ cls, (thr (nopAt .ended) { thread0 with accepted := true }).Issuing 0 0 3 2 cls { thread0 with accepted := true }) ∧
    ((thr (nopAt .ended) thread0).mayCommit (nopAt .ended) = true ∧ (nopAt .ended).committing = false ∧ (thr (nopAt .ended) thread0).mayIssue = true) ∧
    (let j : Job := { nopAt .ended with committing := true }; j.committing = true ∧ j.stage ≠ .done ∧ j.writesOutput = false ∧ j.ext = none) :=
  ⟨fun _ => thr_issuing _ _ _ (by decide), by decide +kernel, by decide +kernel, rfl, by decide +kernel, by decide +kernel, by decide +kernel, by decide +kernel,
    by decide, rfl, rfl, rfl, by decide +kernel, by decide +kernel, by decide +kernel, fun _ => thr_issuing _ _ _ (by decide), by decide +kernel, by decide +kernel⟩

theorem test_binder_witness : (let s := rg [(.SEQ_BINDER_STATUS_STATE, 7, 1), (.SEQ_BINDER_ONLINE_ONLINE, 0, 0x81), (.SEQ_BINDER_ENABLE_EN, 0, 0x81), (.LCO_STATE_STATE, 0, 2), (.GLB_STATUS_READY, 0, 1)]
      s.getF .SEQ_BINDER_STATUS_STATE 7 = 1 ∧ (s.precise && haltsPrecise 1) = false ∧ (∀ j ∈ s.jobs, j.binder ≠ 7) ∧ (recent s.now 1000000000 (nget [] s.seq.restarts 7)).length < 3 ∧
        s.bindersOn ≠ [7] ∧ (s.setF .SEQ_BINDER_ONLINE_ONLINE 0 0x80).bindersOn = [7] ∧
        3 ≤ (recent s.now 1000000000 (nget [] ({ s with seq := { s.seq with restarts := [(7, [0, 0, 0])] } } : State).seq.restarts 7)).length) ∧
    (let s : State := { rg [(.SEQ_BINDER_STATUS_STATE, 0, 1)] with seq := { base.seq with threads := [(0, thread0)] } }
     s.getF .SEQ_BINDER_STATUS_STATE 0 = 1 ∧ s.precise = true ∧ haltsPrecise 1 = true ∧ (s.thread 0 0).busy = true ∧ s.getF .SEQ_FAULT_INFO_VALID 0 = 0) ∧
    (rg [(.SEQ_BINDER_STATUS_STATE, 0, 3)]).getF .SEQ_BINDER_STATUS_STATE 0 = 3 := by decide +kernel

theorem test_placement_witness : (let s := runState endCode
      s.job? 1 2 = some runJob ∧ runJob.core = none ∧ .MAR ∈ runJob.pools ∧ runJob.computed = false ∧ runJob.paramset = 0 ∧ (s.marNeeds runJob).2.2 = 1 ∧ ∃ d < 32, s.eligible runJob d = true) ∧
    (let s := running endCode {}
     let j : Job := { runJob with core := some (0, 0) }
     s.quarterJob 0 0 = some j ∧ s.runningQuarter 0 = some 0 ∧ s.runKernel j = some (kern endCode) ∧ (s.core 0).run.ended = none ∧ (s.core 0).halt = none ∧ (s.core 0).run.sync = false ∧
       (s.genStalled 0 && decide ((s.core 0).run.pc < 1) && readsMask ((kern endCode).bundleAt 0)) = false) ∧
    (∀ st ∈ [QState.loading, .ready, .suspended, .scrubbing, .draining],
      let s : State := { running endCode {} with mar := { (running endCode {}).mar with cores := [(0, { quarters := [(0, { st := st, job := some (1, 2), save := some {} })] })] } }
      (s.quarter 0 0).st = st ∧ s.quarterJob 0 0 = some { runJob with core := some (0, 0) } ∧ s.runningQuarter 0 = none ∧
        (st = .ready ∨ st = .suspended → s.runnable 0 = [0]) ∧
        (st = .draining → (s.quartersOf 1 2).find? (fun e => (s.quarter e.1 e.2).member == 0) = some (0, 0) ∧ ∀ e ∈ s.quartersOf 1 2, (s.quarter e.1 e.2).st = .draining)) ∧
    (let s : State := { running endCode { maskStall := true } with ent := { base.ent with gens := [(0, { stalled := true })] } }
     (s.core 0).run.maskStall = true ∧ s.genStalled 0 = true) ∧
    (let s := running endCode { sync := true }
     let t : State := { s with mar := { s.mar with cores := s.mar.cores ++ [(1, { quarters := [(0, { st := .ready, job := some (1, 2), member := 1 })] })] } }
     (t.core 0).run.sync = true ∧ t.teamSynced { runJob with core := some (0, 0) } = false) ∧
    (let s : State := { base with mar := { base.mar with gath := [(3, { pages := [(47, { scrubbing := true })] })] } }
     (nget {} (s.gather 3).pages 47).scrubbing = true) := by
  refine ⟨⟨by decide +kernel, by decide +kernel, by decide +kernel, by decide +kernel, by decide +kernel, by decide +kernel, ⟨0, by decide +kernel⟩⟩, by decide +kernel, by decide +kernel,
    by decide +kernel, by decide +kernel, by decide +kernel⟩

theorem test_engine_fault_witness : (∀ e ∈ [((1 : Nat), Pool.MAR), (2, .HSH), (3, .CDE), (4, .BGN), (5, .STR)],
      let j : Job := { nopAt .dispatched with pools := [e.2] }
      (q3job j).job? 3 2 = some j ∧ j.faultable e.1 = true ∧ (q3job j).haltsCore j e.1 31 = false ∧ 0 < j.budget) ∧
    ({ nopAt .dispatched with budget := 0 } : Job).budget = 0 ∧ (∀ n < 4, base.quarter 31 n = {}) ∧
    (recent 0 1000000000 (base.core 31).resets).length < 3 ∧
    3 ≤ (recent 0 1000000000 (({ base with mar := { base.mar with cores := [(31, { resets := [0, 0, 0] })] } } : State).core 31).resets).length ∧
    ((0 : W32).toNat &&& 0xFFFFFFFF = 0) ∧ ((1 : W32).toNat &&& 0xFFFFFFFF ≠ 0) ∧ base.precise = true ∧ bit (0 : W32).toNat 8 = false ∧ bit (0x100 : W32).toNat 8 = true ∧
    (base.core 31).halt = none ∧
    (let s : State := { running endCode {} with mar := { (running endCode {}).mar with cores := [(0, { quarters := [(0, { st := .running, job := some (1, 2) })], halt := some { cause := 1, sock := 0xAE } })] } }
     (s.core 0).halt = some { cause := 1, sock := 0xAE } ∧ s.runningQuarter 0 = some 0 ∧ (s.quarterJob 0 0).isSome = true ∧ s.runKernel runJob = some (kern endCode)) := by decide +kernel

theorem test_engine_units_witness : (let j : Job := { nopAt .dispatched with words := [0x00100110, 0, 0, 0, 0, 0, 0, 0], pools := [.CDE] }
      (q3job j).job? 3 2 = some j ∧ j.pools.contains .CDE = true ∧ j.systemizer = true ∧ j.phase = 0 ∧ ({ j with phase := 1 } : Job).phase = 1) ∧
    ((recent 0 1000000000 (nget [] base.cde.faults 2)).length < 4 ∧
      4 ≤ (recent 0 1000000000 (nget [] ({ base with cde := { base.cde with faults := [(2, [0, 0, 0, 0])] } } : State).cde.faults 2)).length ∧ ∀ k ∈ base.jobs, .CDE ∉ k.pools) ∧
    (let j : Job := { nopAt .dispatched with words := [0x00320130, 0, 0, 1, 0, 0, 0, 0], pools := [.BGN] }
     let s : State := { rg engines with jobs := [j] }
     s.job? 3 2 = some j ∧ j.pools.contains .BGN = true ∧ j.phase = 0 ∧ ((s.runBgn 3 2 [0]).job? 3 2).elim false Job.verdict = true ∧
       (let k : Job := { j with words := [0x00010122, 0, 0, 0, 0, 0, 0, 0], computed := true }
        (({ s with jobs := [k] } : State).runBgn 3 2 []).job? 3 2 = some k ∧ k.verdict = false)) ∧
    (let j : Job := { nopAt .dispatched with words := [0x0300, 0, 0, 0, 0, 0, 0, 0], pools := [.STR], slot := some 17 }
     j.streamingOn 1 = true ∧ ({ j with idx := 3 } : Job).streamingOn 1 = true ∧ (({ j with idx := 3 } : Job).q, ({ j with idx := 3 } : Job).idx) ≠ (3, 2)) ∧
    ((1 : W32).toNat &&& 1) % 4 ≠ 0 ∧ ((4 : W32).toNat &&& 7) % 4 = 0 ∧ 2 ≤ ((List.range 4).filter fun m => bit (3 : W32).toNat m && bit 15 m).length ∧
    (let s : State := { base with kv := { base.kv with hot := [1], keys := [(1, { used := true })] } }
     s.kv.hot.contains 1 = true ∧ (s.key 1).cls = .ephemeral ∧ 1 ∈ ({ nopAt .dispatched with keys := [1], stamp := 1 } : Job).keys) := by decide +kernel

theorem test_unit_row_witness : (running endCode {}).RunsKernel 0 0 { runJob with core := some (0, 0) } (kern endCode) ∧
    UnitRow 0 1 31 0x307 (.aluAdd 0 1 31 0x307, tALU1, opWith 0 0x307) ∧ ((running endCode {}).core 0).run.flights = [] ∧ ((running endCode {}).core 0).run.writes = [] ∧
    ((running endCode {}).core 0).run.streams = [] ∧ ((running endCode {}).core 0).run.pc < (kern endCode).codeLen ∧ ((running endCode {}).core 0).run.cyc < (kern endCode).cycleLimit := by
  refine ⟨by unfold State.RunsKernel; decide +kernel, .inl (by simp [UnitRowScalar]), by decide +kernel, by decide +kernel, by decide +kernel, by decide +kernel, by decide +kernel⟩

/-- An operation of one member in mode 1 with modulus register 0 at 8,380,417, in mode 0 at the largest modulus of 14 bits, and REDQ in mode 2. -/
theorem test_modular_witness : (∀ func < 5, opG (func * 4096 + 256) = 1 ∧ opMode (func * 4096 + 256) ≤ 1 ∧ opFunc3 (func * 4096 + 256) = func ∧ opSel (func * 4096 + 256) = 0) ∧
    (∀ u < 4, ({ mods := [(0, 8380417), (4, 8380417), (8, 8380417), (12, 8380417)] } : CoreRun).modulus u 0 = 8380417) ∧ (8380417 ≤ 2 ^ laneW 1 ∧ 2 ^ 14 - 1 ≤ 2 ^ laneW 0) ∧
    opMode (5 * 4096 + 512) = 2 ∧ opFunc3 (5 * 4096 + 512) = 5 ∧ opG (5 * 4096 + 512) = 1 := by decide +kernel

/-- Session 200 is one of the farm's walkers for slot 9. -/
theorem test_farm_witness : (let j : Job := { nopAt .dispatched with pools := [.HSH], slot := some 9, stamp := 1 }
      let s : State := { rg engines with jobs := [j] }
      s.job? 3 2 = some j ∧ s.hsh.sess = [] ∧ s.maySession 200 j = true ∧
        s.coreFor { sha2 := false, masked := false, fin := false, blocks := 1 } = some 0 ∧ coreKind 0 = ({ sha2 := false, masked := false } : HCall).kind ∧
        s.coreFor { sha2 := true, masked := false, blocks := 16, steps := 16, pos := 0, data := [], adrs := [] } = some 24 ∧ coreKind 24 = ({ sha2 := true, masked := false } : HCall).kind) ∧
    (∀ r ∈ [true, false], let x : FSess := { st := 1, flight := some (0, { retried := r }) }
      ({ base with hsh := { base.hsh with sess := [(200, x)] } } : State).hsh.sess = [(200, x)] ∧ x.flight = some (0, { retried := r }) ∧ x.ready = none ∧ x.closing = false) ∧
    (let s : State := { base with hsh := { base.hsh with sess := [(200, { st := 1, owner := some (3, 2), ready := some { masked := true, stalled := some 0 } })] } }
     (s.session 200).ready = some { masked := true, stalled := some 0 } ∧ (s.session 200).owner = some (3, 2)) ∧
    (∀ r ∈ [((15 : Nat), (0 : Nat)), (23, 16), (29, 24), (31, 30)], bits ((0xFFFFFFFF : W32).toNat &&& 0xFFFFFFFF) r.1 r.2 ≠ 0) ∧ bits ((0x7FFFFFFF : W32).toNat &&& 0x3FFFFFFF) 31 30 = 0 := by decide +kernel

/-- Entropy in a state: cells, READY, conditioner outputs. -/
def ent (st ok : Nat) : State :=
  { rg [(.ENT_STATUS_STATE, 0, st), (.ENT_STATUS_CELL_OK, 0, ok), (.ENT_CELL_ENABLE_EN, 0, 0xFF), (.ENT_STATUS_READY, 0, 1)] with ent := { base.ent with outputs := 3, testing := [7], quietSince := some 0 } }

theorem test_entropy_witness : (ent 2 0x7F).regsOk ∧ bit ((ent 2 0x7F).getF .ENT_STATUS_CELL_OK 0) 7 = false ∧ (4 < (ent 2 0x1F).cellsOk ∧ bit ((ent 2 0x1F).getF .ENT_STATUS_CELL_OK 0) 0 = true) ∧
    ((ent 2 0x0F).cellsOk = 4 ∧ (ent 2 0x0F).getF .ENT_STATUS_STATE 0 = 2) ∧ 7 ∈ (ent 2 0x7F).ent.testing ∧ ((List.range 8).filter fun c => bit (7 : W32).toNat c).length < 4 ∧
    4 ≤ ((List.range 8).filter fun c => bit (15 : W32).toNat c).length ∧ ((ent 2 0xFF).degraded = false ∧ (ent 2 0xFF).getF .ENT_STATUS_STATE 0 ≠ 5 ∧ (ent 2 0xFF).getF .ENT_STATUS_READY 0 ≠ 0 ∧
      0 < (ent 2 0xFF).ent.outputs ∧ (ent 2 0xFF).drbgOk 7 1 = true ∧ (ent 2 0xFF).drbgOk 4 1 = true ∧ (ent 2 0xFF).drbgOk 5 1 = true) ∧ base.getF .ENT_STATUS_READY 0 = 0 ∧
    (rg [(.ENT_DRBG_STATUS_CALLS, 7, 2 ^ 24)]).getF .ENT_DRBG_STATUS_CALLS 7 = 2 ^ 24 ∧ (rg [(.ENT_DRBG_STATUS_CALLS, 7, 2 ^ 24)]).getF .ENT_DRBG_STATUS_STALLED 7 = 0 ∧
    (let s : State := { base with ent := { base.ent with gens := [(41, { requested := true })] } }
     (nget {} s.ent.gens 41).requested = true ∧ (nget {} s.ent.gens 41).stalled = false) ∧
    ((ent 1 0xFF).getF .ENT_STATUS_STATE 0 = 1 ∧ 4 ≤ ((List.range 8).filter fun c => bit ((ent 1 0xFF).getF .ENT_CELL_ENABLE_EN 0) c).length) ∧
    (let j : Job := { nopAt .dispatched with entSince := some 0 }
     (q3job j).job? 3 2 = some j ∧ j.computed = false ∧ j.entSince.isSome = true) ∧
    ((ent 3 0x0F).getF .ENT_STATUS_STATE 0 = 3 ∧ (ent 3 0x0F).ent.quietSince ≠ none ∧ (ent 3 0x0F).recoveryLimited 11 = false ∧ ((ent 3 0x0F).setF .BLK_RECOVERY_COUNT_COUNT 11 8).recoveryLimited 11 = true) ∧
    (ent 4 0x0F).getF .ENT_STATUS_STATE 0 = 4 ∧ (bit (1 : W32).toNat 0 = true ∧ bit (8 : W32).toNat 3 = true) :=
  ⟨State.regsOk_regs rfl (rg_regsOk _), by decide +kernel⟩

/-- The store open in PRODUCTION with a sealed-store range and a Quire range. -/
def openStore : State := rg [(.LCO_STATE_STATE, 0, 2), (.SEAL_STATUS_STATE, 0, 2), (.SEAL_RANGE_QRE_BASE, 0, 0x10000), (.SEAL_RANGE_QRE_SPAN, 0, 0x1000)]

theorem test_store_witness : openStore.regsOk ∧ ({ base with store := { base.store with openG := { dirty := [1], closeAsked := true } } } : State).groupMayClose = true ∧
    base.groupMayClose = false ∧
    (let j : Job := { nopAt .parked with stamp := 1, waitSince := some 0 }
     (q3job j).job? 3 2 = some j ∧ j.live = true ∧ j.waitSince.isSome = true ∧ ∀ k ∈ (q3job j).jobs, k.live = true → k.waitSince.isSome = true → j.stamp ≤ k.stamp) ∧
    ((1 : W32).toNat % 8 = 1 ∧ (rg [(.LCO_STATE_STATE, 0, 2)]).getF .LCO_STATE_STATE 0 = 2 ∧ (rg [(.LCO_STATE_STATE, 0, 2)]).getF .SEAL_STATUS_STATE 0 = 0) ∧
    (let s := rg [(.LCO_STATE_STATE, 0, 2), (.SEAL_STATUS_STATE, 0, 3), (.SEAL_STATUS_OPEN_RESULT, 0, 3)]
     (0x5EA10002 : W32).toNat % 8 = 2 ∧ bits (0x5EA10002 : W32).toNat 31 16 = 0x5EA1 ∧ s.getF .SEAL_STATUS_STATE 0 = 3 ∧ s.getF .SEAL_STATUS_OPEN_RESULT 0 = 3 ∧
       (s.thermoNext otpEpoch 128).isSome = true ∧ (0x5EA10004 : W32).toNat % 8 = 4 ∧ s.sealAct 2 = .refused) ∧
    (openStore.rangeOk (.slice 5) 0x20000 16 = true ∧ openStore.rangeOk (.slice 5) 0x10FF0 16 = false) ∧
    ((rg [(.KV_STATUS_OPEN, 0, 1)]).getF .KV_STATUS_OPEN 0 ≠ 0 ∧ base.getF .QRE_STATUS_READY 0 = 0 ∧ base.qre.journal = [] ∧ base.qre.lost = 0 ∧ base.tmp.buf = []) ∧
    (bit (0x800000FF : W32).toNat 31 = true ∧ (0x800000FF : W32).toNat % 256 ≠ 0 ∧ (0x80000000 : W32).toNat % 256 = 0 ∧
      (rg [(.QRE_STREAM_STATE_STATE, 255, 2)]).getF .QRE_STREAM_STATE_STATE 255 = 2 ∧ base.getF .QRE_STREAM_STATE_STATE 255 ≠ 2) :=
  ⟨rg_regsOk _, by decide +kernel⟩

/-- A time held, following a source, with a grade. -/
def timed (src grade : Nat) : State :=
  { rg [(.TIM_CTRL_SOURCE, 0, src), (.TIM_STATUS_GRADE, 0, grade), (.TIM_STATUS_HAS_TIME, 0, 1), (.TIM_TOD_NEXT_VALID, 0, 1), (.TIM_CTRL_REF10M_EN, 0, 1), (.TIM_STATUS_REF10M_OK, 0, 1),
      (.TIM_CTRL_PPS_OUT_EN, 0, 1)] with tim := { base.tim with sec := 100, slew := 5, ppsOutSec := some 100 } }

theorem test_time_witness : (timed 1 0).Inv ∧ ((timed 1 0).getF .TIM_CTRL_SOURCE 0 = 1 ∧ (timed 1 0).getF .TIM_STATUS_HAS_TIME 0 ≠ 0 ∧ (timed 1 0).getF .TIM_TOD_NEXT_VALID 0 ≠ 0) ∧
    (timed 2 0).getF .TIM_CTRL_SOURCE 0 = 2 ∧ ((timed 1 0).getF .TIM_STATUS_GRADE 0 = 0 ∧ 100000000 < (-100000001 : Int).natAbs ∧ (timed 1 0).tim.outliers < 2) ∧
    ((timed 1 0).getF .TIM_CTRL_REF10M_EN 0 ≠ 0 ∧ (timed 1 0).getF .TIM_STATUS_REF10M_OK 0 ≠ 0 ∧ -(timed 1 0).freqBound ≤ (timed 1 0).freqBound) ∧ (timed 1 0).tim.slew ≠ 0 ∧
    (999999999 < (rg [(.TIM_SET_NS_NS, 0, 1000000000)]).getF .TIM_SET_NS_NS 0 ∧ (rg [(.TIM_SET_NS_NS, 0, 999999999)]).getF .TIM_SET_NS_NS 0 ≤ 999999999) ∧
    ((timed 1 0).timNanos < 101 * 1000000000 + 0 ∧ 100 * 1000000000 + 0 ≤ (timed 1 0).timNanos) ∧ (base.getF .TIM_STATUS_HAS_TIME 0 = 0 ∧ base.tim.floor = none) ∧
    ((timed 0 1).getF .TIM_STATUS_GRADE 0 = 1 ∧ (rg [(.TIM_STATUS_GRADE, 0, 1)]).getF .TIM_STATUS_REF10M_OK 0 = 0) ∧
    ((timed 1 0).getF .TIM_CTRL_PPS_OUT_EN 0 ≠ 0 ∧ (timed 1 0).tim.onKeeper = false ∧ (timed 1 0).tim.ppsOutSec = some (timed 1 0).tim.sec ∧ base.tim.ppsOutSec = none) :=
  ⟨⟨State.regsOk_regs rfl (rg_regsOk _), by unfold State.timeOk; decide +kernel⟩, by decide +kernel⟩

/-- Channel 100 with one descriptor from staging to staging. -/
def oneDesc : State :=
  { base with dma := { base.dma with desc := [(25600, { src := 0, dst := 4096, len := 64, srcSpace := 2, dstSpace := 2, own := true })], chans := [(100, { tail := 1 })] } }

theorem test_dma_witness : ((oneDesc.desc 100 0).own = true ∧ (base.desc 100 0).own = false ∧ base.getF .DMA_CHAN_STATUS_HEAD 100 = (base.dchan 100).tail) ∧
    (∃ d, oneDesc.burstReady 100 = some d ∧ oneDesc.descFault d = none ∧ d.srcSpace = 2 ∧ d.dstSpace = 2 ∧ oneDesc.dma.asked = [] ∧ ∀ k, k ≠ 100 → oneDesc.burstReady k = none) ∧
    (let s : State := { oneDesc with dma := { oneDesc.dma with chans := [(100, { tail := 1, fin := some (0, 0) })] } }
     (s.headDesc 100).isSome = true ∧ (s.dchan 100).fin = some (0, 0) ∧ (s.getF .DMA_CHAN_STATUS_HEAD 100 + 1) % 256 = (s.dchan 100).tail) ∧
    (q3job (nopAt .dispatched)).job? 3 2 = some (nopAt .dispatched) ∧
    (let s : State := { base with dma := { base.dma with desc := [(25600, { own := true, job := some (3, 2) })] } }
     s.job? 3 2 = none ∧ s.dma.desc = [(25600, { own := true, job := some (3, 2) })]) ∧
    ((rg [(.LMC_STATUS_STATE, 0, 1)]).getF .LMC_STATUS_STATE 0 = 1 ∧ bit ((rg [(.LMC_STATUS_STATE, 0, 1)]).getF .BLK_ERR_STATUS_CAUSE 17) 3 = false ∧ base.dma.desc = []) ∧
    ((rg [(.LMC_STATUS_STATE, 0, 2)]).getF .LMC_STATUS_STATE 0 = 2 ∧ (rg [(.LMC_STATUS_STATE, 0, 2)]).recoveryLimited 17 = false ∧ (rg [(.LMC_STATUS_STATE, 0, 2), (.BLK_RECOVERY_COUNT_COUNT, 17, 8)]).recoveryLimited 17 = true) ∧
    base.getF .LMC_STATUS_STATE 0 = 0 := by
  refine ⟨by decide +kernel, ⟨{ src := 0, dst := 4096, len := 64, srcSpace := 2, dstSpace := 2, own := true }, by decide +kernel, by decide +kernel, rfl, rfl, rfl, fun k hk => ?_⟩,
    by decide +kernel, by decide +kernel, by decide +kernel, by decide +kernel, by decide +kernel, by decide +kernel⟩
  have h0 : oneDesc.getF .DMA_CHAN_STATUS_HEAD k = 0 := rg_zero [] _ k
  have h1 : oneDesc.headDesc k = none := by
    have hd : oneDesc.desc k 0 = {} := by
      show mget (fun _ => ({} : Desc)) [(25600, { src := 0, dst := 4096, len := 64, srcSpace := 2, dstSpace := 2, own := true })] (256 * k + 0) = {}
      have : ¬ 25600 = 256 * k + 0 := by omega
      simp only [mget]; exact if_neg this
    unfold State.headDesc; rw [h0, hd]; rfl
  unfold State.burstReady; rw [h1]

theorem test_tamper_witness : (∀ n < 16, ¬(9 ≤ n ∧ n ≤ 12) → base.monitored n = true) ∧
    ((rg [(.TMP_SRC_STATUS_ACTIVE, 14, 1), (.TMP_SRC_STATUS_DETECTORS, 14, 2)]).getF .TMP_SRC_STATUS_ACTIVE 14 ≠ 0 ∧ (rg [(.TMP_SRC_STATUS_DETECTORS, 14, 2)]).getF .TMP_SRC_STATUS_DETECTORS 14 = 2) ∧
    (let s : State := { base with tmp := { base.tmp with event := [(15, 0)] } }
     s.tmp.event = [(15, 0)] ∧ s.pwr.mode = .active ∧ s.respOf 15 = 3 ∧ s.getF .QRE_STATUS_READY 0 = 0 ∧ s.tmp.buf.length < 32) ∧
    (let s : State := { rg [(.LCO_STATE_STATE, 0, 2)] with pwr := { base.pwr with mode := .deep }, tmp := { base.tmp with event := [(0, 0)] } }
     s.pwr.mode = .deep ∧ bit ((s.setF .TMP_SRC_RESP_RESP 0 0x10).respOf 0) 4 = true) ∧
    (bit (4 : W32).toNat 2 = true ∧ bits (4 : W32).toNat 31 16 ≠ 0x5EA1 ∧ (rg [(.TMP_STATUS_EVIDENCE_PENDING, 0, 1)]).mayUnlock = false ∧
      bit (0x5EA10004 : W32).toNat 2 = true ∧ (rg [(.TMP_STATUS_LOCKDOWN, 0, 1)]).mayUnlock = true ∧ (rg [(.TMP_STATUS_LOCKDOWN, 0, 1)]).getF .TMP_STATUS_LOCKDOWN 0 ≠ 0) ∧
    (bit (2 : W32).toNat 1 = true ∧ (rg [(.TMP_STATUS_HALTED, 0, 1)]).getF .TMP_STATUS_HALTED 0 ≠ 0 ∧ bit (8 : W32).toNat 3 = true) ∧
    ((rg [(.GLB_STATUS_READY, 0, 1)]).transitionOk 1 = true ∧ (rg [(.GLB_STATUS_READY, 0, 1)]).transitionOk 2 = false ∧ base.lco.ops = []) ∧
    ((rg [(.LCO_STATE_STATE, 0, 2)]).getF .LCO_STATE_STATE 0 = 2 ∧ bit ((rg [(.LCO_STATE_STATE, 0, 2)]).otpWord otpDiagUsed) 15 = false) ∧
    (bit (0x101 : W32).toNat 8 = true ∧ (rg [(.LCO_STATE_WINDOW_OPEN, 0, 1)]).getF .LCO_STATE_WINDOW_OPEN 0 ≠ 0 ∧ ((rg [(.LCO_STATE_WINDOW_OPEN, 0, 1)]).fieldWords 1).isSome = true ∧
      (rg [(.LCO_STATE_WINDOW_OPEN, 0, 1)]).fieldWords 4 = none ∧ bit (0x5EA10200 : W32).toNat 9 = true ∧ bits (0x5EA10200 : W32).toNat 31 16 = 0x5EA1) ∧
    (let o : OtpOp := { why := .windowClose, words := [(otpLocks, 2 ^ windowClosedBit)] }
     let s : State := { base with lco := { base.lco with ops := [o], started := true } }
     s.lco.ops = [o] ∧ o.why = .windowClose ∧ s.lco.started = true ∧ s.lco.retried = false) := by decide +kernel

/-- The power state changed. -/
def inMode (m : PwrMode) (l : List (Fld × Nat × Nat)) : State := { rg l with pwr := { base.pwr with mode := m } }

theorem test_boot_witness : ((rg [(.GLB_STATUS_BOOT_STATE, 0, 2)]).getF .GLB_STATUS_BOOT_STATE 0 = 2 ∧ base.seq.tried = 0 ∧ base.bundleError false [] = 1 ∧ base.bundleError true [] = 2 ∧
      base.decryptWaits [] = false) ∧
    ((rg [(.GLB_STATUS_BOOT_STATE, 0, 3), (.ENT_STATUS_READY, 0, 1)]).getF .GLB_STATUS_BOOT_STATE 0 = 3 ∧ (rg [(.ENT_STATUS_READY, 0, 1)]).getF .ENT_STATUS_READY 0 ≠ 0) ∧
    (bit (1 : W32).toNat 0 = true ∧ (rg [(.GLB_STATUS_BOOT_STATE, 0, 5)]).getF .GLB_STATUS_BOOT_STATE 0 = 5 ∧ base.getF .GLB_STATUS_BOOT_STATE 0 ≠ 5 ∧ q3.mayIssue = true) ∧
    (bit (2 : W32).toNat 1 = true ∧ bits (2 : W32).toNat 31 16 ≠ 0x5EA1 ∧ bits (0x5EA10012 : W32).toNat 31 16 = 0x5EA1 ∧ base.getF .GLB_STATUS_PROG_BUSY 0 = 0) ∧
    (let s : State := { rg [(.GLB_STATUS_READY, 0, 1)] with seq := { base.seq with bundle := zeros 12 ++ [1, 0, 0, 0] } }
     bit (4 : W32).toNat 2 = true ∧ s.getF .GLB_STATUS_READY 0 ≠ 0 ∧ s.otpWord (otpMinPatch + 0) = 0 ∧ s.minPatch < bfield s.seq.bundle 12 4 ∧ s.lco.ops = []) ∧
    (({ base with seq := { base.seq with programming := some (1, []) } } : State).seq.programming = some (1, []) ∧ base.seq.flash.length = 2) ∧ base.lco.started = false := by
  decide +kernel

theorem test_thermal_witness : thermalMax ≤ (0x7FFF : BitVec 16).toInt ∧ (0 : BitVec 16).toInt ≤ thermalMax - 32 := by
  unfold thermalMax; split <;> decide

theorem test_power_witness : ((inMode .active [(.PWR_CTRL_IDLE_EN, 0, 1), (.ENT_STATUS_STATE, 0, 2)]).getF .PWR_CTRL_IDLE_EN 0 ≠ 0 ∧ (inMode .active [(.ENT_STATUS_STATE, 0, 2)]).workless = true) ∧
    (let s := inMode .idle [(.PWR_CTRL_DOZE_EN, 0, 1), (.PCI_LINK_STATUS_PM_STATE, 0, 3), (.ENT_STATUS_STATE, 0, 2)]
     s.pwr.mode = .idle ∧ s.workless = true ∧ s.getF .PWR_CTRL_DOZE_EN 0 ≠ 0 ∧ s.getF .PCI_LINK_STATUS_PM_STATE 0 = 3 ∧ s.getF .PWR_STATUS_BRACE 0 = 0 ∧ s.writesWait = false) ∧
    base.powered = true ∧ base.pwr.onVbat = false ∧ ({ base.pwr with onVbat := true } : PwrX).onVbat = true ∧
    (∀ n < 3, let s : State := { inMode .deep [(.PWR_WAKE_EN_EN, 0, 7), (.PWR_STATUS_VBAT_LOW, 0, 1)] with
        tmp := { base.tmp with buf := [{ sources := 1, done := 0, pend := 0, sec := 0, tick := 0, power := 0, countDone := false }] } }
      s.powered = false ∧ s.wakeSource n = true ∧ bit (s.getF .PWR_WAKE_EN_EN 0) n = true) ∧
    (4 < base.pwr.gov ∧ ({ base.pwr with gov := 4 } : PwrX).gov ≤ 4) ∧ base.pwr.tripLatch = false ∧
    (base.pwr.mode = .active ∧ base.pwr.rails = [] ∧ base.getF .PWR_STATUS_BRACE 0 = 0) ∧
    (let s : State := { rg [(.PWR_STATUS_BRACE, 0, 1)] with pwr := { base.pwr with rails := [(2, 600, none)] } }
     s.getF .PWR_STATUS_BRACE 0 ≠ 0 ∧ s.pwr.rails = [(2, 600, none)] ∧ ∃ r ∈ s.pwr.rails, r.2.2 = none) ∧
    (∀ r ∈ [((2 : Nat), (600 : Nat), some (5 : Nat))], r.2.2 ≠ none) := by decide +kernel

/-- The function with memory space, bus mastering and MSI-X on, out of PERST#. -/
def live (l : List (Fld × Nat × Nat)) : State :=
  { rg l with pci := { base.pci with memSpace := true, busMaster := true, msixEn := true, ltrEn := true, perstLow := false } }

theorem test_pcie_witness : (live []).regsOk ∧ (live []).pwr.mode = .active ∧ ((live []).pci.memSpace = true ∧ badRequest 0 2 4 true = true ∧ State.reset.pci.memSpace = false) ∧
    (let s := live [(.PCI_LINK_CTRL_AUTO_DOWNSPEED, 0, 1), (.PCI_LINK_STATUS_SPEED, 0, 2)]
     s.getF .PCI_LINK_CTRL_AUTO_DOWNSPEED 0 ≠ 0 ∧ s.pci.training = none ∧ 1 < s.getF .PCI_LINK_STATUS_SPEED 0) ∧ bit (0x20 : W32).toNat 5 = true ∧
    (∀ r ∈ [1, 5], let p : PciX := { (live []).pci with training := some r, recovering := true }
      p.training = some r ∧ p.perstLow = false ∧ p.recovering = true ∧ p.limited = false ∧ ({ p with recovering := false } : PciX).recovering = false) ∧
    ((live []).pci.perstLow = false ∧ (live []).pci.quietSince = none ∧ ({ (live []).pci with quietSince := some 0 } : PciX).quietSince ≠ none ∧ (live []).recoveryLimited 1 = false ∧
      (live [(.BLK_RECOVERY_COUNT_COUNT, 1, 16)]).recoveryLimited 1 = true) ∧ ((live [(.PCI_LINK_STATUS_SPEED, 0, 5)]).getF .PCI_LINK_STATUS_SPEED 0 ≠ 0 ∧ (live []).pwr.l2Ready = false) ∧
    ((q3job (nopAt .fetching)).job? 3 2 = some (nopAt .fetching) ∧ (nopAt .fetching).stage = .fetching) ∧
    (let s : State := { live [] with pci := { (live []).pci with heldVectors := [8191] } }
     s.pci.heldVectors = [8191] ∧ s.pci.msixEn = true ∧ s.pci.msixMask = false ∧ (live [(.MSIX_CTRL_MASK, 8191, 0)]).getF .MSIX_CTRL_MASK 8191 = 0) ∧
    (∀ q, (live []).getF .QC_CTRL_STATE q ≠ 3) ∧ ((live [(.MSIX_PBA_BITS, 127, 2 ^ 63)]).pba 8191 = true ∧ (live []).mayIssue = true) ∧
    ((live []).pci.ltrEn = true ∧ (live []).noWork = true ∧ (live []).pci.ltrLast = none) ∧ base.pci.perstLow = true ∧
    (let d : List Byte := [1, 0, 0, 0, 3, 0, 0, 0, 0, 0, 0, 0]
     (live []).pci.doeErr = false ∧ d.length ≤ 4096 ∧ bfield d 0 2 = 1 ∧ bfield d 2 1 = 0 ∧ bfield d 8 1 = 0) ∧
    (∀ code ∈ [0x84, 0xE1, 0xE3, 0x81, 0x82, 0x83, 0xE0], let d : List Byte := [1, 0, 1, 0, 3, 0, 0, 0, 0x10, BitVec.ofNat 8 code, 0, 0]
      bfield d 2 1 = 1 ∧ code = bfield (d.drop 8) 1 1 ∧ bfield (d.drop 8) 2 1 = 0 ∧ bfield (d.drop 8) 3 1 ≤ 6 ∧ bfield (d.drop 8) 4 2 ≤ base.seq.chain.length) ∧
    (base.cfgRetry = true ∧ (rg [(.GLB_STATUS_BOOT_STATE, 0, 4)]).cfgRetry = false) := by
  refine ⟨State.regsOk_regs rfl (rg_regsOk _), by decide +kernel, by decide +kernel, by decide +kernel, by decide +kernel, by decide +kernel, by decide +kernel, by decide +kernel, by decide +kernel,
    by decide +kernel, fun q => ?_, by decide +kernel, by decide +kernel, by decide +kernel, by decide +kernel, by decide +kernel, by decide +kernel⟩
  have h : (live []).getF .QC_CTRL_STATE q = 0 := rg_zero [] _ q
  rw [h]; decide

/-! ### Further witnesses: what the statements ask of the clocks, the link and the host -/

/-- The states above in which a memory request is made serve it: their clocks run, memory space is on, nothing sleeps. -/
theorem test_serves_witness : (rg []).Serves ∧ (rg [(.QC_CTRL_ENABLE, 3, 1)]).Serves ∧ (rg [(.SLC_SLICE_CTRL_STATE, 5, 1)]).Serves ∧ sliceOff.Serves ∧ q3.Serves ∧
    chan1.Serves ∧ (∀ l, (l.all fun e => decide (e.1 ≠ .PCI_LINK_STATUS_PM_STATE)) = true → (mastering l).Serves ∧ (live l).Serves) ∧ (∀ a b, (ent a b).Serves) ∧
    openStore.Serves ∧ (∀ a b, (timed a b).Serves) ∧ (withJob [] (jb 0 0 0 0)).Serves := by
  refine ⟨rg_serves _, rg_serves _, rg_serves _, serves_of rfl rfl (rg_zero _ _ 0), serves_of rfl rfl (rg_zero _ _ 0), serves_of rfl rfl (rg_zero _ _ 0),
    fun l h => ?_, fun a b => serves_of rfl rfl (rg_zero _ _ 0 rfl), rg_serves _, fun a b => serves_of rfl rfl (rg_zero _ _ 0 rfl), serves_of rfl rfl (rg_zero _ _ 0)⟩
  have hp : (rg l).pwr = base.pwr := by
    have k : ∀ s : State, (l.foldl (fun s e => s.setF e.1 e.2.1 e.2.2) s).pwr = s.pwr := by
      clear h; induction l with
      | nil => exact fun _ => rfl
      | cons e t ih => exact fun s => ih (s.setF e.1 e.2.1 e.2.2)
    exact k base
  exact ⟨serves_of hp rfl (rg_zero l _ 0 h), serves_of hp rfl (rg_zero l _ 0 h)⟩

theorem test_requests_witness : (8 ≤ base.pci.mps ∧ 64 ≤ base.pci.mrrs ∧ q3.sliceHeld 0 = false ∧ q3.mayIssue = true) ∧ (rg [(.SLC_SLICE_CTRL_PAUSE, 5, 1)]).sliceHeld 5 = true ∧
    q3.readsOut < q3.tagLimit ∧ (q3job (nopAt .fetching)).readsOut = 1 := by decide +kernel

/-- An entry that arrives with OWN 1 and one with OWN 0, in a queue that runs and in one that drains. -/
theorem test_arrival_witness : bit (bfield (zeros 63 ++ [0x80]) 56 8) 63 = true ∧ bit (bfield (zeros 64) 56 8) 63 = false ∧
    (let s := q3job (nopAt .fetching)
     s.stopped = false ∧ s.job? 3 2 = some (nopAt .fetching) ∧ s.getF .QC_CTRL_STATE 3 ≠ 2 ∧ s.getF .SLC_SLICE_CTRL_STATE (s.sliceOf 3) ≠ 2 ∧
       dist (s.ringSize 3) 2 (s.getF .QC_HEAD_HEAD 3) + 1 < s.ringSize 3 ∧ 2 < s.ringSize 3) ∧
    ((q3job (nopAt .fetching)).setF .QC_CTRL_STATE 3 2).getF .QC_CTRL_STATE 3 = 2 := by decide +kernel

/-- A HASH whose input stands in a fragment table, in PRODUCTION. -/
def tableJob : Job := { nopAt .fetched with words := [0x08040200, 0, 0x1000, 32 * 2 ^ 32 + 16, 0x2000, 0, 0, 0] }

/-- Its table's reads are wanted, wait while they may not be made, and give sound fragments or a fault; an entry without tables reads none. -/
theorem test_tables_witness : (let s := (q3job tableJob).setF .LCO_STATE_STATE 0 2
      let tb : TableRead := { tables := [leBytes 8 0x3000 ++ leBytes 4 16 ++ leBytes 4 1] }
      let bad : TableRead := { tables := [leBytes 8 0x3000 ++ leBytes 4 16 ++ leBytes 4 4] }
      s.decodable 3 = some tableJob ∧ s.tablesWanted tableJob tb {} ≠ [] ∧ ({ s with pci := base.pci } : State).mayIssue = false ∧
        ({ s with pci := base.pci } : State).tablesWanted tableJob tb {} ≠ [] ∧
        (s.readTables tableJob tb {}).elim false (fun e => (e.2.checks (e.2.linked e.1) tb {}).isOk) = true ∧
        (s.readTables tableJob bad {}).elim false (fun e => !(e.2.checks (e.2.linked e.1) bad {}).isOk) = true) ∧
    (q3job (nopAt .fetched)).readTables (nopAt .fetched) {} {} = some (nopAt .fetched, q3job (nopAt .fetched)) := by decide +kernel

/-- Every unit enabled and online, and every multiplier's blinding seed there. -/
def seeded : State :=
  { rg (engines ++ [(.CDE_UNIT_ENABLE_EN, 0, 7)]) with ent := { base.ent with gens := (List.range 4).map fun m => (42 + m, { seed := zeros 32 }) } }

/-- A waiting SIG_VERIFY_BATCH in CDE or BGN finds its slot; a job in a quarter, one parked with its input staged, one with a long output. -/
theorem test_holdings_witness : (∀ p ∈ [Pool.BGN, .CDE], (seeded.pickSlot p (nopAt .accepted)).isSome = true) ∧
    ({ lcJob with core := some (31, 3) } : Job).core ≠ none ∧ ({ lcJob with staged := true } : Job).staged = true ∧
    (4096 < min (zeros 5000).length (jb 0 0 (5000 * 2 ^ 32) 0).outLen ∧ q3.mayIssue = true ∧ q3.getF .SLC_SLICE_CTRL_LOG_EN 0 = 0) ∧
    (base.noHashCore true false = true ∧ base.onlineOf .BGN_MUL_ONLINE_ONLINE (List.range 4) < 2 ∧ base.getF .STR_PIPE_ONLINE_ONLINE 0 = 0) ∧
    (runState endCode).quarter 5 1 = {} ∧ (running endCode {}).quarter 0 0 ≠ {} := by decide +kernel

/-- The base point of P-256 is a valid peer, 0 and the order no scalars of it. -/
theorem test_peer_witness : peerFault 0x32 ([4] ++ beBytes 32 p256.gx ++ beBytes 32 p256.gy) = 0 ∧ kemScalarOk 0x32 (beBytes 32 1) = true ∧
    kemScalarOk 0x32 (beBytes 32 0) = false ∧ kemScalarOk 0x32 (beBytes 32 p256.n) = false ∧ sigScalarOk 0x30 (zeros 32) = false ∧ sigScalarOk 1 [] = true ∧
    (jb 0x00400140 1 0 0).handle ≠ 0 := by decide +kernel

/-- LM-OTS with the hash and n of its LMS tree; a batch's hash work with and without a core; budgets; a destroy whose earlier jobs are no batch of the slice. -/
theorem test_stateful_witness : (statefulInfo 0x20 0x0105 0).isSome = true ∧ statefulInfo 0x20 0x090F 0 ≠ none ∧ statefulInfo 0x20 0x0905 0 = none ∧
    (let r : Record := { g := { ps := 8, prehash := 0, salt := 0, digest := false, ctx := [], msg := [] }, inline' := true, pk := [], sg := [] }
     base.recordDead r = true ∧ (rg engines).recordDead r = false) ∧ (0 < (nopAt .dispatched).budget ∧ ({ nopAt .dispatched with budget := 0 } : Job).budget = 0) ∧
    (let j : Job := { nopAt .dispatched with words := [0x0502, 1, 0, 0, 0, 0, 0, 0], stamp := 4 }
     let k : Job := { nopAt .dispatched with idx := 1, words := [0x0123, 0, 0, 0, 0, 0, 0, 0], stamp := 5 }
     let s : State := { q3 with jobs := [j, k], kv := { base.kv with destroys := [{ key := 1, stamp := 4, q := 3, idx := 2 }], keys := [(1, { used := true })] } }
     (∀ x ∈ s.jobs, x.live = true → 1 ∈ x.keys ∨ (x.opcode = 0x0123 ∧ x.slice = (s.key 1).owner) → 4 ≤ x.stamp) ∧ s.stopped = false ∧ j.live = true) := by decide +kernel

/-- CHECK fails a verdict and ACCEPT takes a sound entry without reading a table. -/
theorem test_verdict_witness : (let j : Job := { nopAt .fetched with words := [0xFFFF, 0, 0, 0, 0, 0, 0, 0] }
      (thr j thread0).readTables j {} {} = some (j, thr j thread0) ∧ ((thr j thread0).verdict j {} {}).isOk = false) ∧
    (let j := nopAt .fetched
     (thr j thread0).readTables j {} {} = some (j, thr j thread0) ∧ ((thr j thread0).verdict j {} {}).isOk = true) := by decide +kernel

/-- The kernel's header with the modulus register 0 loaded with 4. -/
def badKern : KernelX :=
  { slot := 0, bundle := zeros 6 ++ leBytes 2 1 ++ zeros 12 ++ leBytes 2 1 ++ zeros 26 ++ leBytes 4 10 ++ zeros 4 ++ leBytes 4 4 ++ zeros 196 ++ endCode.flatMap (leBytes 16),
    codeAt := 0, constAt := 0 }

/-- Core 0 at a bundle that reads a mask while its generator has no output. -/
def noMask : State :=
  { running [oneMove 1 0xBE 0] {} with ent := { base.ent with gens := [(0, { stalled := true })] } }

/-- Core 0 at a bundle that triggers HP while a call of its session is in flight. -/
def inCall : State :=
  { running [oneMove tHP 0 0] {} with
    mar := { (running [oneMove tHP 0 0] {}).mar with cores := [(0, { quarters := [(0, { st := .running, job := some (1, 2), sess := [(0, { isOpen := true })], sessions := 1 })] })] }
    hsh := { base.hsh with sess := [(0, { st := 1, owner := some (1, 2), flight := some (0, {}) })] } }

theorem test_core_waits_witness : badKern.badModuli = true ∧ (kern endCode).badModuli = false ∧
    (let s : State := { running endCode {} with mar := { (running endCode {}).mar with kernels := [badKern] } }
     s.runKernel runJob = some badKern ∧ ((s.setF .LCO_STATE_STATE 0 2).setF .GLB_STATUS_READY 0 1).precise = false) ∧
    (noMask.RunsKernel 0 0 { runJob with core := some (0, 0) } (kern [oneMove 1 0xBE 0]) ∧ noMask.genStalled 0 = true ∧ readsMask ((kern [oneMove 1 0xBE 0]).bundleAt 0) = true) ∧
    (inCall.RunsKernel 0 0 { runJob with core := some (0, 0) } (kern [oneMove tHP 0 0]) ∧ inCall.hashWaits 0 0 ((kern [oneMove tHP 0 0]).bundleAt 0) = true) ∧
    (running endCode {}).hashWaits 0 0 ((kern endCode).bundleAt 0) = false ∧ (running endCode { sync := true }).teamSynced { runJob with core := some (0, 0) } = true ∧
    (let j : Job := { runJob with core := some (0, 0), computed := true }
     ({ running endCode {} with jobs := [j] } : State).job? 1 2 = some j) := by
  refine ⟨by decide +kernel, by decide +kernel, by decide +kernel, ⟨by unfold State.RunsKernel; decide +kernel, by decide +kernel⟩,
    ⟨by unfold State.RunsKernel; decide +kernel, by decide +kernel⟩, by decide +kernel⟩

/-- A batch at its second fault; a McEliece pair at its pairwise test; a P-256 agreement after its validation. -/
theorem test_engine_ends_witness : (let j : Job := { nopAt .dispatched with words := [0x0123, 0, 0, 0, 0, 3, 0, 0], pools := [.MAR], budget := 0 }
      (q3job j).job? 3 2 = some j ∧ j.opcode = 0x0123 ∧ j.faultable 1 = true ∧ 0 < max 1 (bits j.arg0 15 0)) ∧
    (let j : Job := { nopAt .dispatched with words := [0x00100110, 0, 0, 0, 0, 0, 0, 0], pools := [.CDE], phase := 1 }
     let s : State := { seeded with regs := (rg (engines ++ [(.ENT_STATUS_READY, 0, 1)])).regs, jobs := [j] }
     s.AtEngine 3 2 0x0110 j ∧ j.systemizer = true ∧ s.maskOk j = true ∧ s.CanDraw j 64 ∧ j.newKey.isSome = true) ∧
    (let j : Job := { nopAt .dispatched with words := [0x00320130, 1, 0, 65, 0, 0, 0, 0], pools := [.BGN], phase := 2 }
     let s : State := { rg engines with jobs := [j], kv := { base.kv with keys := [(1, { used := true, priv := beBytes 32 1 })] } }
     s.AtEngine 3 2 0x0130 j ∧ peerFault j.kset (j.full ([4] ++ beBytes 32 p256.gx ++ beBytes 32 p256.gy)) = 0 ∧ kemScalarOk j.kset (s.jobKey j).priv = true ∧
       kemScalarOk j.kset (({ s with kv := base.kv } : State).jobKey j).priv = false) := by
  unfold State.AtEngine State.CanDraw; decide +kernel

/-- A chain of 1 and of 16 calls, and of none and of 17; a unit row on each side of its waits. -/
theorem test_chain_witness : ((1 : Nat) ≤ 1 ∧ 1 ≤ 16 ∧ (1 : Nat) ≤ 16 ∧ 16 ≤ 16 ∧ 16 < 17) ∧
    (let j : Job := { nopAt .dispatched with pools := [.HSH], slot := some 9, stamp := 1, words := [0x0201, 0, 0, 0, 0, 0, 0, 0] }
     let s : State := { rg engines with jobs := [j] }
     j.masksCalls = true ∧ s.maySession 200 j = true ∧ (s.coreFor { sha2 := true, masked := true, blocks := 1, steps := 1, pos := 3, data := [], adrs := [] }).isSome = true) ∧
    (({ base with hsh := { base.hsh with sess := [(200, { st := 1, flight := some (0, { fin := true }) })] } } : State).hsh.sess.map fun e => e.2.flight) = [some (0, { fin := true })] := by
  decide +kernel

theorem test_unit_wait_witness : (noMask.RunsKernel 0 0 { runJob with core := some (0, 0) } (kern [oneMove 1 0xBE 0]) ∧
      readsMask (oneMove tALU1 0xBE (opWith 0 0x307)) = true ∧ UnitRow 0 1 0xBE 0x307 (.aluAdd 0 1 0xBE 0x307, tALU1, opWith 0 0x307)) ∧
    inCall.hashWaits 0 0 (oneMove tHP 0 (opWith 1 0)) = true := by
  refine ⟨⟨by unfold State.RunsKernel; decide +kernel, by decide +kernel, .inl (by simp [UnitRowScalar])⟩, by decide +kernel⟩

/-- Lost VAUX, a THERMTRIP latch with and without VDD_CORE low, a window over, at and below the limit, the governor at its last step, a kept PME enable. -/
theorem test_supply_witness : ({ base with pwr := { base.pwr with onVbat := true } } : State).pwr.onVbat = true ∧ base.stopped = false ∧
    (let s : State := { base with pwr := { base.pwr with tripLatch := true } }
     s.pwr.onVbat = false ∧ s.pwr.tripLatch = true ∧ s.stopped = true) ∧ base.lco.started = false ∧
    (let limit := 100 * max 10 (min 40 (base.getF .PWR_POWER_LIMIT_W 0))
     limit < 4001 ∧ (0 : Nat) ≤ limit ∧ 0 * 100 < 95 * limit ∧ ¬(limit * 100 < 95 * limit)) ∧ 4 < base.pwr.gov ∧ ({ base.pwr with gov := 4 } : PwrX).gov ≤ 4 ∧
    (∀ n < 3, let s : State := { inMode .deep [(.PWR_WAKE_EN_EN, 0, 7), (.PWR_STATUS_VBAT_LOW, 0, 1)] with
        tmp := { base.tmp with buf := [{ sources := 1, done := 0, pend := 0, sec := 0, tick := 0, power := 0, countDone := false }] }
        pwr := { base.pwr with mode := .deep, pmeKept := true } }
      s.powered = false ∧ s.wakeSource n = true ∧ bit (s.getF .PWR_WAKE_EN_EN 0) n = true ∧ s.pwr.pmeKept = true ∧ s.pwr.mode = .deep) ∧
    ((inMode .idle [(.ENT_STATUS_STATE, 0, 2)]).pwr.mode = .idle ∧ (inMode .idle [(.ENT_STATUS_STATE, 0, 2)]).workless = true) := by decide +kernel

/-- The link in each L1 state, with L1.2 enabled, and ready for training with a wake to report. -/
theorem test_link_witness : (∀ pm ∈ [1, 2, 3], 1 ≤ (live [(.PCI_LINK_STATUS_PM_STATE, 0, pm)]).getF .PCI_LINK_STATUS_PM_STATE 0 ∧
      (live [(.PCI_LINK_STATUS_PM_STATE, 0, pm)]).getF .PCI_LINK_STATUS_PM_STATE 0 ≤ 3) ∧ ({ (live []).pci with l12En := true } : PciX).l12En = true ∧
    (let s : State := { live [] with pci := { (live []).pci with training := some 5, pmeEn := true }, pwr := { base.pwr with pmeStatus := true } }
     s.stopped = false ∧ s.pci.training = some 5 ∧ s.pci.perstLow = false ∧ s.pci.recovering = false ∧ (s.pwr.pmeStatus && s.pci.pmeEn) = true) ∧
    (base.stopped = false ∧ base.pci.perstLow = true ∧ base.awake.cfgRetry = true ∧ (rg [(.GLB_STATUS_BOOT_STATE, 0, 4)]).awake.cfgRetry = false) ∧
    ((live []).powered = true ∧ (live []).pwr.onVbat = false) := by decide +kernel

/-- One vector and one write held; a vector masked and one not; an LTR value sent before and another. -/
theorem test_held_witness : (let s : State := { live [(.MSIX_CTRL_MASK, 8191, 0)] with pci := { (live []).pci with heldVectors := [8191] }, held := [.write none 64 [1] false] }
      s.pci.heldVectors = [8191] ∧ s.held = [.write none 64 [1] false] ∧ s.getF .MSIX_CTRL_MASK 8191 = 0) ∧
    (live [(.MSIX_CTRL_MASK, 0, 1)]).vectorMasked 0 = true ∧ (live [(.MSIX_CTRL_MASK, 1, 0)]).vectorMasked 1 = false ∧
    (let c := ltrCode ((live []).getF .PCI_LTR_IDLE_LATENCY_NS 0)
     ({ (live []).pci with ltrLast := some c } : PciX).ltrLast = some c ∧ (live []).pci.ltrLast ≠ some c) ∧
    (let d : List Byte := [1, 0, 1, 0, 3, 0, 0, 0, 0x10, 0x84, 0, 0]
     (live []).pci.doeErr = false ∧ d.length ≤ 4096 ∧ bfield d 0 2 = 1 ∧ bfield d 2 1 ≤ 1 ∧
       ({ live [] with pci := { (live []).pci with doeIn := some d } } : State).pci.doeIn = some d) := by decide +kernel

/-- Control registers in a function that serves requests. -/
theorem test_control_serves_witness : (rg [(.TMP_STATUS_LOCKDOWN, 0, 1)]).Serves ∧ (rg [(.LCO_STATE_WINDOW_OPEN, 0, 1)]).Serves ∧ (rg [(.LCO_STATE_STATE, 0, 2)]).Serves ∧
    (rg [(.GLB_STATUS_BOOT_STATE, 0, 5)]).Serves ∧ (rg [(.SEQ_BINDER_STATUS_STATE, 0, 3)]).Serves ∧ (rg engines).Serves ∧ (runState endCode).Serves :=
  ⟨rg_serves _, rg_serves _, rg_serves _, rg_serves _, rg_serves _, rg_serves _, serves_of rfl rfl (rg_zero _ _ 0)⟩

/-! ### Single steps of the spec's own example (chapter 25) and of its numbered rules -/

/-- The example's slice 12 enabled: SLC_SLICE_CTRL reads 0x1000_0001 (R64 and "Provisioning"). -/
theorem test_example_slice : ∃ t, execSliceEnable 12 { rg [(.GLB_STATUS_READY, 0, 1), (.SLC_SLICE_PASID_PASID_VALID, 12, 1), (.SLC_SLICE_PASID_PASID, 12, 0x2C1A)] with
      pci := { base.pci with pasidEn := true } } = .next t ∧ t.regValue .SLC_SLICE_CTRL 12 = 0x10000001 ∧ t.regValue .SLC_SLICE_PASID 12 = 0x40002C1A :=
  ⟨_, rfl, by decide +kernel⟩

/-- The same without a PASID enabled at the function is refused with CFG_STATUS 5 (R64). -/
theorem test_slice_without_pasid : ∃ t, execSliceEnable 12 (rg [(.GLB_STATUS_READY, 0, 1), (.SLC_SLICE_PASID_PASID_VALID, 12, 1)]) = .next t ∧
    t.getF .SLC_SLICE_CTRL_ENABLE 12 = 0 ∧ t.getF .SLC_SLICE_CTRL_CFG_STATUS 12 = 5 := ⟨_, rfl, by decide +kernel⟩

/-- The fields of the values that the example writes: EVR_CTRL 0x0003_2083, QC_CTRL 0x0040_0005, QE_SC_CTRL 0x0040_0501. -/
theorem test_example_fields :
    ([Fld.EVR_CTRL_VECTOR, .EVR_CTRL_COAL_TIME, .EVR_CTRL_COAL_COUNT, .EVR_CTRL_IRQ_EN, .EVR_CTRL_ENABLE].map fun f => bits 0x00032083 f.desc.hi f.desc.lo) = [0, 50, 8, 1, 1] ∧
    ([Fld.QC_CTRL_WINDOW, .QC_CTRL_EVRING, .QC_CTRL_EV_EN, .QC_CTRL_ENABLE].map fun f => bits 0x00400005 f.desc.hi f.desc.lo) = [64, 0, 1, 1] ∧
    ([Fld.QE_SC_CTRL_VECTOR, .QE_SC_CTRL_HOLDOFF, .QE_SC_CTRL_ENABLE].map fun f => bits 0x00400501 f.desc.hi f.desc.lo) = [1, 5, 1] := by decide +kernel

/-- The addresses that the example gives: SLC_SLICE_CTRL[12], EVR_CTRL[24] and QC_CTRL[4096] in BAR0. -/
theorem test_example_addresses : (Reg.SLC_SLICE_CTRL.desc.base + 12 * Reg.SLC_SLICE_CTRL.desc.stride = 0x00500300) ∧
    (Reg.EVR_CTRL.desc.base + 24 * Reg.EVR_CTRL.desc.stride = 0x00600610) ∧ (Reg.QC_CTRL.desc.base + 4096 * Reg.QC_CTRL.desc.stride = 0x00280010) := by decide +kernel

/-- L0 at 32.0 GT/s ×8 reads 0x85 in PCI_LINK_STATUS. -/
theorem test_example_link : ∃ t, execLinkUp 5 8 { base with pci := { base.pci with perstLow := false, training := some 5 } } = .next t ∧
    t.regValue .PCI_LINK_STATUS 0 = 0x00000085 := ⟨_, rfl, by decide +kernel⟩

/-- The failed batch's last word: 1,023 records verified, DETAIL 2, SIG_INVALID (R119). -/
theorem test_example_w7 : ({ jb 0 0 0 0 with status := 0x0010, detail := 2, result := 1023 } : Job).w7 = 0x000003FF00020010 := by decide

/-- The example's batch of 192 FN-DSA records passes the length check with OUT_LEN 768 and no less; its checkpoint needs 4,755 bytes. -/
theorem test_example_lengths : base.lengthFault (jb 0x24180123 0 (768 * 2 ^ 32 + 355392) 192) = none ∧
    base.lengthFault (jb 0x24180123 0 (767 * 2 ^ 32 + 355392) 192) = some (2, 768) ∧
    base.maxOut (jb 0x04030601 (0x00010203 * 2 ^ 32 + 7) (4755 * 2 ^ 32) 0) = 4755 ∧ base.maxOut (jb 0x04030120 0 0 8) = 2592 := by decide +kernel

/-- 12,400 is 0x3070, and a proof of one of so many records reaches the highest of its peaks: 8,192 records. -/
theorem test_peaks : (peaks 12400).map (fun p => 2 ^ p.1) = [8192, 4096, 64, 32, 16] := by decide +kernel

/-- The sizes of FIPS 203, 204 and 205 that the tables of R145 and R146 repeat. -/
theorem test_sizes : kemSizes 2 = some (1184, 2400, 1088, 32) ∧ (sigSizes 2).map (fun x => (x.1, x.2.2)) = some (1952, 3309) ∧ kwpLen 33 = 48 := by decide

/-- CRC-8 of "123456789" is 0xF4 in SMBus's polynomial (R529, log entry 60). -/
theorem test_pec : pec (label "123456789") = 0xF4 := by decide +kernel

/-- A temperature of 85.0 °C is read low byte first. -/
theorem test_smb_temperature : ∃ t, execSmbReadTemp false (rg [(.GLB_STATUS_BOOT_STATE, 0, 4), (.PWR_TEMP_T, 0, 0x0550)]) = .next t ∧
    (rg [(.GLB_STATUS_BOOT_STATE, 0, 4), (.PWR_TEMP_T, 0, 0x0550)]).smbOn = true ∧ t.sent = [.smb [0x50, 0x05]] := ⟨_, rfl, by decide +kernel, by decide +kernel⟩

/-- One write clears exactly the set bits of a W1C field, leaves those of an RO field, and sets all of an RW field (R7). -/
theorem test_access : fieldAfter .W1C false false 8 0xF0 0x30 = 0xC0 ∧ fieldAfter .RO false false 8 0xF0 0x30 = 0xF0 ∧ fieldAfter .RWL true false 8 0xF0 0x30 = 0xF0 ∧
    fieldAfter .RW false false 8 0xF0 0x30 = 0x30 := by decide

/-- VALU and ALU arithmetic wraps in the lane (R272): 14 bits, 28 bits, an arithmetic shift right of a negative number. -/
theorem test_lanes : laneAlu 0 14 0x3FFF 1 = 0 ∧ laneAlu 1 28 0 1 = 0xFFFFFFF ∧ laneAlu 8 14 0x2000 1 = 0x3000 ∧ aluOp 0x0F 28 1 0xFFFFFFF = 1 ∧ aluOp 0x10 28 1 0xFFFFFFF = 0 ∧
    lanes2 2 (laneAlu 0 56) (2 ^ 56 + 5) (2 ^ 56 * 2 + 2 ^ 56 - 1) = 2 ^ 56 * 3 + 4 := by decide +kernel

/-- The first twiddles of the ROMs: 17^64 mod 3,329 is 1,729; 1,753^128 mod 8,380,417 is 4,808,194 (R237). -/
theorem test_twiddles : romEntry 0 0 = 1 ∧ romEntry 0 1 = 1729 ∧ romEntry 1 1 = 4808194 ∧ romEntry 2 0 = 1 := by decide +kernel

/-- One butterfly each way with q = 3,329: the second undoes the first but for the factor 2 (R236). -/
theorem test_butterflies : butterfly false 3329 17 100 200 = (171, 29) ∧ butterfly true 3329 1 171 29 = (200, 142) := by decide

/-- Saturation and both roundings (R275). -/
theorem test_fixed_point : fxpLane 0 14 0x1FFF 1 = (0x1FFF, true) ∧ fxpLane 3 14 1 2 = (0, true) ∧ (fxpLane 4 14 5 1).1 = 3 ∧ (fxpLane 5 14 5 1).1 = 2 ∧ (fxpLane 5 14 7 1).1 = 4 := by decide +kernel

/-- A cycle of the time clock adds 4 ns and carries into the seconds (R406). -/
theorem test_tick : (State.idle { rg [(.TIM_STATUS_HAS_TIME, 0, 1)] with tim := { base.tim with sec := 7, ns := 999999996 } }).tim.sec = 8 := by decide +kernel

/-- RETRY outside FAILED is refused and counted (R436 and the paragraph on GLB_BOOT_CTRL). -/
theorem test_boot_retry : ∃ t, execBootRetry 1 [] base = .next t ∧ t.getF .GLB_CFG_REFUSED_COUNT_COUNT 0 = 1 ∧ t.getF .GLB_STATUS_BOOT_STATE 0 = 0 := ⟨_, rfl, by decide +kernel⟩

/-- After the main power-on reset the vault is closed, the ledger not ready and the clock without a time. -/
theorem test_reset : State.reset.getF .KV_STATUS_OPEN 0 = 0 ∧ State.reset.getF .QRE_STATUS_READY 0 = 0 ∧ State.reset.getF .TIM_STATUS_HAS_TIME 0 = 0 ∧ State.reset.pending = [] := by decide +kernel

end Sys2Proof.Machine
end

section
/-! ## What the functions of the machine keep

One lemma per function of the machine that answers a state. Two things are kept by one proof: the invariant (O6), and the low halves held for two-part
accesses (O10); a lemma for every `κ` is about both, and the few functions that set or drop held halves keep the invariant alone. A function that
builds its answer from others is done by their lemmas; one that changes neither the registers nor the time unit nor the held halves by
`State.Keeps.keep`, and one that changes anything of the time unit but its clocks by `State.Keeps.keepClocks`.

The premises of these two are default arguments, found by a tactic in each proof. Such a proof waits for the ones before it, so the proofs of this
section are elaborated one after another. -/

namespace Sys2Proof.Machine
open Sys2Proof

set_option Elab.async false

/-- What a function of the machine is shown to keep: the invariant, or the low halves held for two-part writes. -/
inductive Kept where
  | inv
  | held (m : SMap (Reg × Nat) Nat)

/-- A state meets the invariant, or its held low halves are the ones given. -/
def State.Keeps (s : State) (κ : Kept) : Prop :=
  match κ with
  | .inv => s.Inv
  | .held m => s.heldLow = m

/-- The two clocks of the time unit, each as seconds, nanoseconds and their fraction. -/
def TimX.clocks (x : TimX) : (Nat × Nat × Nat) × (Nat × Nat × Nat) := ((x.sec, x.ns, x.sub), (x.keeperSec, x.keeperNs, x.keeperSub))

/-- A state with the registers and the clocks of one that meets the invariant meets it. -/
theorem State.Keeps.of_regs_clocks {s t : State} (hs : s.Keeps .inv) (hregs : t.regs = s.regs) (htim : t.tim.clocks = s.tim.clocks) :
    t.Keeps .inv := by
  obtain ⟨hr, ht⟩ := hs
  simp only [TimX.clocks, Prod.mk.injEq] at htim
  obtain ⟨⟨e1, e2, e3⟩, e4, e5, e6⟩ := htim
  exact ⟨State.regsOk_regs hregs hr, by simpa only [State.timeOk, e1, e2, e3, e4, e5, e6] using ht⟩

variable {κ : Kept}

/-- Of the time unit, what is kept depends on the two clocks alone. -/
theorem State.Keeps.keepClocks {s t : State} (hs : s.Keeps κ) (hregs : t.regs = s.regs := by rfl)
    (htim : t.tim.clocks = s.tim.clocks := by rfl) (hheld : t.heldLow = s.heldLow := by rfl) : t.Keeps κ := by
  cases κ with
  | inv => exact hs.of_regs_clocks hregs htim
  | held m => exact hheld.trans hs

/-- What is kept depends on the registers, the time unit and the held low halves alone. -/
theorem State.Keeps.keep {s t : State} (hs : s.Keeps κ) (hregs : t.regs = s.regs := by with_reducible rfl)
    (htim : t.tim = s.tim := by with_reducible rfl) (hheld : t.heldLow = s.heldLow := by with_reducible rfl) : t.Keeps κ :=
  hs.keepClocks hregs (congrArg TimX.clocks htim) hheld

theorem State.Keeps.setF {s : State} (hs : s.Keeps κ) (f i v) : (s.setF f i v).Keeps κ := by
  cases κ with
  | inv => exact ⟨State.setF_regsOk hs.1 f i v, hs.2⟩
  | held m => exact hs

theorem State.Keeps.setFlag {s : State} (hs : s.Keeps κ) (f i b) : (s.setFlag f i b).Keeps κ := hs.setF _ _ _

theorem State.Keeps.count {s : State} (hs : s.Keeps κ) (f i n) : (s.count f i n).Keeps κ := hs.setF _ _ _

theorem State.Keeps.dropF {s : State} (hs : s.Keeps κ) (p) : (s.dropF p).Keeps κ := by
  cases κ with
  | inv => exact ⟨State.dropF_regsOk hs.1 p, hs.2⟩
  | held m => exact hs

theorem State.Keeps.dropClasses {s : State} (hs : s.Keeps κ) (cs) : (s.dropClasses cs).Keeps κ := hs.dropF _

/-- What is kept once a low half has been set: of the invariant nothing changes. -/
def Kept.setHeld (κ : Kept) (r : Reg) (i v : Nat) : Kept :=
  match κ with
  | .inv => .inv
  | .held m => .held (mset regOrd (fun _ => 0) m (r, i) v)

theorem State.Keeps.setHeld {s : State} (hs : s.Keeps κ) (r i v) : (s.setHeld r i v).Keeps (κ.setHeld r i v) := by
  cases κ with
  | inv => exact hs.of_regs_clocks rfl rfl
  | held m => exact congrArg (mset regOrd (fun _ => 0) · (r, i) v) hs

/-- What both branches of a condition keep, the choice keeps. -/
theorem State.Keeps.ite {c : Prop} [Decidable c] {a b : State} (ha : a.Keeps κ) (hb : b.Keeps κ) : (if c then a else b).Keeps κ := by
  split
  · exact ha
  · exact hb

/-- What every step of a fold keeps, the fold keeps. -/
theorem State.Keeps.foldl {α : Type} {s : State} (hs : s.Keeps κ) {f : State → α → State} (hf : ∀ t : State, t.Keeps κ → ∀ a, (f t a).Keeps κ) (l : List α) :
    (l.foldl f s).Keeps κ := by
  induction l generalizing s with
  | nil => exact hs
  | cons a l ih => exact ih (hf s hs a)

/-- The state of a pair that has been taken apart. -/
theorem State.Keeps.of_snd {α : Type} {x : α × State} {a : α} {t : State} (hx : x.2.Keeps κ) (e : x = (a, t)) : t.Keeps κ := by
  rw [e] at hx
  exact hx

/-- A state that may be there, or else another. -/
theorem State.Keeps.getD {o : Option State} {s : State} (ho : ∀ t, o = some t → t.Keeps κ) (hs : s.Keeps κ) : (o.getD s).Keeps κ := by
  cases o with
  | none => exact hs
  | some t => exact ho t rfl

/-- A command keeps what every next state that it answers keeps. -/
def OutKeeps (κ : Kept) (o : Out) : Prop := ∀ t, o = .next t → t.Keeps κ

theorem OutKeeps.next {t : State} (ht : t.Keeps κ) : OutKeeps κ (.next t) := by
  intro u hu
  injection hu with hu
  exact hu ▸ ht

theorem OutKeeps.ite {c : Prop} [Decidable c] {a b : Out} (ha : OutKeeps κ a) (hb : OutKeeps κ b) : OutKeeps κ (if c then a else b) := by
  split
  · exact ha
  · exact hb

/-- A draw of random bytes keeps what its state keeps, whether it could be made or not. -/
def DrawKeeps (κ : Kept) (r : Except State (List Byte × State)) : Prop := (∀ t, r = .error t → t.Keeps κ) ∧ ∀ x, r = .ok x → x.2.Keeps κ

theorem DrawKeeps.error {t : State} (ht : t.Keeps κ) : DrawKeeps κ (.error t) := by
  refine ⟨fun u e => ?_, fun x e => ?_⟩
  · cases e
    exact ht
  · cases e

theorem DrawKeeps.ok {x : List Byte × State} (hx : x.2.Keeps κ) : DrawKeeps κ (.ok x) := by
  refine ⟨fun u e => ?_, fun y e => ?_⟩
  · cases e
  · cases e
    exact hx

theorem DrawKeeps.ite {c : Prop} [Decidable c] {a b : Except State (List Byte × State)} (ha : DrawKeeps κ a) (hb : DrawKeeps κ b) : DrawKeeps κ (if c then a else b) := by
  split
  · exact ha
  · exact hb

theorem DrawKeeps.of_error {r : Except State (List Byte × State)} {t : State} (hr : DrawKeeps κ r) (e : r = .error t) : t.Keeps κ := hr.1 t e

theorem DrawKeeps.of_ok {r : Except State (List Byte × State)} {d : List Byte} {t : State} (hr : DrawKeeps κ r) (e : r = .ok (d, t)) : t.Keeps κ := hr.2 _ e

/-! ### The functions of Machine/Ops -/

theorem State.Keeps.setSlice {s : State} (hs : s.Keeps κ) (i x2) : (s.setSlice i x2).Keeps κ := hs.keep rfl rfl rfl

theorem State.Keeps.setQueue {s : State} (hs : s.Keeps κ) (i x2) : (s.setQueue i x2).Keeps κ := hs.keep rfl rfl rfl

theorem State.Keeps.setRing {s : State} (hs : s.Keeps κ) (i x2) : (s.setRing i x2).Keeps κ := hs.keep rfl rfl rfl

theorem State.Keeps.setChan {s : State} (hs : s.Keeps κ) (i x2) : (s.setChan i x2).Keeps κ := hs.keep rfl rfl rfl

theorem State.Keeps.setKey {s : State} (hs : s.Keeps κ) (i x2) : (s.setKey i x2).Keeps κ := hs.keep rfl rfl rfl

theorem State.Keeps.setCust {s : State} (hs : s.Keeps κ) (i x2) : (s.setCust i x2).Keeps κ := hs.keep rfl rfl rfl

theorem State.Keeps.setStream {s : State} (hs : s.Keeps κ) (i x2) : (s.setStream i x2).Keeps κ := hs.keep rfl rfl rfl

theorem State.Keeps.say {s : State} (hs : s.Keeps κ) (m) : (s.say m).Keeps κ := hs.keep rfl rfl rfl

theorem OutKeeps.clocked {s : State} {f : State → Out} (hs : s.Keeps κ) (hf : ∀ t : State, t.Keeps κ → OutKeeps κ (f t)) : OutKeeps κ (s.clocked f) :=
  .ite (.next hs) (hf s hs)

theorem State.Keeps.loadNanos {s : State} (hs : s.Keeps κ) (n) : (s.loadNanos n).Keeps κ := by
  cases κ with
  | inv =>
    obtain ⟨hregs, -, hkeeper⟩ := hs
    exact ⟨hregs, ⟨Nat.mod_lt _ (by norm_num), Nat.mod_lt _ (by norm_num), Nat.two_pow_pos 32⟩, hkeeper⟩
  | held m => exact hs

theorem State.Keeps.setOnKeeper {s : State} (hs : s.Keeps κ) (b) : ({ s with tim := { s.tim with onKeeper := b } } : State).Keeps κ :=
  hs.keepClocks

theorem State.Keeps.fromKeeper {s : State} (hs : s.Keeps κ) : s.fromKeeper.Keeps κ := by
  unfold State.fromKeeper
  split
  · exact (hs.loadNanos _).setOnKeeper false
  · exact hs

theorem State.Keeps.wakeGens {s : State} (hs : s.Keeps κ) : s.wakeGens.Keeps κ := hs.keep rfl rfl rfl

theorem State.Keeps.linkExit {s : State} (hs : s.Keeps κ) : s.linkExit.Keeps κ := by
  unfold State.linkExit
  extract_lets p
  exact .ite (hs.setF _ _ _) hs

theorem State.Keeps.awake {s0 : State} (hs0 : s0.Keeps κ) : s0.awake.Keeps κ := by
  unfold State.awake
  extract_lets s _ s1
  have hs : s.Keeps κ := hs0.linkExit
  have hs1 : s1.Keeps κ := hs.keep.setF _ _ _
  split
  · exact hs.keep.setF _ _ _
  · exact hs1.fromKeeper.wakeGens
  · exact hs

theorem OutKeeps.mmio {s : State} {f : State → Out} (hs : s.Keeps κ) (hf : ∀ t : State, t.Keeps κ → OutKeeps κ (f t)) : OutKeeps κ (s.mmio f) :=
  .clocked hs fun _ ht => .ite (hf _ ht.awake) (.next (ht.awake.say _))

/-- Where the function takes memory requests and nothing sleeps, a request acts on the state as it is. -/
theorem State.Serves.mmio {s : State} (hs : s.Serves) (f : State → Out) : s.mmio f = f s := by
  obtain ⟨hrun, hspace, hawake⟩ := hs
  simp [State.mmio, State.clocked, hrun, hspace, hawake]

/-- A memory request that also sets a held low half: of the invariant nothing changes, and of the held halves that alone where the request is served. -/
theorem OutKeeps.mmioHeld {s : State} {f : State → Out} {r : Reg} {i v : Nat} (hs : s.Keeps κ) (hκ : κ = .inv ∨ s.Serves)
    (hf : ∀ t : State, t.Keeps κ → OutKeeps (κ.setHeld r i v) (f t)) : OutKeeps (κ.setHeld r i v) (s.mmio f) := by
  rcases hκ with rfl | hserves
  · exact .mmio hs hf
  · rw [hserves.mmio]
    exact hf s hs

theorem State.Keeps.setPba {s : State} (hs : s.Keeps κ) (v b) : (s.setPba v b).Keeps κ := hs.setF _ _ _

theorem State.Keeps.sendVector {s : State} (hs : s.Keeps κ) (v) : (s.sendVector v).Keeps κ := by
  unfold State.sendVector
  exact .ite (hs.setPba _ _) (.ite (hs.say _) hs.keep)

theorem State.Keeps.blockVector {s : State} (hs : s.Keeps κ) (blk) : (s.blockVector blk).Keeps κ := hs.sendVector _

theorem State.Keeps.sliceVector {s : State} (hs : s.Keeps κ) (sl v) : (s.sliceVector sl v).Keeps κ := .ite (hs.sendVector _) (hs.count _ _ _)

theorem State.Keeps.setCause {s : State} (hs : s.Keeps κ) (blk cause) : (s.setCause blk cause).Keeps κ := hs.setF _ _ _

theorem State.Keeps.raiseErr {s : State} (hs : s.Keeps κ) (blk cause unit syn) : (s.raiseErr blk cause unit syn).Keeps κ := by
  unfold State.raiseErr
  extract_lets s1 s2
  have hs1 : s1.Keeps κ := hs.count _ _ _
  have hs2 : s2.Keeps κ := (((hs1.setF _ _ _).setF _ _ _).setF _ _ _).setCause _ _
  exact .ite (.ite (hs2.blockVector _) hs2) ((hs1.count _ _ _).setCause _ _)

theorem State.Keeps.alert {s : State} (hs : s.Keeps κ) (n) : (s.alert n).Keeps κ := by
  unfold State.alert
  split
  · exact hs
  · extract_lets s1 _
    have hs1 : s1.Keeps κ := hs.setF _ _ _
    exact .ite hs1.keep hs1

theorem State.Keeps.lockDown {s : State} (hs : s.Keeps κ) : s.lockDown.Keeps κ := (hs.setFlag _ _ _).alert _

theorem State.Keeps.draw {s : State} (hs : s.Keeps κ) (n) : (s.draw n).2.Keeps κ := by
  unfold State.draw
  exact hs.keep

theorem State.Keeps.sendWrite {s : State} (hs : s.Keeps κ) (pasid a d ro) : (s.sendWrite pasid a d ro).Keeps κ := hs.foldl (fun _ ht _ => ht.say _) _

theorem State.Keeps.sendRead {s : State} (hs : s.Keeps κ) (pasid a n) : (s.sendRead pasid a n).Keeps κ := hs.foldl (fun _ ht _ => ht.say _) _

theorem State.Keeps.plainOut {s : State} (hs : s.Keeps κ) (a d) : (s.plainOut a d).Keeps κ := by
  unfold State.plainOut
  exact .ite (hs.sendWrite _ _ _ _) hs.keep

theorem State.Keeps.dplPut {s : State} (hs : s.Keeps κ) (sl w) : (s.dplPut sl w).Keeps κ := by
  unfold State.dplPut
  extract_lets p x s1
  have hs1 : s1.Keeps κ := hs.plainOut _ _
  exact .ite ((hs1.setF _ _ _).setSlice _ _) (hs1.setF _ _ _)

theorem State.Keeps.dplPage {s : State} (hs : s.Keeps κ) (sl page) : (s.dplPage sl page).Keeps κ := .ite (hs.dplPut _ _) ((hs.setFlag _ _ _).count _ _ _)

theorem State.Keeps.send {s : State} (hs : s.Keeps κ) (r) : (s.send r).Keeps κ := by
  unfold State.send
  split
  · exact hs.sendRead _ _ _
  · exact hs.sendWrite _ _ _ _
  · extract_lets s1
    have hs1 : s1.Keeps κ := hs.sendWrite _ _ _ _
    exact .ite (hs1.foldl (fun _ ht _ => ht.dplPage _ _) _) hs1

theorem State.Keeps.issue {s : State} (hs : s.Keeps κ) (r) : (s.issue r).Keeps κ := by
  unfold State.issue
  exact .ite (hs.send _) hs.keep

theorem State.Keeps.hostWrite {s : State} (hs : s.Keeps κ) (sl addr d ro) : (s.hostWrite sl addr d ro).Keeps κ := .ite hs (hs.issue _)

theorem State.Keeps.hostRead {s : State} (hs : s.Keeps κ) (sl addr n) : (s.hostRead sl addr n).Keeps κ := hs.issue _

/-! ### The functions of Machine/Quarters -/

theorem State.Keeps.setCore {s : State} (hs : s.Keeps κ) (c x2) : (s.setCore c x2).Keeps κ := hs.keep rfl rfl rfl

theorem State.Keeps.setQuarter {s : State} (hs : s.Keeps κ) (c n x3) : (s.setQuarter c n x3).Keeps κ := hs.setCore _ _

theorem State.Keeps.setGather {s : State} (hs : s.Keeps κ) (g x2) : (s.setGather g x2).Keeps κ := hs.keep rfl rfl rfl

theorem State.Keeps.scrubQuarter {s : State} (hs : s.Keeps κ) (c n) : (s.scrubQuarter c n).Keeps κ := by
  unfold State.scrubQuarter
  extract_lets x _ s1
  have hs1 : s1.Keeps κ := .ite (hs.setCore _ _) hs
  exact hs1.setQuarter _ _ _

theorem State.Keeps.scrubPages {s : State} (hs : s.Keeps κ) (q i) : (s.scrubPages q i).Keeps κ := hs.keep rfl rfl rfl

theorem State.Keeps.scrubJob {s : State} (hs : s.Keeps κ) (q i) : (s.scrubJob q i).Keeps κ := by
  unfold State.scrubJob
  extract_lets l
  exact (hs.foldl (fun _ ht _ => ht.scrubQuarter _ _) _).scrubPages _ _

theorem State.Keeps.closeSession {s : State} (hs : s.Keeps κ) (n) : (s.closeSession n).Keeps κ := by
  unfold State.closeSession
  extract_lets x y _
  exact hs.keep

theorem State.Keeps.leaveEngine {s : State} (hs : s.Keeps κ) (j) : (s.leaveEngine j).Keeps κ := by
  unfold State.leaveEngine
  extract_lets s1 s2 _
  have hs1 : s1.Keeps κ := hs.scrubJob _ _
  have hs2 : s2.Keeps κ := hs1.foldl (fun _ ht _ => ht.closeSession _) _
  exact hs2.keep

theorem State.Keeps.letGo {s : State} (hs : s.Keeps κ) (j) : (s.letGo j).Keeps κ := by
  unfold State.letGo
  extract_lets s1 n _
  have hs1 : s1.Keeps κ := hs.leaveEngine _
  exact .ite hs1.keep hs1

/-! ### The functions of Machine/Store -/

theorem State.Keeps.scAsk {s : State} (hs : s.Keeps κ) (r) : (s.scAsk r).Keeps κ := hs.keep rfl rfl rfl

theorem State.Keeps.askFetch {s : State} (hs : s.Keeps κ) (b) : (s.askFetch b).Keeps κ := .ite hs (hs.scAsk _)

theorem State.Keeps.bump {s : State} (hs : s.Keeps κ) (b l) : (s.bump b l).Keeps κ := by
  unfold State.bump
  extract_lets c n _
  exact hs.keep

theorem State.Keeps.placeNow {s : State} (hs : s.Keeps κ) (p) : (s.placeNow p).Keeps κ := by
  unfold State.placeNow
  extract_lets b n s1 g g' _
  have hs1 : s1.Keeps κ := hs.foldl (fun _ ht _ => ht.bump _ _) _
  split
  · extract_lets m
    exact hs1.keep

theorem State.Keeps.drainPlace {s : State} (hs : s.Keeps κ) (n) : (s.drainPlace n).Keeps κ := by
  induction n generalizing s with
  | zero => exact hs
  | succ n ih =>
    unfold State.drainPlace
    split
    · exact hs
    · split
      · exact hs
      · split
        · exact ih (hs.keep.placeNow _)
        · exact hs.askFetch _
        · exact hs

theorem State.Keeps.place {s : State} (hs : s.Keeps κ) (b d owner) : (s.place b d owner).Keeps κ := by
  unfold State.place
  extract_lets _ s1
  have hs1 : s1.Keeps κ := hs.keep
  exact hs1.drainPlace _

theorem State.Keeps.discardBlock {s : State} (hs : s.Keeps κ) (b owner) : (s.discardBlock b owner).Keeps κ := by
  unfold State.discardBlock
  extract_lets _ s1
  have hs1 : s1.Keeps κ := hs.keep
  exact hs1.drainPlace _

theorem State.Keeps.closeGroup {s : State} (hs : s.Keeps κ) : s.closeGroup.Keeps κ := by
  unfold State.closeGroup
  extract_lets g reqs body rec' root _
  exact hs.keep

theorem State.Keeps.askClose {s : State} (hs : s.Keeps κ) : s.askClose.Keeps κ := hs.keep rfl rfl rfl

theorem State.Keeps.setAnchor {s : State} (hs : s.Keeps κ) (a) : (s.setAnchor a).Keeps κ := by
  unfold State.setAnchor
  exact ((hs.keep.setFlag _ _ _).setF _ _ _).setF _ _ _

theorem State.Keeps.finishGroup {s : State} (hs : s.Keeps κ) : s.finishGroup.Keeps κ := by
  unfold State.finishGroup
  split
  · exact hs
  · split
    · extract_lets s1 now _
      have hs1 : s1.Keeps κ := (hs.setAnchor _).setF _ _ _
      exact hs1.keep
    · exact hs

theorem State.Keeps.persistDone {s : State} (hs : s.Keeps κ) (r) : (s.persistDone r).Keeps κ := by
  unfold State.persistDone
  split
  · exact hs
  · split
    · exact hs.keep.finishGroup
    · extract_lets g' _
      exact .ite hs.keep hs.keep

theorem State.Keeps.fetched {s : State} (hs : s.Keeps κ) (b d) : (s.fetched b d).2.Keeps κ := by
  unfold State.fetched
  split
  · exact hs.keep
  · split
    · split
      · exact hs.keep
      · exact hs

theorem State.Keeps.integrityFail {s : State} (hs : s.Keeps κ) (ch b r) : (s.integrityFail ch b r).Keeps κ := by
  unfold State.integrityFail
  extract_lets s1 _
  have hs1 : s1.Keeps κ := (hs.count _ _ _).raiseErr _ _ _ _
  exact hs1.keep

/-! ### The functions of Machine/Ledger -/

theorem State.Keeps.takeArea {s : State} (hs : s.Keeps κ) : (s.takeArea).2.Keeps κ := by
  unfold State.takeArea
  split
  · exact hs.keep
  · split
    · exact hs.keep
    · exact hs

theorem State.Keeps.trySpare {s : State} (hs : s.Keeps κ) (st) : (s.trySpare st).Keeps κ := by
  unfold State.trySpare
  extract_lets x
  have harea : (if x.folio + 1 < 2 ^ 25 then s.takeArea else (none, s)).2.Keeps κ := by
    split
    · exact hs.takeArea
    · exact hs
  split
  · exact hs
  · split
    · rename_i e
      exact ((harea.of_snd e).setStream _ _).setFlag _ _ _
    · rename_i e
      exact .ite (harea.of_snd e) (((harea.of_snd e).setFlag _ _ _).raiseErr _ _ _ _)

theorem State.Keeps.placeFolioBlock {s : State} (hs : s.Keeps κ) (st owner k) : (s.placeFolioBlock st owner k).Keeps κ := by
  unfold State.placeFolioBlock
  extract_lets x all
  exact hs.place _ _ _

theorem State.Keeps.storeNode {s : State} (hs : s.Keeps κ) (st h owner) : (s.storeNode st h owner).Keeps κ := by
  unfold State.storeNode
  extract_lets x k s1 y tail s2
  have hs1 : s1.Keeps κ := by
    unfold s1
    split
    · split
      · rename_i t1 e
        have ht1 : t1.Keeps κ := hs.takeArea.of_snd e
        exact ht1.setStream _ _
      · rename_i t1 e
        have ht1 : t1.Keeps κ := hs.takeArea.of_snd e
        exact ht1
    · exact hs
  have hs2 : s2.Keeps κ := hs1.setStream _ _
  exact hs2.place _ _ _

theorem State.Keeps.addHash {s : State} (hs : s.Keeps κ) (st owner n l i d) : (s.addHash st owner n l i d).Keeps κ := by
  induction n generalizing s l i d with
  | zero => exact hs
  | succ n ih =>
    unfold State.addHash
    extract_lets _ s1 s2
    have hs1 : s1.Keeps κ := hs.setStream _ _
    have hs2 : s2.Keeps κ := .ite hs1 (hs1.storeNode _ _ _)
    exact .ite (ih hs2 _ _ _) hs2

theorem State.Keeps.placeStreamState {s : State} (hs : s.Keeps κ) (st owner) : (s.placeStreamState st owner).Keeps κ := by
  unfold State.placeStreamState
  extract_lets x b
  exact hs.place _ _ _

theorem State.Keeps.countForm {s : State} (hs : s.Keeps κ) (w) : (s.countForm w).Keeps κ := .ite (hs.count _ _ _) (.ite (hs.count _ _ _) hs)

theorem State.Keeps.placeRecord {s : State} (hs : s.Keeps κ) (st w) : (s.placeRecord st w).Keeps κ := by
  unfold State.placeRecord
  extract_lets padded n x s0 y off s1 touched s2 s3 s4
  have hs0 : s0.Keeps κ := .ite hs ((hs.setStream _ _).trySpare _)
  have hs1 : s1.Keeps κ := hs0.setStream _ _
  have hs2 : s2.Keeps κ := hs1.foldl (fun _ ht _ => ht.placeFolioBlock _ _ _) _
  have hs3 : s3.Keeps κ := hs2.addHash _ _ _ _ _ _
  have hs4 : s4.Keeps κ := ((hs3.placeStreamState _ _).count _ _ _).countForm _
  exact hs4.keep

theorem State.Keeps.drainRecords {s : State} (hs : s.Keeps κ) (st n) : (s.drainRecords st n).Keeps κ := by
  induction n generalizing s with
  | zero => exact hs
  | succ n ih =>
    unfold State.drainRecords
    split
    · exact ih (hs.placeRecord _ _)
    · exact hs

theorem State.Keeps.giveRecord {s : State} (hs : s.Keeps κ) (st w) : (s.giveRecord st w).Keeps κ := by
  unfold State.giveRecord
  extract_lets x
  exact (hs.setStream _ _).drainRecords _ _

theorem State.Keeps.takeSeq {s : State} (hs : s.Keeps κ) (st) : (s.takeSeq st).2.Keeps κ := hs.setF _ _ _

theorem State.Keeps.takeTime {s : State} (hs : s.Keeps κ) (st t) : (s.takeTime st t).2.Keeps κ := by
  unfold State.takeTime
  extract_lets x _ t'
  exact hs.setStream _ _

theorem State.Keeps.deviceRecord {s : State} (hs : s.Keeps κ) (ev t d) : (s.deviceRecord ev t d).Keeps κ := by
  unfold State.deviceRecord
  split
  · rename_i s1 e
    have hs1 : s1.Keeps κ := (hs.takeSeq _).of_snd e
    split
    · rename_i s2 e
      have hs2 : s2.Keeps κ := (hs1.takeTime _ _).of_snd e
      exact hs2.giveRecord _ _

theorem State.Keeps.journalNow {s : State} (hs : s.Keeps κ) (e) : (s.journalNow e).Keeps κ := hs.foldl (fun _ ht _ => ht.deviceRecord _ _ _) _

theorem State.Keeps.journal {s : State} (hs : s.Keeps κ) (ev d) : (s.journal ev d).Keeps κ := by
  unfold State.journal
  extract_lets e _
  exact .ite (hs.journalNow _) (.ite (hs.keep.setF _ _ _) ((hs.keep.count _ _ _).raiseErr _ _ _ _))

theorem State.Keeps.journalDrain {s : State} (hs : s.Keeps κ) : s.journalDrain.Keeps κ := by
  unfold State.journalDrain
  extract_lets s1 s2 _
  have hs1 : s1.Keeps κ := hs.foldl (fun _ ht _ => ht.journalNow _) _
  have hs2 : s2.Keeps κ := .ite hs1 (hs1.journalNow _)
  exact hs2.keep.setF _ _ _

theorem State.Keeps.recovered {s : State} (hs : s.Keeps κ) (blk) : (s.recovered blk).Keeps κ := by
  unfold State.recovered
  extract_lets n s1
  have hs1 : s1.Keeps κ := (hs.setF _ _ _).setF _ _ _
  exact hs1.journal _ _

/-! ### The functions of Machine/Vault -/

theorem State.Keeps.kvEvent {s : State} (hs : s.Keeps κ) (n) : (s.kvEvent n).Keeps κ := by
  unfold State.kvEvent
  extract_lets f s1
  have hs1 : s1.Keeps κ := hs.setFlag _ _ _
  exact .ite (hs1.blockVector _) hs1

theorem State.Keeps.takeEntry {s : State} (hs : s.Keeps κ) : (s.takeEntry).2.Keeps κ := by
  unfold State.takeEntry
  split
  · exact hs.keep
  · split
    · exact hs.keep
    · exact (hs.count _ _ _).kvEvent _

theorem State.Keeps.removeKey {s : State} (hs : s.Keeps κ) (i) : (s.removeKey i).Keeps κ := by
  unfold State.removeKey
  split
  · exact hs
  · extract_lets s1 _
    have hs1 : s1.Keeps κ := hs.setKey _ _
    exact hs1.keep

theorem State.Keeps.removeKeys {s : State} (hs : s.Keeps κ) (p) : (s.removeKeys p).Keeps κ := hs.foldl (fun _ ht _ => ht.removeKey _) _

theorem State.Keeps.evictFor {s : State} (hs : s.Keeps κ) (n l) : (s.evictFor n l).Keeps κ := by
  induction l generalizing s with
  | nil => exact hs
  | cons i l ih =>
    unfold State.evictFor
    extract_lets _ s1 _
    have hs1 : s1.Keeps κ := hs.setKey _ _
    exact .ite hs (.ite (ih hs) (ih (hs1.keep.count _ _ _)))

theorem State.Keeps.makeHot {s : State} (hs : s.Keeps κ) (i) : (s.makeHot i).Keeps κ := by
  unfold State.makeHot
  extract_lets s1 _
  have hs1 : s1.Keeps κ := .ite hs (hs.evictFor _ _)
  exact hs1.keep

theorem State.Keeps.writeKeyRecord {s : State} (hs : s.Keeps κ) (i owner) : (s.writeKeyRecord i owner).Keeps κ := by
  unfold State.writeKeyRecord
  extract_lets k
  split
  · exact hs
  · exact hs.place _ _ _
  · exact hs.place _ _ _

theorem State.Keeps.dropKeyRecord {s : State} (hs : s.Keeps κ) (i owner) : (s.dropKeyRecord i owner).Keeps κ := by
  unfold State.dropKeyRecord
  split
  · exact hs
  · exact hs.discardBlock _ _

theorem State.Keeps.writeCust {s : State} (hs : s.Keeps κ) (n c owner) : (s.writeCust n c owner).Keeps κ := by
  unfold State.writeCust
  extract_lets c'
  exact ((hs.setCust _ _).place _ _ _).askClose

theorem State.Keeps.askRaise {s : State} (hs : s.Keeps κ) (n owner) : (s.askRaise n owner).Keeps κ := by
  unfold State.askRaise
  extract_lets c t _
  have ht : t.Keeps κ := hs.writeCust _ _ _
  exact .ite (hs.setCust _ _) (.ite (hs.setCust _ _) (ht.setCust _ _))

theorem State.Keeps.settleCustody {s : State} (hs : s.Keeps κ) : s.settleCustody.Keeps κ := by
  unfold State.settleCustody
  refine hs.foldl (fun t ht n => ?_) _
  extract_lets c
  split
  · split
    · exact ht
    · extract_lets t1
      have ht1 : t1.Keeps κ := (ht.setCust _ _).count _ _ _
      exact .ite (ht1.askRaise _ _) ht1
  · exact .ite (ht.askRaise _ _) ht

theorem State.Keeps.assignIndex {s : State} (hs : s.Keeps κ) (n) : (s.assignIndex n).2.Keeps κ := by
  unfold State.assignIndex
  extract_lets c i s1 s2 auto s3
  have hs1 : s1.Keeps κ := hs.setCust _ _
  have hs2 : s2.Keeps κ := .ite (hs1.kvEvent _) hs1
  have hs3 : s3.Keeps κ := .ite (hs2.askRaise _ _) hs2
  exact .ite (hs3.count _ _ _) hs3

theorem State.Keeps.loseBbk {s : State} (hs : s.Keeps κ) : s.loseBbk.Keeps κ := by
  unfold State.loseBbk
  extract_lets s1 _ _
  have hs1 : s1.Keeps κ := by
    unfold s1
    refine hs.foldl (fun t ht i => ?_) _
    extract_lets _ u _
    have hu : u.Keeps κ := ht.setKey _ _
    exact hu.keep
  exact (hs1.keep.setFlag _ _ _).setAnchor _

theorem State.Keeps.drawBbk {s : State} (hs : s.Keeps κ) : s.drawBbk.Keeps κ := by
  unfold State.drawBbk
  split
  · exact hs
  · split
    · rename_i s1 e
      have hs1 : s1.Keeps κ := (hs.draw _).of_snd e
      exact hs1.keep.setFlag _ _ _

theorem State.Keeps.eraseSession {s : State} (hs : s.Keeps κ) : s.eraseSession.Keeps κ := by
  unfold State.eraseSession
  extract_lets s1
  have hs1 : s1.Keeps κ := hs.removeKeys _
  split
  · rename_i t1 e
    have ht1 : t1.Keeps κ := (hs1.draw _).of_snd e
    exact ht1.keep

/-! ### The functions of Machine/Time -/

theorem State.Keeps.setSlew {s : State} (hs : s.Keeps κ) (x1) : (s.setSlew x1).Keeps κ := by
  unfold State.setSlew
  exact (hs.keepClocks.setF _ _ _).setFlag _ _ _

theorem State.Keeps.addSub {s : State} (hs : s.Keeps κ) (d) : (s.addSub d).Keeps κ := by
  cases κ with
  | inv =>
    obtain ⟨hregs, -, hkeeper⟩ := hs
    exact ⟨hregs, ⟨Nat.mod_lt _ (by norm_num), Nat.mod_lt _ (by norm_num), Nat.mod_lt _ (by norm_num)⟩, hkeeper⟩
  | held m => exact hs

theorem State.Keeps.timeTick {s : State} (hs : s.Keeps κ) : s.timeTick.Keeps κ := by
  unfold State.timeTick
  extract_lets s1 s2
  have hs1 : s1.Keeps κ := .ite (hs.addSub _) hs
  have hs2 : s2.Keeps κ := .ite hs1 (hs1.setSlew _)
  exact hs2.keep

theorem State.Keeps.keeperTick {s : State} (hs : s.Keeps κ) : s.keeperTick.Keeps κ := by
  cases κ with
  | inv =>
    obtain ⟨hregs, hcounter, -⟩ := hs
    exact ⟨hregs, hcounter, Nat.mod_lt _ (by norm_num), Nat.mod_lt _ (by norm_num), Nat.mod_lt _ (by norm_num)⟩
  | held m => exact hs

theorem State.Keeps.corrections {s : State} (hs : s.Keeps κ) : s.corrections.Keeps κ := by
  unfold State.corrections
  extract_lets s1
  have hs1 : s1.Keeps κ := hs.foldl (fun _ ht _ => ht.count _ _ _) _
  exact hs1.keep

theorem State.Keeps.idle {s : State} (hs : s.Keeps κ) : s.idle.Keeps κ := by
  unfold State.idle
  exact .ite hs.keeperTick (.ite hs.keep hs.timeTick.corrections)

theorem State.Keeps.setGrade {s : State} (hs : s.Keeps κ) (g) : (s.setGrade g).Keeps κ := hs.setF _ _ _

theorem State.Keeps.stepTo {s : State} (hs : s.Keeps κ) (t cause) : (s.stepTo t cause).Keeps κ := by
  unfold State.stepTo
  extract_lets before g s1
  have hs1 : s1.Keeps κ := (((hs.loadNanos _).setSlew _).count _ _ _).setGrade _
  exact (hs1.setF _ _ _).journal _ _

theorem State.Keeps.firstTime {s : State} (hs : s.Keeps κ) (t) : (s.firstTime t).Keeps κ := by
  unfold State.firstTime
  extract_lets fl
  exact ((hs.loadNanos _).setFlag _ _ _).setGrade _

theorem State.Keeps.setFreq {s : State} (hs : s.Keeps κ) (f) : (s.setFreq f).Keeps κ := by
  unfold State.setFreq
  extract_lets b pinned s1
  have hs1 : s1.Keeps κ := (hs.setF _ _ _).setFlag _ _ _
  exact .ite (hs1.count _ _ _) hs1

theorem State.Keeps.tryLock {s : State} (hs : s.Keeps κ) : s.tryLock.Keeps κ := by
  unfold State.tryLock
  exact .ite (.ite (.ite (.ite hs (hs.raiseErr _ _ _ _)) ((hs.keepClocks.setGrade _).recovered _)) (.ite hs (hs.keepClocks.setGrade _))) hs

theorem State.Keeps.measure {s : State} (hs : s.Keeps κ) (theta cause) : (s.measure theta cause).Keeps κ := by
  unfold State.measure
  extract_lets out _ sat good s1 s2
  have hs1 : s1.Keeps κ := (hs.keepClocks.setF _ _ _).setF _ _ _
  have hs2 : s2.Keeps κ := .ite ((hs1.setSlew _).setFlag _ _ _) (.ite ((hs1.stepTo _ _).setFlag _ _ _) ((hs1.setFreq _).setSlew _))
  exact .ite hs.keepClocks hs2.tryLock

theorem State.Keeps.sourceLost {s : State} (hs : s.Keeps κ) : s.sourceLost.Keeps κ := by
  unfold State.sourceLost
  extract_lets g s1 s2 _ s3
  have hs1 : s1.Keeps κ := (hs.count _ _ _).setF _ _ _
  have hs2 : s2.Keeps κ := .ite (hs1.setGrade _) hs1
  have hs3 : s3.Keeps κ := .ite hs2.keepClocks hs2
  exact hs3.raiseErr _ _ _ _

theorem State.Keeps.applyFloor {s : State} (hs : s.Keeps κ) (t) : (s.applyFloor t).Keeps κ := by
  unfold State.applyFloor
  extract_lets _ s1 s2 _
  have hs1 : s1.Keeps κ := hs.keepClocks
  have hs2 : s2.Keeps κ := hs1.stepTo _ _
  exact .ite hs2.keepClocks hs1

theorem State.Keeps.copyToKeeper {s : State} (hs : s.Keeps κ) :
    ({ s with tim := { s.tim with keeperSec := s.tim.sec, keeperNs := s.tim.ns, keeperSub := s.tim.sub, onKeeper := true } } : State).Keeps κ := by
  cases κ with
  | inv =>
    obtain ⟨hregs, htime, -⟩ := hs
    exact ⟨hregs, htime, htime⟩
  | held m => exact hs

theorem State.Keeps.toKeeper {s : State} (hs : s.Keeps κ) : s.toKeeper.Keeps κ := by
  unfold State.toKeeper
  extract_lets _ s1 _
  have hs1 : s1.Keeps κ := hs.copyToKeeper.setSlew _
  exact .ite ((hs1.keepClocks.setGrade _).setF _ _ _) hs1

theorem execPpsEdge_keeps {s0 : State} (hs0 : s0.Keeps κ) : OutKeeps κ (execPpsEdge s0) := by
  unfold execPpsEdge
  refine .clocked hs0 fun s hs => ?_
  refine .ite (.next hs) ?_
  extract_lets tod sec
  clear_value sec
  cases sec with
  | none => exact .next hs
  | some x =>
    have hs1 : (({ s with tim := { s.tim with lastPps := some x } } : State).setFlag .TIM_TOD_NEXT_VALID 0 false).Keeps κ :=
      State.Keeps.setFlag hs.keepClocks _ _ _
    exact .ite (.next (hs1.measure _ _)) (.ite (.next (hs1.firstTime _)) (.next hs1))

theorem execPtmExchangeComplete_keeps {s0 : State} (hs0 : s0.Keeps κ) (master mid t1) : OutKeeps κ (execPtmExchangeComplete master mid t1 s0) := by
  unfold execPtmExchangeComplete
  refine .clocked hs0 fun s hs => ?_
  extract_lets s1 src
  have hs1 : s1.Keeps κ := hs.setF _ _ _
  exact .ite (.next hs1) (.ite (.next (hs1.measure _ _)) (.next (hs1.firstTime _)))

theorem execPtmIntervalTimer_keeps {s0 : State} (hs0 : s0.Keeps κ) : OutKeeps κ (execPtmIntervalTimer s0) :=
  .clocked hs0 fun _ hs => .ite (.next (hs.say _)) (.next hs)

theorem execRef10mMeasurement_keeps {s0 : State} (hs0 : s0.Keeps κ) (f) : OutKeeps κ (execRef10mMeasurement f s0) :=
  .clocked hs0 fun _ hs => .ite (.next (hs.setFreq _)) (.next hs)

theorem execRef10mValidityChange_keeps {s0 : State} (hs0 : s0.Keeps κ) (ok) : OutKeeps κ (execRef10mValidityChange ok s0) :=
  .clocked hs0 fun _ hs => .next (hs.setFlag _ _ _)

theorem execSlewComplete_keeps {s0 : State} (hs0 : s0.Keeps κ) : OutKeeps κ (execSlewComplete s0) := by
  unfold execSlewComplete
  refine .clocked hs0 fun s hs => ?_
  split
  · exact .next hs
  · extract_lets ns d s1
    have hs1 : s1.Keeps κ := (hs.addSub _).setSlew _
    exact .next hs1.keep.tryLock

theorem execTimSlewRateWrite_keeps {s0 : State} (hs0 : s0.Keeps κ) (v) : OutKeeps κ (execTimSlewRateWrite v s0) := .mmio hs0 fun _ hs => .next (hs.setF _ _ _)

theorem execTimeSet_keeps {s0 : State} (hs0 : s0.Keeps κ) (hκ : κ = .inv ∨ s0.Serves) (sec) :
    OutKeeps (κ.setHeld .TIM_SET_SEC 0 0) (execTimeSet sec s0) := by
  unfold execTimeSet
  refine .mmioHeld hs0 hκ fun u hu => ?_
  extract_lets s ns t _ s1 g s2 s3
  have hs : s.Keeps (κ.setHeld .TIM_SET_SEC 0 0) := hu.setHeld _ _ _
  have hs1 : s1.Keeps (κ.setHeld .TIM_SET_SEC 0 0) := hs.keepClocks
  have hs2 : s2.Keeps (κ.setHeld .TIM_SET_SEC 0 0) := hs1.firstTime _
  have hs3 : s3.Keeps (κ.setHeld .TIM_SET_SEC 0 0) := .ite (hs2.setSlew _) hs2
  exact .ite (.next hs) (.ite (.ite (.next (hs1.stepTo _ _)) (.next (hs1.setSlew _))) (.next (hs3.journal _ _)))

theorem execTimeSourceLoss_keeps {s0 : State} (hs0 : s0.Keeps κ) : OutKeeps κ (execTimeSourceLoss s0) :=
  .clocked hs0 fun _ hs => .ite (.next hs.sourceLost) (.next hs)

theorem execHoldoverLimitExpiry_keeps {s0 : State} (hs0 : s0.Keeps κ) : OutKeeps κ (execHoldoverLimitExpiry s0) :=
  .clocked hs0 fun _ hs => .ite (.next (hs.setGrade _)) (.next hs)

theorem execTimNowRead_keeps {s0 : State} (hs0 : s0.Keeps κ) : OutKeeps κ (execTimNowRead s0) :=
  .mmio hs0 fun _ hs => .next ((((hs.setF _ _ _).setF _ _ _).setF _ _ _).say _)

theorem execPpsOutPulse_keeps {s0 : State} (hs0 : s0.Keeps κ) : OutKeeps κ (execPpsOutPulse s0) := by
  unfold execPpsOutPulse
  exact .clocked hs0 fun _ hs => .ite (.next (hs.keepClocks.say _)) (.next hs)

theorem execAoTrimMeasurement_keeps {s0 : State} (hs0 : s0.Keeps κ) (ppb) : OutKeeps κ (execAoTrimMeasurement ppb s0) :=
  .clocked hs0 fun _ hs => .ite (.next hs) (.next (hs.setF _ _ _))

/-! ### The functions of Machine/Queue -/

theorem State.Keeps.updJob {s : State} (hs : s.Keeps κ) (q i f) : (s.updJob q i f).Keeps κ := hs.keep rfl rfl rfl

theorem State.Keeps.evrHeadWrite {s : State} (hs : s.Keeps κ) (sl e) : (s.evrHeadWrite sl e).Keeps κ := hs.hostWrite _ _ _ _

theorem State.Keeps.evrMessage {s : State} (hs : s.Keeps κ) (sl e) : (s.evrMessage sl e).Keeps κ := (hs.setRing _ _).sliceVector _ _

theorem State.Keeps.evrCoalesce {s : State} (hs : s.Keeps κ) (sl e) : (s.evrCoalesce sl e).Keeps κ := by
  unfold State.evrCoalesce
  extract_lets x
  exact .ite (hs.evrMessage _ _) hs

theorem State.Keeps.loseEvent {s : State} (hs : s.Keeps κ) (e) : (s.loseEvent e).Keeps κ := (hs.count _ _ _).setRing _ _

theorem State.Keeps.eventEntry {s : State} (hs : s.Keeps κ) (g sl q reason) : (s.eventEntry g sl q reason).2.Keeps κ := by
  unfold State.eventEntry
  extract_lets lr e first s1 _ s2 p t1 wrap x s2_1
  have hs1 : s1.Keeps κ := (hs.setFlag _ _ _).loseEvent _
  have hs2 : s2.Keeps κ := (hs1.setQueue _ _).evrHeadWrite _ _
  have ht1 : t1.Keeps κ := hs.hostWrite _ _ _ _
  have hs2_1 : s2_1.Keeps κ := (ht1.setF _ _ _).setRing _ _
  split
  · exact hs.count _ _ _
  · split
    · exact hs.loseEvent _
    · split
      · exact .ite (hs2.evrMessage _ _) hs2
      · exact hs2_1

theorem State.Keeps.postEventBy {s : State} (hs : s.Keeps κ) (g sl q reason) : (s.postEventBy g sl q reason).Keeps κ := by
  unfold State.postEventBy
  split
  · rename_i s1 e
    have hs1 : s1.Keeps κ := (hs.eventEntry _ _ _ _).of_snd e
    exact hs1
  · rename_i s1 e
    have hs1 : s1.Keeps κ := (hs.eventEntry _ _ _ _).of_snd e
    exact (hs1.evrHeadWrite _ _).evrCoalesce _ _

theorem State.Keeps.postEvent {s : State} (hs : s.Keeps κ) (sl q reason) : (s.postEvent sl q reason).Keeps κ := hs.postEventBy _ _ _ _

theorem State.Keeps.catchUp {s : State} (hs : s.Keeps κ) (sl e l) : (s.catchUp sl e l).Keeps κ := by
  induction l generalizing s with
  | nil => exact hs
  | cons q l ih => exact .ite (ih ((hs.setQueue _ _).postEvent _ _ _)) (ih hs)

theorem State.Keeps.headWrite {s : State} (hs : s.Keeps κ) (sl q) : (s.headWrite sl q).Keeps κ := hs.hostWrite _ _ _ _

theorem State.Keeps.passHead {s : State} (hs : s.Keeps κ) (q tag) : (s.passHead q tag).Keeps κ := by
  unfold State.passHead
  extract_lets h wrap s1 s2 _
  have hs1 : s1.Keeps κ := (hs.setF _ _ _).setF _ _ _
  have hs2 : s2.Keeps κ := .ite (hs1.setF _ _ _) hs1
  exact hs2.setQueue _ _

theorem State.Keeps.headEvent {s : State} (hs : s.Keeps κ) (g sl q irq) : (s.headEvent g sl q irq).Keeps κ := .ite (hs.postEventBy _ _ _ _) hs

theorem State.Keeps.advance {s : State} (hs : s.Keeps κ) (q n) : (s.advance q n).2.2.Keeps κ := by
  induction n generalizing s with
  | zero => exact hs
  | succ n ih =>
    unfold State.advance
    split
    · split
      · exact ih (hs.keep.passHead _ _)
      · exact hs
    · exact hs

theorem State.Keeps.drained {s : State} (hs : s.Keeps κ) (q) : (s.drained q).Keeps κ := .ite ((hs.setF _ _ _).postEvent _ _ _) hs

theorem State.Keeps.sliceDrained {s : State} (hs : s.Keeps κ) (sl) : (s.sliceDrained sl).Keeps κ := .ite (hs.setF _ _ _) hs

theorem State.Keeps.moveHead {s : State} (hs : s.Keeps κ) (q) : (s.moveHead q).Keeps κ := by
  unfold State.moveHead
  extract_lets sl r
  have hr : r.2.2.Keeps κ := hs.advance _ _
  split
  · exact (((hr.headWrite _ _).headEvent _ _ _ _).drained _).sliceDrained _
  · exact (hs.drained _).sliceDrained _

theorem State.Keeps.scMessage {s : State} (hs : s.Keeps κ) (c) : (s.scMessage c).Keeps κ := by
  unfold State.scMessage
  extract_lets x h
  exact .ite (hs.setChan _ _) ((hs.setChan _ _).sliceVector _ _)

theorem State.Keeps.scPost {s : State} (hs : s.Keeps κ) (c r) : (s.scPost c r).Keeps κ := by
  unfold State.scPost
  extract_lets p x n buf tag s1 s2 s3 s4 s5
  have hs1 : s1.Keeps κ := .ite (hs.sendWrite _ _ _ _) hs
  have hs2 : s2.Keeps κ := hs1.sendWrite _ _ _ _
  have hs3 : s3.Keeps κ := hs2.setChan _ _
  have hs4 : s4.Keeps κ := (hs3.setF _ _ _).setF _ _ _
  have hs5 : s5.Keeps κ := .ite (hs4.count _ _ _) hs4
  exact hs5.scMessage _

theorem State.Keeps.repost {s : State} (hs : s.Keeps κ) (r atOnce) : (s.repost r atOnce).Keeps κ := by
  unfold State.repost
  exact .ite ((hs.count _ _ _).scAsk _) hs.keep

theorem State.Keeps.scTake {s : State} (hs : s.Keeps κ) (c tag) : (s.scTake c tag).2.Keeps κ := by
  unfold State.scTake
  extract_lets x
  split
  · exact hs
  · exact (hs.setChan _ _).setF _ _ _

/-! ### The functions of Machine/Slices -/

theorem State.Keeps.cfgOk {s : State} (hs : s.Keeps κ) (sl) : (s.cfgOk sl).Keeps κ := hs.setF _ _ _

theorem State.Keeps.cfgRefuse {s : State} (hs : s.Keeps κ) (sl code) : (s.cfgRefuse sl code).Keeps κ := (hs.setF _ _ _).count _ _ _

theorem execSliceEnable_keeps {s0 : State} (hs0 : s0.Keeps κ) (sl) : OutKeeps κ (execSliceEnable sl s0) :=
  .mmio hs0 fun _ hs => .ite (.next (hs.cfgRefuse _ _)) (.ite (.next (hs.cfgOk _)) (.ite (.next (hs.cfgRefuse _ _)) (.ite (.next (hs.cfgRefuse _ _)) (.ite (.next (hs.cfgRefuse _ _)) (.next (((hs.setFlag _ _ _).setF _ _ _).cfgOk _))))))

theorem execSliceDisable_keeps {s0 : State} (hs0 : s0.Keeps κ) (sl) : OutKeeps κ (execSliceDisable sl s0) :=
  .mmio hs0 fun _ hs => .ite (.next (hs.cfgRefuse _ _)) (.ite (.next (((hs.setFlag _ _ _).setF _ _ _).cfgOk _)) (.next (hs.cfgRefuse _ _)))

theorem State.Keeps.dropPassed {s : State} (hs : s.Keeps κ) (q) : (s.dropPassed q).Keeps κ := by
  unfold State.dropPassed
  extract_lets x
  exact .ite (hs.setQueue _ _) hs

theorem execSlicePause_keeps {s0 : State} (hs0 : s0.Keeps κ) (sl) : OutKeeps κ (execSlicePause sl s0) := by
  unfold execSlicePause
  refine .mmio hs0 fun s hs => ?_
  split
  · exact .next (hs.cfgRefuse _ _)
  · split
    · exact .next (hs.cfgRefuse _ _)
    · extract_lets s1 s2
      have hs1 : s1.Keeps κ := (hs.setFlag _ _ _).cfgOk _
      have hs2 : s2.Keeps κ := .ite (hs1.setF _ _ _) hs1
      exact .next ((hs2.foldl (fun _ ht _ => ht.dropPassed _) _).sliceDrained _)

theorem execSliceUnpause_keeps {s0 : State} (hs0 : s0.Keeps κ) (sl) : OutKeeps κ (execSliceUnpause sl s0) := by
  unfold execSliceUnpause
  refine .mmio hs0 fun s hs => ?_
  split
  · exact .next (hs.cfgRefuse _ _)
  · extract_lets st s1
    have hs1 : s1.Keeps κ := (hs.setFlag _ _ _).cfgOk _
    exact .ite (.next (hs.cfgRefuse _ _)) (.next (.ite (hs1.setF _ _ _) hs1))

theorem execSlicePasidWrite_keeps {s0 : State} (hs0 : s0.Keeps κ) (sl v) : OutKeeps κ (execSlicePasidWrite sl v s0) := by
  unfold execSlicePasidWrite
  refine .mmio hs0 fun s hs => ?_
  extract_lets valid p s1
  have hs1 : s1.Keeps κ := ((hs.setFlag _ _ _).setF _ _ _).cfgOk _
  exact .ite (.next (hs.cfgRefuse _ _)) (.ite (.next (hs.cfgRefuse _ _)) (.next (hs1.setFlag _ _ _)))

theorem execPasidPendingClear_keeps {s0 : State} (hs0 : s0.Keeps κ) (sl) : OutKeeps κ (execPasidPendingClear sl s0) :=
  .clocked hs0 fun _ hs => .ite (.next hs) (.next (hs.setFlag _ _ _))

theorem execSliceQueuesWrite_keeps {s0 : State} (hs0 : s0.Keeps κ) (sl v) : OutKeeps κ (execSliceQueuesWrite sl v s0) := by
  unfold execSliceQueuesWrite
  refine .mmio hs0 fun s hs => ?_
  extract_lets n a
  exact .ite (.next (hs.cfgRefuse _ _)) (.ite (.next (hs.cfgRefuse _ _)) (.ite (.next (hs.cfgRefuse _ _)) (.next (((hs.setF _ _ _).setF _ _ _).cfgOk _))))

theorem State.Keeps.dropPba {s : State} (hs : s.Keeps κ) (a n b m) : (s.dropPba a n b m).Keeps κ := hs.foldl (fun _ ht _ => .ite ht (.ite (ht.setPba _ _) ht)) _

theorem execSliceGrantWrite_keeps {s0 : State} (hs0 : s0.Keeps κ) (g sl v) : OutKeeps κ (execSliceGrantWrite g sl v s0) := by
  unfold execSliceGrantWrite
  refine .mmio hs0 fun s hs => ?_
  split
  · extract_lets n a
    exact .ite (.next (hs.cfgRefuse _ _)) (.ite (.next (hs.cfgRefuse _ _)) (.next ((((hs.dropPba _ _ _ _).setF _ _ _).setF _ _ _).cfgOk _)))
  · extract_lets n a
    exact .ite (.next (hs.cfgRefuse _ _)) (.ite (.next (hs.cfgRefuse _ _)) (.next (((hs.setF _ _ _).setF _ _ _).cfgOk _)))
  · exact .next (((((hs.setF _ _ _).setF _ _ _).setF _ _ _).setF _ _ _).cfgOk _)
  · exact .ite (.next (hs.cfgRefuse _ _)) (.next ((hs.setF _ _ _).cfgOk _))
  · exact .next ((hs.setF _ _ _).cfgOk _)
  · exact .ite (.next (hs.cfgRefuse _ _)) (.next ((hs.setF _ _ _).cfgOk _))

theorem State.Keeps.setMbxPending {s : State} (hs : s.Keeps κ) (sl b) : (s.setMbxPending sl b).Keeps κ := hs.setF _ _ _

theorem execT2mSend_keeps {s0 : State} (hs0 : s0.Keeps κ) (sl) : OutKeeps κ (execT2mSend sl s0) :=
  .mmio hs0 fun _ hs => .ite (.next hs) (.ite (.next (hs.setFlag _ _ _)) (.next ((((hs.setFlag _ _ _).setFlag _ _ _).setMbxPending _ _).blockVector _)))

theorem execT2mAck_keeps {s0 : State} (hs0 : s0.Keeps κ) (sl) : OutKeeps κ (execT2mAck sl s0) :=
  .mmio hs0 fun _ hs => .next ((((hs.setFlag _ _ _).setFlag _ _ _).setMbxPending _ _).cfgOk _)

theorem execM2tSend_keeps {s0 : State} (hs0 : s0.Keeps κ) (sl) : OutKeeps κ (execM2tSend sl s0) := by
  unfold execM2tSend
  refine .mmio hs0 fun s hs => ?_
  split
  · exact .next (hs.cfgOk _)
  · extract_lets s1
    have hs1 : s1.Keeps κ := (hs.setFlag _ _ _).cfgOk _
    exact .next (.ite (hs1.sliceVector _ _) hs1)

theorem execM2tAck_keeps {s0 : State} (hs0 : s0.Keeps κ) (sl) : OutKeeps κ (execM2tAck sl s0) :=
  .mmio hs0 fun _ hs => .ite (.next hs) (.next (hs.setFlag _ _ _))

theorem execMailboxWrite_keeps {s0 : State} (hs0 : s0.Keeps κ) (sl tenant off d) : OutKeeps κ (execMailboxWrite sl tenant off d s0) :=
  .mmio hs0 fun _ hs => .ite (.next (hs.count _ _ _)) (.ite (.ite (.next hs) (.ite (.next (hs.count _ _ _)) (.next (hs.setSlice _ _)))) (.ite (.next (hs.count _ _ _)) (.next (hs.setSlice _ _))))

theorem execDplLogEnable_keeps {s0 : State} (hs0 : s0.Keeps κ) (sl en) : OutKeeps κ (execDplLogEnable sl en s0) := by
  unfold execDplLogEnable
  refine .mmio hs0 fun s hs => ?_
  split
  · exact .next (hs.cfgRefuse _ _)
  · extract_lets s1 _
    have hs1 : s1.Keeps κ := (hs.setFlag _ _ _).cfgOk _
    exact .ite (.next ((hs1.setSlice _ _).setFlag _ _ _)) (.next hs1)

theorem execNewRound_keeps {s0 : State} (hs0 : s0.Keeps κ) (sl) : OutKeeps κ (execNewRound sl s0) := by
  unfold execNewRound
  refine .mmio hs0 fun s hs => ?_
  split
  · exact .next (hs.cfgRefuse _ _)
  · extract_lets x s1 _
    have hs1 : s1.Keeps κ := hs.dplPut _ _
    exact .next (((hs1.setSlice _ _).setFlag _ _ _).cfgOk _)

/-! ### The functions of Machine/Rings -/

theorem State.Keeps.qcPlain {s : State} (hs : s.Keeps κ) (q v) : (s.qcPlain q v).Keeps κ := (((hs.setF _ _ _).setF _ _ _).setF _ _ _).setF _ _ _

theorem execQueueEnable_keeps {s0 : State} (hs0 : s0.Keeps κ) (q v) : OutKeeps κ (execQueueEnable q v s0) := by
  unfold execQueueEnable
  refine .mmio hs0 fun s hs => ?_
  extract_lets s1 k ok _ s2
  have hs1 : s1.Keeps κ := hs.qcPlain _ _
  have hs2 : s2.Keeps κ := ((hs1.setFlag _ _ _).setF _ _ _).setQueue _ _
  exact .ite (.next hs1) (.ite (.next (hs1.count _ _ _)) (.next ((hs2.headWrite _ _).headEvent _ _ _ _)))

theorem State.Keeps.dropFrom {s : State} (hs : s.Keeps κ) (q i) : (s.dropFrom q i).Keeps κ := by
  unfold State.dropFrom
  extract_lets n h _
  exact hs.keep.setQueue _ _

theorem execQueueDisable_keeps {s0 : State} (hs0 : s0.Keeps κ) (q v) : OutKeeps κ (execQueueDisable q v s0) := by
  unfold execQueueDisable
  refine .mmio hs0 fun s hs => ?_
  extract_lets s1 s2 s3
  have hs1 : s1.Keeps κ := hs.qcPlain _ _
  have hs2 : s2.Keeps κ := by
    unfold s2
    split
    · exact hs1.dropFrom _ _
    · exact hs1
  have hs3 : s3.Keeps κ := ((hs2.setFlag _ _ _).setF _ _ _).setFlag _ _ _
  exact .ite (.next hs1) (.next (((hs3.dropPassed _).drained _).sliceDrained _))

theorem execEvrEnable_keeps {s0 : State} (hs0 : s0.Keeps κ) (e v) : OutKeeps κ (execEvrEnable e v s0) := by
  unfold execEvrEnable
  refine .mmio hs0 fun s hs => ?_
  extract_lets s1 k
  have hs1 : s1.Keeps κ := (((hs.setF _ _ _).setF _ _ _).setF _ _ _).setF _ _ _
  exact .ite (.next ((hs1.setFlag _ _ _).evrCoalesce _ _)) (.next (hs1.count _ _ _))

theorem execEvrConsWrite_keeps {s0 : State} (hs0 : s0.Keeps κ) (e v) : OutKeeps κ (execEvrConsWrite e v s0) := by
  unfold execEvrConsWrite
  refine .mmio hs0 fun s hs => ?_
  extract_lets c n old
  exact .ite (.next (hs.count _ _ _)) (.next (hs.setF _ _ _))

theorem execEvrOverflowClear_keeps {s0 : State} (hs0 : s0.Keeps κ) (e) : OutKeeps κ (execEvrOverflowClear e s0) := by
  unfold execEvrOverflowClear
  refine .mmio hs0 fun s hs => ?_
  split
  · exact .next hs
  · extract_lets sl s1
    have hs1 : s1.Keeps κ := hs.setFlag _ _ _
    exact .next (hs1.catchUp _ _ _)

theorem execCoalTimer_keeps {s0 : State} (hs0 : s0.Keeps κ) (e) : OutKeeps κ (execCoalTimer e s0) :=
  .clocked hs0 fun _ hs => .ite (.next (hs.evrMessage _ _)) (.next hs)

theorem State.Keeps.sendLtr {s : State} (hs : s.Keeps κ) (ns) : (s.sendLtr ns).Keeps κ := by
  unfold State.sendLtr
  extract_lets c _
  exact .ite (hs.keep.say _) hs

theorem State.Keeps.ltrBusy {s : State} (hs : s.Keeps κ) : s.ltrBusy.Keeps κ := .ite (hs.sendLtr _) hs

theorem State.Keeps.endMiss {s : State} (hs : s.Keeps κ) (sl q) : (s.endMiss sl q).Keeps κ := by
  unfold State.endMiss
  extract_lets _ s1
  have hs1 : s1.Keeps κ := hs.setQueue _ _
  split
  · exact hs1
  · exact .ite hs1 (((hs1.updJob _ _ _).setFlag _ _ _).hostRead _ _ _)

theorem execDoorbellWrite_keeps {s0 : State} (hs0 : s0.Keeps κ) (sl i v) : OutKeeps κ (execDoorbellWrite sl i v s0) := by
  unfold execDoorbellWrite
  refine .mmio hs0 fun s hs => ?_
  extract_lets x q t n h old s1
  have hs1 : s1.Keeps κ := .ite hs (hs.ltrBusy.setF _ _ _)
  exact .ite (.next (hs.count _ _ _)) (.ite (.next (hs.count _ _ _)) (.next (.ite (hs1.endMiss _ _) hs1)))

theorem State.Keeps.fetchOne {s : State} (hs : s.Keeps κ) (q rd) : (s.fetchOne q rd).Keeps κ := by
  unfold State.fetchOne
  extract_lets x sl s1 s2
  have hs1 : s1.Keeps κ := .ite hs (hs.count _ _ _)
  have hs2 : s2.Keeps κ := hs1.keep
  exact hs2.setQueue _ _

theorem State.Keeps.fetchRun {s : State} (hs : s.Keeps κ) (q rd n) : (s.fetchRun q rd n).Keeps κ := by
  induction n generalizing s with
  | zero => exact hs
  | succ n ih => exact .ite (ih (hs.fetchOne _ _)) hs

theorem execEntryFetch_keeps {s : State} (hs : s.Keeps κ) (q k) : OutKeeps κ (execEntryFetch q k s) := by
  unfold execEntryFetch
  split
  · exact .next hs
  · extract_lets x n s1 got
    have hs1 : s1.Keeps κ := hs.fetchRun _ _ _
    exact .ite (.next hs) (.next (hs1.say _))

theorem execEntryReceived_keeps {s0 : State} (hs0 : s0.Keeps κ) (q i d) : OutKeeps κ (execEntryReceived q i d s0) := by
  unfold execEntryReceived
  refine .clocked hs0 fun s hs => ?_
  split
  · exact .next hs
  · split
    · exact .next hs
    · split
      · exact .next (hs.updJob _ _ _)
      · split
        · exact .next (((hs.dropFrom _ _).drained _).sliceDrained _)
        · extract_lets n s1 _
          have hs1 : s1.Keeps κ := ((hs.updJob _ _ _).dropFrom _ _).setFlag _ _ _
          exact .next ((hs1.setQueue _ _).sliceDrained _)

theorem execOwnWaitRetry_keeps {s : State} (hs : s.Keeps κ) (q d) : OutKeeps κ (execOwnWaitRetry q d s) := by
  unfold execOwnWaitRetry
  extract_lets x
  split
  · exact .next hs
  · split
    · exact .next hs
    · extract_lets s1
      have hs1 : s1.Keeps κ := hs.hostRead _ _ _
      exact .ite (.next (((hs1.updJob _ _ _).setFlag _ _ _).setQueue _ _)) (.ite (.next (hs1.setQueue _ _)) (.next ((hs1.setQueue _ _).count _ _ _)))

theorem State.Keeps.scPlain {s : State} (hs : s.Keeps κ) (c v) : (s.scPlain c v).Keeps κ := (hs.setF _ _ _).setF _ _ _

theorem execScEnable_keeps {s0 : State} (hs0 : s0.Keeps κ) (c v) : OutKeeps κ (execScEnable c v s0) := by
  unfold execScEnable
  refine .mmio hs0 fun s hs => ?_
  extract_lets s1 k
  have hs1 : s1.Keeps κ := hs.scPlain _ _
  exact .ite (.next (hs1.setFlag _ _ _)) (.next (hs1.count _ _ _))

theorem execScDisable_keeps {s0 : State} (hs0 : s0.Keeps κ) (c v) : OutKeeps κ (execScDisable c v s0) :=
  .mmio hs0 fun _ hs => .next ((hs.scPlain _ _).setFlag _ _ _)

theorem execScPost_keeps {s : State} (hs : s.Keeps κ) : OutKeeps κ (execScPost s) := by
  unfold execScPost
  split
  · exact .next hs
  · split
    · exact .next hs
    · split
      · exact .next hs
      · exact .next (hs.keep.scPost _ _)

theorem execScHoldoffTimer_keeps {s0 : State} (hs0 : s0.Keeps κ) (c) : OutKeeps κ (execScHoldoffTimer c s0) := by
  unfold execScHoldoffTimer
  refine .clocked hs0 fun s hs => ?_
  extract_lets x s1
  have hs1 : s1.Keeps κ := hs.setChan _ _
  exact .ite (.next hs) (.next (.ite (hs1.scMessage _) hs1))

theorem execScSlotTimeout_keeps {s0 : State} (hs0 : s0.Keeps κ) (c tag) : OutKeeps κ (execScSlotTimeout c tag s0) := by
  unfold execScSlotTimeout
  refine .clocked hs0 fun s hs => ?_
  split
  · exact .next hs
  · rename_i s1 e
    have hs1 : s1.Keeps κ := (hs.scTake _ _).of_snd e
    exact .next ((hs1.raiseErr _ _ _ _).repost _ _)

/-! ### The functions of Machine/Commit -/

theorem State.Keeps.writeFrags {s : State} (hs : s.Keeps κ) (sl l d) : (s.writeFrags sl l d).Keeps κ := by
  induction l generalizing s d with
  | nil => exact hs
  | cons e l ih => exact ih (hs.hostWrite _ _ _ _) _

theorem State.Keeps.writeW7 {s : State} (hs : s.Keeps κ) (q i) : (s.writeW7 q i).Keeps κ := by
  unfold State.writeW7
  split
  · exact hs
  · exact (hs.hostWrite _ _ _ _).updJob _ _ _

theorem State.Keeps.linkDone {s : State} (hs : s.Keeps κ) (j) : (s.linkDone j).Keeps κ := by
  unfold State.linkDone
  extract_lets x
  exact .ite hs (.ite (hs.setQueue _ _) (.ite (hs.setQueue _ _) (hs.setQueue _ _)))

theorem State.Keeps.writeOutput {s : State} (hs : s.Keeps κ) (j) : (s.writeOutput j).Keeps κ := .ite (hs.writeFrags _ _ _) hs

theorem State.Keeps.commitWrites {s : State} (hs : s.Keeps κ) (j) : (s.commitWrites j).Keeps κ := by
  unfold State.commitWrites
  extract_lets s1 s2
  have hs1 : s1.Keeps κ := hs.writeOutput _
  have hs2 : s2.Keeps κ := by
    unfold s2
    split
    · exact hs1.hostWrite _ _ _ _
    · exact hs1
  exact hs2.writeW7 _ _

theorem execJobCommit_keeps {s : State} (hs : s.Keeps κ) (q i) : OutKeeps κ (execJobCommit q i s) := by
  unfold execJobCommit
  split
  · exact .next hs
  · exact .ite (.next (((hs.commitWrites _).linkDone _).moveHead _)) (.next hs)

/-! ### The functions of Machine/EntryDecode -/

theorem State.Keeps.acceptStamp {s : State} (hs : s.Keeps κ) (j) : (s.acceptStamp j).2.Keeps κ := by
  unfold State.acceptStamp
  extract_lets n
  exact hs.setF _ _ _

theorem State.Keeps.acceptLedger {s : State} (hs : s.Keeps κ) (j room short) : (s.acceptLedger j room short).2.Keeps κ := by
  unfold State.acceptLedger
  extract_lets st
  split
  · rename_i s1 e
    have hs1 : s1.Keeps κ := (hs.takeSeq _).of_snd e
    split
    · rename_i s2 e
      have hs2 : s2.Keeps κ := (hs1.takeTime _ _).of_snd e
      exact hs2.setStream _ _

theorem State.Keeps.settleAccepted {s : State} (hs : s.Keeps κ) (j) : (s.settleAccepted j).Keeps κ := by
  unfold State.settleAccepted
  extract_lets j1 s1 _ s2 _
  have hs1 : s1.Keeps κ := hs.keep.updJob _ _ _
  have hs2 : s2.Keeps κ := hs1.setKey _ _
  exact .ite hs2.keep hs1

theorem State.Keeps.acceptIndex {s : State} (hs : s.Keeps κ) (j) : (s.acceptIndex j).2.Keeps κ := by
  unfold State.acceptIndex
  extract_lets k
  split
  · split
    · split
      · rename_i s1 e
        have hs1 : s1.Keeps κ := (hs.assignIndex _).of_snd e
        exact hs1
    · exact hs
  · exact hs

theorem State.Keeps.holdQueue {s : State} (hs : s.Keeps κ) (q ledger) : (s.holdQueue q ledger).Keeps κ := by
  unfold State.holdQueue
  extract_lets x
  exact .ite (.ite hs ((hs.setQueue _ _).count _ _ _)) (.ite hs ((hs.setQueue _ _).count _ _ _))

theorem State.Keeps.accept {s : State} (hs : s.Keeps κ) (j) : (s.accept j).Keeps κ := by
  unfold State.accept
  extract_lets _ s0
  have hs0 : s0.Keeps κ := hs.setQueue _ _
  clear_value s0
  have hstamp := hs0.acceptStamp j
  generalize s0.acceptStamp j = p at hstamp ⊢
  obtain ⟨j1, s1⟩ := p
  refine .ite (hs.holdQueue _ _) (.ite ?_ ((hstamp.acceptIndex j1).settleAccepted _))
  cases s.ledgerRoom j with
  | none => exact hs.holdQueue _ _
  | some room =>
    have hledger := hstamp.acceptLedger j1 room.1 room.2
    dsimp only at hledger ⊢
    generalize s1.acceptLedger j1 room.1 room.2 = p at hledger ⊢
    obtain ⟨j2, s2⟩ := p
    exact (hledger.acceptIndex j2).settleAccepted _

theorem State.Keeps.chainStep {s : State} (hs : s.Keeps κ) (q stitch) : (s.chainStep q stitch).Keeps κ := by
  unfold State.chainStep
  extract_lets x
  exact .ite (hs.setQueue _ _) (hs.setQueue _ _)

theorem State.Keeps.decided {s : State} (hs : s.Keeps κ) (j) : (s.decided j).Keeps κ := by
  unfold State.decided
  split
  · exact .ite hs (hs.chainStep _ _)
  · exact hs

theorem State.Keeps.recordVerdict {s : State} (hs : s.Keeps κ) (j) : (s.recordVerdict j).Keeps κ := (hs.updJob _ _ _).decided _

theorem State.Keeps.readTables {s : State} (hs : s.Keeps κ) (j inT outT) : ∀ x, s.readTables j inT outT = some x → x.2.Keeps κ := by
  intro x e
  unfold State.readTables at e
  extract_lets l at e
  split at e
  · obtain rfl := Option.some.inj e
    exact hs
  · split at e
    · cases e
    · obtain rfl := Option.some.inj e
      exact (hs.foldl (fun _ ht _ => ht.hostRead _ _ _) _).updJob _ _ _

theorem execEntryDecode_keeps {s0 : State} (hs0 : s0.Keeps κ) (q inT outT) : OutKeeps κ (execEntryDecode q inT outT s0) := by
  unfold execEntryDecode
  refine .clocked hs0 fun s hs => ?_
  split
  · exact .next hs
  · rename_i j t e
    obtain ⟨k, -, e⟩ := Option.bind_eq_some_iff.1 e
    have ht : t.Keeps κ := hs.readTables _ _ _ _ e
    split
    · exact .next (ht.recordVerdict _)
    · exact .next ((ht.accept _).decided _)

/-! ### The functions of Machine/Sched -/

theorem State.Keeps.countReserve {s : State} (hs : s.Keeps κ) (k) : (s.countReserve k).Keeps κ := hs.count _ _ _

theorem State.Keeps.takeIn {s : State} (hs : s.Keeps κ) (j) : ∀ x, s.takeIn j = some x → x.2.Keeps κ := by
  intro x e
  unfold State.takeIn at e
  split at e
  · obtain rfl := Option.some.inj e
    exact hs
  · split at e
    · cases e
    · obtain ⟨g, -, rfl⟩ := Option.map_eq_some_iff.1 e
      have hs1 : (if g.2 then s.countReserve 3 else s).Keeps κ := .ite (hs.countReserve _) hs
      exact .ite hs1 (hs1.foldl (fun _ ht _ => ht.hostRead _ _ _) _)

theorem State.Keeps.moreSlots {s : State} (hs : s.Keeps κ) (p j n) : (s.moreSlots p j n).Keeps κ := by
  induction n generalizing s with
  | zero => exact hs
  | succ n ih => exact .ite hs (ih (hs.updJob _ _ _))

theorem State.Keeps.giveSlot {s : State} (hs : s.Keeps κ) (p j reserved) : (s.giveSlot p j reserved).Keeps κ := by
  unfold State.giveSlot
  extract_lets s1 j1 s2
  have hs1 : s1.Keeps κ := .ite (hs.countReserve _) hs
  have hs2 : s2.Keeps κ := hs1.updJob _ _ _
  exact .ite (hs2.moreSlots _ _ _) hs2

theorem State.Keeps.dispatchTo {s : State} (hs : s.Keeps κ) (p j) : ∀ t, s.dispatchTo p j = some t → t.Keeps κ := by
  intro t e
  unfold State.dispatchTo at e
  split at e
  · cases e
  · obtain ⟨x, hx, rfl⟩ := Option.map_eq_some_iff.1 e
    exact (hs.takeIn _ _ hx).giveSlot _ _ _

theorem State.Keeps.setRound {s : State} (hs : s.Keeps κ) (p x2) : (s.setRound p x2).Keeps κ := hs.keep rfl rfl rfl

theorem State.Keeps.charge {s : State} (hs : s.Keeps κ) (p x2 sl cost) : (s.charge p x2 sl cost).Keeps κ := by
  unfold State.charge
  extract_lets d
  exact hs.setRound _ _

theorem State.Keeps.chargeRecord {s : State} (hs : s.Keeps κ) (p sl cost) : (s.chargeRecord p sl cost).Keeps κ := by
  unfold State.chargeRecord
  extract_lets x
  exact hs.setRound _ _

theorem execJobDispatch_keeps {s0 : State} (hs0 : s0.Keeps κ) (p) : OutKeeps κ (execJobDispatch p s0) := by
  unfold execJobDispatch
  refine .clocked hs0 fun s hs => ?_
  split
  · exact .next hs
  · split
    · exact .next (.getD (hs.dispatchTo _ _) hs)
    · split
      · split
        · exact .next hs
        · exact .next (.getD (hs.dispatchTo _ _) hs)
      · split
        · exact .next hs
        · split
          · exact .next hs
          · split
            · exact .next hs
            · rename_i t e
              have ht : t.Keeps κ := hs.dispatchTo _ _ _ e
              exact .next (ht.charge _ _ _ _)

theorem execJobPark_keeps {s0 : State} (hs0 : s0.Keeps κ) (q i) : OutKeeps κ (execJobPark q i s0) := by
  unfold execJobPark
  refine .clocked hs0 fun s hs => ?_
  split
  · exact .next hs
  · exact .ite (.next ((hs.leaveEngine _).updJob _ _ _)) (.next hs)

theorem State.Keeps.takeSlots {s : State} (hs : s.Keeps κ) (j l) : (s.takeSlots j l).2.Keeps κ := by
  induction l generalizing s j with
  | nil => exact hs
  | cons p l ih =>
    unfold State.takeSlots
    split
    · exact hs
    · exact ih (State.Keeps.updJob (.ite (hs.countReserve _) hs) _ _ _) _

theorem execJobResume_keeps {s0 : State} (hs0 : s0.Keeps κ) (q i) : OutKeeps κ (execJobResume q i s0) := by
  unfold execJobResume
  refine .clocked hs0 fun s hs => ?_
  split
  · exact .next hs
  · split
    · exact .next hs
    · split
      · exact .next hs
      · rename_i t e
        have ht : t.Keeps κ := hs.takeIn _ _ e
        split
        · split
          · exact .next hs
          · exact .next ((State.Keeps.ite (ht.countReserve _) ht).updJob _ _ _)
        · extract_lets r
          have hr : r.2.Keeps κ := (ht.updJob _ _ _).takeSlots _ _
          exact .next (.ite (hr.updJob _ _ _) hr)

theorem State.Keeps.endExecution {s : State} (hs : s.Keeps κ) (j) : ∀ t, s.endExecution j = some t → t.Keeps κ := by
  intro t e
  obtain ⟨g, -, rfl⟩ := Option.map_eq_some_iff.1 e
  have hs1 : (if g.2 then s.countReserve 1 else s).Keeps κ := .ite (hs.countReserve _) hs
  exact (hs1.leaveEngine _).updJob _ _ _

theorem execExecutionEnd_keeps {s0 : State} (hs0 : s0.Keeps κ) (q i) : OutKeeps κ (execExecutionEnd q i s0) := by
  unfold execExecutionEnd
  refine .clocked hs0 fun s hs => ?_
  split
  · exact .next hs
  · exact .ite (.next (.getD (hs.endExecution _) hs)) (.next hs)

/-! ### The functions of Machine/Entropy -/

theorem State.Keeps.setCellOk {s : State} (hs : s.Keeps κ) (c b) : (s.setCellOk c b).Keeps κ := hs.setF _ _ _

theorem State.Keeps.recordFail {s : State} (hs : s.Keeps κ) (c test) : (s.recordFail c test).Keeps κ := (hs.setF _ _ _).count _ _ _

theorem State.Keeps.isolate {s : State} (hs : s.Keeps κ) (c test) : (s.isolate c test).Keeps κ := by
  unfold State.isolate
  extract_lets s1 _
  have hs1 : s1.Keeps κ := (hs.recordFail _ _).setCellOk _ _
  exact hs1.keep

theorem State.Keeps.enterDegraded {s : State} (hs : s.Keeps κ) (c) : (s.enterDegraded c).Keeps κ := by
  unfold State.enterDegraded
  extract_lets _ s1
  have hs1 : s1.Keeps κ := hs.keep
  exact (hs1.setF _ _ _).raiseErr _ _ _ _

theorem State.Keeps.settleCells {s : State} (hs : s.Keeps κ) (c) : (s.settleCells c).Keeps κ := by
  unfold State.settleCells
  exact .ite (hs.enterDegraded _) (.ite (hs.keep.setF _ _ _) hs)

theorem State.Keeps.drbgCalls {s : State} (hs : s.Keeps κ) (d n) : (s.drbgCalls d n).Keeps κ := hs.setF _ _ _

theorem State.Keeps.reseed {s : State} (hs : s.Keeps κ) (d) : (s.reseed d).Keeps κ := by
  unfold State.reseed
  extract_lets _ s1
  have hs1 : s1.Keeps κ := hs.keep
  exact (hs1.setF _ _ _).setFlag _ _ _

theorem State.Keeps.stallJob {s : State} (hs : s.Keeps κ) (j) : (s.stallJob j).Keeps κ := .ite hs ((hs.updJob _ _ _).count _ _ _)

theorem State.Keeps.jobDraw {s : State} (hs : s.Keeps κ) (j n) : DrawKeeps κ (s.jobDraw j n) :=
  .ite (.ok ((hs.drbgCalls _ _).draw _)) (.error (hs.stallJob _))

theorem State.Keeps.freshDraw {s : State} (hs : s.Keeps κ) (j n) : DrawKeeps κ (s.freshDraw j n) := by
  unfold State.freshDraw
  extract_lets _ s1
  have hs1 : s1.Keeps κ := hs.keep
  exact .ite (.ok (((hs1.reseed _).drbgCalls _ _).draw _)) (.error (hs.stallJob _))

theorem execCellHealthFail_keeps {s0 : State} (hs0 : s0.Keeps κ) (c test) : OutKeeps κ (execCellHealthFail c test s0) := by
  unfold execCellHealthFail
  refine .clocked hs0 fun s hs => ?_
  split
  · extract_lets s1
    have hs1 : s1.Keeps κ := (hs.isolate _ _).settleCells _
    exact .next (hs1.raiseErr _ _ _ _)
  · exact .next (hs.recordFail _ _)

theorem execCellRetestComplete_keeps {s0 : State} (hs0 : s0.Keeps κ) (c test) : OutKeeps κ (execCellRetestComplete c test s0) := by
  unfold execCellRetestComplete
  refine .clocked hs0 fun s hs => ?_
  split
  · exact .next hs
  · split
    · extract_lets _ s1
      have hs1 : s1.Keeps κ := hs.keep
      exact .next ((hs1.setCellOk _ _).settleCells _)
    · extract_lets s1
      have hs1 : s1.Keeps κ := hs.isolate _ _
      exact .next (hs1.raiseErr _ _ _ _)

theorem execEntCellEnableWrite_keeps {s0 : State} (hs0 : s0.Keeps κ) (v) : OutKeeps κ (execEntCellEnableWrite v s0) := by
  unfold execEntCellEnableWrite
  refine .mmio hs0 fun s hs => ?_
  extract_lets new old s1 s2
  have hs1 : s1.Keeps κ := hs.setF _ _ _
  have hs2 : s2.Keeps κ := hs1.foldl (fun _ ht _ => .ite (ht.keep.setCellOk _ _) (.ite ht.keep ht)) _
  exact .ite (.next (hs.count _ _ _)) (.next (hs2.settleCells _))

theorem execConditionerOutput_keeps {s0 : State} (hs0 : s0.Keeps κ) : OutKeeps κ (execConditionerOutput s0) := by
  unfold execConditionerOutput
  exact .clocked hs0 fun _ hs => .ite (.next hs) (.next (hs.keep.count _ _ _))

theorem execDrbgReseed_keeps {s0 : State} (hs0 : s0.Keeps κ) (d) : OutKeeps κ (execDrbgReseed d s0) := by
  unfold execDrbgReseed
  refine .clocked hs0 fun s hs => ?_
  extract_lets calls stalled first _
  exact .ite (.next hs) (.next (hs.keep.reseed _))

theorem execDrbgStall_keeps {s0 : State} (hs0 : s0.Keeps κ) (d) : OutKeeps κ (execDrbgStall d s0) :=
  .clocked hs0 fun _ hs => .ite (.next ((hs.setFlag _ _ _).count _ _ _)) (.next hs)

theorem State.Keeps.seedString {s : State} (hs : s.Keeps κ) (k) : (s.seedString k).Keeps κ := by
  unfold State.seedString
  split
  · rename_i s1 e
    have hs1 : s1.Keeps κ := ((hs.drbgCalls _ _).draw _).of_snd e
    exact hs1.keep

theorem execStringSeedDelivery_keeps {s0 : State} (hs0 : s0.Keeps κ) (k) : OutKeeps κ (execStringSeedDelivery k s0) := by
  unfold execStringSeedDelivery
  refine .clocked hs0 fun s hs => ?_
  split
  · exact .next hs
  · extract_lets s1
    have hs1 : s1.Keeps κ := hs.seedString _
    exact .next (.ite (hs1.count _ _ _) hs1)

theorem execMaskGenReseedRequest_keeps {s0 : State} (hs0 : s0.Keeps κ) (k) : OutKeeps κ (execMaskGenReseedRequest k s0) := by
  unfold execMaskGenReseedRequest
  exact .clocked hs0 fun _ hs => .ite (.next hs) (.next hs.keep)

theorem execMaskGenDeadline_keeps {s0 : State} (hs0 : s0.Keeps κ) (k) : OutKeeps κ (execMaskGenDeadline k s0) := by
  unfold execMaskGenDeadline
  refine .clocked hs0 fun s hs => ?_
  extract_lets g _
  exact .ite (.next hs) (.next (hs.keep.count _ _ _))

theorem State.Keeps.testCells {s : State} (hs : s.Keeps κ) (fails) : (s.testCells fails).Keeps κ := by
  unfold State.testCells
  extract_lets _ s0
  have hs0 : s0.Keeps κ := hs.keep
  refine hs0.foldl (fun t ht c => ?_) _
  split
  · exact ht.setCellOk _ _
  · split
    · exact ht.isolate _ _
    · exact ht.setCellOk _ _

theorem State.Keeps.raiseCellFails {s : State} (hs : s.Keeps κ) (fails) : (s.raiseCellFails fails).Keeps κ :=
  hs.foldl (fun _ ht _ => .ite (ht.raiseErr _ _ _ _) ht) _

theorem State.Keeps.entReady {s : State} (hs : s.Keeps κ) : s.entReady.Keeps κ := by
  unfold State.entReady
  extract_lets s1
  have hs1 : s1.Keeps κ := hs.foldl (fun _ ht _ => ht.seedString _) _
  split
  · rename_i t1 e
    have ht1 : t1.Keeps κ := ((hs1.drbgCalls _ _).draw _).of_snd e
    extract_lets _ s3
    have hs3 : s3.Keeps κ := ht1.keep
    exact (State.Keeps.ite hs3 ((hs3.drbgCalls _ _).drawBbk)).setFlag _ _ _

theorem execEntStartupTested_keeps {s0 : State} (hs0 : s0.Keeps κ) (fails) : OutKeeps κ (execEntStartupTested fails s0) := by
  unfold execEntStartupTested
  refine .clocked hs0 fun s hs => ?_
  split
  · exact .next hs
  · extract_lets s1 s2
    have hs1 : s1.Keeps κ := hs.testCells _
    have hs2 : s2.Keeps κ := (hs1.count _ _ _).foldl (fun _ ht _ => ht.reseed _) _
    exact .ite (.next ((hs1.enterDegraded _).raiseCellFails _)) (.next ((hs2.entReady.setF _ _ _).raiseCellFails _))

theorem execEntropyWaitTimeout_keeps {s0 : State} (hs0 : s0.Keeps κ) (q i) : OutKeeps κ (execEntropyWaitTimeout q i s0) := by
  unfold execEntropyWaitTimeout
  refine .clocked hs0 fun s hs => ?_
  split
  · exact .next hs
  · exact .ite (.next (((hs.letGo _).updJob _ _ _).count _ _ _)) (.next hs)

theorem execEntQuietTimeExpiry_keeps {s0 : State} (hs0 : s0.Keeps κ) : OutKeeps κ (execEntQuietTimeExpiry s0) := by
  unfold execEntQuietTimeExpiry
  refine .clocked hs0 fun s hs => ?_
  split
  · exact .next hs
  · extract_lets _ s1
    have hs1 : s1.Keeps κ := hs.keep
    exact .ite (.next ((hs1.setF _ _ _).raiseErr _ _ _ _)) (.next (hs1.setF _ _ _))

theorem execEntRestartComplete_keeps {s0 : State} (hs0 : s0.Keeps κ) (fails) : OutKeeps κ (execEntRestartComplete fails s0) := by
  unfold execEntRestartComplete
  refine .clocked hs0 fun s hs => ?_
  split
  · exact .next hs
  · extract_lets s1 s2 _ s2_1 s3
    have hs1 : s1.Keeps κ := hs.testCells _
    have hs2 : s2.Keeps κ := (hs1.count _ _ _).setF _ _ _
    have hs2_1 : s2_1.Keeps κ := (hs1.count _ _ _).foldl (fun _ ht _ => ht.reseed _) _
    have hs3 : s3.Keeps κ := .ite hs2_1 hs2_1.entReady
    exact .ite (.next hs2.keep) (.next ((hs3.setF _ _ _).recovered _))

theorem State.Keeps.clearRefused {s : State} (hs : s.Keeps κ) (blk) : (s.clearRefused blk).Keeps κ := hs.count _ _ _

theorem State.Keeps.entClear {s : State} (hs : s.Keeps κ) (v) : (s.entClear v).Keeps κ := by
  unfold State.entClear
  extract_lets s1 held s2 st _
  have hs1 : s1.Keeps κ := .ite ((hs.setF _ _ _).setF _ _ _) hs
  have hs2 : s2.Keeps κ := .ite (.ite (.ite (hs1.clearRefused _) hs1) (hs1.setF _ _ _)) hs1
  exact .ite (hs2.keep.setF _ _ _) hs2

theorem execEntErrClearRestart_keeps {s0 : State} (hs0 : s0.Keeps κ) (v) : OutKeeps κ (execEntErrClearRestart v s0) :=
  .mmio hs0 fun _ hs => .next (hs.entClear _)

theorem execEntSwDataRead_keeps {s0 : State} (hs0 : s0.Keeps κ) (whole) : OutKeeps κ (execEntSwDataRead whole s0) := by
  unfold execEntSwDataRead
  refine .mmio hs0 fun s hs => ?_
  extract_lets fin
  split
  · refine .next ?_
    unfold fin
    extract_lets t1
    have ht1 : t1.Keeps κ := hs.setF _ _ _
    exact .ite (ht1.say _) (ht1.keep.say _)
  · split
    · refine .next ?_
      unfold fin
      extract_lets t1
      have ht1 : t1.Keeps κ := hs.setF _ _ _
      exact .ite (ht1.say _) (ht1.keep.say _)
    · split
      · rename_i s1 e
        have hs1 : s1.Keeps κ := ((hs.drbgCalls _ _).draw _).of_snd e
        refine .next ?_
        unfold fin
        extract_lets t1
        have ht1 : t1.Keeps κ := hs1.setF _ _ _
        exact .ite (ht1.say _) (ht1.keep.say _)

/-! ### The functions of Machine/Faults -/

theorem State.Keeps.raiseFault {s : State} (hs : s.Keeps κ) (unit cause part place) : (s.raiseFault unit cause part place).Keeps κ := hs.raiseErr _ _ _ _

theorem State.Keeps.backOnline {s : State} (hs : s.Keeps κ) (en on v) : (s.backOnline en on v).Keeps κ := hs.setF _ _ _

theorem State.Keeps.reexec {s : State} (hs : s.Keeps κ) (j avoid) : (s.reexec j avoid).Keeps κ := ((hs.letGo _).count _ _ _).updJob _ _ _

theorem State.Keeps.failJob {s : State} (hs : s.Keeps κ) (j status detail) : (s.failJob j status detail).Keeps κ := (hs.letGo _).updJob _ _ _

theorem State.Keeps.engineFault {s : State} (hs : s.Keeps κ) (j unit cause avoid) : (s.engineFault j unit cause avoid).Keeps κ := by
  unfold State.engineFault
  exact .ite (hs.reexec _ _) (.ite (hs.keep.updJob _ _ _) (hs.failJob _ _ _))

/-! ### The functions of Machine/OpBase -/

theorem State.Keeps.drainJob {s : State} (hs : s.Keeps κ) (q i) : (s.drainJob q i).Keeps κ := hs.foldl (fun _ ht _ => ht.setQuarter _ _ _) _

theorem State.Keeps.streamOutput {s : State} (hs : s.Keeps κ) (q i) : (s.streamOutput q i).Keeps κ := by
  unfold State.streamOutput
  split
  · exact hs
  · exact (hs.writeOutput _).updJob _ _ _

theorem State.Keeps.endJob {s : State} (hs : s.Keeps κ) (j inp r) : (s.endJob j inp r).Keeps κ := ((hs.updJob _ _ _).drainJob _ _).streamOutput _ _

theorem State.Keeps.engineGate {s : State} (hs : s.Keeps κ) (j) : ∀ t, s.engineGate j = some t → t.Keeps κ := by
  intro t e
  unfold State.engineGate at e
  split at e
  · cases e
  · split at e
    · obtain rfl := Option.some.inj e
      exact (hs.raiseFault _ _ _ _).endJob _ _ _
    · split at e
      · obtain rfl := Option.some.inj e
        exact (hs.raiseFault _ _ _ _).endJob _ _ _
      · split at e
        · obtain rfl := Option.some.inj e
          exact ((hs.count _ _ _).raiseFault _ _ _ _).engineFault _ _ _ _
        · cases e

theorem OutKeeps.onJob {s : State} {q i op : Nat} {f : Job → State → State} (hs : s.Keeps κ) (hf : ∀ (j : Job) (t : State), t.Keeps κ → (f j t).Keeps κ) :
    OutKeeps κ (s.onJob q i op f) := by
  unfold State.onJob
  split
  · exact .next hs
  · exact .ite (.next (.getD (hs.engineGate _) (hf _ _ hs))) (.next hs)

theorem State.Keeps.pipeBytes {s : State} (hs : s.Keeps κ) (j n) : (s.pipeBytes j n).Keeps κ := hs.count _ _ _

theorem State.Keeps.createKey {s : State} (hs : s.Keeps κ) (j k m) : (s.createKey j k m).2.Keeps κ := by
  unfold State.createKey
  split
  · rename_i s1 e
    have hs1 : s1.Keeps κ := hs.takeEntry.of_snd e
    exact hs1
  · rename_i s1 e
    have hs1 : s1.Keeps κ := hs.takeEntry.of_snd e
    extract_lets s2
    have hs2 : s2.Keeps κ := hs1.setKey _ _
    exact (hs2.makeHot _).writeKeyRecord _ _

theorem State.Keeps.endWithKey {s : State} (hs : s.Keeps κ) (j inp k m output) : (s.endWithKey j inp k m output).Keeps κ := by
  unfold State.endWithKey
  split
  · exact (hs.count _ _ _).endJob _ _ _
  · split
    · rename_i s1 e
      have hs1 : s1.Keeps κ := (hs.createKey _ _ _).of_snd e
      exact hs1.endJob _ _ _
    · rename_i s1 e
      have hs1 : s1.Keeps κ := (hs.createKey _ _ _).of_snd e
      exact hs1.endJob _ _ _

theorem State.Keeps.deliver {s : State} (hs : s.Keeps κ) (j inp pub secret) : (s.deliver j inp pub secret).Keeps κ := by
  unfold State.deliver
  split
  · exact hs.endJob _ _ _
  · split
    · split
      · exact hs.endWithKey _ _ _ _ _
      · exact hs.endJob _ _ _
    · extract_lets o
      exact hs.endJob _ _ _
    · exact hs.endJob _ _ _

theorem State.Keeps.bgnReject {s : State} (hs : s.Keeps κ) (j status detail) : (s.bgnReject j status detail).Keeps κ :=
  .ite (.ite ((hs.count _ _ _).raiseErr _ _ _ _) (.ite (hs.count _ _ _) hs)) hs

theorem State.Keeps.reject {s : State} (hs : s.Keeps κ) (j inp status detail) : (s.reject j inp status detail).Keeps κ := (hs.bgnReject _ _ _).endJob _ _ _

theorem execNop_keeps {s : State} (hs : s.Keeps κ) (q i) : OutKeeps κ (execNop q i s) := by
  unfold execNop
  split
  · exact .next hs
  · exact .ite (.next ((hs.endJob _ _ _).updJob _ _ _)) (.next hs)

/-! ### The functions of Machine/AsymOps -/

theorem State.Keeps.keygenRun {s : State} (hs : s.Keeps κ) (j) : (s.keygenRun j).Keeps κ := by
  unfold State.keygenRun
  extract_lets s1 n
  have hs1 : s1.Keeps κ := hs.count _ _ _
  exact .ite hs1 ((hs1.keep.count _ _ _).count _ _ _)

theorem execKemKeygen_keeps {s : State} (hs : s.Keeps κ) (q i) : OutKeeps κ (execKemKeygen q i s) := by
  unfold execKemKeygen
  refine .onJob hs fun j t ht => ?_
  split
  · exact ht.stallJob _
  · split
    · rename_i u e
      have hu : u.Keeps κ := (ht.jobDraw _ _).of_error e
      exact hu
    · rename_i u e
      have hu : u.Keeps κ := (ht.jobDraw _ _).of_ok e
      extract_lets p v
      have hv : v.Keeps κ := .ite (hu.keygenRun _) hu
      split
      · exact hu
      · exact hv.endWithKey _ _ _ _ _

theorem State.Keeps.newCustody {s : State} (hs : s.Keeps κ) (j x2) : (s.newCustody j x2).2.Keeps κ := by
  unfold State.newCustody
  extract_lets n r e c _ s1
  have hs1 : s1.Keeps κ := hs.keep
  exact hs1.writeCust _ _ _

theorem execSigKeygen_keeps {s : State} (hs : s.Keeps κ) (q i) : OutKeeps κ (execSigKeygen q i s) := by
  unfold execSigKeygen
  refine .onJob hs fun j t ht => ?_
  split
  · exact ht.stallJob _
  · split
    · exact ht.updJob _ _ _
    · split
      · rename_i u e
        have hu : u.Keeps κ := (ht.jobDraw _ _).of_error e
        exact hu
      · rename_i u e
        have hu : u.Keeps κ := (ht.jobDraw _ _).of_ok e
        extract_lets ps types levels sk pk sk_1
        split
        · exact hu
        · split
          · split
            · exact hu
            · split
              · rename_i s1 e
                have hs1 : s1.Keeps κ := (hu.newCustody _ _).of_snd e
                exact hs1.endWithKey _ _ _ _ _
          · exact hu.endWithKey _ _ _ _ _

theorem execKemEncaps_keeps {s : State} (hs : s.Keeps κ) (q i inp) : OutKeeps κ (execKemEncaps q i inp s) := by
  unfold execKemEncaps
  refine .onJob hs fun j t ht => ?_
  extract_lets ps p f
  split
  · exact ht.reject _ _ _ _
  · split
    · exact ht.stallJob _
    · split
      · rename_i u e
        have hu : u.Keeps κ := (ht.jobDraw _ _).of_error e
        exact hu
      · rename_i u e
        have hu : u.Keeps κ := (ht.jobDraw _ _).of_ok e
        extract_lets r
        exact hu.deliver _ _ _ _

theorem execKemDecaps_keeps {s : State} (hs : s.Keeps κ) (q i inp) : OutKeeps κ (execKemDecaps q i inp s) := by
  unfold execKemDecaps
  refine .onJob hs fun j t ht => ?_
  extract_lets ps sk ct f
  exact .ite (ht.reject _ _ _ _) (.ite (ht.stallJob _) (ht.deliver _ _ _ _))

theorem execKeyAgree_keeps {s : State} (hs : s.Keeps κ) (q i inp) : OutKeeps κ (execKeyAgree q i inp s) := by
  unfold execKeyAgree
  refine .onJob hs fun j t ht => ?_
  extract_lets ps peer f
  exact .ite (ht.reject _ _ _ _) (.ite (ht.reject _ _ _ _) (ht.deliver _ _ _ _))

theorem execHybridKem_keeps {s : State} (hs : s.Keeps κ) (q i inp) : OutKeeps κ (execHybridKem q i inp s) := by
  unfold execHybridKem
  refine .onJob hs fun j t ht => ?_
  extract_lets ps a b ct f f_1
  split
  · exact .ite (ht.reject _ _ _ _) (.ite (ht.stallJob _) (ht.deliver _ _ _ _))
  · split
    · exact ht.reject _ _ _ _
    · split
      · rename_i u e
        have hu : u.Keeps κ := (ht.jobDraw _ _).of_error e
        exact hu
      · rename_i u e
        have hu : u.Keeps κ := (ht.jobDraw _ _).of_ok e
        extract_lets r
        exact hu.deliver _ _ _ _

theorem State.Keeps.rejectionLimit {s : State} (hs : s.Keeps κ) (j) : (s.rejectionLimit j).Keeps κ := by
  unfold State.rejectionLimit
  extract_lets c
  exact (hs.raiseFault _ _ _ _).engineFault _ _ _ _

theorem State.Keeps.signWith {s : State} (hs : s.Keeps κ) (j k g rnd) {fin : State → List Byte → State} (hfin : ∀ t sg, t.Keeps κ → (fin t sg).Keeps κ) :
    (s.signWith j k g rnd fin).Keeps κ := .ite (hs.rejectionLimit _) (hfin _ _ hs)

theorem State.Keeps.sign {s : State} (hs : s.Keeps κ) (j inp g) {fin : State → List Byte → State} (hfin : ∀ t sg, t.Keeps κ → (fin t sg).Keeps κ) :
    (s.sign j inp g fin).Keeps κ := by
  unfold State.sign
  extract_lets k n
  split
  · split
    · extract_lets c'
      exact .ite (hfin _ _ (hs.setCust _ _)) (hs.updJob _ _ _)
    · exact hs
  · split
    · exact hs.reject _ _ _ _
    · split
      · exact hs.stallJob _
      · split
        · exact hs.signWith _ _ _ _ hfin
        · split
          · rename_i e
            exact (hs.jobDraw _ _).of_error e
          · rename_i e
            exact ((hs.jobDraw _ _).of_ok e).signWith _ _ _ _ hfin

theorem execSigSign_keeps {s : State} (hs : s.Keeps κ) (q i inp) : OutKeeps κ (execSigSign q i inp s) :=
  .onJob hs fun _ _ ht => ht.sign _ _ _ fun _ _ hu => hu.endJob _ _ _

theorem execSigVerify_keeps {s : State} (hs : s.Keeps κ) (q i inp) : OutKeeps κ (execSigVerify q i inp s) := by
  unfold execSigVerify
  refine .onJob hs fun j t ht => ?_
  extract_lets d pkLen pk d1 n v
  exact .ite (ht.endJob _ _ _) (ht.reject _ _ _ _)

theorem execSigVerifyBatch_keeps {s : State} (hs : s.Keeps κ) (q i inp) : OutKeeps κ (execSigVerifyBatch q i inp s) := by
  unfold execSigVerifyBatch
  refine .onJob hs fun j t ht => ?_
  extract_lets d cs ok rs good t1 u
  have ht1 : t1.Keeps κ := ht.foldl (fun _ hu _ => hu.chargeRecord _ _ _) _
  have hu : u.Keeps κ := ht1.foldl (fun _ hu _ => hu.bgnReject _ _ _) _
  exact .ite (((ht.count _ _ _).raiseFault _ _ _ _).engineFault _ _ _ _) (hu.endJob _ _ _)

/-! ### The functions of Machine/SymOps -/

theorem execHash_keeps {s : State} (hs : s.Keeps κ) (q i inp) : OutKeeps κ (execHash q i inp s) := .onJob hs fun _ _ ht => ht.endJob _ _ _

theorem State.Keeps.endMac {s : State} (hs : s.Keeps κ) (j inp msg verify str tag) : (s.endMac j inp msg verify str tag).Keeps κ := by
  unfold State.endMac
  split
  · extract_lets n
    exact .ite (hs.endJob _ _ _) ((State.Keeps.ite (hs.count _ _ _) hs).endJob _ _ _)
  · exact hs.endJob _ _ _

theorem execHmac_keeps {s : State} (hs : s.Keeps κ) (q i inp) : OutKeeps κ (execHmac q i inp s) := .onJob hs fun _ _ ht => ht.endMac _ _ _ _ _ _

theorem execKmac_keeps {s : State} (hs : s.Keeps κ) (q i inp) : OutKeeps κ (execKmac q i inp s) := by
  unfold execKmac
  refine .onJob hs fun j t ht => ?_
  extract_lets d n
  exact ht.endMac _ _ _ _ _ _

theorem execCmac_keeps {s : State} (hs : s.Keeps κ) (q i inp) : OutKeeps κ (execCmac q i inp s) := .onJob hs fun _ _ ht => (ht.pipeBytes _ _).endMac _ _ _ _ _ _

theorem execKdf_keeps {s : State} (hs : s.Keeps κ) (q i inp) : OutKeeps κ (execKdf q i inp s) := by
  unfold execKdf
  refine .onJob hs fun j t ht => ?_
  extract_lets d a b ikm r
  exact ht.deliver _ _ _ _

theorem execAeadEncrypt_keeps {s : State} (hs : s.Keeps κ) (q i inp) : OutKeeps κ (execAeadEncrypt q i inp s) := by
  unfold execAeadEncrypt
  refine .onJob hs fun j t ht => ?_
  extract_lets fin d
  split
  · split
    · rename_i u e
      have hu : u.Keeps κ := (ht.jobDraw _ _).of_error e
      exact hu
    · rename_i u e
      have hu : u.Keeps κ := (ht.jobDraw _ _).of_ok e
      unfold fin
      extract_lets aad pt c tag
      exact (hu.pipeBytes _ _).endJob _ _ _
  · unfold fin
    extract_lets aad pt c tag
    exact (ht.pipeBytes _ _).endJob _ _ _

theorem execAeadDecrypt_keeps {s : State} (hs : s.Keeps κ) (q i inp) : OutKeeps κ (execAeadDecrypt q i inp s) := by
  unfold execAeadDecrypt
  refine .onJob hs fun j t0 ht0 => ?_
  extract_lets d iv aad r n c t u
  have ht : t.Keeps κ := ht0.pipeBytes _ _
  have hu : u.Keeps κ := ht.count _ _ _
  exact .ite (ht.endJob _ _ _) (.ite (hu.endJob _ _ _) (hu.endJob _ _ _))

theorem execXtsEncrypt_keeps {s : State} (hs : s.Keeps κ) (q i inp) : OutKeeps κ (execXtsEncrypt q i inp s) :=
  .onJob hs fun _ _ ht => (ht.pipeBytes _ _).endJob _ _ _

theorem execXtsDecrypt_keeps {s : State} (hs : s.Keeps κ) (q i inp) : OutKeeps κ (execXtsDecrypt q i inp s) :=
  .onJob hs fun _ _ ht => (ht.pipeBytes _ _).endJob _ _ _

theorem execKeyWrap_keeps {s : State} (hs : s.Keeps κ) (q i inp) : OutKeeps κ (execKeyWrap q i inp s) := by
  unfold execKeyWrap
  refine .onJob hs fun j t ht => ?_
  extract_lets d
  exact (ht.pipeBytes _ _).endJob _ _ _

theorem execKeyUnwrap_keeps {s : State} (hs : s.Keeps κ) (q i inp) : OutKeeps κ (execKeyUnwrap q i inp s) := by
  unfold execKeyUnwrap
  refine .onJob hs fun j t0 ht0 => ?_
  extract_lets d t k r
  have ht : t.Keeps κ := ht0.pipeBytes _ _
  cases r with
  | error e => exact (ht.count _ _ _).endJob _ _ _
  | ok p => exact ht.deliver _ _ _ _

theorem execRandom_keeps {s : State} (hs : s.Keeps κ) (q i) : OutKeeps κ (execRandom q i s) := by
  unfold execRandom
  refine .onJob hs fun j t ht => ?_
  extract_lets n
  have hdraw : DrawKeeps κ (if j.paramset = 1 then t.freshDraw j n else t.jobDraw j n) := .ite (ht.freshDraw _ _) (ht.jobDraw _ _)
  split
  · rename_i e
    exact hdraw.of_error e
  · rename_i e
    exact .ite ((hdraw.of_ok e).endJob _ _ _) ((hdraw.of_ok e).deliver _ _ _ _)

/-! ### The functions of Machine/KeyOps -/

theorem execKeyImport_keeps {s : State} (hs : s.Keeps κ) (q i inp) : OutKeeps κ (execKeyImport q i inp s) := by
  unfold execKeyImport
  refine .onJob hs fun j t ht => ?_
  extract_lets fam ps bad
  have hbad : ∀ d, (bad t d).Keeps κ := fun d => State.Keeps.endJob (.ite (.ite ((ht.count _ _ _).raiseErr _ _ _ _) (ht.count _ _ _)) ht) _ _ _
  split
  · exact ht.endJob _ _ _
  · refine .ite (ht.endJob _ _ _) ?_
    split
    · exact ht
    · exact .ite (.ite (hbad _) (ht.endWithKey _ _ _ _ _)) (.ite (hbad _) (ht.endWithKey _ _ _ _ _))

theorem execKeyExportWrapped_keeps {s : State} (hs : s.Keeps κ) (q i) : OutKeeps κ (execKeyExportWrapped q i s) := by
  unfold execKeyExportWrapped
  refine .onJob hs fun j t ht => ?_
  extract_lets k raw h o
  exact ht.endJob _ _ _

theorem execKeyDestroy_keeps {s : State} (hs : s.Keeps κ) (q i) : OutKeeps κ (execKeyDestroy q i s) := by
  unfold execKeyDestroy
  refine .onJob hs fun j t ht => ?_
  extract_lets k _
  exact (ht.setKey _ _).updJob _ _ _

theorem State.Keeps.destroyKey {s : State} (hs : s.Keeps κ) (k owner) : (s.destroyKey k owner).Keeps κ := by
  unfold State.destroyKey
  extract_lets s1
  have hs1 : s1.Keeps κ := by
    unfold s1
    split
    · exact .ite hs (hs.writeCust _ _ _)
    · exact hs
  exact (hs1.dropKeyRecord _ _).removeKey _

theorem execKeyDestroyCommit_keeps {s0 : State} (hs0 : s0.Keeps κ) (k) : OutKeeps κ (execKeyDestroyCommit k s0) := by
  unfold execKeyDestroyCommit
  refine .clocked hs0 fun s hs => ?_
  split
  · exact .next hs
  · split
    · exact .next hs
    · extract_lets _ s1
      have hs1 : s1.Keeps κ := hs.keep
      split
      · exact .ite (.next ((hs1.destroyKey _ _).endJob _ _ _)) (.next hs)
      · exact .next (hs1.destroyKey _ _)

theorem execKeyInfo_keeps {s : State} (hs : s.Keeps κ) (q i) : OutKeeps κ (execKeyInfo q i s) := .onJob hs fun _ _ ht => ht.endJob _ _ _

theorem execKeyDerive_keeps {s : State} (hs : s.Keeps κ) (q i inp) : OutKeeps κ (execKeyDerive q i inp s) := by
  unfold execKeyDerive
  refine .onJob hs fun j t ht => ?_
  extract_lets d b n
  split
  · exact ht
  · exact ht.endWithKey _ _ _ _ _

theorem execStatefulReserve_keeps {s : State} (hs : s.Keeps κ) (q i) : OutKeeps κ (execStatefulReserve q i s) := by
  unfold execStatefulReserve
  refine .onJob hs fun j t ht => ?_
  split
  · exact ht
  · extract_lets c wait
    exact .ite (.ite (ht.updJob _ _ _) (.ite (ht.endJob _ _ _) ((ht.askRaise _ _).updJob _ _ _))) (.ite (ht.endJob _ _ _) (ht.updJob _ _ _))

/-! ### The functions of Machine/Otp -/

theorem State.Keeps.burn {s : State} (hs : s.Keeps κ) (a v) : (s.burn a v).Keeps κ := hs.keep rfl rfl rfl

theorem State.Keeps.otpShow {s : State} (hs : s.Keeps κ) : s.otpShow.Keeps κ := by
  unfold State.otpShow
  extract_lets n braced go ops _
  exact ((hs.keep.setFlag _ _ _).setFlag _ _ _).setF _ _ _

theorem State.Keeps.otpAsk {s : State} (hs : s.Keeps κ) (o) : (s.otpAsk o).Keeps κ := by
  unfold State.otpAsk
  exact hs.keep.otpShow

theorem State.Keeps.loadClassO {s : State} (hs : s.Keeps κ) : s.loadClassO.Keeps κ := by
  unfold State.loadClassO
  extract_lets d s1 s2 s3 s4 s5
  have hs1 : s1.Keeps κ := (hs.setF _ _ _).setF _ _ _
  have hs2 : s2.Keeps κ := hs1.setFlag _ _ _
  have hs3 : s3.Keeps κ := hs2.setF _ _ _
  have hs4 : s4.Keeps κ := (hs3.setF _ _ _).setFlag _ _ _
  have hs5 : s5.Keeps κ := hs4.setFlag _ _ _
  exact hs5.setF _ _ _

/-! ### The functions of Machine/LedgerOps -/

theorem State.Keeps.endReaders {s : State} (hs : s.Keeps κ) (b) : (s.endReaders b).Keeps κ := hs.keep rfl rfl rfl

theorem State.Keeps.itemFailed {s : State} (hs : s.Keeps κ) (b) : (s.itemFailed b).Keeps κ := by
  unfold State.itemFailed
  extract_lets _ s1 s2
  have hs1 : s1.Keeps κ := hs.keep
  have hs2 : s2.Keeps κ := hs1.integrityFail _ _ _
  exact .ite (hs2.endReaders _) hs2

theorem State.Keeps.want {s : State} (hs : s.Keeps κ) (b) : (s.want b).Keeps κ := by
  unfold State.want
  split
  · exact hs
  · exact .ite hs (hs.askFetch _)
  · exact hs.itemFailed _

theorem State.Keeps.pump {s : State} (hs : s.Keeps κ) : s.pump.Keeps κ := by
  unfold State.pump
  extract_lets s1 s2
  have hs1 : s1.Keeps κ := hs.drainPlace _
  have hs2 : s2.Keeps κ := by
    unfold s2
    split
    · exact hs1
    · split
      · exact hs1.itemFailed _
      · exact hs1
  exact hs2.foldl (fun _ ht _ => ht.want _) _

theorem State.Keeps.waitFor {s : State} (hs : s.Keeps κ) (j bs) : (s.waitFor j bs).Keeps κ := by
  unfold State.waitFor
  extract_lets since
  exact (hs.updJob _ _ _).foldl (fun _ ht _ => ht.want _) _

theorem execLedgerAppend_keeps {s : State} (hs : s.Keeps κ) (q i inp) : OutKeeps κ (execLedgerAppend q i inp s) := .onJob hs fun _ _ ht => ht.endJob _ _ _

theorem execRecordPlace_keeps {s0 : State} (hs0 : s0.Keeps κ) (q i) : OutKeeps κ (execRecordPlace q i s0) := by
  unfold execRecordPlace
  refine .clocked hs0 fun s hs => ?_
  split
  · exact .next hs
  · split
    · exact .ite (.next hs) (.next (hs.giveRecord _ _))
    · exact .next hs

theorem execLedgerCheckpoint_keeps {s : State} (hs : s.Keeps κ) (q i) : OutKeeps κ (execLedgerCheckpoint q i s) := by
  unfold execLedgerCheckpoint
  refine .onJob hs fun j t ht => ?_
  extract_lets st body
  split
  · exact ht
  · exact ht.sign (hfin := fun u _ hu => (hu.setStream _ _).endJob _ _ _) _ _ _

theorem State.Keeps.prove {s : State} (hs : s.Keeps κ) (j kind nodes hashes size) : (s.prove j kind nodes hashes size).Keeps κ := by
  unfold State.prove
  extract_lets st bs o
  split
  · exact hs.waitFor _ _
  · exact hs.endJob _ _ _

theorem execLedgerProveInclusion_keeps {s : State} (hs : s.Keeps κ) (q i) : OutKeeps κ (execLedgerProveInclusion q i s) := by
  unfold execLedgerProveInclusion
  refine .onJob hs fun j t ht => ?_
  split
  · exact ht
  · extract_lets st n
    exact .ite (ht.endJob _ _ _) (ht.prove _ _ _ _ _)

theorem execLedgerProveConsistency_keeps {s : State} (hs : s.Keeps κ) (q i) : OutKeeps κ (execLedgerProveConsistency q i s) := by
  unfold execLedgerProveConsistency
  refine .onJob hs fun j t ht => ?_
  split
  · exact ht
  · extract_lets st n
    exact .ite (ht.endJob _ _ _) (ht.prove _ _ _ _ _)

theorem execLedgerRead_keeps {s : State} (hs : s.Keeps κ) (q i) : OutKeeps κ (execLedgerRead q i s) := by
  unfold execLedgerRead
  refine .onJob hs fun j t ht => ?_
  extract_lets x
  split
  · exact ht.endJob _ _ _
  · extract_lets l n bs
    split
    · exact ht.waitFor _ _
    · exact ht.endJob _ _ _

theorem State.Keeps.makeStream {s : State} (hs : s.Keeps κ) (st owner hash job) : ∀ t, s.makeStream st owner hash job = some t → t.Keeps κ := by
  intro t e
  unfold State.makeStream at e
  split at e
  · cases e
  · rename_i a s1 harea
    have hs1 : s1.Keeps κ := hs.takeArea.of_snd harea
    obtain rfl := Option.some.inj e
    exact (((((((hs1.setStream _ _).setF _ _ _).setF _ _ _).setF _ _ _).setF _ _ _).setF _ _ _).trySpare _).placeStreamState _ _

theorem execStreamOpen_keeps {s : State} (hs : s.Keeps κ) (q i) : OutKeeps κ (execStreamOpen q i s) := by
  unfold execStreamOpen
  refine .onJob hs fun j t ht => ?_
  split
  · exact ht.endJob _ _ _
  · split
    · exact ht.endJob _ _ _
    · rename_i u e
      have hu : u.Keeps κ := ht.makeStream _ _ _ _ _ e
      exact hu.endJob _ _ _

theorem execStreamClose_keeps {s : State} (hs : s.Keeps κ) (q i) : OutKeeps κ (execStreamClose q i s) := by
  unfold execStreamClose
  refine .onJob hs fun j t ht => ?_
  extract_lets st t1
  have ht1 : t1.Keeps κ := (ht.setF _ _ _).setF _ _ _
  exact .ite ht ((ht1.placeStreamState _ _).endJob _ _ _)

theorem execSealWrite_keeps {s : State} (hs : s.Keeps κ) (q i inp) : OutKeeps κ (execSealWrite q i inp s) := by
  unfold execSealWrite
  refine .onJob hs fun j t ht => ?_
  split
  · exact ht
  · extract_lets d t1
    have ht1 : t1.Keeps κ := by
      unfold t1
      refine ht.foldl (fun u hu k => ?_) _
      extract_lets b _
      exact .ite (hu.keep.discardBlock _ _) (hu.keep.place _ _ _)
    exact ht1.endJob _ _ _

theorem execSealRead_keeps {s : State} (hs : s.Keeps κ) (q i) : OutKeeps κ (execSealRead q i s) := by
  unfold execSealRead
  refine .onJob hs fun j t ht => ?_
  split
  · exact ht
  · split
    · exact ht.waitFor _ _
    · exact ht.endJob _ _ _

theorem execSealAnchorWarm_keeps {s : State} (hs : s.Keeps κ) (q i) : OutKeeps κ (execSealAnchorWarm q i s) :=
  .onJob hs fun _ _ ht => .ite ht (.ite (ht.updJob _ _ _) ((ht.askClose.endJob _ _ _).updJob _ _ _))

theorem State.Keeps.coldPrepare {s : State} (hs : s.Keeps κ) : s.coldPrepare.Keeps κ := by
  unfold State.coldPrepare
  extract_lets _ s1 s2 _ _
  have hs1 : s1.Keeps κ := hs.keep
  have hs2 : s2.Keeps κ := hs1.foldl (fun t ht n => ht.writeCust _ _ _) _
  exact hs2.askClose.keep rfl rfl rfl

theorem State.Keeps.coldStart {s : State} (hs : s.Keeps κ) : s.coldStart.Keeps κ := by
  unfold State.coldStart
  extract_lets _ s1 _
  have hs1 : s1.Keeps κ := hs.keep
  exact .ite hs.keep hs1.coldPrepare

theorem State.Keeps.coldBurned {s : State} (hs : s.Keeps κ) : s.coldBurned.Keeps κ := by
  unfold State.coldBurned
  extract_lets a s1 _ s2 s3 s4 _
  have hs1 : s1.Keeps κ := .ite (hs.setAnchor _) hs
  have hs2 : s2.Keeps κ := hs1.keep
  have hs3 : s3.Keeps κ := by
    unfold s3
    refine hs2.foldl (fun t ht n => ?_) _
    extract_lets c
    exact .ite ht (ht.writeCust _ _ _)
  have hs4 : s4.Keeps κ := hs3.askClose
  exact hs4.keep

theorem State.Keeps.coldDone {s : State} (hs : s.Keeps κ) : s.coldDone.Keeps κ := by
  unfold State.coldDone
  extract_lets _ _ s1 _ s2
  have hs1 : s1.Keeps κ := hs.keep
  have hs2 : s2.Keeps κ := .ite (hs.keep.setF _ _ _) hs1
  exact (hs2.journal _ _).settleCustody

theorem State.Keeps.coldAdvance {s : State} (hs : s.Keeps κ) : s.coldAdvance.Keeps κ := by
  unfold State.coldAdvance
  split
  · exact hs.coldStart
  · split
    · split
      · exact hs.keep.otpAsk _
      · exact hs
    · exact hs
  · exact .ite hs.coldDone hs
  · exact .ite hs hs.coldBurned
  · exact hs

theorem execSealAnchorCold_keeps {s : State} (hs : s.Keeps κ) (q i) : OutKeeps κ (execSealAnchorCold q i s) :=
  .onJob hs fun _ _ ht => .ite ht (.ite (.ite (ht.updJob _ _ _) (ht.coldStart.updJob _ _ _)) (.ite (ht.endJob _ _ _) ht.coldAdvance))

theorem execColdAnchorEpochBurn_keeps {s0 : State} (hs0 : s0.Keeps κ) (ok) : OutKeeps κ (execColdAnchorEpochBurn ok s0) := by
  unfold execColdAnchorEpochBurn
  refine .clocked hs0 fun s00 hs00 => ?_
  extract_lets s
  have hs : s.Keeps κ := hs00.coldAdvance
  split
  · split
    · exact .next hs
    · split
      · exact .next ((hs.raiseErr _ _ _ _).count _ _ _)
      · extract_lets s1 _ _ s2
        have hs1 : s1.Keeps κ := hs.foldl (fun _ ht _ => (ht.burn _ _).count _ _ _) _
        have hs2 : s2.Keeps κ := hs1.keep
        exact .next hs2.otpShow.loadClassO.coldAdvance
  · exact .next hs

/-! ### The functions of Machine/Farm -/

theorem State.Keeps.setSession {s : State} (hs : s.Keeps κ) (n x2) : (s.setSession n x2).Keeps κ := hs.keep rfl rfl rfl

theorem State.Keeps.failSession {s : State} (hs : s.Keeps κ) (n cause core) : (s.failSession n cause core).Keeps κ := by
  unfold State.failSession
  extract_lets x f s1 s2
  have hs1 : s1.Keeps κ := ((hs.setSession _ _).count _ _ _).raiseFault _ _ _ _
  have hs2 : s2.Keeps κ := .ite hs1 (hs1.raiseFault _ _ _ _)
  split
  · exact hs2
  · exact hs2.engineFault _ _ _ _

theorem State.Keeps.startCall {s : State} (hs : s.Keeps κ) (n h core) : (s.startCall n h core).Keeps κ := by
  unfold State.startCall
  extract_lets x others len rest s1 _ s2
  have hs1 : s1.Keeps κ := hs.setSession _ _
  have hs2 : s2.Keeps κ := hs1.keep
  exact .ite (hs2.count _ _ _) hs2

theorem State.Keeps.markStalls {s : State} (hs : s.Keeps κ) : s.markStalls.Keeps κ := by
  unfold State.markStalls
  refine hs.foldl (fun t ht e => ?_) _
  split
  · exact .ite ((ht.setSession _ _).count _ _ _) ht
  · exact ht

theorem State.Keeps.farmTake {s : State} (hs : s.Keeps κ) (n) : (s.farmTake n).Keeps κ := by
  induction n generalizing s with
  | zero => exact hs.markStalls
  | succ n ih =>
    unfold State.farmTake
    split
    · exact ih (hs.failSession _ _ _)
    · split
      · exact hs.markStalls
      · split
        · exact hs.markStalls
        · split
          · exact hs.markStalls
          · exact ih (hs.startCall _ _ _)

theorem State.Keeps.farm {s : State} (hs : s.Keeps κ) : s.farm.Keeps κ := hs.farmTake _

theorem State.Keeps.issueCall {s : State} (hs : s.Keeps κ) (n j h) : (s.issueCall n j h).Keeps κ := by
  unfold State.issueCall
  extract_lets x
  exact .ite (hs.failSession _ _ _) ((hs.setSession _ _).farm)

theorem execHashCallStart_keeps {s0 : State} (hs0 : s0.Keeps κ) (n q i sha2 masked fin blocks) : OutKeeps κ (execHashCallStart n q i sha2 masked fin blocks s0) := by
  unfold execHashCallStart
  refine .clocked hs0 fun s hs => ?_
  split
  · exact .next hs
  · exact .ite (.next hs) (.next (hs.issueCall _ _ _))

theorem execHashChainCall_keeps {s0 : State} (hs0 : s0.Keeps κ) (n q i masked start pos steps value adrs) : OutKeeps κ (execHashChainCall n q i masked start pos steps value adrs s0) := by
  unfold execHashChainCall
  refine .clocked hs0 fun s hs => ?_
  split
  · exact .next hs
  · exact .ite (.next hs) (.ite (.next (hs.failSession _ _ _)) (.next (hs.issueCall _ _ _)))

theorem State.Keeps.coreCheckFailed {s : State} (hs : s.Keeps κ) (c) : (s.coreCheckFailed c).Keeps κ := by
  unfold State.coreCheckFailed
  extract_lets l _ s1 s2
  have hs1 : s1.Keeps κ := hs.keep.count _ _ _
  have hs2 : s2.Keeps κ := (hs1.setF _ _ _).count _ _ _
  exact .ite hs1 (hs2.raiseErr _ _ _ _)

theorem State.Keeps.callDone {s : State} (hs : s.Keeps κ) (c n h) : (s.callDone c n h).Keeps κ := by
  unfold State.callDone
  extract_lets x s1
  have hs1 : s1.Keeps κ := hs.count _ _ _
  exact .ite (hs1.setSession _ _) (hs1.setSession _ _)

theorem execHashCallEnd_keeps {s0 : State} (hs0 : s0.Keeps κ) (c good storeOk) : OutKeeps κ (execHashCallEnd c good storeOk s0) := by
  unfold execHashCallEnd
  refine .clocked hs0 fun s hs => ?_
  split
  · exact .next hs
  · split
    · exact .next hs
    · extract_lets s1 x again
      have hs1 : s1.Keeps κ := .ite hs (hs.coreCheckFailed _)
      exact .ite (.next (.ite ((hs1.callDone _ _ _).farm) ((hs1.setSession _ _).farm))) (.ite (.next ((hs1.failSession _ _ _).farm)) (.ite (.next ((hs1.callDone _ _ _).farm)) (.ite (.next ((hs1.failSession _ _ _).farm)) (.next (((hs1.setSession _ _).count _ _ _).farm)))))

theorem execMaskedCallWaitTimeout_keeps {s0 : State} (hs0 : s0.Keeps κ) (n) : OutKeeps κ (execMaskedCallWaitTimeout n s0) := by
  unfold execMaskedCallWaitTimeout
  refine .clocked hs0 fun s hs => ?_
  split
  · exact .next hs
  · split
    · exact .next hs
    · extract_lets s1
      have hs1 : s1.Keeps κ := hs.setSession _ _
      split
      · exact .next hs1
      · exact .next (((hs1.letGo _).updJob _ _ _).count _ _ _)

theorem execHshCoreEnableWrite_keeps {s0 : State} (hs0 : s0.Keeps κ) (v) : OutKeeps κ (execHshCoreEnableWrite v s0) := by
  unfold execHshCoreEnableWrite
  refine .mmio hs0 fun s hs => ?_
  extract_lets s1
  have hs1 : s1.Keeps κ := hs.backOnline _ _ _
  exact .ite (.next ((hs1.setF _ _ _).farm)) (.next (hs.count _ _ _))

/-! ### The functions of Machine/MarBundle -/

theorem State.Keeps.clearReservations {s : State} (hs : s.Keeps κ) (c rows) : (s.clearReservations c rows).Keeps κ :=
  .ite hs (hs.foldl (fun _ ht _ => .ite (ht.setCore _ _) ht) _)

theorem State.Keeps.farmAct {s : State} (hs : s.Keeps κ) (j a) : (s.farmAct j a).Keeps κ := by
  unfold State.farmAct
  split
  · exact hs.setSession _ _
  · exact hs.issueCall _ _ _
  · exact hs.closeSession _

theorem State.Keeps.putExe {s : State} (hs : s.Keeps κ) (c n j e) : (s.putExe c n j e).Keeps κ := by
  unfold State.putExe
  extract_lets _ s1 _ s2 _ s3
  have hs1 : s1.Keeps κ := hs.keep.setCore _ _
  have hs2 : s2.Keeps κ := hs1.setQuarter _ _ _
  have hs3 : s3.Keeps κ := (hs2.setGather _ _).clearReservations _ _
  exact hs3.foldl (fun _ ht _ => ht.farmAct _ _) _

theorem State.Keeps.recordFault {s : State} (hs : s.Keeps κ) (c f kernel addr) : (s.recordFault c f kernel addr).Keeps κ := by
  unfold State.recordFault
  split
  · exact hs
  · extract_lets s1
    have hs1 : s1.Keeps κ := (((((hs.setFlag _ _ _).setFlag _ _ _).setFlag _ _ _).setF _ _ _).setF _ _ _).setF _ _ _
    exact ((hs1.setF _ _ _).setF _ _ _).setF _ _ _

/-! ### The functions of Machine/Evidence -/

theorem State.Keeps.showBuf {s : State} (hs : s.Keeps κ) : s.showBuf.Keeps κ := (hs.setFlag _ _ _).setF _ _ _

theorem State.Keeps.freeBuf {s : State} (hs : s.Keeps κ) : s.freeBuf.Keeps κ := by
  unfold State.freeBuf
  exact hs.keep.showBuf

theorem State.Keeps.tamperRecords {s : State} (hs : s.Keeps κ) (sources resp power) : (s.tamperRecords sources resp power).Keeps κ :=
  hs.foldl (fun _ ht _ => ht.journal _ _) _

theorem State.Keeps.evidenceJournal {s : State} (hs : s.Keeps κ) : s.evidenceJournal.Keeps κ := by
  unfold State.evidenceJournal
  split
  · exact hs
  · extract_lets s1 _ s2
    have hs1 : s1.Keeps κ := hs.foldl (fun _ ht _ => (ht.journal _ _).tamperRecords _ _ _) _
    have hs2 : s2.Keeps κ := hs1.keep
    exact hs2.freeBuf

theorem State.Keeps.putBuf {s : State} (hs : s.Keeps κ) (e) : (s.putBuf e).Keeps κ := by
  unfold State.putBuf
  split
  · exact hs.keep.showBuf
  · extract_lets old last _ s1
    have hs1 : s1.Keeps κ := hs.keep
    exact (hs1.raiseErr _ _ _ _).showBuf

/-! ### The functions of Machine/StoreCmds -/

theorem State.Keeps.withStoreId {s : State} (hs : s.Keeps κ) (d) : (s.withStoreId d).Keeps κ := hs.keep rfl rfl rfl

theorem State.Keeps.openRefused {s : State} (hs : s.Keeps κ) (res d) : (s.openRefused res d).Keeps κ := by
  unfold State.openRefused
  extract_lets _ s1
  have hs1 : s1.Keeps κ := hs.keep
  exact ((hs1.setF _ _ _).setF _ _ _).raiseErr _ _ _ _

theorem State.Keeps.openLoad {s0 : State} (hs0 : s0.Keeps κ) (d res) : (s0.openLoad d res).Keeps κ := by
  unfold State.openLoad
  extract_lets s _ s1
  have hs : s.Keeps κ := hs0.withStoreId _
  have hs1 : s1.Keeps κ := hs.keep
  exact (hs1.setF _ _ _).foldl (fun _ ht _ => ht.want _) _

theorem State.Keeps.rootPresented {s : State} (hs : s.Keeps κ) (d) : (s.rootPresented d).Keeps κ := by
  unfold State.rootPresented
  extract_lets r
  exact .ite (hs.openLoad _ _) (hs.openRefused _ _)

theorem State.Keeps.loadRange {s : State} (hs : s.Keeps κ) (span base i d) : (s.loadRange span base i d).Keeps κ := (hs.setF _ _ _).setF _ _ _

theorem State.Keeps.loadRanges {s : State} (hs : s.Keeps κ) (d) : (s.loadRanges d).Keeps κ := by
  unfold State.loadRanges
  extract_lets s1
  have hs1 : s1.Keeps κ := (hs.loadRange _ _ _ _).loadRange _ _ _ _
  exact hs1.foldl (fun _ ht _ => ht.loadRange _ _ _ _) _

theorem State.Keeps.placeRange {s : State} (hs : s.Keeps κ) (r) : (s.placeRange r).Keeps κ := by
  unfold State.placeRange
  split
  · exact hs.place _ _ _
  · exact hs.place _ _ _

theorem State.Keeps.loadCustody {s : State} (hs : s.Keeps κ) (anchored c) : (s.loadCustody anchored c).Keeps κ := by
  unfold State.loadCustody
  extract_lets x y _ s0 s1
  have hs0 : s0.Keeps κ := hs.keep
  have hs1 : s1.Keeps κ := .ite (hs0.count _ _ _) hs0
  exact .ite ((hs0.setCust _ _).raiseErr _ _ _ _) (.ite (hs1.setCust _ _) (hs1.writeCust _ _ _))

theorem State.Keeps.loadKey {s : State} (hs : s.Keeps κ) (v anchored k) : (s.loadKey v anchored k).Keeps κ := by
  unfold State.loadKey
  split
  · extract_lets s1
    have hs1 : s1.Keeps κ := (hs.setKey _ _).count _ _ _
    exact hs1.discardBlock _ _
  · extract_lets held s1
    have hs1 : s1.Keeps κ := hs.setKey _ _
    exact .ite hs1 (hs1.raiseErr _ _ _ _)

theorem State.Keeps.kvRebuild {s : State} (hs : s.Keeps κ) (v anchored) : (s.kvRebuild v anchored).Keeps κ := by
  unfold State.kvRebuild
  extract_lets ks s1 s2 lost s3 q s4 s5 _
  have hs1 : s1.Keeps κ := hs.foldl (fun _ ht _ => ht.loadCustody _ _) _
  have hs2 : s2.Keeps κ := hs1.foldl (fun _ ht _ => ht.loadKey _ _ _) _
  have hs3 : s3.Keeps κ := .ite hs2 ((hs2.kvEvent _).journal _ _)
  have hs4 : s4.Keeps κ := .ite hs3 ((hs3.kvEvent _).journal _ _)
  have hs5 : s5.Keeps κ := hs4.setF _ _ _
  exact hs5.keep.setFlag _ _ _

theorem State.Keeps.openAdvance {s : State} (hs : s.Keeps κ) (v) : (s.openAdvance v).Keeps κ := by
  unfold State.openAdvance
  split
  · exact hs
  · extract_lets s0 c
    have hs0 : s0.Keeps κ := hs.foldl (fun _ ht _ => ht.want _) _
    split
    · exact hs0
    · extract_lets s1 s2 s3 s4 _ s5
      have hs1 : s1.Keeps κ := hs0.loadRanges _
      have hs2 : s2.Keeps κ := .ite (hs1.setAnchor _) hs1
      have hs3 : s3.Keeps κ := (hs2.setF _ _ _).journal _ _
      have hs4 : s4.Keeps κ := hs3.kvRebuild _ _
      have hs5 : s5.Keeps κ := hs4.keep
      exact .ite hs5.coldStart (hs5.setF _ _ _)

theorem State.Keeps.formatBurned {s : State} (hs : s.Keeps κ) : s.formatBurned.Keeps κ := by
  unfold State.formatBurned
  exact hs.keep.setF _ _ _

theorem State.Keeps.formatAdvance {s : State} (hs : s.Keeps κ) : s.formatAdvance.Keeps κ := by
  unfold State.formatAdvance
  split
  · exact hs
  · extract_lets _ _ _ s1 s2 s3 s4 s5 s6
    have hs1 : s1.Keeps κ := hs.keep
    have hs2 : s2.Keeps κ := (((hs1.setF _ _ _).setF _ _ _).setF _ _ _).setF _ _ _
    have hs3 : s3.Keeps κ := hs2.dropF _
    have hs4 : s4.Keeps κ := hs3.placeRange _
    have hs5 : s5.Keeps κ := .getD (hs4.makeStream _ _ _ _) hs4
    have hs6 : s6.Keeps κ := (((hs5.setFlag _ _ _).setFlag _ _ _).setF _ _ _).setF _ _ _
    exact ((hs6.journal _ _).journalDrain).evidenceJournal

theorem State.Keeps.storeSettle {s : State} (hs : s.Keeps κ) (v) : (s.storeSettle v).Keeps κ :=
  hs.pump.finishGroup.settleCustody.coldAdvance.formatAdvance.openAdvance _

theorem State.Keeps.fetchDone {s : State} (hs : s.Keeps κ) (o d) : (s.fetchDone o d).Keeps κ := by
  unfold State.fetchDone
  extract_lets s1 r
  have hs1 : s1.Keeps κ := hs.issue _
  have hr : r.2.Keeps κ := hs1.fetched _ _
  exact .ite (hs1.rootPresented _) (.ite (hr.itemFailed _) (hr.keep rfl rfl rfl))

theorem State.Keeps.noteNoSpace {s : State} (hs : s.Keeps κ) (c b) : (s.noteNoSpace c b).Keeps κ := by
  unfold State.noteNoSpace
  exact hs.keep.raiseErr _ _ _ _

theorem State.Keeps.scEnded {s : State} (hs : s.Keeps κ) (c o status d) : (s.scEnded c o status d).Keeps κ := by
  unfold State.scEnded
  split
  · exact .ite (hs.fetchDone _ _) (.ite (.ite (hs.openRefused _ _) (hs.itemFailed _)) (hs.repost _ _))
  · exact .ite (hs.keep.persistDone _) (.ite ((hs.noteNoSpace _ _).repost _ _) (hs.repost _ _))
  · exact .ite hs (hs.repost _ _)

theorem execScComplete_keeps {s0 : State} (hs0 : s0.Keeps κ) (hκ : κ = .inv ∨ s0.Serves) (c tag status d v) :
    OutKeeps (κ.setHeld .QE_SC_COMPLETE c 0) (execScComplete c tag status d v s0) := by
  unfold execScComplete
  refine .mmioHeld hs0 hκ fun u hu => ?_
  extract_lets s
  have hs : s.Keeps (κ.setHeld .QE_SC_COMPLETE c 0) := hu.setHeld _ _ _
  split
  · exact .next (hs.count _ _ _)
  · rename_i s1 e
    have hs1 : s1.Keeps (κ.setHeld .QE_SC_COMPLETE c 0) := (hs.scTake _ _).of_snd e
    exact .next ((hs1.scEnded _ _ _ _).storeSettle _)

theorem execCommitGroupClose_keeps {s0 : State} (hs0 : s0.Keeps κ) : OutKeeps κ (execCommitGroupClose s0) :=
  .clocked hs0 fun _ hs => .ite (.next hs.closeGroup) (.next hs)

theorem execSealRetryTimer_keeps {s0 : State} (hs0 : s0.Keeps κ) : OutKeeps κ (execSealRetryTimer s0) := by
  unfold execSealRetryTimer
  refine .clocked hs0 fun s hs => ?_
  split
  · exact .next hs
  · exact .next ((hs.keep.count _ _ _).scAsk _)

theorem State.Keeps.storageTimeout {s : State} (hs : s.Keeps κ) (j) : (s.storageTimeout j).Keeps κ := by
  unfold State.storageTimeout
  extract_lets w s1 own _ s2
  have hs1 : s1.Keeps κ := (hs.letGo _).updJob _ _ _
  have hs2 : s2.Keeps κ := hs1.keep
  exact (hs2.count _ _ _).raiseErr _ _ _ _

theorem execStorageTimeLimit_keeps {s0 : State} (hs0 : s0.Keeps κ) (q i) : OutKeeps κ (execStorageTimeLimit q i s0) := by
  unfold execStorageTimeLimit
  refine .clocked hs0 fun s hs => ?_
  split
  · exact .next hs
  · exact .ite (.next hs) (.next (hs.storageTimeout _))

theorem State.Keeps.sealRefuse {s : State} (hs : s.Keeps κ) : s.sealRefuse.Keeps κ := hs.count _ _ _

theorem State.Keeps.startOpen {s : State} (hs : s.Keeps κ) : s.startOpen.Keeps κ := (hs.setF _ _ _).scAsk _

theorem State.Keeps.startForce {s : State} (hs : s.Keeps κ) : s.startForce.Keeps κ := by
  unfold State.startForce
  extract_lets d s1 _ s2
  have hs1 : s1.Keeps κ := hs.journal _ _
  have hs2 : s2.Keeps κ := hs1.keep
  exact (hs2.setF _ _ _).openLoad _ _

theorem State.Keeps.startFormat {s : State} (hs : s.Keeps κ) : s.startFormat.Keeps κ := by
  unfold State.startFormat
  split
  rename_i b s1 e
  have hs1 : s1.Keeps κ := ((hs.drbgCalls 7 1).draw 16).of_snd e
  extract_lets _ s2
  have hs2 : s2.Keeps κ := hs1.keep
  split
  · exact (hs2.setF _ _ _).otpAsk _
  · exact hs2

theorem State.Keeps.sealCtrl {s : State} (hs : s.Keeps κ) (v img) : (s.sealCtrl v img).Keeps κ := by
  unfold State.sealCtrl
  split
  · exact hs
  · exact hs.startOpen
  · exact hs.startForce.openAdvance _
  · exact hs.startFormat
  · exact hs.sealRefuse

theorem execStoreOpen_keeps {s0 : State} (hs0 : s0.Keeps κ) (v) : OutKeeps κ (execStoreOpen v s0) := .mmio hs0 fun _ hs => .next (hs.sealCtrl _ _)

theorem execForceOpen_keeps {s0 : State} (hs0 : s0.Keeps κ) (v img) : OutKeeps κ (execForceOpen v img s0) := .mmio hs0 fun _ hs => .next (hs.sealCtrl _ _)

theorem execFormat_keeps {s0 : State} (hs0 : s0.Keeps κ) (v) : OutKeeps κ (execFormat v s0) := .mmio hs0 fun _ hs => .next (hs.sealCtrl _ _)

theorem execSealCtrlRefused_keeps {s0 : State} (hs0 : s0.Keeps κ) (v) : OutKeeps κ (execSealCtrlRefused v s0) :=
  .mmio hs0 fun _ hs => .ite (.next hs.sealRefuse) (.next (hs.sealCtrl _ _))

theorem execSealRangeWrite_keeps {s0 : State} (hs0 : s0.Keeps κ) (hκ : κ = .inv ∨ s0.Serves) (r v) :
    OutKeeps (κ.setHeld (rangeReg r).1 (rangeReg r).2 0) (execSealRangeWrite r v s0) := by
  unfold execSealRangeWrite
  refine .mmioHeld hs0 hκ fun u hu => ?_
  extract_lets s base span f s1 short s2
  have hs : s.Keeps (κ.setHeld (rangeReg r).1 (rangeReg r).2 0) := hu.setHeld _ _ _
  have hs1 : s1.Keeps (κ.setHeld (rangeReg r).1 (rangeReg r).2 0) := ((hs.setF _ _ _).setF _ _ _).placeRange _
  have hs2 : s2.Keeps (κ.setHeld (rangeReg r).1 (rangeReg r).2 0) := hs1.foldl (fun _ ht _ => ht.trySpare _) _
  exact .ite (.next hs.sealRefuse) (.next hs2.keep)

theorem State.Keeps.loadStream {s : State} (hs : s.Keeps κ) (m) : (s.loadStream m).Keeps κ := by
  unfold State.loadStream
  extract_lets n s1 s2 s3
  have hs1 : s1.Keeps κ := hs.setStream _ _
  have hs2 : s2.Keeps κ := ((hs1.setF _ _ _).setF _ _ _).setF _ _ _
  have hs3 : s3.Keeps κ := hs2.setF _ _ _
  exact .ite hs3 ((hs3.setF _ _ _).trySpare _)

theorem execQreStreamStateLoaded_keeps {s0 : State} (hs0 : s0.Keeps κ) (img) : OutKeeps κ (execQreStreamStateLoaded img s0) := by
  unfold execQreStreamStateLoaded
  refine .clocked hs0 fun s hs => ?_
  split
  · exact .next hs
  · extract_lets _ _ s1 s2 s3
    have hs1 : s1.Keeps κ := hs.keep
    have hs2 : s2.Keeps κ := hs1.foldl (fun _ ht _ => ht.loadStream _) _
    have hs3 : s3.Keeps κ := ((hs2.setFlag _ _ _).journalDrain).evidenceJournal
    refine .next ?_
    split
    · exact hs3.applyFloor _
    · exact hs3

theorem execStreamRelease_keeps {s0 : State} (hs0 : s0.Keeps κ) (v) : OutKeeps κ (execStreamRelease v s0) := by
  unfold execStreamRelease
  refine .mmio hs0 fun s hs => ?_
  extract_lets n x areas used s1 s2 _ s3 s4 s5
  have hs1 : s1.Keeps κ := by
    unfold s1
    refine hs.foldl (fun t ht b => ?_) _
    split
    · exact ht
    · exact ht.discardBlock _ _
  have hs2 : s2.Keeps κ := (hs1.setStream _ _).dropF _
  have hs3 : s3.Keeps κ := hs2.keep
  have hs4 : s4.Keeps κ := hs3.place _ _ _
  have hs5 : s5.Keeps κ := hs4.foldl (fun _ ht _ => ht.trySpare _) _
  exact .ite (.next hs) (.ite (.next (hs.count _ _ _)) (.next hs5.keep))

theorem execJournalEvent_keeps {s0 : State} (hs0 : s0.Keeps κ) (ev d) : OutKeeps κ (execJournalEvent ev d s0) := .clocked hs0 fun _ hs => .next (hs.journal _ _)

theorem execHotKeyLoad_keeps {s0 : State} (hs0 : s0.Keeps κ) (k) : OutKeeps κ (execHotKeyLoad k s0) :=
  .clocked hs0 fun _ hs => .ite (.next hs) (.next ((hs.makeHot _).count _ _ _))

/-! ### The functions of Machine/Recovery -/

theorem State.Keeps.voidRecord {s : State} (hs : s.Keeps κ) (j status detail) : (s.voidRecord j status detail).Keeps κ := by
  unfold State.voidRecord
  split
  · split
    · exact hs
    · extract_lets x s1
      have hs1 : s1.Keeps κ := hs.setStream _ _
      exact hs1.giveRecord _ _
  · exact hs

theorem State.Keeps.undoKey {s : State} (hs : s.Keeps κ) (j) : (s.undoKey j).Keeps κ := by
  unfold State.undoKey
  split
  · exact hs
  · extract_lets own _
    exact .ite (hs.keep.removeKey _) hs

theorem State.Keeps.disown {s : State} (hs : s.Keeps κ) (q i) : (s.disown q i).Keeps κ := hs.keep rfl rfl rfl

theorem State.Keeps.chainOn {s : State} (hs : s.Keeps κ) (j) : (s.chainOn j).Keeps κ := .ite (hs.chainStep _ _) hs

theorem State.Keeps.endByRecovery {s : State} (hs : s.Keeps κ) (j detail) : (s.endByRecovery j detail).Keeps κ := by
  unfold State.endByRecovery
  extract_lets dispatched status s1 s2 k s3 s4
  have hs1 : s1.Keeps κ := (((hs.letGo _).undoKey _).disown _ _).voidRecord _ _ _
  have hs2 : s2.Keeps κ := hs1.count _ _ _
  have hs3 : s3.Keeps κ := hs2.updJob _ _ _
  have hs4 : s4.Keeps κ := by
    unfold s4
    split
    · exact hs3.hostWrite _ _ _ _
    · exact hs3
  exact ((hs4.writeW7 _ _).chainOn _).linkDone _

theorem State.Keeps.abortJob {s : State} (hs : s.Keeps κ) (j detail) : (s.abortJob j detail).Keeps κ := by
  unfold State.abortJob
  extract_lets s1
  have hs1 : s1.Keeps κ := (((hs.letGo _).undoKey _).disown _ _).voidRecord _ _ _
  exact (hs1.count _ _ _).updJob _ _ _

theorem State.Keeps.resetJob {s : State} (hs : s.Keeps κ) (j detail) : (s.resetJob j detail).Keeps κ := .ite (hs.reexec _ _) (hs.abortJob _ _)

theorem State.Keeps.resetEntry {s : State} (hs : s.Keeps κ) (q detail i) : (s.resetEntry q detail i).Keeps κ := by
  unfold State.resetEntry
  split
  · exact .ite hs (.ite ((hs.commitWrites _).linkDone _) (hs.endByRecovery _ _))
  · extract_lets _ s1
    have hs1 : s1.Keeps κ := hs.setQueue _ _
    exact (hs1.hostWrite _ _ _ _).count _ _ _

theorem State.Keeps.queueReset {s : State} (hs : s.Keeps κ) (q detail) : (s.queueReset q detail).Keeps κ := by
  unfold State.queueReset
  extract_lets n h tail k s1 tag passed y _ s2 s3 s4 s5
  have hs1 : s1.Keeps κ := hs.foldl (fun _ ht _ => ht.resetEntry _ _ _) _
  have hs2 : s2.Keeps κ := hs1.keep
  have hs3 : s3.Keeps κ := (((hs2.setF _ _ _).setF _ _ _).setF _ _ _).setFlag _ _ _
  have hs4 : s4.Keeps κ := (hs3.setQueue _ _).headWrite _ _
  have hs5 : s5.Keeps κ := hs4.headEvent _ _ _ _
  exact ((hs5.setF _ _ _).setFlag _ _ _).postEvent _ _ _

theorem execQueueReset_keeps {s0 : State} (hs0 : s0.Keeps κ) (q v) : OutKeeps κ (execQueueReset q v s0) := by
  unfold execQueueReset
  refine .mmio hs0 fun s hs => ?_
  extract_lets s1 s2
  have hs1 : s1.Keeps κ := hs.qcPlain _ _
  have hs2 : s2.Keeps κ := (hs1.setFlag _ _ _).setF _ _ _
  exact .next (.ite ((hs2.queueReset _ _).sliceDrained _) hs2)

theorem execSliceReset_keeps {s0 : State} (hs0 : s0.Keeps κ) (sl) : OutKeeps κ (execSliceReset sl s0) := by
  unfold execSliceReset
  refine .mmio hs0 fun s hs => ?_
  split
  · exact .next (hs.cfgRefuse _ _)
  · split
    · exact .next (hs.cfgRefuse _ _)
    · extract_lets s1
      have hs1 : s1.Keeps κ := (hs.setF _ _ _).cfgOk _
      exact .next (hs1.foldl (fun _ ht _ => .ite (ht.queueReset _ _) ((ht.setFlag _ _ _).setF _ _ _)) _)

theorem State.Keeps.dropSlice {s : State} (hs : s.Keeps κ) (sl) : (s.dropSlice sl).Keeps κ := by
  unfold State.dropSlice
  extract_lets qs es queueF ringF s1 t1
  have hs1 : s1.Keeps κ := hs.dropF _
  have ht1 : t1.Keeps κ := hs1.foldl (fun _ ht _ => ht.setQueue _ _) _
  exact ht1.foldl (fun _ ht _ => ht.setRing _ _) _

theorem execSliceResetComplete_keeps {s0 : State} (hs0 : s0.Keeps κ) (sl) : OutKeeps κ (execSliceResetComplete sl s0) := by
  unfold execSliceResetComplete
  refine .clocked hs0 fun s hs => ?_
  split
  · exact .next hs
  · extract_lets s1 _ s2
    have hs1 : s1.Keeps κ := hs.dropSlice _
    have hs2 : s2.Keeps κ := ((hs1.setSlice _ _).setMbxPending _ _).removeKeys _
    exact .next ((hs2.setF _ _ _).setFlag _ _ _)

theorem State.Keeps.finishResets {s : State} (hs : s.Keeps κ) : s.finishResets.Keeps κ := hs.foldl (fun _ ht _ => (ht.queueReset _ _).sliceDrained _) _

theorem State.Keeps.discardJobs {s : State} (hs : s.Keeps κ) (detail) : (s.discardJobs detail).Keeps κ := by
  unfold State.discardJobs
  extract_lets open' s1 _
  have hs1 : s1.Keeps κ := hs.foldl (fun _ ht _ => (((ht.letGo _).undoKey _).disown _ _).voidRecord _ _ _) _
  exact hs1.keep

theorem State.Keeps.dropChannels {s : State} (hs : s.Keeps κ) : s.dropChannels.Keeps κ := by
  unfold State.dropChannels
  extract_lets reqs
  exact hs.keep.foldl (fun _ ht _ => ht.repost _ _) _

theorem State.Keeps.clearFunction {s : State} (hs : s.Keeps .inv) (detail cs) : (s.clearFunction detail cs).Keeps .inv := by
  unfold State.clearFunction
  extract_lets s1 s2 rings s3 s4 _ _
  have hs1 : s1.Keeps .inv := (hs.discardJobs _).dropChannels
  have hs2 : s2.Keeps .inv := hs1.dropClasses _
  have hs3 : s3.Keeps .inv := hs2.of_regs_clocks rfl rfl
  have hs4 : s4.Keeps .inv := hs3.removeKeys _
  exact hs4.keep

theorem execFlr_keeps {s0 : State} (hs0 : s0.Keeps .inv) : OutKeeps .inv (execFlr s0) := by
  unfold execFlr
  refine .clocked hs0 fun s hs => ?_
  extract_lets s1 _
  have hs1 : s1.Keeps .inv := hs.clearFunction _ _
  exact .next hs1.keep

theorem State.Keeps.clearLink {s : State} (hs : s.Keeps .inv) : s.clearLink.Keeps .inv := by
  unfold State.clearLink
  extract_lets s1 p
  have hs1 : s1.Keeps .inv := hs.clearFunction _ _
  exact hs1.keep

theorem execPerstAssert_keeps {s : State} (hs : s.Keeps .inv) : OutKeeps .inv (execPerstAssert s) := by
  unfold execPerstAssert
  extract_lets s1 _ _
  have hs1 : s1.Keeps .inv := hs.awake.clearLink
  exact .next hs1.keep

theorem execPerstRelease_keeps {s : State} (hs : s.Keeps κ) : OutKeeps κ (execPerstRelease s) := by
  unfold execPerstRelease
  exact .ite (.next hs) (.next hs.keep)

theorem execHotReset_keeps {s0 : State} (hs0 : s0.Keeps .inv) : OutKeeps .inv (execHotReset s0) := by
  unfold execHotReset
  refine .clocked hs0 fun s hs => ?_
  extract_lets s1 _
  have hs1 : s1.Keeps .inv := hs.awake.clearLink
  exact .next hs1.keep

theorem execQuarterScrubComplete_keeps {s0 : State} (hs0 : s0.Keeps κ) (c n) : OutKeeps κ (execQuarterScrubComplete c n s0) :=
  .clocked hs0 fun _ hs => .ite (.next (hs.setQuarter _ _ _)) (.next hs)

theorem execScratchPageScrubComplete_keeps {s0 : State} (hs0 : s0.Keeps κ) (g p) : OutKeeps κ (execScratchPageScrubComplete g p s0) := by
  unfold execScratchPageScrubComplete
  refine .clocked hs0 fun s hs => ?_
  extract_lets x y
  exact .ite (.next (hs.setGather _ _)) (.next hs)

/-! ### The functions of Machine/MarCmds -/

theorem State.Keeps.placeMember {s : State} (hs : s.Keeps κ) (j sess pages member c) : (s.placeMember j sess pages member c).Keeps κ := by
  unfold State.placeMember
  split
  · exact hs
  · extract_lets s1 _
    have hs1 : s1.Keeps κ := hs.setQuarter _ _ _
    exact hs1.keep.updJob _ _ _

theorem State.Keeps.takePages {s : State} (hs : s.Keeps κ) (g j pages) : (s.takePages g j pages).Keeps κ := hs.setGather _ _

theorem State.Keeps.placeOn {s : State} (hs : s.Keeps κ) (j cores) : (s.placeOn j cores).Keeps κ := by
  unfold State.placeOn
  extract_lets need g pages
  exact (hs.foldl (fun _ ht _ => ht.placeMember _ _ _ _ _) _).takePages _ _ _

theorem State.Keeps.placeBatch {s : State} (hs : s.Keeps κ) (j) : (s.placeBatch j).Keeps κ := by
  unfold State.placeBatch
  extract_lets n
  split
  · exact hs
  · split
    · exact hs.placeMember _ _ _ _ _
    · exact hs

theorem execJobPlace_keeps {s0 : State} (hs0 : s0.Keeps κ) (q i) : OutKeeps κ (execJobPlace q i s0) := by
  unfold execJobPlace
  refine .clocked hs0 fun s hs => ?_
  split
  · exact .next hs
  · split
    · exact .next hs
    · split
      · exact .next (hs.placeBatch _)
      · split
        · exact .next hs
        · split
          · exact .ite (.next (hs.placeOn _ _)) (.next hs)
          · exact .ite (.next ((hs.count _ _ _).updJob _ _ _)) (.next hs)

theorem execQuarterLoaded_keeps {s0 : State} (hs0 : s0.Keeps κ) (c n inp) : OutKeeps κ (execQuarterLoaded c n inp s0) := by
  unfold execQuarterLoaded
  refine .clocked hs0 fun s hs => ?_
  extract_lets x
  split
  · exact .next hs
  · exact .ite (.next hs) (.next (hs.setQuarter _ _ _))

theorem State.Keeps.haltCore {s : State} (hs : s.Keeps κ) (c f) : (s.haltCore c f).Keeps κ := hs.setCore _ _

theorem State.Keeps.coreFault {s : State} (hs : s.Keeps κ) (c j k pc f0) : (s.coreFault c j k pc f0).Keeps κ := by
  unfold State.coreFault
  extract_lets f s1 s2
  have hs1 : s1.Keeps κ := hs.recordFault _ _ _ _
  have hs2 : s2.Keeps κ := .ite (hs1.count _ _ _) hs1
  exact .ite (hs2.haltCore _ _) ((hs2.count _ _ _).failJob _ _ _)

theorem State.Keeps.switchTo {s : State} (hs : s.Keeps κ) (c n) : (s.switchTo c n).Keeps κ := by
  unfold State.switchTo
  extract_lets x _
  split
  · exact hs
  · extract_lets run s1 s2 s3
    have hs1 : s1.Keeps κ := hs.setCore _ _
    have hs2 : s2.Keeps κ := hs1.setQuarter _ _ _
    have hs3 : s3.Keeps κ := .ite (hs2.updJob _ _ _) hs2
    split
    · exact .ite (hs3.coreFault _ _ _ _ _) hs3
    · exact hs3

theorem execCoreSwitch_keeps {s0 : State} (hs0 : s0.Keeps κ) (c) : OutKeeps κ (execCoreSwitch c s0) := by
  unfold execCoreSwitch
  refine .clocked hs0 fun s hs => ?_
  split
  · exact .next (hs.switchTo _ _)
  · exact .next hs

theorem State.Keeps.endRun {s : State} (hs : s.Keeps κ) (c n) : (s.endRun c n).Keeps κ := by
  unfold State.endRun
  extract_lets r _
  split
  · exact hs
  · exact .ite hs (hs.setQuarter _ _ _)

theorem State.Keeps.afterStep {s : State} (hs : s.Keeps κ) (c n j k pc e) : (s.afterStep c n j k pc e).Keeps κ := by
  unfold State.afterStep
  split
  · exact (hs.putExe _ _ _ _).coreFault _ _ _ _ _
  · exact (hs.putExe _ _ _ _).endRun _ _

theorem State.Keeps.releaseSync {s : State} (hs : s.Keeps κ) (j) : (s.releaseSync j).Keeps κ := hs.foldl (fun _ ht _ => .ite (ht.setCore _ _) ht) _

theorem State.Keeps.waitCycle {s : State} (hs : s.Keeps κ) (c n j k masks hash) : (s.waitCycle c n j k masks hash).Keeps κ := by
  unfold State.waitCycle
  extract_lets x _ _ s1 e
  have hs1 : s1.Keeps κ := (hs.setCore _ _).setQuarter _ _ _
  exact hs1.afterStep _ _ _ _ _ _

theorem State.Keeps.runBundle {s : State} (hs : s.Keeps κ) (c n j k f) : (s.runBundle c n j k f).Keeps κ := by
  unfold State.runBundle
  extract_lets _ _ _ s1
  have hs1 : s1.Keeps κ := (hs.setCore _ _).setQuarter _ _ _
  exact hs1.afterStep _ _ _ _ _ _

theorem State.Keeps.stepCore {s : State} (hs : s.Keeps κ) (c n j k) : (s.stepCore c n j k).Keeps κ := by
  unfold State.stepCore
  extract_lets r b
  exact .ite hs (.ite (.ite (hs.waitCycle _ _ _ _ _ _) (hs.endRun _ _)) (.ite (.ite (hs.releaseSync _) (hs.waitCycle _ _ _ _ _ _)) (.ite (hs.waitCycle _ _ _ _ _ _) (.ite (hs.waitCycle _ _ _ _ _ _) (hs.runBundle _ _ _ _ _)))))

theorem execBundleExecute_keeps {s0 : State} (hs0 : s0.Keeps κ) (c) : OutKeeps κ (execBundleExecute c s0) := by
  unfold execBundleExecute
  refine .clocked hs0 fun s hs => ?_
  split
  · exact .next hs
  · split
    · exact .next hs
    · split
      · exact .next hs
      · exact .next (hs.stepCore _ _ _ _)

theorem State.Keeps.stallFrom {s : State} (hs : s.Keeps κ) (j since) : (s.stallFrom j since).Keeps κ := (hs.stallJob _).updJob _ _ _

theorem execJobSuspend_keeps {s0 : State} (hs0 : s0.Keeps κ) (c) : OutKeeps κ (execJobSuspend c s0) := by
  unfold execJobSuspend
  refine .clocked hs0 fun s hs => ?_
  split
  · exact .next hs
  · split
    · exact .next hs
    · extract_lets r x s1 _
      have hs1 : s1.Keeps κ := (hs.stallFrom _ _).setQuarter _ _ _
      exact .ite (.next hs) (.next ((hs1.setCore _ _).count _ _ _))

theorem execJobUnsuspend_keeps {s0 : State} (hs0 : s0.Keeps κ) (c n) : OutKeeps κ (execJobUnsuspend c n s0) :=
  .clocked hs0 fun _ hs => .ite (.next (hs.switchTo _ _)) (.next hs)

theorem State.Keeps.drained' {s : State} (hs : s.Keeps κ) (j k x3 inp) : (s.drained' j k x3 inp).Keeps κ := by
  unfold State.drained'
  extract_lets fmt d _
  exact hs.endJob _ _ _

theorem execDrainComplete_keeps {s0 : State} (hs0 : s0.Keeps κ) (q i inp) : OutKeeps κ (execDrainComplete q i inp s0) := by
  unfold execDrainComplete
  refine .clocked hs0 fun s hs => ?_
  split
  · exact .next hs
  · split
    · exact .next hs
    · extract_lets l s1
      have hs1 : s1.Keeps κ := by
        unfold s1
        split
        · exact hs
        · split
          · exact .ite (hs.drained' _ _ _ _) hs
          · exact hs
      split
      · exact .next (.getD (hs1.endExecution _) hs1)
      · exact .next hs1

theorem State.Keeps.unplace {s : State} (hs : s.Keeps κ) (j) : (s.unplace j).Keeps κ := (hs.scrubJob _ _).updJob _ _ _

theorem State.Keeps.resetCore {s : State} (hs : s.Keeps κ) (c) : (s.resetCore c).Keeps κ := by
  unfold State.resetCore
  extract_lets s1 s2 times _ s3 s4
  have hs1 : s1.Keeps κ := by
    unfold s1
    refine hs.foldl (fun t ht n => ?_) _
    split
    · exact ht
    · split
      · exact ht.resetJob _ _
      · exact ht.resetJob _ _
      · exact ht.resetJob _ _
      · exact ht.unplace _
      · exact ht.unplace _
      · exact ht
  have hs2 : s2.Keeps κ := hs1.foldl (fun _ ht _ => ht.scrubQuarter _ _) _
  have hs3 : s3.Keeps κ := (hs2.setCore _ _).count _ _ _
  have hs4 : s4.Keeps κ := hs3.raiseErr _ _ _ _
  exact .ite ((hs4.setF _ _ _).raiseErr _ _ _ _) hs4

theorem execMarCoreReset_keeps {s0 : State} (hs0 : s0.Keeps κ) (c ecc bundle) : OutKeeps κ (execMarCoreReset c ecc bundle s0) := by
  unfold execMarCoreReset
  refine .clocked hs0 fun s hs => ?_
  extract_lets s1
  have hs1 : s1.Keeps κ := .ite ((hs.count _ _ _).raiseErr _ _ _ _) hs
  exact .next (hs1.resetCore _)

theorem execMarCoreEnableWrite_keeps {s0 : State} (hs0 : s0.Keeps κ) (v) : OutKeeps κ (execMarCoreEnableWrite v s0) := by
  unfold execMarCoreEnableWrite
  refine .mmio hs0 fun s hs => ?_
  extract_lets s1
  have hs1 : s1.Keeps κ := hs.backOnline _ _ _
  exact .ite (.next (hs.count _ _ _)) (.next (hs1.setF _ _ _))

theorem State.Keeps.resumeCore {s : State} (hs : s.Keeps κ) (c n j k f lane) : (s.resumeCore c n j k f lane).Keeps κ := by
  unfold State.resumeCore
  extract_lets _ s1
  have hs1 : s1.Keeps κ := hs.setCore _ _
  exact hs1.afterStep _ _ _ _ _ _

theorem execMarFaultResume_keeps {s0 : State} (hs0 : s0.Keeps κ) (c v) : OutKeeps κ (execMarFaultResume c v s0) := by
  unfold execMarFaultResume
  refine .mmio hs0 fun s hs => ?_
  extract_lets lane s1 _
  have hs1 : s1.Keeps κ := .ite (hs.setF _ _ _) hs
  split
  · exact .next hs1
  · split
    · split
      · exact .next (hs1.count _ _ _)
      · split
        · exact .next (hs1.setCore _ _)
        · split
          · exact .next (hs1.setCore _ _)
          · exact .next (hs1.resumeCore _ _ _ _ _ _)
    · exact .next (hs1.count _ _ _)

/-! ### The functions of Machine/Admin -/

theorem execTimeStamp_keeps {s : State} (hs : s.Keeps κ) (q i inp) : OutKeeps κ (execTimeStamp q i inp s) := by
  unfold execTimeStamp
  refine .onJob hs fun j t ht => ?_
  extract_lets d body _
  exact ht.sign _ _ _ fun _ _ hu => hu.endJob _ _ _

theorem execTimeRead_keeps {s : State} (hs : s.Keeps κ) (q i) : OutKeeps κ (execTimeRead q i s) := .onJob hs fun _ _ ht => ht.endJob _ _ _

theorem State.Keeps.putKernel {s : State} (hs : s.Keeps κ) (j k) : (s.putKernel j k).Keeps κ := by
  unfold State.putKernel
  extract_lets old _ s1
  have hs1 : s1.Keeps κ := hs.keep
  exact hs.keep

theorem execKernelLoad_keeps {s : State} (hs : s.Keeps κ) (q i inp) : OutKeeps κ (execKernelLoad q i inp s) := by
  unfold execKernelLoad
  refine .onJob hs fun j t ht => ?_
  split
  · exact ht
  · split
    · exact ht.endJob _ _ _
    · exact (ht.putKernel _ _).endJob _ _ _

theorem execKernelUnload_keeps {s : State} (hs : s.Keeps κ) (q i) : OutKeeps κ (execKernelUnload q i s) := by
  unfold execKernelUnload
  refine .onJob hs fun j t ht => ?_
  split
  · exact ht
  · extract_lets id _ t1
    have ht1 : t1.Keeps κ := ht.keep
    exact .ite ht1 (ht1.endJob _ _ _)

theorem execKernelInfo_keeps {s : State} (hs : s.Keeps κ) (q i) : OutKeeps κ (execKernelInfo q i s) := by
  unfold execKernelInfo
  refine .onJob hs fun j t ht => ?_
  split
  · exact ht
  · extract_lets d
    exact ht.endJob _ _ _

theorem State.Keeps.placeRun {s : State} (hs : s.Keeps κ) (j) : (s.placeRun j).Keeps κ := by
  unfold State.placeRun
  cases s.chooseCores j with
  | none => exact .ite hs hs
  | some l => exact .ite hs (hs.placeOn _ _)

theorem State.Keeps.startQuarters {s : State} (hs : s.Keeps κ) (q i inp k) : (s.startQuarters q i inp k).Keeps κ := by
  unfold State.startQuarters
  refine hs.foldl (fun t ht e => ?_) _
  split
  · exact ht
  · extract_lets x t1
    have ht1 : t1.Keeps κ := .ite (ht.setQuarter _ _ _) ht
    exact .ite (ht1.switchTo _ _) ht1

theorem State.Keeps.runTeam {s : State} (hs : s.Keeps κ) (q i k n) : (s.runTeam q i k n).Keeps κ := by
  induction n generalizing s with
  | zero => exact hs
  | succ n ih =>
    unfold State.runTeam
    refine .ite hs (ih (hs.foldl (fun t ht e => ?_) _))
    cases t.quarterJob e.1 e.2 with
    | none => exact .ite ht ht
    | some j => exact .ite (ht.stepCore _ _ _ _) ht

theorem execKernelRun_keeps {s : State} (hs : s.Keeps κ) (q i inp) : OutKeeps κ (execKernelRun q i inp s) := by
  unfold execKernelRun
  refine .onJob hs fun j t ht => ?_
  split
  · exact ht
  · extract_lets t1 l
    have ht1 : t1.Keeps κ := ((ht.placeRun _).startQuarters _ _ _ _).runTeam _ _ _ _
    split
    · exact .ite (ht1.drained' _ _ _ _) ht1
    · exact ht1

theorem execPatchQuery_keeps {s : State} (hs : s.Keeps κ) (q i) : OutKeeps κ (execPatchQuery q i s) := by
  unfold execPatchQuery
  refine .onJob hs fun j t ht => ?_
  extract_lets d
  exact ht.endJob _ _ _

theorem execSelfTest_keeps {s : State} (hs : s.Keeps κ) (q i fails) : OutKeeps κ (execSelfTest q i fails s) := by
  unfold execSelfTest
  refine .onJob hs fun j t ht => ?_
  extract_lets bad d t1
  have ht1 : t1.Keeps κ := ht.foldl (fun _ hu _ => hu.raiseFault _ _ _ _) _
  exact ht1.keep.endJob _ _ _

theorem execLcInfo_keeps {s : State} (hs : s.Keeps κ) (q i) : OutKeeps κ (execLcInfo q i s) := by
  unfold execLcInfo
  refine .onJob hs fun j t ht => ?_
  extract_lets d
  exact ht.endJob _ _ _

theorem execAttest_keeps {s : State} (hs : s.Keeps κ) (q i inp) : OutKeeps κ (execAttest q i inp s) := by
  unfold execAttest
  refine .onJob hs fun j t ht => ?_
  extract_lets body sk
  split
  · rename_i u e
    have hu : u.Keeps κ := (ht.jobDraw _ _).of_error e
    exact hu
  · rename_i u e
    have hu : u.Keeps κ := (ht.jobDraw _ _).of_ok e
    extract_lets o
    exact hu.endJob _ _ _

/-! ### The functions of Machine/Reset -/

theorem State.Keeps.reblind {s : State} (hs : s.Keeps κ) : s.reblind.Keeps κ := by
  unfold State.reblind
  refine hs.foldl (fun t ht m => ?_) _
  extract_lets _ u
  have hu : u.Keeps κ := ht.keep
  exact .ite (hu.seedString _) hu

theorem State.Keeps.abandon {s : State} (hs : s.Keeps κ) (l gone) : (s.abandon l gone).Keeps κ :=
  hs.foldl (fun _ ht _ => .ite (ht.abortJob _ _) (ht.resetJob _ _)) _

theorem State.Keeps.eraseLine {s : State} (hs : s.Keeps κ) (gone) : (s.eraseLine gone).Keeps κ := by
  unfold State.eraseLine
  extract_lets hit s1 s2
  have hs1 : s1.Keeps κ := ((hs.abandon _ _).count _ _ _).count _ _ _
  have hs2 : s2.Keeps κ := (hs1.setF _ _ _).setF _ _ _
  exact hs2.keep.reblind

theorem State.Keeps.respondSession {s : State} (hs : s.Keeps κ) : s.respondSession.Keeps κ := by
  unfold State.respondSession
  extract_lets gone
  exact hs.eraseSession.eraseLine _

theorem State.Keeps.respondBound {s : State} (hs : s.Keeps κ) : s.respondBound.Keeps κ := by
  unfold State.respondBound
  extract_lets gone
  exact hs.loseBbk.eraseLine _

theorem State.Keeps.alarm {s : State} (hs : s.Keeps κ) (n det) : (s.alarm n det).Keeps κ := by
  unfold State.alarm
  split
  · exact hs
  · extract_lets s1 _
    have hs1 : s1.Keeps κ := (((hs.setFlag _ _ _).setFlag _ _ _).setF _ _ _).count _ _ _
    exact hs1.keep

theorem State.Keeps.askCount {s : State} (hs : s.Keeps κ) (e buffered pended) : (s.askCount e buffered pended).Keeps κ := .ite (hs.otpAsk _) (hs.setFlag _ _ _)

theorem State.Keeps.runPending {s : State} (hs : s.Keeps κ) : s.runPending.Keeps κ := by
  unfold State.runPending
  extract_lets s1
  have hs1 : s1.Keeps κ := .ite (hs.lockDown.setFlag _ _ _) hs
  exact hs1.foldl (fun _ ht _ => ht.askCount _ _ _) _

theorem State.Keeps.decodeLifeCycle {s : State} (hs : s.Keeps κ) : s.decodeLifeCycle.Keeps κ := by
  unfold State.decodeLifeCycle
  split
  · extract_lets ws
    exact (hs.setF _ _ _).otpAsk _
  · extract_lets s1
    have hs1 : s1.Keeps κ := hs.setF _ _ _
    exact .ite hs1 (hs1.alarm _ _)

theorem State.Keeps.endOfLife {s : State} (hs : s.Keeps κ) : s.endOfLife.Keeps κ := by
  unfold State.endOfLife
  extract_lets ws s1 _ _ s2
  have hs1 : s1.Keeps κ := hs.loseBbk
  have hs2 : s2.Keeps κ := hs1.keep
  exact .ite hs2 (hs2.otpAsk _)

theorem State.Keeps.reportBbk {s : State} (hs : s.Keeps κ) (cause) : (s.reportBbk cause).Keeps κ := ((hs.setFlag _ _ _).setF _ _ _).journal _ _

theorem State.Keeps.loadFrs {s : State} (hs : s.Keeps κ) : s.loadFrs.Keeps κ := by
  unfold State.loadFrs
  extract_lets st _ s1
  have hs1 : s1.Keeps κ := hs.keep
  exact .ite ((hs1.raiseErr _ _ _ _).alarm _ _) hs1

theorem State.Keeps.bootRom {s : State} (hs : s.Keeps κ) : s.bootRom.Keeps κ := by
  unfold State.bootRom
  extract_lets s1 s2 _ s3
  have hs1 : s1.Keeps κ := hs.decodeLifeCycle
  have hs2 : s2.Keeps κ := .ite (hs1.setF _ _ _) hs1
  have hs3 : s3.Keeps κ := hs2.keep.loadClassO.loadFrs
  exact .ite ((hs3.setF _ _ _).endOfLife) (hs3.setF _ _ _)

theorem State.Keeps.dropMain {s : State} (hs : s.Keeps .inv) : s.dropMain.Keeps .inv := by
  unfold State.dropMain
  extract_lets s1
  have hs1 : s1.Keeps .inv := State.Keeps.dropClasses (.ite hs hs.toKeeper) _
  exact hs1.of_regs_clocks rfl rfl

theorem State.Keeps.mainReset {s : State} (hs : s.Keeps .inv) (bbkOk) : (s.mainReset bbkOk).Keeps .inv := by
  unfold State.mainReset
  extract_lets s1 _ s2 s3 s4 _
  have hs1 : s1.Keeps .inv := hs.dropMain.fromKeeper.setF _ _ _
  have hs2 : s2.Keeps .inv := .ite hs1 (hs1.keep.reportBbk _)
  have hs3 : s3.Keeps .inv := .ite hs2 (hs2.loseBbk.reportBbk _)
  have hs4 : s4.Keeps .inv := (hs3.runPending.setF _ _ _).bootRom
  exact hs4.keep

/-! ### The functions of Machine/Tamper -/

theorem State.Keeps.pendCount {s : State} (hs : s.Keeps κ) (n) : (s.pendCount n).Keeps κ := hs.setF _ _ _

theorem State.Keeps.eventUnpowered {s : State} (hs : s.Keeps κ) (sources m) : (s.eventUnpowered sources m).Keeps κ := by
  unfold State.eventUnpowered
  extract_lets pend s1 s2 s3
  have hs1 : s1.Keeps κ := .ite hs.loseBbk hs
  have hs2 : s2.Keeps κ := hs1.putBuf _
  have hs3 : s3.Keeps κ := .ite (hs2.pendCount _) hs2
  exact .ite (hs3.setFlag _ _ _) hs3

theorem State.Keeps.eventErase {s : State} (hs : s.Keeps κ) (m) : (s.eventErase m).Keeps κ := by
  unfold State.eventErase
  extract_lets s1 s2
  have hs1 : s1.Keeps κ := .ite hs.lockDown hs
  have hs2 : s2.Keeps κ := .ite hs1.respondBound hs1
  exact .ite hs2.respondSession hs2

theorem State.Keeps.eventReset {s : State} (hs : s.Keeps .inv) (sources m) : (s.eventReset sources m).Keeps .inv := by
  unfold State.eventReset
  extract_lets pend done s1
  have hs1 : s1.Keeps .inv := (hs.eventErase _).putBuf _
  exact (State.Keeps.ite (hs1.pendCount _) hs1).mainReset _

theorem State.Keeps.halt {s : State} (hs : s.Keeps κ) : s.halt.Keeps κ := by
  unfold State.halt
  extract_lets s1
  have hs1 : s1.Keeps κ := hs.eraseLine _
  exact (hs1.abandon _ _).setFlag _ _ _

theorem State.Keeps.eventCount {s : State} (hs : s.Keeps κ) (e buffered) : (s.eventCount e buffered).Keeps κ :=
  .ite ((hs.pendCount _).askCount _ _ _) (hs.askCount _ _ _)

theorem State.Keeps.eventRunning {s : State} (hs : s.Keeps κ) (sources m) : (s.eventRunning sources m).Keeps κ := by
  unfold State.eventRunning
  extract_lets done e buffered s1 s2 s3 s4 s5
  have hs1 : s1.Keeps κ := hs.eventErase _
  have hs2 : s2.Keeps κ := .ite hs1.halt hs1
  have hs3 : s3.Keeps κ := .ite (hs2.putBuf _) hs2
  have hs4 : s4.Keeps κ := .ite (hs3.eventCount _ _) hs3
  have hs5 : s5.Keeps κ := .ite (hs4.raiseErr _ _ _ _) hs4
  exact .ite hs5 (.ite hs5.evidenceJournal (hs5.tamperRecords _ _ _))

theorem execTamperEventResponse_keeps {s : State} (hs : s.Keeps .inv) : OutKeeps .inv (execTamperEventResponse s) := by
  unfold execTamperEventResponse
  split
  · exact .next hs
  · extract_lets sources _ s1 m
    have hs1 : s1.Keeps .inv := ((hs.keep.count _ _ _).awake).alert _
    exact .next (.ite (hs1.eventUnpowered _ _) (.ite (hs1.eventReset _ _) (hs1.eventRunning _ _)))

theorem execTamperAlarm_keeps {s : State} (hs : s.Keeps κ) (n det) : OutKeeps κ (execTamperAlarm n det s) := .ite (.next hs) (.next (hs.alarm _ _))

theorem execDetectorDisagree_keeps {s : State} (hs : s.Keeps κ) (n) : OutKeeps κ (execDetectorDisagree n s) := by
  unfold execDetectorDisagree
  extract_lets d
  exact .ite (.next hs) (.next ((hs.count _ _ _).alarm _ _))

theorem execFabricCodeMismatch_keeps {s : State} (hs : s.Keeps κ) : OutKeeps κ (execFabricCodeMismatch s) := .next ((hs.count _ _ _).alarm _ _)

theorem execOtpIntegrityCheck_keeps {s : State} (hs : s.Keeps κ) (bad) : OutKeeps κ (execOtpIntegrityCheck bad s) := by
  unfold execOtpIntegrityCheck
  split
  · exact .next hs
  · exact .next ((hs.raiseErr _ _ _ _).alarm _ _)

theorem execTamperConditionEnd_keeps {s : State} (hs : s.Keeps κ) (n) : OutKeeps κ (execTamperConditionEnd n s) := .next (hs.setFlag _ _ _)

theorem execTmpUnlock_keeps {s0 : State} (hs0 : s0.Keeps κ) (v) : OutKeeps κ (execTmpUnlock v s0) :=
  .mmio hs0 fun _ hs => .ite (.next hs) (.ite (.next (hs.count _ _ _)) (.ite (.next hs) (.next ((hs.setFlag _ _ _).journal _ _))))

theorem execTmpResume_keeps {s0 : State} (hs0 : s0.Keeps κ) (v) : OutKeeps κ (execTmpResume v s0) :=
  .mmio hs0 fun _ hs => .ite (.next (hs.setFlag _ _ _)) (.next hs)

theorem execTmpRespLock_keeps {s0 : State} (hs0 : s0.Keeps κ) (v) : OutKeeps κ (execTmpRespLock v s0) :=
  .mmio hs0 fun _ hs => .next (.ite (hs.setFlag _ _ _) hs)

/-! ### The functions of Machine/LifeCycle -/

theorem State.Keeps.lcoRefuse {s : State} (hs : s.Keeps κ) : s.lcoRefuse.Keeps κ := hs.count _ _ _

theorem execLcoTransition_keeps {s0 : State} (hs0 : s0.Keeps κ) (v) : OutKeeps κ (execLcoTransition v s0) := by
  unfold execLcoTransition
  refine .mmio hs0 fun s hs => ?_
  extract_lets t s1 _ s2 s3
  have hs1 : s1.Keeps κ := hs.setFlag _ _ _
  have hs2 : s2.Keeps κ := hs1.keep
  have hs3 : s3.Keeps κ := .ite hs2.respondBound.respondSession hs2
  exact .ite (.next hs.lcoRefuse) (.next (hs3.otpAsk _))

theorem State.Keeps.lifeRecord {s : State} (hs : s.Keeps κ) (t ok) : (s.lifeRecord t ok).Keeps κ := hs.journal _ _

theorem execDiagEnter_keeps {s0 : State} (hs0 : s0.Keeps κ) (v) : OutKeeps κ (execDiagEnter v s0) := by
  unfold execDiagEnter
  refine .mmio hs0 fun s hs => ?_
  extract_lets n s1
  have hs1 : s1.Keeps κ := hs.dropF _
  exact .ite (.next (hs1.otpAsk _)) (.next hs1.lcoRefuse)

theorem execProvFieldWrite_keeps {s0 : State} (hs0 : s0.Keeps κ) (v) : OutKeeps κ (execProvFieldWrite v s0) := by
  unfold execProvFieldWrite
  refine .mmio hs0 fun s hs => ?_
  extract_lets f waiting
  split
  · exact .next hs.lcoRefuse
  · split
    · exact .next hs.lcoRefuse
    · exact .next (hs.otpAsk _)

theorem execProvClose_keeps {s0 : State} (hs0 : s0.Keeps κ) (v) : OutKeeps κ (execProvClose v s0) :=
  .mmio hs0 fun _ hs => .ite (.next (hs.otpAsk _)) (.next hs.lcoRefuse)

theorem State.Keeps.patchRecord {s : State} (hs : s.Keeps κ) (cause) : (s.patchRecord cause).Keeps κ := hs.journal _ _

theorem State.Keeps.countBurned {s : State} (hs : s.Keeps κ) (e buffered pended) : (s.countBurned e buffered pended).Keeps κ := by
  unfold State.countBurned
  extract_lets s1 _
  have hs1 : s1.Keeps κ := .ite (hs.setF _ _ _) hs
  exact hs1.keep.freeBuf

theorem State.Keeps.countFailed {s : State} (hs : s.Keeps κ) (e buffered pended) : (s.countFailed e buffered pended).Keeps κ := by
  unfold State.countFailed
  extract_lets s1 s2
  have hs1 : s1.Keeps κ := hs.raiseErr _ _ _ _
  have hs2 : s2.Keeps κ := .ite hs1 (hs1.setF _ _ _)
  exact .ite hs2 ((hs2.putBuf _).evidenceJournal)

theorem State.Keeps.otpFinish {s : State} (hs : s.Keeps .inv) (o ok) : (s.otpFinish o ok).Keeps .inv := by
  unfold State.otpFinish
  extract_lets s0 _ _
  have hs0 : s0.Keeps .inv := hs.loadClassO
  split
  · exact .ite ((hs0.lifeRecord _ _).mainReset _) ((hs0.lifeRecord _ _).setFlag _ _ _)
  · exact .ite ((((hs.setF _ _ _).loadClassO).loadFrs).count _ _ _) (((hs.setF _ _ _).loadClassO).loadFrs)
  · exact .ite (hs0.keep.mainReset _) hs0
  · exact .ite hs0 (hs0.setF _ _ _)
  · exact hs0
  · exact .ite (hs0.countBurned _ _ _) (hs0.countFailed _ _ _)
  · exact .ite hs0 (.ite hs0.formatBurned.formatAdvance hs0.keep.coldAdvance)
  · exact .ite (hs0.patchRecord _) hs0
  · exact .ite hs0.loadFrs hs0
  · exact hs0

theorem State.Keeps.failBurn {s : State} (hs : s.Keeps κ) (a v) : (s.failBurn a v).Keeps κ :=
  State.Keeps.keep (hs.burn a (Config.freeNat s.free 0 &&& v)) rfl rfl rfl

theorem execOtpWordDone_keeps {s0 : State} (hs0 : s0.Keeps .inv) (ok) : OutKeeps .inv (execOtpWordDone ok s0) := by
  unfold execOtpWordDone
  refine .clocked hs0 fun s hs => ?_
  split
  · exact .next hs
  · split
    · exact .next hs
    · split
      · extract_lets _ s1
        have hs1 : s1.Keeps .inv := hs.keep
        exact .next ((hs1.otpFinish _ _).otpShow)
      · split
        · extract_lets s1 o' _ s2 s2_1
          have hs1 : s1.Keeps .inv := (hs.burn _ _).count _ _ _
          have hs2 : s2.Keeps .inv := hs1.keep
          have hs2_1 : s2_1.Keeps .inv := hs1.keep
          exact .ite (.next ((hs2.otpFinish _ _).otpShow)) (.next hs2_1.loadClassO.otpShow)
        · split
          · extract_lets s1 _
            have hs1 : s1.Keeps .inv := (hs.failBurn _ _).count _ _ _
            exact .next hs1.keep
          · extract_lets s1 _ s2
            have hs1 : s1.Keeps .inv := (hs.failBurn _ _).raiseErr _ _ _ _
            have hs2 : s2.Keeps .inv := hs1.keep
            exact .next ((hs2.otpFinish _ _).otpShow)

/-! ### The functions of Machine/Boot -/

theorem State.Keeps.loadMatch {s : State} (hs : s.Keeps κ) (c i) : (s.loadMatch c i).Keeps κ := by
  unfold State.loadMatch
  extract_lets w
  exact ((hs.setF _ _ _).setF _ _ _).setF _ _ _

theorem State.Keeps.loadBundle {s : State} (hs : s.Keeps κ) (slot d) : (s.loadBundle slot d).Keeps κ := by
  unfold State.loadBundle
  extract_lets c m n img _ _ s1 s2 s3
  have hs1 : s1.Keeps κ := hs.keep
  have hs2 : s2.Keeps κ := (hs1.dropF _).foldl (fun _ ht _ => ht.loadMatch _ _) _
  have hs3 : s3.Keeps κ := ((hs2.setF _ _ _).setF _ _ _).setF _ _ _
  exact ((hs3.setF _ _ _).setF _ _ _).setF _ _ _

theorem State.Keeps.bootFailed {s : State} (hs : s.Keeps κ) (err) : (s.bootFailed err).Keeps κ := (((hs.setF _ _ _).setF _ _ _).raiseErr _ _ _ _).alert _

theorem State.Keeps.cutBurn {s : State} (hs : s.Keeps κ) : s.cutBurn.Keeps κ := by
  unfold State.cutBurn
  split
  · exact hs
  · split
    · exact hs
    · split
      · exact hs
      · exact hs.failBurn _ _

theorem execMainPowerOnReset_keeps {s : State} (hs : s.Keeps .inv) (bbkOk coreLow) : OutKeeps .inv (execMainPowerOnReset bbkOk coreLow s) := by
  unfold execMainPowerOnReset
  split
  · exact .next hs
  · extract_lets s1 _ p s2
    have hs1 : s1.Keeps .inv := hs.cutBurn
    have hs2 : s2.Keeps .inv := hs1.keep
    exact .next (.ite hs2.dropMain (hs2.mainReset _))

theorem execBootBundleLoaded_keeps {s0 : State} (hs0 : s0.Keeps κ) (slot flashOk d) : OutKeeps κ (execBootBundleLoaded slot flashOk d s0) := by
  unfold execBootBundleLoaded
  refine .clocked hs0 fun s hs => ?_
  split
  · exact .next hs
  · extract_lets e _ s1
    have hs1 : s1.Keeps κ := hs.keep
    exact .ite (.next hs) (.ite (.next (hs.loadBundle _ _)) (.ite (.next hs1) (.next (hs1.bootFailed _))))

theorem State.Keeps.glbRefuse {s : State} (hs : s.Keeps κ) : s.glbRefuse.Keeps κ := hs.count _ _ _

theorem State.Keeps.readBundle {s : State} (hs : s.Keeps κ) : s.readBundle.Keeps κ := hs.sendRead _ _ _

theorem execBootRetry_keeps {s0 : State} (hs0 : s0.Keeps κ) (v d) : OutKeeps κ (execBootRetry v d s0) := by
  unfold execBootRetry
  refine .mmio hs0 fun s hs => ?_
  split
  · exact .next hs
  · split
    · exact .next hs.glbRefuse
    · extract_lets b e s1
      have hs1 : s1.Keeps κ := hs.readBundle
      exact .ite (.next (hs1.loadBundle _ _)) (.next (hs1.bootFailed _))

theorem State.Keeps.setOnline {s : State} (hs : s.Keeps κ) (binders cores hash cde bgn str) : (s.setOnline binders cores hash cde bgn str).Keeps κ := by
  unfold State.setOnline
  extract_lets s1
  have hs1 : s1.Keeps κ := (((((hs.setF _ _ _).setF _ _ _).setF _ _ _).setF _ _ _).setF _ _ _).setF _ _ _
  exact hs1.foldl (fun _ ht _ => ht.setF _ _ _) _

theorem State.Keeps.drawFrs {s : State} (hs : s.Keeps κ) : s.drawFrs.Keeps κ := by
  unfold State.drawFrs
  split
  · exact hs
  · split
    · exact hs
    · split
      · rename_i s1 e
        have hs1 : s1.Keeps κ := ((hs.drbgCalls _ _).draw _).of_snd e
        exact hs1.otpAsk _

theorem execBootSelftestComplete_keeps {s0 : State} (hs0 : s0.Keeps κ) (binders cores hash cde bgn str) : OutKeeps κ (execBootSelftestComplete binders cores hash cde bgn str s0) := by
  unfold execBootSelftestComplete
  refine .clocked hs0 fun s hs => ?_
  split
  · exact .next hs
  · extract_lets s1 all s2 s3
    have hs1 : s1.Keeps κ := hs.setOnline _ _ _ _ _ _
    have hs2 : s2.Keeps κ := .ite hs1 ((hs1.setFlag _ _ _).raiseErr _ _ _ _)
    have hs3 : s3.Keeps κ := ((hs2.setFlag _ _ _).setF _ _ _).setF _ _ _
    exact .ite (.next (hs2.bootFailed _)) (.next (hs3.drawFrs.patchRecord _))

theorem execBootProgram_keeps {s0 : State} (hs0 : s0.Keeps κ) (v d) : OutKeeps κ (execBootProgram v d s0) := by
  unfold execBootProgram
  refine .mmio hs0 fun s hs => ?_
  split
  · exact .next hs
  · split
    · exact .next hs.glbRefuse
    · extract_lets b s1 _
      have hs1 : s1.Keeps κ := hs.readBundle
      exact .ite (.next hs1) (.next (hs1.keep.setFlag _ _ _))

theorem execBootProgramComplete_keeps {s0 : State} (hs0 : s0.Keeps κ) (good) : OutKeeps κ (execBootProgramComplete good s0) := by
  unfold execBootProgramComplete
  refine .clocked hs0 fun s hs => ?_
  split
  · exact .next hs
  · extract_lets held _ s1
    have hs1 : s1.Keeps κ := hs.keep
    exact .next ((hs1.setFlag _ _ _).setFlag _ _ _)

theorem execRaiseMin_keeps {s0 : State} (hs0 : s0.Keeps κ) (v) : OutKeeps κ (execRaiseMin v s0) := by
  unfold execRaiseMin
  refine .mmio hs0 fun s hs => ?_
  split
  · exact .next hs
  · extract_lets r
    split
    · exact .next hs.glbRefuse
    · exact .ite (.next hs.glbRefuse) (.ite (.next hs) (.next (hs.otpAsk _)))

/-! ### The functions of Machine/Engines -/

theorem State.Keeps.mulFailed {s : State} (hs : s.Keeps κ) (m) : (s.mulFailed m).Keeps κ := by
  unfold State.mulFailed
  extract_lets l _ s1
  have hs1 : s1.Keeps κ := hs.keep
  exact .ite hs1 ((hs1.setF _ _ _).raiseErr _ _ _ _)

theorem State.Keeps.pipeFailed {s : State} (hs : s.Keeps κ) (p) : (s.pipeFailed p).Keeps κ := by
  unfold State.pipeFailed
  extract_lets l _ s1
  have hs1 : s1.Keeps κ := hs.keep
  exact .ite hs1 ((hs1.setF _ _ _).raiseErr _ _ _ _)

theorem State.Keeps.unitFailed {s : State} (hs : s.Keeps κ) (u) : (s.unitFailed u).Keeps κ := hs.keep rfl rfl rfl

theorem State.Keeps.countFault {s : State} (hs : s.Keeps κ) (unit cause) : (s.countFault unit cause).Keeps κ := by
  unfold State.countFault
  split
  · exact .ite (hs.count _ _ _) hs
  · exact .ite (hs.count _ _ _) hs
  · exact .ite (hs.count _ _ _) (.ite (hs.count _ _ _) (.ite (hs.count _ _ _) hs))
  · exact .ite (hs.count _ _ _) (.ite (hs.count _ _ _) (.ite (hs.count _ _ _) hs))
  · exact .ite (hs.count _ _ _) hs
  · exact hs

theorem State.Keeps.noteUnit {s : State} (hs : s.Keeps κ) (unit part) : (s.noteUnit unit part).Keeps κ := by
  unfold State.noteUnit
  split
  · exact hs.unitFailed _
  · exact hs.mulFailed _
  · exact hs.pipeFailed _
  · exact hs

theorem State.Keeps.takeFault {s : State} (hs : s.Keeps κ) (j unit cause part place) : (s.takeFault j unit cause part place).Keeps κ :=
  (((hs.countFault _ _).raiseFault _ _ _ _).noteUnit _ _).engineFault _ _ _ _

theorem execEngineFault_keeps {s0 : State} (hs0 : s0.Keeps κ) (q i unit cause part place) : OutKeeps κ (execEngineFault q i unit cause part place s0) := by
  unfold execEngineFault
  refine .clocked hs0 fun s hs => ?_
  split
  · exact .next hs
  · split
    · exact .next hs
    · split
      · extract_lets f k
        exact .next ((((hs.countFault _ _).raiseFault _ _ _ _).recordFault _ _ _ _).haltCore _ _)
      · exact .next (hs.takeFault _ _ _ _ _)

theorem execHotStoreEccError_keeps {s0 : State} (hs0 : s0.Keeps κ) (k localOk recordOk) : OutKeeps κ (execHotStoreEccError k localOk recordOk s0) := by
  unfold execHotStoreEccError
  refine .clocked hs0 fun s hs => ?_
  split
  · exact .next hs
  · extract_lets _ s1 holders x
    have hs1 : s1.Keeps κ := hs.keep.raiseErr _ _ _ _
    exact .ite (.next ((hs1.makeHot _).foldl (fun _ ht _ => ht.engineFault _ _ _ _) _)) (.ite (.next ((hs1.removeKey _).foldl (fun _ ht _ => ht.failJob _ _ _) _)) (.ite (.next ((hs1.makeHot _).foldl (fun _ ht _ => ht.engineFault _ _ _ _) _)) (.next (((hs1.setKey _ _).raiseErr _ _ _ _).foldl (fun _ ht _ => ht.failJob _ _ _) _))))

theorem execCdeKeygenAttemptEnd_keeps {s0 : State} (hs0 : s0.Keeps κ) (q i ok replaced) : OutKeeps κ (execCdeKeygenAttemptEnd q i ok replaced s0) := by
  unfold execCdeKeygenAttemptEnd
  refine .clocked hs0 fun s hs => ?_
  split
  · exact .next hs
  · extract_lets s1
    have hs1 : s1.Keeps κ := (hs.count _ _ _).count _ _ _
    exact .ite (.next (hs1.updJob _ _ _)) (.ite (.next (hs1.takeFault _ _ _ _ _)) (.next (hs1.updJob _ _ _)))

theorem execCdePairwiseTest_keeps {s0 : State} (hs0 : s0.Keeps κ) (q i ok) : OutKeeps κ (execCdePairwiseTest q i ok s0) := by
  unfold execCdePairwiseTest
  refine .clocked hs0 fun s hs => ?_
  split
  · exact .next hs
  · exact .ite (execKemKeygen_keeps hs _ _) (.next (hs.takeFault _ _ _ _ _))

theorem execCdeUnitReset_keeps {s0 : State} (hs0 : s0.Keeps κ) (u) : OutKeeps κ (execCdeUnitReset u s0) := by
  unfold execCdeUnitReset
  refine .clocked hs0 fun s hs => ?_
  split
  · exact .next hs
  · extract_lets js s1 times _ s2 s3
    have hs1 : s1.Keeps κ := hs.foldl (fun _ ht _ => ht.resetJob _ _) _
    have hs2 : s2.Keeps κ := hs1.keep
    have hs3 : s3.Keeps κ := (hs2.count _ _ _).raiseErr _ _ _ _
    exact .ite (.next hs3) (.next ((hs3.setF _ _ _).raiseErr _ _ _ _))

theorem execCdeUnitEnableWrite_keeps {s0 : State} (hs0 : s0.Keeps κ) (v) : OutKeeps κ (execCdeUnitEnableWrite v s0) := by
  unfold execCdeUnitEnableWrite
  refine .mmio hs0 fun s hs => ?_
  extract_lets s1
  have hs1 : s1.Keeps κ := hs.backOnline _ _ _
  exact .ite (.next (hs.count _ _ _)) (.next (hs1.setF _ _ _))

theorem execCdeZeroizeComplete_keeps {s0 : State} (hs0 : s0.Keeps κ) (n) : OutKeeps κ (execCdeZeroizeComplete n s0) := by
  unfold execCdeZeroizeComplete
  refine .clocked hs0 fun s hs => ?_
  extract_lets done _
  exact .next hs.keep

theorem OutKeeps.stateOr {o : Out} {s : State} (ho : OutKeeps κ o) (hs : s.Keeps κ) : (o.stateOr s).Keeps κ := by
  unfold Out.stateOr
  split
  · exact ho _ rfl
  · exact hs

theorem State.Keeps.runBgn {s : State} (hs : s.Keeps κ) (q i inp) : (s.runBgn q i inp).Keeps κ := by
  unfold State.runBgn
  split
  · exact hs
  · refine OutKeeps.stateOr ?_ hs
    split
    · exact execKemKeygen_keeps hs _ _
    · exact execKemEncaps_keeps hs _ _ _
    · exact execKemDecaps_keeps hs _ _ _
    · exact execSigKeygen_keeps hs _ _
    · exact execSigSign_keeps hs _ _ _
    · exact execSigVerify_keeps hs _ _ _
    · exact execSigVerifyBatch_keeps hs _ _ _
    · exact execKeyAgree_keeps hs _ _ _
    · exact execHybridKem_keeps hs _ _ _
    · exact execKeyImport_keeps hs _ _ _
    · exact execLedgerCheckpoint_keeps hs _ _
    · exact execTimeStamp_keeps hs _ _ _
    · exact .next hs

theorem execBgnValidationEnd_keeps {s0 : State} (hs0 : s0.Keeps κ) (q i inp) : OutKeeps κ (execBgnValidationEnd q i inp s0) := by
  unfold execBgnValidationEnd
  refine .clocked hs0 fun s hs => ?_
  split
  · exact .next hs
  · extract_lets t
    have ht : t.Keeps κ := hs.runBgn _ _ _
    exact .ite (.next ht) (.next (hs.updJob _ _ _))

theorem execBgnComputationEnd_keeps {s0 : State} (hs0 : s0.Keeps κ) (q i inp equal) : OutKeeps κ (execBgnComputationEnd q i inp equal s0) := by
  unfold execBgnComputationEnd
  refine .clocked hs0 fun s hs => ?_
  split
  · exact .next hs
  · exact .ite (.next (hs.runBgn _ _ _)) (.next (hs.takeFault _ _ _ _ _))

theorem execBgnMulEnableWrite_keeps {s0 : State} (hs0 : s0.Keeps κ) (v) : OutKeeps κ (execBgnMulEnableWrite v s0) := by
  unfold execBgnMulEnableWrite
  refine .mmio hs0 fun s hs => ?_
  extract_lets s1
  have hs1 : s1.Keeps κ := hs.backOnline _ _ _
  exact .ite (.next (hs.count _ _ _)) (.next (hs1.setF _ _ _))

theorem execStrYield_keeps {s0 : State} (hs0 : s0.Keeps κ) (q i) : OutKeeps κ (execStrYield q i s0) := by
  unfold execStrYield
  refine .clocked hs0 fun s hs => ?_
  split
  · exact .next hs
  · extract_lets p l _
    exact .ite (.next hs) (.next (hs.keep.count _ _ _))

theorem execStrPipeEnableWrite_keeps {s0 : State} (hs0 : s0.Keeps κ) (v) : OutKeeps κ (execStrPipeEnableWrite v s0) := by
  unfold execStrPipeEnableWrite
  refine .mmio hs0 fun s hs => ?_
  extract_lets s1
  have hs1 : s1.Keeps κ := hs.backOnline _ _ _
  exact .ite (.next (hs.count _ _ _)) (.next (hs1.setF _ _ _))

/-! ### The functions of Machine/Seq -/

theorem State.Keeps.setThread {s : State} (hs : s.Keeps κ) (b t x3) : (s.setThread b t x3).Keeps κ := hs.keep rfl rfl rfl

theorem State.Keeps.mapThreads {s : State} (hs : s.Keeps κ) (b f) : (s.mapThreads b f).Keeps κ := hs.foldl (fun _ ht _ => ht.setThread _ _ _) _

theorem State.Keeps.recordMicro {s : State} (hs : s.Keeps κ) (b t cause) : (s.recordMicro b t cause).Keeps κ := by
  unfold State.recordMicro
  extract_lets s1
  have hs1 : s1.Keeps κ := .ite (hs.count _ _ _) hs
  exact .ite hs1 (((((hs1.setFlag _ _ _).setFlag _ _ _).setF _ _ _).setF _ _ _).setF _ _ _)

theorem State.Keeps.restartJob {s : State} (hs : s.Keeps κ) (j) : (s.restartJob j).Keeps κ := by
  unfold State.restartJob
  split
  · exact hs
  · exact .ite hs (.ite (((hs.commitWrites _).linkDone _).moveHead _) (hs.resetJob _ _))

theorem State.Keeps.rebind {s : State} (hs : s.Keeps κ) (b) : (s.rebind b).Keeps κ := hs.keep rfl rfl rfl

theorem State.Keeps.restartBinder {s : State} (hs : s.Keeps κ) (b) : (s.restartBinder b).Keeps κ := by
  unfold State.restartBinder
  extract_lets s1 s2 s3 times _ s4 _ s5
  have hs1 : s1.Keeps κ := hs.mapThreads _ _
  have hs2 : s2.Keeps κ := by
    unfold s2
    refine hs1.foldl (fun t ht a => ?_) _
    exact ht.restartJob _
  have hs3 : s3.Keeps κ := (hs2.count _ _ _).raiseErr _ _ _ _
  have hs4 : s4.Keeps κ := hs3.keep
  have hs5 : s5.Keeps κ := hs3.keep
  exact .ite hs4 (.ite (hs4.raiseErr _ _ _ _) (((hs5.setF _ _ _).setF _ _ _).rebind _))

theorem State.Keeps.haltBinder {s : State} (hs : s.Keeps κ) (b t) : (s.haltBinder b t).Keeps κ := by
  unfold State.haltBinder
  extract_lets s1 _
  have hs1 : s1.Keeps κ := hs.mapThreads _ _
  exact (hs1.setThread _ _ _).setF _ _ _

theorem State.Keeps.microFault {s : State} (hs : s.Keeps κ) (b t cause) : (s.microFault b t cause).Keeps κ := by
  unfold State.microFault
  extract_lets s1
  have hs1 : s1.Keeps κ := hs.recordMicro _ _ _
  exact .ite (hs1.haltBinder _ _) (hs1.restartBinder _)

theorem execBinderRestart_keeps {s0 : State} (hs0 : s0.Keeps κ) (b t cause) : OutKeeps κ (execBinderRestart b t cause s0) :=
  .clocked hs0 fun _ hs => .ite (.next hs) (.next ((hs.recordMicro _ _ _).restartBinder _))

theorem execBinderPreciseHalt_keeps {s0 : State} (hs0 : s0.Keeps κ) (b t cause) : OutKeeps κ (execBinderPreciseHalt b t cause s0) :=
  .clocked hs0 fun _ hs => .ite (.next hs) (.next ((hs.recordMicro _ _ _).haltBinder _ _))

theorem execBinderResume_keeps {s0 : State} (hs0 : s0.Keeps κ) (b atNext) : OutKeeps κ (execBinderResume b atNext s0) :=
  .mmio hs0 fun _ hs => .ite (.next hs) (.next ((hs.mapThreads _ _).setF _ _ _))

theorem execSeqBinderEnableWrite_keeps {s0 : State} (hs0 : s0.Keeps κ) (v) : OutKeeps κ (execSeqBinderEnableWrite v s0) := by
  unfold execSeqBinderEnableWrite
  refine .mmio hs0 fun s hs => ?_
  extract_lets old s1 s2 s3 _
  have hs1 : s1.Keeps κ := hs.backOnline _ _ _
  have hs2 : s2.Keeps κ := hs1.setF _ _ _
  have hs3 : s3.Keeps κ := hs2.foldl (fun _ ht _ => .ite (ht.setF _ _ _) ht) _
  exact .ite (.next (hs.count _ _ _)) (.next hs3.keep)

theorem State.Keeps.threadFor {s : State} (hs : s.Keeps κ) (b t q i) : ∀ x, s.threadFor b t q i = some x → x.2.Keeps κ := by
  intro x e
  unfold State.threadFor at e
  extract_lets y at e
  split at e
  · split at e
    · obtain rfl := Option.some.inj e
      exact hs
    · cases e
  · split at e
    · cases e
    · cases hj : s.job? q i with
      | none => simp [hj] at e
      | some j =>
        simp only [hj, Option.ite_none_right_eq_some, Option.some.injEq] at e
        obtain ⟨-, rfl⟩ := e
        exact hs.keep

/-- What a microword's body answers meets the invariant: the state it goes on with does. -/
def MicroKeeps (κ : Kept) (m : Micro) : Prop := ∀ x t, m = .go x t → t.Keeps κ

theorem MicroKeeps.go {x : ThreadX} {s : State} (hs : s.Keeps κ) : MicroKeeps κ (.go x s) := by
  intro y t e
  injection e with _ e
  exact e ▸ hs

theorem MicroKeeps.hold : MicroKeeps κ .hold := by
  intro x t e
  cases e

theorem MicroKeeps.fault {n : Nat} : MicroKeeps κ (.fault n) := by
  intro x t e
  cases e

theorem MicroKeeps.ite {c : Prop} [Decidable c] {a b : Micro} (ha : MicroKeeps κ a) (hb : MicroKeeps κ b) : MicroKeeps κ (if c then a else b) := by
  split
  · exact ha
  · exact hb

theorem State.Keeps.branchTo {s : State} (hs : s.Keeps κ) (x a) : MicroKeeps κ (s.branchTo x a) := .ite (.go hs) .fault

theorem State.Keeps.micro {s : State} (hs : s.Keeps κ) (b t q i cls) {body : ThreadX → State → Micro} (hbody : ∀ x u, u.Keeps κ → MicroKeeps κ (body x u)) :
    (s.micro b t q i cls body).Keeps κ := by
  unfold State.micro
  split
  · exact hs
  · split
    · exact hs
    · rename_i x s1 e
      have hs1 : s1.Keeps κ := hs.threadFor _ _ _ _ _ e
      extract_lets s0 a c
      have hs0 : s0.Keeps κ := hs1.setThread _ _ _
      refine .ite (hs0.microFault _ _ _) (.ite (hs0.microFault _ _ _) (.ite hs (.ite (hs0.microFault _ _ _) ?_)))
      split
      · rename_i y s2 e2
        exact (hbody _ _ hs1 _ _ e2).setThread _ _ _
      · exact hs0
      · exact hs0.microFault _ _ _

theorem execMicrowordAlu_keeps {s : State} (hs : s.Keeps κ) (b t q i o dst src arg) : OutKeeps κ (execMicrowordAlu b t q i o dst src arg s) :=
  .next (hs.micro _ _ _ _ _ fun _ _ hu => .go hu)

theorem State.Keeps.putFieldWord {s : State} (hs : s.Keeps κ) (j f v) : (s.putFieldWord j f v).Keeps κ := by
  unfold State.putFieldWord
  split
  · exact hs.updJob _ _ _
  · exact .ite (hs.setF _ _ _) hs
  · exact hs.updJob _ _ _

theorem execMicrowordField_keeps {s : State} (hs : s.Keeps κ) (b t q i f insert reg lo len) : OutKeeps κ (execMicrowordField b t q i f insert reg lo len s) := by
  refine .next (hs.micro _ _ _ _ _ fun x s1 hs1 => ?_)
  split
  · exact .hold
  · exact .ite (.go hs1) (.ite (.go (hs1.putFieldWord _ _ _)) (.go hs1))

theorem execMicrowordBranch_keeps {s : State} (hs : s.Keeps κ) (b t q i kind cond target) : OutKeeps κ (execMicrowordBranch b t q i kind cond target s) := by
  refine .next (hs.micro _ _ _ _ _ fun x s1 hs1 => ?_)
  refine .ite (.go hs1) ?_
  cases kind with
  | jump => exact hs1.branchTo _ _
  | call => exact hs1.branchTo _ _
  | ret =>
    cases x.calls with
    | nil => exact .fault
    | cons a l => exact hs1.branchTo _ _

theorem execMicrowordDispatch_keeps {s : State} (hs : s.Keeps κ) (b t q i reg table) : OutKeeps κ (execMicrowordDispatch b t q i reg table s) :=
  .next (hs.micro _ _ _ _ _ fun _ _ hu => hu.branchTo _ _)

theorem execMicrowordRequest_keeps {s : State} (hs : s.Keeps κ) (b t q i tag reg) : OutKeeps κ (execMicrowordRequest b t q i tag reg s) :=
  .next (hs.micro _ _ _ _ _ fun _ _ hu => .go hu)

theorem execMicrowordWait_keeps {s : State} (hs : s.Keeps κ) (b t q i tags) : OutKeeps κ (execMicrowordWait b t q i tags s) :=
  .next (hs.micro _ _ _ _ _ fun _ _ hu => .go hu.keep)

theorem execMicrowordCheck_keeps {s : State} (hs : s.Keeps κ) (b t q i cond target inT outT) : OutKeeps κ (execMicrowordCheck b t q i cond target inT outT s) := by
  refine .next (hs.micro _ _ _ _ _ fun x s1 hs1 => ?_)
  refine .ite (.go hs1) ?_
  split
  · exact .go hs1
  · split
    · exact .hold
    · rename_i j s2 e
      have hs2 : s2.Keeps κ := hs1.readTables _ _ _ _ e
      split
      · exact (hs2.recordVerdict _).branchTo _ _
      · exact .go hs2

theorem execMicrowordAccept_keeps {s : State} (hs : s.Keeps κ) (b t q i inT outT) : OutKeeps κ (execMicrowordAccept b t q i inT outT s) := by
  refine .next (hs.micro _ _ _ _ _ fun x s1 hs1 => ?_)
  refine .ite .fault ?_
  split
  · exact .hold
  · refine .ite (.go hs1) ?_
    split
    · exact .hold
    · rename_i k s2 e
      obtain ⟨k0, -, e⟩ := Option.bind_eq_some_iff.1 e
      have hs2 : s2.Keeps κ := hs1.readTables _ _ _ _ e
      split
      · exact .hold
      · exact .go ((hs2.accept _).decided _)

theorem execMicrowordStage_keeps {s : State} (hs : s.Keeps κ) (b t q i src dst at' n to') : OutKeeps κ (execMicrowordStage b t q i src dst at' n to' s) :=
  .next (hs.micro _ _ _ _ _ fun _ _ hu => .go (hu.updJob _ _ _))

theorem execMicrowordCommit_keeps {s : State} (hs : s.Keeps κ) (b t q i) : OutKeeps κ (execMicrowordCommit b t q i s) := by
  refine .next (hs.micro _ _ _ _ _ fun x s1 hs1 => ?_)
  split
  · exact .hold
  · exact .ite .fault (.ite (.go (hs1.updJob _ _ _)) .hold)

theorem State.Keeps.nextWrite {s : State} (hs : s.Keeps κ) (x1 q) : (s.nextWrite x1 q).2.Keeps κ := by
  unfold State.nextWrite
  split
  · extract_lets r
    have hr : r.2.2.Keeps κ := hs.advance _ _
    exact hs.moveHead _
  · exact hs

theorem execMicrowordHostwrite_keeps {s : State} (hs : s.Keeps κ) (b t q i) : OutKeeps κ (execMicrowordHostwrite b t q i s) := by
  refine .next (hs.micro _ _ _ _ _ fun x s1 hs1 => ?_)
  refine .ite .hold (.ite (.go (hs1.nextWrite _ _)) ?_)
  split
  · exact .fault
  · refine .ite .fault (.ite (.go hs1) (.ite (.go ((hs1.writeFrags _ _ _).updJob _ _ _)) ?_))
    split
    · exact .go ((hs1.hostWrite _ _ _ _).updJob _ _ _)
    · exact .go ((hs1.writeW7 _ _).linkDone _)

theorem execMicrowordEnd_keeps {s : State} (hs : s.Keeps κ) (b t q i) : OutKeeps κ (execMicrowordEnd b t q i s) :=
  .next (hs.micro _ _ _ _ _ fun _ _ hu => .go hu)

/-! ### The functions of Machine/Dma -/

theorem State.Keeps.lmLine {s : State} (hs : s.Keeps κ) (l at' d) : (s.lmLine l at' d).Keeps κ := by
  unfold State.lmLine
  extract_lets old _
  exact hs.keep

theorem State.Keeps.lmWrite {s : State} (hs : s.Keeps κ) (a d) : (s.lmWrite a d).Keeps κ := by
  unfold State.lmWrite
  refine hs.foldl (fun t ht l => ?_) _
  extract_lets start
  exact ht.lmLine _ _ _

theorem State.Keeps.setDchan {s : State} (hs : s.Keeps κ) (c x2) : (s.setDchan c x2).Keeps κ := hs.keep rfl rfl rfl

theorem State.Keeps.setDesc {s : State} (hs : s.Keeps κ) (c i d) : (s.setDesc c i d).Keeps κ := hs.keep rfl rfl rfl

theorem State.Keeps.skipUnowned {s : State} (hs : s.Keeps κ) (c n) : (s.skipUnowned c n).Keeps κ := by
  induction n generalizing s with
  | zero => exact hs
  | succ n ih => exact .ite hs (ih (hs.setF _ _ _))

theorem State.Keeps.stagingWrite {s : State} (hs : s.Keeps κ) (a d) : (s.stagingWrite a d).Keeps κ := hs.keep rfl rfl rfl

theorem State.Keeps.burstSource {s : State} (hs : s.Keeps κ) (d data) : (s.burstSource d data).2.Keeps κ := by
  unfold State.burstSource
  extract_lets a
  split
  · exact hs.hostRead _ _ _
  · exact hs
  · exact hs

theorem State.Keeps.burstDest {s : State} (hs : s.Keeps κ) (d w) : (s.burstDest d w).Keeps κ := by
  unfold State.burstDest
  extract_lets a
  split
  · exact hs.hostWrite _ _ _ _
  · exact hs.lmWrite _ _
  · exact hs.stagingWrite _ _

theorem State.Keeps.moveBurst {s : State} (hs : s.Keeps κ) (c d data) : (s.moveBurst c d data).Keeps κ := by
  unfold State.moveBurst
  extract_lets h x
  split
  · exact hs.setDchan _ _
  · split
    · rename_i s1 e
      have hs1 : s1.Keeps κ := (hs.burstSource _ _).of_snd e
      extract_lets s2 s3 s4
      have hs2 : s2.Keeps κ := (hs1.burstDest _ _).count _ _ _
      have hs3 : s3.Keeps κ := hs2.count _ _ _
      have hs4 : s4.Keeps κ := hs3.setDesc _ _ _
      exact .ite (hs4.setDchan _ _) hs4

theorem execDescriptorPost_keeps {s0 : State} (hs0 : s0.Keeps κ) (c a) : OutKeeps κ (execDescriptorPost c a s0) := by
  unfold execDescriptorPost
  refine .clocked hs0 fun s hs => ?_
  extract_lets x s1
  have hs1 : s1.Keeps κ := hs.setDesc _ _ _
  exact .ite (.next hs) (.next ((hs1.setDchan _ _).skipUnowned _ _))

theorem execDmaBurst_keeps {s0 : State} (hs0 : s0.Keeps κ) (c data) : OutKeeps κ (execDmaBurst c data s0) := by
  unfold execDmaBurst
  refine .clocked hs0 fun s hs => ?_
  extract_lets asked ready writes pick _ s0'
  have hs0' : s0'.Keeps κ := hs.keep
  clear_value s0' pick
  cases pick with
  | none => exact .next hs0'
  | some k =>
    dsimp only
    cases s.burstReady k with
    | none => exact .next hs0'
    | some d =>
      refine .next (State.Keeps.moveBurst ?_ _ _ _)
      exact hs.keep

theorem State.Keeps.descOutcome {s : State} (hs : s.Keeps κ) (c d code cause outside) : (s.descOutcome c d code cause outside).Keeps κ := by
  unfold State.descOutcome
  split
  · exact hs
  · split
    · exact hs.failJob _ _ _
    · exact hs.failJob _ _ _
    · exact .ite (hs.takeFault _ _ _ _ _) ((hs.countFault _ _).engineFault _ _ _ _)
    · exact hs.takeFault _ _ _ _ _
    · exact hs.resetJob _ _
    · exact hs

theorem execDmaDescriptorEnd_keeps {s0 : State} (hs0 : s0.Keeps κ) (c) : OutKeeps κ (execDmaDescriptorEnd c s0) := by
  unfold execDmaDescriptorEnd
  refine .clocked hs0 fun s hs => ?_
  extract_lets x h
  split
  · extract_lets s1 s2 s3 s4
    have hs1 : s1.Keeps κ := hs.setDesc _ _ _
    have hs2 : s2.Keeps κ := .ite hs1 (hs1.count _ _ _)
    have hs3 : s3.Keeps κ := .ite (hs2.count _ _ _) hs2
    have hs4 : s4.Keeps κ := (hs3.setDchan _ _).descOutcome _ _ _ _ _
    exact .next ((hs4.setF _ _ _).skipUnowned _ _)
  · exact .next hs

theorem State.Keeps.cancelDesc {s : State} (hs : s.Keeps κ) (k d) : (s.cancelDesc k d).Keeps κ := by
  unfold State.cancelDesc
  extract_lets c _
  exact .ite (hs.setDchan _ _) ((((hs.setDesc _ _ _).setDchan _ _).count _ _ _).count _ _ _)

theorem execDmaCancel_keeps {s0 : State} (hs0 : s0.Keeps κ) (q i) : OutKeeps κ (execDmaCancel q i s0) := by
  unfold execDmaCancel
  refine .clocked hs0 fun s hs => ?_
  split
  · exact .next hs
  · extract_lets mine s1
    have hs1 : s1.Keeps κ := hs.foldl (fun _ ht _ => ht.cancelDesc _ _) _
    exact .next (hs1.foldl (fun _ ht _ => ht.skipUnowned _ _) _)

theorem State.Keeps.lmcCause {s : State} (hs : s.Keeps κ) (cause ch addr) : (s.lmcCause cause ch addr).Keeps κ := by
  unfold State.lmcCause
  extract_lets s1 _
  have hs1 : s1.Keeps κ := hs.raiseErr _ _ _ _
  exact hs1.keep

theorem execLmcMacFailure_keeps {s0 : State} (hs0 : s0.Keeps κ) (w ch addr again) : OutKeeps κ (execLmcMacFailure w ch addr again s0) := by
  unfold execLmcMacFailure
  refine .clocked hs0 fun s hs => ?_
  split
  · exact .next hs
  · extract_lets s1
    have hs1 : s1.Keeps κ := (hs.count _ _ _).lmcCause _ _ _
    split
    · exact .ite (.next (hs1.setDchan _ _)) (.next hs1)
    · split
      · exact .next hs1
      · exact .ite (.next ((hs1.countFault _ _).engineFault _ _ _ _)) (.next hs1)
    · split
      · exact .next hs1
      · exact .ite (.next (hs1.abortJob _ _)) (.next hs1)
    · extract_lets x holders
      exact .ite (.next hs1) (.ite (.next (.ite (hs1.setKey _ _) ((hs1.removeKey _).foldl (fun _ ht _ => ht.failJob _ _ _) _))) (.ite (.next hs1) (.next (((hs1.setKey _ _).raiseErr _ _ _ _).foldl (fun _ ht _ => ht.failJob _ _ _) _))))

theorem execLmcRetrain_keeps {s0 : State} (hs0 : s0.Keeps κ) (cause ch addr jobs) : OutKeeps κ (execLmcRetrain cause ch addr jobs s0) := by
  unfold execLmcRetrain
  refine .clocked hs0 fun s hs => ?_
  split
  · exact .next hs
  · extract_lets s1 fl s2 s3
    have hs1 : s1.Keeps κ := hs.lmcCause _ _ _
    have hs2 : s2.Keeps κ := hs1.foldl (fun _ ht _ => ht.setDchan _ _) _
    have hs3 : s3.Keeps κ := by
      unfold s3
      refine hs2.foldl (fun t ht p => ?_) _
      split
      · exact .ite (ht.resetJob _ _) ht
      · exact ht
    exact .next (hs3.setF _ _ _)

theorem execLmcRetrainComplete_keeps {s0 : State} (hs0 : s0.Keeps κ) : OutKeeps κ (execLmcRetrainComplete s0) := by
  unfold execLmcRetrainComplete
  refine .clocked hs0 fun s hs => ?_
  split
  · exact .next hs
  · extract_lets s1 held
    have hs1 : s1.Keeps κ := hs.setF _ _ _
    exact .ite (.next ((hs1.setF _ _ _).lmcCause _ _ _)) (.next (((hs1.setF _ _ _).recovered _).setF _ _ _))

theorem execLmcQuietTimeExpiry_keeps {s0 : State} (hs0 : s0.Keeps κ) : OutKeeps κ (execLmcQuietTimeExpiry s0) := by
  unfold execLmcQuietTimeExpiry
  refine .clocked hs0 fun s hs => ?_
  split
  · exact .next hs
  · extract_lets v _
    exact .next (hs.keep.setF _ _ _)

theorem execLmcTrainingComplete_keeps {s0 : State} (hs0 : s0.Keeps κ) (gib ranks2 matched) : OutKeeps κ (execLmcTrainingComplete gib ranks2 matched s0) := by
  unfold execLmcTrainingComplete
  refine .clocked hs0 fun s hs => ?_
  split
  · exact .next hs
  · split
    · exact .next (((hs.setF _ _ _).raiseErr _ _ _ _).bootFailed _)
    · split
      · rename_i s1 e
        have hs1 : s1.Keeps κ := (hs.draw _).of_snd e
        extract_lets s2
        have hs2 : s2.Keeps κ := hs1.keep
        exact .next ((((hs2.setF _ _ _).setF _ _ _).setF _ _ _).setFlag _ _ _)

/-! ### The functions of Machine/MarRows -/

theorem State.Keeps.unitRow {s : State} (hs : s.Keeps κ) (c dst src op) : (s.unitRow c dst src op).Keeps κ := by
  unfold State.unitRow
  split
  · exact hs
  · split
    · exact hs
    · split
      · exact hs
      · split
        · exact hs
        · extract_lets r b
          exact .ite hs (.ite (hs.waitCycle _ _ _ _ _ _) (.ite (hs.waitCycle _ _ _ _ _ _) (hs.runBundle _ _ _ _ _)))

/-! ### The functions of Machine/Power -/

theorem execIdleEntry_keeps {s0 : State} (hs0 : s0.Keeps κ) : OutKeeps κ (execIdleEntry s0) := by
  unfold execIdleEntry
  exact .clocked hs0 fun _ hs => .ite (.next hs.keep) (.next hs)

theorem execDozeEntry_keeps {s0 : State} (hs0 : s0.Keeps κ) : OutKeeps κ (execDozeEntry s0) := by
  unfold execDozeEntry
  exact .clocked hs0 fun _ hs => .ite (.next ((hs.keep.count _ _ _).toKeeper)) (.next hs)

theorem execWake_keeps {s : State} (hs : s.Keeps κ) : OutKeeps κ (execWake s) := .next hs.awake

theorem State.Keeps.mainOff {s : State} (hs : s.Keeps .inv) (m) : (s.mainOff m).Keeps .inv := by
  unfold State.mainOff
  extract_lets pme s1 _ _
  have hs1 : s1.Keeps .inv := hs.cutBurn.dropMain
  exact hs1.keep

theorem execMainRailsOff_keeps {s : State} (hs : s.Keeps .inv) : OutKeeps .inv (execMainRailsOff s) := by
  unfold execMainRailsOff
  split
  · exact .next hs.keep
  · extract_lets s1 _
    have hs1 : s1.Keeps .inv := hs.mainOff _
    exact .next hs1.keep

theorem execVauxLoss_keeps {s : State} (hs : s.Keeps .inv) : OutKeeps .inv (execVauxLoss s) := by
  unfold execVauxLoss
  split
  · exact .next hs
  · extract_lets _ s1 _
    have hs1 : s1.Keeps .inv := .ite (hs.mainOff _) hs.keep
    exact .next (hs1.keep.count _ _ _)

theorem execVauxReturn_keeps {s : State} (hs : s.Keeps κ) : OutKeeps κ (execVauxReturn s) := by
  unfold execVauxReturn
  exact .ite (.next hs) (.next hs.keep)

theorem execAoPowerOnReset_keeps {s : State} (hs : s.Keeps .inv) (vaux) : OutKeeps .inv (execAoPowerOnReset vaux s) := by
  have hreset : ∀ t : State, t.tim = {} → t.timeOk := by
    intro t ht
    simp [State.timeOk, ht]
  exact .next ⟨((hs.mainOff _).dropClasses _).1, hreset _ rfl⟩

theorem execDeepWakeSource_keeps {s : State} (hs : s.Keeps κ) (n) : OutKeeps κ (execDeepWakeSource n s) := by
  unfold execDeepWakeSource
  split
  · exact .next hs
  · extract_lets s1 _
    have hs1 : s1.Keeps κ := hs.setF _ _ _
    exact .next hs1.keep

theorem execVbatMeasure_keeps {s : State} (hs : s.Keeps κ) (mv) : OutKeeps κ (execVbatMeasure mv s) := .ite (.next hs) (.next ((hs.setF _ _ _).setFlag _ _ _))

theorem execPmeTurnOff_keeps {s0 : State} (hs0 : s0.Keeps κ) : OutKeeps κ (execPmeTurnOff s0) := by
  unfold execPmeTurnOff
  refine .clocked hs0 fun s hs => ?_
  extract_lets s1 _
  have hs1 : s1.Keeps κ := hs.awake
  exact .next ((hs1.keep.say _).setF _ _ _)

theorem State.Keeps.rate {s : State} (hs : s.Keeps κ) : s.rate.Keeps κ := by
  unfold State.rate
  extract_lets k
  exact (hs.setF _ _ _).setFlag _ _ _

theorem execGovernorWindow_keeps {s0 : State} (hs0 : s0.Keeps κ) (avg cur) : OutKeeps κ (execGovernorWindow avg cur s0) := by
  unfold execGovernorWindow
  refine .clocked hs0 fun s hs => ?_
  extract_lets s1 _ p p_1
  have hs1 : s1.Keeps κ := hs.setF _ _ _
  exact .ite (.next (((hs1.keep.setFlag _ _ _).count _ _ _).rate)) (.next ((hs1.keep.setFlag _ _ _).rate))

theorem execThermalReading_keeps {s : State} (hs : s.Keeps κ) (sensor t) : OutKeeps κ (execThermalReading sensor t s) := by
  unfold execThermalReading
  extract_lets s0 s1 th _ s2 s3 s2_1
  have hs0 : s0.Keeps κ := hs.setF _ _ _
  have hs1 : s1.Keeps κ := .ite (hs0.alert _) hs0
  have hs2 : s2.Keeps κ := hs1.keep
  have hs3 : s3.Keeps κ := .ite (((hs2.count _ _ _).raiseErr _ _ _ _).alert _) hs2
  have hs2_1 : s2_1.Keeps κ := hs1.keep
  exact .ite (.next ((hs3.setFlag _ _ _).rate)) (.ite (.next ((hs2_1.setFlag _ _ _).rate)) (.next hs1))

theorem execThermtrip_keeps {s : State} (hs : s.Keeps κ) : OutKeeps κ (execThermtrip s) := by
  unfold execThermtrip
  split
  · exact .next hs
  · extract_lets s1 _
    have hs1 : s1.Keeps κ := hs.eraseLine _
    exact .next hs1.keep

theorem execBraceEnter_keeps {s0 : State} (hs0 : s0.Keeps κ) (rail mv) : OutKeeps κ (execBraceEnter rail mv s0) := by
  unfold execBraceEnter
  split
  · exact .next hs0
  · extract_lets s _ first s1 s2
    have hs : s.Keeps κ := hs0.awake
    have hs1 : s1.Keeps κ := hs.keep
    have hs2 : s2.Keeps κ := ((((hs1.setFlag _ _ _).setF _ _ _).setFlag _ _ _).raiseErr _ _ _ _).alert _
    exact .ite (.next hs.keep) (.next hs2.otpShow.rate)

theorem execBraceRailRecovery_keeps {s : State} (hs : s.Keeps κ) (rail mv above) : OutKeeps κ (execBraceRailRecovery rail mv above s) := by
  unfold execBraceRailRecovery
  exact .next hs.keep

theorem execBraceLift_keeps {s : State} (hs : s.Keeps κ) (v) : OutKeeps κ (execBraceLift v s) := by
  unfold execBraceLift
  split
  · exact .next hs
  · extract_lets d _ s1 s2 s3
    have hs1 : s1.Keeps κ := hs.keep
    have hs2 : s2.Keeps κ := ((hs1.setFlag _ _ _).setF _ _ _).setFlag _ _ _
    have hs3 : s3.Keeps κ := (hs2.rate.otpShow.storeSettle _).count _ _ _
    exact .next (hs3.journal _ _)

/-! ### The functions of Machine/Pcie -/

theorem execMmioBadRequest_keeps {s0 : State} (hs0 : s0.Keeps κ) (bar a size write) : OutKeeps κ (execMmioBadRequest bar a size write s0) := by
  unfold execMmioBadRequest
  refine .mmio hs0 fun s hs => ?_
  split
  · exact .next hs
  · extract_lets s1
    have hs1 : s1.Keeps κ := hs.count _ _ _
    exact .next (.ite hs1 (hs1.say _))

theorem execMmioMemorySpaceDisabled_keeps {s0 : State} (hs0 : s0.Keeps κ) : OutKeeps κ (execMmioMemorySpaceDisabled s0) :=
  .clocked hs0 fun _ hs => .next (.ite hs (hs.awake.say _))

theorem State.Keeps.linkAt {s : State} (hs : s.Keeps κ) (speed width) : (s.linkAt speed width).Keeps κ :=
  (((hs.setF _ _ _).setF _ _ _).setFlag _ _ _).setF _ _ _

theorem execLinkDownspeed_keeps {s0 : State} (hs0 : s0.Keeps κ) : OutKeeps κ (execLinkDownspeed s0) := by
  unfold execLinkDownspeed
  refine .clocked hs0 fun s hs => ?_
  split
  · exact .next hs
  · split
    · exact .ite (.next hs) (.next (hs.keep.count _ _ _))
    · extract_lets r
      exact .ite (.next hs) (.next (((hs.setF _ _ _).setFlag _ _ _).count _ _ _))

theorem execRetrain_keeps {s0 : State} (hs0 : s0.Keeps κ) (v) : OutKeeps κ (execRetrain v s0) := by
  unfold execRetrain
  refine .mmio hs0 fun s hs => ?_
  extract_lets s1 _
  have hs1 : s1.Keeps κ := (hs.setF _ _ _).setF _ _ _
  exact .ite (.next hs1) (.next hs1.keep)

theorem execLinkDown_keeps {s : State} (hs : s.Keeps .inv) : OutKeeps .inv (execLinkDown s) := by
  unfold execLinkDown
  split
  · exact .next hs
  · extract_lets s1 _ s2
    have hs1 : s1.Keeps .inv := hs.awake.clearLink
    have hs2 : s2.Keeps .inv := hs1.keep
    exact .next (hs2.raiseErr _ _ _ _)

theorem execLinkQuietTimeExpiry_keeps {s0 : State} (hs0 : s0.Keeps κ) : OutKeeps κ (execLinkQuietTimeExpiry s0) := by
  unfold execLinkQuietTimeExpiry
  refine .clocked hs0 fun s hs => ?_
  split
  · exact .next hs
  · extract_lets _ s1 _ s2 _
    have hs1 : s1.Keeps κ := hs.keep
    have hs2 : s2.Keeps κ := hs.keep
    exact .ite (.next (hs.keep.raiseErr _ _ _ _)) (.next hs.keep)

theorem execLinkRecovered_keeps {s0 : State} (hs0 : s0.Keeps κ) (speed width) : OutKeeps κ (execLinkRecovered speed width s0) := by
  unfold execLinkRecovered
  refine .clocked hs0 fun s hs => ?_
  split
  · exact .next hs
  · split
    · exact .next hs
    · extract_lets _ s1 s2
      have hs1 : s1.Keeps κ := hs.keep
      have hs2 : s2.Keeps κ := hs1.linkAt _ _
      exact .next (.ite hs2 (hs2.recovered _))

theorem execLinkUp_keeps {s0 : State} (hs0 : s0.Keeps κ) (speed width) : OutKeeps κ (execLinkUp speed width s0) := by
  unfold execLinkUp
  refine .clocked hs0 fun s hs => ?_
  split
  · exact .next hs
  · split
    · exact .next hs
    · extract_lets _ s1
      have hs1 : s1.Keeps κ := hs.keep.linkAt _ _
      exact .next (.ite (hs1.say _) hs1)

theorem execLinkL1Entry_keeps {s0 : State} (hs0 : s0.Keeps κ) (pm) : OutKeeps κ (execLinkL1Entry pm s0) :=
  .clocked hs0 fun _ hs => .ite (.next hs) (.next (hs.setF _ _ _))

theorem execReceiverError_keeps {s0 : State} (hs0 : s0.Keeps κ) : OutKeeps κ (execReceiverError s0) := .clocked hs0 fun _ hs => .next (hs.count _ _ _)

theorem execReplayTimerTimeout_keeps {s0 : State} (hs0 : s0.Keeps κ) : OutKeeps κ (execReplayTimerTimeout s0) := .clocked hs0 fun _ hs => .next (hs.count _ _ _)

theorem State.Keeps.logAer {s : State} (hs : s.Keeps κ) (cause) : (s.logAer cause).Keeps κ := by
  unfold State.logAer
  extract_lets p b
  exact hs.keep

theorem execHostReadFailure_keeps {s0 : State} (hs0 : s0.Keeps κ) (w cause) : OutKeeps κ (execHostReadFailure w cause s0) := by
  unfold execHostReadFailure
  refine .clocked hs0 fun s hs => ?_
  extract_lets s1
  have hs1 : s1.Keeps κ := hs.logAer _
  split
  · split
    · exact .next hs1
    · exact .ite (.next (hs1.updJob _ _ _)) (.ite (.next (hs1.failJob _ _ _)) (.next hs1))
  · exact .ite (.next (hs1.setDchan _ _)) (.next hs1)
  · split
    · rename_i e
      exact .ite (.next (((hs1.scTake _ _).of_snd e).repost _ _)) (.next hs1)
    · exact .next hs1

theorem State.Keeps.unpend {s : State} (hs : s.Keeps κ) (v) : (s.unpend v).Keeps κ := .ite ((hs.setPba _ _).sendVector _) hs

theorem State.Keeps.unpendAll {s : State} (hs : s.Keeps κ) : s.unpendAll.Keeps κ := hs.foldl (fun _ ht _ => ht.unpend _) _

theorem execMsixUnmask_keeps {s0 : State} (hs0 : s0.Keeps κ) (v) : OutKeeps κ (execMsixUnmask v s0) := by
  unfold execMsixUnmask
  split
  · exact .mmio hs0 fun _ hs => .ite (.next hs) (.next ((hs.setF _ _ _).unpend _))
  · exact .clocked hs0 fun _ hs => .next hs.keep.unpendAll

theorem execLtrIdleTimer_keeps {s0 : State} (hs0 : s0.Keeps κ) : OutKeeps κ (execLtrIdleTimer s0) := .clocked hs0 fun _ hs => .next (.ite (hs.sendLtr _) hs)

theorem execBusMasterDisable_keeps {s0 : State} (hs0 : s0.Keeps κ) (d3) : OutKeeps κ (execBusMasterDisable d3 s0) := by
  unfold execBusMasterDisable
  exact .clocked hs0 fun _ hs => .next hs.keep

theorem State.Keeps.resumeIssue {s : State} (hs : s.Keeps κ) : s.resumeIssue.Keeps κ := by
  unfold State.resumeIssue
  split
  · exact hs
  · extract_lets vectors _
    exact ((hs.keep.foldl (fun _ ht _ => ht.send _) _).foldl (fun _ ht _ => ht.sendVector _) _).finishResets

theorem execBusMasterEnable_keeps {s0 : State} (hs0 : s0.Keeps κ) : OutKeeps κ (execBusMasterEnable s0) := by
  unfold execBusMasterEnable
  exact .clocked hs0 fun _ hs => .next hs.keep.resumeIssue

theorem State.Keeps.cfgWrite {s : State} (hs : s.Keeps .inv) (off v) : (s.cfgWrite off v).Keeps .inv := by
  unfold State.cfgWrite
  split
  · exact .ite (State.Keeps.resumeIssue hs.keep) hs.keep
  · exact .ite (State.Keeps.resumeIssue hs.keep) hs.keep
  · exact State.Keeps.unpendAll hs.keep
  · extract_lets _ s1
    have hs1 : s1.Keeps .inv := hs.keep
    exact .ite ((execFlr_keeps hs1).stateOr hs1) hs1
  · exact hs.keep
  · exact hs.keep
  · exact hs.keep
  · exact hs.keep
  · exact hs.keep
  · exact hs.keep
  · exact hs.keep
  · exact hs.keep
  · exact hs.keep
  · exact hs.keep
  · exact .ite hs.keep hs

theorem execConfigRequest_keeps {s1 : State} (hs1 : s1.Keeps .inv) (off v) : OutKeeps .inv (execConfigRequest off v s1) := by
  unfold execConfigRequest
  refine .clocked hs1 fun s0 hs0 => ?_
  extract_lets s
  have hs : s.Keeps .inv := hs0.awake
  split
  · exact .next (hs.say _)
  · split
    · exact .next (hs.say _)
    · exact .next ((hs.cfgWrite _ _).say _)

theorem execDoeRequest_keeps {s1 : State} (hs1 : s1.Keeps κ) (d) : OutKeeps κ (execDoeRequest d s1) := by
  unfold execDoeRequest
  refine .clocked hs1 fun s0 hs0 => ?_
  extract_lets s _
  have hs : s.Keeps κ := hs0.awake
  exact .ite (.next hs) (.ite (.next hs.keep) (.ite (.next hs) (.next hs.keep)))

theorem State.Keeps.doeAnswer {s : State} (hs : s.Keeps κ) (ty d) : (s.doeAnswer ty d).Keeps κ := by
  unfold State.doeAnswer
  exact hs.keep.say _

theorem execDoeDiscovery_keeps {s0 : State} (hs0 : s0.Keeps κ) : OutKeeps κ (execDoeDiscovery s0) := by
  unfold execDoeDiscovery
  refine .clocked hs0 fun s hs => ?_
  split
  · exact .next hs
  · extract_lets n
    exact .next (hs.doeAnswer _ _)

theorem execDoeAbort_keeps {s0 : State} (hs0 : s0.Keeps κ) : OutKeeps κ (execDoeAbort s0) := by
  unfold execDoeAbort
  exact .clocked hs0 fun _ hs => .next hs.keep

theorem State.Keeps.spdmSay {s : State} (hs : s.Keeps κ) (x1 req resp) : (s.spdmSay x1 req resp).Keeps κ := by
  unfold State.spdmSay
  exact hs.keep.doeAnswer _ _

theorem State.Keeps.spdmError {s : State} (hs : s.Keeps κ) (m code) : (s.spdmError m code).Keeps κ := hs.doeAnswer _ _

theorem execSpdmGetVersion_keeps {s0 : State} (hs0 : s0.Keeps κ) : OutKeeps κ (execSpdmGetVersion s0) := by
  unfold execSpdmGetVersion
  refine .clocked hs0 fun s hs => ?_
  split
  · exact .next hs
  · exact .next (hs.spdmSay _ _ _)

theorem execSpdmGetCapabilities_keeps {s0 : State} (hs0 : s0.Keeps κ) : OutKeeps κ (execSpdmGetCapabilities s0) := by
  unfold execSpdmGetCapabilities
  refine .clocked hs0 fun s hs => ?_
  split
  · exact .next hs
  · split
    · exact .next (hs.spdmError _ _)
    · extract_lets s1 r _
      have hs1 : s1.Keeps κ := hs.keep
      exact .next (hs1.spdmSay _ _ _)

theorem execSpdmNegotiateAlgorithms_keeps {s0 : State} (hs0 : s0.Keeps κ) : OutKeeps κ (execSpdmNegotiateAlgorithms s0) := by
  unfold execSpdmNegotiateAlgorithms
  refine .clocked hs0 fun s hs => ?_
  split
  · exact .next hs
  · split
    · exact .next (hs.spdmError _ _)
    · extract_lets r _
      exact .next (hs.spdmSay _ _ _)

theorem execSpdmGetDigests_keeps {s0 : State} (hs0 : s0.Keeps κ) : OutKeeps κ (execSpdmGetDigests s0) := by
  unfold execSpdmGetDigests
  refine .clocked hs0 fun s hs => ?_
  split
  · exact .next hs
  · exact .ite (.next (hs.spdmError _ _)) (.next (hs.spdmSay _ _ _))

theorem execSpdmGetCertificate_keeps {s0 : State} (hs0 : s0.Keeps κ) : OutKeeps κ (execSpdmGetCertificate s0) := by
  unfold execSpdmGetCertificate
  refine .clocked hs0 fun s hs => ?_
  split
  · exact .next hs
  · split
    · exact .next (hs.spdmError _ _)
    · extract_lets at' n
      exact .ite (.next (hs.spdmError _ _)) (.next (hs.spdmSay _ _ _))

theorem execSpdmChallenge_keeps {s0 : State} (hs0 : s0.Keeps κ) : OutKeeps κ (execSpdmChallenge s0) := by
  unfold execSpdmChallenge
  refine .clocked hs0 fun s hs => ?_
  split
  · exact .next hs
  · split
    · exact .next (hs.spdmError _ _)
    · split
      · exact .next (hs.spdmError _ _)
      · split
        · rename_i s1 e
          have hs1 : s1.Keeps κ := (hs.draw _).of_snd e
          split
          · rename_i s1 e
            have hs1 : s1.Keeps κ := (hs1.draw _).of_snd e
            extract_lets ms body _
            exact .next (hs1.spdmSay _ _ _)

theorem execSpdmGetMeasurements_keeps {s0 : State} (hs0 : s0.Keeps κ) : OutKeeps κ (execSpdmGetMeasurements s0) := by
  unfold execSpdmGetMeasurements
  refine .clocked hs0 fun s hs => ?_
  split
  · exact .next hs
  · split
    · exact .next (hs.spdmError _ _)
    · extract_lets op l rec'
      split
      · exact .next (hs.spdmError _ _)
      · split
        · rename_i s1 e
          have hs1 : s1.Keeps κ := (hs.draw _).of_snd e
          extract_lets body
          split
          · split
            · rename_i s1 e
              have hs1 : s1.Keeps κ := (hs1.draw _).of_snd e
              exact .next (hs1.spdmSay _ _ _)
          · exact .next (hs1.spdmSay _ _ _)

/-! ### The functions of Machine/Uniform -/

theorem State.Keeps.clearCause {s : State} (hs : s.Keeps κ) (blk cause) : (s.clearCause blk cause).Keeps κ := .ite hs (.ite (hs.clearRefused _) (hs.setF _ _ _))

theorem State.Keeps.dropLimit {s : State} (hs : s.Keeps κ) (blk v) : (s.dropLimit blk v).Keeps κ := by
  unfold State.dropLimit
  split
  · exact hs
  · split
    · exact hs
    · extract_lets s1 _
      have hs1 : s1.Keeps κ := hs.setF _ _ _
      exact .ite hs1.keep hs1

theorem execErrStatusClear_keeps {s0 : State} (hs0 : s0.Keeps κ) (blk v) : OutKeeps κ (execErrStatusClear blk v s0) := by
  unfold execErrStatusClear
  refine .mmio hs0 fun s hs => ?_
  extract_lets ent bitsLeft s1
  have hs1 : s1.Keeps κ := (State.Keeps.ite hs (hs.dropLimit _ _)).foldl (fun _ ht _ => ht.clearCause _ _) _
  exact .next (.ite (hs1.entClear _) hs1)

theorem execErrIrqEnWrite_keeps {s0 : State} (hs0 : s0.Keeps κ) (blk v) : OutKeeps κ (execErrIrqEnWrite blk v s0) := by
  unfold execErrIrqEnWrite
  refine .mmio hs0 fun s hs => ?_
  extract_lets old s1
  have hs1 : s1.Keeps κ := hs.setF _ _ _
  exact .ite (.next (hs1.blockVector _)) (.next hs1)

theorem State.Keeps.smbRead {s : State} (hs : s.Keeps κ) (code d withPec) : OutKeeps κ (s.smbRead code d withPec) := by
  unfold State.smbRead
  split
  · exact .next hs
  · extract_lets msg
    exact .next (hs.say _)

theorem execSmbReadTemp_keeps {s : State} (hs : s.Keeps κ) (withPec) : OutKeeps κ (execSmbReadTemp withPec s) := hs.smbRead _ _ _

theorem execSmbReadStatus_keeps {s : State} (hs : s.Keeps κ) (withPec) : OutKeeps κ (execSmbReadStatus withPec s) := hs.smbRead _ _ _

theorem execSmbReadPower_keeps {s : State} (hs : s.Keeps κ) (withPec) : OutKeeps κ (execSmbReadPower withPec s) := hs.smbRead _ _ _

theorem execSmbReadAlertStatus_keeps {s : State} (hs : s.Keeps κ) (withPec) : OutKeeps κ (execSmbReadAlertStatus withPec s) := hs.smbRead _ _ _

theorem execSmbReadPowerLimit_keeps {s : State} (hs : s.Keeps κ) (withPec) : OutKeeps κ (execSmbReadPowerLimit withPec s) := hs.smbRead _ _ _

theorem execSmbReadIdentity_keeps {s : State} (hs : s.Keeps κ) (withPec) : OutKeeps κ (execSmbReadIdentity withPec s) := hs.smbRead _ _ _

theorem State.Keeps.clearAlerts {s : State} (hs : s.Keeps κ) (v) : (s.clearAlerts v).Keeps κ := hs.foldl (fun _ ht _ => .ite (ht.setF _ _ _) ht) _

theorem State.Keeps.smbRefuse {s : State} (hs : s.Keeps κ) (code) : (s.smbRefuse code).Keeps κ := ((hs.say _).count _ _ _).raiseErr _ _ _ _

theorem execSmbClearAlertStatus_keeps {s : State} (hs : s.Keeps κ) (v sent) : OutKeeps κ (execSmbClearAlertStatus v sent s) := by
  unfold execSmbClearAlertStatus
  split
  · exact .next hs
  · extract_lets good
    exact .ite (.next (hs.clearAlerts _)) (.next (hs.smbRefuse _))

theorem execSmbBadCommand_keeps {s : State} (hs : s.Keeps κ) (code pecBad) : OutKeeps κ (execSmbBadCommand code pecBad s) :=
  .ite (.next hs) (.next (hs.smbRefuse _))

theorem execSmbAlertResponse_keeps {s : State} (hs : s.Keeps κ) : OutKeeps κ (execSmbAlertResponse s) := by
  unfold execSmbAlertResponse
  exact .ite (.next (hs.keep.say _)) (.next hs)

theorem execSmbClockLowTimeout_keeps {s0 : State} (hs0 : s0.Keeps κ) : OutKeeps κ (execSmbClockLowTimeout s0) := .clocked hs0 fun _ hs => .next hs

/-! ### The functions of Machine/RegWrite -/

theorem State.Keeps.writeField {s : State} (hs : s.Keeps κ) (r i v f) : (s.writeField r i v f).Keeps κ := by
  unfold State.writeField
  extract_lets acc
  exact .ite hs (hs.setF _ _ _)

theorem State.Keeps.writeReg {s : State} (hs : s.Keeps κ) (r i v) : (s.writeReg r i v).Keeps κ := by
  unfold State.writeReg
  extract_lets t was
  have ht : t.Keeps κ := hs.foldl (fun _ ht _ => ht.writeField _ _ _ _) _
  split
  · split
    · exact hs.cfgRefuse _ _
    · refine State.Keeps.cfgOk ?_ _
      unfold t
      exact hs.foldl (fun _ ht _ => ht.writeField _ _ _ _) _
  · refine State.Keeps.cfgOk ?_ _
    unfold t
    exact hs.foldl (fun _ ht _ => ht.writeField _ _ _ _) _
  · exact .ite ((hs.setF _ _ _).setF _ _ _) hs
  · split
    · refine State.Keeps.sourceLost ?_
      unfold t
      exact hs.foldl (fun _ ht _ => ht.writeField _ _ _ _) _
    · unfold t
      exact hs.foldl (fun _ ht _ => ht.writeField _ _ _ _) _
  · split
    · exact hs.clearRefused _
    · unfold t
      exact hs.foldl (fun _ ht _ => ht.writeField _ _ _ _) _
  · exact ht

theorem State.Keeps.plainWrite {s : State} (hs : s.Keeps κ) (r i v) : (s.plainWrite r i v).Keeps κ := .ite hs (hs.writeReg _ _ _)

theorem execRegisterWrite_keeps {s0 : State} (hs0 : s0.Keeps κ) (hκ : κ = .inv ∨ s0.Serves) (r i v) :
    OutKeeps (κ.setHeld r i 0) (execRegisterWrite r i v s0) :=
  .mmioHeld hs0 hκ fun _ hs => .next ((hs.plainWrite _ _ _).setHeld _ _ _)

theorem execReg64LowHalfWrite_keeps {s0 : State} (hs0 : s0.Keeps .inv) (r i v) : OutKeeps .inv (execReg64LowHalfWrite r i v s0) :=
  .mmio hs0 fun _ hs => .ite (.next hs) (.next (hs.setHeld _ _ _))

theorem execReg64HighHalfWrite_keeps {s0 : State} (hs0 : s0.Keeps .inv) (r i v d img) : OutKeeps .inv (execReg64HighHalfWrite r i v d img s0) := by
  unfold execReg64HighHalfWrite
  refine .mmio hs0 fun s hs => ?_
  refine .ite (.next hs) ?_
  extract_lets w s1
  have hs1 : s1.Keeps .inv := hs.setHeld _ _ _
  split
  · exact execSealRangeWrite_keeps hs1 (.inl rfl) _ _
  · exact execSealRangeWrite_keeps hs1 (.inl rfl) _ _
  · exact execSealRangeWrite_keeps hs1 (.inl rfl) _ _
  · exact .ite (execTimeSet_keeps hs1 (.inl rfl) _) (.next hs1)
  · exact execScComplete_keeps hs1 (.inl rfl) _ _ _ _ _
  · exact .next (hs1.plainWrite _ _ _)

theorem execReg64LowHalfRead_keeps {s0 : State} (hs0 : s0.Keeps κ) (r i) : OutKeeps κ (execReg64LowHalfRead r i s0) := by
  unfold execReg64LowHalfRead
  refine .mmio hs0 fun s hs => ?_
  split
  · exact .next hs
  · extract_lets w s1
    have hs1 : s1.Keeps κ := hs.keep
    exact .next (hs1.say _)

/-! ### Every command -/

/-- Every command keeps the invariant: each row of the machine by its own lemma. -/
theorem exec_keeps {s : State} (hs : s.Keeps .inv) : ∀ c, OutKeeps .inv (exec c s)
  | .registerWrite r i v => execRegisterWrite_keeps hs (.inl rfl) r i v
  | .reg64LowHalfWrite r i v => execReg64LowHalfWrite_keeps hs r i v
  | .reg64HighHalfWrite r i v d img => execReg64HighHalfWrite_keeps hs r i v d img
  | .reg64LowHalfRead r i => execReg64LowHalfRead_keeps hs r i
  | .fabricCodeMismatch => execFabricCodeMismatch_keeps hs
  | .mmioBadRequest bar a size write => execMmioBadRequest_keeps hs bar a size write
  | .mmioMemorySpaceDisabled => execMmioMemorySpaceDisabled_keeps hs
  | .linkDownspeed => execLinkDownspeed_keeps hs
  | .retrain v => execRetrain_keeps hs v
  | .linkDown => execLinkDown_keeps hs
  | .linkQuietTimeExpiry => execLinkQuietTimeExpiry_keeps hs
  | .linkRecovered speed width => execLinkRecovered_keeps hs speed width
  | .hostReadFailure w cause => execHostReadFailure_keeps hs w cause
  | .msixUnmask v => execMsixUnmask_keeps hs v
  | .ltrIdleTimer => execLtrIdleTimer_keeps hs
  | .busMasterDisable d3 => execBusMasterDisable_keeps hs d3
  | .busMasterEnable => execBusMasterEnable_keeps hs
  | .flr => execFlr_keeps hs
  | .doeRequest d => execDoeRequest_keeps hs d
  | .doeDiscovery => execDoeDiscovery_keeps hs
  | .doeAbort => execDoeAbort_keeps hs
  | .spdmGetVersion => execSpdmGetVersion_keeps hs
  | .spdmGetCertificate => execSpdmGetCertificate_keeps hs
  | .spdmChallenge => execSpdmChallenge_keeps hs
  | .spdmGetMeasurements => execSpdmGetMeasurements_keeps hs
  | .perstAssert => execPerstAssert_keeps hs
  | .perstRelease => execPerstRelease_keeps hs
  | .hotReset => execHotReset_keeps hs
  | .pmeTurnOff => execPmeTurnOff_keeps hs
  | .ptmExchangeComplete master mid t1 => execPtmExchangeComplete_keeps hs master mid t1
  | .ptmIntervalTimer => execPtmIntervalTimer_keeps hs
  | .sliceEnable sl => execSliceEnable_keeps hs sl
  | .sliceDisable sl => execSliceDisable_keeps hs sl
  | .slicePause sl => execSlicePause_keeps hs sl
  | .sliceUnpause sl => execSliceUnpause_keeps hs sl
  | .sliceReset sl => execSliceReset_keeps hs sl
  | .sliceResetComplete sl => execSliceResetComplete_keeps hs sl
  | .slicePasidWrite sl v => execSlicePasidWrite_keeps hs sl v
  | .pasidPendingClear sl => execPasidPendingClear_keeps hs sl
  | .sliceQueuesWrite sl v => execSliceQueuesWrite_keeps hs sl v
  | .sliceGrantWrite g sl v => execSliceGrantWrite_keeps hs g sl v
  | .t2mSend sl => execT2mSend_keeps hs sl
  | .t2mAck sl => execT2mAck_keeps hs sl
  | .m2tSend sl => execM2tSend_keeps hs sl
  | .m2tAck sl => execM2tAck_keeps hs sl
  | .mailboxWrite sl tenant off d => execMailboxWrite_keeps hs sl tenant off d
  | .dplLogEnable sl en => execDplLogEnable_keeps hs sl en
  | .newRound sl => execNewRound_keeps hs sl
  | .doorbellWrite sl i v => execDoorbellWrite_keeps hs sl i v
  | .entryFetch q k => execEntryFetch_keeps hs q k
  | .entryReceived q i d => execEntryReceived_keeps hs q i d
  | .ownWaitRetry q d => execOwnWaitRetry_keeps hs q d
  | .entryDecode q inT outT => execEntryDecode_keeps hs q inT outT
  | .jobDispatch p => execJobDispatch_keeps hs p
  | .jobPark q i => execJobPark_keeps hs q i
  | .jobResume q i => execJobResume_keeps hs q i
  | .executionEnd q i => execExecutionEnd_keeps hs q i
  | .jobCommit q i => execJobCommit_keeps hs q i
  | .coalTimer e => execCoalTimer_keeps hs e
  | .evrConsWrite e v => execEvrConsWrite_keeps hs e v
  | .evrOverflowClear e => execEvrOverflowClear_keeps hs e
  | .queueEnable q v => execQueueEnable_keeps hs q v
  | .queueDisable q v => execQueueDisable_keeps hs q v
  | .queueReset q v => execQueueReset_keeps hs q v
  | .evrEnable e v => execEvrEnable_keeps hs e v
  | .scPost => execScPost_keeps hs
  | .scHoldoffTimer c => execScHoldoffTimer_keeps hs c
  | .scComplete c tag status d v => execScComplete_keeps hs (.inl rfl) c tag status d v
  | .scSlotTimeout c tag => execScSlotTimeout_keeps hs c tag
  | .scEnable c v => execScEnable_keeps hs c v
  | .scDisable c v => execScDisable_keeps hs c v
  | .nop q i => execNop_keeps hs q i
  | .kemKeygen q i => execKemKeygen_keeps hs q i
  | .kemEncaps q i inp => execKemEncaps_keeps hs q i inp
  | .kemDecaps q i inp => execKemDecaps_keeps hs q i inp
  | .sigKeygen q i => execSigKeygen_keeps hs q i
  | .sigSign q i inp => execSigSign_keeps hs q i inp
  | .sigVerify q i inp => execSigVerify_keeps hs q i inp
  | .sigVerifyBatch q i inp => execSigVerifyBatch_keeps hs q i inp
  | .keyAgree q i inp => execKeyAgree_keeps hs q i inp
  | .hybridKem q i inp => execHybridKem_keeps hs q i inp
  | .hash q i inp => execHash_keeps hs q i inp
  | .hmac q i inp => execHmac_keeps hs q i inp
  | .kmac q i inp => execKmac_keeps hs q i inp
  | .kdf q i inp => execKdf_keeps hs q i inp
  | .aeadEncrypt q i inp => execAeadEncrypt_keeps hs q i inp
  | .aeadDecrypt q i inp => execAeadDecrypt_keeps hs q i inp
  | .xtsEncrypt q i inp => execXtsEncrypt_keeps hs q i inp
  | .xtsDecrypt q i inp => execXtsDecrypt_keeps hs q i inp
  | .keyWrap q i inp => execKeyWrap_keeps hs q i inp
  | .keyUnwrap q i inp => execKeyUnwrap_keeps hs q i inp
  | .cmac q i inp => execCmac_keeps hs q i inp
  | .random q i => execRandom_keeps hs q i
  | .keyImport q i inp => execKeyImport_keeps hs q i inp
  | .keyExportWrapped q i => execKeyExportWrapped_keeps hs q i
  | .keyDestroy q i => execKeyDestroy_keeps hs q i
  | .keyDestroyCommit k => execKeyDestroyCommit_keeps hs k
  | .keyInfo q i => execKeyInfo_keeps hs q i
  | .keyDerive q i inp => execKeyDerive_keeps hs q i inp
  | .statefulReserve q i => execStatefulReserve_keeps hs q i
  | .ledgerAppend q i inp => execLedgerAppend_keeps hs q i inp
  | .ledgerCheckpoint q i => execLedgerCheckpoint_keeps hs q i
  | .ledgerProveInclusion q i => execLedgerProveInclusion_keeps hs q i
  | .ledgerProveConsistency q i => execLedgerProveConsistency_keeps hs q i
  | .ledgerRead q i => execLedgerRead_keeps hs q i
  | .streamOpen q i => execStreamOpen_keeps hs q i
  | .streamClose q i => execStreamClose_keeps hs q i
  | .sealWrite q i inp => execSealWrite_keeps hs q i inp
  | .sealRead q i => execSealRead_keeps hs q i
  | .sealAnchorWarm q i => execSealAnchorWarm_keeps hs q i
  | .sealAnchorCold q i => execSealAnchorCold_keeps hs q i
  | .coldAnchorEpochBurn ok => execColdAnchorEpochBurn_keeps hs ok
  | .timeStamp q i inp => execTimeStamp_keeps hs q i inp
  | .timeRead q i => execTimeRead_keeps hs q i
  | .kernelRun q i inp => execKernelRun_keeps hs q i inp
  | .kernelInfo q i => execKernelInfo_keeps hs q i
  | .kernelLoad q i inp => execKernelLoad_keeps hs q i inp
  | .kernelUnload q i => execKernelUnload_keeps hs q i
  | .patchQuery q i => execPatchQuery_keeps hs q i
  | .selfTest q i fails => execSelfTest_keeps hs q i fails
  | .lcInfo q i => execLcInfo_keeps hs q i
  | .attest q i inp => execAttest_keeps hs q i inp
  | .recordPlace q i => execRecordPlace_keeps hs q i
  | .engineFault q i unit cause part place => execEngineFault_keeps hs q i unit cause part place
  | .binderRestart b t cause => execBinderRestart_keeps hs b t cause
  | .binderPreciseHalt b t cause => execBinderPreciseHalt_keeps hs b t cause
  | .binderResume b atNext => execBinderResume_keeps hs b atNext
  | .seqBinderEnableWrite v => execSeqBinderEnableWrite_keeps hs v
  | .microwordAlu b t q i o dst src arg => execMicrowordAlu_keeps hs b t q i o dst src arg
  | .microwordField b t q i f insert reg lo len => execMicrowordField_keeps hs b t q i f insert reg lo len
  | .microwordBranch b t q i kind cond target => execMicrowordBranch_keeps hs b t q i kind cond target
  | .microwordDispatch b t q i reg table => execMicrowordDispatch_keeps hs b t q i reg table
  | .microwordRequest b t q i tag reg => execMicrowordRequest_keeps hs b t q i tag reg
  | .microwordWait b t q i tags => execMicrowordWait_keeps hs b t q i tags
  | .microwordCheck b t q i cond target inT outT => execMicrowordCheck_keeps hs b t q i cond target inT outT
  | .microwordAccept b t q i inT outT => execMicrowordAccept_keeps hs b t q i inT outT
  | .microwordStage b t q i src dst pos n dest => execMicrowordStage_keeps hs b t q i src dst pos n dest
  | .microwordCommit b t q i => execMicrowordCommit_keeps hs b t q i
  | .microwordHostwrite b t q i => execMicrowordHostwrite_keeps hs b t q i
  | .microwordEnd b t q i => execMicrowordEnd_keeps hs b t q i
  | .jobPlace q i => execJobPlace_keeps hs q i
  | .quarterLoaded c n inp => execQuarterLoaded_keeps hs c n inp
  | .coreSwitch c => execCoreSwitch_keeps hs c
  | .bundleExecute c => execBundleExecute_keeps hs c
  | .jobSuspend c => execJobSuspend_keeps hs c
  | .jobUnsuspend c n => execJobUnsuspend_keeps hs c n
  | .drainComplete q i inp => execDrainComplete_keeps hs q i inp
  | .quarterScrubComplete c n => execQuarterScrubComplete_keeps hs c n
  | .marCoreReset c ecc bundle => execMarCoreReset_keeps hs c ecc bundle
  | .marCoreEnableWrite v => execMarCoreEnableWrite_keeps hs v
  | .marFaultResume c v => execMarFaultResume_keeps hs c v
  | .aluAdd .. => .next (hs.unitRow _ _ _ _)
  | .aluSub .. => .next (hs.unitRow _ _ _ _)
  | .aluAnd .. => .next (hs.unitRow _ _ _ _)
  | .aluOr .. => .next (hs.unitRow _ _ _ _)
  | .aluXor .. => .next (hs.unitRow _ _ _ _)
  | .aluAndn .. => .next (hs.unitRow _ _ _ _)
  | .aluShl .. => .next (hs.unitRow _ _ _ _)
  | .aluShr .. => .next (hs.unitRow _ _ _ _)
  | .aluSar .. => .next (hs.unitRow _ _ _ _)
  | .aluMinu .. => .next (hs.unitRow _ _ _ _)
  | .aluMaxu .. => .next (hs.unitRow _ _ _ _)
  | .aluMul .. => .next (hs.unitRow _ _ _ _)
  | .aluPass .. => .next (hs.unitRow _ _ _ _)
  | .aluCmpeq .. => .next (hs.unitRow _ _ _ _)
  | .aluCmpne .. => .next (hs.unitRow _ _ _ _)
  | .aluCmpltu .. => .next (hs.unitRow _ _ _ _)
  | .aluCmplts .. => .next (hs.unitRow _ _ _ _)
  | .aluCmpleu .. => .next (hs.unitRow _ _ _ _)
  | .valuAdd .. => .next (hs.unitRow _ _ _ _)
  | .valuSub .. => .next (hs.unitRow _ _ _ _)
  | .valuAnd .. => .next (hs.unitRow _ _ _ _)
  | .valuOr .. => .next (hs.unitRow _ _ _ _)
  | .valuXor .. => .next (hs.unitRow _ _ _ _)
  | .valuAndn .. => .next (hs.unitRow _ _ _ _)
  | .valuShl .. => .next (hs.unitRow _ _ _ _)
  | .valuShr .. => .next (hs.unitRow _ _ _ _)
  | .valuSar .. => .next (hs.unitRow _ _ _ _)
  | .valuMinu .. => .next (hs.unitRow _ _ _ _)
  | .valuMaxu .. => .next (hs.unitRow _ _ _ _)
  | .valuMins .. => .next (hs.unitRow _ _ _ _)
  | .valuMaxs .. => .next (hs.unitRow _ _ _ _)
  | .valuCmpeq .. => .next (hs.unitRow _ _ _ _)
  | .valuCmpltu .. => .next (hs.unitRow _ _ _ _)
  | .valuCmplts .. => .next (hs.unitRow _ _ _ _)
  | .valuBlend .. => .next (hs.unitRow _ _ _ _)
  | .valuBcast .. => .next (hs.unitRow _ _ _ _)
  | .valuMullo .. => .next (hs.unitRow _ _ _ _)
  | .valuWiden .. => .next (hs.unitRow _ _ _ _)
  | .valuNarrow .. => .next (hs.unitRow _ _ _ _)
  | .mmulMul .. => .next (hs.unitRow _ _ _ _)
  | .mmulMac .. => .next (hs.unitRow _ _ _ _)
  | .mmulMacz .. => .next (hs.unitRow _ _ _ _)
  | .mmulMld .. => .next (hs.unitRow _ _ _ _)
  | .maddAdd .. => .next (hs.unitRow _ _ _ _)
  | .maddSub .. => .next (hs.unitRow _ _ _ _)
  | .maddRed .. => .next (hs.unitRow _ _ _ _)
  | .maddNeg .. => .next (hs.unitRow _ _ _ _)
  | .maddCent .. => .next (hs.unitRow _ _ _ _)
  | .maddRedq .. => .next (hs.unitRow _ _ _ _)
  | .maddMld .. => .next (hs.unitRow _ _ _ _)
  | .bfyCt .. => .next (hs.unitRow _ _ _ _)
  | .bfyGs .. => .next (hs.unitRow _ _ _ _)
  | .bfyCtp .. => .next (hs.unitRow _ _ _ _)
  | .bfyGsp .. => .next (hs.unitRow _ _ _ _)
  | .bfyMld .. => .next (hs.unitRow _ _ _ _)
  | .fxpSadd .. => .next (hs.unitRow _ _ _ _)
  | .fxpSsub .. => .next (hs.unitRow _ _ _ _)
  | .fxpUadd .. => .next (hs.unitRow _ _ _ _)
  | .fxpUsub .. => .next (hs.unitRow _ _ _ _)
  | .fxpRshru .. => .next (hs.unitRow _ _ _ _)
  | .fxpRshre .. => .next (hs.unitRow _ _ _ _)
  | .fxpSshl .. => .next (hs.unitRow _ _ _ _)
  | .fxpSmulrh .. => .next (hs.unitRow _ _ _ _)
  | .fxpSabs .. => .next (hs.unitRow _ _ _ _)
  | .fxpClamp .. => .next (hs.unitRow _ _ _ _)
  | .fxpGetsat .. => .next (hs.unitRow _ _ _ _)
  | .bitfExt .. => .next (hs.unitRow _ _ _ _)
  | .bitfIns .. => .next (hs.unitRow _ _ _ _)
  | .bitfPack .. => .next (hs.unitRow _ _ _ _)
  | .bitfUnpack .. => .next (hs.unitRow _ _ _ _)
  | .bitfSext .. => .next (hs.unitRow _ _ _ _)
  | .clzClz .. => .next (hs.unitRow _ _ _ _)
  | .clzCtz .. => .next (hs.unitRow _ _ _ _)
  | .clzPopc .. => .next (hs.unitRow _ _ _ _)
  | .permBperm .. => .next (hs.unitRow _ _ _ _)
  | .permBrev .. => .next (hs.unitRow _ _ _ _)
  | .lsuLd .. => .next (hs.unitRow _ _ _ _)
  | .lsuSt .. => .next (hs.unitRow _ _ _ _)
  | .lsuLdr .. => .next (hs.unitRow _ _ _ _)
  | .lsuStr .. => .next (hs.unitRow _ _ _ _)
  | .lsuLdv .. => .next (hs.unitRow _ _ _ _)
  | .lsuStv .. => .next (hs.unitRow _ _ _ _)
  | .lsuStvm .. => .next (hs.unitRow _ _ _ _)
  | .gsuGather .. => .next (hs.unitRow _ _ _ _)
  | .gsuScatter .. => .next (hs.unitRow _ _ _ _)
  | .xsLd .. => .next (hs.unitRow _ _ _ _)
  | .xsSt .. => .next (hs.unitRow _ _ _ _)
  | .xsLdv .. => .next (hs.unitRow _ _ _ _)
  | .xsStv .. => .next (hs.unitRow _ _ _ _)
  | .xsLr .. => .next (hs.unitRow _ _ _ _)
  | .xsSc .. => .next (hs.unitRow _ _ _ _)
  | .hpOpen .. => .next (hs.unitRow _ _ _ _)
  | .hpAbsorb .. => .next (hs.unitRow _ _ _ _)
  | .hpFinal .. => .next (hs.unitRow _ _ _ _)
  | .hpSqueeze .. => .next (hs.unitRow _ _ _ _)
  | .hpSqueeze1 .. => .next (hs.unitRow _ _ _ _)
  | .hpClose .. => .next (hs.unitRow _ _ _ _)
  | .smpUnif12 .. => .next (hs.unitRow _ _ _ _)
  | .smpUnif23 .. => .next (hs.unitRow _ _ _ _)
  | .smpUnif16 .. => .next (hs.unitRow _ _ _ _)
  | .smpCbd2 .. => .next (hs.unitRow _ _ _ _)
  | .smpCbd3 .. => .next (hs.unitRow _ _ _ _)
  | .smpBound2 .. => .next (hs.unitRow _ _ _ _)
  | .smpBound4 .. => .next (hs.unitRow _ _ _ _)
  | .smpRaw .. => .next (hs.unitRow _ _ _ _)
  | .mskRand .. => .next (hs.unitRow _ _ _ _)
  | .mskRandq .. => .next (hs.unitRow _ _ _ _)
  | .mskShare2 .. => .next (hs.unitRow _ _ _ _)
  | .mskShare3 .. => .next (hs.unitRow _ _ _ _)
  | .mskRefresh2 .. => .next (hs.unitRow _ _ _ _)
  | .mskRefresh3 .. => .next (hs.unitRow _ _ _ _)
  | .mskRelease2 .. => .next (hs.unitRow _ _ _ _)
  | .mskRelease3 .. => .next (hs.unitRow _ _ _ _)
  | .twrWrite .. => .next (hs.unitRow _ _ _ _)
  | .ctlJump .. => .next (hs.unitRow _ _ _ _)
  | .ctlCall .. => .next (hs.unitRow _ _ _ _)
  | .ctlBreak .. => .next (hs.unitRow _ _ _ _)
  | .ctlEnd .. => .next (hs.unitRow _ _ _ _)
  | .ctlSync .. => .next (hs.unitRow _ _ _ _)
  | .hashCallStart n q i sha2 masked fin blocks => execHashCallStart_keeps hs n q i sha2 masked fin blocks
  | .hashCallEnd c good storeOk => execHashCallEnd_keeps hs c good storeOk
  | .hashChainCall n q i masked start pos steps value adrs => execHashChainCall_keeps hs n q i masked start pos steps value adrs
  | .maskedCallWaitTimeout n => execMaskedCallWaitTimeout_keeps hs n
  | .hshCoreEnableWrite v => execHshCoreEnableWrite_keeps hs v
  | .cdeKeygenAttemptEnd q i ok replaced => execCdeKeygenAttemptEnd_keeps hs q i ok replaced
  | .cdePairwiseTest q i ok => execCdePairwiseTest_keeps hs q i ok
  | .cdeUnitReset u => execCdeUnitReset_keeps hs u
  | .cdeUnitEnableWrite v => execCdeUnitEnableWrite_keeps hs v
  | .bgnValidationEnd q i inp => execBgnValidationEnd_keeps hs q i inp
  | .bgnComputationEnd q i inp equal => execBgnComputationEnd_keeps hs q i inp equal
  | .bgnMulEnableWrite v => execBgnMulEnableWrite_keeps hs v
  | .strYield q i => execStrYield_keeps hs q i
  | .strPipeEnableWrite v => execStrPipeEnableWrite_keeps hs v
  | .cellHealthFail c test => execCellHealthFail_keeps hs c test
  | .cellRetestComplete c test => execCellRetestComplete_keeps hs c test
  | .entCellEnableWrite v => execEntCellEnableWrite_keeps hs v
  | .conditionerOutput => execConditionerOutput_keeps hs
  | .drbgReseed d => execDrbgReseed_keeps hs d
  | .drbgStall d => execDrbgStall_keeps hs d
  | .stringSeedDelivery k => execStringSeedDelivery_keeps hs k
  | .maskGenReseedRequest k => execMaskGenReseedRequest_keeps hs k
  | .maskGenDeadline k => execMaskGenDeadline_keeps hs k
  | .entStartupTested fails => execEntStartupTested_keeps hs fails
  | .entropyWaitTimeout q i => execEntropyWaitTimeout_keeps hs q i
  | .entQuietTimeExpiry => execEntQuietTimeExpiry_keeps hs
  | .entRestartComplete fails => execEntRestartComplete_keeps hs fails
  | .entErrClearRestart v => execEntErrClearRestart_keeps hs v
  | .entSwDataRead whole => execEntSwDataRead_keeps hs whole
  | .hotKeyLoad k => execHotKeyLoad_keeps hs k
  | .hotStoreEccError k localOk recordOk => execHotStoreEccError_keeps hs k localOk recordOk
  | .commitGroupClose => execCommitGroupClose_keeps hs
  | .sealRetryTimer => execSealRetryTimer_keeps hs
  | .storageTimeLimit q i => execStorageTimeLimit_keeps hs q i
  | .storeOpen v => execStoreOpen_keeps hs v
  | .forceOpen v img => execForceOpen_keeps hs v img
  | .format v => execFormat_keeps hs v
  | .sealCtrlRefused v => execSealCtrlRefused_keeps hs v
  | .sealRangeWrite r v => execSealRangeWrite_keeps hs (.inl rfl) r v
  | .qreStreamStateLoaded img => execQreStreamStateLoaded_keeps hs img
  | .streamRelease v => execStreamRelease_keeps hs v
  | .journalEvent ev d => execJournalEvent_keeps hs ev d
  | .ppsEdge => execPpsEdge_keeps hs
  | .ref10mMeasurement f => execRef10mMeasurement_keeps hs f
  | .slewComplete => execSlewComplete_keeps hs
  | .timSlewRateWrite v => execTimSlewRateWrite_keeps hs v
  | .timeSet sec => execTimeSet_keeps hs (.inl rfl) sec
  | .timeSourceLoss => execTimeSourceLoss_keeps hs
  | .holdoverLimitExpiry => execHoldoverLimitExpiry_keeps hs
  | .timNowRead => execTimNowRead_keeps hs
  | .ppsOutPulse => execPpsOutPulse_keeps hs
  | .descriptorPost c a => execDescriptorPost_keeps hs c a
  | .dmaBurst c data => execDmaBurst_keeps hs c data
  | .dmaDescriptorEnd c => execDmaDescriptorEnd_keeps hs c
  | .dmaCancel q i => execDmaCancel_keeps hs q i
  | .lmcMacFailure w ch addr again => execLmcMacFailure_keeps hs w ch addr again
  | .lmcRetrain cause ch addr jobs => execLmcRetrain_keeps hs cause ch addr jobs
  | .lmcRetrainComplete => execLmcRetrainComplete_keeps hs
  | .lmcQuietTimeExpiry => execLmcQuietTimeExpiry_keeps hs
  | .lmcTrainingComplete gib ranks2 matched => execLmcTrainingComplete_keeps hs gib ranks2 matched
  | .tamperAlarm n det => execTamperAlarm_keeps hs n det
  | .detectorDisagree n => execDetectorDisagree_keeps hs n
  | .tamperEventResponse => execTamperEventResponse_keeps hs
  | .tmpUnlock v => execTmpUnlock_keeps hs v
  | .tmpResume v => execTmpResume_keeps hs v
  | .tmpRespLock v => execTmpRespLock_keeps hs v
  | .otpIntegrityCheck bad => execOtpIntegrityCheck_keeps hs bad
  | .lcoTransition v => execLcoTransition_keeps hs v
  | .otpWordDone ok => execOtpWordDone_keeps hs ok
  | .diagEnter v => execDiagEnter_keeps hs v
  | .provFieldWrite v => execProvFieldWrite_keeps hs v
  | .provClose v => execProvClose_keeps hs v
  | .mainPowerOnReset bbkOk coreLow => execMainPowerOnReset_keeps hs bbkOk coreLow
  | .bootBundleLoaded slot flashOk d => execBootBundleLoaded_keeps hs slot flashOk d
  | .bootSelftestComplete binders cores hash cde bgn str => execBootSelftestComplete_keeps hs binders cores hash cde bgn str
  | .bootRetry v d => execBootRetry_keeps hs v d
  | .bootProgram v d => execBootProgram_keeps hs v d
  | .bootProgramComplete good => execBootProgramComplete_keeps hs good
  | .raiseMin v => execRaiseMin_keeps hs v
  | .idleEntry => execIdleEntry_keeps hs
  | .dozeEntry => execDozeEntry_keeps hs
  | .wake => execWake_keeps hs
  | .mainRailsOff => execMainRailsOff_keeps hs
  | .vauxLoss => execVauxLoss_keeps hs
  | .vauxReturn => execVauxReturn_keeps hs
  | .aoPowerOnReset vaux => execAoPowerOnReset_keeps hs vaux
  | .deepWakeSource n => execDeepWakeSource_keeps hs n
  | .vbatMeasure mv => execVbatMeasure_keeps hs mv
  | .governorWindow avg cur => execGovernorWindow_keeps hs avg cur
  | .thermalReading sensor t => execThermalReading_keeps hs sensor t
  | .thermtrip => execThermtrip_keeps hs
  | .braceEnter rail mv => execBraceEnter_keeps hs rail mv
  | .braceLift v => execBraceLift_keeps hs v
  | .errStatusClear blk v => execErrStatusClear_keeps hs blk v
  | .errIrqEnWrite blk v => execErrIrqEnWrite_keeps hs blk v
  | .smbReadTemp withPec => execSmbReadTemp_keeps hs withPec
  | .smbReadStatus withPec => execSmbReadStatus_keeps hs withPec
  | .smbReadPower withPec => execSmbReadPower_keeps hs withPec
  | .smbReadAlertStatus withPec => execSmbReadAlertStatus_keeps hs withPec
  | .smbClearAlertStatus v sent => execSmbClearAlertStatus_keeps hs v sent
  | .smbReadPowerLimit withPec => execSmbReadPowerLimit_keeps hs withPec
  | .smbReadIdentity withPec => execSmbReadIdentity_keeps hs withPec
  | .smbBadCommand code pecBad => execSmbBadCommand_keeps hs code pecBad
  | .smbAlertResponse => execSmbAlertResponse_keeps hs
  | .smbClockLowTimeout => execSmbClockLowTimeout_keeps hs
  | .spdmGetCapabilities => execSpdmGetCapabilities_keeps hs
  | .spdmNegotiateAlgorithms => execSpdmNegotiateAlgorithms_keeps hs
  | .spdmGetDigests => execSpdmGetDigests_keeps hs
  | .linkUp speed width => execLinkUp_keeps hs speed width
  | .linkL1Entry pm => execLinkL1Entry_keeps hs pm
  | .configRequest off v => execConfigRequest_keeps hs off v
  | .receiverError => execReceiverError_keeps hs
  | .replayTimerTimeout => execReplayTimerTimeout_keeps hs
  | .scratchPageScrubComplete g p => execScratchPageScrubComplete_keeps hs g p
  | .cdeZeroizeComplete n => execCdeZeroizeComplete_keeps hs n
  | .aoTrimMeasurement ppb => execAoTrimMeasurement_keeps hs ppb
  | .ref10mValidityChange ok => execRef10mValidityChange_keeps hs ok
  | .tamperConditionEnd n => execTamperConditionEnd_keeps hs n
  | .braceRailRecovery rail mv above => execBraceRailRecovery_keeps hs rail mv above

/-- A step keeps the invariant: a command runs on the queue's rest, and an idle step only lets time pass. -/
theorem step_keeps {s : State} (hs : s.Keeps .inv) : OutKeeps .inv (step s) := by
  unfold step
  split
  · exact .next hs.idle
  · exact exec_keeps hs.keep _

/-- Settles O6: every function of the machine that answers a state keeps the invariant, so every command and every idle step does. -/
theorem stepKeepsTheInvariant : Obligations.StepKeepsTheInvariant := by
  unfold Obligations.StepKeepsTheInvariant
  intro s t hs
  exact step_keeps hs t

end Sys2Proof.Machine
end

section
/-! ## Register writes by access code (R7) -/

namespace Sys2Proof.Machine
open Sys2Proof

/-! ### The fields of a register -/

theorem regPart_fields_nodup (k : Nat) : ∀ e ∈ regPart k, e.2.2.Nodup := by
  unfold regPart
  split <;> decide +kernel

/-- No register lists a field twice. -/
theorem Reg.fields_nodup (r : Reg) : r.fields.Nodup := by
  unfold Reg.fields
  rw [List.head?_drop]
  cases hx : (regPart (r.ctorIdx / 24))[r.ctorIdx % 24]? with
  | none => exact List.nodup_nil
  | some e => exact regPart_fields_nodup _ e (List.mem_of_getElem? hx)

/-- The bits that a write has for a field fit it. -/
theorem bits_lt_width (v : Nat) (f : Fld) : bits v f.desc.hi f.desc.lo < 2 ^ f.width := Nat.mod_lt _ (Nat.two_pow_pos _)

/-! ### One field of a register written -/

/-- Only the field written can change. -/
theorem State.writeField_getF_ne (s : State) (r : Reg) {f g : Fld} {i j : Nat} (v : Nat) (h : ¬(g = f ∧ j = i)) :
    (s.writeField r i v f).getF g j = s.getF g j := by
  unfold State.writeField
  extract_lets acc
  split
  · rfl
  · rw [State.getF_setF, if_neg h]

/-- Of the state, writing a field changes the registers alone. -/
theorem State.writeField_frame (s : State) (r : Reg) (i v : Nat) (f : Fld) : ∃ m, s.writeField r i v f = { s with regs := m } := by
  unfold State.writeField
  extract_lets acc
  split
  · exact ⟨s.regs, rfl⟩
  · exact ⟨_, rfl⟩

/-- What a field becomes depends on the register's lock and on the field's old value alone. -/
theorem State.writeField_getF_congr {s t : State} {r : Reg} {i : Nat} (v : Nat) {f : Fld} (hlock : t.locked r i = s.locked r i)
    (hold : t.getF f i = s.getF f i) : (t.writeField r i v f).getF f i = (s.writeField r i v f).getF f i := by
  unfold State.writeField
  extract_lets acc
  split
  · exact hold
  · simp only [State.getF_setF, hlock, hold]

/-- A register's lock is no field of it: writing one of its fields leaves the lock. -/
theorem State.writeField_locked (s : State) {r : Reg} {f : Fld} (hf : f ∈ r.fields) (i v : Nat) :
    (s.writeField r i v f).locked r i = s.locked r i := by
  have hflag : ∀ (g : Fld) (j : Nat), g ∉ r.fields → (s.writeField r i v f).flag g j = s.flag g j := by
    intro g j hg
    have hgf : ¬(g = f ∧ j = i) := fun h => hg (h.1 ▸ hf)
    simp only [State.flag, State.writeField_getF_ne s r v hgf]
  unfold State.locked
  split
  case h_12 => rfl
  all_goals exact hflag _ _ (by decide)

/-- A field written, by its access code (R7). -/
theorem State.writeField_getF_same {s : State} (hs : s.regsOk) (r : Reg) (i v : Nat) (f : Fld) :
    (s.writeField r i v f).getF f i =
      match f.desc.acc with
      | .RW => bits v f.desc.hi f.desc.lo
      | .RWL => if s.locked r i then s.getF f i else bits v f.desc.hi f.desc.lo
      | .W1C => (s.getF f i).xor (s.getF f i &&& bits v f.desc.hi f.desc.lo)
      | .W1S => s.getF f i ||| bits v f.desc.hi f.desc.lo
      | .WO => if f = .LCO_DIAG_TOKEN_TOKEN ∨ f = .LCO_PROV_DATA_DATA then bits v f.desc.hi f.desc.lo else s.getF f i
      | .RO => s.getF f i
      | .SAT => s.getF f i := by
  have hold : s.getF f i < 2 ^ f.width := State.getF_lt hs f i
  have hnew : bits v f.desc.hi f.desc.lo < 2 ^ f.width := bits_lt_width v f
  have hclear : s.getF f i ^^^ (s.getF f i &&& bits v f.desc.hi f.desc.lo) < 2 ^ f.width :=
    Nat.xor_lt_two_pow hold (Nat.and_lt_two_pow _ hnew)
  have hset : s.getF f i ||| bits v f.desc.hi f.desc.lo < 2 ^ f.width := Nat.or_lt_two_pow hold hnew
  unfold State.writeField
  cases hacc : f.desc.acc with
  | RW => simp [fieldAfter, Nat.mod_eq_of_lt hnew]
  | RWL =>
    cases hl : s.locked r i with
    | true => simp [fieldAfter, Nat.mod_eq_of_lt hold]
    | false => simp [fieldAfter, Nat.mod_eq_of_lt hnew]
  | W1C => simp [fieldAfter, fieldW1C, Nat.mod_eq_of_lt hclear]
  | W1S => simp [fieldAfter, Nat.mod_eq_of_lt hset]
  | WO =>
    have hheld : heldWO f = decide (f = .LCO_DIAG_TOKEN_TOKEN ∨ f = .LCO_PROV_DATA_DATA) := (Bool.decide_or _ _).symm
    by_cases hw : f = .LCO_DIAG_TOKEN_TOKEN ∨ f = .LCO_PROV_DATA_DATA
    · simp [hheld, hw, fieldAfter, Nat.mod_eq_of_lt hnew]
    · simp [hheld, hw]
  | RO => simp
  | SAT => simp

/-! ### All fields of a register written -/

/-- The fields of a list, written one after the other. -/
def State.writeFields (s : State) (r : Reg) (i v : Nat) (l : List Fld) : State := l.foldl (fun t f => t.writeField r i v f) s

theorem State.writeFields_frame (s : State) (r : Reg) (i v : Nat) (l : List Fld) : ∃ m, s.writeFields r i v l = { s with regs := m } := by
  induction l generalizing s with
  | nil => exact ⟨s.regs, rfl⟩
  | cons f l ih =>
    obtain ⟨m, hm⟩ := s.writeField_frame r i v f
    obtain ⟨n, hn⟩ := ih (s.writeField r i v f)
    rw [hm] at hn
    exact ⟨n, (congrArg (fun t : State => t.writeFields r i v l) hm).trans hn⟩

/-- A field that is not written keeps its value. -/
theorem State.writeFields_getF_ne (s : State) (r : Reg) (i v : Nat) (l : List Fld) {g : Fld} {j : Nat} (h : ¬(g ∈ l ∧ j = i)) :
    (s.writeFields r i v l).getF g j = s.getF g j := by
  induction l generalizing s with
  | nil => rfl
  | cons f l ih =>
    rw [List.mem_cons] at h
    have hrest := ih (s.writeField r i v f) fun k => h ⟨.inr k.1, k.2⟩
    rw [State.writeField_getF_ne s r v fun k => h ⟨.inl k.1, k.2⟩] at hrest
    exact hrest

/-- A field written reads as if it had been written alone: neither the fields before it nor those behind it reach it. -/
theorem State.writeFields_getF_mem (s : State) {r : Reg} (i v : Nat) {l : List Fld} (hl : l.Nodup) (hr : ∀ f ∈ l, f ∈ r.fields) {f : Fld} (hf : f ∈ l) :
    (s.writeFields r i v l).getF f i = (s.writeField r i v f).getF f i := by
  induction l generalizing s with
  | nil => cases hf
  | cons g l ih =>
    obtain ⟨hgl, hl⟩ := List.nodup_cons.1 hl
    have hgr : g ∈ r.fields := hr g (List.mem_cons_self ..)
    by_cases hfg : f = g
    · subst hfg
      exact State.writeFields_getF_ne _ r i v l fun h => hgl h.1
    · have hfl : f ∈ l := (List.mem_cons.1 hf).resolve_left hfg
      have hold : (s.writeField r i v g).getF f i = s.getF f i := State.writeField_getF_ne s r v fun h => hfg h.1
      have hrest := ih (s.writeField r i v g) hl (fun x hx => hr x (List.mem_cons_of_mem _ hx)) hfl
      exact hrest.trans (State.writeField_getF_congr v (s.writeField_locked hgr i v) hold)

/-- Writing a register that does nothing beside its fields writes its fields. -/
theorem State.writeReg_eq_writeFields (s : State) {r : Reg} (i v : Nat)
    (hr : r ∉ [Reg.SLC_SLICE_DPL_BASE, .SLC_SLICE_DPL_CONS, .SLC_T_MBX, .TIM_CTRL, .TMP_SRC_STATUS]) :
    s.writeReg r i v = s.writeFields r i v r.fields := by
  unfold State.writeReg
  split
  case h_6 => rfl
  all_goals simp at hr

/-- A write of a register without a row of its own, outside END_OF_LIFE, is a write of the register. -/
theorem State.plainWrite_eq_writeReg {s : State} {r : Reg} {i v : Nat} (hlife : s.getF .LCO_STATE_STATE 0 ≠ 0xF) (hexists : regExists r i = true)
    (hrow : r ∉ ownRows) (hrowBy : ownRowBy r v = false) : s.plainWrite r i v = s.writeReg r i v := by
  simp [State.plainWrite, hlife, hexists, hrow, hrowBy]

theorem State.Serves.registerWrite {s : State} (hs : s.Serves) (r : Reg) (i : Nat) (v : W64) :
    exec (.registerWrite r i v) s = .next ((s.plainWrite r i v.toNat).setHeld r i 0) :=
  hs.mmio fun t => .next ((t.plainWrite r i v.toNat).setHeld r i 0)

@[simp] theorem State.mget_setHeld_same (s : State) (r : Reg) (i v : Nat) : mget (fun _ => 0) (s.setHeld r i v).heldLow (r, i) = v :=
  mget_mset_same regOrd (fun _ => 0) s.heldLow (r, i) v

theorem State.mget_setHeld_ne (s : State) {r r' : Reg} {i j : Nat} (v : Nat) (h : (r', j) ≠ (r, i)) :
    mget (fun _ => 0) (s.setHeld r i v).heldLow (r', j) = mget (fun _ => 0) s.heldLow (r', j) :=
  mget_mset_ne regOrd (fun _ => 0) s.heldLow v h

/-- Settles O8: outside the excepted registers a write is one write of each of the register's fields, and no two of them meet. -/
theorem registerWriteFollowsAccessCodes : Obligations.RegisterWriteFollowsAccessCodes := by
  unfold Obligations.RegisterWriteFollowsAccessCodes
  intro r i v s hok hserves hlife hexists hrow hrowBy hr
  obtain ⟨m, hm⟩ := s.writeFields_frame r i v.toNat r.fields
  refine ⟨(s.writeFields r i v.toNat r.fields).setHeld r i 0, ?_, fun f hf => ?_, fun f j hf => ?_, fun r' j h => ?_, ?_⟩
  · have hwrite := (State.plainWrite_eq_writeReg hlife hexists hrow hrowBy).trans (s.writeReg_eq_writeFields i v.toNat hr)
    rw [← hwrite]
    exact hserves.registerWrite r i v
  · exact (s.writeFields_getF_mem i v.toNat r.fields_nodup (fun _ h => h) hf).trans (State.writeField_getF_same hok r i v.toNat f)
  · exact s.writeFields_getF_ne r i v.toNat r.fields hf
  · rw [State.mget_setHeld_ne _ 0 (by simpa using h), hm]
  · rw [hm]
    rfl

end Sys2Proof.Machine
end

section
/-! ## The halves of two-part accesses (R5) -/

namespace Sys2Proof.Machine
open Sys2Proof

/-! ### Held low halves -/

theorem mdel_mdel {K α : Type} [DecidableEq K] (m : SMap K α) (k : K) : mdel (mdel m k) k = mdel m k := by
  simp [mdel, List.filter_filter]

theorem mdel_mins {K α : Type} [DecidableEq K] (ord : K → Nat) (m : SMap K α) (k : K) (v : α) : mdel (mins ord m k v) k = mdel m k := by
  induction m with
  | nil => simp [mins, mdel]
  | cons e m ih =>
    unfold mdel at ih ⊢
    unfold mins
    split
    · simp
    · rw [List.filter_cons, List.filter_cons, ih]

/-- Of two writes to one key the second alone counts. -/
theorem mset_mset {K α : Type} [DecidableEq K] [DecidableEq α] (ord : K → Nat) (d : K → α) (m : SMap K α) (k : K) (v w : α) :
    mset ord d (mset ord d m k v) k w = mset ord d m k w := by
  have hdel : mdel (mset ord d m k v) k = mdel m k := by
    unfold mset
    split
    · exact mdel_mdel m k
    · exact (mdel_mins ord _ k v).trans (mdel_mdel m k)
  unfold mset at hdel ⊢
  rw [hdel]

theorem State.setHeld_setHeld (s : State) (r : Reg) (i v w : Nat) : (s.setHeld r i v).setHeld r i w = s.setHeld r i w := by
  unfold State.setHeld
  rw [mset_mset]

theorem State.setHeld_linkExit (s : State) (r : Reg) (i v : Nat) : (s.setHeld r i v).linkExit = s.linkExit.setHeld r i v := by
  have hpm : (s.setHeld r i v).getF .PCI_LINK_STATUS_PM_STATE 0 = s.getF .PCI_LINK_STATUS_PM_STATE 0 := rfl
  unfold State.linkExit
  rw [hpm]
  extract_lets p
  split
  · rfl
  · rfl

theorem State.setHeld_fromKeeper (s : State) (r : Reg) (i v : Nat) : (s.setHeld r i v).fromKeeper = s.fromKeeper.setHeld r i v := by
  have htim : (s.setHeld r i v).tim = s.tim := rfl
  have hnanos : (s.setHeld r i v).timNanos = s.timNanos := rfl
  have hload : ∀ n, (s.setHeld r i v).loadNanos n = (s.loadNanos n).setHeld r i v := fun _ => rfl
  unfold State.fromKeeper
  simp only [htim, hnanos, hload]
  split
  · generalize s.loadNanos _ = t
    rfl
  · rfl

/-- Waking takes no notice of the held halves. -/
theorem State.setHeld_awake (s : State) (r : Reg) (i v : Nat) : (s.setHeld r i v).awake = s.awake.setHeld r i v := by
  unfold State.awake
  rw [State.setHeld_linkExit]
  generalize s.linkExit = t
  have hmode : (t.setHeld r i v).pwr = t.pwr := rfl
  simp only [hmode]
  split
  · rfl
  · exact congrArg State.wakeGens
      (State.setHeld_fromKeeper (({ t with pwr := { t.pwr with mode := .active, since := t.now } } : State).setF .PWR_STATUS_STATE 0 2) r i v)
  · rfl

theorem State.Serves.setHeld {s : State} (hs : s.Serves) (r : Reg) (i v : Nat) : (s.setHeld r i v).Serves := by
  obtain ⟨hrun, hspace, hawake⟩ := hs
  refine ⟨hrun, hspace, ?_⟩
  rw [State.setHeld_awake, hawake]

theorem State.setHeld_view (s : State) (r : Reg) (i v : Nat) (f : Fld) (j : Nat) : (s.setHeld r i v).view f j = s.view f j := by
  unfold State.view
  rfl

/-- No register shows a held half. -/
theorem State.setHeld_regValue (s : State) (r : Reg) (i v : Nat) (r' : Reg) (j : Nat) : (s.setHeld r i v).regValue r' j = s.regValue r' j := by
  have hread : (s.setHeld r i v).readable r' j = s.readable r' j := rfl
  unfold State.regValue
  simp only [hread, State.setHeld_view]

/-! ### Writes that apply a whole value -/

theorem State.setHeld_writeField (s : State) (r : Reg) (i v : Nat) (r' : Reg) (j w : Nat) (f : Fld) :
    (s.setHeld r i v).writeField r' j w f = (s.writeField r' j w f).setHeld r i v := by
  have hlock : (s.setHeld r i v).locked r' j = s.locked r' j := rfl
  have hold : (s.setHeld r i v).getF f j = s.getF f j := rfl
  unfold State.writeField
  rw [hlock, hold]
  extract_lets acc
  split
  · rfl
  · rfl

theorem State.setHeld_writeFields (s : State) (r : Reg) (i v : Nat) (r' : Reg) (j w : Nat) (l : List Fld) :
    (s.setHeld r i v).writeFields r' j w l = (s.writeFields r' j w l).setHeld r i v := by
  induction l generalizing s with
  | nil => rfl
  | cons f l ih => exact (congrArg (State.writeFields · r' j w l) (s.setHeld_writeField r i v r' j w f)).trans (ih _)

/-- Of the registers that do more than their fields, `SLC_SLICE_DPL_BASE` alone is wide. -/
theorem Reg.eq_dplBase_of_wide {r : Reg} (hwide : r.desc.wide = true)
    (hr : r ∈ [Reg.SLC_SLICE_DPL_BASE, .SLC_SLICE_DPL_CONS, .SLC_T_MBX, .TIM_CTRL, .TMP_SRC_STATUS]) : r = .SLC_SLICE_DPL_BASE := by
  simp only [List.mem_cons, List.not_mem_nil, or_false] at hr
  rcases hr with rfl | rfl | rfl | rfl | rfl
  · rfl
  all_goals exact absurd hwide (by decide)

/-- Writing a 64-bit register takes no notice of the held halves. -/
theorem State.setHeld_writeReg (s : State) {r : Reg} (hwide : r.desc.wide = true) (i v w : Nat) :
    (s.setHeld r i v).writeReg r i w = (s.writeReg r i w).setHeld r i v := by
  by_cases hr : r ∈ [Reg.SLC_SLICE_DPL_BASE, .SLC_SLICE_DPL_CONS, .SLC_T_MBX, .TIM_CTRL, .TMP_SRC_STATUS]
  · obtain rfl := Reg.eq_dplBase_of_wide hwide hr
    have hlock : (s.setHeld .SLC_SLICE_DPL_BASE i v).locked .SLC_SLICE_DPL_BASE i = s.locked .SLC_SLICE_DPL_BASE i := rfl
    have hbase : ∀ t : State, t.writeReg .SLC_SLICE_DPL_BASE i w =
        if t.locked .SLC_SLICE_DPL_BASE i then t.cfgRefuse i 1 else (t.writeFields .SLC_SLICE_DPL_BASE i w (Reg.fields .SLC_SLICE_DPL_BASE)).cfgOk i :=
      fun _ => rfl
    rw [hbase, hbase, hlock, State.setHeld_writeFields]
    split
    · rfl
    · rfl
  · rw [State.writeReg_eq_writeFields _ i w hr, State.writeReg_eq_writeFields _ i w hr, State.setHeld_writeFields]

theorem State.setHeld_plainWrite (s : State) {r : Reg} (hwide : r.desc.wide = true) (i v w : Nat) :
    (s.setHeld r i v).plainWrite r i w = (s.plainWrite r i w).setHeld r i v := by
  have hlife : (s.setHeld r i v).getF .LCO_STATE_STATE 0 = s.getF .LCO_STATE_STATE 0 := rfl
  unfold State.plainWrite
  rw [hlife, State.setHeld_writeReg s hwide]
  split
  · rfl
  · rfl

/-- What applies a whole value: the register's own row where it has one, or else a plain write. -/
def wholeWrite (r : Reg) (i : Nat) (w : W64) (d : List Byte) (img : VaultImage) (s : State) : Out :=
  match r with
  | .SEAL_RANGE_KV => execSealRangeWrite .kv w s
  | .SEAL_RANGE_QRE => execSealRangeWrite .qre w s
  | .SEAL_RANGE_SLICE => execSealRangeWrite (.slice i) w s
  | .TIM_SET_SEC => if bit w.toNat 63 then execTimeSet (bits w.toNat 47 0) s else .next s
  | .QE_SC_COMPLETE => execScComplete i (bits w.toNat 31 0) (bits w.toNat 47 32) d img s
  | _ => .next (s.plainWrite r i w.toNat)

section
variable {s : State} {r : Reg} {i : Nat} (hs : s.Serves) (hwide : r.desc.wide = true) (hi : i < r.instances)
include hs hwide hi

theorem State.Serves.lowHalfWrite (lo : W32) : exec (.reg64LowHalfWrite r i lo) s = .next (s.setHeld r i (lo.toNat + 1)) := by
  have hrow : execReg64LowHalfWrite r i lo s = _ := hs.mmio _
  simp only [hwide, hi, decide_true, Bool.not_true, Bool.or_self, Bool.false_eq_true, if_false] at hrow
  exact hrow

theorem State.Serves.highHalfWrite (hi' : W32) (d : List Byte) (img : VaultImage) :
    exec (.reg64HighHalfWrite r i hi' d img) s = wholeWrite r i (s.wholeValue r i hi') d img (s.setHeld r i 0) := by
  have hrow : execReg64HighHalfWrite r i hi' d img s = _ := hs.mmio _
  simp only [hwide, hi, decide_true, Bool.not_true, Bool.or_self, Bool.false_eq_true, if_false] at hrow
  exact hrow

end

/-- A held low half is part of the whole value. -/
theorem State.wholeValue_setHeld (s : State) (r : Reg) (i : Nat) (lo hi : W32) : (s.setHeld r i (lo.toNat + 1)).wholeValue r i hi = hi ++ lo := by
  unfold State.wholeValue
  rw [State.mget_setHeld_same]
  apply BitVec.eq_of_toNat_eq
  have happend : (hi ++ lo).toNat = hi.toNat * 2 ^ 32 + lo.toNat := by
    rw [BitVec.toNat_append, ← Nat.shiftLeft_add_eq_or_of_lt lo.isLt, Nat.shiftLeft_eq]
  have hlt := (hi ++ lo).isLt
  simp only [Nat.add_one_ne_zero, if_false, Nat.add_sub_cancel, BitVec.toNat_ofNat]
  rw [happend] at hlt ⊢
  exact Nat.mod_eq_of_lt hlt

theorem State.Serves.sealRangeWrite_setHeld {s : State} (hs : s.Serves) (g : RangeSel) (w : W64) :
    execSealRangeWrite g w (s.setHeld (rangeReg g).1 (rangeReg g).2 0) = execSealRangeWrite g w s := by
  unfold execSealRangeWrite
  rw [hs.mmio, (hs.setHeld _ _ _).mmio]
  rw [State.setHeld_setHeld]

theorem State.Serves.timeSet_setHeld {s : State} (hs : s.Serves) (sec : Nat) :
    execTimeSet sec (s.setHeld .TIM_SET_SEC 0 0) = execTimeSet sec s := by
  unfold execTimeSet
  rw [hs.mmio, (hs.setHeld _ _ _).mmio]
  rw [State.setHeld_setHeld]

theorem State.Serves.scComplete_setHeld {s : State} (hs : s.Serves) (c tag status : Nat) (d : List Byte) (img : VaultImage) :
    execScComplete c tag status d img (s.setHeld .QE_SC_COMPLETE c 0) = execScComplete c tag status d img s := by
  unfold execScComplete
  rw [hs.mmio, (hs.setHeld _ _ _).mmio]
  rw [State.setHeld_setHeld]

theorem State.Serves.sealRangeWrite_next {s : State} (hs : s.Serves) (g : RangeSel) (w : W64) : ∃ u, execSealRangeWrite g w s = .next u := by
  unfold execSealRangeWrite
  rw [hs.mmio]
  extract_lets t base span f s1 short s2
  split
  · exact ⟨_, rfl⟩
  · exact ⟨_, rfl⟩

theorem State.Serves.timeSet_next {s : State} (hs : s.Serves) (sec : Nat) : ∃ u, execTimeSet sec s = .next u := by
  unfold execTimeSet
  rw [hs.mmio]
  extract_lets t ns n _ s1 g s2 s3
  split
  · exact ⟨_, rfl⟩
  · split
    · split
      · exact ⟨_, rfl⟩
      · exact ⟨_, rfl⟩
    · exact ⟨_, rfl⟩

theorem State.Serves.scComplete_next {s : State} (hs : s.Serves) (c tag status : Nat) (d : List Byte) (img : VaultImage) :
    ∃ u, execScComplete c tag status d img s = .next u := by
  unfold execScComplete
  rw [hs.mmio]
  extract_lets t
  split
  · exact ⟨_, rfl⟩
  · exact ⟨_, rfl⟩

/-- A whole value applied answers a next state. -/
theorem wholeWrite_next {s : State} (hs : s.Serves) (r : Reg) (i : Nat) (w : W64) (d : List Byte) (img : VaultImage) :
    ∃ u, wholeWrite r i w d img s = .next u := by
  unfold wholeWrite
  split
  · exact hs.sealRangeWrite_next _ _
  · exact hs.sealRangeWrite_next _ _
  · exact hs.sealRangeWrite_next _ _
  · split
    · exact hs.timeSet_next _
    · exact ⟨s, rfl⟩
  · exact hs.scComplete_next _ _ _ _ _
  · exact ⟨_, rfl⟩

/-- A whole value applied to a register of which nothing is held leaves the held halves. -/
theorem wholeWrite_keeps {s : State} (hs : s.Serves) {r : Reg} {i : Nat} (hi : i < r.instances) (w : W64) (d : List Byte) (img : VaultImage) :
    OutKeeps (.held (s.setHeld r i 0).heldLow) (wholeWrite r i w d img (s.setHeld r i 0)) := by
  have hs' := hs.setHeld r i 0
  have hself : (s.setHeld r i 0).Keeps (.held (s.setHeld r i 0).heldLow) := rfl
  have hsame : Kept.setHeld (.held (s.setHeld r i 0).heldLow) r i 0 = .held (s.setHeld r i 0).heldLow :=
    congrArg (fun t : State => Kept.held t.heldLow) (s.setHeld_setHeld r i 0 0)
  unfold wholeWrite
  split
  · obtain rfl := Nat.lt_one_iff.1 hi
    exact hsame ▸ execSealRangeWrite_keeps hself (.inr hs') .kv w
  · obtain rfl := Nat.lt_one_iff.1 hi
    exact hsame ▸ execSealRangeWrite_keeps hself (.inr hs') .qre w
  · exact hsame ▸ execSealRangeWrite_keeps hself (.inr hs') (.slice i) w
  · obtain rfl := Nat.lt_one_iff.1 hi
    exact .ite (hsame ▸ execTimeSet_keeps hself (.inr hs') _) (.next hself)
  · exact hsame ▸ execScComplete_keeps hself (.inr hs') i _ _ d img
  · exact .next (hself.plainWrite _ _ _)

/-- A register without a row of its own has its whole value applied by a plain write. -/
theorem wholeWrite_of_not_ownRows {r : Reg} (hr : r ∉ ownRows) (i : Nat) (w : W64) (d : List Byte) (img : VaultImage) (s : State) :
    wholeWrite r i w d img s = .next (s.plainWrite r i w.toNat) := by
  unfold wholeWrite
  split
  case h_6 => rfl
  all_goals exact absurd (by decide) hr

/-- On a register without a row of its own, a high-half write answers what a write of the whole value answers. -/
theorem State.Serves.highHalfWrite_eq_registerWrite {s : State} (hs : s.Serves) {r : Reg} {i : Nat} (hwide : r.desc.wide = true)
    (hi : i < r.instances) (hr : r ∉ ownRows) (v : W32) (d : List Byte) (img : VaultImage) :
    exec (.reg64HighHalfWrite r i v d img) s = exec (.registerWrite r i (s.wholeValue r i v)) s := by
  rw [hs.highHalfWrite hwide hi, wholeWrite_of_not_ownRows hr, hs.registerWrite, State.setHeld_plainWrite s hwide]

/-- What the rows of the five registers answer, once the whole value has been applied through their high half. -/
theorem wholeWrite_ownRow {s u : State} (hs : s.Serves) {r : Reg} {i : Nat} (hi : i < r.instances) {w : W64} {d : List Byte} {img : VaultImage}
    (hu : wholeWrite r i w d img (s.setHeld r i 0) = .next u) :
    (r = .SEAL_RANGE_KV → execSealRangeWrite .kv w s = .next u) ∧ (r = .SEAL_RANGE_QRE → execSealRangeWrite .qre w s = .next u) ∧
    (r = .SEAL_RANGE_SLICE → execSealRangeWrite (.slice i) w s = .next u) ∧
    (r = .TIM_SET_SEC → bit w.toNat 63 = true → execTimeSet (bits w.toNat 47 0) s = .next u) ∧
    (r = .TIM_SET_SEC → bit w.toNat 63 = false → u = s.setHeld r i 0) ∧
    (r = .QE_SC_COMPLETE → execScComplete i (bits w.toNat 31 0) (bits w.toNat 47 32) d img s = .next u) := by
  refine ⟨?_, ?_, ?_, ?_, ?_, ?_⟩
  · rintro rfl
    obtain rfl := Nat.lt_one_iff.1 hi
    exact (hs.sealRangeWrite_setHeld .kv w).symm.trans hu
  · rintro rfl
    obtain rfl := Nat.lt_one_iff.1 hi
    exact (hs.sealRangeWrite_setHeld .qre w).symm.trans hu
  · rintro rfl
    exact (hs.sealRangeWrite_setHeld (.slice i) w).symm.trans hu
  · rintro rfl hset
    obtain rfl := Nat.lt_one_iff.1 hi
    exact (hs.timeSet_setHeld _).symm.trans ((if_pos hset).symm.trans hu)
  · rintro rfl hset
    have hunset : wholeWrite .TIM_SET_SEC i w d img (s.setHeld .TIM_SET_SEC i 0) = .next (s.setHeld .TIM_SET_SEC i 0) :=
      if_neg (Bool.eq_false_iff.1 hset)
    exact (Host.Outcome.next.inj (hunset.symm.trans hu)).symm
  · rintro rfl
    exact (hs.scComplete_setHeld i _ _ d img).symm.trans hu

theorem State.Serves.lowHalfRead {s : State} (hs : s.Serves) {r : Reg} {i : Nat} (hwide : r.desc.wide = true) (hi : i < r.instances)
    (hr : r ≠ .ENT_SW_DATA) :
    exec (.reg64LowHalfRead r i) s =
      .next (({ s with latchedHigh := mset regOrd (fun _ => 0) s.latchedHigh (r, i) (s.regValue r i / 2 ^ 32 + 1) } : State).say
        (.completion (leBytes 4 (s.regValue r i)))) := by
  have hrow : execReg64LowHalfRead r i s = _ := hs.mmio _
  simp only [hwide, hi, hr, decide_true, decide_false, Bool.not_true, Bool.or_self, Bool.false_eq_true, if_false] at hrow
  exact hrow

/-- Settles O10: a held half is a key of its own in a map, the high half brings it to the register's row, and no row's answer depends on it otherwise. -/
theorem twoPartAccess : Obligations.TwoPartAccess := by
  unfold Obligations.TwoPartAccess
  intro r i s hs hwide hi
  refine ⟨fun lo => ?_, fun v d img hr hheld => ?_, fun hr => ?_⟩
  · have hs' : (s.setHeld r i (lo.toNat + 1)).Serves := hs.setHeld ..
    refine ⟨s.setHeld r i (lo.toNat + 1), hs.lowHalfWrite hwide hi lo, rfl, s.mget_setHeld_same .., fun r' j h => s.mget_setHeld_ne _ h,
      fun r' j => s.setHeld_regValue .., fun v d img => ⟨fun hr => ?_, ?_⟩⟩
    · have hwhole := hs'.highHalfWrite_eq_registerWrite hwide hi hr v d img
      rw [State.wholeValue_setHeld, hs'.registerWrite] at hwhole
      exact ⟨_, hwhole, hs'.registerWrite ..⟩
    · have hwrite := hs'.highHalfWrite hwide hi v d img
      rw [State.wholeValue_setHeld, State.setHeld_setHeld] at hwrite
      obtain ⟨u, hu⟩ := wholeWrite_next (hs.setHeld r i 0) r i (v ++ lo) d img
      have hheld : u.heldLow = mset regOrd (fun _ => 0) s.heldLow (r, i) 0 := wholeWrite_keeps hs hi (v ++ lo) d img u hu
      have hself : u = { u with heldLow := mset regOrd (fun _ => 0) s.heldLow (r, i) 0 } := by rw [← hheld]
      obtain ⟨hkv, hqre, hslice, hset, hunset, hcomplete⟩ := wholeWrite_ownRow hs hi hu
      refine ⟨u, hwrite.trans hu, hheld ▸ mget_mset_same .., ?_⟩
      rw [← hself]
      exact ⟨hkv, hqre, hslice, hset, fun hr hbit => hunset hr hbit ▸ rfl, hcomplete⟩
  · have hwhole := hs.highHalfWrite_eq_registerWrite hwide hi hr v d img
    have hvalue : s.wholeValue r i v = BitVec.ofNat 64 (v.toNat * 2 ^ 32 + s.regValue r i % 2 ^ 32) := by
      simp only [State.wholeValue, State.currentLow, hheld, if_true]
    rw [hvalue, hs.registerWrite] at hwhole
    exact ⟨_, hwhole, hs.registerWrite ..⟩
  · have hlatched : mget (fun _ => 0) (mset regOrd (fun _ => 0) s.latchedHigh (r, i) (s.regValue r i / 2 ^ 32 + 1)) (r, i) = s.regValue r i / 2 ^ 32 + 1 :=
      mget_mset_same ..
    have hother : ∀ r' j, (r', j) ≠ (r, i) →
        mget (fun _ => 0) (mset regOrd (fun _ => 0) s.latchedHigh (r, i) (s.regValue r i / 2 ^ 32 + 1)) (r', j) = mget (fun _ => 0) s.latchedHigh (r', j) :=
      fun r' j h => mget_mset_ne _ _ _ _ h
    refine ⟨_, hs.lowHalfRead hwide hi hr, rfl, hlatched, ?_, hother⟩
    unfold State.highHalf
    simp only [State.say_latchedHigh, hlatched, Nat.add_one_ne_zero, if_false, Nat.add_sub_cancel]

end Sys2Proof.Machine
end

section
/-! ## Entries that wait for their owner (R89, R90) -/

namespace Sys2Proof.Machine
open Sys2Proof

/-! ### Queues and jobs after the shared updates -/

@[simp] theorem State.queue_setQueue_same (s : State) (q : Nat) (x : QueueX) : (s.setQueue q x).queue q = x := nget_nset_same ({} : QueueX) s.queues q x

theorem State.queue_setQueue_ne (s : State) {q p : Nat} (x : QueueX) (h : p ≠ q) : (s.setQueue q x).queue p = s.queue p :=
  nget_nset_ne ({} : QueueX) s.queues x h

/-- The job of a place stands there. -/
theorem State.place_of_job? {s : State} {q i : Nat} {j : Job} (hj : s.job? q i = some j) : j.q = q ∧ j.idx = i := by
  have hmatch := List.find?_some (p := fun k : Job => k.q == q && k.idx == i) hj
  simpa using hmatch

/-- A job of the place read after it has been changed, where the change leaves it in its place. -/
theorem State.job?_updJob_same {s : State} {q i : Nat} {j : Job} (hj : s.job? q i = some j) (f : Job → Job)
    (hf : ∀ k : Job, (f k).q = k.q ∧ (f k).idx = k.idx) : (s.updJob q i f).job? q i = some (f j) := by
  have hplace : (fun k : Job => k.q == q && k.idx == i) ∘ (fun k => if k.q == q && k.idx == i then f k else k) = fun k => k.q == q && k.idx == i := by
    funext k
    simp only [Function.comp_apply]
    split
    · rw [(hf k).1, (hf k).2]
    · rfl
  have hmatch : (j.q == q && j.idx == i) = true := by simpa using State.place_of_job? hj
  unfold State.job? at hj ⊢
  simp only [State.updJob, List.find?_map, hplace, hj, Option.map_some, hmatch, if_true]

/-- Jobs of other places stand as they stood. -/
theorem State.mem_updJob_of_ne (s : State) {q i : Nat} (f : Job → Job) (hf : ∀ k : Job, (f k).q = k.q ∧ (f k).idx = k.idx) {k : Job}
    (hk : (k.q, k.idx) ≠ (q, i)) : k ∈ (s.updJob q i f).jobs ↔ k ∈ s.jobs := by
  have hkf : (k.q == q && k.idx == i) = false := by simpa using hk
  simp only [State.updJob, List.mem_map]
  constructor
  · rintro ⟨x, hx, rfl⟩
    split at hk
    case isTrue h => exact absurd (by simpa [hf] using h) hk
    case isFalse h => simpa [h] using hx
  · intro h
    exact ⟨k, h, by simp [hkf]⟩

/-- What is dropped of a queue from a place on: its undecided entries there and behind. -/
theorem State.mem_dropFrom (s : State) (q i : Nat) (k : Job) :
    k ∈ (s.dropFrom q i).jobs ↔ k ∈ s.jobs ∧
      ¬(k.q = q ∧ dist (s.ringSize q) i (s.getF .QC_HEAD_HEAD q) ≤ dist (s.ringSize q) k.idx (s.getF .QC_HEAD_HEAD q) ∧
        (k.stage = .fetching ∨ k.stage = .ownWait ∨ k.stage = .fetched)) := by
  have hdrop : (k.q == q && decide (dist (s.ringSize q) i (s.getF .QC_HEAD_HEAD q) ≤ dist (s.ringSize q) k.idx (s.getF .QC_HEAD_HEAD q)) &&
      [Stage.fetching, .ownWait, .fetched].contains k.stage) = true ↔
      k.q = q ∧ dist (s.ringSize q) i (s.getF .QC_HEAD_HEAD q) ≤ dist (s.ringSize q) k.idx (s.getF .QC_HEAD_HEAD q) ∧
        (k.stage = .fetching ∨ k.stage = .ownWait ∨ k.stage = .fetched) := by
    simp [and_assoc]
  unfold State.dropFrom
  simp only [State.setQueue_jobs, List.mem_filter, Bool.not_eq_true', ← Bool.not_eq_true, hdrop]

/-- The job of a place stays if it is not dropped. -/
theorem State.job?_dropFrom {s : State} {q i p : Nat} {j : Job} (hj : s.job? q i = some j)
    (hkept : dist (s.ringSize q) i (s.getF .QC_HEAD_HEAD q) < dist (s.ringSize q) p (s.getF .QC_HEAD_HEAD q)) : (s.dropFrom q p).job? q i = some j := by
  unfold State.job? at hj ⊢
  unfold State.dropFrom
  simp only [State.setQueue_jobs, List.find?_filter]
  rw [← hj]
  congr 1
  funext k
  by_cases hk : k.idx = i
  · simp [hk, Nat.not_le.2 hkept, beq_eq_decide]
  · simp [hk]

/-! ### Places on a ring -/

/-- The next place is one farther from the head, up to the ring's size. -/
theorem dist_succ {n i h : Nat} (hi : i < n) (hd : dist n i h + 1 < n) : dist n ((i + 1) % n) h = dist n i h + 1 := by
  unfold dist at hd ⊢
  have hhead : h % n < n := Nat.mod_lt _ (by omega)
  have hone : 1 % n = 1 := Nat.mod_eq_of_lt (by omega)
  have hnext : ((i + 1) % n + n - h % n) % n = (i + n - h % n + 1) % n := by
    rcases Nat.lt_or_ge (i + 1) n with hlt | hge
    · rw [Nat.mod_eq_of_lt hlt]
      congr 1
      omega
    · have hwrap : i + 1 = n := by omega
      rw [hwrap, Nat.mod_self, show i + n - h % n + 1 = (0 + n - h % n) + n by omega, Nat.add_mod_right]
  rw [hnext, Nat.add_mod_of_add_mod_lt (by omega), hone]

/-- A read of 64 bytes at a place of an entry ring is one request (R42). -/
theorem State.hostRead_entry {s : State} (hissue : s.mayIssue = true) (hmrrs : 64 ≤ s.pci.mrrs) (sl q i : Nat) :
    s.hostRead sl (s.entryAddr q i 0) 64 = s.say (.read (s.pasidOf sl) (s.entryAddr q i 0) 64) := by
  have hpieces : hostPieces (min 4096 s.pci.mrrs) (s.entryAddr q i 0) 64 64 = [(s.entryAddr q i 0, 64)] := by
    have haddr : s.entryAddr q i 0 % 4096 ≤ 4032 := by
      unfold State.entryAddr
      omega
    have hlen : min (63 + 1) (min (max 1 (min 4096 s.pci.mrrs)) (4096 - s.entryAddr q i 0 % 4096)) = 64 := by omega
    simp only [hostPieces, hlen, Nat.reduceAdd, Nat.sub_self]
  unfold State.hostRead
  rw [State.issue_sent s _ hissue]
  unfold State.send
  simp only [Option.elim_some, State.sendRead_eq, hpieces, List.map_cons, List.map_nil]
  rfl

/-! ### What posting an event leaves -/

/-- The jobs and the place that a queue fetches from next are as they were. -/
def SameFetch (q : Nat) (s t : State) : Prop := t.jobs = s.jobs ∧ (t.queue q).fetch = (s.queue q).fetch

theorem SameFetch.refl (q : Nat) (s : State) : SameFetch q s s := ⟨rfl, rfl⟩

theorem SameFetch.trans {q : Nat} {s t u : State} (h : SameFetch q s t) (k : SameFetch q t u) : SameFetch q s u :=
  ⟨k.1.trans h.1, k.2.trans h.2⟩

theorem SameFetch.of_queues {q : Nat} {s t : State} (hjobs : t.jobs = s.jobs) (hqueues : t.queues = s.queues) : SameFetch q s t :=
  ⟨hjobs, by unfold State.queue; rw [hqueues]⟩

theorem SameFetch.of_onlySends {q : Nat} {s t : State} (h : OnlySends s t) : SameFetch q s t := by
  unfold OnlySends at h
  exact .of_queues (by rw [h]) (by rw [h])

theorem SameFetch.ite {q : Nat} {s t u : State} {c : Prop} [Decidable c] (ht : SameFetch q s t) (hu : SameFetch q s u) :
    SameFetch q s (if c then t else u) := by
  split
  · exact ht
  · exact hu

theorem State.hostWrite_sameFetch (s : State) (q sl a : Nat) (d : List Byte) (ro : Bool) : SameFetch q s (s.hostWrite sl a d ro) :=
  .ite (.refl q s) (.of_onlySends (s.issue_only _))

theorem State.sliceVector_sameFetch (s : State) (q sl v : Nat) : SameFetch q s (s.sliceVector sl v) := by
  refine .ite ?_ (.of_queues rfl rfl)
  rw [State.sendVector_frame]
  exact .of_queues rfl rfl

theorem State.evrMessage_sameFetch (s : State) (q sl e : Nat) : SameFetch q s (s.evrMessage sl e) :=
  .trans (.of_queues rfl rfl) (State.sliceVector_sameFetch _ q sl _)

theorem State.evrCoalesce_sameFetch (s : State) (q sl e : Nat) : SameFetch q s (s.evrCoalesce sl e) :=
  .ite (s.evrMessage_sameFetch q sl e) (.refl q s)

theorem State.setMissed_sameFetch (s : State) (q p : Nat) : SameFetch q s (s.setQueue p { s.queue p with missed := true }) := by
  refine ⟨rfl, ?_⟩
  by_cases h : q = p
  · rw [h, State.queue_setQueue_same]
  · rw [State.queue_setQueue_ne s _ h]

theorem State.eventEntry_sameFetch (s : State) (q : Nat) (g : Grants) (sl p reason : Nat) : SameFetch q s (s.eventEntry g sl p reason).2 := by
  unfold State.eventEntry
  extract_lets lr e first s1 _ s2 n s3 wrap x s4
  split
  · exact .of_queues rfl rfl
  · split
    · exact .of_queues rfl rfl
    · split
      · have hmissed : SameFetch q s (s1.setQueue p { s1.queue p with missed := true }) := .trans (.of_queues rfl rfl) (s1.setMissed_sameFetch q p)
        have hs2 : SameFetch q s s2 := hmissed.trans (State.hostWrite_sameFetch ..)
        exact .ite (hs2.trans (s2.evrMessage_sameFetch q sl e)) hs2
      · exact .trans (s.hostWrite_sameFetch q sl _ _ false) (.of_queues rfl rfl)

theorem State.postEvent_sameFetch (s : State) (q sl p reason : Nat) : SameFetch q s (s.postEvent sl p reason) := by
  have hentry := s.eventEntry_sameFetch q (s.grantsOf sl) sl p reason
  unfold State.postEvent State.postEventBy
  generalize s.eventEntry (s.grantsOf sl) sl p reason = x at hentry
  obtain ⟨_ | e, s1⟩ := x
  · exact hentry
  · exact (hentry.trans (State.hostWrite_sameFetch ..)).trans (State.evrCoalesce_sameFetch ..)

theorem State.drained_sameFetch (s : State) (q p : Nat) : SameFetch q s (s.drained p) :=
  .ite (.trans (.of_queues rfl rfl) (State.postEvent_sameFetch _ q _ p 3)) (.refl q s)

theorem State.sliceDrained_sameFetch (s : State) (q sl : Nat) : SameFetch q s (s.sliceDrained sl) :=
  .ite (.of_queues rfl rfl) (.refl q s)

/-! ### An entry received -/

/-- The state behind an entry that has arrived with OWN = 0. -/
def State.waitForOwner (s : State) (q i : Nat) : State :=
  let s1 := ((s.updJob q i fun j => { j with stage := .ownWait }).dropFrom q ((i + 1) % s.ringSize q)).setFlag .QC_STATUS_OWN_WAIT q true
  s1.setQueue q { s1.queue q with rereads := 0 }

section
variable {s : State} {q i : Nat} {j : Job} (hj : s.job? q i = some j)

include hj in
/-- An entry that arrives is taken, or waits for its owner; in a queue that drains it is dropped with what is fetched behind it. -/
theorem entryReceived_eq (hrun : s.stopped = false) (hfetching : j.stage = .fetching) (d : List Byte) :
    exec (.entryReceived q i d) s =
      if entryOwn d then .next (s.updJob q i fun j => { j with words := entryWords d, stage := .fetched })
      else if s.getF .QC_CTRL_STATE q = 2 then .next (((s.dropFrom q i).drained q).sliceDrained (s.sliceOf q))
      else .next ((s.waitForOwner q i).sliceDrained (s.sliceOf q)) := by
  have hrow : execEntryReceived q i d s = _ := if_neg (by simp [hrun])
  simp only [hj, hfetching, ne_eq, not_true_eq_false, if_false] at hrow
  exact hrow

end

/-- A slice that does not pause stays as it is. -/
theorem State.sliceDrained_of_not_pausing {s : State} {sl : Nat} (h : s.getF .SLC_SLICE_CTRL_STATE sl ≠ 2) : s.sliceDrained sl = s :=
  if_neg fun k => h k.1

theorem State.waitForOwner_frame (s : State) (q i : Nat) :
    s.waitForOwner q i = { s with regs := (s.waitForOwner q i).regs, jobs := (s.waitForOwner q i).jobs, queues := (s.waitForOwner q i).queues } := rfl

theorem State.waitForOwner_getF (s : State) (q i : Nat) (f : Fld) (k : Nat) :
    (s.waitForOwner q i).getF f k = if f = .QC_STATUS_OWN_WAIT ∧ k = q then 1 else s.getF f k := by
  have hflag : (s.waitForOwner q i).getF f k =
      (((s.updJob q i fun j => { j with stage := .ownWait }).dropFrom q ((i + 1) % s.ringSize q)).setFlag .QC_STATUS_OWN_WAIT q true).getF f k := rfl
  rw [hflag, State.setFlag_getF]
  rfl

theorem State.waitForOwner_queue_same (s : State) (q i : Nat) :
    (s.waitForOwner q i).queue q = { s.queue q with fetch := (i + 1) % s.ringSize q, rereads := 0 } := by
  have hfetch : (((s.updJob q i fun j => { j with stage := .ownWait }).dropFrom q ((i + 1) % s.ringSize q)).setFlag .QC_STATUS_OWN_WAIT q true).queue q =
      { s.queue q with fetch := (i + 1) % s.ringSize q } := State.queue_setQueue_same _ q _
  unfold State.waitForOwner
  rw [State.queue_setQueue_same, hfetch]

theorem State.waitForOwner_queue_ne (s : State) {q p : Nat} (i : Nat) (h : p ≠ q) : (s.waitForOwner q i).queue p = s.queue p :=
  (State.queue_setQueue_ne _ _ h).trans (State.queue_setQueue_ne (s.updJob q i fun j => { j with stage := .ownWait }) _ h)

theorem State.waitForOwner_job? {s : State} {q i : Nat} {j : Job} (hj : s.job? q i = some j) (hi : i < s.ringSize q)
    (hd : dist (s.ringSize q) i (s.getF .QC_HEAD_HEAD q) + 1 < s.ringSize q) : (s.waitForOwner q i).job? q i = some { j with stage := .ownWait } := by
  have hnext := dist_succ hi hd
  have hupd := State.job?_updJob_same hj (fun j => { j with stage := .ownWait }) fun _ => ⟨rfl, rfl⟩
  exact State.job?_dropFrom (p := (i + 1) % s.ringSize q) hupd (by
    show dist (s.ringSize q) i (s.getF .QC_HEAD_HEAD q) < dist (s.ringSize q) ((i + 1) % s.ringSize q) (s.getF .QC_HEAD_HEAD q)
    omega)

/-- Of the other jobs those behind the entry are dropped that are not decided. -/
theorem State.mem_waitForOwner (s : State) {q i : Nat} {k : Job} (hk : (k.q, k.idx) ≠ (q, i)) :
    k ∈ (s.waitForOwner q i).jobs ↔ k ∈ s.jobs ∧
      ¬(k.q = q ∧ dist (s.ringSize q) ((i + 1) % s.ringSize q) (s.getF .QC_HEAD_HEAD q) ≤ dist (s.ringSize q) k.idx (s.getF .QC_HEAD_HEAD q) ∧
        (k.stage = .fetching ∨ k.stage = .ownWait ∨ k.stage = .fetched)) := by
  have hdrop := (s.updJob q i fun j => { j with stage := .ownWait }).mem_dropFrom q ((i + 1) % s.ringSize q) k
  exact hdrop.trans (and_congr_left' (State.mem_updJob_of_ne s (fun j => { j with stage := .ownWait }) (fun _ => ⟨rfl, rfl⟩) hk))

/-! ### An entry read again -/

section
variable {s : State} {q i : Nat} {j : Job} (hj : s.job? q i = some j) (hwait : j.stage = .ownWait) (hmiss : (s.queue q).missHeld = false)
  (hissue : s.mayIssue = true) (hslice : s.sliceHeld (s.sliceOf q) = false) (hmrrs : 64 ≤ s.pci.mrrs)
  (honly : ∀ k ∈ s.jobs, k.q = q → k.stage = .ownWait → k = j)
include hj hwait honly

/-- The entry that waits for its owner is the one that is read again. -/
theorem State.find_ownWait : (s.jobs.find? fun k => k.q == q && k.stage == .ownWait) = some j := by
  obtain ⟨hq, -⟩ := State.place_of_job? hj
  have hmem : j ∈ s.jobs := List.mem_of_find?_eq_some hj
  cases hf : s.jobs.find? fun k => k.q == q && k.stage == .ownWait with
  | none =>
    have hnone := List.find?_eq_none.1 hf j hmem
    simp [hq, hwait] at hnone
  | some k =>
    have hk := List.find?_some hf
    simp only [Bool.and_eq_true, beq_iff_eq] at hk
    rw [honly k (List.mem_of_find?_eq_some hf) hk.1 hk.2]

include hmiss hissue hslice hmrrs

theorem ownWaitRetry_eq (d : List Byte) :
    exec (.ownWaitRetry q d) s =
      let s1 := s.say (.read (s.pasidOf j.slice) (s.entryAddr q i 0) 64)
      if entryOwn d then
        .next (((s1.updJob q i fun j => { j with words := entryWords d, stage := .fetched }).setFlag .QC_STATUS_OWN_WAIT q false).setQueue q
          { s.queue q with rereads := 0 })
      else if (s.queue q).rereads + 1 < 8 then .next (s1.setQueue q { s.queue q with rereads := (s.queue q).rereads + 1 })
      else .next ((s1.setQueue q { s.queue q with rereads := 8, missHeld := true }).count .QC_OWN_MISS_COUNT_COUNT q 1) := by
  obtain ⟨-, hidx⟩ := State.place_of_job? hj
  have hfree : ((s.queue q).missHeld || !s.mayIssue || s.sliceHeld (s.sliceOf q)) = false := by simp [hmiss, hissue, hslice]
  show execOwnWaitRetry q d s = _
  unfold execOwnWaitRetry
  simp only [State.find_ownWait hj hwait honly, hidx, State.hostRead_entry hissue hmrrs, hfree, Bool.false_eq_true, if_false]

end

/-- While the function may not issue a read, or the slice is paused, no entry is read again. -/
theorem ownWaitRetry_of_held {s : State} {q : Nat} (h : s.mayIssue = false ∨ s.sliceHeld (s.sliceOf q) = true) (d : List Byte) :
    exec (.ownWaitRetry q d) s = .next s := by
  have hheld : ((s.queue q).missHeld || !s.mayIssue || s.sliceHeld (s.sliceOf q)) = true := by
    rcases h with h | h <;> simp [h]
  show execOwnWaitRetry q d s = _
  unfold execOwnWaitRetry
  extract_lets x
  split
  · rfl
  · exact if_pos hheld

/-- Settles O23: the entry received is taken or waits, dropped jobs are a filter of the jobs, and an event posted by a drained queue leaves both. -/
theorem ownershipWaits : Obligations.OwnershipWaits := by
  unfold Obligations.OwnershipWaits
  intro s q i d j hj own words n h undecided
  have hnone : own = false → ¬entryOwn d = true := Bool.eq_false_iff.1
  refine ⟨fun hrun hfetching => ⟨fun hown => ?_, fun hown hstate hslice hd hi => ?_, fun hown hstate => ?_⟩, fun hheld => ownWaitRetry_of_held hheld d,
    fun hwait hmiss hissue hslice hmrrs honly => ?_⟩
  · exact (entryReceived_eq hj hrun hfetching d).trans (if_pos hown)
  · have hrow := entryReceived_eq hj hrun hfetching d
    rw [if_neg (hnone hown), if_neg hstate] at hrow
    have hpause : (s.waitForOwner q i).getF .SLC_SLICE_CTRL_STATE (s.sliceOf q) ≠ 2 := by
      rw [State.waitForOwner_getF]
      simpa using hslice
    rw [State.sliceDrained_of_not_pausing hpause] at hrow
    refine ⟨s.waitForOwner q i, hrow, s.waitForOwner_frame q i, ?_, fun f k hf => ?_, State.waitForOwner_job? hj hi hd, s.waitForOwner_queue_same q i,
      fun p hp => s.waitForOwner_queue_ne i hp, fun k hk => s.mem_waitForOwner hk⟩
    · simp [State.waitForOwner_getF]
    · rw [State.waitForOwner_getF, if_neg (by simpa using hf)]
  · have hrow := entryReceived_eq hj hrun hfetching d
    rw [if_neg (hnone hown), if_pos hstate] at hrow
    obtain ⟨hjobs, hfetch⟩ := ((s.dropFrom q i).drained_sameFetch q q).trans (State.sliceDrained_sameFetch _ q (s.sliceOf q))
    refine ⟨_, hrow, ?_, fun k => ?_⟩
    · rw [hfetch]
      exact congrArg QueueX.fetch (State.queue_setQueue_same _ q { s.queue q with fetch := i })
    · rw [hjobs]
      exact s.mem_dropFrom q i k
  · have hrow := ownWaitRetry_eq hj hwait hmiss hissue hslice hmrrs honly d
    refine ⟨fun hown => ?_, fun hown hfew => ?_, fun hown hlast => ?_⟩
    · refine ⟨_, hrow.trans (if_pos hown), ?_, ?_, rfl⟩
      · show State.getF (State.setFlag _ .QC_STATUS_OWN_WAIT q false) .QC_STATUS_OWN_WAIT q = 0
        simp [b2n]
      · exact State.job?_updJob_same (s := s) hj (fun j => { j with words := words, stage := .fetched }) fun _ => ⟨rfl, rfl⟩
    · exact hrow.trans ((if_neg (hnone hown)).trans (if_pos (by omega)))
    · refine ⟨_, hrow.trans ((if_neg (hnone hown)).trans (if_neg (by omega))), ?_, ?_, fun f k hf => ?_⟩
      · rw [State.count_getF, if_pos ⟨rfl, rfl⟩]
        rfl
      · exact congrArg QueueX.missHeld (State.queue_setQueue_same _ q { s.queue q with rereads := 8, missHeld := true })
      · rw [State.count_getF, if_neg (by simpa using hf)]
        rfl

end Sys2Proof.Machine
end

section
/-! ## The commit point and its writes (R12, R42, R126, R128, R133, R134, R205) -/

namespace Sys2Proof.Machine
open Sys2Proof

/-! ### Messages added -/

/-- The state with messages sent after those it has sent. -/
def State.saying (s : State) (ms : List Msg) : State := { s with sent := s.sent ++ ms }

@[simp] theorem State.saying_nil (s : State) : s.saying [] = s := by simp [State.saying]

theorem State.saying_saying (s : State) (ms ns : List Msg) : (s.saying ms).saying ns = s.saying (ms ++ ns) := by simp [State.saying]

@[simp] theorem State.writeMsgs_nil (s : State) (p : Option Nat) (a : Nat) (ro : Bool) : s.writeMsgs p a [] ro = [] := rfl

/-- A write for a slice whose dirty log is off is its requests and nothing else (R42, R43, R44). -/
theorem State.hostWrite_unlogged {s : State} (hissue : s.mayIssue = true) {sl : Nat} (hlog : s.getF .SLC_SLICE_CTRL_LOG_EN sl = 0)
    (a : Nat) (d : List Byte) (ro : Bool) : s.hostWrite sl a d ro = s.saying (s.writeMsgs (s.pasidOf sl) a d (ro && s.pci.relaxed)) := by
  have hoff : s.flag .SLC_SLICE_CTRL_LOG_EN sl = false := by simp [State.flag, hlog]
  unfold State.hostWrite
  split
  case isTrue hd => simp [hd]
  case isFalse =>
    rw [State.issue_sent s _ hissue]
    unfold State.send
    simp only [hoff, Bool.false_eq_true, false_and, if_false]
    exact State.sendWrite_eq ..

/-- Bytes written over fragments from offset n of the data on: each fragment takes the bytes at its own offset (R44, R126). -/
theorem State.writeFrags_unlogged {s : State} (hissue : s.mayIssue = true) {sl : Nat} (hlog : s.getF .SLC_SLICE_CTRL_LOG_EN sl = 0)
    (d : List Byte) (frags : List (Nat × Nat)) (n : Nat) :
    s.writeFrags sl frags (d.drop n) = s.saying ((frags.zip (frags.scanl (fun n f => n + f.2) n)).flatMap fun f =>
      s.writeMsgs (s.pasidOf sl) f.1.1 (bslice d f.2 f.1.2) s.pci.relaxed) := by
  induction frags generalizing s n with
  | nil => simp [State.writeFrags]
  | cons f frags ih =>
    unfold State.writeFrags
    rw [State.hostWrite_unlogged hissue hlog, List.drop_drop, ih (s := s.saying _) hissue hlog, State.saying_saying,
      List.scanl_cons, List.zip_cons_cons, List.flatMap_cons, Bool.true_and]
    rfl

/-! ### The writes of one entry -/

/-- The output of a job is its requests (R126, R128). -/
theorem State.writeOutput_unlogged {s : State} (hissue : s.mayIssue = true) {j : Job} (hlog : s.getF .SLC_SLICE_CTRL_LOG_EN j.slice = 0) :
    s.writeOutput j = s.saying (s.outMsgs j) := by
  unfold State.writeOutput State.outMsgs
  simp only [Bool.and_eq_true, decide_eq_true_eq]
  split
  · exact State.writeFrags_unlogged hissue hlog _ _ 0
  · simp

/-- W6 of an entry where it has a RESULT_EXT to write: address and bytes (R134). -/
def State.extWrites (s : State) (j : Job) : List (Nat × List Byte) :=
  match (if j.written < 2 then j.ext else none) with
  | some w => [(s.entryAddr j.q j.idx 6, leBytes 8 w.toNat)]
  | none => []

/-- The writes to an entry itself, in their order: W6, then W7 (R12, R134). -/
def State.entryWrites (s : State) (j : Job) : List (Nat × List Byte) := s.extWrites j ++ [(s.entryAddr j.q j.idx 7, leBytes 8 j.w7)]

/-- The requests of a completing entry: outputs, W6, W7 (R12). -/
def State.commitMsgs (s : State) (j : Job) : List Msg :=
  s.outMsgs j ++ (s.entryWrites j).flatMap fun w => s.writeMsgs (s.pasidOf j.slice) w.1 w.2 false

/-- At its commit point an entry's requests go out in the write order, and its job is finished. -/
theorem State.commitWrites_unlogged {s : State} (hissue : s.mayIssue = true) {j : Job} (hj : s.job? j.q j.idx = some j)
    (hlog : s.getF .SLC_SLICE_CTRL_LOG_EN j.slice = 0) : s.commitWrites j = (s.saying (s.commitMsgs j)).updJob j.q j.idx Job.finish := by
  have hw7 : ∀ ms, (s.saying ms).writeW7 j.q j.idx =
      (s.saying (ms ++ s.writeMsgs (s.pasidOf j.slice) (s.entryAddr j.q j.idx 7) (leBytes 8 j.w7) false)).updJob j.q j.idx Job.finish := by
    intro ms
    have hj' : (s.saying ms).job? j.q j.idx = some j := hj
    unfold State.writeW7
    rw [hj']
    dsimp only
    rw [State.hostWrite_unlogged (s := s.saying ms) hissue hlog, State.saying_saying]
    rfl
  unfold State.commitWrites State.commitMsgs State.entryWrites State.extWrites
  rw [State.writeOutput_unlogged hissue hlog]
  dsimp only
  generalize (if j.written < 2 then j.ext else none) = w6
  cases w6 with
  | none => simpa using hw7 _
  | some w =>
    dsimp only
    rw [State.hostWrite_unlogged (s := s.saying _) hissue hlog, State.saying_saying, hw7]
    simp only [List.append_assoc, List.flatMap_cons, List.flatMap_nil, List.append_nil, List.cons_append, List.nil_append]
    rfl

/-! ### What follows the writes -/

/-- From s to t messages are only added and jobs only leave. -/
structure Follows (s t : State) : Prop where
  sent : s.sent <+: t.sent
  jobs : t.jobs ⊆ s.jobs

theorem Follows.of_eq {s t : State} (hsent : t.sent = s.sent) (hjobs : t.jobs = s.jobs) : Follows s t :=
  ⟨hsent ▸ List.prefix_rfl, hjobs ▸ List.Subset.refl _⟩

theorem Follows.refl (s : State) : Follows s s := .of_eq rfl rfl

theorem Follows.trans {s t u : State} (h : Follows s t) (k : Follows t u) : Follows s u := ⟨h.sent.trans k.sent, List.Subset.trans k.jobs h.jobs⟩

/-- What follows a state with the same messages and jobs follows this one. -/
theorem Follows.of_eq_left {s t u : State} (h : Follows t u) (hsent : t.sent = s.sent) (hjobs : t.jobs = s.jobs) : Follows s u :=
  (Follows.of_eq hsent hjobs).trans h

theorem Follows.ite {s t u : State} {c : Prop} [Decidable c] (ht : Follows s t) (hu : Follows s u) : Follows s (if c then t else u) := by
  split
  · exact ht
  · exact hu

theorem Follows.foldl {α : Type} {f : State → α → State} (hf : ∀ t x, Follows t (f t x)) (l : List α) (s : State) : Follows s (l.foldl f s) := by
  induction l generalizing s with
  | nil => exact .refl s
  | cons x l ih => exact (hf s x).trans (ih _)

theorem State.saying_follows (s : State) (ms : List Msg) : Follows s (s.saying ms) := ⟨List.prefix_append _ _, List.Subset.refl _⟩

theorem State.sendWrite_follows (s : State) (p : Option Nat) (a : Nat) (d : List Byte) (ro : Bool) : Follows s (s.sendWrite p a d ro) := by
  rw [State.sendWrite_eq]
  exact s.saying_follows _

theorem State.plainOut_follows (s : State) (a : Nat) (d : List Byte) : Follows s (s.plainOut a d) :=
  .ite (s.sendWrite_follows none a d false) (.of_eq rfl rfl)

theorem State.dplPage_follows (s : State) (sl page : Nat) : Follows s (s.dplPage sl page) := by
  refine .ite ?_ (.of_eq rfl rfl)
  unfold State.dplPut
  extract_lets p x s1
  have hs1 : Follows s s1 := s.plainOut_follows _ _
  exact .ite (hs1.trans (.of_eq rfl rfl)) (hs1.trans (.of_eq rfl rfl))

theorem State.send_follows (s : State) (r : HeldReq) : Follows s (s.send r) := by
  unfold State.send
  split
  · rw [State.sendRead_eq]
    exact s.saying_follows _
  · exact s.sendWrite_follows ..
  · exact .ite ((s.sendWrite_follows ..).trans (.foldl (fun t _ => t.dplPage_follows _ _) _ _)) (s.sendWrite_follows ..)

theorem State.hostWrite_follows (s : State) (sl a : Nat) (d : List Byte) (ro : Bool) : Follows s (s.hostWrite sl a d ro) :=
  .ite (.refl s) (.ite (s.send_follows _) (.of_eq rfl rfl))

theorem State.sliceVector_follows (s : State) (sl v : Nat) : Follows s (s.sliceVector sl v) :=
  .ite (.ite (.of_eq rfl rfl) (.ite (s.saying_follows _) (.of_eq rfl rfl))) (.of_eq rfl rfl)

theorem State.evrMessage_follows (s : State) (sl e : Nat) : Follows s (s.evrMessage sl e) :=
  (State.sliceVector_follows _ sl _).of_eq_left rfl rfl

theorem State.eventEntry_follows (s : State) (g : Grants) (sl q reason : Nat) : Follows s (s.eventEntry g sl q reason).2 := by
  unfold State.eventEntry
  extract_lets lr e first s1 _ s2 n s3 wrap x s4
  split
  · exact .of_eq rfl rfl
  · split
    · exact .of_eq rfl rfl
    · split
      · have hs2 : Follows s s2 := (State.hostWrite_follows ..).of_eq_left rfl rfl
        exact .ite (hs2.trans (s2.evrMessage_follows sl e)) hs2
      · exact (s.hostWrite_follows sl _ _ false).trans (.of_eq rfl rfl)

theorem State.postEventBy_follows (s : State) (g : Grants) (sl q reason : Nat) : Follows s (s.postEventBy g sl q reason) := by
  have hentry := s.eventEntry_follows g sl q reason
  unfold State.postEventBy
  generalize s.eventEntry g sl q reason = x at hentry
  obtain ⟨_ | e, s1⟩ := x
  · exact hentry
  · exact (hentry.trans (State.hostWrite_follows ..)).trans (.ite (State.evrMessage_follows _ sl e) (.refl _))

theorem State.drained_follows (s : State) (q : Nat) : Follows s (s.drained q) :=
  .ite ((State.postEventBy_follows ..).of_eq_left rfl rfl) (.refl s)

theorem State.sliceDrained_follows (s : State) (sl : Nat) : Follows s (s.sliceDrained sl) := .ite (.of_eq rfl rfl) (.refl s)

theorem State.passHead_follows (s : State) (q tag : Nat) : Follows s (s.passHead q tag) := by
  unfold State.passHead
  extract_lets h wrap s1 s2
  have hs2 : Follows s s2 := .ite (.of_eq rfl rfl) (.of_eq rfl rfl)
  exact hs2.trans (.of_eq rfl rfl)

theorem State.advance_follows (s : State) (q n : Nat) : Follows s (s.advance q n).2.2 := by
  induction n generalizing s with
  | zero => exact .refl s
  | succ n ih =>
    unfold State.advance
    split
    case h_1 j _ =>
      split
      · have hdropped : Follows s { s with jobs := s.jobs.filter fun x => !(x.q == q && x.idx == j.idx) } := ⟨List.prefix_rfl, List.filter_subset_self _⟩
        exact (hdropped.trans (State.passHead_follows ..)).trans (ih _)
      · exact .refl s
    case h_2 => exact .refl s

/-- The head's advance, its record, its event and its message send nothing ahead of what is sent and change no job that stays (R98, R101). -/
theorem State.moveHead_follows (s : State) (q : Nat) : Follows s (s.moveHead q) := by
  unfold State.moveHead
  extract_lets sl r
  split
  case h_1 g _ =>
    have hadvance : Follows s r.2.2 := s.advance_follows q _
    have hrecord : Follows s (r.2.2.headWrite sl q) := hadvance.trans (State.hostWrite_follows ..)
    have hevent : Follows s ((r.2.2.headWrite sl q).headEvent g sl q r.2.1) := hrecord.trans (.ite (State.postEventBy_follows ..) (.refl _))
    exact (hevent.trans (State.drained_follows _ q)).trans (State.sliceDrained_follows _ sl)
  case h_2 => exact (s.drained_follows q).trans (State.sliceDrained_follows _ sl)

/-- What a completed link leaves for the next one stands in its queue alone (R138 to R140). -/
theorem State.linkDone_follows (s : State) (j : Job) : Follows s (s.linkDone j) := by
  unfold State.linkDone
  extract_lets x
  exact .ite (.refl s) (.ite (.of_eq rfl rfl) (.ite (.of_eq rfl rfl) (.of_eq rfl rfl)))

/-! ### The command -/

/-- Every job of a place that has been changed is the change of one. -/
theorem State.mem_updJob_place {s : State} {q i : Nat} {f : Job → Job} {x : Job} (hx : x ∈ (s.updJob q i f).jobs) (hq : x.q = q)
    (hi : x.idx = i) : ∃ k, x = f k := by
  simp only [State.updJob, List.mem_map] at hx
  obtain ⟨k, -, rfl⟩ := hx
  by_cases h : (k.q == q && k.idx == i) = true
  · exact ⟨k, if_pos h⟩
  · rw [if_neg h] at hq hi
    exact absurd (by simp [hq, hi]) h

theorem State.mayIssue_of_mayCommit {s : State} {j : Job} (h : s.mayCommit j = true) : s.mayIssue = true := by
  simp only [State.mayCommit, Bool.and_eq_true] at h
  obtain ⟨⟨⟨⟨-, hissue⟩, -⟩, -⟩, -⟩ := h
  exact hissue

theorem jobCommit_eq {s : State} {q i : Nat} {j : Job} (hj : s.job? q i = some j) :
    exec (.jobCommit q i) s = if s.mayCommit j then .next (((s.commitWrites j).linkDone j).moveHead q) else .next s := by
  show execJobCommit q i s = _
  unfold execJobCommit
  rw [hj]

/-- NOP ends where its entry is accepted and dispatch goes on (R122). -/
theorem nop_eq {s : State} {q i : Nat} {j : Job} (hj : s.job? q i = some j) (hrun : s.stopped = false) (hstage : j.stage = .accepted)
    (hop : j.opcode = 0) (hfence : s.fenceOk j = true) (hdispatch : s.dispatchStopped = false) :
    exec (.nop q i) s = .next ((s.endJob j [] {}).updJob q i fun k => { k with stage := .ended }) := by
  show execNop q i s = _
  unfold execNop
  rw [hj]
  exact if_pos (by simp [hrun, hstage, hop, hfence, hdispatch])

/-- Settles O35: the entry's writes are exactly its requests in the write order, and what follows them only adds messages and lets jobs leave. -/
theorem commitWritesInOrder : Obligations.CommitWritesInOrder := by
  unfold Obligations.CommitWritesInOrder
  intro s q i j hj hq hi
  refine ⟨fun hwait => ?_, fun hcommit hlog => ?_, nop_eq hj⟩
  · rw [jobCommit_eq hj, if_neg (by simp [hwait])]
  · subst hq hi
    intro ext
    have hissue := State.mayIssue_of_mayCommit hcommit
    have hwrites := State.commitWrites_unlogged hissue hj hlog
    have hfollows : Follows (s.commitWrites j) (((s.commitWrites j).linkDone j).moveHead j.q) :=
      (State.linkDone_follows _ j).trans (State.moveHead_follows _ j.q)
    rw [hwrites] at hfollows
    obtain ⟨⟨more, hmore⟩, hjobs⟩ := hfollows
    refine ⟨_, (jobCommit_eq hj).trans (if_pos hcommit), ⟨more, ?_⟩, fun x hx hxq hxi => ?_⟩
    · rw [hwrites, ← hmore]
      simp only [State.updJob_sent, State.saying, State.commitMsgs, ← List.append_assoc]
      rfl
    · rw [hwrites] at hx
      obtain ⟨k, rfl⟩ := State.mem_updJob_place (hjobs hx) hxq hxi
      exact ⟨rfl, rfl, rfl, rfl, rfl⟩

end Sys2Proof.Machine
end

section
/-! ## Register effects and host requests that several commands share -/

namespace Sys2Proof.Machine
open Sys2Proof

/-- A counter raised after a chain of register writes, on a field the chain has not written. -/
theorem Sets.count {s t : State} {l : List ((Fld × Nat) × Nat)} (h : Sets s t l) (f : Fld) (i n : Nat) (hn : ∀ e ∈ l, e.1 ≠ (f, i)) :
    Sets s (t.count f i n) (l ++ [((f, i), s.plus f i n)]) := by
  have hold : t.getF f i = s.getF f i := h.2.2 f i hn
  have hfits : s.plus f i n < 2 ^ f.width := by
    have : 0 < 2 ^ f.width := Nat.two_pow_pos _
    unfold State.plus
    omega
  have hcount : t.count f i n = t.setF f i (s.plus f i n) := by
    unfold State.count State.plus
    rw [hold]
  rw [hcount]
  exact h.setF f i _ hn hfits

/-- One counter raised and nothing else. -/
theorem State.count_sets (s : State) (f : Fld) (i n : Nat) : Sets s (s.count f i n) [((f, i), s.plus f i n)] :=
  (Sets.refl s).count f i n (by simp)

/-- A slice-table write refused shows its code and is counted; nothing else changes (R62). -/
theorem State.cfgRefuse_sets (s : State) (sl : Nat) {code : Nat} (hcode : code < 16) : Sets s (s.cfgRefuse sl code)
    [((.SLC_SLICE_CTRL_CFG_STATUS, sl), code), ((.SLC_CFG_REFUSED_COUNT_COUNT, 0), s.plus .SLC_CFG_REFUSED_COUNT_COUNT 0 1)] :=
  ((Sets.refl s).setF .SLC_SLICE_CTRL_CFG_STATUS sl code (by simp) hcode).count .SLC_CFG_REFUSED_COUNT_COUNT 0 1 (by simp)

@[simp] theorem State.slice_setSlice_same (s : State) (i : Nat) (x : SliceX) : (s.setSlice i x).slice i = x :=
  nget_nset_same ({} : SliceX) s.slices i x

theorem State.slice_setSlice_ne (s : State) {i j : Nat} (x : SliceX) (h : j ≠ i) : (s.setSlice i x).slice j = s.slice j :=
  nget_nset_ne ({} : SliceX) s.slices x h

/-- Eight bytes within a page are one write request (R42). -/
theorem State.writeMsgs_word (s : State) (hmps : 8 ≤ s.pci.mps) (p : Option Nat) {a : Nat} (hpage : a % 4096 ≤ 4088) (v : Nat) (ro : Bool) :
    s.writeMsgs p a (leBytes 8 v) ro = [.write p a (leBytes 8 v) ro] := by
  have hlen : (leBytes 8 v).length = 8 := leBytes_length 8 v
  have hpiece : min (7 + 1) (min (max 1 (min 512 s.pci.mps)) (4096 - a % 4096)) = 8 := by omega
  have hpieces : hostPieces (min 512 s.pci.mps) a 8 8 = [(a, 8)] := by
    simp only [hostPieces, hpiece, Nat.reduceAdd, Nat.sub_self]
  have hdata : bslice (leBytes 8 v) 0 8 = leBytes 8 v := by
    unfold bslice
    rw [List.drop_zero, List.take_of_length_le hlen.le]
  unfold State.writeMsgs
  rw [hlen, hpieces, List.map_singleton, Nat.sub_self, hdata]

end Sys2Proof.Machine
end

section
/-! ## Rounds of the dirty-page log (R81, R83, R84) -/

namespace Sys2Proof.Machine
open Sys2Proof

/-! ### One entry of the log -/

/-- PROD after an entry: one on, and 0 at the end of the ring (R81). -/
def State.nextProd (s : State) (sl : Nat) : Nat :=
  let p := s.getF .SLC_SLICE_DPL_PROD_PROD sl
  if p + 1 = s.dplSize sl then 0 else (p + 1) % 2 ^ Fld.SLC_SLICE_DPL_PROD_PROD.width

/-- The phase after an entry: inverted at the end of the ring (R81). -/
def State.nextPhase (s : State) (sl : Nat) : Bool :=
  if s.getF .SLC_SLICE_DPL_PROD_PROD sl + 1 = s.dplSize sl then !(s.slice sl).phase else (s.slice sl).phase

section
variable (s : State) (sl w : Nat)

theorem State.plainOut_slice (a : Nat) (d : List Byte) (i : Nat) : (s.plainOut a d).slice i = s.slice i := by
  unfold State.plainOut
  split
  · rw [State.sendWrite_eq]
    rfl
  · rfl

theorem State.plainOut_getF (a : Nat) (d : List Byte) (f : Fld) (i : Nat) : (s.plainOut a d).getF f i = s.getF f i := by
  unfold State.plainOut
  split
  · rw [State.sendWrite_eq]
    rfl
  · rfl

theorem State.plainOut_issued {s : State} (hissue : s.mayIssue = true) (a : Nat) (d : List Byte) : s.plainOut a d = s.sendWrite none a d false :=
  if_pos hissue

theorem State.dplPut_getF (f : Fld) (i : Nat) :
    (s.dplPut sl w).getF f i = if f = .SLC_SLICE_DPL_PROD_PROD ∧ i = sl then s.nextProd sl else s.getF f i := by
  unfold State.dplPut State.nextProd
  dsimp only
  split <;> simp [State.plainOut_getF]

theorem State.dplPut_slice_same : (s.dplPut sl w).slice sl = { s.slice sl with phase := s.nextPhase sl } := by
  unfold State.dplPut State.nextPhase
  dsimp only
  split
  · exact State.slice_setSlice_same _ sl _
  · exact s.plainOut_slice _ _ sl

theorem State.dplPut_sent (hissue : s.mayIssue = true) (hmps : 8 ≤ s.pci.mps) : (s.dplPut sl w).sent =
    s.sent ++ [.write none (s.getF .SLC_SLICE_DPL_BASE_BASE sl * 4096 + 8 * s.getF .SLC_SLICE_DPL_PROD_PROD sl) (leBytes 8 (w + b2n (s.slice sl).phase)) false] := by
  have hput : (s.dplPut sl w).sent =
      (s.plainOut (s.getF .SLC_SLICE_DPL_BASE_BASE sl * 4096 + 8 * s.getF .SLC_SLICE_DPL_PROD_PROD sl) (leBytes 8 (w + b2n (s.slice sl).phase))).sent := by
    unfold State.dplPut
    dsimp only
    split <;> rfl
  rw [hput, State.plainOut_issued hissue, State.sendWrite_eq, State.writeMsgs_word s hmps none (by omega)]

/-- While the function may issue, an entry is sent and not held. -/
theorem State.dplPut_frame (hissue : s.mayIssue = true) :
    s.dplPut sl w = { s with regs := (s.dplPut sl w).regs, slices := (s.dplPut sl w).slices, sent := (s.dplPut sl w).sent } := by
  unfold State.dplPut
  dsimp only
  rw [State.plainOut_issued hissue, State.sendWrite_eq]
  split <;> rfl

end

/-! ### The commands -/

/-- The marker of the round that ends, but for its phase (R83). -/
def State.roundMarker (s : State) (sl : Nat) : Nat :=
  (s.slice sl).round % 2 ^ 52 * 4096 + b2n (s.flag .SLC_SLICE_DPL_PROD_OVERFLOW sl) * 4 + 2

/-- The state behind a round that has ended. -/
def State.endRound (s : State) (sl : Nat) : State :=
  let t := s.dplPut sl (s.roundMarker sl)
  ((t.setSlice sl { t.slice sl with round := (s.slice sl).round + 1 }).setFlag .SLC_SLICE_DPL_PROD_OVERFLOW sl false).cfgOk sl

section
variable {s : State} {sl : Nat} (hs : s.Serves)
include hs

theorem State.Serves.newRound_ends (hlog : s.getF .SLC_SLICE_CTRL_LOG_EN sl ≠ 0) (hfree : s.dplFree sl ≠ 0) :
    exec (.newRound sl) s = .next (s.endRound sl) := by
  have hrow : execNewRound sl s = _ := hs.mmio _
  exact hrow.trans (if_neg (by simp [State.flag, hlog, hfree]))

theorem State.Serves.newRound_refused (h : s.getF .SLC_SLICE_CTRL_LOG_EN sl = 0 ∨ s.dplFree sl = 0) :
    exec (.newRound sl) s = .next (s.cfgRefuse sl 1) := by
  have hrow : execNewRound sl s = _ := hs.mmio _
  exact hrow.trans (if_pos (by simpa [State.flag] using h))

theorem State.Serves.dplLogEnable (hsl : sl ≠ 0) (en : Bool) : exec (.dplLogEnable sl en) s =
    let t := (s.setFlag .SLC_SLICE_CTRL_LOG_EN sl en).cfgOk sl
    if en && !s.flag .SLC_SLICE_CTRL_LOG_EN sl then
      .next ((t.setSlice sl { t.slice sl with round := 0 }).setFlag .SLC_SLICE_DPL_PROD_OVERFLOW sl false)
    else .next t := by
  have hrow : execDplLogEnable sl en s = _ := hs.mmio _
  exact hrow.trans (if_neg hsl)

end

theorem State.endRound_getF (s : State) (sl : Nat) (f : Fld) (i : Nat) : (s.endRound sl).getF f i =
    if (f, i) = (Fld.SLC_SLICE_CTRL_CFG_STATUS, sl) ∨ (f, i) = (Fld.SLC_SLICE_DPL_PROD_OVERFLOW, sl) then 0
    else if (f, i) = (Fld.SLC_SLICE_DPL_PROD_PROD, sl) then s.nextProd sl else s.getF f i := by
  unfold State.endRound State.cfgOk
  simp only [State.getF_setF, State.setFlag_getF, State.setSlice_getF, State.dplPut_getF, Prod.mk.injEq, Nat.zero_mod, b2n, Bool.false_eq_true, if_false]
  split_ifs <;> tauto

/-- The number and the marker's phase belong to the slice; a marker that fills the ring inverts the phase. -/
theorem State.endRound_slice (s : State) (sl : Nat) :
    (s.endRound sl).slice sl = { s.slice sl with phase := s.nextPhase sl, round := (s.slice sl).round + 1 } := by
  have hslice : (s.endRound sl).slice sl = { (s.dplPut sl (s.roundMarker sl)).slice sl with round := (s.slice sl).round + 1 } :=
    State.slice_setSlice_same _ sl _
  rw [hslice, State.dplPut_slice_same]

theorem State.endRound_frame {s : State} (hissue : s.mayIssue = true) (sl : Nat) :
    s.endRound sl = { s with regs := (s.endRound sl).regs, slices := (s.endRound sl).slices, sent := (s.endRound sl).sent } := by
  have hput := s.dplPut_frame sl (s.roundMarker sl) hissue
  unfold State.endRound
  dsimp only
  rw [hput]
  rfl

/-- Settles O20: one log entry's write, place and phase, then the fields that the end of a round sets. -/
theorem dirtyLogRounds : Obligations.DirtyLogRounds := by
  unfold Obligations.DirtyLogRounds
  intro s sl hs
  refine ⟨fun hsl en => ?_, fun hlog hfree _ hissue hmps => ?_, fun h => ⟨_, hs.newRound_refused h, s.cfgRefuse_sets sl (by decide)⟩⟩
  · have hrow := hs.dplLogEnable hsl en
    dsimp only at hrow
    split at hrow
    case isTrue h =>
      refine ⟨_, hrow, ?_, ?_, fun _ _ => ?_, rfl, fun i hi => State.slice_setSlice_ne _ _ hi, fun f i hf => ?_⟩
      · cases en <;> simp [State.cfgOk, b2n]
      · simp [State.cfgOk]
      · exact congrArg SliceX.round (State.slice_setSlice_same _ sl _)
      · simp only [List.mem_cons, List.not_mem_nil, or_false, not_or, Prod.mk.injEq] at hf
        obtain ⟨hlog, hstatus, hover⟩ := hf
        simp [State.cfgOk, hlog, hstatus, hover]
    case isFalse h =>
      refine ⟨_, hrow, ?_, ?_, fun hen hoff => absurd ?_ h, rfl, fun i _ => rfl, fun f i hf => ?_⟩
      · cases en <;> simp [State.cfgOk, b2n]
      · simp [State.cfgOk]
      · simp [hen, State.flag, hoff]
      · simp only [List.mem_cons, List.not_mem_nil, or_false, not_or, Prod.mk.injEq] at hf
        obtain ⟨hlog, hstatus, -⟩ := hf
        simp [State.cfgOk, hlog, hstatus]
  · refine ⟨_, hs.newRound_ends hlog hfree, ?_, ?_, ?_, ?_, ?_, ?_, State.endRound_frame hissue sl, fun f i hf => ?_⟩
    · rw [State.endRound_slice]
    · simp [State.endRound_getF]
    · simp [State.endRound_getF]
    · simp only [State.endRound_getF]
      rfl
    · rw [State.endRound_slice]
      rfl
    · have hmark : s.roundMarker sl = (s.slice sl).round % 2 ^ 52 * 4096 + (if s.getF .SLC_SLICE_DPL_PROD_OVERFLOW sl = 0 then 0 else 4) + 2 := by
        unfold State.roundMarker
        by_cases hover : s.getF .SLC_SLICE_DPL_PROD_OVERFLOW sl = 0 <;> simp [State.flag, b2n, hover]
      rw [← hmark]
      exact s.dplPut_sent sl _ hissue hmps
    · simp only [List.mem_cons, List.not_mem_nil, or_false, not_or] at hf
      obtain ⟨hprod, hover, hstatus⟩ := hf
      rw [State.endRound_getF, if_neg (by simp [hover, hstatus]), if_neg hprod]

end Sys2Proof.Machine
end

section
/-! ## Doorbells (R43, R75, R90 to R92) -/

namespace Sys2Proof.Machine
open Sys2Proof

/-! ### The checks of a doorbell -/

/-- The doorbell's window is open, and it is one of the slice's queues (R43, R61, R91). -/
def State.doorbellOpen (s : State) (sl i : Nat) : Prop :=
  (sl = 0 ∨ s.getF .SLC_SLICE_CTRL_ENABLE sl ≠ 0) ∧ (sl ≠ 0 → s.pci.pasidEn = true) ∧ i < s.getF .SLC_SLICE_QUEUES_QCOUNT sl

/-- The queue takes a tail, and the tail moves forward on the ring up to the head (R91). -/
def State.doorbellGood (s : State) (q x : Nat) : Prop :=
  x < 2 ^ 16 ∧ s.getF .QC_CTRL_ENABLE q ≠ 0 ∧ s.getF .QC_CTRL_STATE q ≠ 3 ∧ x < s.ringSize q ∧
    dist (s.ringSize q) (s.getF .QC_TAIL_TAIL q) (s.getF .QC_HEAD_HEAD q) ≤ dist (s.ringSize q) x (s.getF .QC_HEAD_HEAD q)

/-- The lower 32 bits of a written value are what a doorbell reads. -/
theorem bits_low32 (v : Nat) : bits v 31 0 = v % 2 ^ 32 := by simp [bits]

/-- Of 32 bits the upper half is 0 where the value is its lower half. -/
theorem bits_high16_eq_zero {x : Nat} (hx : x < 2 ^ 32) : bits x 31 16 = 0 ↔ x < 2 ^ 16 := by
  simp only [bits]
  omega

theorem bits_low16_of_lt {x : Nat} (hx : x < 2 ^ 16) : bits x 15 0 = x := by
  simp only [bits]
  omega

section
variable {s : State} {sl i : Nat} {v : W64} (hs : s.Serves)
include hs

/-- A doorbell row by its checks: the window, then the queue, then the tail it moves and the hold it ends. -/
theorem State.Serves.doorbellWrite_eq : exec (.doorbellWrite sl i v) s =
    let x := bits v.toNat 31 0
    if (!s.windowOn sl || (sl != 0 && !s.pci.pasidEn) || decide (s.getF .SLC_SLICE_QUEUES_QCOUNT sl ≤ i)) = true then .next (s.count .QE_BAD_DOORBELL_COUNT_COUNT 0 1)
    else
      let q := s.getF .SLC_SLICE_QUEUES_QBASE sl + i
      let t := bits x 15 0
      let h := s.getF .QC_HEAD_HEAD q
      if bits x 31 16 ≠ 0 ∨ (!s.flag .QC_CTRL_ENABLE q) = true ∨ s.getF .QC_CTRL_STATE q = 3 ∨ s.ringSize q ≤ t ∨
          dist (s.ringSize q) t h < dist (s.ringSize q) (s.getF .QC_TAIL_TAIL q) h then .next (s.count .QC_BAD_DOORBELL_COUNT_COUNT q 1)
      else
        let s1 := if t = s.getF .QC_TAIL_TAIL q then s else s.ltrBusy.setF .QC_TAIL_TAIL q t
        .next (if (s.queue q).missHeld then s1.endMiss sl q else s1) := by
  have hrow : execDoorbellWrite sl i v s = _ := hs.mmio _
  exact hrow

end

theorem State.doorbellOpen_iff (s : State) (sl i : Nat) : s.doorbellOpen sl i ↔
    (!s.windowOn sl || (sl != 0 && !s.pci.pasidEn) || decide (s.getF .SLC_SLICE_QUEUES_QCOUNT sl ≤ i)) = false := by
  unfold State.doorbellOpen State.windowOn State.flag
  by_cases hsl : sl = 0 <;> simp [hsl, and_assoc]

theorem State.doorbellGood_iff (s : State) (q : Nat) {x : Nat} (hx : x < 2 ^ 32) : s.doorbellGood q x ↔
    ¬(bits x 31 16 ≠ 0 ∨ (!s.flag .QC_CTRL_ENABLE q) = true ∨ s.getF .QC_CTRL_STATE q = 3 ∨ s.ringSize q ≤ bits x 15 0 ∨
      dist (s.ringSize q) (bits x 15 0) (s.getF .QC_HEAD_HEAD q) < dist (s.ringSize q) (s.getF .QC_TAIL_TAIL q) (s.getF .QC_HEAD_HEAD q)) := by
  unfold State.doorbellGood
  simp only [not_or, not_not, bits_high16_eq_zero hx, State.flag, Bool.not_eq_true', bne_eq_false_iff_eq, Nat.not_le, Nat.not_lt]
  by_cases hlow : x < 2 ^ 16
  · rw [bits_low16_of_lt hlow]
  · simp only [hlow, false_and]

/-! ### A doorbell that is taken -/

/-- A device with a job that has not completed has work (R48). -/
theorem State.noWork_of_open {s : State} {j : Job} (hj : j ∈ s.jobs) (hstage : j.stage ≠ .done) : s.noWork = false := by
  have hall : (s.jobs.all fun j => j.stage == .done) = false := List.all_eq_false.2 ⟨j, hj, by simpa using hstage⟩
  simp [State.noWork, hall]

/-- A doorbell sends no LTR message where the device has work already (R48). -/
theorem State.ltrBusy_of_open {s : State} {j : Job} (hj : j ∈ s.jobs) (hstage : j.stage ≠ .done) : s.ltrBusy = s :=
  if_neg (by simp [State.noWork_of_open hj hstage])

/-- A doorbell that passes its checks on a device with work sets the tail alone, and then ends a hold. -/
theorem State.Serves.doorbellWrite_good {s : State} {sl i : Nat} {v : W64} (hs : s.Serves) (hopen : s.doorbellOpen sl i)
    (hgood : s.doorbellGood (s.getF .SLC_SLICE_QUEUES_QBASE sl + i) (v.toNat % 2 ^ 32)) {j : Job} (hj : j ∈ s.jobs) (hstage : j.stage ≠ .done) :
    ∃ t, Sets s t [((.QC_TAIL_TAIL, s.getF .SLC_SLICE_QUEUES_QBASE sl + i), v.toNat % 2 ^ 32)] ∧ exec (.doorbellWrite sl i v) s =
      .next (if (s.queue (s.getF .SLC_SLICE_QUEUES_QBASE sl + i)).missHeld then t.endMiss sl (s.getF .SLC_SLICE_QUEUES_QBASE sl + i) else t) := by
  have hrow := hs.doorbellWrite_eq (sl := sl) (i := i) (v := v)
  have hlow := bits_low16_of_lt hgood.1
  generalize hq : s.getF .SLC_SLICE_QUEUES_QBASE sl + i = q at *
  generalize hx : v.toNat % 2 ^ 32 = x at *
  have hpass := (s.doorbellGood_iff q (x := x) (by omega)).1 hgood
  dsimp only at hrow
  rw [bits_low32, hx, if_neg (by rw [(s.doorbellOpen_iff sl i).1 hopen]; decide), if_neg hpass, hlow, State.ltrBusy_of_open hj hstage] at hrow
  refine ⟨_, ?_, hrow⟩
  split
  case isTrue heq => exact ⟨rfl, by simp [heq], fun f k _ => rfl⟩
  case isFalse => exact (Sets.refl s).setF .QC_TAIL_TAIL q x (by simp) hgood.1

/-! ### The end of a hold (R90) -/

/-- Some entry of the queue waits for its owner, and every such entry stands at one place: the search finds one of that place. -/
theorem State.find_ownWait_idx {s : State} {q : Nat} {j : Job} (hj : j ∈ s.jobs) (hq : j.q = q) (hwait : j.stage = .ownWait)
    (honly : ∀ k ∈ s.jobs, k.q = q → k.stage = .ownWait → k.idx = j.idx) :
    ∃ k, (s.jobs.find? fun j => j.q == q && j.stage == .ownWait) = some k ∧ k.idx = j.idx := by
  cases hfind : s.jobs.find? fun j => j.q == q && j.stage == .ownWait with
  | none =>
    have hnone := List.find?_eq_none.1 hfind j hj
    simp [hq, hwait] at hnone
  | some k =>
    have hk := List.find?_some hfind
    simp only [Bool.and_eq_true, beq_iff_eq] at hk
    exact ⟨k, rfl, honly k (List.mem_of_find?_eq_some hfind) hk.1 hk.2⟩

/-- A held queue goes on: its hold ends and its count of readings starts again. -/
def State.unhold (s : State) (q : Nat) : State := s.setQueue q { s.queue q with missHeld := false, rereads := 0 }

/-- The held entry is fetched again, under a PASID. -/
def Job.refetch (p : Option Nat) (j : Job) : Job := { j with stage := .fetching, pasid := p, rd := j.idx }

theorem State.hostRead_queue (s : State) (sl a n q : Nat) : (s.hostRead sl a n).queue q = s.queue q := by
  have hsends : OnlySends s (s.hostRead sl a n) := s.issue_only _
  unfold OnlySends at hsends
  unfold State.queue
  rw [hsends]

/-- Whether or not the entry is read again, the hold has ended. -/
theorem State.endMiss_queue (s : State) (sl q : Nat) : (s.endMiss sl q).queue q = { s.queue q with missHeld := false, rereads := 0 } := by
  have hunhold : (s.unhold q).queue q = { s.queue q with missHeld := false, rereads := 0 } := State.queue_setQueue_same s q _
  unfold State.endMiss
  dsimp only
  split
  · exact hunhold
  · split
    · exact hunhold
    · exact (State.hostRead_queue ..).trans hunhold

section
variable {s : State} {sl q i : Nat} (hfind : ∃ k, (s.jobs.find? fun j => j.q == q && j.stage == .ownWait) = some k ∧ k.idx = i)
include hfind

theorem State.endMiss_held (hheld : s.sliceHeld sl = true ∨ s.mayIssue = false) : s.endMiss sl q = s.unhold q := by
  obtain ⟨k, hk, -⟩ := hfind
  have hstop : (s.sliceHeld sl || !s.mayIssue) = true := by simpa using hheld
  unfold State.endMiss
  simp only [hk, hstop, if_true]
  rfl

theorem State.endMiss_read (hslice : s.sliceHeld sl = false) (hissue : s.mayIssue = true) (hmrrs : 64 ≤ s.pci.mrrs) :
    s.endMiss sl q = (((s.unhold q).updJob q i (Job.refetch (s.pasidOf sl))).setFlag .QC_STATUS_OWN_WAIT q false).say
      (.read (s.pasidOf sl) (s.entryAddr q i 0) 64) := by
  obtain ⟨k, hk, rfl⟩ := hfind
  have hgo : (s.sliceHeld sl || !s.mayIssue) = false := by simp [hslice, hissue]
  unfold State.endMiss
  simp only [hk, hgo, Bool.false_eq_true, if_false]
  have hread := State.hostRead_entry (s := ((s.unhold q).updJob q k.idx (Job.refetch (s.pasidOf sl))).setFlag .QC_STATUS_OWN_WAIT q false) hissue hmrrs sl q k.idx
  have haddr : (((s.unhold q).updJob q k.idx (Job.refetch (s.pasidOf sl))).setFlag .QC_STATUS_OWN_WAIT q false).entryAddr q k.idx 0 = s.entryAddr q k.idx 0 := by
    simp [State.entryAddr, State.unhold]
  have hpasid : (((s.unhold q).updJob q k.idx (Job.refetch (s.pasidOf sl))).setFlag .QC_STATUS_OWN_WAIT q false).pasidOf sl = s.pasidOf sl := by
    simp [State.pasidOf, State.flag, State.unhold]
  rw [haddr, hpasid] at hread
  exact hread

end

/-- A tail that moves leaves what the entries' reads are made from. -/
theorem Sets.tail_reads {s t : State} {q x : Nat} (h : Sets s t [((.QC_TAIL_TAIL, q), x)]) (sl i : Nat) :
    t.sliceHeld sl = s.sliceHeld sl ∧ t.pasidOf sl = s.pasidOf sl ∧ t.entryAddr q i 0 = s.entryAddr q i 0 := by
  obtain ⟨-, -, hother⟩ := h
  have hget : ∀ f k, f ≠ .QC_TAIL_TAIL → t.getF f k = s.getF f k := fun f k hf => hother f k (by simp [Ne.symm hf])
  refine ⟨?_, ?_, ?_⟩
  · simp [State.sliceHeld, State.flag, hget]
  · simp [State.pasidOf, State.flag, hget]
  · simp [State.entryAddr, hget]

/-- Settles O21: a doorbell's checks choose the counter it raises; one that is taken sets the tail, and ends the hold that stands. -/
theorem doorbellTable : Obligations.DoorbellTable := by
  unfold Obligations.DoorbellTable
  intro s sl i v hs open' q n h x good
  refine ⟨fun hclosed => ?_, fun hopen hbad => ?_, fun hopen hgood hwork hmiss => ?_, fun hopen hgood hmiss j hj hq hwait hplace honly => ?_⟩
  · have hfail := Bool.not_eq_false _ |>.mp (mt (s.doorbellOpen_iff sl i).2 hclosed)
    exact ⟨_, hs.doorbellWrite_eq.trans (if_pos hfail), s.count_sets _ _ _⟩
  · have hpass : ¬_ := Bool.eq_false_iff.1 ((s.doorbellOpen_iff sl i).1 hopen)
    have hfail := not_not.1 (mt (s.doorbellGood_iff q (x := bits v.toNat 31 0) (by rw [bits_low32]; omega)).2 (by rw [bits_low32]; exact hbad))
    exact ⟨_, hs.doorbellWrite_eq.trans ((if_neg hpass).trans (if_pos hfail)), s.count_sets _ _ _⟩
  · obtain ⟨j, hj⟩ := List.exists_mem_of_ne_nil _ hwork
    simp only [State.openJobs, List.mem_filter, Bool.and_eq_true, bne_iff_ne] at hj
    obtain ⟨hmem, -, hstage⟩ := hj
    obtain ⟨t, ⟨hframe, htail, hother⟩, hrow⟩ := hs.doorbellWrite_good hopen hgood hmem hstage
    rw [if_neg (Bool.eq_false_iff.1 hmiss)] at hrow
    refine ⟨t, hrow, hframe, ?_, fun f k hf => hother f k (List.forall_mem_singleton.2 hf.symm)⟩
    rw [htail _ (List.mem_singleton.2 rfl)]
    split
    case isTrue heq => exact heq
    case isFalse => rfl
  · obtain ⟨t, hset, hrow⟩ := hs.doorbellWrite_good hopen hgood hj (by simp [hwait])
    rw [if_pos hmiss] at hrow
    obtain ⟨hslice, hpasid, haddr⟩ := hset.tail_reads sl j.idx
    have hwaits : t.getF .QC_STATUS_OWN_WAIT q = s.getF .QC_STATUS_OWN_WAIT q := hset.2.2 _ _ (by simp)
    have hhold := t.endMiss_queue sl q
    obtain ⟨m, rfl⟩ : ∃ m, t = { s with regs := m } := ⟨_, hset.1⟩
    have hfind := State.find_ownWait_idx hj hq hwait honly
    refine ⟨_, hrow, congrArg QueueX.missHeld hhold, congrArg QueueX.rereads hhold, fun hrun hissue hmrrs => ?_, fun hstop => ?_⟩
    · have hread := State.endMiss_read (s := { s with regs := m }) hfind (hslice.trans hrun) hissue hmrrs
      rw [hpasid, haddr] at hread
      rw [hread]
      refine ⟨?_, State.job?_updJob_same (s := s) hplace (Job.refetch (s.pasidOf sl)) fun _ => ⟨rfl, rfl⟩, rfl⟩
      show State.getF (State.setFlag _ .QC_STATUS_OWN_WAIT q false) .QC_STATUS_OWN_WAIT q = 0
      simp [b2n]
    · have hkept := State.endMiss_held (s := { s with regs := m }) (sl := sl) hfind (by rwa [hslice])
      rw [hkept]
      exact ⟨rfl, rfl, rfl, hwaits⟩

end Sys2Proof.Machine
end

section
/-! ## Fetching of entries (R42, R95, R96, R209) -/

namespace Sys2Proof.Machine
open Sys2Proof

/-! ### Listed fields after a write of another -/

/-- An entry put into a sparse map is the only one that its predicate can meet anew. -/
theorem filter_mins {κ α : Type} (ord : κ → Nat) (p : κ × α → Bool) (m : SMap κ α) (k : κ) (v : α) (hp : p (k, v) = false) :
    (mins ord m k v).filter p = m.filter p := by
  induction m with
  | nil => simp [mins, hp]
  | cons e m ih =>
    obtain ⟨a, b⟩ := e
    simp only [mins]
    split
    · rw [List.filter_cons, hp]
      rfl
    · rw [List.filter_cons, List.filter_cons, ih]

/-- A write of one key leaves what a predicate of other keys finds. -/
theorem filter_mset {κ α : Type} [DecidableEq κ] [DecidableEq α] (ord : κ → Nat) (d : κ → α) (p : κ × α → Bool) (m : SMap κ α) (k : κ) (v : α)
    (hp : ∀ w, p (k, w) = false) : (mset ord d m k v).filter p = m.filter p := by
  have hdel : (mdel m k).filter p = m.filter p := by
    unfold mdel
    rw [List.filter_filter]
    refine List.filter_congr fun e _ => ?_
    by_cases he : e.1 = k
    · have hpe := hp e.2
      rw [← he] at hpe
      simp [hpe]
    · simp [he]
  unfold mset
  split
  · exact hdel
  · rw [filter_mins ord p _ k v (hp v), hdel]

theorem State.listed_setF_ne (s : State) {f g : Fld} (i v : Nat) (h : g ≠ f) : (s.setF f i v).listed g = s.listed g := by
  unfold State.listed
  exact congrArg _ (filter_mset fldOrd fldDefault _ s.regs (f, i) _ fun w => by simpa using h.symm)

/-! ### One entry -/

/-- The job of an entry of a queue at a place, fetched by the read that begins at place rd. -/
def State.entryJob (s : State) (q rd i : Nat) : Job :=
  { q := q, idx := i, slice := s.sliceOf q, pasid := s.pasidOf (s.sliceOf q), binder := s.binderOf q, rd := rd }

section
variable (s : State) (q rd : Nat)

theorem State.fetchOne_getF {f : Fld} {i : Nat} (h : (f, i) ≠ (.SCH_RESERVE_USE_COUNT_COUNT, 4)) : (s.fetchOne q rd).getF f i = s.getF f i := by
  have hcount : (s.fetchOne q rd).getF f i = (if s.fetchUsed + 1 < 65536 then s else s.count .SCH_RESERVE_USE_COUNT_COUNT 4 1).getF f i := rfl
  rw [hcount]
  split
  · rfl
  · rw [State.count_getF, if_neg (by simpa using h)]

theorem State.fetchOne_listed {f : Fld} (h : f ≠ .SCH_RESERVE_USE_COUNT_COUNT) : (s.fetchOne q rd).listed f = s.listed f := by
  have hcount : (s.fetchOne q rd).listed f = (if s.fetchUsed + 1 < 65536 then s else s.count .SCH_RESERVE_USE_COUNT_COUNT 4 1).listed f := rfl
  rw [hcount]
  split
  · rfl
  · exact s.listed_setF_ne _ _ h

theorem State.fetchOne_jobs : (s.fetchOne q rd).jobs = s.jobs ++ [s.entryJob q rd (s.queue q).fetch] := by
  unfold State.fetchOne
  dsimp only
  split <;> rfl

theorem State.fetchOne_queue_same : (s.fetchOne q rd).queue q = { s.queue q with fetch := ((s.queue q).fetch + 1) % s.ringSize q } :=
  State.queue_setQueue_same _ q _

theorem State.fetchOne_queue_ne {p : Nat} (h : p ≠ q) : (s.fetchOne q rd).queue p = s.queue p := by
  refine (State.queue_setQueue_ne _ _ h).trans ?_
  split <;> rfl

theorem State.fetchOne_frame : s.fetchOne q rd =
    { s with regs := (s.fetchOne q rd).regs, jobs := (s.fetchOne q rd).jobs, queues := (s.fetchOne q rd).queues } := by
  unfold State.fetchOne
  dsimp only
  split <;> rfl

theorem State.fetchOne_ringSize : (s.fetchOne q rd).ringSize q = s.ringSize q := by
  unfold State.ringSize
  rw [State.fetchOne_getF s q rd (by simp)]

theorem State.fetchOne_entryJob (rd' i : Nat) : (s.fetchOne q rd).entryJob q rd' i = s.entryJob q rd' i := by
  have hget : ∀ f k, f ≠ .SCH_RESERVE_USE_COUNT_COUNT → (s.fetchOne q rd).getF f k = s.getF f k := fun f k hf => s.fetchOne_getF q rd (by simp [hf])
  have hslice : (s.fetchOne q rd).sliceOf q = s.sliceOf q := by
    unfold State.sliceOf State.ownerOf
    rw [s.fetchOne_listed q rd (by decide)]
    simp [hget]
  unfold State.entryJob
  simp [hslice, State.pasidOf, State.binderOf, State.flag, hget]

end

/-! ### A run of entries -/

/-- From s to t a queue has fetched n entries one after another, by the read that begins at place rd; beside them only the use of reserves is counted. -/
structure Fetched (q rd n : Nat) (s t : State) : Prop where
  jobs : t.jobs = s.jobs ++ (List.range n).map fun i => s.entryJob q rd ((s.queue q).fetch + i)
  queue : t.queue q = { s.queue q with fetch := ((s.queue q).fetch + n) % s.ringSize q }
  queues : ∀ p, p ≠ q → t.queue p = s.queue p
  frame : t = { s with regs := t.regs, jobs := t.jobs, queues := t.queues }
  fields : ∀ f i, (f, i) ≠ (.SCH_RESERVE_USE_COUNT_COUNT, 4) → t.getF f i = s.getF f i

theorem Fetched.none {q rd : Nat} {s : State} (h : (s.queue q).fetch < s.ringSize q) : Fetched q rd 0 s s where
  jobs := by simp
  queue := by rw [Nat.add_zero, Nat.mod_eq_of_lt h]
  queues _ _ := rfl
  frame := rfl
  fields _ _ _ := rfl

/-- An entry fetched before others: none of them lies beyond the end of the ring. -/
theorem Fetched.one_more {q rd n : Nat} {s t : State} (h : Fetched q rd n (s.fetchOne q rd) t) (hend : (s.queue q).fetch + 1 + n ≤ s.ringSize q) :
    Fetched q rd (n + 1) s t where
  jobs := by
    have hplaces : (List.range n).map (fun i => s.entryJob q rd (((s.queue q).fetch + 1) % s.ringSize q + i)) =
        (List.range n).map fun i => s.entryJob q rd ((s.queue q).fetch + (i + 1)) := by
      refine List.map_congr_left fun i hi => ?_
      have hi : i < n := List.mem_range.1 hi
      rw [Nat.mod_eq_of_lt (by omega), Nat.add_assoc, Nat.add_comm 1 i]
    rw [h.jobs, State.fetchOne_jobs, State.fetchOne_queue_same]
    simp only [State.fetchOne_entryJob, hplaces, List.range_succ_eq_map, List.map_cons, List.map_map, List.append_assoc, List.singleton_append,
      Nat.add_zero]
    rfl
  queue := by
    rw [h.queue, State.fetchOne_queue_same, State.fetchOne_ringSize]
    simp only [Nat.mod_add_mod]
    rw [Nat.add_assoc, Nat.add_comm 1 n]
  queues p hp := (h.queues p hp).trans (s.fetchOne_queue_ne q rd hp)
  frame := by
    have hone := s.fetchOne_frame q rd
    have hmore := h.frame
    rw [hone] at hmore
    exact hmore
  fields f i hf := (h.fields f i hf).trans (s.fetchOne_getF q rd hf)

/-- A queue may take its next entry: it is below the tail and inside the window, and a context is free (R95, R209, R213). -/
def State.mayTake (s : State) (q : Nat) : Prop :=
  (s.queue q).fetch ≠ s.getF .QC_TAIL_TAIL q ∧ dist (s.ringSize q) (s.queue q).fetch (s.getF .QC_HEAD_HEAD q) < s.window q ∧
    (s.openJobs q).length < s.window q ∧ s.fetchCredit q = true

/-- A run of up to f entries fetches some number of them within the ring, and one at least where the queue may take one. -/
theorem State.fetchRun_fetched (q rd f : Nat) (s : State) (hplace : (s.queue q).fetch < s.ringSize q) (hend : (s.queue q).fetch + f ≤ s.ringSize q) :
    ∃ n ≤ f, Fetched q rd n s (s.fetchRun q rd f) ∧ (0 < f → s.mayTake q → 1 ≤ n) := by
  induction f generalizing s with
  | zero => exact ⟨0, le_rfl, .none hplace, fun h => absurd h (lt_irrefl 0)⟩
  | succ f ih =>
    unfold State.fetchRun
    dsimp only
    split
    case isFalse hstop => exact ⟨0, Nat.zero_le _, .none hplace, fun _ htake => absurd htake hstop⟩
    case isTrue =>
      have hnext : ((s.fetchOne q rd).queue q).fetch < s.ringSize q ∧ ((s.fetchOne q rd).queue q).fetch + f ≤ s.ringSize q := by
        rw [State.fetchOne_queue_same]
        dsimp only
        have hlt := Nat.mod_lt ((s.queue q).fetch + 1) (show s.ringSize q > 0 by omega)
        have hle := Nat.mod_le ((s.queue q).fetch + 1) (s.ringSize q)
        omega
      rw [← s.fetchOne_ringSize q rd] at hnext
      obtain ⟨n, hn, hrun, -⟩ := ih (s.fetchOne q rd) hnext.1 hnext.2
      exact ⟨n + 1, by omega, hrun.one_more (by omega), fun _ _ => Nat.le_add_left 1 n⟩

/-! ### The command -/

/-- A read of entries that brings at least one: its job contexts, and the request. -/
theorem entryFetch_eq {s t : State} {q k n : Nat} (hfetch : s.mayFetch q = true) (htag : s.readsOut < s.tagLimit)
    (hrun : s.fetchRun q (s.queue q).fetch (min k (min (s.ringSize q - (s.queue q).fetch) (max 1 (s.pci.mrrs / 64)))) = t)
    (hjobs : t.jobs.length = s.jobs.length + n) (hn : 1 ≤ n) :
    exec (.entryFetch q k) s = .next (t.say (.read (s.pasidOf (s.sliceOf q)) (s.entryAddr q (s.queue q).fetch 0) (64 * n))) := by
  show execEntryFetch q k s = _
  unfold execEntryFetch
  have hgot : t.jobs.length - s.jobs.length = n := by omega
  have hgo : (!s.mayFetch q || decide (s.tagLimit ≤ s.readsOut)) = false := by simpa [hfetch] using htag
  simp only [hgo, Bool.false_eq_true, if_false, hrun, hgot]
  exact if_neg (by omega)

/-- Settles O22: by induction on the entries that one read may take. -/
theorem fetchStaysInsideTheWindow : Obligations.FetchStaysInsideTheWindow := by
  unfold Obligations.FetchStaysInsideTheWindow
  intro s q k hfetch htag hk hplace htail hwindow hopen hcredit
  obtain ⟨n, hn, hrun, hsome⟩ := s.fetchRun_fetched q (s.queue q).fetch
    (min k (min (s.ringSize q - (s.queue q).fetch) (max 1 (s.pci.mrrs / 64)))) hplace (by omega)
  have hone : 1 ≤ n := hsome (by omega) ⟨htail, hwindow, hopen, hcredit⟩
  have hlength := congrArg List.length hrun.jobs
  rw [List.length_append, List.length_map, List.length_range] at hlength
  refine ⟨_, n, entryFetch_eq hfetch htag rfl hlength hone, hone, by omega, by omega, hrun.jobs, hrun.queue, hrun.queues, ?_, ?_, fun f i hf => hrun.fields f i hf⟩
  · rw [State.say_sent, hrun.frame]
  · rw [hrun.frame]
    rfl

end Sys2Proof.Machine
end

section
/-! ## The checks of an entry (R130 to R132, R139) -/

namespace Sys2Proof.Machine
open Sys2Proof

/-! ### Jobs by their places -/

/-- A change that leaves each job it meets in its place. -/
def KeepsPlace (q i : Nat) (f : Job → Job) : Prop := ∀ k : Job, k.q = q → k.idx = i → (f k).q = q ∧ (f k).idx = i

/-- The job of any place read after the job of one place has been changed. -/
theorem State.job?_updJob (s : State) {q i : Nat} {f : Job → Job} (hf : KeepsPlace q i f) (p n : Nat) :
    (s.updJob q i f).job? p n = (s.job? p n).map fun k => if k.q == q && k.idx == i then f k else k := by
  have hplace : ∀ k : Job, (if k.q == q && k.idx == i then f k else k).q = k.q ∧ (if k.q == q && k.idx == i then f k else k).idx = k.idx := by
    intro k
    split
    case isTrue h =>
      simp only [Bool.and_eq_true, beq_iff_eq] at h
      obtain ⟨hq, hi⟩ := hf k h.1 h.2
      exact ⟨hq.trans h.1.symm, hi.trans h.2.symm⟩
    case isFalse => exact ⟨rfl, rfl⟩
  unfold State.job? State.updJob
  rw [List.find?_map]
  congr 2
  funext k
  simp only [Function.comp_apply, (hplace k).1, (hplace k).2]

theorem State.job?_updJob_place {s : State} {q i : Nat} {j : Job} (hj : s.job? q i = some j) {f : Job → Job} (hf : KeepsPlace q i f) :
    (s.updJob q i f).job? q i = some (f j) := by
  obtain ⟨hq, hi⟩ := State.place_of_job? hj
  rw [s.job?_updJob hf, hj, Option.map_some, if_pos (by simp [hq, hi])]

theorem State.job?_updJob_ne (s : State) {q i p n : Nat} {f : Job → Job} (hf : KeepsPlace q i f) (h : (p, n) ≠ (q, i)) :
    (s.updJob q i f).job? p n = s.job? p n := by
  rw [s.job?_updJob hf]
  cases hk : s.job? p n with
  | none => rfl
  | some k =>
    obtain ⟨hq, hi⟩ := State.place_of_job? hk
    rw [Option.map_some, if_neg (by simpa [hq, hi] using h)]

/-! ### The reads of fragment tables -/

/-- Reads for a slice are messages and nothing else, while the function may issue them. -/
theorem State.hostRead_saying {s : State} (hissue : s.mayIssue = true) (sl a n : Nat) : ∃ ms, s.hostRead sl a n = s.saying ms := by
  unfold State.hostRead
  rw [State.issue_sent s _ hissue]
  exact ⟨_, s.sendRead_eq _ a n⟩

theorem State.hostReads_saying {s : State} (hissue : s.mayIssue = true) (sl : Nat) (l : List (Nat × Nat)) :
    ∃ ms, l.foldl (fun t r => t.hostRead sl r.1 r.2) s = s.saying ms := by
  induction l generalizing s with
  | nil => exact ⟨[], s.saying_nil.symm⟩
  | cons r l ih =>
    obtain ⟨ms, hms⟩ := s.hostRead_saying hissue sl r.1 r.2
    obtain ⟨ns, hns⟩ := ih (s := s.saying ms) hissue
    exact ⟨ms ++ ns, by rw [List.foldl_cons, hms, hns, State.saying_saying]⟩

/-- An entry whose fragment tables have been read. -/
def Job.withTables (j : Job) : Job := { j with tabled := true }

section
variable {s : State} {j : Job} {inT outT : TableRead}

/-- An entry goes on as it is, or its tables are read and nothing but that is recorded. -/
theorem State.readTables_cases {k : Job} {u : State} (h : s.readTables j inT outT = some (k, u)) :
    (k = j ∧ u = s) ∨ (k = j.withTables ∧ ∃ ms, u = (s.saying ms).updJob j.q j.idx Job.withTables) := by
  unfold State.readTables at h
  extract_lets l at h
  split at h
  · cases h
    exact .inl ⟨rfl, rfl⟩
  · split at h
    · cases h
    case isFalse hissue =>
      obtain ⟨ms, hms⟩ := s.hostReads_saying (by simpa using hissue) j.slice l
      rw [hms] at h
      cases h
      exact .inr ⟨rfl, ms, rfl⟩

/-- What the tables' reads leave: the entry's job in its place, every other job, the queues, and all but messages. -/
theorem State.readTables_leaves (hj : s.job? j.q j.idx = some j) {k : Job} {u : State} (h : s.readTables j inT outT = some (k, u)) :
    u = { s with jobs := u.jobs, sent := u.sent } ∧ k.q = j.q ∧ k.idx = j.idx ∧ u.job? j.q j.idx = some k ∧
      ∀ p i, (p, i) ≠ (j.q, j.idx) → u.job? p i = s.job? p i := by
  have hkeeps : KeepsPlace j.q j.idx Job.withTables := fun _ hq hi => ⟨hq, hi⟩
  rcases State.readTables_cases h with ⟨rfl, rfl⟩ | ⟨rfl, ms, rfl⟩
  · exact ⟨rfl, rfl, rfl, hj, fun _ _ _ => rfl⟩
  · exact ⟨rfl, rfl, rfl, State.job?_updJob_place (s := s.saying ms) hj hkeeps, fun p i hp => State.job?_updJob_ne (s.saying ms) hkeeps hp⟩

theorem State.readTables_of_none_wanted (h : s.tablesWanted j inT outT = []) : s.readTables j inT outT = some (j, s) := by
  unfold State.readTables
  rw [h]
  rfl

theorem State.tablesWanted_of_chainFail {e : Nat × Nat} (h : (s.queue j.q).chainFail = some e) : s.tablesWanted j inT outT = [] := by
  simp [State.tablesWanted, h]

theorem State.tablesWanted_of_firstChecks {v : Verdict} (h : s.firstChecks (s.linked j) = some v) : s.tablesWanted j inT outT = [] := by
  simp [State.tablesWanted, h]

end

/-! ### An entry that fails -/

/-- An entry whose execution a check has ended. -/
def Job.judged (j : Job) (st d r : Nat) : Job :=
  { j with status := st, detail := d, result := r, computed := true, passed := none, stage := .ended }

theorem State.chainStep_frame (s : State) (q : Nat) (b : Bool) : ∃ x, s.chainStep q b = { s with queues := x } := by
  unfold State.chainStep
  dsimp only
  split <;> exact ⟨_, rfl⟩

/-- A verdict recorded: the job of the entry is replaced, and its chain goes on in its queue. -/
theorem State.recordVerdict_eq {s : State} {j k : Job} (hk : s.job? j.q j.idx = some k) (hstage : j.stage = .ended) :
    ∃ x, s.recordVerdict j = { s.updJob j.q j.idx fun _ => j with queues := x } := by
  have hplace : (s.updJob j.q j.idx fun _ => j).job? j.q j.idx = some j := State.job?_updJob_place hk fun _ _ _ => ⟨rfl, rfl⟩
  unfold State.recordVerdict State.decided
  rw [hplace]
  dsimp only
  rw [if_neg (by simp [hstage])]
  exact State.chainStep_frame _ _ _

section
variable {s : State} {q : Nat} {inT outT : TableRead} {j k : Job} {u : State} (hrun : s.stopped = false) (hdecodable : s.decodable q = some j)
  (hj : s.job? j.q j.idx = some j) (hread : s.readTables j inT outT = some (k, u))
include hrun hdecodable

theorem entryDecode_waits (h : s.readTables j inT outT = none) : exec (.entryDecode q inT outT) s = .next s := by
  have hrow : execEntryDecode q inT outT s = _ := if_neg (by simp [hrun])
  simp only [hdecodable, Option.bind_some, h] at hrow
  exact hrow

include hj hread

/-- An entry that its verdict ends: the job takes the verdict, its chain goes on, and nothing else changes behind the reads of its tables. -/
theorem entryDecode_ends {st d r : Nat} (hverdict : u.verdict k inT outT = .error ((u.linked k).judged st d r)) :
    ∃ t, exec (.entryDecode q inT outT) s = .next t ∧ t.job? j.q j.idx = some ((u.linked k).judged st d r) ∧
      t = { u with jobs := t.jobs, queues := t.queues } ∧ ∀ p i, (p, i) ≠ (j.q, j.idx) → t.job? p i = s.job? p i := by
  obtain ⟨-, hq, hi, hk, hothers⟩ := State.readTables_leaves hj hread
  have hrow : execEntryDecode q inT outT s = _ := if_neg (by simp [hrun])
  simp only [hdecodable, Option.bind_some, hread, hverdict] at hrow
  rw [← hq, ← hi] at hk hothers ⊢
  have hkeeps : KeepsPlace k.q k.idx fun _ => (u.linked k).judged st d r := fun _ _ _ => ⟨rfl, rfl⟩
  obtain ⟨x, hx⟩ := State.recordVerdict_eq (j := (u.linked k).judged st d r) hk rfl
  rw [hx] at hrow
  exact ⟨_, hrow, State.job?_updJob_place hk hkeeps, rfl, fun p i hp => (u.job?_updJob_ne hkeeps hp).trans (hothers p i hp)⟩

end

section
variable {s : State} {j : Job} {inT outT : TableRead}

/-- The entry behind a broken chain needs no check (R139). -/
theorem State.verdict_of_chainFail {st pos : Nat} (h : (s.queue j.q).chainFail = some (st, pos)) :
    s.verdict j inT outT = .error ((s.linked j).judged stChainBroken ((s.queue j.q).chainLen - pos) st) := by
  unfold State.verdict
  dsimp only
  rw [h]
  rfl

/-- Outside a broken chain the verdict is that of the checks. -/
theorem State.verdict_of_checks (hchain : (s.queue j.q).chainFail = none) {v : Verdict} (h : s.checks (s.linked j) inT outT = .error v) :
    s.verdict j inT outT = .error ((s.linked j).judged v.status v.detail v.result) := by
  unfold State.verdict
  dsimp only
  rw [hchain, h]
  rfl

/-- One of the checks before the fragment tables decides before all that follow. -/
theorem State.checks_of_firstChecks {v : Verdict} (h : s.firstChecks j = some v) : s.checks j inT outT = .error v := by
  unfold State.checks
  rw [h]

/-! ### Checks 1 to 4 in their order (R130) -/

theorem State.firstChecks_lockdown (hlock : s.getF .TMP_STATUS_LOCKDOWN 0 ≠ 0) : s.firstChecks j = some { status := stLockdown } := by
  unfold State.firstChecks
  rw [if_pos (by simpa [State.flag] using hlock)]

theorem State.firstChecks_unlocked (hlock : s.getF .TMP_STATUS_LOCKDOWN 0 = 0) (hop : opKnown j.opcode = false) :
    s.firstChecks j = some { status := stBadOpcode, detail := 1 } := by
  unfold State.firstChecks
  rw [if_neg (by simp [State.flag, hlock]), if_pos (by simp [hop])]

theorem State.firstChecks_admin (hlock : s.getF .TMP_STATUS_LOCKDOWN 0 = 0) (hop : opKnown j.opcode = true) (hadmin : j.adminOnly = true)
    (hslice : j.slice ≠ 0) : s.firstChecks j = some { status := stBadOpcode, detail := 2 } := by
  unfold State.firstChecks
  rw [if_neg (by simp [State.flag, hlock]), if_neg (by simp [hop]), if_pos (by simp [hadmin, hslice])]

theorem State.firstChecks_lifecycle (hlock : s.getF .TMP_STATUS_LOCKDOWN 0 = 0) (hop : opKnown j.opcode = true)
    (hadmin : j.adminOnly = true → j.slice = 0) (hlife : s.permitted j = false) :
    s.firstChecks j = some { status := stLifecycle, detail := s.getF .LCO_STATE_STATE 0 } := by
  unfold State.firstChecks
  rw [if_neg (by simp [State.flag, hlock]), if_neg (by simp [hop]), if_neg (by simpa using hadmin), if_pos (by simp [hlife])]

end

/-- Settles O30: the verdict of the chain or of the first failing check is recorded in the entry's job, behind the reads of its tables. -/
theorem decodeChecksComeFirst : Obligations.DecodeChecksComeFirst := by
  unfold Obligations.DecodeChecksComeFirst
  intro s q inT outT j hrun hdecodable hj
  have hfirst : (s.queue j.q).chainFail = none → ∀ v, s.firstChecks (s.linked j) = some v → _ := fun hchain v hv =>
    entryDecode_ends hrun hdecodable hj (State.readTables_of_none_wanted (State.tablesWanted_of_firstChecks hv))
      (State.verdict_of_checks hchain (State.checks_of_firstChecks (inT := inT) (outT := outT) hv))
  refine ⟨fun hwanted hissue => entryDecode_waits hrun hdecodable ?_, fun k u hread => ?_, fun hchain => ⟨fun hlock => ?_, fun hlock hop => ?_,
    fun hlock hop hadmin hslice => ?_, fun hlock hop hadmin hlife => ?_⟩, fun st pos hchain => ?_⟩
  · unfold State.readTables
    simp [hwanted, hissue]
  · obtain ⟨hframe, hq, -⟩ := State.readTables_leaves hj hread
    have hqueue : u.queue k.q = s.queue j.q := by
      rw [hframe, hq]
      rfl
    exact ⟨hframe, fun hchain v hv => entryDecode_ends hrun hdecodable hj hread (State.verdict_of_checks (hqueue ▸ hchain) hv)⟩
  · exact hfirst hchain _ (State.firstChecks_lockdown hlock)
  · exact hfirst hchain _ (State.firstChecks_unlocked hlock hop)
  · exact hfirst hchain _ (State.firstChecks_admin hlock hop hadmin hslice)
  · exact hfirst hchain _ (State.firstChecks_lifecycle hlock hop hadmin hlife)
  · exact entryDecode_ends hrun hdecodable hj (State.readTables_of_none_wanted (State.tablesWanted_of_chainFail hchain)) (State.verdict_of_chainFail hchain)

end Sys2Proof.Machine
end

section
/-! ## What a wake and the loss of the function leave (R9, R50, R225, R495, R509, R510) -/

namespace Sys2Proof.Machine
open Sys2Proof

/-! ### A running device -/

section
variable {s : State} (hrun : s.stopped = false)
include hrun

theorem State.clocked_run (f : State → Out) : s.clocked f = f s := if_neg (by simp [hrun])

/-- A memory request is served by the woken device (R40, R495). -/
theorem State.mmio_run (hspace : s.pci.memSpace = true) (f : State → Out) : s.mmio f = f s.awake := by
  unfold State.mmio
  rw [State.clocked_run hrun]
  exact if_pos hspace

end

/-! ### Waking (R495) -/

section
variable (s : State)

theorem State.linkExit_frame : ∃ m, s.linkExit = { s with regs := m } := by
  unfold State.linkExit
  dsimp only
  split <;> exact ⟨_, rfl⟩

theorem State.loadNanos_frame (n : Nat) : ∃ x, s.loadNanos n = { s with tim := x } := ⟨_, rfl⟩

theorem State.fromKeeper_frame : ∃ x, s.fromKeeper = { s with tim := x } := by
  unfold State.fromKeeper
  extract_lets k up s1
  split
  · obtain ⟨x, hx⟩ : ∃ x, s1 = { s with tim := x } := s.loadNanos_frame _
    rw [hx]
    exact ⟨_, rfl⟩
  · exact ⟨s.tim, rfl⟩

theorem State.fromKeeper_getF (f : Fld) (i : Nat) : s.fromKeeper.getF f i = s.getF f i := by
  obtain ⟨_, h⟩ := s.fromKeeper_frame
  rw [h]
  rfl

/-- Waking changes registers, the power state and when it began, the clocks and the mask generators. -/
theorem State.awake_frame : ∃ m x mode since e,
    s.awake = { s with regs := m, tim := x, pwr := { s.pwr with mode := mode, since := since }, ent := e } := by
  obtain ⟨m, hm⟩ := s.linkExit_frame
  unfold State.awake
  rw [hm]
  dsimp only
  split
  · exact ⟨_, _, _, _, _, rfl⟩
  · obtain ⟨x, hx⟩ := State.fromKeeper_frame (({ s with regs := m, pwr := { s.pwr with mode := .active, since := s.now } } : State).setF .PWR_STATUS_STATE 0 2)
    rw [hx]
    exact ⟨_, _, _, _, _, rfl⟩
  · exact ⟨_, _, _, _, _, rfl⟩

@[simp] theorem State.awake_pci : s.awake.pci = s.pci := by
  obtain ⟨_, _, _, _, _, h⟩ := s.awake_frame
  rw [h]

@[simp] theorem State.awake_sent : s.awake.sent = s.sent := by
  obtain ⟨_, _, _, _, _, h⟩ := s.awake_frame
  rw [h]

@[simp] theorem State.awake_now : s.awake.now = s.now := by
  obtain ⟨_, _, _, _, _, h⟩ := s.awake_frame
  rw [h]

@[simp] theorem State.awake_lco : s.awake.lco = s.lco := by
  obtain ⟨_, _, _, _, _, h⟩ := s.awake_frame
  rw [h]

@[simp] theorem State.awake_tripLatch : s.awake.pwr.tripLatch = s.pwr.tripLatch := by
  obtain ⟨_, _, _, _, _, h⟩ := s.awake_frame
  rw [h]

@[simp] theorem State.awake_mayIssue : s.awake.mayIssue = s.mayIssue := by simp [State.mayIssue, State.stopped]

/-- Beside the power state a wake shows in the registers what the link's exit shows. -/
theorem State.awake_getF_of_linkExit {f : Fld} (hf : f ≠ .PWR_STATUS_STATE) (i : Nat) : s.awake.getF f i = s.linkExit.getF f i := by
  have hne : (f, i) ≠ (.PWR_STATUS_STATE, 0) := by simp [hf]
  unfold State.awake
  dsimp only
  split
  · exact State.getF_setF_ne s.linkExit _ hne
  · exact (State.fromKeeper_getF _ f i).trans (State.getF_setF_ne s.linkExit _ hne)
  · rfl

theorem State.awake_getF {f : Fld} (hpower : f ≠ .PWR_STATUS_STATE) (hlink : f ≠ .PCI_LINK_STATUS_PM_STATE) (i : Nat) : s.awake.getF f i = s.getF f i := by
  rw [s.awake_getF_of_linkExit hpower]
  unfold State.linkExit
  dsimp only
  split
  · exact State.getF_setF_ne _ _ (by simp [hlink])
  · rfl

/-- A wake takes the link out of L1 (R47, R56). -/
theorem State.awake_pmState (h : 1 ≤ s.getF .PCI_LINK_STATUS_PM_STATE 0 ∧ s.getF .PCI_LINK_STATUS_PM_STATE 0 ≤ 3) :
    s.awake.getF .PCI_LINK_STATUS_PM_STATE 0 = 0 := by
  rw [s.awake_getF_of_linkExit (by decide)]
  unfold State.linkExit
  dsimp only
  rw [if_pos h, State.getF_setF_same, Nat.zero_mod]

end

/-! ### Jobs discarded (R225) -/

/-- What a job's going does not reach: the time of the machine, the life cycle, the power block, and of the function all but messages held. -/
def State.standing (s : State) : Nat × LcoX × PwrX × PciX := (s.now, s.lco, s.pwr, { s.pci with heldVectors := [] })

theorem State.standing_foldl {α : Type} {f : State → α → State} (hf : ∀ t x, (f t x).standing = t.standing) (l : List α) (s : State) :
    (l.foldl f s).standing = s.standing := by
  induction l generalizing s with
  | nil => rfl
  | cons x l ih => exact (ih _).trans (hf s x)

theorem Journals.standing {s t : State} (h : Journals s t) : t.standing = s.standing := by
  rw [h.frame]
  rfl

section
variable (s : State)

theorem State.scrubQuarter_standing (c n : Nat) : (s.scrubQuarter c n).standing = s.standing := by
  unfold State.scrubQuarter
  dsimp only
  split <;> rfl

theorem State.scrubJob_standing (q i : Nat) : (s.scrubJob q i).standing = s.standing :=
  State.standing_foldl (fun t (e : Nat × Nat) => t.scrubQuarter_standing e.1 e.2) _ s

theorem State.leaveEngine_standing (j : Job) : (s.leaveEngine j).standing = s.standing :=
  (State.standing_foldl (f := fun t n => t.closeSession n) (fun _ _ => rfl) _ _).trans (s.scrubJob_standing j.q j.idx)

theorem State.letGo_standing (j : Job) : (s.letGo j).standing = s.standing := by
  unfold State.letGo
  dsimp only
  split <;> exact s.leaveEngine_standing j

theorem State.removeKey_frame (i : Nat) : ∃ x, s.removeKey i = { s with kv := x } := by
  unfold State.removeKey
  split <;> exact ⟨_, rfl⟩

theorem State.removeKeys_frame (p : KeyX → Bool) : ∃ x, s.removeKeys p = { s with kv := x } := by
  unfold State.removeKeys
  generalize (s.keysUsed.filter fun i => p (s.key i)) = l
  induction l generalizing s with
  | nil => exact ⟨s.kv, rfl⟩
  | cons i l ih =>
    obtain ⟨x, hx⟩ := s.removeKey_frame i
    rw [List.foldl_cons, hx]
    exact ih { s with kv := x }

theorem State.undoKey_standing (j : Job) : (s.undoKey j).standing = s.standing := by
  unfold State.undoKey
  split
  · rfl
  · dsimp only
    split
    · obtain ⟨x, hx⟩ := State.removeKey_frame
        { s with store := { s.store with placeQ := s.store.placeQ.filter fun p => !(p.owner == some (j.q, j.idx)) } } ‹_›
      rw [hx]
      rfl
    · rfl

theorem State.voidRecord_standing (j : Job) (status detail : Nat) : (s.voidRecord j status detail).standing = s.standing := by
  unfold State.voidRecord
  split
  · split
    · rfl
    · exact (Journals.giveRecord ((Journals.refl s).setStream _ _) _ _).standing
  · rfl

/-- The jobs go; what stands beside them stays. -/
theorem State.discardJobs_standing (detail : Nat) : (s.discardJobs detail).standing = s.standing := by
  unfold State.discardJobs
  extract_lets open' s1
  have hstep : ∀ (t : State) (j : Job), ((((t.letGo j).undoKey j).disown j.q j.idx).voidRecord j (if j.stage = .accepted then stFlushed else stAborted) detail).standing =
      t.standing := fun t j => (State.voidRecord_standing _ j _ detail).trans (((t.letGo j).undoKey_standing j).trans (t.letGo_standing j))
  have hs1 : s1.standing = s.standing := State.standing_foldl hstep open' s
  exact hs1

/-! ### The function cleared (R510) -/

theorem State.reposts_frame (l : List ScReq) : ∃ m x, l.foldl (fun t r => t.repost r true) s = { s with regs := m, store := x } := by
  induction l generalizing s with
  | nil => exact ⟨s.regs, s.store, rfl⟩
  | cons r l ih =>
    obtain ⟨m, x, h⟩ := ih (s.repost r true)
    exact ⟨m, x, h⟩

theorem State.dropChannels_frame : ∃ m x c, s.dropChannels = { s with regs := m, store := x, chans := c } := by
  unfold State.dropChannels
  dsimp only
  obtain ⟨m, x, h⟩ := State.reposts_frame
    { s with chans := s.chans.filterMap fun c => if c.2.posts = [] then none else some (c.1, { posts := c.2.posts }) }
    (s.chans.flatMap fun c => c.2.outstanding.map fun o => o.req)
  exact ⟨m, x, _, h⟩

/-- What every event that clears class F leaves: no job and no queue; the time, the life cycle and the power block stand, and of the function all but its
held messages and its DOE and SPDM state. -/
theorem State.clearFunction_leaves (detail : Nat) (cs : List RCls) : (s.clearFunction detail cs).jobs = [] ∧ (s.clearFunction detail cs).queues = [] ∧
    (s.clearFunction detail cs).now = s.now ∧ (s.clearFunction detail cs).lco = s.lco ∧ (s.clearFunction detail cs).pwr = s.pwr ∧
    (s.clearFunction detail cs).pci = { s.pci with heldVectors := [], doeIn := none, doeErr := false, spdm := {} } := by
  have hstanding := s.discardJobs_standing detail
  unfold State.clearFunction
  extract_lets s1 s2 rings s3 s4
  obtain ⟨m, x, c, hchannels⟩ := (s.discardJobs detail).dropChannels_frame
  obtain ⟨y, hkeys⟩ := s3.removeKeys_frame fun k => decide (k.cls = .ephemeral)
  have hs4 : s4 = { s3 with kv := y } := hkeys
  have hs1 : s1 = { s.discardJobs detail with regs := m, store := x, chans := c } := hchannels
  have hjobs : s4.jobs = [] := by
    rw [hs4]
    show s1.jobs = []
    rw [hs1]
    rfl
  have hqueues : s4.queues = [] := by rw [hs4]
  have hstands : s4.standing = s.standing := by
    rw [hs4]
    show s1.standing = s.standing
    rw [hs1]
    exact hstanding
  simp only [State.standing, Prod.mk.injEq] at hstands
  obtain ⟨hnow, hlco, hpwr, hpci⟩ := hstands
  exact ⟨hjobs, hqueues, hnow, hlco, hpwr, congrArg (fun p : PciX => { p with doeIn := none, doeErr := false, spdm := {} }) hpci⟩

/-- What a reset of the link leaves beside (R509): no job, no bus mastering; the time, the life cycle, the power block and PERST# stand. -/
theorem State.clearLink_leaves : s.clearLink.jobs = [] ∧ s.clearLink.now = s.now ∧ s.clearLink.lco = s.lco ∧ s.clearLink.pwr = s.pwr ∧
    s.clearLink.pci.perstLow = s.pci.perstLow ∧ s.clearLink.pci.busMaster = false := by
  obtain ⟨hjobs, -, hnow, hlco, hpwr, hpci⟩ := s.clearFunction_leaves 7 [.L, .F, .S]
  unfold State.clearLink
  generalize s.clearFunction 7 [.L, .F, .S] = t at *
  have hperst : t.pci.perstLow = s.pci.perstLow := by rw [hpci]
  exact ⟨hjobs, hnow, hlco, hpwr, hperst, rfl⟩

end

end Sys2Proof.Machine
end

section
/-! ## The link (R35, R47, R53 to R57, R59) -/

namespace Sys2Proof.Machine
open Sys2Proof

section
variable {s : State} (hregs : s.regsOk) (hrun : s.stopped = false)
include hrun

/-! ### Counted events and requests that fail (R40, R59) -/

theorem receiverError_counts : ∃ t, exec .receiverError s = .next t ∧ Sets s t [((.PCI_RX_ERR_COUNT_COUNT, 0), s.plus .PCI_RX_ERR_COUNT_COUNT 0 1)] := by
  have hrow : execReceiverError s = _ := State.clocked_run hrun _
  exact ⟨_, hrow, s.count_sets _ _ _⟩

theorem replayTimerTimeout_counts :
    ∃ t, exec .replayTimerTimeout s = .next t ∧ Sets s t [((.PCI_REPLAY_COUNT_COUNT, 0), s.plus .PCI_REPLAY_COUNT_COUNT 0 1)] := by
  have hrow : execReplayTimerTimeout s = _ := State.clocked_run hrun _
  exact ⟨_, hrow, s.count_sets _ _ _⟩

/-- A bad request is counted in the woken device, and a bad read answered with zeros. -/
theorem mmioBadRequest_counts (hspace : s.pci.memSpace = true) {bar a n : Nat} {wr : Bool} (hbad : badRequest bar a n wr = true) :
    ∃ t, exec (.mmioBadRequest bar a n wr) s = .next t ∧
      SetsSaying s.awake t [((.PCI_MMIO_BAD_COUNT_COUNT, 0), s.plus .PCI_MMIO_BAD_COUNT_COUNT 0 1)] (if wr = true then [] else [.completion (zeros n)]) := by
  have hrow : execMmioBadRequest bar a n wr s = _ := State.mmio_run hrun hspace _
  rw [if_neg (by simp [hbad])] at hrow
  have hold : s.awake.plus .PCI_MMIO_BAD_COUNT_COUNT 0 1 = s.plus .PCI_MMIO_BAD_COUNT_COUNT 0 1 := by
    unfold State.plus
    rw [s.awake_getF (by decide) (by decide)]
  obtain ⟨-, hcount, hother⟩ := s.awake.count_sets .PCI_MMIO_BAD_COUNT_COUNT 0 1
  rw [hold] at hcount hother
  cases wr with
  | true => exact ⟨_, hrow, by simp [State.count, State.setF], hcount, hother⟩
  | false => exact ⟨_, hrow, rfl, hcount, hother⟩

theorem mmioMemorySpaceDisabled_unsupported (hspace : s.pci.memSpace = false) : exec .mmioMemorySpaceDisabled s = .next (s.awake.say .unsupported) := by
  have hrow : execMmioMemorySpaceDisabled s = _ := State.clocked_run hrun _
  rw [hspace] at hrow
  exact hrow

/-! ### The rate of the link -/

include hregs in
theorem linkDownspeed_steps (hauto : s.getF .PCI_LINK_CTRL_AUTO_DOWNSPEED 0 ≠ 0) (hup : s.pci.training = none) (hspeed : 1 < s.getF .PCI_LINK_STATUS_SPEED 0) :
    ∃ t, exec .linkDownspeed s = .next t ∧ Sets s t [((.PCI_LINK_STATUS_SPEED, 0), s.getF .PCI_LINK_STATUS_SPEED 0 - 1),
      ((.PCI_LINK_STATUS_DEGRADED, 0), 1), ((.PCI_DOWNSPEED_COUNT_COUNT, 0), s.plus .PCI_DOWNSPEED_COUNT_COUNT 0 1)] := by
  have hrow : execLinkDownspeed s = _ := State.clocked_run hrun _
  rw [if_neg (by simp [State.flag, hauto]), hup] at hrow
  dsimp only at hrow
  rw [if_neg (by omega)] at hrow
  have hlt := State.getF_lt hregs .PCI_LINK_STATUS_SPEED 0
  exact ⟨_, hrow, (((Sets.refl s).setF .PCI_LINK_STATUS_SPEED 0 _ (by simp) (by omega)).setF .PCI_LINK_STATUS_DEGRADED 0 1 (by simp) (by decide)).count
    .PCI_DOWNSPEED_COUNT_COUNT 0 1 (by simp)⟩

/-- RETRAIN starts a training at the rate just written that is no recovery (R54, R57). -/
theorem retrain_trains (hspace : s.pci.memSpace = true) {v : W32} (hretrain : bit v.toNat 5 = true) : ∃ t, exec (.retrain v) s = .next t ∧
    t.pci.training = (if s.pci.perstLow = true then none else t.trainTo) ∧ t.pci.recovering = false ∧ t.getF .PCI_LINK_CTRL_MAX_SPEED 0 = v.toNat % 16 := by
  have hrow : execRetrain v s = _ := State.mmio_run hrun hspace _
  dsimp only at hrow
  rw [if_neg (by simp [hretrain])] at hrow
  refine ⟨_, hrow, ?_, rfl, ?_⟩
  · show (if s.awake.pci.perstLow = true then none else _) = _
    rw [s.awake_pci]
    rfl
  · show State.getF (State.setF (State.setF _ .PCI_LINK_CTRL_MAX_SPEED 0 _) .PCI_LINK_CTRL_AUTO_DOWNSPEED 0 _) .PCI_LINK_CTRL_MAX_SPEED 0 = _
    simp [bits]

end

/-! ### Training that reaches L0 -/

theorem State.linkAt_speed (s : State) {speed : Nat} (hspeed : speed ≤ 5) (width : Nat) : (s.linkAt speed width).getF .PCI_LINK_STATUS_SPEED 0 = speed := by
  unfold State.linkAt
  simp only [State.getF_setF, State.setFlag_getF, width_PCI_LINK_STATUS_SPEED]
  simp
  omega

theorem State.linkAt_getF_error (s : State) (speed width : Nat) {f : Fld} (hf : f ∈ [Fld.BLK_RECOVERY_COUNT_COUNT, .BLK_ERR_STATUS_CAUSE]) (i : Nat) :
    (s.linkAt speed width).getF f i = s.getF f i := by
  simp only [List.mem_cons, List.not_mem_nil, or_false] at hf
  unfold State.linkAt
  rcases hf with rfl | rfl <;> simp

/-- A recovery journaled leaves the link's training as it is. -/
theorem State.recovered_training (s : State) (b : Nat) :
    (s.recovered b).pci.training = s.pci.training ∧ (s.recovered b).pci.recovering = s.pci.recovering := by
  unfold State.recovered
  dsimp only
  rw [(Journals.journal _ _ _).frame]
  exact ⟨rfl, rfl⟩

theorem State.recovered_count (s : State) (b : Nat) :
    (s.recovered b).getF .BLK_RECOVERY_COUNT_COUNT b = (s.getF .BLK_RECOVERY_COUNT_COUNT b + 1) % 2 ^ 32 := by
  unfold State.recovered
  dsimp only
  rw [State.journal_getF _ _ _ .BLK_RECOVERY_COUNT_COUNT]
  simp

theorem State.recovered_cause (s : State) {b : Nat} (hb : b ≠ blkQRE) : (s.recovered b).getF .BLK_ERR_STATUS_CAUSE b = 0 := by
  unfold State.recovered
  dsimp only
  rw [State.journal_getF_err _ _ _ _ _ (by decide) hb]
  simp

section
variable {s : State} (hrun : s.stopped = false) {r : Nat} (htraining : s.pci.training = some r) (hperst : s.pci.perstLow = false) (hrate : 1 ≤ r ∧ r ≤ 5)
include hrun htraining hperst

include hrate in
theorem linkUp_reaches (hfresh : s.pci.recovering = false) (sp wd : Nat) : ∃ t, exec (.linkUp sp wd) s = .next t ∧ t.pci.training = none ∧
    t.getF .PCI_LINK_STATUS_SPEED 0 = max 1 (min sp r) ∧ t.sent = s.sent ++ (if (s.pwr.pmeStatus && s.pci.pmeEn) = true then [.pme] else []) ∧
    t.getF .BLK_RECOVERY_COUNT_COUNT 1 = s.getF .BLK_RECOVERY_COUNT_COUNT 1 := by
  have hrow : execLinkUp sp wd s = _ := State.clocked_run hrun _
  rw [htraining] at hrow
  dsimp only at hrow
  rw [if_neg (by simp [hfresh, hperst])] at hrow
  have hspeed := State.linkAt_speed { s with pci := { s.pci with training := none } } (speed := max 1 (min sp r)) (by omega) (s.linkWidth wd)
  have hcount := State.linkAt_getF_error { s with pci := { s.pci with training := none } } (max 1 (min sp r)) (s.linkWidth wd) (f := .BLK_RECOVERY_COUNT_COUNT) (by simp) 1
  refine ⟨_, hrow, ?_⟩
  split
  · exact ⟨rfl, hspeed, rfl, hcount⟩
  · exact ⟨rfl, hspeed, by simp [State.linkAt], hcount⟩

/-- A training after a link-down that reaches L0 is a recovery of the block (R53, R517). -/
theorem linkRecovered_counts (hrecovering : s.pci.recovering = true) (hlimit : s.pci.limited = false) (sp wd : Nat) :
    ∃ t, exec (.linkRecovered sp wd) s = .next t ∧ t.pci.training = none ∧ t.pci.recovering = false ∧
      t.getF .BLK_RECOVERY_COUNT_COUNT 1 = (s.getF .BLK_RECOVERY_COUNT_COUNT 1 + 1) % 2 ^ 32 ∧ t.getF .BLK_ERR_STATUS_CAUSE 1 = 0 := by
  have hrow : execLinkRecovered sp wd s = _ := State.clocked_run hrun _
  rw [htraining] at hrow
  dsimp only at hrow
  rw [if_neg (by simp [hrecovering, hperst]), if_neg (by simp [hlimit])] at hrow
  refine ⟨_, hrow, ?_, ?_, ?_, State.recovered_cause _ (by decide)⟩
  · rw [(State.recovered_training _ _).1]
    rfl
  · rw [(State.recovered_training _ _).2]
    rfl
  · rw [show (1 : Nat) = blkPCI from rfl, State.recovered_count, State.linkAt_getF_error _ _ _ (by simp)]
    rfl

end

/-! ### The link's loss (R53, R54) -/

/-- The bit of an error raised stands in its block's cause. -/
theorem State.raiseErr_bit (s : State) (b u y : Nat) {c : Nat} (hc : c < 32) : bit ((s.raiseErr b c u y).getF .BLK_ERR_STATUS_CAUSE b) c = true := by
  rw [State.raiseErr_cause, setBits_one]
  unfold bit
  rw [Nat.testBit_mod_two_pow, Nat.testBit_or, Nat.testBit_two_pow_self]
  simp [hc]

theorem linkDown_clears {s : State} (hperst : s.pci.perstLow = false) (hquiet : s.pci.quietSince = none) : ∃ t, exec .linkDown s = .next t ∧ t.jobs = [] ∧
    bit (t.getF .BLK_ERR_STATUS_CAUSE 1) 0 = true ∧ t.pci.quietSince = some s.now ∧ t.pci.recovering = true := by
  have hrow : execLinkDown s = _ := if_neg (by simp [hperst, hquiet])
  obtain ⟨hjobs, hnow, -⟩ := s.awake.clearLink_leaves
  dsimp only at hrow
  generalize s.awake.clearLink = u at *
  refine ⟨_, hrow, ?_, State.raiseErr_bit _ _ _ _ (by decide), ?_, ?_⟩
  · rw [State.raiseErr_jobs]
    exact hjobs
  · rw [State.raiseErr_frame]
    exact congrArg some (hnow.trans s.awake_now)
  · rw [State.raiseErr_frame]

section
variable {s : State} (hrun : s.stopped = false) (hquiet : s.pci.quietSince ≠ none)
include hrun hquiet

theorem linkQuietTimeExpiry_trains (hlimit : s.recoveryLimited 1 = false) :
    exec .linkQuietTimeExpiry s = .next { s with pci := { s.pci with quietSince := none, training := s.trainTo } } := by
  have hrow : execLinkQuietTimeExpiry s = _ := State.clocked_run hrun _
  dsimp only at hrow
  rw [if_neg (by simpa using hquiet), if_neg (by rw [show s.recoveryLimited blkPCI = false from hlimit]; decide)] at hrow
  exact hrow

/-- At the limit of its recoveries the link trains at 2.5 GT/s (R54). -/
theorem linkQuietTimeExpiry_limits (hregs : s.regsOk) (hlimit : s.recoveryLimited 1 = true) : ∃ t, exec .linkQuietTimeExpiry s = .next t ∧ Raised s t 1 1 ∧
    t.pci.limited = true ∧ t.pci.training = if s.powered = true ∧ s.pwr.onVbat = false then some 1 else none := by
  have hrow : execLinkQuietTimeExpiry s = _ := State.clocked_run hrun _
  dsimp only at hrow
  rw [if_neg (by simpa using hquiet), if_pos (show s.recoveryLimited blkPCI = true from hlimit)] at hrow
  refine ⟨_, hrow, State.raiseErr_raised _ 1 1 0 0 (by decide) (State.regsOk_regs rfl hregs), ?_, ?_⟩
  · rw [State.raiseErr_frame]
  · rw [State.raiseErr_frame]
    show State.trainTo { s with pci := { s.pci with quietSince := none, limited := true } } = _
    have htarget : State.targetSpeed { s with pci := { s.pci with quietSince := none, limited := true } } = 1 := if_pos (.inl rfl)
    have hrun' : State.stopped { s with pci := { s.pci with quietSince := none, limited := true } } = false := hrun
    unfold State.trainTo
    rw [htarget, hrun']
    simp [State.powered]

end

theorem linkL1Entry_enters {s : State} (hrun : s.stopped = false) {pm : Nat} (hpm : pm = 1 ∨ pm = 2 ∨ (pm = 3 ∧ s.pci.l12En = true))
    (hspeed : s.getF .PCI_LINK_STATUS_SPEED 0 ≠ 0) (hready : s.pwr.l2Ready = false) :
    ∃ t, exec (.linkL1Entry pm) s = .next t ∧ Sets s t [((.PCI_LINK_STATUS_PM_STATE, 0), pm)] := by
  have hrow : execLinkL1Entry pm s = _ := State.clocked_run hrun _
  rw [if_neg (by rcases hpm with rfl | rfl | ⟨rfl, hl12⟩ <;> simp [*])] at hrow
  exact ⟨_, hrow, (Sets.refl s).setF .PCI_LINK_STATUS_PM_STATE 0 pm (by simp) (by rw [width_PCI_LINK_STATUS_PM_STATE]; omega)⟩

end Sys2Proof.Machine
end

section
/-! ## Interrupts, held messages, resets and configuration requests (R45 to R50, R56, R509, R510) -/

namespace Sys2Proof.Machine
open Sys2Proof

/-! ### Failed reads (R45) -/

theorem State.logAer_eq (s : State) (c : Nat) : s.logAer c = { s with pci := { s.pci with
    aerCount := s.pci.aerCount + 1
    aerUnc := s.pci.aerUnc ||| 2 ^ (if c = 1 then 14 else if c = 2 then 20 else if c = 3 then 15 else 12)
    aerCor := if c = 4 then s.pci.aerCor ||| 2 ^ 13 else s.pci.aerCor } } := by
  unfold State.logAer
  split
  · rfl
  · rfl
  · rfl
  · rw [if_neg ‹_›, if_neg ‹_›, if_neg ‹_›]

/-- A failed read of an entry is logged, and the entry ends unread. -/
theorem hostReadFailure_fetching {s : State} (hrun : s.stopped = false) {q i : Nat} {j : Job} (hj : s.job? q i = some j) (hstage : j.stage = .fetching)
    (cause d : Nat) : exec (.hostReadFailure (.job q i d) cause) s = .next ((s.logAer (bits d 3 0)).updJob q i fun k => k.unread d) := by
  have hrow : execHostReadFailure (.job q i d) cause s = _ := State.clocked_run hrun _
  have hlogged : (s.logAer (bits d 3 0)).job? q i = some j := hj
  simp only [readCause, hlogged, hstage, if_true] at hrow
  exact hrow

/-! ### Bus mastering (R49) -/

section
variable {t : State}

theorem State.sendVector_masked {v : Nat} (h : t.vectorMasked v = true) : t.sendVector v = t.setPba v true := if_pos h

theorem State.sendVector_held {v : Nat} (hmask : t.vectorMasked v = false) (hissue : t.mayIssue = false) :
    t.sendVector v = { t with pci := { t.pci with heldVectors := t.pci.heldVectors ++ [v] } } := by
  unfold State.sendVector
  rw [if_neg (by simp [hmask]), if_neg (by simp [hissue])]

theorem State.sendVector_sent {v : Nat} (hmask : t.vectorMasked v = false) (hissue : t.mayIssue = true) : t.sendVector v = t.say (.msix v) := by
  unfold State.sendVector
  rw [if_neg (by simp [hmask]), if_pos hissue]

theorem State.finishResets_of_none (h : ∀ q, t.getF .QC_CTRL_STATE q ≠ 3) : t.finishResets = t := by
  unfold State.finishResets
  rw [List.filter_eq_nil_iff.2 fun q _ => by simpa using h q]
  rfl

/-- Held requests and messages go out in their order once the function may issue them. -/
theorem State.resumeIssue_eq (hissue : t.mayIssue = true) : t.resumeIssue = (t.pci.heldVectors.foldl (fun (u : State) v => u.sendVector v)
    (t.held.foldl (fun (u : State) m => u.send m) { t with held := [], pci := { t.pci with heldVectors := [] } })).finishResets :=
  if_neg (by simp [hissue])

end

/-- Only the MSI-X capability and the vector's own mask bit mask a vector. -/
theorem State.vectorMasked_eq_false {s : State} {v : Nat} (hmsix : s.pci.msixEn = true) (hall : s.pci.msixMask = false) (hmask : s.getF .MSIX_CTRL_MASK v = 0) :
    s.vectorMasked v = false := by simp [State.vectorMasked, hmsix, hall, State.flag, hmask]

theorem busMasterDisable_holds {s : State} (hrun : s.stopped = false) (d3 : Bool) : ∃ t, exec (.busMasterDisable d3) s = .next t ∧ t.mayIssue = false ∧
    ∀ v, t.vectorMasked v = s.vectorMasked v := by
  have hrow : execBusMasterDisable d3 s = _ := State.clocked_run hrun _
  cases d3 with
  | true => exact ⟨_, hrow, by simp [State.mayIssue], fun _ => rfl⟩
  | false => exact ⟨_, hrow, rfl, fun _ => rfl⟩

theorem busMasterEnable_resumes {s : State} (hrun : s.stopped = false) {v a : Nat} {d : List Byte} (hvectors : s.pci.heldVectors = [v])
    (hheld : s.held = [.write none a d false]) (hmsix : s.pci.msixEn = true) (hall : s.pci.msixMask = false) (hmask : s.getF .MSIX_CTRL_MASK v = 0)
    (hresets : ∀ q, s.getF .QC_CTRL_STATE q ≠ 3) :
    ∃ t, exec .busMasterEnable s = .next t ∧ t.sent = s.sent ++ s.writeMsgs none a d false ++ [.msix v] ∧ t.held = [] ∧ t.pci.heldVectors = [] := by
  have hrow : execBusMasterEnable s = _ := State.clocked_run hrun _
  rw [State.resumeIssue_eq (by simpa [State.mayIssue, State.stopped] using hrun), hheld, hvectors] at hrow
  simp only [List.foldl_cons, List.foldl_nil, State.send, Bool.false_and, State.sendWrite_eq] at hrow
  rw [State.sendVector_sent, State.finishResets_of_none] at hrow
  · exact ⟨_, hrow, rfl, rfl, rfl⟩
  · exact hresets
  · exact State.vectorMasked_eq_false hmsix hall hmask
  · simpa [State.mayIssue, State.stopped] using hrun

/-! ### Pending vectors (R46) -/

theorem bit_setBits_zero (x n : Nat) : bit (setBits x n n 0) n = false := by
  have hbits : bits x n n = x / 2 ^ n % 2 := by simp [bits]
  have hle : 2 ^ n * (x / 2 ^ n % 2) ≤ x :=
    calc 2 ^ n * (x / 2 ^ n % 2) ≤ 2 ^ n * (x / 2 ^ n) := Nat.mul_le_mul_left _ (Nat.mod_le _ _)
      _ ≤ x := Nat.mul_div_le x _
  unfold setBits bit
  rw [hbits, Nat.zero_mod, Nat.zero_mul, Nat.add_zero, Nat.mul_comm, Nat.testBit_eq_decide_div_mod_eq, Nat.sub_mul_div_of_le _ _ _ hle]
  simp
  omega

theorem State.setPba_clears (s : State) (v : Nat) : (s.setPba v false).pba v = false := by
  have hlt : v % 64 < 64 := Nat.mod_lt _ (by decide)
  have hbit := bit_setBits_zero (s.getF .MSIX_PBA_BITS (v / 64)) (v % 64)
  unfold bit at hbit
  unfold State.setPba State.pba bit
  rw [State.getF_setF_same, width_MSIX_PBA_BITS, Nat.testBit_mod_two_pow]
  simp [b2n, hbit]

theorem State.setPba_getF (s : State) (v : Nat) (b : Bool) {f : Fld} (hf : f ≠ .MSIX_PBA_BITS) (i : Nat) : (s.setPba v b).getF f i = s.getF f i :=
  State.getF_setF_ne _ _ (by simp [hf])

/-- An unmasked vector's pending message is sent, and its bit clears. -/
theorem State.unpend_sends {t : State} {v : Nat} (hpending : t.pba v = true) (hmask : t.vectorMasked v = false) (hissue : t.mayIssue = true) :
    t.unpend v = (t.setPba v false).say (.msix v) := by
  have hmask' : (t.setPba v false).vectorMasked v = false := by
    unfold State.vectorMasked State.flag at hmask ⊢
    rw [State.setPba_getF _ _ _ (by decide)]
    exact hmask
  unfold State.unpend
  rw [if_pos (by simp [hpending, hmask])]
  exact State.sendVector_sent hmask' hissue

theorem msixUnmask_sends {s : State} (hrun : s.stopped = false) {v : Nat} (hv : v < 8192) (hspace : s.pci.memSpace = true) (hpending : s.pba v = true)
    (hissue : s.mayIssue = true) (hmsix : s.pci.msixEn = true) (hall : s.pci.msixMask = false) : ∃ t, exec (.msixUnmask (some v)) s = .next t ∧
      t.sent = s.sent ++ [.msix v] ∧ t.pba v = false ∧ t.getF .MSIX_CTRL_MASK v = 0 := by
  have hrow : exec (.msixUnmask (some v)) s = _ :=
    State.mmio_run hrun hspace fun u => if 8192 ≤ v then .next u else .next ((u.setF .MSIX_CTRL_MASK v 0).unpend v)
  rw [if_neg (by omega), State.unpend_sends] at hrow
  · refine ⟨_, hrow, congrArg (· ++ [Msg.msix v]) s.awake_sent, State.setPba_clears _ v, ?_⟩
    rw [State.say_getF, State.setPba_getF _ _ _ (by decide), State.getF_setF_same, Nat.zero_mod]
  · unfold State.pba at hpending ⊢
    rw [State.getF_setF_ne _ _ (by simp), s.awake_getF (by decide) (by decide)]
    exact hpending
  · refine State.vectorMasked_eq_false ((congrArg PciX.msixEn s.awake_pci).trans hmsix) ((congrArg PciX.msixMask s.awake_pci).trans hall) ?_
    rw [State.getF_setF_same, Nat.zero_mod]
  · exact s.awake_mayIssue.trans hissue

/-! ### Latency tolerance (R48) -/

theorem le_ceilDiv_mul (n : Nat) {d : Nat} (hd : 0 < d) : n ≤ ceilDiv n d * d := by
  unfold ceilDiv
  have := Nat.lt_div_mul_add (a := n + d - 1) hd
  omega

theorem ceilDiv_lt_iff {n d k : Nat} (hd : 0 < d) : ceilDiv n d < k ↔ n + d - 1 < k * d := Nat.div_lt_iff_lt_mul hd

/-- The scale of a report is the smallest that holds the time. -/
theorem ltrCode_smallest {n : Nat} (hn : n < 2 ^ 32) : ∃ k, ltrCode n = (ceilDiv n (32 ^ k), k) ∧ ceilDiv n (32 ^ k) < 1024 ∧ ∀ l < k, ¬ ceilDiv n (32 ^ l) < 1024 := by
  cases hfind : (List.range 6).find? fun k => decide (ceilDiv n (32 ^ k) < 1024) with
  | none =>
    have hlast : ceilDiv n (32 ^ 5) < 1024 := by
      unfold ceilDiv
      omega
    exact absurd (decide_eq_true hlast) (List.find?_eq_none.1 hfind 5 (by decide))
  | some k =>
    obtain ⟨hk, -, hless⟩ := List.find?_range_eq_some.1 hfind
    exact ⟨k, by unfold ltrCode; rw [hfind]; rfl, by simpa using hk, fun l hl => by simpa using hless l hl⟩

theorem ltrCode_bounds {n : Nat} (hn : n < 2 ^ 32) :
    n ≤ (ltrCode n).1 * 32 ^ (ltrCode n).2 ∧ (ltrCode n).1 < 1024 ∧ ∀ k < (ltrCode n).2, 1024 * 32 ^ k ≤ n + 32 ^ k - 1 := by
  obtain ⟨k, hcode, hfits, hless⟩ := ltrCode_smallest hn
  rw [hcode]
  refine ⟨le_ceilDiv_mul n (by positivity), hfits, fun l hl => ?_⟩
  simpa [ceilDiv_lt_iff] using hless l hl

/-- A report goes out where it differs from the last (R48). -/
theorem ltrIdleTimer_sends {s : State} (hrun : s.stopped = false) (hidle : s.noWork = true) :
    exec .ltrIdleTimer s = .next (s.sendLtr (s.getF .PCI_LTR_IDLE_LATENCY_NS 0)) := by
  have hrow : execLtrIdleTimer s = _ := State.clocked_run hrun _
  rw [if_pos hidle] at hrow
  exact hrow

theorem State.sendLtr_same {s : State} {n : Nat} (hlast : s.pci.ltrLast = some (ltrCode n)) : s.sendLtr n = s := if_neg (by simp [hlast])

theorem State.sendLtr_new {s : State} {n : Nat} (hen : s.pci.ltrEn = true) (hlast : s.pci.ltrLast ≠ some (ltrCode n)) : s.sendLtr n =
    ({ s with pci := { s.pci with ltrLast := some (ltrCode n) } } : State).say (.ltr (ltrCode n).1 (ltrCode n).2) :=
  if_pos (by simp [hen, hlast])

/-! ### Resets of the function and the link (R50, R500, R509, R510) -/

section
variable {s : State}

theorem flr_clears (hrun : s.stopped = false) : ∃ t, exec .flr s = .next t ∧ t.jobs = [] ∧ t.queues = [] ∧ t.pci.busMaster = false ∧ t.pci.memSpace = false ∧
    t.pci.flrUntil = some (s.now + 100000000) ∧ t.lco = s.lco := by
  have hrow : execFlr s = _ := State.clocked_run hrun _
  obtain ⟨hjobs, hqueues, -, hlco, -⟩ := s.clearFunction_leaves 3 [.F, .S]
  dsimp only at hrow
  generalize s.clearFunction 3 [.F, .S] = u at *
  exact ⟨_, hrow, hjobs, hqueues, rfl, rfl, rfl, hlco⟩

theorem perstAssert_clears : ∃ t, exec .perstAssert s = .next t ∧ t.jobs = [] ∧ t.pci.perstLow = true ∧ t.pwr.tripPin = false ∧
    t.pwr.tripLatch = s.pwr.tripLatch := by
  have hrow : exec .perstAssert s = execPerstAssert s := rfl
  obtain ⟨hjobs, -, -, hpwr, -⟩ := s.awake.clearLink_leaves
  unfold execPerstAssert at hrow
  generalize s.awake.clearLink = u at *
  exact ⟨_, hrow, hjobs, rfl, rfl, by rw [← s.awake_tripLatch, ← hpwr]⟩

theorem perstRelease_trains (hperst : s.pci.perstLow = true) : ∃ t, exec .perstRelease s = .next t ∧
    t.pci = { s.pci with perstLow := false, training := s.trainTo } ∧ t.regs = s.regs ∧ t.pwr.wakePin = false :=
  ⟨_, (if_neg (by simp [hperst]) : execPerstRelease s = _), rfl, rfl, rfl⟩

theorem hotReset_clears (hrun : s.stopped = false) : ∃ t, exec .hotReset s = .next t ∧ t.jobs = [] ∧ t.pci.busMaster = false ∧ t.lco = s.lco ∧
    t.pci.training = if s.pci.perstLow = true then none else t.trainTo := by
  have hrow : execHotReset s = _ := State.clocked_run hrun _
  obtain ⟨hjobs, -, hlco, -, hperst, hmaster⟩ := s.awake.clearLink_leaves
  dsimp only at hrow
  generalize s.awake.clearLink = u at *
  rw [s.awake_pci] at hperst
  rw [hperst] at hrow
  exact ⟨_, hrow, hjobs, hmaster, hlco.trans s.awake_lco, rfl⟩

theorem pmeTurnOff_acknowledges (hrun : s.stopped = false) : ∃ t, exec .pmeTurnOff s = .next t ∧ t.pwr.l2Ready = true ∧ t.sent = s.sent ++ [.pmeToAck] ∧
    t.getF .PCI_LINK_STATUS_PM_STATE 0 = 4 := by
  have hrow : execPmeTurnOff s = _ := State.clocked_run hrun _
  exact ⟨_, hrow, rfl, congrArg (· ++ [Msg.pmeToAck]) s.awake_sent, by simp⟩

/-! ### Configuration requests (R50) -/

theorem configRequest_retried (hrun : s.stopped = false) {off : Nat} (hretry : s.awake.cfgRetry = true) (v : Option W32) :
    exec (.configRequest off v) s = .next (s.awake.say .retryStatus) := by
  have hrow : execConfigRequest off v s = _ := State.clocked_run hrun _
  dsimp only at hrow
  rw [if_pos hretry] at hrow
  exact hrow

theorem configRequest_reads (hrun : s.stopped = false) {off : Nat} (hretry : s.awake.cfgRetry = false) :
    exec (.configRequest off none) s = .next (s.awake.say (.completion (leBytes 4 (s.awake.cfgRead off)))) := by
  have hrow : execConfigRequest off none s = _ := State.clocked_run hrun _
  dsimp only at hrow
  rw [if_neg (by simp [hretry])] at hrow
  exact hrow

end

end Sys2Proof.Machine
end

section
/-! ## DOE and SPDM (R51, R52) -/

namespace Sys2Proof.Machine
open Sys2Proof

section
variable {s : State} (hrun : s.stopped = false)
include hrun

/-! ### Data objects (R51) -/

theorem doeRequest_taken {d : List Byte} (herr : s.pci.doeErr = false) (hlen : d.length ≤ 4096) (hvendor : bfield d 0 2 = 1) (htype : bfield d 2 1 ≤ 1) :
    exec (.doeRequest d) s = .next { s.awake with pci := { s.pci with doeIn := some d } } := by
  have hrow : execDoeRequest d s = _ := State.clocked_run hrun _
  dsimp only at hrow
  rw [s.awake_pci, if_neg (by simp [herr]), if_neg (by omega), if_neg (by omega)] at hrow
  exact hrow

theorem doeDiscovery_answers {d : List Byte} (hin : s.pci.doeIn = some d) (htype : bfield d 2 1 = 0) (hindex : bfield d 8 1 = 0) :
    ∃ t, exec .doeDiscovery s = .next t ∧ t.pci.doeIn = none ∧ t.sent = s.sent ++ [.doe (doeObject 0 [1, 0, 0, 1])] := by
  have hrow : execDoeDiscovery s = _ := State.clocked_run hrun _
  have hobject : s.doeObj 0 = some d := by simp [State.doeObj, hin, htype]
  rw [hobject] at hrow
  dsimp only at hrow
  rw [if_pos hindex] at hrow
  exact ⟨_, hrow, rfl, rfl⟩

theorem doeAbort_clears : exec .doeAbort s = .next { s with pci := { s.pci with doeIn := none, doeErr := false } } := by
  have hrow : execDoeAbort s = _ := State.clocked_run hrun _
  exact hrow

end

/-! ### Answers -/

/-- The outcome of a request from s: the mailbox is empty and one SPDM response with the code stands in the read mailbox. -/
def Answers (s : State) (code : Nat) (o : Out) : Prop :=
  ∃ t r, o = .next t ∧ t.pci.doeIn = none ∧ t.sent = s.sent ++ [.doe (doeObject 1 r)] ∧ bfield r 1 1 = code

theorem bfield_second (a b : Byte) (l : List Byte) : bfield (a :: b :: l) 1 1 = b.toNat := by simp [bfield, bslice, leNat]

theorem State.spdmSay_answers {s t : State} (hsent : t.sent = s.sent) (x : SpdmX) (req : List Byte) (a b : Byte) (l : List Byte) :
    Answers s b.toNat (.next (t.spdmSay x req (a :: b :: l))) :=
  ⟨_, _, rfl, rfl, congrArg (· ++ _) hsent, bfield_second a b l⟩

theorem State.spdmError_answers (s : State) (m : List Byte) (code : Nat) : Answers s 0x7F (.next (s.spdmError m code)) :=
  ⟨_, _, rfl, rfl, rfl, bfield_second _ 0x7F _⟩

/-- A request in its order gets its response; out of order, ERROR. -/
theorem answers_in_order {s : State} {b : Bool} {m : List Byte} {code : Nat} {o : Out} (h : Answers s code o) :
    Answers s (if b = true then code else 0x7F) (if (!b) = true then .next (s.spdmError m 4) else o) := by
  cases b with
  | true => exact h
  | false => exact s.spdmError_answers m 4

/-! ### The seven requests (R52) -/

section
variable {s : State} (hrun : s.stopped = false) {m : List Byte}
include hrun

theorem spdmGetVersion_answers (hm : s.spdmMsg 0x84 = some m) : Answers s 0x04 (exec .spdmGetVersion s) := by
  have hrow : execSpdmGetVersion s = _ := State.clocked_run hrun _
  rw [hm] at hrow
  rw [show exec .spdmGetVersion s = _ from hrow]
  exact State.spdmSay_answers rfl _ _ 0x10 0x04 _

theorem spdmGetCapabilities_answers (hm : s.spdmMsg 0xE1 = some m) :
    Answers s (if s.pci.spdm.version = true then 0x61 else 0x7F) (exec .spdmGetCapabilities s) := by
  have hrow : execSpdmGetCapabilities s = _ := State.clocked_run hrun _
  rw [hm] at hrow
  rw [show exec .spdmGetCapabilities s = _ from hrow]
  exact answers_in_order (State.spdmSay_answers rfl _ _ _ 0x61 _)

theorem spdmNegotiateAlgorithms_answers (hm : s.spdmMsg 0xE3 = some m) :
    Answers s (if s.pci.spdm.caps = true then 0x63 else 0x7F) (exec .spdmNegotiateAlgorithms s) := by
  have hrow : execSpdmNegotiateAlgorithms s = _ := State.clocked_run hrun _
  rw [hm] at hrow
  rw [show exec .spdmNegotiateAlgorithms s = _ from hrow]
  exact answers_in_order (State.spdmSay_answers rfl _ _ _ 0x63 _)

theorem spdmGetDigests_answers (hm : s.spdmMsg 0x81 = some m) :
    Answers s (if s.pci.spdm.algos = true then 0x01 else 0x7F) (exec .spdmGetDigests s) := by
  have hrow : execSpdmGetDigests s = _ := State.clocked_run hrun _
  rw [hm] at hrow
  rw [show exec .spdmGetDigests s = _ from hrow]
  exact answers_in_order (State.spdmSay_answers rfl _ _ _ 0x01 _)

theorem spdmGetCertificate_answers (hm : s.spdmMsg 0x82 = some m) (hslot : bfield m 2 1 = 0) (hoffset : bfield m 4 2 ≤ s.seq.chain.length) :
    Answers s (if s.pci.spdm.algos = true then 0x02 else 0x7F) (exec .spdmGetCertificate s) := by
  have hrow : execSpdmGetCertificate s = _ := State.clocked_run hrun _
  rw [hm] at hrow
  dsimp only at hrow
  rw [if_neg (by omega : ¬(bfield m 2 1 ≠ 0 ∨ s.seq.chain.length < bfield m 4 2))] at hrow
  rw [show exec .spdmGetCertificate s = _ from hrow]
  exact answers_in_order (State.spdmSay_answers rfl _ _ _ 0x02 _)

theorem spdmChallenge_answers (hm : s.spdmMsg 0x83 = some m) (hslot : bfield m 2 1 = 0) :
    Answers s (if s.pci.spdm.algos = true then 0x03 else 0x7F) (exec .spdmChallenge s) := by
  have hrow : execSpdmChallenge s = _ := State.clocked_run hrun _
  rw [hm] at hrow
  dsimp only at hrow
  rw [if_neg (not_not.2 hslot)] at hrow
  rw [show exec .spdmChallenge s = _ from hrow]
  exact answers_in_order (State.spdmSay_answers rfl _ _ _ 0x03 _)

theorem spdmGetMeasurements_answers (hm : s.spdmMsg 0xE0 = some m) (hop : bfield m 3 1 ≤ 6) :
    Answers s (if s.pci.spdm.algos = true then 0x60 else 0x7F) (exec .spdmGetMeasurements s) := by
  have hrow : execSpdmGetMeasurements s = _ := State.clocked_run hrun _
  rw [hm] at hrow
  dsimp only at hrow
  rw [if_neg (by omega : ¬(bfield m 3 1 ≠ 0xFF ∧ 6 < bfield m 3 1))] at hrow
  rw [show exec .spdmGetMeasurements s = _ from hrow]
  refine answers_in_order ?_
  split
  · exact State.spdmSay_answers rfl _ _ _ 0x60 _
  · exact State.spdmSay_answers rfl _ _ _ 0x60 _

end

/-- The SPDM request in the mailbox is found under its own code. -/
theorem State.spdmMsg_of {s : State} {d : List Byte} (hin : s.pci.doeIn = some d) (htype : bfield d 2 1 = 1) {code : Nat} (hcode : bfield (d.drop 8) 1 1 = code) :
    s.spdmMsg code = some (d.drop 8) := by
  simp [State.spdmMsg, State.doeObj, hin, htype, hcode]

/-! ### The function -/

/-- Settles O60: clause by clause from what each command of chapter 03 does in the running device. -/
theorem pcieFunction : Obligations.PcieFunction := by
  unfold Obligations.PcieFunction
  intro s hregs hrun
  refine ⟨fun bar a n wr hspace hbad => mmioBadRequest_counts hrun hspace hbad, mmioMemorySpaceDisabled_unsupported hrun, receiverError_counts hrun,
    replayTimerTimeout_counts hrun, linkDownspeed_steps hregs hrun, fun v hspace => retrain_trains hrun hspace, fun r sp wd htraining hperst hlow hhigh => ⟨?_, ?_⟩,
    linkDown_clears, fun hquiet => ⟨linkQuietTimeExpiry_trains hrun hquiet, linkQuietTimeExpiry_limits hrun hquiet hregs⟩,
    fun pm => linkL1Entry_enters hrun, fun hlow hhigh => ⟨_, rfl, s.awake_pmState ⟨hlow, hhigh⟩⟩, fun q i j cause d hj hstage => ?_, fun d3 => ?_,
    fun v a d => busMasterEnable_resumes hrun, fun v => msixUnmask_sends hrun, fun n => ltrCode_bounds, fun hen hidle => ⟨?_, ?_⟩, flr_clears hrun,
    perstAssert_clears, perstRelease_trains, hotReset_clears hrun, pmeTurnOff_acknowledges hrun, fun d => doeRequest_taken hrun,
    fun d => doeDiscovery_answers hrun, doeAbort_clears hrun, fun d code hin htype hcode => ?_, fun off => ⟨configRequest_retried hrun, configRequest_reads hrun⟩⟩
  · exact fun hfresh => linkUp_reaches hrun htraining hperst ⟨hlow, hhigh⟩ hfresh sp wd
  · exact fun hrecovering hlimit => linkRecovered_counts hrun htraining hperst hrecovering hlimit sp wd
  · exact (hostReadFailure_fetching hrun hj hstage cause d).trans (by rw [State.logAer_eq]; rfl)
  · obtain ⟨t, hstep, hissue, hmasks⟩ := busMasterDisable_holds hrun d3
    refine ⟨t, hstep, hissue, fun v => ?_, fun m => t.issue_held m hissue⟩
    rw [← hmasks]
    cases hmask : t.vectorMasked v with
    | true => exact State.sendVector_masked hmask
    | false => exact State.sendVector_held hmask hissue
  · exact fun hlast => (ltrIdleTimer_sends hrun hidle).trans (by rw [State.sendLtr_same hlast])
  · exact fun hlast => (ltrIdleTimer_sends hrun hidle).trans (by rw [State.sendLtr_new hen hlast])
  · have hmsg := fun c (hc : code = c) => State.spdmMsg_of hin htype (hcode.symm.trans hc)
    exact ⟨fun h => spdmGetVersion_answers hrun (hmsg _ h), fun h => spdmGetCapabilities_answers hrun (hmsg _ h),
      fun h => spdmNegotiateAlgorithms_answers hrun (hmsg _ h), fun h => spdmGetDigests_answers hrun (hmsg _ h),
      fun h => spdmGetCertificate_answers hrun (hmsg _ h), fun h => spdmChallenge_answers hrun (hmsg _ h),
      fun h => spdmGetMeasurements_answers hrun (hmsg _ h)⟩

end Sys2Proof.Machine
end

section
/-! ## The slice table (R60 to R73, R75) -/

namespace Sys2Proof.Machine
open Sys2Proof

/-! ### Listed instances of a field -/

theorem mem_of_mget_ne {κ α : Type} [DecidableEq κ] {d : κ → α} {m : SMap κ α} {k : κ} (h : mget d m k ≠ d k) : ∃ v, (k, v) ∈ m := by
  induction m with
  | nil => exact absurd rfl h
  | cons e m ih =>
    obtain ⟨a, b⟩ := e
    by_cases hk : a = k
    · exact ⟨b, by simp [hk]⟩
    · obtain ⟨v, hv⟩ := ih (by simpa [mget, hk] using h)
      exact ⟨v, List.mem_cons_of_mem _ hv⟩

/-- An instance whose value is not its reset value is listed. -/
theorem State.mem_listed {s : State} {f : Fld} {i : Nat} (h : s.getF f i ≠ f.reset i) : i ∈ s.listed f := by
  obtain ⟨v, hv⟩ := mem_of_mget_ne h
  exact List.mem_map.2 ⟨_, List.mem_filter.2 ⟨hv, by simp⟩, rfl⟩

/-! ### Register writes on one field twice -/

/-- The later of two writes of one field stands. -/
theorem State.setF_setF (s : State) (f : Fld) (i v w : Nat) : (s.setF f i v).setF f i w = s.setF f i w :=
  congrArg (fun m => { s with regs := m }) (mset_mset fldOrd fldDefault s.regs (f, i) _ _)

theorem Sets.setFlag {s t : State} {l : List ((Fld × Nat) × Nat)} (h : Sets s t l) (f : Fld) (i : Nat) (b : Bool)
    (hn : ∀ e ∈ l, e.1 ≠ (f, i)) (hf : 1 ≤ f.width) : Sets s (t.setFlag f i b) (l ++ [((f, i), b2n b)]) := by
  refine h.setF f i (b2n b) hn ?_
  have htwo : 2 ^ 1 ≤ 2 ^ f.width := Nat.pow_le_pow_right (by decide) hf
  cases b <;> simp only [b2n, Bool.false_eq_true, if_false, if_true] <;> omega

/-- A slice-table write accepted shows CFG_STATUS 0 (R62). -/
theorem Sets.cfgOk {s t : State} {l : List ((Fld × Nat) × Nat)} (h : Sets s t l) (sl : Nat)
    (hn : ∀ e ∈ l, e.1 ≠ (.SLC_SLICE_CTRL_CFG_STATUS, sl)) : Sets s (t.cfgOk sl) (l ++ [((.SLC_SLICE_CTRL_CFG_STATUS, sl), 0)]) :=
  h.setF .SLC_SLICE_CTRL_CFG_STATUS sl 0 hn (by decide)

/-! ### PASIDs of the enabled slices (R60) -/

theorem mem_addNew {l : List Nat} {x y : Nat} : y ∈ addNew l x ↔ y ∈ l ∨ y = x := by
  unfold addNew
  split
  case isTrue h =>
    have hx : x ∈ l := by simpa using h
    exact ⟨.inl, fun hy => hy.elim id fun e => e ▸ hx⟩
  case isFalse => simp

section
variable (s : State)

theorem State.mem_enabledSlices (i : Nat) : i ∈ s.enabledSlices ↔ i = 0 ∨ s.getF .SLC_SLICE_CTRL_ENABLE i ≠ 0 := by
  have hreset : i ≠ 0 → Fld.SLC_SLICE_CTRL_ENABLE.reset i = 0 := fun hi => if_neg hi
  unfold State.enabledSlices
  rw [mem_addNew, List.mem_filter, State.flag_eq_true]
  by_cases hi : i = 0
  · simp [hi]
  · have hlisted : s.getF .SLC_SLICE_CTRL_ENABLE i ≠ 0 → i ∈ s.listed .SLC_SLICE_CTRL_ENABLE := fun h => State.mem_listed (by rwa [hreset hi])
    simp only [hi, false_or, or_false]
    exact ⟨And.right, fun h => ⟨hlisted h, h⟩⟩

/-- Another enabled slice holds PASID p. -/
def State.HoldsPasid (s : State) (sl p : Nat) : Prop :=
  ∃ i, i ≠ sl ∧ (i = 0 ∨ s.getF .SLC_SLICE_CTRL_ENABLE i ≠ 0) ∧ s.getF .SLC_SLICE_PASID_PASID_VALID i ≠ 0 ∧ s.getF .SLC_SLICE_PASID_PASID i = p

theorem State.pasidTaken_iff (sl p : Nat) : s.pasidTaken sl p = true ↔ s.HoldsPasid sl p := by
  unfold State.pasidTaken State.HoldsPasid
  simp only [List.any_eq_true, State.mem_enabledSlices, State.flag, Bool.and_eq_true, bne_iff_ne, beq_iff_eq]
  exact exists_congr fun i => by tauto

end

/-! ### Control commands (R64) -/

section
variable {s : State} {sl : Nat} (hs : s.Serves)
include hs

/-- SLICE0: the control commands have no meaning for slice 0 (R64). -/
theorem State.Serves.control_slice0 {c : Instr}
    (hc : c ∈ [Instr.sliceEnable 0, .sliceDisable 0, .slicePause 0, .sliceUnpause 0, .sliceReset 0, .dplLogEnable 0 true, .dplLogEnable 0 false]) :
    exec c s = .next (s.cfgRefuse 0 6) := by
  simp only [List.mem_cons, List.not_mem_nil, or_false] at hc
  rcases hc with rfl | rfl | rfl | rfl | rfl | rfl | rfl
  · exact (hs.mmio _ : execSliceEnable 0 s = _)
  · exact (hs.mmio _ : execSliceDisable 0 s = _)
  · exact (hs.mmio _ : execSlicePause 0 s = _)
  · exact (hs.mmio _ : execSliceUnpause 0 s = _)
  · exact (hs.mmio _ : execSliceReset 0 s = _)
  · exact (hs.mmio _ : execDplLogEnable 0 true s = _)
  · exact (hs.mmio _ : execDplLogEnable 0 false s = _)

/-- An ENABLE that may rise: the PASID rules decide (R43, R60). -/
theorem State.Serves.sliceEnable_eq (hsl : sl ≠ 0) (hoff : s.getF .SLC_SLICE_CTRL_ENABLE sl = 0) (hready : s.getF .GLB_STATUS_READY 0 ≠ 0)
    (hstate : s.getF .SLC_SLICE_CTRL_STATE sl = 0) : exec (.sliceEnable sl) s =
      if ¬(s.pci.pasidEn = true ∧ s.getF .SLC_SLICE_PASID_PASID_VALID sl ≠ 0) then .next (s.cfgRefuse sl 5)
      else if s.pasidTaken sl (s.getF .SLC_SLICE_PASID_PASID sl) then .next (s.cfgRefuse sl 4)
      else .next (((s.setFlag .SLC_SLICE_CTRL_ENABLE sl true).setF .SLC_SLICE_CTRL_STATE sl
        (if s.flag .SLC_SLICE_CTRL_PAUSE sl then 3 else 1)).cfgOk sl) := by
  have hrow : execSliceEnable sl s = _ := hs.mmio _
  rw [if_neg hsl, if_neg (by simp [State.flag, hoff]), if_neg (by simp [State.ready, State.flag, hready, hstate])] at hrow
  refine hrow.trans (if_congr ?_ rfl rfl)
  simp only [State.flag, Bool.or_eq_true, Bool.not_eq_true', bne_eq_false_iff_eq]
  cases s.pci.pasidEn <;> simp

theorem State.Serves.sliceDisable_paused (hsl : sl ≠ 0) (hpaused : s.getF .SLC_SLICE_CTRL_STATE sl = 3) :
    exec (.sliceDisable sl) s = .next (((s.setFlag .SLC_SLICE_CTRL_ENABLE sl false).setF .SLC_SLICE_CTRL_STATE sl 0).cfgOk sl) := by
  have hrow : execSliceDisable sl s = _ := hs.mmio _
  exact hrow.trans ((if_neg hsl).trans (if_pos hpaused))

theorem State.Serves.sliceDisable_busy (hsl : sl ≠ 0) (hstate : s.getF .SLC_SLICE_CTRL_STATE sl ≠ 3) :
    exec (.sliceDisable sl) s = .next (s.cfgRefuse sl 1) := by
  have hrow : execSliceDisable sl s = _ := hs.mmio _
  exact hrow.trans ((if_neg hsl).trans (if_neg hstate))

end

/-- Settles O13: slice 0 takes no control command; the PASID rules decide an enable, the STATE a disable. -/
theorem sliceControlFollowsItsRules : Obligations.SliceControlFollowsItsRules := by
  unfold Obligations.SliceControlFollowsItsRules
  intro s hs
  refine ⟨fun c hc => ⟨_, hs.control_slice0 hc, s.cfgRefuse_sets 0 (by decide)⟩, fun sl hsl hoff hready hstate => ?_, fun sl hsl => ⟨fun hpaused => ?_,
    fun hbusy => ⟨_, hs.sliceDisable_busy hsl hbusy, s.cfgRefuse_sets sl (by decide)⟩⟩⟩
  · have hrow := hs.sliceEnable_eq hsl hoff hready hstate
    have htaken := s.pasidTaken_iff sl (s.getF .SLC_SLICE_PASID_PASID sl)
    intro mayBind taken
    refine ⟨fun hmay hfree => ⟨_, hrow.trans ((if_neg (not_not.2 hmay)).trans (if_neg (htaken.not.2 hfree))), ?_⟩,
      fun hmay => ⟨_, hrow.trans (if_pos hmay), s.cfgRefuse_sets sl (by decide)⟩,
      fun hmay ht => ⟨_, hrow.trans ((if_neg (not_not.2 hmay)).trans (if_pos (htaken.2 ht))), s.cfgRefuse_sets sl (by decide)⟩⟩
    have hvalue : (if s.flag .SLC_SLICE_CTRL_PAUSE sl then 3 else 1) = if s.getF .SLC_SLICE_CTRL_PAUSE sl = 0 then 1 else 3 := by
      by_cases hp : s.getF .SLC_SLICE_CTRL_PAUSE sl = 0 <;> simp [State.flag, hp]
    rw [hvalue]
    exact (((Sets.refl s).setFlag .SLC_SLICE_CTRL_ENABLE sl true (by simp) (by decide)).setF .SLC_SLICE_CTRL_STATE sl _ (by simp)
      (by split <;> decide)).cfgOk sl (by simp)
  · exact ⟨_, hs.sliceDisable_paused hsl hpaused, (((Sets.refl s).setFlag .SLC_SLICE_CTRL_ENABLE sl false (by simp) (by decide)).setF
      .SLC_SLICE_CTRL_STATE sl 0 (by simp) (by decide)).cfgOk sl (by simp)⟩

end Sys2Proof.Machine
end

section
/-! ## Pausing a slice and binding it to a PASID (R60, R65, R66, R75) -/

namespace Sys2Proof.Machine
open Sys2Proof

/-! ### Pausing (R75) -/

section
variable {s : State} {sl : Nat}

/-- Only a queue that holds anything can hold a passed result. -/
theorem State.passed_eq_none (h : ∀ e ∈ s.queues, (s.queue e.1).passed = none) (q : Nat) : (s.queue q).passed = none := by
  by_contra hpassed
  have hqueue : s.queue q ≠ {} := fun h => hpassed (congrArg QueueX.passed h)
  obtain ⟨x, hx⟩ := mem_of_mget_ne hqueue
  exact hpassed (h _ hx)

theorem State.dropPassed_foldl (h : ∀ e ∈ s.queues, (s.queue e.1).passed = none) (l : List Nat) :
    l.foldl (fun t q => t.dropPassed q) s = s :=
  List.foldl_fixed' (fun q => if_neg (by simp [s.passed_eq_none h q])) l

/-- A pausing slice stays so while a job of it is left, and else is PAUSED. -/
theorem State.sliceDrained_pausing (s : State) (sl : Nat) : (s.setF .SLC_SLICE_CTRL_STATE sl 2).sliceDrained sl =
    s.setF .SLC_SLICE_CTRL_STATE sl (if (∃ j ∈ s.jobs, j.slice = sl ∧ j.stage ≠ .done ∧ j.stage ≠ .ownWait) then 2 else 3) := by
  have hjobs : (s.jobs.any fun j => j.slice == sl && j.stage != .done && j.stage != .ownWait) = false ↔
      ¬∃ j ∈ s.jobs, j.slice = sl ∧ j.stage ≠ .done ∧ j.stage ≠ .ownWait := by
    simp [and_assoc]
  have hstate : (s.setF .SLC_SLICE_CTRL_STATE sl 2).getF .SLC_SLICE_CTRL_STATE sl = 2 := State.getF_setF_same s _ sl 2
  by_cases hleft : ∃ j ∈ s.jobs, j.slice = sl ∧ j.stage ≠ .done ∧ j.stage ≠ .ownWait
  · rw [if_pos hleft]
    exact if_neg fun h => hjobs.1 h.2 hleft
  · rw [if_neg hleft, ← State.setF_setF s .SLC_SLICE_CTRL_STATE sl 2 3]
    exact if_pos ⟨hstate, hjobs.2 hleft⟩

/-- No queue of a paused slice may fetch. -/
theorem State.mayFetch_of_pause {q : Nat} (howner : s.ownerOf q = some sl) (hpause : s.getF .SLC_SLICE_CTRL_PAUSE sl ≠ 0) : s.mayFetch q = false := by
  simp [State.mayFetch, howner, State.sliceHeld, State.flag, hpause]

theorem State.Serves.slicePause_running (hs : s.Serves) (hsl : sl ≠ 0) (hstate : s.getF .SLC_SLICE_CTRL_STATE sl = 1)
    (hpassed : ∀ e ∈ s.queues, (s.queue e.1).passed = none) : exec (.slicePause sl) s =
      .next (((s.setFlag .SLC_SLICE_CTRL_PAUSE sl true).cfgOk sl).setF .SLC_SLICE_CTRL_STATE sl
        (if (∃ j ∈ s.jobs, j.slice = sl ∧ j.stage ≠ .done ∧ j.stage ≠ .ownWait) then 2 else 3)) := by
  have hrow : execSlicePause sl s = _ := hs.mmio _
  rw [if_neg hsl, if_neg (by simp [hstate])] at hrow
  dsimp only at hrow
  rw [if_pos hstate, State.dropPassed_foldl (s := ((s.setFlag .SLC_SLICE_CTRL_PAUSE sl true).cfgOk sl).setF .SLC_SLICE_CTRL_STATE sl 2) hpassed,
    State.sliceDrained_pausing] at hrow
  exact hrow

theorem State.Serves.sliceUnpause_resumes (hs : s.Serves) (hsl : sl ≠ 0)
    (hstate : s.getF .SLC_SLICE_CTRL_STATE sl = 2 ∨ s.getF .SLC_SLICE_CTRL_STATE sl = 3) : exec (.sliceUnpause sl) s =
      .next (((s.setFlag .SLC_SLICE_CTRL_PAUSE sl false).cfgOk sl).setF .SLC_SLICE_CTRL_STATE sl 1) := by
  have hrow : execSliceUnpause sl s = _ := hs.mmio _
  rw [if_neg hsl] at hrow
  dsimp only at hrow
  rw [if_neg (by omega), if_pos hstate] at hrow
  exact hrow

theorem State.setPause_sets (s : State) (sl : Nat) (b : Bool) {v : Nat} (hv : v < 16) :
    Sets s (((s.setFlag .SLC_SLICE_CTRL_PAUSE sl b).cfgOk sl).setF .SLC_SLICE_CTRL_STATE sl v)
      [((.SLC_SLICE_CTRL_PAUSE, sl), b2n b), ((.SLC_SLICE_CTRL_CFG_STATUS, sl), 0), ((.SLC_SLICE_CTRL_STATE, sl), v)] :=
  (((Sets.refl s).setFlag .SLC_SLICE_CTRL_PAUSE sl b (by simp) (by decide)).cfgOk sl (by simp)).setF .SLC_SLICE_CTRL_STATE sl v (by simp) hv

end

/-! ### PASIDs (R65, R66) -/

theorem State.oldReads_iff (s : State) (sl : Nat) :
    s.oldReads sl = true ↔ ∃ j ∈ s.jobs, j.slice = sl ∧ j.stage = .fetching ∧ j.pasid ≠ s.pasidOf sl := by
  simp [State.oldReads, and_assoc]

/-- Settles O14: a running slice pauses as its jobs allow and stops fetching, and runs again when un-paused. -/
theorem slicePauseAndResume : Obligations.SlicePauseAndResume := by
  unfold Obligations.SlicePauseAndResume
  intro s sl hsl hs
  refine ⟨fun hstate hpassed => ?_, fun hstate => ⟨_, hs.sliceUnpause_resumes hsl hstate, s.setPause_sets sl false (by decide)⟩, fun hreads => ?_⟩
  · have hsets := s.setPause_sets sl true (v := if (∃ j ∈ s.jobs, j.slice = sl ∧ j.stage ≠ .done ∧ j.stage ≠ .ownWait) then 2 else 3) (by split <;> decide)
    have hpause := hsets.2.1 _ List.mem_cons_self
    exact ⟨_, hs.slicePause_running hsl hstate hpassed, hsets, fun q hq => State.mayFetch_of_pause hq (by simp [hpause, b2n])⟩
  · have hrow : execPasidPendingClear sl s = _ := State.clocked_run hs.1 _
    have hold : ¬s.oldReads sl = true := by
      rw [State.oldReads_iff]
      rintro ⟨j, hj, hslice, hstage, hne⟩
      exact hne (hreads j hj hslice hstage)
    exact ⟨_, hrow.trans (if_neg hold), (Sets.refl s).setFlag .SLC_SLICE_PASID_PASID_PENDING sl false (by simp) (by decide)⟩

section
variable {s : State} {sl : Nat} {v : W32} (hs : s.Serves)
include hs

/-- The state with a slice's PASID written, before PASID_PENDING. -/
def State.bindPasid (s : State) (sl p : Nat) : State :=
  ((s.setFlag .SLC_SLICE_PASID_PASID_VALID sl true).setF .SLC_SLICE_PASID_PASID sl p).cfgOk sl

theorem State.Serves.slicePasidWrite_valid (hvalid : bit v.toNat 30 = true) : exec (.slicePasidWrite sl v) s =
    if s.pasidTaken sl (bits v.toNat 19 0) then .next (s.cfgRefuse sl 4)
    else
      let t := s.bindPasid sl (bits v.toNat 19 0)
      .next (t.setFlag .SLC_SLICE_PASID_PASID_PENDING sl (t.oldReads sl)) := by
  have hrow : execSlicePasidWrite sl v s = _ := hs.mmio _
  simp only [hvalid, Bool.not_true, Bool.false_and, Bool.false_eq_true, if_false, Bool.true_and] at hrow
  exact hrow

theorem State.Serves.slicePasidWrite_unbinds (hvalid : bit v.toNat 30 = false) (hsl : sl ≠ 0) (hon : s.getF .SLC_SLICE_CTRL_ENABLE sl ≠ 0) :
    exec (.slicePasidWrite sl v) s = .next (s.cfgRefuse sl 1) := by
  have hrow : execSlicePasidWrite sl v s = _ := hs.mmio _
  exact hrow.trans (if_pos (by simp [hvalid, hsl, State.flag, hon]))

end

theorem State.bindPasid_sets (s : State) (sl : Nat) {p : Nat} (hp : p < 2 ^ 20) : Sets s (s.bindPasid sl p)
    [((.SLC_SLICE_PASID_PASID_VALID, sl), 1), ((.SLC_SLICE_PASID_PASID, sl), p), ((.SLC_SLICE_CTRL_CFG_STATUS, sl), 0)] :=
  (((Sets.refl s).setFlag .SLC_SLICE_PASID_PASID_VALID sl true (by simp) (by decide)).setF .SLC_SLICE_PASID_PASID sl p (by simp) hp).cfgOk sl (by simp)

/-- The requests of a slice carry the PASID it is bound to. -/
theorem State.bindPasid_pasidOf (s : State) (sl : Nat) {p : Nat} (hp : p < 2 ^ 20) : (s.bindPasid sl p).pasidOf sl = some p := by
  obtain ⟨-, hset, -⟩ := s.bindPasid_sets sl hp
  have hvalid := hset _ List.mem_cons_self
  have hpasid := hset _ (List.mem_cons_of_mem _ List.mem_cons_self)
  simp only at hvalid hpasid
  simp [State.pasidOf, State.flag, hvalid, hpasid]

/-- Settles O15: a free PASID is bound and pends on the reads under another; one that is held, or no longer valid, is refused. -/
theorem slicePasidBinding : Obligations.SlicePasidBinding := by
  unfold Obligations.SlicePasidBinding
  intro s sl v hs p taken
  have hp : p < 2 ^ 20 := Nat.mod_lt _ (by decide)
  have htaken := s.pasidTaken_iff sl p
  refine ⟨fun hvalid hfree => ⟨_, (hs.slicePasidWrite_valid hvalid).trans (if_neg (htaken.not.2 hfree)), ?_⟩,
    fun hvalid ht => ⟨_, (hs.slicePasidWrite_valid hvalid).trans (if_pos (htaken.2 ht)), s.cfgRefuse_sets sl (by decide)⟩,
    fun hvalid hsl hon => ⟨_, hs.slicePasidWrite_unbinds hvalid hsl hon, s.cfgRefuse_sets sl (by decide)⟩⟩
  have hpending : b2n ((s.bindPasid sl p).oldReads sl) = if (∃ j ∈ s.jobs, j.slice = sl ∧ j.stage = .fetching ∧ j.pasid ≠ some p) then 1 else 0 := by
    refine if_congr ?_ rfl rfl
    rw [State.oldReads_iff, s.bindPasid_pasidOf sl hp]
    rfl
  rw [← hpending]
  exact (s.bindPasid_sets sl hp).setFlag .SLC_SLICE_PASID_PASID_PENDING sl _ (by simp) (by decide)

end Sys2Proof.Machine
end

section
/-! ## Queue ranges and grants (R62, R67 to R73) -/

namespace Sys2Proof.Machine
open Sys2Proof

/-! ### Ranges -/

/-- Two ranges overlap where an element of one is one of the other. -/
theorem exists_of_overlap {a n b m : Nat} (h : overlap a n b m = true) : ∃ x, (a ≤ x ∧ x < a + n) ∧ b ≤ x ∧ x < b + m := by
  simp only [overlap, Bool.and_eq_true, decide_eq_true_eq] at h
  exact ⟨max a b, by omega, by omega⟩

section
variable (s : State)

/-- A range that shares no element with any other slice's overlaps none. -/
theorem State.grantOverlap_of_free {count base : Fld} {sl a n : Nat}
    (h : ∀ i, i ≠ sl → ∀ x, a ≤ x → x < a + n → ¬(s.getF base i ≤ x ∧ x < s.getF base i + s.getF count i)) : s.grantOverlap count base sl a n = false := by
  rw [Bool.eq_false_iff]
  intro hover
  simp only [State.grantOverlap, List.any_eq_true, Bool.and_eq_true, bne_iff_ne] at hover
  obtain ⟨i, -, hi, hi'⟩ := hover
  obtain ⟨x, ⟨hax, hxa⟩, hother⟩ := exists_of_overlap hi'
  exact h i hi x hax hxa hother

/-- A device queue is disabled, in STATE 0, and every entry of it that was fetched has completed. -/
def State.QueueAtRest (s : State) (q : Nat) : Prop :=
  s.getF .QC_CTRL_ENABLE q = 0 ∧ s.getF .QC_CTRL_STATE q = 0 ∧ ∀ j ∈ s.jobs, j.q = q → j.stage = .done

theorem State.queueIdle_iff (q : Nat) : s.queueIdle q = true ↔ s.QueueAtRest q := by
  simp [State.queueIdle, State.QueueAtRest, State.flag, State.openJobs, and_assoc]

/-- Every queue of a range is at rest. A queue that is not is listed, as enabled or in another STATE, or has a job. -/
theorem State.rangeIdle_iff (a n : Nat) : s.rangeIdle a n = true ↔ ∀ q, a ≤ q → q < a + n → s.QueueAtRest q := by
  unfold State.rangeIdle
  simp only [Bool.and_eq_true, List.all_eq_true, Bool.or_eq_true, Bool.not_eq_true', Bool.and_eq_false_iff, decide_eq_false_iff_not, State.queueIdle_iff,
    beq_iff_eq]
  constructor
  · rintro ⟨⟨henable, hstate⟩, hjobs⟩ q haq hqa
    refine ⟨?_, ?_, fun j hj hq => (hjobs j hj).resolve_left (by omega)⟩
    · by_contra hne
      obtain ⟨h, -⟩ := (henable q (State.mem_listed hne)).resolve_left (by omega)
      exact hne h
    · by_contra hne
      obtain ⟨-, h, -⟩ := (hstate q (State.mem_listed hne)).resolve_left (by omega)
      exact hne h
  · intro h
    have hrange : ∀ q, (¬a ≤ q ∨ ¬q < a + n) ∨ s.QueueAtRest q := fun q => by
      by_cases haq : a ≤ q ∧ q < a + n
      · exact .inr (h q haq.1 haq.2)
      · exact .inl (not_and_or.1 haq)
    exact ⟨⟨fun q _ => hrange q, fun q _ => hrange q⟩, fun j hj => (hrange j.q).imp_right fun ⟨_, _, hdone⟩ => hdone j hj rfl⟩

end

/-! ### Queue ranges (R71) -/

section
variable {s : State} {sl : Nat} {v : W32} (hs : s.Serves)
include hs

theorem State.Serves.sliceQueuesWrite_busy
    (h : ¬(s.rangeIdle (s.getF .SLC_SLICE_QUEUES_QBASE sl) (s.getF .SLC_SLICE_QUEUES_QCOUNT sl) = true ∧
      s.rangeIdle (bits v.toNat 13 0) (bits v.toNat 26 16) = true)) : exec (.sliceQueuesWrite sl v) s = .next (s.cfgRefuse sl 1) := by
  have hrow : execSliceQueuesWrite sl v s = _ := hs.mmio _
  exact hrow.trans (if_pos (by simpa [or_iff_not_imp_left] using h))

theorem State.Serves.sliceQueuesWrite_ok
    (hold : s.rangeIdle (s.getF .SLC_SLICE_QUEUES_QBASE sl) (s.getF .SLC_SLICE_QUEUES_QCOUNT sl) = true)
    (hnew : s.rangeIdle (bits v.toNat 13 0) (bits v.toNat 26 16) = true) (hcount : bits v.toNat 26 16 ≤ 1024)
    (hend : bits v.toNat 13 0 + bits v.toNat 26 16 ≤ 16384)
    (hfree : s.grantOverlap .SLC_SLICE_QUEUES_QCOUNT .SLC_SLICE_QUEUES_QBASE sl (bits v.toNat 13 0) (bits v.toNat 26 16) = false) :
    exec (.sliceQueuesWrite sl v) s =
      .next (((s.setF .SLC_SLICE_QUEUES_QCOUNT sl (bits v.toNat 26 16)).setF .SLC_SLICE_QUEUES_QBASE sl (bits v.toNat 13 0)).cfgOk sl) := by
  have hrow : execSliceQueuesWrite sl v s = _ := hs.mmio _
  dsimp only at hrow
  rw [hold, hnew, hfree, if_neg (by decide), if_neg (by decide), if_neg (by omega)] at hrow
  exact hrow

end

/-- Settles O16: the two ranges are at rest queue by queue, or the write is BUSY. -/
theorem queueRangeMovesOnlyWhenIdle : Obligations.QueueRangeMovesOnlyWhenIdle := by
  unfold Obligations.QueueRangeMovesOnlyWhenIdle
  intro s sl v hs n a inRange idle
  refine ⟨fun hidle hcount hend hfree => ?_, fun ⟨q, hq, hbusy⟩ => ?_⟩
  · have hold := (s.rangeIdle_iff _ _).2 fun q h1 h2 => hidle q (.inl ⟨h1, h2⟩)
    have hnew := (s.rangeIdle_iff _ _).2 fun q h1 h2 => hidle q (.inr ⟨h1, h2⟩)
    refine ⟨_, hs.sliceQueuesWrite_ok hold hnew hcount hend (s.grantOverlap_of_free hfree), ?_⟩
    exact (((Sets.refl s).setF .SLC_SLICE_QUEUES_QCOUNT sl n (by simp) (Nat.mod_lt _ (by decide))).setF .SLC_SLICE_QUEUES_QBASE sl a (by simp)
      (Nat.mod_lt _ (by decide))).cfgOk sl (by simp)
  · refine ⟨_, hs.sliceQueuesWrite_busy ?_, s.cfgRefuse_sets sl (by decide)⟩
    rw [State.rangeIdle_iff, State.rangeIdle_iff]
    rintro ⟨hold, hnew⟩
    exact hbusy (hq.elim (fun h => hold q h.1 h.2) fun h => hnew q h.1 h.2)

/-! ### Grants (R67 to R70) -/

/-- One field of the slice table written and nothing else. -/
theorem State.setF_cfgOk_sets (s : State) (sl : Nat) {f : Fld} {x : Nat} (hf : f ≠ .SLC_SLICE_CTRL_CFG_STATUS) (hx : x < 2 ^ f.width) :
    Sets s ((s.setF f sl x).cfgOk sl) [((f, sl), x), ((.SLC_SLICE_CTRL_CFG_STATUS, sl), 0)] :=
  ((Sets.refl s).setF f sl x (by simp) hx).cfgOk sl (by simp [hf])

/-- A range of the slice table written and nothing else. -/
theorem State.setRange_sets (s : State) (sl : Nat) {count base : Fld} {n a : Nat} (hfields : count ≠ base) (hcount : count ≠ .SLC_SLICE_CTRL_CFG_STATUS)
    (hbase : base ≠ .SLC_SLICE_CTRL_CFG_STATUS) (hn : n < 2 ^ count.width) (ha : a < 2 ^ base.width) :
    Sets s (((s.setF count sl n).setF base sl a).cfgOk sl) [((count, sl), n), ((base, sl), a), ((.SLC_SLICE_CTRL_CFG_STATUS, sl), 0)] :=
  (((Sets.refl s).setF count sl n (by simp) hn).setF base sl a (by simp [hfields]) ha).cfgOk sl (by simp [hcount, hbase])

/-- Without a pending vector there is none to discard. -/
theorem State.dropPba_of_none {s : State} (h : ∀ x, s.pba x = false) (a n b m : Nat) : s.dropPba a n b m = s :=
  List.foldl_fixed' (fun i => by simp [h]) _

section
variable {s : State} {sl : Nat} {v : W32} (hs : s.Serves)
include hs

theorem State.Serves.weightsWrite : exec (.sliceGrantWrite .weights sl v) s =
    .next (((((s.setF .SLC_SLICE_WEIGHTS_MAR sl (bits v.toNat 7 0)).setF .SLC_SLICE_WEIGHTS_CDE sl (bits v.toNat 15 8)).setF
      .SLC_SLICE_WEIGHTS_BGN sl (bits v.toNat 23 16)).setF .SLC_SLICE_WEIGHTS_STR sl (bits v.toNat 31 24)).cfgOk sl) :=
  (hs.mmio _ : execSliceGrantWrite .weights sl v s = _)

theorem State.Serves.streamsWrite : exec (.sliceGrantWrite .streams sl v) s =
    .next ((s.setF .SLC_SLICE_STREAMS_STREAM_QUOTA sl (bits v.toNat 7 0)).cfgOk sl) :=
  (hs.mmio _ : execSliceGrantWrite .streams sl v s = _)

theorem State.Serves.keysWrite : exec (.sliceGrantWrite .keys sl v) s =
    if 65536 < bits v.toNat 16 0 then .next (s.cfgRefuse sl 3)
    else .next ((s.setF .SLC_SLICE_KEYS_KEY_QUOTA sl (bits v.toNat 16 0)).cfgOk sl) :=
  (hs.mmio _ : execSliceGrantWrite .keys sl v s = _)

theorem State.Serves.sealQuotaWrite : exec (.sliceGrantWrite .sealQuota sl v) s =
    if 2 ^ 31 < v.toNat then .next (s.cfgRefuse sl 3) else .next ((s.setF .SLC_SLICE_SEAL_QUOTA_BLOCKS sl v.toNat).cfgOk sl) :=
  (hs.mmio _ : execSliceGrantWrite .sealQuota sl v s = _)

theorem State.Serves.evringsWrite_ok (hcount : bits v.toNat 24 16 ≤ 256) (hend : bits v.toNat 11 0 + bits v.toNat 24 16 ≤ 4096)
    (hfree : s.grantOverlap .SLC_SLICE_EVRINGS_ECOUNT .SLC_SLICE_EVRINGS_EBASE sl (bits v.toNat 11 0) (bits v.toNat 24 16) = false) :
    exec (.sliceGrantWrite .evrings sl v) s =
      .next (((s.setF .SLC_SLICE_EVRINGS_ECOUNT sl (bits v.toNat 24 16)).setF .SLC_SLICE_EVRINGS_EBASE sl (bits v.toNat 11 0)).cfgOk sl) := by
  have hrow : execSliceGrantWrite .evrings sl v s = _ := hs.mmio _
  dsimp only at hrow
  rw [hfree, if_neg (by decide), if_neg (by omega)] at hrow
  exact hrow

theorem State.Serves.vectorsWrite_ok (hcount : bits v.toNat 26 16 ≤ 1024) (hend : bits v.toNat 12 0 + bits v.toNat 26 16 ≤ 8192)
    (hbase : 64 ≤ bits v.toNat 12 0)
    (hfree : s.grantOverlap .SLC_SLICE_VECTORS_VCOUNT .SLC_SLICE_VECTORS_VBASE sl (bits v.toNat 12 0) (bits v.toNat 26 16) = false) :
    exec (.sliceGrantWrite .vectors sl v) s =
      .next ((((s.dropPba (s.getF .SLC_SLICE_VECTORS_VBASE sl) (s.getF .SLC_SLICE_VECTORS_VCOUNT sl) (bits v.toNat 12 0) (bits v.toNat 26 16)).setF
        .SLC_SLICE_VECTORS_VCOUNT sl (bits v.toNat 26 16)).setF .SLC_SLICE_VECTORS_VBASE sl (bits v.toNat 12 0)).cfgOk sl) := by
  have hrow : execSliceGrantWrite .vectors sl v s = _ := hs.mmio _
  dsimp only at hrow
  rw [hfree, if_neg (by decide), if_neg (by omega)] at hrow
  exact hrow

end

/-- Settles O17: each grant's write under its limits, and RANGE above them. -/
theorem grantWritesTakeEffect : Obligations.GrantWritesTakeEffect := by
  unfold Obligations.GrantWritesTakeEffect
  intro s sl v hs n free ok outOfRange
  refine ⟨⟨_, hs.weightsWrite, ?_⟩, ⟨_, hs.streamsWrite, s.setF_cfgOk_sets sl (by decide) (Nat.mod_lt _ (by decide))⟩,
    fun hkeys => ⟨_, hs.keysWrite.trans (if_neg (Nat.not_lt.2 hkeys)), s.setF_cfgOk_sets sl (by decide) (Nat.mod_lt _ (by decide))⟩,
    fun hkeys => ⟨_, hs.keysWrite.trans (if_pos hkeys), s.cfgRefuse_sets sl (by decide)⟩,
    fun hblocks => ⟨_, hs.sealQuotaWrite.trans (if_neg (Nat.not_lt.2 hblocks)), s.setF_cfgOk_sets sl (by decide) v.isLt⟩,
    fun hblocks => ⟨_, hs.sealQuotaWrite.trans (if_pos hblocks), s.cfgRefuse_sets sl (by decide)⟩,
    fun hcount hend hfree => ⟨_, hs.evringsWrite_ok hcount hend (s.grantOverlap_of_free hfree), s.setRange_sets sl (by decide) (by decide) (by decide)
      (Nat.mod_lt _ (by decide)) (Nat.mod_lt _ (by decide))⟩,
    fun hcount hend hbase hfree hpba => ⟨_, hs.vectorsWrite_ok hcount hend hbase (s.grantOverlap_of_free hfree), ?_⟩⟩
  · exact (((((Sets.refl s).setF .SLC_SLICE_WEIGHTS_MAR sl (bits n 7 0) (by simp) (Nat.mod_lt _ (by decide))).setF .SLC_SLICE_WEIGHTS_CDE sl (bits n 15 8)
      (by simp) (Nat.mod_lt _ (by decide))).setF .SLC_SLICE_WEIGHTS_BGN sl (bits n 23 16) (by simp) (Nat.mod_lt _ (by decide))).setF
      .SLC_SLICE_WEIGHTS_STR sl (bits n 31 24) (by simp) (Nat.mod_lt _ (by decide))).cfgOk sl (by simp)
  · rw [State.dropPba_of_none hpba]
    exact s.setRange_sets sl (by decide) (by decide) (by decide) (Nat.mod_lt _ (by decide)) (Nat.mod_lt _ (by decide))

end Sys2Proof.Machine
end

section
/-! ## Vectors outside the grant (R73, R104) -/

namespace Sys2Proof.Machine
open Sys2Proof

/-! ### Pending bits discarded -/

/-- Clearing one bit leaves the others. -/
theorem bit_setBits_zero_ne (x : Nat) {c n : Nat} (h : n ≠ c) : bit (setBits x c c 0) n = bit x n := by
  have hbits : ∀ y, bits y c c = y / 2 ^ c % 2 := fun y => by simp [bits]
  have hzero : bits (setBits x c c 0) c c = 0 := by
    have hbit := bit_setBits_zero x c
    unfold bit at hbit
    rw [Nat.testBit_eq_decide_div_mod_eq, decide_eq_false_iff_not] at hbit
    rw [hbits]
    omega
  rcases Nat.mod_two_eq_zero_or_one (x / 2 ^ c) with hclear | hset
  · have hsame : setBits x c c 0 = x := by simp [setBits, hbits, hclear]
    rw [hsame]
  · have hle : 2 ^ c ≤ x := by
      by_contra hlt
      rw [Nat.div_eq_of_lt (by omega)] at hset
      omega
    have hback : setBits (setBits x c c 0) c c 1 = x := by
      have hvalue : setBits x c c 0 = x - 2 ^ c := by simp [setBits, hbits, hset]
      have hraise : setBits (setBits x c c 0) c c 1 = setBits x c c 0 + 2 ^ c := by
        generalize setBits x c c 0 = y at hzero
        simp [setBits, hzero]
      omega
    have hone := bit_setBits_one (setBits x c c 0) c n
    rw [hback] at hone
    simpa [h] using hone.symm

theorem State.pba_setPba_false (s : State) (v x : Nat) : (s.setPba v false).pba x = if x = v then false else s.pba x := by
  split
  case isTrue h => rw [h, State.setPba_clears]
  case isFalse h =>
    unfold State.setPba State.pba
    by_cases hword : x / 64 = v / 64
    · have hlt : x % 64 < 64 := Nat.mod_lt _ (by decide)
      have hbit := bit_setBits_zero_ne (s.getF .MSIX_PBA_BITS (v / 64)) (c := v % 64) (n := x % 64) (by omega)
      unfold bit at hbit ⊢
      rw [hword, State.getF_setF_same, width_MSIX_PBA_BITS, Nat.testBit_mod_two_pow, ← hbit]
      simp [b2n, hlt]
    · rw [State.getF_setF_ne _ _ (by simp [hword])]

/-- One vector of the old grant, when it is not in the new one, loses its pending bit. -/
def State.dropVector (s : State) (x b m : Nat) : State := if b ≤ x ∧ x < b + m then s else if s.pba x then s.setPba x false else s

theorem State.dropPba_succ (s : State) (a n b m : Nat) : s.dropPba a (n + 1) b m = (s.dropPba a n b m).dropVector (a + n) b m := by
  unfold State.dropPba State.dropVector
  rw [List.range_succ, List.foldl_append]
  rfl

theorem State.dropVector_frame (s : State) (x b m : Nat) : ∃ r, s.dropVector x b m = { s with regs := r } := by
  unfold State.dropVector
  split
  · exact ⟨_, rfl⟩
  · split <;> exact ⟨_, rfl⟩

theorem State.dropVector_getF (s : State) (x b m : Nat) {f : Fld} (hf : f ≠ .MSIX_PBA_BITS) (i : Nat) : (s.dropVector x b m).getF f i = s.getF f i := by
  unfold State.dropVector
  split
  · rfl
  · split
    · exact s.setPba_getF x false hf i
    · rfl

theorem State.dropVector_pba (s : State) (x b m y : Nat) :
    (s.dropVector x b m).pba y = if y = x ∧ ¬(b ≤ x ∧ x < b + m) then false else s.pba y := by
  unfold State.dropVector
  by_cases hin : b ≤ x ∧ x < b + m
  · rw [if_pos hin, if_neg (by simp [hin])]
  · rw [if_neg hin]
    by_cases hx : s.pba x = true
    · rw [if_pos hx, State.pba_setPba_false]
      simp only [hin, not_false_eq_true, and_true]
    · rw [if_neg hx]
      split
      case isTrue h => simpa [h.1] using hx
      case isFalse => rfl

section
variable (s : State) (a n b m : Nat)

theorem State.dropPba_frame : ∃ r, s.dropPba a n b m = { s with regs := r } := by
  induction n with
  | zero => exact ⟨s.regs, rfl⟩
  | succ n ih =>
    obtain ⟨r, hr⟩ := ih
    obtain ⟨r', hr'⟩ := (s.dropPba a n b m).dropVector_frame (a + n) b m
    exact ⟨r', by rw [State.dropPba_succ, hr', hr]⟩

theorem State.dropPba_getF {f : Fld} (hf : f ≠ .MSIX_PBA_BITS) (i : Nat) : (s.dropPba a n b m).getF f i = s.getF f i := by
  induction n with
  | zero => rfl
  | succ n ih => rw [State.dropPba_succ, State.dropVector_getF _ _ _ _ hf, ih]

/-- The pending bits after a grant has moved: clear for the vectors that leave it (R73). -/
theorem State.dropPba_pba (x : Nat) :
    (s.dropPba a n b m).pba x = if (a ≤ x ∧ x < a + n) ∧ ¬(b ≤ x ∧ x < b + m) then false else s.pba x := by
  induction n with
  | zero => rw [if_neg (by omega)]; rfl
  | succ n ih =>
    rw [State.dropPba_succ, State.dropVector_pba, ih]
    by_cases hx : x = a + n
    · subst hx
      simp
    · rw [if_neg (by simp [hx])]
      exact if_congr (by omega) rfl rfl

end

/-! ### Messages suppressed -/

theorem State.sliceVector_drops {s : State} {sl x : Nat} (h : s.getF .SLC_SLICE_VECTORS_VCOUNT sl ≤ x) :
    s.sliceVector sl x = s.count .SLC_VEC_DROP_COUNT_COUNT 0 1 := if_neg (by omega)

theorem coalTimer_fires {s : State} (hrun : s.stopped = false) {e : Nat} (htimer : (s.ring e).timer ≠ none) (hirq : s.getF .EVR_CTRL_IRQ_EN e ≠ 0) :
    exec (.coalTimer e) s = .next (s.evrMessage ((s.ringOwner e).getD 0) e) := by
  have hrow : execCoalTimer e s = _ := State.clocked_run hrun _
  exact hrow.trans (if_pos (by simp [State.flag, hirq, Option.isSome_iff_ne_none, htimer]))

/-- Settles O18: suppressed messages are counted, a ring's included; a grant lowered discards the pending bits above it. -/
theorem loweredVectorCountSilencesRings : Obligations.LoweredVectorCountSilencesRings := by
  unfold Obligations.LoweredVectorCountSilencesRings
  intro s sl _ hs
  refine ⟨fun x hx => State.sliceVector_drops hx, fun e hcount howner htimer hirq => ?_, fun v => ?_⟩
  · have hrow := coalTimer_fires hs.1 htimer hirq
    rw [howner] at hrow
    exact hrow.trans (congrArg _ (State.sliceVector_drops hcount))
  · intro n a m hbase hle hcount hend h64 hfree
    have hnew : s.grantOverlap .SLC_SLICE_VECTORS_VCOUNT .SLC_SLICE_VECTORS_VBASE sl (bits v.toNat 12 0) n = false :=
      s.grantOverlap_of_free fun i hi x hax hxa => hfree i hi x (by omega) (by omega)
    have hrow := hs.vectorsWrite_ok (v := v) (by omega) (by omega) (by omega) hnew
    have hpba := s.dropPba_pba a m a n
    have hn : n < 2 ^ 11 := Nat.mod_lt _ (by decide)
    rw [hbase] at hrow
    refine ⟨_, hrow, ?_, ?_, fun x => ?_⟩
    · obtain ⟨r, hr⟩ := s.dropPba_frame a m a n
      rw [hr]
      rfl
    · simpa [State.cfgOk, n] using hn
    · calc _ = (s.dropPba a m a n).pba x := by simp [State.pba, State.cfgOk, n, m, a]
        _ = _ := by
          rw [hpba]
          exact if_congr (by omega) rfl rfl

end Sys2Proof.Machine
end

section
/-! ## Mailboxes (R61, R77 to R79) -/

namespace Sys2Proof.Machine
open Sys2Proof

/-! ### The pending bit (R79) -/

theorem State.mbxPending_setMbxPending (s : State) (sl : Nat) (b : Bool) :
    bit ((s.setMbxPending sl b).getF .SLC_MBX_PENDING_BITS (sl / 32)) (sl % 32) = b := by
  have hlt : sl % 32 < 32 := Nat.mod_lt _ (by decide)
  have hbit : bit (setBits (s.getF .SLC_MBX_PENDING_BITS (sl / 32)) (sl % 32) (sl % 32) (b2n b)) (sl % 32) = b := by
    cases b
    · exact bit_setBits_zero _ _
    · simp [b2n, bit_setBits_one]
  unfold bit at hbit
  unfold State.setMbxPending bit
  rw [State.getF_setF_same, width_SLC_MBX_PENDING_BITS, Nat.testBit_mod_two_pow, hbit]
  simp [hlt]

theorem State.setMbxPending_getF_ne (s : State) (sl : Nat) (b : Bool) {f : Fld} {i : Nat} (h : (f, i) ≠ (.SLC_MBX_PENDING_BITS, sl / 32)) :
    (s.setMbxPending sl b).getF f i = s.getF f i := State.getF_setF_ne _ _ h

/-! ### The handshake's states -/

/-- What T2M_SEND sets while T2M_FULL is 0, before its message. -/
def State.fillT2m (s : State) (sl : Nat) : State :=
  ((s.setFlag .SLC_T_MBX_T2M_SEND sl true).setFlag .SLC_T_MBX_T2M_FULL sl true).setMbxPending sl true

/-- What T2M_ACK clears. -/
def State.emptyT2m (s : State) (sl : Nat) : State :=
  (((s.setFlag .SLC_T_MBX_T2M_FULL sl false).setFlag .SLC_T_MBX_T2M_SEND sl false).setMbxPending sl false).cfgOk sl

/-- A register write after others: the registers alone differ still. -/
theorem State.setF_frame {s t : State} (h : ∃ m, t = { s with regs := m }) (f : Fld) (i v : Nat) : ∃ m, t.setF f i v = { s with regs := m } := by
  obtain ⟨m, rfl⟩ := h
  exact ⟨_, rfl⟩

theorem State.fillT2m_frame (s : State) (sl : Nat) : ∃ m, s.fillT2m sl = { s with regs := m } :=
  State.setF_frame (State.setF_frame (State.setF_frame ⟨s.regs, rfl⟩ _ _ _) _ _ _) _ _ _

theorem State.emptyT2m_frame (s : State) (sl : Nat) : ∃ m, s.emptyT2m sl = { s with regs := m } :=
  State.setF_frame (State.setF_frame (State.setF_frame (State.setF_frame ⟨s.regs, rfl⟩ _ _ _) _ _ _) _ _ _) _ _ _

theorem State.fillT2m_getF_ne (s : State) (sl : Nat) {f : Fld} {i : Nat}
    (hf : (f, i) ∉ [(Fld.SLC_T_MBX_T2M_FULL, sl), (.SLC_T_MBX_T2M_SEND, sl), (.SLC_MBX_PENDING_BITS, sl / 32)]) : (s.fillT2m sl).getF f i = s.getF f i := by
  simp only [List.mem_cons, List.not_mem_nil, or_false, not_or] at hf
  obtain ⟨hfull, hsend, hpending⟩ := hf
  exact (State.setMbxPending_getF_ne _ sl true hpending).trans ((State.getF_setF_ne _ _ hfull).trans (State.getF_setF_ne _ _ hsend))

theorem State.emptyT2m_getF_ne (s : State) (sl : Nat) {f : Fld} {i : Nat}
    (hf : (f, i) ∉ [(Fld.SLC_T_MBX_T2M_FULL, sl), (.SLC_T_MBX_T2M_SEND, sl), (.SLC_MBX_PENDING_BITS, sl / 32), (.SLC_SLICE_CTRL_CFG_STATUS, sl)]) :
    (s.emptyT2m sl).getF f i = s.getF f i := by
  simp only [List.mem_cons, List.not_mem_nil, or_false, not_or] at hf
  obtain ⟨hfull, hsend, hpending, hstatus⟩ := hf
  exact (State.getF_setF_ne _ _ hstatus).trans ((State.setMbxPending_getF_ne _ sl false hpending).trans
    ((State.getF_setF_ne _ _ hsend).trans (State.getF_setF_ne _ _ hfull)))

theorem State.emptyT2m_pending (s : State) (sl : Nat) : bit ((s.emptyT2m sl).getF .SLC_MBX_PENDING_BITS (sl / 32)) (sl % 32) = false := by
  unfold State.emptyT2m State.cfgOk
  rw [State.getF_setF_ne _ _ (by simp)]
  exact State.mbxPending_setMbxPending _ sl false

/-! ### The commands -/

theorem State.windowOn_of {s : State} {sl : Nat} (h : sl = 0 ∨ s.getF .SLC_SLICE_CTRL_ENABLE sl ≠ 0) : s.windowOn sl = true := by
  simpa [State.windowOn, State.flag] using h

theorem mailboxForm_of {off n : Nat} (hlen : n ∈ [4, 8, 16, 32, 64]) (halign : off % n = 0) (hend : off + n ≤ 256) : mailboxForm off n = true := by
  have hcontains := List.contains_iff_mem.2 hlen
  simp only [mailboxForm, hcontains, halign, hend, decide_true, beq_self_eq_true, Bool.and_self]

section
variable {s : State} {sl : Nat} (hs : s.Serves)
include hs

section
variable {off : Nat} {d : List Byte} (hform : mailboxForm off d.length = true)
include hform

/-- The tenant writes into T2M (R77). -/
theorem State.Serves.mailboxWrite_tenant (hopen : s.windowOn sl = true) : exec (.mailboxWrite sl true off d) s =
    if s.flag .SLC_T_MBX_T2M_FULL sl then .next (s.count .SLC_MBX_DROP_COUNT_COUNT 0 1)
    else .next (s.setSlice sl { s.slice sl with t2m := (s.slice sl).t2m.take off ++ d ++ (s.slice sl).t2m.drop (off + d.length) }) := by
  have hrow : execMailboxWrite sl true off d s = _ := hs.mmio _
  rw [hform, hopen] at hrow
  exact hrow

/-- The manager writes into M2T (R77). -/
theorem State.Serves.mailboxWrite_manager : exec (.mailboxWrite sl false off d) s =
    if s.flag .SLC_T_MBX_M2T_FULL sl then .next (s.count .SLC_MBX_DROP_COUNT_COUNT 0 1)
    else .next (s.setSlice sl { s.slice sl with m2t := (s.slice sl).m2t.take off ++ d ++ (s.slice sl).m2t.drop (off + d.length) }) := by
  have hrow : execMailboxWrite sl false off d s = _ := hs.mmio _
  rw [hform] at hrow
  exact hrow

end

theorem State.Serves.t2mSend_empty (hopen : s.windowOn sl = true) (hempty : s.getF .SLC_T_MBX_T2M_FULL sl = 0) : exec (.t2mSend sl) s =
    .next ((s.fillT2m sl).sendVector 2) := by
  have hrow : execT2mSend sl s = _ := hs.mmio _
  rw [hopen, State.flag_eq_false.mpr hempty] at hrow
  exact hrow

theorem State.Serves.t2mAck_eq : exec (.t2mAck sl) s =
    .next (s.emptyT2m sl) :=
  (hs.mmio _ : execT2mAck sl s = _)

theorem State.Serves.m2tSend_eq : exec (.m2tSend sl) s =
    if s.flag .SLC_T_MBX_M2T_FULL sl then .next (s.cfgOk sl)
    else
      let t := (s.setFlag .SLC_T_MBX_M2T_FULL sl true).cfgOk sl
      .next (if s.flag .SLC_T_MBX_M2T_IRQ_EN sl then t.sliceVector sl (s.getF .SLC_T_MBX_M2T_VECTOR sl) else t) :=
  (hs.mmio _ : execM2tSend sl s = _)

theorem State.Serves.m2tAck_clears (hopen : s.windowOn sl = true) : exec (.m2tAck sl) s = .next (s.setFlag .SLC_T_MBX_M2T_FULL sl false) := by
  have hrow : execM2tAck sl s = _ := hs.mmio _
  exact hrow.trans (if_neg (by simp [hopen]))

end

/-- Settles O19: a write lands or is dropped by its FULL bit; SEND, ACK and their bits in both directions. -/
theorem mailboxHandshake : Obligations.MailboxHandshake := by
  unfold Obligations.MailboxHandshake
  intro s sl hs hon
  have hopen := State.windowOn_of hon
  refine ⟨fun off d hlen halign hend => ?_, fun hempty => ?_, ?_, fun hempty => ?_, fun hfull => ?_, ?_⟩
  · have hform := mailboxForm_of hlen halign hend
    have htenant := hs.mailboxWrite_tenant hform hopen
    have hmanager := hs.mailboxWrite_manager (sl := sl) hform
    exact ⟨fun h => htenant.trans (if_neg (by simp [State.flag, h])), fun h => hmanager.trans (if_neg (by simp [State.flag, h])),
      fun h => ⟨_, htenant.trans (if_pos (by simp [State.flag, h])), s.count_sets _ _ _⟩,
      fun h => ⟨_, hmanager.trans (if_pos (by simp [State.flag, h])), s.count_sets _ _ _⟩⟩
  · obtain ⟨m, hframe⟩ := s.fillT2m_frame sl
    exact ⟨s.fillT2m sl, hs.t2mSend_empty hopen hempty, by rw [hframe], by simp [State.fillT2m, State.setMbxPending, b2n], State.mbxPending_setMbxPending _ sl true,
        fun f i hf => s.fillT2m_getF_ne sl hf⟩
  · obtain ⟨m, hframe⟩ := s.emptyT2m_frame sl
    exact ⟨s.emptyT2m sl, hs.t2mAck_eq, by rw [hframe], by simp [State.emptyT2m, State.setMbxPending, State.cfgOk, b2n], by simp [State.emptyT2m, State.cfgOk],
        s.emptyT2m_pending sl, fun f i hf => s.emptyT2m_getF_ne sl hf⟩
  · refine (hs.m2tSend_eq.trans (if_neg (by simp [State.flag, hempty]))).trans ?_
    by_cases hirq : s.getF .SLC_T_MBX_M2T_IRQ_EN sl = 0
    · simp [State.flag, hirq, State.setFlag, State.cfgOk, b2n]
    · simp [State.flag, hirq, State.setFlag, State.cfgOk, b2n]
  · exact ⟨_, hs.m2tSend_eq.trans (if_pos (by simp [State.flag, hfull])), (Sets.refl s).cfgOk sl (by simp)⟩
  · exact ⟨_, hs.m2tAck_clears hopen, (Sets.refl s).setFlag .SLC_T_MBX_M2T_FULL sl false (by simp) (by decide)⟩

end Sys2Proof.Machine
end

section
/-! ## Acceptance (R70, R203, R218) -/

namespace Sys2Proof.Machine
open Sys2Proof

section
variable {s : State} {k : Job}

/-- An accepted job whose keys all have a record, and whose record has its room, is put in its place as it is. -/
theorem State.settleAccepted_plain (hop : k.opcode ≠ 0x0502) (hkeys : k.keys.any (fun i => (s.key i).unusable) = false) (hshort : k.short = false) :
    s.settleAccepted k = ({ s with free := s.free + 1 } : State).updJob k.q k.idx fun _ => { k with ext := k.acceptExt s.free } := by
  unfold State.settleAccepted
  rw [hshort, hkeys]
  exact if_neg hop

theorem State.acceptIndex_none (hcustody : (s.jobKey k).custody = none) : s.acceptIndex k = (k, s) := by
  unfold State.acceptIndex
  dsimp only
  rw [hcustody]

/-- The job that acceptance makes of an entry that appends to no stream and takes no stateful index (R203). -/
def State.acceptedJob (s : State) (k : Job) : Job := { (s.acceptStamp k).1 with ext := ((s.acceptStamp k).1).acceptExt s.free }

/-- The queue's holds for want of park slots or ledger room end. -/
def State.unheld (s : State) (q : Nat) : State := s.setQueue q { s.queue q with parkHeld := false, quireHeld := false }

/-- The next stamp taken, and the accepted job put in its place. -/
def State.stamped (s : State) (k : Job) : State :=
  ({ s.setF .SCH_STAMP_NEXT_STAMP 0 (s.getF .SCH_STAMP_NEXT_STAMP 0 + 1) with free := s.free + 1 } : State).updJob k.q k.idx fun _ => s.acceptedJob k

/-- Acceptance of such an entry: no hold of its queue, the next stamp, its job. -/
theorem State.accept_plain (hpark : s.parkUsed + s.parkNeed k ≤ 1048576) (happends : k.appends = false) (hcustody : (s.jobKey k).custody = none)
    (hop : k.opcode ≠ 0x0502) (hkeys : ∀ h ∈ k.handles, (s.key (h % 65536)).unusable = false) (hshort : k.short = false) :
    s.accept k = (s.unheld k.q).stamped k := by
  have hroom : ¬(k.parkSlots = 0 ∧ 1048576 < s.parkUsed + s.parkNeed k) := by omega
  have hall : (k.handles.map (· % 65536)).any (fun i => (s.key i).unusable) = false := by
    rw [List.any_map, List.any_eq_false]
    exact fun h hh => by simp [hkeys h hh]
  have hindex : ((s.unheld k.q).acceptStamp k).2.acceptIndex ((s.unheld k.q).acceptStamp k).1 = (s.unheld k.q).acceptStamp k :=
    State.acceptIndex_none hcustody
  have haccept : s.accept k = (((s.unheld k.q).acceptStamp k).2.acceptIndex ((s.unheld k.q).acceptStamp k).1).2.settleAccepted
      (((s.unheld k.q).acceptStamp k).2.acceptIndex ((s.unheld k.q).acceptStamp k).1).1 := by
    unfold State.accept
    rw [if_neg hroom, happends]
    rfl
  rw [haccept, hindex]
  exact State.settleAccepted_plain hop hall hshort

end

section
variable {s : State} {q : Nat} {inT outT : TableRead} {j k : Job} {u : State} {a b : List (Nat × Nat)}

theorem State.verdict_of_ok (hchain : (s.queue j.q).chainFail = none) (h : s.checks (s.linked j) inT outT = .ok (a, b)) :
    s.verdict j inT outT = .ok { s.linked j with inFrags := a, outFrags := b } := by
  unfold State.verdict
  dsimp only
  rw [hchain, h]

theorem entryDecode_accepts (hrun : s.stopped = false) (hdecodable : s.decodable q = some j) (hread : s.readTables j inT outT = some (k, u)) {x : Job}
    (hverdict : u.verdict k inT outT = .ok x) : exec (.entryDecode q inT outT) s = .next ((u.accept x).decided x) := by
  have hrow : execEntryDecode q inT outT s = _ := State.clocked_run hrun _
  simp only [hdecodable, Option.bind_some, hread, hverdict] at hrow
  exact hrow

end

theorem State.decided_frame (s : State) (j : Job) : ∃ x, s.decided j = { s with queues := x } := by
  unfold State.decided
  split
  · split
    · exact ⟨s.queues, rfl⟩
    · exact s.chainStep_frame _ _
  · exact ⟨s.queues, rfl⟩

theorem State.stamped_job? {s : State} {j k : Job} (hj : s.job? k.q k.idx = some j) : (s.stamped k).job? k.q k.idx = some (s.acceptedJob k) :=
  State.job?_updJob_place hj fun _ _ _ => ⟨rfl, rfl⟩

theorem State.stamped_job?_ne (s : State) {k : Job} {p i : Nat} (h : (p, i) ≠ (k.q, k.idx)) : (s.stamped k).job? p i = s.job? p i :=
  State.job?_updJob_ne { s.setF .SCH_STAMP_NEXT_STAMP 0 (s.getF .SCH_STAMP_NEXT_STAMP 0 + 1) with free := s.free + 1 } (fun _ _ _ => ⟨rfl, rfl⟩) h

theorem State.stamped_getF_ne (s : State) (k : Job) {f : Fld} {i : Nat} (h : (f, i) ≠ (.SCH_STAMP_NEXT_STAMP, 0)) : (s.stamped k).getF f i = s.getF f i :=
  State.getF_setF_ne _ _ h

/-- The reads of its tables leave an entry's words and its slice. -/
theorem State.readTables_entry {s u : State} {j k : Job} {inT outT : TableRead} (h : s.readTables j inT outT = some (k, u)) :
    k.words = j.words ∧ k.slice = j.slice := by
  rcases State.readTables_cases h with ⟨rfl, -⟩ | ⟨rfl, -⟩ <;> exact ⟨rfl, rfl⟩

/-- Settles O31: the entry's job takes the stamp, and the stamp's register alone goes on. -/
theorem acceptanceTakesTheNextStamp : Obligations.AcceptanceTakesTheNextStamp := by
  unfold Obligations.AcceptanceTakesTheNextStamp
  intro s u q inT outT j j0 a b hrun hdecodable hj hchain hread j1 k hchecks hpark happends hcustody hop hkeys hshort _ n
  obtain ⟨hframe, hq, hi, hj0, hothers⟩ := State.readTables_leaves hj hread
  obtain ⟨hwords, hslice⟩ := State.readTables_entry hread
  have hverdict : u.verdict j0 inT outT = .ok k := State.verdict_of_ok (by rw [hframe, hq]; exact hchain) hchecks
  have hkeys' : ∀ h ∈ k.handles, (u.key (h % 65536)).unusable = false := by
    rw [hframe]
    exact hkeys
  have haccept := State.accept_plain hpark happends hcustody hop hkeys' hshort
  obtain ⟨x, hx⟩ := (u.accept k).decided_frame k
  rw [haccept] at hx
  have hrow := entryDecode_accepts hrun hdecodable hread hverdict
  rw [haccept, hx] at hrow
  rw [← hq, ← hi] at hj0 hothers ⊢
  have hgetF : ∀ f i, u.getF f i = s.getF f i := fun f i => by
    rw [hframe]
    rfl
  have hbinder : u.binderOf j0.q = s.binderOf j0.q := by
    rw [hframe]
    rfl
  have htime : u.timeNow = s.timeNow := by
    rw [hframe]
    rfl
  have hgrants : u.grantsOf j0.slice = s.grantsOf j.slice := by
    rw [hframe, hslice]
    rfl
  have hkv : u.kv = s.kv := by rw [hframe]
  have hstamp : ((u.unheld k.q).stamped k).getF .SCH_STAMP_NEXT_STAMP 0 = (n + 1) % 2 ^ Fld.SCH_STAMP_NEXT_STAMP.width :=
    (State.getF_setF_same (u.unheld k.q) _ 0 _).trans (congrArg (fun m => (m + 1) % 2 ^ Fld.SCH_STAMP_NEXT_STAMP.width) (hgetF _ 0))
  exact ⟨_, _, hrow, State.stamped_job? (s := u.unheld k.q) (k := k) hj0, rfl, hgetF _ _, hwords, hbinder, htime, rfl, rfl, rfl, rfl, hgrants, hstamp,
    fun f i hf => (State.stamped_getF_ne (u.unheld k.q) k hf).trans (hgetF f i),
    fun p i hp => (State.stamped_job?_ne (u.unheld k.q) (k := k) hp).trans (hothers p i hp), hkv⟩

end Sys2Proof.Machine
end

section
/-! ## Queue and slice resets (R76, R115, R224) -/

namespace Sys2Proof.Machine
open Sys2Proof

/-! ### Fields that events, writes to host memory and ended jobs leave -/

/-- The states of slices and queues, and the heads. -/
def steadyFlds : List Fld := [.SLC_SLICE_CTRL_STATE, .QC_CTRL_ENABLE, .QC_CTRL_STATE, .QC_HEAD_HEAD]

/-- The states of slices and queues, and the heads, are as they were. -/
structure Steady (s t : State) : Prop where
  reads : ∀ f ∈ steadyFlds, ∀ i, t.getF f i = s.getF f i

theorem Steady.of_regs {s t : State} (h : t.regs = s.regs) : Steady s t := ⟨fun f _ i => State.getF_regs h f i⟩

theorem Steady.refl (s : State) : Steady s s := .of_regs rfl

theorem Steady.trans {s t u : State} (h : Steady s t) (k : Steady t u) : Steady s u :=
  ⟨fun f hf i => (k.reads f hf i).trans (h.reads f hf i)⟩

theorem Steady.ite {s t u : State} {c : Prop} [Decidable c] (ht : Steady s t) (hu : Steady s u) : Steady s (if c then t else u) := by
  split
  · exact ht
  · exact hu

theorem Steady.foldl {α : Type} {f : State → α → State} (hf : ∀ t x, Steady t (f t x)) (l : List α) (s : State) : Steady s (l.foldl f s) := by
  induction l generalizing s with
  | nil => exact .refl s
  | cons x l ih => exact (hf s x).trans (ih _)

theorem Steady.setF {s t : State} (h : Steady s t) {f : Fld} (hf : f ∉ steadyFlds) (i v : Nat) : Steady s (t.setF f i v) :=
  h.trans ⟨fun _ hg _ => State.getF_setF_ne t v fun e => hf ((Prod.mk.inj e).1 ▸ hg)⟩

theorem Steady.setFlag {s t : State} (h : Steady s t) {f : Fld} (hf : f ∉ steadyFlds) (i : Nat) (b : Bool) : Steady s (t.setFlag f i b) := h.setF hf i _

theorem Steady.count {s t : State} (h : Steady s t) {f : Fld} (hf : f ∉ steadyFlds) (i n : Nat) : Steady s (t.count f i n) := h.setF hf i _

theorem Journals.steady {s t : State} (h : Journals s t) : Steady s t := by
  have hjournal : ∀ f ∈ steadyFlds, f ∉ journalFlds ∧ f ∉ errFlds := by decide
  exact ⟨fun f hf i => h.fields f i (hjournal f hf).1 fun he => absurd he (hjournal f hf).2⟩

section
variable (s : State)

theorem State.plainOut_steady (a : Nat) (d : List Byte) : Steady s (s.plainOut a d) := ⟨fun f _ i => s.plainOut_getF a d f i⟩

theorem State.sendWrite_steady (p : Option Nat) (a : Nat) (d : List Byte) (ro : Bool) : Steady s (s.sendWrite p a d ro) := by
  rw [State.sendWrite_eq]
  exact .of_regs rfl

theorem State.dplPage_steady (sl page : Nat) : Steady s (s.dplPage sl page) := by
  refine .ite ⟨fun f hf i => ?_⟩ (((Steady.refl s).setFlag (by decide) _ _).count (by decide) _ _)
  rw [State.dplPut_getF, if_neg]
  rintro ⟨rfl, -⟩
  revert hf
  decide

theorem State.send_steady (r : HeldReq) : Steady s (s.send r) := by
  unfold State.send
  split
  · rw [State.sendRead_eq]
    exact .of_regs rfl
  · exact s.sendWrite_steady ..
  · exact .ite ((s.sendWrite_steady ..).trans (.foldl (fun t _ => t.dplPage_steady _ _) _ _)) (s.sendWrite_steady ..)

theorem State.hostWrite_steady (sl a : Nat) (d : List Byte) (ro : Bool) : Steady s (s.hostWrite sl a d ro) :=
  .ite (.refl s) (.ite (s.send_steady _) (.of_regs rfl))

theorem State.sliceVector_steady (sl v : Nat) : Steady s (s.sliceVector sl v) :=
  .ite ⟨fun f hf i => s.sendVector_getF _ f i fun e => by subst e; revert hf; decide⟩ ((Steady.refl s).count (by decide) _ _)

theorem State.setQueue_steady (q : Nat) (x : QueueX) : Steady s (s.setQueue q x) := .of_regs rfl

theorem State.setRing_steady (e : Nat) (x : RingX) : Steady s (s.setRing e x) := .of_regs rfl

theorem State.updJob_steady (q i : Nat) (f : Job → Job) : Steady s (s.updJob q i f) := .of_regs rfl

theorem State.evrMessage_steady (sl e : Nat) : Steady s (s.evrMessage sl e) :=
  (s.setRing_steady e { s.ring e with since := 0, timer := none }).trans (State.sliceVector_steady ..)

theorem State.evrHeadWrite_steady (sl e : Nat) : Steady s (s.evrHeadWrite sl e) := s.hostWrite_steady ..

theorem State.loseEvent_steady (e : Nat) : Steady s (s.loseEvent e) := .trans ((Steady.refl s).count (by decide) e 1) (State.setRing_steady ..)

theorem State.eventEntry_steady (g : Grants) (sl q reason : Nat) : Steady s (s.eventEntry g sl q reason).2 := by
  unfold State.eventEntry
  extract_lets lr e first s1 _ s2 n s3 wrap x s4
  split
  · exact (Steady.refl s).count (by decide) _ _
  · split
    · exact s.loseEvent_steady e
    · split
      · have hs1 : Steady s s1 := ((Steady.refl s).setFlag (by decide) _ _).trans (State.loseEvent_steady _ e)
        have hs2 : Steady s s2 := (hs1.trans (s1.setQueue_steady ..)).trans (State.evrHeadWrite_steady ..)
        exact .ite (hs2.trans (s2.evrMessage_steady sl e)) hs2
      · have hs3 : Steady s s3 := s.hostWrite_steady ..
        exact (hs3.setF (by decide) _ _).trans (State.setRing_steady ..)

theorem State.postEventBy_steady (g : Grants) (sl q reason : Nat) : Steady s (s.postEventBy g sl q reason) := by
  have hentry := s.eventEntry_steady g sl q reason
  unfold State.postEventBy
  generalize s.eventEntry g sl q reason = x at hentry
  obtain ⟨_ | e, s1⟩ := x
  · exact hentry
  · exact (hentry.trans (State.hostWrite_steady ..)).trans (.ite (State.evrMessage_steady _ sl e) (.refl _))

theorem State.headEvent_steady (g : Grants) (sl q : Nat) (irq : Bool) : Steady s (s.headEvent g sl q irq) := .ite (s.postEventBy_steady ..) (.refl s)

/-! ### A job ended by a reset -/

/-- Steps that leave the registers leave them together. -/
theorem State.foldl_regs {α : Type} {f : State → α → State} (hf : ∀ t x, (f t x).regs = t.regs) (l : List α) (s : State) :
    (l.foldl f s).regs = s.regs := by
  induction l generalizing s with
  | nil => rfl
  | cons x l ih => exact (ih _).trans (hf s x)

theorem State.leaveEngine_regs (j : Job) : (s.leaveEngine j).regs = s.regs := by
  have hscrub : ∀ (t : State) (e : Nat × Nat), (t.scrubQuarter e.1 e.2).regs = t.regs := fun t e => by
    unfold State.scrubQuarter
    dsimp only
    split <;> rfl
  exact (State.foldl_regs (f := fun t n => t.closeSession n) (fun _ _ => rfl) _ _).trans (State.foldl_regs hscrub _ s)

theorem State.letGo_steady (j : Job) : Steady s (s.letGo j) := .of_regs (by
  unfold State.letGo
  dsimp only
  split <;> exact s.leaveEngine_regs j)

theorem State.undoKey_steady (j : Job) : Steady s (s.undoKey j) := .of_regs (by
  unfold State.undoKey
  split
  case h_1 => rfl
  case h_2 i _ =>
    dsimp only
    split
    · obtain ⟨x, hx⟩ := State.removeKey_frame { s with store := { s.store with placeQ := s.store.placeQ.filter fun p => !(p.owner == some (j.q, j.idx)) } } i
      rw [hx]
    · rfl)

theorem State.disown_steady (q i : Nat) : Steady s (s.disown q i) := .of_regs rfl

theorem State.voidRecord_steady (j : Job) (status detail : Nat) : Steady s (s.voidRecord j status detail) := by
  unfold State.voidRecord
  split
  · exact .ite (.refl s) (Journals.giveRecord ((Journals.refl s).setStream _ _) _ _).steady
  · exact .refl s

theorem State.writeFrags_steady (sl : Nat) (l : List (Nat × Nat)) (d : List Byte) : Steady s (s.writeFrags sl l d) := by
  induction l generalizing s d with
  | nil => exact .refl s
  | cons f l ih => exact (s.hostWrite_steady ..).trans (ih _ _)

theorem State.writeW7_steady (q i : Nat) : Steady s (s.writeW7 q i) := by
  unfold State.writeW7
  split
  · exact .refl s
  · exact (s.hostWrite_steady ..).trans (State.updJob_steady ..)

/-- RESULT_EXT is written where a job has one. -/
theorem State.writeExt_steady (sl a : Nat) (o : Option W64) :
    Steady s (match o with | some w => s.hostWrite sl a (leBytes 8 w.toNat) false | none => s) := by
  cases o with
  | none => exact .refl s
  | some w => exact s.hostWrite_steady ..

theorem State.commitWrites_steady (j : Job) : Steady s (s.commitWrites j) := by
  have hout : Steady s (s.writeOutput j) := .ite (s.writeFrags_steady ..) (.refl s)
  exact (hout.trans (State.writeExt_steady ..)).trans (State.writeW7_steady ..)

theorem State.linkDone_steady (j : Job) : Steady s (s.linkDone j) := .of_regs (by
  unfold State.linkDone
  dsimp only
  split_ifs <;> rfl)

theorem State.chainOn_steady (j : Job) : Steady s (s.chainOn j) := .of_regs (by
  obtain ⟨x, hx⟩ := s.chainStep_frame j.q j.stitch
  unfold State.chainOn
  rw [hx]
  split <;> rfl)

theorem State.endByRecovery_steady (j : Job) (detail : Nat) : Steady s (s.endByRecovery j detail) := by
  unfold State.endByRecovery
  extract_lets dispatched status s1 s2 k s3 s4
  have hs1 : Steady s s1 := (((s.letGo_steady j).trans (State.undoKey_steady _ j)).trans (State.disown_steady ..)).trans
    (State.voidRecord_steady ..)
  have hs2 : Steady s s2 := hs1.count (by split <;> decide) 0 1
  have hs3 : Steady s s3 := hs2.trans (s2.updJob_steady ..)
  have hs4 : Steady s s4 := hs3.trans (State.writeExt_steady ..)
  exact ((hs4.trans (State.writeW7_steady ..)).trans (State.chainOn_steady _ j)).trans (State.linkDone_steady _ k)

theorem State.resetEntry_steady (q detail i : Nat) : Steady s (s.resetEntry q detail i) := by
  unfold State.resetEntry
  split
  case h_1 j _ => exact .ite (.refl s) (.ite ((s.commitWrites_steady j).trans (State.linkDone_steady _ j)) (s.endByRecovery_steady j detail))
  case h_2 => exact ((s.setQueue_steady ..).trans (State.hostWrite_steady ..)).count (by decide) 0 1

end

end Sys2Proof.Machine
end

section
namespace Sys2Proof.Machine
open Sys2Proof

/-! ### One queue's reset -/

/-- A write of a state beside what leaves the states alone. -/
theorem Steady.setF_both {s t : State} (h : Steady s t) (f : Fld) (i v : Nat) : Steady (s.setF f i v) (t.setF f i v) := by
  refine ⟨fun g hg j => ?_⟩
  rw [State.getF_setF, State.getF_setF, h.reads g hg j]

section
variable (s : State) (q detail : Nat)

theorem State.headWrite_steady (sl : Nat) : Steady s (s.headWrite sl q) := s.hostWrite_steady ..

theorem State.headEvent_follows (g : Grants) (sl : Nat) (irq : Bool) : Follows s (s.headEvent g sl q irq) := .ite (s.postEventBy_follows ..) (.refl s)

/-- What a queue reset comes to: the head at the tail, the queue off. -/
def State.queueOff (s : State) (q : Nat) : State :=
  ((s.setF .QC_HEAD_HEAD q (s.getF .QC_TAIL_TAIL q)).setF .QC_CTRL_STATE q 0).setFlag .QC_CTRL_ENABLE q false

theorem State.queueReset_steady : Steady (s.queueOff q) (s.queueReset q detail) := by
  unfold State.queueReset
  extract_lets n h tail k s1 tag passed y _ s2 s3 s4 s5
  have hs2 : Steady s s2 := .trans (.foldl (fun t e => t.resetEntry_steady q detail _) _ s) (.of_regs rfl)
  have hs3 : Steady (s.setF .QC_HEAD_HEAD q tail) s3 :=
    (((hs2.setF_both .QC_HEAD_HEAD q tail).setF (by decide) _ _).setF (by decide) _ _).setFlag (by decide) _ _
  have hs4 : Steady (s.setF .QC_HEAD_HEAD q tail) s4 := (hs3.trans (State.setQueue_steady ..)).trans (State.headWrite_steady ..)
  have hs5 : Steady (s.setF .QC_HEAD_HEAD q tail) s5 := hs4.trans (State.headEvent_steady ..)
  exact ((hs5.setF_both _ _ _).setF_both _ _ _).trans (State.postEventBy_steady ..)

theorem State.queueReset_jobs {j : Job} (hj : j ∈ (s.queueReset q detail).jobs) : j.q ≠ q := by
  unfold State.queueReset at hj
  extract_lets n h tail k s1 tag passed y _ s2 s3 s4 s5 at hj
  have hs4 : Follows s2 s4 := Follows.of_eq_left (State.hostWrite_follows ..) rfl rfl
  have hs5 : Follows s2 s5 := hs4.trans (State.headEvent_follows ..)
  have hend : Follows s2 (((s5.setF .QC_CTRL_STATE q 0).setFlag .QC_CTRL_ENABLE q false).postEvent (s.sliceOf q) q 3) :=
    hs5.trans (.of_eq_left (State.postEventBy_follows ..) rfl rfl)
  have hs2 : j ∈ s2.jobs := hend.jobs hj
  simpa [s2] using (List.mem_filter.1 hs2).2

end

/-- The head of a reset queue stands at the tail. -/
theorem State.queueReset_head {s : State} (hs : s.regsOk) (q detail : Nat) :
    (s.queueReset q detail).getF .QC_HEAD_HEAD q = s.getF .QC_TAIL_TAIL q := by
  rw [(s.queueReset_steady q detail).reads _ (by decide)]
  have htail : s.getF .QC_TAIL_TAIL q % 2 ^ 16 = s.getF .QC_TAIL_TAIL q := Nat.mod_eq_of_lt (State.getF_lt_of hs _ _ _)
  simpa [State.queueOff] using htail

theorem State.queueReset_off (s : State) (q detail : Nat) :
    (s.queueReset q detail).getF .QC_CTRL_ENABLE q = 0 ∧ (s.queueReset q detail).getF .QC_CTRL_STATE q = 0 := by
  have h := (s.queueReset_steady q detail).reads
  rw [h _ (by decide), h _ (by decide)]
  simp [State.queueOff, b2n]

/-! ### QUEUE_RESET (R115, R223) -/

/-- A queue told to reset: fetching is over, the state RESETTING. -/
def State.queueTold (s : State) (q : Nat) (v : W32) : State := ((s.qcPlain q v.toNat).setFlag .QC_CTRL_ENABLE q false).setF .QC_CTRL_STATE q 3

theorem State.Serves.queueReset {s : State} (hs : s.Serves) (q : Nat) (v : W32) :
    exec (.queueReset q v) s =
      .next (if s.mayIssue then ((s.queueTold q v).queueReset q 1).sliceDrained (s.sliceOf q) else s.queueTold q v) := by
  have hrow : execQueueReset q v s = _ := hs.mmio _
  exact hrow

theorem State.queueTold_off (s : State) (q : Nat) (v : W32) :
    (s.queueTold q v).getF .QC_CTRL_ENABLE q = 0 ∧ (s.queueTold q v).getF .QC_CTRL_STATE q = 3 := by
  simp [State.queueTold, b2n]

theorem State.queueTold_tail (s : State) (q : Nat) (v : W32) : (s.queueTold q v).getF .QC_TAIL_TAIL q = s.getF .QC_TAIL_TAIL q := by
  simp [State.queueTold, State.qcPlain]

theorem State.queueTold_regsOk {s : State} (hs : s.regsOk) (q : Nat) (v : W32) : (s.queueTold q v).regsOk := by
  unfold State.queueTold State.qcPlain State.setFlag
  repeat' apply State.setF_regsOk
  exact hs

theorem State.sliceDrained_getF (s : State) (sl : Nat) {f : Fld} (hf : f ≠ .SLC_SLICE_CTRL_STATE) (i : Nat) :
    (s.sliceDrained sl).getF f i = s.getF f i := by
  unfold State.sliceDrained
  split
  · exact State.getF_setF_ne s 3 (by simp [hf])
  · rfl

theorem queueReset_waits {s : State} (hs : s.Serves) (q : Nat) (v : W32) (hissue : s.mayIssue = false) :
    ∃ t, exec (.queueReset q v) s = .next t ∧ t.getF .QC_CTRL_ENABLE q = 0 ∧ t.getF .QC_CTRL_STATE q = 3 ∧ t.jobs = s.jobs ∧ t.sent = s.sent := by
  refine ⟨_, (hs.queueReset q v).trans (congrArg _ (if_neg (by simp [hissue]))), ?_⟩
  obtain ⟨henable, hstate⟩ := s.queueTold_off q v
  exact ⟨henable, hstate, rfl, rfl⟩

theorem queueReset_carriedOut {s : State} (hs : s.Serves) (q : Nat) (v : W32) (hissue : s.mayIssue = true) (hregs : s.regsOk) :
    ∃ t, exec (.queueReset q v) s = .next t ∧ t.getF .QC_CTRL_ENABLE q = 0 ∧ t.getF .QC_CTRL_STATE q = 0 ∧
      t.getF .QC_HEAD_HEAD q = s.getF .QC_TAIL_TAIL q ∧ ∀ j ∈ t.jobs, j.q ≠ q := by
  refine ⟨_, (hs.queueReset q v).trans (congrArg _ (if_pos hissue)), ?_⟩
  obtain ⟨henable, hstate⟩ := (s.queueTold q v).queueReset_off q 1
  have hhead := (State.queueReset_head (State.queueTold_regsOk hregs q v) q 1).trans (s.queueTold_tail q v)
  refine ⟨?_, ?_, ?_, fun j hj => State.queueReset_jobs _ q 1 ((State.sliceDrained_follows _ _).jobs hj)⟩
  · rwa [State.sliceDrained_getF _ _ (by decide)]
  · rwa [State.sliceDrained_getF _ _ (by decide)]
  · rwa [State.sliceDrained_getF _ _ (by decide)]

/-! ### SLICE_RESET (R76, R224) -/

theorem State.usedQueues_setF (s : State) {f : Fld} (i v : Nat)
    (hf : f ∉ [Fld.SLC_SLICE_QUEUES_QBASE, .SLC_SLICE_QUEUES_QCOUNT, .QC_HEAD_ADDR_ADDR, .QC_CTRL_STATE]) (sl : Nat) :
    (s.setF f i v).usedQueues sl = s.usedQueues sl := by
  have hreads : ∀ g ∈ [Fld.SLC_SLICE_QUEUES_QBASE, .SLC_SLICE_QUEUES_QCOUNT, .QC_HEAD_ADDR_ADDR, .QC_CTRL_STATE], g ≠ f := fun g hg e => hf (e ▸ hg)
  have hget : ∀ g ∈ [Fld.SLC_SLICE_QUEUES_QBASE, .SLC_SLICE_QUEUES_QCOUNT, .QC_HEAD_ADDR_ADDR, .QC_CTRL_STATE], ∀ j, (s.setF f i v).getF g j = s.getF g j :=
    fun g hg j => State.getF_setF_ne s v fun e => hreads g hg (Prod.mk.inj e).1
  unfold State.usedQueues
  rw [hget _ (by simp), hget _ (by simp), s.listed_setF_ne i v (hreads _ (by simp)), s.listed_setF_ne i v (hreads _ (by simp)), State.setF_jobs]

/-- One queue of a slice that is reset: reset at once, or told to reset while the function may not write. -/
def State.resetOf (s : State) (q : Nat) : State :=
  if s.mayIssue then s.queueReset q 2 else (s.setFlag .QC_CTRL_ENABLE q false).setF .QC_CTRL_STATE q 3

/-- The queue is off; every other queue's ENABLE is as it was. -/
theorem State.resetOf_enable (s : State) (q p : Nat) : (s.resetOf q).getF .QC_CTRL_ENABLE p = if p = q then 0 else s.getF .QC_CTRL_ENABLE p := by
  unfold State.resetOf
  split
  · rw [(s.queueReset_steady q 2).reads _ (by decide)]
    simp [State.queueOff, b2n]
  · simp [b2n]

theorem State.resetOf_slice (s : State) (q sl : Nat) : (s.resetOf q).getF .SLC_SLICE_CTRL_STATE sl = s.getF .SLC_SLICE_CTRL_STATE sl := by
  unfold State.resetOf
  split
  · rw [(s.queueReset_steady q 2).reads _ (by decide)]
    simp [State.queueOff]
  · simp

theorem State.resetOf_foldl (l : List Nat) (s : State) :
    (∀ sl, (l.foldl State.resetOf s).getF .SLC_SLICE_CTRL_STATE sl = s.getF .SLC_SLICE_CTRL_STATE sl) ∧
    ∀ p, (l.foldl State.resetOf s).getF .QC_CTRL_ENABLE p = if p ∈ l then 0 else s.getF .QC_CTRL_ENABLE p := by
  induction l generalizing s with
  | nil => simp
  | cons q l ih =>
    obtain ⟨hslice, henable⟩ := ih (s.resetOf q)
    refine ⟨fun sl => (hslice sl).trans (s.resetOf_slice q sl), fun p => (henable p).trans ?_⟩
    rw [s.resetOf_enable q p]
    by_cases hp : p = q <;> simp [hp]

/-- A slice told to reset. -/
def State.sliceTold (s : State) (sl : Nat) : State := (s.setF .SLC_SLICE_CTRL_STATE sl 4).cfgOk sl

theorem State.sliceTold_usedQueues (s : State) (sl : Nat) : (s.sliceTold sl).usedQueues sl = s.usedQueues sl :=
  (State.usedQueues_setF _ _ _ (by decide) sl).trans (s.usedQueues_setF _ _ (by decide) sl)

theorem State.Serves.sliceReset {s : State} (hs : s.Serves) {sl : Nat} (hsl : sl ≠ 0) (hstate : s.getF .SLC_SLICE_CTRL_STATE sl ≠ 4) :
    exec (.sliceReset sl) s = .next ((s.usedQueues sl).foldl State.resetOf (s.sliceTold sl)) := by
  have hrow : execSliceReset sl s = _ := hs.mmio _
  have htold := hrow.trans ((if_neg hsl).trans (if_neg hstate))
  rw [← s.sliceTold_usedQueues sl]
  exact htold

theorem sliceReset_idle {s : State} (hs : s.Serves) {sl : Nat} (hsl : sl ≠ 0) (hstate : s.getF .SLC_SLICE_CTRL_STATE sl ≠ 4) (hused : s.usedQueues sl = []) :
    ∃ t, exec (.sliceReset sl) s = .next t ∧ Sets s t [((.SLC_SLICE_CTRL_STATE, sl), 4), ((.SLC_SLICE_CTRL_CFG_STATUS, sl), 0)] := by
  refine ⟨_, hs.sliceReset hsl hstate, ?_⟩
  rw [hused]
  exact s.setF_cfgOk_sets sl (f := .SLC_SLICE_CTRL_STATE) (x := 4) (by decide) (by decide)

theorem sliceReset_turnsOff {s : State} (hs : s.Serves) {sl : Nat} (hsl : sl ≠ 0) (hstate : s.getF .SLC_SLICE_CTRL_STATE sl ≠ 4) :
    ∃ t, exec (.sliceReset sl) s = .next t ∧ t.getF .SLC_SLICE_CTRL_STATE sl = 4 ∧ ∀ q ∈ s.usedQueues sl, t.getF .QC_CTRL_ENABLE q = 0 := by
  refine ⟨_, hs.sliceReset hsl hstate, ?_⟩
  obtain ⟨hslice, henable⟩ := State.resetOf_foldl (s.usedQueues sl) (s.sliceTold sl)
  refine ⟨(hslice sl).trans ?_, fun q hq => (henable q).trans (if_pos hq)⟩
  simp [State.sliceTold, State.cfgOk]

theorem sliceReset_busy {s : State} (hs : s.Serves) {sl : Nat} (hsl : sl ≠ 0) (hstate : s.getF .SLC_SLICE_CTRL_STATE sl = 4) :
    exec (.sliceReset sl) s = .next (s.cfgRefuse sl 1) := by
  have hrow : execSliceReset sl s = _ := hs.mmio _
  exact hrow.trans ((if_neg hsl).trans (if_pos hstate))

/-! ### SLICE_RESET_COMPLETE (R76, R511) -/

/-- An entry that a filter keeps is found as before. -/
theorem mget_filter_of_keep {κ α : Type} [DecidableEq κ] (d : κ → α) (p : κ × α → Bool) {k : κ} (hk : ∀ v, p (k, v) = true) (m : SMap κ α) :
    mget d (m.filter p) k = mget d m k := by
  induction m with
  | nil => rfl
  | cons e m ih =>
    obtain ⟨k', v⟩ := e
    by_cases hkey : k' = k
    · subst hkey
      simp [hk, mget]
    · by_cases hp : p (k', v) = true <;> simp [hp, mget, hkey, ih]

/-- A reset of registers leaves the fields that it does not name. -/
theorem State.dropF_getF (s : State) {p : Fld → Nat → Bool} {f : Fld} {i : Nat} (h : p f i = false) : (s.dropF p).getF f i = s.getF f i :=
  mget_filter_of_keep fldDefault _ (fun _ => by simp [h]) s.regs

/-- What a slice's reset drops of its registers is of class S. -/
theorem State.dropSlice_getF (s : State) (sl : Nat) {f : Fld} (hf : f.desc.cls ≠ .S) (i : Nat) : (s.dropSlice sl).getF f i = s.getF f i := by
  unfold State.dropSlice
  extract_lets qs es queueF ringF s1 t1
  have ht1 : t1.regs = s1.regs := State.foldl_regs (f := fun (t : State) (e : Nat × QueueX) => t.setQueue e.1 { chainLen := e.2.chainLen, chainFail := e.2.chainFail })
    (fun _ _ => rfl) _ s1
  have hregs := State.foldl_regs (f := fun (t : State) (e : Nat × RingX) => t.setRing e.1 { lost := e.2.lost }) (fun _ _ => rfl)
    (s.rings.filter fun e => es e.1) t1
  exact (State.getF_regs (hregs.trans ht1) f i).trans (s.dropF_getF (by simp [hf]))

/-- A slice whose reset is complete, before its state is written: class S, the mailboxes and the EPHEMERAL keys are gone. -/
def State.sliceCleared (s : State) (sl : Nat) : State :=
  (((s.dropSlice sl).setSlice sl { (s.dropSlice sl).slice sl with t2m := zeros 256, m2t := zeros 256 }).setMbxPending sl false).removeKeys fun k =>
    k.owner == sl && decide (k.cls = .ephemeral)

theorem State.removeKeys_getF (s : State) (p : KeyX → Bool) (f : Fld) (i : Nat) : (s.removeKeys p).getF f i = s.getF f i := by
  obtain ⟨x, hx⟩ := s.removeKeys_frame p
  rw [hx]
  rfl

theorem State.removeKeys_slice (s : State) (p : KeyX → Bool) (i : Nat) : (s.removeKeys p).slice i = s.slice i := by
  obtain ⟨x, hx⟩ := s.removeKeys_frame p
  rw [hx]
  rfl

theorem State.setMbxPending_slice (s : State) (sl : Nat) (b : Bool) (i : Nat) : (s.setMbxPending sl b).slice i = s.slice i := rfl

theorem State.sliceCleared_slice (s : State) (sl : Nat) :
    (s.sliceCleared sl).slice sl = { (s.dropSlice sl).slice sl with t2m := zeros 256, m2t := zeros 256 } := by
  unfold State.sliceCleared
  rw [State.removeKeys_slice, State.setMbxPending_slice, State.slice_setSlice_same]

theorem State.sliceCleared_getF (s : State) (sl : Nat) {f : Fld} (hf : f.desc.cls ≠ .S) (hbits : f ≠ .SLC_MBX_PENDING_BITS) (i : Nat) :
    (s.sliceCleared sl).getF f i = s.getF f i := by
  unfold State.sliceCleared
  rw [State.removeKeys_getF, State.setMbxPending_getF_ne _ sl false (by simp [hbits]), State.setSlice_getF, s.dropSlice_getF sl hf]

/-- What keeps a slice's reset from completing. -/
def State.SliceBusy (s : State) (sl : Nat) : Prop :=
  (∃ j ∈ s.jobs, j.slice = sl ∧ j.stage ≠ .done) ∨ ∃ q ∈ s.usedQueues sl, s.getF .QC_CTRL_STATE q = 3

theorem State.sliceBusy_iff (s : State) (sl : Nat) :
    ((s.jobs.any fun j => j.slice == sl && j.stage != .done) = true ∨ ((s.usedQueues sl).any fun q => s.getF .QC_CTRL_STATE q == 3) = true) ↔
      s.SliceBusy sl := by
  simp [State.SliceBusy]

theorem sliceResetComplete_waits {s : State} (hrun : s.stopped = false) {sl : Nat} (hbusy : s.SliceBusy sl) :
    exec (.sliceResetComplete sl) s = .next s := by
  have hrow : execSliceResetComplete sl s = _ := State.clocked_run hrun _
  exact hrow.trans (if_pos (.inr ((s.sliceBusy_iff sl).2 hbusy)))

theorem sliceResetComplete_ends {s : State} (hrun : s.stopped = false) {sl : Nat} (hstate : s.getF .SLC_SLICE_CTRL_STATE sl = 4) (hidle : ¬s.SliceBusy sl) :
    exec (.sliceResetComplete sl) s =
      .next (((s.sliceCleared sl).setF .SLC_SLICE_CTRL_STATE sl 3).setFlag .SLC_SLICE_CTRL_PAUSE sl true) := by
  have hrow : execSliceResetComplete sl s = _ := State.clocked_run hrun _
  refine hrow.trans (if_neg ?_)
  rw [s.sliceBusy_iff sl]
  exact fun h => h.elim (fun h => h hstate) hidle

/-- Settles O29: the writes, events and ended jobs of a reset leave the states of slices and queues, so what a reset sets stands at its end. -/
theorem queueAndSliceResets : Obligations.QueueAndSliceResets := by
  unfold Obligations.QueueAndSliceResets
  intro s hs
  refine ⟨fun q v => queueReset_waits hs q v, fun q v => queueReset_carriedOut hs q v, fun sl => sliceReset_idle hs, fun sl => sliceReset_turnsOff hs,
    fun sl hsl hstate => ⟨_, sliceReset_busy hs hsl hstate, s.cfgRefuse_sets sl (by decide)⟩, fun sl hstate hjobs hqueues => ?_,
    fun sl _ hbusy => sliceResetComplete_waits hs.1 hbusy⟩
  have hidle : ¬s.SliceBusy sl := by
    rintro (⟨j, hj, hslice, hstage⟩ | ⟨q, hq, hstate⟩)
    · exact hstage (hjobs j hj hslice)
    · exact hqueues q hq hstate
  have hslice : ((s.sliceCleared sl).slice sl).t2m = zeros 256 ∧ ((s.sliceCleared sl).slice sl).m2t = zeros 256 := by
    rw [s.sliceCleared_slice sl]
    exact ⟨rfl, rfl⟩
  refine ⟨_, sliceResetComplete_ends hs.1 hstate hidle, by simp, by simp [b2n], ?_, ?_, ?_, ?_⟩
  · exact hslice.1
  · exact hslice.2
  · simpa using s.sliceCleared_getF sl (f := .SLC_SLICE_QUEUES_QCOUNT) (by decide) (by decide) sl
  · simpa using s.sliceCleared_getF sl (f := .SLC_SLICE_VECTORS_VCOUNT) (by decide) (by decide) sl

end Sys2Proof.Machine
end

section
/-! ## Memory requests and the fast clocks (R32, R40, R495) -/

namespace Sys2Proof.Machine
open Sys2Proof

/-! ### What carries a command -/

/-- Nothing happens while the fast clocks are stopped. -/
structure NeedsClocks (m : State → Out) : Prop where
  idle (s : State) (hstop : s.stopped = true) : m s = .next s

/-- What carries a command: it is a memory request; or, being none, it needs the fast clocks; or it is an event on pins, supplies, sensors or detectors. -/
inductive Carried (c : Instr) (m : State → Out) : Prop
  | request (f : State → Out) (h : ∀ s : State, m s = s.mmio f)
  | clocks (hrequest : MemoryRequest c = false) (h : NeedsClocks m)
  | pins (hrequest : MemoryRequest c = false) (hclocks : FastClocked c = false)

section
variable {s : State} (hstop : s.stopped = true)
include hstop

theorem State.clocked_stopped (f : State → Out) : s.clocked f = .next s := if_pos hstop

theorem State.mmio_stopped (f : State → Out) : s.mmio f = .next s := State.clocked_stopped hstop _

theorem State.mayIssue_stopped : s.mayIssue = false := by simp [State.mayIssue, hstop]

theorem State.smbOn_stopped : s.smbOn = false := by simp [State.smbOn, hstop]

end

namespace NeedsClocks

theorem clocked (f : State → Out) : NeedsClocks fun s => s.clocked f := ⟨fun _ hstop => State.clocked_stopped hstop f⟩

theorem onJob (q i op : Nat) (f : Job → State → State) : NeedsClocks fun s => s.onJob q i op f := by
  refine ⟨fun s hstop => ?_⟩
  show s.onJob q i op f = .next s
  unfold State.onJob
  cases s.job? q i with
  | none => rfl
  | some j => exact if_neg fun h => by simp [hstop] at h

theorem unitRow (c dst src op : Nat) : NeedsClocks fun s => .next (s.unitRow c dst src op) := ⟨fun _ hstop => congrArg _ (if_pos hstop)⟩

theorem micro (b t q i : Nat) (cls : List Nat) (body : ThreadX → State → Micro) : NeedsClocks fun s => .next (s.micro b t q i cls body) :=
  ⟨fun _ hstop => congrArg _ (if_pos (.inr (.inr (.inl hstop))))⟩

theorem smbRead (code : Nat) (d : State → List Byte) (withPec : Bool) : NeedsClocks fun s => s.smbRead code (d s) withPec :=
  ⟨fun _ hstop => if_pos (by simp [State.smbOn_stopped hstop])⟩

theorem smbClearAlertStatus (v : Byte) (sent : Option Byte) : NeedsClocks (execSmbClearAlertStatus v sent) :=
  ⟨fun _ hstop => if_pos (by simp [State.smbOn_stopped hstop])⟩

theorem smbBadCommand (code : Byte) (pecBad : Bool) : NeedsClocks (execSmbBadCommand code pecBad) :=
  ⟨fun _ hstop => if_pos (by simp [State.smbOn_stopped hstop])⟩

theorem smbAlertResponse : NeedsClocks execSmbAlertResponse :=
  ⟨fun _ hstop => if_neg (by simp [State.smbAlert, State.smbOn_stopped hstop])⟩

theorem entryFetch (q k : Nat) : NeedsClocks (execEntryFetch q k) :=
  ⟨fun _ hstop => if_pos (by simp [State.mayFetch, State.mayIssue_stopped hstop])⟩

theorem ownWaitRetry (q : Nat) (d : List Byte) : NeedsClocks (execOwnWaitRetry q d) :=
  ⟨fun _ hstop => ownWaitRetry_of_held (.inl (State.mayIssue_stopped hstop)) d⟩

theorem scPost : NeedsClocks execScPost := ⟨fun _ hstop => if_pos (by simp [State.mayIssue_stopped hstop])⟩

theorem jobCommit (q i : Nat) : NeedsClocks (execJobCommit q i) := by
  refine ⟨fun s hstop => ?_⟩
  unfold execJobCommit
  cases s.job? q i with
  | none => rfl
  | some j => exact if_neg (by simp [State.mayCommit, State.mayIssue_stopped hstop])

theorem nop (q i : Nat) : NeedsClocks (execNop q i) := by
  refine ⟨fun s hstop => ?_⟩
  unfold execNop
  cases s.job? q i with
  | none => rfl
  | some j => exact if_neg fun h => by simp [hstop] at h

end NeedsClocks

/-- Every command is a memory request, needs the fast clocks, or comes from pins, supplies, sensors and detectors. -/
theorem exec_carried (c : Instr) : Carried c fun s => exec c s := by
  unfold exec
  cases c
  all_goals dsimp only
  case registerWrite | reg64LowHalfWrite | reg64HighHalfWrite | reg64LowHalfRead | mmioBadRequest | retrain | sliceEnable | sliceDisable | slicePause
      | sliceUnpause | sliceReset | slicePasidWrite | sliceQueuesWrite | sliceGrantWrite | t2mSend | t2mAck | m2tSend | m2tAck | mailboxWrite |
      dplLogEnable | newRound | doorbellWrite | evrConsWrite | evrOverflowClear | queueEnable | queueDisable | queueReset | evrEnable | scComplete |
      scEnable | scDisable | binderResume | seqBinderEnableWrite | marCoreEnableWrite | marFaultResume | hshCoreEnableWrite | cdeUnitEnableWrite |
      bgnMulEnableWrite | strPipeEnableWrite | entCellEnableWrite | entErrClearRestart | entSwDataRead | storeOpen | forceOpen | format |
      sealCtrlRefused | sealRangeWrite | streamRelease | timSlewRateWrite | timeSet | timNowRead | tmpUnlock | tmpResume | tmpRespLock | lcoTransition
      | diagEnter | provFieldWrite | provClose | bootRetry | bootProgram | raiseMin | errStatusClear | errIrqEnWrite =>
    exact .request _ fun _ => rfl
  case msixUnmask v =>
    cases v with
    | some n =>
      unfold execMsixUnmask
      exact .request _ fun _ => rfl
    | none =>
      unfold execMsixUnmask
      exact .clocks rfl (.clocked _)
  case fabricCodeMismatch | linkDown | perstAssert | perstRelease | tamperAlarm | detectorDisagree | tamperEventResponse | otpIntegrityCheck |
      mainPowerOnReset | wake | mainRailsOff | vauxLoss | vauxReturn | aoPowerOnReset | deepWakeSource | vbatMeasure | thermalReading | thermtrip |
      braceEnter | braceLift | tamperConditionEnd | braceRailRecovery =>
    exact .pins rfl rfl
  case kemKeygen | kemEncaps | kemDecaps | sigKeygen | sigSign | sigVerify | sigVerifyBatch | keyAgree | hybridKem | hash | hmac | kmac | kdf |
      aeadEncrypt | aeadDecrypt | xtsEncrypt | xtsDecrypt | keyWrap | keyUnwrap | cmac | random | keyImport | keyExportWrapped | keyDestroy | keyInfo
      | keyDerive | statefulReserve | ledgerAppend | ledgerCheckpoint | ledgerProveInclusion | ledgerProveConsistency | ledgerRead | streamOpen |
      streamClose | sealWrite | sealRead | sealAnchorWarm | sealAnchorCold | timeStamp | timeRead | kernelRun | kernelInfo | kernelLoad | kernelUnload
      | patchQuery | selfTest | lcInfo | attest =>
    exact .clocks rfl (.onJob ..)
  case microwordAlu | microwordField | microwordBranch | microwordDispatch | microwordRequest | microwordWait | microwordCheck | microwordAccept |
      microwordStage | microwordCommit | microwordHostwrite | microwordEnd =>
    exact .clocks rfl (.micro ..)
  case smbReadTemp | smbReadStatus | smbReadPower | smbReadAlertStatus | smbReadPowerLimit | smbReadIdentity =>
    exact .clocks rfl (.smbRead ..)
  case entryFetch => exact .clocks rfl (NeedsClocks.entryFetch ..)
  case ownWaitRetry => exact .clocks rfl (NeedsClocks.ownWaitRetry ..)
  case jobCommit => exact .clocks rfl (NeedsClocks.jobCommit ..)
  case scPost => exact .clocks rfl (NeedsClocks.scPost ..)
  case nop => exact .clocks rfl (NeedsClocks.nop ..)
  case smbClearAlertStatus => exact .clocks rfl (NeedsClocks.smbClearAlertStatus ..)
  case smbBadCommand => exact .clocks rfl (NeedsClocks.smbBadCommand ..)
  case smbAlertResponse => exact .clocks rfl (NeedsClocks.smbAlertResponse ..)
  case mmioMemorySpaceDisabled | linkDownspeed | linkQuietTimeExpiry | linkRecovered | hostReadFailure | ltrIdleTimer | busMasterDisable |
      busMasterEnable | flr | doeRequest | doeDiscovery | doeAbort | spdmGetVersion | spdmGetCertificate | spdmChallenge | spdmGetMeasurements |
      hotReset | pmeTurnOff | ptmExchangeComplete | ptmIntervalTimer | sliceResetComplete | pasidPendingClear | entryReceived | entryDecode |
      jobDispatch | jobPark | jobResume | executionEnd | coalTimer | scHoldoffTimer | scSlotTimeout | keyDestroyCommit | coldAnchorEpochBurn |
      recordPlace | engineFault | binderRestart | binderPreciseHalt | jobPlace | quarterLoaded | coreSwitch | bundleExecute | jobSuspend |
      jobUnsuspend | drainComplete | quarterScrubComplete | marCoreReset | hashCallStart | hashCallEnd | hashChainCall | maskedCallWaitTimeout |
      cdeKeygenAttemptEnd | cdePairwiseTest | cdeUnitReset | bgnValidationEnd | bgnComputationEnd | strYield | cellHealthFail | cellRetestComplete |
      conditionerOutput | drbgReseed | drbgStall | stringSeedDelivery | maskGenReseedRequest | maskGenDeadline | entStartupTested | entropyWaitTimeout
      | entQuietTimeExpiry | entRestartComplete | hotKeyLoad | hotStoreEccError | commitGroupClose | sealRetryTimer | storageTimeLimit |
      qreStreamStateLoaded | journalEvent | ppsEdge | ref10mMeasurement | slewComplete | timeSourceLoss | holdoverLimitExpiry | ppsOutPulse |
      descriptorPost | dmaBurst | dmaDescriptorEnd | dmaCancel | lmcMacFailure | lmcRetrain | lmcRetrainComplete | lmcQuietTimeExpiry |
      lmcTrainingComplete | otpWordDone | bootBundleLoaded | bootSelftestComplete | bootProgramComplete | idleEntry | dozeEntry | governorWindow |
      smbClockLowTimeout | spdmGetCapabilities | spdmNegotiateAlgorithms | spdmGetDigests | linkUp | linkL1Entry | configRequest | receiverError |
      replayTimerTimeout | scratchPageScrubComplete | cdeZeroizeComplete | aoTrimMeasurement | ref10mValidityChange =>
    exact .clocks rfl (.clocked _)
  -- what is left are the rows of the Marionette units
  all_goals exact .clocks rfl (.unitRow ..)

/-- A memory request acts as its meaning does in the woken device. -/
theorem memoryRequest_meaning {c : Instr} (h : MemoryRequest c = true) : ∃ f : State → Out, ∀ s : State, exec c s = s.mmio f := by
  cases exec_carried c with
  | request f hf => exact ⟨f, hf⟩
  | clocks hrequest _ => simp [h] at hrequest
  | pins hrequest _ => simp [h] at hrequest

theorem exec_stopped {c : Instr} {s : State} (hstop : s.stopped = true) (h : MemoryRequest c = true ∨ FastClocked c = true) : exec c s = .next s := by
  cases exec_carried c with
  | request f hf => exact (hf s).trans (State.mmio_stopped hstop f)
  | clocks _ hclocks => exact hclocks.idle s hstop
  | pins hrequest hclocks => simp [hrequest, hclocks] at h

/-! ### A woken device is awake (R495) -/

section
variable (s : State)

theorem State.linkExit_of_out {s : State} (h : ¬(1 ≤ s.getF .PCI_LINK_STATUS_PM_STATE 0 ∧ s.getF .PCI_LINK_STATUS_PM_STATE 0 ≤ 3)) : s.linkExit = s :=
  if_neg h

theorem State.linkExit_pmState :
    ¬(1 ≤ s.linkExit.getF .PCI_LINK_STATUS_PM_STATE 0 ∧ s.linkExit.getF .PCI_LINK_STATUS_PM_STATE 0 ≤ 3) := by
  unfold State.linkExit
  dsimp only
  split
  · simp
  · assumption

theorem State.awake_linkExit : s.awake.linkExit = s.awake := by
  refine State.linkExit_of_out ?_
  rw [s.awake_getF_of_linkExit (by decide)]
  exact s.linkExit_pmState

theorem State.awake_of_mode {s : State} (hidle : s.pwr.mode ≠ .idle) (hdoze : s.pwr.mode ≠ .doze) : s.awake = s.linkExit := by
  obtain ⟨m, hm⟩ := s.linkExit_frame
  unfold State.awake
  rw [hm]
  dsimp only
  split
  · exact absurd ‹_› hidle
  · exact absurd ‹_› hdoze
  · rfl

theorem State.awake_mode : s.awake.pwr.mode ≠ .idle ∧ s.awake.pwr.mode ≠ .doze := by
  unfold State.awake
  dsimp only
  split
  case h_1 => exact ⟨PwrMode.noConfusion, PwrMode.noConfusion⟩
  case h_2 =>
    obtain ⟨x, hx⟩ := (({ s.linkExit with pwr := { s.linkExit.pwr with mode := .active, since := s.linkExit.now } } : State).setF .PWR_STATUS_STATE 0
      2).fromKeeper_frame
    rw [hx]
    exact ⟨PwrMode.noConfusion, PwrMode.noConfusion⟩
  case h_3 hidle hdoze => exact ⟨hidle, hdoze⟩

theorem State.awake_awake : s.awake.awake = s.awake :=
  (State.awake_of_mode s.awake_mode.1 s.awake_mode.2).trans s.awake_linkExit

end

theorem memoryRequest_unsupported {c : Instr} {s : State} (h : MemoryRequest c = true) (hrun : s.stopped = false) (hspace : s.pci.memSpace = false) :
    exec c s = .next (s.awake.say .unsupported) := by
  obtain ⟨f, hf⟩ := memoryRequest_meaning h
  rw [hf s]
  exact (State.clocked_run hrun _).trans (if_neg (by simp [hspace]))

theorem memoryRequest_wakes {c : Instr} {s : State} (h : MemoryRequest c = true) (hrun : s.stopped = false) (hspace : s.pci.memSpace = true) :
    exec c s = exec c s.awake := by
  obtain ⟨f, hf⟩ := memoryRequest_meaning h
  have hrun' : s.awake.stopped = false := s.awake_tripLatch.trans hrun
  have hspace' : s.awake.pci.memSpace = true := by rw [s.awake_pci, hspace]
  rw [hf s, hf s.awake, State.mmio_run hrun hspace, State.mmio_run hrun' hspace', s.awake_awake]

/-! ### Registers that do more than their fields (R77, R80, R85, R475) -/

/-- A low half held for a register written goes, and nothing else beside what the write does. -/
theorem Sets.setHeld {s u : State} {l : List ((Fld × Nat) × Nat)} (h : Sets s u l) (r : Reg) (i : Nat) :
    Sets { s with heldLow := (u.setHeld r i 0).heldLow } (u.setHeld r i 0) l := by
  obtain ⟨hframe, hset, hrest⟩ := h
  refine ⟨?_, hset, hrest⟩
  rw [hframe]
  rfl

theorem State.writeField_of_RW (s : State) (r : Reg) (i v : Nat) {f : Fld} (hf : f.desc.acc = .RW) :
    s.writeField r i v f = s.setF f i (bits v f.desc.hi f.desc.lo) := by
  simp [State.writeField, hf, fieldAfter]

theorem regExists_of_lt {r : Reg} {i : Nat} (hr : r ∉ [Reg.BLK_RECOVERY_LIMIT, .BLK_QUIET_TIME]) (hi : i < r.instances) : regExists r i = true := by
  simp only [List.mem_cons, List.not_mem_nil, or_false, not_or] at hr
  unfold regExists
  rw [decide_eq_true hi, Bool.true_and]
  split
  · exact absurd rfl hr.1
  · exact absurd rfl hr.2
  · rfl

section
variable {s : State} (hs : s.Serves) (hlife : s.getF .LCO_STATE_STATE 0 ≠ 0xF) {i : Nat} (v : W64)
include hs hlife

/-- A write of a register without a row of its own sets what its write sets. -/
theorem State.Serves.registerWrite_sets {r : Reg} (hexists : regExists r i = true) (hrow : r ∉ ownRows) (hrowBy : ownRowBy r v.toNat = false)
    {l : List ((Fld × Nat) × Nat)} (h : Sets s (s.writeReg r i v.toNat) l) :
    ∃ t, exec (.registerWrite r i v) s = .next t ∧ Sets { s with heldLow := t.heldLow } t l := by
  refine ⟨_, hs.registerWrite r i v, ?_⟩
  rw [State.plainWrite_eq_writeReg hlife hexists hrow hrowBy]
  exact h.setHeld r i

theorem mbxWrite_sets (hi : i < 4096) (hopen : s.windowOn i = true) : ∃ t, exec (.registerWrite .SLC_T_MBX i v) s = .next t ∧
    Sets { s with heldLow := t.heldLow } t [((.SLC_T_MBX_M2T_VECTOR, i), bits v.toNat 31 21), ((.SLC_T_MBX_M2T_IRQ_EN, i), bits v.toNat 16 16)] := by
  refine hs.registerWrite_sets hlife v (regExists_of_lt (by decide) hi) (by decide) rfl ?_
  have hwrite : s.writeReg .SLC_T_MBX i v.toNat =
      (s.setF .SLC_T_MBX_M2T_VECTOR i (bits v.toNat 31 21)).setF .SLC_T_MBX_M2T_IRQ_EN i (bits v.toNat 16 16) := if_pos hopen
  rw [hwrite]
  exact ((Sets.refl s).setF _ i _ (by simp) (bits_lt_width v.toNat .SLC_T_MBX_M2T_VECTOR)).setF _ i _ (by simp)
    (bits_lt_width v.toNat .SLC_T_MBX_M2T_IRQ_EN)

theorem dplConsWrite_sets (hi : i < 4096) : ∃ t, exec (.registerWrite .SLC_SLICE_DPL_CONS i v) s = .next t ∧
    Sets { s with heldLow := t.heldLow } t [((.SLC_SLICE_DPL_CONS_CONS, i), bits v.toNat Fld.SLC_SLICE_DPL_CONS_CONS.desc.hi
      Fld.SLC_SLICE_DPL_CONS_CONS.desc.lo), ((.SLC_SLICE_CTRL_CFG_STATUS, i), 0)] := by
  refine hs.registerWrite_sets hlife v (regExists_of_lt (by decide) hi) (by decide) rfl ?_
  have hwrite : s.writeReg .SLC_SLICE_DPL_CONS i v.toNat = (s.writeField .SLC_SLICE_DPL_CONS i v.toNat .SLC_SLICE_DPL_CONS_CONS).cfgOk i := rfl
  rw [hwrite, State.writeField_of_RW _ _ _ _ rfl]
  exact s.setF_cfgOk_sets i (by decide) (bits_lt_width ..)

theorem dplBaseWrite_refused (hi : i < 4096) (hlog : s.getF .SLC_SLICE_CTRL_LOG_EN i ≠ 0) :
    ∃ t, exec (.registerWrite .SLC_SLICE_DPL_BASE i v) s = .next t ∧ Sets { s with heldLow := t.heldLow } t
      [((.SLC_SLICE_CTRL_CFG_STATUS, i), 1), ((.SLC_CFG_REFUSED_COUNT_COUNT, 0), s.plus .SLC_CFG_REFUSED_COUNT_COUNT 0 1)] := by
  refine hs.registerWrite_sets hlife v (regExists_of_lt (by decide) hi) (by decide) rfl ?_
  have hwrite : s.writeReg .SLC_SLICE_DPL_BASE i v.toNat = s.cfgRefuse i 1 := if_pos (State.flag_eq_true.mpr hlog)
  rw [hwrite]
  exact s.cfgRefuse_sets i (by decide)

theorem dplBaseWrite_sets (hi : i < 4096) (hlog : s.getF .SLC_SLICE_CTRL_LOG_EN i = 0) :
    ∃ t, exec (.registerWrite .SLC_SLICE_DPL_BASE i v) s = .next t ∧ Sets { s with heldLow := t.heldLow } t
      [((.SLC_SLICE_DPL_BASE_BASE, i), bits v.toNat Fld.SLC_SLICE_DPL_BASE_BASE.desc.hi Fld.SLC_SLICE_DPL_BASE_BASE.desc.lo),
        ((.SLC_SLICE_DPL_BASE_SIZE_LOG2, i), bits v.toNat Fld.SLC_SLICE_DPL_BASE_SIZE_LOG2.desc.hi Fld.SLC_SLICE_DPL_BASE_SIZE_LOG2.desc.lo),
        ((.SLC_SLICE_CTRL_CFG_STATUS, i), 0)] := by
  refine hs.registerWrite_sets hlife v (regExists_of_lt (by decide) hi) (by decide) rfl ?_
  have hwrite : s.writeReg .SLC_SLICE_DPL_BASE i v.toNat = ((s.writeField .SLC_SLICE_DPL_BASE i v.toNat .SLC_SLICE_DPL_BASE_BASE).writeField
      .SLC_SLICE_DPL_BASE i v.toNat .SLC_SLICE_DPL_BASE_SIZE_LOG2).cfgOk i := if_neg (by simp [State.locked, State.flag, hlog])
  rw [hwrite, State.writeField_of_RW _ _ _ _ rfl, State.writeField_of_RW _ _ _ _ rfl]
  exact (((Sets.refl s).setF _ i _ (by simp) (bits_lt_width ..)).setF _ i _ (by simp) (bits_lt_width ..)).cfgOk i (by simp)

theorem srcStatusWrite_refused (hi : i < 16) (hclear : bit v.toNat 31 = true) (hraised : s.getF .TMP_SRC_STATUS_RAISED i ≠ 0)
    (hactive : s.getF .TMP_SRC_STATUS_ACTIVE i ≠ 0) : ∃ t, exec (.registerWrite .TMP_SRC_STATUS i v) s = .next t ∧
      Sets { s with heldLow := t.heldLow } t [((.BLK_ERR_CLEAR_REFUSED_COUNT, blkTMP), s.plus .BLK_ERR_CLEAR_REFUSED_COUNT blkTMP 1)] := by
  refine hs.registerWrite_sets hlife v (regExists_of_lt (by decide) hi) (by decide) rfl ?_
  have hwrite : s.writeReg .TMP_SRC_STATUS i v.toNat = s.clearRefused blkTMP := if_pos (by simp [State.flag, hclear, hraised, hactive])
  rw [hwrite]
  exact s.count_sets _ _ 1

end

/-- Settles O9: every command is carried by a memory request, by the fast clocks or by neither, and each register's write is written out. -/
theorem registersThatDoMore : Obligations.RegistersThatDoMore := by
  unfold Obligations.RegistersThatDoMore
  refine ⟨fun c s hc hrun => ⟨memoryRequest_unsupported hc hrun, memoryRequest_wakes hc hrun⟩, fun c s => exec_stopped, fun i v s hs hlife => ?_⟩
  exact ⟨fun hi hon => mbxWrite_sets hs hlife v hi (State.windowOn_of hon), dplConsWrite_sets hs hlife v, dplBaseWrite_refused hs hlife v,
    dplBaseWrite_sets hs hlife v, srcStatusWrite_refused hs hlife v⟩

end Sys2Proof.Machine
end

section
/-! ## Enabling and disabling a queue (R98, R101, R113, R114) -/

namespace Sys2Proof.Machine
open Sys2Proof

/-- The plain fields of QC_CTRL with what a write makes of them (R113). -/
def qcPlainSets (q v : Nat) : List ((Fld × Nat) × Nat) :=
  [((.QC_CTRL_WINDOW, q), bits v 24 16), ((.QC_CTRL_EVRING, q), bits v 15 8), ((.QC_CTRL_EV_MODE, q), bits v 3 3), ((.QC_CTRL_EV_EN, q), bits v 2 2)]

theorem State.qcPlain_sets (s : State) (q v : Nat) : Sets s (s.qcPlain q v) (qcPlainSets q v) :=
  ((((Sets.refl s).setF .QC_CTRL_WINDOW q _ (by simp) (bits_lt_width v _)).setF .QC_CTRL_EVRING q _ (by simp) (bits_lt_width v _)).setF
    .QC_CTRL_EV_MODE q _ (by simp) (bits_lt_width v _)).setF .QC_CTRL_EV_EN q _ (by simp) (bits_lt_width v .QC_CTRL_EV_EN)

/-! ### QUEUE_ENABLE -/

/-- The context of a queue is sound: it may be enabled (R113). -/
def State.QueueSound (s : State) (q : Nat) : Prop :=
  let k := s.getF .QC_RING_BASE_SIZE_LOG2 q
  s.getF .GLB_STATUS_READY 0 ≠ 0 ∧ (∃ sl, s.ownerOf q = some sl ∧ (sl = 0 ∨ s.getF .SLC_SLICE_CTRL_ENABLE sl ≠ 0)) ∧ 4 ≤ k ∧ k ≤ 16 ∧
    s.getF .QC_RING_BASE_BASE q ≠ 0 ∧ s.getF .QC_HEAD_ADDR_ADDR q ≠ 0 ∧ s.getF .QC_HEAD_HEAD q < 2 ^ k ∧ s.getF .QC_TAIL_TAIL q < 2 ^ k ∧
    s.getF .QC_CTRL_STATE q = 0

theorem State.ownerOn_iff (s : State) (q : Nat) : (s.ownerOf q).elim false (fun sl => s.windowOn sl) = true ↔
    ∃ sl, s.ownerOf q = some sl ∧ (sl = 0 ∨ s.getF .SLC_SLICE_CTRL_ENABLE sl ≠ 0) := by
  cases s.ownerOf q <;> simp [State.windowOn, State.flag]

/-- A queue put into service: RUN, fetching from its head, no hold. -/
def State.queueOn (s : State) (q : Nat) (v : W32) : State :=
  (((s.qcPlain q v.toNat).setFlag .QC_CTRL_ENABLE q true).setF .QC_CTRL_STATE q 1).setQueue q
    { s.queue q with fetch := s.getF .QC_HEAD_HEAD q, rereads := 0, missHeld := false, parkHeld := false, quireHeld := false }

theorem State.Serves.queueEnable_eq {s : State} (hs : s.Serves) {q : Nat} [Decidable (s.QueueSound q)] (hoff : s.getF .QC_CTRL_ENABLE q = 0) (v : W32) :
    exec (.queueEnable q v) s = .next (if s.QueueSound q then
      ((s.queueOn q v).headWrite (s.sliceOf q) q).headEvent (s.grantsOf (s.sliceOf q)) (s.sliceOf q) q false
      else (s.qcPlain q v.toNat).count .QE_CFG_REFUSED_COUNT_COUNT 0 1) := by
  have hrow : execQueueEnable q v s = _ := hs.mmio _
  refine hrow.trans ?_
  extract_lets s1 k ok s2
  have hok : ok = true ↔ s.QueueSound q := by
    simp only [ok, k, State.QueueSound, State.ready, State.flag, Bool.and_eq_true, State.ownerOn_iff, bne_iff_ne, decide_eq_true_eq, beq_iff_eq, and_assoc]
  rw [if_neg (by simp [State.flag, hoff])]
  by_cases hsound : s.QueueSound q
  · rw [if_neg (by simp [hok.2 hsound]), if_pos hsound]
    rfl
  · rw [if_pos (by simpa using mt hok.1 hsound), if_neg hsound]

theorem State.queueOn_sets (s : State) (q : Nat) (v : W32) : Sets { s with queues := (s.queueOn q v).queues } (s.queueOn q v)
    (qcPlainSets q v.toNat ++ [((.QC_CTRL_ENABLE, q), 1), ((.QC_CTRL_STATE, q), 1)]) := by
  obtain ⟨-, hset, hrest⟩ := ((s.qcPlain_sets q v.toNat).setFlag .QC_CTRL_ENABLE q true (by simp [qcPlainSets]) (by decide)).setF .QC_CTRL_STATE q 1
    (by simp [qcPlainSets]) (by decide)
  exact ⟨rfl, hset, hrest⟩

/-! ### QUEUE_DISABLE -/

/-- A queue told to drain: ENABLE 0, STATE DRAINING. -/
def State.queueDraining (s : State) (q : Nat) : State :=
  ((s.setFlag .QC_CTRL_ENABLE q false).setF .QC_CTRL_STATE q 2).setFlag .QC_STATUS_OWN_WAIT q false

/-- The entries that a disable drops: those from one whose OWN was 0 on. -/
def State.dropUnowned (s : State) (q : Nat) (t : State) : State :=
  match s.jobs.find? fun j => j.q == q && j.stage == .ownWait with
  | some j => t.dropFrom q j.idx
  | none => t

section
variable {s : State} {q : Nat}

theorem State.Serves.queueDisable_eq (hs : s.Serves) (hon : s.getF .QC_CTRL_ENABLE q ≠ 0) (v : W32) : exec (.queueDisable q v) s =
    .next (((((s.dropUnowned q (s.qcPlain q v.toNat)).queueDraining q).dropPassed q).drained q).sliceDrained (s.sliceOf q)) := by
  have hrow : execQueueDisable q v s = _ := hs.mmio _
  rw [if_neg (by simp [State.flag, hon])] at hrow
  exact hrow

theorem State.dropUnowned_of_none (h : ∀ j ∈ s.jobs, j.q = q → j.stage ≠ .ownWait) (t : State) : s.dropUnowned q t = t := by
  have hfind : (s.jobs.find? fun j => j.q == q && j.stage == .ownWait) = none := by simpa using h
  unfold State.dropUnowned
  rw [hfind]

theorem State.dropPassed_of_none (h : (s.queue q).passed = none) : s.dropPassed q = s := if_neg (by simp [h])

theorem State.drained_of_open (h : s.openJobs q ≠ []) : s.drained q = s := if_neg fun hdrained => h hdrained.2

theorem State.dropPassed_regs (s : State) (q : Nat) : (s.dropPassed q).regs = s.regs := by
  unfold State.dropPassed
  extract_lets x
  split <;> rfl

/-- Draining writes the queue's STATE and posts an event: every ENABLE stays. -/
theorem State.drained_enable (s : State) (q p : Nat) : (s.drained q).getF .QC_CTRL_ENABLE p = s.getF .QC_CTRL_ENABLE p := by
  unfold State.drained
  split
  · rw [State.postEvent, (State.postEventBy_steady ..).reads _ (by decide)]
    exact State.getF_setF_ne s 0 (by simp)
  · rfl

theorem State.queueDraining_enable (s : State) (q : Nat) : (s.queueDraining q).getF .QC_CTRL_ENABLE q = 0 := by
  simp [State.queueDraining, b2n]

theorem State.Serves.queueDisable_enable (hs : s.Serves) (hon : s.getF .QC_CTRL_ENABLE q ≠ 0) (v : W32) :
    ∃ t, exec (.queueDisable q v) s = .next t ∧ t.getF .QC_CTRL_ENABLE q = 0 := by
  refine ⟨_, hs.queueDisable_eq hon v, ?_⟩
  rw [State.sliceDrained_getF _ _ (by decide), State.drained_enable, State.getF_regs (State.dropPassed_regs ..)]
  exact State.queueDraining_enable _ q

theorem State.queueDraining_sets (s : State) (q : Nat) (v : W32) : Sets s ((s.qcPlain q v.toNat).queueDraining q)
    (qcPlainSets q v.toNat ++ [((.QC_CTRL_ENABLE, q), 0), ((.QC_CTRL_STATE, q), 2), ((.QC_STATUS_OWN_WAIT, q), 0)]) :=
  (((s.qcPlain_sets q v.toNat).setFlag .QC_CTRL_ENABLE q false (by simp [qcPlainSets]) (by decide)).setF .QC_CTRL_STATE q 2 (by simp [qcPlainSets])
    (by decide)).setFlag .QC_STATUS_OWN_WAIT q false (by simp [qcPlainSets]) (by decide)

/-- A queue with an open entry, none of OWN 0 and no passed result, in a slice that is not pausing: it drains, and nothing else happens. -/
theorem State.Serves.queueDisable_drains (hs : s.Serves) (hon : s.getF .QC_CTRL_ENABLE q ≠ 0) (howned : ∀ j ∈ s.jobs, j.q = q → j.stage ≠ .ownWait)
    (hpassed : (s.queue q).passed = none) (hopen : s.openJobs q ≠ []) (hslice : s.getF .SLC_SLICE_CTRL_STATE (s.sliceOf q) ≠ 2) (v : W32) :
    exec (.queueDisable q v) s = .next ((s.qcPlain q v.toNat).queueDraining q) := by
  have hstate : ((s.qcPlain q v.toNat).queueDraining q).getF .SLC_SLICE_CTRL_STATE (s.sliceOf q) ≠ 2 := by
    simpa [State.queueDraining, State.qcPlain] using hslice
  rw [hs.queueDisable_eq hon, State.dropUnowned_of_none howned, State.dropPassed_of_none (s := (s.qcPlain q v.toNat).queueDraining q) hpassed,
    State.drained_of_open (s := (s.qcPlain q v.toNat).queueDraining q) hopen, State.sliceDrained_of_not_pausing hstate]

end

/-- Settles O24: the checks of an enable are the soundness of the queue's context; a disable clears ENABLE whatever it drops and whether it drains. -/
theorem queueEnableAndDisable : Obligations.QueueEnableAndDisable := by
  unfold Obligations.QueueEnableAndDisable
  intro s q v hs
  classical
  refine ⟨fun hoff hsound => ?_, fun hoff hunsound => ?_, fun hon howned hpassed hopen hslice => ?_, fun hon => hs.queueDisable_enable hon v⟩
  · exact ⟨s.queueOn q v, (hs.queueEnable_eq hoff v).trans (congrArg _ (if_pos hsound)), State.queue_setQueue_same ..,
      fun p hp => State.queue_setQueue_ne _ _ hp, s.queueOn_sets q v⟩
  · exact ⟨_, (hs.queueEnable_eq hoff v).trans (congrArg _ (if_neg hunsound)),
      (s.qcPlain_sets q v.toNat).count .QE_CFG_REFUSED_COUNT_COUNT 0 1 (by simp [qcPlainSets])⟩
  · exact ⟨_, hs.queueDisable_drains hon howned hpassed hopen hslice v, s.queueDraining_sets q v⟩

end Sys2Proof.Machine
end

section
/-! ## Event rings (R103 to R106, R116, R117) -/

namespace Sys2Proof.Machine
open Sys2Proof

/-! ### The consumer (R103) -/

theorem State.Serves.evrConsWrite_eq {s : State} (hs : s.Serves) (e : Nat) (v : W32) : exec (.evrConsWrite e v) s =
    let c := v.toNat % 2 ^ 16
    let n := s.evrSize e
    let old := s.getF .EVR_T_CONS_CONS e
    if c < n ∧ dist n c old ≤ dist n (s.getF .EVR_PROD_PROD e) old then .next (s.setF .EVR_T_CONS_CONS e c)
    else .next (s.count .QE_EVR_BAD_CONS_COUNT_COUNT 0 1) := by
  have hrow : execEvrConsWrite e v s = _ := hs.mmio _
  have hcons : bits v.toNat 15 0 = v.toNat % 2 ^ 16 := by simp [bits]
  simp only [hcons] at hrow
  rw [← ite_not] at hrow
  exact hrow.trans (if_congr (by omega) rfl rfl)

/-- Settles O25: the write's test is the one of R103, and each outcome is one register write. -/
theorem eventRingFullAndConsumer : Obligations.EventRingFullAndConsumer := by
  unfold Obligations.EventRingFullAndConsumer
  intro s e v _ hs n c good
  have hrow := hs.evrConsWrite_eq e v
  have hc : c < 2 ^ 16 := Nat.mod_lt _ (by decide)
  exact ⟨decide_eq_true_iff, fun hgood => ⟨_, hrow.trans (if_pos hgood), (Sets.refl s).setF .EVR_T_CONS_CONS e c (by simp) hc⟩,
    fun hbad => ⟨_, hrow.trans (if_neg hbad), s.count_sets ..⟩⟩

/-! ### Enabling a ring (R116, R117) -/

/-- The plain fields of EVR_CTRL written. -/
def State.evrPlain (s : State) (e v : Nat) : State :=
  (((s.setF .EVR_CTRL_VECTOR e (bits v 31 22)).setF .EVR_CTRL_COAL_TIME e (bits v 21 12)).setF .EVR_CTRL_COAL_COUNT e
    (bits v 11 4)).setF .EVR_CTRL_IRQ_EN e (bits v 1 1)

/-- The plain fields of EVR_CTRL with what a write makes of them. -/
def evrPlainSets (e v : Nat) : List ((Fld × Nat) × Nat) :=
  [((.EVR_CTRL_VECTOR, e), bits v 31 22), ((.EVR_CTRL_COAL_TIME, e), bits v 21 12), ((.EVR_CTRL_COAL_COUNT, e), bits v 11 4),
    ((.EVR_CTRL_IRQ_EN, e), bits v 1 1)]

theorem State.evrPlain_sets (s : State) (e v : Nat) : Sets s (s.evrPlain e v) (evrPlainSets e v) :=
  ((((Sets.refl s).setF .EVR_CTRL_VECTOR e _ (by simp) (bits_lt_width v _)).setF .EVR_CTRL_COAL_TIME e _ (by simp) (bits_lt_width v _)).setF
    .EVR_CTRL_COAL_COUNT e _ (by simp) (bits_lt_width v _)).setF .EVR_CTRL_IRQ_EN e _ (by simp) (bits_lt_width v .EVR_CTRL_IRQ_EN)

/-- No message falls due where no event waits for one. -/
theorem State.evrCoalesce_of_none {s : State} {e : Nat} (h : (s.ring e).since = 0) (sl : Nat) : s.evrCoalesce sl e = s := if_neg (by simp [h])

section
variable {s : State} (hs : s.Serves) {e : Nat}
include hs

theorem State.Serves.evrEnable_sized (v : W32) (hsize : 4 ≤ s.getF .EVR_BASE_SIZE_LOG2 e ∧ s.getF .EVR_BASE_SIZE_LOG2 e ≤ 16) (hnone : (s.ring e).since = 0) :
    exec (.evrEnable e v) s = .next ((s.evrPlain e v.toNat).setFlag .EVR_CTRL_ENABLE e true) := by
  have hrow : execEvrEnable e v s = _ := hs.mmio _
  refine hrow.trans ((if_pos hsize).trans (congrArg _ ?_))
  exact State.evrCoalesce_of_none (s := (s.evrPlain e v.toNat).setFlag .EVR_CTRL_ENABLE e true) hnone _

theorem State.Serves.evrEnable_refused (v : W32) (hsize : ¬(4 ≤ s.getF .EVR_BASE_SIZE_LOG2 e ∧ s.getF .EVR_BASE_SIZE_LOG2 e ≤ 16)) :
    exec (.evrEnable e v) s = .next ((s.evrPlain e v.toNat).count .QE_CFG_REFUSED_COUNT_COUNT 0 1) := by
  have hrow : execEvrEnable e v s = _ := hs.mmio _
  exact hrow.trans (if_neg hsize)

end

/-! ### CATCH_UP events (R106) -/

/-- Without a missed queue there is nothing to catch up. -/
theorem State.catchUp_of_none {s : State} (h : ∀ q, (s.queue q).missed = false) (sl e : Nat) (l : List Nat) : s.catchUp sl e l = s := by
  induction l with
  | nil => rfl
  | cons q l ih => exact (if_neg (by simp [h])).trans ih

/-- One missed queue of the ring: its flag clears and its CATCH_UP event is posted. -/
theorem State.catchUp_one {s : State} {sl e q : Nat} (hmissed : (s.queue q).missed = true)
    (hring : s.getF .SLC_SLICE_EVRINGS_EBASE sl + s.getF .QC_CTRL_EVRING q = e) :
    s.catchUp sl e [q] = (s.setQueue q { s.queue q with missed := false }).postEvent sl q 2 := if_pos (by simp [hmissed, hring])

theorem State.queuesOf_one {s : State} {sl q : Nat} {x : QueueX} (hqueues : s.queues = [(q, x)]) (hlow : s.getF .SLC_SLICE_QUEUES_QBASE sl ≤ q)
    (hhigh : q < s.getF .SLC_SLICE_QUEUES_QBASE sl + s.getF .SLC_SLICE_QUEUES_QCOUNT sl) : s.queuesOf sl = [q] := by
  simp [State.queuesOf, hqueues, hlow, hhigh]

theorem State.Serves.evrOverflowClear_eq {s : State} (hs : s.Serves) {e : Nat} (hfull : s.getF .EVR_T_STATUS_OVERFLOW e ≠ 0) :
    exec (.evrOverflowClear e) s = let s1 := s.setF .EVR_T_STATUS_OVERFLOW e 0
      .next (s1.catchUp ((s.ringOwner e).getD 0) e (s1.queuesOf ((s.ringOwner e).getD 0))) := by
  have hrow : execEvrOverflowClear e s = _ := hs.mmio _
  exact hrow.trans (if_neg (by simp [State.flag, hfull]))

/-- Settles O26: enabling by the ring's size, the timer's message, and the catching up of no queue and of one. -/
theorem eventRingControl : Obligations.EventRingControl := by
  unfold Obligations.EventRingControl
  intro s e v hs
  refine ⟨fun hsize hnone => ⟨_, hs.evrEnable_sized v hsize hnone, ?_⟩, fun hsize => ⟨_, hs.evrEnable_refused v hsize, ?_⟩,
    fun htimer hirq => coalTimer_fires hs.1 htimer hirq, fun hfull hnone => ⟨s.setF .EVR_T_STATUS_OVERFLOW e 0, ?_, ?_⟩, ?_⟩
  · exact (s.evrPlain_sets e v.toNat).setFlag .EVR_CTRL_ENABLE e true (by simp [evrPlainSets]) (by decide)
  · exact (s.evrPlain_sets e v.toNat).count .QE_CFG_REFUSED_COUNT_COUNT 0 1 (by simp [evrPlainSets])
  · exact (hs.evrOverflowClear_eq hfull).trans (congrArg _ (State.catchUp_of_none (s := s.setF .EVR_T_STATUS_OVERFLOW e 0) hnone _ e _))
  · exact (Sets.refl s).setF .EVR_T_STATUS_OVERFLOW e 0 (by simp) (by decide)
  · intro q x hfull hqueues hmissed howner hlow hhigh hring
    have hx : (s.setF .EVR_T_STATUS_OVERFLOW e 0).queue q = x := by simp [State.queue, hqueues, nget, mget]
    have hrow := hs.evrOverflowClear_eq hfull
    dsimp only at hrow
    rw [howner, State.queuesOf_one (s := s.setF .EVR_T_STATUS_OVERFLOW e 0) hqueues (by simpa using hlow) (by simpa using hhigh),
      State.catchUp_one (by rwa [hx]) (by simpa using hring), hx] at hrow
    exact hrow

end Sys2Proof.Machine
end

section
/-! ## Storage completions (R110, R383) -/

namespace Sys2Proof.Machine
open Sys2Proof

theorem takeFirst_of_none {α : Type} {p : α → Bool} {l : List α} (h : ∀ x ∈ l, p x = false) : takeFirst p l = none := by
  induction l with
  | nil => rfl
  | cons y l ih =>
    rw [List.forall_mem_cons] at h
    simp [takeFirst, h.1, ih h.2]

theorem takeFirst_append_cons {α : Type} {p : α → Bool} {a : List α} (b : List α) {o : α} (ha : ∀ x ∈ a, p x = false) (ho : p o = true) :
    takeFirst p (a ++ o :: b) = some (o, a ++ b) := by
  induction a with
  | nil => simp [takeFirst, ho]
  | cons y a ih =>
    rw [List.forall_mem_cons] at ha
    simp [takeFirst, ha.1, ih ha.2]

/-- No outstanding request of the channel has the tag: nothing is taken. -/
theorem State.scTake_of_none {s : State} {c tag : Nat} (h : ∀ o ∈ (s.chan c).outstanding, o.tag ≠ tag) : s.scTake c tag = (none, s) := by
  have hnone : takeFirst (fun o => o.tag == tag) (s.chan c).outstanding = none := takeFirst_of_none (by simpa using h)
  simp only [State.scTake, hnone]

/-- The first outstanding request with the tag is taken off its channel. -/
theorem State.scTake_of_mem {s : State} {c tag : Nat} {a b : List ScOut} {o : ScOut} (hout : (s.chan c).outstanding = a ++ o :: b) (htag : o.tag = tag)
    (hfirst : ∀ x ∈ a, x.tag ≠ tag) : s.scTake c tag =
      (some o, (s.setChan c { s.chan c with outstanding := a ++ b }).setF .QE_SC_OUTSTANDING_COUNT c (a ++ b).length) := by
  have htake : takeFirst (fun o => o.tag == tag) (s.chan c).outstanding = some (o, a ++ b) :=
    hout ▸ takeFirst_append_cons b (by simpa using hfirst) (by simpa using htag)
  simp only [State.scTake, htake]

section
variable {s : State} (hs : s.Serves) {c tag : Nat} (status : Nat) (d : List Byte) (v : VaultImage)
include hs

theorem State.Serves.scComplete_unknown (h : ∀ o ∈ (s.chan c).outstanding, o.tag ≠ tag) :
    exec (.scComplete c tag status d v) s = .next ((s.setHeld .QE_SC_COMPLETE c 0).count .QE_SC_BAD_COMPLETE_COUNT_COUNT 0 1) := by
  have hrow : execScComplete c tag status d v s = _ := hs.mmio _
  dsimp only at hrow
  rw [State.scTake_of_none (s := s.setHeld .QE_SC_COMPLETE c 0) h] at hrow
  exact hrow

theorem State.Serves.scComplete_known {a b : List ScOut} {o : ScOut} (hout : (s.chan c).outstanding = a ++ o :: b) (htag : o.tag = tag)
    (hfirst : ∀ x ∈ a, x.tag ≠ tag) : exec (.scComplete c tag status d v) s =
      .next (((((s.setHeld .QE_SC_COMPLETE c 0).setChan c { s.chan c with outstanding := a ++ b }).setF .QE_SC_OUTSTANDING_COUNT c
        (a ++ b).length).scEnded c o status d).storeSettle v) := by
  have hrow : execScComplete c tag status d v s = _ := hs.mmio _
  dsimp only at hrow
  rw [State.scTake_of_mem (s := s.setHeld .QE_SC_COMPLETE c 0) hout htag hfirst] at hrow
  exact hrow

end

theorem sealRetryTimer_reposts {s : State} (hrun : s.stopped = false) {r : ScReq} {n : Nat} {rest : List (ScReq × Nat)}
    (hqueue : s.store.retryQ = (r, n) :: rest) : exec .sealRetryTimer s =
      .next ((({ s with store := { s.store with retryQ := rest } } : State).count .SEAL_REPOST_COUNT_COUNT 0 1).scAsk r) := by
  have hrow : execSealRetryTimer s = _ := State.clocked_run hrun _
  rw [hqueue] at hrow
  exact hrow

/-- Settles O28: a tag finds the first request that has it, or none and the completion is counted. -/
theorem storageCompletions : Obligations.StorageCompletions := by
  unfold Obligations.StorageCompletions
  intro s c tag status d v hs
  exact ⟨fun hunknown => ⟨_, hs.scComplete_unknown status d v hunknown, rfl, (s.setHeld .QE_SC_COMPLETE c 0).count_sets ..⟩,
    fun a b o hout htag hfirst => hs.scComplete_known status d v hout htag hfirst, fun r n rest hqueue => sealRetryTimer_reposts hs.1 hqueue⟩

end Sys2Proof.Machine
end

section
/-! ## Outcomes of executions (R128, R131, R133, R134, R254, R299, R319, R328) -/

namespace Sys2Proof.Machine
open Sys2Proof

/-! ### Quarters that drain (R254) -/

theorem State.quarter_setQuarter_ne (s : State) {c n c' n' : Nat} (x : Quarter) (h : (c, n) ≠ (c', n')) :
    (s.setQuarter c' n' x).quarter c n = s.quarter c n := by
  unfold State.setQuarter State.quarter State.core State.setCore
  by_cases hc : c = c'
  · subst hc
    rw [nget_nset_same, nget_nset_ne _ _ _ fun hn => h (by rw [hn])]
  · rw [nget_nset_ne _ _ _ hc]

/-- A quarter that drains. -/
def State.drainQuarter (s : State) (e : Nat × Nat) : State := s.setQuarter e.1 e.2 { s.quarter e.1 e.2 with st := .draining }

theorem State.drainQuarters_frame (s : State) (l : List (Nat × Nat)) :
    l.foldl State.drainQuarter s = { s with mar := (l.foldl State.drainQuarter s).mar } := by
  induction l generalizing s with
  | nil => rfl
  | cons e l ih => exact ih (s.drainQuarter e)

theorem State.quarter_drainQuarters (s : State) {l : List (Nat × Nat)} {c n : Nat} (h : (c, n) ∉ l) :
    (l.foldl State.drainQuarter s).quarter c n = s.quarter c n := by
  induction l generalizing s with
  | nil => rfl
  | cons e l ih =>
    rw [List.mem_cons, not_or] at h
    obtain ⟨hne, hrest⟩ := h
    exact (ih _ hrest).trans (s.quarter_setQuarter_ne _ hne)

theorem State.drainJob_frame (s : State) (q i : Nat) : s.drainJob q i = { s with mar := (s.drainJob q i).mar } := s.drainQuarters_frame _

/-- A quarter that the job does not hold stands as it stood. -/
theorem State.quarter_drainJob {s : State} {q i c n : Nat} (h : (s.quarter c n).job ≠ some (q, i)) :
    (s.drainJob q i).quarter c n = s.quarter c n :=
  s.quarter_drainQuarters fun hmem => h (by simpa using (List.mem_filter.1 hmem).2)

/-! ### An output written as it is produced (R128) -/

theorem State.hostWrite_only (s : State) (sl a : Nat) (d : List Byte) (ro : Bool) : OnlySends s (s.hostWrite sl a d ro) := by
  unfold State.hostWrite
  split
  · exact .refl s
  · exact s.issue_only _

theorem State.writeFrags_only (s : State) (sl : Nat) (frags : List (Nat × Nat)) (d : List Byte) : OnlySends s (s.writeFrags sl frags d) := by
  induction frags generalizing s d with
  | nil => exact .refl s
  | cons f frags ih => exact (s.hostWrite_only sl _ _ _).trans (ih _ _)

theorem State.writeOutput_only (s : State) (j : Job) : OnlySends s (s.writeOutput j) := by
  unfold State.writeOutput
  split
  · exact s.writeFrags_only ..
  · exact .refl s

theorem OnlySends.job? {s t : State} (h : OnlySends s t) (q i : Nat) : t.job? q i = s.job? q i := by
  unfold OnlySends at h
  rw [h]
  rfl

theorem OnlySends.quarter {s t : State} (h : OnlySends s t) (c n : Nat) : t.quarter c n = s.quarter c n := by
  unfold OnlySends at h
  rw [h]
  rfl

/-- A job whose output stands in host memory, its entry's own writes still to come. -/
def Job.outputWritten (k : Job) : Job := { k with written := 1 }

theorem Job.outputWritten_place (q i : Nat) : KeepsPlace q i Job.outputWritten := fun _ hq hi => ⟨hq, hi⟩

theorem State.streamOutput_short {s : State} {q i : Nat} {k : Job} (hk : s.job? q i = some k) (hlen : min k.output.length k.outLen ≤ 4096) :
    s.streamOutput q i = s := by
  unfold State.streamOutput
  rw [hk, Option.filter_some, if_neg (by rwa [decide_eq_true_eq, Nat.not_lt])]

theorem State.streamOutput_long {s : State} {q i : Nat} {k : Job} (hk : s.job? q i = some k) (hlen : 4096 < min k.output.length k.outLen) :
    s.streamOutput q i = (s.writeOutput k).updJob q i Job.outputWritten := by
  unfold State.streamOutput
  rw [hk, Option.filter_some, if_pos (decide_eq_true hlen)]
  rfl

/-! ### The end of an execution -/

/-- The job with its outcome, its output written where it is a long one (R128, R133). -/
def Job.concluded (j : Job) (inp : List Byte) (r : Res) : Job :=
  { j.ends inp r with written := if 4096 < min r.output.length j.outLen then 1 else j.written }

theorem Job.concluded_short {j : Job} {inp : List Byte} {r : Res} (hlen : min r.output.length j.outLen ≤ 4096) : j.concluded inp r = j.ends inp r := by
  unfold Job.concluded
  rw [if_neg (Nat.not_lt.2 hlen)]
  rfl

theorem Job.concluded_long {j : Job} {inp : List Byte} {r : Res} (hlen : 4096 < min r.output.length j.outLen) :
    j.concluded inp r = (j.ends inp r).outputWritten := by
  unfold Job.concluded
  rw [if_pos hlen]
  rfl

/-- RESULT_EXT is the execution's, or where it gives none the one acceptance gave (R134). -/
theorem Job.concluded_ext (j : Job) (inp : List Byte) (r : Res) :
    (j.concluded inp r).ext = match r.ext with | some n => some (BitVec.ofNat 64 n) | none => j.ext := by
  show ((r.ext.map fun n => BitVec.ofNat 64 n).orElse fun _ => j.ext) = _
  cases r.ext <;> rfl

/-- The outcome in its job and the job's quarters draining: the end of an execution but for its output. -/
def State.outcomeSet (s : State) (j : Job) (inp : List Byte) (r : Res) : State := (s.updJob j.q j.idx fun k => k.ends inp r).drainJob j.q j.idx

section
variable (s : State) (j : Job) (inp : List Byte) (r : Res)

theorem Job.ends_place (q i : Nat) : KeepsPlace q i fun k => k.ends inp r := fun _ hq hi => ⟨hq, hi⟩

theorem State.outcomeSet_frame : s.outcomeSet j inp r = { s with jobs := (s.outcomeSet j inp r).jobs, mar := (s.outcomeSet j inp r).mar } := by
  unfold State.outcomeSet
  rw [State.drainJob_frame]
  rfl

theorem State.outcomeSet_job? (a b : Nat) : (s.outcomeSet j inp r).job? a b = (s.updJob j.q j.idx fun k => k.ends inp r).job? a b := by
  unfold State.outcomeSet
  rw [State.drainJob_frame]
  rfl

theorem State.outcomeSet_job?_ne {a b : Nat} (h : (a, b) ≠ (j.q, j.idx)) : (s.outcomeSet j inp r).job? a b = s.job? a b := by
  rw [State.outcomeSet_job?, s.job?_updJob_ne (Job.ends_place inp r _ _) h]

theorem State.outcomeSet_quarter {c n : Nat} (h : (s.quarter c n).job ≠ some (j.q, j.idx)) : (s.outcomeSet j inp r).quarter c n = s.quarter c n :=
  State.quarter_drainJob (s := s.updJob j.q j.idx fun k => k.ends inp r) h

end

section
variable {s : State} {j : Job} (hj : s.job? j.q j.idx = some j) (inp : List Byte) (r : Res)
include hj

theorem State.outcomeSet_job?_place : (s.outcomeSet j inp r).job? j.q j.idx = some (j.ends inp r) := by
  rw [State.outcomeSet_job?, State.job?_updJob_place hj (Job.ends_place inp r _ _)]

theorem State.endJob_short (hlen : min r.output.length j.outLen ≤ 4096) : s.endJob j inp r = s.outcomeSet j inp r :=
  State.streamOutput_short (State.outcomeSet_job?_place hj inp r) hlen

theorem State.endJob_long (hlen : 4096 < min r.output.length j.outLen) :
    s.endJob j inp r = ((s.outcomeSet j inp r).writeOutput (j.ends inp r)).updJob j.q j.idx Job.outputWritten :=
  State.streamOutput_long (State.outcomeSet_job?_place hj inp r) hlen

theorem State.endJob_job?_place : (s.endJob j inp r).job? j.q j.idx = some (j.concluded inp r) := by
  have hset := State.outcomeSet_job?_place hj inp r
  rcases Nat.lt_or_ge 4096 (min r.output.length j.outLen) with hlen | hlen
  · rw [State.endJob_long hj inp r hlen, Job.concluded_long hlen]
    exact State.job?_updJob_place (((State.writeOutput_only _ _).job? _ _).trans hset) (Job.outputWritten_place _ _)
  · rw [State.endJob_short hj inp r hlen, Job.concluded_short hlen, hset]

theorem State.endJob_job?_ne {a b : Nat} (h : (a, b) ≠ (j.q, j.idx)) : (s.endJob j inp r).job? a b = s.job? a b := by
  rcases Nat.lt_or_ge 4096 (min r.output.length j.outLen) with hlen | hlen
  · rw [State.endJob_long hj inp r hlen, State.job?_updJob_ne _ (Job.outputWritten_place _ _) h, (State.writeOutput_only _ _).job?,
      s.outcomeSet_job?_ne j inp r h]
  · rw [State.endJob_short hj inp r hlen, s.outcomeSet_job?_ne j inp r h]

theorem State.endJob_quarter {c n : Nat} (h : (s.quarter c n).job ≠ some (j.q, j.idx)) : (s.endJob j inp r).quarter c n = s.quarter c n := by
  rcases Nat.lt_or_ge 4096 (min r.output.length j.outLen) with hlen | hlen
  · rw [State.endJob_long hj inp r hlen]
    exact ((State.writeOutput_only _ _).quarter c n).trans (s.outcomeSet_quarter j inp r h)
  · rw [State.endJob_short hj inp r hlen, s.outcomeSet_quarter j inp r h]

theorem State.endJob_frame_short (hlen : min r.output.length j.outLen ≤ 4096) :
    s.endJob j inp r = { s with jobs := (s.endJob j inp r).jobs, mar := (s.endJob j inp r).mar } := by
  rw [State.endJob_short hj inp r hlen]
  exact s.outcomeSet_frame j inp r

/-- A long output of a slice whose dirty log is off is its requests and nothing else (R42, R128). -/
theorem State.endJob_long_unlogged (hlen : 4096 < min r.output.length j.outLen) (hissue : s.mayIssue = true)
    (hlog : s.getF .SLC_SLICE_CTRL_LOG_EN j.slice = 0) :
    s.endJob j inp r = ((s.outcomeSet j inp r).saying (s.outMsgs (j.ends inp r))).updJob j.q j.idx Job.outputWritten := by
  have hframe := s.outcomeSet_frame j inp r
  have hout : (s.outcomeSet j inp r).writeOutput (j.ends inp r) = (s.outcomeSet j inp r).saying (s.outMsgs (j.ends inp r)) := by
    rw [hframe]
    exact State.writeOutput_unlogged (s := { s with jobs := (s.outcomeSet j inp r).jobs, mar := (s.outcomeSet j inp r).mar })
      (j := j.ends inp r) hissue hlog
  rw [State.endJob_long hj inp r hlen, hout]

theorem State.endJob_long_sent (hlen : 4096 < min r.output.length j.outLen) (hissue : s.mayIssue = true)
    (hlog : s.getF .SLC_SLICE_CTRL_LOG_EN j.slice = 0) : (s.endJob j inp r).sent = s.sent ++ s.outMsgs (j.ends inp r) ∧
      s.endJob j inp r = { s with jobs := (s.endJob j inp r).jobs, mar := (s.endJob j inp r).mar, sent := (s.endJob j inp r).sent } := by
  rw [State.endJob_long_unlogged hj inp r hlen hissue hlog, s.outcomeSet_frame j inp r]
  exact ⟨rfl, rfl⟩

end

/-! ### Jobs without units (R299, R319, R328) -/

/-- A job that cannot start for want of units ends as its gate says, whatever its opcode would do. -/
theorem State.onJob_gated {s t : State} {q i op : Nat} {j : Job} (hj : s.job? q i = some j) (hstage : j.stage = .dispatched) (hop : j.opcode = op)
    (hcomputed : j.computed = false) (hrun : s.stopped = false) (hgate : s.engineGate j = some t) (f : Job → State → State) :
    s.onJob q i op f = .next t := by
  unfold State.onJob
  rw [hj]
  dsimp only
  rw [if_pos ⟨hstage, hop, by simp [hcomputed], by simp [hrun]⟩, hgate]
  rfl

section
variable {s : State} {j : Job} (hop : j.opcode ≠ 0x0123)
include hop

theorem State.engineGate_bgn (hpool : j.pools.contains .BGN = true) (hact : j.act ≠ .verify)
    (hmul : s.onlineOf .BGN_MUL_ONLINE_ONLINE (List.range 4) < 2) :
    s.engineGate j = some ((s.raiseFault 4 5 0 0).endJob j [] { status := 0x0501, detail := 0x4005 }) :=
  (if_neg hop).trans (if_pos (by rw [hpool, decide_eq_true hact, decide_eq_true hmul]; rfl))

theorem State.engineGate_str (hpool : j.pools = [.STR]) (hpipe : s.getF .STR_PIPE_ONLINE_ONLINE 0 = 0) :
    s.engineGate j = some ((s.raiseFault 5 4 0 0).endJob j [] { status := 0x0501, detail := 0x5004 }) :=
  (if_neg hop).trans ((if_neg (by simp [hpool])).trans (if_pos (by simp [hpool, hpipe])))

theorem State.engineGate_hsh (hpool : j.pools = [.HSH]) (hcore : s.noHashCore (s.keccakWork j) j.masksCalls = true) :
    s.engineGate j = some (((s.count .HSH_SESSION_FAIL_COUNT_COUNT 0 1).raiseFault 2 3 0 0).engineFault j 2 3 none) :=
  (if_neg hop).trans ((if_neg (by simp [hpool])).trans ((if_neg (by simp [hpool])).trans (if_pos (by simp [hpool, hcore]))))

end

/-- Of each of the four engines a command whose job it is to execute. -/
def engineCommands (q i : Nat) (inp : List Byte) : List (Nat × Instr) :=
  [(0x0200, .hash q i inp), (0x0122, .sigVerify q i inp), (0x0300, .aeadEncrypt q i inp), (0x0130, .keyAgree q i inp)]

/-- Each of them acts on a job at its engine with its opcode, which is not that of a batch. -/
theorem engineCommands_onJob (s : State) {q i : Nat} {inp : List Byte} {c : Nat × Instr} (hc : c ∈ engineCommands q i inp) :
    c.1 ≠ 0x0123 ∧ ∃ f, exec c.2 s = s.onJob q i c.1 f := by
  simp only [engineCommands, List.mem_cons, List.not_mem_nil, or_false] at hc
  obtain rfl | rfl | rfl | rfl := hc
  · exact ⟨by simp, _, show execHash q i inp s = _ from rfl⟩
  · exact ⟨by simp, _, show execSigVerify q i inp s = _ from rfl⟩
  · exact ⟨by simp, _, show execAeadEncrypt q i inp s = _ from rfl⟩
  · exact ⟨by simp, _, show execKeyAgree q i inp s = _ from rfl⟩

/-- Settles O36: an outcome is one change of its job, a draining of its quarters and, where the output is long, its writes; the gate before each
execution gives the outcome of a job without units. -/
theorem outcomesReachTheirJobAlone : Obligations.OutcomesReachTheirJobAlone := by
  unfold Obligations.OutcomesReachTheirJobAlone
  intro s q i j inp hj hq hi
  refine ⟨fun r => ?_, fun op hstage hop hcomputed hrun c hc hcop => ?_⟩
  · subst hq hi
    exact ⟨_, _, rfl, State.endJob_job?_place hj inp r, rfl, rfl, rfl, rfl, rfl, j.concluded_ext inp r, rfl, rfl, rfl, rfl, rfl, rfl, rfl, rfl, rfl, rfl,
      fun _ _ => State.endJob_job?_ne hj inp r, fun _ _ => State.endJob_quarter hj inp r,
      fun hlen => ⟨if_neg (Nat.not_lt.2 hlen), State.endJob_frame_short hj inp r hlen⟩,
      fun hlen => ⟨if_pos hlen, State.endJob_long_sent hj inp r hlen⟩⟩
  · obtain ⟨hbatch, f, hexec⟩ := engineCommands_onJob s hc
    have hnot : j.opcode ≠ 0x0123 := by rwa [hop, ← hcop]
    have hgated : ∀ t, s.engineGate j = some t → exec c.2 s = .next t := fun t hgate =>
      hexec.trans (State.onJob_gated hj hstage (hop.trans hcop.symm) hcomputed hrun hgate f)
    exact ⟨fun hpool hact hmul => hgated _ (State.engineGate_bgn hnot hpool hact hmul),
      fun hpool hpipe => hgated _ (State.engineGate_str hnot hpool hpipe), fun hpool hcore => hgated _ (State.engineGate_hsh hnot hpool hcore)⟩

end Sys2Proof.Machine
end

section
/-! ## The gates of an execution: the job at its engine, its masks (R143) -/

namespace Sys2Proof.Machine
open Sys2Proof

/-- What an execution makes of its state is where its command leads. -/
theorem State.AtEngine.leads {s t : State} {q i op : Nat} {j : Job} (h : s.AtEngine q i op j) {f : Job → State → State} (hf : f j s = t) :
    s.onJob q i op f = .next t :=
  hf ▸ State.onJob_at h f

/-- With its masks there, an execution goes on (R143). -/
theorem State.masked {α : Type} {s : State} {j : Job} (hmask : s.maskOk j = true) (stalled goesOn : α) :
    (if !s.maskOk j then stalled else goesOn) = goesOn :=
  if_neg (by simp [hmask])

end Sys2Proof.Machine
end

section
/-! ## Signatures (R148, R149, R156 to R166) -/

namespace Sys2Proof.Machine
open Sys2Proof

/-! ### SIG_KEYGEN (R148, R149) -/

theorem execSigKeygen_stateless {s : State} {q i : Nat} {j : Job} (h : s.AtEngine q i 0x0120 j) (hmask : s.maskOk j = true) (hdraw : s.CanDraw j 64)
    (hset : isStateful j.paramset = false) {k : NewKey} (hnew : j.newKey = some k) :
    let sk := sigSecret j.paramset (128 * bits j.aux 23 16) (s.nextRandom 64)
    let pk := publicOf 2 j.paramset sk
    execSigKeygen q i s = .next ((s.afterDraw j 64).endWithKey j [] k { priv := sk, pub := pk, keyLen := sk.length } pk) := by
  refine h.leads ((State.masked hmask ..).trans ((if_neg (by simp [hset])).trans ?_))
  rw [State.jobDraw_can hdraw, hnew]
  exact if_neg (by simp [hset])

/-! ### SIG_SIGN (R157 to R161) -/

/-- ML-DSA's rejection loop reaches its limit on an input with the given random bytes (R158). -/
def SigIn.tooLong (g : SigIn) (k : KeyX) (rnd : List Byte) : Bool :=
  isMlDsa g.ps && Config.holds "ML-DSA rejection limit reached" g.nums [k.priv, g.ctx, g.msg, rnd]

section
variable {s : State} {j : Job} {inp : List Byte} {g : SigIn} {fin : State → List Byte → State}

/-- A signature within the loop's limit is finished; one beyond it is an engine fault. -/
theorem State.signWith_outcomes {o : Out} {k : KeyX} {rnd : List Byte} (ho : o = .next (s.signWith j k g rnd fin)) :
    (g.tooLong k rnd = false → o = .next (fin s (s.signature k g rnd 0))) ∧ (g.tooLong k rnd = true → o = .next (s.rejectionLimit j)) :=
  ⟨fun hshort => ho.trans (congrArg _ (if_neg (ne_true_of_eq_false hshort))), fun hlong => ho.trans (congrArg _ (if_pos hlong))⟩

/-- A secret value out of its range is rejected (R317). -/
theorem State.sign_outOfRange (hset : isStateful g.ps = false) (hrange : sigScalarOk g.ps (s.jobKey j).priv = false) :
    s.sign j inp g fin = s.reject j inp 0x0104 8 :=
  (if_neg (by simp [hset])).trans (if_pos (by simp [hrange]))

section
variable (hset : isStateful g.ps = false) (hrange : sigScalarOk g.ps (s.jobKey j).priv = true) (hmask : s.maskOk j = true)
include hset hrange hmask

/-- A deterministic signing draws nothing. -/
theorem State.sign_deterministic (hdraw : signDraw g (bit j.aux 3 && j.opcode == 0x0121) = 0) :
    s.sign j inp g fin = s.signWith j (s.jobKey j) g (fixedRandom g (s.jobKey j)) fin :=
  (if_neg (by simp [hset])).trans ((if_neg (by simp [hrange])).trans ((State.masked hmask ..).trans (if_pos hdraw)))

/-- A hedged signing draws its bytes first. -/
theorem State.sign_hedged {n : Nat} (hdraw : signDraw g (bit j.aux 3 && j.opcode == 0x0121) = n + 1) (hcan : s.CanDraw j (n + 1)) :
    s.sign j inp g fin = (s.afterDraw j (n + 1)).signWith j (s.jobKey j) g (s.nextRandom (n + 1)) fin := by
  have hdraws : signDraw g (bit j.aux 3 && j.opcode == 0x0121) ≠ 0 := hdraw ▸ n.succ_ne_zero
  refine (if_neg (by simp [hset])).trans ((if_neg (by simp [hrange])).trans ((State.masked hmask ..).trans ((if_neg hdraws).trans ?_)))
  rw [hdraw, State.jobDraw_can hcan]

end

/-- A stateful signing uses its index once that is durable, and waits before (R160, R161). -/
theorem State.sign_stateful (hset : isStateful g.ps = true) {c n : Nat} (hcustody : (s.jobKey j).custody = some c) (hindex : j.index = some n) :
    s.sign j inp g fin =
      if s.indexReady c n then fin (s.setCust c { s.cust c with signed := max (s.cust c).signed (n + 1) }) (s.signature (s.jobKey j) g [] n)
      else s.updJob j.q j.idx fun x => x.startWait s.now [] := by
  refine (if_pos hset).trans ?_
  rw [hcustody, hindex]

end

/-- What SIG_SIGN makes of its signature. -/
def Job.endSigned (j : Job) (inp : List Byte) (u : State) (sg : List Byte) : State := u.endJob j inp { (j.plain sg) with result := sg.length }

theorem execSigSign_at {s : State} {q i : Nat} {j : Job} (h : s.AtEngine q i 0x0121 j) (inp : List Byte) :
    execSigSign q i inp s = .next (s.sign j inp (j.sigIn (j.full inp)) (j.endSigned inp)) :=
  h.leads rfl

/-- DETERMINISTIC acts in a SIG_SIGN entry. -/
theorem State.AtEngine.signDraw_eq {s : State} {q i : Nat} {j : Job} (h : s.AtEngine q i 0x0121 j) (g : SigIn) :
    signDraw g (bit j.aux 3 && j.opcode == 0x0121) = signDraw g (bit j.aux 3) := by
  obtain ⟨-, -, hop, -⟩ := h
  simp [hop]

/-! ### The opcodes together -/

/-- Settles O38: each opcode passes its gates one after another, and what is left is the outcome stated. -/
theorem signatureOpcodes : Obligations.SignatureOpcodes := by
  unfold Obligations.SignatureOpcodes
  intro s q i j inp
  refine ⟨fun h hmask hdraw hset k hnew => execSigKeygen_stateless h hmask hdraw hset hnew,
    fun h hmask hdraw hset hbrace k x hnew hx => ?statefulKey,
    fun h => ?sign, fun h => ⟨fun hgood => ?verifies, fun hbad => ?fails⟩, fun h => ⟨fun hserved => ?counts, fun hbudget hdead => ?retries⟩⟩
  case statefulKey =>
    refine ⟨Config.algNat "stateful key length" [j.paramset, bits j.aux 31 16, bits j.arg0 43 40] [],
      show execSigKeygen q i s = _ from h.leads ((State.masked hmask ..).trans ((if_neg (by simp [State.flag, hbrace])).trans ?_))⟩
    rw [State.jobDraw_can hdraw, hnew]
    refine (if_pos hset).trans ?_
    rw [hx]
  case sign =>
    have hsign := execSigSign_at h inp
    refine ⟨fun hset hrange hmask hdraw => ?deterministic, fun hset hrange hmask n hdraw hcan => ?hedged,
      fun hset hrange => hsign.trans (congrArg _ (State.sign_outOfRange hset hrange)), fun c n hset hcustody hindex => ?stateful⟩
    case deterministic =>
      have houtcomes := State.signWith_outcomes (hsign.trans (congrArg _ (State.sign_deterministic hset hrange hmask ((h.signDraw_eq _).trans hdraw))))
      exact houtcomes
    case hedged =>
      have houtcomes := State.signWith_outcomes (hsign.trans (congrArg _ (State.sign_hedged hset hrange hmask ((h.signDraw_eq _).trans hdraw) hcan)))
      exact houtcomes
    case stateful =>
      obtain ⟨rfl, rfl⟩ := h.entry
      have hindexed := hsign.trans (congrArg _ (State.sign_stateful hset hcustody hindex))
      exact ⟨fun hready => hindexed.trans (congrArg _ (if_pos hready)),
        fun hearly => hindexed.trans (congrArg _ (if_neg (ne_true_of_eq_false hearly)))⟩
  case verifies => exact show execSigVerify q i inp s = _ from h.leads (if_pos hgood)
  case fails => exact show execSigVerify q i inp s = _ from h.leads (if_neg hbad)
  case counts =>
    exact show execSigVerifyBatch q i inp s = _ from
      h.leads (if_neg fun ⟨hbudget, hdead⟩ => hserved.elim hbudget.ne' fun hlive => ne_true_of_eq_false hlive hdead)
  case retries => exact show execSigVerifyBatch q i inp s = _ from h.leads (if_pos ⟨hbudget, hdead⟩)

end Sys2Proof.Machine
end

section
/-! ## Key encapsulation and key agreement (R148, R150 to R155, R317) -/

namespace Sys2Proof.Machine
open Sys2Proof

/-- A value without a fault lets the execution go on. -/
theorem State.faultless {α : Type} {fault : Nat} (hfault : fault = 0) (rejected goesOn : α) : (if fault ≠ 0 then rejected else goesOn) = goesOn :=
  if_neg (not_not_intro hfault)

section
variable {s : State} {q i : Nat} {j : Job}

/-! ### KEM_KEYGEN (R148) -/

/-- The state whose entropy a key generation has used; the attempts of a systemizer are counted (R304). -/
def State.afterKeygenDraw (s : State) (j : Job) : State := if j.systemizer then (s.afterDraw j 64).keygenRun j else s.afterDraw j 64

theorem execKemKeygen_endsWithPair (h : s.AtEngine q i 0x0110 j) (hmask : s.maskOk j = true) (hdraw : s.CanDraw j 64) {k : NewKey}
    (hnew : j.newKey = some k) :
    let p := kemPair j.kset (b2n (bit j.aux 0)) (s.nextRandom 64)
    execKemKeygen q i s = .next ((s.afterKeygenDraw j).endWithKey j [] k { priv := p.1, pub := p.2, keyLen := p.1.length } p.2) := by
  refine h.leads ((State.masked hmask ..).trans ?_)
  rw [State.jobDraw_can hdraw, hnew]
  rfl

variable {inp : List Byte}

/-! ### KEM_ENCAPS (R150) -/

/-- The public key an encapsulation is to: the held one, or the input. -/
def State.encapsKey (s : State) (j : Job) (inp : List Byte) : List Byte × List Byte :=
  splitHybrid j.kset kemPk (if j.handle = 0 then j.full inp else (s.jobKey j).pub)

/-- The fault of the public key an encapsulation is to. -/
def State.encapsKeyFault (s : State) (j : Job) (inp : List Byte) : Nat := kemPkFault j.kset (s.encapsKey j inp).1 (s.encapsKey j inp).2

/-- A held public key is not checked again. -/
theorem execKemEncaps_delivers (h : s.AtEngine q i 0x0111 j) (hkey : j.handle ≠ 0 ∨ s.encapsKeyFault j inp = 0) (hmask : s.maskOk j = true)
    (hdraw : s.CanDraw j 128) :
    let r := encaps j.kset (s.encapsKey j inp).1 (s.encapsKey j inp).2 (s.nextRandom 128)
    execKemEncaps q i inp s = .next ((s.afterDraw j 128).deliver j inp r.1 r.2) := by
  have hfault : (if j.handle = 0 then s.encapsKeyFault j inp else 0) = 0 := ite_eq_right_iff.2 fun hinline => hkey.resolve_left (not_not_intro hinline)
  refine h.leads ((State.faultless hfault ..).trans ((State.masked hmask ..).trans ?_))
  rw [encapsDraw.eq_def, State.jobDraw_can hdraw]
  rfl

theorem execKemEncaps_rejects (h : s.AtEngine q i 0x0111 j) (hinline : j.handle = 0) (hfault : s.encapsKeyFault j inp ≠ 0) :
    execKemEncaps q i inp s = .next (s.reject j inp 0x0104 (s.encapsKeyFault j inp)) := by
  have hchecked : (if j.handle = 0 then s.encapsKeyFault j inp else 0) = s.encapsKeyFault j inp := if_pos hinline
  rw [← hchecked] at hfault ⊢
  exact h.leads (if_pos hfault)

/-! ### KEM_DECAPS (R151) -/

/-- The secret key of a decapsulation. -/
def State.decapsKey (s : State) (j : Job) : List Byte × List Byte := splitHybrid j.kset kemSk (s.jobKey j).priv

theorem execKemDecaps_delivers (h : s.AtEngine q i 0x0112 j) (hfault : ctFault j.kset (s.decapsKey j).1 (s.decapsKey j).2 (j.full inp) = 0)
    (hmask : s.maskOk j = true) :
    execKemDecaps q i inp s = .next (s.deliver j inp [] (decaps j.kset (s.decapsKey j).1 (s.decapsKey j).2 (j.full inp))) :=
  h.leads ((State.faultless hfault ..).trans (State.masked hmask ..))

theorem execKemDecaps_rejects (h : s.AtEngine q i 0x0112 j) (hfault : ctFault j.kset (s.decapsKey j).1 (s.decapsKey j).2 (j.full inp) ≠ 0) :
    execKemDecaps q i inp s = .next (s.reject j inp 0x0104 (ctFault j.kset (s.decapsKey j).1 (s.decapsKey j).2 (j.full inp))) :=
  h.leads (if_pos hfault)

/-! ### KEY_AGREE (R153) -/

theorem execKeyAgree_delivers (h : s.AtEngine q i 0x0130 j) (hfault : peerFault j.paramset (j.full inp) = 0)
    (hscalar : kemScalarOk j.paramset (s.jobKey j).priv = true) :
    execKeyAgree q i inp s = .next (s.deliver j inp [] (dhOut j.paramset (s.jobKey j).priv (j.full inp))) :=
  h.leads ((State.faultless hfault ..).trans (if_neg (by simp [hscalar])))

theorem execKeyAgree_rejectsPeer (h : s.AtEngine q i 0x0130 j) (hfault : peerFault j.paramset (j.full inp) ≠ 0) :
    execKeyAgree q i inp s = .next (s.reject j inp 0x0104 (peerFault j.paramset (j.full inp))) :=
  h.leads (if_pos hfault)

theorem execKeyAgree_rejectsScalar (h : s.AtEngine q i 0x0130 j) (hfault : peerFault j.paramset (j.full inp) = 0)
    (hscalar : kemScalarOk j.paramset (s.jobKey j).priv = false) : execKeyAgree q i inp s = .next (s.reject j inp 0x0104 8) :=
  h.leads ((State.faultless hfault ..).trans (if_pos (by simp [hscalar])))

/-! ### HYBRID_KEM (R155) -/

section
variable (h : s.AtEngine q i 0x0140 j)
include h

/-- The second held key of a hybrid: its classical part. -/
def State.classicalKey (s : State) (j : Job) : KeyX := s.keyOf (bits j.arg0 63 32)

theorem execHybridKem_decapsulates (hdecaps : bit j.aux 0 = true)
    (hfault : ctFault j.paramset (s.jobKey j).priv (s.classicalKey j).priv (j.full inp) = 0) (hmask : s.maskOk j = true) :
    execHybridKem q i inp s = .next (s.deliver j inp [] (decaps j.paramset (s.jobKey j).priv (s.classicalKey j).priv (j.full inp))) :=
  h.leads ((if_pos hdecaps).trans ((State.faultless hfault ..).trans (State.masked hmask ..)))

theorem execHybridKem_rejectsCiphertext (hdecaps : bit j.aux 0 = true)
    (hfault : ctFault j.paramset (s.jobKey j).priv (s.classicalKey j).priv (j.full inp) ≠ 0) :
    execHybridKem q i inp s = .next (s.reject j inp 0x0104 (ctFault j.paramset (s.jobKey j).priv (s.classicalKey j).priv (j.full inp))) :=
  h.leads ((if_pos hdecaps).trans (if_pos hfault))

theorem execHybridKem_rejectsKey (hencaps : bit j.aux 0 = false) (hfault : peerFault (hybridParts j.paramset).2 (s.classicalKey j).pub ≠ 0) :
    execHybridKem q i inp s = .next (s.reject j inp 0x0104 (peerFault (hybridParts j.paramset).2 (s.classicalKey j).pub)) :=
  h.leads ((if_neg (ne_true_of_eq_false hencaps)).trans (if_pos hfault))

theorem execHybridKem_encapsulates (hencaps : bit j.aux 0 = false) (hfault : peerFault (hybridParts j.paramset).2 (s.classicalKey j).pub = 0)
    (hdraw : s.CanDraw j 128) :
    let r := encaps j.paramset (s.jobKey j).pub (s.classicalKey j).pub (s.nextRandom 128)
    execHybridKem q i inp s = .next ((s.afterDraw j 128).deliver j inp r.1 r.2) := by
  refine h.leads ((if_neg (ne_true_of_eq_false hencaps)).trans ((State.faultless hfault ..).trans ?_))
  rw [encapsDraw.eq_def, State.jobDraw_can hdraw]
  rfl

end
end

/-! ### The sets of KEY_AGREE whose size an edition gives

KEY_AGREE takes the set of its entry, and the statement O37 takes the set in the edition of a loaded kernel. The two differ only for a Classic McEliece
or HQC set, which decode refuses for KEY_AGREE, but which the job of the statement may name; there they differ in the length of the secret alone. -/

/-- The sets that a kernel may replace with an edition of its own sizes (R145). -/
def hasEditions (ps : Nat) : Bool := isMceliece ps || isHqc ps

/-- The length of the shared secret of such a set where no kernel replaces it (R145). -/
def builtInSecretLength (ps : Nat) : Nat := if isMceliece ps then 32 else 64

/-- A choice of the editions' sizes gives every edition of a set secrets as long as the built-in ones. -/
def KeepsSecretLength (sizes : String → List Nat → List (List Byte) → Nat) : Prop :=
  ∀ ps e, hasEditions ps = true → 0 < e → sizes "KEM edition size" [ps, e, 3] [] = builtInSecretLength ps

theorem hasEditions_iff (ps : Nat) : hasEditions ps = true ↔ ps ∈ [0x10, 0x11, 0x12, 0x13, 0x14, 0x20, 0x21, 0x22] := by
  simp only [hasEditions, isMceliece, isHqc, Bool.or_eq_true, Bool.and_eq_true, decide_eq_true_eq, List.mem_cons, List.not_mem_nil, or_false]
  omega

theorem kemSs_builtIn {ps : Nat} (h : hasEditions ps = true) : kemSs ps = builtInSecretLength ps := by
  have hall : ∀ p ∈ [0x10, 0x11, 0x12, 0x13, 0x14, 0x20, 0x21, 0x22], kemSs p = builtInSecretLength p := by decide
  exact hall ps ((hasEditions_iff ps).1 h)

/-- The length of an edition's secret is a value of the opaque constant. -/
theorem kemSs_edition {ps e : Nat} (h : hasEditions ps = true) (he : 0 < e) :
    kemSs (ps + 256 * e) = Config.algNat "KEM edition size" [ps, e, 3] [] := by
  have hps : ps < 256 := by
    simp only [hasEditions, isMceliece, isHqc, Bool.or_eq_true, Bool.and_eq_true, decide_eq_true_eq] at h
    omega
  have hset : (ps + 256 * e) % 256 = ps := by omega
  have hedition : (ps + 256 * e) / 256 = e := by omega
  have hsize : kemSs (ps + 256 * e) = Config.algNat "KEM edition size" [(ps + 256 * e) % 256, (ps + 256 * e) / 256, 3] [] := by
    rw [kemSs, show kemSizes (ps + 256 * e) = some _ from if_pos (by omega)]
    rfl
  rw [hsize, hset, hedition]

theorem edition_not_classical {ps : Nat} (h : hasEditions ps = true) (e : Nat) : isClassical (ps + 256 * e) = false := by
  simp only [hasEditions, isMceliece, isHqc, isClassical, Bool.or_eq_true, Bool.and_eq_true, Bool.and_eq_false_iff, decide_eq_true_eq,
    decide_eq_false_iff_not] at h ⊢
  omega

theorem hasEditions_not_classical {ps : Nat} (h : hasEditions ps = true) : isClassical ps = false := edition_not_classical h 0

theorem Job.kset_eq (j : Job) : j.kset = if hasEditions j.paramset then j.paramset + 256 * j.edition else j.paramset := rfl

section
variable {ps : Nat} (hset : isClassical ps = false)
include hset

theorem not_classical_ne : ps ≠ 0x30 ∧ ps ≠ 0x31 ∧ ps ≠ 0x32 ∧ ps ≠ 0x33 := by
  simp only [isClassical, Bool.and_eq_false_iff, decide_eq_false_iff_not] at hset
  omega

theorem peerFault_not_classical (v : List Byte) : peerFault ps v = if x448.small.contains (x448.decode v) then 5 else 0 := by
  obtain ⟨h0, -, h2, h3⟩ := not_classical_ne hset
  simp [peerFault, montCurve, h0, h2, h3]

theorem kemScalarOk_not_classical (sk : List Byte) : kemScalarOk ps sk = true := by
  obtain ⟨-, -, h2, h3⟩ := not_classical_ne hset
  simp [kemScalarOk, h2, h3]

theorem dhOut_not_classical (sk v : List Byte) : dhOut ps sk v = beBytes (kemSs ps) (p384.mul (beNat sk) (some (p384.coords v))).x := by
  obtain ⟨h0, h1, h2, -⟩ := not_classical_ne hset
  simp [dhOut, ecdhCurve, h0, h1, h2]

end

/-- KEY_AGREE checks the same of its peer value and its secret value in every edition. -/
theorem Job.kset_checks (j : Job) (v sk : List Byte) : peerFault j.kset v = peerFault j.paramset v ∧ kemScalarOk j.kset sk = kemScalarOk j.paramset sk := by
  rw [j.kset_eq]
  split
  case isFalse => exact ⟨rfl, rfl⟩
  case isTrue h =>
    have hplain := hasEditions_not_classical h
    have hedition := edition_not_classical h j.edition
    exact ⟨(peerFault_not_classical hedition v).trans (peerFault_not_classical hplain v).symm,
      (kemScalarOk_not_classical hedition sk).trans (kemScalarOk_not_classical hplain sk).symm⟩

/-- Where every edition keeps the length, KEY_AGREE makes the same secret in each. -/
theorem KeepsSecretLength.dhOut_kset (h : KeepsSecretLength Config.algNat) (j : Job) (sk v : List Byte) :
    dhOut j.kset sk v = dhOut j.paramset sk v := by
  rw [j.kset_eq]
  split
  case isFalse => rfl
  case isTrue hset =>
    obtain hbuiltIn | hedition := Nat.eq_zero_or_pos j.edition
    · rw [hbuiltIn, Nat.mul_zero, Nat.add_zero]
    · rw [dhOut_not_classical (edition_not_classical hset _), dhOut_not_classical (hasEditions_not_classical hset), kemSs_edition hset hedition,
        h _ _ hset hedition, kemSs_builtIn hset]

/-! ### A job of KEY_AGREE that shows the length of its secret -/

/-- A KEY_AGREE of a set in an edition, at its engine: it is stitched, its input is the passed value 5, its handle is 1. -/
def agreeJob (ps e : Nat) : Job :=
  { words := [BitVec.ofNat 64 (0x02000130 + ps * 2 ^ 16), 1, 0, 0, 0, 0, 0, 0], stage := .dispatched, passed := some [5], edition := e }

/-- The state with that one job. -/
def agreeState (ps e : Nat) : State := { State.reset with jobs := [agreeJob ps e] }

section
variable {ps : Nat} (hset : hasEditions ps = true) (e : Nat)
include hset

theorem agreeJob_fields : (agreeJob ps e).opcode = 0x0130 ∧ (agreeJob ps e).paramset = ps ∧ (agreeJob ps e).stitch = true ∧
    (agreeJob ps e).full [] = [5] := by
  have hall : ∀ p ∈ [0x10, 0x11, 0x12, 0x13, 0x14, 0x20, 0x21, 0x22], (agreeJob p 0).opcode = 0x0130 ∧ (agreeJob p 0).paramset = p ∧
      (agreeJob p 0).stitch = true ∧ (agreeJob p 0).full [] = [5] := by decide
  exact hall ps ((hasEditions_iff ps).1 hset)

theorem agreeState_atEngine : (agreeState ps e).AtEngine 0 0 0x0130 (agreeJob ps e) := by
  obtain ⟨hop, -⟩ := agreeJob_fields hset e
  refine ⟨rfl, rfl, hop, rfl, ?_, rfl⟩
  rw [State.engineGate, if_neg (by rw [hop]; decide)]
  rfl

theorem agreeJob_peerFault : peerFault (agreeJob ps e).paramset ((agreeJob ps e).full []) = 0 := by
  obtain ⟨-, hps, -, hfull⟩ := agreeJob_fields hset e
  rw [hps, hfull, peerFault_not_classical (hasEditions_not_classical hset)]
  decide +kernel

theorem agreeJob_kset : (agreeJob ps e).kset = ps + 256 * e := by
  obtain ⟨-, hps, -⟩ := agreeJob_fields hset e
  rw [Job.kset_eq, hps, if_pos hset]
  rfl

end

/-- A stitched link passes its secret on (R144). -/
theorem State.deliver_pass {s : State} {j : Job} (hj : s.job? j.q j.idx = some j) (hstitch : j.stitch = true) (inp pub secret : List Byte) :
    ((s.deliver j inp pub secret).job? j.q j.idx).map (·.pass) = some secret := by
  rw [State.deliver, if_pos hstitch, State.endJob_job?_place hj]
  rfl

/-- Of a stitched link the state shows which secret was delivered. -/
theorem State.deliver_inj {s : State} {j : Job} (hj : s.job? j.q j.idx = some j) (hstitch : j.stitch = true) {inp pub a b : List Byte}
    (h : s.deliver j inp pub a = s.deliver j inp pub b) : a = b :=
  Option.some.inj (by rw [← State.deliver_pass hj hstitch inp pub a, h, State.deliver_pass hj hstitch])

/-! ### The opcodes together -/

/-- What O37 comes down to: all of it but the secret of KEY_AGREE holds outright, and that secret is the one O37 states just when every edition keeps
the length of its set's secrets. -/
theorem kemOpcodes_iff_keepsSecretLength : Obligations.KemOpcodes ↔ KeepsSecretLength Config.algNat := by
  unfold Obligations.KemOpcodes
  constructor
  case mp =>
    intro h ps e hset he
    obtain ⟨-, -, -, -, hagree, -⟩ := h (agreeState ps e) 0 0 (agreeJob ps e) []
    have hat := agreeState_atEngine hset e
    obtain ⟨hdelivers, -⟩ := hagree hat
    obtain ⟨-, hps, hstitch, -⟩ := agreeJob_fields hset e
    have hfault := agreeJob_peerFault hset e
    have hclassical := hasEditions_not_classical hset
    have hscalar : kemScalarOk (agreeJob ps e).paramset ((agreeState ps e).jobKey (agreeJob ps e)).priv = true := by
      rw [hps, kemScalarOk_not_classical hclassical]
    obtain ⟨hpeer, hscalars⟩ := (agreeJob ps e).kset_checks ((agreeJob ps e).full []) ((agreeState ps e).jobKey (agreeJob ps e)).priv
    have hstated : execKeyAgree 0 0 [] (agreeState ps e) = _ := hdelivers (hpeer.trans hfault) (hscalars.trans hscalar)
    have hsame := Host.Outcome.next.inj (hstated.symm.trans (execKeyAgree_delivers hat hfault hscalar))
    have hsecret := State.deliver_inj (s := agreeState ps e) rfl hstitch hsame
    rw [agreeJob_kset hset, hps, dhOut_not_classical (edition_not_classical hset e), dhOut_not_classical hclassical, kemSs_edition hset he,
      kemSs_builtIn hset] at hsecret
    simpa [beBytes, leBytes_length] using congrArg List.length hsecret
  case mpr =>
    intro hlen s q i j inp
    obtain ⟨hpeer, hscalar⟩ := j.kset_checks (j.full inp) (s.jobKey j).priv
    refine ⟨fun h hmask hdraw hsys k hnew => ?generates, fun h hmask hdraw hsys k hnew => ?systemizes,
      fun h => ⟨execKemEncaps_delivers h, execKemEncaps_rejects h⟩, fun h => ⟨execKemDecaps_delivers h, execKemDecaps_rejects h⟩, fun h => ?agrees,
      fun h => ⟨execHybridKem_decapsulates h, execHybridKem_rejectsCiphertext h, execHybridKem_rejectsKey h, execHybridKem_encapsulates h⟩⟩
    case generates =>
      have hpair := execKemKeygen_endsWithPair h hmask hdraw hnew
      rwa [State.afterKeygenDraw, if_neg (ne_true_of_eq_false hsys)] at hpair
    case systemizes =>
      have hpair := execKemKeygen_endsWithPair h hmask hdraw hnew
      rwa [State.afterKeygenDraw, if_pos hsys] at hpair
    case agrees =>
      rw [hpeer, hscalar, hlen.dhOut_kset]
      exact ⟨execKeyAgree_delivers h, execKeyAgree_rejectsPeer h, execKeyAgree_rejectsScalar h⟩

/-- Sizes of the editions with which they keep the length, and sizes with which they do not. Config.algNat is opaque, so a proof could not tell it from
either: neither O37 nor its negation follows from the model. -/
theorem keepsSecretLength_some_not_all : (∃ sizes, KeepsSecretLength sizes) ∧ ∃ sizes, ¬ KeepsSecretLength sizes :=
  ⟨⟨fun _ ns _ => builtInSecretLength (ns.headD 0), fun _ _ _ _ => rfl⟩,
    ⟨fun _ _ _ => 0, fun h => absurd (h 0x10 1 rfl Nat.one_pos) (by decide)⟩⟩

end Sys2Proof.Machine
end

section
/-! ## Hashes, MACs and key derivation (R171, R172, R174) -/

namespace Sys2Proof.Machine
open Sys2Proof

/-- A tag is written, or it verifies, or it does not, which STR counts of its own tags (R172, R324). -/
theorem State.endMac_outcomes {s : State} {j : Job} {inp msg : List Byte} {verify str : Bool} {tag : List Byte → List Byte} {o : Out}
    (ho : o = .next (s.endMac j inp msg verify str tag)) :
    let n := msg.length - j.tagLen
    (verify = false → o = .next (s.endJob j inp { (j.plain (tag msg)) with result := j.tagLen })) ∧
    (verify = true → tag (msg.take n) = msg.drop n → o = .next (s.endJob j inp {})) ∧
    (verify = true → tag (msg.take n) ≠ msg.drop n →
      o = .next ((if str then s.count .STR_TAG_MISMATCH_COUNT_COUNT 0 1 else s).endJob j inp (failed stSigInvalid 3))) :=
  ⟨fun hwrites => ho.trans (congrArg _ (if_neg (ne_true_of_eq_false hwrites))),
    fun hverifies hfits => ho.trans (congrArg _ ((if_pos hverifies).trans (if_pos hfits))),
    fun hverifies hdiffers => ho.trans (congrArg _ ((if_pos hverifies).trans (if_neg hdiffers)))⟩

/-- Settles O39: HASH and KDF end as they are computed, and each MAC has the three outcomes of a tag. -/
theorem hashMacAndKdfOpcodes : Obligations.HashMacAndKdfOpcodes := by
  unfold Obligations.HashMacAndKdfOpcodes
  intro s q i j inp
  refine ⟨fun h => ?hash, fun h => ?hmac, fun h => ?kmac, fun h => ?cmac, fun h => ?kdf⟩
  case hash => exact show execHash q i inp s = _ from h.leads rfl
  case hmac =>
    have houtcomes := State.endMac_outcomes (show execHmac q i inp s = .next _ from h.leads rfl)
    exact houtcomes
  case kmac =>
    have houtcomes := State.endMac_outcomes (show execKmac q i inp s = .next _ from h.leads rfl)
    exact houtcomes
  case cmac =>
    have houtcomes := State.endMac_outcomes (show execCmac q i inp s = .next _ from h.leads rfl)
    exact houtcomes
  case kdf => exact show execKdf q i inp s = _ from h.leads rfl

end Sys2Proof.Machine
end

section
/-! ## Ciphers, wrapping and RANDOM (R175 to R178, R324, R331) -/

namespace Sys2Proof.Machine
open Sys2Proof

section
variable {s : State} {q i : Nat} {j : Job} {inp : List Byte}

/-! ### AEAD (R175, R176) -/

/-- Ciphertext and tag of what stands behind the IV in an AEAD input. -/
def State.aeadSealed (s : State) (j : Job) (iv rest : List Byte) : List Byte :=
  let pt := rest.drop j.aadLen
  let c := bytesOf pt.length (Config.alg "AEAD ciphertext" [j.paramset, j.tagLen] [s.keyBytes j, iv, pt])
  c ++ bytesOf j.tagLen (Config.alg "AEAD tag" [j.paramset, j.tagLen] [s.keyBytes j, iv, rest.take j.aadLen, c])

theorem execAeadEncrypt_givenIv (h : s.AtEngine q i 0x0300 j) (hgiven : j.ivGen = false) :
    execAeadEncrypt q i inp s = .next ((s.pipeBytes j (((j.full inp).drop j.ivLen).drop j.aadLen).length).endJob j inp
      (j.plain (s.aeadSealed j ((j.full inp).take j.ivLen) ((j.full inp).drop j.ivLen)))) :=
  h.leads (if_neg (ne_true_of_eq_false hgiven))

/-- The drawn IV stands before what it seals. -/
theorem execAeadEncrypt_drawnIv (h : s.AtEngine q i 0x0300 j) (hdrawn : j.ivGen = true) (hdraw : s.CanDraw j 12) :
    execAeadEncrypt q i inp s = .next (((s.afterDraw j 12).pipeBytes j ((j.full inp).drop j.aadLen).length).endJob j inp
      (j.plain (s.nextRandom 12 ++ s.aeadSealed j (s.nextRandom 12) (j.full inp)))) := by
  refine h.leads ((if_pos hdrawn).trans ?_)
  rw [State.jobDraw_can hdraw, State.aeadSealed, ← List.append_assoc]
  rfl

/-- The tag at the end of an AEAD input fits what stands before it. -/
def State.aeadFits (s : State) (j : Job) (d : List Byte) : Prop :=
  let r := d.drop (j.ivLen + j.aadLen)
  let n := r.length - j.tagLen
  bytesOf j.tagLen (Config.alg "AEAD tag" [j.paramset, j.tagLen] [s.keyBytes j, d.take j.ivLen, (d.drop j.ivLen).take j.aadLen, r.take n]) = r.drop n

theorem execAeadDecrypt_outcomes (h : s.AtEngine q i 0x0301 j) :
    let d := j.full inp
    let r := d.drop (j.ivLen + j.aadLen)
    let n := r.length - j.tagLen
    let mismatch := (s.pipeBytes j n).count .STR_TAG_MISMATCH_COUNT_COUNT 0 1
    (s.aeadFits j d → execAeadDecrypt q i inp s = .next ((s.pipeBytes j n).endJob j inp
      (j.plain (bytesOf n (Config.alg "AEAD plaintext" [j.paramset, j.tagLen] [s.keyBytes j, d.take j.ivLen, r.take n]))))) ∧
    (¬s.aeadFits j d → n ≤ 4096 → execAeadDecrypt q i inp s = .next (mismatch.endJob j inp (failed stSigInvalid 3))) ∧
    (¬s.aeadFits j d → 4096 < n → execAeadDecrypt q i inp s = .next (mismatch.endJob j inp
      { status := stSigInvalid, detail := 3, result := n, output := zeros n, onInvalid := true })) :=
  ⟨fun hfits => h.leads (if_pos hfits), fun hdiffers hshort => h.leads ((if_neg hdiffers).trans (if_neg (Nat.not_lt.2 hshort))),
    fun hdiffers hlong => h.leads ((if_neg hdiffers).trans (if_pos hlong))⟩

/-! ### Wrapped keys (R177) -/

/-- What KEY_UNWRAP makes of the wrapped bytes under the set of its entry. -/
def State.unwrapped (s : State) (j : Job) (d : List Byte) : Except Nat (List Byte) :=
  if j.paramset = 0x30 then
    (if Config.holds "AES-KW integrity" [] [s.keyBytes j, d] then .ok (bytesOf (d.length - 8) (Config.alg "AES-KW unwrap" [] [s.keyBytes j, d]))
      else .error 3)
  else kwpOpen (s.keyBytes j) d

/-- KEY_UNWRAP delivers what it opened, or fails with its DETAIL, counted. -/
def State.endUnwrap (s : State) (j : Job) (inp : List Byte) : Except Nat (List Byte) → State
  | .error e => (s.count .STR_TAG_MISMATCH_COUNT_COUNT 0 1).endJob j inp (failed stSigInvalid e)
  | .ok p => s.deliver j inp [] p

theorem execKeyUnwrap_at (h : s.AtEngine q i 0x0305 j) {r : Except Nat (List Byte)} (hr : s.unwrapped j (j.full inp) = r) :
    execKeyUnwrap q i inp s = .next ((s.pipeBytes j (j.full inp).length).endUnwrap j inp r) := by
  rw [← hr, State.endUnwrap.eq_def]
  exact h.leads rfl

/-! ### RANDOM (R178) -/

theorem execRandom_draws (h : s.AtEngine q i 0x0400 j) (hset : j.paramset ≠ 1) (hdraw : s.CanDraw j (bits j.aux 23 0)) :
    let b := s.nextRandom (bits j.aux 23 0)
    let u := s.afterDraw j (bits j.aux 23 0)
    execRandom q i s = .next (if j.stitch then u.endJob j [] (j.plain b) else u.deliver j [] [] b) := by
  refine h.leads ?_
  dsimp only
  rw [if_neg hset, State.jobDraw_can hdraw]

end

/-- Settles O40: each opcode counts its bytes and ends by its lemma above; XTS and KEY_WRAP have one outcome each. -/
theorem cipherOpcodes : Obligations.CipherOpcodes := by
  unfold Obligations.CipherOpcodes
  intro s q i j inp
  refine ⟨execAeadEncrypt_givenIv, execAeadEncrypt_drawnIv, execAeadDecrypt_outcomes, fun h => ?xtsEncrypts, fun h => ?xtsDecrypts, fun h => ?wraps,
    fun h hset => ⟨fun hfits => ?opensKw, fun hdiffers => ?failsKw⟩, fun h hset => ?kwp,
    fun h hset hdraw => ⟨fun hstitch => ?passes, fun hends => ?delivers⟩⟩
  case xtsEncrypts => exact show execXtsEncrypt q i inp s = _ from h.leads rfl
  case xtsDecrypts => exact show execXtsDecrypt q i inp s = _ from h.leads rfl
  case wraps => exact show execKeyWrap q i inp s = _ from h.leads rfl
  case opensKw => exact execKeyUnwrap_at h ((if_pos hset).trans (if_pos hfits))
  case failsKw => exact execKeyUnwrap_at h ((if_pos hset).trans (if_neg (ne_true_of_eq_false hdiffers)))
  case kwp =>
    have hopen : s.unwrapped j (j.full inp) = kwpOpen (s.keyBytes j) (j.full inp) := if_neg hset
    exact ⟨fun p hp => execKeyUnwrap_at h (hopen.trans hp), fun e he => execKeyUnwrap_at h (hopen.trans he)⟩
  case passes => exact (execRandom_draws h hset hdraw).trans (congrArg _ (if_pos hstitch))
  case delivers => exact (execRandom_draws h hset hdraw).trans (congrArg _ (if_neg (ne_true_of_eq_false hends)))

end Sys2Proof.Machine
end

section
/-! ## Key management (R180 to R186, R357, R369) -/

namespace Sys2Proof.Machine
open Sys2Proof

section
variable {s : State} {q i : Nat} {j : Job} {inp : List Byte}

/-! ### KEY_IMPORT in the clear (R180, R181) -/

/-- The set whose checks an imported key passes. -/
def Job.importSet (j : Job) : Nat := if bits j.aux 15 8 = 1 then j.kset else j.paramset

/-- An import ended by a failed check, which BGN counts where it runs the checks (R317). -/
def State.importRejected (s : State) (j : Job) (inp : List Byte) (fault : Nat) : State :=
  (if bgnFamily (bits j.aux 15 8) j.importSet then
    (if fault = 8 then (s.count .BGN_SECRET_REJECT_COUNT_COUNT 0 1).raiseErr blkBGN 3 0 fault else s.count .BGN_INPUT_REJECT_COUNT_COUNT 0 1)
   else s).endJob j inp (failed stInputRejected fault)

/-- What an import makes of a key's bytes of the right length. -/
def State.importKey (s : State) (j : Job) (inp d : List Byte) (k : NewKey) : State :=
  if bit j.aux 1 then
    if publicFault (bits j.aux 15 8) j.importSet d ≠ 0 then s.importRejected j inp (publicFault (bits j.aux 15 8) j.importSet d)
    else s.endWithKey j inp k { pub := d, pubOnly := true, keyLen := d.length } []
  else if secretBad (bits j.aux 15 8) j.importSet d then s.importRejected j inp 8
  else s.endWithKey j inp k { priv := d, pub := publicOf (bits j.aux 15 8) j.importSet d, keyLen := d.length } []

theorem State.importBytes_clear (hclear : bit j.aux 0 = false) (d : List Byte) : s.importBytes j d = .ok (d, bits j.arg0 15 0) :=
  if_pos (by simp [hclear])

theorem execKeyImport_clear (h : s.AtEngine q i 0x0500 j) (hclear : bit j.aux 0 = false) (hlen : j.rawLenOk (j.full inp).length = true) {k : NewKey}
    (hnew : j.newKey = some k) :
    execKeyImport q i inp s = .next (s.importKey j inp (j.full inp) { k with usage := bits j.arg0 15 0 }) := by
  refine h.leads ?_
  dsimp only
  rw [State.importBytes_clear hclear, hnew]
  exact if_neg (by simp [hlen])

/-! ### KEY_DESTROY_COMMIT (R183, R369) -/

theorem State.not_heldBefore {k stamp : Nat}
    (hlater : ∀ x ∈ s.jobs, x.live = true → k ∈ x.keys ∨ (x.opcode = 0x0123 ∧ x.slice = (s.key k).owner) → stamp ≤ x.stamp) :
    s.heldBefore k stamp = false := by
  refine List.any_eq_false.2 fun x hx => ?_
  simp only [Bool.and_eq_true, Bool.or_eq_true, List.contains_iff_mem, beq_iff_eq, decide_eq_true_eq]
  exact fun ⟨⟨hlive, hearlier⟩, hholds⟩ => absurd (hlater x hx hlive hholds) (Nat.not_le.2 hearlier)

theorem execKeyDestroyCommit_destroys {d : DestroyX} {rest : List DestroyX} (hrun : s.stopped = false) (hdestroys : s.kv.destroys = d :: rest)
    (hheld : s.heldBefore d.key d.stamp = false) (hj : s.job? d.q d.idx = some j) (hlive : j.live = true) (hstamp : j.stamp = d.stamp)
    (hstage : j.stage = .dispatched) (hcomputed : j.computed = false) :
    execKeyDestroyCommit d.key s =
      .next ((({ s with kv := { s.kv with destroys := rest } } : State).destroyKey d.key (some (d.q, d.idx))).endJob j [] {}) := by
  have htaken : takeFirst (fun e : DestroyX => e.key == d.key) s.kv.destroys = some (d, rest) :=
    hdestroys ▸ takeFirst_append_cons rest (a := []) (List.forall_mem_nil _) (beq_self_eq_true _)
  rw [execKeyDestroyCommit, State.clocked_run hrun, htaken]
  refine (if_neg (ne_true_of_eq_false hheld)).trans ?_
  rw [hj, Option.filter_some, if_pos (by simp [hlive, hstamp, hcomputed])]
  exact if_pos hstage

/-! ### KEY_DERIVE, STATEFUL_RESERVE, HOT_KEY_LOAD (R185, R186, R357) -/

theorem execKeyDerive_creates (h : s.AtEngine q i 0x0504 j) {k : NewKey} (hnew : j.newKey = some k) :
    execKeyDerive q i inp s = .next (s.endWithKey j inp k
      { priv := kdfOut j.paramset j.deriveLen (s.keyBytes j) ((j.full inp).take (bits j.arg0 31 16)) ((j.full inp).drop (bits j.arg0 31 16)),
        keyLen := j.deriveLen } []) := by
  refine h.leads ?_
  dsimp only
  rw [hnew]

/-- With no raise under way and two blocks beyond the one in use, a reservation has what it asks for. -/
theorem execStatefulReserve_reserved (h : s.AtEngine q i 0x0505 j) {n : Nat} (hcustody : (s.jobKey j).custody = some n) (hphase : j.phase = 0)
    (hraising : (s.cust n).raising = none) (hasked : (s.cust n).raiseAsked = false) (hbrace : s.getF .PWR_STATUS_BRACE 0 = 0)
    (hblocks : (s.cust n).useEnd + 2 * (s.cust n).block ≤ (s.cust n).resEnd) :
    execStatefulReserve q i s = .next (s.endJob j [] { ext := some (s.cust n).resEnd }) := by
  refine h.leads ?_
  dsimp only
  rw [hcustody]
  have hidle : ((s.cust n).raising.isSome || (s.cust n).raiseAsked || s.flag .PWR_STATUS_BRACE 0) = false := by
    simp [hraising, hasked, State.flag, hbrace]
  exact (if_pos hphase).trans ((if_neg (ne_true_of_eq_false hidle)).trans (if_pos (.inl hblocks)))

theorem execHotKeyLoad_loads {k : Nat} (hrun : s.stopped = false) (hused : (s.key k).used = true) (hcold : s.kv.hot.contains k = false)
    (hresident : neverResident (s.key k).family (s.key k).paramset = false) :
    execHotKeyLoad k s = .next ((s.makeHot k).count .KV_HOT_MISS_COUNT_COUNT 0 1) :=
  (State.clocked_run hrun _).trans (if_neg (by simp only [hused, hcold, hresident]; decide))

end

/-- Settles O41: an import by its check, a destroy once nothing earlier holds the key, the other opcodes by their one outcome. -/
theorem keyManagementOpcodes : Obligations.KeyManagementOpcodes := by
  unfold Obligations.KeyManagementOpcodes
  intro s q i j inp
  refine ⟨fun h hclear hlen k hnew => ?imports, fun h => ?exports, fun h => ?destroys,
    fun k d rest hdestroys hkey hlater hrun hj hlive hstamp hstage hcomputed => ?commits, fun h => ?describes, fun h k => execKeyDerive_creates h,
    fun h n => execStatefulReserve_reserved h, fun k => execHotKeyLoad_loads⟩
  case imports =>
    have himport := execKeyImport_clear h hclear hlen hnew
    exact ⟨fun hpublic hvalid => himport.trans (congrArg _ ((if_pos hpublic).trans (State.faultless hvalid ..))),
      fun hprivate hvalid => himport.trans (congrArg _ ((if_neg (ne_true_of_eq_false hprivate)).trans (if_neg (ne_true_of_eq_false hvalid)))),
      fun hpublic hfault hfamily => himport.trans (congrArg _ ((if_pos hpublic).trans ((if_pos hfault).trans
        (congrArg (State.endJob · j inp _) (if_neg (ne_true_of_eq_false hfamily))))))⟩
  case exports => exact show execKeyExportWrapped q i s = _ from h.leads rfl
  case destroys => exact show execKeyDestroy q i s = _ from h.leads rfl
  case commits =>
    subst hkey
    exact execKeyDestroyCommit_destroys hrun hdestroys (State.not_heldBefore hlater) hj hlive hstamp hstage hcomputed
  case describes => exact show execKeyInfo q i s = _ from h.leads rfl

end Sys2Proof.Machine
end

section
/-! ## Ledger streams (R187 to R191, R208, R394, R399, R400) -/

namespace Sys2Proof.Machine
open Sys2Proof

/-! ### Signing with an EdDSA key (R157) -/

theorem isEddsa_sets {ps : Nat} (h : isEddsa ps = true) :
    isStateful ps = false ∧ isMlDsa ps = false ∧ isSlhDsa ps = false ∧ isEcdsa ps = false ∧ isRsa ps = false := by
  obtain rfl | rfl : ps = 0x38 ∨ ps = 0x39 := by simpa [isEddsa] using h
  · decide
  · decide

/-- An EdDSA key signs at once: it draws nothing, and nothing stands in place of drawn bytes. -/
theorem State.sign_eddsa {s : State} {j : Job} {inp : List Byte} {g : SigIn} {fin : State → List Byte → State} (hset : isEddsa g.ps = true)
    (hmask : s.maskOk j = true) : s.sign j inp g fin = fin s (s.signature (s.jobKey j) g [] 0) := by
  obtain ⟨hstateful, hml, hslh, hec, hrsa⟩ := isEddsa_sets hset
  have hrange : sigScalarOk g.ps (s.jobKey j).priv = true := by simp [sigScalarOk, hec, hrsa]
  have hdraw (det : Bool) : signDraw g det = 0 := by simp [signDraw, hset]
  have hfixed : fixedRandom g (s.jobKey j) = [] := by simp [fixedRandom, hml, hslh, hec]
  rw [State.sign_deterministic hstateful hrange hmask (hdraw _), hfixed]
  exact if_neg (by simp [hml])

section
variable {s : State} {q i : Nat} {j : Job}

/-! ### LEDGER_CHECKPOINT (R188, R399) -/

/-- What a checkpoint signs. -/
def State.checkpointInput (s : State) (j : Job) : SigIn :=
  { (j.sigIn []) with
    digest := false, ctx := if takesContext j.paramset then label "UMVOR.QUIRE.CKPT" else [], msg := s.checkpointBody j (bits j.aux 7 0) }

/-- A checkpoint with its body and signature: the latest one of its stream is at least it. -/
def State.endCheckpoint (j : Job) (body : List Byte) (u : State) (sg : List Byte) : State :=
  let st := bits j.aux 7 0
  (u.setStream st { u.stream st with latest := max (u.stream st).latest j.size }).endJob j []
    { result := (body ++ sg).length, output := body ++ sg, ext := some j.size }

theorem execLedgerCheckpoint_signs (h : s.AtEngine q i 0x0601 j) (hplaced : j.size ≤ (s.stream (bits j.aux 7 0)).placed) :
    execLedgerCheckpoint q i s = .next (s.sign j [] (s.checkpointInput j) (State.endCheckpoint j (s.checkpointBody j (bits j.aux 7 0)))) :=
  h.leads (if_neg (Nat.not_lt.2 hplaced))

/-! ### LEDGER_PROVE (R189, R400) -/

theorem execLedgerProveInclusion_outcomes (h : s.AtEngine q i 0x0602 j) (hset : j.paramset = 0) :
    let st := bits j.aux 7 0
    let n := s.proofSize j
    ((s.stream st).latest < n ∨ n ≤ j.arg0 → execLedgerProveInclusion q i s = .next (s.endJob j [] (failed stInputRejected 3))) ∧
    (n ≤ (s.stream st).latest → j.arg0 < n →
      execLedgerProveInclusion q i s = .next (s.prove j 0 (inclusionNodes j.arg0 n) (s.inclusion st j.arg0 n) n)) :=
  ⟨fun houtside => h.leads ((if_neg (not_not_intro hset)).trans (if_pos houtside)),
    fun hsize hindex => h.leads ((if_neg (not_not_intro hset)).trans (if_neg (not_or.2 ⟨Nat.not_lt.2 hsize, Nat.not_le.2 hindex⟩)))⟩

theorem execLedgerProveConsistency_outcomes (h : s.AtEngine q i 0x0602 j) (hset : j.paramset = 1) :
    let st := bits j.aux 7 0
    let n := s.proofSize j
    ((s.stream st).latest < n ∨ n < j.arg0 → execLedgerProveConsistency q i s = .next (s.endJob j [] (failed stInputRejected 3))) ∧
    (n ≤ (s.stream st).latest → j.arg0 ≤ n →
      execLedgerProveConsistency q i s = .next (s.prove j 1 (consistencyNodes j.arg0 n) (s.consistency st j.arg0 n) n)) :=
  ⟨fun houtside => h.leads ((if_neg (not_not_intro hset)).trans (if_pos houtside)),
    fun hsize hindex => h.leads ((if_neg (not_not_intro hset)).trans (if_neg (not_or.2 ⟨Nat.not_lt.2 hsize, Nat.not_lt.2 hindex⟩)))⟩

/-- A proof whose blocks are all on chip ends its job. -/
theorem State.prove_onChip {kind n : Nat} {nodes : List (Nat × Nat)} {hs : List (List Byte)} {d : List Byte}
    (hread : s.readAll ((nodes.flatMap (s.stream (bits j.aux 7 0)).nodeBlocks).dedup) = some d) :
    let o := proofBytes kind (bits j.aux 7 0) hs.length j.arg0 n (s.rootAt (bits j.aux 7 0) n) hs
    s.prove j kind nodes hs n = s.endJob j [] { result := o.length, output := o, ext := some n } := by
  rw [State.prove, hread]

/-! ### LEDGER_READ (R190) -/

theorem execLedgerRead_outside (h : s.AtEngine q i 0x0603 j) (hindex : (s.stream (bits j.aux 7 0)).records.length ≤ j.arg0) :
    execLedgerRead q i s = .next (s.endJob j [] (failed stInputRejected 3)) := by
  refine h.leads ?_
  dsimp only
  rw [List.getElem?_eq_none hindex]

theorem execLedgerRead_record (h : s.AtEngine q i 0x0603 j) {folio off len : Nat}
    (hrecord : (s.stream (bits j.aux 7 0)).records[j.arg0]? = some (folio, off, len)) :
    let l := ((s.stream (bits j.aux 7 0)).records.drop j.arg0).takeWhile fun r => r.1 == folio
    let n := (l.map fun r => r.2.2).sum
    let bs := (s.stream (bits j.aux 7 0)).folioBlocks folio off (off + n - 1)
    (∀ d, s.readAll bs = some d → execLedgerRead q i s =
      .next (s.endJob j [] { result := n, output := bslice d (off % 4096) n, ext := some (j.arg0 + l.length) })) ∧
    (s.readAll bs = none → execLedgerRead q i s = .next (s.waitFor j bs)) := by
  refine ⟨fun d hread => h.leads ?found, fun hread => h.leads ?missing⟩
  case found => simp only [hrecord, hread]
  case missing => simp only [hrecord, hread]

/-! ### Streams (R191) -/

theorem execStreamOpen_noneFree (h : s.AtEngine q i 0x0604 j) (hfree : s.freeStream = none) :
    execStreamOpen q i s = .next (s.endJob j [] (failed stNoPages 0)) := by
  refine h.leads ?_
  rw [hfree]

/-- A free stream is opened where a first folio can be had. -/
theorem execStreamOpen_free (h : s.AtEngine q i 0x0604 j) {n : Nat} (hfree : s.freeStream = some n) {made : Option State}
    (hmade : s.makeStream n j.slice (bits j.arg0 7 0) (some (q, i)) = made) :
    execStreamOpen q i s = .next (made.elim (s.endJob j [] (failed stNoPages 0)) fun t => t.endJob j [] { result := n }) := by
  refine h.leads ?_
  rw [hfree]
  dsimp only
  rw [hmade]
  cases made <;> rfl

/-- With no earlier entry left that appends to it, a stream closes. -/
theorem execStreamClose_closes (h : s.AtEngine q i 0x0605 j)
    (hlast : ∀ k ∈ s.jobs, k.live = true → k.stamp < j.stamp → k.stream ≠ some (bits j.aux 7 0)) :
    execStreamClose q i s = .next ((((s.setF .QRE_STREAM_STATE_STATE (bits j.aux 7 0) 2).setF .QRE_STATUS_OPEN 0
      (s.getF .QRE_STATUS_OPEN 0 - 1)).placeStreamState (bits j.aux 7 0) (some (q, i))).endJob j []
        { ext := some (s.getF .QRE_STREAM_SIZE_SIZE (bits j.aux 7 0)) }) := by
  have hnone : (s.jobs.any fun k => k.live && decide (k.stamp < j.stamp) && k.stream == some (bits j.aux 7 0)) = false := by
    refine List.any_eq_false.2 fun k hk => ?_
    simp only [Bool.and_eq_true, decide_eq_true_eq, beq_iff_eq]
    exact fun ⟨⟨hlive, hearlier⟩, hstream⟩ => hlast k hk hlive hearlier hstream
  exact h.leads (if_neg (ne_true_of_eq_false hnone))

/-! ### RECORD_PLACE (R208, R394) -/

/-- The record of a computed job is handed over where it was not before. -/
theorem execRecordPlace_gives (hrun : s.stopped = false) (hj : s.job? q i = some j) {n m : Nat} (hstream : j.stream = some n) (hseq : j.seq = some m)
    (hstage : j.stage ≠ .done) (hcomputed : j.computed = true) (hgiven : s.recordGiven n m = false) :
    execRecordPlace q i s = .next (s.giveRecord n { seq := m, bytes := (s.jobRecord j m n).bytes, owner := some (q, i) }) := by
  rw [execRecordPlace, State.clocked_run hrun, hj]
  dsimp only
  rw [hstream, hseq]
  exact if_neg (by simp [hstage, hcomputed, hgiven])

end

/-- Settles O42: each opcode's outcomes are those of its lemmas; an EdDSA checkpoint signs at once. -/
theorem ledgerOpcodes : Obligations.LedgerOpcodes := by
  unfold Obligations.LedgerOpcodes
  intro s q i j inp
  refine ⟨fun h => ?appends, fun h hplaced => ?certifies, execLedgerProveInclusion_outcomes, execLedgerProveConsistency_outcomes,
    fun kind nodes hs n d => State.prove_onChip, fun h => ⟨execLedgerRead_outside h, fun folio off len => execLedgerRead_record h⟩,
    fun h => ⟨execStreamOpen_noneFree h, fun n hfree => execStreamOpen_free h hfree, fun n t hfree => execStreamOpen_free h hfree⟩, execStreamClose_closes,
    fun n m hrun hj hstream hseq => execRecordPlace_gives hrun hj hstream hseq⟩
  case appends => exact show execLedgerAppend q i inp s = _ from h.leads rfl
  case certifies =>
    have hsigns := execLedgerCheckpoint_signs h hplaced
    exact ⟨hsigns, fun _ hset hmask => hsigns.trans (congrArg _ (State.sign_eddsa hset hmask))⟩

end Sys2Proof.Machine
end

section
/-! ## Time, administration and attestation (R195, R196, R198 to R200, R419) -/

namespace Sys2Proof.Machine
open Sys2Proof

/-! ### SELF_TEST (R199) -/

/-- The groups of a self-test that it runs and that fail. -/
def Job.failingGroups (j : Job) (fails : List (Nat × Nat)) : List Nat := (List.range 12).filter fun g => (failedGroups j fails).any fun f => f.1 == g

/-- The state in which a self-test ends its job: the causes of its failing groups are raised. -/
def State.selfTested (s : State) (j : Job) (fails : List (Nat × Nat)) : State :=
  let t := (j.failingGroups fails).foldl (fun (u : State) g =>
    u.raiseFault (groupUnit g) (((failedGroups j fails).find? fun f => f.1 == g).elim 0 fun f => f.2 % 4096) 0 0) s
  { t with free := t.free + 1 }

/-- The result words of a self-test. -/
def State.groupWords (s : State) (j : Job) (fails : List (Nat × Nat)) : List Byte := (List.range 12).flatMap fun g => leBytes 4 (s.groupWord j fails g)

theorem State.groupWords_length (s : State) (j : Job) (fails : List (Nat × Nat)) : (s.groupWords j fails).length = 48 := by
  simp [State.groupWords, List.length_flatMap, leBytes_length]

theorem Job.mem_testGroups {j : Job} {g : Nat} : g ∈ j.testGroups ↔ g < 12 ∧ (bits j.aux 11 0 == 0 || bit j.aux g) = true := by
  rw [Job.testGroups, List.mem_filter, List.mem_range]

theorem Job.failingGroups_eq (j : Job) (fails : List (Nat × Nat)) :
    j.failingGroups fails = (List.range 12).filter fun g => (bits j.aux 11 0 == 0 || bit j.aux g) && fails.any fun f => f.1 == g := by
  refine List.filter_congr fun g hg => Bool.eq_iff_iff.2 ?_
  have hg : g < 12 := List.mem_range.1 hg
  simp only [failedGroups, List.any_eq_true, List.mem_filter, List.contains_iff_mem, Job.mem_testGroups, Bool.and_eq_true, beq_iff_eq]
  constructor
  · rintro ⟨f, ⟨hf, -, hsel⟩, rfl⟩
    exact ⟨hsel, f, hf, rfl⟩
  · rintro ⟨hsel, f, hf, rfl⟩
    exact ⟨f, ⟨hf, hg, hsel⟩, rfl⟩

theorem Job.failingGroups_length_le (j : Job) (fails : List (Nat × Nat)) : (j.failingGroups fails).length ≤ 12 := List.length_filter_le ..

theorem State.foldl_raiseFault_jobs (s : State) (cause : Nat → Nat) (l : List Nat) :
    (l.foldl (fun (u : State) g => u.raiseFault (groupUnit g) (cause g) 0 0) s).jobs = s.jobs := by
  induction l generalizing s with
  | nil => rfl
  | cons g l ih => exact (ih _).trans (s.raiseErr_jobs ..)

theorem State.selfTested_job? (s : State) (j : Job) (fails : List (Nat × Nat)) (q i : Nat) : (s.selfTested j fails).job? q i = s.job? q i :=
  congrArg (List.find? _) (s.foldl_raiseFault_jobs _ _)

theorem State.selfTested_passed (s : State) (j : Job) : s.selfTested j [] = { s with free := s.free + 1 } := rfl

/-- Of a passed self-test of all groups every word is zero. -/
theorem State.groupWords_passed {s : State} {j : Job} (hall : bits j.aux 11 0 = 0) : s.groupWords j [] = zeros 48 := by
  have hword : ∀ g ∈ List.range 12, leBytes 4 (s.groupWord j [] g) = leBytes 4 0 := fun g hg => by
    have hrun : g ∈ j.testGroups := Job.mem_testGroups.2 ⟨List.mem_range.1 hg, by simp [hall]⟩
    simp [State.groupWord, failedGroups, hrun]
  rw [State.groupWords, List.flatMap_congr hword]
  decide

section
variable {s : State} {q i : Nat} {j : Job}

theorem execSelfTest_ends (h : s.AtEngine q i 0x0F01 j) (fails : List (Nat × Nat)) :
    execSelfTest q i fails s = .next ((s.selfTested j fails).endJob j [] { result := (j.failingGroups fails).length, output := s.groupWords j fails }) :=
  h.leads rfl

/-- The job after a self-test: it ends SUCCESS with twelve words and the count of the groups that failed. -/
theorem execSelfTest_counts (h : s.AtEngine q i 0x0F01 j) (fails : List (Nat × Nat)) :
    ∃ t x, execSelfTest q i fails s = .next t ∧ t.job? q i = some x ∧ x.status = 0 ∧ x.computed = true ∧ x.output.length = 48 ∧
      x.result = (j.failingGroups fails).length := by
  obtain ⟨rfl, rfl⟩ := h.entry
  have hplace : (s.selfTested j fails).job? j.q j.idx = some j := (s.selfTested_job? j fails _ _).trans h.1
  have hcount : (j.failingGroups fails).length ≤ 2 ^ 31 - 1 := (j.failingGroups_length_le fails).trans (by norm_num)
  exact ⟨_, _, execSelfTest_ends h fails, State.endJob_job?_place hplace .., rfl, rfl, s.groupWords_length j fails, Nat.min_eq_left hcount⟩

/-! ### ATTEST (R200) -/

theorem execAttest_signs (h : s.AtEngine q i 0x0F03 j) (hdraw : s.CanDraw j 32) (inp : List Byte) :
    let body := s.attestBody (j.full inp)
    let sk := bytesOf 4896 (Config.alg "device attestation key" [] [s.lco.frs])
    let o := body ++ bytesOf 4627 (Config.alg "signature" [3, 0, 0, 0] [sk, label "UMVOR.ATTEST", body, s.nextRandom 32])
    execAttest q i inp s = .next ((s.afterDraw j 32).endJob j inp { result := o.length, output := o }) := by
  refine h.leads ?_
  dsimp only
  rw [State.jobDraw_can hdraw]

/-! ### TIME_STAMP (R195, R419) -/

/-- The body of a token over an input: the input is the digest, or is hashed. -/
def State.tokenOver (s : State) (j : Job) (d : List Byte) : List Byte := s.tokenBody j (if bit j.aux 0 then d else sha3 d)

/-- What a time stamp signs. -/
def State.tokenInput (s : State) (j : Job) (d : List Byte) : SigIn :=
  { (j.sigIn []) with digest := false, ctx := if takesContext j.paramset then label "UMVOR.TIME.TOKEN" else [], msg := s.tokenOver j d }

/-- A token with its body and signature. -/
def State.endToken (j : Job) (inp body : List Byte) (u : State) (sg : List Byte) : State :=
  u.endJob j inp { result := (body ++ sg).length, output := body ++ sg, ext := some j.time.word }

theorem execTimeStamp_signs (h : s.AtEngine q i 0x0800 j) (inp : List Byte) :
    execTimeStamp q i inp s = .next (s.sign j inp (s.tokenInput j (j.full inp)) (State.endToken j inp (s.tokenOver j (j.full inp)))) :=
  h.leads rfl

end

/-- Settles O44: TIME_STAMP by its signature, SELF_TEST by the groups that fail, ATTEST by its draw, the readings by their bytes. -/
theorem timeAndAdminOpcodes : Obligations.TimeAndAdminOpcodes := by
  unfold Obligations.TimeAndAdminOpcodes
  intro s q i j inp
  refine ⟨fun h => ?stamps, fun h => ?time, fun h => ?patch, fun h hall => ?passes, fun fails h => ?tests, fun h => ?lifeCycle,
    fun h hdraw => execAttest_signs h hdraw inp⟩
  case stamps =>
    have hsigns := execTimeStamp_signs h inp
    exact ⟨hsigns, fun _ hset hmask => hsigns.trans (congrArg _ (State.sign_eddsa hset hmask))⟩
  case time => exact show execTimeRead q i s = _ from h.leads rfl
  case patch => exact show execPatchQuery q i s = _ from h.leads rfl
  case passes =>
    have hends := execSelfTest_ends h []
    rw [s.selfTested_passed, State.groupWords_passed hall] at hends
    exact hends
  case tests =>
    rw [← j.failingGroups_eq fails]
    exact execSelfTest_counts h fails
  case lifeCycle => exact show execLcInfo q i s = _ from h.leads rfl

end Sys2Proof.Machine
end

section
/-! ## Kernels (R197, R283 to R286) -/

namespace Sys2Proof.Machine
open Sys2Proof

section
variable {s : State} {q i : Nat} {j : Job} {inp : List Byte}

/-! ### KERNEL_LOAD (R284, R285) -/

theorem execKernelLoad_rejects (h : s.AtEngine q i 0x0900 j) (hset : j.paramset = 2) (hbundle : s.kernelFor (j.hostInput inp) = none) :
    execKernelLoad q i inp s = .next (s.endJob j inp (failed stInputRejected 0x11)) := by
  refine h.leads ((if_neg (not_not_intro hset)).trans ?_)
  rw [hbundle]

theorem execKernelLoad_loads (h : s.AtEngine q i 0x0900 j) (hset : j.paramset = 2) {k : KernelX} (hbundle : s.kernelFor (j.hostInput inp) = some k) :
    execKernelLoad q i inp s = .next ((s.putKernel j k).endJob j inp { result := k.slot }) := by
  refine h.leads ((if_neg (not_not_intro hset)).trans ?_)
  rw [hbundle]

/-- A bundle that passes its checks is a kernel that new runs find. -/
theorem State.kernelFor_live {d : List Byte} {k : KernelX} (hk : s.kernelFor d = some k) : k.live = true := by
  unfold State.kernelFor at hk
  dsimp only at hk
  split at hk
  case isTrue => exact absurd hk nofun
  case isFalse =>
    split at hk
    case h_1 => rw [← Option.some.inj hk]
    case h_2 => exact absurd hk nofun

/-- A live kernel that is loaded is the one that new runs of its ID find: every earlier version is put out of use (R285). -/
theorem State.putKernel_kernelOf {k : KernelX} (hlive : k.live = true) : (s.putKernel j k).kernelOf k.id = some k := by
  have hold : ∀ o ∈ s.heldKernels.map (fun o => if o.id = k.id then { o with live := false } else o), (o.live && o.id == k.id) = false := by
    intro o ho
    obtain ⟨x, -, rfl⟩ := List.mem_map.1 ho
    split
    case isTrue => rfl
    case isFalse hother => simp [hother]
  have hfind : ((s.heldKernels.map fun o => if o.id = k.id then { o with live := false } else o) ++ [k]).find? (fun o => o.live && o.id == k.id) =
      some k := by
    rw [List.find?_append, List.find?_eq_none.2 fun o ho => ne_true_of_eq_false (hold o ho)]
    simp [hlive]
  exact hfind

/-! ### KERNEL_INFO, KERNEL_UNLOAD (R197, R285) -/

/-- The records of KERNEL_INFO: up to 64 loaded kernels. -/
def State.kernelList (s : State) : List Byte := ((s.mar.kernels.filter fun k => k.live).take 64).flatMap KernelX.info

theorem KernelX.info_length (k : KernelX) : k.info.length = 48 := by
  simp [KernelX.info, sha3, leBytes_length, padTo_length, bytesOf_length]

theorem State.kernelList_length_le (s : State) : s.kernelList.length ≤ 48 * 64 := by
  have hlen : s.kernelList.length = ((s.mar.kernels.filter fun k => k.live).take 64).length * 48 := by
    simp [State.kernelList, List.length_flatMap, KernelX.info_length]
  have htake := List.length_take_le 64 (s.mar.kernels.filter fun k => k.live)
  omega

theorem execKernelInfo_lists (h : s.AtEngine q i 0x0900 j) (hset : j.paramset = 1) :
    execKernelInfo q i s = .next (s.endJob j [] { result := s.kernelList.length, output := s.kernelList }) :=
  h.leads (if_neg (not_not_intro hset))

/-- The state in which new runs no longer find a kernel ID. -/
def State.withoutKernel (s : State) (id : Nat) : State :=
  { s with mar := { s.mar with kernels := s.mar.kernels.map fun k => if k.id = id then { k with live := false } else k } }

/-- With no earlier run of the ID open, an unloading ends. -/
theorem execKernelUnload_ends (h : s.AtEngine q i 0x0900 j) (hset : j.paramset = 3)
    (hlast : ∀ x ∈ s.jobs, x.live = true → x.opcode = 0x0900 → x.paramset = 0 → bits x.arg0 15 0 = bits j.arg0 15 0 → j.stamp ≤ x.stamp) :
    execKernelUnload q i s = .next ((s.withoutKernel (bits j.arg0 15 0)).endJob j [] {}) := by
  have hnone : (s.jobs.any fun x => x.live && x.opcode == 0x0900 && x.paramset == 0 && bits x.arg0 15 0 == bits j.arg0 15 0 &&
      decide (x.stamp < j.stamp)) = false := by
    refine List.any_eq_false.2 fun x hx => ?_
    simp only [Bool.and_eq_true, decide_eq_true_eq, beq_iff_eq]
    exact fun ⟨⟨⟨⟨hlive, hop⟩, hrun⟩, hid⟩, hearlier⟩ => absurd (hlast x hx hlive hop hrun hid) (Nat.not_le.2 hearlier)
  exact h.leads ((if_neg (not_not_intro hset)).trans (if_neg (ne_true_of_eq_false hnone)))

/-! ### KERNEL_RUN (R249 to R256, R286) -/

/-- A run placed, its quarters loaded and started, its bundles executed in turn. -/
def State.ranTeam (s : State) (q i : Nat) (j : Job) (inp : List Byte) (k : KernelX) : State :=
  ((s.placeRun j).startQuarters q i inp k).runTeam q i k (2 * k.cycleLimit + 64)

/-- Where a run stands after its bundles: ended, once every member has drained. -/
def State.endTeam (t : State) (q i : Nat) (inp : List Byte) (k : KernelX) : State :=
  match t.job? q i, (t.quartersOf q i).find? fun e => (t.quarter e.1 e.2).member == 0 with
  | some j, some e =>
    if (t.quartersOf q i).all fun e => decide ((t.quarter e.1 e.2).st = .draining) then t.drained' j k (t.quarter e.1 e.2) inp else t
  | _, _ => t

theorem execKernelRun_runs (h : s.AtEngine q i 0x0900 j) {k : KernelX} (hkernel : s.runKernel j = some k) :
    execKernelRun q i inp s = .next ((s.ranTeam q i j inp k).endTeam q i inp k) := by
  refine h.leads ?_
  rw [hkernel]
  exact (State.endTeam.eq_def ..).symm

/-- With every member drained, the output of member 0 ends the run. -/
theorem State.endTeam_drained {k : KernelX} {n m : Nat} (hj : s.job? q i = some j)
    (hdrained : ∀ e ∈ s.quartersOf q i, (s.quarter e.1 e.2).st = .draining)
    (hfirst : (s.quartersOf q i).find? (fun e => (s.quarter e.1 e.2).member == 0) = some (n, m)) :
    s.endTeam q i inp k = s.drained' j k (s.quarter n m) inp := by
  rw [State.endTeam, hj, hfirst]
  exact if_pos (List.all_eq_true.2 fun e he => decide_eq_true (hdrained e he))

/-- With a member that has not drained, the run goes on. -/
theorem State.endTeam_goesOn (k : KernelX) (hruns : ∃ e ∈ s.quartersOf q i, (s.quarter e.1 e.2).st ≠ .draining) : s.endTeam q i inp k = s := by
  obtain ⟨e, he, hst⟩ := hruns
  rw [State.endTeam]
  split
  case h_1 => exact if_neg fun hall => hst (of_decide_eq_true (List.all_eq_true.1 hall e he))
  case h_2 => rfl

end

/-- Settles O45: a load by the bundle's checks, an unload once no earlier run is open, a run by whether its team has drained. -/
theorem kernelOpcodes : Obligations.KernelOpcodes := by
  unfold Obligations.KernelOpcodes
  intro s q i j inp h
  refine ⟨execKernelLoad_rejects h, fun k hset hbundle => ⟨execKernelLoad_loads h hset hbundle, State.putKernel_kernelOf (State.kernelFor_live hbundle)⟩,
    fun hset => ⟨execKernelInfo_lists h hset, s.kernelList_length_le⟩, execKernelUnload_ends h,
    fun k hkernel => ?runs⟩
  case runs =>
    have hruns := execKernelRun_runs (inp := inp) h hkernel
    exact ⟨fun x n m hx hdrained hfirst => hruns.trans (congrArg _ (State.endTeam_drained hx hdrained hfirst)),
      fun hmember => hruns.trans (congrArg _ (State.endTeam_goesOn k hmember))⟩

end Sys2Proof.Machine
end

section
/-! ## Parking, resuming and the end of an execution (R205, R209, R218, R219) -/

namespace Sys2Proof.Machine
open Sys2Proof

/-! ### What leaving an engine reaches -/

section
variable (s : State)

theorem State.scrubQuarter_frame (c n : Nat) : s.scrubQuarter c n = { s with mar := (s.scrubQuarter c n).mar } := by
  unfold State.scrubQuarter
  dsimp only
  split <;> rfl

/-- The queues' jobs do not change as one of them leaves its engine. -/
theorem State.leaveEngine_jobs (j : Job) : (s.leaveEngine j).jobs = s.jobs := by
  have hscrub : (s.scrubJob j.q j.idx).jobs = s.jobs :=
    List.foldlRecOn (motive := fun t : State => t.jobs = s.jobs) _ _ rfl fun t ht e _ => by rwa [t.scrubQuarter_frame]
  exact List.foldlRecOn (motive := fun t : State => t.jobs = s.jobs) _ _ hscrub fun _ ht _ _ => ht

theorem State.letGo_jobs (j : Job) : (s.letGo j).jobs = s.jobs := by
  unfold State.letGo
  dsimp only
  split <;> exact s.leaveEngine_jobs j

/-- A job is found by the list of jobs alone. -/
theorem State.job?_of_jobs {t : State} (h : t.jobs = s.jobs) (q i : Nat) : t.job? q i = s.job? q i := congrArg (List.find? _) h

end

/-! ### The commands on a job of its place -/

/-- A job that has its IN credits takes none. -/
theorem State.takeIn_held {s : State} {j : Job} (hin : j.inCred ≠ 0) : s.takeIn j = some (j, s) := if_pos (.inr hin)

/-- The job as a parking leaves it: its holdings given back, its input kept where it need not be read again (R207, R219). -/
def Job.parked (j : Job) : Job :=
  { j with stage := .parked, inCred := 0, outCred := 0, pools := [], core := none, resIn := false, resOut := false, resPools := [],
           slot := none, slots := [], staged := j.staged && (j.computed || decide (j.inLen ≤ 16384)) }

section
variable {s : State} {q i : Nat} {j : Job} (hj : s.job? q i = some j)
include hj

theorem jobPark_parks (hrun : s.stopped = false) (hstage : j.stage = .dispatched ∨ j.stage = .ended) (hwait : j.waitSince ≠ none) (hslots : 0 < j.parkSlots) :
    exec (.jobPark q i) s = .next ((s.leaveEngine j).updJob q i Job.parked) := by
  have hrow : execJobPark q i s = _ := State.clocked_run hrun _
  rw [hj] at hrow
  exact hrow.trans (if_pos ⟨hstage, Option.isSome_iff_ne_none.2 hwait, hslots⟩)

theorem jobResume_waits (hrun : s.stopped = false) (hwait : s.waitOver j = false) : exec (.jobResume q i) s = .next s := by
  have hrow : execJobResume q i s = _ := State.clocked_run hrun _
  rw [hj] at hrow
  exact hrow.trans (if_pos (.inr (.inl (by rw [hwait]; rfl))))

theorem jobResume_ends (hrun : s.stopped = false) (hstage : j.stage = .parked) (hwait : s.waitOver j = true) (hgo : s.dispatchStopped = false)
    (hin : j.inCred ≠ 0) (hcomputed : j.computed = true) {n : Nat} (hout : s.outGrant j = some (n, false)) :
    exec (.jobResume q i) s = .next (s.updJob q i fun _ => { j with stage := .ended, outCred := n, resOut := false, waitSince := none, waitBlocks := [] }) := by
  have hrow : execJobResume q i s = _ := State.clocked_run hrun _
  rw [hj] at hrow
  dsimp only at hrow
  rw [if_neg (by simp [hstage, hwait, hgo]), State.takeIn_held hin] at hrow
  dsimp only at hrow
  rw [if_pos hcomputed, hout] at hrow
  exact hrow

/-- EXECUTION_END leaves a job as it is whose end of execution is not its own (R254), or cannot have its OUT credits. -/
theorem executionEnd_waits (hno : s.outGrant j = none ∨ j.core ≠ none) : exec (.executionEnd q i) s = .next s := by
  cases hstop : s.stopped with
  | true => exact show execExecutionEnd q i s = _ from State.clocked_stopped hstop _
  | false =>
    have hrow : execExecutionEnd q i s = _ := State.clocked_run hstop _
    rw [hj] at hrow
    refine hrow.trans ?_
    dsimp only
    split
    case isTrue h =>
      obtain ⟨-, -, hcore⟩ := h
      have hnone : s.outGrant j = none := hno.resolve_right (not_not_intro (Option.isNone_iff_eq_none.1 hcore))
      unfold State.endExecution
      rw [hnone]
      rfl
    case isFalse => rfl

theorem executionEnd_ends (hrun : s.stopped = false) (hstage : j.stage = .dispatched) (hcomputed : j.computed = true) (hcore : j.core = none) :
    exec (.executionEnd q i) s = .next ((s.endExecution j).getD s) := by
  have hrow : execExecutionEnd q i s = _ := State.clocked_run hrun _
  rw [hj] at hrow
  exact hrow.trans (if_pos ⟨hstage, hcomputed, Option.isNone_iff_eq_none.2 hcore⟩)

end

/-- The end of an execution that takes unreserved OUT credits. -/
theorem State.endExecution_unreserved {s : State} {j : Job} {n : Nat} (hout : s.outGrant j = some (n, false)) :
    s.endExecution j = some ((s.leaveEngine j).updJob j.q j.idx fun k =>
      { k with stage := .ended, outCred := n, resOut := false, pools := [], resPools := [], core := none, slot := none, slots := [], phase := 0,
               waitSince := if s.waitOver j then none else some (k.waitSince.getD s.now) }) := by
  unfold State.endExecution
  rw [hout]
  rfl

/-- Settles O33: a parking is one change of its job behind what its engine gives up, a resuming waits for the storage and then ends what was computed. -/
theorem parkingReleasesCredits : Obligations.ParkingReleasesCredits := by
  unfold Obligations.ParkingReleasesCredits
  intro s q i j hrun hj
  have hplace : KeepsPlace q i Job.parked := fun _ hq hi => ⟨hq, hi⟩
  have hleft : ∀ a b, (s.leaveEngine j).job? a b = s.job? a b := s.job?_of_jobs (s.leaveEngine_jobs j)
  refine ⟨fun hstage hwait hslots => ?_, fun _ => jobResume_waits hj hrun, fun hstage hwait hgo hin hcomputed n => jobResume_ends hj hrun hstage hwait hgo hin hcomputed⟩
  exact ⟨_, jobPark_parks hj hrun hstage hwait hslots, State.job?_updJob_place ((hleft q i).trans hj) hplace,
    fun a b hne => (State.job?_updJob_ne _ hplace hne).trans (hleft a b)⟩

/-- Settles O34: the end of an execution wants OUT credits, and a job of the array leaves it by its drain. -/
theorem executionEndReleasesSlots : Obligations.ExecutionEndReleasesSlots := by
  unfold Obligations.ExecutionEndReleasesSlots
  intro s q i j hj hstage hcomputed
  refine ⟨executionEnd_waits hj, fun n hrun hcore hout hq hi => ?_⟩
  subst hq hi
  rw [executionEnd_ends hj hrun hstage hcomputed hcore, State.endExecution_unreserved hout]
  rfl

end Sys2Proof.Machine
end

section
/-! ## Dispatch of the one job that waits for a pool (R209, R210, R215, R469, R503) -/

namespace Sys2Proof.Machine
open Sys2Proof

/-! ### Slots given to one job (R210) -/

/-- t is s but for the job of a place, which is x. -/
structure OnlyJob (s t : State) (q i : Nat) (x : Job) : Prop where
  at_place : t.job? q i = some x
  others : ∀ a b, (a, b) ≠ (q, i) → t.job? a b = s.job? a b
  frame : t = { s with jobs := t.jobs }

theorem OnlyJob.refl {s : State} {q i : Nat} {j : Job} (hj : s.job? q i = some j) : OnlyJob s s q i j := ⟨hj, fun _ _ _ => rfl, rfl⟩

theorem OnlyJob.trans {s t u : State} {q i : Nat} {x y : Job} (h : OnlyJob s t q i x) (k : OnlyJob t u q i y) : OnlyJob s u q i y :=
  ⟨k.at_place, fun a b hne => (k.others a b hne).trans (h.others a b hne), k.frame.trans (by rw [h.frame])⟩

theorem OnlyJob.updJob {s : State} {q i : Nat} {j : Job} (hj : s.job? q i = some j) {f : Job → Job} (hf : KeepsPlace q i f) :
    OnlyJob s (s.updJob q i f) q i (f j) :=
  ⟨State.job?_updJob_place hj hf, fun _ _ hne => s.job?_updJob_ne hf hne, rfl⟩

/-- The further slots of a batch are slots of the same pool, held by the batch alone. -/
theorem State.moreSlots_only (p : Pool) (j : Job) (m : Nat) {s : State} {k : Job} (hk : s.job? j.q j.idx = some k) :
    ∃ n l, OnlyJob s (s.moreSlots p j m) j.q j.idx { k with pools := k.pools ++ List.replicate n p, slots := l } := by
  induction m generalizing s k with
  | zero => exact ⟨0, k.slots, by simpa [State.moreSlots] using OnlyJob.refl hk⟩
  | succ m ih =>
    unfold State.moreSlots
    dsimp only
    split
    case isTrue => exact ⟨0, k.slots, by simpa using OnlyJob.refl hk⟩
    case isFalse =>
      have hslot := OnlyJob.updJob hk (f := fun k => { k with pools := k.pools ++ [p], slots := k.slots ++ (s.pickSlot p j).toList }) fun _ hq hi => ⟨hq, hi⟩
      obtain ⟨n, l, hmore⟩ := ih hslot.at_place
      refine ⟨n + 1, l, hslot.trans ?_⟩
      simpa [List.replicate_succ] using hmore

/-- The job with one more slot, at its engine when that was the last it waited for. -/
def State.slotted (s : State) (p : Pool) (j : Job) : Job :=
  let j1 := s.withSlot p j false
  if j1.nextPool.isNone then { j1 with stage := .dispatched } else j1

theorem State.slotted_place (s : State) (p : Pool) (j : Job) : (s.slotted p j).q = j.q ∧ (s.slotted p j).idx = j.idx := by
  unfold State.slotted
  dsimp only
  split <;> exact ⟨rfl, rfl⟩

theorem State.slotted_holdings (s : State) (p : Pool) (j : Job) :
    (s.slotted p j).pools = j.pools ++ [p] ∧ (s.slotted p j).resPools = j.resPools ∧ (s.slotted p j).inCred = j.inCred := by
  unfold State.slotted
  dsimp only
  split <;> exact ⟨rfl, rfl, rfl⟩

theorem State.slotted_stage (s : State) (p : Pool) {j : Job} (hstage : j.stage = .accepted) :
    (s.slotted p j).stage = if ({ j with pools := j.pools ++ [p] } : Job).nextPool = none then .dispatched else .accepted := by
  have hpool : (s.withSlot p j false).nextPool = ({ j with pools := j.pools ++ [p] } : Job).nextPool := rfl
  unfold State.slotted
  dsimp only
  rw [hpool]
  by_cases hlast : ({ j with pools := j.pools ++ [p] } : Job).nextPool = none
  · rw [if_pos (Option.isNone_iff_eq_none.2 hlast), if_pos hlast]
  · rw [if_neg (mt Option.isNone_iff_eq_none.1 hlast), if_neg hlast]
    exact hstage

/-- An unreserved slot given to a job: one slot, and to a batch further ones. -/
theorem State.giveSlot_only {s : State} {j : Job} (hj : s.job? j.q j.idx = some j) (p : Pool) :
    ∃ n l, OnlyJob s (s.giveSlot p j false) j.q j.idx
      { s.slotted p j with pools := (s.slotted p j).pools ++ List.replicate n p, slots := l } ∧ (j.opcode ≠ 0x0123 → n = 0) := by
  have hslot := OnlyJob.updJob hj (f := fun _ => s.slotted p j) fun _ _ _ => s.slotted_place p j
  have hgive : s.giveSlot p j false = if j.opcode = 0x0123 then (s.updJob j.q j.idx fun _ => s.slotted p j).moreSlots p (s.withSlot p j false) (bits j.arg0 15 0 - 1)
      else s.updJob j.q j.idx fun _ => s.slotted p j := rfl
  rw [hgive]
  split
  case isTrue hbatch =>
    obtain ⟨n, l, hmore⟩ := State.moreSlots_only p (s.withSlot p j false) (bits j.arg0 15 0 - 1) hslot.at_place
    exact ⟨n, l, hslot.trans hmore, fun hne => absurd hbatch hne⟩
  case isFalse => exact ⟨0, (s.slotted p j).slots, by simpa using hslot, fun _ => rfl⟩

/-! ### The round with one job waiting (R215) -/

/-- The round reaches a slice that waits alone, wherever it stands. -/
theorem roundOrder_singleton (after : Option Nat) (x : Nat) : roundOrder after [x] = [x] := by
  cases after with
  | none => rfl
  | some c =>
    by_cases hc : c < x
    · simp [roundOrder, hc, Nat.not_le.2 hc]
    · simp [roundOrder, hc, Nat.not_lt.1 hc]

section
variable {s : State} {p : Pool}

theorem State.turn_alone {sl : Nat} (hwaiting : s.waitingSlices p = [sl]) (hnext : (s.nextOf p sl).isSome = true) : ∃ x, s.turn p = some (sl, x) := by
  have hready : [sl].filter (fun c => (s.nextOf p c).isSome) = [sl] := List.filter_eq_self.2 (by simpa using hnext)
  unfold State.turn
  dsimp only
  rw [hwaiting, hready]
  split
  case h_1 c hcursor =>
    obtain ⟨-, hc⟩ := Option.filter_eq_some_iff.1 hcursor
    simp only [List.contains_eq_mem, List.mem_singleton, Bool.and_eq_true, decide_eq_true_eq] at hc
    exact ⟨_, by rw [hc.1]⟩
  case h_2 =>
    rw [roundOrder_singleton]
    exact ⟨_, rfl⟩

variable {j : Job} (hwaits : s.jobs.filter (fun k => s.waitsFor p k) = [j])
include hwaits

theorem State.waitsFor_of_alone : s.waitsFor p j = true := by
  have hmem : j ∈ s.jobs.filter (fun k => s.waitsFor p k) := hwaits ▸ List.mem_singleton_self j
  exact (List.mem_filter.1 hmem).2

theorem State.waitingSlices_alone : s.waitingSlices p = [j.slice] := by
  unfold State.waitingSlices
  rw [hwaits]
  rfl

section
variable (hgo : s.canGo p j = true)
include hgo

/-- What can go is among what waits. -/
theorem State.canGo_alone : s.jobs.filter (fun k => s.canGo p k) = [j] := by
  have hfilter : s.jobs.filter (fun k => s.canGo p k) = (s.jobs.filter fun k => s.waitsFor p k).filter fun k => (s.dispatchTo p k).isSome := by
    rw [List.filter_filter]
    exact List.filter_congr fun k _ => Bool.and_comm _ _
  rw [hfilter, hwaits]
  exact List.filter_eq_self.2 (by simpa using (Bool.and_eq_true_iff.1 hgo).2)

theorem State.nextOf_alone : s.nextOf p j.slice = some j := by
  have hfilter : (s.jobs.filter fun k => k.slice == j.slice && s.canGo p k) = [j] := by
    rw [← List.filter_filter, State.canGo_alone hwaits hgo, List.filter_cons_of_pos (by simp), List.filter_nil]
  unfold State.nextOf
  rw [hfilter]
  rfl

/-- With unreserved slots free, the job that waits alone is dispatched; beside it only the pool's round changes. -/
theorem jobDispatch_alone (hrun : s.stopped = false) (hheld : s.dispatchStopped = false) (hfree : 0 < s.poolFree p) {t : State} (hto : s.dispatchTo p j = some t) :
    ∃ x, exec (.jobDispatch p) s = .next { t with sch := x } := by
  have hbypass : s.bypass p = none := if_neg hfree.ne'
  have hrow : execJobDispatch p s = _ := State.clocked_run hrun _
  rw [if_neg (by simp [hheld]), hbypass] at hrow
  dsimp only at hrow
  by_cases hsvc : p = .SVC
  · rw [if_pos hsvc, State.canGo_alone hwaits hgo] at hrow
    refine ⟨t.sch, hrow.trans ?_⟩
    show Host.Outcome.next ((s.dispatchTo p j).getD s) = _
    rw [hto]
    rfl
  · obtain ⟨x, hturn⟩ := State.turn_alone (State.waitingSlices_alone hwaits) (Option.isSome_of_eq_some (State.nextOf_alone hwaits hgo))
    rw [if_neg hsvc, hturn] at hrow
    dsimp only at hrow
    rw [State.nextOf_alone hwaits hgo] at hrow
    dsimp only at hrow
    rw [hto] at hrow
    exact ⟨_, hrow⟩

end

end

/-- With an unreserved slot of its kind free and IN credits held, a job is dispatched as it stands. -/
theorem State.dispatchTo_held {s : State} {p : Pool} {j : Job} (hfree : 0 < s.poolFree p) (hslot : p = .CDE ∨ p = .BGN → (s.pickSlot p j).isSome = true)
    (hin : j.inCred ≠ 0) : s.dispatchTo p j = some (s.giveSlot p j false) := by
  have hkind : ¬((decide (p = .CDE) || decide (p = .BGN)) && (s.pickSlot p j).isNone) = true := by
    simp only [Bool.and_eq_true, Bool.or_eq_true, decide_eq_true_eq, not_and]
    exact fun hp => by simpa [Option.isSome_iff_ne_none] using hslot hp
  have hfor : s.slotFor p j = some false := (if_neg hkind).trans (if_pos hfree)
  unfold State.dispatchTo
  rw [hfor, State.takeIn_held hin]
  rfl

theorem jobDispatch_held {s : State} (p : Pool) (hheld : s.getF .TMP_STATUS_HALTED 0 ≠ 0 ∨ s.getF .PWR_STATUS_DISPATCH_HELD 0 ≠ 0) :
    exec (.jobDispatch p) s = .next s := by
  cases hstop : s.stopped with
  | true => exact show execJobDispatch p s = _ from State.clocked_stopped hstop _
  | false =>
    have hrow : execJobDispatch p s = _ := State.clocked_run hstop _
    exact hrow.trans (if_pos (by simpa [State.dispatchStopped, State.flag] using hheld))

/-- Settles O32: the round reaches the one slice that waits, and the slots given are one change of its job. -/
theorem dispatchGivesASlot : Obligations.DispatchGivesASlot := by
  unfold Obligations.DispatchGivesASlot
  intro s p
  refine ⟨jobDispatch_held p, fun j hrun hheld hwaits hj hfree hslot hin => ?_⟩
  have hto := State.dispatchTo_held hfree hslot hin
  have hwait := State.waitsFor_of_alone hwaits
  have hgo : s.canGo p j = true := Bool.and_eq_true_iff.2 ⟨hwait, by rw [hto]; rfl⟩
  have hstage : j.stage = .accepted := by
    simp only [State.waitsFor, Bool.and_eq_true, beq_iff_eq] at hwait
    exact hwait.1.1.1
  obtain ⟨x, hrow⟩ := jobDispatch_alone hwaits hgo hrun hheld hfree hto
  obtain ⟨n, l, honly, hbatch⟩ := State.giveSlot_only hj p
  obtain ⟨hpools, hres, hcred⟩ := s.slotted_holdings p j
  refine ⟨_, _, hrow, honly.at_place, ⟨n, ?_, hbatch⟩, hres, s.slotted_stage p hstage, hcred, honly.others, ?_⟩
  · show (s.slotted p j).pools ++ List.replicate n p = _
    rw [hpools, List.replicate_succ, List.append_assoc, List.singleton_append]
  · rw [honly.frame]

end Sys2Proof.Machine
end

section
/-! ## Engine faults (R222, R258, R309, R319, R328) -/

namespace Sys2Proof.Machine
open Sys2Proof

/-! ### A fault counted and noted -/

/-- What the notes of a fault leave to its job's recovery: the jobs and the count of re-executions. -/
def State.recovery (s : State) : List Job × Nat := (s.jobs, s.getF .SCH_REEXEC_COUNT_COUNT 0)

section
variable (s : State)

theorem State.setF_recovery {f : Fld} (hf : f ≠ .SCH_REEXEC_COUNT_COUNT) (i v : Nat) : (s.setF f i v).recovery = s.recovery :=
  Prod.ext rfl (State.getF_setF_ne s v fun h => hf (Prod.mk.inj h).1.symm)

theorem State.raiseErr_recovery (b c u y : Nat) : (s.raiseErr b c u y).recovery = s.recovery :=
  Prod.ext (s.raiseErr_jobs b c u y) (s.raiseErr_getF b c u y _ _ (by decide))

theorem State.recovery_ite {s t u : State} {c : Prop} [Decidable c] (ht : t.recovery = s.recovery) (hu : u.recovery = s.recovery) :
    (if c then t else u).recovery = s.recovery := by
  split
  · exact ht
  · exact hu

/-- A fault has at most one counter of its own, never that of the re-executions. -/
theorem State.countFault_recovery (unit cause : Nat) : (s.countFault unit cause).recovery = s.recovery := by
  have hcount : ∀ {f : Fld}, f ≠ .SCH_REEXEC_COUNT_COUNT → (s.count f 0 1).recovery = s.recovery := fun hf => s.setF_recovery hf 0 _
  unfold State.countFault
  split
  case h_1 => exact State.recovery_ite (hcount (by decide)) rfl
  case h_2 => exact State.recovery_ite (hcount (by decide)) rfl
  case h_3 => exact State.recovery_ite (hcount (by decide)) (State.recovery_ite (hcount (by decide)) (State.recovery_ite (hcount (by decide)) rfl))
  case h_4 => exact State.recovery_ite (hcount (by decide)) (State.recovery_ite (hcount (by decide)) (State.recovery_ite (hcount (by decide)) rfl))
  case h_5 => exact State.recovery_ite (hcount (by decide)) rfl
  case h_6 => rfl

/-- A unit taken offline: its bit of a register goes and its block raises an error. -/
theorem State.offline_recovery {f : Fld} (hf : f ≠ .SCH_REEXEC_COUNT_COUNT) (v b c u y : Nat) :
    ((s.setF f 0 v).raiseErr b c u y).recovery = s.recovery :=
  (State.raiseErr_recovery _ b c u y).trans (s.setF_recovery hf 0 v)

/-- What a unit remembers of its faults may take it offline, and reaches no job. -/
theorem State.noteUnit_recovery (unit part : Nat) : (s.noteUnit unit part).recovery = s.recovery := by
  unfold State.noteUnit
  split
  case h_1 => rfl
  case h_2 => exact State.recovery_ite rfl (State.offline_recovery _ (by decide) ..)
  case h_3 => exact State.recovery_ite rfl (State.offline_recovery _ (by decide) ..)
  case h_4 => rfl

/-- A fault counted, recorded in its block and noted by its unit: all of it but what the job takes. -/
def State.faultNoted (unit cause part place : Nat) : State := ((s.countFault unit cause).raiseFault unit cause part place).noteUnit unit part

theorem State.faultNoted_recovery (unit cause part place : Nat) : (s.faultNoted unit cause part place).recovery = s.recovery :=
  (State.noteUnit_recovery ..).trans ((State.raiseErr_recovery ..).trans (s.countFault_recovery unit cause))

end

/-! ### The job's share of a fault (R222) -/

/-- A batch with a fault as the result of one of its records (R165). -/
def Job.recordFaulted (n code : Nat) (k : Job) : Job := { k with faulted := k.faulted ++ [(n, code)] }

/-- A job ended by a fault: its status and DETAIL stand, it holds nothing and gives nothing out. -/
def Job.endedBy (status detail : Nat) (k : Job) : Job :=
  { k with status := status, detail := detail, result := 0, output := [], pass := [], created := none, computed := true, stage := .ended,
           pools := [], resPools := [], core := none, slot := none, slots := [], phase := 0, waitSince := none, waitBlocks := [], entSince := none }

section
variable {q i : Nat}

theorem Job.again_place (avoid : Option Nat) : KeepsPlace q i fun k => k.again avoid := fun _ hq hi => ⟨hq, hi⟩

theorem Job.recordFaulted_place (n code : Nat) : KeepsPlace q i (Job.recordFaulted n code) := fun _ hq hi => ⟨hq, hi⟩

theorem Job.endedBy_place (status detail : Nat) : KeepsPlace q i (Job.endedBy status detail) := fun _ hq hi => ⟨hq, hi⟩

end

section
variable {s : State} {j : Job} (unit cause : Nat) (avoid : Option Nat)

theorem State.engineFault_again (hbudget : 0 < j.budget) : s.engineFault j unit cause avoid = s.reexec j avoid := if_pos hbudget

theorem State.engineFault_record (hbudget : j.budget = 0) (hbatch : j.opcode = 0x0123) (hcomputed : j.computed = false) :
    s.engineFault j unit cause avoid = { s with free := s.free + 1 }.updJob j.q j.idx
      (Job.recordFaulted (Config.freeNat s.free 0 % max 1 (bits j.arg0 15 0)) (unit * 4096 + cause)) :=
  (if_neg (Nat.not_lt.2 hbudget.le)).trans (if_pos ⟨hbatch, by simp [hcomputed]⟩)

theorem State.engineFault_ends (hbudget : j.budget = 0) (hother : j.opcode ≠ 0x0123 ∨ j.computed = true) :
    s.engineFault j unit cause avoid = (s.letGo j).updJob j.q j.idx (Job.endedBy 0x0501 (unit * 4096 + cause)) :=
  (if_neg (Nat.not_lt.2 hbudget.le)).trans (if_neg (by simpa [imp_iff_not_or] using hother))

theorem State.letGo_regs (s : State) (j : Job) : (s.letGo j).regs = s.regs := by
  unfold State.letGo
  dsimp only
  split <;> exact s.leaveEngine_regs j

theorem State.reexec_counts (s : State) (j : Job) : (s.reexec j avoid).getF .SCH_REEXEC_COUNT_COUNT 0 = s.plus .SCH_REEXEC_COUNT_COUNT 0 1 := by
  unfold State.reexec State.plus
  rw [State.updJob_getF, State.count_getF, if_pos ⟨rfl, rfl⟩, State.plus, State.getF_regs (s.letGo_regs j)]

/-- A fault changes no job but the one it hits. -/
theorem State.engineFault_job?_ne {a b : Nat} (hne : (a, b) ≠ (j.q, j.idx)) : (s.engineFault j unit cause avoid).job? a b = s.job? a b := by
  have hleft : (s.letGo j).job? a b = s.job? a b := s.job?_of_jobs (s.letGo_jobs j) a b
  rcases Nat.eq_zero_or_pos j.budget with hbudget | hbudget
  · by_cases hother : j.opcode ≠ 0x0123 ∨ j.computed = true
    · rw [State.engineFault_ends unit cause avoid hbudget hother, State.job?_updJob_ne _ (Job.endedBy_place _ _) hne, hleft]
    · rw [not_or, not_not, Bool.not_eq_true] at hother
      rw [State.engineFault_record unit cause avoid hbudget hother.1 hother.2, State.job?_updJob_ne _ (Job.recordFaulted_place _ _) hne]
      rfl
  · rw [State.engineFault_again unit cause avoid hbudget]
    exact (State.job?_updJob_ne _ (Job.again_place _) hne).trans hleft

variable (hj : s.job? j.q j.idx = some j)
include hj

theorem State.reexec_job? : (s.reexec j avoid).job? j.q j.idx = some (j.again avoid) :=
  State.job?_updJob_place ((s.job?_of_jobs (s.letGo_jobs j) _ _).trans hj) (Job.again_place _)

theorem State.endedBy_job? (status detail : Nat) :
    ((s.letGo j).updJob j.q j.idx (Job.endedBy status detail)).job? j.q j.idx = some (j.endedBy status detail) :=
  State.job?_updJob_place ((s.job?_of_jobs (s.letGo_jobs j) _ _).trans hj) (Job.endedBy_place _ _)

end

theorem execEngineFault_takes {s : State} {q i : Nat} {j : Job} (hj : s.job? q i = some j) (hrun : s.stopped = false) {unit part : Nat}
    (hat : j.faultable unit = true) (hhalt : s.haltsCore j unit part = false) (cause place : Nat) :
    exec (.engineFault q i unit cause part place) s =
      .next ((s.faultNoted unit cause part place).engineFault j unit cause (faultAvoid unit part)) := by
  have hrow : execEngineFault q i unit cause part place s = _ := State.clocked_run hrun _
  rw [hj] at hrow
  exact hrow.trans ((if_neg (by simp [hat])).trans (if_neg (by simp [hhalt])))

end Sys2Proof.Machine
end

section
/-! ## Core resets, enables and resumption (R250, R257, R278, R282) -/

namespace Sys2Proof.Machine
open Sys2Proof

/-! ### Raised causes, listed effects, steps that change nothing -/

/-- A raised cause joins those that stand. -/
theorem State.raiseErr_cause_bit (s : State) (b u y : Nat) {k n : Nat} (hn : n < 32) :
    bit ((s.raiseErr b k u y).getF .BLK_ERR_STATUS_CAUSE b) n = (decide (n = k) || bit (s.getF .BLK_ERR_STATUS_CAUSE b) n) := by
  rw [State.raiseErr_cause, ← bit_setBits_one]
  unfold bit
  rw [Nat.testBit_mod_two_pow, decide_eq_true hn, Bool.true_and]

/-- Register effects listed in another order. -/
theorem Sets.perm {s t : State} {l l' : List ((Fld × Nat) × Nat)} (h : Sets s t l) (hl : l.Perm l') : Sets s t l' := by
  obtain ⟨hframe, hset, hrest⟩ := h
  exact ⟨hframe, fun e he => hset e (hl.mem_iff.2 he), fun f i hf => hrest f i fun e he => hf e (hl.mem_iff.1 he)⟩

/-- A state that no step of a list changes is left by all of them together. -/
theorem foldl_fixed_of_mem {α : Type} {f : State → α → State} {s : State} {l : List α} (h : ∀ x ∈ l, f s x = s) : l.foldl f s = s :=
  List.foldlRecOn (motive := fun t => t = s) _ _ rfl fun _ ht x hx => ht ▸ h x hx

theorem bits_low8 (v : Nat) : bits v 7 0 = v % 256 := by simp [bits]

/-! ### Cores and quarters after a write of one -/

theorem State.core_setCore_same (s : State) (c : Nat) (x : CoreX) : (s.setCore c x).core c = x := nget_nset_same ({} : CoreX) s.mar.cores c x

theorem State.quarter_setQuarter_same (s : State) (c n : Nat) (x : Quarter) : (s.setQuarter c n x).quarter c n = x := by
  unfold State.setQuarter State.quarter
  rw [State.core_setCore_same, nget_nset_same]

/-- A core with other contents than its quarters shows the same quarters. -/
theorem State.quarter_setCore (s : State) (c n : Nat) {x : CoreX} (hx : x.quarters = (s.core c).quarters) : (s.setCore c x).quarter c n = s.quarter c n := by
  unfold State.quarter
  rw [State.core_setCore_same, hx]

theorem State.scrubQuarter_scrubs (s : State) (c n : Nat) : ((s.scrubQuarter c n).quarter c n).st = .scrubbing := by
  unfold State.scrubQuarter
  dsimp only
  rw [State.quarter_setQuarter_same]

theorem State.quarter_scrubQuarter_ne (s : State) (c : Nat) {m n : Nat} (hne : n ≠ m) : (s.scrubQuarter c m).quarter c n = s.quarter c n := by
  unfold State.scrubQuarter
  dsimp only
  rw [State.quarter_setQuarter_ne _ _ (by simpa using hne)]
  split
  · exact s.quarter_setCore c n rfl
  · rfl

/-! ### Core resets (R250) -/

/-- Every quarter of a core passed to its scrubber. -/
def State.coreScrubbed (s : State) (c : Nat) : State := (List.range 4).foldl (fun t n => t.scrubQuarter c n) s

theorem State.coreScrubbed_frame (s : State) (c : Nat) : s.coreScrubbed c = { s with mar := (s.coreScrubbed c).mar } :=
  List.foldlRecOn (motive := fun t : State => t = { s with mar := t.mar }) _ _ rfl fun t ht n _ => by rw [t.scrubQuarter_frame, ht]

/-- A quarter that has been scrubbed stays so as others are. -/
theorem State.scrubQuarters_scrubbing (s : State) (c : Nat) {l : List Nat} {n : Nat} (hn : n ∈ l ∨ (s.quarter c n).st = .scrubbing) :
    ((l.foldl (fun t m => t.scrubQuarter c m) s).quarter c n).st = .scrubbing := by
  induction l generalizing s with
  | nil => exact hn.resolve_left List.not_mem_nil
  | cons m l ih =>
    refine ih (s.scrubQuarter c m) ?_
    by_cases hm : n = m
    · exact .inr (hm ▸ s.scrubQuarter_scrubs c n)
    · rw [s.quarter_scrubQuarter_ne c hm]
      exact hn.imp_left fun h => (List.mem_cons.1 h).resolve_left hm

/-- The times of a core's resets within a second, this one included. -/
def State.resetTimes (s : State) (c : Nat) : List Nat := recent s.now 1000000000 (s.core c).resets ++ [s.now]

/-- A core with no run and no halt, the times of its resets remembered. -/
def CoreX.cleared (x : CoreX) (times : List Nat) : CoreX := { x with run := {}, halt := none, resets := times }

theorem CoreX.cleared_quarters (x : CoreX) (times : List Nat) : (x.cleared times).quarters = x.quarters := rfl

/-- The reset core: scrubbed and cleared. -/
def State.coreCleared (s : State) (c : Nat) : State := (s.coreScrubbed c).setCore c (((s.coreScrubbed c).core c).cleared (s.resetTimes c))

/-- The reset counted and its error raised. -/
def State.resetRaised (s : State) (c : Nat) : State := ((s.coreCleared c).count .MAR_CORE_RESET_COUNT_COUNT 0 1).raiseErr blkMAR 1 c 3

/-- The core taken offline. -/
def State.coreOffline (s : State) (c : Nat) : State :=
  (s.setF .MAR_CORE_ONLINE_ONLINE 0 (setBits (s.getF .MAR_CORE_ONLINE_ONLINE 0) c c 0)).raiseErr blkMAR 2 c 3

section
variable (s : State) (c : Nat)

/-- A core without jobs is reset: none is re-executed, and the fourth reset within a second takes the core offline. -/
theorem State.resetCore_idle (hfree : ∀ n < 4, s.quarter c n = {}) :
    s.resetCore c = if 4 ≤ (s.resetTimes c).length then (s.resetRaised c).coreOffline c else s.resetRaised c := by
  unfold State.resetCore
  dsimp only
  rw [foldl_fixed_of_mem (s := s) (l := List.range 4) ?free]
  case free =>
    intro n hn
    have hnone : s.quarterJob c n = none := by
      unfold State.quarterJob
      rw [hfree n (List.mem_range.1 hn)]
      rfl
    rw [hnone]
  rfl

theorem State.coreCleared_frame : s.coreCleared c = { s with mar := (s.coreCleared c).mar } := by
  unfold State.coreCleared
  rw [s.coreScrubbed_frame]
  rfl

theorem State.coreCleared_core : ((s.coreCleared c).core c).run = {} ∧ ((s.coreCleared c).core c).halt = none := by
  unfold State.coreCleared
  rw [State.core_setCore_same]
  exact ⟨rfl, rfl⟩

theorem State.coreCleared_scrubbing {n : Nat} (hn : n < 4) : ((s.coreCleared c).quarter c n).st = .scrubbing := by
  unfold State.coreCleared
  rw [State.quarter_setCore _ c n (CoreX.cleared_quarters _ _)]
  exact s.scrubQuarters_scrubbing c (.inl (List.mem_range.2 hn))

theorem State.coreCleared_getF (f : Fld) (i : Nat) : (s.coreCleared c).getF f i = s.getF f i := by
  have hregs : (s.coreCleared c).regs = s.regs := by rw [s.coreCleared_frame c]
  exact State.getF_regs hregs f i

theorem State.resetRaised_mar : (s.resetRaised c).mar = (s.coreCleared c).mar := State.raiseErr_mar ..

theorem State.resetRaised_jobs : (s.resetRaised c).jobs = s.jobs := by
  unfold State.resetRaised
  rw [State.raiseErr_jobs, State.count_jobs, s.coreCleared_frame c]

theorem State.resetRaised_count : (s.resetRaised c).getF .MAR_CORE_RESET_COUNT_COUNT 0 = s.plus .MAR_CORE_RESET_COUNT_COUNT 0 1 := by
  unfold State.resetRaised
  rw [State.raiseErr_getF _ _ _ _ _ _ _ (by decide), State.count_getF, if_pos ⟨rfl, rfl⟩, State.plus, State.plus, State.coreCleared_getF]

theorem State.resetRaised_online : (s.resetRaised c).getF .MAR_CORE_ONLINE_ONLINE 0 = s.getF .MAR_CORE_ONLINE_ONLINE 0 := by
  unfold State.resetRaised
  rw [State.raiseErr_getF _ _ _ _ _ _ _ (by decide), State.count_getF, if_neg (by decide), State.coreCleared_getF]

theorem State.resetRaised_cause : bit ((s.resetRaised c).getF .BLK_ERR_STATUS_CAUSE blkMAR) 1 = true := by
  unfold State.resetRaised
  rw [State.raiseErr_cause_bit _ _ _ _ (by decide)]
  rfl

theorem State.coreOffline_mar : (s.coreOffline c).mar = s.mar := State.raiseErr_mar ..

theorem State.coreOffline_jobs : (s.coreOffline c).jobs = s.jobs := State.raiseErr_jobs ..

theorem State.coreOffline_count (i : Nat) : (s.coreOffline c).getF .MAR_CORE_RESET_COUNT_COUNT i = s.getF .MAR_CORE_RESET_COUNT_COUNT i := by
  unfold State.coreOffline
  rw [State.raiseErr_getF _ _ _ _ _ _ _ (by decide), State.getF_setF_ne _ _ (by simp)]

theorem State.coreOffline_cause {n : Nat} (hn : n < 32) :
    bit ((s.coreOffline c).getF .BLK_ERR_STATUS_CAUSE blkMAR) n = (decide (n = 2) || bit (s.getF .BLK_ERR_STATUS_CAUSE blkMAR) n) := by
  unfold State.coreOffline
  rw [State.raiseErr_cause_bit _ _ _ _ hn, State.getF_setF_ne _ _ (by simp)]

theorem State.coreOffline_online : bit ((s.coreOffline c).getF .MAR_CORE_ONLINE_ONLINE 0) c = false := by
  have hbit := bit_setBits_zero (s.getF .MAR_CORE_ONLINE_ONLINE 0) c
  unfold bit at hbit
  unfold State.coreOffline bit
  rw [State.raiseErr_getF _ _ _ _ _ _ _ (by decide), State.getF_setF_same, Nat.testBit_mod_two_pow, hbit, Bool.and_false]

end

theorem marCoreReset_resets {s : State} (hrun : s.stopped = false) (c bundle : Nat) : exec (.marCoreReset c false bundle) s = .next (s.resetCore c) :=
  show execMarCoreReset c false bundle s = _ from State.clocked_run hrun _

/-- What a reset leaves of a core is what its state shows, where only registers and messages differ from that of the core cleared. -/
theorem State.coreReset_mar {s t : State} {c : Nat} (ht : t.mar = (s.coreCleared c).mar) :
    (t.core c).run = {} ∧ (t.core c).halt = none ∧ ∀ n < 4, (t.quarter c n).st = .scrubbing := by
  have hcore : t.core c = (s.coreCleared c).core c := by
    unfold State.core
    rw [ht]
  obtain ⟨hrun, hhalt⟩ := s.coreCleared_core c
  refine ⟨by rw [hcore, hrun], by rw [hcore, hhalt], fun n hn => ?_⟩
  have hscrub := s.coreCleared_scrubbing c hn
  unfold State.quarter at hscrub ⊢
  rw [hcore, hscrub]

/-! ### Enables and resumption (R250, R257, R278, R282) -/

section
variable {s : State} (hs : s.Serves)
include hs

theorem State.Serves.marCoreEnableWrite_eq (v : W32) : exec (.marCoreEnableWrite v) s =
    let s1 := s.backOnline .MAR_CORE_ENABLE_EN .MAR_CORE_ONLINE_ONLINE v.toNat
    if v.toNat &&& s1.getF .MAR_CORE_ONLINE_ONLINE 0 = 0 then .next (s.count .MAR_CFG_REFUSED_COUNT_COUNT 0 1)
    else .next (s1.setF .MAR_CORE_ENABLE_EN 0 v.toNat) :=
  show execMarCoreEnableWrite v s = _ from hs.mmio _

variable (hprecise : s.precise = true) (c : Nat) (v : W32)
include hprecise

/-- Without GO the write sets START_LANE alone. -/
theorem State.Serves.marFaultResume_lane (hgo : bit v.toNat 8 = false) :
    exec (.marFaultResume c v) s = .next (s.setF .MAR_FAULT_RESUME_START_LANE c (v.toNat % 256)) := by
  have hrow : execMarFaultResume c v s = _ := hs.mmio _
  rw [bits_low8] at hrow
  dsimp only at hrow
  rw [if_pos hprecise, if_pos (by simp [hgo])] at hrow
  exact hrow

variable (hgo : bit v.toNat 8 = true)
include hgo

theorem State.Serves.marFaultResume_ignored (hhalt : (s.core c).halt = none) : exec (.marFaultResume c v) s =
    .next ((s.setF .MAR_FAULT_RESUME_START_LANE c (v.toNat % 256)).count .MAR_CFG_REFUSED_COUNT_COUNT 0 1) := by
  have hrow : execMarFaultResume c v s = _ := hs.mmio _
  rw [bits_low8] at hrow
  dsimp only at hrow
  rw [if_pos hprecise, if_neg (by simp [hgo]), hhalt] at hrow
  exact hrow

theorem State.Serves.marFaultResume_resumes {f : MFault} {n : Nat} {k : Job} {r : KernelX} (hhalt : (s.core c).halt = some f)
    (hquarter : s.runningQuarter c = some n) (hjob : s.quarterJob c n = some k) (hkernel : s.runKernel k = some r)
    (hlane : f.sock = tGSU ∨ v.toNat % 256 = 0) : exec (.marFaultResume c v) s =
      .next ((s.setF .MAR_FAULT_RESUME_START_LANE c (v.toNat % 256)).resumeCore c n k r f (v.toNat % 256)) := by
  have hjob1 : (s.setF .MAR_FAULT_RESUME_START_LANE c (v.toNat % 256)).quarterJob c n = some k := hjob
  have hkernel1 : (s.setF .MAR_FAULT_RESUME_START_LANE c (v.toNat % 256)).runKernel k = some r := hkernel
  have hrow : execMarFaultResume c v s = _ := hs.mmio _
  rw [bits_low8] at hrow
  dsimp only at hrow
  rw [if_pos hprecise, if_neg (by simp [hgo]), hhalt, hquarter] at hrow
  dsimp only at hrow
  rw [if_neg (fun h => hlane.elim h.1 h.2), hjob1] at hrow
  dsimp only at hrow
  rw [hkernel1] at hrow
  exact hrow

end

/-! ### The commands together -/

/-- What a reset leaves of a core without jobs: counted, its error raised, offline with the fourth reset within a second. -/
theorem State.resetCore_effects {s : State} {c : Nat} (hfree : ∀ n < 4, s.quarter c n = {}) :
    (s.resetCore c).getF .MAR_CORE_RESET_COUNT_COUNT 0 = s.plus .MAR_CORE_RESET_COUNT_COUNT 0 1 ∧
      bit ((s.resetCore c).getF .BLK_ERR_STATUS_CAUSE blkMAR) 1 = true ∧ (s.resetCore c).mar = (s.coreCleared c).mar ∧ (s.resetCore c).jobs = s.jobs ∧
      ((s.resetTimes c).length < 4 → (s.resetCore c).getF .MAR_CORE_ONLINE_ONLINE 0 = s.getF .MAR_CORE_ONLINE_ONLINE 0) ∧
      (4 ≤ (s.resetTimes c).length → bit ((s.resetCore c).getF .MAR_CORE_ONLINE_ONLINE 0) c = false ∧
        bit ((s.resetCore c).getF .BLK_ERR_STATUS_CAUSE blkMAR) 2 = true) := by
  rw [s.resetCore_idle c hfree]
  rcases Nat.lt_or_ge (s.resetTimes c).length 4 with hfew | hmany
  · rw [if_neg (Nat.not_le.2 hfew)]
    exact ⟨s.resetRaised_count c, s.resetRaised_cause c, s.resetRaised_mar c, s.resetRaised_jobs c, fun _ => s.resetRaised_online c,
      fun hmany => absurd hmany (Nat.not_le.2 hfew)⟩
  · rw [if_pos hmany]
    refine ⟨(State.coreOffline_count _ c 0).trans (s.resetRaised_count c), ?_, (State.coreOffline_mar _ c).trans (s.resetRaised_mar c),
      (State.coreOffline_jobs _ c).trans (s.resetRaised_jobs c), fun hfew => absurd hmany (Nat.not_le.2 hfew), fun _ => ⟨State.coreOffline_online _ c, ?_⟩⟩
    · rw [State.coreOffline_cause _ c (by decide), s.resetRaised_cause c, Bool.or_true]
    · rw [State.coreOffline_cause _ c (by decide)]
      rfl

/-- Settles O49: a fault's notes reach no job, its job takes it by its budget, and each register write of the cores is written out. -/
theorem faultsAtEngines : Obligations.FaultsAtEngines := by
  unfold Obligations.FaultsAtEngines
  intro s q i j hrun hj
  refine ⟨fun unit cause part place hat hhalt => ?fault, fun c bundle _ _ hfree => ?reset, fun v hs hregs => ?enable, fun c v hs hprecise => ?resume⟩
  case fault =>
    obtain ⟨hjobs, hcount⟩ := Prod.mk.inj (s.faultNoted_recovery unit cause part place)
    have hrow := execEngineFault_takes hj hrun hat hhalt cause place
    have hsame := s.job?_of_jobs hjobs
    obtain ⟨rfl, rfl⟩ := State.place_of_job? hj
    have hnoted := (hsame j.q j.idx).trans hj
    refine ⟨_, hrow, fun hbudget => ?again, fun hbudget hbatch hcomputed => ?record, fun hbudget hother => ?ends,
      fun a b hne => (State.engineFault_job?_ne unit cause _ hne).trans (hsame a b)⟩
    case again =>
      rw [State.engineFault_again unit cause _ hbudget]
      refine ⟨State.reexec_job? _ hnoted, (State.reexec_counts ..).trans ?_⟩
      rw [State.plus, State.plus, hcount]
    case record =>
      rw [State.engineFault_record unit cause _ hbudget hbatch hcomputed]
      exact ⟨_, Nat.mod_lt _ (Nat.lt_of_lt_of_le Nat.one_pos (Nat.le_max_left ..)), State.job?_updJob_place hnoted (Job.recordFaulted_place _ _)⟩
    case ends =>
      rw [State.engineFault_ends unit cause _ hbudget hother]
      exact ⟨_, State.endedBy_job? hnoted _ _, rfl, rfl, rfl, rfl, rfl, rfl, rfl⟩
  case reset =>
    obtain ⟨hcount, hcause, hmar, hjobs, honline, hoffline⟩ := State.resetCore_effects hfree
    obtain ⟨hcleared, hhalt, hscrub⟩ := State.coreReset_mar hmar
    have htimes : (s.resetTimes c).length = (recent s.now 1000000000 (s.core c).resets).length + 1 := List.length_append
    exact ⟨_, marCoreReset_resets hrun c bundle, hcount, hcause, hcleared, hhalt, hjobs, hscrub, fun hfew => honline (by omega), fun hmany => hoffline (by omega)⟩
  case enable =>
    have hon : s.getF .MAR_CORE_ONLINE_ONLINE 0 ||| (v.toNat &&& (2 ^ 32 - 1 - s.getF .MAR_CORE_ENABLE_EN 0)) < 2 ^ 32 :=
      Nat.or_lt_two_pow (State.getF_lt_of hregs _ _ _) (Nat.and_lt_two_pow _ (by omega))
    have hrow := hs.marCoreEnableWrite_eq v
    have hback : (s.backOnline .MAR_CORE_ENABLE_EN .MAR_CORE_ONLINE_ONLINE v.toNat).getF .MAR_CORE_ONLINE_ONLINE 0 = _ :=
      (State.getF_setF_same ..).trans (Nat.mod_eq_of_lt hon)
    dsimp only at hrow
    rw [hback] at hrow
    refine ⟨fun hnone => ⟨_, hrow.trans (if_pos hnone), s.count_sets _ _ _⟩, fun hsome => ⟨_, hrow.trans (if_neg hsome), ?_⟩⟩
    exact (((Sets.refl s).setF .MAR_CORE_ONLINE_ONLINE 0 _ (by simp) hon).setF .MAR_CORE_ENABLE_EN 0 _ (by simp) v.isLt).perm (.swap ..)
  case resume =>
    have hsets : Sets s (s.setF .MAR_FAULT_RESUME_START_LANE c (v.toNat % 256)) [((.MAR_FAULT_RESUME_START_LANE, c), v.toNat % 256)] :=
      (Sets.refl s).setF _ c _ (by simp) (Nat.mod_lt _ (by decide))
    exact ⟨fun hgo => ⟨_, hs.marFaultResume_lane hprecise c v hgo, hsets⟩,
      fun hgo hhalt => ⟨_, hs.marFaultResume_ignored hprecise c v hgo hhalt, hsets.count _ 0 1 (by simp)⟩,
      fun hgo _ _ _ _ hhalt hquarter hjob hkernel hsock => hs.marFaultResume_resumes hprecise c v hgo hhalt hquarter hjob hkernel hsock⟩

end Sys2Proof.Machine
end

section
/-! ## Modular arithmetic of the Marionette units (R229, R234 to R236, R272, R274) -/

namespace Sys2Proof.Machine
open Sys2Proof

/-! ### Lanes (R229) -/

/-- A lane of lanes put side by side is the one of its place, cut to the width; past the last there is 0. -/
theorem lane_packLanes (w : Nat) (l : List Nat) (i : Nat) : lane w (packLanes w l) i = l.getD i 0 % 2 ^ w := by
  induction l generalizing i with
  | nil => simp [packLanes, lane]
  | cons x l ih =>
    cases i with
    | zero => simp [packLanes, lane]
    | succ i =>
      have hdrop : (x % 2 ^ w + 2 ^ w * packLanes w l) / 2 ^ w = packLanes w l := by
        rw [Nat.add_mul_div_left _ _ (Nat.two_pow_pos w), Nat.div_eq_of_lt (Nat.mod_lt _ (Nat.two_pow_pos w)), Nat.zero_add]
      rw [List.getD_cons_succ, ← ih, lane, lane, packLanes, Nat.mul_succ, Nat.pow_add, Nat.mul_comm (2 ^ (w * i)), ← Nat.div_div_eq_div_mul, hdrop]

theorem lane_buildLanes (w : Nat) {n i : Nat} (hi : i < n) (f : Nat → Nat) : lane w (buildLanes w n f) i = f i % 2 ^ w := by
  rw [buildLanes, lane_packLanes]
  simp [hi]

theorem lane_buildLanes_past (w : Nat) {n i : Nat} (hi : n ≤ i) (f : Nat → Nat) : lane w (buildLanes w n f) i = 0 := by
  rw [buildLanes, lane_packLanes]
  simp [hi]

theorem lane_lanes2 (mode : Nat) (f : Nat → Nat → Nat) (a b : Nat) {i : Nat} (hi : i < laneN mode) :
    lane (laneW mode) (lanes2 mode f a b) i = f (lane (laneW mode) a i) (lane (laneW mode) b i) % 2 ^ laneW mode :=
  lane_buildLanes _ hi _

/-! ### Representatives modulo q (R235, R236, R272) -/

section
variable {q : Nat} (hq : 0 < q)
include hq

/-- The model's difference, which never falls below 0, is the difference modulo q. -/
theorem natCast_subMod (t a : Nat) : (((t % q + q - a % q) % q : Nat) : Int) = ((t : Int) - (a : Int)) % (q : Int) := by
  have hle : a % q ≤ t % q + q := (Nat.mod_lt a hq).le.trans (Nat.le_add_left ..)
  calc (((t % q + q - a % q) % q : Nat) : Int)
      = ((t : Int) % q - (a : Int) % q + q) % q := by push_cast [Nat.cast_sub hle]; congr 1; ring
    _ = ((t : Int) - a) % q := by rw [Int.add_emod_right, ← Int.sub_emod]

theorem maddLane_lt (w t a : Nat) {op : Nat} (hop : op ≤ 3) : maddLane op w q t a < q := by
  interval_cases op <;> exact Nat.mod_lt _ hq

theorem maddLane_neg (w t a : Nat) : (maddLane 3 w q t a : Int) = (-(t : Int)) % (q : Int) := by
  simpa [maddLane] using natCast_subMod hq 0 t

theorem butterfly_lt (gs : Bool) (z a b : Nat) : (butterfly gs q z a b).1 < q ∧ (butterfly gs q z a b).2 < q := by
  cases gs <;> exact ⟨Nat.mod_lt _ hq, Nat.mod_lt _ hq⟩

/-- The Cooley–Tukey butterfly: A + zB and A - zB. -/
theorem butterfly_ct (z a b : Nat) : ((butterfly false q z a b).1 : Int) = ((a : Int) + (z : Int) * (b : Int)) % (q : Int) ∧
    ((butterfly false q z a b).2 : Int) = ((a : Int) - (z : Int) * (b : Int)) % (q : Int) := by
  refine ⟨by simp [butterfly], ?_⟩
  have hsub := natCast_subMod hq a (z * b)
  rwa [Nat.cast_mul] at hsub

/-- The Gentleman–Sande butterfly: A + B and z(A - B). -/
theorem butterfly_gs (z a b : Nat) : ((butterfly true q z a b).1 : Int) = ((a : Int) + (b : Int)) % (q : Int) ∧
    ((butterfly true q z a b).2 : Int) = ((z : Int) * ((a : Int) - (b : Int))) % (q : Int) := by
  refine ⟨by simp [butterfly], ?_⟩
  show ((z * ((a % q + q - b % q) % q) % q : Nat) : Int) = _
  rw [Int.natCast_mod, Nat.cast_mul, natCast_subMod hq, Int.mul_emod, Int.emod_emod_of_dvd _ (dvd_refl _), ← Int.mul_emod]

/-- The centred representative in two's complement: from (q + 1)/2 on, the one less q. -/
theorem maddLane_cent {w : Nat} (hw : q ≤ 2 ^ w) (t a : Nat) : ((maddLane 4 w q t a % 2 ^ w : Nat) : Int) =
    if (q + 1) / 2 ≤ t % q then ((t : Int) % (q : Int) - (q : Int)) % ((2 ^ w : Nat) : Int) else (t : Int) % (q : Int) := by
  show (((if (q + 1) / 2 ≤ t % q then wrapInt w (((t % q : Nat) : Int) - ((q : Nat) : Int)) else t % q) % 2 ^ w : Nat) : Int) = _
  split
  case isTrue =>
    have hpow : (0 : Int) < ((2 ^ w : Nat) : Int) := by exact_mod_cast Nat.two_pow_pos w
    rw [wrapInt, fromSigned, Int.natCast_mod, Int.toNat_of_nonneg (Int.emod_nonneg _ hpow.ne'), Int.emod_emod_of_dvd _ (dvd_refl _), Int.natCast_mod]
  case isFalse =>
    rw [Nat.mod_eq_of_lt ((Nat.mod_lt t hq).trans_le hw), Int.natCast_mod]

end

/-! ### One member of an operation (R266, R272, R274) -/

/-- The twiddle of a lane, as the control word of a butterfly selects it (R237, R274). -/
def Exe.laneTwiddle (e : Exe) (f : Flight) (q i : Nat) : Nat :=
  twiddle q (e.run.entry (bits f.trig.v 1 0) (bits f.trig.v 12 2 + i / 2 ^ bits f.trig.v 16 13)) (bit f.trig.v 17)

theorem Exe.later_writes (e : Exe) (p : PWrite) : (e.later p).run.writes = e.run.writes ++ [p] := rfl

theorem Exe.later_pair_writes (e : Exe) (p r : PWrite) : ((e.later p).later r).run.writes = e.run.writes ++ [p, r] ++ [] := by
  simp [Exe.later_writes]

theorem Exe.later_pairs_writes (e : Exe) (p r x y : PWrite) :
    ((((e.later p).later r).later x).later y).run.writes = e.run.writes ++ [p, r] ++ [x, y] := by
  simp [Exe.later_writes]

section
variable (e : Exe) {f : Flight} (hg : opG f.op = 1)
include hg

/-- A member that is alone takes what the ports have latched. -/
theorem Exe.input_single (k m : Nat) : e.input f k m = (f.port k).toVal := by
  unfold Exe.input
  rw [hg, ite_self]
  exact if_pos rfl

/-- A member that is alone gives its result on the port behind the trigger. -/
theorem Exe.put_single (m : Nat) (x : Val) : ∃ p, (e.put f m x).run.writes = e.run.writes ++ [p] ∧ p.dst = f.sock + 1 ∧ p.val = x := by
  unfold Exe.put
  rw [if_pos hg]
  exact ⟨_, e.later_writes _, rfl, rfl⟩

theorem Exe.mmul_single (hop : opFunc3 f.op = 0) : ∃ p, (e.mmul f 0).run.writes = e.run.writes ++ [p] ∧ p.dst = f.sock + 1 ∧
    p.val.v = lanes2 (opMode f.op) (fun x y => x * y % e.run.modulus 0 (opSel f.op)) f.trig.v (f.ports.getD 0 {}).v := by
  unfold Exe.mmul
  dsimp only
  rw [hop, e.input_single hg, e.input_single hg]
  obtain ⟨p, hw, hdst, hval⟩ := e.put_single hg 0 _
  exact ⟨p, hw, hdst, congrArg Val.v hval⟩

theorem Exe.madd_single (hop : opFunc3 f.op ≠ 5) : ∃ p, (e.madd f 0).run.writes = e.run.writes ++ [p] ∧ p.dst = f.sock + 1 ∧
    p.val.v = lanes2 (opMode f.op) (maddLane (opFunc3 f.op) (laneW (opMode f.op)) (e.run.modulus 1 (opSel f.op))) f.trig.v (f.ports.getD 0 {}).v := by
  unfold Exe.madd
  dsimp only
  rw [if_neg hop, e.input_single hg, e.input_single hg]
  obtain ⟨p, hw, hdst, hval⟩ := e.put_single hg 0 _
  exact ⟨p, hw, hdst, congrArg Val.v hval⟩

/-- REDQ packs its eight reduced lanes into the low half. -/
theorem Exe.madd_redq (hop : opFunc3 f.op = 5) : ∃ p, (e.madd f 0).run.writes = e.run.writes ++ [p] ∧
    p.val.v = buildLanes 28 8 fun i => lane 56 f.trig.v i % e.run.modulus 1 (opSel f.op) := by
  unfold Exe.madd
  dsimp only
  rw [if_pos hop, if_pos hg, e.input_single hg]
  obtain ⟨p, hw, -, hval⟩ := e.put_single hg 0 _
  exact ⟨p, hw, congrArg Val.v hval⟩

/-- A butterfly across two operands leaves its pair on the two ports behind the trigger; register writes may follow. -/
theorem Exe.bfy_single (hop : opFunc3 f.op ≤ 1) :
    let w := laneW (opMode f.op)
    let q := e.run.modulus (modUnit f.sock) (opSel f.op)
    let pair := fun i => butterfly (opFunc3 f.op == 1) q (e.laneTwiddle f q i) (lane w (f.ports.getD 0 {}).v i) (lane w (f.ports.getD 1 {}).v i)
    ∃ p r more, (e.bfy f 0).run.writes = e.run.writes ++ [p, r] ++ more ∧ p.dst = f.sock + 1 ∧ r.dst = f.sock + 2 ∧
      ∀ i < laneN (opMode f.op), lane w p.val.v i = (pair i).1 % 2 ^ w ∧ lane w r.val.v i = (pair i).2 % 2 ^ w := by
  intro w q pair
  have hsingle : decide (2 ≤ opFunc3 f.op) = false := decide_eq_false (by omega)
  have hkind : (opFunc3 f.op % 2 == 1) = (opFunc3 f.op == 1) := by rw [Nat.mod_eq_of_lt (by omega)]
  unfold Exe.bfy
  dsimp only
  rw [hsingle, hkind, if_pos hg, e.input_single hg, e.input_single hg]
  have hpair : ∀ i < laneN (opMode f.op), lane w (buildLanes w (laneN (opMode f.op)) fun i => (pair i).1) i = (pair i).1 % 2 ^ w ∧
      lane w (buildLanes w (laneN (opMode f.op)) fun i => (pair i).2) i = (pair i).2 % 2 ^ w :=
    fun i hi => ⟨lane_buildLanes w hi _, lane_buildLanes w hi _⟩
  simp only [Nat.zero_mul, Nat.zero_add]
  split
  case isTrue => exact ⟨_, _, _, e.later_pairs_writes _ _ _ _, rfl, rfl, hpair⟩
  case isFalse => exact ⟨_, _, _, e.later_pair_writes _ _, rfl, rfl, hpair⟩

end

/-- Settles O52: each unit's write is read lane by lane, and each lane's natural arithmetic is that of the integers modulo q. -/
theorem modularArithmetic : Obligations.ModularArithmetic := by
  unfold Obligations.ModularArithmetic
  intro e f q hg w n op T P Q
  have hkept : ∀ {x : Nat}, x < q → q ≤ 2 ^ w → x % 2 ^ w = x := fun hx hw => Nat.mod_eq_of_lt (hx.trans_le hw)
  refine ⟨fun _ hq hw => ⟨fun hop hmod => ?mul, fun hop hmod => ?add, fun hop hmod => ?bfy⟩, fun hmode hop hq hlt hmod => ?redq⟩
  case mul =>
    obtain ⟨p, hwrites, hdst, hval⟩ := e.mmul_single hg hop
    refine ⟨p, hwrites, hdst, fun i hi => ?_⟩
    have hlt : T i * P i % q < q := Nat.mod_lt _ hq
    have hlane : lane w p.val.v i = T i * P i % q := by rw [hval, hmod, lane_lanes2 _ _ _ _ hi, hkept hlt hw]
    exact ⟨hlane, hlane ▸ hlt⟩
  case add =>
    obtain ⟨p, hwrites, hdst, hval⟩ := e.madd_single hg (by omega)
    refine ⟨p, hwrites, hdst, fun i hi => ?_⟩
    have hlane : lane w p.val.v i = maddLane op w q (T i) (P i) % 2 ^ w := by rw [hval, hmod, lane_lanes2 _ _ _ _ hi]
    have hlow : op ≤ 3 → lane w p.val.v i = maddLane op w q (T i) (P i) := fun h => hlane.trans (hkept (maddLane_lt hq w _ _ h) hw)
    refine ⟨?_, fun h => hlow h ▸ maddLane_lt hq w _ _ h⟩
    clear_value op
    interval_cases op
    · rw [hlow (by decide)]; exact Int.natCast_mod _ _
    · rw [hlow (by decide)]; exact natCast_subMod hq _ _
    · rw [hlow (by decide)]; exact Int.natCast_mod _ _
    · rw [hlow (by decide)]; exact maddLane_neg hq w _ _
    · rw [hlane]; exact maddLane_cent hq hw _ _
  case bfy =>
    obtain ⟨p, r, more, hwrites, hfst, hsnd, hpair⟩ := e.bfy_single hg hop
    refine ⟨p, r, more, hwrites, hfst, hsnd, fun i hi => ?_⟩
    obtain ⟨hp, hr⟩ := hpair i hi
    rw [hmod] at hp hr
    have hlt := butterfly_lt hq (op == 1) (e.laneTwiddle f q i) (P i) (Q i)
    rw [hkept hlt.1 hw] at hp
    rw [hkept hlt.2 hw] at hr
    refine ⟨fun h => ?ct, fun h => ?gs, hp ▸ hlt.1, hr ▸ hlt.2⟩
    case ct =>
      rw [hp, hr, h]
      exact butterfly_ct hq _ _ _
    case gs =>
      rw [hp, hr, h]
      exact butterfly_gs hq _ _ _
  case redq =>
    obtain ⟨p, hwrites, hval⟩ := e.madd_redq hg hop
    have hw : w = 56 := congrArg laneW hmode
    refine ⟨p, hwrites, fun i hi => ?_, fun i _ hi => ?_⟩
    · have hlt28 : lane 56 f.trig.v i % q < 2 ^ 28 := (Nat.mod_lt _ hq).trans hlt
      rw [hval, hmod, lane_buildLanes 28 hi, Nat.mod_eq_of_lt hlt28, ← hw]
    · rw [hval, lane_buildLanes_past 28 hi]

end Sys2Proof.Machine
end

section
/-! ## Jobs on the cores of the array (R234, R249 to R256, R267, R271) -/

namespace Sys2Proof.Machine
open Sys2Proof

/-! ### The order of the cores (R251) -/

section
variable (s : State)

/-- A core put into a list in rank order, behind those of its own rank. -/
def State.rankInsert (o : List Nat) (c : Nat) : List Nat :=
  (o.takeWhile fun d => s.coreRank d ≤ s.coreRank c) ++ c :: o.dropWhile fun d => s.coreRank d ≤ s.coreRank c

theorem State.ranked_eq_foldl (l : List Nat) : s.ranked l = l.foldl s.rankInsert [] := rfl

theorem State.rankInsert_cons (x c : Nat) (o : List Nat) :
    s.rankInsert (x :: o) c = if s.coreRank x ≤ s.coreRank c then x :: s.rankInsert o c else c :: x :: o := by
  unfold State.rankInsert
  split <;> simp [*]

theorem State.mem_rankInsert {o : List Nat} {c d : Nat} : d ∈ s.rankInsert o c ↔ d = c ∨ d ∈ o := by
  induction o with
  | nil => simp [State.rankInsert]
  | cons x o ih =>
    rw [State.rankInsert_cons]
    split
    · rw [List.mem_cons, ih, List.mem_cons, or_left_comm]
    · rw [List.mem_cons]

/-- The cores of a list stand in the order of their ranks. -/
def State.RankOrder (l : List Nat) : Prop := l.Pairwise fun c d => s.coreRank c ≤ s.coreRank d

theorem State.rankInsert_order {o : List Nat} (c : Nat) (ho : s.RankOrder o) : s.RankOrder (s.rankInsert o c) := by
  induction o with
  | nil => exact List.pairwise_singleton ..
  | cons x o ih =>
    obtain ⟨hx, ho⟩ := List.pairwise_cons.1 ho
    rw [State.rankInsert_cons]
    split
    case isTrue hle => exact List.pairwise_cons.2 ⟨fun d hd => (s.mem_rankInsert.1 hd).elim (fun h => h ▸ hle) (hx d), ih ho⟩
    case isFalse hlt =>
      have hle := (Nat.lt_of_not_le hlt).le
      exact List.pairwise_cons.2 ⟨List.forall_mem_cons.2 ⟨hle, fun d hd => hle.trans (hx d hd)⟩, List.pairwise_cons.2 ⟨hx, ho⟩⟩

theorem State.ranked_order (l : List Nat) : s.RankOrder (s.ranked l) :=
  List.foldlRecOn (motive := s.RankOrder) _ _ .nil fun _ ho c _ => s.rankInsert_order c ho

theorem State.mem_ranked {l : List Nat} {d : Nat} : d ∈ s.ranked l ↔ d ∈ l := by
  have hfold : ∀ o : List Nat, d ∈ l.foldl s.rankInsert o ↔ d ∈ o ∨ d ∈ l := by
    induction l with
    | nil => simp
    | cons c l ih =>
      intro o
      rw [List.foldl_cons, ih, State.mem_rankInsert, List.mem_cons, or_comm (a := d = c), or_assoc]
  rw [State.ranked_eq_foldl, hfold]
  simp

/-- The eligible cores of a job, best first. -/
def State.coresFor (j : Job) : List Nat := s.ranked ((List.range 32).filter fun c => s.eligible j c)

theorem State.mem_coresFor {j : Job} {d : Nat} : d ∈ s.coresFor j ↔ d < 32 ∧ s.eligible j d = true := by
  rw [State.coresFor, State.mem_ranked, List.mem_filter, List.mem_range]

/-- For one core the choice from a list is its first. -/
theorem pickOne_eq_head (l : List Nat) :
    ((l.map fun c => (l.filter fun d => d / 8 == c / 8).take 1).find? fun m => m.length == 1) = l.head?.map fun c => [c] := by
  cases l <;> simp

theorem State.chooseCores_one {j : Job} (hteam : (s.marNeeds j).2.2 = 1) : s.chooseCores j =
    ((((s.coresFor j).filter fun c => j.avoid != some c).head?).map fun c => [c]).orElse fun _ => (s.coresFor j).head?.map fun c => [c] := by
  unfold State.chooseCores
  dsimp only
  rw [hteam, pickOne_eq_head, pickOne_eq_head]
  rfl

/-- A job of one core gets the eligible core of the lowest rank, the avoided one only where no other is eligible. -/
theorem State.chooseCores_best {j : Job} (hteam : (s.marNeeds j).2.2 = 1) (hsome : ∃ d < 32, s.eligible j d = true) :
    ∃ c < 32, s.eligible j c = true ∧ s.chooseCores j = some [c] ∧
      ((∀ d < 32, s.eligible j d = true → j.avoid = some d) ∨
        j.avoid ≠ some c ∧ ∀ d < 32, s.eligible j d = true → j.avoid ≠ some d → s.coreRank c ≤ s.coreRank d) := by
  have hchoice := s.chooseCores_one hteam
  cases hother : (s.coresFor j).filter fun c => j.avoid != some c with
  | nil =>
    obtain ⟨d, hd, hel⟩ := hsome
    obtain ⟨c, l, hall⟩ := List.exists_cons_of_ne_nil (List.ne_nil_of_mem (s.mem_coresFor.2 ⟨hd, hel⟩))
    obtain ⟨hc, hcel⟩ := s.mem_coresFor.1 (hall ▸ List.mem_cons_self : c ∈ s.coresFor j)
    rw [hother, hall] at hchoice
    refine ⟨c, hc, hcel, hchoice, .inl fun d hd hel => ?_⟩
    simpa using List.filter_eq_nil_iff.1 hother d (s.mem_coresFor.2 ⟨hd, hel⟩)
  | cons c l =>
    have hmem : ∀ d, d ∈ c :: l ↔ (d < 32 ∧ s.eligible j d = true) ∧ j.avoid ≠ some d := fun d => by
      rw [← hother, List.mem_filter, State.mem_coresFor, bne_iff_ne]
    obtain ⟨⟨hc, hcel⟩, havoid⟩ := (hmem c).1 List.mem_cons_self
    have hsorted : s.RankOrder (c :: l) := hother ▸ List.Pairwise.filter _ (s.ranked_order _)
    rw [hother] at hchoice
    refine ⟨c, hc, hcel, hchoice, .inr ⟨havoid, fun d hd hel hne => ?_⟩⟩
    obtain rfl | hl := List.mem_cons.1 ((hmem d).2 ⟨⟨hd, hel⟩, hne⟩)
    · exact le_rfl
    · exact (List.pairwise_cons.1 hsorted).1 d hl

end

/-! ### Placement (R251, R256) -/

section
variable {s : State} {c n : Nat} {j : Job}

/-- Quarter n is the lowest FREE one of a core. -/
def State.FirstFree (s : State) (c n : Nat) : Prop := n < 4 ∧ (s.quarter c n).st = .free ∧ ∀ m < n, (s.quarter c m).st ≠ .free

theorem State.firstFree_iff : (List.range 4).find? (fun n => decide ((s.quarter c n).st = .free)) = some n ↔ s.FirstFree c n := by
  simp [List.find?_range_eq_some, State.FirstFree, and_left_comm]

theorem State.eligible_firstFree (hel : s.eligible j c = true) : ∃ n, s.FirstFree c n := by
  have hany : (s.quarters c).any (fun x => decide (x.st = .free)) = true := by
    unfold State.eligible at hel
    simp only [Bool.and_eq_true] at hel
    obtain ⟨⟨⟨⟨-, hfree⟩, -⟩, -⟩, -⟩ := hel
    exact hfree
  have hfound : ((List.range 4).find? fun n => decide ((s.quarter c n).st = .free)).isSome := by
    rw [List.find?_isSome]
    simpa [State.quarters] using hany
  obtain ⟨n, hn⟩ := Option.isSome_iff_exists.1 hfound
  exact ⟨n, State.firstFree_iff.1 hn⟩

/-- A placed job at its quarter. -/
def Job.onCore (c n : Nat) (k : Job) : Job := { k with core := some (c, n) }

/-- The quarter of a job of one core, about to be loaded. -/
def State.loadingQuarter (s : State) (j : Job) (c : Nat) : Quarter :=
  { st := .loading, job := some (j.q, j.idx), member := 0, sessions := (s.marNeeds j).1, pages := (s.freePages (c / 8)).take (s.marNeeds j).2.1 }

/-- The array with a quarter written, the placement pointer past its core. -/
def State.placedMar (s : State) (c n : Nat) (x : Quarter) : MarX := { (s.setQuarter c n x).mar with ptr := (c + 1) % 32 }

theorem State.placeMember_first (hfree : s.FirstFree c n) :
    s.placeMember j (s.marNeeds j).1 ((s.freePages (c / 8)).take (s.marNeeds j).2.1) 0 c =
      { s with mar := s.placedMar c n (s.loadingQuarter j c) }.updJob j.q j.idx (Job.onCore c n) := by
  unfold State.placeMember
  rw [State.firstFree_iff.2 hfree]
  rfl

theorem State.placeOn_single (hfree : s.FirstFree c n) : s.placeOn j [c] =
    ({ s with mar := s.placedMar c n (s.loadingQuarter j c) }.updJob j.q j.idx (Job.onCore c n)).takePages (c / 8) j
      ((s.freePages (c / 8)).take (s.marNeeds j).2.1) :=
  congrArg (fun t : State => t.takePages (c / 8) j ((s.freePages (c / 8)).take (s.marNeeds j).2.1)) (State.placeMember_first hfree)

/-- The job that a job of one core becomes, the quarter it takes, and the registers left alone. -/
theorem State.placeOn_effects (hj : s.job? j.q j.idx = some j) (hfree : s.FirstFree c n) : (s.placeOn j [c]).quarter c n = s.loadingQuarter j c ∧
    (s.placeOn j [c]).job? j.q j.idx = some (j.onCore c n) ∧ (s.placeOn j [c]).regs = s.regs := by
  rw [State.placeOn_single hfree]
  exact ⟨s.quarter_setQuarter_same c n (s.loadingQuarter j c),
    State.job?_updJob_place (s := { s with mar := s.placedMar c n (s.loadingQuarter j c) }) hj fun _ hq hi => ⟨hq, hi⟩, rfl⟩

theorem jobPlace_places {q i : Nat} {l : List Nat} (hrun : s.stopped = false) (hj : s.job? q i = some j) (hstage : j.stage = .dispatched)
    (hcore : j.core = none) (hpool : .MAR ∈ j.pools) (hcomputed : j.computed = false) (hset : j.opcode = 0x0900 → j.paramset = 0)
    (hbatch : j.opcode ≠ 0x0123) (hteam : (s.marNeeds j).2.2 = 1) (hcores : s.chooseCores j = some l) :
    exec (.jobPlace q i) s = .next (s.placeOn j l) := by
  have hrow : execJobPlace q i s = _ := State.clocked_run hrun _
  rw [hj] at hrow
  dsimp only at hrow
  rw [if_neg (by simpa [hstage, hpool, hcomputed] using hset), if_neg hbatch, if_neg (by simp [hcore]), hcores] at hrow
  exact hrow.trans (if_pos (hteam.trans_le (Nat.le_add_left ..)))

end

/-! ### Loading and switching (R250, R252, R286) -/

theorem State.job?_of_quarterJob {s : State} {c n : Nat} {j : Job} (hjob : s.quarterJob c n = some j) : s.job? j.q j.idx = some j := by
  obtain ⟨p, -, hp⟩ := Option.bind_eq_some_iff.1 hjob
  obtain ⟨hq, hi⟩ := State.place_of_job? hp
  rwa [hq, hi]

theorem quarterLoaded_loads {s : State} {c n : Nat} {j : Job} (hrun : s.stopped = false) (hjob : s.quarterJob c n = some j)
    (hst : (s.quarter c n).st = .loading) (inp : List Byte) : exec (.quarterLoaded c n inp) s =
      .next (s.setQuarter c n { s.quarter c n with st := .ready, rows := (s.runKernel j).elim [] fun k => s.loadedRows j k inp }) := by
  have hrow : execQuarterLoaded c n inp s = _ := State.clocked_run hrun _
  dsimp only at hrow
  rw [hjob] at hrow
  exact hrow.trans (if_neg (not_not_intro hst))

/-- Of the runnable quarters the next is one with the lowest stamp. -/
theorem State.nextQuarter_lowest {s : State} {c : Nat} (hsome : s.runnable c ≠ []) :
    ∃ m, s.nextQuarter c = some m ∧ m ∈ s.runnable c ∧ ∀ p ∈ s.runnable c, s.stampOf c m ≤ s.stampOf c p := by
  obtain ⟨x, hx, hmin⟩ := (s.runnable c).toFinset.exists_min_image (s.stampOf c) (List.toFinset_nonempty_iff _ |>.2 hsome)
  have hfound : (s.nextQuarter c).isSome :=
    List.find?_isSome.2 ⟨x, List.mem_toFinset.1 hx, List.all_eq_true.2 fun p hp => decide_eq_true (hmin p (List.mem_toFinset.2 hp))⟩
  obtain ⟨m, hm⟩ := Option.isSome_iff_exists.1 hfound
  have hlow := List.all_eq_true.1 (List.find?_some (p := fun n => (s.runnable c).all fun p => decide (s.stampOf c n ≤ s.stampOf c p)) hm)
  exact ⟨m, hm, List.mem_of_find?_eq_some hm, fun p hp => of_decide_eq_true (hlow p hp)⟩

section
variable {s : State} {c n : Nat} (hrun : s.stopped = false) (hidle : s.runningQuarter c = none) (hnext : s.nextQuarter c = some n)
include hrun hidle hnext

theorem coreSwitch_switches : exec (.coreSwitch c) s = .next (s.switchTo c n) := by
  have hrow : execCoreSwitch c s = _ := State.clocked_run hrun _
  rw [hidle, hnext] at hrow
  exact hrow

theorem jobUnsuspend_switches (hst : (s.quarter c n).st = .suspended) : exec (.jobUnsuspend c n) s = .next (s.switchTo c n) := by
  have hrow : execJobUnsuspend c n s = _ := State.clocked_run hrun _
  exact hrow.trans (if_pos ⟨hst, hidle, hnext⟩)

end

/-- The registers with which a quarter's job starts or goes on. -/
def State.nextRun (s : State) (c n : Nat) (j : Job) : CoreRun :=
  if (s.quarter c n).st = .suspended then s.resumeRun j ((s.quarter c n).save.getD {}) else s.startRun j (s.quarter c n).member

/-- A job that no longer waits for entropy. -/
def Job.entropyBack (k : Job) : Job := { k with entSince := none }

theorem Job.entropyBack_place (q i : Nat) : KeepsPlace q i Job.entropyBack := fun _ hq hi => ⟨hq, hi⟩

/-- The core and the quarter after a switch, the job not yet told. -/
def State.runStarted (s : State) (c n : Nat) (j : Job) : State :=
  (s.setCore c { s.core c with run := s.nextRun c n j }).setQuarter c n { s.quarter c n with st := .running, save := none, stallSince := none }

/-- A switch but for the check of the moduli. -/
def State.switched (s : State) (c n : Nat) (j : Job) : State :=
  if (s.quarter c n).st = .suspended then (s.runStarted c n j).updJob j.q j.idx Job.entropyBack else s.runStarted c n j

section
variable {s : State} {c n : Nat} {j : Job}

theorem State.switched_mar : (s.switched c n j).mar = (s.runStarted c n j).mar := by
  unfold State.switched
  split <;> rfl

theorem State.switched_regs : (s.switched c n j).regs = s.regs := by
  unfold State.switched
  split <;> rfl

theorem State.runStarted_run : ((s.runStarted c n j).core c).run = s.nextRun c n j := by
  unfold State.runStarted State.setQuarter
  rw [State.core_setCore_same, State.core_setCore_same]

theorem State.switched_run : ((s.switched c n j).core c).run = s.nextRun c n j := by
  rw [← State.runStarted_run]
  unfold State.core
  rw [State.switched_mar]

theorem State.switched_quarter (p : Nat) : (s.switched c n j).quarter c p =
    if p = n then { s.quarter c n with st := .running, save := none, stallSince := none } else s.quarter c p := by
  have hmar : (s.switched c n j).quarter c p = (s.runStarted c n j).quarter c p := by
    unfold State.quarter State.core
    rw [State.switched_mar]
  rw [hmar, State.runStarted]
  split
  case isTrue hp => rw [hp, State.quarter_setQuarter_same]
  case isFalse hp => exact (State.quarter_setQuarter_ne _ _ (by simpa using hp)).trans (s.quarter_setCore c p rfl)

theorem State.switched_job? (hj : s.job? j.q j.idx = some j) :
    (s.switched c n j).job? j.q j.idx = some (if (s.quarter c n).st = .suspended then j.entropyBack else j) := by
  unfold State.switched
  split
  case isTrue => exact State.job?_updJob_place (s := s.runStarted c n j) hj (Job.entropyBack_place _ _)
  case isFalse => exact hj

section
variable (hjob : s.quarterJob c n = some j)
include hjob

theorem State.switchTo_eq : s.switchTo c n = (s.runKernel j).elim (s.switched c n j) fun k =>
    if k.badModuli then (s.switched c n j).coreFault c j k (s.nextRun c n j).pc { cause := 0x05 } else s.switched c n j := by
  unfold State.switchTo
  dsimp only
  rw [hjob]
  dsimp only
  cases s.runKernel j <;> rfl

theorem State.switchTo_switches (hgood : ∀ k, s.runKernel j = some k → k.badModuli = false) : s.switchTo c n = s.switched c n j := by
  rw [State.switchTo_eq hjob]
  cases hk : s.runKernel j with
  | none => rfl
  | some k => exact if_neg (ne_true_of_eq_false (hgood k hk))

theorem State.switchTo_faults {k : KernelX} (hk : s.runKernel j = some k) (hbad : k.badModuli = true) :
    s.switchTo c n = (s.switched c n j).coreFault c j k (s.nextRun c n j).pc { cause := 0x05 } := by
  rw [State.switchTo_eq hjob, hk]
  exact if_pos hbad

end

theorem State.precise_of_regs {t : State} (h : t.regs = s.regs) : t.precise = s.precise := by
  unfold State.precise State.flag
  simp only [State.getF_regs h]

theorem State.recordFault_jobs (s : State) (c : Nat) (f : MFault) (kernel addr : Nat) : (s.recordFault c f kernel addr).jobs = s.jobs := by
  unfold State.recordFault
  split <;> rfl

/-- In service mode a kernel fault ends its job (R278). -/
theorem State.coreFault_ends (hprecise : s.precise = false) (hj : ∃ x, s.job? j.q j.idx = some x) (k : KernelX) (pc : Nat) (f : MFault) :
    ∃ x, (s.coreFault c j k pc f).job? j.q j.idx = some x ∧ x.status = 0x0505 ∧ x.detail = f.cause ∧ x.stage = .ended := by
  obtain ⟨x, hx⟩ := hj
  unfold State.coreFault
  dsimp only
  rw [if_neg (ne_true_of_eq_false hprecise)]
  refine ⟨x.endedBy stKernelFault f.cause, State.job?_updJob_place ?_ (Job.endedBy_place _ _), rfl, rfl, rfl⟩
  rw [← hx]
  refine s.job?_of_jobs ?_ _ _
  rw [State.letGo_jobs, State.count_jobs]
  split
  · exact State.recordFault_jobs ..
  · exact State.recordFault_jobs ..

end

/-! ### Bundles, waits, barriers (R231, R253, R256, R267) -/

section
variable {s : State} {c n : Nat} {j : Job} {k : KernelX}

section
variable (hrun : s.stopped = false) (hquarter : s.runningQuarter c = some n) (hjob : s.quarterJob c n = some j) (hkernel : s.runKernel j = some k)
  (hended : (s.core c).run.ended = none) (hhalt : (s.core c).halt = none)
include hrun hquarter hjob hkernel

theorem bundleExecute_steps : exec (.bundleExecute c) s = .next (s.stepCore c n j k) := by
  have hrow : execBundleExecute c s = _ := State.clocked_run hrun _
  rw [hquarter] at hrow
  dsimp only at hrow
  rw [hjob] at hrow
  dsimp only at hrow
  rw [hkernel] at hrow
  exact hrow

include hended hhalt

/-- A core at a barrier waits for its team, or passes it. -/
theorem bundleExecute_sync (hsync : (s.core c).run.sync = true) :
    exec (.bundleExecute c) s = .next (if s.teamSynced j then s.releaseSync j else s.waitCycle c n j k false false) := by
  rw [bundleExecute_steps hrun hquarter hjob hkernel, State.stepCore]
  rw [if_neg (by simp [hhalt]), if_neg (by simp [hended]), if_pos hsync]

end

/-- A core at a bundle waits for its masks, for the farm, or executes it. -/
theorem State.RunsKernel.bundleExecute_eq (hrun : s.stopped = false) (hk : s.RunsKernel c n j k) :
    let b := k.bundleAt (s.core c).run.pc
    exec (.bundleExecute c) s = .next (
      if s.genStalled c && decide ((s.core c).run.pc < k.codeLen) && readsMask b then s.waitCycle c n j k true false
      else if decide ((s.core c).run.pc < k.codeLen) && s.hashWaits c n b then s.waitCycle c n j k false true
      else s.runBundle c n j k fun e => e.bundle b) := by
  obtain ⟨hquarter, hjob, hkernel, hended, hhalt, hsync⟩ := hk
  dsimp only
  rw [bundleExecute_steps hrun hquarter hjob hkernel, State.stepCore]
  rw [if_neg (by simp [hhalt]), if_neg (by simp [hended]), if_neg (by simp [hsync])]

end

/-! ### Suspension (R253) -/

section
variable {s : State} {j : Job} (since : Option Nat)

theorem State.stallFrom_mar : (s.stallFrom j since).mar = s.mar := by
  unfold State.stallFrom State.stallJob
  split <;> rfl

theorem State.stallFrom_getF {f : Fld} (hf : f ≠ .ENT_STALL_COUNT_COUNT) (i : Nat) : (s.stallFrom j since).getF f i = s.getF f i := by
  unfold State.stallFrom State.stallJob
  rw [State.updJob_getF]
  split
  · rfl
  · rw [State.count_getF, if_neg (by simp [hf]), State.updJob_getF]

/-- A suspended job waits for entropy as long as it did, or from the first stall. -/
theorem State.stallFrom_job? (hj : s.job? j.q j.idx = some j) : ∃ x, (s.stallFrom j since).job? j.q j.idx = some x ∧
    x.entSince = if j.entSince.isSome then j.entSince else some (since.getD s.now) := by
  have hstalled : ∃ x, (s.stallJob j).job? j.q j.idx = some x := by
    unfold State.stallJob
    split
    · exact ⟨j, hj⟩
    · exact ⟨_, State.job?_updJob_place hj fun _ hq hi => ⟨hq, hi⟩⟩
  obtain ⟨x, hx⟩ := hstalled
  exact ⟨_, State.job?_updJob_place hx fun _ hq hi => ⟨hq, hi⟩, rfl⟩

end

/-- What a suspension saves: the registers, without the reservation. -/
def CoreRun.unreserved (r : CoreRun) : CoreRun := { r with resv := none }

/-- A quarter with the registers of its suspended job. -/
def Quarter.suspended (x : Quarter) (r : CoreRun) : Quarter := { x with st := .suspended, save := some r.unreserved, stallSince := none }

/-- A core without registers. -/
def State.coreLeft (s : State) (c : Nat) : State := s.setCore c { s.core c with run := {} }

theorem State.coreLeft_run (s : State) (c : Nat) : ((s.coreLeft c).core c).run = {} := congrArg CoreX.run (s.core_setCore_same c _)

theorem State.coreLeft_quarter (s : State) (c n : Nat) : (s.coreLeft c).quarter c n = s.quarter c n := s.quarter_setCore c n rfl

/-- A core's registers in its job's quarter, the job waiting for entropy. -/
def State.runSaved (s : State) (c n : Nat) (j : Job) : State :=
  (s.stallFrom j (s.quarter c n).stallSince).setQuarter c n ((s.quarter c n).suspended (s.core c).run)

/-- A core whose job is suspended: the quarter keeps the registers, the core has none. -/
def State.suspend (s : State) (c n : Nat) (j : Job) : State := ((s.runSaved c n j).coreLeft c).count .MAR_SUSPEND_COUNT_COUNT 0 1

section
variable {s : State} {c n : Nat} {j : Job}

theorem State.RunsKernel.jobSuspend_suspends {k : KernelX} (hrun : s.stopped = false) (hk : s.RunsKernel c n j k)
    (hstall : (s.core c).run.maskStall = true) (hgen : s.genStalled c = true) : exec (.jobSuspend c) s = .next (s.suspend c n j) := by
  obtain ⟨hquarter, hjob, -⟩ := hk
  have hrow : execJobSuspend c s = _ := State.clocked_run hrun _
  rw [hquarter] at hrow
  dsimp only at hrow
  rw [hjob] at hrow
  exact hrow.trans (if_neg (by simp [hgen, hstall]))

theorem State.suspend_run : ((s.suspend c n j).core c).run = {} := (s.runSaved c n j).coreLeft_run c

theorem State.suspend_quarter : (s.suspend c n j).quarter c n = (s.quarter c n).suspended (s.core c).run :=
  ((s.runSaved c n j).coreLeft_quarter c n).trans (State.quarter_setQuarter_same _ c n _)

theorem State.suspend_count : (s.suspend c n j).getF .MAR_SUSPEND_COUNT_COUNT 0 = s.plus .MAR_SUSPEND_COUNT_COUNT 0 1 := by
  have hbefore : ((s.runSaved c n j).coreLeft c).getF .MAR_SUSPEND_COUNT_COUNT 0 = s.getF .MAR_SUSPEND_COUNT_COUNT 0 :=
    State.stallFrom_getF (s.quarter c n).stallSince (by decide) 0
  rw [State.suspend, State.count_getF, if_pos ⟨rfl, rfl⟩, State.plus, State.plus, hbefore]

theorem State.suspend_job? (q i : Nat) : (s.suspend c n j).job? q i = (s.stallFrom j (s.quarter c n).stallSince).job? q i := rfl

end

/-! ### Draining and scrubbing (R249, R254) -/

section
variable {s : State} {q i : Nat} {j : Job} (hrun : s.stopped = false) (hj : s.job? q i = some j) (hstage : j.stage = .dispatched) (hcore : j.core ≠ none)
  (inp : List Byte)
include hrun hj hstage hcore

theorem drainComplete_computed (hcomputed : j.computed = true) : exec (.drainComplete q i inp) s = .next ((s.endExecution j).getD s) := by
  have hrow : execDrainComplete q i inp s = _ := State.clocked_run hrun _
  rw [hj] at hrow
  dsimp only at hrow
  rw [if_neg (by simp [hstage, hcore]), if_pos hcomputed, hj, Option.filter_some, if_pos hcomputed] at hrow
  exact hrow

/-- With every member drained the output of member 0 is the job's, whose execution ends. -/
theorem drainComplete_drains {k : KernelX} {e : Nat × Nat} (hcomputed : j.computed = false) (hkernel : s.runKernel j = some k)
    (hfirst : (s.quartersOf q i).find? (fun e => (s.quarter e.1 e.2).member == 0) = some e)
    (hdrained : ∀ e ∈ s.quartersOf q i, (s.quarter e.1 e.2).st = .draining) {x : Job}
    (hx : (s.drained' j k (s.quarter e.1 e.2) inp).job? q i = some x) (hxc : x.computed = true) :
    exec (.drainComplete q i inp) s =
      .next (((s.drained' j k (s.quarter e.1 e.2) inp).endExecution x).getD (s.drained' j k (s.quarter e.1 e.2) inp)) := by
  have hrow : execDrainComplete q i inp s = _ := State.clocked_run hrun _
  rw [hj] at hrow
  dsimp only at hrow
  rw [if_neg (by simp [hstage, hcore]), if_neg (ne_true_of_eq_false hcomputed), hkernel, hfirst] at hrow
  dsimp only at hrow
  rw [if_pos (List.all_eq_true.2 fun e he => decide_eq_true (hdrained e he)), hx, Option.filter_some, if_pos hxc] at hrow
  exact hrow

end

/-- The output of a drained job is its outcome. -/
theorem State.drained'_job? {s : State} {j : Job} (hj : s.job? j.q j.idx = some j) (k : KernelX) (y : Quarter) (inp : List Byte) :
    ∃ x, (s.drained' j k y inp).job? j.q j.idx = some x ∧ x.computed = true :=
  ⟨_, State.endJob_job?_place hj inp _, rfl⟩

theorem quarterScrubComplete_frees {s : State} {c n : Nat} (hrun : s.stopped = false) (hst : (s.quarter c n).st = .scrubbing) :
    exec (.quarterScrubComplete c n) s = .next (s.setQuarter c n {}) := by
  have hrow : execQuarterScrubComplete c n s = _ := State.clocked_run hrun _
  exact hrow.trans (if_pos hst)

/-- A gathering whose page p is free, its rows zero. -/
def GatherX.pageFreed (x : GatherX) (p : Nat) : GatherX := { rows := x.rows.filter fun r => !(r.1 / 512 == p), pages := nset {} x.pages p {} }

theorem scratchPageScrubComplete_frees {s : State} {g p : Nat} (hrun : s.stopped = false) (hp : (nget {} (s.gather g).pages p).scrubbing = true) :
    exec (.scratchPageScrubComplete g p) s = .next (s.setGather g ((s.gather g).pageFreed p)) := by
  have hrow : execScratchPageScrubComplete g p s = _ := State.clocked_run hrun _
  exact hrow.trans (if_pos hp)

theorem State.gather_setGather_same (s : State) (g : Nat) (x : GatherX) : (s.setGather g x).gather g = x :=
  nget_nset_same ({} : GatherX) s.mar.gath g x

/-- An entry that a filter drops reads as one that is not listed. -/
theorem mget_filter_of_drop {κ α : Type} [DecidableEq κ] (d : κ → α) (p : κ × α → Bool) {k : κ} (hk : ∀ v, p (k, v) = false) (m : SMap κ α) :
    mget d (m.filter p) k = d k := by
  induction m with
  | nil => rfl
  | cons e m ih =>
    obtain ⟨k', v⟩ := e
    rw [List.filter_cons]
    split
    case isTrue hp =>
      have hkey : k' ≠ k := fun h => absurd hp (by simp [h, hk])
      rwa [mget, if_neg hkey]
    case isFalse => exact ih

section
variable (x : GatherX) (p : Nat)

theorem GatherX.pageFreed_pages_same : nget {} (x.pageFreed p).pages p = {} := nget_nset_same ({} : PageX) x.pages p {}

theorem GatherX.pageFreed_pages_ne {m : Nat} (hm : m ≠ p) : nget {} (x.pageFreed p).pages m = nget {} x.pages m :=
  nget_nset_ne ({} : PageX) x.pages {} hm

theorem GatherX.pageFreed_rows_same {r : Nat} (hr : r / 512 = p) : nget {} (x.pageFreed p).rows r = {} :=
  mget_filter_of_drop _ _ (fun _ => by simp [hr]) _

theorem GatherX.pageFreed_rows_ne {r : Nat} (hr : r / 512 ≠ p) : nget {} (x.pageFreed p).rows r = nget {} x.rows r :=
  mget_filter_of_keep _ _ (fun _ => by simpa using hr) _

end

/-- Settles O48: the choice is the head of the ranked cores; every other clause is the row of its command, and what that leaves is read off the quarter, the
core and the job it writes. -/
theorem marionettePlacement : Obligations.MarionettePlacement := by
  unfold Obligations.MarionettePlacement
  intro s q i c n j hrun
  refine ⟨?place, fun hjob hst inp => quarterLoaded_loads hrun hjob hst inp, ?next, ?switch, ?bundle, ?barrier, ?computed, ?drain, ?quarter, ?page⟩
  case place =>
    intro hj hstage hcore hpool hcomputed hset hbatch hteam hsome
    obtain ⟨c, hc, hel, hcores, hbest⟩ := s.chooseCores_best hteam hsome
    obtain ⟨n, hfree⟩ := State.eligible_firstFree hel
    obtain ⟨rfl, rfl⟩ := State.place_of_job? hj
    obtain ⟨hquarter, hplaced, hregs⟩ := State.placeOn_effects hj hfree
    obtain ⟨hn, hst, hlowest⟩ := hfree
    exact ⟨_, c, n, jobPlace_places hrun hj hstage hcore hpool hcomputed hset hbatch hteam hcores, hc, hn, hel, hst, hlowest, hbest, hquarter, hplaced,
      hregs⟩
  case next =>
    intro hidle hsome
    obtain ⟨m, hnext, hmem, hlow⟩ := State.nextQuarter_lowest hsome
    exact ⟨m, coreSwitch_switches hrun hidle hnext, hmem, hlow, jobUnsuspend_switches hrun hidle hnext⟩
  case switch =>
    intro hjob
    have hj := State.job?_of_quarterJob hjob
    have hswitched := State.switched_job? (c := c) (n := n) hj
    refine ⟨fun hgood => ?_, fun k hk hbad hprecise => ?_⟩
    · rw [State.switchTo_switches hjob hgood]
      refine ⟨State.switched_run, (State.switched_quarter n).trans (if_pos rfl), fun p hp => (State.switched_quarter p).trans (if_neg hp), fun hst => ?_⟩
      exact ⟨_, hswitched.trans (congrArg some (if_pos hst)), rfl⟩
    · rw [State.switchTo_faults hjob hk hbad]
      exact State.coreFault_ends ((State.precise_of_regs State.switched_regs).trans hprecise) ⟨_, hswitched⟩ k _ _
  case bundle =>
    intro k hk
    have hrow := hk.bundleExecute_eq hrun
    dsimp only at hrow
    refine ⟨fun hmasks hhash => ?_, fun hmasks => ?_, fun hmasks hhash => ?_, fun hstall hgen => ?_⟩
    · rw [hrow, if_neg (ne_true_of_eq_false hmasks), if_neg (ne_true_of_eq_false hhash)]
    · rw [hrow, if_pos hmasks]
    · rw [hrow, if_neg (ne_true_of_eq_false hmasks), if_pos hhash]
    · have hquarter := s.suspend_quarter (c := c) (n := n) (j := j)
      obtain ⟨-, hjob, -⟩ := id hk
      obtain ⟨x, hx, hsince⟩ := State.stallFrom_job? (s.quarter c n).stallSince (State.job?_of_quarterJob hjob)
      refine ⟨_, x, hk.jobSuspend_suspends hrun hstall hgen, congrArg Quarter.st hquarter, congrArg Quarter.save hquarter, State.suspend_run,
        State.suspend_count, hx, fun hnone => ?_, fun hsome => ?_⟩
      · rw [hsince, if_neg (by simp [hnone])]
      · rw [hsince, if_pos (Option.isSome_iff_ne_none.2 hsome)]
  case barrier =>
    intro k hquarter hjob hkernel hended hhalt hsync
    have hrow := bundleExecute_sync hrun hquarter hjob hkernel hended hhalt hsync
    exact ⟨fun hwait => hrow.trans (congrArg _ (if_neg (ne_true_of_eq_false hwait))), fun hall => hrow.trans (congrArg _ (if_pos hall))⟩
  case computed => exact fun inp hj hstage hcore hcomputed => drainComplete_computed hrun hj hstage hcore inp hcomputed
  case drain =>
    intro inp k e hj hstage hcore hcomputed hkernel hfirst hdrained
    obtain ⟨rfl, rfl⟩ := State.place_of_job? hj
    obtain ⟨x, hx, hxc⟩ := State.drained'_job? hj k (s.quarter e.1 e.2) inp
    exact ⟨x, hx, hxc, drainComplete_drains hrun hj hstage hcore inp hcomputed hkernel hfirst hdrained hx hxc⟩
  case quarter =>
    exact fun hst => ⟨_, quarterScrubComplete_frees hrun hst, s.quarter_setQuarter_same c n {}, rfl, fun d m hne => s.quarter_setQuarter_ne {} hne⟩
  case page =>
    intro g p hp
    refine ⟨_, scratchPageScrubComplete_frees hrun hp, ?_⟩
    rw [State.gather_setGather_same]
    exact ⟨GatherX.pageFreed_pages_same _ p, fun m hm => GatherX.pageFreed_pages_ne _ p hm, fun r hr => GatherX.pageFreed_rows_same _ p hr,
      fun r hr => GatherX.pageFreed_rows_ne _ p hr⟩

end Sys2Proof.Machine
end

section
/-! ## The rows of the Marionette units and the bundle of one move (R232, R246, R261 to R263, R272) -/

namespace Sys2Proof.Machine
open Sys2Proof

/-! ### Every row runs the move that it stands for (R261, R272) -/

section
variable {s : State} {c n u src f : Nat} {j : Job} {k : KernelX} {e : Instr × Nat × Nat}

/-- The command of a row is the bundle of one move from the source into the row's socket. -/
def RunsRow (s : State) (c src : Nat) (e : Instr × Nat × Nat) : Prop := exec e.1 s = .next (s.unitRow c e.2.1 src e.2.2)

/-- Every entry of the table of the rows is what the dispatch makes of its command. -/
theorem UnitRow.runsRow (h : UnitRow c u src f e) : RunsRow s c src e := by
  obtain h | h | h | h | h | h | h | h := h <;>
    exact List.forall_iff_forall_mem.1 (by and_intros <;> rfl : List.Forall (RunsRow s c src) _) e h

/-- The socket of a row is one of the 256 that a move can name. -/
def NamesSocket (e : Instr × Nat × Nat) : Prop := e.2.1 < 256

/-- Both units of a pair have such a socket. -/
theorem pair_lt {a b : Nat} (ha : a < 256) (hb : b < 256) : (if u = 0 then a else b) < 256 := by
  split
  · exact ha
  · exact hb

theorem aluTrigger_lt : (if u = 0 then tALU0 else tALU1) < 256 := pair_lt (by decide) (by decide)
theorem valuTrigger_lt : (if u = 0 then tVALU0 else tVALU1) < 256 := pair_lt (by decide) (by decide)
theorem bfyTrigger_lt : (if u = 0 then tBFY0 else tBFY1) < 256 := pair_lt (by decide) (by decide)

theorem UnitRow.namesSocket (h : UnitRow c u src f e) : NamesSocket e := by
  have written {l : List (Instr × Nat × Nat)} (hl : l.Forall NamesSocket) (he : e ∈ l) : NamesSocket e := List.forall_iff_forall_mem.1 hl e he
  obtain h | h | h | h | h | h | h | h := h <;> refine written ?_ h <;> simp only [List.Forall, NamesSocket]
  case inl => simp only [aluTrigger_lt, and_self]
  case inr.inl => simp only [valuTrigger_lt, and_self]
  case inr.inr.inl =>
    simp only [bfyTrigger_lt, and_self, and_true]
    decide
  all_goals decide

variable (hrun : s.stopped = false) (hk : s.RunsKernel c n j k)
include hrun hk

/-- A core that runs a kernel executes the one move of a row, or waits a cycle for its masks or its session (R232, R246). -/
theorem State.RunsKernel.unitRow_eq {dst : Nat} (hdst : dst < 256) (op : Nat) :
    let b := oneMove dst src op
    s.unitRow c dst src op =
      if s.genStalled c && decide ((s.core c).run.pc < k.codeLen) && (readsMask b || dst == tMSK) then s.waitCycle c n j k true false
      else if decide ((s.core c).run.pc < k.codeLen) && s.hashWaits c n b then s.waitCycle c n j k false true
      else s.runBundle c n j k fun e => (e.bundle b).settle := by
  obtain ⟨hquarter, hjob, hkernel, hended, hhalt, hsync⟩ := hk
  unfold State.unitRow
  rw [if_neg (ne_true_of_eq_false hrun), hquarter]
  dsimp only
  rw [hjob]
  dsimp only
  rw [hkernel]
  dsimp only
  rw [if_neg (by simp [hended, hhalt, hsync]), Nat.mod_eq_of_lt hdst]

theorem UnitRow.exec_runsKernel (h : UnitRow c u src f e) :
    let b := oneMove e.2.1 src e.2.2
    let inCode := decide ((s.core c).run.pc < k.codeLen)
    let masks := s.genStalled c && inCode && (readsMask b || e.2.1 == tMSK)
    let hash := inCode && s.hashWaits c n b
    (masks = false → hash = false → exec e.1 s = .next (s.runBundle c n j k fun x => (x.bundle b).settle)) ∧
      (masks = true → exec e.1 s = .next (s.waitCycle c n j k true false)) ∧
      (masks = false → hash = true → exec e.1 s = .next (s.waitCycle c n j k false true)) := by
  intro b inCode masks hash
  have hrow : exec e.1 s = _ := h.runsRow.trans (congrArg _ (hk.unitRow_eq hrun h.namesSocket e.2.2))
  refine ⟨fun hmasks hhash => ?_, fun hmasks => ?_, fun hmasks hhash => ?_⟩
  · rw [hrow, if_neg (ne_true_of_eq_false hmasks), if_neg (ne_true_of_eq_false hhash)]
  · rw [hrow, if_pos hmasks]
  · rw [hrow, if_neg (ne_true_of_eq_false hmasks), if_pos hhash]

end

/-! ### The bundle of one move (R261 to R263) -/

/-- A move that stands in a bundle alone. -/
def soleMove (dst src op : Nat) : MMove := { slot := 0, dst := dst, src := src, op := op }

section
variable (b : Nat)

/-- An empty slot holds no move. -/
theorem bundleMoves_empty (f : Nat) {n : Nat} (hempty : slotOf b n = 2 ^ 31 - 1) : bundleMoves b (f + 1) n = bundleMoves b f (n + 1) := by
  rw [bundleMoves.eq_def]
  dsimp only
  rw [hempty]
  exact if_pos (by decide)

/-- The first slot holds a move without an immediate word. -/
theorem bundleMoves_first (f : Nat) {dst src op : Nat} (hslot : slotOf b 0 = dst * 2 ^ 23 + src * 2 ^ 15 + op) (hdst : dst < 0xFF) (hsrc : src < 0xF1)
    (hop : op < 2 ^ 15) : bundleMoves b (f + 1) 0 = (bundleMoves b f 1).map fun l => soleMove dst src op :: l := by
  have hd : bits (dst * 2 ^ 23 + src * 2 ^ 15 + op) 30 23 = dst := by unfold bits; omega
  have hs : bits (dst * 2 ^ 23 + src * 2 ^ 15 + op) 22 15 = src := by unfold bits; omega
  have ho : bits (dst * 2 ^ 23 + src * 2 ^ 15 + op) 14 0 = op := by unfold bits; omega
  rw [bundleMoves.eq_def]
  dsimp only
  rw [hslot, hd, hs, ho, if_neg (fun h => hdst.ne h.1), if_neg hsrc.ne]
  rfl

variable {b} {m : MMove} (h : decodeBundle b = .ok [m])

theorem decodeBundle_sole (hmoves : bundleMoves b 4 0 = some [m]) (hlegal : m.illegal = false) : decodeBundle b = .ok [m] := by
  unfold decodeBundle
  rw [hmoves]
  simp [hlegal, clash]

include h

theorem readsMask_sole (hsrc : m.src < 0xBE) : readsMask b = false := by
  unfold readsMask
  rw [h]
  simp [hsrc]

theorem usesHash_sole (hdst : m.dst ≠ tHP ∧ m.dst ≠ tSMP) (hsrc : m.src < 0xB7) : usesHash b = false := by
  unfold usesHash
  rw [h]
  simp [hdst, hsrc.ne, (hsrc.trans (by decide : 0xB7 < 0xBA)).ne]

theorem opensSession_sole (hdst : m.dst ≠ tHP) : opensSession b = false := by
  unfold opensSession
  rw [h]
  simp [hdst]

end

section
variable {dst src op : Nat} (hdst : dst < 256) (hsrc : src < 256) (hop : op < 2 ^ 15)
include hdst hsrc hop

theorem oneMove_eq : oneMove dst src op = dst * 2 ^ 23 + src * 2 ^ 15 + op + (2 ^ 31 - 1) * 2 ^ 31 + (2 ^ 31 - 1) * 2 ^ 62 + (2 ^ 31 - 1) * 2 ^ 93 := by
  unfold oneMove
  omega

theorem slotOf_oneMove_first : slotOf (oneMove dst src op) 0 = dst * 2 ^ 23 + src * 2 ^ 15 + op := by
  rw [oneMove_eq hdst hsrc hop, slotOf]
  omega

/-- The slots behind the move are empty. -/
theorem slotOf_oneMove_rest {n : Nat} (h0 : 0 < n) (hn : n < 4) : slotOf (oneMove dst src op) n = 2 ^ 31 - 1 := by
  rw [oneMove_eq hdst hsrc hop, slotOf]
  interval_cases n <;> omega

/-- The condition of the bundle is 0: it is always taken (R267). -/
theorem condition_oneMove : bits (oneMove dst src op) 127 124 = 0 := by
  rw [oneMove_eq hdst hsrc hop, bits]
  omega

end

theorem decodeBundle_oneMove {dst src op : Nat} (hdst : dst < 0xFF) (hsrc : src < 0xF1) (hop : op < 2 ^ 15)
    (hlegal : (soleMove dst src op).illegal = false) : decodeBundle (oneMove dst src op) = .ok [soleMove dst src op] := by
  have hdst' : dst < 256 := hdst.trans (by decide)
  have hsrc' : src < 256 := hsrc.trans (by decide)
  have hrest {n : Nat} (h0 : 0 < n) (hn : n < 4) := slotOf_oneMove_rest hdst' hsrc' hop h0 hn
  refine decodeBundle_sole ?_ hlegal
  rw [bundleMoves_first _ 3 (slotOf_oneMove_first hdst' hsrc' hop) hdst hsrc hop, bundleMoves_empty _ 2 (hrest _ _), bundleMoves_empty _ 1 (hrest _ _),
    bundleMoves_empty _ 0 (hrest _ _)]
  · rfl
  all_goals decide

end Sys2Proof.Machine
end

section
/-! ## The value of an ALU row (R232, R262, R263, R267, R269, R272) -/

namespace Sys2Proof.Machine
open Sys2Proof

/-! ### A core at rest (R231, R263, R267, R269) -/

theorem CoreRun.port_setPort_same (r : CoreRun) (k : Nat) (p : Port) : (r.setPort k p).port k = p := nget_nset_same ({} : Port) r.ports k p

theorem CoreRun.port_setPort_ne (r : CoreRun) {k k' : Nat} (p : Port) (hk : k' ≠ k) : (r.setPort k p).port k' = r.port k' :=
  nget_nset_ne ({} : Port) r.ports p hk

theorem CoreRun.reg_setReg_ne (r : CoreRun) {k k' : Nat} (x : Val) (hk : k' ≠ k) : (r.setReg k x).reg k' = r.reg k' :=
  nget_nset_ne ({} : Val) r.regs _ hk

/-- The loop-end check writes loop counts alone (R269). -/
theorem CoreRun.loopEnd_eq (r : CoreRun) (pc fuel : Nat) :
    ∃ regs, (r.loopEnd pc fuel).2 = { r with regs := regs } ∧ ∀ k < 0x70, nget {} regs k = r.reg k := by
  induction fuel generalizing r with
  | zero => exact ⟨r.regs, rfl, fun _ _ => rfl⟩
  | succ fuel ih =>
    rw [CoreRun.loopEnd]
    split
    case h_1 => exact ⟨r.regs, rfl, fun _ _ => rfl⟩
    case h_2 l _ =>
      have hcount {k : Nat} (hk : k < 0x70) : (r.setReg (0x70 + l) { v := r.lc l - 1 }).reg k = r.reg k := r.reg_setReg_ne _ (by omega)
      dsimp only
      split
      · exact ⟨_, rfl, fun k hk => hcount hk⟩
      · obtain ⟨regs, heq, hregs⟩ := ih (r.setReg (0x70 + l) { v := r.lc l - 1 })
        exact ⟨regs, heq, fun k hk => (hregs k hk).trans (hcount hk)⟩

section
variable {e : Exe}

theorem Exe.fly_noFlights (h : e.run.flights = []) : e.fly = e := by
  unfold Exe.fly
  rw [h, Exe.flyAll, ← h]

theorem Exe.settle_idle (hflights : e.run.flights = []) (hwrites : e.run.writes = []) (hmoves : e.moves = []) : e.settle = e := by
  unfold Exe.settle
  cases e.fuel with
  | zero => rfl
  | succ f => exact if_pos ⟨hflights, hwrites, hmoves⟩

theorem Exe.await_ready {l : List MMove} (h : e.stalls l = false) : Exe.await l e.fuel e = e := by
  cases e.fuel with
  | zero => rfl
  | succ f => exact if_neg (by simp [h])

/-- The end of a cycle with one write of a unit due to a port, and no move. -/
theorem Exe.endCycle_port {w : PWrite} (hmoves : e.moves = []) (hwrites : e.run.writes = [w]) (hdue : w.when' ≤ e.run.cyc)
    (hport : 0x74 ≤ w.dst ∧ w.dst < 0x1000) : e.endCycle = { e with
      run := { e.run.setPort w.dst { w.val with src := none } with
        writes := [], cyc := e.run.cyc + 1, streams := e.run.streams.filter fun c => decide (e.run.cyc < c) },
      moves := [] } := by
  have happly : ({ e.run with writes := [] } : CoreRun).applyWrite w = ({ e.run with writes := [] } : CoreRun).setPort w.dst { w.val with src := none } := by
    unfold CoreRun.applyWrite
    rw [if_neg (by omega), if_neg (by omega)]
  unfold Exe.endCycle
  simp [hmoves, hwrites, hdue, happly, CoreRun.setPort]

end

/-! ### A row of ALU on a core at rest (R232, R262, R272) -/

/-- The field of an ALU row of one member in S mode that writes no predicate. -/
def scalarOp (func : Nat) : Nat := opWith func 0x307

section
variable (func : Nat)

theorem scalarOp_eq : scalarOp func = func * 1024 + 775 := rfl

theorem scalarOp_lt {func : Nat} (hfunc : func ≤ 0x11) : scalarOp func < 2 ^ 15 := by
  rw [scalarOp_eq]
  omega

theorem opFunc_scalarOp : opFunc (scalarOp func) = func := by
  rw [scalarOp_eq, opFunc]
  omega

theorem opMode_scalarOp : opMode (scalarOp func) = 3 := by
  rw [scalarOp_eq, opMode]
  omega

theorem opG_scalarOp : opG (scalarOp func) = 1 := by
  have hgrp : (func * 1024 + 775) / 64 % 4 = 0 := by omega
  rw [scalarOp_eq, opG, hgrp, Nat.pow_zero]

theorem opXF_scalarOp : opXF (scalarOp func) = 7 := by
  rw [scalarOp_eq, opXF]
  omega

end

section
variable {t func src : Nat} (ht : t = tALU0 ∨ t = tALU1) (hfunc : func ≤ 0x11)

section
include ht

/-- The triggers of ALU take secret values, under secret conditions (R248). -/
theorem alu_socket : t ∈ triggers ∧ t ∉ publicSockets ∧ t ∉ publicTriggers ∧ 0x80 < t ∧ t < 0x85 := by
  obtain rfl | rfl := ht <;> decide

theorem streaming_alu (op : Nat) (hg : opG op = 1) : streaming t op = false := by
  obtain rfl | rfl := ht <;> simp [streaming, isMac, hg, tALU0, tALU1, tMMUL]

include hfunc

theorem opLegal_scalarOp : opLegal t (scalarOp func) = true := by
  unfold opLegal
  simp [ht, opFunc_scalarOp, opMode_scalarOp, opG_scalarOp, hfunc]

theorem soleMove_legal (hsrc : src < 32) : (soleMove t src (scalarOp func)).illegal = false := by
  have hreg : ∀ k < 32, reservedSocket k = false ∧ inputSockets.contains k = false ∧ (k == 0xF0) = false := by decide
  have hport : reservedSocket t = false ∧ resultSockets.contains t = false ∧ (t == 0xF0) = false ∧ (t == 0xF1) = false ∧ (t == 0x67) = false := by
    obtain rfl | rfl := ht <;> decide
  unfold MMove.illegal soleMove
  simp only [hreg src hsrc, hport, opLegal_scalarOp ht hfunc]
  simp

theorem decodeBundle_alu (hsrc : src < 32) : decodeBundle (oneMove t src (scalarOp func)) = .ok [soleMove t src (scalarOp func)] := by
  have hsocket := alu_socket ht
  exact decodeBundle_oneMove (by omega) (by omega) (scalarOp_lt hfunc) (soleMove_legal ht hfunc hsrc)

end

variable (e : Exe)

/-- What an ALU operation leaves on its result port: the tag is that of either input (R248, R272). -/
def Exe.aluVal (e : Exe) (t op : Nat) (p : Port) : Val :=
  { v := aluOp (opFunc op) (laneW (opMode op)) (p.v % 2 ^ laneW (opMode op)) ((e.run.port (t - 1)).v % 2 ^ laneW (opMode op))
    tag := p.tag || (e.run.port (t - 1)).tag }

/-- An ALU operation issued: its trigger port holds the value moved, its result is due at the end of the cycle (R233). -/
def Exe.aluIssued (e : Exe) (t op : Nat) (p : Port) : Exe := ({ e with run := e.run.setPort t p }).answer t op (resultOf t) (e.aluVal t op p)

include ht

theorem Exe.triggerFault_alu {op : Nat} (hlegal : opLegal t op = true) (hg : opG op = 1) (p : Port) : e.triggerFault t op p = none := by
  have hinputs : groupInputs t op = [] := by obtain rfl | rfl := ht <;> rfl
  have hmld : isMld t op = false := by obtain rfl | rfl := ht <;> rfl
  have hgrouped : grouped t op = false := by simp [grouped, hg]
  unfold Exe.triggerFault
  simp only [hlegal, hinputs, hmld, hgrouped]
  obtain rfl | rfl := ht <;> rfl

theorem Exe.trigger_alu {op : Nat} (hlegal : opLegal t op = true) (hg : opG op = 1) (slot : Nat) (p : Port) : e.trigger t op slot p = e.alu t op p := by
  unfold Exe.trigger
  rw [e.triggerFault_alu ht hlegal hg]
  exact if_pos ht

/-- A compare with 7 in XF writes no predicate, as every other operation (R272). -/
theorem Exe.alu_noPredicate {op : Nat} (hxf : opXF op % 8 = 7) (p : Port) :
    ({ e with run := e.run.setPort t p } : Exe).alu t op p = e.aluIssued t op p := by
  have hoperand : (e.run.setPort t p).port (t - 1) = e.run.port (t - 1) := e.run.port_setPort_ne p (by obtain rfl | rfl := ht <;> decide)
  unfold Exe.alu Exe.aluIssued Exe.aluVal
  dsimp only
  rw [hoperand, if_neg (by simp [hxf])]

theorem Exe.perform_alu {op : Nat} (hlegal : opLegal t op = true) (hg : opG op = 1) (hxf : opXF op % 8 = 7) (secret : Bool) (p : Port) :
    e.perform secret (soleMove t src op, p) = e.aluIssued t op p := by
  obtain ⟨htrig, hpublic, hcond, hlow, hhigh⟩ := alu_socket ht
  have hnoReg : ¬t < 0x74 := by omega
  have hused : t ≠ 0xFF := by omega
  unfold Exe.perform Exe.move secretTrigger soleMove
  simp [hcond, htrig, hpublic, hnoReg, hused, streaming_alu ht op hg, Exe.trigger_alu ht _ hlegal hg, e.alu_noPredicate ht hxf]

omit ht in
/-- The value that a scalar register supplies comes from no vector register (R262, R266). -/
theorem Exe.source_scalar {op : Nat} (hsrc : src < 32) : e.source (soleMove t src op) = ⟨e.run.reg src, none⟩ := by
  have hlow : src < 0x67 := by omega
  have hscalar : ¬(0x20 ≤ src ∧ src < 0x60) := by omega
  unfold Exe.source soleMove
  dsimp only
  rw [if_pos (.inl hlow), if_neg hscalar]

omit ht in
/-- A bundle without a condition takes effect (R267). -/
theorem Exe.takes_always : e.takes 0 = true := rfl

/-- Nothing is under way on a core: no operation, no write of a unit, no stream, no jump, no fault, no END. -/
structure Exe.AtRest (e : Exe) : Prop where
  flights : e.run.flights = []
  writes : e.run.writes = []
  streams : e.run.streams = []
  moves : e.moves = []
  jump : e.jump = none
  fault : e.fault = none
  ended : e.run.ended = none

theorem Exe.AtRest.stalls_alu {e : Exe} (h : e.AtRest) {op : Nat} (hsrc : src < 32) (hg : opG op = 1) : e.stalls [soleMove t src op] = false := by
  have hresult : ∀ k < 32, k ∉ variableResults := by decide
  obtain ⟨htrig, -⟩ := alu_socket ht
  unfold Exe.stalls soleMove
  simp [h.flights, htrig, hresult src hsrc, streaming_alu ht op hg]

/-- A core at rest after an ALU operation: its trigger and result ports, its registers, the next bundle, the next cycle. -/
def Exe.aluDone (e : Exe) (t op : Nat) (p : Port) (regs : SMap Nat Val) (pc : Nat) : Exe :=
  { e with
    run := { ((e.run.setPort t p).setPort (resultOf t) { e.aluVal t op p with src := none }) with
      regs := regs, flights := [], writes := [], streams := [], pc := pc, cyc := e.run.cyc + 1 },
    moves := [], jump := none }

/-- A core at the end of its bundle, with the registers that the loop-end check leaves and the next bundle (R269). -/
def Exe.goesOn (e : Exe) (regs : SMap Nat Val) (pc : Nat) : Exe := { e with run := { e.run with regs := regs, pc := pc }, jump := none }

/-- The cycle of an issued ALU operation ends with its result on the port. -/
theorem Exe.AtRest.endCycle_alu {e : Exe} (h : e.AtRest) (op : Nat) (p : Port) (regs : SMap Nat Val) (pc : Nat) :
    ((e.aluIssued t op p).goesOn regs pc).endCycle = e.aluDone t op p regs pc := by
  obtain ⟨-, -, -, hlow, hhigh⟩ := alu_socket ht
  have hresult : 0x74 ≤ resultOf t ∧ resultOf t < 0x1000 := by
    unfold resultOf
    omega
  have hdue : e.run.cyc + unitLatency t op - 1 ≤ e.run.cyc := by
    have hlatency : unitLatency t op = 1 := if_pos (ht.imp_right .inl)
    omega
  have hwrites : ((e.aluIssued t op p).goesOn regs pc).run.writes =
      [{ when' := e.run.cyc + unitLatency t op - 1, dst := resultOf t, val := e.aluVal t op p }] :=
    congrArg (· ++ [_]) h.writes
  have hmoves : ((e.aluIssued t op p).goesOn regs pc).moves = [] := h.moves
  have hstreams : ((e.aluIssued t op p).goesOn regs pc).run.streams = [] := h.streams
  have hflights : ((e.aluIssued t op p).goesOn regs pc).run.flights = [] := h.flights
  rw [Exe.endCycle_port hmoves hwrites hdue hresult, hstreams]
  unfold CoreRun.setPort
  rw [hflights]
  rfl

/-- On a core at rest the bundle of a lone ALU move takes one cycle; b is any bundle of that move, so that no proof computes with its numeral. -/
theorem Exe.AtRest.bundle_alu {e : Exe} (h : e.AtRest) (hsrc : src < 32) {op : Nat} (hlegal : opLegal t op = true) (hg : opG op = 1) (hxf : opXF op % 8 = 7)
    (hcode : e.run.pc < e.codeLen) (hcyc : e.run.cyc < e.limit) {b : Nat} (hdecode : decodeBundle b = .ok [soleMove t src op]) (htaken : bits b 127 124 = 0) :
    ∃ regs pc, (∀ k < 0x70, nget {} regs k = e.run.reg k) ∧ e.bundle b = e.aluDone t op ⟨e.run.reg src, none⟩ regs pc := by
  obtain ⟨htrig, -, hcond, hlow, hhigh⟩ := alu_socket ht
  generalize hp : (⟨e.run.reg src, none⟩ : Port) = p
  have hcondFault : ∀ secret, e.condFault secret [(soleMove t src op, p)] = e := fun secret => by
    simp [Exe.condFault, secretTrigger, soleMove, hcond]
  have htriggers : [(soleMove t src op, p)].filter (fun m => triggers.contains m.1.dst) = [(soleMove t src op, p)] := by simp [soleMove, htrig]
  have hothers : [(soleMove t src op, p)].filter (fun m => !triggers.contains m.1.dst) = [] := by simp [soleMove, htrig]
  obtain ⟨regs, hloop, hregs⟩ := (e.aluIssued t op p).run.loopEnd_eq e.run.pc 4
  refine ⟨regs, ((e.aluIssued t op p).run.loopEnd e.run.pc 4).1, hregs, ?_⟩
  have hjump : (e.aluIssued t op p).jump = none := h.jump
  have hcycle := h.endCycle_alu ht op p regs ((e.aluIssued t op p).run.loopEnd e.run.pc 4).1
  have hended : (e.aluDone t op p regs ((e.aluIssued t op p).run.loopEnd e.run.pc 4).1).run.ended = none := h.ended
  unfold Exe.goesOn at hcycle
  dsimp only at hcycle
  unfold Exe.bundle
  rw [if_neg (by omega), hdecode]
  dsimp only
  rw [e.await_ready (h.stalls_alu ht hsrc hg), htaken, h.fault, if_neg (by simp), if_neg (by omega), Exe.fly_noFlights h.flights, List.map_singleton,
    e.source_scalar hsrc, hp, hcondFault, htriggers, hothers, if_pos e.takes_always, List.nil_append, List.foldl_cons, List.foldl_nil,
    e.perform_alu ht hlegal hg hxf]
  simp only [hjump, hloop, Option.isSome_none, Bool.false_eq_true, if_false, hcycle, hended]

end

/-! ### What a step without requests leaves (R267, R290) -/

section
variable {s : State} {c n : Nat} {j : Job} {k : KernelX} {e : Exe}

theorem State.run_setQuarter (s : State) (c n : Nat) (x : Quarter) : ((s.setQuarter c n x).core c).run = (s.core c).run := by
  unfold State.setQuarter
  rw [State.core_setCore_same]

theorem State.core_setGather (s : State) (g : Nat) (x : GatherX) (c : Nat) : (s.setGather g x).core c = s.core c := rfl

theorem State.quarter_setGather (s : State) (g : Nat) (x : GatherX) (c n : Nat) : (s.setGather g x).quarter c n = s.quarter c n := rfl

section
variable (hacts : e.acts = []) (hwritten : e.written = [])
include hacts hwritten

/-- A step that asks nothing of the hash farm and writes no scratch leaves its core, its quarter and its gathering. -/
theorem State.putExe_quiet (s : State) (c n : Nat) (j : Job) :
    let s1 := ({ s with free := e.free }).setCore c { s.core c with run := e.run }
    let s2 := s1.setQuarter c n { s1.quarter c n with rows := e.rows, sess := e.sess }
    s.putExe c n j e = s2.setGather (c / 8) { s2.gather (c / 8) with rows := e.scr } := by
  unfold State.putExe
  rw [hacts, hwritten]
  rfl

theorem State.putExe_run : ((s.putExe c n j e).core c).run = e.run := by
  rw [State.putExe_quiet hacts hwritten, State.core_setGather, State.run_setQuarter, State.core_setCore_same]

theorem State.putExe_rows : ((s.putExe c n j e).quarter c n).rows = e.rows := by
  rw [State.putExe_quiet hacts hwritten, State.quarter_setGather, State.quarter_setQuarter_same]

theorem State.putExe_regs : (s.putExe c n j e).regs = s.regs := by
  rw [State.putExe_quiet hacts hwritten]
  rfl

/-- A step without a fault and without an END leaves what it did. -/
theorem State.afterStep_quiet (hfault : e.fault = none) (hended : e.run.ended = none) (pc : Nat) : s.afterStep c n j k pc e = s.putExe c n j e := by
  have hrun : ((s.putExe c n j e).core c).run.ended = none := by rw [State.putExe_run hacts hwritten, hended]
  unfold State.afterStep State.endRun
  rw [hfault]
  dsimp only
  rw [hrun]

end

/-- The registers of a core that waits for nothing. -/
def CoreRun.ready (r : CoreRun) : CoreRun := { r with maskStall := false, hashStall := false }

/-- A core that waits for nothing. -/
def State.unstalled (s : State) (c n : Nat) : State :=
  (s.setCore c { s.core c with run := (s.core c).run.ready }).setQuarter c n { s.quarter c n with stallSince := none }

/-- A core as its bundle begins. -/
def State.startExe (s : State) (c n : Nat) (j : Job) (k : KernelX) : Exe := (s.unstalled c n).exe c n j k

theorem State.runBundle_eq (f : Exe → Exe) :
    s.runBundle c n j k f = (s.unstalled c n).afterStep c n j k (s.core c).run.pc (f (s.startExe c n j k)) := rfl

theorem State.startExe_run : (s.startExe c n j k).run = (s.core c).run.ready :=
  (State.run_setQuarter ..).trans (congrArg CoreX.run (State.core_setCore_same ..))

theorem State.startExe_rows : (s.startExe c n j k).rows = (s.quarter c n).rows := by
  unfold State.startExe State.exe State.unstalled
  dsimp only
  rw [State.quarter_setQuarter_same]

end

/-! ### The values of ALU (R272) -/

section
variable {w : Nat} (T A : BitVec w)

theorem aluOp_sub : aluOp 1 w T.toNat A.toNat = (T - A).toNat := by
  have hlt := A.isLt
  have hsum : T.toNat + 2 ^ w - A.toNat = 2 ^ w - A.toNat + T.toNat := by omega
  rw [BitVec.toNat_sub, ← hsum]
  rfl

/-- The bits of T are those that it shares with A and those that A lacks. -/
theorem aluOp_andn : aluOp 5 w T.toNat A.toNat = (T &&& ~~~A).toNat := by
  have hdisjoint : (T &&& A) &&& (T &&& ~~~A) = 0#w := by
    ext i hi
    cases hA : A[i] <;> simp [hA]
  have hunion : (T &&& A) ||| (T &&& ~~~A) = T := by
    ext i hi
    cases hA : A[i] <;> simp [hA]
  have hsum : (T &&& A) + (T &&& ~~~A) = T := (BitVec.add_eq_or_of_and_eq_zero _ _ hdisjoint).trans hunion
  have hdiff : T &&& ~~~A = T - (T &&& A) := by rw [BitVec.eq_sub_iff_add_eq, BitVec.add_comm, hsum]
  have hle : T &&& A ≤ T := by
    rw [BitVec.le_def, BitVec.toNat_and]
    exact Nat.and_le_left
  rw [hdiff, BitVec.toNat_sub_of_le hle, BitVec.toNat_and]
  rfl

theorem aluOp_shl : aluOp 6 w T.toNat A.toNat = (T <<< (A.toNat % 32)).toNat := by
  rw [BitVec.toNat_shiftLeft, Nat.shiftLeft_eq]
  show shl w T.toNat (A.toNat % 32) = _
  unfold shl
  split
  case isTrue hout => exact (Nat.mod_eq_zero_of_dvd (Dvd.dvd.mul_left (Nat.pow_dvd_pow 2 hout) _)).symm
  case isFalse => rfl

theorem aluOp_shr : aluOp 7 w T.toNat A.toNat = (T >>> (A.toNat % 32)).toNat := by
  rw [BitVec.toNat_ushiftRight, Nat.shiftRight_eq_div_pow]
  show shr w T.toNat (A.toNat % 32) = _
  unfold shr
  split
  case isTrue hout => exact (Nat.div_eq_of_lt (T.isLt.trans_le (Nat.pow_le_pow_right two_pos hout))).symm
  case isFalse => rfl

theorem toSigned_toNat : toSigned w T.toNat = T.toInt := by
  rw [toSigned, Nat.mod_eq_of_lt T.isLt, BitVec.toInt_eq_toNat_cond]

/-- Shifting by the width or by more leaves only copies of the sign. -/
theorem toInt_div_min (a : Nat) : T.toInt / ((2 ^ min a w : Nat) : Int) = T.toInt / ((2 ^ a : Nat) : Int) := by
  obtain hle | hlt := Nat.le_total a w
  · rw [Nat.min_eq_left hle]
  · have hpow : ((2 ^ w : Nat) : Int) ≤ ((2 ^ a : Nat) : Int) := by exact_mod_cast Nat.pow_le_pow_right two_pos hlt
    have hlow := BitVec.le_two_mul_toInt (x := T)
    have hhigh := BitVec.two_mul_toInt_lt (x := T)
    rw [Nat.min_eq_right hlt]
    push_cast at hpow ⊢
    obtain hneg | hpos := lt_or_ge T.toInt 0
    · rw [Int.ediv_eq_neg_one_of_neg_of_le hneg, Int.ediv_eq_neg_one_of_neg_of_le hneg] <;> omega
    · rw [Int.ediv_eq_zero_of_lt hpos (by omega), Int.ediv_eq_zero_of_lt hpos (by omega)]

theorem aluOp_sar : aluOp 8 w T.toNat A.toNat = (T.sshiftRight (A.toNat % 32)).toNat := by
  show wrapInt w (toSigned w T.toNat / ((2 ^ min (A.toNat % 32) w : Nat) : Int)) = _
  rw [toSigned_toNat, toInt_div_min, BitVec.sshiftRight, Int.shiftRight_eq_div_pow, BitVec.toNat_ofInt]
  rfl

theorem toNat_beq : (T.toNat == A.toNat) = (T == A) := by
  rw [Bool.eq_iff_iff, beq_iff_eq, beq_iff_eq, BitVec.toNat_inj]

theorem aluOp_cmpeq : aluOp 0x0D w T.toNat A.toNat = b2n (T == A) := congrArg b2n (toNat_beq T A)

theorem aluOp_cmpne : aluOp 0x0E w T.toNat A.toNat = b2n (T != A) := congrArg (fun b => b2n !b) (toNat_beq T A)

theorem aluOp_cmplts : aluOp 0x10 w T.toNat A.toNat = b2n (T.slt A) := by
  show b2n (decide (toSigned w T.toNat < toSigned w A.toNat)) = _
  rw [toSigned_toNat, toSigned_toNat]
  rfl

end

section
variable (e : Exe) (t op : Nat) (p : Port) (regs : SMap Nat Val) (pc : Nat)

theorem Exe.aluDone_port : (e.aluDone t op p regs pc).run.port (resultOf t) = { e.aluVal t op p with src := none } :=
  CoreRun.port_setPort_same (e.run.setPort t p) (resultOf t) _

theorem Exe.settle_aluDone : (e.aluDone t op p regs pc).settle = e.aluDone t op p regs pc := Exe.settle_idle rfl rfl rfl

variable {e t op p regs pc}

theorem Exe.AtRest.afterStep_aluDone (h : e.AtRest) (hacts : e.acts = []) (hwritten : e.written = []) (s : State) (c n : Nat) (j : Job) (k : KernelX)
    (at' : Nat) : s.afterStep c n j k at' (e.aluDone t op p regs pc) = s.putExe c n j (e.aluDone t op p regs pc) := by
  have hacts' : (e.aluDone t op p regs pc).acts = [] := hacts
  have hwritten' : (e.aluDone t op p regs pc).written = [] := hwritten
  have hfault : (e.aluDone t op p regs pc).fault = none := h.fault
  have hended : (e.aluDone t op p regs pc).run.ended = none := h.ended
  exact State.afterStep_quiet hacts' hwritten' hfault hended at'

end

/-! ### The rows of ALU (R232, R262, R272) -/

/-- The command i leaves the value v of an ALU operation on the result port behind trigger t of core c, with the tag of its inputs, and the scalar and vector
registers, operand memory and the device's registers as they were. -/
def State.AluLeaves (s : State) (c n src t : Nat) (e : Instr × Nat) : Prop :=
  ∃ x, exec e.1 s = .next x ∧ ((x.core c).run.port (t + 1)).v = e.2 ∧
    ((x.core c).run.port (t + 1)).tag = (((s.core c).run.reg src).tag || ((s.core c).run.port (t - 1)).tag) ∧
    (∀ r < 0x70, (x.core c).run.reg r = (s.core c).run.reg r) ∧ (x.quarter c n).rows = (s.quarter c n).rows ∧ x.regs = s.regs

section
variable {s : State} {c n : Nat} {j : Job} {k : KernelX} {t func src : Nat} (hrun : s.stopped = false) (hk : s.RunsKernel c n j k)
  (ht : t = tALU0 ∨ t = tALU1) (hfunc : func ≤ 0x11) (hsrc : src < 32)

section
include hrun hk ht hfunc hsrc

/-- The move of an ALU row waits for neither masks nor sessions. -/
theorem State.RunsKernel.unitRow_alu : s.unitRow c t src (scalarOp func) =
    s.runBundle c n j k fun e => (e.bundle (oneMove t src (scalarOp func))).settle := by
  have hdecode := decodeBundle_alu ht hfunc hsrc
  obtain ⟨-, -, -, hlow, hhigh⟩ := alu_socket ht
  have hother : t ≠ tHP ∧ t ≠ tSMP ∧ t ≠ tMSK := by obtain rfl | rfl := ht <;> decide
  obtain ⟨hhp, hsmp, hmsk⟩ := hother
  have hmask := readsMask_sole hdecode (show src < 0xBE by omega)
  have hhash := usesHash_sole hdecode ⟨hhp, hsmp⟩ (show src < 0xB7 by omega)
  have hopen := opensSession_sole hdecode hhp
  rw [hk.unitRow_eq hrun (by omega : t < 256), hmask, State.hashWaits, hhash, hopen, if_neg (by simp [hmsk]), if_neg (by simp)]

end

variable (hflights : (s.core c).run.flights = []) (hwrites : (s.core c).run.writes = []) (hstreams : (s.core c).run.streams = [])
include hk hflights hwrites hstreams

theorem State.RunsKernel.startExe_atRest : (s.startExe c n j k).AtRest := by
  obtain ⟨-, -, -, hended, -⟩ := hk
  have hrun := s.startExe_run (c := c) (n := n) (j := j) (k := k)
  constructor
  case flights => exact (congrArg CoreRun.flights hrun).trans hflights
  case writes => exact (congrArg CoreRun.writes hrun).trans hwrites
  case streams => exact (congrArg CoreRun.streams hrun).trans hstreams
  case ended => exact (congrArg CoreRun.ended hrun).trans hended
  all_goals rfl

include hrun ht hfunc hsrc

/-- The row executed: the core, which waits for nothing, has done the operation. -/
theorem State.RunsKernel.unitRow_aluDone (hpc : (s.core c).run.pc < k.codeLen) (hcyc : (s.core c).run.cyc < k.cycleLimit) :
    ∃ regs pc, (∀ r < 0x70, nget {} regs r = (s.startExe c n j k).run.reg r) ∧ s.unitRow c t src (scalarOp func) =
      (s.unstalled c n).putExe c n j ((s.startExe c n j k).aluDone t (scalarOp func) ⟨(s.startExe c n j k).run.reg src, none⟩ regs pc) := by
  have hrest := hk.startExe_atRest hflights hwrites hstreams
  have hbefore := s.startExe_run (c := c) (n := n) (j := j) (k := k)
  obtain ⟨-, -, -, hlow, hhigh⟩ := alu_socket ht
  have hcode : (s.startExe c n j k).run.pc < (s.startExe c n j k).codeLen := by
    rw [hbefore]
    exact hpc
  have hlimit : (s.startExe c n j k).run.cyc < (s.startExe c n j k).limit := by
    rw [hbefore]
    exact hcyc
  have hxf : opXF (scalarOp func) % 8 = 7 := by rw [opXF_scalarOp]
  have hdecode := decodeBundle_alu ht hfunc hsrc
  have htaken := condition_oneMove (by omega : t < 256) (by omega : src < 256) (scalarOp_lt hfunc)
  obtain ⟨regs, pc, hregs, hbundle⟩ := hrest.bundle_alu ht hsrc (opLegal_scalarOp ht hfunc) (opG_scalarOp func) hxf hcode hlimit hdecode htaken
  refine ⟨regs, pc, hregs, ?_⟩
  rw [hk.unitRow_alu hrun ht hfunc hsrc, State.runBundle_eq, hbundle, Exe.settle_aluDone, hrest.afterStep_aluDone rfl rfl]

/-- An ALU row ends with its value on the result port; what it leaves alone is read off the core and the quarter that it puts back. -/
theorem State.RunsKernel.aluRow_leaves (hpc : (s.core c).run.pc < k.codeLen) (hcyc : (s.core c).run.cyc < k.cycleLimit) {i : Instr}
    (hexec : exec i s = .next (s.unitRow c t src (scalarOp func))) :
    s.AluLeaves c n src t (i, aluOp func 28 (((s.core c).run.reg src).v % 2 ^ 28) (((s.core c).run.port (t - 1)).v % 2 ^ 28)) := by
  obtain ⟨regs, pc, hregs, hrow⟩ := hk.unitRow_aluDone hrun ht hfunc hsrc hflights hwrites hstreams hpc hcyc
  have hbefore := s.startExe_run (c := c) (n := n) (j := j) (k := k)
  refine ⟨_, hexec.trans (congrArg _ hrow), ?_⟩
  rw [State.putExe_run rfl rfl, State.putExe_rows rfl rfl, State.putExe_regs rfl rfl]
  refine ⟨?_, ?_, fun r hr => (hregs r hr).trans (by rw [hbefore]; rfl), ?_, rfl⟩
  · rw [← resultOf, Exe.aluDone_port, Exe.aluVal, opFunc_scalarOp, opMode_scalarOp, hbefore]
    rfl
  · rw [← resultOf, Exe.aluDone_port, Exe.aluVal, hbefore]
    rfl
  · exact s.startExe_rows (j := j) (k := k)

end

/-- Settles O51: a unit row is its one-move bundle or a cycle of its wait, by the table of the rows; the bundle of an ALU row on a core at rest issues its
operation and ends with its value on the result port. -/
theorem unitRowsRunTheirMove : Obligations.UnitRowsRunTheirMove := by
  unfold Obligations.UnitRowsRunTheirMove
  intro s c n j k u src hrun hk
  refine ⟨fun f e h => h.exec_runsKernel hrun hk, ?_⟩
  intro hflights hwrites hstreams hpc hcyc hsrc _ port T A f one
  have ht : port = tALU0 ∨ port = tALU1 := ite_eq_or_eq ..
  have hT : T.toNat = ((s.core c).run.reg src).v % 2 ^ 28 := BitVec.toNat_ofNat ..
  have hA : A.toNat = ((s.core c).run.port (port - 1)).v % 2 ^ 28 := BitVec.toNat_ofNat ..
  clear_value T A
  have row {func v : Nat} {i : Instr} (hfunc : func ≤ 0x11) (hexec : exec i s = .next (s.unitRow c port src (scalarOp func)))
      (hv : aluOp func 28 T.toNat A.toNat = v) : s.AluLeaves c n src port (i, v) := by
    rw [← hv, hT, hA]
    exact hk.aluRow_leaves hrun ht hfunc hsrc hflights hwrites hstreams hpc hcyc hexec
  refine List.forall_iff_forall_mem.1 (?_ : List.Forall (s.AluLeaves c n src port) _)
  exact ⟨row (func := 0x00) (by decide) rfl (BitVec.toNat_add ..).symm,
    row (func := 0x01) (by decide) rfl (aluOp_sub T A),
    row (func := 0x02) (by decide) rfl (BitVec.toNat_and ..).symm,
    row (func := 0x03) (by decide) rfl (BitVec.toNat_or ..).symm,
    row (func := 0x04) (by decide) rfl (BitVec.toNat_xor ..).symm,
    row (func := 0x05) (by decide) rfl (aluOp_andn T A),
    row (func := 0x06) (by decide) rfl (aluOp_shl T A),
    row (func := 0x07) (by decide) rfl (aluOp_shr T A),
    row (func := 0x08) (by decide) rfl (aluOp_sar T A),
    row (func := 0x09) (by decide) rfl rfl,
    row (func := 0x0A) (by decide) rfl rfl,
    row (func := 0x0B) (by decide) rfl (BitVec.toNat_mul ..).symm,
    row (func := 0x0C) (by decide) rfl rfl,
    row (func := 0x0D) (by decide) rfl (aluOp_cmpeq T A),
    row (func := 0x0E) (by decide) rfl (aluOp_cmpne T A),
    row (func := 0x0F) (by decide) rfl rfl,
    row (func := 0x10) (by decide) rfl (aluOp_cmplts T A),
    row (func := 0x11) (by decide) rfl rfl⟩

end Sys2Proof.Machine
end

section
/-! ## The step function, the state after reset, the identities of the blocks (R6, R405, R524) -/
namespace Sys2Proof.Machine
open Sys2Proof

-- The proofs are elaborated one after another: one that waits for another's premises would keep a thread of its own.
set_option Elab.async false

/-- Settles O1: the queue is taken apart by the definition of a step. -/
theorem stepRunsTheFrontCommand : Obligations.StepRunsTheFrontCommand := by
  unfold Obligations.StepRunsTheFrontCommand
  intro c rest s
  rfl

/-- Settles O5: no register is listed in the state after reset, and its clocks stand at 0. -/
theorem resetMeetsTheInvariant : Obligations.ResetMeetsTheInvariant := by
  unfold Obligations.ResetMeetsTheInvariant
  have hregs : State.reset.regsOk := ⟨rfl, fun _ he => absurd he List.not_mem_nil⟩
  have htime : State.reset.timeOk := by
    unfold State.timeOk
    decide
  exact ⟨⟨hregs, htime⟩, rfl, rfl, rfl⟩

/-- A register that the function does not answer reads as zero (R30). -/
theorem State.regValue_unreadable {s : State} {r : Reg} {i : Nat} (h : s.readable r i = false) : s.regValue r i = 0 := by
  simp [State.regValue, h]

/-- The identity of a block while its fields hold their reset values (R524). -/
theorem State.regValue_blkId {s : State} {n : Nat} (hn : n < 22) (hreset : ∀ f ∈ Reg.BLK_ID.fields, s.getF f n = f.reset n)
    (h : s.readable .BLK_ID n = true) : s.regValue .BLK_ID n = n * 2 ^ 24 + 0x014816 := by
  have hfields : Reg.BLK_ID.fields = [.BLK_ID_VECTOR, .BLK_ID_REVISION, .BLK_ID_PART] := rfl
  have hview : ∀ f ∈ Reg.BLK_ID.fields, s.view f n = f.reset n := by
    intro f hf
    rw [← hreset f hf]
    rw [hfields] at hf
    fin_cases hf <;> rfl
  have hvector : Fld.BLK_ID_VECTOR.reset n = n := Nat.mod_eq_of_lt (by omega : n < 256)
  have hrevision : Fld.BLK_ID_REVISION.reset n = 1 := rfl
  have hpart : Fld.BLK_ID_PART.reset n = 0x4816 := rfl
  have hlo : Fld.BLK_ID_VECTOR.desc.lo = 24 ∧ Fld.BLK_ID_REVISION.desc.lo = 16 ∧ Fld.BLK_ID_PART.desc.lo = 0 := ⟨rfl, rfl, rfl⟩
  simp only [hfields, List.mem_cons, List.not_mem_nil, or_false, forall_eq_or_imp, forall_eq, hvector, hrevision, hpart] at hview
  unfold State.regValue
  rw [if_pos h, hfields]
  simp [hview, hlo]

/-- Settles O7: the three fields of a block's identity hold their reset values, the vector being the block's own number. -/
theorem blockIdentities : Obligations.BlockIdentities := by
  unfold Obligations.BlockIdentities
  intro s n hn hreset
  have hid : s.getF .LCO_STATE_STATE 0 ≠ 0xF ∨ n = 0 → s.regValue .BLK_ID n = n * 2 ^ 24 + 0x014816 := by
    intro h
    refine State.regValue_blkId hn hreset ?_
    rcases h with h | rfl
    · simp [State.readable, h]
    · simp [State.readable]
  refine ⟨hid, ?_, ?_, ?_⟩
  · rintro h rfl
    exact hid (.inl h)
  · rintro h rfl
    exact hid (.inl h)
  · intro hend r i hlco hblk
    refine State.regValue_unreadable ?_
    simpa [State.readable, hend, hlco] using hblk

end Sys2Proof.Machine
end

section
/-! ## Causes cleared, limits ended, enables set (R54, R514, R515, R517) -/

namespace Sys2Proof.Machine
open Sys2Proof

-- The proofs are elaborated one after another: one that waits for another's premises would keep a thread of its own.
set_option Elab.async false

/-! ### One bit of a word -/

theorem bit_two_pow (c n : Nat) : bit (2 ^ c) n = decide (n = c) := by
  unfold bit
  rw [Nat.testBit_two_pow]
  exact decide_eq_decide.2 eq_comm

theorem toNat_ofNat_two_pow {c : Nat} (hc : c < 32) : (BitVec.ofNat 32 (2 ^ c)).toNat = 2 ^ c := by
  rw [BitVec.toNat_ofNat]
  exact Nat.mod_eq_of_lt (Nat.pow_lt_pow_right (by decide) hc)

/-- Of a word with one bit, the bits are that one. -/
theorem filter_bit_two_pow {n c : Nat} (hc : c < n) : ((List.range n).filter fun k => bit (2 ^ c) k) = [c] := by
  simp only [bit_two_pow]
  have hcount : (List.range n).count c = 1 := List.count_eq_one_of_mem List.nodup_range (List.mem_range.2 hc)
  have heq : (List.range n).filter (· == c) = [c] := by rw [List.filter_beq, hcount, List.replicate_one]
  exact heq

/-- A set bit cleared. -/
theorem setBits_zero_of_bit {x c : Nat} (h : bit x c = true) : setBits x c c 0 = x - 2 ^ c := by
  have hone : bits x c c = 1 := by
    unfold bits
    unfold bit at h
    rw [Nat.testBit_eq_decide_div_mod_eq] at h
    simpa using h
  simp [setBits, hone]

/-! ### Causes (R515, R517) -/

section
variable {s : State} {blk c : Nat}

theorem State.clearCause_unset (h : bit (s.getF .BLK_ERR_STATUS_CAUSE blk) c = false) : s.clearCause blk c = s := if_pos (by simp [h])

theorem State.clearCause_lasting (h : bit (s.getF .BLK_ERR_STATUS_CAUSE blk) c = true) (hlast : s.causeHolds blk c = true) :
    s.clearCause blk c = s.clearRefused blk := by
  simp [State.clearCause, h, hlast]

theorem State.clearCause_ended (h : bit (s.getF .BLK_ERR_STATUS_CAUSE blk) c = true) (hend : s.causeHolds blk c = false) :
    s.clearCause blk c = s.setF .BLK_ERR_STATUS_CAUSE blk (s.getF .BLK_ERR_STATUS_CAUSE blk - 2 ^ c) := by
  simp [State.clearCause, h, hend, setBits_zero_of_bit h]

variable (hs : s.Serves) (hc : c < 32)
include hs hc

/-- A write of 1 to one bit of a block other than ENT: its recovery count is reset for a limit cause, and the cause cleared or refused. -/
theorem State.Serves.errStatusClear_bit (hent : blk ≠ blkENT) :
    exec (.errStatusClear blk (BitVec.ofNat 32 (2 ^ c))) s = .next ((s.dropLimit blk (2 ^ c)).clearCause blk c) := by
  refine (hs.mmio _ : execErrStatusClear _ _ s = _).trans ?_
  simp only [toNat_ofNat_two_pow hc, hent, decide_false, Bool.false_and, Bool.not_false, Bool.and_true, filter_bit_two_pow hc,
    Bool.false_eq_true, if_false, List.foldl_cons, List.foldl_nil]

/-- In a block without a limit cause only the cause is written. -/
theorem State.Serves.errStatusClear_plain (hlimit : limitCause blk = none) :
    exec (.errStatusClear blk (BitVec.ofNat 32 (2 ^ c))) s = .next (s.clearCause blk c) := by
  have hent : blk ≠ blkENT := by
    rintro rfl
    exact absurd hlimit (by decide)
  have hdrop : s.dropLimit blk (2 ^ c) = s := by
    unfold State.dropLimit
    rw [hlimit]
  rw [hs.errStatusClear_bit hc hent, hdrop]

end

/-- The state after a limit cause has been cleared: no recovery counted, and PCI trains at every rate again (R54, R517). -/
def State.limitDropped (s : State) (blk : Nat) : State :=
  { s.setF .BLK_RECOVERY_COUNT_COUNT blk 0 with pci := if blk = 1 then { s.pci with limited := false } else s.pci }

theorem State.dropLimit_of_limitCause {blk c : Nat} (s : State) (h : limitCause blk = some c) : s.dropLimit blk (2 ^ c) = s.limitDropped blk := by
  unfold State.dropLimit State.limitDropped
  rw [h]
  by_cases hpci : blk = 1 <;> simp [bit_two_pow, hpci, blkPCI]
  rfl

/-! ### Enables (R514) -/

/-- A bit goes from 0 to 1 while its cause is set. -/
def State.enablesSetCause (s : State) (blk v : Nat) : Prop :=
  ∃ c < 32, bit v c = true ∧ bit (s.getF .BLK_ERR_IRQ_EN_EN blk) c = false ∧ bit (s.getF .BLK_ERR_STATUS_CAUSE blk) c = true

theorem State.Serves.errIrqEnWrite_eq {s : State} (hs : s.Serves) (blk : Nat) (v : W32) [Decidable (s.enablesSetCause blk v.toNat)] :
    exec (.errIrqEnWrite blk v) s = .next (if s.enablesSetCause blk v.toNat then (s.setF .BLK_ERR_IRQ_EN_EN blk v.toNat).sendVector blk
      else s.setF .BLK_ERR_IRQ_EN_EN blk v.toNat) := by
  refine (hs.mmio _ : execErrIrqEnWrite _ _ s = _).trans ?_
  have hany : ((List.range 32).any fun c => bit v.toNat c && !bit (s.getF .BLK_ERR_IRQ_EN_EN blk) c && bit (s.getF .BLK_ERR_STATUS_CAUSE blk) c) =
      decide (s.enablesSetCause blk v.toNat) := by
    rw [Bool.eq_iff_iff, decide_eq_true_iff]
    simp [State.enablesSetCause, and_assoc]
  simp only [hany, decide_eq_true_eq]
  split <;> rfl

/-- Settles O11: a clear of one bit is one clear of that cause, after the limit's count is reset where it is the limit's; an enable write sends the vector
where it enables a set cause. -/
theorem blockErrorsLatchAndClear : Obligations.BlockErrorsLatchAndClear := by
  unfold Obligations.BlockErrorsLatchAndClear
  refine ⟨fun s blk c hs _ hlimit hc hok => ?_, fun s blk c hs hok hmem hset => ?_, fun s blk v hs => ?_⟩
  · rw [hs.errStatusClear_plain hc hlimit]
    refine ⟨fun h => ?_, fun h hlast => ⟨_, rfl, ?_⟩, fun h hend => ⟨_, rfl, ?_⟩⟩
    · rw [State.clearCause_unset h]
    · rw [State.clearCause_lasting h hlast]
      exact s.count_sets _ _ _
    · rw [State.clearCause_ended h hend]
      exact (Sets.refl s).setF _ _ _ (by simp) ((Nat.sub_le _ _).trans_lt (State.getF_lt hok _ _))
  · have hlimit : limitCause blk = some c ∧ blk ≠ blkENT ∧ c < 32 ∧ ∀ t : State, t.causeHolds blk c = false := by
      simp only [List.mem_cons, List.not_mem_nil, or_false, Prod.mk.injEq] at hmem
      rcases hmem with ⟨rfl, rfl⟩ | ⟨rfl, rfl⟩ | ⟨rfl, rfl⟩ <;> exact ⟨rfl, by decide, by decide, fun _ => rfl⟩
    obtain ⟨hlimit, hent, hc, hend⟩ := hlimit
    have hkept : (s.limitDropped blk).getF .BLK_ERR_STATUS_CAUSE blk = s.getF .BLK_ERR_STATUS_CAUSE blk := State.getF_setF_ne s _ (by simp)
    rw [hs.errStatusClear_bit hc hent, s.dropLimit_of_limitCause hlimit, State.clearCause_ended (hkept.symm ▸ hset) (hend _), hkept]
    refine ⟨_, rfl, ?_, ?_, fun f i hf => ?_, rfl⟩
    · rw [State.getF_setF_same]
      exact Nat.mod_eq_of_lt ((Nat.sub_le _ _).trans_lt (State.getF_lt hok _ _))
    · rw [State.getF_setF_ne _ _ (by simp)]
      exact State.getF_setF_same s _ _ _
    · simp only [List.mem_cons, List.not_mem_nil, or_false, not_or] at hf
      rw [State.getF_setF_ne _ _ hf.1]
      exact State.getF_setF_ne s _ hf.2
  · classical
    refine ⟨fun (hsome : s.enablesSetCause blk v.toNat) => ?_, fun hnone => ?_⟩
    · rw [hs.errIrqEnWrite_eq, if_pos hsome]
    · have hnot : ¬s.enablesSetCause blk v.toNat := by
        rintro ⟨c, hc, hnew, hold, hcause⟩
        exact absurd hcause (by simp [hnone c hc hnew hold])
      rw [hs.errIrqEnWrite_eq, if_neg hnot]
      exact ⟨_, rfl, (Sets.refl s).setF _ _ _ (by simp) v.isLt⟩

end Sys2Proof.Machine
end

section
/-! ## The SMBus target (R529 to R531) -/

namespace Sys2Proof.Machine
open Sys2Proof

-- The proofs are elaborated one after another: one that waits for another's premises would keep a thread of its own.
set_option Elab.async false

/-! ### Alert bits -/

/-- The alert bits of a list cleared, those alone of which the byte written holds a 1. -/
theorem State.clearAlerts_fold (v : Nat) (l : List Nat) (s : State) :
    let t := l.foldl (fun (t : State) n =>
      if bit v n then t.setF .SMB_ALERT_STATUS_ALERT 0 (setBits (t.getF .SMB_ALERT_STATUS_ALERT 0) n n 0) else t) s
    t = { s with regs := t.regs } ∧
      (∀ n < 6, bit (t.getF .SMB_ALERT_STATUS_ALERT 0) n = (bit (s.getF .SMB_ALERT_STATUS_ALERT 0) n && !(decide (n ∈ l) && bit v n))) ∧
      ∀ f i, (f, i) ≠ (.SMB_ALERT_STATUS_ALERT, 0) → t.getF f i = s.getF f i := by
  induction l generalizing s with
  | nil => exact ⟨rfl, by simp, fun _ _ _ => rfl⟩
  | cons m l ih =>
    rw [List.foldl_cons]
    by_cases hm : bit v m = true
    · rw [if_pos hm]
      obtain ⟨hframe, hbit, hrest⟩ := ih (s.setF .SMB_ALERT_STATUS_ALERT 0 (setBits (s.getF .SMB_ALERT_STATUS_ALERT 0) m m 0))
      refine ⟨hframe, fun n hn => ?_, fun f i hf => (hrest f i hf).trans (State.getF_setF_ne s _ hf)⟩
      have hset : bit (setBits (s.getF .SMB_ALERT_STATUS_ALERT 0) m m 0 % 2 ^ 6) n =
          (bit (s.getF .SMB_ALERT_STATUS_ALERT 0) n && !decide (n = m)) := by
        have hcut : ∀ x, bit (x % 2 ^ 6) n = bit x n := fun x => by
          unfold bit
          rw [Nat.testBit_mod_two_pow, decide_eq_true hn, Bool.true_and]
        rw [hcut]
        by_cases hnm : n = m
        · subst hnm
          simp [bit_setBits_zero]
        · simp [bit_setBits_zero_ne _ hnm, hnm]
      rw [hbit n hn, State.getF_setF_same, width_SMB_ALERT_STATUS_ALERT, hset]
      by_cases hnm : n = m
      · subst hnm
        simp [hm]
      · simp [hnm]
    · rw [if_neg hm]
      obtain ⟨hframe, hbit, hrest⟩ := ih s
      refine ⟨hframe, fun n hn => ?_, hrest⟩
      rw [hbit n hn]
      by_cases hnm : n = m
      · subst hnm
        simp [hm]
      · simp [hnm]

/-! ### Answers and refusals -/

theorem State.smbRead_running {s : State} (hs : s.Running) (code : Nat) (d : List Byte) (p : Bool) : s.smbRead code d p =
    .next (s.say (.smb (if p then d ++ leBytes 1 (pec (leBytes 1 (2 * s.smbAddress) ++ leBytes 1 code ++ leBytes 1 (2 * s.smbAddress + 1) ++ d)) else d))) :=
  if_neg (by simp [show s.smbOn = true from hs])

theorem State.smbRead_stopped {s : State} (hs : ¬s.Running) (code : Nat) (d : List Byte) (p : Bool) : s.smbRead code d p = .next s := by
  have hoff : s.smbOn = false := by simpa [State.Running] using hs
  exact if_pos (by simp [hoff])

/-- What is raised sends at most a vector after what was sent. -/
theorem State.raiseErr_sent_prefix (s : State) (b c u y : Nat) : s.sent <+: (s.raiseErr b c u y).sent := by
  have hsend : ∀ (t : State) v, t.sent <+: (t.sendVector v).sent := by
    intro t v
    unfold State.sendVector
    split
    · exact List.prefix_rfl
    · split
      · exact List.prefix_append _ _
      · exact List.prefix_rfl
  unfold State.raiseErr
  dsimp only
  split
  · split
    · unfold State.blockVector
      refine List.IsPrefix.trans ?_ (hsend _ _)
      exact List.prefix_rfl
    · exact List.prefix_rfl
  · exact List.prefix_rfl

/-- The first error of a block is latched with its cause and syndrome (R514). -/
theorem State.raiseErr_first (s : State) {b c u y : Nat} (hclear : s.getF .BLK_ERR_STATUS_CAUSE b = 0) (hc : c < 2 ^ 8) (hy : y < 2 ^ 48) :
    (s.raiseErr b c u y).getF .BLK_ERR_FIRST_CAUSE b = c ∧ (s.raiseErr b c u y).getF .BLK_ERR_FIRST_SYNDROME b = y := by
  unfold State.raiseErr
  dsimp only
  rw [if_pos hclear]
  constructor <;>
  · split
    · exact (State.sendVector_getF _ _ _ _ (by decide)).trans (by simp [State.setCause]; omega)
    · simp [State.setCause]
      omega

/-- A refused transfer is NACKed, counted and latched as PROTOCOL with its command code (R519, R529). -/
theorem State.smbRefuse_effect (s : State) {code : Nat} (hcode : code < 256) :
    Msg.smbNack ∈ (s.smbRefuse code).sent.drop s.sent.length ∧
      (s.smbRefuse code).getF .SMB_PROTOCOL_COUNT_COUNT 0 = s.plus .SMB_PROTOCOL_COUNT_COUNT 0 1 ∧
      bit ((s.smbRefuse code).getF .BLK_ERR_STATUS_CAUSE 21) 0 = true ∧
      (s.getF .BLK_ERR_STATUS_CAUSE 21 = 0 → (s.smbRefuse code).getF .BLK_ERR_FIRST_CAUSE 21 = 0 ∧ (s.smbRefuse code).getF .BLK_ERR_FIRST_SYNDROME 21 = code) := by
  unfold State.smbRefuse
  refine ⟨?_, ?_, ?_, fun hclear => State.raiseErr_first _ ?_ (by decide) (by omega)⟩
  · obtain ⟨l, hl⟩ := ((s.say .smbNack).count .SMB_PROTOCOL_COUNT_COUNT 0 1).raiseErr_sent_prefix blkSMB 0 0 code
    rw [← hl]
    simp
  · rw [State.raiseErr_getF _ _ _ _ _ _ _ (by decide), State.count_getF, if_pos ⟨rfl, rfl⟩]
    rfl
  · exact (State.raiseErr_cause_bit _ 21 0 code (by decide)).trans (by simp)
  · exact (State.getF_setF_ne _ _ (by decide)).trans hclear

/-- Settles O12: each command of the target is an answer, a clear or a refusal. -/
theorem smbusTarget : Obligations.SmbusTarget := by
  unfold Obligations.SmbusTarget
  refine ⟨fun s p => ⟨fun hs => ?_, ?_, fun hs c hc => ?_⟩, fun s hs _ => ⟨fun v sent hsent => ?_, fun code pecBad hbad => ?_, fun halert => ?_⟩⟩
  · exact ⟨State.smbRead_running hs .., State.smbRead_running hs .., State.smbRead_running hs .., State.smbRead_running hs ..,
      State.smbRead_running hs .., State.smbRead_running hs ..⟩
  · show s.clocked _ = _
    exact ite_self _
  · simp only [List.mem_cons, List.not_mem_nil, or_false] at hc
    rcases hc with rfl | rfl | rfl | rfl | rfl | rfl <;> exact State.smbRead_stopped hs ..
  · have hclear : exec (.smbClearAlertStatus v sent) s = .next (s.clearAlerts v.toNat) := by
      show execSmbClearAlertStatus v sent s = _
      have hon : s.smbOn = true := hs
      rcases hsent with rfl | rfl <;> simp [execSmbClearAlertStatus, hon, leBytes, State.smbAddr]
    obtain ⟨hframe, hbit, hrest⟩ := State.clearAlerts_fold v.toNat (List.range 6) s
    refine ⟨_, hclear, hframe, fun n hn => (hbit n hn).trans ?_, hrest⟩
    simp [hn]
  · have hrefuse : exec (.smbBadCommand code pecBad) s = .next (s.smbRefuse code.toNat) := by
      refine if_neg ?_
      have hon : s.smbOn = true := hs
      rcases hbad with h | h
      · simp [hon, h]
      · simp [hon, h]
    exact ⟨_, hrefuse, s.smbRefuse_effect code.isLt⟩
  · exact if_pos halert

end Sys2Proof.Machine
end

section
/-! ## Microwords (R423, R426, R428, R430) -/

namespace Sys2Proof.Machine
open Sys2Proof

-- The proofs are elaborated one after another: one that waits for another's premises would keep a thread of its own.
set_option Elab.async false

/-! ### One microword issued -/

/-- What a microword's outcome makes of the state, for thread t of binder b that stands at x. -/
def Micro.settle (m : Micro) (s : State) (b t : Nat) (x : ThreadX) : State :=
  match m with
  | .go y u => u.setThread b t y
  | .hold => s.setThread b t x
  | .fault k => (s.setThread b t x).microFault b t k

/-- A microword of a class in 0x0 to 0xC has its effect where its thread stands at it. -/
theorem State.Issuing.micro_eq {s : State} {b t q i : Nat} {cls : List Nat} {x : ThreadX} (h : s.Issuing b t q i cls x) (hcls : ∀ c ∈ cls, c ≤ 0x0C)
    (body : ThreadX → State → Micro) : s.micro b t q i cls body = (body (s.stepped x) s).settle s b t x := by
  obtain ⟨hb, ht, hon, hthread, hbusy, hhalted, hjob, hstore, hclass, hdog, hrun⟩ := h
  have hfor : s.threadFor b t q i = some (x, s) := by simp [State.threadFor, hthread, hbusy, hjob]
  have hlegal : (s.classAt (s.fetchAddr x.maddr)).elim false (fun k => decide (0x0C < k)) = false := by
    cases hc : s.classAt (s.fetchAddr x.maddr) with
    | none => rfl
    | some c => simpa using hcls c (hclass c hc)
  have hmatch : (s.classAt (s.fetchAddr x.maddr)).elim false (fun k => !cls.contains k) = false := by
    cases hc : s.classAt (s.fetchAddr x.maddr) with
    | none => rfl
    | some c => simpa using hclass c hc
  unfold State.micro
  rw [if_neg (by simp [hb, ht, hrun, hon, hthread, hhalted]), hfor]
  dsimp only
  rw [if_neg (by simp [hstore]), if_neg (Bool.eq_false_iff.1 hlegal), if_neg (Bool.eq_false_iff.1 hmatch), if_neg (by simp; omega)]
  unfold State.stepped Micro.settle
  rfl

/-! ### Branches, answers, verdicts -/

theorem State.branchTo_inside {s : State} {x : ThreadX} {a : Nat} (h : s.inStore a = true) : s.branchTo x a = .go { x with maddr := a } s := if_pos h

theorem State.branchTo_outside {s : State} {x : ThreadX} {a : Nat} (h : s.inStore a = false) : s.branchTo x a = .fault mcBranch := if_neg (by simp [h])

theorem ThreadX.reg_setReg_ne (x : ThreadX) {r n : Nat} (v : Nat) (h : n ≠ r) : (x.setReg r v).reg n = x.reg n := nget_nset_ne 0 x.regs _ h

/-- Answers written into registers leave where the thread stands, and the registers that no tag names. -/
theorem ThreadX.setRegs_fold (f : Nat × Nat → Nat) (l : List (Nat × Nat)) (x : ThreadX) :
    (l.foldl (fun y p => y.setReg p.2 (f p)) x).maddr = x.maddr ∧
      ∀ r, (∀ p ∈ l, p.2 ≠ r) → (l.foldl (fun y p => y.setReg p.2 (f p)) x).reg r = x.reg r := by
  induction l generalizing x with
  | nil => exact ⟨rfl, fun _ _ => rfl⟩
  | cons p l ih =>
    obtain ⟨hmaddr, hreg⟩ := ih (x.setReg p.2 (f p))
    refine ⟨hmaddr, fun r hr => ?_⟩
    rw [List.foldl_cons, hreg r fun q hq => hr q (List.mem_cons_of_mem _ hq)]
    exact x.reg_setReg_ne _ (hr p List.mem_cons_self).symm

theorem State.recordVerdict_seq (s : State) (j : Job) : (s.recordVerdict j).seq = s.seq := by
  unfold State.recordVerdict State.decided
  split
  · split
    · rfl
    · obtain ⟨x, hx⟩ := (s.updJob j.q j.idx fun _ => j).chainStep_frame j.q j.stitch
      rw [hx]
      rfl
  · rfl

theorem State.readTables_seq {s u : State} {j k : Job} {inT outT : TableRead} (h : s.readTables j inT outT = some (k, u)) : u.seq = s.seq := by
  rcases State.readTables_cases h with ⟨-, rfl⟩ | ⟨-, ms, rfl⟩ <;> rfl

/-- The store holds the same addresses while the patch is the same. -/
theorem State.inStore_congr {s u : State} (h : u.seq = s.seq) (a : Nat) : u.inStore a = s.inStore a := by
  unfold State.inStore
  rw [h]

/-! ### Each class -/

section
variable {s : State} {b t q i : Nat} {x : ThreadX}

theorem execMicrowordBranch_issuing (h : s.Issuing b t q i [3] x) (kind : BranchKind) (r a : Nat) :
    (x.reg (r % 64) = 0 → exec (.microwordBranch b t q i kind r a) s = .next (s.setThread b t (s.stepped x))) ∧
    (x.reg (r % 64) ≠ 0 → s.inStore (a % 65536) = true →
      exec (.microwordBranch b t q i .jump r a) s = .next (s.setThread b t { s.stepped x with maddr := a % 65536 }) ∧
      exec (.microwordBranch b t q i .call r a) s =
        .next (s.setThread b t { s.stepped x with maddr := a % 65536, calls := (s.stepped x).maddr :: x.calls })) ∧
    (∀ p l, x.reg (r % 64) ≠ 0 → x.calls = p :: l → s.inStore p = true →
      exec (.microwordBranch b t q i .ret r a) s = .next (s.setThread b t { s.stepped x with maddr := p, calls := l })) ∧
    (x.reg (r % 64) ≠ 0 → s.inStore (a % 65536) = false →
      exec (.microwordBranch b t q i .jump r a) s = .next ((s.setThread b t x).microFault b t 3)) := by
  have hreg : (s.stepped x).reg (r % 64) = x.reg (r % 64) := rfl
  have hcalls : (s.stepped x).calls = x.calls := rfl
  have hexec : ∀ k, exec (.microwordBranch b t q i k r a) s = .next _ := fun k => congrArg Host.Outcome.next (h.micro_eq (by decide) _)
  simp only [hexec, hreg]
  refine ⟨fun hzero => ?_, fun hset hin => ⟨?_, ?_⟩, fun p l hset hl hin => ?_, fun hset hout => ?_⟩
  · rw [if_pos hzero]
    rfl
  · rw [if_neg hset, State.branchTo_inside hin]
    rfl
  · rw [if_neg hset, State.branchTo_inside hin]
    rfl
  · rw [if_neg hset, hcalls, hl]
    dsimp only
    rw [State.branchTo_inside hin]
    rfl
  · rw [if_neg hset, State.branchTo_outside hout]
    rfl

theorem execMicrowordDispatch_issuing (h : s.Issuing b t q i [4] x) {r : Nat} {l : List Nat} {a : Nat} (ha : l[x.reg (r % 64)]? = some a)
    (hin : s.inStore a = true) : exec (.microwordDispatch b t q i r l) s = .next (s.setThread b t { s.stepped x with maddr := a }) := by
  have hget : l.getD ((s.stepped x).reg (r % 64)) 0xFFFF = a := by
    rw [List.getD_eq_getElem?_getD]
    exact congrArg (Option.getD · 0xFFFF) ha
  refine congrArg Host.Outcome.next ((h.micro_eq (by decide) _).trans ?_)
  dsimp only
  rw [hget, State.branchTo_inside hin]
  rfl

theorem execMicrowordRequest_issuing (h : s.Issuing b t q i [5] x) {g : Nat} (r : Nat) (hg : ∀ p ∈ x.tags, p.1 ≠ g) :
    exec (.microwordRequest b t q i g r) s = .next (s.setThread b t { s.stepped x with tags := x.tags ++ [(g, r % 64)] }) := by
  have hfree : x.tags.filter (fun p => p.1 != g) = x.tags := List.filter_eq_self.2 fun p hp => by simp [hg p hp]
  refine congrArg Host.Outcome.next ((h.micro_eq (by decide) _).trans ?_)
  show s.setThread b t { s.stepped x with tags := x.tags.filter (fun p => p.1 != g) ++ [(g, r % 64)] } = _
  rw [hfree]

theorem execMicrowordWait_issuing (h : s.Issuing b t q i [6] x) (l : List Nat) :
    ∃ z : ThreadX, exec (.microwordWait b t q i l) s = .next ({ s with free := s.free + 1 }.setThread b t z) ∧
      z.maddr = (s.stepped x).maddr ∧ z.issued = 0 ∧ (∀ p, p ∈ z.tags ↔ p ∈ x.tags ∧ p.1 ∉ l) ∧
      ∀ r, (∀ p ∈ x.tags, p.1 ∈ l → p.2 ≠ r) → z.reg r = x.reg r := by
  obtain ⟨hmaddr, hreg⟩ := ThreadX.setRegs_fold (fun p => Config.freeNat s.free p.1) (x.tags.filter fun p => l.contains p.1) (s.stepped x)
  refine ⟨_, congrArg Host.Outcome.next (h.micro_eq (by decide) _), hmaddr, rfl, fun p => ?_, fun r hr => hreg r fun p hp => ?_⟩
  · show p ∈ x.tags.filter (fun p => !l.contains p.1) ↔ _
    simp
  · obtain ⟨hmem, hl⟩ := List.mem_filter.1 hp
    exact hr p hmem (by simpa using hl)

theorem execMicrowordCheck_issuing (h : s.Issuing b t q i [7] x) (r a : Nat) (inT outT : TableRead) :
    (x.reg (r % 64) = 0 → exec (.microwordCheck b t q i r a inT outT) s = .next (s.setThread b t (s.stepped x))) ∧
    (∀ j k e u, x.reg (r % 64) ≠ 0 → s.decodableAt q i = some j → s.readTables j inT outT = some (e, u) → u.verdict e inT outT = .error k →
      s.inStore (a % 65536) = true →
      exec (.microwordCheck b t q i r a inT outT) s = .next ((u.recordVerdict k).setThread b t { s.stepped x with maddr := a % 65536 })) := by
  have hreg : (s.stepped x).reg (r % 64) = x.reg (r % 64) := rfl
  have hexec : exec (.microwordCheck b t q i r a inT outT) s = .next _ := congrArg Host.Outcome.next (h.micro_eq (by decide) _)
  rw [hexec]
  refine ⟨fun hzero => ?_, fun j k e u hset hdec hread hverdict hin => ?_⟩
  · rw [hreg, if_pos hzero]
    rfl
  · have hin' : (u.recordVerdict k).inStore (a % 65536) = true :=
      (State.inStore_congr ((u.recordVerdict_seq k).trans (State.readTables_seq hread)) _).trans hin
    rw [hreg, if_neg hset, hdec]
    dsimp only
    rw [hread]
    dsimp only
    rw [hverdict]
    dsimp only
    rw [State.branchTo_inside hin']
    rfl

theorem execMicrowordAccept_issuing (h : s.Issuing b t q i [8] x) (inT outT : TableRead) :
    (x.accepted = true → exec (.microwordAccept b t q i inT outT) s = .next ((s.setThread b t x).microFault b t 1)) ∧
    (∀ j k l e u, x.accepted = false → s.job? q i = some j → j.stamp = 0 → s.decodableAt q i = some k → s.readTables k inT outT = some (e, u) →
      u.verdict e inT outT = .ok l →
      exec (.microwordAccept b t q i inT outT) s = .next (((u.accept l).decided l).setThread b t { s.stepped x with accepted := true })) := by
  have hexec : exec (.microwordAccept b t q i inT outT) s = .next _ := congrArg Host.Outcome.next (h.micro_eq (by decide) _)
  have haccepted : (s.stepped x).accepted = x.accepted := rfl
  rw [hexec]
  refine ⟨fun hacc => ?_, fun j k l e u hacc hj hstamp hdec hread hverdict => ?_⟩
  · rw [haccepted, if_pos hacc]
    rfl
  · rw [haccepted, if_neg (by simp [hacc]), hj]
    dsimp only
    rw [if_neg (by omega), hdec, Option.bind_some, hread]
    dsimp only
    rw [hverdict]
    rfl

theorem execMicrowordCommit_issuing (h : s.Issuing b t q i [10] x) {j : Job} (hj : s.job? q i = some j) :
    (j.committing = false → s.mayCommit j = true →
      exec (.microwordCommit b t q i) s = .next ((s.updJob q i fun k => { k with committing := true }).setThread b t (s.stepped x))) ∧
    (j.committing = true → exec (.microwordCommit b t q i) s = .next ((s.setThread b t x).microFault b t 1)) := by
  have hexec : exec (.microwordCommit b t q i) s = .next _ := congrArg Host.Outcome.next (h.micro_eq (by decide) _)
  rw [hexec, hj]
  dsimp only
  refine ⟨fun hbefore hmay => ?_, fun hpast => ?_⟩
  · rw [if_neg (by simp [hbefore]), if_pos hmay]
    rfl
  · rw [if_pos hpast]
    rfl

theorem execMicrowordHostwrite_issuing (h : s.Issuing b t q i [11] x) {j : Job} (hj : s.job? q i = some j) (hissue : s.mayIssue = true) (hw : x.writes = 0) :
    (j.committing = false → exec (.microwordHostwrite b t q i) s = .next ((s.setThread b t x).microFault b t 2)) ∧
    (j.committing = true → j.stage ≠ .done → j.writesOutput = false → j.ext = none →
      exec (.microwordHostwrite b t q i) s = .next (((s.writeW7 q i).linkDone j).setThread b t { s.stepped x with writes := 1 })) := by
  have hexec : exec (.microwordHostwrite b t q i) s = .next _ := congrArg Host.Outcome.next (h.micro_eq (by decide) _)
  have hnone : ¬0 < (s.stepped x).writes := by
    have : (s.stepped x).writes = x.writes := rfl
    omega
  rw [hexec, if_neg (by simp [hissue]), if_neg hnone, hj]
  dsimp only
  refine ⟨fun hbefore => ?_, fun hpast hstage hout hext => ?_⟩
  · rw [if_pos (by simp [hbefore])]
    rfl
  · rw [if_neg (by simp [hpast]), if_neg hstage, if_neg (by simp [hout]), hext, ite_self]
    rfl

end

/-- Settles O46: a thread that stands at a loaded microword of the class issues it, and each class is read off its own meaning. -/
theorem microwordsRun : Obligations.MicrowordsRun := by
  unfold Obligations.MicrowordsRun
  intro s b t q i x
  refine ⟨fun h o d a => ⟨fun r => ?_, fun v => ?_⟩, fun h j w r lo len hj hw hlen => ?_, fun h => execMicrowordBranch_issuing h,
    fun h r l a => execMicrowordDispatch_issuing h, fun h g r => execMicrowordRequest_issuing h r, fun h => execMicrowordWait_issuing h,
    fun h => execMicrowordCheck_issuing h, fun h => execMicrowordAccept_issuing h, fun h a n to' => ?_, fun h j hj => execMicrowordCommit_issuing h hj,
    fun h j hj hissue => execMicrowordHostwrite_issuing h hj hissue, fun h => ?_⟩
  · exact congrArg Host.Outcome.next (h.micro_eq (by decide) _)
  · exact congrArg Host.Outcome.next (h.micro_eq (by decide) _)
  · refine congrArg Host.Outcome.next ((h.micro_eq (by decide) _).trans ?_)
    rw [hj]
    dsimp only
    rw [if_neg (by omega), if_neg (by simp)]
    show s.setThread b t ((s.stepped x).setReg (r % 64) (bits (j.w (w % 8)) (lo + len - 1) lo)) = _
    rw [Nat.mod_eq_of_lt hw]
  · exact congrArg Host.Outcome.next (h.micro_eq (by decide) _)
  · exact congrArg Host.Outcome.next (h.micro_eq (by decide) _)

end Sys2Proof.Machine
end

section
/-! ## Effects of several commands on registers (R7, R514) -/

namespace Sys2Proof.Machine
open Sys2Proof

-- The proofs are elaborated one after another: one that waits for another's premises would keep a thread of its own.
set_option Elab.async false

/-! ### Raised causes and other registers -/

/-- The fields that tell of a raised cause. -/
def raisedFlds : List Fld := [.BLK_ERR_STATUS_CAUSE, .BLK_ERR_COUNT_COUNT, .BLK_ERR_FIRST_CAUSE]

/-- Whether a cause has been raised is told by three fields of the block alone. -/
theorem Raised.congr {s t s' t' : State} {b c : Nat} (h : Raised s t b c) (hs : ∀ f ∈ raisedFlds, s'.getF f b = s.getF f b)
    (ht : ∀ f ∈ raisedFlds, t'.getF f b = t.getF f b) : Raised s' t' b c := by
  simp only [raisedFlds, List.mem_cons, List.not_mem_nil, or_false, forall_eq_or_imp, forall_eq] at hs ht
  obtain ⟨hs1, hs2, -⟩ := hs
  obtain ⟨ht1, ht2, ht3⟩ := ht
  obtain ⟨hcause, hcount, hfirst⟩ := h
  refine ⟨ht1 ▸ hcause, ?_, fun h0 => ht3.trans (hfirst (hs1 ▸ h0))⟩
  unfold State.plus at *
  rw [ht2, hcount, hs2]

/-! ### Writes to listed fields alone -/

/-- t is s but for its registers, and of these every field that is not listed is as it was. -/
structure Writes (l : List Fld) (s t : State) : Prop where
  frame : t = { s with regs := t.regs }
  reads : ∀ f i, f ∉ l → t.getF f i = s.getF f i
  fits : s.regsOk → t.regsOk

namespace Writes
variable {l : List Fld} {s t u : State}

theorem refl (l : List Fld) (s : State) : Writes l s s := ⟨rfl, fun _ _ _ => rfl, id⟩

theorem trans (h : Writes l s t) (k : Writes l t u) : Writes l s u := by
  refine ⟨?_, fun f i hf => (k.reads f i hf).trans (h.reads f i hf), k.fits ∘ h.fits⟩
  rw [k.frame]
  conv_lhs => rw [h.frame]

theorem setF (h : Writes l s t) (f : Fld) (i v : Nat) (hf : f ∈ l := by decide) : Writes l s (t.setF f i v) :=
  h.trans ⟨rfl, fun _ _ hg => State.getF_setF_ne t v fun e => hg ((Prod.mk.inj e).1 ▸ hf), fun ht => State.setF_regsOk ht f i v⟩

theorem setFlag (h : Writes l s t) (f : Fld) (i : Nat) (b : Bool) (hf : f ∈ l := by decide) : Writes l s (t.setFlag f i b) := h.setF f i _ hf

theorem count (h : Writes l s t) (f : Fld) (i n : Nat) (hf : f ∈ l := by decide) : Writes l s (t.count f i n) := h.setF f i _ hf

theorem ite {c : Prop} [Decidable c] (ht : Writes l s t) (hu : Writes l s u) : Writes l s (if c then t else u) := by
  split
  · exact ht
  · exact hu

theorem foldl {α : Type} {f : State → α → State} (hf : ∀ t x, Writes l t (f t x)) (xs : List α) (s : State) : Writes l s (xs.foldl f s) := by
  induction xs generalizing s with
  | nil => exact refl l s
  | cons x xs ih => exact (hf s x).trans (ih _)

theorem part {α : Type} (h : Writes l s t) (p : State → α) (hp : ∀ m, p { s with regs := m } = p s := by intro; rfl) : p t = p s := by
  rw [h.frame]
  exact hp _

end Writes

end Sys2Proof.Machine
end

section
/-! ## Registers that a function spares -/

namespace Sys2Proof.Machine
open Sys2Proof

-- The proofs are elaborated one after another: one that waits for another's premises would keep a thread of its own.
set_option Elab.async false

/-- The fields that a raised block error may write: those of the error itself, and the pending bit of the block's vector. -/
def raiseFlds : List Fld := [.MSIX_PBA_BITS, .BLK_ERR_COUNT_COUNT, .BLK_ERR_FIRST_CAUSE, .BLK_ERR_FIRST_UNIT, .BLK_ERR_FIRST_SYNDROME, .BLK_ERR_STATUS_CAUSE,
  .BLK_ERR_MERGED_COUNT]

/-- Every field that is not listed reads in t as in s, whatever else changed. -/
def Spares (l : List Fld) (s t : State) : Prop := ∀ f i, f ∉ l → t.getF f i = s.getF f i

namespace Spares
variable {l : List Fld} {s t u : State}

theorem refl (l : List Fld) (s : State) : Spares l s s := fun _ _ _ => rfl

theorem trans (h : Spares l s t) (k : Spares l t u) : Spares l s u := fun f i hf => (k f i hf).trans (h f i hf)

theorem regs (h : Spares l s t) (hu : u.regs = t.regs) : Spares l s u := h.trans fun f i _ => State.getF_regs hu f i

theorem setF (h : Spares l s t) (f : Fld) (i v : Nat) (hf : f ∈ l := by decide) : Spares l s (t.setF f i v) :=
  h.trans fun _ _ hg => State.getF_setF_ne t v fun e => hg ((Prod.mk.inj e).1 ▸ hf)

theorem count (h : Spares l s t) (f : Fld) (i n : Nat) (hf : f ∈ l := by decide) : Spares l s (t.count f i n) := h.setF f i _ hf

theorem raiseErr (h : Spares l s t) (b c u y : Nat) (hl : ∀ f ∈ raiseFlds, f ∈ l := by decide) : Spares l s (t.raiseErr b c u y) :=
  h.trans fun f i hf => State.raiseErr_getF t b c u y f i fun hm => hf (hl f hm)

theorem ite {c : Prop} [Decidable c] (ht : Spares l s t) (hu : Spares l s u) : Spares l s (if c then t else u) := by
  split
  · exact ht
  · exact hu

theorem foldl {α : Type} {f : State → α → State} (h : Spares l s t) (hf : ∀ t x, Spares l t (f t x)) (xs : List α) : Spares l s (xs.foldl f t) := by
  induction xs generalizing t with
  | nil => exact h
  | cons x xs ih => exact ih (h.trans (hf t x))

/-- A fault that ends or repeats its job counts at most the repetition. -/
theorem engineFault (h : Spares l s t) (j : Job) (unit cause : Nat) (avoid : Option Nat) (hl : Fld.SCH_REEXEC_COUNT_COUNT ∈ l := by decide) :
    Spares l s (t.engineFault j unit cause avoid) := by
  unfold State.engineFault State.reexec State.failJob
  exact .ite (((h.regs (t.letGo_regs j)).count _ _ _ hl).regs rfl) (.ite (h.regs rfl) (h.regs (t.letGo_regs j)))

end Spares

end Sys2Proof.Machine
end

section
/-! ## Binder restarts, halts and enables (R424, R425, R428 to R430) -/

namespace Sys2Proof.Machine
open Sys2Proof

-- The proofs are elaborated one after another: one that waits for another's premises would keep a thread of its own.
set_option Elab.async false

/-! ### Threads -/

@[simp] theorem State.thread_setThread_same (s : State) (b n : Nat) (x : ThreadX) : (s.setThread b n x).thread b n = x :=
  nget_nset_same ({} : ThreadX) s.seq.threads _ x

theorem State.thread_setThread_ne (s : State) {b n c m : Nat} (x : ThreadX) (h : 16 * c + m ≠ 16 * b + n) : (s.setThread b n x).thread c m = s.thread c m :=
  nget_nset_ne ({} : ThreadX) s.seq.threads x h

theorem State.mapThreads_fold (b : Nat) (f : ThreadX → ThreadX) (l : List Nat) (s : State) (hl : l.Nodup) :
    let t := l.foldl (fun t n => t.setThread b n (f (t.thread b n))) s
    (∃ x, t = { s with seq := { s.seq with threads := x } }) ∧ ∀ n, t.thread b n = if n ∈ l then f (s.thread b n) else s.thread b n := by
  induction l generalizing s with
  | nil => exact ⟨⟨_, rfl⟩, fun n => by simp⟩
  | cons m l ih =>
    obtain ⟨hm, hl⟩ := List.nodup_cons.1 hl
    obtain ⟨⟨x, hx⟩, hthread⟩ := ih (s.setThread b m (f (s.thread b m))) hl
    refine ⟨⟨x, hx⟩, fun n => ?_⟩
    rw [List.foldl_cons, hthread n]
    by_cases hn : n = m
    · subst hn
      simp [hm]
    · simp [hn, s.thread_setThread_ne (b := b) (c := b) _ (by omega : 16 * b + n ≠ 16 * b + m)]

/-- Mapping a binder's threads changes them and nothing else. -/
theorem State.mapThreads_frame (s : State) (b : Nat) (f : ThreadX → ThreadX) : ∃ x, s.mapThreads b f = { s with seq := { s.seq with threads := x } } :=
  (State.mapThreads_fold b f (List.range 16) s List.nodup_range).1

theorem State.thread_mapThreads (s : State) (b : Nat) (f : ThreadX → ThreadX) {n : Nat} (hn : n < 16) :
    (s.mapThreads b f).thread b n = f (s.thread b n) := by
  rw [State.mapThreads, (State.mapThreads_fold b f (List.range 16) s List.nodup_range).2 n, if_pos (List.mem_range.2 hn)]

theorem State.mapThreads_getF (s : State) (b : Nat) (f : ThreadX → ThreadX) (g : Fld) (k : Nat) : (s.mapThreads b f).getF g k = s.getF g k := by
  obtain ⟨x, hx⟩ := s.mapThreads_frame b f
  rw [hx]
  rfl

theorem State.mapThreads_jobs (s : State) (b : Nat) (f : ThreadX → ThreadX) : (s.mapThreads b f).jobs = s.jobs := by
  obtain ⟨x, hx⟩ := s.mapThreads_frame b f
  rw [hx]

/-! ### Faults recorded -/

/-- The fields in which a binder's fault is recorded (R428, R429). -/
def microFaultFlds : List Fld := [.SEQ_MICROCODE_FAULT_COUNT_COUNT, .SEQ_FAULT_INFO_VALID, .SEQ_FAULT_INFO_PRECISE, .SEQ_FAULT_INFO_THREAD,
  .SEQ_FAULT_INFO_MADDR, .SEQ_FAULT_INFO_CAUSE]

section
variable (s : State) (b t cause : Nat)

theorem State.recordMicro_writes : Writes microFaultFlds s (s.recordMicro b t cause) := by
  unfold State.recordMicro
  extract_lets s1
  have h : Writes microFaultFlds s s1 := .ite ((Writes.refl _ s).count _ _ _) (.refl _ s)
  exact .ite h (((((h.setFlag _ _ _).setFlag _ _ _).setF _ _ _).setF _ _ _).setF _ _ _)

theorem State.recordMicro_seq : (s.recordMicro b t cause).seq = s.seq := by
  rw [(s.recordMicro_writes b t cause).frame]

theorem State.recordMicro_thread (c n : Nat) : (s.recordMicro b t cause).thread c n = s.thread c n := by
  unfold State.thread
  rw [s.recordMicro_seq]

/-- A first fault stands in SEQ_FAULT_INFO. -/
theorem State.recordMicro_first (ht : t < 16) (hcause : cause < 256) (hvalid : s.getF .SEQ_FAULT_INFO_VALID b = 0) :
    (s.recordMicro b t cause).getF .SEQ_FAULT_INFO_VALID b = 1 ∧ (s.recordMicro b t cause).getF .SEQ_FAULT_INFO_THREAD b = t ∧
      (s.recordMicro b t cause).getF .SEQ_FAULT_INFO_CAUSE b = cause := by
  unfold State.recordMicro
  dsimp only
  rw [if_neg (by split <;> simp [State.flag, hvalid])]
  refine ⟨?_, ?_, ?_⟩
  · simp [b2n]
  · simp [Nat.mod_eq_of_lt ht]
  · simp [Nat.mod_eq_of_lt hcause]

end

theorem State.setThread_getF (s : State) (b n : Nat) (x : ThreadX) (f : Fld) (k : Nat) : (s.setThread b n x).getF f k = s.getF f k := rfl

theorem State.setF_thread (s : State) (f : Fld) (i v b n : Nat) : (s.setF f i v).thread b n = s.thread b n := rfl

/-- A busy thread held at its next microword. -/
def ThreadX.held (x : ThreadX) : ThreadX := if x.busy then { x with halted := true } else x

theorem State.haltBinder_thread (s : State) (b : Nat) {t : Nat} (ht : t < 16) : (s.haltBinder b t).thread b t = { (s.thread b t).held with faulted := true } := by
  unfold State.haltBinder
  dsimp only
  rw [State.setF_thread, State.thread_setThread_same, s.thread_mapThreads b _ ht]
  rfl

theorem State.haltBinder_thread_ne (s : State) (b : Nat) {t n : Nat} (hn : n < 16) (hne : n ≠ t) : (s.haltBinder b t).thread b n = (s.thread b n).held := by
  unfold State.haltBinder
  dsimp only
  rw [State.setF_thread, State.thread_setThread_ne _ _ (by omega), s.thread_mapThreads b _ hn]
  rfl

theorem State.haltBinder_state (s : State) (b t : Nat) : (s.haltBinder b t).getF .SEQ_BINDER_STATUS_STATE b = 3 := by
  unfold State.haltBinder
  dsimp only
  rw [State.getF_setF_same]
  rfl

theorem State.haltBinder_getF (s : State) (b t : Nat) {f : Fld} (hf : f ≠ .SEQ_BINDER_STATUS_STATE) (k : Nat) : (s.haltBinder b t).getF f k = s.getF f k := by
  unfold State.haltBinder
  dsimp only
  simp only [State.getF_setF, hf, false_and, if_false]
  rw [State.setThread_getF, s.mapThreads_getF]

/-! ### A restart of a binder without jobs -/

/-- When a binder has restarted within the last second, this time with them (R430). -/
def State.restartTimes (s : State) (b : Nat) : List Nat := recent s.now 1000000000 (nget [] s.seq.restarts b) ++ [s.now]

/-- A binder's threads free, and its restart counted and raised (R430). -/
def State.restartRaised (s : State) (b : Nat) : State :=
  ((s.mapThreads b fun _ => {}).count .SEQ_RESTART_COUNT_COUNT 0 1).raiseErr blkSEQ 0 b (s.microWord b)

/-- A state that keeps when a binder restarted. -/
def State.withRestarts (s : State) (b : Nat) (times : List Nat) : State := { s with seq := { s.seq with restarts := nset [] s.seq.restarts b times } }

/-- A binder restarted: its threads free, the restart counted and raised, its time kept. -/
def State.binderRestarted (s : State) (b : Nat) : State := (s.restartRaised b).withRestarts b (s.restartTimes b)

/-- A binder taken offline (R430). -/
def State.binderOffline (s : State) (b : Nat) : State :=
  let s1 : State := { s with seq := { s.seq with restarts := nset [] s.seq.restarts b [], draining := s.seq.draining.filter (· ≠ b) } }
  ((s1.setF .SEQ_BINDER_ONLINE_ONLINE 0 (setBits (s1.getF .SEQ_BINDER_ONLINE_ONLINE 0) b b 0)).setF .SEQ_BINDER_STATUS_STATE b 0).rebind b

section
variable {s : State} {b : Nat} (hjobs : ∀ j ∈ s.jobs, j.binder ≠ b)
include hjobs

/-- No job belongs to the binder, so none is restarted with it. -/
theorem State.restartBinder_jobless : s.restartBinder b =
    if (s.restartTimes b).length < 4 then s.binderRestarted b
    else if (s.binderRestarted b).bindersOn = [b] then (s.binderRestarted b).raiseErr blkSEQ 1 b (s.microWord b)
    else (s.binderRestarted b).binderOffline b := by
  unfold State.restartBinder
  extract_lets s1 s2 s3 times _ s4 _ s5
  have hs1 : s1.jobs = s.jobs := s.mapThreads_jobs b _
  have hnone : s1.jobs.filter (fun j => j.binder == b) = [] := by
    rw [hs1]
    exact List.filter_eq_nil_iff.2 fun j hj => by simpa using hjobs j hj
  have hs2 : s2 = s1 := by
    unfold s2
    rw [hnone, List.foldl_nil]
  have hs3 : s3 = s.restartRaised b := by
    unfold s3 State.restartRaised
    rw [hs2]
  clear_value s3
  subst hs3
  rfl

end

section
variable (s : State) (b : Nat)

theorem State.withRestarts_getF (l : List Nat) (g : Fld) (k : Nat) : (s.withRestarts b l).getF g k = s.getF g k := rfl

theorem State.withRestarts_thread (l : List Nat) (c n : Nat) : (s.withRestarts b l).thread c n = s.thread c n := rfl

theorem State.withRestarts_jobs (l : List Nat) : (s.withRestarts b l).jobs = s.jobs := rfl

theorem State.binderRestarted_thread {n : Nat} (hn : n < 16) : (s.binderRestarted b).thread b n = {} := by
  have hseq : (s.restartRaised b).seq = (s.mapThreads b fun _ => {}).seq := by
    unfold State.restartRaised
    rw [State.raiseErr_seq, State.count_seq]
  unfold State.binderRestarted
  rw [State.withRestarts_thread]
  unfold State.thread
  rw [hseq]
  exact s.thread_mapThreads b _ hn

theorem State.binderRestarted_jobs : (s.binderRestarted b).jobs = s.jobs := by
  unfold State.binderRestarted State.restartRaised
  rw [State.withRestarts_jobs, State.raiseErr_jobs, State.count_jobs, s.mapThreads_jobs]

theorem State.binderRestarted_getF {g : Fld} {k : Nat} (hg : g ∉ [Fld.MSIX_PBA_BITS, .BLK_ERR_COUNT_COUNT, .BLK_ERR_FIRST_CAUSE, .BLK_ERR_FIRST_UNIT,
    .BLK_ERR_FIRST_SYNDROME, .BLK_ERR_STATUS_CAUSE, .BLK_ERR_MERGED_COUNT]) (hcount : g ≠ .SEQ_RESTART_COUNT_COUNT) :
    (s.binderRestarted b).getF g k = s.getF g k := by
  unfold State.binderRestarted State.restartRaised
  rw [State.withRestarts_getF, State.raiseErr_getF _ _ _ _ _ g k hg, State.count_getF, if_neg (by simp [hcount]), s.mapThreads_getF]

theorem State.binderRestarted_count : (s.binderRestarted b).getF .SEQ_RESTART_COUNT_COUNT 0 = s.plus .SEQ_RESTART_COUNT_COUNT 0 1 := by
  unfold State.binderRestarted State.restartRaised
  rw [State.withRestarts_getF, State.raiseErr_getF _ _ _ _ _ _ _ (by decide), State.count_getF, if_pos ⟨rfl, rfl⟩]
  unfold State.plus
  rw [s.mapThreads_getF]

theorem State.binderRestarted_raised {s : State} (hs : s.regsOk) (b : Nat) : Raised s (s.binderRestarted b) blkSEQ 0 := by
  have hregs : ((s.mapThreads b fun _ => {}).count .SEQ_RESTART_COUNT_COUNT 0 1).regsOk := by
    obtain ⟨x, hx⟩ := s.mapThreads_frame b fun _ => {}
    rw [hx]
    exact State.setF_regsOk (State.regsOk_regs rfl hs) _ _ _
  have hraised : Raised _ (s.restartRaised b) blkSEQ 0 := State.raiseErr_raised _ blkSEQ 0 b (s.microWord b) (by decide) hregs
  refine hraised.congr ?_ fun f _ => State.withRestarts_getF ..
  simp [raisedFlds, s.mapThreads_getF]

theorem State.binderRestarted_bindersOn : (s.binderRestarted b).bindersOn = s.bindersOn := by
  unfold State.bindersOn
  rw [s.binderRestarted_getF b (by decide) (by decide), s.binderRestarted_getF b (by decide) (by decide)]

theorem State.binderOffline_thread (n : Nat) : (s.binderOffline b).thread b n = s.thread b n := rfl

theorem State.binderOffline_jobs {s : State} {b : Nat} (hjobs : ∀ j ∈ s.jobs, j.binder ≠ b) : (s.binderOffline b).jobs = s.jobs := by
  have hkeep : ∀ (g : Job → Nat), s.jobs.map (fun j => if j.binder == b then { j with binder := g j } else j) = s.jobs := by
    intro g
    refine (List.map_congr_left fun j hj => ?_).trans (List.map_id _)
    simp [hjobs j hj]
  exact hkeep _

theorem State.binderOffline_state : (s.binderOffline b).getF .SEQ_BINDER_STATUS_STATE b = 0 :=
  State.getF_setF_same ..

theorem State.binderOffline_online : bit ((s.binderOffline b).getF .SEQ_BINDER_ONLINE_ONLINE 0) b = false := by
  have h : (s.binderOffline b).getF .SEQ_BINDER_ONLINE_ONLINE 0 = setBits (s.getF .SEQ_BINDER_ONLINE_ONLINE 0) b b 0 % 2 ^ 8 :=
    (State.getF_setF_ne _ _ (by simp)).trans (State.getF_setF_same ..)
  rw [h]
  unfold bit
  rw [Nat.testBit_mod_two_pow]
  exact Bool.and_eq_false_imp.2 fun _ => bit_setBits_zero _ _

theorem State.binderOffline_count : (s.binderOffline b).getF .SEQ_RESTART_COUNT_COUNT 0 = s.getF .SEQ_RESTART_COUNT_COUNT 0 :=
  (State.getF_setF_ne _ _ (by simp)).trans (State.getF_setF_ne _ _ (by simp))

end

/-! ### The enables (R425) -/

/-- Binders that are enabled, online and off come into service. -/
theorem State.bindersStart_writes (v : Nat) (l : List Nat) (s : State) : Writes [.SEQ_BINDER_STATUS_STATE] s (l.foldl (fun (t : State) b =>
    if bit v b && t.getF .SEQ_BINDER_STATUS_STATE b == 0 && bit (t.getF .SEQ_BINDER_ONLINE_ONLINE 0) b then t.setF .SEQ_BINDER_STATUS_STATE b 1 else t) s) :=
  .foldl (fun t _ => .ite ((Writes.refl _ t).setF _ _ _) (.refl _ t)) l s

theorem State.Serves.seqBinderEnableWrite_eq {s : State} (hs : s.Serves) (v : W32) : exec (.seqBinderEnableWrite v) s =
    let s1 := s.backOnline .SEQ_BINDER_ENABLE_EN .SEQ_BINDER_ONLINE_ONLINE (v.toNat % 256)
    if v.toNat % 256 &&& s1.getF .SEQ_BINDER_ONLINE_ONLINE 0 = 0 then .next (s.count .SEQ_CFG_REFUSED_COUNT_COUNT 0 1) else
    let s3 := (List.range 8).foldl (fun (t : State) b =>
      if bit v.toNat b && t.getF .SEQ_BINDER_STATUS_STATE b == 0 && bit (t.getF .SEQ_BINDER_ONLINE_ONLINE 0) b then t.setF .SEQ_BINDER_STATUS_STATE b 1
      else t) (s1.setF .SEQ_BINDER_ENABLE_EN 0 v.toNat)
    .next { s3 with seq := { s3.seq with draining := (List.range 8).filter fun b => !bit v.toNat b &&
      (bit (s.getF .SEQ_BINDER_ENABLE_EN 0) b || s.seq.draining.contains b) } } := by
  rw [← bits_low8]
  exact (hs.mmio _ : execSeqBinderEnableWrite v s = _)

/-! ### The commands -/

section
variable {s : State} {b t cause : Nat} (hb : b < 8) (ht : t < 16)
include hb ht

theorem execBinderRestart_restarts (hrun : s.stopped = false) (hstate : s.getF .SEQ_BINDER_STATUS_STATE b = 1) (hlow : 1 ≤ cause) (hhigh : cause ≤ 7)
    (hmode : (s.precise && haltsPrecise cause) = false) : exec (.binderRestart b t cause) s = .next ((s.recordMicro b t cause).restartBinder b) := by
  refine (State.clocked_run hrun _ : execBinderRestart b t cause s = _).trans (if_neg ?_)
  rintro (h | h | h | h | h | h)
  · omega
  · omega
  · omega
  · omega
  · exact h hstate
  · exact Bool.eq_false_iff.1 hmode h

theorem execBinderPreciseHalt_halts (hrun : s.stopped = false) (hstate : s.getF .SEQ_BINDER_STATUS_STATE b = 1) (hprecise : s.precise = true)
    (hhalts : haltsPrecise cause = true) (hbusy : (s.thread b t).busy = true) :
    exec (.binderPreciseHalt b t cause) s = .next ((s.recordMicro b t cause).haltBinder b t) := by
  refine (State.clocked_run hrun _ : execBinderPreciseHalt b t cause s = _).trans (if_neg ?_)
  rw [hstate, hprecise, hhalts, hbusy]
  simp
  omega

end

/-- A thread that goes on after a halt, one that faulted at its microword or at the next one. -/
def ThreadX.resumed (atNext : Bool) (x : ThreadX) : ThreadX :=
  { x with halted := false, faulted := false, maddr := if x.faulted && atNext then (x.maddr + 1) % 65536 else x.maddr }

theorem execBinderResume_resumes {s : State} {b : Nat} (hb : b < 8) (hserves : s.Serves) (hstate : s.getF .SEQ_BINDER_STATUS_STATE b = 3) (atNext : Bool) :
    exec (.binderResume b atNext) s = .next ((s.mapThreads b (ThreadX.resumed atNext)).setF .SEQ_BINDER_STATUS_STATE b 1) :=
  (hserves.mmio _ : execBinderResume b atNext s = _).trans (if_neg (by omega))

/-- What a restart of a binder without jobs leaves (R430). -/
theorem State.restartBinder_effects {s : State} {b : Nat} (hs : s.regsOk) (hjobs : ∀ j ∈ s.jobs, j.binder ≠ b) :
    (∀ n < 16, (s.restartBinder b).thread b n = {}) ∧ (s.restartBinder b).jobs = s.jobs ∧
      (s.restartBinder b).getF .SEQ_RESTART_COUNT_COUNT 0 = s.plus .SEQ_RESTART_COUNT_COUNT 0 1 ∧
      ((s.restartTimes b).length < 4 → Raised s (s.restartBinder b) 4 0 ∧
        (s.restartBinder b).getF .SEQ_BINDER_STATUS_STATE b = s.getF .SEQ_BINDER_STATUS_STATE b ∧
        (s.restartBinder b).getF .SEQ_BINDER_ONLINE_ONLINE 0 = s.getF .SEQ_BINDER_ONLINE_ONLINE 0) ∧
      (4 ≤ (s.restartTimes b).length → s.bindersOn ≠ [b] →
        (s.restartBinder b).getF .SEQ_BINDER_STATUS_STATE b = 0 ∧ bit ((s.restartBinder b).getF .SEQ_BINDER_ONLINE_ONLINE 0) b = false) ∧
      (4 ≤ (s.restartTimes b).length → s.bindersOn = [b] →
        (s.restartBinder b).getF .SEQ_BINDER_STATUS_STATE b = s.getF .SEQ_BINDER_STATUS_STATE b ∧
        (s.restartBinder b).getF .SEQ_BINDER_ONLINE_ONLINE 0 = s.getF .SEQ_BINDER_ONLINE_ONLINE 0 ∧
        bit ((s.restartBinder b).getF .BLK_ERR_STATUS_CAUSE 4) 1 = true) := by
  have hstate := s.binderRestarted_getF b (g := .SEQ_BINDER_STATUS_STATE) (k := b) (by decide) (by decide)
  have honline := s.binderRestarted_getF b (g := .SEQ_BINDER_ONLINE_ONLINE) (k := 0) (by decide) (by decide)
  have hthreads : ∀ n < 16, (s.binderRestarted b).thread b n = {} := fun n hn => s.binderRestarted_thread b hn
  have hjobs' : (s.binderRestarted b).jobs = s.jobs := s.binderRestarted_jobs b
  rw [State.restartBinder_jobless hjobs, s.binderRestarted_bindersOn]
  rcases Nat.lt_or_ge (s.restartTimes b).length 4 with hfew | hmany
  · rw [if_pos hfew]
    exact ⟨hthreads, hjobs', s.binderRestarted_count b, fun _ => ⟨State.binderRestarted_raised hs b, hstate, honline⟩, fun h => by omega, fun h => by omega⟩
  · rw [if_neg (by omega)]
    by_cases hlast : s.bindersOn = [b]
    · rw [if_pos hlast]
      refine ⟨fun n hn => ?_, (State.raiseErr_jobs ..).trans hjobs', (State.raiseErr_getF _ _ _ _ _ _ _ (by decide)).trans (s.binderRestarted_count b),
        fun h => by omega, fun _ h => absurd hlast h, fun _ _ => ⟨(State.raiseErr_getF _ _ _ _ _ _ _ (by decide)).trans hstate,
          (State.raiseErr_getF _ _ _ _ _ _ _ (by decide)).trans honline, ?_⟩⟩
      · unfold State.thread
        rw [State.raiseErr_seq]
        exact hthreads n hn
      · have hbit := (s.binderRestarted b).raiseErr_cause_bit blkSEQ b (s.microWord b) (k := 1) (n := 1) (by decide)
        rw [decide_eq_true rfl, Bool.true_or] at hbit
        exact hbit
    · rw [if_neg hlast]
      exact ⟨fun n hn => (State.binderOffline_thread _ b n).trans (hthreads n hn), (State.binderOffline_jobs (by rwa [hjobs'])).trans hjobs', (State.binderOffline_count _ b).trans (s.binderRestarted_count b),
        fun h => by omega, fun _ _ => ⟨State.binderOffline_state _ b, State.binderOffline_online _ b⟩, fun _ h => absurd h hlast⟩

/-- Settles O47: a restart acts on the state with its fault recorded, a halt and a resumption map the binder's threads, an enable write sets both masks. -/
theorem binderFaultsAndEnables : Obligations.BinderFaultsAndEnables := by
  unfold Obligations.BinderFaultsAndEnables
  intro s b t cause hb ht hrun
  refine ⟨fun hstate hlow hhigh hmode hs => ⟨_, execBinderRestart_restarts hb ht hrun hstate hlow hhigh hmode, fun hjobs => ?_⟩,
    fun hstate hprecise hhalts hbusy => ⟨_, execBinderPreciseHalt_halts hb ht hrun hstate hprecise hhalts hbusy, ?_⟩,
    fun hserves hstate atNext => ?_, fun v hserves hs => ?_⟩
  · have hw := s.recordMicro_writes b t cause
    have hregs : (s.recordMicro b t cause).regsOk := hw.fits hs
    have hread : ∀ {g : Fld} (k : Nat), g ∉ microFaultFlds → (s.recordMicro b t cause).getF g k = s.getF g k := fun k hg => hw.reads _ k hg
    have htimes : ((s.recordMicro b t cause).restartTimes b).length = (recent s.now 1000000000 (nget [] s.seq.restarts b)).length + 1 := by
      rw [hw.frame]
      simp [State.restartTimes]
    have hon : (s.recordMicro b t cause).bindersOn = s.bindersOn := by
      unfold State.bindersOn
      rw [hread _ (by decide), hread _ (by decide)]
    have hraised : ∀ u, Raised (s.recordMicro b t cause) u 4 0 → Raised s u 4 0 := fun u h =>
      h.congr (fun f hf => (hread _ (by revert f; decide)).symm) fun _ _ => rfl
    obtain ⟨hthreads, hsame, hcount, hfew, hoff, hlast⟩ := State.restartBinder_effects (b := b) hregs (by rw [hw.frame]; exact hjobs)
    rw [htimes] at hfew hoff hlast
    rw [hon] at hoff hlast
    rw [hread _ (by decide), hread _ (by decide)] at hfew hlast
    refine ⟨hthreads, hsame.trans (by rw [hw.frame]), hcount.trans ?_, fun h => ?_, fun h hne => hoff (by omega) hne, fun h heq => ?_⟩
    · unfold State.plus
      rw [hread _ (by decide)]
    · obtain ⟨h1, h2, h3⟩ := hfew (by omega)
      exact ⟨hraised _ h1, h2.trans hstate, h3⟩
    · obtain ⟨h1, h2, h3⟩ := hlast (by omega) heq
      exact ⟨h1.trans hstate, h2, h3⟩
  · refine ⟨State.haltBinder_state .., ?_, fun n hn hne => ?_, fun hvalid => ?_⟩
    · rw [State.haltBinder_thread _ _ ht, s.recordMicro_thread, ThreadX.held, if_pos hbusy]
    · rw [State.haltBinder_thread_ne _ _ hn hne, s.recordMicro_thread, ThreadX.held]
    · have hcause : cause < 256 := by
        have hlisted : cause ∈ [1, 2, 3, 5, 6] := List.contains_iff_mem.1 hhalts
        have hall : ∀ c ∈ [1, 2, 3, 5, 6], c < 256 := by decide
        exact hall cause hlisted
      rw [State.haltBinder_getF _ _ _ (by decide), State.haltBinder_getF _ _ _ (by decide), State.haltBinder_getF _ _ _ (by decide)]
      exact s.recordMicro_first b t cause ht hcause hvalid
  · refine ⟨_, execBinderResume_resumes hb hserves hstate atNext, State.getF_setF_same .., fun n hn => ?_, fun f k hf => ?_⟩
    · rw [State.setF_thread, State.thread_mapThreads _ _ _ hn]
      unfold ThreadX.resumed
      simp
    · rw [State.getF_setF_ne _ _ hf, State.mapThreads_getF]
  · extract_lets en on
    rw [hserves.seqBinderEnableWrite_eq]
    have hfits : on < 2 ^ 8 := Nat.or_lt_two_pow (State.getF_lt hs .SEQ_BINDER_ONLINE_ONLINE 0) (Nat.and_le_left.trans_lt (Nat.mod_lt _ (by decide)))
    have hsame : (s.backOnline .SEQ_BINDER_ENABLE_EN .SEQ_BINDER_ONLINE_ONLINE (v.toNat % 256)).getF .SEQ_BINDER_ONLINE_ONLINE 0 = on :=
      (State.getF_setF_same ..).trans (Nat.mod_eq_of_lt hfits)
    dsimp only
    rw [hsame]
    refine ⟨fun hnone => ?_, fun hsome => ?_⟩
    · rw [if_pos hnone]
      exact ⟨_, rfl, s.count_sets _ _ _⟩
    · rw [if_neg hsome]
      have hstart := State.bindersStart_writes v.toNat (List.range 8)
        ((s.backOnline .SEQ_BINDER_ENABLE_EN .SEQ_BINDER_ONLINE_ONLINE (v.toNat % 256)).setF .SEQ_BINDER_ENABLE_EN 0 v.toNat)
      refine ⟨_, rfl, (hstart.reads _ _ (by decide)).trans (State.getF_setF_same ..), ?_, ?_, fun n _ => ?_⟩
      · exact (hstart.reads _ _ (by decide)).trans ((State.getF_setF_ne _ _ (by decide)).trans hsame)
      · exact hstart.part State.jobs
      · exact hstart.part fun u => u.thread n t

end Sys2Proof.Machine
end

section
/-! ## The hash farm's calls (R288 to R299) -/

namespace Sys2Proof.Machine
open Sys2Proof

-- The proofs are elaborated one after another: one that waits for another's premises would keep a thread of its own.
set_option Elab.async false

/-! ### A session store with one entry, or none -/

theorem nset_nil {α : Type} [DecidableEq α] {d v : α} (n : Nat) (hv : v ≠ d) : nset d [] n v = [(n, v)] := by
  unfold nset mset
  rw [if_neg hv]
  rfl

theorem nset_single {α : Type} [DecidableEq α] {d v : α} (n : Nat) (x : α) (hv : v ≠ d) : nset d [(n, x)] n v = [(n, v)] := by
  unfold nset mset
  rw [if_neg hv]
  simp [mdel, mins]

@[simp] theorem State.session_setSession_same (s : State) (n : Nat) (x : FSess) : (s.setSession n x).session n = x := nget_nset_same _ _ _ _

/-! ### The farm's round -/

/-- The fields that the farm's round may write. -/
def farmFlds : List Fld := raiseFlds ++ [.HSH_SESSION_FAIL_COUNT_COUNT, .SCH_REEXEC_COUNT_COUNT, .HSH_BORROW_COUNT_COUNT, .HSH_MASK_STALL_COUNT_COUNT]

theorem State.failSession_spares (s : State) (n cause core : Nat) : Spares farmFlds s (s.failSession n cause core) := by
  unfold State.failSession State.raiseFault
  extract_lets x f s1 s2
  have hs1 : Spares farmFlds s s1 := (((Spares.refl farmFlds s).regs (u := s.setSession n {}) rfl).count _ _ _).raiseErr _ _ _ _
  have hs2 : Spares farmFlds s s2 := .ite hs1 (hs1.raiseErr _ _ _ _)
  split
  · exact hs2
  · exact hs2.engineFault _ _ _ _

theorem State.startCall_spares (s : State) (n : Nat) (h : HCall) (core : Nat) : Spares farmFlds s (s.startCall n h core) := by
  unfold State.startCall
  extract_lets x others len rest s1 _ s2
  have hs2 : Spares farmFlds s s2 := (Spares.refl _ s).regs rfl
  exact .ite (hs2.count _ _ _) hs2

theorem State.markStalls_spares (s : State) : Spares farmFlds s s.markStalls := by
  unfold State.markStalls
  refine (Spares.refl _ s).foldl (fun t e => ?_) _
  split
  · exact .ite (((Spares.refl farmFlds t).regs (u := t.setSession _ _) rfl).count _ _ _) (.refl _ t)
  · exact .refl _ t

theorem State.farmTake_spares (s : State) (fuel : Nat) : Spares farmFlds s (s.farmTake fuel) := by
  induction fuel generalizing s with
  | zero => exact s.markStalls_spares
  | succ fuel ih =>
    unfold State.farmTake
    split
    · exact (s.failSession_spares _ _ _).trans (ih _)
    · split
      · exact s.markStalls_spares
      · split
        · exact s.markStalls_spares
        · split
          · exact s.markStalls_spares
          · exact (s.startCall_spares _ _ _).trans (ih _)

section
variable {s : State} (hidle : ∀ e ∈ s.hsh.sess, e.2.ready = none)
include hidle

theorem State.markStalls_idle : s.markStalls = s := by
  unfold State.markStalls
  refine foldl_fixed_of_mem fun e he => ?_
  rw [hidle e he]

theorem State.startable_idle (kind : Nat) : s.startable kind = [] := by
  unfold State.startable
  rw [List.map_eq_nil_iff, List.filter_eq_nil_iff]
  intro e he
  simp [hidle e he]

theorem State.nextSession_idle (kind : Nat) : s.nextSession kind = none := by
  unfold State.nextSession
  simp [State.startable_idle hidle]

/-- Where no call is ready, the farm has nothing to take. -/
theorem State.farmTake_idle (fuel : Nat) : s.farmTake fuel = s := by
  cases fuel with
  | zero => exact State.markStalls_idle hidle
  | succ fuel =>
    unfold State.farmTake
    have hfull : s.hsh.sess.find? (fun e => e.2.flight.isNone && e.2.ready.elim false fun h => s.noCore h) = none := by
      rw [List.find?_eq_none]
      intro e he
      simp [hidle e he]
    have hnext : (List.range 4).findSome? (fun k => s.nextSession k) = none := by simp [State.nextSession_idle hidle]
    rw [hfull, hnext]
    exact State.markStalls_idle hidle

end


/-! ### A call taken at once -/

theorem findSome?_eq_of {α β : Type} {f : α → Option β} {l : List α} {b : β} (hall : ∀ a ∈ l, f a = none ∨ f a = some b)
    (hone : ∃ a ∈ l, f a = some b) : l.findSome? f = some b := by
  obtain ⟨a, ha, hfa⟩ := hone
  cases h : l.findSome? f with
  | none => exact absurd hfa (by simp [List.findSome?_eq_none_iff.1 h a ha])
  | some c =>
    obtain ⟨x, hx, hfx⟩ := List.exists_of_findSome?_eq_some h
    rcases hall x hx with hn | hb
    · exact absurd hfx (by simp [hn])
    · exact hfx.symm.trans hb

theorem HCall.kind_lt (h : HCall) : h.kind < 4 := by
  unfold HCall.kind b2n
  cases h.sha2 <;> cases h.masked <;> decide

theorem requesterOf_lt {n : Nat} (hn : n < 768) : requesterOf n < 100 := by
  unfold requesterOf
  split
  · omega
  · split <;> omega

theorem State.noCore_of_coreFor {s : State} {h : HCall} {c : Nat} (hc : s.coreFor h = some c) : s.noCore h = false := by
  unfold State.noCore
  by_contra hno
  obtain ⟨hown, hlent⟩ : s.coresOf h.kind = [] ∧ (h.kind = 2 → s.coresOf 3 = []) := by simpa using hno
  by_cases hkind : h.kind = 2
  · simp [State.coreFor, hown, hlent hkind] at hc
  · simp [State.coreFor, hown, hkind] at hc

/-- The entry of a session whose only call waits to be taken. -/
def readyEntry (q i : Nat) (h : HCall) : FSess := { st := 1, owner := some (q, i), ready := some h }

/-- The entry of a session whose only call is in flight on a core. -/
def flightEntry (q i c : Nat) (h : HCall) : FSess := { st := 1, owner := some (q, i), flight := some (c, h) }

section
variable {s : State} {n q i c : Nat} {h : HCall} (hsess : s.hsh.sess = [])
include hsess

theorem State.setSession_ready_sess : (s.setSession n (readyEntry q i h)).hsh.sess = [(n, readyEntry q i h)] :=
  (congrArg (fun m => nset ({} : FSess) m n (readyEntry q i h)) hsess).trans (nset_nil n (by simp [readyEntry]))

theorem State.coreFor_setSession_ready : (s.setSession n (readyEntry q i h)).coreFor h = s.coreFor h := by
  have hserved : (s.setSession n (readyEntry q i h)).servedBy = s.servedBy := by
    funext c
    unfold State.servedBy
    rw [State.setSession_ready_sess hsess, hsess]
    rfl
  have hwaits (hkind : h.kind = 2) : (s.setSession n (readyEntry q i h)).kindWaits 3 = s.kindWaits 3 := by
    unfold State.kindWaits
    rw [State.setSession_ready_sess hsess, hsess]
    simp [readyEntry, hkind]
  unfold State.coreFor
  rw [hserved]
  by_cases hkind : h.kind = 2
  · rw [hwaits hkind]
    rfl
  · simp only [hkind, false_and, if_false]
    rfl

/-- The farm's state once it has taken the only call there is. -/
def State.callTaken (s : State) (n q i c : Nat) (h : HCall) : State :=
  let s1 := (s.setSession n (readyEntry q i h)).setSession n (flightEntry q i c h)
  { s1 with hsh := { s1.hsh with last := nset 0 s1.hsh.last h.kind (requesterOf n + 1) } }

theorem State.callTaken_sess : (s.callTaken n q i c h).hsh.sess = [(n, flightEntry q i c h)] :=
  (congrArg (fun m => nset ({} : FSess) m n (flightEntry q i c h)) (State.setSession_ready_sess hsess)).trans (nset_single n _ (by simp [flightEntry]))

theorem State.startCall_ready (hown : coreKind c = h.kind) (hstalled : h.stalled = none) :
    (s.setSession n (readyEntry q i h)).startCall n h c = s.callTaken n q i c h := by
  have hrun (others : Bool) (ho : others = false) : (s.setSession n (readyEntry q i h)).runLength h c others = h.blocks := by
    simp [State.runLength, ho, hown]
  unfold State.startCall
  extract_lets x others len rest s1 src s2
  have hothers : others = false := by
    unfold others
    rw [State.setSession_ready_sess hsess]
    simp
  have hlen : len = h.blocks := hrun others hothers
  have hrest : rest = none := if_neg (by simp [hlen])
  have hx : x = readyEntry q i h := State.session_setSession_same s n _
  have hcall : ({ h with blocks := len, fin := h.fin && rest.isNone, stalled := none } : HCall) = h := by
    rw [hlen, hrest, ← hstalled]
    simp
  rw [if_neg (by simp [hown])]
  have hs1 : s1 = (s.setSession n (readyEntry q i h)).setSession n (flightEntry q i c h) := by
    unfold s1
    rw [hcall, hrest, hx]
    rfl
  unfold s2 src
  rw [hs1]
  rfl

variable (hn : n < 768) (hcore : s.coreFor h = some c)
include hcore

theorem State.startable_ready (kind : Nat) : (s.setSession n (readyEntry q i h)).startable kind = if h.kind = kind then [n] else [] := by
  unfold State.startable
  rw [State.setSession_ready_sess hsess]
  have hready : (readyEntry q i h).ready = some h := rfl
  have hflight : (readyEntry q i h).flight = none := rfl
  simp only [List.filter_cons, List.filter_nil, hready, hflight, Option.elim_some, State.coreFor_setSession_ready hsess, hcore]
  by_cases hkind : h.kind = kind <;> simp [hkind]

include hn

theorem State.nextSession_ready : (List.range 4).findSome? (s.setSession n (readyEntry q i h)).nextSession = some n := by
  have hkinds (kind : Nat) : (s.setSession n (readyEntry q i h)).nextSession kind = if h.kind = kind then some n else none := by
    unfold State.nextSession
    rw [State.startable_ready hsess hcore]
    split
    · refine findSome?_eq_of (fun r _ => ?_) ⟨requesterOf n, ?_, by simp⟩
      · by_cases hr : requesterOf n = r <;> simp [hr]
      · rw [List.mem_map]
        generalize nget 0 (s.setSession n (readyEntry q i h)).hsh.last kind = after
        have hreq := requesterOf_lt hn
        exact ⟨(requesterOf n + 100 - after % 100) % 100, List.mem_range.2 (Nat.mod_lt _ (by decide)), by omega⟩
    · simp
  refine findSome?_eq_of (fun k _ => ?_) ⟨h.kind, List.mem_range.2 h.kind_lt, by simp [hkinds]⟩
  rw [hkinds]
  split
  · exact .inr rfl
  · exact .inl rfl

/-- The farm takes the only call there is onto the core it can start on. -/
theorem State.farm_takes (hown : coreKind c = h.kind) (hstalled : h.stalled = none) : (s.setSession n (readyEntry q i h)).farm = s.callTaken n q i c h := by
  have hno : (s.setSession n (readyEntry q i h)).noCore h = false := State.noCore_of_coreFor ((State.coreFor_setSession_ready hsess).trans hcore)
  have hready : (readyEntry q i h).ready = some h := rfl
  unfold State.farm
  rw [State.setSession_ready_sess hsess]
  show State.farmTake _ (0 + 1 + 1) = _
  unfold State.farmTake
  rw [State.setSession_ready_sess hsess]
  simp only [List.find?_cons, List.find?_nil, hready, Option.elim_some, hno, Bool.and_false, State.nextSession_ready hsess hn hcore, State.session_setSession_same,
    (State.coreFor_setSession_ready hsess).trans hcore, State.startCall_ready hsess hown hstalled]
  refine State.farmTake_idle (fun e he => ?_) _
  rw [State.callTaken_sess hsess, List.mem_singleton] at he
  rw [he]
  rfl

/-- A call issued to an empty farm with a core for it is in flight at once. -/
theorem State.issueCall_takes {j : Job} (hown : coreKind c = h.kind) (hstalled : h.stalled = none) :
    s.issueCall n j h = s.callTaken n j.q j.idx c h := by
  have hempty : s.session n = {} := by
    unfold State.session
    rw [hsess]
    rfl
  unfold State.issueCall
  rw [hempty]
  exact State.farm_takes hsess hn hcore hown hstalled

end

theorem State.callTaken_session (s : State) (n q i c : Nat) (h : HCall) : (s.callTaken n q i c h).session n = flightEntry q i c h :=
  State.session_setSession_same (s.setSession n (readyEntry q i h)) n (flightEntry q i c h)

/-! ### The commands -/

section
variable {s : State} {n q i c : Nat} {j : Job} (hrun : s.stopped = false) (hj : s.job? q i = some j)

section
variable (hmay : s.maySession n j = true)
include hrun hj hmay

theorem execHashCallStart_issues (sha2 masked fin : Bool) (b : Nat) : exec (.hashCallStart n q i sha2 masked fin b) s =
    .next (s.issueCall n j { sha2 := sha2, masked := masked && j.masksCalls, fin := fin, blocks := max 1 b }) := by
  have hrow : execHashCallStart n q i sha2 masked fin b s = _ := State.clocked_run hrun _
  refine hrow.trans ?_
  simp only [hj, hmay, Bool.not_true, Bool.false_eq_true, if_false]

theorem execHashChainCall_issues (masked : Bool) {start pos steps : Nat} (value adrs : List Byte) (hsteps : 1 ≤ steps ∧ steps ≤ 16) :
    exec (.hashChainCall n q i masked start pos steps value adrs) s = .next (s.issueCall n j
      { sha2 := true, masked := masked && j.masksCalls, blocks := steps, steps := steps, pos := start + pos, data := value, adrs := adrs }) := by
  have hrow : execHashChainCall n q i masked start pos steps value adrs s = _ := State.clocked_run hrun _
  refine hrow.trans ?_
  simp only [hj, hmay, Bool.not_true, Bool.false_eq_true, if_false]
  exact if_neg (by omega)

theorem execHashChainCall_refuses (masked : Bool) {start pos steps : Nat} (value adrs : List Byte) (hsteps : steps = 0 ∨ 16 < steps) :
    exec (.hashChainCall n q i masked start pos steps value adrs) s = .next (s.failSession n 4 0) := by
  have hrow : execHashChainCall n q i masked start pos steps value adrs s = _ := State.clocked_run hrun _
  refine hrow.trans ?_
  simp only [hj, hmay, Bool.not_true, Bool.false_eq_true, if_false]
  exact if_pos hsteps

end

section
variable {x : FSess} {h : HCall} (hsess : s.hsh.sess = [(n, x)]) (hflight : x.flight = some (c, h)) (hready : x.ready = none) (hopen : x.closing = false)
include hsess

theorem State.session_of_single : s.session n = x := by
  unfold State.session
  rw [hsess]
  exact if_pos rfl

/-- With one session and no ready call, a session's change leaves the farm idle. -/
theorem State.farm_setSession {y : FSess} {t : State} (ht : t.hsh = s.hsh) (hy : y.ready = none) : (t.setSession n y).farm = t.setSession n y := by
  refine State.farmTake_idle (fun e he => ?_) _
  have hmem : e ∈ nset ({} : FSess) [(n, x)] n y := by
    rw [← hsess, ← ht]
    exact he
  by_cases hv : y = {}
  · rw [nset, mset, if_pos hv] at hmem
    simp [mdel] at hmem
  · rw [nset_single n x hv, List.mem_singleton] at hmem
    rw [hmem]
    exact hy

include hflight

theorem State.servedBy_single : s.servedBy c = some n := by
  unfold State.servedBy
  rw [hsess]
  simp [hflight]

/-- What the end of the only call does: it is done, or its session fails, or it is ready again. -/
theorem execHashCallEnd_single (hrun : s.stopped = false) (hopen : x.closing = false) (good storeOk : Bool) : exec (.hashCallEnd c good storeOk) s =
    (let s1 := if good then s else s.coreCheckFailed c
     if !storeOk then .next (s1.failSession n 2 c).farm
     else if good then .next (s1.callDone c n h).farm
     else if h.retried then .next (s1.failSession n 1 c).farm
     else
       let y := s1.session n
       let again : HCall := { h with retried := true, avoid := some c, blocks := h.blocks + (y.ready.elim 0 fun r => r.blocks),
                                     fin := y.ready.elim h.fin fun r => r.fin }
       .next ((s1.setSession n { y with flight := none, ready := some again }).count .HSH_CALL_RETRY_COUNT_COUNT 0 1).farm) := by
  have hrow : execHashCallEnd c good storeOk s = _ := State.clocked_run hrun _
  refine hrow.trans ?_
  simp only [State.servedBy_single hsess hflight, State.session_of_single hsess, hflight, hopen, Bool.false_eq_true, if_false]

/-- The session once its call has passed. -/
def FSess.served (x : FSess) (h : HCall) : FSess :=
  { x with flight := none, st := if h.fin then 2 else x.st, value := if h.steps = 0 then x.value else h.chainValue }

theorem execHashCallEnd_passes (hrun : s.stopped = false) (hopen : x.closing = false) (hready : x.ready = none) :
    exec (.hashCallEnd c true true) s = .next ((s.count .HSH_CALL_COUNT_COUNT (coreKind c) 1).setSession n (x.served h)) := by
  have hdone : s.callDone c n h = (s.count .HSH_CALL_COUNT_COUNT (coreKind c) 1).setSession n (x.served h) := by
    unfold State.callDone
    rw [State.session_of_single hsess]
    exact if_neg (Bool.eq_false_iff.1 hopen)
  rw [execHashCallEnd_single hsess hflight hrun hopen]
  simp only [if_true, Bool.not_true, Bool.false_eq_true, if_false, hdone]
  exact congrArg _ (State.farm_setSession hsess rfl hready)

end

end

/-- A failed check is counted, and may take its core offline. -/
theorem State.coreCheckFailed_spares (s : State) (c : Nat) :
    Spares (raiseFlds ++ [.HSH_CORE_ONLINE_ONLINE, .HSH_CORE_OFFLINE_COUNT_COUNT]) (s.count .HSH_CHECK_ERROR_COUNT_COUNT 0 1) (s.coreCheckFailed c) := by
  unfold State.coreCheckFailed
  extract_lets l _ s1 s2
  have hs1 : Spares (raiseFlds ++ [.HSH_CORE_ONLINE_ONLINE, .HSH_CORE_OFFLINE_COUNT_COUNT]) (s.count .HSH_CHECK_ERROR_COUNT_COUNT 0 1) s1 :=
    (Spares.refl _ _).regs rfl
  exact .ite hs1 (((hs1.setF _ _ _).count _ _ _).raiseErr _ _ _ _)

section
variable {s : State} {n q i c : Nat} {x : FSess} {h : HCall} (hrun : s.stopped = false)
include hrun

/-- A first failed check is counted, and once as a repetition. -/
theorem execHashCallEnd_repeats (hsess : s.hsh.sess = [(n, x)]) (hflight : x.flight = some (c, h)) (hopen : x.closing = false) (hfirst : h.retried = false) :
    ∃ t, exec (.hashCallEnd c false true) s = .next t ∧ t.getF .HSH_CALL_RETRY_COUNT_COUNT 0 = s.plus .HSH_CALL_RETRY_COUNT_COUNT 0 1 ∧
      t.getF .HSH_CHECK_ERROR_COUNT_COUNT 0 = s.plus .HSH_CHECK_ERROR_COUNT_COUNT 0 1 := by
  rw [execHashCallEnd_single hsess hflight hrun hopen]
  simp only [Bool.false_eq_true, if_false, Bool.not_true, hfirst]
  have hcheck := s.coreCheckFailed_spares c
  generalize s.coreCheckFailed c = s1 at hcheck
  have hretries : s1.getF .HSH_CALL_RETRY_COUNT_COUNT 0 = s.getF .HSH_CALL_RETRY_COUNT_COUNT 0 := by
    rw [hcheck _ _ (by decide), State.count_getF, if_neg (by simp)]
  have hchecks : s1.getF .HSH_CHECK_ERROR_COUNT_COUNT 0 = s.plus .HSH_CHECK_ERROR_COUNT_COUNT 0 1 := by
    rw [hcheck _ _ (by decide), State.count_getF, if_pos ⟨rfl, rfl⟩]
  have hfarm : ∀ u : State, Spares farmFlds u u.farm := fun u => u.farmTake_spares _
  refine ⟨_, rfl, (hfarm _ _ _ (by decide)).trans ?_, (hfarm _ _ _ (by decide)).trans ?_⟩
  · rw [State.count_getF, if_pos ⟨rfl, rfl⟩]
    unfold State.plus
    rw [← hretries]
    rfl
  · rw [State.count_getF, if_neg (by simp)]
    exact hchecks

/-! ### Masks that do not come -/

/-- A job ended because randomness did not come. -/
def Job.entropyEnded (detail : Nat) (k : Job) : Job :=
  { k with status := stEntropy, detail := detail, computed := true, stage := .ended, pools := [], resPools := [], core := none, slot := none, slots := [],
           entSince := none }

omit hrun in
theorem Job.entropyEnded_place (detail q i : Nat) : KeepsPlace q i (Job.entropyEnded detail) := fun _ hq hi => ⟨hq, hi⟩

theorem execMaskedCallWaitTimeout_ends {j : Job} (hready : (s.session n).ready = some h) (hstalled : h.stalled.isSome = true)
    (howner : (s.session n).owner = some (q, i)) (hj : s.job? q i = some j) : exec (.maskedCallWaitTimeout n) s =
    .next ((((s.setSession n {}).letGo j).updJob j.q j.idx (Job.entropyEnded (s.entropyDetail j))).count .ENT_TIMEOUT_COUNT_COUNT 0 1) := by
  have hrow : execMaskedCallWaitTimeout n s = _ := State.clocked_run hrun _
  refine hrow.trans ?_
  have hwaits : h.stalled.isNone = false := by
    rw [← Option.not_isSome, hstalled]
    rfl
  simp only [hready, hwaits, howner, Option.bind_some, hj, Bool.false_eq_true, if_false]
  rfl

omit hrun in
/-- A free entry of the session store stays free as a job lets go of what it holds. -/
theorem State.letGo_session (j : Job) (hfree : s.session n = {}) : (s.letGo j).session n = {} := by
  have hclose (t : State) (m : Nat) (ht : t.session n = {}) : (t.closeSession m).session n = {} := by
    by_cases hm : n = m
    · subst hm
      unfold State.closeSession
      refine (nget_nset_same ..).trans (if_neg ?_)
      rw [show nget {} t.hsh.sess n = {} from ht]
      exact Bool.false_ne_true
    · exact (nget_nset_ne _ _ _ hm).trans ht
  have hscrub : (s.scrubJob j.q j.idx).hsh = s.hsh :=
    List.foldlRecOn (motive := fun t : State => t.hsh = s.hsh) _ _ rfl fun t ht e _ => by rwa [t.scrubQuarter_frame]
  have hleave : (s.leaveEngine j).session n = {} :=
    List.foldlRecOn (motive := fun t : State => t.session n = {}) _ _ ((congrArg (fun x : HshX => nget ({} : FSess) x.sess n) hscrub).trans hfree)
      fun t ht m _ => hclose t m ht
  unfold State.letGo
  dsimp only
  split <;> exact hleave

end

/-! ### The enable mask -/

/-- With no session, new enables are only set. -/
theorem State.Serves.hshCoreEnableWrite_eq {s : State} (hs : s.Serves) (hsess : s.hsh.sess = []) (v : W32) : exec (.hshCoreEnableWrite v) s =
    let s1 := s.backOnline .HSH_CORE_ENABLE_EN .HSH_CORE_ONLINE_ONLINE v.toNat
    if s1.hashMaskOk v.toNat then .next (s1.setF .HSH_CORE_ENABLE_EN 0 v.toNat) else .next (s.count .HSH_CFG_REFUSED_COUNT_COUNT 0 1) := by
  have hidle (t : State) (ht : t.hsh = s.hsh) : t.farm = t := by
    refine State.farmTake_idle (fun e he => ?_) _
    rw [ht, hsess] at he
    exact absurd he List.not_mem_nil
  refine (hs.mmio _ : execHshCoreEnableWrite v s = _).trans ?_
  dsimp only
  rw [hidle ((s.backOnline .HSH_CORE_ENABLE_EN .HSH_CORE_ONLINE_ONLINE v.toNat).setF .HSH_CORE_ENABLE_EN 0 v.toNat) rfl]

/-! ### The statement -/

/-- Settles O53: a call alone in the farm is taken at once; a call's end by what its checks found; the job of a call without masks ends. -/
theorem farmCalls : Obligations.FarmCalls := by
  unfold Obligations.FarmCalls
  intro s n q i c j hrun hj
  obtain ⟨hq, hi⟩ := State.place_of_job? hj
  refine ⟨fun sha2 masked fin b start pos steps value adrs hsess hmay => ?_, fun x h hsess hflight hready hopen => ?_,
    fun h hready hstalled howner => ?_, fun v hserves hs hsess => ?_⟩
  · have hn : n < 768 := by
      unfold State.maySession at hmay
      simp only [Bool.and_eq_true, decide_eq_true_eq] at hmay
      obtain ⟨⟨⟨⟨hn, -⟩, -⟩, -⟩, -⟩ := hmay
      exact hn
    have htaken (h : HCall) (hcore : s.coreFor h = some c) (hown : coreKind c = h.kind) (hstalled : h.stalled = none) :
        s.issueCall n j h = s.callTaken n q i c h := by
      rw [State.issueCall_takes hsess hn hcore hown hstalled, hq, hi]
    refine ⟨fun h hh hcore hown => ⟨_, ?_, s.callTaken_session n q i c h, rfl⟩, fun h hh hlow hhigh hcore hown => ⟨_, ?_, s.callTaken_session n q i c h, rfl⟩,
      fun hsteps => execHashChainCall_refuses hrun hj hmay masked value adrs hsteps⟩
    · rw [execHashCallStart_issues hrun hj hmay, ← hh, htaken h hcore hown (hh ▸ rfl)]
    · rw [execHashChainCall_issues hrun hj hmay masked value adrs ⟨hlow, hhigh⟩, ← hh, htaken h hcore hown (hh ▸ rfl)]
  · refine ⟨⟨_, execHashCallEnd_passes hsess hflight hrun hopen hready, State.session_setSession_same .., ?_⟩,
      execHashCallEnd_repeats hrun hsess hflight hopen, fun hagain => ?_, ?_⟩
    · exact (State.count_getF ..).trans (if_pos ⟨rfl, rfl⟩)
    · rw [execHashCallEnd_single hsess hflight hrun hopen]
      simp only [Bool.false_eq_true, if_false, Bool.not_true, hagain, if_true]
    · rw [execHashCallEnd_single hsess hflight hrun hopen]
      rfl
  · subst hq hi
    refine ⟨_, j.entropyEnded (s.entropyDetail j), execMaskedCallWaitTimeout_ends hrun hready hstalled howner hj, ?_, ?_, rfl, rfl, rfl, rfl, rfl, ?_⟩
    · exact State.letGo_session j (State.session_setSession_same ..)
    · exact State.job?_updJob_place (((s.setSession n {}).job?_of_jobs (State.letGo_jobs _ j) _ _).trans hj) (Job.entropyEnded_place _ _ _)
    · rw [State.count_getF, if_pos ⟨rfl, rfl⟩]
      unfold State.plus
      rw [State.updJob_getF, State.getF_regs (State.letGo_regs _ j)]
      rfl
  · extract_lets on kept
    rw [hserves.hshCoreEnableWrite_eq hsess]
    have hfits : on < 2 ^ 32 := Nat.or_lt_two_pow (State.getF_lt hs .HSH_CORE_ONLINE_ONLINE 0) (Nat.and_le_left.trans_lt v.isLt)
    have hsame : (s.backOnline .HSH_CORE_ENABLE_EN .HSH_CORE_ONLINE_ONLINE v.toNat).getF .HSH_CORE_ONLINE_ONLINE 0 = on :=
      (State.getF_setF_same ..).trans (Nat.mod_eq_of_lt hfits)
    have hkept : (s.backOnline .HSH_CORE_ENABLE_EN .HSH_CORE_ONLINE_ONLINE v.toNat).hashMaskOk v.toNat = true ↔ kept := by
      unfold State.hashMaskOk
      rw [hsame, List.all_eq_true]
      exact forall₂_congr fun _ _ => bne_iff_ne
    refine ⟨fun hk => ⟨_, if_pos (hkept.2 hk), ?_⟩, fun hk => ⟨_, if_neg (mt hkept.1 hk), s.count_sets _ _ _⟩⟩
    exact (((Sets.refl s).setF .HSH_CORE_ONLINE_ONLINE 0 on (by simp) hfits).setF .HSH_CORE_ENABLE_EN 0 v.toNat (by simp) v.isLt).perm (List.Perm.swap _ _ _)

end Sys2Proof.Machine
end

section
/-! ## Entropy: cells, instances and strings (R333 to R345) -/

namespace Sys2Proof.Machine
open Sys2Proof

-- The proofs are elaborated one after another: one that waits for another's premises would keep a thread of its own.
set_option Elab.async false

/-! ### What a fold establishes -/

/-- What one step of a fold makes true and no step undoes holds at its end. -/
theorem foldl_establishes {α β : Type} {P : β → Prop} {f : β → α → β} {l : List α} {a : α} (ha : a ∈ l) (hmakes : ∀ t, P (f t a)) (hkeeps : ∀ t x, P t → P (f t x))
    (t : β) : P (l.foldl f t) := by
  induction l generalizing t with
  | nil => exact absurd ha List.not_mem_nil
  | cons x l ih =>
    rcases List.mem_cons.1 ha with rfl | ha
    · exact List.foldlRecOn (motive := P) l f (hmakes t) fun u hu y _ => hkeeps u y hu
    · exact ih ha _

theorem bit_mod_two_pow {x w n : Nat} (hn : n < w) : bit (x % 2 ^ w) n = bit x n := by
  unfold bit
  rw [Nat.testBit_mod_two_pow, decide_eq_true hn, Bool.true_and]

/-! ### Cells -/

section
variable (s : State)

@[simp] theorem State.setCellOk_getF {f : Fld} (c : Nat) (b : Bool) (i : Nat) (hf : f ≠ .ENT_STATUS_CELL_OK) : (s.setCellOk c b).getF f i = s.getF f i :=
  State.getF_setF_ne _ _ (by simp [hf])

theorem State.setCellOk_bit {c n : Nat} (b : Bool) (hn : n < 8) :
    bit ((s.setCellOk c b).getF .ENT_STATUS_CELL_OK 0) n = if n = c then b else bit (s.getF .ENT_STATUS_CELL_OK 0) n := by
  unfold State.setCellOk
  rw [State.getF_setF_same, bit_mod_two_pow (by exact hn)]
  cases b with
  | true =>
    rw [show b2n true = 1 from rfl, bit_setBits_one]
    split <;> simp [*]
  | false =>
    rw [show b2n false = 0 from rfl]
    split
    · next h => rw [h, bit_setBits_zero]
    · next h => exact bit_setBits_zero_ne _ h

/-- The recorded failure and the isolated cell change only these. -/
def isolateFlds : List Fld := [.ENT_CELL_FAIL_LAST_TEST, .ENT_CELL_FAIL_COUNT, .ENT_STATUS_CELL_OK]

theorem State.isolate_spares (c test : Nat) : Spares isolateFlds s (s.isolate c test) := by
  unfold State.isolate State.recordFail State.setCellOk
  extract_lets s1
  exact Spares.regs ((((Spares.refl _ s).setF _ _ _).count _ _ _).setF _ _ _) rfl

theorem State.isolate_bit {c n : Nat} (test : Nat) (hn : n < 8) :
    bit ((s.isolate c test).getF .ENT_STATUS_CELL_OK 0) n = (!decide (n = c) && bit (s.getF .ENT_STATUS_CELL_OK 0) n) := by
  have hcell : bit ((s.isolate c test).getF .ENT_STATUS_CELL_OK 0) n = bit (((s.recordFail c test).setCellOk c false).getF .ENT_STATUS_CELL_OK 0) n := rfl
  have hrecord : (s.recordFail c test).getF .ENT_STATUS_CELL_OK 0 = s.getF .ENT_STATUS_CELL_OK 0 := by
    unfold State.recordFail
    rw [State.count_getF, if_neg (by simp), State.getF_setF_ne _ _ (by simp)]
  rw [hcell, State.setCellOk_bit _ _ hn, hrecord]
  by_cases h : n = c <;> simp [h]

/-- A passing cell isolated is one cell less. -/
theorem State.isolate_cellsOk {c : Nat} (test : Nat) (hc : c < 8) (hok : bit (s.getF .ENT_STATUS_CELL_OK 0) c = true) :
    (s.isolate c test).cellsOk + 1 = s.cellsOk := by
  have hsplit : (List.range 8).filter (fun n => bit ((s.isolate c test).getF .ENT_STATUS_CELL_OK 0) n) =
      ((List.range 8).filter fun n => bit (s.getF .ENT_STATUS_CELL_OK 0) n).erase c := by
    rw [(List.nodup_range.filter _).erase_eq_filter, List.filter_filter]
    refine List.filter_congr fun n hn => ?_
    rw [State.isolate_bit _ _ (List.mem_range.1 hn)]
    rfl
  have hmem : c ∈ (List.range 8).filter fun n => bit (s.getF .ENT_STATUS_CELL_OK 0) n := List.mem_filter.2 ⟨List.mem_range.2 hc, hok⟩
  unfold State.cellsOk
  rw [hsplit, List.length_erase_of_mem hmem]
  have hpos := List.length_pos_of_mem hmem
  omega

theorem State.isolate_isolated (c test : Nat) : c ∈ (s.isolate c test).ent.isolated := by
  show c ∈ addNew s.ent.isolated c
  unfold addNew
  split <;> simp_all

/-- What the settling of STATE after a change of cells may write. -/
def settleFlds : List Fld := .ENT_STATUS_STATE :: raiseFlds

theorem State.enterDegraded_spares (c : Nat) : Spares settleFlds s (s.enterDegraded c) := by
  unfold State.enterDegraded
  extract_lets _ s1
  exact (((Spares.refl settleFlds s).regs (u := s1) rfl).setF _ _ _).raiseErr _ _ _ _

theorem State.settleCells_spares (c : Nat) : Spares settleFlds s (s.settleCells c) := by
  unfold State.settleCells
  refine .ite (s.enterDegraded_spares c) (.ite (Spares.setF ((Spares.refl _ s).regs rfl) _ _ _) (.refl _ s))

/-- In RUN with four passing cells or more nothing settles. -/
theorem State.settleCells_running {c : Nat} (hstate : s.getF .ENT_STATUS_STATE 0 = 2) (hcells : 4 ≤ s.cellsOk) : s.settleCells c = s := by
  unfold State.settleCells State.degraded
  rw [if_neg (by simp [hcells]), if_neg (by simp [hstate, entDegraded])]

theorem State.settleCells_degrades {c : Nat} (hstate : s.getF .ENT_STATUS_STATE 0 = 2) (hcells : s.cellsOk < 4) : s.settleCells c = s.enterDegraded c :=
  if_pos ⟨hstate, decide_eq_true hcells⟩

theorem State.enterDegraded_state (c : Nat) : (s.enterDegraded c).getF .ENT_STATUS_STATE 0 = 3 := by
  unfold State.enterDegraded
  dsimp only
  rw [State.raiseErr_getF _ _ _ _ _ _ _ (by decide), State.getF_setF_same]
  rfl

theorem State.enterDegraded_quiet (c : Nat) : (s.enterDegraded c).ent.quietSince = some s.now := by
  unfold State.enterDegraded
  dsimp only
  rw [State.raiseErr_ent]
  rfl

theorem State.enterDegraded_cause (c : Nat) : bit ((s.enterDegraded c).getF .BLK_ERR_STATUS_CAUSE 11) 0 = true := by
  unfold State.enterDegraded
  dsimp only
  refine (State.raiseErr_cause_bit _ _ _ _ (by decide)).trans ?_
  simp

end

section
variable {s : State} {c k : Nat} (hrun : s.stopped = false)
include hrun

theorem execCellHealthFail_records (hok : bit (s.getF .ENT_STATUS_CELL_OK 0) c = false) : exec (.cellHealthFail c k) s = .next (s.recordFail c k) := by
  have hrow : execCellHealthFail c k s = _ := State.clocked_run hrun _
  exact hrow.trans (if_neg (Bool.eq_false_iff.1 hok))

theorem execCellHealthFail_isolates (hok : bit (s.getF .ENT_STATUS_CELL_OK 0) c = true) : exec (.cellHealthFail c k) s =
    .next (((s.isolate c k).settleCells c).raiseErr blkENT 1 c (((s.isolate c k).settleCells c).cellFailWord c)) := by
  have hrow : execCellHealthFail c k s = _ := State.clocked_run hrun _
  exact hrow.trans (if_pos hok)

theorem execCellRetestComplete_passes (htesting : c ∈ s.ent.testing) : exec (.cellRetestComplete c 0) s =
    .next (({ s with ent := { s.ent with testing := s.ent.testing.filter (· != c) } }.setCellOk c true).settleCells c) := by
  have hrow : execCellRetestComplete c 0 s = _ := State.clocked_run hrun _
  refine hrow.trans ?_
  rw [List.contains_iff_mem.2 htesting]
  rfl

end

/-- The entropy unit's part of the state but for its quiet time stands as cells settle. -/
theorem State.settleCells_testing (s : State) (c : Nat) : (s.settleCells c).ent.testing = s.ent.testing := by
  unfold State.settleCells State.enterDegraded
  dsimp only
  split
  · rw [State.raiseErr_ent]
    rfl
  · split <;> rfl

/-! ### Cells isolated, tested again, enabled -/

section
variable {s : State} {c k : Nat} (hs : s.regsOk) (hrun : s.stopped = false) (hc : c < 8)

theorem State.isolate_regsOk (hs : s.regsOk) (c k : Nat) : (s.isolate c k).regsOk :=
  State.regsOk_regs (s := (s.recordFail c k).setCellOk c false) rfl (State.setF_regsOk (State.setF_regsOk (State.setF_regsOk hs _ _ _) _ _ _) _ _ _)

include hc

theorem State.isolate_off (k : Nat) : bit ((s.isolate c k).getF .ENT_STATUS_CELL_OK 0) c = false := by
  rw [State.isolate_bit _ _ hc]
  simp

include hrun

/-- A cell isolated while more than four pass leaves the unit in RUN. -/
theorem execCellHealthFail_inService (hs : s.regsOk) (hok : bit (s.getF .ENT_STATUS_CELL_OK 0) c = true) (hcells : 4 < s.cellsOk)
    (hstate : s.getF .ENT_STATUS_STATE 0 = 2) : ∃ t, exec (.cellHealthFail c k) s = .next t ∧
      bit (t.getF .ENT_STATUS_CELL_OK 0) c = false ∧ t.getF .ENT_STATUS_STATE 0 = 2 ∧ c ∈ t.ent.isolated ∧ Raised s t 11 1 := by
  have hspares := s.isolate_spares c k
  have hcount := s.isolate_cellsOk k hc hok
  have hsame : (s.isolate c k).settleCells c = s.isolate c k := State.settleCells_running _ ((hspares _ _ (by decide)).trans hstate) (by omega)
  refine ⟨_, execCellHealthFail_isolates hrun hok, ?_⟩
  rw [hsame]
  refine ⟨?_, ?_, ?_, ?_⟩
  · rw [State.raiseErr_getF _ _ _ _ _ _ _ (by decide)]
    exact State.isolate_off hc k
  · rw [State.raiseErr_getF _ _ _ _ _ _ _ (by decide), hspares _ _ (by decide), hstate]
  · rw [State.raiseErr_ent]
    exact s.isolate_isolated c k
  · exact (State.raiseErr_raised _ 11 1 _ _ (by decide) (State.isolate_regsOk hs c k)).congr
      (fun f hf => (hspares f _ (by revert f; decide)).symm) fun _ _ => rfl

/-- A cell isolated while four pass turns the unit DEGRADED. -/
theorem execCellHealthFail_degrades (hok : bit (s.getF .ENT_STATUS_CELL_OK 0) c = true) (hcells : s.cellsOk = 4)
    (hstate : s.getF .ENT_STATUS_STATE 0 = 2) : ∃ t, exec (.cellHealthFail c k) s = .next t ∧
      bit (t.getF .ENT_STATUS_CELL_OK 0) c = false ∧ t.getF .ENT_STATUS_STATE 0 = 3 ∧ t.ent.quietSince = some s.now ∧
      bit (t.getF .BLK_ERR_STATUS_CAUSE 11) 0 = true ∧ bit (t.getF .BLK_ERR_STATUS_CAUSE 11) 1 = true := by
  have hspares := s.isolate_spares c k
  have hcount := s.isolate_cellsOk k hc hok
  have hsettle : (s.isolate c k).settleCells c = (s.isolate c k).enterDegraded c :=
    State.settleCells_degrades _ ((hspares _ _ (by decide)).trans hstate) (by omega)
  refine ⟨_, execCellHealthFail_isolates hrun hok, ?_⟩
  rw [hsettle]
  have hcause (n : Nat) (hn : n < 32) : bit ((((s.isolate c k).enterDegraded c).raiseErr blkENT 1 c (((s.isolate c k).enterDegraded c).cellFailWord c)).getF
      .BLK_ERR_STATUS_CAUSE 11) n = (decide (n = 1) || bit (((s.isolate c k).enterDegraded c).getF .BLK_ERR_STATUS_CAUSE 11) n) :=
    State.raiseErr_cause_bit _ 11 _ _ hn
  refine ⟨?_, ?_, ?_, ?_, ?_⟩
  · rw [State.raiseErr_getF _ _ _ _ _ _ _ (by decide), State.enterDegraded_spares _ _ _ _ (by decide)]
    exact State.isolate_off hc k
  · rw [State.raiseErr_getF _ _ _ _ _ _ _ (by decide), State.enterDegraded_state]
  · rw [State.raiseErr_ent]
    exact (s.isolate c k).enterDegraded_quiet c
  · rw [hcause 0 (by decide), State.enterDegraded_cause]
    rfl
  · rw [hcause 1 (by decide)]
    rfl

theorem execCellRetestComplete_returns (htesting : c ∈ s.ent.testing) : ∃ t, exec (.cellRetestComplete c 0) s = .next t ∧
    bit (t.getF .ENT_STATUS_CELL_OK 0) c = true ∧ c ∉ t.ent.testing := by
  refine ⟨_, execCellRetestComplete_passes hrun htesting, ?_, ?_⟩
  · rw [State.settleCells_spares _ _ _ _ (by decide), State.setCellOk_bit _ _ hc, if_pos rfl]
  · rw [State.settleCells_testing]
    show c ∉ s.ent.testing.filter (· != c)
    simp

end

/-- A cell whose enable bit changes: it leaves service, or waits for its test. -/
def State.cellEnabled (old new : Nat) (t : State) (c : Nat) : State :=
  if bit old c && !bit new c then { t with ent := { t.ent with testing := t.ent.testing.filter (· != c) } }.setCellOk c false
  else if !bit old c && bit new c && !t.ent.isolated.contains c && t.getF .ENT_STATUS_STATE 0 ≥ entRun then
    { t with ent := { t.ent with testing := addNew t.ent.testing c } }
  else t

section
variable {old new : Nat} {t : State}

theorem State.cellEnabled_spares (t : State) (c : Nat) : Spares [.ENT_STATUS_CELL_OK] t (t.cellEnabled old new c) :=
  .ite (Spares.setF ((Spares.refl _ t).regs rfl) _ _ _) (.ite ((Spares.refl _ t).regs rfl) (.refl _ t))

theorem State.cellEnabled_off {c : Nat} (hc : c < 8) (hold : bit old c = true) (hnew : bit new c = false) :
    bit ((t.cellEnabled old new c).getF .ENT_STATUS_CELL_OK 0) c = false := by
  unfold State.cellEnabled
  rw [if_pos (by simp [hold, hnew]), State.setCellOk_bit _ _ hc, if_pos rfl]

theorem State.cellEnabled_keeps_off {c : Nat} (hc : c < 8) (n : Nat) (hoff : bit (t.getF .ENT_STATUS_CELL_OK 0) c = false) :
    bit ((t.cellEnabled old new n).getF .ENT_STATUS_CELL_OK 0) c = false := by
  unfold State.cellEnabled
  split
  · rw [State.setCellOk_bit _ _ hc]
    split
    · rfl
    · exact hoff
  · split <;> exact hoff

end

theorem State.Serves.entCellEnableWrite_eq {s : State} (hs : s.Serves) (v : W32) : exec (.entCellEnableWrite v) s =
    if ((List.range 8).filter fun c => bit v.toNat c).length < 4 then .next (s.count .ENT_CFG_REFUSED_COUNT_COUNT 0 1) else
    .next (((List.range 8).foldl (State.cellEnabled (s.getF .ENT_CELL_ENABLE_EN 0) (v.toNat % 256)) (s.setF .ENT_CELL_ENABLE_EN 0 (v.toNat % 256))).settleCells
      (((List.range 8).find? fun c => bit (s.getF .ENT_CELL_ENABLE_EN 0) c && !bit (v.toNat % 256) c).getD 0)) := by
  have hbits : ((List.range 8).filter fun c => bit (v.toNat % 256) c) = (List.range 8).filter fun c => bit v.toNat c :=
    List.filter_congr fun n hn => bit_mod_two_pow (w := 8) (List.mem_range.1 hn)
  rw [← hbits, ← bits_low8]
  exact (hs.mmio _ : execEntCellEnableWrite v s = _)

theorem State.Serves.entCellEnableWrite_effects {s : State} (hs : s.Serves) (v : W32) :
    (((List.range 8).filter fun c => bit v.toNat c).length < 4 → ∃ t, exec (.entCellEnableWrite v) s = .next t ∧
      Sets s t [((.ENT_CFG_REFUSED_COUNT_COUNT, 0), s.plus .ENT_CFG_REFUSED_COUNT_COUNT 0 1)]) ∧
    (4 ≤ ((List.range 8).filter fun c => bit v.toNat c).length → ∃ t, exec (.entCellEnableWrite v) s = .next t ∧
      t.getF .ENT_CELL_ENABLE_EN 0 = v.toNat % 256 ∧ ∀ c < 8, bit v.toNat c = false → bit (s.getF .ENT_CELL_ENABLE_EN 0) c = true →
        bit (t.getF .ENT_STATUS_CELL_OK 0) c = false) := by
  rw [hs.entCellEnableWrite_eq]
  refine ⟨fun hfew => ⟨_, if_pos hfew, s.count_sets _ _ _⟩, fun hmany => ⟨_, if_neg (by omega), ?_, fun c hc hnew hold => ?_⟩⟩
  · rw [State.settleCells_spares _ _ _ _ (by decide), (Spares.refl [.ENT_STATUS_CELL_OK] _).foldl State.cellEnabled_spares _ _ _ (by decide), State.getF_setF_same]
    exact Nat.mod_mod _ _
  · rw [State.settleCells_spares _ _ _ _ (by decide)]
    refine foldl_establishes (P := fun t : State => bit (t.getF .ENT_STATUS_CELL_OK 0) c = false) (List.mem_range.2 hc)
      (fun t => State.cellEnabled_off hc hold ((bit_mod_two_pow (w := 8) hc).trans hnew)) (fun t n hoff => State.cellEnabled_keeps_off hc n hoff) _

/-! ### Conditioner outputs, instances and strings -/

section
variable {s : State}

/-- The fields of one generator. -/
def drbgFlds : List Fld := [.ENT_DRBG_STATUS_CALLS, .ENT_DRBG_STATUS_STALLED]

theorem State.reseed_spares (s : State) (d : Nat) : Spares drbgFlds s (s.reseed d) := by
  unfold State.reseed
  extract_lets _ s1
  exact ((((Spares.refl drbgFlds s).regs (u := s1) rfl).setF _ _ _).setF _ _ _)

theorem State.reseed_calls (s : State) (d : Nat) : (s.reseed d).getF .ENT_DRBG_STATUS_CALLS d = 0 := by
  unfold State.reseed
  dsimp only
  rw [State.setFlag_getF, if_neg (by simp), State.getF_setF_same]
  rfl

theorem State.reseed_stalled (s : State) (d e : Nat) :
    (s.reseed d).getF .ENT_DRBG_STATUS_STALLED e = if e = d then 0 else s.getF .ENT_DRBG_STATUS_STALLED e := by
  unfold State.reseed
  dsimp only
  rw [State.setFlag_getF]
  by_cases h : e = d
  · simp [h, b2n]
  · rw [if_neg (by simp [h]), if_neg h, State.getF_setF_ne _ _ (by simp)]
    rfl

/-- Instances reseeded are not stalled. -/
theorem State.foldl_reseed_stalled {l : List Nat} {d : Nat} (hd : d ∈ l) (s : State) :
    (l.foldl (fun t d => t.reseed d) s).getF .ENT_DRBG_STATUS_STALLED d = 0 := by
  refine foldl_establishes (P := fun t : State => t.getF .ENT_DRBG_STATUS_STALLED d = 0) hd (fun t => ?_) (fun t e ht => ?_) s
  · rw [State.reseed_stalled, if_pos rfl]
  · rw [State.reseed_stalled]
    split
    · rfl
    · exact ht

theorem State.drbgOk_calls {d n : Nat} (h : s.drbgOk d n = true) : s.getF .ENT_DRBG_STATUS_CALLS d + n ≤ 2 ^ 24 := by
  unfold State.drbgOk at h
  simp only [Bool.and_eq_true, decide_eq_true_eq] at h
  exact h.2

theorem State.seedString_gens (s : State) (k : Nat) :
    (s.seedString k).ent.gens = nset {} s.ent.gens k { seed := s.nextRandom 32, since := s.now } := rfl

theorem State.seedString_gen (s : State) (k : Nat) : nget {} (s.seedString k).ent.gens k = { seed := s.nextRandom 32, since := s.now } := by
  rw [State.seedString_gens]
  exact nget_nset_same ({} : GenX) _ _ _

theorem State.seedString_gen_ne (s : State) {k n : Nat} (h : n ≠ k) : nget {} (s.seedString k).ent.gens n = nget {} s.ent.gens n := by
  rw [State.seedString_gens]
  exact nget_nset_ne ({} : GenX) _ _ h

theorem State.seedString_calls (k : Nat) (hok : s.drbgOk (stringInstance k) 1 = true) :
    (s.seedString k).getF .ENT_DRBG_STATUS_CALLS (stringInstance k) = s.getF .ENT_DRBG_STATUS_CALLS (stringInstance k) + 1 := by
  have hroom := State.drbgOk_calls hok
  refine (State.getF_setF_same ..).trans ?_
  rw [Nat.min_eq_left hroom]
  exact Nat.mod_eq_of_lt (by rw [show Fld.width .ENT_DRBG_STATUS_CALLS = 25 from rfl]; omega)

/-- A string that has been seeded holds 32 bytes. -/
theorem State.foldl_seedString_length {l : List Nat} {k : Nat} (hk : k ∈ l) (s : State) :
    (nget {} (l.foldl (fun t k => t.seedString k) s).ent.gens k).seed.length = 32 := by
  have hlen (t : State) (k : Nat) : (nget {} (t.seedString k).ent.gens k).seed.length = 32 := by
    rw [State.seedString_gen]
    exact bytesOf_length _ _
  refine foldl_establishes (P := fun t : State => (nget {} t.ent.gens k).seed.length = 32) hk (fun t => hlen t k) (fun t n ht => ?_) s
  by_cases h : k = n
  · subst h
    exact hlen t k
  · rw [State.seedString_gen_ne _ h]
    exact ht

variable (hrun : s.stopped = false)
include hrun

theorem execConditionerOutput_counts (hcells : s.degraded = false) (hstate : s.getF .ENT_STATUS_STATE 0 ≠ 5) :
    exec .conditionerOutput s = .next ({ s with ent := { s.ent with outputs := s.ent.outputs + 1 } }.count .ENT_COND_COUNT_COUNT 0 1) := by
  have hrow : execConditionerOutput s = _ := State.clocked_run hrun _
  exact hrow.trans (if_neg (by simp [hcells, hstate, entLatched]))

theorem execDrbgReseed_six (hcells : s.degraded = false) (hstate : s.getF .ENT_STATUS_STATE 0 ≠ 5) (hready : s.getF .ENT_STATUS_READY 0 ≠ 0)
    (hout : 0 < s.ent.outputs) : exec (.drbgReseed 6) s = .next ({ s with ent := { s.ent with outputs := s.ent.outputs - 1 } }.reseed 6) := by
  have hrow : execDrbgReseed 6 s = _ := State.clocked_run hrun _
  have hflag : s.flag .ENT_STATUS_READY 0 = true := by simpa [State.flag] using hready
  exact hrow.trans (if_neg (by simp [hflag, hcells, hstate, entLatched, Nat.ne_of_gt hout]))

theorem execDrbgStall_stalls {d : Nat} (hcalls : s.getF .ENT_DRBG_STATUS_CALLS d = 2 ^ 24) (hstalled : s.getF .ENT_DRBG_STATUS_STALLED d = 0) :
    exec (.drbgStall d) s = .next ((s.setFlag .ENT_DRBG_STATUS_STALLED d true).count .ENT_STALL_COUNT_COUNT 0 1) := by
  have hrow : execDrbgStall d s = _ := State.clocked_run hrun _
  exact hrow.trans (if_pos ⟨hcalls, by simp [State.flag, hstalled]⟩)

section
variable {k : Nat} (hk : k < 42)
include hk

theorem execStringSeedDelivery_seeds (hok : s.drbgOk (stringInstance k) 1 = true) : exec (.stringSeedDelivery k) s = .next (s.seedString k) := by
  have hrow : execStringSeedDelivery k s = _ := State.clocked_run hrun _
  refine hrow.trans ((if_neg (by simp [hok]; omega)).trans ?_)
  exact congrArg _ (if_neg (by omega))

theorem execMaskGenReseedRequest_marks : exec (.maskGenReseedRequest k) s =
    .next { s with ent := { s.ent with gens := nset ({} : GenX) s.ent.gens k { (nget {} s.ent.gens k : GenX) with requested := true } } } := by
  have hrow : execMaskGenReseedRequest k s = _ := State.clocked_run hrun _
  exact hrow.trans (if_neg (by omega))

theorem execMaskGenDeadline_stalls (hrequested : (nget {} s.ent.gens k).requested = true) (hstalled : (nget {} s.ent.gens k).stalled = false) :
    exec (.maskGenDeadline k) s = .next ({ s with ent := { s.ent with gens := nset ({} : GenX) s.ent.gens k { (nget {} s.ent.gens k : GenX) with stalled := true } } }.count
      .ENT_STALL_COUNT_COUNT 0 1) := by
  have hrow : execMaskGenDeadline k s = _ := State.clocked_run hrun _
  exact hrow.trans (if_neg (by simp [hrequested, hstalled]; omega))

end

end

/-! ### Start-up, restart, and the recovery of the unit -/

/-- The number of enabled cells. -/
def State.cellsEnabledNow (s : State) : Nat := ((List.range 8).filter fun c => bit (s.getF .ENT_CELL_ENABLE_EN 0) c).length

section
variable (s : State)

/-- The state in which no cell is isolated or under test. -/
def State.cellsFresh (s : State) : State := { s with ent := { s.ent with isolated := [], testing := [] } }

theorem State.testCells_nil : s.testCells [] =
    (List.range 8).foldl (fun t c => t.setCellOk c (bit (s.getF .ENT_CELL_ENABLE_EN 0) c)) s.cellsFresh := by
  unfold State.testCells
  refine List.foldl_ext _ _ _ fun t c _ => ?_
  cases h : bit (s.getF .ENT_CELL_ENABLE_EN 0) c <;> rfl

theorem State.testCells_spares : Spares [.ENT_STATUS_CELL_OK] s (s.testCells []) := by
  rw [State.testCells_nil]
  exact (Spares.regs (u := s.cellsFresh) (.refl _ s) rfl).foldl (fun t c => Spares.setF (.refl _ t) _ _ _) _

/-- When no test fails every enabled cell passes. -/
theorem State.testCells_cellsOk : (s.testCells []).cellsOk = s.cellsEnabledNow := by
  unfold State.cellsOk State.cellsEnabledNow
  congr 1
  refine List.filter_congr fun n hn => ?_
  have hn8 := List.mem_range.1 hn
  rw [State.testCells_nil]
  refine foldl_establishes (P := fun t : State => bit (t.getF .ENT_STATUS_CELL_OK 0) n = bit (s.getF .ENT_CELL_ENABLE_EN 0) n) hn (fun t => ?_) (fun t c ht => ?_) _
  · rw [State.setCellOk_bit _ _ hn8, if_pos rfl]
  · rw [State.setCellOk_bit _ _ hn8]
    split
    · next h => rw [h]
    · exact ht

theorem State.testCells_degraded (hcells : 4 ≤ s.cellsEnabledNow) : (s.testCells []).degraded = false := by
  unfold State.degraded
  rw [State.testCells_cellsOk]
  exact decide_eq_false (by omega)

/-- The state with its strings seeded and KEK_E drawn. -/
def State.stringsSeeded (s : State) : State :=
  let s1 := (List.range 46).foldl (fun t k => t.seedString k) s
  let b := (s1.drbgCalls 7 1).draw 32
  { b.2 with kv := { b.2.kv with kekE := b.1 } }

theorem State.entReady_eq : s.entReady =
    (if s.stringsSeeded.kv.bbk.isSome then s.stringsSeeded else (s.stringsSeeded.drbgCalls 7 1).drawBbk).setFlag .ENT_STATUS_READY 0 true := rfl

theorem State.stringsSeeded_gens {k : Nat} (hk : k < 46) : (nget {} s.stringsSeeded.ent.gens k).seed.length = 32 :=
  State.foldl_seedString_length (List.mem_range.2 hk) s

theorem State.stringsSeeded_kekE : s.stringsSeeded.kv.kekE.length = 32 := bytesOf_length _ _

theorem State.entReady_gens {k : Nat} (hk : k < 46) : (nget {} s.entReady.ent.gens k).seed.length = 32 := by
  have hent : s.entReady.ent = s.stringsSeeded.ent := by
    rw [State.entReady_eq]
    unfold State.drawBbk
    split
    · rfl
    · split <;> rfl
  rw [hent]
  exact s.stringsSeeded_gens hk

theorem State.entReady_keys : s.entReady.kv.kekE.length = 32 ∧ s.entReady.kv.bbk.isSome = true := by
  have hkek := s.stringsSeeded_kekE
  rw [State.entReady_eq]
  cases hbbk : s.stringsSeeded.kv.bbk.isSome with
  | true =>
    rw [if_pos rfl]
    exact ⟨hkek, hbbk⟩
  | false =>
    have hsame : (s.stringsSeeded.drbgCalls 7 1).kv.bbk.isSome = false := hbbk
    rw [if_neg Bool.false_ne_true]
    unfold State.drawBbk
    rw [hsame, if_neg Bool.false_ne_true]
    exact ⟨hkek, rfl⟩

theorem State.entReady_ready : s.entReady.getF .ENT_STATUS_READY 0 = 1 := by
  rw [State.entReady_eq, State.setFlag_getF, if_pos ⟨rfl, rfl⟩]
  rfl

end

section
variable {s : State} (hrun : s.stopped = false)
include hrun

theorem execEntStartupTested_ready (hstate : s.getF .ENT_STATUS_STATE 0 = 1) (hcells : 4 ≤ s.cellsEnabledNow) : exec (.entStartupTested []) s =
    .next (((List.range 8).foldl (fun t d => t.reseed d) ((s.testCells []).count .ENT_COND_COUNT_COUNT 0 8)).entReady.setF .ENT_STATUS_STATE 0 2) := by
  have hrow : execEntStartupTested [] s = _ := State.clocked_run hrun _
  refine hrow.trans ((if_neg (not_not_intro hstate)).trans ?_)
  exact if_neg (by simp [s.testCells_degraded hcells])

theorem execEntRestartComplete_runs (hstate : s.getF .ENT_STATUS_STATE 0 = 4) (hcells : 4 ≤ s.cellsEnabledNow) (hready : s.getF .ENT_STATUS_READY 0 ≠ 0) :
    exec (.entRestartComplete []) s = .next ((([6, 0, 1, 2, 3, 4, 5, 7].foldl (fun t d => t.reseed d) ((s.testCells []).count .ENT_COND_COUNT_COUNT 0 8)).setF
      .ENT_STATUS_STATE 0 2).recovered blkENT) := by
  have hrow : execEntRestartComplete [] s = _ := State.clocked_run hrun _
  refine hrow.trans ((if_neg (not_not_intro hstate)).trans ?_)
  have hflag : ([6, 0, 1, 2, 3, 4, 5, 7].foldl (fun t d => t.reseed d) ((s.testCells []).count .ENT_COND_COUNT_COUNT 0 8)).flag .ENT_STATUS_READY 0 = true := by
    unfold State.flag
    rw [(Spares.refl drbgFlds _).foldl State.reseed_spares _ _ _ (by decide), State.count_getF, if_neg (by simp), s.testCells_spares _ _ (by decide)]
    simpa using hready
  refine (if_neg (by simp [s.testCells_degraded hcells])).trans ?_
  dsimp only
  rw [if_pos hflag]
  rfl

theorem execEntQuietTimeExpiry_limited (hstate : s.getF .ENT_STATUS_STATE 0 = 3) (hquiet : s.ent.quietSince ≠ none) (hlimit : s.recoveryLimited 11 = true) :
    exec .entQuietTimeExpiry s = .next ((({ s with ent := { s.ent with quietSince := none } } : State).setF .ENT_STATUS_STATE 0 5).raiseErr blkENT 3 0 (s.cellFailWord 0)) := by
  have hrow : execEntQuietTimeExpiry s = _ := State.clocked_run hrun _
  refine hrow.trans ((if_neg (by simp [hstate, hquiet, entDegraded])).trans ?_)
  exact if_pos hlimit

theorem execEntQuietTimeExpiry_restarts (hstate : s.getF .ENT_STATUS_STATE 0 = 3) (hquiet : s.ent.quietSince ≠ none) (hlimit : s.recoveryLimited 11 = false) :
    exec .entQuietTimeExpiry s = .next (({ s with ent := { s.ent with quietSince := none } } : State).setF .ENT_STATUS_STATE 0 4) := by
  have hrow : execEntQuietTimeExpiry s = _ := State.clocked_run hrun _
  refine hrow.trans ((if_neg (by simp [hstate, hquiet, entDegraded])).trans ?_)
  exact if_neg (Bool.eq_false_iff.1 hlimit)

theorem execEntropyWaitTimeout_ends {q i : Nat} {j : Job} (hj : s.job? q i = some j) (hstage : j.stage = .dispatched) (hcomputed : j.computed = false)
    (hwaits : j.entSince.isSome = true) : exec (.entropyWaitTimeout q i) s =
    .next (((s.letGo j).updJob q i fun k => k.entropyEnded (s.entropyDetail k)).count .ENT_TIMEOUT_COUNT_COUNT 0 1) := by
  have hrow : execEntropyWaitTimeout q i s = _ := State.clocked_run hrun _
  refine hrow.trans ?_
  rw [hj]
  exact if_pos ⟨.inr hstage, by simp [hcomputed], .inl hwaits⟩

end

/-! ### Software reads and clears -/

section
variable {s : State} (hs : s.Serves)
include hs

theorem State.Serves.entSwDataRead_draws (hcells : s.degraded = false) (hstate : s.getF .ENT_STATUS_STATE 0 ≠ 5) (hok : s.drbgOk 7 1 = true) :
    exec (.entSwDataRead true) s =
      .next (({ s.drbgCalls 7 1 with free := s.free + 1 }.setF .ENT_SW_STATUS_CODE 0 0).say (.completion (s.nextRandom 8))) := by
  have hflag : s.flag .ENT_STATUS_READY 0 = true := by
    unfold State.drbgOk at hok
    simp only [Bool.and_eq_true] at hok
    exact hok.1.1
  refine (hs.mmio _ : execEntSwDataRead true s = _).trans ?_
  simp only [hflag, hcells, hok, Bool.not_true, Bool.false_eq_true, if_false, if_true, Bool.false_or, Bool.or_false]
  exact if_neg (by simpa [entLatched] using hstate)

theorem State.Serves.entSwDataRead_notReady (hready : s.getF .ENT_STATUS_READY 0 = 0) :
    exec (.entSwDataRead true) s = .next ((s.setF .ENT_SW_STATUS_CODE 0 0x11).say (.completion (zeros 8))) :=
  (hs.mmio _ : execEntSwDataRead true s = _).trans (if_pos (by simp [State.flag, hready]))

/-- A clear of NO_ENTROPY or LATCHED in DEGRADED starts a restart. -/
theorem State.Serves.entErrClearRestart_restarts (v : W32) (hbits : bit v.toNat 0 = true ∨ bit v.toNat 3 = true) (hstate : s.getF .ENT_STATUS_STATE 0 = 3) :
    ∃ t, exec (.entErrClearRestart v) s = .next t ∧ t.getF .ENT_STATUS_STATE 0 = 4 ∧ t.ent.quietSince = none := by
  refine ⟨_, (hs.mmio _ : execEntErrClearRestart v s = _), ?_⟩
  unfold State.entClear
  dsimp only
  rw [if_pos (by simpa [hstate, entDegraded] using hbits)]
  exact ⟨State.getF_setF_same .., rfl⟩

end

/-! ### The statement -/

/-- A failing cell out of service is only recorded. -/
theorem execCellHealthFail_outOfService {s : State} (hrun : s.stopped = false) {c k : Nat} (hk : k < 16) (hok : bit (s.getF .ENT_STATUS_CELL_OK 0) c = false) :
    ∃ t, exec (.cellHealthFail c k) s = .next t ∧
      Sets s t [((.ENT_CELL_FAIL_LAST_TEST, c), k), ((.ENT_CELL_FAIL_COUNT, c), s.plus .ENT_CELL_FAIL_COUNT c 1)] :=
  ⟨_, execCellHealthFail_records hrun hok, ((Sets.refl s).setF .ENT_CELL_FAIL_LAST_TEST c k (by simp) hk).count .ENT_CELL_FAIL_COUNT c 1 (by simp)⟩

/-- Settles O54: each command by the rule of its cell, generator, string or wait. -/
theorem entropySources : Obligations.EntropySources := by
  unfold Obligations.EntropySources
  intro s hs hrun
  refine ⟨fun c k hc hk => ⟨execCellHealthFail_outOfService hrun hk, execCellHealthFail_inService hrun hc hs, execCellHealthFail_degrades hrun hc,
      execCellRetestComplete_returns hrun hc⟩, fun v hserves => hserves.entCellEnableWrite_effects v,
    fun hcells hstate => ⟨⟨_, execConditionerOutput_counts hrun hcells hstate, rfl, ?_⟩,
      fun hready hout => ⟨_, execDrbgReseed_six hrun hcells hstate hready hout, rfl, State.reseed_calls .., ?_⟩,
      fun hserves hok => ⟨_, hserves.entSwDataRead_draws hcells hstate hok, State.getF_setF_same _ .ENT_SW_STATUS_CODE 0 0, rfl, rfl⟩⟩,
    fun hserves hready => ⟨_, hserves.entSwDataRead_notReady hready, rfl, State.getF_setF_same s .ENT_SW_STATUS_CODE 0 0x11⟩,
    fun d hcalls hstalled => ⟨_, execDrbgStall_stalls hrun hcalls hstalled, ?_⟩, fun k hk => ?_, fun hstate hcells => ?_,
    fun q i j hj hstage hcomputed hwaits => ?_, fun hstate hquiet => ⟨fun hlimit => ⟨_, execEntQuietTimeExpiry_restarts hrun hstate hquiet hlimit, ?_⟩,
      fun hlimit => ⟨_, execEntQuietTimeExpiry_limited hrun hstate hquiet hlimit, ?_, ?_⟩⟩,
    fun hstate hcells hready => ⟨_, execEntRestartComplete_runs hrun hstate hcells hready, ?_, fun d hd => ?_⟩,
    fun v hserves hbits hstate => hserves.entErrClearRestart_restarts v hbits hstate⟩
  · exact (State.count_getF ..).trans (if_pos ⟨rfl, rfl⟩)
  · rw [State.reseed_stalled, if_pos rfl]
  · exact ((Sets.refl s).setFlag .ENT_DRBG_STATUS_STALLED d true (by simp) (by decide)).count .ENT_STALL_COUNT_COUNT 0 1 (by simp)
  · extract_lets d
    refine ⟨fun hok => ⟨_, execStringSeedDelivery_seeds hrun hk hok, s.seedString_gen k, State.seedString_calls k hok⟩,
      ⟨_, execMaskGenReseedRequest_marks hrun hk, nget_nset_same ({} : GenX) _ _ _, rfl⟩,
      fun hrequested hstalled => ⟨_, execMaskGenDeadline_stalls hrun hk hrequested hstalled, nget_nset_same ({} : GenX) _ _ _, ?_⟩⟩
    exact (State.count_getF ..).trans (if_pos ⟨rfl, rfl⟩)
  · have hkeys := State.entReady_keys ((List.range 8).foldl (fun t d => t.reseed d) ((s.testCells []).count .ENT_COND_COUNT_COUNT 0 8))
    refine ⟨_, execEntStartupTested_ready hrun hstate hcells, ?_, State.getF_setF_same .., fun k hk => State.entReady_gens _ hk, hkeys.1, hkeys.2⟩
    rw [State.getF_setF_ne _ _ (by simp)]
    exact State.entReady_ready _
  · obtain ⟨rfl, rfl⟩ := State.place_of_job? hj
    refine ⟨_, j.entropyEnded (s.entropyDetail j), execEntropyWaitTimeout_ends hrun hj hstage hcomputed hwaits, ?_, rfl, rfl, rfl, rfl, ?_⟩
    · exact State.job?_updJob_place (f := fun k => k.entropyEnded (s.entropyDetail k)) ((s.job?_of_jobs (s.letGo_jobs j) _ _).trans hj) fun _ hq hi => ⟨hq, hi⟩
    · rw [State.count_getF, if_pos ⟨rfl, rfl⟩]
      unfold State.plus
      rw [State.updJob_getF, State.getF_regs (s.letGo_regs j)]
  · exact (Sets.refl _).setF .ENT_STATUS_STATE 0 4 (by simp) (by decide)
  · rw [State.raiseErr_getF _ _ _ _ _ _ _ (by decide), State.getF_setF_same]
    rfl
  · have hregs : (State.setF { s with ent := { s.ent with quietSince := none } } .ENT_STATUS_STATE 0 5).regsOk :=
      State.setF_regsOk (State.regsOk_regs (s := s) rfl hs) _ _ _
    refine (State.raiseErr_raised _ 11 3 0 (s.cellFailWord 0) (by decide) hregs).congr (fun f hf => ?_) fun _ _ => rfl
    exact (State.getF_setF_ne _ _ (by revert f; decide)).symm
  · unfold State.recovered
    dsimp only
    rw [State.journal_getF _ _ _ .ENT_STATUS_STATE]
    simp
  · unfold State.recovered
    dsimp only
    rw [State.journal_getF _ _ _ .ENT_DRBG_STATUS_STALLED]
    simp only [State.getF_setF, reduceCtorEq, false_and, if_false]
    exact State.foldl_reseed_stalled (by interval_cases d <;> decide) _

end Sys2Proof.Machine
end

section
/-! ## The sealed store's control (R373, R379, R383, R384, R389 to R392, R401) -/

namespace Sys2Proof.Machine
open Sys2Proof

-- The proofs are elaborated one after another: one that waits for another's premises would keep a thread of its own.
set_option Elab.async false

/-! ### What the journal spares -/

theorem Spares.journals {l : List Fld} {s t u : State} (h : Spares l s t) (hu : Journals t u) (hl : ∀ f ∈ journalFlds ++ errFlds, f ∈ l := by decide) : Spares l s u :=
  h.trans fun f i hf => hu.fields f i (fun hm => hf (hl f (List.mem_append_left _ hm))) fun hm => absurd (hl f (List.mem_append_right _ hm)) hf

theorem Spares.journal {l : List Fld} {s t : State} (h : Spares l s t) (e : Nat) (d : List Byte) (hl : ∀ f ∈ journalFlds ++ errFlds, f ∈ l := by decide) :
    Spares l s (t.journal e d) := h.journals (Journals.journal t e d) hl

/-! ### Commit groups and waits -/

section
variable {s : State} (hrun : s.stopped = false)
include hrun

theorem execCommitGroupClose_eq : exec .commitGroupClose s = if s.groupMayClose then .next s.closeGroup else .next s :=
  (State.clocked_run hrun _ : execCommitGroupClose s = _)

/-- A job ended because its storage did not answer. -/
def Job.storageEnded (k : Job) : Job :=
  { k with status := stStorageTimeout, detail := 0, result := 0, output := [], pass := [], computed := true, stage := .ended, waitSince := none,
           waitBlocks := [], needCommit := 0, pools := [], resPools := [], core := none, slot := none, slots := [] }

omit hrun in
theorem Job.storageEnded_place (q i : Nat) : KeepsPlace q i Job.storageEnded := fun _ hq hi => ⟨hq, hi⟩

omit hrun in
theorem State.storageTimeout_effects (j : Job) (hj : s.job? j.q j.idx = some j) :
    (s.storageTimeout j).job? j.q j.idx = some j.storageEnded ∧
    (s.storageTimeout j).getF .SEAL_TIMEOUT_COUNT_COUNT 0 = s.plus .SEAL_TIMEOUT_COUNT_COUNT 0 1 ∧
    bit ((s.storageTimeout j).getF .BLK_ERR_STATUS_CAUSE 14) 2 = true := by
  unfold State.storageTimeout
  extract_lets w s1 own _ s2
  have hjobs : s1.job? j.q j.idx = some j.storageEnded :=
    State.job?_updJob_place ((s.job?_of_jobs (s.letGo_jobs j) _ _).trans hj) (Job.storageEnded_place _ _)
  have hregs : s2.regs = s.regs := s.letGo_regs j
  refine ⟨?_, ?_, ?_⟩
  · exact (State.job?_of_jobs _ (State.raiseErr_jobs ..) _ _).trans hjobs
  · rw [State.raiseErr_getF _ _ _ _ _ _ _ (by decide), State.count_getF, if_pos ⟨rfl, rfl⟩]
    unfold State.plus
    rw [State.getF_regs hregs]
  · refine (State.raiseErr_cause_bit _ 14 _ _ (by decide)).trans ?_
    rfl

theorem execStorageTimeLimit_ends {q i : Nat} {j : Job} (hj : s.job? q i = some j) (hlive : j.live = true) (hwaits : j.waitSince.isSome = true)
    (hfirst : ∀ k ∈ s.jobs, k.live = true → k.waitSince.isSome = true → j.stamp ≤ k.stamp) : exec (.storageTimeLimit q i) s = .next (s.storageTimeout j) := by
  have hrow : execStorageTimeLimit q i s = _ := State.clocked_run hrun _
  have hnone : (s.jobs.any fun k => k.live && k.waitSince.isSome && decide (k.stamp < j.stamp) && s.sameWait j k) = false := by
    rw [List.any_eq_false]
    intro k hk hbusy
    simp only [Bool.and_eq_true, decide_eq_true_eq] at hbusy
    obtain ⟨⟨⟨hklive, hkwaits⟩, hearlier⟩, -⟩ := hbusy
    have := hfirst k hk hklive hkwaits
    omega
  have hnot : j.waitSince.isNone = false := by
    rw [← Option.not_isSome, hwaits]
    rfl
  refine hrow.trans ?_
  simp only [hj, hlive, hnot, hnone, Bool.not_true, Bool.or_false, Bool.false_eq_true, if_false]

end

/-! ### SEAL_CTRL -/

section
variable {s : State} {v : W32}

theorem bits_low3 (n : Nat) : bits n 2 0 = n % 8 := by simp [bits]

theorem State.sealAct_opening (hprod : s.getF .LCO_STATE_STATE 0 = 2) (hop : v.toNat % 8 = 1)
    (hstate : s.getF .SEAL_STATUS_STATE 0 = 0 ∨ s.getF .SEAL_STATUS_STATE 0 = 3) : s.sealAct v.toNat = .opening := by
  unfold State.sealAct
  rw [bits_low3, hop]
  rcases hstate with hstate | hstate <;> simp [hprod, hstate]

theorem State.sealAct_force (hprod : s.getF .LCO_STATE_STATE 0 = 2) (hop : v.toNat % 8 = 2) (hconfirm : bits v.toNat 31 16 = 0x5EA1)
    (hstate : s.getF .SEAL_STATUS_STATE 0 = 3) (hresult : s.getF .SEAL_STATUS_OPEN_RESULT 0 = 3) (hroom : (s.thermoNext otpEpoch 128).isSome = true) :
    s.sealAct v.toNat = .force := by
  unfold State.sealAct
  rw [bits_low3, hop]
  simp [hprod, hconfirm, hstate, hresult, hroom]

theorem State.sealAct_format (hprod : s.getF .LCO_STATE_STATE 0 = 2) (hop : v.toNat % 8 = 4) (hconfirm : bits v.toNat 31 16 = 0x5EA1)
    (hstate : s.getF .SEAL_STATUS_STATE 0 = 0 ∨ s.getF .SEAL_STATUS_STATE 0 = 3) (hroom : (s.thermoNext otpEpoch 128).isSome = true) :
    s.sealAct v.toNat = .format := by
  unfold State.sealAct
  rw [bits_low3, hop]
  rcases hstate with hstate | hstate <;> simp [hprod, hconfirm, hroom, hstate]

/-- The fields that an item that fails its check may write. -/
def wantFlds : List Fld := .SEAL_INTEGRITY_FAIL_COUNT_COUNT :: raiseFlds

/-- A block asked for leaves the force of an open and every register but those of a failed check. -/
def Wants (s t : State) : Prop := Spares wantFlds s t ∧ t.store.force = s.store.force

theorem Wants.refl (s : State) : Wants s s := ⟨.refl _ s, rfl⟩

theorem State.askFetch_wants (s : State) (b : Nat) : Wants s (s.askFetch b) := by
  unfold State.askFetch
  split
  · exact .refl s
  · exact ⟨(Spares.refl _ s).regs rfl, rfl⟩

theorem State.itemFailed_wants (s : State) (b : Nat) : Wants s (s.itemFailed b) := by
  unfold State.itemFailed State.integrityFail
  extract_lets _ s1 s2 _ s3
  have hs2 : Spares wantFlds s s2 := ((Spares.regs (u := s1) (.refl wantFlds s) rfl).count _ _ _).raiseErr _ _ _ _
  have hs3 : Wants s s3 := by
    refine ⟨hs2.regs rfl, ?_⟩
    show s2.store.force = s.store.force
    unfold s2
    rw [State.raiseErr_store]
    rfl
  split
  · exact ⟨hs3.1.regs rfl, hs3.2⟩
  · exact hs3

theorem State.want_wants (s : State) (b : Nat) : Wants s (s.want b) := by
  unfold State.want
  split
  · exact .refl s
  · split
    · exact .refl s
    · exact s.askFetch_wants _
  · exact s.itemFailed_wants _

theorem State.foldl_want (l : List Nat) (s : State) : Wants s (l.foldl (fun t b => t.want b) s) :=
  List.foldlRecOn (motive := fun t : State => Wants s t) _ _ (.refl s) fun t ht b _ => ⟨ht.1.trans (t.want_wants b).1, (t.want_wants b).2.trans ht.2⟩

theorem State.openLoad_effects (s : State) (d : List Byte) (res : Nat) :
    Spares (.SEAL_COMMIT_COMMIT :: wantFlds) s (s.openLoad d res) ∧ (s.openLoad d res).store.force = s.store.force := by
  unfold State.openLoad
  extract_lets u _ s1
  obtain ⟨hspares, hforce⟩ := State.foldl_want rangeBlocks (s1.setF .SEAL_COMMIT_COMMIT 0 (bfield d 24 8))
  refine ⟨fun f i hf => (hspares f i fun hm => hf (List.mem_cons_of_mem _ hm)).trans ?_, hforce⟩
  exact (Spares.regs (u := s1) (.refl (.SEAL_COMMIT_COMMIT :: wantFlds) s) rfl).setF .SEAL_COMMIT_COMMIT 0 (bfield d 24 8) (by decide) f i hf

theorem State.startForce_effects (s : State) : s.startForce.store.force = true ∧ s.startForce.getF .SEAL_STATUS_STATE 0 = 1 := by
  unfold State.startForce
  extract_lets d s1 _ s2
  obtain ⟨hspares, hforce⟩ := (s2.setF .SEAL_STATUS_STATE 0 1).openLoad_effects d 2
  exact ⟨hforce, (hspares _ _ (by decide)).trans (State.getF_setF_same s2 .SEAL_STATUS_STATE 0 1)⟩

theorem State.otpShow_spares (s : State) : Spares [.LCO_OTP_STATUS_BUSY, .LCO_OTP_STATUS_BRACED, .LCO_OTP_STATUS_QUEUED] s s.otpShow := by
  unfold State.otpShow
  extract_lets n braced go ops
  exact Spares.setF (Spares.setF (Spares.setF ((Spares.refl _ s).regs rfl) _ _ _) _ _ _) _ _ _

/-- A FORMAT's STORE_ID drawn. -/
def State.formatDrawn (s : State) : State :=
  { s.drbgCalls 7 1 with free := s.free + 1, store := { s.store with storeId := s.nextRandom 16, fmt := 1, openRes := 0 } }

/-- OTP's thermometers are told by its words alone. -/
theorem State.thermoNext_of_lco {s t : State} (h : t.lco = s.lco) (a n : Nat) : t.thermoNext a n = s.thermoNext a n := by
  unfold State.thermoNext State.thermo State.otpWord
  rw [h]

theorem State.startFormat_eq (s : State) {w : Nat × Nat} (hw : s.thermoNext otpEpoch 128 = some w) :
    s.startFormat = (s.formatDrawn.setF .SEAL_STATUS_STATE 0 4).otpAsk { why := .epoch true, words := [w] } := by
  have hsame : s.formatDrawn.thermoNext otpEpoch 128 = some w := (State.thermoNext_of_lco rfl _ _).trans hw
  unfold State.startFormat State.draw
  dsimp only
  split
  next w' h =>
    obtain rfl : w' = w := Option.some.inj (h.symm.trans hsame)
    rfl
  next h => exact absurd (h.symm.trans hsame) (by simp)

theorem State.startFormat_effects (s : State) (hroom : (s.thermoNext otpEpoch 128).isSome = true) :
    s.startFormat.store.storeId = s.nextRandom 16 ∧ s.startFormat.store.fmt = 1 ∧ s.startFormat.getF .SEAL_STATUS_STATE 0 = 4 := by
  obtain ⟨w, hw⟩ := Option.isSome_iff_exists.1 hroom
  rw [s.startFormat_eq hw]
  exact ⟨rfl, rfl, (State.otpShow_spares _ _ _ (by decide)).trans (State.getF_setF_same s.formatDrawn .SEAL_STATUS_STATE 0 4)⟩

variable (hs : s.Serves)
include hs

/-- A write of SEAL_CTRL does what its word asks for and gets. -/
theorem State.Serves.sealCtrl_eq : exec (.storeOpen v) s = .next (s.sealCtrl v.toNat {}) ∧
    (∀ img, exec (.forceOpen v img) s = .next (s.sealCtrl v.toNat img)) ∧ exec (.format v) s = .next (s.sealCtrl v.toNat {}) :=
  ⟨(hs.mmio _ : execStoreOpen v s = _), fun img => (hs.mmio _ : execForceOpen v img s = _), (hs.mmio _ : execFormat v s = _)⟩

theorem State.Serves.sealCtrl_refused (hact : s.sealAct v.toNat = .refused) (c : Instr) (img : VaultImage)
    (hc : c ∈ [Instr.storeOpen v, .forceOpen v img, .format v, .sealCtrlRefused v]) : exec c s = .next s.sealRefuse := by
  have hrefuse (img : VaultImage) : s.sealCtrl v.toNat img = s.sealRefuse := by
    unfold State.sealCtrl
    rw [hact]
  obtain ⟨hopen, hforce, hformat⟩ := hs.sealCtrl_eq (v := v)
  simp only [List.mem_cons, List.not_mem_nil, or_false] at hc
  rcases hc with rfl | rfl | rfl | rfl
  · rw [hopen, hrefuse]
  · rw [hforce, hrefuse]
  · rw [hformat, hrefuse]
  · exact (hs.mmio _ : execSealCtrlRefused v s = _).trans (if_pos hact)

end

/-! ### Ranges -/

section
variable {s : State}

theorem State.placeRange_journals (s : State) (r : RangeSel) : Journals s (s.placeRange r) := by
  unfold State.placeRange
  split <;> exact Journals.place s _ _ _

theorem State.foldl_trySpare_journals (l : List Nat) (s : State) : Journals s (l.foldl (fun t n => t.trySpare n) s) :=
  Journals.foldl _ (fun t n => Journals.trySpare t n) l s (.refl s)

/-- The state with BASE and SPAN of a range written. -/
def State.rangeSet (s : State) (r : RangeSel) (base span : Nat) : State :=
  (s.setF (rangeFields r).1 (rangeFields r).2.2 base).setF (rangeFields r).2.1 (rangeFields r).2.2 span

theorem rangeFields_facts (r : RangeSel) : (rangeFields r).1 ≠ (rangeFields r).2.1 ∧ (rangeFields r).1.width = 31 ∧ (rangeFields r).2.1.width = 31 ∧
    (rangeFields r).1 ∉ journalFlds ++ errFlds ∧ (rangeFields r).2.1 ∉ journalFlds ++ errFlds := by
  cases r with
  | kv => decide
  | qre => decide
  | slice i =>
    dsimp only [rangeFields]
    decide

theorem State.rangeSet_reads (s : State) (r : RangeSel) {base span : Nat} (hbase : base < 2 ^ 31) (hspan : span < 2 ^ 31) :
    (s.rangeSet r base span).getF (rangeFields r).1 (rangeFields r).2.2 = base ∧
      (s.rangeSet r base span).getF (rangeFields r).2.1 (rangeFields r).2.2 = span := by
  obtain ⟨hne, hwidth, hwidth', -, -⟩ := rangeFields_facts r
  unfold State.rangeSet
  constructor
  · rw [State.getF_setF_ne _ _ fun e => hne (Prod.mk.inj e).1, State.getF_setF_same, hwidth, Nat.mod_eq_of_lt hbase]
  · rw [State.getF_setF_same, hwidth', Nat.mod_eq_of_lt hspan]

/-- What may be placed once a range has changed: its table, and folios for streams that were short. -/
def State.rangeDone (s : State) (r : RangeSel) : State :=
  let s1 := s.placeRange r
  let s2 := (s1.listed .QRE_STREAM_STATE_SHORT).foldl (fun t n => t.trySpare n) s1
  { s2 with queues := s2.queues.map fun e => (e.1, { e.2 with quireHeld := false }) }

theorem State.rangeDone_spares (s : State) (r : RangeSel) : Spares (journalFlds ++ errFlds) s (s.rangeDone r) := by
  unfold State.rangeDone
  extract_lets s1 s2
  have hs2 : Journals s s2 := (s.placeRange_journals r).trans (State.foldl_trySpare_journals _ s1)
  exact ((Spares.refl _ s).journals hs2).regs rfl

variable (hs : s.Serves)
include hs

theorem State.Serves.sealRangeWrite_eq (r : RangeSel) (v : W64) : exec (.sealRangeWrite r v) s =
    if s.rangeOk r (bits v.toNat 30 0) (bits v.toNat 62 32) then
      .next (((s.setHeld (rangeReg r).1 (rangeReg r).2 0).rangeSet r (bits v.toNat 30 0) (bits v.toNat 62 32)).rangeDone r)
    else .next (s.setHeld (rangeReg r).1 (rangeReg r).2 0).sealRefuse := by
  have hok : (s.setHeld (rangeReg r).1 (rangeReg r).2 0).rangeOk r (bits v.toNat 30 0) (bits v.toNat 62 32) =
      s.rangeOk r (bits v.toNat 30 0) (bits v.toNat 62 32) := rfl
  refine (hs.mmio _ : execSealRangeWrite r v s = _).trans ?_
  dsimp only
  rw [hok]
  cases s.rangeOk r (bits v.toNat 30 0) (bits v.toNat 62 32)
  · rfl
  · rfl

theorem State.Serves.sealRangeWrite_takes (r : RangeSel) (v : W64) (hok : s.rangeOk r (bits v.toNat 30 0) (bits v.toNat 62 32) = true) :
    ∃ t, exec (.sealRangeWrite r v) s = .next t ∧ t.getF (rangeFields r).1 (rangeFields r).2.2 = bits v.toNat 30 0 ∧
      t.getF (rangeFields r).2.1 (rangeFields r).2.2 = bits v.toNat 62 32 := by
  obtain ⟨-, -, -, hbase, hspan⟩ := rangeFields_facts r
  obtain ⟨hreads, hreads'⟩ := (s.setHeld (rangeReg r).1 (rangeReg r).2 0).rangeSet_reads r (base := bits v.toNat 30 0) (span := bits v.toNat 62 32)
    (Nat.mod_lt _ (Nat.two_pow_pos _)) (Nat.mod_lt _ (Nat.two_pow_pos _))
  refine ⟨_, (hs.sealRangeWrite_eq r v).trans (if_pos hok), ?_, ?_⟩
  · rw [State.rangeDone_spares _ _ _ _ hbase, hreads]
  · rw [State.rangeDone_spares _ _ _ _ hspan, hreads']

end

/-! ### The ledger loaded, streams released, events queued -/

section
variable {s : State}

theorem State.journalDrain_empty (hjournal : s.qre.journal = []) (hlost : s.qre.lost = 0) :
    s.journalDrain = { s with qre := { s.qre with journal := [], lost := 0 } }.setF .QRE_JOURNAL_QUEUED_COUNT 0 0 := by
  unfold State.journalDrain
  rw [hjournal]
  extract_lets s1 s2
  have hs2 : s2 = s := if_pos hlost
  clear_value s2
  subst hs2
  rfl

theorem State.evidenceJournal_empty (hready : s.flag .QRE_STATUS_READY 0 = true) (hbuf : s.tmp.buf = []) :
    s.evidenceJournal = s.freeBuf := by
  have hsame : s.freeBuf = State.freeBuf { s with tmp := { s.tmp with buf := [] } } := by
    rw [← hbuf]
  unfold State.evidenceJournal
  rw [if_neg (by simp [hready]), hbuf, hsame]
  dsimp only [List.filter_nil, List.foldl_nil]
  rw [hbuf]
  rfl

/-- The state once an empty ledger has been loaded, before its journal. -/
def State.emptyLoaded (s : State) : State :=
  State.setFlag { s with qre := { s.qre with streams := [], nextFolio := 0, freeFolios := [] }, store := { s.store with occupied := [] } } .QRE_STATUS_READY 0 true

theorem execQreStreamStateLoaded_empty (hrun : s.stopped = false) (hopen : s.getF .KV_STATUS_OPEN 0 ≠ 0) (hready : s.getF .QRE_STATUS_READY 0 = 0) :
    exec (.qreStreamStateLoaded {}) s = .next s.emptyLoaded.journalDrain.evidenceJournal := by
  have hrow : execQreStreamStateLoaded {} s = _ := State.clocked_run hrun _
  refine hrow.trans ?_
  rw [if_neg (by simp [State.flag, hopen, hready])]
  rfl

theorem execQreStreamStateLoaded_ready (hrun : s.stopped = false) (hopen : s.getF .KV_STATUS_OPEN 0 ≠ 0) (hready : s.getF .QRE_STATUS_READY 0 = 0)
    (hjournal : s.qre.journal = []) (hlost : s.qre.lost = 0) (hbuf : s.tmp.buf = []) :
    ∃ t, exec (.qreStreamStateLoaded {}) s = .next t ∧ t.getF .QRE_STATUS_READY 0 = 1 ∧ t.qre.streams = [] ∧ t.kv = s.kv := by
  have hdrain := State.journalDrain_empty (s := s.emptyLoaded) hjournal hlost
  have hflag : s.emptyLoaded.journalDrain.getF .QRE_STATUS_READY 0 = 1 := by
    rw [hdrain, State.getF_setF_ne _ _ (by simp)]
    exact State.getF_setF_same _ .QRE_STATUS_READY 0 1
  have hbuf' : s.emptyLoaded.journalDrain.tmp.buf = [] := by
    rw [hdrain]
    exact hbuf
  have hevidence := State.evidenceJournal_empty (by simp [State.flag, hflag]) hbuf'
  refine ⟨_, execQreStreamStateLoaded_empty hrun hopen hready, ?_⟩
  rw [hevidence]
  refine ⟨?_, ?_, ?_⟩
  · unfold State.freeBuf State.showBuf
    rw [State.getF_setF_ne _ _ (by simp)]
    exact (State.getF_setF_ne _ _ (by simp)).trans hflag
  · show s.emptyLoaded.journalDrain.qre.streams = []
    rw [hdrain]
    rfl
  · show s.emptyLoaded.journalDrain.kv = s.kv
    rw [hdrain]
    rfl

/-- What every entry of a map has and the value of an unlisted key has, every key's value has. -/
theorem nget_of_all {α : Type} {P : α → Prop} {d : α} {m : SMap Nat α} (hd : P d) (hm : ∀ e ∈ m, P e.2) (k : Nat) : P (nget d m k) := by
  unfold nget
  induction m with
  | nil => exact hd
  | cons e m ih =>
    obtain ⟨n, v⟩ := e
    unfold mget
    split
    · exact hm _ List.mem_cons_self
    · exact ih fun e he => hm e (List.mem_cons_of_mem _ he)

/-- A register dropped reads as at reset. -/
theorem State.dropF_getF_dropped (s : State) {p : Fld → Nat → Bool} {f : Fld} {i : Nat} (h : p f i = true) : (s.dropF p).getF f i = fldDefault (f, i) := by
  unfold State.dropF State.getF
  induction s.regs with
  | nil => rfl
  | cons e m ih =>
    obtain ⟨⟨g, k⟩, v⟩ := e
    rw [List.filter_cons]
    split
    · next hkeep =>
      have hne : (g, k) ≠ (f, i) := by
        rintro ⟨⟩
        simp [h] at hkeep
      unfold mget
      rw [if_neg hne]
      exact ih
    · exact ih

/-- A stream is free at reset. -/
theorem streamState_default (n : Nat) : fldDefault (.QRE_STREAM_STATE_STATE, n) = 0 := by
  simp only [fldDefault, Fld.reset, reduceCtorEq, or_self, if_false]
  decide

/-- A write to the journal before READY waits in the queue. -/
theorem execJournalEvent_queues (hrun : s.stopped = false) (hready : s.getF .QRE_STATUS_READY 0 = 0) (hroom : s.qre.journal.length < 1024) (ev : Nat)
    (d : List Byte) : exec (.journalEvent ev d) s =
      .next (State.setF { s with qre := { s.qre with journal := s.qre.journal ++ [{ event := ev, time := s.timeNow, data := d }] } } .QRE_JOURNAL_QUEUED_COUNT 0
        (s.qre.journal.length + 1)) := by
  have hrow : execJournalEvent ev d s = _ := State.clocked_run hrun _
  refine hrow.trans ?_
  unfold State.journal
  dsimp only
  rw [if_neg (by simp [State.flag, hready]), if_pos hroom]

variable (hs : s.Serves)
include hs

theorem State.Serves.streamRelease_refused (v : W32) (hgo : bit v.toNat 31 = true)
    (hbad : v.toNat % 256 = 0 ∨ s.getF .QRE_STREAM_STATE_STATE (v.toNat % 256) ≠ 2) :
    exec (.streamRelease v) s = .next (s.count .QRE_CFG_REFUSED_COUNT_COUNT 0 1) := by
  refine (hs.mmio _ : execStreamRelease v s = _).trans ?_
  dsimp only
  rw [bits_low8, if_neg (by simp [hgo]), if_pos hbad]

theorem State.Serves.streamRelease_frees (v : W32) (hgo : bit v.toNat 31 = true) (hn : v.toNat % 256 ≠ 0)
    (hclosed : s.getF .QRE_STREAM_STATE_STATE (v.toNat % 256) = 2) : ∃ t, exec (.streamRelease v) s = .next t ∧
      t.getF .QRE_STREAM_STATE_STATE (v.toNat % 256) = 0 ∧ ∀ q, (t.queue q).quireHeld = false := by
  have hrow : execStreamRelease v s = _ := hs.mmio _
  beta_reduce at hrow
  extract_lets n x areas used s1 s2 _ s3 s4 s5 at hrow
  have hlow : n = v.toNat % 256 := bits_low8 _
  rw [if_neg (by simp [hgo]), if_neg (by simp [hlow, hn, hclosed])] at hrow
  have hdropped : s2.getF .QRE_STREAM_STATE_STATE n = 0 := by
    refine (State.dropF_getF_dropped (s1.setStream n {}) ?_).trans (streamState_default n)
    simp
  have hdone : Journals s3 s5 := (Journals.place s3 _ _ _).trans (State.foldl_trySpare_journals _ s4)
  refine ⟨_, hrow, ?_, fun q => ?_⟩
  · rw [← hlow]
    exact (hdone.fields _ _ (by decide) fun hm => absurd hm (by decide)).trans hdropped
  · refine nget_of_all (P := fun x : QueueX => x.quireHeld = false) rfl (fun e he => ?_) q
    obtain ⟨e', -, rfl⟩ := List.mem_map.1 he
    rfl

end

/-! ### The statement -/

/-- Settles O55: each command by its rule; what a change of ranges or streams lets go on writes no field that the statement names. -/
theorem storeControl : Obligations.StoreControl := by
  unfold Obligations.StoreControl
  intro s hs hrun
  refine ⟨fun hmay => ⟨_, (execCommitGroupClose_eq hrun).trans (if_pos hmay), rfl, rfl, rfl, _, rfl, rfl, rfl⟩,
    fun hmay => (execCommitGroupClose_eq hrun).trans (if_neg (Bool.eq_false_iff.1 hmay)), fun r a l hqueue => ⟨_, sealRetryTimer_reposts hrun hqueue, rfl, ?_⟩,
    fun q i j hj hlive hwaits hfirst => ?_, fun v hserves hprod => ?_, fun r v hserves => ⟨fun hbad => ⟨(s.setHeld (rangeReg r).1 (rangeReg r).2 0).sealRefuse, ?_, ?_⟩, fun hok => hserves.sealRangeWrite_takes r v hok⟩,
    execQreStreamStateLoaded_ready hrun, fun v hserves hgo => ⟨fun hbad => ⟨_, hserves.streamRelease_refused v hgo hbad, s.count_sets _ _ _⟩,
      hserves.streamRelease_frees v hgo⟩,
    fun hready hroom ev d => ⟨_, execJournalEvent_queues hrun hready hroom ev d, rfl, ?_⟩⟩
  · exact (State.count_getF ..).trans (if_pos ⟨rfl, rfl⟩)
  · obtain ⟨rfl, rfl⟩ := State.place_of_job? hj
    obtain ⟨hends, hcount, hcause⟩ := State.storageTimeout_effects j hj
    exact ⟨_, _, execStorageTimeLimit_ends hrun hj hlive hwaits hfirst, hends, rfl, rfl, rfl, hcount, hcause⟩
  · obtain ⟨hopen, hforce, hformat⟩ := hserves.sealCtrl_eq (v := v)
    refine ⟨fun hop hstate => ⟨s.startOpen, ?_, ?_, rfl⟩, fun hop hconfirm hstate hresult hroom img => ⟨?_, s.startForce_effects⟩,
      fun hop hconfirm hstate hroom => ⟨s.startFormat, ?_, s.startFormat_effects hroom⟩,
      fun hact c img hc => ⟨_, hserves.sealCtrl_refused hact c img hc, s.count_sets _ _ _⟩⟩
    · rw [hopen, State.sealCtrl, State.sealAct_opening hprod hop hstate]
    · exact (Sets.refl _).setF .SEAL_STATUS_STATE 0 1 (by simp) (by decide)
    · rw [hforce, State.sealCtrl, State.sealAct_force hprod hop hconfirm hstate hresult hroom]
    · rw [hformat, State.sealCtrl, State.sealAct_format hprod hop hconfirm hstate hroom]
  · exact (hserves.sealRangeWrite_eq r v).trans (if_neg (Bool.eq_false_iff.1 hbad))
  · exact State.count_sets _ _ _ _
  · exact (Sets.refl _).setF .QRE_JOURNAL_QUEUED_COUNT 0 (s.qre.journal.length + 1) (by simp) (by
      have hwidth : Fld.width .QRE_JOURNAL_QUEUED_COUNT = 11 := rfl
      rw [hwidth]
      omega)

end Sys2Proof.Machine
end

section
/-! ## Trusted time (R408 to R421) -/

namespace Sys2Proof.Machine
open Sys2Proof

-- The proofs are elaborated one after another: one that waits for another's premises would keep a thread of its own.
set_option Elab.async false

/-! ### Signed values and messages -/

/-- A signed value that fits 32 bits is read back from them. -/
theorem toSigned_fromSigned_32 {x : Int} (hlow : -2 ^ 31 ≤ x) (hhigh : x < 2 ^ 31) : toSigned 32 (fromSigned 32 x) = x := by
  unfold toSigned fromSigned
  norm_num at *
  split <;> omega

theorem fromSigned_lt (w : Nat) (x : Int) : fromSigned w x < 2 ^ w := by
  unfold fromSigned
  have hpos : (0 : Int) < (2 ^ w : Nat) := by exact_mod_cast Nat.two_pow_pos w
  have hlt := Int.emod_lt_of_pos x hpos
  have hnonneg := Int.emod_nonneg x hpos.ne'
  omega

theorem Sets.say {s t : State} {l : List ((Fld × Nat) × Nat)} (h : Sets s t l) (m : Msg) : SetsSaying s (t.say m) l [m] := by
  obtain ⟨hframe, hreads, hrest⟩ := h
  refine ⟨?_, hreads, hrest⟩
  rw [hframe]
  rfl

theorem State.setF_mod (s : State) (f : Fld) (i v : Nat) : s.setF f i (v % 2 ^ f.width) = s.setF f i v := by
  unfold State.setF
  rw [Nat.mod_mod]

/-! ### The servo, the slew and the lock -/

section
variable (s : State)

theorem State.setSlew_tim (x : Int) : (s.setSlew x).tim = { s.tim with slew := x } := rfl

theorem State.setSlew_slewing (x : Int) : (s.setSlew x).getF .TIM_STATUS_SLEWING 0 = b2n (x != 0) % 2 ^ 1 := State.getF_setF_same ..

/-- The fields that an entry to LOCKED may write. -/
def lockFlds : List Fld := raiseFlds ++ [.TIM_STATUS_GRADE, .BLK_RECOVERY_COUNT_COUNT] ++ journalFlds

theorem State.recovered_spares (b : Nat) : Spares lockFlds s (s.recovered b) := by
  unfold State.recovered
  extract_lets n s1
  exact ((((Spares.refl lockFlds s).setF _ _ _).setF _ _ _).journal _ _)

theorem State.recovered_tim (b : Nat) : (s.recovered b).tim = s.tim := by
  unfold State.recovered
  exact State.journal_tim ..

/-- Entry to LOCKED leaves the slew and the fields it does not name. -/
theorem State.tryLock_spares : Spares lockFlds s s.tryLock ∧ s.tryLock.tim.slew = s.tim.slew := by
  have hlocked : Spares lockFlds s (({ s with tim := { s.tim with lockedAt := some s.now } } : State).setGrade 0) :=
    Spares.setF ((Spares.refl _ s).regs rfl) _ _ _
  unfold State.tryLock
  split
  · split
    · split
      · split
        · exact ⟨.refl _ s, rfl⟩
        · exact ⟨(Spares.refl _ s).raiseErr _ _ _ _, congrArg _ (State.raiseErr_tim ..)⟩
      · exact ⟨hlocked.trans (State.recovered_spares _ _), (congrArg TimX.slew (State.recovered_tim _ _)).trans rfl⟩
    · split
      · exact ⟨.refl _ s, rfl⟩
      · exact ⟨hlocked, rfl⟩
  · exact ⟨.refl _ s, rfl⟩

theorem State.setFreq_within {f : Int} (hlow : -s.freqBound ≤ f) (hhigh : f ≤ s.freqBound) :
    s.setFreq f = (s.setF .TIM_FREQ_CORR_F 0 (fromSigned 32 f)).setFlag .TIM_STATUS_POLICY_LIMITED 0 false := by
  unfold State.setFreq clampInt
  extract_lets b pinned s1
  have hnot : pinned = false := by
    unfold pinned b
    simp [hlow, hhigh]
  unfold s1
  rw [hnot, if_neg Bool.false_ne_true, if_neg (Int.not_lt.2 hlow), if_neg (Int.not_lt.2 hhigh)]

theorem State.freqBound_lt : s.freqBound < 2 ^ 31 := by
  unfold State.freqBound
  omega

theorem State.measure_outlier {theta : Int} {cause : Nat} (hgrade : s.getF .TIM_STATUS_GRADE 0 = 0) (hbig : 100000000 < theta.natAbs) (hfew : s.tim.outliers < 2) :
    s.measure theta cause = { s with tim := { s.tim with outliers := s.tim.outliers + 1 } } := by
  unfold State.measure
  exact if_pos (by simp [hgrade, hbig, hfew])

end

/-! ### Edges, exchanges, measurements -/

section
variable {s : State} (hrun : s.stopped = false)
include hrun

theorem execPpsEdge_measures (hsource : s.getF .TIM_CTRL_SOURCE 0 = 1) (htime : s.getF .TIM_STATUS_HAS_TIME 0 ≠ 0) (hnext : s.getF .TIM_TOD_NEXT_VALID 0 ≠ 0) :
    exec .ppsEdge s = .next ((({ s with tim := { s.tim with lastPps := some (s.getF .TIM_TOD_NEXT_SECONDS 0) } }).setF .TIM_TOD_NEXT_VALID 0 0).measure
      ((s.getF .TIM_TOD_NEXT_SECONDS 0 : Int) * 1000000000 - ((s.timNanos : Int) - toSigned 32 (s.getF .TIM_PPS_DELAY_NS 0))) 1) := by
  have hrow : execPpsEdge s = _ := State.clocked_run hrun _
  have hvalid : s.flag .TIM_TOD_NEXT_VALID 0 = true := by simpa [State.flag] using hnext
  have hflag : s.flag .TIM_STATUS_HAS_TIME 0 = true := by simpa [State.flag] using htime
  refine hrow.trans ((if_neg (not_not_intro hsource)).trans ?_)
  simp only [hvalid, hflag, if_true, Nat.cast_mul, Nat.cast_ofNat]
  rfl

theorem execPpsEdge_ignored (hsource : s.getF .TIM_CTRL_SOURCE 0 ≠ 1) : exec .ppsEdge s = .next s := by
  have hrow : execPpsEdge s = _ := State.clocked_run hrun _
  exact hrow.trans (if_pos hsource)

section
variable {m mid t1 : Nat}

theorem execPtmExchangeComplete_measures (hsource : s.getF .TIM_CTRL_SOURCE 0 = 2) (htime : s.getF .TIM_STATUS_HAS_TIME 0 ≠ 0) :
    exec (.ptmExchangeComplete m mid t1) s =
      .next ((s.setF .PCI_PTM_LAST_T1_NS 0 t1).measure ((m : Int) + toSigned 64 (s.getF .TIM_PTM_OFFSET_NS 0) - (mid : Int)) 0) := by
  have hrow : execPtmExchangeComplete m mid t1 s = _ := State.clocked_run hrun _
  exact hrow.trans ((if_neg (not_not_intro hsource)).trans (if_pos (by simpa [State.flag] using htime)))

theorem execPtmExchangeComplete_records (hsource : s.getF .TIM_CTRL_SOURCE 0 ≠ 2) :
    exec (.ptmExchangeComplete m mid t1) s = .next (s.setF .PCI_PTM_LAST_T1_NS 0 t1) := by
  have hrow : execPtmExchangeComplete m mid t1 s = _ := State.clocked_run hrun _
  exact hrow.trans (if_pos hsource)

end

theorem execPtmIntervalTimer_requests (hsource : s.getF .TIM_CTRL_SOURCE 0 = 2) (hissue : s.mayIssue = true) : exec .ptmIntervalTimer s = .next (s.say .ptmRequest) := by
  have hrow : execPtmIntervalTimer s = _ := State.clocked_run hrun _
  exact hrow.trans (if_pos ⟨hsource, hissue⟩)

theorem execRef10mMeasurement_sets {f : Int} (hen : s.getF .TIM_CTRL_REF10M_EN 0 ≠ 0) (hok : s.getF .TIM_STATUS_REF10M_OK 0 ≠ 0) (hlow : -s.freqBound ≤ f)
    (hhigh : f ≤ s.freqBound) : ∃ t, exec (.ref10mMeasurement f) s = .next t ∧ toSigned 32 (t.getF .TIM_FREQ_CORR_F 0) = f ∧
      t.getF .TIM_STATUS_POLICY_LIMITED 0 = 0 ∧
      ∀ g k, (g, k) ∉ [(Fld.TIM_FREQ_CORR_F, 0), (.TIM_STATUS_POLICY_LIMITED, 0)] → t.getF g k = s.getF g k := by
  have hrow : execRef10mMeasurement f s = _ := State.clocked_run hrun _
  have hbound := s.freqBound_lt
  refine ⟨_, hrow.trans (if_pos ⟨by simpa [State.flag] using hen, by simpa [State.flag] using hok⟩), ?_⟩
  rw [s.setFreq_within hlow hhigh]
  refine ⟨?_, ?_, fun g k hg => ?_⟩
  · rw [State.setFlag_getF, if_neg (by simp), State.getF_setF_same]
    refine (congrArg (toSigned 32) (Nat.mod_eq_of_lt (fromSigned_lt 32 f))).trans ?_
    exact toSigned_fromSigned_32 (by omega) (by omega)
  · rw [State.setFlag_getF, if_pos ⟨rfl, rfl⟩]
    rfl
  · simp only [List.mem_cons, List.not_mem_nil, or_false, not_or] at hg
    obtain ⟨hfreq, hpolicy⟩ := hg
    rw [State.setFlag, State.getF_setF_ne _ _ hpolicy, State.getF_setF_ne _ _ hfreq]

theorem execRef10mValidityChange_sets (b : Bool) : exec (.ref10mValidityChange b) s = .next (s.setFlag .TIM_STATUS_REF10M_OK 0 b) :=
  (State.clocked_run hrun _ : execRef10mValidityChange b s = _)

/-- The state once the counter has made the whole correction, before it may lock. -/
def State.slewMade (s : State) : State :=
  let ns := s.tim.slew.natAbs * 1000000 / (4294967296 * s.slewRate)
  let d : Int := ((ns * 4294967296 : Nat) : Int) + s.tim.slew
  let s1 := (s.addSub d.toNat).setSlew 0
  { s1 with now := s1.now + ns }

omit hrun in
theorem State.setSlew_zero (s : State) (n : Nat) :
    ({ s.setSlew 0 with now := n } : State).tim.slew = 0 ∧ ({ s.setSlew 0 with now := n } : State).getF .TIM_STATUS_SLEWING 0 = 0 :=
  ⟨rfl, s.setSlew_slewing 0⟩

omit hrun in
theorem State.slewMade_done (s : State) : s.slewMade.tim.slew = 0 ∧ s.slewMade.getF .TIM_STATUS_SLEWING 0 = 0 := State.setSlew_zero _ _

/-- A completed slew leaves nothing to be made. -/
theorem execSlewComplete_ends (hslew : s.tim.slew ≠ 0) : ∃ t, exec .slewComplete s = .next t ∧ t.tim.slew = 0 ∧ t.getF .TIM_STATUS_SLEWING 0 = 0 := by
  have hrow : execSlewComplete s = _ := State.clocked_run hrun _
  obtain ⟨hspares, hsame⟩ := s.slewMade.tryLock_spares
  obtain ⟨hslew', hslewing⟩ := s.slewMade_done
  exact ⟨_, hrow.trans (if_neg hslew), hsame.trans hslew', (hspares _ _ (by decide)).trans hslewing⟩

theorem execHoldoverLimitExpiry_frees (hgrade : s.getF .TIM_STATUS_GRADE 0 = 1) (hok : s.getF .TIM_STATUS_REF10M_OK 0 = 0) :
    exec .holdoverLimitExpiry s = .next (s.setGrade 3) := by
  have hrow : execHoldoverLimitExpiry s = _ := State.clocked_run hrun _
  exact hrow.trans (if_pos ⟨hgrade, by simp [State.flag, hok]⟩)

section
variable (hout : s.getF .TIM_CTRL_PPS_OUT_EN 0 ≠ 0) (hfast : s.tim.onKeeper = false)
include hout hfast

theorem execPpsOutPulse_pulses (hfirst : s.tim.ppsOutSec = none) : exec .ppsOutPulse s =
    .next { s with tim := { s.tim with ppsOutSec := some s.tim.sec }, sent := s.sent ++ [.ppsPulse s.tim.sec] } := by
  have hrow : execPpsOutPulse s = _ := State.clocked_run hrun _
  exact hrow.trans (if_pos ⟨by simpa [State.flag] using hout, hfast, by simp [hfirst]⟩)

omit hout hfast in
theorem execPpsOutPulse_once (hsame : s.tim.ppsOutSec = some s.tim.sec) : exec .ppsOutPulse s = .next s := by
  have hrow : execPpsOutPulse s = _ := State.clocked_run hrun _
  exact hrow.trans (if_neg (by simp [hsame]))

omit hout in
theorem execAoTrimMeasurement_stores (p : Int) : exec (.aoTrimMeasurement p) s = .next (s.setF .TIM_AO_TRIM_PPB 0 (fromSigned 32 p)) := by
  have hrow : execAoTrimMeasurement p s = _ := State.clocked_run hrun _
  exact hrow.trans (if_neg (Bool.eq_false_iff.1 hfast))

end

/-! ### The lost source -/

omit hrun in
/-- The fields of the time unit's status as its source is lost. -/
theorem State.sourceLost_effects {s : State} (hs : s.regsOk) : Raised s s.sourceLost 15 0 ∧
    s.sourceLost.getF .TIM_STATUS_GRADE 0 = (if s.getF .TIM_STATUS_GRADE 0 = 0 ∨ s.getF .TIM_STATUS_GRADE 0 = 2 then 1 else s.getF .TIM_STATUS_GRADE 0) ∧
    s.sourceLost.getF .TIM_SOURCE_LOSS_COUNT_COUNT 0 = s.plus .TIM_SOURCE_LOSS_COUNT_COUNT 0 1 ∧ s.sourceLost.getF .TIM_STATUS_LOCK_RUN 0 = 0 := by
  unfold State.sourceLost
  extract_lets g s1 s2 _ s3
  have hw2 : Writes [.TIM_SOURCE_LOSS_COUNT_COUNT, .TIM_STATUS_LOCK_RUN, .TIM_STATUS_GRADE] s s2 := by
    have hw1 : Writes [.TIM_SOURCE_LOSS_COUNT_COUNT, .TIM_STATUS_LOCK_RUN, .TIM_STATUS_GRADE] s s1 := ((Writes.refl _ s).count _ _ _).setF _ _ _
    exact .ite (hw1.setF _ _ _) hw1
  have hregs : s3.regs = s2.regs := by
    unfold s3
    split <;> rfl
  have hs3 : s3.regsOk := State.regsOk_regs hregs (hw2.fits hs)
  have hread (f : Fld) (k : Nat) (hf : f ∉ raiseFlds) : (s3.raiseErr blkTIM 0 0 (fromSigned 48 (toSigned 32 (s.getF .TIM_LAST_OFFSET_NS 0)))).getF f k =
      s2.getF f k := by
    rw [State.raiseErr_getF _ _ _ _ _ _ _ hf, State.getF_regs hregs]
  have hone (f : Fld) (hf : f ≠ .TIM_STATUS_GRADE) : s2.getF f 0 = s1.getF f 0 := by
    unfold s2
    split
    · exact State.getF_setF_ne _ _ (by simp [hf])
    · rfl
  refine ⟨?_, ?_, ?_, ?_⟩
  · exact (State.raiseErr_raised s3 blkTIM 0 0 _ (by decide) hs3).congr
      (fun f hf => ((State.getF_regs hregs _ _).trans (hw2.reads f _ (by revert f; decide))).symm) fun _ _ => rfl
  · rw [hread _ _ (by decide)]
    unfold s2
    split
    · exact State.getF_setF_same s1 .TIM_STATUS_GRADE 0 1
    · unfold s1
      rw [State.getF_setF_ne _ _ (by simp), State.count_getF, if_neg (by simp)]
  · rw [hread _ _ (by decide), hone _ (by decide)]
    unfold s1
    rw [State.getF_setF_ne _ _ (by simp), State.count_getF, if_pos ⟨rfl, rfl⟩]
  · rw [hread _ _ (by decide), hone _ (by decide)]
    exact State.getF_setF_same _ .TIM_STATUS_LOCK_RUN 0 0

theorem execTimeSourceLoss_loses (hsource : s.getF .TIM_CTRL_SOURCE 0 = 1 ∨ s.getF .TIM_CTRL_SOURCE 0 = 2) : exec .timeSourceLoss s = .next s.sourceLost := by
  have hrow : execTimeSourceLoss s = _ := State.clocked_run hrun _
  exact hrow.trans (if_pos hsource)

end

/-! ### TIME_SET and the other register accesses -/

section
variable (s : State) (t cause : Nat)

/-- A step before it is journaled. -/
def State.timeStepped (s : State) (t : Nat) : State :=
  ((((s.loadNanos t).setSlew 0).count .TIM_STEP_COUNT_COUNT 0 1).setGrade 2).setF .TIM_STATUS_LOCK_RUN 0 0

theorem State.stepTo_eq : s.stepTo t cause = (s.timeStepped t).journal 0x0008 (timeStepData s.timNanos t (s.getF .TIM_STATUS_GRADE 0) cause) := rfl

theorem State.stepTo_tim : (s.stepTo t cause).tim = { s.tim with sec := t / 1000000000 % 2 ^ 48, ns := t % 1000000000, sub := 0, slew := 0 } := by
  rw [State.stepTo_eq, State.journal_tim]
  rfl

theorem State.setSlew_spares (x : Int) : Spares [.TIM_SLEW_REMAIN_NS, .TIM_STATUS_SLEWING] s (s.setSlew x) := by
  unfold State.setSlew
  exact Spares.setF (Spares.setF ((Spares.refl _ s).regs rfl) _ _ _) _ _ _

theorem State.stepTo_grade : (s.stepTo t cause).getF .TIM_STATUS_GRADE 0 = 2 := by
  rw [State.stepTo_eq, State.journal_getF _ _ _ .TIM_STATUS_GRADE, State.timeStepped, State.getF_setF_ne _ _ (by simp), State.setGrade, State.getF_setF_same]
  rfl

theorem State.stepTo_count : (s.stepTo t cause).getF .TIM_STEP_COUNT_COUNT 0 = s.plus .TIM_STEP_COUNT_COUNT 0 1 := by
  rw [State.stepTo_eq, State.journal_getF _ _ _ .TIM_STEP_COUNT_COUNT, State.timeStepped, State.getF_setF_ne _ _ (by simp), State.setGrade,
    State.getF_setF_ne _ _ (by simp), State.count_getF, if_pos ⟨rfl, rfl⟩]
  unfold State.plus
  rw [State.setSlew_spares _ _ _ _ (by decide)]
  rfl

/-- A time of whole seconds and nanoseconds below a second is taken apart into them. -/
theorem nanos_parts {sec ns : Nat} (hsec : sec < 2 ^ 48) (hns : ns ≤ 999999999) :
    (sec * 1000000000 + ns) / 1000000000 % 2 ^ 48 = sec ∧ (sec * 1000000000 + ns) % 1000000000 = ns := by
  constructor <;> omega

/-- The state in which a TIME_SET is carried out. -/
def State.timeSetting (s : State) : State := { s.setHeld .TIM_SET_SEC 0 0 with tim := { s.tim with measuredAt := none } }

end

section
variable {s : State} {sec : Nat} (hs : s.Serves)
include hs

theorem State.Serves.timeSet_ignored (hns : 999999999 < s.getF .TIM_SET_NS_NS 0) : exec (.timeSet sec) s = .next (s.setHeld .TIM_SET_SEC 0 0) :=
  (hs.mmio _ : execTimeSet sec s = _).trans (if_pos hns)

section
variable (hsec : sec < 2 ^ 48) (hns : s.getF .TIM_SET_NS_NS 0 ≤ 999999999)
include hsec hns

theorem State.Serves.timeSet_steps (htime : s.getF .TIM_STATUS_HAS_TIME 0 ≠ 0) (hlater : s.timNanos < sec * 1000000000 + s.getF .TIM_SET_NS_NS 0) :
    exec (.timeSet sec) s = .next (s.timeSetting.stepTo (sec * 1000000000 + s.getF .TIM_SET_NS_NS 0) 2) := by
  have hflag : s.flag .TIM_STATUS_HAS_TIME 0 = true := by simpa [State.flag] using htime
  refine (hs.mmio _ : execTimeSet sec s = _).trans ((if_neg (Nat.not_lt.2 hns)).trans ?_)
  rw [Nat.mod_eq_of_lt hsec]
  exact (if_pos hflag).trans (if_pos hlater)

theorem State.Serves.timeSet_slews (htime : s.getF .TIM_STATUS_HAS_TIME 0 ≠ 0) (hearlier : sec * 1000000000 + s.getF .TIM_SET_NS_NS 0 ≤ s.timNanos) :
    exec (.timeSet sec) s = .next (s.timeSetting.setSlew ((((sec * 1000000000 + s.getF .TIM_SET_NS_NS 0 : Nat) : Int) - (s.timNanos : Int)) * 4294967296)) := by
  have hflag : s.flag .TIM_STATUS_HAS_TIME 0 = true := by simpa [State.flag] using htime
  refine (hs.mmio _ : execTimeSet sec s = _).trans ((if_neg (Nat.not_lt.2 hns)).trans ?_)
  rw [Nat.mod_eq_of_lt hsec]
  exact (if_pos hflag).trans (if_neg (Nat.not_lt.2 hearlier))

/-- The state once a first time has been loaded, where no floor is known. -/
def State.timeFirst (s : State) (t : Nat) : State := ((s.timeSetting.loadNanos t).setFlag .TIM_STATUS_HAS_TIME 0 true).setGrade 3

omit hs hsec hns in
theorem State.firstTime_timeSetting (hfloor : s.tim.floor = none) (t : Nat) : s.timeSetting.firstTime t = s.timeFirst t := by
  have hnone : s.timeSetting.tim.floor = none := hfloor
  unfold State.firstTime
  rw [hnone]
  simp [State.timeFirst]

/-- A first time where no floor is known is loaded as it is. -/
theorem State.Serves.timeSet_first (htime : s.getF .TIM_STATUS_HAS_TIME 0 = 0) (hfloor : s.tim.floor = none) : exec (.timeSet sec) s =
    .next ((s.timeFirst (sec * 1000000000 + s.getF .TIM_SET_NS_NS 0)).journal 0x0008
      (timeStepData 0 (sec * 1000000000 + s.getF .TIM_SET_NS_NS 0) (s.getF .TIM_STATUS_GRADE 0) 2)) := by
  obtain ⟨hparts, hparts'⟩ := nanos_parts hsec hns
  have hflag : s.flag .TIM_STATUS_HAS_TIME 0 = false := by simpa [State.flag] using htime
  have hloaded : (s.timeFirst (sec * 1000000000 + s.getF .TIM_SET_NS_NS 0)).timNanos = sec * 1000000000 + s.getF .TIM_SET_NS_NS 0 :=
    congrArg₂ (fun a b => a * 1000000000 + b) hparts hparts'
  refine (hs.mmio _ : execTimeSet sec s = _).trans ((if_neg (Nat.not_lt.2 hns)).trans ?_)
  rw [Nat.mod_eq_of_lt hsec]
  refine (if_neg (Bool.eq_false_iff.1 hflag)).trans ?_
  have hfirst : State.firstTime { s.setHeld .TIM_SET_SEC 0 0 with tim := { (s.setHeld .TIM_SET_SEC 0 0).tim with measuredAt := none } }
      (sec * 1000000000 + (s.setHeld .TIM_SET_SEC 0 0).getF .TIM_SET_NS_NS 0) = s.timeFirst (sec * 1000000000 + s.getF .TIM_SET_NS_NS 0) :=
    State.firstTime_timeSetting hfloor _
  simp only [hfirst, hloaded]
  exact congrArg (fun u => Host.Outcome.next (State.journal u 0x0008 _)) (if_neg (Nat.lt_irrefl _))

theorem State.Serves.timeSet_first_effects (htime : s.getF .TIM_STATUS_HAS_TIME 0 = 0) (hfloor : s.tim.floor = none) :
    ∃ t, exec (.timeSet sec) s = .next t ∧ t.tim.sec = sec ∧ t.tim.ns = s.getF .TIM_SET_NS_NS 0 ∧ t.getF .TIM_STATUS_HAS_TIME 0 = 1 ∧
      t.getF .TIM_STATUS_GRADE 0 = 3 := by
  obtain ⟨hparts, hparts'⟩ := nanos_parts hsec hns
  refine ⟨_, hs.timeSet_first hsec hns htime hfloor, ?_, ?_, ?_, ?_⟩
  · rw [State.journal_tim]
    exact hparts
  · rw [State.journal_tim]
    exact hparts'
  · rw [State.journal_getF _ _ _ .TIM_STATUS_HAS_TIME, State.timeFirst, State.setGrade, State.getF_setF_ne _ _ (by simp), State.setFlag_getF, if_pos ⟨rfl, rfl⟩]
    rfl
  · rw [State.journal_getF _ _ _ .TIM_STATUS_GRADE]
    exact State.getF_setF_same _ .TIM_STATUS_GRADE 0 3

end

end

/-! ### The statement -/

/-- Settles O56: measurements, steps and grades by the rule of each command. -/
theorem timeControl : Obligations.TimeControl := by
  unfold Obligations.TimeControl
  intro s hinv hrun
  obtain ⟨hs, ⟨hsec, hns, hsub⟩, -⟩ := hinv
  refine ⟨execPpsEdge_measures hrun, execPpsEdge_ignored hrun, fun m mid t1 ht1 => ⟨execPtmExchangeComplete_measures hrun, fun hsource =>
      ⟨_, execPtmExchangeComplete_records hrun hsource, (Sets.refl s).setF .PCI_PTM_LAST_T1_NS 0 t1 (by simp) ht1⟩⟩,
    fun theta cause => s.measure_outlier, execPtmIntervalTimer_requests hrun, fun f => execRef10mMeasurement_sets hrun,
    fun b => ⟨_, execRef10mValidityChange_sets hrun b, (Sets.refl s).setFlag .TIM_STATUS_REF10M_OK 0 b (by simp) (by decide)⟩, execSlewComplete_ends hrun,
    fun v hserves => ⟨_, (hserves.mmio _ : execTimSlewRateWrite v s = _), ?_⟩, fun sec hsec' hserves => ?_,
    fun hsource => ⟨_, execTimeSourceLoss_loses hrun hsource, State.sourceLost_effects hs⟩,
    fun hgrade hok => ⟨_, execHoldoverLimitExpiry_frees hrun hgrade hok, (Sets.refl s).setF .TIM_STATUS_GRADE 0 3 (by simp) (by decide)⟩,
    fun hserves => ⟨_, (hserves.mmio _ : execTimNowRead s = _), ?_⟩,
    fun hout hfast => ⟨execPpsOutPulse_pulses hrun hout hfast, execPpsOutPulse_once hrun⟩,
    fun p hfast hlow hhigh => ⟨_, execAoTrimMeasurement_stores hrun hfast p, ?_, fun f k hf => State.getF_setF_ne s _ hf⟩⟩
  · rw [← s.setF_mod]
    exact (Sets.refl s).setF .TIM_SLEW_RATE_PPM 0 _ (by simp) (Nat.mod_lt _ (Nat.two_pow_pos _))
  · extract_lets ns
    refine ⟨hserves.timeSet_ignored, fun hns' htime hlater => ?_, fun hns' htime hearlier => ?_, hserves.timeSet_first_effects hsec'⟩
    · obtain ⟨hparts, hparts'⟩ := nanos_parts hsec' hns'
      refine ⟨_, hserves.timeSet_steps hsec' hns' htime hlater, ?_, ?_, ?_, State.stepTo_grade .., State.stepTo_count ..⟩
      · rw [State.stepTo_tim]
        exact hparts
      · rw [State.stepTo_tim]
        exact hparts'
      · rw [State.stepTo_tim]
    · refine ⟨_, hserves.timeSet_slews hsec' hns' htime hearlier, ?_⟩
      rw [State.setSlew_tim]
      exact ⟨rfl, rfl, rfl⟩
  · exact Sets.say ((((Sets.refl s).setF .TIM_NOW_NS_NS 0 s.tim.ns (by simp) (hns.trans (by decide))).setF .TIM_NOW_SUBNS_SUBNS 0 s.tim.sub (by simp) hsub).setF
      .TIM_NOW_SEC_SECONDS 0 s.tim.sec (by simp) hsec) _
  · rw [State.getF_setF_same]
    exact (congrArg (toSigned 32) (Nat.mod_eq_of_lt (fromSigned_lt 32 p))).trans (toSigned_fromSigned_32 hlow hhigh)

end Sys2Proof.Machine
end

section
/-! ## Descriptors and local memory (R446 to R457) -/

namespace Sys2Proof.Machine
open Sys2Proof

-- The proofs are elaborated one after another: one that waits for another's premises would keep a thread of its own.
set_option Elab.async false

/-! ### Channels and descriptors -/

section
variable (s : State)

@[simp] theorem State.desc_setDesc_same (c i : Nat) (d : Desc) : (s.setDesc c i d).desc c i = d := nget_nset_same _ _ _ _

@[simp] theorem State.dchan_setDchan_same (c : Nat) (x : DmaChan) : (s.setDchan c x).dchan c = x := nget_nset_same _ _ _ _

theorem State.setDchan_desc (c k i : Nat) (x : DmaChan) : (s.setDchan c x).desc k i = s.desc k i := rfl

theorem State.setDesc_dchan (c i k : Nat) (d : Desc) : (s.setDesc c i d).dchan k = s.dchan k := rfl

theorem State.count_desc (f : Fld) (j n c i : Nat) : (s.count f j n).desc c i = s.desc c i := rfl

theorem State.setF_desc (f : Fld) (j v c i : Nat) : (s.setF f j v).desc c i = s.desc c i := rfl

/-- The head stays where the ring is empty, and at a descriptor that the engine owns. -/
theorem State.skipUnowned_stays {c : Nat} (fuel : Nat) (h : s.getF .DMA_CHAN_STATUS_HEAD c = (s.dchan c).tail ∨ (s.desc c (s.getF .DMA_CHAN_STATUS_HEAD c)).own = true) :
    s.skipUnowned c fuel = s := by
  cases fuel with
  | zero => rfl
  | succ fuel => exact if_pos h

/-- Moving heads writes heads alone. -/
theorem State.skipUnowned_writes (c fuel : Nat) : Writes [.DMA_CHAN_STATUS_HEAD] s (s.skipUnowned c fuel) := by
  induction fuel generalizing s with
  | zero => exact .refl _ s
  | succ fuel ih =>
    unfold State.skipUnowned
    exact .ite (.refl _ s) (((Writes.refl _ s).setF _ _ _).trans (ih _))

theorem State.headDesc_eq_some {c : Nat} {d : Desc} (h : s.headDesc c = some d) : s.desc c (s.getF .DMA_CHAN_STATUS_HEAD c) = d ∧ d.own = true := by
  unfold State.headDesc at h
  dsimp only at h
  split at h
  · next hown =>
    obtain rfl := Option.some.inj h
    exact ⟨rfl, hown⟩
  · exact absurd h (by simp)

end

/-! ### Posting and bursts -/

/-- Bytes written to staging are what staging then holds. -/
theorem foldl_nset_range (m : SMap Nat Nat) (a n : Nat) (v : Nat → Nat) {k : Nat} (hk : k < n) :
    nget 0 ((List.range n).foldl (fun m k => nset 0 m (a + k) (v k)) m) (a + k) = v k := by
  refine foldl_establishes (P := fun m : SMap Nat Nat => nget 0 m (a + k) = v k) (List.mem_range.2 hk) (fun m => nget_nset_same _ _ _ _) (fun m x hm => ?_) m
  by_cases h : x = k
  · rw [h, nget_nset_same]
  · rw [nget_nset_ne _ _ _ (by omega)]
    exact hm

/-- A descriptor as it is posted. -/
def postedDesc (a : DescArg) : Desc :=
  { src := a.src.toNat, dst := a.dst.toNat, len := a.len.toNat, line := a.line % 128, burst := a.burst % 8, srcSpace := a.srcSpace % 4, dstSpace := a.dstSpace % 4,
    slice := a.slice % 4096, own := a.own, job := a.job }

section
variable {s : State} {c : Nat} (hrun : s.stopped = false)
include hrun

theorem execDescriptorPost_owned (a : DescArg) (hown : (s.desc c (s.dchan c).tail).own = true) : exec (.descriptorPost c a) s = .next s := by
  have hrow : execDescriptorPost c a s = _ := State.clocked_run hrun _
  exact hrow.trans (if_pos (.inr hown))

theorem execDescriptorPost_stands (hc : c < 128) (a : DescArg) (ha : a.own = true) (hidle : s.getF .DMA_CHAN_STATUS_HEAD c = (s.dchan c).tail)
    (hfree : (s.desc c (s.dchan c).tail).own = false) : exec (.descriptorPost c a) s =
    .next ((s.setDesc c (s.dchan c).tail (postedDesc a)).setDchan c { s.dchan c with tail := ((s.dchan c).tail + 1) % 256 }) := by
  have hrow : execDescriptorPost c a s = _ := State.clocked_run hrun _
  refine hrow.trans ((if_neg (by simp [hfree, hc])).trans ?_)
  refine congrArg _ (State.skipUnowned_stays _ 256 (.inr ?_))
  have hhead : ((s.setDesc c (s.dchan c).tail (postedDesc a)).setDchan c { s.dchan c with tail := ((s.dchan c).tail + 1) % 256 }).getF .DMA_CHAN_STATUS_HEAD c =
      (s.dchan c).tail := hidle
  refine (congrArg (fun n => (State.desc _ c n).own) hhead).trans ?_
  exact (congrArg Desc.own (s.desc_setDesc_same c (s.dchan c).tail (postedDesc a))).trans ha

omit hrun in
/-- A descriptor that can move has not finished. -/
theorem State.burstReady_fin {d : Desc} (hready : s.burstReady c = some d) : (s.dchan c).fin = none := by
  unfold State.burstReady at hready
  split at hready
  · assumption
  · exact absurd hready (by simp)

/-- Staging after a burst from staging to staging. -/
def State.burstCopied (s : State) (d : Desc) : State :=
  s.stagingWrite (d.dst + d.bytes) (bytesOf d.chunk fun k => BitVec.ofNat 8 (nget 0 s.dma.staging (d.src + d.bytes + k)))

/-- A burst from staging to staging: copied, counted, and the last one finishes its descriptor. -/
def State.stagingMoved (s : State) (c : Nat) (d : Desc) : State :=
  let s1 := (((s.burstCopied d).count .DMA_BYTES_COUNT 0 d.chunk).count .LMC_PROTECTED_BYTES_COUNT 0 0).setDesc c (s.getF .DMA_CHAN_STATUS_HEAD c)
    { d with bytes := d.bytes + d.chunk }
  if d.bytes + d.chunk = d.len then s1.setDchan c { s.dchan c with fin := some (0, 0), outside := false } else s1

omit hrun in
theorem State.moveBurst_staging {d : Desc} (hok : s.descFault d = none) (hsrc : d.srcSpace = 2) (hdst : d.dstSpace = 2) (data : List Byte) :
    s.moveBurst c d data = s.stagingMoved c d := by
  have hlen : (bytesOf d.chunk fun k => BitVec.ofNat 8 (nget 0 s.dma.staging (d.src + d.bytes + k))).length = d.chunk := bytesOf_length _ _
  have hsource : s.burstSource d data = (bytesOf d.chunk fun k => BitVec.ofNat 8 (nget 0 s.dma.staging (d.src + d.bytes + k)), s) := by
    unfold State.burstSource
    rw [hsrc]
    rfl
  have hdest (w : List Byte) : s.burstDest d w = s.stagingWrite (d.dst + d.bytes) w := by
    unfold State.burstDest
    rw [hdst]
    rfl
  unfold State.moveBurst State.stagingMoved State.burstCopied
  rw [hok, hsource]
  dsimp only
  rw [hdest, hlen, hsrc, hdst]
  simp [b2n]

omit hrun in
theorem State.burstCopied_staging (d : Desc) {k : Nat} (hk : k < d.chunk) :
    nget 0 (s.burstCopied d).dma.staging (d.dst + d.bytes + k) = nget 0 s.dma.staging (d.src + d.bytes + k) % 256 := by
  unfold State.burstCopied State.stagingWrite
  dsimp only
  rw [bytesOf_length, foldl_nset_range s.dma.staging (d.dst + d.bytes) d.chunk _ hk]
  simp [bytesOf, hk]

omit hrun in
theorem State.stagingMoved_effects (c : Nat) (d : Desc) (hfin : (s.dchan c).fin = none) :
    (s.stagingMoved c d).desc c (s.getF .DMA_CHAN_STATUS_HEAD c) = { d with bytes := d.bytes + d.chunk } ∧
    ((s.stagingMoved c d).dchan c).fin = (if d.bytes + d.chunk = d.len then some (0, 0) else none) ∧
    (s.stagingMoved c d).getF .DMA_BYTES_COUNT 0 = s.plus .DMA_BYTES_COUNT 0 d.chunk ∧
    (∀ k < d.chunk, nget 0 (s.stagingMoved c d).dma.staging (d.dst + d.bytes + k) = nget 0 s.dma.staging (d.src + d.bytes + k) % 256) ∧
    (s.stagingMoved c d).sent = s.sent := by
  unfold State.stagingMoved
  extract_lets s1
  have hdesc : s1.desc c (s.getF .DMA_CHAN_STATUS_HEAD c) = { d with bytes := d.bytes + d.chunk } := State.desc_setDesc_same ..
  have hchan : (s1.dchan c).fin = none := hfin
  have hbytes : s1.getF .DMA_BYTES_COUNT 0 = s.plus .DMA_BYTES_COUNT 0 d.chunk :=
    (State.count_getF ((s.burstCopied d).count .DMA_BYTES_COUNT 0 d.chunk) .LMC_PROTECTED_BYTES_COUNT .DMA_BYTES_COUNT 0 0 0).trans
      ((if_neg (by simp)).trans ((State.count_getF (s.burstCopied d) ..).trans (if_pos ⟨rfl, rfl⟩)))
  have hstaging : ∀ k < d.chunk, nget 0 s1.dma.staging (d.dst + d.bytes + k) = nget 0 s.dma.staging (d.src + d.bytes + k) % 256 :=
    fun k hk => s.burstCopied_staging d hk
  have hsent : s1.sent = s.sent := rfl
  clear_value s1
  split
  · exact ⟨hdesc, congrArg DmaChan.fin (State.dchan_setDchan_same ..), hbytes, hstaging, hsent⟩
  · exact ⟨hdesc, hchan, hbytes, hstaging, hsent⟩

/-- The state in which a channel has had its turn for a transfer other than a write to host memory. -/
def State.turnTaken (s : State) (c : Nat) : State := { s with dma := { s.dma with asked := [], lastOther := c } }

/-- The only channel without a line that is ready has the turn. -/
theorem execDmaBurst_moves (hc : c < 128) (hline : 96 ≤ c) {d : Desc} (hready : s.burstReady c = some d) (honly : ∀ k, k ≠ c → s.burstReady k = none)
    (hasked : s.dma.asked = []) (hok : s.descFault d = none) (hsrc : d.srcSpace = 2) (hdst : d.dstSpace = 2) (data : List Byte) :
    exec (.dmaBurst c data) s = .next ((s.turnTaken c).stagingMoved c d) := by
  have hrow : execDmaBurst c data s = _ := State.clocked_run hrun _
  refine hrow.trans ?_
  have hisReady (k : Nat) : (s.burstReady k).isSome = (k == c) := by
    by_cases hk : k = c
    · rw [hk, hready]
      simp
    · rw [honly k hk]
      simp [hk]
  have hlist : ((List.range 32).map (· + 96)).filter (fun k => (s.burstReady k).isSome) = [c] := by
    have hnodup : ((List.range 32).map (· + 96)).Nodup := List.nodup_range.map fun a b h => Nat.add_right_cancel h
    have hmem : c ∈ (List.range 32).map (· + 96) := List.mem_map.2 ⟨c - 96, List.mem_range.2 (by omega), by omega⟩
    rw [List.filter_congr fun k _ => hisReady k, List.filter_beq, List.count_eq_one_of_mem hnodup hmem, List.replicate_one]
  have hwrites : [c].filter (fun k => (s.burstReady k).elim false fun d => d.dstSpace == 0) = [] := by simp [hready, hdst]
  simp only [if_neg (Nat.not_lt.2 hline), hasked, List.nil_append, hlist, hwrites, if_true, nextAfter, List.foldl_cons, List.foldl_nil, hready, List.filter_nil]
  exact congrArg _ (State.moveBurst_staging (s := s.turnTaken c) hok hsrc hdst data)

/-! ### The end of a descriptor -/

/-- A descriptor ended with its outcome. -/
def Desc.endedWith (d : Desc) (code cause : Nat) : Desc :=
  { d with own := false, bad := code != 0, code := code, cause := if code = 1 then cause else 0 }

omit hrun in
/-- A ring whose head has come to its tail has none to pass over. -/
theorem State.skipUnowned_atTail (u : State) (x : DmaChan) (htail : x.tail < 256) :
    ((u.setDchan c x).setF .DMA_CHAN_STATUS_HEAD c x.tail).skipUnowned c 256 = (u.setDchan c x).setF .DMA_CHAN_STATUS_HEAD c x.tail := by
  refine State.skipUnowned_stays _ 256 (.inl ?_)
  have hchan : ((u.setDchan c x).setF .DMA_CHAN_STATUS_HEAD c x.tail).dchan c = x := u.dchan_setDchan_same c x
  rw [State.getF_setF_same, hchan]
  exact Nat.mod_eq_of_lt htail

/-- The state once the head descriptor of a channel has ended. -/
def State.descEnded (s : State) (c : Nat) (d : Desc) (code cause : Nat) : State :=
  let s1 := s.setDesc c (s.getF .DMA_CHAN_STATUS_HEAD c) (d.endedWith code cause)
  let s2 := if code = 0 then s1 else s1.count .DMA_BAD_DESC_COUNT_COUNT 0 1
  if code = 5 then s2.count .DMA_CANCEL_COUNT_COUNT 0 1 else s2

omit hrun in
theorem State.descEnded_effects (s : State) (c : Nat) (d : Desc) (code cause : Nat) :
    (s.descEnded c d code cause).desc c (s.getF .DMA_CHAN_STATUS_HEAD c) = d.endedWith code cause ∧
    (s.descEnded c d code cause).getF .DMA_BAD_DESC_COUNT_COUNT 0 =
      (if code = 0 then s.getF .DMA_BAD_DESC_COUNT_COUNT 0 else s.plus .DMA_BAD_DESC_COUNT_COUNT 0 1) := by
  unfold State.descEnded
  extract_lets s1 s2
  have hdesc : s1.desc c (s.getF .DMA_CHAN_STATUS_HEAD c) = d.endedWith code cause := State.desc_setDesc_same ..
  have hdesc2 : s2.desc c (s.getF .DMA_CHAN_STATUS_HEAD c) = d.endedWith code cause := by
    unfold s2
    split <;> exact hdesc
  have hbad : s2.getF .DMA_BAD_DESC_COUNT_COUNT 0 = (if code = 0 then s.getF .DMA_BAD_DESC_COUNT_COUNT 0 else s.plus .DMA_BAD_DESC_COUNT_COUNT 0 1) := by
    unfold s2
    split
    · rfl
    · exact (State.count_getF ..).trans (if_pos ⟨rfl, rfl⟩)
  split
  · exact ⟨hdesc2, (State.count_getF ..).trans ((if_neg (by simp)).trans hbad)⟩
  · exact ⟨hdesc2, hbad⟩

/-- A finished descriptor of no job gives up its place, which was the last that was posted. -/
theorem execDmaDescriptorEnd_ends {d : Desc} {code cause : Nat} (hhead : s.headDesc c = some d) (hfin : (s.dchan c).fin = some (code, cause)) (hjob : d.job = none)
    (hlast : (s.getF .DMA_CHAN_STATUS_HEAD c + 1) % 256 = (s.dchan c).tail) : exec (.dmaDescriptorEnd c) s =
    .next (((s.descEnded c d code cause).setDchan c { s.dchan c with fin := none, outside := false }).setF .DMA_CHAN_STATUS_HEAD c (s.dchan c).tail) := by
  have hrow : execDmaDescriptorEnd c s = _ := State.clocked_run hrun _
  refine hrow.trans ?_
  have hnone (t : State) (o : Bool) : t.descOutcome c d code cause o = t := by
    unfold State.descOutcome State.descJob
    rw [hjob]
    rfl
  dsimp only
  rw [hhead, hfin]
  dsimp only
  rw [hnone, hlast]
  exact congrArg _ (State.skipUnowned_atTail (s.descEnded c d code cause) { s.dchan c with fin := none, outside := false }
    (hlast ▸ Nat.mod_lt _ (by decide)))

/-! ### Cancelled descriptors -/

theorem execDmaCancel_running {q i : Nat} {j : Job} (hj : s.job? q i = some j) (hstage : j.stage = .dispatched) : exec (.dmaCancel q i) s = .next s := by
  have hrow : execDmaCancel q i s = _ := State.clocked_run hrun _
  refine hrow.trans (if_pos ?_)
  rw [hj]
  simp [Job.running, hstage]

omit hrun in
theorem State.cancelDesc_effects (n : Nat) {d : Desc} (hbytes : d.bytes = 0) :
    (s.cancelDesc n d).desc (n / 256) (n % 256) = { d with own := false, bad := true, code := 5 } ∧
    (s.cancelDesc n d).getF .DMA_CANCEL_COUNT_COUNT 0 = s.plus .DMA_CANCEL_COUNT_COUNT 0 1 ∧
    (s.cancelDesc n d).getF .DMA_BAD_DESC_COUNT_COUNT 0 = s.plus .DMA_BAD_DESC_COUNT_COUNT 0 1 := by
  unfold State.cancelDesc
  extract_lets c
  rw [if_neg (by simp [hbytes])]
  refine ⟨State.desc_setDesc_same .., ?_, ?_⟩
  · rw [State.count_getF, if_pos ⟨rfl, rfl⟩]
    unfold State.plus
    rw [State.count_getF, if_neg (by simp)]
    rfl
  · rw [State.count_getF, if_neg (by simp), State.count_getF, if_pos ⟨rfl, rfl⟩]
    rfl

theorem execDmaCancel_cancels {q i n : Nat} {d : Desc} (hj : s.job? q i = none) (hone : s.dma.desc = [(n, d)]) (hown : d.own = true) (hjob : d.job = some (q, i)) :
    exec (.dmaCancel q i) s = .next ((s.cancelDesc n d).skipUnowned (n / 256) 256) := by
  have hrow : execDmaCancel q i s = _ := State.clocked_run hrun _
  refine hrow.trans ((if_neg (by simp [hj])).trans ?_)
  have hmine : s.dma.desc.filter (fun e => e.2.own && e.2.job == some (q, i)) = [(n, d)] := by simp [hone, hown, hjob]
  rw [hmine]
  rfl

end

/-! ### Local memory -/

section
variable {s : State} (hrun : s.stopped = false)

theorem State.lmcCause_lmc (s : State) (cause ch addr : Nat) : (s.lmcCause cause ch addr).lmc = { s.lmc with quietSince := some s.now } := by
  unfold State.lmcCause
  dsimp only
  rw [State.raiseErr_lmc, State.raiseErr_now]

theorem State.lmcCause_getF (s : State) (cause ch addr : Nat) (f : Fld) (i : Nat) :
    (s.lmcCause cause ch addr).getF f i = (s.raiseErr 17 cause ch addr).getF f i := rfl

theorem State.lmcCause_raised {s : State} (hs : s.regsOk) {cause : Nat} (hcause : cause < 32) (ch addr : Nat) : Raised s (s.lmcCause cause ch addr) 17 cause :=
  (State.raiseErr_raised s 17 cause ch addr hcause hs).congr (fun _ _ => rfl) fun _ _ => rfl

theorem State.lmcCause_jobs (s : State) (cause ch addr : Nat) : (s.lmcCause cause ch addr).jobs = s.jobs := State.raiseErr_jobs ..

theorem State.lmcCause_dma (s : State) (cause ch addr : Nat) : (s.lmcCause cause ch addr).dma = s.dma := State.raiseErr_dma ..

/-- With no descriptor no access is in flight. -/
theorem State.inFlight_nil {s : State} (hdesc : s.dma.desc = []) : s.inFlight = [] := by
  have hhead (c : Nat) : s.headDesc c = none := by
    unfold State.headDesc State.desc
    rw [hdesc]
    rfl
  unfold State.inFlight
  simp [hhead]

include hrun

theorem execLmcMacFailure_passes (w : LineOwner) (ch a : Nat) : exec (.lmcMacFailure w ch a true) s = .next s := by
  have hrow : execLmcMacFailure w ch a true s = _ := State.clocked_run hrun _
  exact hrow.trans (if_pos (.inl rfl))

theorem execLmcMacFailure_jobless (hstate : s.getF .LMC_STATUS_STATE 0 = 1) {q i : Nat} (ch a : Nat) (hj : s.job? q i = none) :
    exec (.lmcMacFailure (.other q i) ch a false) s = .next ((s.count .LMC_MAC_FAIL_COUNT_COUNT 0 1).lmcCause 1 ch a) := by
  have hrow : execLmcMacFailure (.other q i) ch a false s = _ := State.clocked_run hrun _
  refine hrow.trans ((if_neg (by simp [hstate])).trans ?_)
  have hnone : ((s.count .LMC_MAC_FAIL_COUNT_COUNT 0 1).lmcCause 1 ch a).job? q i = none := (State.job?_of_jobs s (State.lmcCause_jobs (s.count .LMC_MAC_FAIL_COUNT_COUNT 0 1) 1 ch a) q i).trans hj
  dsimp only
  rw [hnone]

theorem execLmcRetrain_retrains (cause ch a : Nat) (hstate : s.getF .LMC_STATUS_STATE 0 = 1) (hlimit : bit (s.getF .BLK_ERR_STATUS_CAUSE 17) 3 = false)
    (hcause : cause = 0 ∨ cause = 2) (hdesc : s.dma.desc = []) : exec (.lmcRetrain cause ch a []) s = .next ((s.lmcCause cause ch a).setF .LMC_STATUS_STATE 0 2) := by
  have hrow : execLmcRetrain cause ch a [] s = _ := State.clocked_run hrun _
  have hno : ¬(s.getF .LMC_STATUS_STATE 0 ≠ 1 ∨ bit (s.getF .BLK_ERR_STATUS_CAUSE blkLMC) 3 = true ∨ cause ≠ 0 ∧ cause ≠ 2) := by
    rintro (h | h | ⟨h0, h2⟩)
    · exact h hstate
    · exact Bool.eq_false_iff.1 hlimit h
    · exact hcause.elim h0 h2
  have hflight : (s.lmcCause cause ch a).inFlight = [] := State.inFlight_nil (by rw [State.lmcCause_dma, hdesc])
  refine hrow.trans ((if_neg hno).trans ?_)
  dsimp only
  rw [hflight]
  rfl

theorem execLmcRetrainComplete_limited (hstate : s.getF .LMC_STATUS_STATE 0 = 2) (hlimit : s.recoveryLimited 17 = true) :
    exec .lmcRetrainComplete s = .next (((s.setF .LMC_STATUS_STATE 0 1).setF .LMC_STATUS_RATE 0 3200).lmcCause 3 0 0) := by
  have hrow : execLmcRetrainComplete s = _ := State.clocked_run hrun _
  exact hrow.trans ((if_neg (not_not_intro hstate)).trans (if_pos hlimit))

theorem execLmcRetrainComplete_recovers (hstate : s.getF .LMC_STATUS_STATE 0 = 2) (hlimit : s.recoveryLimited 17 = false) :
    exec .lmcRetrainComplete s = .next ((((s.setF .LMC_STATUS_STATE 0 1).setF .LMC_STATUS_RATE 0 8533).recovered 17).setF .BLK_ERR_STATUS_CAUSE 17
      ((s.setF .LMC_STATUS_STATE 0 1).getF .BLK_ERR_STATUS_CAUSE 17)) := by
  have hrow : execLmcRetrainComplete s = _ := State.clocked_run hrun _
  exact hrow.trans ((if_neg (not_not_intro hstate)).trans (if_neg (Bool.eq_false_iff.1 hlimit)))

theorem execLmcQuietTimeExpiry_clears (hquiet : s.lmc.quietSince ≠ none) (hstate : s.getF .LMC_STATUS_STATE 0 = 1) : exec .lmcQuietTimeExpiry s =
    .next (({ s with lmc := { s.lmc with quietSince := none } } : State).setF .BLK_ERR_STATUS_CAUSE 17
      (if bit (s.getF .BLK_ERR_STATUS_CAUSE 17) 3 then 8 else 0)) := by
  have hrow : execLmcQuietTimeExpiry s = _ := State.clocked_run hrun _
  exact hrow.trans (if_neg (by simp [hquiet, hstate]))

section
variable (hstate : s.getF .LMC_STATUS_STATE 0 = 0)
include hstate

/-- The state with K_LM drawn. -/
def State.lmKeyDrawn (s : State) : State := { s with free := s.free + 1, lmc := { key := s.nextRandom 32 } }

theorem execLmcTrainingComplete_trains {g : Nat} (hg : g = 8 ∨ g = 16) (r : Bool) : exec (.lmcTrainingComplete g r true) s =
    .next ((((s.lmKeyDrawn.setF .LMC_STATUS_STATE 0 1).setF .LMC_STATUS_RATE 0 8533).setF .LMC_CONFIG_GIB 0 g).setFlag .LMC_CONFIG_RANKS2 0 r) := by
  have hrow : execLmcTrainingComplete g r true s = _ := State.clocked_run hrun _
  refine hrow.trans ((if_neg (not_not_intro hstate)).trans ?_)
  exact if_neg (by rcases hg with rfl | rfl <;> simp)

theorem execLmcTrainingComplete_fails (g : Nat) (r : Bool) : exec (.lmcTrainingComplete g r false) s =
    .next (((s.setF .LMC_STATUS_STATE 0 3).raiseErr blkLMC 4 0 0).bootFailed 6) := by
  have hrow : execLmcTrainingComplete g r false s = _ := State.clocked_run hrun _
  exact hrow.trans ((if_neg (not_not_intro hstate)).trans (if_pos (.inl rfl)))

end

end

/-! ### Failed boot -/

section
variable (s : State)

/-- An alert of the SMBus writes its own status. -/
theorem State.alert_spares (n : Nat) : Spares [.SMB_ALERT_STATUS_ALERT] s (s.alert n) := by
  unfold State.alert
  extract_lets s1
  have hs1 : Spares [.SMB_ALERT_STATUS_ALERT] s s1 := (Spares.refl _ s).setF _ _ _
  exact .ite (.refl _ s) (.ite (hs1.regs rfl) hs1)

theorem State.alert_frame (n : Nat) : s.alert n = { s with regs := (s.alert n).regs, pwr := (s.alert n).pwr } := by
  unfold State.alert
  dsimp only
  split
  · rfl
  · split <;> rfl

theorem State.bootFailed_effects (err : Nat) (herr : err < 16) : (s.bootFailed err).getF .GLB_STATUS_BOOT_STATE 0 = 5 ∧
    (s.bootFailed err).getF .GLB_STATUS_BOOT_ERROR 0 = err ∧ (s.bootFailed err).lmc = s.lmc ∧
    Spares ([.SMB_ALERT_STATUS_ALERT, .GLB_STATUS_BOOT_STATE, .GLB_STATUS_BOOT_ERROR] ++ raiseFlds) s (s.bootFailed err) := by
  unfold State.bootFailed
  refine ⟨?_, ?_, ?_, ?_⟩
  · rw [State.alert_spares _ _ _ _ (by decide), State.raiseErr_getF _ _ _ _ _ _ _ (by decide), State.getF_setF_ne _ _ (by simp), State.getF_setF_same]
    rfl
  · rw [State.alert_spares _ _ _ _ (by decide), State.raiseErr_getF _ _ _ _ _ _ _ (by decide), State.getF_setF_same]
    exact Nat.mod_eq_of_lt herr
  · rw [State.alert_frame]
    exact State.raiseErr_lmc ..
  · have hraised : Spares ([.SMB_ALERT_STATUS_ALERT, .GLB_STATUS_BOOT_STATE, .GLB_STATUS_BOOT_ERROR] ++ raiseFlds) s
        (((s.setF .GLB_STATUS_BOOT_STATE 0 5).setF .GLB_STATUS_BOOT_ERROR 0 err).raiseErr blkGLB 0 0 err) :=
      (((Spares.refl _ s).setF _ _ _).setF _ _ _).raiseErr _ _ _ _
    exact hraised.trans fun f i hf => State.alert_spares _ 4 f i fun hm => hf (List.mem_append_left _ (List.mem_cons.2 (.inl (List.mem_singleton.1 hm))))

end

/-! ### The statement -/

/-- Settles O57: descriptors by what their channel holds, local memory by the state of its link. -/
theorem dmaAndLocalMemory : Obligations.DmaAndLocalMemory := by
  unfold Obligations.DmaAndLocalMemory
  intro s c hc hs hrun
  extract_lets h tail
  refine ⟨fun a hown => execDescriptorPost_owned hrun a hown, fun a ha hidle htail hfree => ?_, fun d hline hready honly hasked hok hsrc hdst data => ?_,
    fun d code cause hhead hfin hjob hlast => ?_, fun q i j hj hstage => execDmaCancel_running hrun hj hstage,
    fun q i n d hj hone hown hjob hbytes => ?_, fun w ch a => execLmcMacFailure_passes hrun w ch a, fun hstate q i ch a hj => ?_,
    fun cause ch a hstate hlimit hcause hdesc => ?_, fun hstate => ⟨fun hlimit => ?_, fun hlimit => ?_⟩, fun hquiet hstate => ?_,
    fun hstate r => ⟨fun g hg => ?_, fun g => ?_⟩⟩
  · exact ⟨_, execDescriptorPost_stands hrun hc a ha hidle hfree, (s.desc_setDesc_same c tail (postedDesc a)).trans (by rw [postedDesc, ha]),
      congrArg DmaChan.tail (State.dchan_setDchan_same ..), rfl⟩
  · have hfin := State.burstReady_fin hready
    obtain ⟨hmoved, hdone, hbytes, hcopied, hsent⟩ := State.stagingMoved_effects (s := s.turnTaken c) c d hfin
    exact ⟨_, execDmaBurst_moves hrun hc hline hready honly hasked hok hsrc hdst data, hmoved, hdone, hbytes, hcopied, hsent⟩
  · obtain ⟨hdesc, hbad⟩ := s.descEnded_effects c d code cause
    have htail : tail < 256 := hlast ▸ Nat.mod_lt _ (by decide)
    refine ⟨_, execDmaDescriptorEnd_ends hrun hhead hfin hjob hlast, hdesc, ?_, ?_, ?_⟩
    · exact (State.getF_setF_same ..).trans (Nat.mod_eq_of_lt htail)
    · exact congrArg DmaChan.fin (State.dchan_setDchan_same ..)
    · exact (State.getF_setF_ne _ _ (by simp)).trans hbad
  · obtain ⟨hdesc, hcancel, hbad⟩ := State.cancelDesc_effects (s := s) n hbytes
    have hskip := State.skipUnowned_writes (s.cancelDesc n d) (n / 256) 256
    exact ⟨_, execDmaCancel_cancels hrun hj hone hown hjob, (hskip.part fun u => u.desc (n / 256) (n % 256)).trans hdesc,
      (hskip.reads _ _ (by decide)).trans hcancel, (hskip.reads _ _ (by decide)).trans hbad⟩
  · refine ⟨_, execLmcMacFailure_jobless hrun hstate ch a hj, ?_, ?_, State.lmcCause_lmc _ _ _ _⟩
    · rw [State.lmcCause_getF, State.raiseErr_getF _ _ _ _ _ _ _ (by decide), State.count_getF, if_pos ⟨rfl, rfl⟩]
    · exact (State.lmcCause_raised (State.setF_regsOk hs _ _ _) (by decide) ch a).congr
        (fun f hf => (State.getF_setF_ne _ _ (by revert f; decide)).symm) fun _ _ => rfl
  · have hfew : cause < 32 := by omega
    refine ⟨_, execLmcRetrain_retrains hrun cause ch a hstate hlimit hcause hdesc, State.getF_setF_same .., ?_, State.lmcCause_jobs ..⟩
    exact (State.lmcCause_raised hs hfew ch a).congr (fun _ _ => rfl) fun f hf => State.getF_setF_ne _ _ (by revert f; decide)
  · refine ⟨_, execLmcRetrainComplete_recovers hrun hstate hlimit, ?_, ?_, ?_, ?_⟩
    · rw [State.getF_setF_ne _ _ (by simp), State.recovered_spares _ _ _ _ (by decide), State.getF_setF_ne _ _ (by simp), State.getF_setF_same]
      rfl
    · rw [State.getF_setF_ne _ _ (by simp), State.recovered_spares _ _ _ _ (by decide), State.getF_setF_same]
      rfl
    · rw [State.getF_setF_ne _ _ (by simp), State.recovered_count, State.getF_setF_ne _ _ (by simp), State.getF_setF_ne _ _ (by simp)]
    · rw [State.getF_setF_same, State.getF_setF_ne _ _ (by simp)]
      exact Nat.mod_eq_of_lt (State.getF_lt hs .BLK_ERR_STATUS_CAUSE 17)
  · refine ⟨_, execLmcRetrainComplete_limited hrun hstate hlimit, ?_, ?_, ?_⟩
    · rw [State.lmcCause_getF, State.raiseErr_getF _ _ _ _ _ _ _ (by decide), State.getF_setF_ne _ _ (by simp), State.getF_setF_same]
      rfl
    · rw [State.lmcCause_getF, State.raiseErr_getF _ _ _ _ _ _ _ (by decide), State.getF_setF_same]
      rfl
    · exact (State.lmcCause_raised (State.setF_regsOk (State.setF_regsOk hs _ _ _) _ _ _) (by decide) 0 0).congr
        (fun f hf => by rw [State.getF_setF_ne _ _ (by revert f; decide), State.getF_setF_ne _ _ (by revert f; decide)]) fun _ _ => rfl
  · refine ⟨_, execLmcQuietTimeExpiry_clears hrun hquiet hstate, (Sets.refl _).setF .BLK_ERR_STATUS_CAUSE 17 _ (by simp) ?_⟩
    split <;> decide
  · refine ⟨_, execLmcTrainingComplete_trains hrun hstate hg r, rfl, ?_, ?_, ?_, ?_⟩
    · rw [State.setFlag_getF, if_neg (by simp), State.getF_setF_ne _ _ (by simp), State.getF_setF_ne _ _ (by simp), State.getF_setF_same]
      rfl
    · rw [State.setFlag_getF, if_neg (by simp), State.getF_setF_ne _ _ (by simp), State.getF_setF_same]
      rfl
    · rw [State.setFlag_getF, if_neg (by simp), State.getF_setF_same]
      rcases hg with rfl | rfl <;> rfl
    · rw [State.setFlag_getF, if_pos ⟨rfl, rfl⟩]
      cases r <;> rfl
  · obtain ⟨hboot, herror, hlmc, hspares⟩ := ((s.setF .LMC_STATUS_STATE 0 3).raiseErr blkLMC 4 0 0).bootFailed_effects 6 (by decide)
    refine ⟨_, execLmcTrainingComplete_fails hrun hstate g r, ?_, hboot, herror, hlmc.trans (State.raiseErr_lmc ..)⟩
    rw [hspares _ _ (by decide), State.raiseErr_getF _ _ _ _ _ _ _ (by decide), State.getF_setF_same]
    rfl

end Sys2Proof.Machine
end

section
/-! ## The tamper monitor, the life cycle and OTP (R11, R461 to R488) -/

namespace Sys2Proof.Machine
open Sys2Proof

-- The proofs are elaborated one after another: one that waits for another's premises would keep a thread of its own.
set_option Elab.async false

/-! ### Alarms -/

section
variable {s : State} {n d : Nat}

/-- What an alarm of a source leaves: it is raised and active, counted, and waits for its event. -/
structure Alarmed (s t : State) (n d : Nat) : Prop where
  raised : t.getF .TMP_SRC_STATUS_RAISED n = 1
  active : t.getF .TMP_SRC_STATUS_ACTIVE n = 1
  counted : t.getF .TMP_SRC_STATUS_COUNT n = s.plus .TMP_SRC_STATUS_COUNT n 1
  event : t.tmp = { s.tmp with event := s.tmp.event ++ [(n, s.now)] }
  detectors : t.getF .TMP_SRC_STATUS_DETECTORS n = (s.getF .TMP_SRC_STATUS_DETECTORS n ||| d % 4) % 4
  spares : Spares [.TMP_SRC_STATUS_RAISED, .TMP_SRC_STATUS_ACTIVE, .TMP_SRC_STATUS_DETECTORS, .TMP_SRC_STATUS_COUNT] s t

theorem State.alarm_alarmed (hmonitored : s.monitored n = true) : Alarmed s (s.alarm n d) n d := by
  have heq : s.alarm n d = (let s1 := (((s.setFlag .TMP_SRC_STATUS_RAISED n true).setFlag .TMP_SRC_STATUS_ACTIVE n true).setF .TMP_SRC_STATUS_DETECTORS n
      (s.getF .TMP_SRC_STATUS_DETECTORS n ||| d % 4)).count .TMP_SRC_STATUS_COUNT n 1
    { s1 with tmp := { s1.tmp with event := s1.tmp.event ++ [(n, s1.now)] } }) := if_neg (by simp [hmonitored])
  rw [heq]
  extract_lets s1
  have hspares : Spares [.TMP_SRC_STATUS_RAISED, .TMP_SRC_STATUS_ACTIVE, .TMP_SRC_STATUS_DETECTORS, .TMP_SRC_STATUS_COUNT] s s1 :=
    (((Spares.refl _ s).setF _ _ _).setF _ _ _).setF _ _ _ |>.count _ _ _
  refine ⟨?_, ?_, ?_, rfl, ?_, hspares.regs rfl⟩
  · show s1.getF .TMP_SRC_STATUS_RAISED n = 1
    simp [s1, b2n]
  · show s1.getF .TMP_SRC_STATUS_ACTIVE n = 1
    simp [s1, b2n]
  · show s1.getF .TMP_SRC_STATUS_COUNT n = _
    simp [s1, State.plus]
  · show s1.getF .TMP_SRC_STATUS_DETECTORS n = _
    simp [s1]

theorem execTamperAlarm_alarms (hn : n < 16) (hd : d < 4) (hd0 : d ≠ 0) (hext : ¬(9 ≤ n ∧ n ≤ 12)) : exec (.tamperAlarm n d) s = .next (s.alarm n d) := by
  have hrow : exec (.tamperAlarm n d) s = execTamperAlarm n d s := rfl
  refine hrow.trans ((if_neg (by omega)).trans ?_)
  rw [if_neg (by omega)]

theorem execDetectorDisagree_alarms (hn : n < 15) (hactive : s.getF .TMP_SRC_STATUS_ACTIVE n ≠ 0)
    (hone : s.getF .TMP_SRC_STATUS_DETECTORS n = 1 ∨ s.getF .TMP_SRC_STATUS_DETECTORS n = 2) :
    exec (.detectorDisagree n) s = .next ((s.count .TMP_DISAGREE_COUNT_COUNT 0 1).alarm 15 (s.getF .TMP_SRC_STATUS_DETECTORS n)) := by
  have hrow : exec (.detectorDisagree n) s = execDetectorDisagree n s := rfl
  have hflag : s.flag .TMP_SRC_STATUS_ACTIVE n = true := by simpa [State.flag] using hactive
  have hno : ¬(15 ≤ n ∨ (!s.flag .TMP_SRC_STATUS_ACTIVE n) = true ∨
      s.getF .TMP_SRC_STATUS_DETECTORS n ≠ 1 ∧ s.getF .TMP_SRC_STATUS_DETECTORS n ≠ 2) := by
    rintro (h | h | ⟨h1, h2⟩)
    · omega
    · simp [hflag] at h
    · exact hone.elim h1 h2
  exact hrow.trans (if_neg hno)

/-- A source's monitoring depends on the life cycle's state and the power mode. -/
theorem State.monitored_congr {t : State} (hstate : t.getF .LCO_STATE_STATE 0 = s.getF .LCO_STATE_STATE 0) (hpower : t.pwr = s.pwr) (n : Nat) :
    t.monitored n = s.monitored n := by
  unfold State.monitored State.powered
  rw [hstate, hpower]

end

/-! ### Events -/

section
variable (s : State)

/-- The state in which an event's responses are executed: its alarms are taken, it is counted, the device is awake. -/
def State.eventTaken (t0 : Nat) : State :=
  (({ s with tmp := { s.tmp with event := s.tmp.event.filter fun e => !decide (e.2 ≤ t0 + 30518) } }).count .TMP_EVENT_COUNT_COUNT 0 1).awake.alert 5

/-- The fields that taking an event may write. -/
def eventFlds : List Fld := [.TMP_EVENT_COUNT_COUNT, .PCI_LINK_STATUS_PM_STATE, .SMB_ALERT_STATUS_ALERT]

theorem State.linkExit_spares : Spares [.PCI_LINK_STATUS_PM_STATE] s s.linkExit := by
  unfold State.linkExit
  exact .ite ((Spares.refl _ s).setF _ _ _) (.refl _ s)

theorem State.alert_bit {n : Nat} (hn : n < Fld.width .SMB_ALERT_STATUS_ALERT) : bit ((s.alert n).getF .SMB_ALERT_STATUS_ALERT 0) n = true := by
  unfold State.alert
  split
  · assumption
  · have hset : bit ((s.setF .SMB_ALERT_STATUS_ALERT 0 (setBits (s.getF .SMB_ALERT_STATUS_ALERT 0) n n 1)).getF .SMB_ALERT_STATUS_ALERT 0) n = true := by
      rw [State.getF_setF_same]
      refine (bit_mod_two_pow hn).trans ?_
      rw [bit_setBits_one]
      simp
    dsimp only
    split <;> exact hset

theorem State.alert_mode (n : Nat) : (s.alert n).pwr.mode = s.pwr.mode := by
  unfold State.alert
  dsimp only
  split
  · rfl
  · split <;> rfl

theorem State.alert_only (n : Nat) : ∃ m x, s.alert n = { s with regs := m, pwr := x } := ⟨_, _, s.alert_frame n⟩

theorem State.alert_regsOk {s : State} (hs : s.regsOk) (n : Nat) : (s.alert n).regsOk := by
  unfold State.alert
  extract_lets s1
  have hs1 : s1.regsOk := State.setF_regsOk hs _ _ _
  split
  · exact hs
  · split
    · exact State.regsOk_regs (s := s1) rfl hs1
    · exact hs1

theorem State.linkExit_regsOk {s : State} (hs : s.regsOk) : s.linkExit.regsOk := by
  unfold State.linkExit
  dsimp only
  split
  · exact State.setF_regsOk hs _ _ _
  · exact hs

/-- What taking the only alarm there is leaves. -/
structure EventTaken (s e : State) : Prop where
  frame : ∃ m x, e = { s with regs := m, pwr := x, tmp := { s.tmp with event := [] } }
  mode : e.pwr.mode = s.pwr.mode
  spares : Spares eventFlds s e
  counted : e.getF .TMP_EVENT_COUNT_COUNT 0 = s.plus .TMP_EVENT_COUNT_COUNT 0 1
  alerted : bit (e.getF .SMB_ALERT_STATUS_ALERT 0) 5 = true
  fits : s.regsOk → e.regsOk

/-- The state without alarms that wait, the event counted. -/
def State.eventCounted (s : State) : State := State.count { s with tmp := { s.tmp with event := [] } } .TMP_EVENT_COUNT_COUNT 0 1

theorem State.eventCounted_regsOk {s : State} (hs : s.regsOk) : s.eventCounted.regsOk := by
  have hcleared : State.regsOk { s with tmp := { s.tmp with event := [] } } := State.regsOk_regs (s := s) rfl hs
  exact State.setF_regsOk hcleared .TMP_EVENT_COUNT_COUNT 0 _

theorem State.eventTaken_taken {s : State} {n t0 : Nat} (hevent : s.tmp.event = [(n, t0)]) (hidle : s.pwr.mode ≠ .idle) (hdoze : s.pwr.mode ≠ .doze) :
    EventTaken s (s.eventTaken t0) := by
  have hnone : s.tmp.event.filter (fun e => !decide (e.2 ≤ t0 + 30518)) = [] := by simp [hevent]
  have hawake : s.eventCounted.awake = s.eventCounted.linkExit := State.awake_of_mode (s := s.eventCounted) hidle hdoze
  have heq : s.eventTaken t0 = s.eventCounted.linkExit.alert 5 := by
    unfold State.eventTaken
    rw [hnone, ← hawake]
    rfl
  rw [heq]
  obtain ⟨m, hm⟩ := s.eventCounted.linkExit_frame
  have hlink := s.eventCounted.linkExit_spares
  have halert := s.eventCounted.linkExit.alert_spares 5
  have hcounted : Spares [.TMP_EVENT_COUNT_COUNT] s s.eventCounted := Spares.count ((Spares.refl _ s).regs rfl) _ _ _
  refine ⟨?_, ?_, fun f i hf => ?_, ?_, State.alert_bit _ (by decide), fun hs => ?_⟩
  · obtain ⟨m', x, hx⟩ := s.eventCounted.linkExit.alert_only 5
    rw [hx, hm]
    exact ⟨m', x, rfl⟩
  · rw [State.alert_mode, hm]
    rfl
  · simp only [eventFlds, List.mem_cons, List.not_mem_nil, or_false, not_or] at hf
    obtain ⟨h1, h2, h3⟩ := hf
    rw [halert f i (by simpa using h3), hlink f i (by simpa using h2), hcounted f i (by simpa using h1)]
  · rw [halert _ _ (by decide), hlink _ _ (by decide)]
    exact (State.count_getF ..).trans (if_pos ⟨rfl, rfl⟩)
  · exact State.alert_regsOk (State.linkExit_regsOk (State.eventCounted_regsOk hs)) 5

theorem sourcesOf_two_pow {n : Nat} (hn : n < 16) : sourcesOf (2 ^ n) = [n] := filter_bit_two_pow hn

/-- The only alarm's source makes the event, and its responses are executed. -/
theorem State.eventSources_single {s : State} {n t0 : Nat} (hevent : s.tmp.event = [(n, t0)]) : s.eventSources = 2 ^ n := by
  unfold State.eventSources
  rw [hevent]
  simp

theorem State.union_single {s : State} {n : Nat} (hn : n < 16) : s.union (2 ^ n) = implied (s.respOf n) s.powered := by
  unfold State.union
  rw [sourcesOf_two_pow hn]
  simp

theorem execTamperEventResponse_single {n t0 : Nat} (hevent : s.tmp.event = [(n, t0)]) : exec .tamperEventResponse s =
    .next (let e := s.eventTaken t0
      let m := e.union (2 ^ n)
      if !e.powered then e.eventUnpowered (2 ^ n) m else if bit m rReset then e.eventReset (2 ^ n) m else e.eventRunning (2 ^ n) m) := by
  have hrow : exec .tamperEventResponse s = execTamperEventResponse s := rfl
  rw [hrow, ← State.eventSources_single hevent]
  unfold execTamperEventResponse State.eventTaken
  split
  · next h => exact absurd (h.symm.trans hevent) (by simp)
  · next x t1 l h =>
    obtain rfl : t1 = t0 := by
      rw [hevent] at h
      exact (congrArg (fun l : List (Nat × Nat) => (l.map Prod.snd).headD 0) h).symm
    rfl

end

/-! ### Responses -/

section
variable (s : State)

/-- The fields that show the evidence buffer. -/
def bufFlds : List Fld := [.TMP_STATUS_EVIDENCE_PENDING, .TMP_AO_FILL_ENTRIES]

/-- The state with an entry put into the buffer. -/
def State.buffered (s : State) (e : AoEntry) : State := State.showBuf { s with tmp := { s.tmp with buf := s.tmp.buf ++ [e] } }

theorem State.putBuf_room {s : State} (hroom : s.tmp.buf.length < 32) (e : AoEntry) : s.putBuf e = s.buffered e := if_pos hroom

theorem State.showBuf_writes : Writes bufFlds s s.showBuf := ((Writes.refl _ s).setF _ _ _).setF _ _ _

theorem State.buffered_spares (e : AoEntry) : Spares bufFlds s (s.buffered e) :=
  fun f i hf => (State.showBuf_writes { s with tmp := { s.tmp with buf := s.tmp.buf ++ [e] } }).reads f i hf

theorem State.buffered_regsOk {s : State} (hs : s.regsOk) (e : AoEntry) : (s.buffered e).regsOk := by
  have hbuf : State.regsOk { s with tmp := { s.tmp with buf := s.tmp.buf ++ [e] } } := State.regsOk_regs (s := s) rfl hs
  exact (State.showBuf_writes { s with tmp := { s.tmp with buf := s.tmp.buf ++ [e] } }).fits hbuf

theorem State.buffered_tmp (e : AoEntry) : (s.buffered e).tmp = { s.tmp with buf := s.tmp.buf ++ [e] } := rfl

theorem State.buffered_pending (e : AoEntry) : (s.buffered e).getF .TMP_STATUS_EVIDENCE_PENDING 0 = 1 := by
  unfold State.buffered State.showBuf
  rw [State.getF_setF_ne _ _ (by simp), State.setFlag_getF, if_pos ⟨rfl, rfl⟩]
  simp [b2n]

/-- An event with LOG and IRQ alone before the ledger is ready: evidence and an error. -/
theorem State.eventRunning_logIrq {s : State} (hready : s.getF .QRE_STATUS_READY 0 = 0) (hroom : s.tmp.buf.length < 32) (sources : Nat) :
    s.eventRunning sources 3 = (s.buffered (s.entryOf sources 3 0)).raiseErr blkTMP 0 ((sourcesOf sources).headD 0)
      ((s.buffered (s.entryOf sources 3 0)).srcWord ((sourcesOf sources).headD 0)) := by
  have hflag : s.flag .QRE_STATUS_READY 0 = false := by simp [State.flag, hready]
  have herase : s.eventErase 3 = s := rfl
  have hhalt : bit 3 rHalt = false := rfl
  have hcount : bit 3 rCount = false := rfl
  have hirq : bit 3 rIrq = true := rfl
  have hlog : bit 3 rLog = true := rfl
  have hdone : 3 &&& 0xFF = 3 := rfl
  have hstill (u y : Nat) : ((s.buffered (s.entryOf sources 3 0)).raiseErr blkTMP 0 u y).evidenceJournal = (s.buffered (s.entryOf sources 3 0)).raiseErr blkTMP 0 u y := by
    refine if_pos ?_
    unfold State.flag
    rw [State.raiseErr_getF _ _ _ _ _ _ _ (by decide), State.buffered_spares _ _ _ _ (by decide), hready]
    rfl
  unfold State.eventRunning
  simp only [hflag, herase, hhalt, hcount, hirq, hlog, hdone, Bool.not_false, Bool.true_or, Bool.not_true, Bool.false_eq_true, if_true, if_false,
    State.putBuf_room hroom, hstill]

theorem State.loseBbk_effects : s.loseBbk.kv.bbk = none ∧ s.loseBbk.kv.bbkLost = true ∧ s.loseBbk.store.anchor.valid = false := by
  unfold State.loseBbk
  extract_lets
  exact ⟨rfl, rfl, rfl⟩

theorem State.putBuf_kv_store (e : AoEntry) : (s.putBuf e).kv = s.kv ∧ (s.putBuf e).store = s.store := by
  unfold State.putBuf
  split
  · exact ⟨rfl, rfl⟩
  · exact ⟨State.raiseErr_kv .., State.raiseErr_store ..⟩

/-- Without main power ERASE_TAMPER_BOUND clears the BBK. -/
theorem State.eventUnpowered_bound {s : State} {m : Nat} (hbound : bit m rBound = true) (sources : Nat) :
    (s.eventUnpowered sources m).kv.bbk = none ∧ (s.eventUnpowered sources m).kv.bbkLost = true ∧ (s.eventUnpowered sources m).store.anchor.valid = false := by
  unfold State.eventUnpowered
  extract_lets pend s1 s2 s3
  have hs1 : s1 = s.loseBbk := if_pos hbound
  obtain ⟨hkv, hstore⟩ := s1.putBuf_kv_store (s1.entryOf sources (m &&& 2 ^ rBound) pend)
  have hs2 : s2.kv = s.loseBbk.kv ∧ s2.store = s.loseBbk.store := ⟨hkv.trans (by rw [hs1]), hstore.trans (by rw [hs1])⟩
  have hs3 : s3.kv = s2.kv ∧ s3.store = s2.store := by
    unfold s3
    split <;> exact ⟨rfl, rfl⟩
  obtain ⟨h1, h2, h3⟩ := s.loseBbk_effects
  have hend (t : State) (hkv : t.kv = s3.kv) (hstore : t.store = s3.store) : t.kv.bbk = none ∧ t.kv.bbkLost = true ∧ t.store.anchor.valid = false := by
    rw [hkv, hstore, hs3.1, hs3.2, hs2.1, hs2.2]
    exact ⟨h1, h2, h3⟩
  split
  · exact hend _ rfl rfl
  · exact hend _ rfl rfl

end

theorem State.respOf_congr {s t : State} (h : ∀ f i, f ∉ eventFlds → t.getF f i = s.getF f i) (n : Nat) : t.respOf n = s.respOf n := by
  unfold State.respOf
  rw [h _ _ (by decide), h _ _ (by decide), h _ _ (by decide)]

/-- The implied responses hold those of the source. -/
theorem bit_implied {m k : Nat} (h : bit m k = true) (powered : Bool) : bit (implied m powered) k = true := by
  have hor (a b : Nat) (ha : bit a k = true) : bit (a ||| b) k = true := by
    unfold bit at *
    rw [Nat.testBit_or, ha, Bool.true_or]
  unfold implied
  extract_lets m1
  have hm1 : bit m1 k = true := by
    unfold m1
    split
    · exact hor _ _ h
    · exact h
  split
  · exact hor _ _ hm1
  · exact hm1

section
variable {s : State} {n t0 : Nat} (hn : n < 16) (hevent : s.tmp.event = [(n, t0)])
include hn hevent

/-- An event with LOG and IRQ before the ledger is ready is counted, buffered and raised. -/
theorem execTamperEventResponse_logIrq (hs : s.regsOk) (hmode : s.pwr.mode = .active) (hresp : s.respOf n = 3) (hready : s.getF .QRE_STATUS_READY 0 = 0)
    (hroom : s.tmp.buf.length < 32) :
    ∃ t, exec .tamperEventResponse s = .next t ∧ t.tmp.event = [] ∧ t.getF .TMP_EVENT_COUNT_COUNT 0 = s.plus .TMP_EVENT_COUNT_COUNT 0 1 ∧
      t.tmp.buf.length = s.tmp.buf.length + 1 ∧ t.getF .TMP_STATUS_EVIDENCE_PENDING 0 = 1 ∧ Raised s t 18 0 ∧
      bit (t.getF .SMB_ALERT_STATUS_ALERT 0) 5 = true ∧ t.jobs = s.jobs ∧ t.kv = s.kv := by
  have htaken := State.eventTaken_taken hevent (by simp [hmode]) (by simp [hmode])
  refine ⟨_, execTamperEventResponse_single s hevent, ?_⟩
  generalize s.eventTaken t0 = e at htaken
  obtain ⟨⟨m, x, hframe⟩, hemode, hspares, hcounted, halerted, hfits⟩ := htaken
  have hpowered : e.powered = true := by
    unfold State.powered
    rw [hemode, hmode]
    rfl
  have hunion : e.union (2 ^ n) = 3 := by
    rw [State.union_single hn, State.respOf_congr hspares, hresp, hpowered]
    rfl
  have hbuf : e.tmp = { s.tmp with event := [] } := by rw [hframe]
  have hsame : e.jobs = s.jobs ∧ e.kv = s.kv := by
    rw [hframe]
    exact ⟨rfl, rfl⟩
  have hrun := State.eventRunning_logIrq (s := e) ((hspares _ _ (by decide)).trans hready) (by rw [hbuf]; exact hroom) (2 ^ n)
  dsimp only
  rw [hunion, hpowered, if_neg (by decide), if_neg (by decide), hrun]
  have hentry := e.buffered_tmp (e.entryOf (2 ^ n) 3 0)
  have hfitsB := State.buffered_regsOk (hfits hs) (e.entryOf (2 ^ n) 3 0)
  have hsparesB := e.buffered_spares (e.entryOf (2 ^ n) 3 0)
  have hpending := e.buffered_pending (e.entryOf (2 ^ n) 3 0)
  have hsameB : (e.buffered (e.entryOf (2 ^ n) 3 0)).jobs = e.jobs ∧ (e.buffered (e.entryOf (2 ^ n) 3 0)).kv = e.kv := ⟨rfl, rfl⟩
  generalize e.buffered (e.entryOf (2 ^ n) 3 0) = b at hentry hfitsB hsparesB hpending hsameB
  refine ⟨?_, ?_, ?_, ?_, ?_, ?_, ?_, ?_⟩
  · rw [State.raiseErr_tmp, hentry, hbuf]
  · rw [State.raiseErr_getF _ _ _ _ _ _ _ (by decide), hsparesB _ _ (by decide), hcounted]
  · rw [State.raiseErr_tmp, hentry, hbuf, List.length_append]
    rfl
  · rw [State.raiseErr_getF _ _ _ _ _ _ _ (by decide), hpending]
  · exact (State.raiseErr_raised b blkTMP 0 _ _ (by decide) hfitsB).congr
      (fun f hf => ((hsparesB f _ (by revert f; decide)).trans (hspares f _ (by revert f; decide))).symm) fun _ _ => rfl
  · rw [State.raiseErr_getF _ _ _ _ _ _ _ (by decide), hsparesB _ _ (by decide), halerted]
  · rw [State.raiseErr_jobs, hsameB.1, hsame.1]
  · rw [State.raiseErr_kv, hsameB.2, hsame.2]

theorem execTamperEventResponse_bound (hmode : s.pwr.mode = .deep) (hbound : bit (s.respOf n) 4 = true) :
    ∃ t, exec .tamperEventResponse s = .next t ∧ t.kv.bbk = none ∧ t.kv.bbkLost = true ∧ t.store.anchor.valid = false := by
  have htaken := State.eventTaken_taken hevent (by simp [hmode]) (by simp [hmode])
  refine ⟨_, execTamperEventResponse_single s hevent, ?_⟩
  generalize s.eventTaken t0 = e at htaken
  obtain ⟨-, hemode, hspares, -, -, -⟩ := htaken
  have hpowered : e.powered = false := by
    unfold State.powered
    rw [hemode, hmode]
    rfl
  have hunion : bit (e.union (2 ^ n)) rBound = true := by
    rw [State.union_single hn, State.respOf_congr hspares]
    exact bit_implied hbound _
  dsimp only
  rw [hpowered, if_pos (by decide)]
  exact State.eventUnpowered_bound hunion _

end

/-! ### The sources' alarms -/

section
variable {s u t : State} {n d : Nat}

/-- What the obligation calls alarmed, of a state that has the same source and the same alarms. -/
def IsAlarmed (s t : State) (n : Nat) : Prop :=
  t.getF .TMP_SRC_STATUS_RAISED n = 1 ∧ t.getF .TMP_SRC_STATUS_ACTIVE n = 1 ∧
    t.getF .TMP_SRC_STATUS_COUNT n = s.plus .TMP_SRC_STATUS_COUNT n 1 ∧ t.tmp = { s.tmp with event := s.tmp.event ++ [(n, s.now)] }

theorem Alarmed.isAlarmed (h : Alarmed u t n d) (hcount : u.getF .TMP_SRC_STATUS_COUNT n = s.getF .TMP_SRC_STATUS_COUNT n) (htmp : u.tmp = s.tmp)
    (hnow : u.now = s.now) : IsAlarmed s t n := by
  obtain ⟨hraised, hactive, hcounted, hevent, -, -⟩ := h
  refine ⟨hraised, hactive, ?_, ?_⟩
  · rw [hcounted]
    unfold State.plus
    rw [hcount]
  · rw [hevent, htmp, hnow]

/-- The alarm of a monitored source of state s. -/
theorem execTamperAlarm_effects (hs : s.regsOk) (hn : n < 16) (hd : d < 4) (hd0 : d ≠ 0) (hmonitored : s.monitored n = true)
    (hext : ¬(9 ≤ n ∧ n ≤ 12)) : ∃ t, exec (.tamperAlarm n d) s = .next t ∧ IsAlarmed s t n ∧
      t.getF .TMP_SRC_STATUS_DETECTORS n = s.getF .TMP_SRC_STATUS_DETECTORS n ||| d := by
  have halarm : Alarmed s (s.alarm n d) n d := State.alarm_alarmed hmonitored
  refine ⟨_, execTamperAlarm_alarms hn hd hd0 hext, halarm.isAlarmed rfl rfl rfl, ?_⟩
  have hold : s.getF .TMP_SRC_STATUS_DETECTORS n < 2 ^ 2 := State.getF_lt hs .TMP_SRC_STATUS_DETECTORS n
  rw [halarm.detectors, Nat.mod_eq_of_lt hd]
  exact Nat.mod_eq_of_lt (Nat.or_lt_two_pow hold hd)

/-- An alarm that follows a count of another register. -/
theorem State.count_alarm (f : Fld) (hf : f ∉ [Fld.TMP_SRC_STATUS_RAISED, .TMP_SRC_STATUS_ACTIVE, .TMP_SRC_STATUS_DETECTORS, .TMP_SRC_STATUS_COUNT, .LCO_STATE_STATE])
    (hmonitored : s.monitored n = true) : IsAlarmed s ((s.count f 0 1).alarm n d) n ∧ ((s.count f 0 1).alarm n d).getF f 0 = s.plus f 0 1 := by
  simp only [List.mem_cons, List.not_mem_nil, or_false, not_or] at hf
  obtain ⟨h1, h2, h3, h4, h5⟩ := hf
  have hread (g : Fld) (i : Nat) (hg : ¬g = f) : (s.count f 0 1).getF g i = s.getF g i :=
    State.getF_setF_ne _ _ fun h => hg (Prod.mk.inj h).1
  have halarm : Alarmed (s.count f 0 1) ((s.count f 0 1).alarm n d) n d :=
    State.alarm_alarmed ((State.monitored_congr (hread _ 0 (Ne.symm h5)) rfl n).trans hmonitored)
  refine ⟨halarm.isAlarmed (hread _ n (Ne.symm h4)) rfl rfl, ?_⟩
  rw [halarm.spares f 0 (by simp [h1, h2, h3, h4]), State.count_getF, if_pos ⟨rfl, rfl⟩]

/-- A bad OTP word is an error of the life cycle's and alarms source 13. -/
theorem execOtpIntegrityCheck_effects (hs : s.regsOk) (hmonitored : s.monitored 13 = true) (a : Nat) :
    ∃ t, exec (.otpIntegrityCheck (some a)) s = .next t ∧ IsAlarmed s t 13 ∧ Raised s t 19 1 := by
  have hread (f : Fld) (i : Nat) (hf : f ∉ raiseFlds) : (s.raiseErr blkLCO 1 0 a).getF f i = s.getF f i := State.raiseErr_getF _ _ _ _ _ _ _ hf
  have halarm : Alarmed (s.raiseErr blkLCO 1 0 a) ((s.raiseErr blkLCO 1 0 a).alarm 13 1) 13 1 :=
    State.alarm_alarmed ((State.monitored_congr (hread _ 0 (by decide)) (State.raiseErr_pwr ..) 13).trans hmonitored)
  refine ⟨_, rfl, halarm.isAlarmed (hread _ 13 (by decide)) (State.raiseErr_tmp ..) (State.raiseErr_now ..), ?_⟩
  exact (State.raiseErr_raised s blkLCO 1 0 a (by decide) hs).congr (fun _ _ => rfl) fun f hf => halarm.spares f _ (by revert f; decide)

end

/-! ### Control of the monitor (R469, R475) -/

section
variable {s : State} (v : W32) (hs : s.Serves)
include hs

theorem execTmpUnlock_refused (hunlock : bit v.toNat 2 = true) (hno : bits v.toNat 31 16 ≠ 0x5EA1 ∨ s.mayUnlock = false) :
    exec (.tmpUnlock v) s = .next (s.count .TMP_CFG_REFUSED_COUNT_COUNT 0 1) :=
  (hs.mmio _ : execTmpUnlock v s = _).trans ((if_neg (by simp [hunlock])).trans (if_pos (hno.imp_right (by simp))))

theorem execTmpUnlock_unlocks (hunlock : bit v.toNat 2 = true) (hconfirm : bits v.toNat 31 16 = 0x5EA1) (hmay : s.mayUnlock = true)
    (hlocked : s.getF .TMP_STATUS_LOCKDOWN 0 ≠ 0) : ∃ t, exec (.tmpUnlock v) s = .next t ∧ t.getF .TMP_STATUS_LOCKDOWN 0 = 0 := by
  refine ⟨_, (hs.mmio _ : execTmpUnlock v s = _).trans ((if_neg (by simp [hunlock])).trans ((if_neg (by simp [hconfirm, hmay])).trans
    (if_neg (by simp [State.flag, hlocked])))), ?_⟩
  rw [State.journal_getF _ _ _ .TMP_STATUS_LOCKDOWN, State.setFlag_getF, if_pos ⟨rfl, rfl⟩]
  rfl

theorem execTmpResume_resumes (hresume : bit v.toNat 1 = true) (hhalted : s.getF .TMP_STATUS_HALTED 0 ≠ 0) :
    exec (.tmpResume v) s = .next (s.setFlag .TMP_STATUS_HALTED 0 false) :=
  (hs.mmio _ : execTmpResume v s = _).trans (if_pos ⟨hresume, by simpa [State.flag] using hhalted⟩)

theorem execTmpRespLock_locks (hlock : bit v.toNat 3 = true) : exec (.tmpRespLock v) s = .next (s.setFlag .TMP_CTRL_RESP_LOCK 0 true) := by
  refine (hs.mmio _ : execTmpRespLock v s = _).trans ?_
  rw [if_pos hlock]

end

/-! ### Requests of the life cycle (R482 to R486) -/

/-- An operation asked of an idle OTP stands alone in its queue, and no word changes. -/
theorem State.otpAsk_alone {s : State} (hops : s.lco.ops = []) (o : OtpOp) : (s.otpAsk o).lco.ops = [o] ∧ (s.otpAsk o).lco.otp = s.lco.otp := by
  have hnext : otpNext [o] = [o] := by
    unfold otpNext
    obtain ⟨why, words⟩ := o
    cases why <;> rfl
  have hask : (s.otpAsk o).lco.ops = if s.lco.started then s.lco.ops ++ [o] else otpNext (s.lco.ops ++ [o]) := rfl
  refine ⟨?_, rfl⟩
  rw [hask, hops, List.nil_append, hnext, ite_self]

/-- The low four bits of a word select the target, the slot or the field. -/
theorem bits_low4 (x : Nat) : bits x 3 0 = x % 16 := by simp [bits]

section
variable {s : State} (v : W32) (hs : s.Serves)
include hs

theorem execLcoTransition_refused (hno : bits v.toNat 31 16 ≠ 0x5EA1 ∨ s.transitionOk (v.toNat % 16) = false) :
    exec (.lcoTransition v) s = .next s.lcoRefuse := by
  have hrow : execLcoTransition v s = _ := hs.mmio _
  refine hrow.trans (if_pos (hno.imp_right fun h => ?_))
  rw [bits_low4, h]
  rfl

/-- The words of a transition: its intent and the three copies. -/
def transitionWords (g : Nat) : List (Nat × Nat) := (intentWord g, 0xA5A5A5A5) :: (List.range 3).map fun c => (otpCopies + c, statePattern g)

/-- The state in which a transition is under way. -/
def State.transiting (s : State) : State :=
  { s.setFlag .LCO_STATE_TRANSITION 0 true with lco := { s.lco with oldState := s.getF .LCO_STATE_STATE 0 } }

theorem execLcoTransition_asks (hconfirm : bits v.toNat 31 16 = 0x5EA1) (hok : s.transitionOk (v.toNat % 16) = true) (hlife : v.toNat % 16 ≠ 0xF) :
    exec (.lcoTransition v) s = .next (s.transiting.otpAsk { why := .transition (v.toNat % 16), words := transitionWords (v.toNat % 16) }) := by
  have hrow : execLcoTransition v s = _ := hs.mmio _
  beta_reduce at hrow
  rw [bits_low4] at hrow
  extract_lets g s1 _ s2 s3 at hrow
  have hs3 : s3 = s.transiting := if_neg hlife
  rw [if_neg (by simp [hconfirm, hok, g]), hs3] at hrow
  exact hrow

/-- The state without the token. -/
def State.untokened (s : State) : State := s.dropF fun f _ => f == .LCO_DIAG_TOKEN_TOKEN

theorem execDiagEnter_asks (hconfirm : bits v.toNat 31 16 = 0x5EA1) (hstate : s.getF .LCO_STATE_STATE 0 = 2)
    (hunused : bit (s.otpWord otpDiagUsed) (v.toNat % 16) = false) (htoken : s.otpBytes (otpTokens + 8 * (v.toNat % 16)) 8 = sha3 s.tokenBytes) :
    exec (.diagEnter v) s = .next (s.untokened.otpAsk { why := .diag (v.toNat % 16), words := [(otpDiagUsed, 2 ^ (v.toNat % 16))] }) := by
  have hrow : execDiagEnter v s = _ := hs.mmio _
  beta_reduce at hrow
  rw [bits_low4] at hrow
  refine hrow.trans (if_pos ⟨hconfirm, hstate, ?_, htoken⟩)
  rw [hunused]
  rfl

theorem execDiagEnter_refused (hstate : s.getF .LCO_STATE_STATE 0 ≠ 2) : exec (.diagEnter v) s = .next s.untokened.lcoRefuse :=
  (hs.mmio _ : execDiagEnter v s = _).trans (if_neg fun h => hstate h.2.1)

theorem execProvFieldWrite_asks (hgo : bit v.toNat 8 = true) (hopen : s.getF .LCO_STATE_WINDOW_OPEN 0 ≠ 0) (hops : s.lco.ops = []) {ws : List (Nat × Nat)}
    (hwords : s.fieldWords (v.toNat % 16) = some ws) :
    exec (.provFieldWrite v) s = .next (s.otpAsk { why := .field (v.toNat % 16), words := ws }) := by
  have hrow : execProvFieldWrite v s = _ := hs.mmio _
  beta_reduce at hrow
  rw [bits_low4] at hrow
  refine hrow.trans ((if_neg (by simp [hgo, State.flag, hopen, hops])).trans ?_)
  rw [hwords]

theorem execProvFieldWrite_refused (hclosed : s.getF .LCO_STATE_WINDOW_OPEN 0 = 0) : exec (.provFieldWrite v) s = .next s.lcoRefuse :=
  (hs.mmio _ : execProvFieldWrite v s = _).trans (if_pos (.inr (.inl (by simp [State.flag, hclosed]))))

theorem execProvClose_asks (hgo : bit v.toNat 9 = true) (hconfirm : bits v.toNat 31 16 = 0x5EA1) (hopen : s.getF .LCO_STATE_WINDOW_OPEN 0 ≠ 0) :
    exec (.provClose v) s = .next (s.otpAsk { why := .windowClose, words := [(otpLocks, 2 ^ windowClosedBit)] }) :=
  (hs.mmio _ : execProvClose v s = _).trans (if_pos ⟨hgo, hconfirm, by simpa [State.flag] using hopen⟩)

theorem execProvClose_refused (hclosed : s.getF .LCO_STATE_WINDOW_OPEN 0 = 0) : exec (.provClose v) s = .next s.lcoRefuse :=
  (hs.mmio _ : execProvClose v s = _).trans (if_neg (by simp [State.flag, hclosed]))

end

theorem token_default (n : Nat) : fldDefault (.LCO_DIAG_TOKEN_TOKEN, n) = 0 := by
  simp only [fldDefault, Fld.reset, reduceCtorEq, or_self, if_false]
  decide

/-- A refused DIAG_ENTER is counted and forgets the token. -/
theorem State.untokened_lcoRefuse (s : State) : s.untokened.lcoRefuse.getF .LCO_CFG_REFUSED_COUNT_COUNT 0 = s.plus .LCO_CFG_REFUSED_COUNT_COUNT 0 1 ∧
    ∀ i, s.untokened.lcoRefuse.getF .LCO_DIAG_TOKEN_TOKEN i = 0 := by
  refine ⟨?_, fun i => ?_⟩
  · unfold State.lcoRefuse
    rw [State.count_getF, if_pos ⟨rfl, rfl⟩]
    unfold State.plus
    have hold : s.untokened.getF .LCO_CFG_REFUSED_COUNT_COUNT 0 = s.getF .LCO_CFG_REFUSED_COUNT_COUNT 0 := s.dropF_getF rfl
    rw [hold]
  · unfold State.lcoRefuse
    rw [State.count_getF, if_neg (by simp)]
    exact (State.dropF_getF_dropped s rfl).trans (token_default i)

theorem State.lcoRefuse_sets (s : State) : Sets s s.lcoRefuse [((.LCO_CFG_REFUSED_COUNT_COUNT, 0), s.plus .LCO_CFG_REFUSED_COUNT_COUNT 0 1)] :=
  (Sets.refl s).count _ _ _ (by simp)

/-! ### A word read back (R487, R488) -/

section
variable (s : State)

/-- The fields loaded from OTP. -/
def classOFlds : List Fld := [.SEAL_STATUS_EPOCH, .TMP_OTP_COUNT_COUNT, .TMP_STATUS_COUNT_SATURATED, .LCO_STATE_DIAG_LEFT, .LCO_FIELD_STATUS_ABANDONED,
  .LCO_STATE_INTENT_PENDING, .LCO_STATE_WINDOW_OPEN, .LCO_STATE_COPY_OK]

theorem State.loadClassO_writes : Writes classOFlds s s.loadClassO := by
  unfold State.loadClassO
  extract_lets d s1 s2 s3 s4 s5
  have hs1 : Writes classOFlds s s1 := ((Writes.refl classOFlds s).setF _ _ _).setF _ _ _
  have hs3 : Writes classOFlds s s3 := (hs1.setFlag .TMP_STATUS_COUNT_SATURATED 0 _).setF _ _ _
  have hs4 : Writes classOFlds s s4 := (hs3.setF .LCO_FIELD_STATUS_ABANDONED 0 _).setFlag .LCO_STATE_INTENT_PENDING 0 _
  have hs5 : Writes classOFlds s s5 := hs4.setFlag .LCO_STATE_WINDOW_OPEN 0 _
  exact hs5.setF _ _ _

theorem State.otpShow_otp : s.otpShow.lco.otp = s.lco.otp := rfl

theorem State.otpShow_idle (hops : s.lco.ops = []) : s.otpShow.lco.ops = [] := by
  have hshow : s.otpShow.lco.ops = if s.lco.started then s.lco.ops else otpNext s.lco.ops := rfl
  rw [hshow, hops]
  exact ite_self _

theorem State.loadClassO_lco : s.loadClassO.lco = s.lco := by rw [s.loadClassO_writes.frame]

/-- The state in which the word of the last operation is burned, and OTP idle. -/
def State.lastBurned (a v : Nat) : State :=
  let s1 := (s.burn a v).count .LCO_OTP_WRITE_COUNT_COUNT 0 1
  { s1 with lco := { s1.lco with ops := [], started := false, retried := false } }

theorem State.lastBurned_lco (a v : Nat) :
    (s.lastBurned a v).lco.otp = nset 0 s.lco.otp a (s.otpWord a ||| v % 2 ^ 32) ∧ (s.lastBurned a v).lco.ops = [] := ⟨rfl, rfl⟩

variable {s} {o : OtpOp} {a v : Nat} (hops : s.lco.ops = [o]) (hwhy : o.why = .windowClose) (hwords : o.words = [(a, v)]) (hstarted : s.lco.started = true)
  (hrun : s.stopped = false)
include hops hwhy hwords hstarted hrun

/-- What the end of the window's closing word does, by its read-back. -/
theorem execOtpWordDone_windowClose (ok : Bool) : exec (.otpWordDone ok) s = .next
    (if ok then (s.lastBurned a v).loadClassO.otpShow
    else if s.lco.retried then
      let s1 := (s.failBurn a v).raiseErr blkLCO 0 0 a
      let s2 : State := { s1 with lco := { s1.lco with ops := [], started := false, retried := false } }
      (s2.otpFinish o false).otpShow
    else
      let s1 := (s.failBurn a v).count .LCO_OTP_RETRY_COUNT_COUNT 0 1
      { s1 with lco := { s1.lco with retried := true } }) := by
  have hrow : execOtpWordDone ok s = _ := State.clocked_run hrun _
  obtain ⟨why, words⟩ := o
  obtain rfl : why = .windowClose := hwhy
  obtain rfl : words = [(a, v)] := hwords
  refine hrow.trans ?_
  split
  · next h => exact absurd (hops.symm.trans h) (by simp)
  · next o' rest h =>
    obtain ⟨rfl, rfl⟩ := List.cons.inj (hops.symm.trans h)
    rw [if_neg (by simp [hstarted])]
    split
    · next h => exact absurd h (by simp [State.wordOf])
    · next a' v' h =>
      obtain ⟨rfl, rfl⟩ := Prod.mk.inj (Option.some.inj h)
      cases ok
      · cases hretried : s.lco.retried
        · rfl
        · rfl
      · rfl

theorem execOtpWordDone_burns : ∃ t, exec (.otpWordDone true) s = .next t ∧ t.otpWord a = (s.otpWord a ||| v % 2 ^ 32) ∧
    (∀ b, b ≠ a → t.otpWord b = s.otpWord b) ∧ t.lco.ops = [] ∧ t.getF .LCO_OTP_WRITE_COUNT_COUNT 0 = s.plus .LCO_OTP_WRITE_COUNT_COUNT 0 1 := by
  have hdone := execOtpWordDone_windowClose hops hwhy hwords hstarted hrun true
  rw [if_pos rfl] at hdone
  obtain ⟨hotp, hidle⟩ := s.lastBurned_lco a v
  have hsame : (s.lastBurned a v).loadClassO.otpShow.lco.otp = nset 0 s.lco.otp a (s.otpWord a ||| v % 2 ^ 32) := by
    rw [State.otpShow_otp, State.loadClassO_lco, hotp]
  refine ⟨_, hdone, ?_, fun b hb => ?_, ?_, ?_⟩
  · unfold State.otpWord at hsame ⊢
    rw [hsame, nget_nset_same]
  · unfold State.otpWord at hsame ⊢
    rw [hsame, nget_nset_ne _ _ _ hb]
  · exact State.otpShow_idle _ (by rw [State.loadClassO_lco, hidle])
  · rw [State.otpShow_spares _ _ _ (by decide), (State.loadClassO_writes _).reads _ _ (by decide)]
    exact (State.count_getF (s.burn a v) ..).trans (if_pos ⟨rfl, rfl⟩)

theorem execOtpWordDone_retries (hfirst : s.lco.retried = false) : ∃ t, exec (.otpWordDone false) s = .next t ∧ t.lco.retried = true ∧ t.lco.ops = [o] ∧
    (∀ b, b ≠ a → t.otpWord b = s.otpWord b) ∧ t.getF .LCO_OTP_RETRY_COUNT_COUNT 0 = s.plus .LCO_OTP_RETRY_COUNT_COUNT 0 1 := by
  have hdone := execOtpWordDone_windowClose hops hwhy hwords hstarted hrun false
  rw [if_neg (by decide), if_neg (by simp [hfirst])] at hdone
  exact ⟨_, hdone, rfl, hops, fun b hb => nget_nset_ne _ _ _ hb, (State.count_getF (s.failBurn a v) ..).trans (if_pos ⟨rfl, rfl⟩)⟩

end

/-- Settles O58: each alarm, each response and each request is its command's one branch under the premises. -/
theorem tamperAndLifeCycle : Obligations.TamperAndLifeCycle := by
  unfold Obligations.TamperAndLifeCycle
  intro s hs
  extract_lets _ alarmed refused asks
  have hrefused {c : Instr} (h : s.Serves → exec c s = .next s.lcoRefuse) : refused c := fun hserves => ⟨_, h hserves, s.lcoRefuse_sets⟩
  refine ⟨fun n d hn hd hd0 hmonitored hext => execTamperAlarm_effects hs hn hd hd0 hmonitored hext, fun hmonitored => ?_,
    fun n hn hactive hone hmonitored => ?_, rfl, fun hmonitored a => execOtpIntegrityCheck_effects hs hmonitored a, fun n => ?_,
    fun n t0 hn hevent hmode hresp hready hroom => execTamperEventResponse_logIrq hn hevent hs hmode hresp hready hroom,
    fun n t0 hn hevent hmode hbound => execTamperEventResponse_bound hn hevent hmode hbound, fun v hserves => ⟨?_, ?_, ?_, ?_⟩, fun v => ?_,
    fun o a v hops hwhy hwords hstarted hrun => ⟨execOtpWordDone_burns hops hwhy hwords hstarted hrun, execOtpWordDone_retries hops hwhy hwords hstarted hrun⟩⟩
  · exact ⟨_, rfl, State.count_alarm _ (by decide) hmonitored⟩
  · exact ⟨_, execDetectorDisagree_alarms hn hactive hone, State.count_alarm _ (by decide) hmonitored⟩
  · exact ⟨_, rfl, (Sets.refl s).setFlag _ _ _ (by simp) (by decide)⟩
  · exact fun hunlock hno => ⟨_, execTmpUnlock_refused v hserves hunlock hno, (Sets.refl s).count _ _ _ (by simp)⟩
  · exact execTmpUnlock_unlocks v hserves
  · exact fun hresume hhalted => ⟨_, execTmpResume_resumes v hserves hresume hhalted, (Sets.refl s).setFlag _ _ _ (by simp) (by decide)⟩
  · exact fun hlock => ⟨_, execTmpRespLock_locks v hserves hlock, (Sets.refl s).setFlag _ _ _ (by simp) (by decide)⟩
  · extract_lets g
    refine ⟨fun hno => hrefused fun hserves => execLcoTransition_refused v hserves hno, fun hconfirm hok hlife hops hserves => ?_,
      fun hconfirm hstate hunused htoken hops hserves => ?_, fun hserves hstate => ?_, fun hgo hopen hops ws hwords hserves => ?_,
      fun hclosed => ⟨hrefused fun hserves => execProvFieldWrite_refused v hserves hclosed, hrefused fun hserves => execProvClose_refused v hserves hclosed⟩,
      fun hgo hconfirm hopen hops hserves => ?_⟩
    · exact ⟨_, execLcoTransition_asks v hserves hconfirm hok hlife, State.otpAsk_alone (s := s.transiting) hops _⟩
    · exact ⟨_, execDiagEnter_asks v hserves hconfirm hstate hunused htoken, State.otpAsk_alone (s := s.untokened) hops _⟩
    · exact ⟨_, execDiagEnter_refused v hserves hstate, s.untokened_lcoRefuse⟩
    · exact ⟨_, execProvFieldWrite_asks v hserves hgo hopen hops hwords, State.otpAsk_alone hops _⟩
    · exact ⟨_, execProvClose_asks v hserves hgo hconfirm hopen, State.otpAsk_alone hops _⟩

end Sys2Proof.Machine
end

section
/-! ## Main power-on resets (R440, R481, R508 to R511) -/

namespace Sys2Proof.Machine
open Sys2Proof

-- The proofs are elaborated one after another: one that waits for another's premises would keep a thread of its own.
set_option Elab.async false

/-! ### What boot leaves of a state -/

/-- The fields that no step of boot writes, but for those that write them by name. -/
def bootFlds : List Fld := [.GLB_STATUS_READY, .GLB_POR_COUNT_COUNT, .ENT_STATUS_STATE, .QRE_STATUS_READY]

/-- t comes from s by steps of boot: OTP's words, the flash, the power state and the jobs stay, no key entry appears. -/
structure Boots (s t : State) : Prop where
  reads : ∀ f ∈ bootFlds, t.getF f 0 = s.getF f 0
  pwr : t.pwr = { s.pwr with alertQuiet := t.pwr.alertQuiet }
  jobs : s.getF .QRE_STATUS_READY 0 = 0 → t.jobs = s.jobs
  keys : s.kv.keys = [] → t.kv.keys = []
  otp : t.lco.otp = s.lco.otp
  seq : t.seq = s.seq

namespace Boots
variable {s t u : State}

theorem refl (s : State) : Boots s s := ⟨fun _ _ => rfl, rfl, fun _ => rfl, id, rfl, rfl⟩

theorem trans (h : Boots s t) (k : Boots t u) : Boots s u := by
  refine ⟨fun f hf => (k.reads f hf).trans (h.reads f hf), ?_, fun hready => ?_, k.keys ∘ h.keys, k.otp.trans h.otp, k.seq.trans h.seq⟩
  · rw [k.pwr, h.pwr]
  · exact (k.jobs ((h.reads _ (by decide)).trans hready)).trans (h.jobs hready)

/-- Boot may change what is neither a register nor one of these parts. -/
theorem part (h : Boots s t) (hregs : u.regs = t.regs := by rfl) (hpwr : u.pwr = t.pwr := by rfl) (hjobs : u.jobs = t.jobs := by rfl)
    (hkeys : u.kv.keys = t.kv.keys := by rfl) (hotp : u.lco.otp = t.lco.otp := by rfl) (hseq : u.seq = t.seq := by rfl) : Boots s u :=
  h.trans ⟨fun f _ => State.getF_regs hregs f 0, by rw [hpwr], fun _ => hjobs, fun h => hkeys.trans h, hotp, hseq⟩

theorem pci (h : Boots s t) (x : PciX) : Boots s { t with pci := x } := h.part

theorem setF (h : Boots s t) (f : Fld) (i v : Nat) (hf : f ∉ bootFlds := by decide) : Boots s (t.setF f i v) :=
  h.trans ⟨fun _ hg => State.getF_setF_ne t v fun e => hf ((Prod.mk.inj e).1 ▸ hg), rfl, fun _ => rfl, id, rfl, rfl⟩

theorem setFlag (h : Boots s t) (f : Fld) (i : Nat) (b : Bool) (hf : f ∉ bootFlds := by decide) : Boots s (t.setFlag f i b) := h.setF f i _ hf

theorem count (h : Boots s t) (f : Fld) (i n : Nat) (hf : f ∉ bootFlds := by decide) : Boots s (t.count f i n) := h.setF f i _ hf

theorem raiseErr (h : Boots s t) (b c x y : Nat) : Boots s (t.raiseErr b c x y) :=
  h.trans ⟨fun f hf => State.raiseErr_getF t b c x y f 0 (by revert f; decide), by rw [State.raiseErr_pwr], fun _ => State.raiseErr_jobs ..,
    fun hk => by rw [State.raiseErr_kv, hk], by rw [State.raiseErr_lco], State.raiseErr_seq ..⟩

theorem ite {c : Prop} [Decidable c] (ht : Boots s t) (hu : Boots s u) : Boots s (if c then t else u) := by
  split
  · exact ht
  · exact hu

theorem foldl {α : Type} {f : State → α → State} (h : Boots s t) (hf : ∀ t x, Boots t (f t x)) (xs : List α) : Boots s (xs.foldl f t) := by
  induction xs generalizing t with
  | nil => exact h
  | cons x xs ih => exact ih (h.trans (hf t x))

theorem alert (h : Boots s t) (n : Nat) : Boots s (t.alert n) := by
  refine h.trans ⟨fun f hf => State.alert_spares t n f 0 (by revert f; decide), ?_, ?_, ?_, ?_, ?_⟩
  · unfold State.alert
    split
    · rfl
    · dsimp only
      split <;> rfl
  all_goals rw [State.alert_frame]
  · exact fun _ => rfl
  · exact id



theorem journal (h : Boots s t) (e : Nat) (d : List Byte) : Boots s (t.journal e d) := by
  refine h.trans ⟨fun f hf => State.journal_getF t e d f 0 (by revert f; decide) (by revert f; decide), by rw [State.journal_pwr], fun hready => ?_,
    fun hk => by rw [State.journal_kv, hk], by rw [State.journal_lco], State.journal_seq ..⟩
  have hflag : t.flag .QRE_STATUS_READY 0 = false := by simp [State.flag, hready]
  unfold State.journal
  rw [if_neg (by simp [hflag])]
  split
  · rfl
  · exact State.raiseErr_jobs ..

theorem otpAsk (h : Boots s t) (o : OtpOp) : Boots s (t.otpAsk o) := by
  unfold State.otpAsk State.otpShow
  extract_lets n braced go ops
  exact ((h.part.setFlag _ _ _).setFlag _ _ _).setF _ _ _

theorem alarm (h : Boots s t) (n d : Nat) : Boots s (t.alarm n d) := by
  unfold State.alarm
  extract_lets s1
  have hs1 : Boots s s1 := (((h.setFlag _ _ _).setFlag _ _ _).setF _ _ _).count _ _ _
  exact .ite h hs1.part

theorem loadClassO (h : Boots s t) : Boots s t.loadClassO := by
  refine h.trans ⟨fun f hf => t.loadClassO_writes.reads f 0 (by revert f; decide), ?_, ?_, ?_, ?_, ?_⟩
  all_goals rw [t.loadClassO_writes.frame]
  · exact fun _ => rfl
  · exact id

theorem loadFrs (h : Boots s t) : Boots s t.loadFrs := by
  unfold State.loadFrs
  extract_lets st _ s1
  have hs1 : Boots s s1 := h.part
  exact .ite ((hs1.raiseErr _ _ _ _).alarm _ _) hs1

theorem reportBbk (h : Boots s t) (cause : Nat) : Boots s (t.reportBbk cause) := ((h.setFlag _ _ _).setF _ _ _).journal _ _

theorem loseBbk (h : Boots s t) : Boots s t.loseBbk := by
  unfold State.loseBbk
  extract_lets s1
  have hframe : s1 = { t with kv := s1.kv } :=
    List.foldlRecOn (motive := fun u : State => u = { t with kv := u.kv }) _ _ rfl fun u hu i _ => by
      conv_lhs => rw [hu]
      rfl
  have hnone : t.kv.keys = [] → s1 = t := by
    intro hk
    have hused : t.keysUsed = [] := by
      unfold State.keysUsed
      rw [hk]
      rfl
    unfold s1
    rw [hused]
    rfl
  have hs1 : Boots s s1 := by
    refine h.trans ⟨?_, ?_, ?_, fun hk => by rw [hnone hk, hk], ?_, ?_⟩
    all_goals rw [hframe]
    · exact fun _ _ => rfl
    · exact fun _ => rfl
  have hlost : Boots s { s1 with kv := { s1.kv with bbk := none, bbkLost := true } } := hs1.part
  have hanchor := hlost.setFlag .KV_STATUS_BBK_VALID 0 false
  exact ((hanchor.part.setFlag .SEAL_ANCHOR_STATUS_VALID 0 _).setF .SEAL_ANCHOR_STATUS_EPOCH 0 _).setF .SEAL_ANCHOR_COMMIT_COMMIT 0 _

theorem askCount (h : Boots s t) (e : AoEntry) (buffered pended : Bool) : Boots s (t.askCount e buffered pended) :=
  .ite (h.otpAsk _) (h.setFlag _ _ _)

theorem runPending (h : Boots s t) : Boots s t.runPending := by
  unfold State.runPending
  extract_lets s1
  have hs1 : Boots s s1 := .ite (((h.setFlag _ _ _).alert _).setFlag _ _ _) h
  exact hs1.foldl (fun u _ => (Boots.refl u).askCount _ _ _) _

theorem decodeLifeCycle (h : Boots s t) : Boots s t.decodeLifeCycle := by
  unfold State.decodeLifeCycle
  split
  · exact (h.setF _ _ _).otpAsk _
  · extract_lets s1
    have hs1 : Boots s s1 := h.setF _ _ _
    exact .ite hs1 (hs1.alarm _ _)

theorem endOfLife (h : Boots s t) : Boots s t.endOfLife := by
  unfold State.endOfLife
  extract_lets ws s1 _ _ s2
  have hs2 : Boots s s2 := h.loseBbk.part
  exact .ite hs2 (hs2.otpAsk _)

theorem bootRom (h : Boots s t) : Boots s t.bootRom := by
  unfold State.bootRom
  extract_lets s1 s2 _ s3
  have hs1 : Boots s s1 := h.decodeLifeCycle
  have hs2 : Boots s s2 := .ite (hs1.setF _ _ _) hs1
  have hs3 : Boots s s3 := hs2.part.loadClassO.loadFrs
  exact .ite (hs3.setF _ _ _).endOfLife (hs3.setF _ _ _)

end Boots

/-! ### The main power-on reset (R508 to R511) -/

section
variable (s : State)

/-- A register that a main power-on reset drops reads its reset value. -/
theorem State.dropMain_getF_dropped (f : Fld) (i : Nat) (hf : [RCls.P, .L, .F, .S].contains f.desc.cls = true := by decide) :
    s.dropMain.getF f i = fldDefault (f, i) := by
  unfold State.dropMain
  extract_lets s1
  exact (State.getF_regs rfl f i).trans (State.dropF_getF_dropped _ (p := fun g _ => [RCls.P, .L, .F, .S].contains g.desc.cls) hf)

/-- The fields that handing the time to the keeper writes. -/
def keeperFlds : List Fld := [.TIM_SLEW_REMAIN_NS, .TIM_STATUS_SLEWING, .TIM_STATUS_GRADE, .TIM_STATUS_LOCK_RUN]

theorem State.toKeeper_spares : Spares keeperFlds s s.toKeeper := by
  unfold State.toKeeper State.setSlew State.setGrade
  extract_lets _ _ s1 _
  have hs1 : Spares keeperFlds s s1 := Spares.setF (Spares.setF ((Spares.refl keeperFlds s).regs rfl) _ _ _) _ _ _
  exact .ite (Spares.setF (Spares.setF (hs1.regs rfl) _ _ _) _ _ _) hs1

/-- A register of the always-on domain stays, but for what the keeper's taking over writes. -/
theorem State.dropMain_getF (f : Fld) (i : Nat) (hf : [RCls.P, .L, .F, .S].contains f.desc.cls = false := by decide)
    (hkeeper : f ∉ keeperFlds := by decide) : s.dropMain.getF f i = s.getF f i := by
  unfold State.dropMain
  extract_lets s1
  refine (State.getF_regs rfl f i).trans ((State.dropF_getF _ (p := fun g _ => [RCls.P, .L, .F, .S].contains g.desc.cls) hf).trans ?_)
  split
  · rfl
  · exact s.toKeeper_spares f i hkeeper

theorem State.dropMain_jobs : s.dropMain.jobs = [] ∧ s.dropMain.kv.keys = [] := ⟨rfl, rfl⟩

theorem State.dropMain_stays : s.dropMain.lco.otp = s.lco.otp ∧ s.dropMain.seq.flash = s.seq.flash ∧ s.dropMain.kv.bbk = s.kv.bbk := ⟨rfl, rfl, rfl⟩

theorem State.dropMain_pwr : s.dropMain.pwr.strap = s.pwr.strap ∧ s.dropMain.pwr.tripLatch = s.pwr.tripLatch := ⟨rfl, rfl⟩

theorem ready_default : fldDefault (.GLB_STATUS_READY, 0) = 0 ∧ fldDefault (.QRE_STATUS_READY, 0) = 0 := by
  simp only [fldDefault, Fld.reset, reduceCtorEq, or_self, if_false]
  decide

/-- The state with which boot begins. -/
def State.porCounted : State := s.dropMain.fromKeeper.setF .GLB_POR_COUNT_COUNT 0 (s.getF .GLB_POR_COUNT_COUNT 0 + 1)

/-- What a main power-on reset leaves. -/
structure MainReset (s t : State) : Prop where
  pins : t.pwr.strap = s.pwr.strap ∧ t.pwr.tripLatch = s.pwr.tripLatch
  cleared : t.jobs = [] ∧ t.kv.keys = []
  stays : t.lco.otp = s.lco.otp ∧ t.seq.flash = s.seq.flash
  notReady : t.getF .GLB_STATUS_READY 0 = 0
  counted : t.getF .GLB_POR_COUNT_COUNT 0 = (s.getF .GLB_POR_COUNT_COUNT 0 + 1) % 2 ^ 32
  entropy : t.getF .ENT_STATUS_STATE 0 = 1

theorem State.mainReset_boots (bbkOk : Bool) : ∃ u, Boots s.porCounted u ∧ Boots (u.setF .ENT_STATUS_STATE 0 entStartup) (s.mainReset bbkOk) := by
  unfold State.mainReset
  extract_lets s1 _ s2 s3 s4
  have hs1 : Boots s.porCounted s1 := .refl _
  have hs2 : Boots s.porCounted s2 := .ite hs1 (hs1.part.reportBbk 1)
  have hs3 : Boots s.porCounted s3 := .ite hs2 (hs2.loseBbk.reportBbk 2)
  have hs4 : Boots (s3.runPending.setF .ENT_STATUS_STATE 0 entStartup) s4 := (Boots.refl _).bootRom
  exact ⟨s3.runPending, hs3.runPending, hs4.pci _⟩

theorem State.mainReset_effects (bbkOk : Bool) : MainReset s (s.mainReset bbkOk) := by
  obtain ⟨u, hu, ht⟩ := s.mainReset_boots bbkOk
  obtain ⟨x, hx⟩ := s.dropMain.fromKeeper_frame
  have hcounted : s.porCounted = State.setF { s.dropMain with tim := x } .GLB_POR_COUNT_COUNT 0 (s.getF .GLB_POR_COUNT_COUNT 0 + 1) := by
    unfold State.porCounted
    rw [hx]
  have hread (f : Fld) (hf : f ≠ .GLB_POR_COUNT_COUNT) : s.porCounted.getF f 0 = s.dropMain.getF f 0 := by
    rw [hcounted, State.getF_setF_ne _ _ (by simp [hf])]
    rfl
  have hquiet : s.porCounted.getF .QRE_STATUS_READY 0 = 0 := by
    rw [hread _ (by decide), s.dropMain_getF_dropped .QRE_STATUS_READY 0, ready_default.2]
  generalize s.mainReset bbkOk = t at ht
  refine ⟨?_, ⟨?_, ?_⟩, ?_, ?_, ?_, ?_⟩
  · rw [ht.pwr, State.setF_pwr, hu.pwr, hcounted]
    exact s.dropMain_pwr
  · rw [ht.jobs (by rw [State.getF_setF_ne _ _ (by simp), hu.reads _ (by decide), hquiet]), State.setF_jobs, hu.jobs hquiet, hcounted]
    exact s.dropMain_jobs.1
  · refine ht.keys (hu.keys ?_)
    rw [hcounted]
    exact s.dropMain_jobs.2
  · rw [ht.otp, State.setF_lco, hu.otp, ht.seq, State.setF_seq, hu.seq, hcounted]
    obtain ⟨hotp, hflash, -⟩ := s.dropMain_stays
    exact ⟨hotp, hflash⟩
  · rw [ht.reads _ (by decide), State.getF_setF_ne _ _ (by simp), hu.reads _ (by decide), hread _ (by decide),
      s.dropMain_getF_dropped .GLB_STATUS_READY 0, ready_default.1]
  · rw [ht.reads _ (by decide), State.getF_setF_ne _ _ (by simp), hu.reads _ (by decide), hcounted]
    exact State.getF_setF_same ..
  · rw [ht.reads _ (by decide), State.getF_setF_same]
    rfl

end


end Sys2Proof.Machine
end

section
/-! ## Boot, power and the supply monitor (R436 to R441, R493 to R506) -/

namespace Sys2Proof.Machine
open Sys2Proof

-- The proofs are elaborated one after another: one that waits for another's premises would keep a thread of its own.
set_option Elab.async false

/-! ### The bundle taken into use (R436, R440) -/

section
variable {s : State}

/-- The fields that a microcode section's match registers hold. -/
def bundleFlds : List Fld := [.SEQ_MATCH_EN, .SEQ_MATCH_TARGET, .SEQ_MATCH_ADDR]

theorem State.loadMatches_seq (c : List Byte) (l : List Nat) (t : State) : (l.foldl (fun u i => u.loadMatch c i) t).seq = t.seq :=
  List.foldlRecOn (motive := fun u : State => u.seq = t.seq) _ _ rfl fun _ hu _ _ => hu

/-- A bundle taken into use shows its slot and leaves the self-tests to be run. -/
theorem State.loadBundle_effects (s : State) {slot : Nat} (hslot : slot < 4) (d : List Byte) : (s.loadBundle slot d).getF .GLB_STATUS_BOOT_STATE 0 = 3 ∧
    (s.loadBundle slot d).getF .GLB_STATUS_BOOT_SLOT 0 = slot ∧ (s.loadBundle slot d).getF .GLB_STATUS_BOOT_ERROR 0 = 0 ∧
    (s.loadBundle slot d).seq.bundle = d := by
  unfold State.loadBundle
  extract_lets c m n img _ _ s1 s2 s3
  refine ⟨?_, ?_, ?_, ?_⟩
  · rw [State.getF_setF_ne _ _ (by simp), State.getF_setF_ne _ _ (by simp), State.getF_setF_same]
    rfl
  · rw [State.getF_setF_ne _ _ (by simp), State.getF_setF_same]
    exact Nat.mod_eq_of_lt hslot
  · rw [State.getF_setF_same]
    rfl
  · have hs2 : s2.seq = s1.seq := State.loadMatches_seq c _ _
    have hs3 : s3.seq = s2.seq := rfl
    rw [State.setF_seq, State.setF_seq, State.setF_seq, hs3, hs2]

/-- A failed boot raises its cause. -/
theorem State.bootFailed_raised (hs : s.regsOk) (err : Nat) : Raised s (s.bootFailed err) 0 0 := by
  have hregs : ((s.setF .GLB_STATUS_BOOT_STATE 0 5).setF .GLB_STATUS_BOOT_ERROR 0 err).regsOk := State.setF_regsOk (State.setF_regsOk hs _ _ _) _ _ _
  refine (State.raiseErr_raised _ blkGLB 0 0 err (by decide) hregs).congr (fun f hf => ?_) fun f hf => ?_
  · have hne : f ≠ .GLB_STATUS_BOOT_STATE ∧ f ≠ .GLB_STATUS_BOOT_ERROR := by revert f; decide
    rw [State.getF_setF_ne _ _ (by simp [hne.2]), State.getF_setF_ne _ _ (by simp [hne.1])]
  · exact State.alert_spares _ 4 f _ (by revert f; decide)

section
variable {slot : Nat} {d : List Byte} {ok : Bool} (hrun : s.stopped = false) (hstate : s.getF .GLB_STATUS_BOOT_STATE 0 = 2) (htried : slot = s.seq.tried)
  (hslot : slot < 2)
include hrun hstate htried hslot

theorem execBootBundleLoaded_takes (hgood : s.bundleError ok d = 0) (hwaits : s.decryptWaits d = false) :
    exec (.bootBundleLoaded slot ok d) s = .next (s.loadBundle slot d) := by
  have hrow : execBootBundleLoaded slot ok d s = _ := State.clocked_run hrun _
  beta_reduce at hrow
  extract_lets e at hrow
  have he : e = 0 := hgood
  rw [if_neg (by simp [hstate, ← htried, hslot]), if_neg (by simp [hwaits]), if_pos he] at hrow
  exact hrow

theorem execBootBundleLoaded_fails (hbad : s.bundleError ok d ∈ [1, 2, 3, 4]) : exec (.bootBundleLoaded slot ok d) s =
    .next (let s1 : State := { s with seq := { s.seq with tried := slot + 1 } }
      if slot = 0 then s1 else s1.bootFailed (s.bundleError ok d)) := by
  have hrow : execBootBundleLoaded slot ok d s = _ := State.clocked_run hrun _
  beta_reduce at hrow
  have he : s.bundleError ok d ≠ 0 ∧ ¬5 ≤ s.bundleError ok d := by
    simp only [List.mem_cons, List.not_mem_nil, or_false] at hbad
    omega
  extract_lets e at hrow
  rw [if_neg (by simp [hstate, ← htried, hslot]), if_neg (by simp [e, he]), if_neg he.1] at hrow
  refine hrow.trans ?_
  dsimp only
  split <;> rfl

end
end

/-! ### Self-tests (R441) -/

section
variable {s : State}

/-- The masks of the units that are online are written, and what they make of the binders. -/
def onlineFlds : List Fld := [.SEQ_BINDER_ONLINE_ONLINE, .MAR_CORE_ONLINE_ONLINE, .HSH_CORE_ONLINE_ONLINE, .CDE_UNIT_ONLINE_ONLINE, .BGN_MUL_ONLINE_ONLINE,
  .STR_PIPE_ONLINE_ONLINE, .SEQ_BINDER_STATUS_STATE]

theorem State.setOnline_spares (s : State) (b c h e g p : Nat) : Spares onlineFlds s (s.setOnline b c h e g p) := by
  unfold State.setOnline
  extract_lets s1
  have hs1 : Spares onlineFlds s s1 := ((((((Spares.refl onlineFlds s).setF _ _ _).setF _ _ _).setF _ _ _).setF _ _ _).setF _ _ _).setF _ _ _
  exact hs1.foldl (fun t _ => (Spares.refl _ t).setF _ _ _) _

theorem State.setOnline_cores (s : State) (b c h e g p : Nat) : (s.setOnline b c h e g p).getF .MAR_CORE_ONLINE_ONLINE 0 = c % 2 ^ 32 := by
  unfold State.setOnline
  extract_lets s1
  have hfold : Spares [.SEQ_BINDER_STATUS_STATE] s1 ((List.range 8).foldl (fun t k => t.setF .SEQ_BINDER_STATUS_STATE k (b2n (bit b k))) s1) :=
    (Spares.refl _ s1).foldl (fun t _ => (Spares.refl _ t).setF _ _ _) _
  rw [hfold _ _ (by decide)]
  unfold s1
  simp

/-- The fields that drawing the fuse root secret may write. -/
def drawFrsFlds : List Fld := [.ENT_DRBG_STATUS_CALLS, .LCO_OTP_STATUS_BUSY, .LCO_OTP_STATUS_BRACED, .LCO_OTP_STATUS_QUEUED]

theorem State.drawFrs_spares (s : State) : Spares drawFrsFlds s s.drawFrs := by
  unfold State.drawFrs
  split
  · exact .refl _ s
  · split
    · exact .refl _ s
    · next lock a _ =>
      have hdrawn : Spares drawFrsFlds s ((s.drbgCalls 7 1).draw 32).2 := ((Spares.refl drawFrsFlds s).setF _ _ _).regs rfl
      dsimp only
      refine hdrawn.trans fun f i hf => ?_
      have hshown : ∀ g ∈ [Fld.LCO_OTP_STATUS_BUSY, .LCO_OTP_STATUS_BRACED, .LCO_OTP_STATUS_QUEUED], g ∈ drawFrsFlds := by decide
      exact State.otpShow_spares _ f i fun h => hf (hshown f h)

/-- READY set after self-tests in state s1. -/
def State.selftested (s s1 : State) : State :=
  ((s1.setFlag .GLB_STATUS_READY 0 true).setF .GLB_STATUS_BOOT_STATE 0 4).setF .GLB_BOOT_TIME_US 0 ((s.now - s.seq.porAt) / 1000)

section
variable (hrun : s.stopped = false) (hstate : s.getF .GLB_STATUS_BOOT_STATE 0 = 3) (hready : s.getF .ENT_STATUS_READY 0 ≠ 0)
include hrun hstate hready

theorem execBootSelftestComplete_all : exec (.bootSelftestComplete 0xFF 0xFFFFFFFF 0xFFFFFFFF 7 15 3) s =
    .next ((s.selftested (s.setOnline 0xFF 0xFFFFFFFF 0xFFFFFFFF 7 15 3)).drawFrs.patchRecord 0) := by
  have hrow : execBootSelftestComplete 0xFF 0xFFFFFFFF 0xFFFFFFFF 7 15 3 s = _ := State.clocked_run hrun _
  beta_reduce at hrow
  have henough : enoughUnits (BitVec.toNat (0xFF : W32)) (BitVec.toNat (0xFFFFFFFF : W32)) (BitVec.toNat (0xFFFFFFFF : W32)) (BitVec.toNat (7 : W32))
      (BitVec.toNat (15 : W32)) (BitVec.toNat (3 : W32)) = true := by decide
  rw [if_neg (by simp [hstate, State.flag, hready]), henough] at hrow
  exact hrow

theorem execBootSelftestComplete_none (a b c d e : W32) : ∃ u : State, exec (.bootSelftestComplete 0 a b c d e) s = .next (u.bootFailed 6) ∧
    u.getF .GLB_STATUS_READY 0 = s.getF .GLB_STATUS_READY 0 := by
  have hrow : execBootSelftestComplete 0 a b c d e s = _ := State.clocked_run hrun _
  beta_reduce at hrow
  have hfew : enoughUnits (BitVec.toNat (0 : W32)) a.toNat b.toNat c.toNat d.toNat e.toNat = false := rfl
  extract_lets s1 all s2 s3 at hrow
  rw [if_neg (by simp [hstate, State.flag, hready]), hfew] at hrow
  refine ⟨s2, hrow, ?_⟩
  have hs1 : s1.getF .GLB_STATUS_READY 0 = s.getF .GLB_STATUS_READY 0 := State.setOnline_spares _ _ _ _ _ _ _ _ _ (by decide)
  unfold s2
  split
  · exact hs1
  · rw [State.raiseErr_getF _ _ _ _ _ _ _ (by decide), State.setFlag_getF, if_neg (by simp), hs1]

/-- Every unit found good sets READY. -/
theorem execBootSelftestComplete_ready : ∃ t, exec (.bootSelftestComplete 0xFF 0xFFFFFFFF 0xFFFFFFFF 7 15 3) s = .next t ∧
    t.getF .GLB_STATUS_READY 0 = 1 ∧ t.getF .GLB_STATUS_BOOT_STATE 0 = 4 ∧ t.getF .MAR_CORE_ONLINE_ONLINE 0 = 0xFFFFFFFF := by
  have hcores := s.setOnline_cores 0xFF 0xFFFFFFFF 0xFFFFFFFF 7 15 3
  refine ⟨_, execBootSelftestComplete_all hrun hstate hready, ?_⟩
  generalize s.setOnline 0xFF 0xFFFFFFFF 0xFFFFFFFF 7 15 3 = u at hcores
  have hread (f : Fld) (hj : f ∉ journalFlds) (he : f ∉ errFlds) (hf : f ∉ drawFrsFlds) :
      ((s.selftested u).drawFrs.patchRecord 0).getF f 0 = (s.selftested u).getF f 0 :=
    (State.journal_getF _ _ _ f 0 hj he).trans (State.drawFrs_spares _ f 0 hf)
  refine ⟨?_, ?_, ?_⟩
  · rw [hread _ (by decide) (by decide) (by decide)]
    simp [State.selftested, b2n]
  · rw [hread _ (by decide) (by decide) (by decide)]
    simp [State.selftested]
  · rw [hread _ (by decide) (by decide) (by decide)]
    simp [State.selftested, hcores]

end

end

/-! ### Commands of GLB_BOOT_CTRL (R436 to R438) -/

section
variable {s : State} (v : W32) (d : List Byte) (hs : s.Serves)
include hs

theorem execBootRetry_refused (hgo : bit v.toNat 0 = true) (hstate : s.getF .GLB_STATUS_BOOT_STATE 0 ≠ 5) : exec (.bootRetry v d) s = .next s.glbRefuse :=
  (hs.mmio _ : execBootRetry v d s = _).trans ((if_neg (by simp [hgo])).trans (if_pos (.inl hstate)))

theorem execBootRetry_takes (hgo : bit v.toNat 0 = true) (hstate : s.getF .GLB_STATUS_BOOT_STATE 0 = 5) (hissue : s.mayIssue = true)
    (hgood : s.bundleError true (s.hostBundle d) = 0) : exec (.bootRetry v d) s = .next (s.readBundle.loadBundle 2 (s.hostBundle d)) := by
  have hrow : execBootRetry v d s = _ := hs.mmio _
  beta_reduce at hrow
  extract_lets b e s1 at hrow
  have he : e = 0 := hgood
  rw [if_neg (by simp [hgo]), if_neg (by simp [hstate, hissue]), if_pos he] at hrow
  exact hrow

theorem execBootProgram_refused (hgo : bit v.toNat 1 = true) (hconfirm : bits v.toNat 31 16 ≠ 0x5EA1) : exec (.bootProgram v d) s = .next s.glbRefuse :=
  (hs.mmio _ : execBootProgram v d s = _).trans ((if_neg (by simp [hgo])).trans (if_pos (.inl hconfirm)))

theorem execBootProgram_starts (hgo : bit v.toNat 1 = true) (hconfirm : bits v.toNat 31 16 = 0x5EA1) (hidle : s.getF .GLB_STATUS_PROG_BUSY 0 = 0)
    (hissue : s.mayIssue = true) (hgood : s.bundleError true (s.hostBundle d) = 0) : ∃ t, exec (.bootProgram v d) s = .next t ∧
      t.seq.programming = some (bits v.toNat 4 4, s.hostBundle d) ∧ t.getF .GLB_STATUS_PROG_BUSY 0 = 1 := by
  have hrow : execBootProgram v d s = _ := hs.mmio _
  beta_reduce at hrow
  extract_lets b s1 _ at hrow
  rw [if_neg (by simp [hgo]), if_neg (by simp [hconfirm, hissue, State.flag, hidle]), if_neg (by simp [b, hgood])] at hrow
  exact ⟨_, hrow, rfl, (State.setFlag_getF ..).trans (if_pos ⟨rfl, rfl⟩)⟩

theorem execRaiseMin_asks (hgo : bit v.toNat 2 = true) (hready : s.getF .GLB_STATUS_READY 0 ≠ 0) {k : Nat} (hk : k < 16)
    (hfree : s.otpWord (otpMinPatch + k) = 0) (hbefore : ∀ m < k, s.otpWord (otpMinPatch + m) ≠ 0) (hhigher : s.minPatch < bfield s.seq.bundle 12 4) :
    exec (.raiseMin v) s = .next (s.otpAsk { why := .minPatch, words := [(otpMinPatch + k, bfield s.seq.bundle 12 4)] }) := by
  have hfind : (List.range 16).find? (fun m => s.otpWord (otpMinPatch + m) == 0) = some k := by
    rw [List.find?_range_eq_some]
    simpa [hk, hfree] using hbefore
  have hrow : execRaiseMin v s = _ := hs.mmio _
  beta_reduce at hrow
  rw [if_neg (by simp [hgo]), hfind] at hrow
  refine hrow.trans ((if_neg (by simp [State.flag, hready])).trans (if_neg (by omega)))

end

/-- A slot programmed well holds the bundle. -/
theorem execBootProgramComplete_good {s : State} (hrun : s.stopped = false) {slot : Nat} {b : List Byte} (hprog : s.seq.programming = some (slot, b))
    (hslot : slot < 2) (hflash : s.seq.flash.length = 2) : ∃ t, exec (.bootProgramComplete true) s = .next t ∧ t.seq.flash[slot]? = some b ∧
      t.seq.programming = none ∧ t.getF .GLB_STATUS_PROG_BUSY 0 = 0 ∧ t.getF .GLB_STATUS_PROG_FAIL 0 = 0 := by
  have hrow : execBootProgramComplete true s = _ := State.clocked_run hrun _
  beta_reduce at hrow
  rw [hprog] at hrow
  refine ⟨_, hrow, ?_, rfl, ?_, ?_⟩
  · rw [State.setFlag_seq, State.setFlag_seq]
    exact List.getElem?_set_self (by omega)
  · rw [State.setFlag_getF, if_neg (by simp), State.setFlag_getF, if_pos ⟨rfl, rfl⟩]
    rfl
  · rw [State.setFlag_getF, if_pos ⟨rfl, rfl⟩]
    rfl

theorem State.glbRefuse_sets (s : State) : Sets s s.glbRefuse [((.GLB_CFG_REFUSED_COUNT_COUNT, 0), s.plus .GLB_CFG_REFUSED_COUNT_COUNT 0 1)] :=
  (Sets.refl s).count _ _ _ (by simp)

/-! ### Power-on resets and the always-on domain (R493 to R501) -/

section
variable {s : State}

/-- A word that is cut changes OTP alone. -/
theorem State.cutBurn_frame : ∃ l n, s.cutBurn = { s with lco := l, free := n } := by
  unfold State.cutBurn
  split
  · exact ⟨s.lco, s.free, rfl⟩
  · split
    · exact ⟨s.lco, s.free, rfl⟩
    · split
      · exact ⟨s.lco, s.free, rfl⟩
      · exact ⟨_, _, rfl⟩

theorem State.cutBurn_parts : s.cutBurn.pwr = s.pwr ∧ s.cutBurn.regs = s.regs ∧ s.cutBurn.kv = s.kv := by
  obtain ⟨l, n, h⟩ := s.cutBurn_frame
  rw [h]
  exact ⟨rfl, rfl, rfl⟩

/-- The state that a power-on reset begins with: a word under programming cut, the strap sampled, the latch cleared where VDD_CORE was low. -/
def State.strapped (s : State) (coreLow : Bool) : State :=
  let p := { s.cutBurn.pwr with strap := s.cutBurn.smbSample }
  { s.cutBurn with free := s.cutBurn.free + 1, pwr := if coreLow then { p with tripLatch := false, tripPin := false } else p }

theorem State.strapped_strap (core : Bool) : (s.strapped core).pwr.strap = s.cutBurn.smbSample := by cases core <;> rfl

theorem State.strapped_tripLatch (core : Bool) : (s.strapped core).pwr.tripLatch = (s.pwr.tripLatch && !core) := by
  cases core
  · exact (congrArg PwrX.tripLatch s.cutBurn_parts.1).trans (by simp)
  · simp [State.strapped]

theorem execMainPowerOnReset_eq (hvaux : s.pwr.onVbat = false) (a core : Bool) : exec (.mainPowerOnReset a core) s =
    .next (if (s.strapped core).stopped then (s.strapped core).dropMain else (s.strapped core).mainReset a) :=
  if_neg (by simp [hvaux])

theorem execMainPowerOnReset_onVbat (hvbat : s.pwr.onVbat = true) (a core : Bool) : exec (.mainPowerOnReset a core) s = .next s := if_pos hvbat

/-- Where the clocks run, or the latch is cleared, the main logic boots. -/
theorem execMainPowerOnReset_resets (hvaux : s.pwr.onVbat = false) {core : Bool} (hgo : s.stopped = false ∨ core = true) (a : Bool) :
    exec (.mainPowerOnReset a core) s = .next ((s.strapped core).mainReset a) := by
  have hrun : (s.strapped core).stopped = false := by
    refine s.strapped_tripLatch core |>.trans ?_
    rcases hgo with h | h
    · have hlatch : s.pwr.tripLatch = false := h
      rw [hlatch]
      rfl
    · simp [h]
  rw [execMainPowerOnReset_eq hvaux, if_neg (by simp [hrun])]

theorem execMainPowerOnReset_boots (hvaux : s.pwr.onVbat = false) {core : Bool} (hgo : s.stopped = false ∨ core = true) (a : Bool) :
    ∃ t, exec (.mainPowerOnReset a core) s = .next t ∧ t.pwr.strap = s.cutBurn.smbSample ∧ t.pwr.tripLatch = false ∧ t.kv.keys = [] := by
  obtain ⟨⟨hstrap, htrip⟩, ⟨-, hkeys⟩, -, -, -, -⟩ := (s.strapped core).mainReset_effects a
  refine ⟨_, execMainPowerOnReset_resets hvaux hgo a, hstrap.trans (s.strapped_strap core), htrip.trans ?_, hkeys⟩
  rw [s.strapped_tripLatch]
  rcases hgo with h | h
  · have hlatch : s.pwr.tripLatch = false := h
    rw [hlatch]
    rfl
  · simp [h]

theorem execMainPowerOnReset_tripped (hvaux : s.pwr.onVbat = false) (htrip : s.pwr.tripLatch = true) (a : Bool) :
    ∃ t, exec (.mainPowerOnReset a false) s = .next t ∧ t.jobs = [] ∧ t.pwr.tripLatch = true ∧ t.pci.training = none := by
  have hlatch : (s.strapped false).pwr.tripLatch = true := by rw [s.strapped_tripLatch, htrip]; rfl
  refine ⟨_, execMainPowerOnReset_eq hvaux a false, ?_⟩
  rw [if_pos (show (s.strapped false).stopped = true from hlatch)]
  exact ⟨(State.dropMain_jobs _).1, (State.dropMain_pwr _).2.trans hlatch, rfl⟩

/-- A main power-on reset with no word under programming keeps OTP and the flash. -/
theorem execMainPowerOnReset_keeps_otp (hvaux : s.pwr.onVbat = false) {core : Bool} (hgo : s.stopped = false ∨ core = true) (hidle : s.lco.started = false)
    (a : Bool) : ∃ t, exec (.mainPowerOnReset a core) s = .next t ∧ t.jobs = [] ∧ t.lco.otp = s.lco.otp ∧ t.seq.flash = s.seq.flash ∧
      t.getF .GLB_STATUS_READY 0 = 0 ∧ t.getF .GLB_POR_COUNT_COUNT 0 = (s.getF .GLB_POR_COUNT_COUNT 0 + 1) % 2 ^ 32 ∧ t.getF .ENT_STATUS_STATE 0 = 1 := by
  have hcut : s.cutBurn = s := if_pos (by simp [hidle])
  obtain ⟨-, ⟨hjobs, -⟩, ⟨hotp, hflash⟩, hready, hcount, hent⟩ := (s.strapped core).mainReset_effects a
  refine ⟨_, execMainPowerOnReset_resets hvaux hgo a, hjobs, hotp.trans ?_, hflash.trans ?_, hready, hcount.trans ?_, hent⟩
  · show s.cutBurn.lco.otp = s.lco.otp
    rw [hcut]
  · show s.cutBurn.seq.flash = s.seq.flash
    rw [hcut]
  · rw [State.getF_regs (s := s) (t := s.strapped core) s.cutBurn_parts.2.1]

/-- The main logic's loss of its state. -/
theorem State.mainOff_effects (m : PwrMode) : (s.mainOff m).pwr.mode = m ∧ (s.mainOff m).jobs = [] ∧ (s.mainOff m).kv.keys = [] ∧
    (s.mainOff m).kv.bbk = s.kv.bbk := by
  refine ⟨rfl, rfl, rfl, ?_⟩
  show s.cutBurn.kv.bbk = s.kv.bbk
  rw [s.cutBurn_parts.2.2]

end

/-! ### Power states (R493 to R501) -/

section
variable {s : State}

theorem execIdleEntry_idles (hrun : s.stopped = false) (hmode : s.pwr.mode = .active) (hen : s.getF .PWR_CTRL_IDLE_EN 0 ≠ 0) (hwork : s.workless = true) :
    exec .idleEntry s = .next { s with pwr := { s.pwr with mode := .idle, since := s.now } } :=
  (State.clocked_run hrun _ : execIdleEntry s = _).trans (if_pos ⟨hmode, by simpa [State.flag] using hen, hwork⟩)

/-- What handing the time to the keeper leaves. -/
theorem State.toKeeper_effects : s.toKeeper.pwr = s.pwr ∧ s.toKeeper.tim.onKeeper = true ∧ s.toKeeper.tim.keeperSec = s.tim.sec ∧
    s.toKeeper.tim.keeperNs = s.tim.ns := by
  unfold State.toKeeper
  extract_lets
  split <;> exact ⟨rfl, rfl, rfl, rfl⟩

/-- The state in which a DOZE begins. -/
def State.dozing (s : State) : State := State.count { s with pwr := { s.pwr with mode := .doze, since := s.now } } .PWR_DOZE_COUNT_COUNT 0 1

theorem execDozeEntry_dozes (hmode : s.pwr.mode = .idle) (hwork : s.workless = true) (hrun : s.stopped = false) (hen : s.getF .PWR_CTRL_DOZE_EN 0 ≠ 0)
    (hlink : s.getF .PCI_LINK_STATUS_PM_STATE 0 = 3) (hbrace : s.getF .PWR_STATUS_BRACE 0 = 0) (hwrites : s.writesWait = false) :
    ∃ t, exec .dozeEntry s = .next t ∧ t.pwr.mode = .doze ∧ t.tim.onKeeper = true ∧ t.tim.keeperSec = s.tim.sec ∧ t.tim.keeperNs = s.tim.ns ∧
      t.getF .PWR_DOZE_COUNT_COUNT 0 = s.plus .PWR_DOZE_COUNT_COUNT 0 1 := by
  have hrow : exec .dozeEntry s = .next s.dozing.toKeeper :=
    (State.clocked_run hrun _ : execDozeEntry s = _).trans (if_pos ⟨hmode, by simpa [State.flag] using hen, hlink, by simp [State.flag, hbrace],
      by simp [hwrites], hwork⟩)
  obtain ⟨hpwr, hkeeper, hsec, hns⟩ := s.dozing.toKeeper_effects
  refine ⟨_, hrow, congrArg PwrX.mode hpwr, hkeeper, hsec, hns, ?_⟩
  rw [State.toKeeper_spares _ _ _ (by decide)]
  exact (State.count_getF ..).trans (if_pos ⟨rfl, rfl⟩)

theorem execWake_wakes (hmode : s.pwr.mode = .idle) : ∃ t, exec .wake s = .next t ∧ t.pwr.mode = .active ∧ t.getF .PWR_STATUS_STATE 0 = 1 := by
  obtain ⟨m, hm⟩ := s.linkExit_frame
  have hidle : s.linkExit.pwr.mode = .idle := by rw [hm, hmode]
  have hawake : s.awake = State.setF { s.linkExit with pwr := { s.linkExit.pwr with mode := .active, since := s.linkExit.now } } .PWR_STATUS_STATE 0 1 := by
    unfold State.awake
    dsimp only
    rw [hidle]
  refine ⟨_, rfl, ?_, ?_⟩
  · rw [hawake]
    rfl
  · rw [hawake]
    exact State.getF_setF_same ..

theorem execMainRailsOff_off (hpowered : s.powered = true) : ∃ t, exec .mainRailsOff s = .next t ∧ t.pwr.mode = .deep ∧ t.pwr.tripLatch = false ∧
    t.jobs = [] ∧ t.kv.keys = [] ∧ t.kv.bbk = s.kv.bbk := by
  have hrow : execMainRailsOff s = _ := if_neg (by simp [hpowered])
  obtain ⟨hmode, hjobs, hkeys, hbbk⟩ := s.mainOff_effects .deep
  exact ⟨_, hrow, hmode, rfl, hjobs, hkeys, hbbk⟩

/-- The state in which VAUX is lost. -/
def State.vauxLost (s : State) : State := if s.powered then s.mainOff .backup else { s with pwr := { s.pwr with mode := .backup } }

theorem State.vauxLost_effects : s.vauxLost.pwr.mode = .backup ∧ s.vauxLost.kv.bbk = s.kv.bbk ∧
    s.vauxLost.getF .PWR_SWITCH_COUNT_COUNT 0 = s.getF .PWR_SWITCH_COUNT_COUNT 0 := by
  unfold State.vauxLost
  split
  · obtain ⟨hmode, -, -, hbbk⟩ := s.mainOff_effects .backup
    refine ⟨hmode, hbbk, ?_⟩
    calc (s.mainOff .backup).getF .PWR_SWITCH_COUNT_COUNT 0 = s.cutBurn.dropMain.getF .PWR_SWITCH_COUNT_COUNT 0 := rfl
      _ = s.cutBurn.getF .PWR_SWITCH_COUNT_COUNT 0 := State.dropMain_getF _ .PWR_SWITCH_COUNT_COUNT 0
      _ = s.getF .PWR_SWITCH_COUNT_COUNT 0 := State.getF_regs s.cutBurn_parts.2.1 _ _
  · exact ⟨rfl, rfl, rfl⟩

theorem execVauxLoss_backup (hvaux : s.pwr.onVbat = false) : ∃ t, exec .vauxLoss s = .next t ∧ t.pwr.mode = .backup ∧ t.pwr.onVbat = true ∧
    t.pwr.wakePin = false ∧ t.kv.bbk = s.kv.bbk ∧ t.getF .PWR_SWITCH_COUNT_COUNT 0 = s.plus .PWR_SWITCH_COUNT_COUNT 0 1 := by
  have hrow : execVauxLoss s = .next (State.count { s.vauxLost with pwr := { s.vauxLost.pwr with onVbat := true, wakePin := false, since := s.now } }
      .PWR_SWITCH_COUNT_COUNT 0 1) := if_neg (by simp [hvaux])
  obtain ⟨hmode, hbbk, hswitch⟩ := s.vauxLost_effects
  refine ⟨_, hrow, hmode, rfl, rfl, hbbk, ?_⟩
  rw [State.count_getF, if_pos ⟨rfl, rfl⟩]
  unfold State.plus
  rw [← hswitch]
  rfl

theorem execVauxReturn_deep (hvbat : s.pwr.onVbat = true) : ∃ t, exec .vauxReturn s = .next t ∧ t = { s with pwr := t.pwr } ∧ t.pwr.mode = .deep ∧
    t.pwr.onVbat = false := by
  have hrow : execVauxReturn s = _ := if_neg (by simp [hvbat])
  exact ⟨_, hrow, rfl, rfl, rfl⟩

theorem execAoPowerOnReset_effects (b : Bool) : ∃ t, exec (.aoPowerOnReset b) s = .next t ∧ t.kv.bbk = none ∧ t.kv.bbkLost = true ∧ t.tmp.buf = [] ∧
    t.pwr.onVbat = !b ∧ t.pwr.tripLatch = s.pwr.tripLatch := ⟨_, rfl, rfl, rfl, rfl, rfl, rfl⟩

theorem execDeepWakeSource_latches {n : Nat} (hn : n < 3) (hoff : s.powered = false) (hsource : s.wakeSource n = true)
    (hen : bit (s.getF .PWR_WAKE_EN_EN 0) n = true) : ∃ t, exec (.deepWakeSource n) s = .next t ∧ bit (t.getF .PWR_WAKE_CAUSE_CAUSE 0) n = true ∧
      (s.pwr.pmeKept = true → t.pwr.pmeStatus = true ∧ (s.pwr.mode = .deep → t.pwr.wakePin = true)) := by
  have hrow : execDeepWakeSource n s = _ := if_neg (by simp [hoff, hsource, hen])
  refine ⟨_, hrow, ?_, fun hkept => ⟨?_, fun hmode => ?_⟩⟩
  · refine (congrArg (bit · n) (State.getF_setF_same ..)).trans ((bit_mod_two_pow hn).trans ?_)
    rw [bit_setBits_one]
    simp
  · simp [hkept]
  · simp [hkept, hmode]

theorem execVbatMeasure_sets {mv : Nat} (hmv : mv < 4096) (hvaux : s.pwr.onVbat = false) : ∃ t, exec (.vbatMeasure mv) s = .next t ∧
    Sets s t [((.PWR_VBAT_MV_MV, 0), mv), ((.PWR_STATUS_VBAT_LOW, 0), if mv < 2400 then 1 else 0)] := by
  have hrow : execVbatMeasure mv s = .next ((s.setF .PWR_VBAT_MV_MV 0 mv).setFlag .PWR_STATUS_VBAT_LOW 0 (decide (mv < 2400))) := if_neg (by simp [hvaux])
  have hlow : b2n (decide (mv < 2400)) = if mv < 2400 then 1 else 0 := by simp [b2n]
  refine ⟨_, hrow, ?_⟩
  rw [← hlow]
  exact ((Sets.refl s).setF .PWR_VBAT_MV_MV 0 mv (by simp) hmv).setFlag .PWR_STATUS_VBAT_LOW 0 _ (by simp) (by decide)

end

/-! ### The clock rate (R502 to R504) -/

section
variable {s : State}

/-- The fields that show the rate. -/
def rateFlds : List Fld := [.PWR_STATUS_K, .PWR_STATUS_DISPATCH_HELD]

theorem State.rate_spares (s : State) : Spares rateFlds s s.rate := Spares.setF (Spares.setF (Spares.refl rateFlds s) _ _ _) _ _ _

theorem State.rate_held (s : State) : s.rate.getF .PWR_STATUS_DISPATCH_HELD 0 = b2n (s.pwr.govHeld || s.pwr.thermHeld) := by
  unfold State.rate
  dsimp only
  rw [State.setFlag_getF, if_pos ⟨rfl, rfl⟩]
  cases s.pwr.govHeld || s.pwr.thermHeld <;> rfl

section
variable (hrun : s.stopped = false) (a : Nat) {now : Nat}
include hrun

/-- The state in which a window's power is shown. -/
def State.powerShown (s : State) (a : Nat) : State := s.setF .PWR_POWER_NOW_CW 0 (min a 65535)

theorem execGovernorWindow_over (hover : s.powerLimit < now) : exec (.governorWindow a now) s =
    .next (((State.setFlag { s.powerShown a with pwr :=
      if 4 < s.pwr.gov then { s.pwr with gov := s.pwr.gov - 1, govHeld := false } else { s.pwr with govHeld := true } } .PWR_STATUS_POLICY_LIMITED 0 true).count
        .PWR_POLICY_LIMIT_COUNT_COUNT 0 1).rate) :=
  (State.clocked_run hrun _ : execGovernorWindow a now s = _).trans (if_pos hover)

theorem execGovernorWindow_under (hunder : ¬s.powerLimit < now) : exec (.governorWindow a now) s =
    .next ((State.setFlag { s.powerShown a with pwr := { s.pwr with govHeld := false, gov := if a * 100 < 95 * s.powerLimit then min 16 (s.pwr.gov + 1) else s.pwr.gov } }
      .PWR_STATUS_POLICY_LIMITED 0 false).rate) :=
  (State.clocked_run hrun _ : execGovernorWindow a now s = _).trans (if_neg hunder)

theorem execGovernorWindow_lowers (hover : s.powerLimit < now) (hgov : 4 < s.pwr.gov) : ∃ t, exec (.governorWindow a now) s = .next t ∧
    t.pwr.gov = s.pwr.gov - 1 ∧ t.getF .PWR_STATUS_POLICY_LIMITED 0 = 1 := by
  refine ⟨_, execGovernorWindow_over hrun a hover, ?_⟩
  rw [if_pos hgov]
  refine ⟨rfl, ?_⟩
  rw [State.rate_spares _ _ _ (by decide), State.count_getF, if_neg (by simp), State.setFlag_getF, if_pos ⟨rfl, rfl⟩]
  rfl

theorem execGovernorWindow_holds (hover : s.powerLimit < now) (hgov : s.pwr.gov ≤ 4) : ∃ t, exec (.governorWindow a now) s = .next t ∧
    t.pwr.gov = s.pwr.gov ∧ t.getF .PWR_STATUS_DISPATCH_HELD 0 = 1 := by
  refine ⟨_, execGovernorWindow_over hrun a hover, ?_⟩
  rw [if_neg (by omega)]
  exact ⟨rfl, (State.rate_held _).trans rfl⟩

theorem execGovernorWindow_allows (hunder : now ≤ s.powerLimit) : ∃ t, exec (.governorWindow a now) s = .next t ∧ t.pwr.govHeld = false ∧
    t.getF .PWR_POWER_NOW_CW 0 = min a 65535 ∧ t.pwr.gov = if a * 100 < 95 * s.powerLimit then min 16 (s.pwr.gov + 1) else s.pwr.gov := by
  refine ⟨_, execGovernorWindow_under hrun a (Nat.not_lt.2 hunder), rfl, ?_, rfl⟩
  rw [State.rate_spares _ _ _ (by decide), State.setFlag_getF, if_neg (by simp)]
  exact (State.getF_setF_same s .PWR_POWER_NOW_CW 0 _).trans (Nat.mod_eq_of_lt (by show min a 65535 < 65536; omega))

end

/-- The state in which a reading is shown, with its alert. -/
def State.heatShown (s : State) (x : BitVec 16) : State :=
  let s0 := s.setF .PWR_TEMP_T 0 x.toNat
  if toSigned 16 (s.getF .SMB_TEMP_HIGH_T 0) ≤ x.toInt then s0.alert 0 else s0

theorem State.heatShown_temp (s : State) (x : BitVec 16) : (s.heatShown x).getF .PWR_TEMP_T 0 = x.toNat := by
  have hset : (s.setF .PWR_TEMP_T 0 x.toNat).getF .PWR_TEMP_T 0 = x.toNat := (State.getF_setF_same ..).trans (Nat.mod_eq_of_lt x.isLt)
  unfold State.heatShown
  dsimp only
  split
  · rw [State.alert_spares _ _ _ _ (by decide), hset]
  · exact hset

/-- The state in which the thermal loop has lowered the rate, before its first step is told. -/
def State.cooled (s : State) (x : BitVec 16) : State :=
  { s.heatShown x with pwr := { (s.heatShown x).pwr with therm := max 4 (s.pwr.therm - 1), thermHeld := max 4 (s.pwr.therm - 1) == 4 } }

/-- The state in which heat has been told at the loop's first step. -/
def State.heatTold (s : State) (sensor : Nat) (x : BitVec 16) : State :=
  if s.pwr.therm = 16 then (((s.cooled x).count .PWR_THERMAL_COUNT_COUNT 0 1).raiseErr blkPWR 1 sensor x.toNat).alert 1 else s.cooled x

theorem execThermalReading_hot {x : BitVec 16} (hhot : thermalMax ≤ x.toInt) (sensor : Nat) : exec (.thermalReading sensor x) s =
    .next ((s.heatTold sensor x).setFlag .PWR_STATUS_THERMAL_LIMITED 0 true).rate := if_pos hhot

theorem execThermalReading_lowers {x : BitVec 16} (hhot : thermalMax ≤ x.toInt) (sensor : Nat) : ∃ t, exec (.thermalReading sensor x) s = .next t ∧
    t.pwr.therm = max 4 (s.pwr.therm - 1) ∧ t.getF .PWR_TEMP_T 0 = x.toNat ∧ t.getF .PWR_STATUS_THERMAL_LIMITED 0 = 1 := by
  have htold : (s.heatTold sensor x).pwr.therm = max 4 (s.pwr.therm - 1) ∧ (s.heatTold sensor x).getF .PWR_TEMP_T 0 = x.toNat := by
    unfold State.heatTold
    split
    · refine ⟨?_, ?_⟩
      · rw [((Boots.refl _).alert 1).pwr, State.raiseErr_pwr]
        rfl
      · rw [State.alert_spares _ _ _ _ (by decide), State.raiseErr_getF _ _ _ _ _ _ _ (by decide), State.count_getF, if_neg (by simp)]
        exact s.heatShown_temp x
    · exact ⟨rfl, s.heatShown_temp x⟩
  refine ⟨_, execThermalReading_hot hhot sensor, ?_⟩
  generalize s.heatTold sensor x = u at htold
  refine ⟨htold.1, ?_, ?_⟩
  · rw [State.rate_spares _ _ _ (by decide), State.setFlag_getF, if_neg (by simp), htold.2]
  · rw [State.rate_spares _ _ _ (by decide), State.setFlag_getF, if_pos ⟨rfl, rfl⟩]
    rfl

theorem execThermtrip_latches (hpowered : s.powered = true) (hlatch : s.pwr.tripLatch = false) : ∃ t, exec .thermtrip s = .next t ∧
    t.pwr.tripLatch = true ∧ t.pwr.tripPin = (!s.pci.perstLow && s.getF .LCO_STATE_STATE 0 != 0xF) := by
  have hrow : execThermtrip s = _ := if_neg (by simp [hpowered, hlatch])
  exact ⟨_, hrow, rfl, rfl⟩

end

/-! ### The brace (R505, R506) -/

section
variable {s : State} {rail : Nat} (mv : Nat)

/-- The state in which the first warned rail has braced the device. -/
def State.braced (s : State) (rail mv : Nat) : State :=
  let s1 : State := { s with pwr := { s.pwr with rails := [(rail, mv, none)], braceAt := s.now } }
  ((((s1.setFlag .PWR_STATUS_BRACE 0 true).setF .PWR_STATUS_BRACE_RAILS 0 (2 ^ rail)).setFlag .SEAL_STATUS_BRACED 0 true).raiseErr blkPWR 0 rail mv).alert 2

theorem State.braced_effects (s : State) (hrail : rail < 3) : (s.braced rail mv).getF .PWR_STATUS_BRACE 0 = 1 ∧
    (s.braced rail mv).getF .PWR_STATUS_BRACE_RAILS 0 = 2 ^ rail ∧ (s.braced rail mv).pwr.rails = [(rail, mv, none)] ∧ (s.braced rail mv).lco = s.lco := by
  unfold State.braced
  extract_lets _ s1
  have hfits : 2 ^ rail < 2 ^ Fld.width .PWR_STATUS_BRACE_RAILS := Nat.pow_lt_pow_right (by decide) hrail
  refine ⟨?_, ?_, ?_, ?_⟩
  · rw [State.alert_spares _ _ _ _ (by decide), State.raiseErr_getF _ _ _ _ _ _ _ (by decide), State.setFlag_getF, if_neg (by simp),
      State.getF_setF_ne _ _ (by simp), State.setFlag_getF, if_pos ⟨rfl, rfl⟩]
    rfl
  · rw [State.alert_spares _ _ _ _ (by decide), State.raiseErr_getF _ _ _ _ _ _ _ (by decide), State.setFlag_getF, if_neg (by simp),
      State.getF_setF_same, Nat.mod_eq_of_lt hfits]
  · rw [((Boots.refl _).alert 2).pwr, State.raiseErr_pwr]
    rfl
  · rw [State.alert_frame]
    exact (State.raiseErr_lco ..).trans rfl

theorem State.rate_braced (s : State) (hbrace : s.getF .PWR_STATUS_BRACE 0 = 1) : s.rate.getF .PWR_STATUS_K 0 ≤ 8 := by
  unfold State.rate
  extract_lets k
  have hk : k ≤ 8 := by
    have hflag : s.flag .PWR_STATUS_BRACE 0 = true := by simp [State.flag, hbrace]
    unfold k
    rw [if_pos hflag]
    omega
  rw [State.setFlag_getF, if_neg (by simp), State.getF_setF_same]
  exact (Nat.mod_le _ _).trans hk

theorem State.otpShow_braced (s : State) (hbrace : s.getF .PWR_STATUS_BRACE 0 = 1) (hidle : s.lco.started = false) : s.otpShow.lco.started = false := by
  have hshow : s.otpShow.lco.started = (decide (0 < s.lco.ops.length) && (s.lco.started || !s.flag .PWR_STATUS_BRACE 0)) := rfl
  rw [hshow, hidle]
  simp [State.flag, hbrace]

theorem execBraceEnter_first (hrail : rail < 3) (hmode : s.pwr.mode = .active) (hrails : s.pwr.rails = []) (hbrace : s.getF .PWR_STATUS_BRACE 0 = 0) :
    exec (.braceEnter rail mv) s = .next (s.linkExit.braced rail mv).otpShow.rate := by
  obtain ⟨m, hm⟩ := s.linkExit_frame
  have hawake : s.awake = s.linkExit := State.awake_of_mode (by simp [hmode]) (by simp [hmode])
  have hpowered : s.powered = true := by
    unfold State.powered
    rw [hmode]
    rfl
  have hnone : s.linkExit.pwr.rails = [] := by rw [hm, hrails]
  have hflag : s.linkExit.flag .PWR_STATUS_BRACE 0 = false := by
    unfold State.flag
    rw [s.linkExit_spares _ _ (by decide), hbrace]
    rfl
  have hrow : execBraceEnter rail mv s = _ := if_neg (by simp [hpowered, hrail])
  rw [hawake] at hrow
  extract_lets u _ first s1 s2 at hrow
  have hu : u.pwr.rails = [] := hnone
  have hfirst : first = true := by
    show (!u.flag .PWR_STATUS_BRACE 0) = true
    rw [show u.flag .PWR_STATUS_BRACE 0 = false from hflag]
    rfl
  have hs1 : s1 = { u with pwr := { u.pwr with rails := [(rail, mv, none)], braceAt := u.now } } := by
    unfold s1
    rw [hu, if_pos hfirst]
    rfl
  have hbits : s1.braceRails = 2 ^ rail := by
    unfold State.braceRails
    rw [hs1]
    simp
  have hs2 : s2 = s.linkExit.braced rail mv := by
    unfold s2
    rw [hbits, hs1]
    rfl
  rw [if_neg (by simp [hu]), hs2] at hrow
  exact hrow

theorem execBraceEnter_braces (hrail : rail < 3) (hmode : s.pwr.mode = .active) (hrails : s.pwr.rails = []) (hbrace : s.getF .PWR_STATUS_BRACE 0 = 0) :
    ∃ t, exec (.braceEnter rail mv) s = .next t ∧ t.getF .PWR_STATUS_BRACE 0 = 1 ∧ t.getF .PWR_STATUS_BRACE_RAILS 0 = 2 ^ rail ∧
      t.getF .PWR_STATUS_K 0 ≤ 8 ∧ t.pwr.rails = [(rail, mv, none)] ∧ (s.lco.started = false → t.lco.started = false) := by
  obtain ⟨m, hm⟩ := s.linkExit_frame
  obtain ⟨hon, hbits, hwarned, hlco⟩ := s.linkExit.braced_effects mv hrail
  refine ⟨_, execBraceEnter_first mv hrail hmode hrails hbrace, ?_⟩
  generalize s.linkExit.braced rail mv = u at hon hbits hwarned hlco
  have hshown : u.otpShow.getF .PWR_STATUS_BRACE 0 = 1 := (State.otpShow_spares _ _ _ (by decide)).trans hon
  refine ⟨?_, ?_, State.rate_braced _ hshown, hwarned, fun hidle => u.otpShow_braced hon ?_⟩
  · rw [State.rate_spares _ _ _ (by decide), hshown]
  · rw [State.rate_spares _ _ _ (by decide), State.otpShow_spares _ _ _ (by decide), hbits]
  · rw [hlco, hm, hidle]

/-- A rail that recovers alone stands with the time of its recovery. -/
theorem execBraceRailRecovery_single {lowest : Nat} (hrails : s.pwr.rails = [(rail, lowest, none)]) : exec (.braceRailRecovery rail mv true) s =
    .next { s with pwr := { s.pwr with rails := [(rail, min mv lowest, some s.now)] } } := by
  have hrow : exec (.braceRailRecovery rail mv true) s = execBraceRailRecovery rail mv true s := rfl
  rw [hrow]
  unfold execBraceRailRecovery
  rw [hrails]
  simp

end

end Sys2Proof.Machine
end

section
/-! ## The store goes on (R379, R381, R506)

What a lifted brace lets the store do leaves the supply monitor alone: the power state, the brace and the count of its events. -/

namespace Sys2Proof.Machine
open Sys2Proof

-- The proofs are elaborated one after another: one that waits for another's premises would keep a thread of its own.
set_option Elab.async false

/-- The fields of the supply monitor. -/
def supplyFlds : List Fld := [.PWR_STATUS_BRACE, .PWR_SUPPLY_EVENT_COUNT_COUNT]

/-- t comes from s by steps of the store: the supply monitor and the queue of commands are as they were. -/
structure Settles (s t : State) : Prop where
  reads : ∀ f ∈ supplyFlds, ∀ i, t.getF f i = s.getF f i
  pwr : t.pwr = s.pwr
  pending : t.pending = s.pending

namespace Settles
variable {s t u : State}

theorem refl (s : State) : Settles s s := ⟨fun _ _ _ => rfl, rfl, rfl⟩

theorem trans (h : Settles s t) (k : Settles t u) : Settles s u :=
  ⟨fun f hf i => (k.reads f hf i).trans (h.reads f hf i), k.pwr.trans h.pwr, k.pending.trans h.pending⟩

/-- The store may change what is neither a register nor one of these parts. -/
theorem part (h : Settles s t) (hregs : u.regs = t.regs := by rfl) (hpwr : u.pwr = t.pwr := by rfl) (hpending : u.pending = t.pending := by rfl) :
    Settles s u := h.trans ⟨fun f _ i => State.getF_regs hregs f i, hpwr, hpending⟩

theorem setF (h : Settles s t) (f : Fld) (i v : Nat) (hf : f ∉ supplyFlds := by decide) : Settles s (t.setF f i v) :=
  h.trans ⟨fun _ hg _ => State.getF_setF_ne t v fun e => hf ((Prod.mk.inj e).1 ▸ hg), rfl, rfl⟩

theorem setFlag (h : Settles s t) (f : Fld) (i : Nat) (b : Bool) (hf : f ∉ supplyFlds := by decide) : Settles s (t.setFlag f i b) := h.setF f i _ hf

theorem count (h : Settles s t) (f : Fld) (i n : Nat) (hf : f ∉ supplyFlds := by decide) : Settles s (t.count f i n) := h.setF f i _ hf

theorem raiseErr (h : Settles s t) (b c x y : Nat) : Settles s (t.raiseErr b c x y) :=
  h.trans ⟨fun f hf i => State.raiseErr_getF t b c x y f i (by revert f; decide), State.raiseErr_pwr .., State.raiseErr_pending ..⟩

theorem sendVector (h : Settles s t) (v : Nat) : Settles s (t.sendVector v) := by
  refine h.trans ⟨fun f hf i => State.sendVector_getF t v f i fun e => ?_, ?_, ?_⟩
  · subst e
    revert hf
    decide
  all_goals rw [State.sendVector_frame]

theorem journals (h : Settles s t) (hu : Journals t u) : Settles s u := by
  have hapart : ∀ f ∈ supplyFlds, f ∉ journalFlds ∧ f ∉ errFlds := by decide
  refine h.trans ⟨fun f hf i => hu.fields f i (hapart f hf).1 fun he => absurd he (hapart f hf).2, ?_, ?_⟩
  all_goals rw [hu.frame]

theorem ite {c : Prop} [Decidable c] (ht : Settles s t) (hu : Settles s u) : Settles s (if c then t else u) := by
  split
  · exact ht
  · exact hu

theorem foldl {α : Type} {f : State → α → State} (h : Settles s t) (hf : ∀ t x, Settles t (f t x)) (xs : List α) : Settles s (xs.foldl f t) := by
  induction xs generalizing t with
  | nil => exact h
  | cons x xs ih => exact ih (h.trans (hf t x))

/-! ### Blocks, the journal and the evidence -/

theorem setKey (h : Settles s t) (i : Nat) (x : KeyX) : Settles s (t.setKey i x) := h.part

theorem setCust (h : Settles s t) (i : Nat) (x : CustodyX) : Settles s (t.setCust i x) := h.part

theorem setStream (h : Settles s t) (i : Nat) (x : StreamX) : Settles s (t.setStream i x) := h.part

theorem store (h : Settles s t) (x : SealX) : Settles s { t with store := x } := h.part

theorem kv (h : Settles s t) (x : KvX) : Settles s { t with kv := x } := h.part

theorem askClose (h : Settles s t) : Settles s t.askClose := h.part

theorem place (h : Settles s t) (b : Nat) (d : List Byte) (o : Option (Nat × Nat)) : Settles s (t.place b d o) := h.journals (.place ..)

theorem journal (h : Settles s t) (e : Nat) (d : List Byte) : Settles s (t.journal e d) := h.journals (.journal ..)

theorem journalDrain (h : Settles s t) : Settles s t.journalDrain := by
  unfold State.journalDrain
  extract_lets s1 s2 _
  have hs1 : Settles s s1 := h.foldl (fun u _ => (refl u).journals (.journalNow ..)) _
  have hs2 : Settles s s2 := .ite hs1 (hs1.journals (.journalNow ..))
  exact hs2.part.setF _ _ _

theorem evidenceJournal (h : Settles s t) : Settles s t.evidenceJournal := by
  unfold State.evidenceJournal State.freeBuf State.showBuf
  split
  · exact h
  · extract_lets s1 _ s2
    have hs1 : Settles s s1 := h.foldl (fun u _ => ((refl u).journal _ _).foldl (fun v _ => (refl v).journal _ _) _) _
    have hs2 : Settles s s2 := hs1.part
    exact (hs2.part.setFlag _ _ _).setF _ _ _

theorem setAnchor (h : Settles s t) (a : Anchor) : Settles s (t.setAnchor a) := by
  unfold State.setAnchor
  exact ((h.part.setFlag _ _ _).setF _ _ _).setF _ _ _

theorem finishGroup (h : Settles s t) : Settles s t.finishGroup := by
  unfold State.finishGroup
  split
  · exact h
  · split
    · extract_lets s1 now _
      have hs1 : Settles s s1 := (h.setAnchor _).setF _ _ _
      exact hs1.store _
    · exact h

/-! ### Reads of the store -/

theorem itemFailed (h : Settles s t) (b : Nat) : Settles s (t.itemFailed b) := by
  unfold State.itemFailed State.integrityFail
  extract_lets _ s1 u1 _ u2
  have hs1 : Settles s s1 := h.part
  have hu1 : Settles s u1 := (hs1.count .SEAL_INTEGRITY_FAIL_COUNT_COUNT 0 1).raiseErr _ _ _ _
  have hu2 : Settles s u2 := hu1.store _
  exact .ite hu2.part hu2

theorem want (h : Settles s t) (b : Nat) : Settles s (t.want b) := by
  unfold State.want
  split
  · exact h
  · exact .ite h (h.journals (.askFetch ..))
  · exact h.itemFailed _

theorem pump (h : Settles s t) : Settles s t.pump := by
  unfold State.pump
  extract_lets s1 s2
  have hs1 : Settles s s1 := h.journals (.drainPlace ..)
  have hs2 : Settles s s2 := by
    unfold s2
    split
    · exact hs1
    · split
      · exact hs1.itemFailed _
      · exact hs1
  exact hs2.foldl (fun u _ => (refl u).want _) _

/-! ### Custody -/

theorem kvEvent (h : Settles s t) (n : Nat) : Settles s (t.kvEvent n) := by
  unfold State.kvEvent
  extract_lets f s1
  have hs1 : Settles s s1 := h.setFlag f 0 true (by unfold f; split <;> decide)
  exact .ite (hs1.sendVector _) hs1

theorem writeCust (h : Settles s t) (n : Nat) (c : CustodyX) (o : Option (Nat × Nat)) : Settles s (t.writeCust n c o) := by
  unfold State.writeCust
  extract_lets c'
  exact ((h.setCust _ _).place _ _ _).askClose

theorem askRaise (h : Settles s t) (n : Nat) (o : Option (Nat × Nat)) : Settles s (t.askRaise n o) := by
  unfold State.askRaise
  extract_lets c u _
  have hu : Settles s u := h.writeCust _ _ _
  exact .ite (h.setCust _ _) (.ite (h.setCust _ _) (hu.setCust _ _))

theorem settleCustody (h : Settles s t) : Settles s t.settleCustody := by
  unfold State.settleCustody
  refine h.foldl (fun u n => ?_) _
  extract_lets c
  have hu := refl u
  split
  · split
    · exact hu
    · extract_lets u1
      have hu1 : Settles u u1 := (hu.setCust _ _).count _ _ _
      exact .ite (hu1.askRaise _ _) hu1
  · exact .ite (hu.askRaise _ _) hu

/-! ### The cold anchor -/

theorem otpAsk (h : Settles s t) (o : OtpOp) : Settles s (t.otpAsk o) := by
  unfold State.otpAsk State.otpShow
  extract_lets n braced go ops
  exact ((h.part.setFlag _ _ _).setFlag _ _ _).setF _ _ _

theorem coldPrepare (h : Settles s t) : Settles s t.coldPrepare := by
  unfold State.coldPrepare
  extract_lets _ s1 s2 _ _
  have hs1 : Settles s s1 := h.part
  have hs2 : Settles s s2 := hs1.foldl (fun u _ => (refl u).writeCust _ _ _) _
  exact hs2.askClose.part

theorem coldStart (h : Settles s t) : Settles s t.coldStart := by
  unfold State.coldStart
  extract_lets _ s1 _
  have hs1 : Settles s s1 := h.part
  exact .ite h.part hs1.coldPrepare

theorem coldBurned (h : Settles s t) : Settles s t.coldBurned := by
  unfold State.coldBurned
  extract_lets a s1 _ s2 s3 s4 _
  have hs1 : Settles s s1 := .ite (h.setAnchor _) h
  have hs2 : Settles s s2 := hs1.part
  have hs3 : Settles s s3 := hs2.foldl (fun u n => .ite (refl u) ((refl u).writeCust _ _ _)) _
  have hs4 : Settles s s4 := hs3.askClose
  exact hs4.store _

theorem coldDone (h : Settles s t) : Settles s t.coldDone := by
  unfold State.coldDone
  extract_lets _ _ s1 _ s2
  have hs1 : Settles s s1 := h.part
  have hs2 : Settles s s2 := .ite (h.part.setF _ _ _) hs1
  exact (hs2.journal _ _).settleCustody

theorem coldAdvance (h : Settles s t) : Settles s t.coldAdvance := by
  unfold State.coldAdvance
  split
  · exact h.coldStart
  · split
    · split
      · exact (h.store _).otpAsk _
      · exact h
    · exact h
  · exact .ite h.coldDone h
  · exact .ite h h.coldBurned
  · exact h

/-! ### Formats and opens -/

theorem makeStream (h : Settles s t) (st owner : Nat) (hash : Nat) (job : Option (Nat × Nat)) {u : State} (e : t.makeStream st owner hash job = some u) :
    Settles s u := by
  unfold State.makeStream at e
  split at e
  · cases e
  · next a s1 harea =>
    have hs1 : Settles s s1 := by
      have htaken : Settles s t.takeArea.2 := h.journals (.takeArea t)
      rwa [harea] at htaken
    obtain rfl := Option.some.inj e
    refine .place (.journals ?_ (.trySpare ..)) _ _ _
    exact (((((hs1.setStream _ _).setF _ _ _).setF _ _ _).setF _ _ _).setF _ _ _).setF _ _ _

theorem formatAdvance (h : Settles s t) : Settles s t.formatAdvance := by
  unfold State.formatAdvance
  split
  · exact h
  · extract_lets _ _ _ s1 s2 s3 s4 s5 s6
    have hs1 : Settles s s1 := h.part
    have hs2 : Settles s s2 := (((hs1.setF _ _ _).setF _ _ _).setF _ _ _).setF _ _ _
    have hs3 : Settles s s3 := hs2.trans ⟨fun f hf i => State.dropF_getF _ (by revert f; decide), rfl, rfl⟩
    have hs4 : Settles s s4 := hs3.journals (State.placeRange_journals ..)
    have hs5 : Settles s s5 := by
      unfold s5
      cases hmade : s4.makeStream 0 0 4 none with
      | none => exact hs4
      | some u => exact hs4.makeStream _ _ _ _ hmade
    have hs6 : Settles s s6 := (((hs5.setFlag _ _ _).setFlag _ _ _).setF _ _ _).setF _ _ _
    exact (hs6.journal _ _).journalDrain.evidenceJournal

theorem loadRanges (h : Settles s t) (d : List Byte) : Settles s (t.loadRanges d) := by
  unfold State.loadRanges State.loadRange
  extract_lets s1
  have hs1 : Settles s s1 := (((h.setF _ _ _).setF _ _ _).setF _ _ _).setF _ _ _
  exact hs1.foldl (fun u _ => ((refl u).setF _ _ _).setF _ _ _) _

theorem loadCustody (h : Settles s t) (anchored : Bool) (c : CustodyImage) : Settles s (t.loadCustody anchored c) := by
  unfold State.loadCustody
  extract_lets x y _ s0 s1
  have hs0 : Settles s s0 := h.part
  have hs1 : Settles s s1 := .ite (hs0.count _ _ _) hs0
  exact .ite ((hs0.setCust _ _).raiseErr _ _ _ _) (.ite (hs1.setCust _ _) (hs1.writeCust _ _ _))

theorem loadKey (h : Settles s t) (v : VaultImage) (anchored : Bool) (k : KeyImage) : Settles s (t.loadKey v anchored k) := by
  unfold State.loadKey
  split
  · exact ((h.setKey _ _).count _ _ _).journals (.discardBlock ..)
  · extract_lets held s1
    have hs1 : Settles s s1 := h.setKey _ _
    exact .ite hs1 (hs1.raiseErr _ _ _ _)

theorem kvRebuild (h : Settles s t) (v : VaultImage) (anchored : Bool) : Settles s (t.kvRebuild v anchored) := by
  unfold State.kvRebuild
  extract_lets ks s1 s2 lost s3 q s4 s5 _
  have hs1 : Settles s s1 := h.foldl (fun u _ => (refl u).loadCustody _ _) _
  have hs2 : Settles s s2 := hs1.foldl (fun u _ => (refl u).loadKey _ _ _) _
  have hs3 : Settles s s3 := .ite hs2 ((hs2.kvEvent _).journal _ _)
  have hs4 : Settles s s4 := .ite hs3 ((hs3.kvEvent _).journal _ _)
  have hs5 : Settles s s5 := hs4.setF _ _ _
  exact (hs5.kv _).setFlag _ _ _

theorem openAdvance (h : Settles s t) (v : VaultImage) : Settles s (t.openAdvance v) := by
  unfold State.openAdvance
  split
  · exact h
  · extract_lets s0 c
    have hs0 : Settles s s0 := h.foldl (fun u _ => (refl u).want _) _
    split
    · exact hs0
    · extract_lets s1 s2 s3 s4 _ s5
      have hs1 : Settles s s1 := hs0.loadRanges _
      have hs2 : Settles s s2 := .ite (hs1.setAnchor _) hs1
      have hs3 : Settles s s3 := (hs2.setF _ _ _).journal _ _
      have hs4 : Settles s s4 := hs3.kvRebuild _ _
      have hs5 : Settles s s5 := hs4.store _
      exact .ite hs5.coldStart (hs5.setF _ _ _)

end Settles

theorem State.storeSettle_settles (s : State) (v : VaultImage) : Settles s (s.storeSettle v) :=
  (Settles.refl s).pump.finishGroup.settleCustody.coldAdvance.formatAdvance.openAdvance v

section
variable {s : State} (img : VaultImage)

/-- The state without its brace, before the store goes on. -/
def State.unbraced (s : State) : State :=
  let s1 : State := { s with pwr := { s.pwr with rails := [] } }
  ((s1.setFlag .PWR_STATUS_BRACE 0 false).setF .PWR_STATUS_BRACE_RAILS 0 0).setFlag .SEAL_STATUS_BRACED 0 false

theorem execBraceLift_waits (hwarned : ∃ r ∈ s.pwr.rails, r.2.2 = none) : exec (.braceLift img) s = .next s := by
  obtain ⟨r, hr, hnone⟩ := hwarned
  have hany : (s.pwr.rails.any fun r => r.2.2.isNone) = true := List.any_eq_true.2 ⟨r, hr, by rw [hnone]; rfl⟩
  have hrow : execBraceLift img s = _ := if_pos (.inr hany)
  exact hrow

theorem execBraceLift_lifts (hbrace : s.getF .PWR_STATUS_BRACE 0 ≠ 0) (hrecovered : ∀ r ∈ s.pwr.rails, r.2.2 ≠ none) : ∃ t, exec (.braceLift img) s = .next t ∧ t.getF .PWR_STATUS_BRACE 0 = 0 ∧
    t.pwr.rails = [] ∧ t.getF .PWR_SUPPLY_EVENT_COUNT_COUNT 0 = s.plus .PWR_SUPPLY_EVENT_COUNT_COUNT 0 1 := by
  have hany : (s.pwr.rails.any fun r => r.2.2.isNone) = false := by
    rw [List.any_eq_false]
    intro r hr
    simpa [Option.isNone_iff_eq_none] using hrecovered r hr
  have hrow : exec (.braceLift img) s = .next (((s.unbraced.rate.otpShow.storeSettle img).count .PWR_SUPPLY_EVENT_COUNT_COUNT 0 1).journal 0x0007 s.supplyData) :=
    if_neg (by simp [State.flag, hbrace, hany])
  have hsettled : Settles s.unbraced.rate.otpShow (s.unbraced.rate.otpShow.storeSettle img) := State.storeSettle_settles _ img
  have hread (f : Fld) (hf : f ∈ supplyFlds) : s.unbraced.rate.otpShow.getF f 0 = s.unbraced.getF f 0 := by
    rw [State.otpShow_spares _ _ _ (by revert f; decide), State.rate_spares _ _ _ (by revert f; decide)]
  refine ⟨_, hrow, ?_, ?_, ?_⟩
  · rw [State.journal_getF _ _ _ .PWR_STATUS_BRACE, State.count_getF, if_neg (by simp), hsettled.reads _ (by decide), hread _ (by decide)]
    exact (State.setFlag_getF ..).trans (if_neg (by simp)) |>.trans ((State.getF_setF_ne _ _ (by simp)).trans ((State.setFlag_getF ..).trans (if_pos ⟨rfl, rfl⟩)))
  · rw [State.journal_pwr, State.count_pwr, hsettled.pwr]
    rfl
  · rw [State.journal_getF _ _ _ .PWR_SUPPLY_EVENT_COUNT_COUNT, State.count_getF, if_pos ⟨rfl, rfl⟩]
    unfold State.plus
    rw [hsettled.reads _ (by decide), hread _ (by decide)]
    have hsame : s.unbraced.getF .PWR_SUPPLY_EVENT_COUNT_COUNT 0 = s.getF .PWR_SUPPLY_EVENT_COUNT_COUNT 0 := by
      unfold State.unbraced
      rw [State.setFlag_getF, if_neg (by simp), State.getF_setF_ne _ _ (by simp), State.setFlag_getF, if_neg (by simp)]
      rfl
    rw [hsame]

end

/-- Settles O59: each event of boot, of the power states and of the supply is its command's one branch under the premises; a reset keeps what boot's
steps keep, and a lifted brace lets the store go on, which leaves the supply monitor alone. -/
theorem bootAndPower : Obligations.BootAndPower := by
  unfold Obligations.BootAndPower
  intro s hs
  extract_lets runs
  refine ⟨fun slot ok d hrun hstate htried hslot => ⟨fun hgood hwaits => ?_, fun hbad hzero => ?_, fun hbad hone => ?_⟩,
    fun hrun hstate hready => ⟨execBootSelftestComplete_ready hrun hstate hready, fun a b c d e => ?_⟩, fun v d hserves => ?_,
    fun slot b hrun hprog hslot hflash => execBootProgramComplete_good hrun hprog hslot hflash,
    fun a core => ⟨fun hvbat => execMainPowerOnReset_onVbat hvbat a core, fun hvaux hgo => execMainPowerOnReset_boots hvaux hgo a,
      fun hvaux htrip hcore => ?_⟩,
    fun a core hvaux hgo hidle => execMainPowerOnReset_keeps_otp hvaux hgo hidle a,
    fun hrun hmode hen hwork => execIdleEntry_idles hrun hmode hen hwork,
    fun hmode hwork => ⟨fun hrun hen hlink hbrace hwrites => execDozeEntry_dozes hmode hwork hrun hen hlink hbrace hwrites, execWake_wakes hmode⟩,
    execMainRailsOff_off, execVauxLoss_backup, execVauxReturn_deep, execAoPowerOnReset_effects,
    fun n hn hoff hsource hen => execDeepWakeSource_latches hn hoff hsource hen, fun mv hmv hvaux => execVbatMeasure_sets hmv hvaux, fun a now hrun => ?_,
    fun sensor x hhot => execThermalReading_lowers hhot sensor, execThermtrip_latches,
    fun rail hrail hmode hrails hbrace mv => execBraceEnter_braces mv hrail hmode hrails hbrace,
    fun rail lowest mv hrails => execBraceRailRecovery_single mv hrails,
    fun img hbrace => ⟨execBraceLift_waits img, execBraceLift_lifts img hbrace⟩⟩
  · exact ⟨_, execBootBundleLoaded_takes hrun hstate htried hslot hgood hwaits, s.loadBundle_effects (by omega) d⟩
  · refine (execBootBundleLoaded_fails hrun hstate htried hslot hbad).trans ?_
    rw [hzero]
    rfl
  · have herr : s.bundleError ok d < 16 := by
      simp only [List.mem_cons, List.not_mem_nil, or_false] at hbad
      omega
    have htold : State.regsOk { s with seq := { s.seq with tried := slot + 1 } } := State.regsOk_regs (s := s) rfl hs
    obtain ⟨hboot, herror, -, -⟩ := State.bootFailed_effects { s with seq := { s.seq with tried := slot + 1 } } _ herr
    refine ⟨_, (execBootBundleLoaded_fails hrun hstate htried hslot hbad).trans (congrArg Host.Outcome.next (if_neg (by omega))), hboot, herror, ?_⟩
    exact (State.bootFailed_raised htold _).congr (fun _ _ => rfl) fun _ _ => rfl
  · obtain ⟨u, hrow, hready'⟩ := execBootSelftestComplete_none hrun hstate hready a b c d e
    obtain ⟨hboot, herror, -, hspares⟩ := u.bootFailed_effects 6 (by decide)
    exact ⟨_, hrow, hboot, herror, (hspares _ _ (by decide)).trans hready'⟩
  · extract_lets busy
    refine ⟨fun hgo hstate => ⟨_, execBootRetry_refused v d hserves hgo hstate, s.glbRefuse_sets⟩, fun hgo hstate hissue hgood => ?_,
      fun hgo hconfirm => ⟨_, execBootProgram_refused v d hserves hgo hconfirm, s.glbRefuse_sets⟩,
      fun hgo hconfirm hidle hissue hgood => execBootProgram_starts v d hserves hgo hconfirm hidle hissue hgood,
      fun k hgo hready hk hfree hbefore hhigher hops => ?_⟩
    · obtain ⟨hboot, hslot, -, hbundle⟩ := s.readBundle.loadBundle_effects (slot := 2) (by decide) (s.hostBundle d)
      exact ⟨_, execBootRetry_takes v d hserves hgo hstate hissue hgood, hboot, hslot, hbundle⟩
    · exact ⟨_, execRaiseMin_asks v hserves hgo hready hk hfree hbefore hhigher, (State.otpAsk_alone hops _).1⟩
  · rw [hcore]
    exact execMainPowerOnReset_tripped hvaux htrip a
  · exact ⟨execGovernorWindow_lowers hrun a, execGovernorWindow_holds hrun a, execGovernorWindow_allows hrun a⟩


end Sys2Proof.Machine
end

section
/-! ## The queue of commands (O2, O3)

No function of the machine touches the commands that wait, and every command answers a next state. -/

namespace Sys2Proof.Machine
open Sys2Proof

-- The proofs are elaborated one after another: one that waits for another's premises would keep a thread of its own.
set_option Elab.async false

/-- The commands that wait in a state are the given ones. -/
def State.Queued (s : State) (cmds : List Instr) : Prop := s.pending = cmds

variable {cmds : List Instr}

/-- Of a state the queue alone is kept. -/
theorem State.Queued.keep {s t : State} (hs : s.Queued cmds) (h : t.pending = s.pending := by with_reducible rfl) :
    t.Queued cmds := h.trans hs

/-- As `State.Queued.keep`, where the functions between the two states have to be unfolded. -/
theorem State.Queued.keepUnfold {s t : State} (hs : s.Queued cmds) (h : t.pending = s.pending := by rfl) :
    t.Queued cmds := h.trans hs

/-- The store's own steps leave the queue. -/
theorem Settles.queued {s t : State} (h : Settles s t) (hs : s.Queued cmds) : t.Queued cmds := h.pending.trans hs

theorem State.Queued.setF {s : State} (hs : s.Queued cmds) (f i v) : (s.setF f i v).Queued cmds := hs

theorem State.Queued.setFlag {s : State} (hs : s.Queued cmds) (f i b) : (s.setFlag f i b).Queued cmds := hs

theorem State.Queued.count {s : State} (hs : s.Queued cmds) (f i n) : (s.count f i n).Queued cmds := hs

theorem State.Queued.dropF {s : State} (hs : s.Queued cmds) (q) : (s.dropF q).Queued cmds := hs

theorem State.Queued.dropClasses {s : State} (hs : s.Queued cmds) (cs) : (s.dropClasses cs).Queued cmds := hs

theorem State.Queued.setHeld {s : State} (hs : s.Queued cmds) (r i v) : (s.setHeld r i v).Queued cmds := hs

theorem State.Queued.ite {c : Prop} [Decidable c] {a b : State} (ha : a.Queued cmds) (hb : b.Queued cmds) :
    (if c then a else b).Queued cmds := by
  split
  · exact ha
  · exact hb

theorem State.Queued.foldl {α : Type} {s : State} (hs : s.Queued cmds) {f : State → α → State}
    (hf : ∀ t : State, t.Queued cmds → ∀ a, (f t a).Queued cmds) (l : List α) :

    (l.foldl f s).Queued cmds := by
  induction l generalizing s with
  | nil => exact hs
  | cons a l ih => exact ih (hf s hs a)

theorem State.Queued.of_snd {α : Type} {x : α × State} {a : α} {t : State} (hx : x.2.Queued cmds) (e : x = (a, t)) :
    t.Queued cmds := by
  rw [e] at hx
  exact hx

theorem State.Queued.getD {o : Option State} {s : State} (ho : ∀ t, o = some t → t.Queued cmds) (hs : s.Queued cmds) :
    (o.getD s).Queued cmds := by
  cases o with
  | none => exact hs
  | some t => exact ho t rfl

/-- A command answers a next state, in which the given commands wait. -/
def OutQueued (cmds : List Instr) (o : Out) : Prop := ∃ t, o = .next t ∧ t.Queued cmds

theorem OutQueued.next {t : State} (ht : t.Queued cmds) : OutQueued cmds (.next t) := ⟨t, rfl, ht⟩

theorem OutQueued.ite {c : Prop} [Decidable c] {a b : Out} (ha : OutQueued cmds a) (hb : OutQueued cmds b) :
    OutQueued cmds (if c then a else b) := by
  split
  · exact ha
  · exact hb

/-- A draw of random bytes leaves the commands that wait, whether it could be made or not. -/
def DrawQueued (cmds : List Instr) (r : Except State (List Byte × State)) : Prop :=
    (∀ t, r = .error t → t.Queued cmds) ∧ ∀ x, r = .ok x → x.2.Queued cmds

theorem DrawQueued.error {t : State} (ht : t.Queued cmds) : DrawQueued cmds (.error t) := by
  refine ⟨fun u e => ?_, fun x e => ?_⟩
  · cases e
    exact ht
  · cases e

theorem DrawQueued.ok {x : List Byte × State} (hx : x.2.Queued cmds) : DrawQueued cmds (.ok x) := by
  refine ⟨fun u e => ?_, fun y e => ?_⟩
  · cases e
  · cases e
    exact hx

theorem DrawQueued.ite {c : Prop} [Decidable c] {a b : Except State (List Byte × State)} (ha : DrawQueued cmds a)
    (hb : DrawQueued cmds b) :
    DrawQueued cmds (if c then a else b) := by
  split
  · exact ha
  · exact hb

theorem DrawQueued.of_error {r : Except State (List Byte × State)} {t : State} (hr : DrawQueued cmds r) (e : r = .error t) :
    t.Queued cmds := hr.1 t e

theorem DrawQueued.of_ok {r : Except State (List Byte × State)} {d : List Byte} {t : State} (hr : DrawQueued cmds r)
    (e : r = .ok (d, t)) : t.Queued cmds :=
  hr.2 _ e

/-! ### The functions of Machine/Ops -/

theorem State.Queued.setSlice {s : State} (hs : s.Queued cmds) (i x2) : (s.setSlice i x2).Queued cmds := hs

theorem State.Queued.setQueue {s : State} (hs : s.Queued cmds) (i x2) : (s.setQueue i x2).Queued cmds := hs

theorem State.Queued.setRing {s : State} (hs : s.Queued cmds) (i x2) : (s.setRing i x2).Queued cmds := hs

theorem State.Queued.setChan {s : State} (hs : s.Queued cmds) (i x2) : (s.setChan i x2).Queued cmds := hs

theorem State.Queued.setKey {s : State} (hs : s.Queued cmds) (i x2) : (s.setKey i x2).Queued cmds := hs

theorem State.Queued.setCust {s : State} (hs : s.Queued cmds) (i x2) : (s.setCust i x2).Queued cmds := hs

theorem State.Queued.setStream {s : State} (hs : s.Queued cmds) (i x2) : (s.setStream i x2).Queued cmds := hs

theorem State.Queued.say {s : State} (hs : s.Queued cmds) (m) : (s.say m).Queued cmds := hs

theorem OutQueued.clocked {s : State} {f : State → Out} (hs : s.Queued cmds)
    (hf : ∀ t : State, t.Queued cmds → OutQueued cmds (f t)) :
    OutQueued cmds (s.clocked f) :=
  .ite (.next hs) (hf s hs)

theorem State.Queued.loadNanos {s : State} (hs : s.Queued cmds) (n) : (s.loadNanos n).Queued cmds := hs

theorem State.Queued.setOnKeeper {s : State} (hs : s.Queued cmds) (b) :
    ({ s with tim := { s.tim with onKeeper := b } } : State).Queued cmds :=
  hs.keepUnfold

theorem State.Queued.fromKeeper {s : State} (hs : s.Queued cmds) : s.fromKeeper.Queued cmds := by
  unfold State.fromKeeper
  split
  · exact (hs.loadNanos _).setOnKeeper false
  · exact hs

theorem State.Queued.wakeGens {s : State} (hs : s.Queued cmds) : s.wakeGens.Queued cmds := hs

theorem State.Queued.linkExit {s : State} (hs : s.Queued cmds) : s.linkExit.Queued cmds := by
  unfold State.linkExit
  extract_lets p
  exact .ite (hs.setF _ _ _) hs

theorem State.Queued.awake {s0 : State} (hs0 : s0.Queued cmds) : s0.awake.Queued cmds := by
  unfold State.awake
  extract_lets s _ s1
  have hs : s.Queued cmds := hs0.linkExit
  have hs1 : s1.Queued cmds := hs.keep.setF _ _ _
  split
  · exact hs.keep.setF _ _ _
  · exact hs1.fromKeeper.wakeGens
  · exact hs

theorem OutQueued.mmio {s : State} {f : State → Out} (hs : s.Queued cmds) (hf : ∀ t : State, t.Queued cmds → OutQueued cmds (f t)) :
    OutQueued cmds (s.mmio f) :=
  .clocked hs fun _ ht => .ite (hf _ ht.awake) (.next (ht.awake.say _))

theorem State.Queued.setPba {s : State} (hs : s.Queued cmds) (v b) : (s.setPba v b).Queued cmds := hs

theorem State.Queued.sendVector {s : State} (hs : s.Queued cmds) (v) : (s.sendVector v).Queued cmds :=
  ((Settles.refl s).sendVector _).queued hs

theorem State.Queued.blockVector {s : State} (hs : s.Queued cmds) (blk) : (s.blockVector blk).Queued cmds := hs.sendVector _

theorem State.Queued.sliceVector {s : State} (hs : s.Queued cmds) (sl v) : (s.sliceVector sl v).Queued cmds :=
  .ite (hs.sendVector _) (hs.count _ _ _)

theorem State.Queued.raiseErr {s : State} (hs : s.Queued cmds) (blk cause unit syn) : (s.raiseErr blk cause unit syn).Queued cmds :=
  (State.raiseErr_pending ..).trans hs

theorem State.Queued.alert {s : State} (hs : s.Queued cmds) (n) : (s.alert n).Queued cmds := by
  unfold State.alert
  split
  · exact hs
  · extract_lets s1 _
    have hs1 : s1.Queued cmds := hs.setF _ _ _
    exact .ite hs1.keep hs1

theorem State.Queued.lockDown {s : State} (hs : s.Queued cmds) : s.lockDown.Queued cmds := (hs.setFlag _ _ _).alert _

theorem State.Queued.draw {s : State} (hs : s.Queued cmds) (n) : (s.draw n).2.Queued cmds := hs

theorem State.Queued.sendWrite {s : State} (hs : s.Queued cmds) (pasid a d ro) : (s.sendWrite pasid a d ro).Queued cmds :=
  hs.foldl (fun _ ht _ => ht.say _) _

theorem State.Queued.sendRead {s : State} (hs : s.Queued cmds) (pasid a n) : (s.sendRead pasid a n).Queued cmds :=
  hs.foldl (fun _ ht _ => ht.say _) _

theorem State.Queued.plainOut {s : State} (hs : s.Queued cmds) (a d) : (s.plainOut a d).Queued cmds := by
  unfold State.plainOut
  exact .ite (hs.sendWrite _ _ _ _) hs.keep

theorem State.Queued.dplPut {s : State} (hs : s.Queued cmds) (sl w) : (s.dplPut sl w).Queued cmds := by
  unfold State.dplPut
  extract_lets p x s1
  have hs1 : s1.Queued cmds := hs.plainOut _ _
  exact .ite ((hs1.setF _ _ _).setSlice _ _) (hs1.setF _ _ _)

theorem State.Queued.dplPage {s : State} (hs : s.Queued cmds) (sl page) : (s.dplPage sl page).Queued cmds :=
  .ite (hs.dplPut _ _) ((hs.setFlag _ _ _).count _ _ _)

theorem State.Queued.send {s : State} (hs : s.Queued cmds) (r) : (s.send r).Queued cmds := by
  unfold State.send
  split
  · exact hs.sendRead _ _ _
  · exact hs.sendWrite _ _ _ _
  · extract_lets s1
    have hs1 : s1.Queued cmds := hs.sendWrite _ _ _ _
    exact .ite (hs1.foldl (fun _ ht _ => ht.dplPage _ _) _) hs1

theorem State.Queued.issue {s : State} (hs : s.Queued cmds) (r) : (s.issue r).Queued cmds := by
  unfold State.issue
  exact .ite (hs.send _) hs.keep

theorem State.Queued.hostWrite {s : State} (hs : s.Queued cmds) (sl addr d ro) : (s.hostWrite sl addr d ro).Queued cmds :=
  .ite hs (hs.issue _)

theorem State.Queued.hostRead {s : State} (hs : s.Queued cmds) (sl addr n) : (s.hostRead sl addr n).Queued cmds := hs.issue _

/-! ### The functions of Machine/Quarters -/

theorem State.Queued.setCore {s : State} (hs : s.Queued cmds) (c x2) : (s.setCore c x2).Queued cmds := hs

theorem State.Queued.setQuarter {s : State} (hs : s.Queued cmds) (c n x3) : (s.setQuarter c n x3).Queued cmds := hs

theorem State.Queued.setGather {s : State} (hs : s.Queued cmds) (g x2) : (s.setGather g x2).Queued cmds := hs

theorem State.Queued.scrubQuarter {s : State} (hs : s.Queued cmds) (c n) : (s.scrubQuarter c n).Queued cmds := by
  unfold State.scrubQuarter
  extract_lets x _ s1
  have hs1 : s1.Queued cmds := .ite (hs.setCore _ _) hs
  exact hs1.setQuarter _ _ _

theorem State.Queued.scrubPages {s : State} (hs : s.Queued cmds) (q i) : (s.scrubPages q i).Queued cmds := hs

theorem State.Queued.scrubJob {s : State} (hs : s.Queued cmds) (q i) : (s.scrubJob q i).Queued cmds := by
  unfold State.scrubJob
  extract_lets l
  exact (hs.foldl (fun _ ht _ => ht.scrubQuarter _ _) _).scrubPages _ _

theorem State.Queued.closeSession {s : State} (hs : s.Queued cmds) (n) : (s.closeSession n).Queued cmds := hs

theorem State.Queued.leaveEngine {s : State} (hs : s.Queued cmds) (j) : (s.leaveEngine j).Queued cmds := by
  unfold State.leaveEngine
  extract_lets s1 s2 _
  have hs1 : s1.Queued cmds := hs.scrubJob _ _
  have hs2 : s2.Queued cmds := hs1.foldl (fun _ ht _ => ht.closeSession _) _
  exact hs2.keep

theorem State.Queued.letGo {s : State} (hs : s.Queued cmds) (j) : (s.letGo j).Queued cmds := by
  unfold State.letGo
  extract_lets s1 n _
  have hs1 : s1.Queued cmds := hs.leaveEngine _
  exact .ite hs1.keep hs1

/-! ### The functions of Machine/Store -/

theorem State.Queued.scAsk {s : State} (hs : s.Queued cmds) (r) : (s.scAsk r).Queued cmds := hs

theorem State.Queued.place {s : State} (hs : s.Queued cmds) (b d owner) : (s.place b d owner).Queued cmds :=
  ((Settles.refl s).journals (.place s _ _ _)).queued hs

theorem State.Queued.discardBlock {s : State} (hs : s.Queued cmds) (b owner) : (s.discardBlock b owner).Queued cmds :=
  ((Settles.refl s).journals (.discardBlock s _ _)).queued hs

theorem State.Queued.closeGroup {s : State} (hs : s.Queued cmds) : s.closeGroup.Queued cmds := hs

theorem State.Queued.askClose {s : State} (hs : s.Queued cmds) : s.askClose.Queued cmds := hs

theorem State.Queued.setAnchor {s : State} (hs : s.Queued cmds) (a) : (s.setAnchor a).Queued cmds := hs

theorem State.Queued.finishGroup {s : State} (hs : s.Queued cmds) : s.finishGroup.Queued cmds :=
  (Settles.refl s).finishGroup.queued hs

theorem State.Queued.persistDone {s : State} (hs : s.Queued cmds) (r) : (s.persistDone r).Queued cmds := by
  unfold State.persistDone
  split
  · exact hs
  · split
    · exact hs.keep.finishGroup
    · extract_lets g' _
      exact .ite hs.keep hs.keep

theorem State.Queued.fetched {s : State} (hs : s.Queued cmds) (b d) : (s.fetched b d).2.Queued cmds := by
  unfold State.fetched
  split
  · exact hs.keep
  · split
    · split
      · exact hs.keep
      · exact hs

/-! ### The functions of Machine/Ledger -/

theorem State.Queued.trySpare {s : State} (hs : s.Queued cmds) (st) : (s.trySpare st).Queued cmds :=
  ((Settles.refl s).journals (.trySpare s _)).queued hs

theorem State.Queued.placeStreamState {s : State} (hs : s.Queued cmds) (st owner) : (s.placeStreamState st owner).Queued cmds := by
  unfold State.placeStreamState
  extract_lets x b
  exact hs.place _ _ _

theorem State.Queued.giveRecord {s : State} (hs : s.Queued cmds) (st w) : (s.giveRecord st w).Queued cmds :=
  ((Settles.refl s).journals (.giveRecord (.refl s) _ _)).queued hs

theorem State.Queued.journal {s : State} (hs : s.Queued cmds) (ev d) : (s.journal ev d).Queued cmds :=
  (State.journal_pending ..).trans hs

theorem State.Queued.journalDrain {s : State} (hs : s.Queued cmds) : s.journalDrain.Queued cmds :=
  (Settles.refl s).journalDrain.queued hs

theorem State.Queued.recovered {s : State} (hs : s.Queued cmds) (blk) : (s.recovered blk).Queued cmds := by
  unfold State.recovered
  extract_lets n s1
  have hs1 : s1.Queued cmds := (hs.setF _ _ _).setF _ _ _
  exact hs1.journal _ _

/-! ### The functions of Machine/Vault -/

theorem State.Queued.kvEvent {s : State} (hs : s.Queued cmds) (n) : (s.kvEvent n).Queued cmds :=
  ((Settles.refl s).kvEvent _).queued hs

theorem State.Queued.takeEntry {s : State} (hs : s.Queued cmds) : (s.takeEntry).2.Queued cmds := by
  unfold State.takeEntry
  split
  · exact hs.keep
  · split
    · exact hs.keep
    · exact (hs.count _ _ _).kvEvent _

theorem State.Queued.removeKey {s : State} (hs : s.Queued cmds) (i) : (s.removeKey i).Queued cmds := by
  unfold State.removeKey
  split
  · exact hs
  · extract_lets s1 _
    have hs1 : s1.Queued cmds := hs.setKey _ _
    exact hs1.keep

theorem State.Queued.removeKeys {s : State} (hs : s.Queued cmds) (p) : (s.removeKeys p).Queued cmds :=
  hs.foldl (fun _ ht _ => ht.removeKey _) _

theorem State.Queued.evictFor {s : State} (hs : s.Queued cmds) (n l) : (s.evictFor n l).Queued cmds := by
  induction l generalizing s with
  | nil => exact hs
  | cons i l ih =>
    unfold State.evictFor
    extract_lets _ s1 _
    have hs1 : s1.Queued cmds := hs.setKey _ _
    exact .ite hs (.ite (ih hs) (ih (hs1.keep.count _ _ _)))

theorem State.Queued.makeHot {s : State} (hs : s.Queued cmds) (i) : (s.makeHot i).Queued cmds := by
  unfold State.makeHot
  extract_lets s1 _
  have hs1 : s1.Queued cmds := .ite hs (hs.evictFor _ _)
  exact hs1.keep

theorem State.Queued.writeKeyRecord {s : State} (hs : s.Queued cmds) (i owner) : (s.writeKeyRecord i owner).Queued cmds := by
  unfold State.writeKeyRecord
  extract_lets k
  split
  · exact hs
  · exact hs.place _ _ _
  · exact hs.place _ _ _

theorem State.Queued.dropKeyRecord {s : State} (hs : s.Queued cmds) (i owner) : (s.dropKeyRecord i owner).Queued cmds := by
  unfold State.dropKeyRecord
  split
  · exact hs
  · exact hs.discardBlock _ _

theorem State.Queued.writeCust {s : State} (hs : s.Queued cmds) (n c owner) : (s.writeCust n c owner).Queued cmds :=
  ((Settles.refl s).writeCust _ _ _).queued hs

theorem State.Queued.askRaise {s : State} (hs : s.Queued cmds) (n owner) : (s.askRaise n owner).Queued cmds :=
  ((Settles.refl s).askRaise _ _).queued hs

theorem State.Queued.assignIndex {s : State} (hs : s.Queued cmds) (n) : (s.assignIndex n).2.Queued cmds := by
  unfold State.assignIndex
  extract_lets c i s1 s2 auto s3
  have hs1 : s1.Queued cmds := hs.setCust _ _
  have hs2 : s2.Queued cmds := .ite (hs1.kvEvent _) hs1
  have hs3 : s3.Queued cmds := .ite (hs2.askRaise _ _) hs2
  exact .ite (hs3.count _ _ _) hs3

theorem State.Queued.loseBbk {s : State} (hs : s.Queued cmds) : s.loseBbk.Queued cmds := by
  unfold State.loseBbk
  extract_lets s1 _ _
  have hs1 : s1.Queued cmds := by
    unfold s1
    refine hs.foldl (fun t ht i => ?_) _
    extract_lets _ u _
    have hu : u.Queued cmds := ht.setKey _ _
    exact hu.keep
  exact (hs1.keep.setFlag _ _ _).setAnchor _

theorem State.Queued.drawBbk {s : State} (hs : s.Queued cmds) : s.drawBbk.Queued cmds := by
  unfold State.drawBbk
  split
  · exact hs
  · split
    · rename_i s1 e
      have hs1 : s1.Queued cmds := (hs.draw _).of_snd e
      exact hs1.keep.setFlag _ _ _

theorem State.Queued.eraseSession {s : State} (hs : s.Queued cmds) : s.eraseSession.Queued cmds := by
  unfold State.eraseSession
  extract_lets s1
  have hs1 : s1.Queued cmds := hs.removeKeys _
  split
  · rename_i t1 e
    have ht1 : t1.Queued cmds := (hs1.draw _).of_snd e
    exact ht1.keep

/-! ### The functions of Machine/Time -/

theorem State.Queued.setSlew {s : State} (hs : s.Queued cmds) (x1) : (s.setSlew x1).Queued cmds := hs

theorem State.Queued.addSub {s : State} (hs : s.Queued cmds) (d) : (s.addSub d).Queued cmds := hs

theorem State.Queued.timeTick {s : State} (hs : s.Queued cmds) : s.timeTick.Queued cmds := by
  unfold State.timeTick
  extract_lets s1 s2
  have hs1 : s1.Queued cmds := .ite (hs.addSub _) hs
  have hs2 : s2.Queued cmds := .ite hs1 (hs1.setSlew _)
  exact hs2.keep

theorem State.Queued.keeperTick {s : State} (hs : s.Queued cmds) : s.keeperTick.Queued cmds := hs

theorem State.Queued.corrections {s : State} (hs : s.Queued cmds) : s.corrections.Queued cmds := by
  unfold State.corrections
  extract_lets s1
  have hs1 : s1.Queued cmds := hs.foldl (fun _ ht _ => ht.count _ _ _) _
  exact hs1.keep

theorem State.Queued.idle {s : State} (hs : s.Queued cmds) : s.idle.Queued cmds := by
  unfold State.idle
  exact .ite hs.keeperTick (.ite hs.keep hs.timeTick.corrections)

theorem State.Queued.setGrade {s : State} (hs : s.Queued cmds) (g) : (s.setGrade g).Queued cmds := hs

theorem State.Queued.stepTo {s : State} (hs : s.Queued cmds) (t cause) : (s.stepTo t cause).Queued cmds := by
  unfold State.stepTo
  extract_lets before g s1
  have hs1 : s1.Queued cmds := (((hs.loadNanos _).setSlew _).count _ _ _).setGrade _
  exact (hs1.setF _ _ _).journal _ _

theorem State.Queued.firstTime {s : State} (hs : s.Queued cmds) (t) : (s.firstTime t).Queued cmds := hs

theorem State.Queued.setFreq {s : State} (hs : s.Queued cmds) (f) : (s.setFreq f).Queued cmds := by
  unfold State.setFreq
  extract_lets b pinned s1
  have hs1 : s1.Queued cmds := (hs.setF _ _ _).setFlag _ _ _
  exact .ite (hs1.count _ _ _) hs1

theorem State.Queued.tryLock {s : State} (hs : s.Queued cmds) : s.tryLock.Queued cmds := by
  unfold State.tryLock
  exact .ite (.ite (.ite (.ite hs (hs.raiseErr _ _ _ _)) ((hs.keepUnfold.setGrade _).recovered _)) (.ite hs
      (hs.keepUnfold.setGrade _))) hs

theorem State.Queued.measure {s : State} (hs : s.Queued cmds) (theta cause) : (s.measure theta cause).Queued cmds := by
  unfold State.measure
  extract_lets out _ sat good s1 s2
  have hs1 : s1.Queued cmds := (hs.keepUnfold.setF _ _ _).setF _ _ _
  have hs2 : s2.Queued cmds := .ite ((hs1.setSlew _).setFlag _ _ _) (.ite ((hs1.stepTo _ _).setFlag _ _ _)
      ((hs1.setFreq _).setSlew _))
  exact .ite hs.keepUnfold hs2.tryLock

theorem State.Queued.sourceLost {s : State} (hs : s.Queued cmds) : s.sourceLost.Queued cmds := by
  unfold State.sourceLost
  extract_lets g s1 s2 _ s3
  have hs1 : s1.Queued cmds := (hs.count _ _ _).setF _ _ _
  have hs2 : s2.Queued cmds := .ite (hs1.setGrade _) hs1
  have hs3 : s3.Queued cmds := .ite hs2.keepUnfold hs2
  exact hs3.raiseErr _ _ _ _

theorem State.Queued.applyFloor {s : State} (hs : s.Queued cmds) (t) : (s.applyFloor t).Queued cmds := by
  unfold State.applyFloor
  extract_lets _ s1 s2 _
  have hs1 : s1.Queued cmds := hs.keepUnfold
  have hs2 : s2.Queued cmds := hs1.stepTo _ _
  exact .ite hs2.keepUnfold hs1

theorem State.Queued.copyToKeeper {s : State} (hs : s.Queued cmds) :
    ({ s with tim :=
        { s.tim with keeperSec := s.tim.sec, keeperNs := s.tim.ns, keeperSub := s.tim.sub, onKeeper := true } } : State).Queued cmds := hs

theorem State.Queued.toKeeper {s : State} (hs : s.Queued cmds) : s.toKeeper.Queued cmds := by
  unfold State.toKeeper
  extract_lets _ s1 _
  have hs1 : s1.Queued cmds := hs.copyToKeeper.setSlew _
  exact .ite ((hs1.keepUnfold.setGrade _).setF _ _ _) hs1

theorem execPpsEdge_answers {s0 : State} (hs0 : s0.Queued cmds) : OutQueued cmds (execPpsEdge s0) := by
  unfold execPpsEdge
  refine .clocked hs0 fun s hs => ?_
  refine .ite (.next hs) ?_
  extract_lets tod sec
  clear_value sec
  cases sec with
  | none => exact .next hs
  | some x =>
    have hs1 : (({ s with tim := { s.tim with lastPps := some x } } : State).setFlag .TIM_TOD_NEXT_VALID 0 false).Queued cmds :=
      State.Queued.setFlag hs.keepUnfold _ _ _
    exact .ite (.next (hs1.measure _ _)) (.ite (.next (hs1.firstTime _)) (.next hs1))

theorem execPtmExchangeComplete_answers {s0 : State} (hs0 : s0.Queued cmds) (master mid t1) :
    OutQueued cmds (execPtmExchangeComplete master mid t1 s0) := by
  unfold execPtmExchangeComplete
  refine .clocked hs0 fun s hs => ?_
  extract_lets s1 src
  have hs1 : s1.Queued cmds := hs.setF _ _ _
  exact .ite (.next hs1) (.ite (.next (hs1.measure _ _)) (.next (hs1.firstTime _)))

theorem execPtmIntervalTimer_answers {s0 : State} (hs0 : s0.Queued cmds) : OutQueued cmds (execPtmIntervalTimer s0) :=
  .clocked hs0 fun _ hs => .ite (.next (hs.say _)) (.next hs)

theorem execRef10mMeasurement_answers {s0 : State} (hs0 : s0.Queued cmds) (f) : OutQueued cmds (execRef10mMeasurement f s0) :=
  .clocked hs0 fun _ hs => .ite (.next (hs.setFreq _)) (.next hs)

theorem execRef10mValidityChange_answers {s0 : State} (hs0 : s0.Queued cmds) (ok) :
    OutQueued cmds (execRef10mValidityChange ok s0) :=
  .clocked hs0 fun _ hs => .next (hs.setFlag _ _ _)

theorem execSlewComplete_answers {s0 : State} (hs0 : s0.Queued cmds) : OutQueued cmds (execSlewComplete s0) := by
  unfold execSlewComplete
  refine .clocked hs0 fun s hs => ?_
  split
  · exact .next hs
  · extract_lets ns d s1
    have hs1 : s1.Queued cmds := (hs.addSub _).setSlew _
    exact .next hs1.keep.tryLock

theorem execTimSlewRateWrite_answers {s0 : State} (hs0 : s0.Queued cmds) (v) : OutQueued cmds (execTimSlewRateWrite v s0) :=
  .mmio hs0 fun _ hs => .next (hs.setF _ _ _)

theorem execTimeSet_answers {s0 : State} (hs0 : s0.Queued cmds) (sec) :
    OutQueued cmds (execTimeSet sec s0) := by
  unfold execTimeSet
  refine .mmio hs0 fun u hu => ?_
  extract_lets s ns t _ s1 g s2 s3
  have hs : s.Queued cmds := hu.setHeld _ _ _
  have hs1 : s1.Queued cmds := hs.keepUnfold
  have hs2 : s2.Queued cmds := hs1.firstTime _
  have hs3 : s3.Queued cmds := .ite (hs2.setSlew _) hs2
  exact .ite (.next hs) (.ite (.ite (.next (hs1.stepTo _ _)) (.next (hs1.setSlew _))) (.next (hs3.journal _ _)))

theorem execTimeSourceLoss_answers {s0 : State} (hs0 : s0.Queued cmds) : OutQueued cmds (execTimeSourceLoss s0) :=
  .clocked hs0 fun _ hs => .ite (.next hs.sourceLost) (.next hs)

theorem execHoldoverLimitExpiry_answers {s0 : State} (hs0 : s0.Queued cmds) : OutQueued cmds (execHoldoverLimitExpiry s0) :=
  .clocked hs0 fun _ hs => .ite (.next (hs.setGrade _)) (.next hs)

theorem execTimNowRead_answers {s0 : State} (hs0 : s0.Queued cmds) : OutQueued cmds (execTimNowRead s0) :=
  .mmio hs0 fun _ hs => .next ((((hs.setF _ _ _).setF _ _ _).setF _ _ _).say _)

theorem execPpsOutPulse_answers {s0 : State} (hs0 : s0.Queued cmds) : OutQueued cmds (execPpsOutPulse s0) := by
  unfold execPpsOutPulse
  exact .clocked hs0 fun _ hs => .ite (.next (hs.keepUnfold.say _)) (.next hs)

theorem execAoTrimMeasurement_answers {s0 : State} (hs0 : s0.Queued cmds) (ppb) : OutQueued cmds (execAoTrimMeasurement ppb s0) :=
  .clocked hs0 fun _ hs => .ite (.next hs) (.next (hs.setF _ _ _))

/-! ### The functions of Machine/Queue -/

theorem State.Queued.updJob {s : State} (hs : s.Queued cmds) (q i f) : (s.updJob q i f).Queued cmds := hs

theorem State.Queued.evrHeadWrite {s : State} (hs : s.Queued cmds) (sl e) : (s.evrHeadWrite sl e).Queued cmds :=
  hs.hostWrite _ _ _ _

theorem State.Queued.evrMessage {s : State} (hs : s.Queued cmds) (sl e) : (s.evrMessage sl e).Queued cmds :=
  (hs.setRing _ _).sliceVector _ _

theorem State.Queued.evrCoalesce {s : State} (hs : s.Queued cmds) (sl e) : (s.evrCoalesce sl e).Queued cmds := by
  unfold State.evrCoalesce
  extract_lets x
  exact .ite (hs.evrMessage _ _) hs

theorem State.Queued.loseEvent {s : State} (hs : s.Queued cmds) (e) : (s.loseEvent e).Queued cmds := hs

theorem State.Queued.eventEntry {s : State} (hs : s.Queued cmds) (g sl q reason) : (s.eventEntry g sl q reason).2.Queued cmds := by
  unfold State.eventEntry
  extract_lets lr e first s1 _ s2 p t1 wrap x s2_1
  have hs1 : s1.Queued cmds := (hs.setFlag _ _ _).loseEvent _
  have hs2 : s2.Queued cmds := (hs1.setQueue _ _).evrHeadWrite _ _
  have ht1 : t1.Queued cmds := hs.hostWrite _ _ _ _
  have hs2_1 : s2_1.Queued cmds := (ht1.setF _ _ _).setRing _ _
  split
  · exact hs.count _ _ _
  · split
    · exact hs.loseEvent _
    · split
      · exact .ite (hs2.evrMessage _ _) hs2
      · exact hs2_1

theorem State.Queued.postEventBy {s : State} (hs : s.Queued cmds) (g sl q reason) : (s.postEventBy g sl q reason).Queued cmds := by
  unfold State.postEventBy
  split
  · rename_i s1 e
    have hs1 : s1.Queued cmds := (hs.eventEntry _ _ _ _).of_snd e
    exact hs1
  · rename_i s1 e
    have hs1 : s1.Queued cmds := (hs.eventEntry _ _ _ _).of_snd e
    exact (hs1.evrHeadWrite _ _).evrCoalesce _ _

theorem State.Queued.postEvent {s : State} (hs : s.Queued cmds) (sl q reason) : (s.postEvent sl q reason).Queued cmds :=
  hs.postEventBy _ _ _ _

theorem State.Queued.catchUp {s : State} (hs : s.Queued cmds) (sl e l) : (s.catchUp sl e l).Queued cmds := by
  induction l generalizing s with
  | nil => exact hs
  | cons q l ih => exact .ite (ih ((hs.setQueue _ _).postEvent _ _ _)) (ih hs)

theorem State.Queued.headWrite {s : State} (hs : s.Queued cmds) (sl q) : (s.headWrite sl q).Queued cmds := hs.hostWrite _ _ _ _

theorem State.Queued.passHead {s : State} (hs : s.Queued cmds) (q tag) : (s.passHead q tag).Queued cmds := by
  unfold State.passHead
  extract_lets h wrap s1 s2 _
  have hs1 : s1.Queued cmds := (hs.setF _ _ _).setF _ _ _
  have hs2 : s2.Queued cmds := .ite (hs1.setF _ _ _) hs1
  exact hs2.setQueue _ _

theorem State.Queued.headEvent {s : State} (hs : s.Queued cmds) (g sl q irq) : (s.headEvent g sl q irq).Queued cmds :=
  .ite (hs.postEventBy _ _ _ _) hs

theorem State.Queued.advance {s : State} (hs : s.Queued cmds) (q n) : (s.advance q n).2.2.Queued cmds := by
  induction n generalizing s with
  | zero => exact hs
  | succ n ih =>
    unfold State.advance
    split
    · split
      · exact ih (hs.keep.passHead _ _)
      · exact hs
    · exact hs

theorem State.Queued.drained {s : State} (hs : s.Queued cmds) (q) : (s.drained q).Queued cmds :=
  .ite ((hs.setF _ _ _).postEvent _ _ _) hs

theorem State.Queued.sliceDrained {s : State} (hs : s.Queued cmds) (sl) : (s.sliceDrained sl).Queued cmds := .ite (hs.setF _ _ _) hs

theorem State.Queued.moveHead {s : State} (hs : s.Queued cmds) (q) : (s.moveHead q).Queued cmds := by
  unfold State.moveHead
  extract_lets sl r
  have hr : r.2.2.Queued cmds := hs.advance _ _
  split
  · exact (((hr.headWrite _ _).headEvent _ _ _ _).drained _).sliceDrained _
  · exact (hs.drained _).sliceDrained _

theorem State.Queued.scMessage {s : State} (hs : s.Queued cmds) (c) : (s.scMessage c).Queued cmds := by
  unfold State.scMessage
  extract_lets x h
  exact .ite (hs.setChan _ _) ((hs.setChan _ _).sliceVector _ _)

theorem State.Queued.scPost {s : State} (hs : s.Queued cmds) (c r) : (s.scPost c r).Queued cmds := by
  unfold State.scPost
  extract_lets p x n buf tag s1 s2 s3 s4 s5
  have hs1 : s1.Queued cmds := .ite (hs.sendWrite _ _ _ _) hs
  have hs2 : s2.Queued cmds := hs1.sendWrite _ _ _ _
  have hs3 : s3.Queued cmds := hs2.setChan _ _
  have hs4 : s4.Queued cmds := (hs3.setF _ _ _).setF _ _ _
  have hs5 : s5.Queued cmds := .ite (hs4.count _ _ _) hs4
  exact hs5.scMessage _

theorem State.Queued.repost {s : State} (hs : s.Queued cmds) (r atOnce) : (s.repost r atOnce).Queued cmds := by
  unfold State.repost
  exact .ite ((hs.count _ _ _).scAsk _) hs.keep

theorem State.Queued.scTake {s : State} (hs : s.Queued cmds) (c tag) : (s.scTake c tag).2.Queued cmds := by
  unfold State.scTake
  extract_lets x
  split
  · exact hs
  · exact (hs.setChan _ _).setF _ _ _

/-! ### The functions of Machine/Slices -/

theorem State.Queued.cfgOk {s : State} (hs : s.Queued cmds) (sl) : (s.cfgOk sl).Queued cmds := hs

theorem State.Queued.cfgRefuse {s : State} (hs : s.Queued cmds) (sl code) : (s.cfgRefuse sl code).Queued cmds := hs

theorem execSliceEnable_answers {s0 : State} (hs0 : s0.Queued cmds) (sl) : OutQueued cmds (execSliceEnable sl s0) :=
  .mmio hs0 fun _ hs => .ite (.next (hs.cfgRefuse _ _)) (.ite (.next (hs.cfgOk _)) (.ite (.next (hs.cfgRefuse _ _)) (.ite
      (.next (hs.cfgRefuse _ _)) (.ite (.next (hs.cfgRefuse _ _)) (.next (((hs.setFlag _ _ _).setF _ _ _).cfgOk _))))))

theorem execSliceDisable_answers {s0 : State} (hs0 : s0.Queued cmds) (sl) : OutQueued cmds (execSliceDisable sl s0) :=
  .mmio hs0 fun _ hs => .ite (.next (hs.cfgRefuse _ _)) (.ite (.next (((hs.setFlag _ _ _).setF _ _ _).cfgOk _)) (.next
      (hs.cfgRefuse _ _)))

theorem State.Queued.dropPassed {s : State} (hs : s.Queued cmds) (q) : (s.dropPassed q).Queued cmds := by
  unfold State.dropPassed
  extract_lets x
  exact .ite (hs.setQueue _ _) hs

theorem execSlicePause_answers {s0 : State} (hs0 : s0.Queued cmds) (sl) : OutQueued cmds (execSlicePause sl s0) := by
  unfold execSlicePause
  refine .mmio hs0 fun s hs => ?_
  split
  · exact .next (hs.cfgRefuse _ _)
  · split
    · exact .next (hs.cfgRefuse _ _)
    · extract_lets s1 s2
      have hs1 : s1.Queued cmds := (hs.setFlag _ _ _).cfgOk _
      have hs2 : s2.Queued cmds := .ite (hs1.setF _ _ _) hs1
      exact .next ((hs2.foldl (fun _ ht _ => ht.dropPassed _) _).sliceDrained _)

theorem execSliceUnpause_answers {s0 : State} (hs0 : s0.Queued cmds) (sl) : OutQueued cmds (execSliceUnpause sl s0) := by
  unfold execSliceUnpause
  refine .mmio hs0 fun s hs => ?_
  split
  · exact .next (hs.cfgRefuse _ _)
  · extract_lets st s1
    have hs1 : s1.Queued cmds := (hs.setFlag _ _ _).cfgOk _
    exact .ite (.next (hs.cfgRefuse _ _)) (.next (.ite (hs1.setF _ _ _) hs1))

theorem execSlicePasidWrite_answers {s0 : State} (hs0 : s0.Queued cmds) (sl v) : OutQueued cmds (execSlicePasidWrite sl v s0) := by
  unfold execSlicePasidWrite
  refine .mmio hs0 fun s hs => ?_
  extract_lets valid p s1
  have hs1 : s1.Queued cmds := ((hs.setFlag _ _ _).setF _ _ _).cfgOk _
  exact .ite (.next (hs.cfgRefuse _ _)) (.ite (.next (hs.cfgRefuse _ _)) (.next (hs1.setFlag _ _ _)))

theorem execPasidPendingClear_answers {s0 : State} (hs0 : s0.Queued cmds) (sl) : OutQueued cmds (execPasidPendingClear sl s0) :=
  .clocked hs0 fun _ hs => .ite (.next hs) (.next (hs.setFlag _ _ _))

theorem execSliceQueuesWrite_answers {s0 : State} (hs0 : s0.Queued cmds) (sl v) :
    OutQueued cmds (execSliceQueuesWrite sl v s0) := by
  unfold execSliceQueuesWrite
  refine .mmio hs0 fun s hs => ?_
  extract_lets n a
  exact .ite (.next (hs.cfgRefuse _ _)) (.ite (.next (hs.cfgRefuse _ _)) (.ite (.next (hs.cfgRefuse _ _)) (.next
      (((hs.setF _ _ _).setF _ _ _).cfgOk _))))

theorem State.Queued.dropPba {s : State} (hs : s.Queued cmds) (a n b m) : (s.dropPba a n b m).Queued cmds :=
  hs.foldl (fun _ ht _ => .ite ht (.ite (ht.setPba _ _) ht)) _

theorem execSliceGrantWrite_answers {s0 : State} (hs0 : s0.Queued cmds) (g sl v) :
    OutQueued cmds (execSliceGrantWrite g sl v s0) := by
  unfold execSliceGrantWrite
  refine .mmio hs0 fun s hs => ?_
  split
  · extract_lets n a
    exact .ite (.next (hs.cfgRefuse _ _)) (.ite (.next (hs.cfgRefuse _ _)) (.next
        ((((hs.dropPba _ _ _ _).setF _ _ _).setF _ _ _).cfgOk _)))
  · extract_lets n a
    exact .ite (.next (hs.cfgRefuse _ _)) (.ite (.next (hs.cfgRefuse _ _)) (.next (((hs.setF _ _ _).setF _ _ _).cfgOk _)))
  · exact .next (((((hs.setF _ _ _).setF _ _ _).setF _ _ _).setF _ _ _).cfgOk _)
  · exact .ite (.next (hs.cfgRefuse _ _)) (.next ((hs.setF _ _ _).cfgOk _))
  · exact .next ((hs.setF _ _ _).cfgOk _)
  · exact .ite (.next (hs.cfgRefuse _ _)) (.next ((hs.setF _ _ _).cfgOk _))

theorem State.Queued.setMbxPending {s : State} (hs : s.Queued cmds) (sl b) : (s.setMbxPending sl b).Queued cmds := hs

theorem execT2mSend_answers {s0 : State} (hs0 : s0.Queued cmds) (sl) : OutQueued cmds (execT2mSend sl s0) :=
  .mmio hs0 fun _ hs => .ite (.next hs) (.ite (.next (hs.setFlag _ _ _)) (.next
      ((((hs.setFlag _ _ _).setFlag _ _ _).setMbxPending _ _).blockVector _)))

theorem execT2mAck_answers {s0 : State} (hs0 : s0.Queued cmds) (sl) : OutQueued cmds (execT2mAck sl s0) :=
  .mmio hs0 fun _ hs => .next ((((hs.setFlag _ _ _).setFlag _ _ _).setMbxPending _ _).cfgOk _)

theorem execM2tSend_answers {s0 : State} (hs0 : s0.Queued cmds) (sl) : OutQueued cmds (execM2tSend sl s0) := by
  unfold execM2tSend
  refine .mmio hs0 fun s hs => ?_
  split
  · exact .next (hs.cfgOk _)
  · extract_lets s1
    have hs1 : s1.Queued cmds := (hs.setFlag _ _ _).cfgOk _
    exact .next (.ite (hs1.sliceVector _ _) hs1)

theorem execM2tAck_answers {s0 : State} (hs0 : s0.Queued cmds) (sl) : OutQueued cmds (execM2tAck sl s0) :=
  .mmio hs0 fun _ hs => .ite (.next hs) (.next (hs.setFlag _ _ _))

theorem execMailboxWrite_answers {s0 : State} (hs0 : s0.Queued cmds) (sl tenant off d) :
    OutQueued cmds (execMailboxWrite sl tenant off d s0) :=
  .mmio hs0 fun _ hs => .ite (.next (hs.count _ _ _)) (.ite (.ite (.next hs) (.ite (.next (hs.count _ _ _)) (.next
      (hs.setSlice _ _)))) (.ite (.next (hs.count _ _ _)) (.next (hs.setSlice _ _))))

theorem execDplLogEnable_answers {s0 : State} (hs0 : s0.Queued cmds) (sl en) : OutQueued cmds (execDplLogEnable sl en s0) := by
  unfold execDplLogEnable
  refine .mmio hs0 fun s hs => ?_
  split
  · exact .next (hs.cfgRefuse _ _)
  · extract_lets s1 _
    have hs1 : s1.Queued cmds := (hs.setFlag _ _ _).cfgOk _
    exact .ite (.next ((hs1.setSlice _ _).setFlag _ _ _)) (.next hs1)

theorem execNewRound_answers {s0 : State} (hs0 : s0.Queued cmds) (sl) : OutQueued cmds (execNewRound sl s0) := by
  unfold execNewRound
  refine .mmio hs0 fun s hs => ?_
  split
  · exact .next (hs.cfgRefuse _ _)
  · extract_lets x s1 _
    have hs1 : s1.Queued cmds := hs.dplPut _ _
    exact .next (((hs1.setSlice _ _).setFlag _ _ _).cfgOk _)

/-! ### The functions of Machine/Rings -/

theorem State.Queued.qcPlain {s : State} (hs : s.Queued cmds) (q v) : (s.qcPlain q v).Queued cmds := hs

theorem execQueueEnable_answers {s0 : State} (hs0 : s0.Queued cmds) (q v) : OutQueued cmds (execQueueEnable q v s0) := by
  unfold execQueueEnable
  refine .mmio hs0 fun s hs => ?_
  extract_lets s1 k ok _ s2
  have hs1 : s1.Queued cmds := hs.qcPlain _ _
  have hs2 : s2.Queued cmds := ((hs1.setFlag _ _ _).setF _ _ _).setQueue _ _
  exact .ite (.next hs1) (.ite (.next (hs1.count _ _ _)) (.next ((hs2.headWrite _ _).headEvent _ _ _ _)))

theorem State.Queued.dropFrom {s : State} (hs : s.Queued cmds) (q i) : (s.dropFrom q i).Queued cmds := hs

theorem execQueueDisable_answers {s0 : State} (hs0 : s0.Queued cmds) (q v) : OutQueued cmds (execQueueDisable q v s0) := by
  unfold execQueueDisable
  refine .mmio hs0 fun s hs => ?_
  extract_lets s1 s2 s3
  have hs1 : s1.Queued cmds := hs.qcPlain _ _
  have hs2 : s2.Queued cmds := by
    unfold s2
    split
    · exact hs1.dropFrom _ _
    · exact hs1
  have hs3 : s3.Queued cmds := ((hs2.setFlag _ _ _).setF _ _ _).setFlag _ _ _
  exact .ite (.next hs1) (.next (((hs3.dropPassed _).drained _).sliceDrained _))

theorem execEvrEnable_answers {s0 : State} (hs0 : s0.Queued cmds) (e v) : OutQueued cmds (execEvrEnable e v s0) := by
  unfold execEvrEnable
  refine .mmio hs0 fun s hs => ?_
  extract_lets s1 k
  have hs1 : s1.Queued cmds := (((hs.setF _ _ _).setF _ _ _).setF _ _ _).setF _ _ _
  exact .ite (.next ((hs1.setFlag _ _ _).evrCoalesce _ _)) (.next (hs1.count _ _ _))

theorem execEvrConsWrite_answers {s0 : State} (hs0 : s0.Queued cmds) (e v) : OutQueued cmds (execEvrConsWrite e v s0) := by
  unfold execEvrConsWrite
  refine .mmio hs0 fun s hs => ?_
  extract_lets c n old
  exact .ite (.next (hs.count _ _ _)) (.next (hs.setF _ _ _))

theorem execEvrOverflowClear_answers {s0 : State} (hs0 : s0.Queued cmds) (e) : OutQueued cmds (execEvrOverflowClear e s0) := by
  unfold execEvrOverflowClear
  refine .mmio hs0 fun s hs => ?_
  split
  · exact .next hs
  · extract_lets sl s1
    have hs1 : s1.Queued cmds := hs.setFlag _ _ _
    exact .next (hs1.catchUp _ _ _)

theorem execCoalTimer_answers {s0 : State} (hs0 : s0.Queued cmds) (e) : OutQueued cmds (execCoalTimer e s0) :=
  .clocked hs0 fun _ hs => .ite (.next (hs.evrMessage _ _)) (.next hs)

theorem State.Queued.sendLtr {s : State} (hs : s.Queued cmds) (ns) : (s.sendLtr ns).Queued cmds := by
  unfold State.sendLtr
  extract_lets c _
  exact .ite (hs.keep.say _) hs

theorem State.Queued.ltrBusy {s : State} (hs : s.Queued cmds) : s.ltrBusy.Queued cmds := .ite (hs.sendLtr _) hs

theorem State.Queued.endMiss {s : State} (hs : s.Queued cmds) (sl q) : (s.endMiss sl q).Queued cmds := by
  unfold State.endMiss
  extract_lets _ s1
  have hs1 : s1.Queued cmds := hs.setQueue _ _
  split
  · exact hs1
  · exact .ite hs1 (((hs1.updJob _ _ _).setFlag _ _ _).hostRead _ _ _)

theorem execDoorbellWrite_answers {s0 : State} (hs0 : s0.Queued cmds) (sl i v) : OutQueued cmds (execDoorbellWrite sl i v s0) := by
  unfold execDoorbellWrite
  refine .mmio hs0 fun s hs => ?_
  extract_lets x q t n h old s1
  have hs1 : s1.Queued cmds := .ite hs (hs.ltrBusy.setF _ _ _)
  exact .ite (.next (hs.count _ _ _)) (.ite (.next (hs.count _ _ _)) (.next (.ite (hs1.endMiss _ _) hs1)))

theorem State.Queued.fetchOne {s : State} (hs : s.Queued cmds) (q rd) : (s.fetchOne q rd).Queued cmds := by
  unfold State.fetchOne
  extract_lets x sl s1 s2
  have hs1 : s1.Queued cmds := .ite hs (hs.count _ _ _)
  have hs2 : s2.Queued cmds := hs1.keep
  exact hs2.setQueue _ _

theorem State.Queued.fetchRun {s : State} (hs : s.Queued cmds) (q rd n) : (s.fetchRun q rd n).Queued cmds := by
  induction n generalizing s with
  | zero => exact hs
  | succ n ih => exact .ite (ih (hs.fetchOne _ _)) hs

theorem execEntryFetch_answers {s : State} (hs : s.Queued cmds) (q k) : OutQueued cmds (execEntryFetch q k s) := by
  unfold execEntryFetch
  split
  · exact .next hs
  · extract_lets x n s1 got
    have hs1 : s1.Queued cmds := hs.fetchRun _ _ _
    exact .ite (.next hs) (.next (hs1.say _))

theorem execEntryReceived_answers {s0 : State} (hs0 : s0.Queued cmds) (q i d) : OutQueued cmds (execEntryReceived q i d s0) := by
  unfold execEntryReceived
  refine .clocked hs0 fun s hs => ?_
  split
  · exact .next hs
  · split
    · exact .next hs
    · split
      · exact .next (hs.updJob _ _ _)
      · split
        · exact .next (((hs.dropFrom _ _).drained _).sliceDrained _)
        · extract_lets n s1 _
          have hs1 : s1.Queued cmds := ((hs.updJob _ _ _).dropFrom _ _).setFlag _ _ _
          exact .next ((hs1.setQueue _ _).sliceDrained _)

theorem execOwnWaitRetry_answers {s : State} (hs : s.Queued cmds) (q d) : OutQueued cmds (execOwnWaitRetry q d s) := by
  unfold execOwnWaitRetry
  extract_lets x
  split
  · exact .next hs
  · split
    · exact .next hs
    · extract_lets s1
      have hs1 : s1.Queued cmds := hs.hostRead _ _ _
      exact .ite (.next (((hs1.updJob _ _ _).setFlag _ _ _).setQueue _ _)) (.ite (.next (hs1.setQueue _ _)) (.next
          ((hs1.setQueue _ _).count _ _ _)))

theorem State.Queued.scPlain {s : State} (hs : s.Queued cmds) (c v) : (s.scPlain c v).Queued cmds := hs

theorem execScEnable_answers {s0 : State} (hs0 : s0.Queued cmds) (c v) : OutQueued cmds (execScEnable c v s0) := by
  unfold execScEnable
  refine .mmio hs0 fun s hs => ?_
  extract_lets s1 k
  have hs1 : s1.Queued cmds := hs.scPlain _ _
  exact .ite (.next (hs1.setFlag _ _ _)) (.next (hs1.count _ _ _))

theorem execScDisable_answers {s0 : State} (hs0 : s0.Queued cmds) (c v) : OutQueued cmds (execScDisable c v s0) :=
  .mmio hs0 fun _ hs => .next ((hs.scPlain _ _).setFlag _ _ _)

theorem execScPost_answers {s : State} (hs : s.Queued cmds) : OutQueued cmds (execScPost s) := by
  unfold execScPost
  split
  · exact .next hs
  · split
    · exact .next hs
    · split
      · exact .next hs
      · exact .next (hs.keep.scPost _ _)

theorem execScHoldoffTimer_answers {s0 : State} (hs0 : s0.Queued cmds) (c) : OutQueued cmds (execScHoldoffTimer c s0) := by
  unfold execScHoldoffTimer
  refine .clocked hs0 fun s hs => ?_
  extract_lets x s1
  have hs1 : s1.Queued cmds := hs.setChan _ _
  exact .ite (.next hs) (.next (.ite (hs1.scMessage _) hs1))

theorem execScSlotTimeout_answers {s0 : State} (hs0 : s0.Queued cmds) (c tag) : OutQueued cmds (execScSlotTimeout c tag s0) := by
  unfold execScSlotTimeout
  refine .clocked hs0 fun s hs => ?_
  split
  · exact .next hs
  · rename_i s1 e
    have hs1 : s1.Queued cmds := (hs.scTake _ _).of_snd e
    exact .next ((hs1.raiseErr _ _ _ _).repost _ _)

/-! ### The functions of Machine/Commit -/

theorem State.Queued.writeFrags {s : State} (hs : s.Queued cmds) (sl l d) : (s.writeFrags sl l d).Queued cmds := by
  induction l generalizing s d with
  | nil => exact hs
  | cons e l ih => exact ih (hs.hostWrite _ _ _ _) _

theorem State.Queued.writeW7 {s : State} (hs : s.Queued cmds) (q i) : (s.writeW7 q i).Queued cmds := by
  unfold State.writeW7
  split
  · exact hs
  · exact (hs.hostWrite _ _ _ _).updJob _ _ _

theorem State.Queued.linkDone {s : State} (hs : s.Queued cmds) (j) : (s.linkDone j).Queued cmds := by
  unfold State.linkDone
  extract_lets x
  exact .ite hs (.ite (hs.setQueue _ _) (.ite (hs.setQueue _ _) (hs.setQueue _ _)))

theorem State.Queued.writeOutput {s : State} (hs : s.Queued cmds) (j) : (s.writeOutput j).Queued cmds :=
  .ite (hs.writeFrags _ _ _) hs

theorem State.Queued.commitWrites {s : State} (hs : s.Queued cmds) (j) : (s.commitWrites j).Queued cmds := by
  unfold State.commitWrites
  extract_lets s1 s2
  have hs1 : s1.Queued cmds := hs.writeOutput _
  have hs2 : s2.Queued cmds := by
    unfold s2
    split
    · exact hs1.hostWrite _ _ _ _
    · exact hs1
  exact hs2.writeW7 _ _

theorem execJobCommit_answers {s : State} (hs : s.Queued cmds) (q i) : OutQueued cmds (execJobCommit q i s) := by
  unfold execJobCommit
  split
  · exact .next hs
  · exact .ite (.next (((hs.commitWrites _).linkDone _).moveHead _)) (.next hs)

/-! ### The functions of Machine/EntryDecode -/

theorem State.Queued.acceptStamp {s : State} (hs : s.Queued cmds) (j) : (s.acceptStamp j).2.Queued cmds := hs

theorem State.Queued.acceptLedger {s : State} (hs : s.Queued cmds) (j room short) : (s.acceptLedger j room short).2.Queued cmds :=
  hs

theorem State.Queued.settleAccepted {s : State} (hs : s.Queued cmds) (j) : (s.settleAccepted j).Queued cmds := by
  unfold State.settleAccepted
  extract_lets j1 s1 _ s2 _
  have hs1 : s1.Queued cmds := hs.keep.updJob _ _ _
  have hs2 : s2.Queued cmds := hs1.setKey _ _
  exact .ite hs2.keep hs1

theorem State.Queued.acceptIndex {s : State} (hs : s.Queued cmds) (j) : (s.acceptIndex j).2.Queued cmds := by
  unfold State.acceptIndex
  extract_lets k
  split
  · split
    · split
      · rename_i s1 e
        have hs1 : s1.Queued cmds := (hs.assignIndex _).of_snd e
        exact hs1
    · exact hs
  · exact hs

theorem State.Queued.holdQueue {s : State} (hs : s.Queued cmds) (q ledger) : (s.holdQueue q ledger).Queued cmds := by
  unfold State.holdQueue
  extract_lets x
  exact .ite (.ite hs ((hs.setQueue _ _).count _ _ _)) (.ite hs ((hs.setQueue _ _).count _ _ _))

theorem State.Queued.accept {s : State} (hs : s.Queued cmds) (j) : (s.accept j).Queued cmds := by
  unfold State.accept
  extract_lets _ s0
  have hs0 : s0.Queued cmds := hs.setQueue _ _
  clear_value s0
  have hstamp := hs0.acceptStamp j
  generalize s0.acceptStamp j = p at hstamp ⊢
  obtain ⟨j1, s1⟩ := p
  refine .ite (hs.holdQueue _ _) (.ite ?_ ((hstamp.acceptIndex j1).settleAccepted _))
  cases s.ledgerRoom j with
  | none => exact hs.holdQueue _ _
  | some room =>
    have hledger := hstamp.acceptLedger j1 room.1 room.2
    dsimp only at hledger ⊢
    generalize s1.acceptLedger j1 room.1 room.2 = p at hledger ⊢
    obtain ⟨j2, s2⟩ := p
    exact (hledger.acceptIndex j2).settleAccepted _

theorem State.Queued.chainStep {s : State} (hs : s.Queued cmds) (q stitch) : (s.chainStep q stitch).Queued cmds := by
  unfold State.chainStep
  extract_lets x
  exact .ite (hs.setQueue _ _) (hs.setQueue _ _)

theorem State.Queued.decided {s : State} (hs : s.Queued cmds) (j) : (s.decided j).Queued cmds := by
  unfold State.decided
  split
  · exact .ite hs (hs.chainStep _ _)
  · exact hs

theorem State.Queued.recordVerdict {s : State} (hs : s.Queued cmds) (j) : (s.recordVerdict j).Queued cmds :=
  (hs.updJob _ _ _).decided _

theorem State.Queued.readTables {s : State} (hs : s.Queued cmds) (j inT outT) :
    ∀ x, s.readTables j inT outT = some x → x.2.Queued cmds := by
  intro x e
  unfold State.readTables at e
  extract_lets l at e
  split at e
  · obtain rfl := Option.some.inj e
    exact hs
  · split at e
    · cases e
    · obtain rfl := Option.some.inj e
      exact (hs.foldl (fun _ ht _ => ht.hostRead _ _ _) _).updJob _ _ _

theorem execEntryDecode_answers {s0 : State} (hs0 : s0.Queued cmds) (q inT outT) :
    OutQueued cmds (execEntryDecode q inT outT s0) := by
  unfold execEntryDecode
  refine .clocked hs0 fun s hs => ?_
  split
  · exact .next hs
  · rename_i j t e
    obtain ⟨k, -, e⟩ := Option.bind_eq_some_iff.1 e
    have ht : t.Queued cmds := hs.readTables _ _ _ _ e
    split
    · exact .next (ht.recordVerdict _)
    · exact .next ((ht.accept _).decided _)

/-! ### The functions of Machine/Sched -/

theorem State.Queued.countReserve {s : State} (hs : s.Queued cmds) (k) : (s.countReserve k).Queued cmds := hs

theorem State.Queued.takeIn {s : State} (hs : s.Queued cmds) (j) : ∀ x, s.takeIn j = some x → x.2.Queued cmds := by
  intro x e
  unfold State.takeIn at e
  split at e
  · obtain rfl := Option.some.inj e
    exact hs
  · split at e
    · cases e
    · obtain ⟨g, -, rfl⟩ := Option.map_eq_some_iff.1 e
      have hs1 : (if g.2 then s.countReserve 3 else s).Queued cmds := .ite (hs.countReserve _) hs
      exact .ite hs1 (hs1.foldl (fun _ ht _ => ht.hostRead _ _ _) _)

theorem State.Queued.moreSlots {s : State} (hs : s.Queued cmds) (p j n) : (s.moreSlots p j n).Queued cmds := by
  induction n generalizing s with
  | zero => exact hs
  | succ n ih => exact .ite hs (ih (hs.updJob _ _ _))

theorem State.Queued.giveSlot {s : State} (hs : s.Queued cmds) (p j reserved) : (s.giveSlot p j reserved).Queued cmds := by
  unfold State.giveSlot
  extract_lets s1 j1 s2
  have hs1 : s1.Queued cmds := .ite (hs.countReserve _) hs
  have hs2 : s2.Queued cmds := hs1.updJob _ _ _
  exact .ite (hs2.moreSlots _ _ _) hs2

theorem State.Queued.dispatchTo {s : State} (hs : s.Queued cmds) (p j) : ∀ t, s.dispatchTo p j = some t → t.Queued cmds := by
  intro t e
  unfold State.dispatchTo at e
  split at e
  · cases e
  · obtain ⟨x, hx, rfl⟩ := Option.map_eq_some_iff.1 e
    exact (hs.takeIn _ _ hx).giveSlot _ _ _

theorem State.Queued.charge {s : State} (hs : s.Queued cmds) (p x2 sl cost) : (s.charge p x2 sl cost).Queued cmds := hs

theorem State.Queued.chargeRecord {s : State} (hs : s.Queued cmds) (p sl cost) : (s.chargeRecord p sl cost).Queued cmds := hs

theorem execJobDispatch_answers {s0 : State} (hs0 : s0.Queued cmds) (p) : OutQueued cmds (execJobDispatch p s0) := by
  unfold execJobDispatch
  refine .clocked hs0 fun s hs => ?_
  split
  · exact .next hs
  · split
    · exact .next (.getD (hs.dispatchTo _ _) hs)
    · split
      · split
        · exact .next hs
        · exact .next (.getD (hs.dispatchTo _ _) hs)
      · split
        · exact .next hs
        · split
          · exact .next hs
          · split
            · exact .next hs
            · rename_i t e
              have ht : t.Queued cmds := hs.dispatchTo _ _ _ e
              exact .next (ht.charge _ _ _ _)

theorem execJobPark_answers {s0 : State} (hs0 : s0.Queued cmds) (q i) : OutQueued cmds (execJobPark q i s0) := by
  unfold execJobPark
  refine .clocked hs0 fun s hs => ?_
  split
  · exact .next hs
  · exact .ite (.next ((hs.leaveEngine _).updJob _ _ _)) (.next hs)

theorem State.Queued.takeSlots {s : State} (hs : s.Queued cmds) (j l) : (s.takeSlots j l).2.Queued cmds := by
  induction l generalizing s j with
  | nil => exact hs
  | cons p l ih =>
    unfold State.takeSlots
    split
    · exact hs
    · exact ih (State.Queued.updJob (.ite (hs.countReserve _) hs) _ _ _) _

theorem execJobResume_answers {s0 : State} (hs0 : s0.Queued cmds) (q i) : OutQueued cmds (execJobResume q i s0) := by
  unfold execJobResume
  refine .clocked hs0 fun s hs => ?_
  split
  · exact .next hs
  · split
    · exact .next hs
    · split
      · exact .next hs
      · rename_i t e
        have ht : t.Queued cmds := hs.takeIn _ _ e
        split
        · split
          · exact .next hs
          · exact .next ((State.Queued.ite (ht.countReserve _) ht).updJob _ _ _)
        · extract_lets r
          have hr : r.2.Queued cmds := (ht.updJob _ _ _).takeSlots _ _
          exact .next (.ite (hr.updJob _ _ _) hr)

theorem State.Queued.endExecution {s : State} (hs : s.Queued cmds) (j) : ∀ t, s.endExecution j = some t → t.Queued cmds := by
  intro t e
  obtain ⟨g, -, rfl⟩ := Option.map_eq_some_iff.1 e
  have hs1 : (if g.2 then s.countReserve 1 else s).Queued cmds := .ite (hs.countReserve _) hs
  exact (hs1.leaveEngine _).updJob _ _ _

theorem execExecutionEnd_answers {s0 : State} (hs0 : s0.Queued cmds) (q i) : OutQueued cmds (execExecutionEnd q i s0) := by
  unfold execExecutionEnd
  refine .clocked hs0 fun s hs => ?_
  split
  · exact .next hs
  · exact .ite (.next (.getD (hs.endExecution _) hs)) (.next hs)

/-! ### The functions of Machine/Entropy -/

theorem State.Queued.setCellOk {s : State} (hs : s.Queued cmds) (c b) : (s.setCellOk c b).Queued cmds := hs

theorem State.Queued.recordFail {s : State} (hs : s.Queued cmds) (c test) : (s.recordFail c test).Queued cmds := hs

theorem State.Queued.isolate {s : State} (hs : s.Queued cmds) (c test) : (s.isolate c test).Queued cmds := hs

theorem State.Queued.enterDegraded {s : State} (hs : s.Queued cmds) (c) : (s.enterDegraded c).Queued cmds := by
  unfold State.enterDegraded
  extract_lets _ s1
  have hs1 : s1.Queued cmds := hs.keep
  exact (hs1.setF _ _ _).raiseErr _ _ _ _

theorem State.Queued.settleCells {s : State} (hs : s.Queued cmds) (c) : (s.settleCells c).Queued cmds := by
  unfold State.settleCells
  exact .ite (hs.enterDegraded _) (.ite (hs.keep.setF _ _ _) hs)

theorem State.Queued.drbgCalls {s : State} (hs : s.Queued cmds) (d n) : (s.drbgCalls d n).Queued cmds := hs

theorem State.Queued.reseed {s : State} (hs : s.Queued cmds) (d) : (s.reseed d).Queued cmds := hs

theorem State.Queued.stallJob {s : State} (hs : s.Queued cmds) (j) : (s.stallJob j).Queued cmds :=
  .ite hs ((hs.updJob _ _ _).count _ _ _)

theorem State.Queued.jobDraw {s : State} (hs : s.Queued cmds) (j n) : DrawQueued cmds (s.jobDraw j n) :=
  .ite (.ok ((hs.drbgCalls _ _).draw _)) (.error (hs.stallJob _))

theorem State.Queued.freshDraw {s : State} (hs : s.Queued cmds) (j n) : DrawQueued cmds (s.freshDraw j n) := by
  unfold State.freshDraw
  extract_lets _ s1
  have hs1 : s1.Queued cmds := hs.keep
  exact .ite (.ok (((hs1.reseed _).drbgCalls _ _).draw _)) (.error (hs.stallJob _))

theorem execCellHealthFail_answers {s0 : State} (hs0 : s0.Queued cmds) (c test) :
    OutQueued cmds (execCellHealthFail c test s0) := by
  unfold execCellHealthFail
  refine .clocked hs0 fun s hs => ?_
  split
  · extract_lets s1
    have hs1 : s1.Queued cmds := (hs.isolate _ _).settleCells _
    exact .next (hs1.raiseErr _ _ _ _)
  · exact .next (hs.recordFail _ _)

theorem execCellRetestComplete_answers {s0 : State} (hs0 : s0.Queued cmds) (c test) :
    OutQueued cmds (execCellRetestComplete c test s0) := by
  unfold execCellRetestComplete
  refine .clocked hs0 fun s hs => ?_
  split
  · exact .next hs
  · split
    · extract_lets _ s1
      have hs1 : s1.Queued cmds := hs.keep
      exact .next ((hs1.setCellOk _ _).settleCells _)
    · extract_lets s1
      have hs1 : s1.Queued cmds := hs.isolate _ _
      exact .next (hs1.raiseErr _ _ _ _)

theorem execEntCellEnableWrite_answers {s0 : State} (hs0 : s0.Queued cmds) (v) : OutQueued cmds (execEntCellEnableWrite v s0) := by
  unfold execEntCellEnableWrite
  refine .mmio hs0 fun s hs => ?_
  extract_lets new old s1 s2
  have hs1 : s1.Queued cmds := hs.setF _ _ _
  have hs2 : s2.Queued cmds := hs1.foldl (fun _ ht _ => .ite (ht.keep.setCellOk _ _) (.ite ht.keep ht)) _
  exact .ite (.next (hs.count _ _ _)) (.next (hs2.settleCells _))

theorem execConditionerOutput_answers {s0 : State} (hs0 : s0.Queued cmds) : OutQueued cmds (execConditionerOutput s0) := by
  unfold execConditionerOutput
  exact .clocked hs0 fun _ hs => .ite (.next hs) (.next (hs.keep.count _ _ _))

theorem execDrbgReseed_answers {s0 : State} (hs0 : s0.Queued cmds) (d) : OutQueued cmds (execDrbgReseed d s0) := by
  unfold execDrbgReseed
  refine .clocked hs0 fun s hs => ?_
  extract_lets calls stalled first _
  exact .ite (.next hs) (.next (hs.keep.reseed _))

theorem execDrbgStall_answers {s0 : State} (hs0 : s0.Queued cmds) (d) : OutQueued cmds (execDrbgStall d s0) :=
  .clocked hs0 fun _ hs => .ite (.next ((hs.setFlag _ _ _).count _ _ _)) (.next hs)

theorem State.Queued.seedString {s : State} (hs : s.Queued cmds) (k) : (s.seedString k).Queued cmds := hs

theorem execStringSeedDelivery_answers {s0 : State} (hs0 : s0.Queued cmds) (k) : OutQueued cmds (execStringSeedDelivery k s0) := by
  unfold execStringSeedDelivery
  refine .clocked hs0 fun s hs => ?_
  split
  · exact .next hs
  · extract_lets s1
    have hs1 : s1.Queued cmds := hs.seedString _
    exact .next (.ite (hs1.count _ _ _) hs1)

theorem execMaskGenReseedRequest_answers {s0 : State} (hs0 : s0.Queued cmds) (k) :
    OutQueued cmds (execMaskGenReseedRequest k s0) := by
  unfold execMaskGenReseedRequest
  exact .clocked hs0 fun _ hs => .ite (.next hs) (.next hs.keep)

theorem execMaskGenDeadline_answers {s0 : State} (hs0 : s0.Queued cmds) (k) : OutQueued cmds (execMaskGenDeadline k s0) := by
  unfold execMaskGenDeadline
  refine .clocked hs0 fun s hs => ?_
  extract_lets g _
  exact .ite (.next hs) (.next (hs.keep.count _ _ _))

theorem State.Queued.testCells {s : State} (hs : s.Queued cmds) (fails) : (s.testCells fails).Queued cmds := by
  unfold State.testCells
  extract_lets _ s0
  have hs0 : s0.Queued cmds := hs.keep
  refine hs0.foldl (fun t ht c => ?_) _
  split
  · exact ht.setCellOk _ _
  · split
    · exact ht.isolate _ _
    · exact ht.setCellOk _ _

theorem State.Queued.raiseCellFails {s : State} (hs : s.Queued cmds) (fails) : (s.raiseCellFails fails).Queued cmds :=
  hs.foldl (fun _ ht _ => .ite (ht.raiseErr _ _ _ _) ht) _

theorem State.Queued.entReady {s : State} (hs : s.Queued cmds) : s.entReady.Queued cmds := by
  unfold State.entReady
  extract_lets s1
  have hs1 : s1.Queued cmds := hs.foldl (fun _ ht _ => ht.seedString _) _
  split
  · rename_i t1 e
    have ht1 : t1.Queued cmds := ((hs1.drbgCalls _ _).draw _).of_snd e
    extract_lets _ s3
    have hs3 : s3.Queued cmds := ht1.keep
    exact (State.Queued.ite hs3 ((hs3.drbgCalls _ _).drawBbk)).setFlag _ _ _

theorem execEntStartupTested_answers {s0 : State} (hs0 : s0.Queued cmds) (fails) :
    OutQueued cmds (execEntStartupTested fails s0) := by
  unfold execEntStartupTested
  refine .clocked hs0 fun s hs => ?_
  split
  · exact .next hs
  · extract_lets s1 s2
    have hs1 : s1.Queued cmds := hs.testCells _
    have hs2 : s2.Queued cmds := (hs1.count _ _ _).foldl (fun _ ht _ => ht.reseed _) _
    exact .ite (.next ((hs1.enterDegraded _).raiseCellFails _)) (.next ((hs2.entReady.setF _ _ _).raiseCellFails _))

theorem execEntropyWaitTimeout_answers {s0 : State} (hs0 : s0.Queued cmds) (q i) :
    OutQueued cmds (execEntropyWaitTimeout q i s0) := by
  unfold execEntropyWaitTimeout
  refine .clocked hs0 fun s hs => ?_
  split
  · exact .next hs
  · exact .ite (.next (((hs.letGo _).updJob _ _ _).count _ _ _)) (.next hs)

theorem execEntQuietTimeExpiry_answers {s0 : State} (hs0 : s0.Queued cmds) : OutQueued cmds (execEntQuietTimeExpiry s0) := by
  unfold execEntQuietTimeExpiry
  refine .clocked hs0 fun s hs => ?_
  split
  · exact .next hs
  · extract_lets _ s1
    have hs1 : s1.Queued cmds := hs.keep
    exact .ite (.next ((hs1.setF _ _ _).raiseErr _ _ _ _)) (.next (hs1.setF _ _ _))

theorem execEntRestartComplete_answers {s0 : State} (hs0 : s0.Queued cmds) (fails) :
    OutQueued cmds (execEntRestartComplete fails s0) := by
  unfold execEntRestartComplete
  refine .clocked hs0 fun s hs => ?_
  split
  · exact .next hs
  · extract_lets s1 s2 _ s2_1 s3
    have hs1 : s1.Queued cmds := hs.testCells _
    have hs2 : s2.Queued cmds := (hs1.count _ _ _).setF _ _ _
    have hs2_1 : s2_1.Queued cmds := (hs1.count _ _ _).foldl (fun _ ht _ => ht.reseed _) _
    have hs3 : s3.Queued cmds := .ite hs2_1 hs2_1.entReady
    exact .ite (.next hs2.keep) (.next ((hs3.setF _ _ _).recovered _))

theorem State.Queued.clearRefused {s : State} (hs : s.Queued cmds) (blk) : (s.clearRefused blk).Queued cmds := hs

theorem State.Queued.entClear {s : State} (hs : s.Queued cmds) (v) : (s.entClear v).Queued cmds := by
  unfold State.entClear
  extract_lets s1 held s2 st _
  have hs1 : s1.Queued cmds := .ite ((hs.setF _ _ _).setF _ _ _) hs
  have hs2 : s2.Queued cmds := .ite (.ite (.ite (hs1.clearRefused _) hs1) (hs1.setF _ _ _)) hs1
  exact .ite (hs2.keep.setF _ _ _) hs2

theorem execEntErrClearRestart_answers {s0 : State} (hs0 : s0.Queued cmds) (v) : OutQueued cmds (execEntErrClearRestart v s0) :=
  .mmio hs0 fun _ hs => .next (hs.entClear _)

theorem execEntSwDataRead_answers {s0 : State} (hs0 : s0.Queued cmds) (whole) : OutQueued cmds (execEntSwDataRead whole s0) := by
  unfold execEntSwDataRead
  refine .mmio hs0 fun s hs => ?_
  extract_lets fin
  split
  · refine .next ?_
    unfold fin
    extract_lets t1
    have ht1 : t1.Queued cmds := hs.setF _ _ _
    exact .ite (ht1.say _) (ht1.keep.say _)
  · split
    · refine .next ?_
      unfold fin
      extract_lets t1
      have ht1 : t1.Queued cmds := hs.setF _ _ _
      exact .ite (ht1.say _) (ht1.keep.say _)
    · split
      · rename_i s1 e
        have hs1 : s1.Queued cmds := ((hs.drbgCalls _ _).draw _).of_snd e
        refine .next ?_
        unfold fin
        extract_lets t1
        have ht1 : t1.Queued cmds := hs1.setF _ _ _
        exact .ite (ht1.say _) (ht1.keep.say _)

/-! ### The functions of Machine/Faults -/

theorem State.Queued.raiseFault {s : State} (hs : s.Queued cmds) (unit cause part place) :
    (s.raiseFault unit cause part place).Queued cmds :=
  hs.raiseErr _ _ _ _

theorem State.Queued.backOnline {s : State} (hs : s.Queued cmds) (en on v) : (s.backOnline en on v).Queued cmds := hs

theorem State.Queued.reexec {s : State} (hs : s.Queued cmds) (j avoid) : (s.reexec j avoid).Queued cmds :=
  ((hs.letGo _).count _ _ _).updJob _ _ _

theorem State.Queued.failJob {s : State} (hs : s.Queued cmds) (j status detail) : (s.failJob j status detail).Queued cmds :=
  (hs.letGo _).updJob _ _ _

theorem State.Queued.engineFault {s : State} (hs : s.Queued cmds) (j unit cause avoid) :
    (s.engineFault j unit cause avoid).Queued cmds := by
  unfold State.engineFault
  exact .ite (hs.reexec _ _) (.ite (hs.keep.updJob _ _ _) (hs.failJob _ _ _))

/-! ### The functions of Machine/OpBase -/

theorem State.Queued.drainJob {s : State} (hs : s.Queued cmds) (q i) : (s.drainJob q i).Queued cmds :=
  hs.foldl (fun _ ht _ => ht.setQuarter _ _ _) _

theorem State.Queued.streamOutput {s : State} (hs : s.Queued cmds) (q i) : (s.streamOutput q i).Queued cmds := by
  unfold State.streamOutput
  split
  · exact hs
  · exact (hs.writeOutput _).updJob _ _ _

theorem State.Queued.endJob {s : State} (hs : s.Queued cmds) (j inp r) : (s.endJob j inp r).Queued cmds :=
  ((hs.updJob _ _ _).drainJob _ _).streamOutput _ _

theorem State.Queued.engineGate {s : State} (hs : s.Queued cmds) (j) : ∀ t, s.engineGate j = some t → t.Queued cmds := by
  intro t e
  unfold State.engineGate at e
  split at e
  · cases e
  · split at e
    · obtain rfl := Option.some.inj e
      exact (hs.raiseFault _ _ _ _).endJob _ _ _
    · split at e
      · obtain rfl := Option.some.inj e
        exact (hs.raiseFault _ _ _ _).endJob _ _ _
      · split at e
        · obtain rfl := Option.some.inj e
          exact ((hs.count _ _ _).raiseFault _ _ _ _).engineFault _ _ _ _
        · cases e

theorem OutQueued.onJob {s : State} {q i op : Nat} {f : Job → State → State} (hs : s.Queued cmds) (hf : ∀ (j : Job)
    (t : State), t.Queued cmds → (f j t).Queued cmds) :

    OutQueued cmds (s.onJob q i op f) := by
  unfold State.onJob
  split
  · exact .next hs
  · exact .ite (.next (.getD (hs.engineGate _) (hf _ _ hs))) (.next hs)

theorem State.Queued.pipeBytes {s : State} (hs : s.Queued cmds) (j n) : (s.pipeBytes j n).Queued cmds := hs

theorem State.Queued.createKey {s : State} (hs : s.Queued cmds) (j k m) : (s.createKey j k m).2.Queued cmds := by
  unfold State.createKey
  split
  · rename_i s1 e
    have hs1 : s1.Queued cmds := hs.takeEntry.of_snd e
    exact hs1
  · rename_i s1 e
    have hs1 : s1.Queued cmds := hs.takeEntry.of_snd e
    extract_lets s2
    have hs2 : s2.Queued cmds := hs1.setKey _ _
    exact (hs2.makeHot _).writeKeyRecord _ _

theorem State.Queued.endWithKey {s : State} (hs : s.Queued cmds) (j inp k m output) :
    (s.endWithKey j inp k m output).Queued cmds := by
  unfold State.endWithKey
  split
  · exact (hs.count _ _ _).endJob _ _ _
  · split
    · rename_i s1 e
      have hs1 : s1.Queued cmds := (hs.createKey _ _ _).of_snd e
      exact hs1.endJob _ _ _
    · rename_i s1 e
      have hs1 : s1.Queued cmds := (hs.createKey _ _ _).of_snd e
      exact hs1.endJob _ _ _

theorem State.Queued.deliver {s : State} (hs : s.Queued cmds) (j inp pub secret) : (s.deliver j inp pub secret).Queued cmds := by
  unfold State.deliver
  split
  · exact hs.endJob _ _ _
  · split
    · split
      · exact hs.endWithKey _ _ _ _ _
      · exact hs.endJob _ _ _
    · extract_lets o
      exact hs.endJob _ _ _
    · exact hs.endJob _ _ _

theorem State.Queued.bgnReject {s : State} (hs : s.Queued cmds) (j status detail) : (s.bgnReject j status detail).Queued cmds :=
  .ite (.ite ((hs.count _ _ _).raiseErr _ _ _ _) (.ite (hs.count _ _ _) hs)) hs

theorem State.Queued.reject {s : State} (hs : s.Queued cmds) (j inp status detail) : (s.reject j inp status detail).Queued cmds :=
  (hs.bgnReject _ _ _).endJob _ _ _

theorem execNop_answers {s : State} (hs : s.Queued cmds) (q i) : OutQueued cmds (execNop q i s) := by
  unfold execNop
  split
  · exact .next hs
  · exact .ite (.next ((hs.endJob _ _ _).updJob _ _ _)) (.next hs)

/-! ### The functions of Machine/AsymOps -/

theorem State.Queued.keygenRun {s : State} (hs : s.Queued cmds) (j) : (s.keygenRun j).Queued cmds := by
  unfold State.keygenRun
  extract_lets s1 n
  have hs1 : s1.Queued cmds := hs.count _ _ _
  exact .ite hs1 ((hs1.keep.count _ _ _).count _ _ _)

theorem execKemKeygen_answers {s : State} (hs : s.Queued cmds) (q i) : OutQueued cmds (execKemKeygen q i s) := by
  unfold execKemKeygen
  refine .onJob hs fun j t ht => ?_
  split
  · exact ht.stallJob _
  · split
    · rename_i u e
      have hu : u.Queued cmds := (ht.jobDraw _ _).of_error e
      exact hu
    · rename_i u e
      have hu : u.Queued cmds := (ht.jobDraw _ _).of_ok e
      extract_lets p v
      have hv : v.Queued cmds := .ite (hu.keygenRun _) hu
      split
      · exact hu
      · exact hv.endWithKey _ _ _ _ _

theorem State.Queued.newCustody {s : State} (hs : s.Queued cmds) (j x2) : (s.newCustody j x2).2.Queued cmds := by
  unfold State.newCustody
  extract_lets n r e c _ s1
  have hs1 : s1.Queued cmds := hs.keep
  exact hs1.writeCust _ _ _

theorem execSigKeygen_answers {s : State} (hs : s.Queued cmds) (q i) : OutQueued cmds (execSigKeygen q i s) := by
  unfold execSigKeygen
  refine .onJob hs fun j t ht => ?_
  split
  · exact ht.stallJob _
  · split
    · exact ht.updJob _ _ _
    · split
      · rename_i u e
        have hu : u.Queued cmds := (ht.jobDraw _ _).of_error e
        exact hu
      · rename_i u e
        have hu : u.Queued cmds := (ht.jobDraw _ _).of_ok e
        extract_lets ps types levels sk pk sk_1
        split
        · exact hu
        · split
          · split
            · exact hu
            · split
              · rename_i s1 e
                have hs1 : s1.Queued cmds := (hu.newCustody _ _).of_snd e
                exact hs1.endWithKey _ _ _ _ _
          · exact hu.endWithKey _ _ _ _ _

theorem execKemEncaps_answers {s : State} (hs : s.Queued cmds) (q i inp) : OutQueued cmds (execKemEncaps q i inp s) := by
  unfold execKemEncaps
  refine .onJob hs fun j t ht => ?_
  extract_lets ps p f
  split
  · exact ht.reject _ _ _ _
  · split
    · exact ht.stallJob _
    · split
      · rename_i u e
        have hu : u.Queued cmds := (ht.jobDraw _ _).of_error e
        exact hu
      · rename_i u e
        have hu : u.Queued cmds := (ht.jobDraw _ _).of_ok e
        extract_lets r
        exact hu.deliver _ _ _ _

theorem execKemDecaps_answers {s : State} (hs : s.Queued cmds) (q i inp) : OutQueued cmds (execKemDecaps q i inp s) := by
  unfold execKemDecaps
  refine .onJob hs fun j t ht => ?_
  extract_lets ps sk ct f
  exact .ite (ht.reject _ _ _ _) (.ite (ht.stallJob _) (ht.deliver _ _ _ _))

theorem execKeyAgree_answers {s : State} (hs : s.Queued cmds) (q i inp) : OutQueued cmds (execKeyAgree q i inp s) := by
  unfold execKeyAgree
  refine .onJob hs fun j t ht => ?_
  extract_lets ps peer f
  exact .ite (ht.reject _ _ _ _) (.ite (ht.reject _ _ _ _) (ht.deliver _ _ _ _))

theorem execHybridKem_answers {s : State} (hs : s.Queued cmds) (q i inp) : OutQueued cmds (execHybridKem q i inp s) := by
  unfold execHybridKem
  refine .onJob hs fun j t ht => ?_
  extract_lets ps a b ct f f_1
  split
  · exact .ite (ht.reject _ _ _ _) (.ite (ht.stallJob _) (ht.deliver _ _ _ _))
  · split
    · exact ht.reject _ _ _ _
    · split
      · rename_i u e
        have hu : u.Queued cmds := (ht.jobDraw _ _).of_error e
        exact hu
      · rename_i u e
        have hu : u.Queued cmds := (ht.jobDraw _ _).of_ok e
        extract_lets r
        exact hu.deliver _ _ _ _

theorem State.Queued.rejectionLimit {s : State} (hs : s.Queued cmds) (j) : (s.rejectionLimit j).Queued cmds := by
  unfold State.rejectionLimit
  extract_lets c
  exact (hs.raiseFault _ _ _ _).engineFault _ _ _ _

theorem State.Queued.signWith {s : State} (hs : s.Queued cmds) (j k g rnd) {fin : State → List Byte → State}
    (hfin : ∀ t sg, t.Queued cmds → (fin t sg).Queued cmds) :

    (s.signWith j k g rnd fin).Queued cmds := .ite (hs.rejectionLimit _) (hfin _ _ hs)

theorem State.Queued.sign {s : State} (hs : s.Queued cmds) (j inp g) {fin : State → List Byte → State}
    (hfin : ∀ t sg, t.Queued cmds → (fin t sg).Queued cmds) :

    (s.sign j inp g fin).Queued cmds := by
  unfold State.sign
  extract_lets k n
  split
  · split
    · extract_lets c'
      exact .ite (hfin _ _ (hs.setCust _ _)) (hs.updJob _ _ _)
    · exact hs
  · split
    · exact hs.reject _ _ _ _
    · split
      · exact hs.stallJob _
      · split
        · exact hs.signWith _ _ _ _ hfin
        · split
          · rename_i e
            exact (hs.jobDraw _ _).of_error e
          · rename_i e
            exact ((hs.jobDraw _ _).of_ok e).signWith _ _ _ _ hfin

theorem execSigSign_answers {s : State} (hs : s.Queued cmds) (q i inp) : OutQueued cmds (execSigSign q i inp s) :=
  .onJob hs fun _ _ ht => ht.sign _ _ _ fun _ _ hu => hu.endJob _ _ _

theorem execSigVerify_answers {s : State} (hs : s.Queued cmds) (q i inp) : OutQueued cmds (execSigVerify q i inp s) := by
  unfold execSigVerify
  refine .onJob hs fun j t ht => ?_
  extract_lets d pkLen pk d1 n v
  exact .ite (ht.endJob _ _ _) (ht.reject _ _ _ _)

theorem execSigVerifyBatch_answers {s : State} (hs : s.Queued cmds) (q i inp) : OutQueued cmds (execSigVerifyBatch q i inp s) := by
  unfold execSigVerifyBatch
  refine .onJob hs fun j t ht => ?_
  extract_lets d cs ok rs good t1 u
  have ht1 : t1.Queued cmds := ht.foldl (fun _ hu _ => hu.chargeRecord _ _ _) _
  have hu : u.Queued cmds := ht1.foldl (fun _ hu _ => hu.bgnReject _ _ _) _
  exact .ite (((ht.count _ _ _).raiseFault _ _ _ _).engineFault _ _ _ _) (hu.endJob _ _ _)

/-! ### The functions of Machine/SymOps -/

theorem execHash_answers {s : State} (hs : s.Queued cmds) (q i inp) : OutQueued cmds (execHash q i inp s) :=
  .onJob hs fun _ _ ht => ht.endJob _ _ _

theorem State.Queued.endMac {s : State} (hs : s.Queued cmds) (j inp msg verify str tag) :
    (s.endMac j inp msg verify str tag).Queued cmds := by
  unfold State.endMac
  split
  · extract_lets n
    exact .ite (hs.endJob _ _ _) ((State.Queued.ite (hs.count _ _ _) hs).endJob _ _ _)
  · exact hs.endJob _ _ _

theorem execHmac_answers {s : State} (hs : s.Queued cmds) (q i inp) : OutQueued cmds (execHmac q i inp s) :=
  .onJob hs fun _ _ ht => ht.endMac _ _ _ _ _ _

theorem execKmac_answers {s : State} (hs : s.Queued cmds) (q i inp) : OutQueued cmds (execKmac q i inp s) := by
  unfold execKmac
  refine .onJob hs fun j t ht => ?_
  extract_lets d n
  exact ht.endMac _ _ _ _ _ _

theorem execCmac_answers {s : State} (hs : s.Queued cmds) (q i inp) : OutQueued cmds (execCmac q i inp s) :=
  .onJob hs fun _ _ ht => (ht.pipeBytes _ _).endMac _ _ _ _ _ _

theorem execKdf_answers {s : State} (hs : s.Queued cmds) (q i inp) : OutQueued cmds (execKdf q i inp s) := by
  unfold execKdf
  refine .onJob hs fun j t ht => ?_
  extract_lets d a b ikm r
  exact ht.deliver _ _ _ _

theorem execAeadEncrypt_answers {s : State} (hs : s.Queued cmds) (q i inp) : OutQueued cmds (execAeadEncrypt q i inp s) := by
  unfold execAeadEncrypt
  refine .onJob hs fun j t ht => ?_
  extract_lets fin d
  split
  · split
    · rename_i u e
      have hu : u.Queued cmds := (ht.jobDraw _ _).of_error e
      exact hu
    · rename_i u e
      have hu : u.Queued cmds := (ht.jobDraw _ _).of_ok e
      unfold fin
      extract_lets aad pt c tag
      exact (hu.pipeBytes _ _).endJob _ _ _
  · unfold fin
    extract_lets aad pt c tag
    exact (ht.pipeBytes _ _).endJob _ _ _

theorem execAeadDecrypt_answers {s : State} (hs : s.Queued cmds) (q i inp) : OutQueued cmds (execAeadDecrypt q i inp s) := by
  unfold execAeadDecrypt
  refine .onJob hs fun j t0 ht0 => ?_
  extract_lets d iv aad r n c t u
  have ht : t.Queued cmds := ht0.pipeBytes _ _
  have hu : u.Queued cmds := ht.count _ _ _
  exact .ite (ht.endJob _ _ _) (.ite (hu.endJob _ _ _) (hu.endJob _ _ _))

theorem execXtsEncrypt_answers {s : State} (hs : s.Queued cmds) (q i inp) : OutQueued cmds (execXtsEncrypt q i inp s) :=
  .onJob hs fun _ _ ht => (ht.pipeBytes _ _).endJob _ _ _

theorem execXtsDecrypt_answers {s : State} (hs : s.Queued cmds) (q i inp) : OutQueued cmds (execXtsDecrypt q i inp s) :=
  .onJob hs fun _ _ ht => (ht.pipeBytes _ _).endJob _ _ _

theorem execKeyWrap_answers {s : State} (hs : s.Queued cmds) (q i inp) : OutQueued cmds (execKeyWrap q i inp s) := by
  unfold execKeyWrap
  refine .onJob hs fun j t ht => ?_
  extract_lets d
  exact (ht.pipeBytes _ _).endJob _ _ _

theorem execKeyUnwrap_answers {s : State} (hs : s.Queued cmds) (q i inp) : OutQueued cmds (execKeyUnwrap q i inp s) := by
  unfold execKeyUnwrap
  refine .onJob hs fun j t0 ht0 => ?_
  extract_lets d t k r
  have ht : t.Queued cmds := ht0.pipeBytes _ _
  cases r with
  | error e => exact (ht.count _ _ _).endJob _ _ _
  | ok p => exact ht.deliver _ _ _ _

theorem execRandom_answers {s : State} (hs : s.Queued cmds) (q i) : OutQueued cmds (execRandom q i s) := by
  unfold execRandom
  refine .onJob hs fun j t ht => ?_
  extract_lets n
  have hdraw : DrawQueued cmds (if j.paramset = 1 then t.freshDraw j n else t.jobDraw j n) := .ite (ht.freshDraw _ _)
      (ht.jobDraw _ _)
  split
  · rename_i e
    exact hdraw.of_error e
  · rename_i e
    exact .ite ((hdraw.of_ok e).endJob _ _ _) ((hdraw.of_ok e).deliver _ _ _ _)

/-! ### The functions of Machine/KeyOps -/

theorem execKeyImport_answers {s : State} (hs : s.Queued cmds) (q i inp) : OutQueued cmds (execKeyImport q i inp s) := by
  unfold execKeyImport
  refine .onJob hs fun j t ht => ?_
  extract_lets fam ps bad
  have hbad : ∀ d, (bad t d).Queued cmds := fun d => State.Queued.endJob (.ite (.ite ((ht.count _ _ _).raiseErr _ _ _ _)
      (ht.count _ _ _)) ht) _ _ _
  split
  · exact ht.endJob _ _ _
  · refine .ite (ht.endJob _ _ _) ?_
    split
    · exact ht
    · exact .ite (.ite (hbad _) (ht.endWithKey _ _ _ _ _)) (.ite (hbad _) (ht.endWithKey _ _ _ _ _))

theorem execKeyExportWrapped_answers {s : State} (hs : s.Queued cmds) (q i) : OutQueued cmds (execKeyExportWrapped q i s) := by
  unfold execKeyExportWrapped
  refine .onJob hs fun j t ht => ?_
  extract_lets k raw h o
  exact ht.endJob _ _ _

theorem execKeyDestroy_answers {s : State} (hs : s.Queued cmds) (q i) : OutQueued cmds (execKeyDestroy q i s) := by
  unfold execKeyDestroy
  refine .onJob hs fun j t ht => ?_
  extract_lets k _
  exact (ht.setKey _ _).updJob _ _ _

theorem State.Queued.destroyKey {s : State} (hs : s.Queued cmds) (k owner) : (s.destroyKey k owner).Queued cmds := by
  unfold State.destroyKey
  extract_lets s1
  have hs1 : s1.Queued cmds := by
    unfold s1
    split
    · exact .ite hs (hs.writeCust _ _ _)
    · exact hs
  exact (hs1.dropKeyRecord _ _).removeKey _

theorem execKeyDestroyCommit_answers {s0 : State} (hs0 : s0.Queued cmds) (k) : OutQueued cmds (execKeyDestroyCommit k s0) := by
  unfold execKeyDestroyCommit
  refine .clocked hs0 fun s hs => ?_
  split
  · exact .next hs
  · split
    · exact .next hs
    · extract_lets _ s1
      have hs1 : s1.Queued cmds := hs.keep
      split
      · exact .ite (.next ((hs1.destroyKey _ _).endJob _ _ _)) (.next hs)
      · exact .next (hs1.destroyKey _ _)

theorem execKeyInfo_answers {s : State} (hs : s.Queued cmds) (q i) : OutQueued cmds (execKeyInfo q i s) :=
  .onJob hs fun _ _ ht => ht.endJob _ _ _

theorem execKeyDerive_answers {s : State} (hs : s.Queued cmds) (q i inp) : OutQueued cmds (execKeyDerive q i inp s) := by
  unfold execKeyDerive
  refine .onJob hs fun j t ht => ?_
  extract_lets d b n
  split
  · exact ht
  · exact ht.endWithKey _ _ _ _ _

theorem execStatefulReserve_answers {s : State} (hs : s.Queued cmds) (q i) : OutQueued cmds (execStatefulReserve q i s) := by
  unfold execStatefulReserve
  refine .onJob hs fun j t ht => ?_
  split
  · exact ht
  · extract_lets c wait
    exact .ite (.ite (ht.updJob _ _ _) (.ite (ht.endJob _ _ _) ((ht.askRaise _ _).updJob _ _ _))) (.ite (ht.endJob _ _ _)
        (ht.updJob _ _ _))

/-! ### The functions of Machine/Otp -/

theorem State.Queued.burn {s : State} (hs : s.Queued cmds) (a v) : (s.burn a v).Queued cmds := hs

theorem State.Queued.otpShow {s : State} (hs : s.Queued cmds) : s.otpShow.Queued cmds := hs

theorem State.Queued.otpAsk {s : State} (hs : s.Queued cmds) (o) : (s.otpAsk o).Queued cmds := hs

theorem State.Queued.loadClassO {s : State} (hs : s.Queued cmds) : s.loadClassO.Queued cmds := by
  unfold State.loadClassO
  extract_lets d s1 s2 s3 s4 s5
  have hs1 : s1.Queued cmds := (hs.setF _ _ _).setF _ _ _
  have hs2 : s2.Queued cmds := hs1.setFlag _ _ _
  have hs3 : s3.Queued cmds := hs2.setF _ _ _
  have hs4 : s4.Queued cmds := (hs3.setF _ _ _).setFlag _ _ _
  have hs5 : s5.Queued cmds := hs4.setFlag _ _ _
  exact hs5.setF _ _ _

/-! ### The functions of Machine/LedgerOps -/

theorem State.Queued.itemFailed {s : State} (hs : s.Queued cmds) (b) : (s.itemFailed b).Queued cmds :=
  ((Settles.refl s).itemFailed _).queued hs

theorem State.Queued.want {s : State} (hs : s.Queued cmds) (b) : (s.want b).Queued cmds := ((Settles.refl s).want _).queued hs

theorem State.Queued.waitFor {s : State} (hs : s.Queued cmds) (j bs) : (s.waitFor j bs).Queued cmds := by
  unfold State.waitFor
  extract_lets since
  exact (hs.updJob _ _ _).foldl (fun _ ht _ => ht.want _) _

theorem execLedgerAppend_answers {s : State} (hs : s.Queued cmds) (q i inp) : OutQueued cmds (execLedgerAppend q i inp s) :=
  .onJob hs fun _ _ ht => ht.endJob _ _ _

theorem execRecordPlace_answers {s0 : State} (hs0 : s0.Queued cmds) (q i) : OutQueued cmds (execRecordPlace q i s0) := by
  unfold execRecordPlace
  refine .clocked hs0 fun s hs => ?_
  split
  · exact .next hs
  · split
    · exact .ite (.next hs) (.next (hs.giveRecord _ _))
    · exact .next hs

theorem execLedgerCheckpoint_answers {s : State} (hs : s.Queued cmds) (q i) : OutQueued cmds (execLedgerCheckpoint q i s) := by
  unfold execLedgerCheckpoint
  refine .onJob hs fun j t ht => ?_
  extract_lets st body
  split
  · exact ht
  · exact ht.sign (hfin := fun u _ hu => (hu.setStream _ _).endJob _ _ _) _ _ _

theorem State.Queued.prove {s : State} (hs : s.Queued cmds) (j kind nodes hashes size) :
    (s.prove j kind nodes hashes size).Queued cmds := by
  unfold State.prove
  extract_lets st bs o
  split
  · exact hs.waitFor _ _
  · exact hs.endJob _ _ _

theorem execLedgerProveInclusion_answers {s : State} (hs : s.Queued cmds) (q i) :
    OutQueued cmds (execLedgerProveInclusion q i s) := by
  unfold execLedgerProveInclusion
  refine .onJob hs fun j t ht => ?_
  split
  · exact ht
  · extract_lets st n
    exact .ite (ht.endJob _ _ _) (ht.prove _ _ _ _ _)

theorem execLedgerProveConsistency_answers {s : State} (hs : s.Queued cmds) (q i) :
    OutQueued cmds (execLedgerProveConsistency q i s) := by
  unfold execLedgerProveConsistency
  refine .onJob hs fun j t ht => ?_
  split
  · exact ht
  · extract_lets st n
    exact .ite (ht.endJob _ _ _) (ht.prove _ _ _ _ _)

theorem execLedgerRead_answers {s : State} (hs : s.Queued cmds) (q i) : OutQueued cmds (execLedgerRead q i s) := by
  unfold execLedgerRead
  refine .onJob hs fun j t ht => ?_
  extract_lets x
  split
  · exact ht.endJob _ _ _
  · extract_lets l n bs
    split
    · exact ht.waitFor _ _
    · exact ht.endJob _ _ _

theorem State.Queued.makeStream {s : State} (hs : s.Queued cmds) (st owner hash job) :
    ∀ t, s.makeStream st owner hash job = some t → t.Queued cmds :=
  fun _ e => ((Settles.refl s).makeStream _ _ _ _ e).queued hs

theorem execStreamOpen_answers {s : State} (hs : s.Queued cmds) (q i) : OutQueued cmds (execStreamOpen q i s) := by
  unfold execStreamOpen
  refine .onJob hs fun j t ht => ?_
  split
  · exact ht.endJob _ _ _
  · split
    · exact ht.endJob _ _ _
    · rename_i u e
      have hu : u.Queued cmds := ht.makeStream _ _ _ _ _ e
      exact hu.endJob _ _ _

theorem execStreamClose_answers {s : State} (hs : s.Queued cmds) (q i) : OutQueued cmds (execStreamClose q i s) := by
  unfold execStreamClose
  refine .onJob hs fun j t ht => ?_
  extract_lets st t1
  have ht1 : t1.Queued cmds := (ht.setF _ _ _).setF _ _ _
  exact .ite ht ((ht1.placeStreamState _ _).endJob _ _ _)

theorem execSealWrite_answers {s : State} (hs : s.Queued cmds) (q i inp) : OutQueued cmds (execSealWrite q i inp s) := by
  unfold execSealWrite
  refine .onJob hs fun j t ht => ?_
  split
  · exact ht
  · extract_lets d t1
    have ht1 : t1.Queued cmds := by
      unfold t1
      refine ht.foldl (fun u hu k => ?_) _
      extract_lets b _
      exact .ite (hu.keep.discardBlock _ _) (hu.keep.place _ _ _)
    exact ht1.endJob _ _ _

theorem execSealRead_answers {s : State} (hs : s.Queued cmds) (q i) : OutQueued cmds (execSealRead q i s) := by
  unfold execSealRead
  refine .onJob hs fun j t ht => ?_
  split
  · exact ht
  · split
    · exact ht.waitFor _ _
    · exact ht.endJob _ _ _

theorem execSealAnchorWarm_answers {s : State} (hs : s.Queued cmds) (q i) : OutQueued cmds (execSealAnchorWarm q i s) :=
  .onJob hs fun _ _ ht => .ite ht (.ite (ht.updJob _ _ _) ((ht.askClose.endJob _ _ _).updJob _ _ _))

theorem State.Queued.coldStart {s : State} (hs : s.Queued cmds) : s.coldStart.Queued cmds := (Settles.refl s).coldStart.queued hs

theorem State.Queued.coldAdvance {s : State} (hs : s.Queued cmds) : s.coldAdvance.Queued cmds :=
  (Settles.refl s).coldAdvance.queued hs

theorem execSealAnchorCold_answers {s : State} (hs : s.Queued cmds) (q i) : OutQueued cmds (execSealAnchorCold q i s) :=
  .onJob hs fun _ _ ht => .ite ht (.ite (.ite (ht.updJob _ _ _) (ht.coldStart.updJob _ _ _)) (.ite
      (ht.endJob _ _ _) ht.coldAdvance))

theorem execColdAnchorEpochBurn_answers {s0 : State} (hs0 : s0.Queued cmds) (ok) :
    OutQueued cmds (execColdAnchorEpochBurn ok s0) := by
  unfold execColdAnchorEpochBurn
  refine .clocked hs0 fun s00 hs00 => ?_
  extract_lets s
  have hs : s.Queued cmds := hs00.coldAdvance
  split
  · split
    · exact .next hs
    · split
      · exact .next ((hs.raiseErr _ _ _ _).count _ _ _)
      · extract_lets s1 _ _ s2
        have hs1 : s1.Queued cmds := hs.foldl (fun _ ht _ => (ht.burn _ _).count _ _ _) _
        have hs2 : s2.Queued cmds := hs1.keep
        exact .next hs2.otpShow.loadClassO.coldAdvance
  · exact .next hs

/-! ### The functions of Machine/Farm -/

theorem State.Queued.setSession {s : State} (hs : s.Queued cmds) (n x2) : (s.setSession n x2).Queued cmds := hs

theorem State.Queued.failSession {s : State} (hs : s.Queued cmds) (n cause core) : (s.failSession n cause core).Queued cmds := by
  unfold State.failSession
  extract_lets x f s1 s2
  have hs1 : s1.Queued cmds := ((hs.setSession _ _).count _ _ _).raiseFault _ _ _ _
  have hs2 : s2.Queued cmds := .ite hs1 (hs1.raiseFault _ _ _ _)
  split
  · exact hs2
  · exact hs2.engineFault _ _ _ _

theorem State.Queued.startCall {s : State} (hs : s.Queued cmds) (n h core) : (s.startCall n h core).Queued cmds := by
  unfold State.startCall
  extract_lets x others len rest s1 _ s2
  have hs1 : s1.Queued cmds := hs.setSession _ _
  have hs2 : s2.Queued cmds := hs1.keep
  exact .ite (hs2.count _ _ _) hs2

theorem State.Queued.markStalls {s : State} (hs : s.Queued cmds) : s.markStalls.Queued cmds := by
  unfold State.markStalls
  refine hs.foldl (fun t ht e => ?_) _
  split
  · exact .ite ((ht.setSession _ _).count _ _ _) ht
  · exact ht

theorem State.Queued.farmTake {s : State} (hs : s.Queued cmds) (n) : (s.farmTake n).Queued cmds := by
  induction n generalizing s with
  | zero => exact hs.markStalls
  | succ n ih =>
    unfold State.farmTake
    split
    · exact ih (hs.failSession _ _ _)
    · split
      · exact hs.markStalls
      · split
        · exact hs.markStalls
        · split
          · exact hs.markStalls
          · exact ih (hs.startCall _ _ _)

theorem State.Queued.farm {s : State} (hs : s.Queued cmds) : s.farm.Queued cmds := hs.farmTake _

theorem State.Queued.issueCall {s : State} (hs : s.Queued cmds) (n j h) : (s.issueCall n j h).Queued cmds := by
  unfold State.issueCall
  extract_lets x
  exact .ite (hs.failSession _ _ _) ((hs.setSession _ _).farm)

theorem execHashCallStart_answers {s0 : State} (hs0 : s0.Queued cmds) (n q i sha2 masked fin blocks) :
    OutQueued cmds (execHashCallStart n q i sha2 masked fin blocks s0) := by
  unfold execHashCallStart
  refine .clocked hs0 fun s hs => ?_
  split
  · exact .next hs
  · exact .ite (.next hs) (.next (hs.issueCall _ _ _))

theorem execHashChainCall_answers {s0 : State} (hs0 : s0.Queued cmds) (n q i masked start pos steps value adrs) :
    OutQueued cmds (execHashChainCall n q i masked start pos steps value adrs s0) := by
  unfold execHashChainCall
  refine .clocked hs0 fun s hs => ?_
  split
  · exact .next hs
  · exact .ite (.next hs) (.ite (.next (hs.failSession _ _ _)) (.next (hs.issueCall _ _ _)))

theorem State.Queued.coreCheckFailed {s : State} (hs : s.Queued cmds) (c) : (s.coreCheckFailed c).Queued cmds := by
  unfold State.coreCheckFailed
  extract_lets l _ s1 s2
  have hs1 : s1.Queued cmds := hs.keep.count _ _ _
  have hs2 : s2.Queued cmds := (hs1.setF _ _ _).count _ _ _
  exact .ite hs1 (hs2.raiseErr _ _ _ _)

theorem State.Queued.callDone {s : State} (hs : s.Queued cmds) (c n h) : (s.callDone c n h).Queued cmds := by
  unfold State.callDone
  extract_lets x s1
  have hs1 : s1.Queued cmds := hs.count _ _ _
  exact .ite (hs1.setSession _ _) (hs1.setSession _ _)

theorem execHashCallEnd_answers {s0 : State} (hs0 : s0.Queued cmds) (c good storeOk) :
    OutQueued cmds (execHashCallEnd c good storeOk s0) := by
  unfold execHashCallEnd
  refine .clocked hs0 fun s hs => ?_
  split
  · exact .next hs
  · split
    · exact .next hs
    · extract_lets s1 x again
      have hs1 : s1.Queued cmds := .ite hs (hs.coreCheckFailed _)
      exact .ite (.next (.ite ((hs1.callDone _ _ _).farm) ((hs1.setSession _ _).farm))) (.ite (.next
          ((hs1.failSession _ _ _).farm)) (.ite (.next ((hs1.callDone _ _ _).farm)) (.ite (.next
              ((hs1.failSession _ _ _).farm)) (.next (((hs1.setSession _ _).count _ _ _).farm)))))

theorem execMaskedCallWaitTimeout_answers {s0 : State} (hs0 : s0.Queued cmds) (n) :
    OutQueued cmds (execMaskedCallWaitTimeout n s0) := by
  unfold execMaskedCallWaitTimeout
  refine .clocked hs0 fun s hs => ?_
  split
  · exact .next hs
  · split
    · exact .next hs
    · extract_lets s1
      have hs1 : s1.Queued cmds := hs.setSession _ _
      split
      · exact .next hs1
      · exact .next (((hs1.letGo _).updJob _ _ _).count _ _ _)

theorem execHshCoreEnableWrite_answers {s0 : State} (hs0 : s0.Queued cmds) (v) : OutQueued cmds (execHshCoreEnableWrite v s0) := by
  unfold execHshCoreEnableWrite
  refine .mmio hs0 fun s hs => ?_
  extract_lets s1
  have hs1 : s1.Queued cmds := hs.backOnline _ _ _
  exact .ite (.next ((hs1.setF _ _ _).farm)) (.next (hs.count _ _ _))

/-! ### The functions of Machine/MarBundle -/

theorem State.Queued.clearReservations {s : State} (hs : s.Queued cmds) (c rows) : (s.clearReservations c rows).Queued cmds :=
  .ite hs (hs.foldl (fun _ ht _ => .ite (ht.setCore _ _) ht) _)

theorem State.Queued.farmAct {s : State} (hs : s.Queued cmds) (j a) : (s.farmAct j a).Queued cmds := by
  unfold State.farmAct
  split
  · exact hs.setSession _ _
  · exact hs.issueCall _ _ _
  · exact hs.closeSession _

theorem State.Queued.putExe {s : State} (hs : s.Queued cmds) (c n j e) : (s.putExe c n j e).Queued cmds := by
  unfold State.putExe
  extract_lets _ s1 _ s2 _ s3
  have hs1 : s1.Queued cmds := hs.keep.setCore _ _
  have hs2 : s2.Queued cmds := hs1.setQuarter _ _ _
  have hs3 : s3.Queued cmds := (hs2.setGather _ _).clearReservations _ _
  exact hs3.foldl (fun _ ht _ => ht.farmAct _ _) _

theorem State.Queued.recordFault {s : State} (hs : s.Queued cmds) (c f kernel addr) :
    (s.recordFault c f kernel addr).Queued cmds := by
  unfold State.recordFault
  split
  · exact hs
  · extract_lets s1
    have hs1 : s1.Queued cmds := (((((hs.setFlag _ _ _).setFlag _ _ _).setFlag _ _ _).setF _ _ _).setF _ _ _).setF _ _ _
    exact ((hs1.setF _ _ _).setF _ _ _).setF _ _ _

/-! ### The functions of Machine/Evidence -/

theorem State.Queued.showBuf {s : State} (hs : s.Queued cmds) : s.showBuf.Queued cmds := hs

theorem State.Queued.freeBuf {s : State} (hs : s.Queued cmds) : s.freeBuf.Queued cmds := hs

theorem State.Queued.tamperRecords {s : State} (hs : s.Queued cmds) (sources resp power) :
    (s.tamperRecords sources resp power).Queued cmds :=
  hs.foldl (fun _ ht _ => ht.journal _ _) _

theorem State.Queued.evidenceJournal {s : State} (hs : s.Queued cmds) : s.evidenceJournal.Queued cmds :=
  (Settles.refl s).evidenceJournal.queued hs

theorem State.Queued.putBuf {s : State} (hs : s.Queued cmds) (e) : (s.putBuf e).Queued cmds := by
  unfold State.putBuf
  split
  · exact hs.keep.showBuf
  · extract_lets old last _ s1
    have hs1 : s1.Queued cmds := hs.keep
    exact (hs1.raiseErr _ _ _ _).showBuf

/-! ### The functions of Machine/StoreCmds -/

theorem State.Queued.withStoreId {s : State} (hs : s.Queued cmds) (d) : (s.withStoreId d).Queued cmds := hs

theorem State.Queued.openRefused {s : State} (hs : s.Queued cmds) (res d) : (s.openRefused res d).Queued cmds := by
  unfold State.openRefused
  extract_lets _ s1
  have hs1 : s1.Queued cmds := hs.keep
  exact ((hs1.setF _ _ _).setF _ _ _).raiseErr _ _ _ _

theorem State.Queued.openLoad {s0 : State} (hs0 : s0.Queued cmds) (d res) : (s0.openLoad d res).Queued cmds := by
  unfold State.openLoad
  extract_lets s _ s1
  have hs : s.Queued cmds := hs0.withStoreId _
  have hs1 : s1.Queued cmds := hs.keep
  exact (hs1.setF _ _ _).foldl (fun _ ht _ => ht.want _) _

theorem State.Queued.rootPresented {s : State} (hs : s.Queued cmds) (d) : (s.rootPresented d).Queued cmds := by
  unfold State.rootPresented
  extract_lets r
  exact .ite (hs.openLoad _ _) (hs.openRefused _ _)

theorem State.Queued.placeRange {s : State} (hs : s.Queued cmds) (r) : (s.placeRange r).Queued cmds := by
  unfold State.placeRange
  split
  · exact hs.place _ _ _
  · exact hs.place _ _ _

theorem State.Queued.openAdvance {s : State} (hs : s.Queued cmds) (v) : (s.openAdvance v).Queued cmds :=
  ((Settles.refl s).openAdvance _).queued hs

theorem State.Queued.formatBurned {s : State} (hs : s.Queued cmds) : s.formatBurned.Queued cmds := hs

theorem State.Queued.formatAdvance {s : State} (hs : s.Queued cmds) : s.formatAdvance.Queued cmds :=
  (Settles.refl s).formatAdvance.queued hs

theorem State.Queued.storeSettle {s : State} (hs : s.Queued cmds) (v) : (s.storeSettle v).Queued cmds :=
  (s.storeSettle_settles _).queued hs

theorem State.Queued.fetchDone {s : State} (hs : s.Queued cmds) (o d) : (s.fetchDone o d).Queued cmds := by
  unfold State.fetchDone
  extract_lets s1 r
  have hs1 : s1.Queued cmds := hs.issue _
  have hr : r.2.Queued cmds := hs1.fetched _ _
  exact .ite (hs1.rootPresented _) (.ite (hr.itemFailed _) (hr.keep rfl))

theorem State.Queued.noteNoSpace {s : State} (hs : s.Queued cmds) (c b) : (s.noteNoSpace c b).Queued cmds := by
  unfold State.noteNoSpace
  exact hs.keep.raiseErr _ _ _ _

theorem State.Queued.scEnded {s : State} (hs : s.Queued cmds) (c o status d) : (s.scEnded c o status d).Queued cmds := by
  unfold State.scEnded
  split
  · exact .ite (hs.fetchDone _ _) (.ite (.ite (hs.openRefused _ _) (hs.itemFailed _)) (hs.repost _ _))
  · exact .ite (hs.keep.persistDone _) (.ite ((hs.noteNoSpace _ _).repost _ _) (hs.repost _ _))
  · exact .ite hs (hs.repost _ _)

theorem execScComplete_answers {s0 : State} (hs0 : s0.Queued cmds) (c tag status d v) :
    OutQueued cmds (execScComplete c tag status d v s0) := by
  unfold execScComplete
  refine .mmio hs0 fun u hu => ?_
  extract_lets s
  have hs : s.Queued cmds := hu.setHeld _ _ _
  split
  · exact .next (hs.count _ _ _)
  · rename_i s1 e
    have hs1 : s1.Queued cmds := (hs.scTake _ _).of_snd e
    exact .next ((hs1.scEnded _ _ _ _).storeSettle _)

theorem execCommitGroupClose_answers {s0 : State} (hs0 : s0.Queued cmds) : OutQueued cmds (execCommitGroupClose s0) :=
  .clocked hs0 fun _ hs => .ite (.next hs.closeGroup) (.next hs)

theorem execSealRetryTimer_answers {s0 : State} (hs0 : s0.Queued cmds) : OutQueued cmds (execSealRetryTimer s0) := by
  unfold execSealRetryTimer
  refine .clocked hs0 fun s hs => ?_
  split
  · exact .next hs
  · exact .next ((hs.keep.count _ _ _).scAsk _)

theorem State.Queued.storageTimeout {s : State} (hs : s.Queued cmds) (j) : (s.storageTimeout j).Queued cmds := by
  unfold State.storageTimeout
  extract_lets w s1 own _ s2
  have hs1 : s1.Queued cmds := (hs.letGo _).updJob _ _ _
  have hs2 : s2.Queued cmds := hs1.keep
  exact (hs2.count _ _ _).raiseErr _ _ _ _

theorem execStorageTimeLimit_answers {s0 : State} (hs0 : s0.Queued cmds) (q i) : OutQueued cmds (execStorageTimeLimit q i s0) := by
  unfold execStorageTimeLimit
  refine .clocked hs0 fun s hs => ?_
  split
  · exact .next hs
  · exact .ite (.next hs) (.next (hs.storageTimeout _))

theorem State.Queued.sealRefuse {s : State} (hs : s.Queued cmds) : s.sealRefuse.Queued cmds := hs

theorem State.Queued.startOpen {s : State} (hs : s.Queued cmds) : s.startOpen.Queued cmds := hs

theorem State.Queued.startForce {s : State} (hs : s.Queued cmds) : s.startForce.Queued cmds := by
  unfold State.startForce
  extract_lets d s1 _ s2
  have hs1 : s1.Queued cmds := hs.journal _ _
  have hs2 : s2.Queued cmds := hs1.keep
  exact (hs2.setF _ _ _).openLoad _ _

theorem State.Queued.startFormat {s : State} (hs : s.Queued cmds) : s.startFormat.Queued cmds := by
  unfold State.startFormat
  split
  rename_i b s1 e
  have hs1 : s1.Queued cmds := ((hs.drbgCalls 7 1).draw 16).of_snd e
  extract_lets _ s2
  have hs2 : s2.Queued cmds := hs1.keep
  split
  · exact (hs2.setF _ _ _).otpAsk _
  · exact hs2

theorem State.Queued.sealCtrl {s : State} (hs : s.Queued cmds) (v img) : (s.sealCtrl v img).Queued cmds := by
  unfold State.sealCtrl
  split
  · exact hs
  · exact hs.startOpen
  · exact hs.startForce.openAdvance _
  · exact hs.startFormat
  · exact hs.sealRefuse

theorem execStoreOpen_answers {s0 : State} (hs0 : s0.Queued cmds) (v) : OutQueued cmds (execStoreOpen v s0) :=
  .mmio hs0 fun _ hs => .next (hs.sealCtrl _ _)

theorem execForceOpen_answers {s0 : State} (hs0 : s0.Queued cmds) (v img) : OutQueued cmds (execForceOpen v img s0) :=
  .mmio hs0 fun _ hs => .next (hs.sealCtrl _ _)

theorem execFormat_answers {s0 : State} (hs0 : s0.Queued cmds) (v) : OutQueued cmds (execFormat v s0) :=
  .mmio hs0 fun _ hs => .next (hs.sealCtrl _ _)

theorem execSealCtrlRefused_answers {s0 : State} (hs0 : s0.Queued cmds) (v) : OutQueued cmds (execSealCtrlRefused v s0) :=
  .mmio hs0 fun _ hs => .ite (.next hs.sealRefuse) (.next (hs.sealCtrl _ _))

theorem execSealRangeWrite_answers {s0 : State} (hs0 : s0.Queued cmds) (r v) :
    OutQueued cmds (execSealRangeWrite r v s0) := by
  unfold execSealRangeWrite
  refine .mmio hs0 fun u hu => ?_
  extract_lets s base span f s1 short s2
  have hs : s.Queued cmds := hu.setHeld _ _ _
  have hs1 : s1.Queued cmds := ((hs.setF _ _ _).setF _ _ _).placeRange _
  have hs2 : s2.Queued cmds := hs1.foldl (fun _ ht _ => ht.trySpare _) _
  exact .ite (.next hs.sealRefuse) (.next hs2.keep)

theorem State.Queued.loadStream {s : State} (hs : s.Queued cmds) (m) : (s.loadStream m).Queued cmds := by
  unfold State.loadStream
  extract_lets n s1 s2 s3
  have hs1 : s1.Queued cmds := hs.setStream _ _
  have hs2 : s2.Queued cmds := ((hs1.setF _ _ _).setF _ _ _).setF _ _ _
  have hs3 : s3.Queued cmds := hs2.setF _ _ _
  exact .ite hs3 ((hs3.setF _ _ _).trySpare _)

theorem execQreStreamStateLoaded_answers {s0 : State} (hs0 : s0.Queued cmds) (img) :
    OutQueued cmds (execQreStreamStateLoaded img s0) := by
  unfold execQreStreamStateLoaded
  refine .clocked hs0 fun s hs => ?_
  split
  · exact .next hs
  · extract_lets _ _ s1 s2 s3
    have hs1 : s1.Queued cmds := hs.keep
    have hs2 : s2.Queued cmds := hs1.foldl (fun _ ht _ => ht.loadStream _) _
    have hs3 : s3.Queued cmds := ((hs2.setFlag _ _ _).journalDrain).evidenceJournal
    refine .next ?_
    split
    · exact hs3.applyFloor _
    · exact hs3

theorem execStreamRelease_answers {s0 : State} (hs0 : s0.Queued cmds) (v) : OutQueued cmds (execStreamRelease v s0) := by
  unfold execStreamRelease
  refine .mmio hs0 fun s hs => ?_
  extract_lets n x areas used s1 s2 _ s3 s4 s5
  have hs1 : s1.Queued cmds := by
    unfold s1
    refine hs.foldl (fun t ht b => ?_) _
    split
    · exact ht
    · exact ht.discardBlock _ _
  have hs2 : s2.Queued cmds := (hs1.setStream _ _).dropF _
  have hs3 : s3.Queued cmds := hs2.keep
  have hs4 : s4.Queued cmds := hs3.place _ _ _
  have hs5 : s5.Queued cmds := hs4.foldl (fun _ ht _ => ht.trySpare _) _
  exact .ite (.next hs) (.ite (.next (hs.count _ _ _)) (.next hs5.keep))

theorem execJournalEvent_answers {s0 : State} (hs0 : s0.Queued cmds) (ev d) : OutQueued cmds (execJournalEvent ev d s0) :=
  .clocked hs0 fun _ hs => .next (hs.journal _ _)

theorem execHotKeyLoad_answers {s0 : State} (hs0 : s0.Queued cmds) (k) : OutQueued cmds (execHotKeyLoad k s0) :=
  .clocked hs0 fun _ hs => .ite (.next hs) (.next ((hs.makeHot _).count _ _ _))

/-! ### The functions of Machine/Recovery -/

theorem State.Queued.voidRecord {s : State} (hs : s.Queued cmds) (j status detail) :
    (s.voidRecord j status detail).Queued cmds := by
  unfold State.voidRecord
  split
  · split
    · exact hs
    · extract_lets x s1
      have hs1 : s1.Queued cmds := hs.setStream _ _
      exact hs1.giveRecord _ _
  · exact hs

theorem State.Queued.undoKey {s : State} (hs : s.Queued cmds) (j) : (s.undoKey j).Queued cmds := by
  unfold State.undoKey
  split
  · exact hs
  · extract_lets own _
    exact .ite (hs.keep.removeKey _) hs

theorem State.Queued.disown {s : State} (hs : s.Queued cmds) (q i) : (s.disown q i).Queued cmds := hs

theorem State.Queued.chainOn {s : State} (hs : s.Queued cmds) (j) : (s.chainOn j).Queued cmds := .ite (hs.chainStep _ _) hs

theorem State.Queued.endByRecovery {s : State} (hs : s.Queued cmds) (j detail) : (s.endByRecovery j detail).Queued cmds := by
  unfold State.endByRecovery
  extract_lets dispatched status s1 s2 k s3 s4
  have hs1 : s1.Queued cmds := (((hs.letGo _).undoKey _).disown _ _).voidRecord _ _ _
  have hs2 : s2.Queued cmds := hs1.count _ _ _
  have hs3 : s3.Queued cmds := hs2.updJob _ _ _
  have hs4 : s4.Queued cmds := by
    unfold s4
    split
    · exact hs3.hostWrite _ _ _ _
    · exact hs3
  exact ((hs4.writeW7 _ _).chainOn _).linkDone _

theorem State.Queued.abortJob {s : State} (hs : s.Queued cmds) (j detail) : (s.abortJob j detail).Queued cmds := by
  unfold State.abortJob
  extract_lets s1
  have hs1 : s1.Queued cmds := (((hs.letGo _).undoKey _).disown _ _).voidRecord _ _ _
  exact (hs1.count _ _ _).updJob _ _ _

theorem State.Queued.resetJob {s : State} (hs : s.Queued cmds) (j detail) : (s.resetJob j detail).Queued cmds :=
  .ite (hs.reexec _ _) (hs.abortJob _ _)

theorem State.Queued.resetEntry {s : State} (hs : s.Queued cmds) (q detail i) : (s.resetEntry q detail i).Queued cmds := by
  unfold State.resetEntry
  split
  · exact .ite hs (.ite ((hs.commitWrites _).linkDone _) (hs.endByRecovery _ _))
  · extract_lets _ s1
    have hs1 : s1.Queued cmds := hs.setQueue _ _
    exact (hs1.hostWrite _ _ _ _).count _ _ _

theorem State.Queued.queueReset {s : State} (hs : s.Queued cmds) (q detail) : (s.queueReset q detail).Queued cmds := by
  unfold State.queueReset
  extract_lets n h tail k s1 tag passed y _ s2 s3 s4 s5
  have hs1 : s1.Queued cmds := hs.foldl (fun _ ht _ => ht.resetEntry _ _ _) _
  have hs2 : s2.Queued cmds := hs1.keep
  have hs3 : s3.Queued cmds := (((hs2.setF _ _ _).setF _ _ _).setF _ _ _).setFlag _ _ _
  have hs4 : s4.Queued cmds := (hs3.setQueue _ _).headWrite _ _
  have hs5 : s5.Queued cmds := hs4.headEvent _ _ _ _
  exact ((hs5.setF _ _ _).setFlag _ _ _).postEvent _ _ _

theorem execQueueReset_answers {s0 : State} (hs0 : s0.Queued cmds) (q v) : OutQueued cmds (execQueueReset q v s0) := by
  unfold execQueueReset
  refine .mmio hs0 fun s hs => ?_
  extract_lets s1 s2
  have hs1 : s1.Queued cmds := hs.qcPlain _ _
  have hs2 : s2.Queued cmds := (hs1.setFlag _ _ _).setF _ _ _
  exact .next (.ite ((hs2.queueReset _ _).sliceDrained _) hs2)

theorem execSliceReset_answers {s0 : State} (hs0 : s0.Queued cmds) (sl) : OutQueued cmds (execSliceReset sl s0) := by
  unfold execSliceReset
  refine .mmio hs0 fun s hs => ?_
  split
  · exact .next (hs.cfgRefuse _ _)
  · split
    · exact .next (hs.cfgRefuse _ _)
    · extract_lets s1
      have hs1 : s1.Queued cmds := (hs.setF _ _ _).cfgOk _
      exact .next (hs1.foldl (fun _ ht _ => .ite (ht.queueReset _ _) ((ht.setFlag _ _ _).setF _ _ _)) _)

theorem State.Queued.dropSlice {s : State} (hs : s.Queued cmds) (sl) : (s.dropSlice sl).Queued cmds := by
  unfold State.dropSlice
  extract_lets qs es queueF ringF s1 t1
  have hs1 : s1.Queued cmds := hs.dropF _
  have ht1 : t1.Queued cmds := hs1.foldl (fun _ ht _ => ht.setQueue _ _) _
  exact ht1.foldl (fun _ ht _ => ht.setRing _ _) _

theorem execSliceResetComplete_answers {s0 : State} (hs0 : s0.Queued cmds) (sl) :
    OutQueued cmds (execSliceResetComplete sl s0) := by
  unfold execSliceResetComplete
  refine .clocked hs0 fun s hs => ?_
  split
  · exact .next hs
  · extract_lets s1 _ s2
    have hs1 : s1.Queued cmds := hs.dropSlice _
    have hs2 : s2.Queued cmds := ((hs1.setSlice _ _).setMbxPending _ _).removeKeys _
    exact .next ((hs2.setF _ _ _).setFlag _ _ _)

theorem State.Queued.finishResets {s : State} (hs : s.Queued cmds) : s.finishResets.Queued cmds :=
  hs.foldl (fun _ ht _ => (ht.queueReset _ _).sliceDrained _) _

theorem State.Queued.discardJobs {s : State} (hs : s.Queued cmds) (detail) : (s.discardJobs detail).Queued cmds := by
  unfold State.discardJobs
  extract_lets open' s1 _
  have hs1 : s1.Queued cmds := hs.foldl (fun _ ht _ => (((ht.letGo _).undoKey _).disown _ _).voidRecord _ _ _) _
  exact hs1.keep

theorem State.Queued.dropChannels {s : State} (hs : s.Queued cmds) : s.dropChannels.Queued cmds := by
  unfold State.dropChannels
  extract_lets reqs
  exact hs.keep.foldl (fun _ ht _ => ht.repost _ _) _

theorem State.Queued.clearFunction {s : State} (hs : s.Queued cmds) (detail cs) : (s.clearFunction detail cs).Queued cmds := by
  unfold State.clearFunction
  extract_lets s1 s2 rings s3 s4 _ _
  have hs1 : s1.Queued cmds := (hs.discardJobs _).dropChannels
  have hs2 : s2.Queued cmds := hs1.dropClasses _
  have hs3 : s3.Queued cmds := hs2.keep
  have hs4 : s4.Queued cmds := hs3.removeKeys _
  exact hs4.keep

theorem execFlr_answers {s0 : State} (hs0 : s0.Queued cmds) : OutQueued cmds (execFlr s0) := by
  unfold execFlr
  refine .clocked hs0 fun s hs => ?_
  extract_lets s1 _
  have hs1 : s1.Queued cmds := hs.clearFunction _ _
  exact .next hs1.keep

theorem State.Queued.clearLink {s : State} (hs : s.Queued cmds) : s.clearLink.Queued cmds := by
  unfold State.clearLink
  extract_lets s1 p
  have hs1 : s1.Queued cmds := hs.clearFunction _ _
  exact hs1.keep

theorem execPerstAssert_answers {s : State} (hs : s.Queued cmds) : OutQueued cmds (execPerstAssert s) := by
  unfold execPerstAssert
  extract_lets s1 _ _
  have hs1 : s1.Queued cmds := hs.awake.clearLink
  exact .next hs1.keep

theorem execPerstRelease_answers {s : State} (hs : s.Queued cmds) : OutQueued cmds (execPerstRelease s) := by
  unfold execPerstRelease
  exact .ite (.next hs) (.next hs.keep)

theorem execHotReset_answers {s0 : State} (hs0 : s0.Queued cmds) : OutQueued cmds (execHotReset s0) := by
  unfold execHotReset
  refine .clocked hs0 fun s hs => ?_
  extract_lets s1 _
  have hs1 : s1.Queued cmds := hs.awake.clearLink
  exact .next hs1.keep

theorem execQuarterScrubComplete_answers {s0 : State} (hs0 : s0.Queued cmds) (c n) :
    OutQueued cmds (execQuarterScrubComplete c n s0) :=
  .clocked hs0 fun _ hs => .ite (.next (hs.setQuarter _ _ _)) (.next hs)

theorem execScratchPageScrubComplete_answers {s0 : State} (hs0 : s0.Queued cmds) (g p) :
    OutQueued cmds (execScratchPageScrubComplete g p s0) := by
  unfold execScratchPageScrubComplete
  refine .clocked hs0 fun s hs => ?_
  extract_lets x y
  exact .ite (.next (hs.setGather _ _)) (.next hs)

/-! ### The functions of Machine/MarCmds -/

theorem State.Queued.placeMember {s : State} (hs : s.Queued cmds) (j sess pages member c) :
    (s.placeMember j sess pages member c).Queued cmds := by
  unfold State.placeMember
  split
  · exact hs
  · extract_lets s1 _
    have hs1 : s1.Queued cmds := hs.setQuarter _ _ _
    exact hs1.keep.updJob _ _ _

theorem State.Queued.takePages {s : State} (hs : s.Queued cmds) (g j pages) : (s.takePages g j pages).Queued cmds := hs

theorem State.Queued.placeOn {s : State} (hs : s.Queued cmds) (j cores) : (s.placeOn j cores).Queued cmds := by
  unfold State.placeOn
  extract_lets need g pages
  exact (hs.foldl (fun _ ht _ => ht.placeMember _ _ _ _ _) _).takePages _ _ _

theorem State.Queued.placeBatch {s : State} (hs : s.Queued cmds) (j) : (s.placeBatch j).Queued cmds := by
  unfold State.placeBatch
  extract_lets n
  split
  · exact hs
  · split
    · exact hs.placeMember _ _ _ _ _
    · exact hs

theorem execJobPlace_answers {s0 : State} (hs0 : s0.Queued cmds) (q i) : OutQueued cmds (execJobPlace q i s0) := by
  unfold execJobPlace
  refine .clocked hs0 fun s hs => ?_
  split
  · exact .next hs
  · split
    · exact .next hs
    · split
      · exact .next (hs.placeBatch _)
      · split
        · exact .next hs
        · split
          · exact .ite (.next (hs.placeOn _ _)) (.next hs)
          · exact .ite (.next ((hs.count _ _ _).updJob _ _ _)) (.next hs)

theorem execQuarterLoaded_answers {s0 : State} (hs0 : s0.Queued cmds) (c n inp) :
    OutQueued cmds (execQuarterLoaded c n inp s0) := by
  unfold execQuarterLoaded
  refine .clocked hs0 fun s hs => ?_
  extract_lets x
  split
  · exact .next hs
  · exact .ite (.next hs) (.next (hs.setQuarter _ _ _))

theorem State.Queued.haltCore {s : State} (hs : s.Queued cmds) (c f) : (s.haltCore c f).Queued cmds := hs

theorem State.Queued.coreFault {s : State} (hs : s.Queued cmds) (c j k pc f0) : (s.coreFault c j k pc f0).Queued cmds := by
  unfold State.coreFault
  extract_lets f s1 s2
  have hs1 : s1.Queued cmds := hs.recordFault _ _ _ _
  have hs2 : s2.Queued cmds := .ite (hs1.count _ _ _) hs1
  exact .ite (hs2.haltCore _ _) ((hs2.count _ _ _).failJob _ _ _)

theorem State.Queued.switchTo {s : State} (hs : s.Queued cmds) (c n) : (s.switchTo c n).Queued cmds := by
  unfold State.switchTo
  extract_lets x _
  split
  · exact hs
  · extract_lets run s1 s2 s3
    have hs1 : s1.Queued cmds := hs.setCore _ _
    have hs2 : s2.Queued cmds := hs1.setQuarter _ _ _
    have hs3 : s3.Queued cmds := .ite (hs2.updJob _ _ _) hs2
    split
    · exact .ite (hs3.coreFault _ _ _ _ _) hs3
    · exact hs3

theorem execCoreSwitch_answers {s0 : State} (hs0 : s0.Queued cmds) (c) : OutQueued cmds (execCoreSwitch c s0) := by
  unfold execCoreSwitch
  refine .clocked hs0 fun s hs => ?_
  split
  · exact .next (hs.switchTo _ _)
  · exact .next hs

theorem State.Queued.endRun {s : State} (hs : s.Queued cmds) (c n) : (s.endRun c n).Queued cmds := by
  unfold State.endRun
  extract_lets r _
  split
  · exact hs
  · exact .ite hs (hs.setQuarter _ _ _)

theorem State.Queued.afterStep {s : State} (hs : s.Queued cmds) (c n j k pc e) : (s.afterStep c n j k pc e).Queued cmds := by
  unfold State.afterStep
  split
  · exact (hs.putExe _ _ _ _).coreFault _ _ _ _ _
  · exact (hs.putExe _ _ _ _).endRun _ _

theorem State.Queued.releaseSync {s : State} (hs : s.Queued cmds) (j) : (s.releaseSync j).Queued cmds :=
  hs.foldl (fun _ ht _ => .ite (ht.setCore _ _) ht) _

theorem State.Queued.waitCycle {s : State} (hs : s.Queued cmds) (c n j k masks hash) :
    (s.waitCycle c n j k masks hash).Queued cmds := by
  unfold State.waitCycle
  extract_lets x _ _ s1 e
  have hs1 : s1.Queued cmds := (hs.setCore _ _).setQuarter _ _ _
  exact hs1.afterStep _ _ _ _ _ _

theorem State.Queued.runBundle {s : State} (hs : s.Queued cmds) (c n j k f) : (s.runBundle c n j k f).Queued cmds := by
  unfold State.runBundle
  extract_lets _ _ _ s1
  have hs1 : s1.Queued cmds := (hs.setCore _ _).setQuarter _ _ _
  exact hs1.afterStep _ _ _ _ _ _

theorem State.Queued.stepCore {s : State} (hs : s.Queued cmds) (c n j k) : (s.stepCore c n j k).Queued cmds := by
  unfold State.stepCore
  extract_lets r b
  exact .ite hs (.ite (.ite (hs.waitCycle _ _ _ _ _ _) (hs.endRun _ _)) (.ite (.ite (hs.releaseSync _)
      (hs.waitCycle _ _ _ _ _ _)) (.ite (hs.waitCycle _ _ _ _ _ _) (.ite (hs.waitCycle _ _ _ _ _ _) (hs.runBundle _ _ _ _ _)))))

theorem execBundleExecute_answers {s0 : State} (hs0 : s0.Queued cmds) (c) : OutQueued cmds (execBundleExecute c s0) := by
  unfold execBundleExecute
  refine .clocked hs0 fun s hs => ?_
  split
  · exact .next hs
  · split
    · exact .next hs
    · split
      · exact .next hs
      · exact .next (hs.stepCore _ _ _ _)

theorem State.Queued.stallFrom {s : State} (hs : s.Queued cmds) (j since) : (s.stallFrom j since).Queued cmds :=
  (hs.stallJob _).updJob _ _ _

theorem execJobSuspend_answers {s0 : State} (hs0 : s0.Queued cmds) (c) : OutQueued cmds (execJobSuspend c s0) := by
  unfold execJobSuspend
  refine .clocked hs0 fun s hs => ?_
  split
  · exact .next hs
  · split
    · exact .next hs
    · extract_lets r x s1 _
      have hs1 : s1.Queued cmds := (hs.stallFrom _ _).setQuarter _ _ _
      exact .ite (.next hs) (.next ((hs1.setCore _ _).count _ _ _))

theorem execJobUnsuspend_answers {s0 : State} (hs0 : s0.Queued cmds) (c n) : OutQueued cmds (execJobUnsuspend c n s0) :=
  .clocked hs0 fun _ hs => .ite (.next (hs.switchTo _ _)) (.next hs)

theorem State.Queued.drained' {s : State} (hs : s.Queued cmds) (j k x3 inp) : (s.drained' j k x3 inp).Queued cmds := by
  unfold State.drained'
  extract_lets fmt d _
  exact hs.endJob _ _ _

theorem execDrainComplete_answers {s0 : State} (hs0 : s0.Queued cmds) (q i inp) :
    OutQueued cmds (execDrainComplete q i inp s0) := by
  unfold execDrainComplete
  refine .clocked hs0 fun s hs => ?_
  split
  · exact .next hs
  · split
    · exact .next hs
    · extract_lets l s1
      have hs1 : s1.Queued cmds := by
        unfold s1
        split
        · exact hs
        · split
          · exact .ite (hs.drained' _ _ _ _) hs
          · exact hs
      split
      · exact .next (.getD (hs1.endExecution _) hs1)
      · exact .next hs1

theorem State.Queued.unplace {s : State} (hs : s.Queued cmds) (j) : (s.unplace j).Queued cmds := (hs.scrubJob _ _).updJob _ _ _

theorem State.Queued.resetCore {s : State} (hs : s.Queued cmds) (c) : (s.resetCore c).Queued cmds := by
  unfold State.resetCore
  extract_lets s1 s2 times _ s3 s4
  have hs1 : s1.Queued cmds := by
    unfold s1
    refine hs.foldl (fun t ht n => ?_) _
    split
    · exact ht
    · split
      · exact ht.resetJob _ _
      · exact ht.resetJob _ _
      · exact ht.resetJob _ _
      · exact ht.unplace _
      · exact ht.unplace _
      · exact ht
  have hs2 : s2.Queued cmds := hs1.foldl (fun _ ht _ => ht.scrubQuarter _ _) _
  have hs3 : s3.Queued cmds := (hs2.setCore _ _).count _ _ _
  have hs4 : s4.Queued cmds := hs3.raiseErr _ _ _ _
  exact .ite ((hs4.setF _ _ _).raiseErr _ _ _ _) hs4

theorem execMarCoreReset_answers {s0 : State} (hs0 : s0.Queued cmds) (c ecc bundle) :
    OutQueued cmds (execMarCoreReset c ecc bundle s0) := by
  unfold execMarCoreReset
  refine .clocked hs0 fun s hs => ?_
  extract_lets s1
  have hs1 : s1.Queued cmds := .ite ((hs.count _ _ _).raiseErr _ _ _ _) hs
  exact .next (hs1.resetCore _)

theorem execMarCoreEnableWrite_answers {s0 : State} (hs0 : s0.Queued cmds) (v) : OutQueued cmds (execMarCoreEnableWrite v s0) := by
  unfold execMarCoreEnableWrite
  refine .mmio hs0 fun s hs => ?_
  extract_lets s1
  have hs1 : s1.Queued cmds := hs.backOnline _ _ _
  exact .ite (.next (hs.count _ _ _)) (.next (hs1.setF _ _ _))

theorem State.Queued.resumeCore {s : State} (hs : s.Queued cmds) (c n j k f lane) : (s.resumeCore c n j k f lane).Queued cmds := by
  unfold State.resumeCore
  extract_lets _ s1
  have hs1 : s1.Queued cmds := hs.setCore _ _
  exact hs1.afterStep _ _ _ _ _ _

theorem execMarFaultResume_answers {s0 : State} (hs0 : s0.Queued cmds) (c v) : OutQueued cmds (execMarFaultResume c v s0) := by
  unfold execMarFaultResume
  refine .mmio hs0 fun s hs => ?_
  extract_lets lane s1 _
  have hs1 : s1.Queued cmds := .ite (hs.setF _ _ _) hs
  split
  · exact .next hs1
  · split
    · split
      · exact .next (hs1.count _ _ _)
      · split
        · exact .next (hs1.setCore _ _)
        · split
          · exact .next (hs1.setCore _ _)
          · exact .next (hs1.resumeCore _ _ _ _ _ _)
    · exact .next (hs1.count _ _ _)

/-! ### The functions of Machine/Admin -/

theorem execTimeStamp_answers {s : State} (hs : s.Queued cmds) (q i inp) : OutQueued cmds (execTimeStamp q i inp s) := by
  unfold execTimeStamp
  refine .onJob hs fun j t ht => ?_
  extract_lets d body _
  exact ht.sign _ _ _ fun _ _ hu => hu.endJob _ _ _

theorem execTimeRead_answers {s : State} (hs : s.Queued cmds) (q i) : OutQueued cmds (execTimeRead q i s) :=
  .onJob hs fun _ _ ht => ht.endJob _ _ _

theorem State.Queued.putKernel {s : State} (hs : s.Queued cmds) (j k) : (s.putKernel j k).Queued cmds := hs

theorem execKernelLoad_answers {s : State} (hs : s.Queued cmds) (q i inp) : OutQueued cmds (execKernelLoad q i inp s) := by
  unfold execKernelLoad
  refine .onJob hs fun j t ht => ?_
  split
  · exact ht
  · split
    · exact ht.endJob _ _ _
    · exact (ht.putKernel _ _).endJob _ _ _

theorem execKernelUnload_answers {s : State} (hs : s.Queued cmds) (q i) : OutQueued cmds (execKernelUnload q i s) := by
  unfold execKernelUnload
  refine .onJob hs fun j t ht => ?_
  split
  · exact ht
  · extract_lets id _ t1
    have ht1 : t1.Queued cmds := ht.keep
    exact .ite ht1 (ht1.endJob _ _ _)

theorem execKernelInfo_answers {s : State} (hs : s.Queued cmds) (q i) : OutQueued cmds (execKernelInfo q i s) := by
  unfold execKernelInfo
  refine .onJob hs fun j t ht => ?_
  split
  · exact ht
  · extract_lets d
    exact ht.endJob _ _ _

theorem State.Queued.placeRun {s : State} (hs : s.Queued cmds) (j) : (s.placeRun j).Queued cmds := by
  unfold State.placeRun
  cases s.chooseCores j with
  | none => exact .ite hs hs
  | some l => exact .ite hs (hs.placeOn _ _)

theorem State.Queued.startQuarters {s : State} (hs : s.Queued cmds) (q i inp k) : (s.startQuarters q i inp k).Queued cmds := by
  unfold State.startQuarters
  refine hs.foldl (fun t ht e => ?_) _
  split
  · exact ht
  · extract_lets x t1
    have ht1 : t1.Queued cmds := .ite (ht.setQuarter _ _ _) ht
    exact .ite (ht1.switchTo _ _) ht1

theorem State.Queued.runTeam {s : State} (hs : s.Queued cmds) (q i k n) : (s.runTeam q i k n).Queued cmds := by
  induction n generalizing s with
  | zero => exact hs
  | succ n ih =>
    unfold State.runTeam
    refine .ite hs (ih (hs.foldl (fun t ht e => ?_) _))
    cases t.quarterJob e.1 e.2 with
    | none => exact .ite ht ht
    | some j => exact .ite (ht.stepCore _ _ _ _) ht

theorem execKernelRun_answers {s : State} (hs : s.Queued cmds) (q i inp) : OutQueued cmds (execKernelRun q i inp s) := by
  unfold execKernelRun
  refine .onJob hs fun j t ht => ?_
  split
  · exact ht
  · extract_lets t1 l
    have ht1 : t1.Queued cmds := ((ht.placeRun _).startQuarters _ _ _ _).runTeam _ _ _ _
    split
    · exact .ite (ht1.drained' _ _ _ _) ht1
    · exact ht1

theorem execPatchQuery_answers {s : State} (hs : s.Queued cmds) (q i) : OutQueued cmds (execPatchQuery q i s) := by
  unfold execPatchQuery
  refine .onJob hs fun j t ht => ?_
  extract_lets d
  exact ht.endJob _ _ _

theorem execSelfTest_answers {s : State} (hs : s.Queued cmds) (q i fails) : OutQueued cmds (execSelfTest q i fails s) := by
  unfold execSelfTest
  refine .onJob hs fun j t ht => ?_
  extract_lets bad d t1
  have ht1 : t1.Queued cmds := ht.foldl (fun _ hu _ => hu.raiseFault _ _ _ _) _
  exact ht1.keep.endJob _ _ _

theorem execLcInfo_answers {s : State} (hs : s.Queued cmds) (q i) : OutQueued cmds (execLcInfo q i s) := by
  unfold execLcInfo
  refine .onJob hs fun j t ht => ?_
  extract_lets d
  exact ht.endJob _ _ _

theorem execAttest_answers {s : State} (hs : s.Queued cmds) (q i inp) : OutQueued cmds (execAttest q i inp s) := by
  unfold execAttest
  refine .onJob hs fun j t ht => ?_
  extract_lets body sk
  split
  · rename_i u e
    have hu : u.Queued cmds := (ht.jobDraw _ _).of_error e
    exact hu
  · rename_i u e
    have hu : u.Queued cmds := (ht.jobDraw _ _).of_ok e
    extract_lets o
    exact hu.endJob _ _ _

/-! ### The functions of Machine/Reset -/

theorem State.Queued.reblind {s : State} (hs : s.Queued cmds) : s.reblind.Queued cmds := by
  unfold State.reblind
  refine hs.foldl (fun t ht m => ?_) _
  extract_lets _ u
  have hu : u.Queued cmds := ht.keep
  exact .ite (hu.seedString _) hu

theorem State.Queued.abandon {s : State} (hs : s.Queued cmds) (l gone) : (s.abandon l gone).Queued cmds :=
  hs.foldl (fun _ ht _ => .ite (ht.abortJob _ _) (ht.resetJob _ _)) _

theorem State.Queued.eraseLine {s : State} (hs : s.Queued cmds) (gone) : (s.eraseLine gone).Queued cmds := by
  unfold State.eraseLine
  extract_lets hit s1 s2
  have hs1 : s1.Queued cmds := ((hs.abandon _ _).count _ _ _).count _ _ _
  have hs2 : s2.Queued cmds := (hs1.setF _ _ _).setF _ _ _
  exact hs2.keep.reblind

theorem State.Queued.respondSession {s : State} (hs : s.Queued cmds) : s.respondSession.Queued cmds := by
  unfold State.respondSession
  extract_lets gone
  exact hs.eraseSession.eraseLine _

theorem State.Queued.respondBound {s : State} (hs : s.Queued cmds) : s.respondBound.Queued cmds := by
  unfold State.respondBound
  extract_lets gone
  exact hs.loseBbk.eraseLine _

theorem State.Queued.alarm {s : State} (hs : s.Queued cmds) (n det) : (s.alarm n det).Queued cmds := by
  unfold State.alarm
  split
  · exact hs
  · extract_lets s1 _
    have hs1 : s1.Queued cmds := (((hs.setFlag _ _ _).setFlag _ _ _).setF _ _ _).count _ _ _
    exact hs1.keep

theorem State.Queued.askCount {s : State} (hs : s.Queued cmds) (e buffered pended) : (s.askCount e buffered pended).Queued cmds :=
  .ite (hs.otpAsk _) (hs.setFlag _ _ _)

theorem State.Queued.runPending {s : State} (hs : s.Queued cmds) : s.runPending.Queued cmds := by
  unfold State.runPending
  extract_lets s1
  have hs1 : s1.Queued cmds := .ite (hs.lockDown.setFlag _ _ _) hs
  exact hs1.foldl (fun _ ht _ => ht.askCount _ _ _) _

theorem State.Queued.decodeLifeCycle {s : State} (hs : s.Queued cmds) : s.decodeLifeCycle.Queued cmds := by
  unfold State.decodeLifeCycle
  split
  · extract_lets ws
    exact (hs.setF _ _ _).otpAsk _
  · extract_lets s1
    have hs1 : s1.Queued cmds := hs.setF _ _ _
    exact .ite hs1 (hs1.alarm _ _)

theorem State.Queued.endOfLife {s : State} (hs : s.Queued cmds) : s.endOfLife.Queued cmds := by
  unfold State.endOfLife
  extract_lets ws s1 _ _ s2
  have hs1 : s1.Queued cmds := hs.loseBbk
  have hs2 : s2.Queued cmds := hs1.keep
  exact .ite hs2 (hs2.otpAsk _)

theorem State.Queued.reportBbk {s : State} (hs : s.Queued cmds) (cause) : (s.reportBbk cause).Queued cmds :=
  ((hs.setFlag _ _ _).setF _ _ _).journal _ _

theorem State.Queued.loadFrs {s : State} (hs : s.Queued cmds) : s.loadFrs.Queued cmds := by
  unfold State.loadFrs
  extract_lets st _ s1
  have hs1 : s1.Queued cmds := hs.keep
  exact .ite ((hs1.raiseErr _ _ _ _).alarm _ _) hs1

theorem State.Queued.bootRom {s : State} (hs : s.Queued cmds) : s.bootRom.Queued cmds := by
  unfold State.bootRom
  extract_lets s1 s2 _ s3
  have hs1 : s1.Queued cmds := hs.decodeLifeCycle
  have hs2 : s2.Queued cmds := .ite (hs1.setF _ _ _) hs1
  have hs3 : s3.Queued cmds := hs2.keep.loadClassO.loadFrs
  exact .ite ((hs3.setF _ _ _).endOfLife) (hs3.setF _ _ _)

theorem State.Queued.dropMain {s : State} (hs : s.Queued cmds) : s.dropMain.Queued cmds := by
  unfold State.dropMain
  extract_lets s1
  have hs1 : s1.Queued cmds := State.Queued.dropClasses (.ite hs hs.toKeeper) _
  exact hs1.keep

theorem State.Queued.mainReset {s : State} (hs : s.Queued cmds) (bbkOk) : (s.mainReset bbkOk).Queued cmds := by
  unfold State.mainReset
  extract_lets s1 _ s2 s3 s4 _
  have hs1 : s1.Queued cmds := hs.dropMain.fromKeeper.setF _ _ _
  have hs2 : s2.Queued cmds := .ite hs1 (hs1.keep.reportBbk _)
  have hs3 : s3.Queued cmds := .ite hs2 (hs2.loseBbk.reportBbk _)
  have hs4 : s4.Queued cmds := (hs3.runPending.setF _ _ _).bootRom
  exact hs4.keep

/-! ### The functions of Machine/Tamper -/

theorem State.Queued.pendCount {s : State} (hs : s.Queued cmds) (n) : (s.pendCount n).Queued cmds := hs

theorem State.Queued.eventUnpowered {s : State} (hs : s.Queued cmds) (sources m) : (s.eventUnpowered sources m).Queued cmds := by
  unfold State.eventUnpowered
  extract_lets pend s1 s2 s3
  have hs1 : s1.Queued cmds := .ite hs.loseBbk hs
  have hs2 : s2.Queued cmds := hs1.putBuf _
  have hs3 : s3.Queued cmds := .ite (hs2.pendCount _) hs2
  exact .ite (hs3.setFlag _ _ _) hs3

theorem State.Queued.eventErase {s : State} (hs : s.Queued cmds) (m) : (s.eventErase m).Queued cmds := by
  unfold State.eventErase
  extract_lets s1 s2
  have hs1 : s1.Queued cmds := .ite hs.lockDown hs
  have hs2 : s2.Queued cmds := .ite hs1.respondBound hs1
  exact .ite hs2.respondSession hs2

theorem State.Queued.eventReset {s : State} (hs : s.Queued cmds) (sources m) : (s.eventReset sources m).Queued cmds := by
  unfold State.eventReset
  extract_lets pend done s1
  have hs1 : s1.Queued cmds := (hs.eventErase _).putBuf _
  exact (State.Queued.ite (hs1.pendCount _) hs1).mainReset _

theorem State.Queued.halt {s : State} (hs : s.Queued cmds) : s.halt.Queued cmds := by
  unfold State.halt
  extract_lets s1
  have hs1 : s1.Queued cmds := hs.eraseLine _
  exact (hs1.abandon _ _).setFlag _ _ _

theorem State.Queued.eventCount {s : State} (hs : s.Queued cmds) (e buffered) : (s.eventCount e buffered).Queued cmds :=
  .ite ((hs.pendCount _).askCount _ _ _) (hs.askCount _ _ _)

theorem State.Queued.eventRunning {s : State} (hs : s.Queued cmds) (sources m) : (s.eventRunning sources m).Queued cmds := by
  unfold State.eventRunning
  extract_lets done e buffered s1 s2 s3 s4 s5
  have hs1 : s1.Queued cmds := hs.eventErase _
  have hs2 : s2.Queued cmds := .ite hs1.halt hs1
  have hs3 : s3.Queued cmds := .ite (hs2.putBuf _) hs2
  have hs4 : s4.Queued cmds := .ite (hs3.eventCount _ _) hs3
  have hs5 : s5.Queued cmds := .ite (hs4.raiseErr _ _ _ _) hs4
  exact .ite hs5 (.ite hs5.evidenceJournal (hs5.tamperRecords _ _ _))

theorem execTamperEventResponse_answers {s : State} (hs : s.Queued cmds) : OutQueued cmds (execTamperEventResponse s) := by
  unfold execTamperEventResponse
  split
  · exact .next hs
  · extract_lets sources _ s1 m
    have hs1 : s1.Queued cmds := ((hs.keep.count _ _ _).awake).alert _
    exact .next (.ite (hs1.eventUnpowered _ _) (.ite (hs1.eventReset _ _) (hs1.eventRunning _ _)))

theorem execTamperAlarm_answers {s : State} (hs : s.Queued cmds) (n det) : OutQueued cmds (execTamperAlarm n det s) :=
  .ite (.next hs) (.next (hs.alarm _ _))

theorem execDetectorDisagree_answers {s : State} (hs : s.Queued cmds) (n) : OutQueued cmds (execDetectorDisagree n s) := by
  unfold execDetectorDisagree
  extract_lets d
  exact .ite (.next hs) (.next ((hs.count _ _ _).alarm _ _))

theorem execFabricCodeMismatch_answers {s : State} (hs : s.Queued cmds) : OutQueued cmds (execFabricCodeMismatch s) :=
  .next ((hs.count _ _ _).alarm _ _)

theorem execOtpIntegrityCheck_answers {s : State} (hs : s.Queued cmds) (bad) : OutQueued cmds (execOtpIntegrityCheck bad s) := by
  unfold execOtpIntegrityCheck
  split
  · exact .next hs
  · exact .next ((hs.raiseErr _ _ _ _).alarm _ _)

theorem execTamperConditionEnd_answers {s : State} (hs : s.Queued cmds) (n) : OutQueued cmds (execTamperConditionEnd n s) :=
  .next (hs.setFlag _ _ _)

theorem execTmpUnlock_answers {s0 : State} (hs0 : s0.Queued cmds) (v) : OutQueued cmds (execTmpUnlock v s0) :=
  .mmio hs0 fun _ hs => .ite (.next hs) (.ite (.next (hs.count _ _ _)) (.ite (.next hs) (.next ((hs.setFlag _ _ _).journal _ _))))

theorem execTmpResume_answers {s0 : State} (hs0 : s0.Queued cmds) (v) : OutQueued cmds (execTmpResume v s0) :=
  .mmio hs0 fun _ hs => .ite (.next (hs.setFlag _ _ _)) (.next hs)

theorem execTmpRespLock_answers {s0 : State} (hs0 : s0.Queued cmds) (v) : OutQueued cmds (execTmpRespLock v s0) :=
  .mmio hs0 fun _ hs => .next (.ite (hs.setFlag _ _ _) hs)

/-! ### The functions of Machine/LifeCycle -/

theorem State.Queued.lcoRefuse {s : State} (hs : s.Queued cmds) : s.lcoRefuse.Queued cmds := hs

theorem execLcoTransition_answers {s0 : State} (hs0 : s0.Queued cmds) (v) : OutQueued cmds (execLcoTransition v s0) := by
  unfold execLcoTransition
  refine .mmio hs0 fun s hs => ?_
  extract_lets t s1 _ s2 s3
  have hs1 : s1.Queued cmds := hs.setFlag _ _ _
  have hs2 : s2.Queued cmds := hs1.keep
  have hs3 : s3.Queued cmds := .ite hs2.respondBound.respondSession hs2
  exact .ite (.next hs.lcoRefuse) (.next (hs3.otpAsk _))

theorem State.Queued.lifeRecord {s : State} (hs : s.Queued cmds) (t ok) : (s.lifeRecord t ok).Queued cmds := hs.journal _ _

theorem execDiagEnter_answers {s0 : State} (hs0 : s0.Queued cmds) (v) : OutQueued cmds (execDiagEnter v s0) := by
  unfold execDiagEnter
  refine .mmio hs0 fun s hs => ?_
  extract_lets n s1
  have hs1 : s1.Queued cmds := hs.dropF _
  exact .ite (.next (hs1.otpAsk _)) (.next hs1.lcoRefuse)

theorem execProvFieldWrite_answers {s0 : State} (hs0 : s0.Queued cmds) (v) : OutQueued cmds (execProvFieldWrite v s0) := by
  unfold execProvFieldWrite
  refine .mmio hs0 fun s hs => ?_
  extract_lets f waiting
  split
  · exact .next hs.lcoRefuse
  · split
    · exact .next hs.lcoRefuse
    · exact .next (hs.otpAsk _)

theorem execProvClose_answers {s0 : State} (hs0 : s0.Queued cmds) (v) : OutQueued cmds (execProvClose v s0) :=
  .mmio hs0 fun _ hs => .ite (.next (hs.otpAsk _)) (.next hs.lcoRefuse)

theorem State.Queued.patchRecord {s : State} (hs : s.Queued cmds) (cause) : (s.patchRecord cause).Queued cmds := hs.journal _ _

theorem State.Queued.countBurned {s : State} (hs : s.Queued cmds) (e buffered pended) :
    (s.countBurned e buffered pended).Queued cmds := by
  unfold State.countBurned
  extract_lets s1 _
  have hs1 : s1.Queued cmds := .ite (hs.setF _ _ _) hs
  exact hs1.keep.freeBuf

theorem State.Queued.countFailed {s : State} (hs : s.Queued cmds) (e buffered pended) :
    (s.countFailed e buffered pended).Queued cmds := by
  unfold State.countFailed
  extract_lets s1 s2
  have hs1 : s1.Queued cmds := hs.raiseErr _ _ _ _
  have hs2 : s2.Queued cmds := .ite hs1 (hs1.setF _ _ _)
  exact .ite hs2 ((hs2.putBuf _).evidenceJournal)

theorem State.Queued.otpFinish {s : State} (hs : s.Queued cmds) (o ok) : (s.otpFinish o ok).Queued cmds := by
  unfold State.otpFinish
  extract_lets s0 _ _
  have hs0 : s0.Queued cmds := hs.loadClassO
  split
  · exact .ite ((hs0.lifeRecord _ _).mainReset _) ((hs0.lifeRecord _ _).setFlag _ _ _)
  · exact .ite ((((hs.setF _ _ _).loadClassO).loadFrs).count _ _ _) (((hs.setF _ _ _).loadClassO).loadFrs)
  · exact .ite (hs0.keep.mainReset _) hs0
  · exact .ite hs0 (hs0.setF _ _ _)
  · exact hs0
  · exact .ite (hs0.countBurned _ _ _) (hs0.countFailed _ _ _)
  · exact .ite hs0 (.ite hs0.formatBurned.formatAdvance hs0.keep.coldAdvance)
  · exact .ite (hs0.patchRecord _) hs0
  · exact .ite hs0.loadFrs hs0
  · exact hs0

theorem State.Queued.failBurn {s : State} (hs : s.Queued cmds) (a v) : (s.failBurn a v).Queued cmds := hs

theorem execOtpWordDone_answers {s0 : State} (hs0 : s0.Queued cmds) (ok) : OutQueued cmds (execOtpWordDone ok s0) := by
  unfold execOtpWordDone
  refine .clocked hs0 fun s hs => ?_
  split
  · exact .next hs
  · split
    · exact .next hs
    · split
      · extract_lets _ s1
        have hs1 : s1.Queued cmds := hs.keep
        exact .next ((hs1.otpFinish _ _).otpShow)
      · split
        · extract_lets s1 o' _ s2 s2_1
          have hs1 : s1.Queued cmds := (hs.burn _ _).count _ _ _
          have hs2 : s2.Queued cmds := hs1.keep
          have hs2_1 : s2_1.Queued cmds := hs1.keep
          exact .ite (.next ((hs2.otpFinish _ _).otpShow)) (.next hs2_1.loadClassO.otpShow)
        · split
          · extract_lets s1 _
            have hs1 : s1.Queued cmds := (hs.failBurn _ _).count _ _ _
            exact .next hs1.keep
          · extract_lets s1 _ s2
            have hs1 : s1.Queued cmds := (hs.failBurn _ _).raiseErr _ _ _ _
            have hs2 : s2.Queued cmds := hs1.keep
            exact .next ((hs2.otpFinish _ _).otpShow)

/-! ### The functions of Machine/Boot -/

theorem State.Queued.loadMatch {s : State} (hs : s.Queued cmds) (c i) : (s.loadMatch c i).Queued cmds := hs

theorem State.Queued.loadBundle {s : State} (hs : s.Queued cmds) (slot d) : (s.loadBundle slot d).Queued cmds := by
  unfold State.loadBundle
  extract_lets c m n img _ _ s1 s2 s3
  have hs1 : s1.Queued cmds := hs.keep
  have hs2 : s2.Queued cmds := (hs1.dropF _).foldl (fun _ ht _ => ht.loadMatch _ _) _
  have hs3 : s3.Queued cmds := ((hs2.setF _ _ _).setF _ _ _).setF _ _ _
  exact ((hs3.setF _ _ _).setF _ _ _).setF _ _ _

theorem State.Queued.bootFailed {s : State} (hs : s.Queued cmds) (err) : (s.bootFailed err).Queued cmds :=
  (((hs.setF _ _ _).setF _ _ _).raiseErr _ _ _ _).alert _

theorem State.Queued.cutBurn {s : State} (hs : s.Queued cmds) : s.cutBurn.Queued cmds := by
  unfold State.cutBurn
  split
  · exact hs
  · split
    · exact hs
    · split
      · exact hs
      · exact hs.failBurn _ _

theorem execMainPowerOnReset_answers {s : State} (hs : s.Queued cmds) (bbkOk coreLow) :
    OutQueued cmds (execMainPowerOnReset bbkOk coreLow s) := by
  unfold execMainPowerOnReset
  split
  · exact .next hs
  · extract_lets s1 _ p s2
    have hs1 : s1.Queued cmds := hs.cutBurn
    have hs2 : s2.Queued cmds := hs1.keep
    exact .next (.ite hs2.dropMain (hs2.mainReset _))

theorem execBootBundleLoaded_answers {s0 : State} (hs0 : s0.Queued cmds) (slot flashOk d) :
    OutQueued cmds (execBootBundleLoaded slot flashOk d s0) := by
  unfold execBootBundleLoaded
  refine .clocked hs0 fun s hs => ?_
  split
  · exact .next hs
  · extract_lets e _ s1
    have hs1 : s1.Queued cmds := hs.keep
    exact .ite (.next hs) (.ite (.next (hs.loadBundle _ _)) (.ite (.next hs1) (.next (hs1.bootFailed _))))

theorem State.Queued.glbRefuse {s : State} (hs : s.Queued cmds) : s.glbRefuse.Queued cmds := hs

theorem State.Queued.readBundle {s : State} (hs : s.Queued cmds) : s.readBundle.Queued cmds := hs.sendRead _ _ _

theorem execBootRetry_answers {s0 : State} (hs0 : s0.Queued cmds) (v d) : OutQueued cmds (execBootRetry v d s0) := by
  unfold execBootRetry
  refine .mmio hs0 fun s hs => ?_
  split
  · exact .next hs
  · split
    · exact .next hs.glbRefuse
    · extract_lets b e s1
      have hs1 : s1.Queued cmds := hs.readBundle
      exact .ite (.next (hs1.loadBundle _ _)) (.next (hs1.bootFailed _))

theorem State.Queued.setOnline {s : State} (hs : s.Queued cmds) (binders cores hash cde bgn str) :
    (s.setOnline binders cores hash cde bgn str).Queued cmds := by
  unfold State.setOnline
  extract_lets s1
  have hs1 : s1.Queued cmds := (((((hs.setF _ _ _).setF _ _ _).setF _ _ _).setF _ _ _).setF _ _ _).setF _ _ _
  exact hs1.foldl (fun _ ht _ => ht.setF _ _ _) _

theorem State.Queued.drawFrs {s : State} (hs : s.Queued cmds) : s.drawFrs.Queued cmds := by
  unfold State.drawFrs
  split
  · exact hs
  · split
    · exact hs
    · split
      · rename_i s1 e
        have hs1 : s1.Queued cmds := ((hs.drbgCalls _ _).draw _).of_snd e
        exact hs1.otpAsk _

theorem execBootSelftestComplete_answers {s0 : State} (hs0 : s0.Queued cmds) (binders cores hash cde bgn str) :
    OutQueued cmds (execBootSelftestComplete binders cores hash cde bgn str s0) := by
  unfold execBootSelftestComplete
  refine .clocked hs0 fun s hs => ?_
  split
  · exact .next hs
  · extract_lets s1 all s2 s3
    have hs1 : s1.Queued cmds := hs.setOnline _ _ _ _ _ _
    have hs2 : s2.Queued cmds := .ite hs1 ((hs1.setFlag _ _ _).raiseErr _ _ _ _)
    have hs3 : s3.Queued cmds := ((hs2.setFlag _ _ _).setF _ _ _).setF _ _ _
    exact .ite (.next (hs2.bootFailed _)) (.next (hs3.drawFrs.patchRecord _))

theorem execBootProgram_answers {s0 : State} (hs0 : s0.Queued cmds) (v d) : OutQueued cmds (execBootProgram v d s0) := by
  unfold execBootProgram
  refine .mmio hs0 fun s hs => ?_
  split
  · exact .next hs
  · split
    · exact .next hs.glbRefuse
    · extract_lets b s1 _
      have hs1 : s1.Queued cmds := hs.readBundle
      exact .ite (.next hs1) (.next (hs1.keep.setFlag _ _ _))

theorem execBootProgramComplete_answers {s0 : State} (hs0 : s0.Queued cmds) (good) :
    OutQueued cmds (execBootProgramComplete good s0) := by
  unfold execBootProgramComplete
  refine .clocked hs0 fun s hs => ?_
  split
  · exact .next hs
  · extract_lets held _ s1
    have hs1 : s1.Queued cmds := hs.keep
    exact .next ((hs1.setFlag _ _ _).setFlag _ _ _)

theorem execRaiseMin_answers {s0 : State} (hs0 : s0.Queued cmds) (v) : OutQueued cmds (execRaiseMin v s0) := by
  unfold execRaiseMin
  refine .mmio hs0 fun s hs => ?_
  split
  · exact .next hs
  · extract_lets r
    split
    · exact .next hs.glbRefuse
    · exact .ite (.next hs.glbRefuse) (.ite (.next hs) (.next (hs.otpAsk _)))

/-! ### The functions of Machine/Engines -/

theorem State.Queued.mulFailed {s : State} (hs : s.Queued cmds) (m) : (s.mulFailed m).Queued cmds := by
  unfold State.mulFailed
  extract_lets l _ s1
  have hs1 : s1.Queued cmds := hs.keep
  exact .ite hs1 ((hs1.setF _ _ _).raiseErr _ _ _ _)

theorem State.Queued.pipeFailed {s : State} (hs : s.Queued cmds) (p) : (s.pipeFailed p).Queued cmds := by
  unfold State.pipeFailed
  extract_lets l _ s1
  have hs1 : s1.Queued cmds := hs.keep
  exact .ite hs1 ((hs1.setF _ _ _).raiseErr _ _ _ _)

theorem State.Queued.unitFailed {s : State} (hs : s.Queued cmds) (u) : (s.unitFailed u).Queued cmds := hs

theorem State.Queued.countFault {s : State} (hs : s.Queued cmds) (unit cause) : (s.countFault unit cause).Queued cmds := by
  unfold State.countFault
  split
  · exact .ite (hs.count _ _ _) hs
  · exact .ite (hs.count _ _ _) hs
  · exact .ite (hs.count _ _ _) (.ite (hs.count _ _ _) (.ite (hs.count _ _ _) hs))
  · exact .ite (hs.count _ _ _) (.ite (hs.count _ _ _) (.ite (hs.count _ _ _) hs))
  · exact .ite (hs.count _ _ _) hs
  · exact hs

theorem State.Queued.noteUnit {s : State} (hs : s.Queued cmds) (unit part) : (s.noteUnit unit part).Queued cmds := by
  unfold State.noteUnit
  split
  · exact hs.unitFailed _
  · exact hs.mulFailed _
  · exact hs.pipeFailed _
  · exact hs

theorem State.Queued.takeFault {s : State} (hs : s.Queued cmds) (j unit cause part place) :
    (s.takeFault j unit cause part place).Queued cmds :=
  (((hs.countFault _ _).raiseFault _ _ _ _).noteUnit _ _).engineFault _ _ _ _

theorem execEngineFault_answers {s0 : State} (hs0 : s0.Queued cmds) (q i unit cause part place) :
    OutQueued cmds (execEngineFault q i unit cause part place s0) := by
  unfold execEngineFault
  refine .clocked hs0 fun s hs => ?_
  split
  · exact .next hs
  · split
    · exact .next hs
    · split
      · extract_lets f k
        exact .next ((((hs.countFault _ _).raiseFault _ _ _ _).recordFault _ _ _ _).haltCore _ _)
      · exact .next (hs.takeFault _ _ _ _ _)

theorem execHotStoreEccError_answers {s0 : State} (hs0 : s0.Queued cmds) (k localOk recordOk) :
    OutQueued cmds (execHotStoreEccError k localOk recordOk s0) := by
  unfold execHotStoreEccError
  refine .clocked hs0 fun s hs => ?_
  split
  · exact .next hs
  · extract_lets _ s1 holders x
    have hs1 : s1.Queued cmds := hs.keep.raiseErr _ _ _ _
    exact .ite (.next ((hs1.makeHot _).foldl (fun _ ht _ => ht.engineFault _ _ _ _) _)) (.ite (.next
        ((hs1.removeKey _).foldl (fun _ ht _ => ht.failJob _ _ _) _)) (.ite (.next ((hs1.makeHot _).foldl
            (fun _ ht _ => ht.engineFault _ _ _ _) _)) (.next (((hs1.setKey _ _).raiseErr _ _ _ _).foldl
                (fun _ ht _ => ht.failJob _ _ _) _))))

theorem execCdeKeygenAttemptEnd_answers {s0 : State} (hs0 : s0.Queued cmds) (q i ok replaced) :
    OutQueued cmds (execCdeKeygenAttemptEnd q i ok replaced s0) := by
  unfold execCdeKeygenAttemptEnd
  refine .clocked hs0 fun s hs => ?_
  split
  · exact .next hs
  · extract_lets s1
    have hs1 : s1.Queued cmds := (hs.count _ _ _).count _ _ _
    exact .ite (.next (hs1.updJob _ _ _)) (.ite (.next (hs1.takeFault _ _ _ _ _)) (.next (hs1.updJob _ _ _)))

theorem execCdePairwiseTest_answers {s0 : State} (hs0 : s0.Queued cmds) (q i ok) :
    OutQueued cmds (execCdePairwiseTest q i ok s0) := by
  unfold execCdePairwiseTest
  refine .clocked hs0 fun s hs => ?_
  split
  · exact .next hs
  · exact .ite (execKemKeygen_answers hs _ _) (.next (hs.takeFault _ _ _ _ _))

theorem execCdeUnitReset_answers {s0 : State} (hs0 : s0.Queued cmds) (u) : OutQueued cmds (execCdeUnitReset u s0) := by
  unfold execCdeUnitReset
  refine .clocked hs0 fun s hs => ?_
  split
  · exact .next hs
  · extract_lets js s1 times _ s2 s3
    have hs1 : s1.Queued cmds := hs.foldl (fun _ ht _ => ht.resetJob _ _) _
    have hs2 : s2.Queued cmds := hs1.keep
    have hs3 : s3.Queued cmds := (hs2.count _ _ _).raiseErr _ _ _ _
    exact .ite (.next hs3) (.next ((hs3.setF _ _ _).raiseErr _ _ _ _))

theorem execCdeUnitEnableWrite_answers {s0 : State} (hs0 : s0.Queued cmds) (v) : OutQueued cmds (execCdeUnitEnableWrite v s0) := by
  unfold execCdeUnitEnableWrite
  refine .mmio hs0 fun s hs => ?_
  extract_lets s1
  have hs1 : s1.Queued cmds := hs.backOnline _ _ _
  exact .ite (.next (hs.count _ _ _)) (.next (hs1.setF _ _ _))

theorem execCdeZeroizeComplete_answers {s0 : State} (hs0 : s0.Queued cmds) (n) : OutQueued cmds (execCdeZeroizeComplete n s0) := by
  unfold execCdeZeroizeComplete
  refine .clocked hs0 fun s hs => ?_
  extract_lets done _
  exact .next hs.keep

theorem OutQueued.stateOr {o : Out} {s : State} (ho : OutQueued cmds o) (hs : s.Queued cmds) : (o.stateOr s).Queued cmds := by
  unfold Out.stateOr
  split
  · next t =>
    obtain ⟨u, hu, hqueued⟩ := ho
    obtain rfl := Host.Outcome.next.inj hu
    exact hqueued
  · exact hs

theorem State.Queued.runBgn {s : State} (hs : s.Queued cmds) (q i inp) : (s.runBgn q i inp).Queued cmds := by
  unfold State.runBgn
  split
  · exact hs
  · refine OutQueued.stateOr ?_ hs
    split
    · exact execKemKeygen_answers hs _ _
    · exact execKemEncaps_answers hs _ _ _
    · exact execKemDecaps_answers hs _ _ _
    · exact execSigKeygen_answers hs _ _
    · exact execSigSign_answers hs _ _ _
    · exact execSigVerify_answers hs _ _ _
    · exact execSigVerifyBatch_answers hs _ _ _
    · exact execKeyAgree_answers hs _ _ _
    · exact execHybridKem_answers hs _ _ _
    · exact execKeyImport_answers hs _ _ _
    · exact execLedgerCheckpoint_answers hs _ _
    · exact execTimeStamp_answers hs _ _ _
    · exact .next hs

theorem execBgnValidationEnd_answers {s0 : State} (hs0 : s0.Queued cmds) (q i inp) :
    OutQueued cmds (execBgnValidationEnd q i inp s0) := by
  unfold execBgnValidationEnd
  refine .clocked hs0 fun s hs => ?_
  split
  · exact .next hs
  · extract_lets t
    have ht : t.Queued cmds := hs.runBgn _ _ _
    exact .ite (.next ht) (.next (hs.updJob _ _ _))

theorem execBgnComputationEnd_answers {s0 : State} (hs0 : s0.Queued cmds) (q i inp equal) :
    OutQueued cmds (execBgnComputationEnd q i inp equal s0) := by
  unfold execBgnComputationEnd
  refine .clocked hs0 fun s hs => ?_
  split
  · exact .next hs
  · exact .ite (.next (hs.runBgn _ _ _)) (.next (hs.takeFault _ _ _ _ _))

theorem execBgnMulEnableWrite_answers {s0 : State} (hs0 : s0.Queued cmds) (v) : OutQueued cmds (execBgnMulEnableWrite v s0) := by
  unfold execBgnMulEnableWrite
  refine .mmio hs0 fun s hs => ?_
  extract_lets s1
  have hs1 : s1.Queued cmds := hs.backOnline _ _ _
  exact .ite (.next (hs.count _ _ _)) (.next (hs1.setF _ _ _))

theorem execStrYield_answers {s0 : State} (hs0 : s0.Queued cmds) (q i) : OutQueued cmds (execStrYield q i s0) := by
  unfold execStrYield
  refine .clocked hs0 fun s hs => ?_
  split
  · exact .next hs
  · extract_lets p l _
    exact .ite (.next hs) (.next (hs.keep.count _ _ _))

theorem execStrPipeEnableWrite_answers {s0 : State} (hs0 : s0.Queued cmds) (v) : OutQueued cmds (execStrPipeEnableWrite v s0) := by
  unfold execStrPipeEnableWrite
  refine .mmio hs0 fun s hs => ?_
  extract_lets s1
  have hs1 : s1.Queued cmds := hs.backOnline _ _ _
  exact .ite (.next (hs.count _ _ _)) (.next (hs1.setF _ _ _))

/-! ### The functions of Machine/Seq -/

theorem State.Queued.setThread {s : State} (hs : s.Queued cmds) (b t x3) : (s.setThread b t x3).Queued cmds := hs

theorem State.Queued.mapThreads {s : State} (hs : s.Queued cmds) (b f) : (s.mapThreads b f).Queued cmds :=
  hs.foldl (fun _ ht _ => ht.setThread _ _ _) _

theorem State.Queued.recordMicro {s : State} (hs : s.Queued cmds) (b t cause) : (s.recordMicro b t cause).Queued cmds := by
  unfold State.recordMicro
  extract_lets s1
  have hs1 : s1.Queued cmds := .ite (hs.count _ _ _) hs
  exact .ite hs1 (((((hs1.setFlag _ _ _).setFlag _ _ _).setF _ _ _).setF _ _ _).setF _ _ _)

theorem State.Queued.restartJob {s : State} (hs : s.Queued cmds) (j) : (s.restartJob j).Queued cmds := by
  unfold State.restartJob
  split
  · exact hs
  · exact .ite hs (.ite (((hs.commitWrites _).linkDone _).moveHead _) (hs.resetJob _ _))

theorem State.Queued.rebind {s : State} (hs : s.Queued cmds) (b) : (s.rebind b).Queued cmds := hs

theorem State.Queued.restartBinder {s : State} (hs : s.Queued cmds) (b) : (s.restartBinder b).Queued cmds := by
  unfold State.restartBinder
  extract_lets s1 s2 s3 times _ s4 _ s5
  have hs1 : s1.Queued cmds := hs.mapThreads _ _
  have hs2 : s2.Queued cmds := by
    unfold s2
    refine hs1.foldl (fun t ht a => ?_) _
    exact ht.restartJob _
  have hs3 : s3.Queued cmds := (hs2.count _ _ _).raiseErr _ _ _ _
  have hs4 : s4.Queued cmds := hs3.keep
  have hs5 : s5.Queued cmds := hs3.keep
  exact .ite hs4 (.ite (hs4.raiseErr _ _ _ _) (((hs5.setF _ _ _).setF _ _ _).rebind _))

theorem State.Queued.haltBinder {s : State} (hs : s.Queued cmds) (b t) : (s.haltBinder b t).Queued cmds := by
  unfold State.haltBinder
  extract_lets s1 _
  have hs1 : s1.Queued cmds := hs.mapThreads _ _
  exact (hs1.setThread _ _ _).setF _ _ _

theorem State.Queued.microFault {s : State} (hs : s.Queued cmds) (b t cause) : (s.microFault b t cause).Queued cmds := by
  unfold State.microFault
  extract_lets s1
  have hs1 : s1.Queued cmds := hs.recordMicro _ _ _
  exact .ite (hs1.haltBinder _ _) (hs1.restartBinder _)

theorem execBinderRestart_answers {s0 : State} (hs0 : s0.Queued cmds) (b t cause) :
    OutQueued cmds (execBinderRestart b t cause s0) :=
  .clocked hs0 fun _ hs => .ite (.next hs) (.next ((hs.recordMicro _ _ _).restartBinder _))

theorem execBinderPreciseHalt_answers {s0 : State} (hs0 : s0.Queued cmds) (b t cause) :
    OutQueued cmds (execBinderPreciseHalt b t cause s0) :=
  .clocked hs0 fun _ hs => .ite (.next hs) (.next ((hs.recordMicro _ _ _).haltBinder _ _))

theorem execBinderResume_answers {s0 : State} (hs0 : s0.Queued cmds) (b atNext) : OutQueued cmds (execBinderResume b atNext s0) :=
  .mmio hs0 fun _ hs => .ite (.next hs) (.next ((hs.mapThreads _ _).setF _ _ _))

theorem execSeqBinderEnableWrite_answers {s0 : State} (hs0 : s0.Queued cmds) (v) :
    OutQueued cmds (execSeqBinderEnableWrite v s0) := by
  unfold execSeqBinderEnableWrite
  refine .mmio hs0 fun s hs => ?_
  extract_lets old s1 s2 s3 _
  have hs1 : s1.Queued cmds := hs.backOnline _ _ _
  have hs2 : s2.Queued cmds := hs1.setF _ _ _
  have hs3 : s3.Queued cmds := hs2.foldl (fun _ ht _ => .ite (ht.setF _ _ _) ht) _
  exact .ite (.next (hs.count _ _ _)) (.next hs3.keep)

theorem State.Queued.threadFor {s : State} (hs : s.Queued cmds) (b t q i) :
    ∀ x, s.threadFor b t q i = some x → x.2.Queued cmds := by
  intro x e
  unfold State.threadFor at e
  extract_lets y at e
  split at e
  · split at e
    · obtain rfl := Option.some.inj e
      exact hs
    · cases e
  · split at e
    · cases e
    · cases hj : s.job? q i with
      | none => simp [hj] at e
      | some j =>
        simp only [hj, Option.ite_none_right_eq_some, Option.some.injEq] at e
        obtain ⟨-, rfl⟩ := e
        exact hs.keep

/-- The commands that wait are as they were in the state with which a microword's body goes on. -/
def MicroQueued (cmds : List Instr) (m : Micro) : Prop := ∀ x t, m = .go x t → t.Queued cmds

theorem MicroQueued.go {x : ThreadX} {s : State} (hs : s.Queued cmds) : MicroQueued cmds (.go x s) := by
  intro y t e
  injection e with _ e
  exact e ▸ hs

theorem MicroQueued.hold : MicroQueued cmds .hold := by
  intro x t e
  cases e

theorem MicroQueued.fault {n : Nat} : MicroQueued cmds (.fault n) := by
  intro x t e
  cases e

theorem MicroQueued.ite {c : Prop} [Decidable c] {a b : Micro} (ha : MicroQueued cmds a) (hb : MicroQueued cmds b) :
    MicroQueued cmds (if c then a else b) := by
  split
  · exact ha
  · exact hb

theorem State.Queued.branchTo {s : State} (hs : s.Queued cmds) (x a) : MicroQueued cmds (s.branchTo x a) := .ite (.go hs) .fault

theorem State.Queued.micro {s : State} (hs : s.Queued cmds) (b t q i cls) {body : ThreadX → State → Micro}
    (hbody : ∀ x u, u.Queued cmds → MicroQueued cmds (body x u)) :

    (s.micro b t q i cls body).Queued cmds := by
  unfold State.micro
  split
  · exact hs
  · split
    · exact hs
    · rename_i x s1 e
      have hs1 : s1.Queued cmds := hs.threadFor _ _ _ _ _ e
      extract_lets s0 a c
      have hs0 : s0.Queued cmds := hs1.setThread _ _ _
      refine .ite (hs0.microFault _ _ _) (.ite (hs0.microFault _ _ _) (.ite hs (.ite (hs0.microFault _ _ _) ?_)))
      split
      · rename_i y s2 e2
        exact (hbody _ _ hs1 _ _ e2).setThread _ _ _
      · exact hs0
      · exact hs0.microFault _ _ _

theorem execMicrowordAlu_answers {s : State} (hs : s.Queued cmds) (b t q i o dst src arg) :
    OutQueued cmds (execMicrowordAlu b t q i o dst src arg s) :=
  .next (hs.micro _ _ _ _ _ fun _ _ hu => .go hu)

theorem State.Queued.putFieldWord {s : State} (hs : s.Queued cmds) (j f v) : (s.putFieldWord j f v).Queued cmds := by
  unfold State.putFieldWord
  split
  · exact hs.updJob _ _ _
  · exact .ite (hs.setF _ _ _) hs
  · exact hs.updJob _ _ _

theorem execMicrowordField_answers {s : State} (hs : s.Queued cmds) (b t q i f insert reg lo len) :
    OutQueued cmds (execMicrowordField b t q i f insert reg lo len s) := by
  refine .next (hs.micro _ _ _ _ _ fun x s1 hs1 => ?_)
  split
  · exact .hold
  · exact .ite (.go hs1) (.ite (.go (hs1.putFieldWord _ _ _)) (.go hs1))

theorem execMicrowordBranch_answers {s : State} (hs : s.Queued cmds) (b t q i kind cond target) :
    OutQueued cmds (execMicrowordBranch b t q i kind cond target s) := by
  refine .next (hs.micro _ _ _ _ _ fun x s1 hs1 => ?_)
  refine .ite (.go hs1) ?_
  cases kind with
  | jump => exact hs1.branchTo _ _
  | call => exact hs1.branchTo _ _
  | ret =>
    cases x.calls with
    | nil => exact .fault
    | cons a l => exact hs1.branchTo _ _

theorem execMicrowordDispatch_answers {s : State} (hs : s.Queued cmds) (b t q i reg table) :
    OutQueued cmds (execMicrowordDispatch b t q i reg table s) :=
  .next (hs.micro _ _ _ _ _ fun _ _ hu => hu.branchTo _ _)

theorem execMicrowordRequest_answers {s : State} (hs : s.Queued cmds) (b t q i tag reg) :
    OutQueued cmds (execMicrowordRequest b t q i tag reg s) :=
  .next (hs.micro _ _ _ _ _ fun _ _ hu => .go hu)

theorem execMicrowordWait_answers {s : State} (hs : s.Queued cmds) (b t q i tags) :
    OutQueued cmds (execMicrowordWait b t q i tags s) :=
  .next (hs.micro _ _ _ _ _ fun _ _ hu => .go hu.keep)

theorem execMicrowordCheck_answers {s : State} (hs : s.Queued cmds) (b t q i cond target inT outT) :
    OutQueued cmds (execMicrowordCheck b t q i cond target inT outT s) := by
  refine .next (hs.micro _ _ _ _ _ fun x s1 hs1 => ?_)
  refine .ite (.go hs1) ?_
  split
  · exact .go hs1
  · split
    · exact .hold
    · rename_i j s2 e
      have hs2 : s2.Queued cmds := hs1.readTables _ _ _ _ e
      split
      · exact (hs2.recordVerdict _).branchTo _ _
      · exact .go hs2

theorem execMicrowordAccept_answers {s : State} (hs : s.Queued cmds) (b t q i inT outT) :
    OutQueued cmds (execMicrowordAccept b t q i inT outT s) := by
  refine .next (hs.micro _ _ _ _ _ fun x s1 hs1 => ?_)
  refine .ite .fault ?_
  split
  · exact .hold
  · refine .ite (.go hs1) ?_
    split
    · exact .hold
    · rename_i k s2 e
      obtain ⟨k0, -, e⟩ := Option.bind_eq_some_iff.1 e
      have hs2 : s2.Queued cmds := hs1.readTables _ _ _ _ e
      split
      · exact .hold
      · exact .go ((hs2.accept _).decided _)

theorem execMicrowordStage_answers {s : State} (hs : s.Queued cmds) (b t q i src dst at' n to') :
    OutQueued cmds (execMicrowordStage b t q i src dst at' n to' s) :=
  .next (hs.micro _ _ _ _ _ fun _ _ hu => .go (hu.updJob _ _ _))

theorem execMicrowordCommit_answers {s : State} (hs : s.Queued cmds) (b t q i) :
    OutQueued cmds (execMicrowordCommit b t q i s) := by
  refine .next (hs.micro _ _ _ _ _ fun x s1 hs1 => ?_)
  split
  · exact .hold
  · exact .ite .fault (.ite (.go (hs1.updJob _ _ _)) .hold)

theorem State.Queued.nextWrite {s : State} (hs : s.Queued cmds) (x1 q) : (s.nextWrite x1 q).2.Queued cmds := by
  unfold State.nextWrite
  split
  · extract_lets r
    have hr : r.2.2.Queued cmds := hs.advance _ _
    exact hs.moveHead _
  · exact hs

theorem execMicrowordHostwrite_answers {s : State} (hs : s.Queued cmds) (b t q i) :
    OutQueued cmds (execMicrowordHostwrite b t q i s) := by
  refine .next (hs.micro _ _ _ _ _ fun x s1 hs1 => ?_)
  refine .ite .hold (.ite (.go (hs1.nextWrite _ _)) ?_)
  split
  · exact .fault
  · refine .ite .fault (.ite (.go hs1) (.ite (.go ((hs1.writeFrags _ _ _).updJob _ _ _)) ?_))
    split
    · exact .go ((hs1.hostWrite _ _ _ _).updJob _ _ _)
    · exact .go ((hs1.writeW7 _ _).linkDone _)

theorem execMicrowordEnd_answers {s : State} (hs : s.Queued cmds) (b t q i) : OutQueued cmds (execMicrowordEnd b t q i s) :=
  .next (hs.micro _ _ _ _ _ fun _ _ hu => .go hu)

/-! ### The functions of Machine/Dma -/

theorem State.Queued.lmLine {s : State} (hs : s.Queued cmds) (l at' d) : (s.lmLine l at' d).Queued cmds := hs

theorem State.Queued.lmWrite {s : State} (hs : s.Queued cmds) (a d) : (s.lmWrite a d).Queued cmds := by
  unfold State.lmWrite
  refine hs.foldl (fun t ht l => ?_) _
  extract_lets start
  exact ht.lmLine _ _ _

theorem State.Queued.setDchan {s : State} (hs : s.Queued cmds) (c x2) : (s.setDchan c x2).Queued cmds := hs

theorem State.Queued.setDesc {s : State} (hs : s.Queued cmds) (c i d) : (s.setDesc c i d).Queued cmds := hs

theorem State.Queued.skipUnowned {s : State} (hs : s.Queued cmds) (c n) : (s.skipUnowned c n).Queued cmds := by
  induction n generalizing s with
  | zero => exact hs
  | succ n ih => exact .ite hs (ih (hs.setF _ _ _))

theorem State.Queued.stagingWrite {s : State} (hs : s.Queued cmds) (a d) : (s.stagingWrite a d).Queued cmds := hs

theorem State.Queued.burstSource {s : State} (hs : s.Queued cmds) (d data) : (s.burstSource d data).2.Queued cmds := by
  unfold State.burstSource
  extract_lets a
  split
  · exact hs.hostRead _ _ _
  · exact hs
  · exact hs

theorem State.Queued.burstDest {s : State} (hs : s.Queued cmds) (d w) : (s.burstDest d w).Queued cmds := by
  unfold State.burstDest
  extract_lets a
  split
  · exact hs.hostWrite _ _ _ _
  · exact hs.lmWrite _ _
  · exact hs.stagingWrite _ _

theorem State.Queued.moveBurst {s : State} (hs : s.Queued cmds) (c d data) : (s.moveBurst c d data).Queued cmds := by
  unfold State.moveBurst
  extract_lets h x
  split
  · exact hs.setDchan _ _
  · split
    · rename_i s1 e
      have hs1 : s1.Queued cmds := (hs.burstSource _ _).of_snd e
      extract_lets s2 s3 s4
      have hs2 : s2.Queued cmds := (hs1.burstDest _ _).count _ _ _
      have hs3 : s3.Queued cmds := hs2.count _ _ _
      have hs4 : s4.Queued cmds := hs3.setDesc _ _ _
      exact .ite (hs4.setDchan _ _) hs4

theorem execDescriptorPost_answers {s0 : State} (hs0 : s0.Queued cmds) (c a) : OutQueued cmds (execDescriptorPost c a s0) := by
  unfold execDescriptorPost
  refine .clocked hs0 fun s hs => ?_
  extract_lets x s1
  have hs1 : s1.Queued cmds := hs.setDesc _ _ _
  exact .ite (.next hs) (.next ((hs1.setDchan _ _).skipUnowned _ _))

theorem execDmaBurst_answers {s0 : State} (hs0 : s0.Queued cmds) (c data) : OutQueued cmds (execDmaBurst c data s0) := by
  unfold execDmaBurst
  refine .clocked hs0 fun s hs => ?_
  extract_lets asked ready writes pick _ s0'
  have hs0' : s0'.Queued cmds := hs.keep
  clear_value s0' pick
  cases pick with
  | none => exact .next hs0'
  | some k =>
    dsimp only
    cases s.burstReady k with
    | none => exact .next hs0'
    | some d =>
      refine .next (State.Queued.moveBurst ?_ _ _ _)
      exact hs.keep

theorem State.Queued.descOutcome {s : State} (hs : s.Queued cmds) (c d code cause outside) :
    (s.descOutcome c d code cause outside).Queued cmds := by
  unfold State.descOutcome
  split
  · exact hs
  · split
    · exact hs.failJob _ _ _
    · exact hs.failJob _ _ _
    · exact .ite (hs.takeFault _ _ _ _ _) ((hs.countFault _ _).engineFault _ _ _ _)
    · exact hs.takeFault _ _ _ _ _
    · exact hs.resetJob _ _
    · exact hs

theorem execDmaDescriptorEnd_answers {s0 : State} (hs0 : s0.Queued cmds) (c) : OutQueued cmds (execDmaDescriptorEnd c s0) := by
  unfold execDmaDescriptorEnd
  refine .clocked hs0 fun s hs => ?_
  extract_lets x h
  split
  · extract_lets s1 s2 s3 s4
    have hs1 : s1.Queued cmds := hs.setDesc _ _ _
    have hs2 : s2.Queued cmds := .ite hs1 (hs1.count _ _ _)
    have hs3 : s3.Queued cmds := .ite (hs2.count _ _ _) hs2
    have hs4 : s4.Queued cmds := (hs3.setDchan _ _).descOutcome _ _ _ _ _
    exact .next ((hs4.setF _ _ _).skipUnowned _ _)
  · exact .next hs

theorem State.Queued.cancelDesc {s : State} (hs : s.Queued cmds) (k d) : (s.cancelDesc k d).Queued cmds := by
  unfold State.cancelDesc
  extract_lets c _
  exact .ite (hs.setDchan _ _) ((((hs.setDesc _ _ _).setDchan _ _).count _ _ _).count _ _ _)

theorem execDmaCancel_answers {s0 : State} (hs0 : s0.Queued cmds) (q i) : OutQueued cmds (execDmaCancel q i s0) := by
  unfold execDmaCancel
  refine .clocked hs0 fun s hs => ?_
  split
  · exact .next hs
  · extract_lets mine s1
    have hs1 : s1.Queued cmds := hs.foldl (fun _ ht _ => ht.cancelDesc _ _) _
    exact .next (hs1.foldl (fun _ ht _ => ht.skipUnowned _ _) _)

theorem State.Queued.lmcCause {s : State} (hs : s.Queued cmds) (cause ch addr) : (s.lmcCause cause ch addr).Queued cmds := by
  unfold State.lmcCause
  extract_lets s1 _
  have hs1 : s1.Queued cmds := hs.raiseErr _ _ _ _
  exact hs1.keep

theorem execLmcMacFailure_answers {s0 : State} (hs0 : s0.Queued cmds) (w ch addr again) :
    OutQueued cmds (execLmcMacFailure w ch addr again s0) := by
  unfold execLmcMacFailure
  refine .clocked hs0 fun s hs => ?_
  split
  · exact .next hs
  · extract_lets s1
    have hs1 : s1.Queued cmds := (hs.count _ _ _).lmcCause _ _ _
    split
    · exact .ite (.next (hs1.setDchan _ _)) (.next hs1)
    · split
      · exact .next hs1
      · exact .ite (.next ((hs1.countFault _ _).engineFault _ _ _ _)) (.next hs1)
    · split
      · exact .next hs1
      · exact .ite (.next (hs1.abortJob _ _)) (.next hs1)
    · extract_lets x holders
      exact .ite (.next hs1) (.ite (.next (.ite (hs1.setKey _ _) ((hs1.removeKey _).foldl
          (fun _ ht _ => ht.failJob _ _ _) _))) (.ite (.next hs1) (.next (((hs1.setKey _ _).raiseErr _ _ _ _).foldl
              (fun _ ht _ => ht.failJob _ _ _) _))))

theorem execLmcRetrain_answers {s0 : State} (hs0 : s0.Queued cmds) (cause ch addr jobs) :
    OutQueued cmds (execLmcRetrain cause ch addr jobs s0) := by
  unfold execLmcRetrain
  refine .clocked hs0 fun s hs => ?_
  split
  · exact .next hs
  · extract_lets s1 fl s2 s3
    have hs1 : s1.Queued cmds := hs.lmcCause _ _ _
    have hs2 : s2.Queued cmds := hs1.foldl (fun _ ht _ => ht.setDchan _ _) _
    have hs3 : s3.Queued cmds := by
      unfold s3
      refine hs2.foldl (fun t ht p => ?_) _
      split
      · exact .ite (ht.resetJob _ _) ht
      · exact ht
    exact .next (hs3.setF _ _ _)

theorem execLmcRetrainComplete_answers {s0 : State} (hs0 : s0.Queued cmds) : OutQueued cmds (execLmcRetrainComplete s0) := by
  unfold execLmcRetrainComplete
  refine .clocked hs0 fun s hs => ?_
  split
  · exact .next hs
  · extract_lets s1 held
    have hs1 : s1.Queued cmds := hs.setF _ _ _
    exact .ite (.next ((hs1.setF _ _ _).lmcCause _ _ _)) (.next (((hs1.setF _ _ _).recovered _).setF _ _ _))

theorem execLmcQuietTimeExpiry_answers {s0 : State} (hs0 : s0.Queued cmds) : OutQueued cmds (execLmcQuietTimeExpiry s0) := by
  unfold execLmcQuietTimeExpiry
  refine .clocked hs0 fun s hs => ?_
  split
  · exact .next hs
  · extract_lets v _
    exact .next (hs.keep.setF _ _ _)

theorem execLmcTrainingComplete_answers {s0 : State} (hs0 : s0.Queued cmds) (gib ranks2 matched) :
    OutQueued cmds (execLmcTrainingComplete gib ranks2 matched s0) := by
  unfold execLmcTrainingComplete
  refine .clocked hs0 fun s hs => ?_
  split
  · exact .next hs
  · split
    · exact .next (((hs.setF _ _ _).raiseErr _ _ _ _).bootFailed _)
    · split
      · rename_i s1 e
        have hs1 : s1.Queued cmds := (hs.draw _).of_snd e
        extract_lets s2
        have hs2 : s2.Queued cmds := hs1.keep
        exact .next ((((hs2.setF _ _ _).setF _ _ _).setF _ _ _).setFlag _ _ _)

/-! ### The functions of Machine/MarRows -/

theorem State.Queued.unitRow {s : State} (hs : s.Queued cmds) (c dst src op) : (s.unitRow c dst src op).Queued cmds := by
  unfold State.unitRow
  split
  · exact hs
  · split
    · exact hs
    · split
      · exact hs
      · split
        · exact hs
        · extract_lets r b
          exact .ite hs (.ite (hs.waitCycle _ _ _ _ _ _) (.ite (hs.waitCycle _ _ _ _ _ _) (hs.runBundle _ _ _ _ _)))

/-! ### The functions of Machine/Power -/

theorem execIdleEntry_answers {s0 : State} (hs0 : s0.Queued cmds) : OutQueued cmds (execIdleEntry s0) := by
  unfold execIdleEntry
  exact .clocked hs0 fun _ hs => .ite (.next hs.keep) (.next hs)

theorem execDozeEntry_answers {s0 : State} (hs0 : s0.Queued cmds) : OutQueued cmds (execDozeEntry s0) := by
  unfold execDozeEntry
  exact .clocked hs0 fun _ hs => .ite (.next ((hs.keep.count _ _ _).toKeeper)) (.next hs)

theorem execWake_answers {s : State} (hs : s.Queued cmds) : OutQueued cmds (execWake s) := .next hs.awake

theorem State.Queued.mainOff {s : State} (hs : s.Queued cmds) (m) : (s.mainOff m).Queued cmds := by
  unfold State.mainOff
  extract_lets pme s1 _ _
  have hs1 : s1.Queued cmds := hs.cutBurn.dropMain
  exact hs1.keep

theorem execMainRailsOff_answers {s : State} (hs : s.Queued cmds) : OutQueued cmds (execMainRailsOff s) := by
  unfold execMainRailsOff
  split
  · exact .next hs.keep
  · extract_lets s1 _
    have hs1 : s1.Queued cmds := hs.mainOff _
    exact .next hs1.keep

theorem execVauxLoss_answers {s : State} (hs : s.Queued cmds) : OutQueued cmds (execVauxLoss s) := by
  unfold execVauxLoss
  split
  · exact .next hs
  · extract_lets _ s1 _
    have hs1 : s1.Queued cmds := .ite (hs.mainOff _) hs.keep
    exact .next (hs1.keep.count _ _ _)

theorem execVauxReturn_answers {s : State} (hs : s.Queued cmds) : OutQueued cmds (execVauxReturn s) := by
  unfold execVauxReturn
  exact .ite (.next hs) (.next hs.keep)

theorem execAoPowerOnReset_answers {s : State} (hs : s.Queued cmds) (vaux) : OutQueued cmds (execAoPowerOnReset vaux s) := by
  exact .next (State.Queued.keep (hs.mainOff .deep) rfl)

theorem execDeepWakeSource_answers {s : State} (hs : s.Queued cmds) (n) : OutQueued cmds (execDeepWakeSource n s) := by
  unfold execDeepWakeSource
  split
  · exact .next hs
  · extract_lets s1 _
    have hs1 : s1.Queued cmds := hs.setF _ _ _
    exact .next hs1.keep

theorem execVbatMeasure_answers {s : State} (hs : s.Queued cmds) (mv) : OutQueued cmds (execVbatMeasure mv s) :=
  .ite (.next hs) (.next ((hs.setF _ _ _).setFlag _ _ _))

theorem execPmeTurnOff_answers {s0 : State} (hs0 : s0.Queued cmds) : OutQueued cmds (execPmeTurnOff s0) := by
  unfold execPmeTurnOff
  refine .clocked hs0 fun s hs => ?_
  extract_lets s1 _
  have hs1 : s1.Queued cmds := hs.awake
  exact .next ((hs1.keep.say _).setF _ _ _)

theorem State.Queued.rate {s : State} (hs : s.Queued cmds) : s.rate.Queued cmds := hs

theorem execGovernorWindow_answers {s0 : State} (hs0 : s0.Queued cmds) (avg cur) :
    OutQueued cmds (execGovernorWindow avg cur s0) := by
  unfold execGovernorWindow
  refine .clocked hs0 fun s hs => ?_
  extract_lets s1 _ p p_1
  have hs1 : s1.Queued cmds := hs.setF _ _ _
  exact .ite (.next (((hs1.keep.setFlag _ _ _).count _ _ _).rate)) (.next ((hs1.keep.setFlag _ _ _).rate))

theorem execThermalReading_answers {s : State} (hs : s.Queued cmds) (sensor t) :
    OutQueued cmds (execThermalReading sensor t s) := by
  unfold execThermalReading
  extract_lets s0 s1 th _ s2 s3 s2_1
  have hs0 : s0.Queued cmds := hs.setF _ _ _
  have hs1 : s1.Queued cmds := .ite (hs0.alert _) hs0
  have hs2 : s2.Queued cmds := hs1.keep
  have hs3 : s3.Queued cmds := .ite (((hs2.count _ _ _).raiseErr _ _ _ _).alert _) hs2
  have hs2_1 : s2_1.Queued cmds := hs1.keep
  exact .ite (.next ((hs3.setFlag _ _ _).rate)) (.ite (.next ((hs2_1.setFlag _ _ _).rate)) (.next hs1))

theorem execThermtrip_answers {s : State} (hs : s.Queued cmds) : OutQueued cmds (execThermtrip s) := by
  unfold execThermtrip
  split
  · exact .next hs
  · extract_lets s1 _
    have hs1 : s1.Queued cmds := hs.eraseLine _
    exact .next hs1.keep

theorem execBraceEnter_answers {s0 : State} (hs0 : s0.Queued cmds) (rail mv) : OutQueued cmds (execBraceEnter rail mv s0) := by
  unfold execBraceEnter
  split
  · exact .next hs0
  · extract_lets s _ first s1 s2
    have hs : s.Queued cmds := hs0.awake
    have hs1 : s1.Queued cmds := hs.keep
    have hs2 : s2.Queued cmds := ((((hs1.setFlag _ _ _).setF _ _ _).setFlag _ _ _).raiseErr _ _ _ _).alert _
    exact .ite (.next hs.keep) (.next hs2.otpShow.rate)

theorem execBraceRailRecovery_answers {s : State} (hs : s.Queued cmds) (rail mv above) :
    OutQueued cmds (execBraceRailRecovery rail mv above s) := by
  unfold execBraceRailRecovery
  exact .next hs.keep

theorem execBraceLift_answers {s : State} (hs : s.Queued cmds) (v) : OutQueued cmds (execBraceLift v s) := by
  unfold execBraceLift
  split
  · exact .next hs
  · extract_lets d _ s1 s2 s3
    have hs1 : s1.Queued cmds := hs.keep
    have hs2 : s2.Queued cmds := ((hs1.setFlag _ _ _).setF _ _ _).setFlag _ _ _
    have hs3 : s3.Queued cmds := (hs2.rate.otpShow.storeSettle _).count _ _ _
    exact .next (hs3.journal _ _)

/-! ### The functions of Machine/Pcie -/

theorem execMmioBadRequest_answers {s0 : State} (hs0 : s0.Queued cmds) (bar a size write) :
    OutQueued cmds (execMmioBadRequest bar a size write s0) := by
  unfold execMmioBadRequest
  refine .mmio hs0 fun s hs => ?_
  split
  · exact .next hs
  · extract_lets s1
    have hs1 : s1.Queued cmds := hs.count _ _ _
    exact .next (.ite hs1 (hs1.say _))

theorem execMmioMemorySpaceDisabled_answers {s0 : State} (hs0 : s0.Queued cmds) : OutQueued cmds (execMmioMemorySpaceDisabled s0) :=
  .clocked hs0 fun _ hs => .next (.ite hs (hs.awake.say _))

theorem State.Queued.linkAt {s : State} (hs : s.Queued cmds) (speed width) : (s.linkAt speed width).Queued cmds := hs

theorem execLinkDownspeed_answers {s0 : State} (hs0 : s0.Queued cmds) : OutQueued cmds (execLinkDownspeed s0) := by
  unfold execLinkDownspeed
  refine .clocked hs0 fun s hs => ?_
  split
  · exact .next hs
  · split
    · exact .ite (.next hs) (.next (hs.keep.count _ _ _))
    · extract_lets r
      exact .ite (.next hs) (.next (((hs.setF _ _ _).setFlag _ _ _).count _ _ _))

theorem execRetrain_answers {s0 : State} (hs0 : s0.Queued cmds) (v) : OutQueued cmds (execRetrain v s0) := by
  unfold execRetrain
  refine .mmio hs0 fun s hs => ?_
  extract_lets s1 _
  have hs1 : s1.Queued cmds := (hs.setF _ _ _).setF _ _ _
  exact .ite (.next hs1) (.next hs1.keep)

theorem execLinkDown_answers {s : State} (hs : s.Queued cmds) : OutQueued cmds (execLinkDown s) := by
  unfold execLinkDown
  split
  · exact .next hs
  · extract_lets s1 _ s2
    have hs1 : s1.Queued cmds := hs.awake.clearLink
    have hs2 : s2.Queued cmds := hs1.keep
    exact .next (hs2.raiseErr _ _ _ _)

theorem execLinkQuietTimeExpiry_answers {s0 : State} (hs0 : s0.Queued cmds) : OutQueued cmds (execLinkQuietTimeExpiry s0) := by
  unfold execLinkQuietTimeExpiry
  refine .clocked hs0 fun s hs => ?_
  split
  · exact .next hs
  · extract_lets _ s1 _ s2 _
    have hs1 : s1.Queued cmds := hs.keep
    have hs2 : s2.Queued cmds := hs.keep
    exact .ite (.next (hs.keep.raiseErr _ _ _ _)) (.next hs.keep)

theorem execLinkRecovered_answers {s0 : State} (hs0 : s0.Queued cmds) (speed width) :
    OutQueued cmds (execLinkRecovered speed width s0) := by
  unfold execLinkRecovered
  refine .clocked hs0 fun s hs => ?_
  split
  · exact .next hs
  · split
    · exact .next hs
    · extract_lets _ s1 s2
      have hs1 : s1.Queued cmds := hs.keep
      have hs2 : s2.Queued cmds := hs1.linkAt _ _
      exact .next (.ite hs2 (hs2.recovered _))

theorem execLinkUp_answers {s0 : State} (hs0 : s0.Queued cmds) (speed width) : OutQueued cmds (execLinkUp speed width s0) := by
  unfold execLinkUp
  refine .clocked hs0 fun s hs => ?_
  split
  · exact .next hs
  · split
    · exact .next hs
    · extract_lets _ s1
      have hs1 : s1.Queued cmds := hs.keep.linkAt _ _
      exact .next (.ite (hs1.say _) hs1)

theorem execLinkL1Entry_answers {s0 : State} (hs0 : s0.Queued cmds) (pm) : OutQueued cmds (execLinkL1Entry pm s0) :=
  .clocked hs0 fun _ hs => .ite (.next hs) (.next (hs.setF _ _ _))

theorem execReceiverError_answers {s0 : State} (hs0 : s0.Queued cmds) : OutQueued cmds (execReceiverError s0) :=
  .clocked hs0 fun _ hs => .next (hs.count _ _ _)

theorem execReplayTimerTimeout_answers {s0 : State} (hs0 : s0.Queued cmds) : OutQueued cmds (execReplayTimerTimeout s0) :=
  .clocked hs0 fun _ hs => .next (hs.count _ _ _)

theorem State.Queued.logAer {s : State} (hs : s.Queued cmds) (cause) : (s.logAer cause).Queued cmds := hs

theorem execHostReadFailure_answers {s0 : State} (hs0 : s0.Queued cmds) (w cause) :
    OutQueued cmds (execHostReadFailure w cause s0) := by
  unfold execHostReadFailure
  refine .clocked hs0 fun s hs => ?_
  extract_lets s1
  have hs1 : s1.Queued cmds := hs.logAer _
  split
  · split
    · exact .next hs1
    · exact .ite (.next (hs1.updJob _ _ _)) (.ite (.next (hs1.failJob _ _ _)) (.next hs1))
  · exact .ite (.next (hs1.setDchan _ _)) (.next hs1)
  · split
    · rename_i e
      exact .ite (.next (((hs1.scTake _ _).of_snd e).repost _ _)) (.next hs1)
    · exact .next hs1

theorem State.Queued.unpend {s : State} (hs : s.Queued cmds) (v) : (s.unpend v).Queued cmds :=
  .ite ((hs.setPba _ _).sendVector _) hs

theorem State.Queued.unpendAll {s : State} (hs : s.Queued cmds) : s.unpendAll.Queued cmds := hs.foldl (fun _ ht _ => ht.unpend _) _

theorem execMsixUnmask_answers {s0 : State} (hs0 : s0.Queued cmds) (v) : OutQueued cmds (execMsixUnmask v s0) := by
  unfold execMsixUnmask
  split
  · exact .mmio hs0 fun _ hs => .ite (.next hs) (.next ((hs.setF _ _ _).unpend _))
  · exact .clocked hs0 fun _ hs => .next hs.keep.unpendAll

theorem execLtrIdleTimer_answers {s0 : State} (hs0 : s0.Queued cmds) : OutQueued cmds (execLtrIdleTimer s0) :=
  .clocked hs0 fun _ hs => .next (.ite (hs.sendLtr _) hs)

theorem execBusMasterDisable_answers {s0 : State} (hs0 : s0.Queued cmds) (d3) : OutQueued cmds (execBusMasterDisable d3 s0) := by
  unfold execBusMasterDisable
  exact .clocked hs0 fun _ hs => .next hs.keep

theorem State.Queued.resumeIssue {s : State} (hs : s.Queued cmds) : s.resumeIssue.Queued cmds := by
  unfold State.resumeIssue
  split
  · exact hs
  · extract_lets vectors _
    exact ((hs.keep.foldl (fun _ ht _ => ht.send _) _).foldl (fun _ ht _ => ht.sendVector _) _).finishResets

theorem execBusMasterEnable_answers {s0 : State} (hs0 : s0.Queued cmds) : OutQueued cmds (execBusMasterEnable s0) := by
  unfold execBusMasterEnable
  exact .clocked hs0 fun _ hs => .next hs.keep.resumeIssue

theorem State.Queued.cfgWrite {s : State} (hs : s.Queued cmds) (off v) : (s.cfgWrite off v).Queued cmds := by
  unfold State.cfgWrite
  split
  · exact .ite (State.Queued.resumeIssue hs.keep) hs.keep
  · exact .ite (State.Queued.resumeIssue hs.keep) hs.keep
  · exact State.Queued.unpendAll hs.keep
  · extract_lets _ s1
    have hs1 : s1.Queued cmds := hs.keep
    exact .ite ((execFlr_answers hs1).stateOr hs1) hs1
  · exact hs.keep
  · exact hs.keep
  · exact hs.keep
  · exact hs.keep
  · exact hs.keep
  · exact hs.keep
  · exact hs.keep
  · exact hs.keep
  · exact hs.keep
  · exact hs.keep
  · exact .ite hs.keep hs

theorem execConfigRequest_answers {s1 : State} (hs1 : s1.Queued cmds) (off v) : OutQueued cmds (execConfigRequest off v s1) := by
  unfold execConfigRequest
  refine .clocked hs1 fun s0 hs0 => ?_
  extract_lets s
  have hs : s.Queued cmds := hs0.awake
  split
  · exact .next (hs.say _)
  · split
    · exact .next (hs.say _)
    · exact .next ((hs.cfgWrite _ _).say _)

theorem execDoeRequest_answers {s1 : State} (hs1 : s1.Queued cmds) (d) : OutQueued cmds (execDoeRequest d s1) := by
  unfold execDoeRequest
  refine .clocked hs1 fun s0 hs0 => ?_
  extract_lets s _
  have hs : s.Queued cmds := hs0.awake
  exact .ite (.next hs) (.ite (.next hs.keep) (.ite (.next hs) (.next hs.keep)))

theorem State.Queued.doeAnswer {s : State} (hs : s.Queued cmds) (ty d) : (s.doeAnswer ty d).Queued cmds := hs

theorem execDoeDiscovery_answers {s0 : State} (hs0 : s0.Queued cmds) : OutQueued cmds (execDoeDiscovery s0) := by
  unfold execDoeDiscovery
  refine .clocked hs0 fun s hs => ?_
  split
  · exact .next hs
  · extract_lets n
    exact .next (hs.doeAnswer _ _)

theorem execDoeAbort_answers {s0 : State} (hs0 : s0.Queued cmds) : OutQueued cmds (execDoeAbort s0) := by
  unfold execDoeAbort
  exact .clocked hs0 fun _ hs => .next hs.keep

theorem State.Queued.spdmSay {s : State} (hs : s.Queued cmds) (x1 req resp) : (s.spdmSay x1 req resp).Queued cmds := hs

theorem State.Queued.spdmError {s : State} (hs : s.Queued cmds) (m code) : (s.spdmError m code).Queued cmds := hs

theorem execSpdmGetVersion_answers {s0 : State} (hs0 : s0.Queued cmds) : OutQueued cmds (execSpdmGetVersion s0) := by
  unfold execSpdmGetVersion
  refine .clocked hs0 fun s hs => ?_
  split
  · exact .next hs
  · exact .next (hs.spdmSay _ _ _)

theorem execSpdmGetCapabilities_answers {s0 : State} (hs0 : s0.Queued cmds) : OutQueued cmds (execSpdmGetCapabilities s0) := by
  unfold execSpdmGetCapabilities
  refine .clocked hs0 fun s hs => ?_
  split
  · exact .next hs
  · split
    · exact .next (hs.spdmError _ _)
    · extract_lets s1 r _
      have hs1 : s1.Queued cmds := hs.keep
      exact .next (hs1.spdmSay _ _ _)

theorem execSpdmNegotiateAlgorithms_answers {s0 : State} (hs0 : s0.Queued cmds) :
    OutQueued cmds (execSpdmNegotiateAlgorithms s0) := by
  unfold execSpdmNegotiateAlgorithms
  refine .clocked hs0 fun s hs => ?_
  split
  · exact .next hs
  · split
    · exact .next (hs.spdmError _ _)
    · extract_lets r _
      exact .next (hs.spdmSay _ _ _)

theorem execSpdmGetDigests_answers {s0 : State} (hs0 : s0.Queued cmds) : OutQueued cmds (execSpdmGetDigests s0) := by
  unfold execSpdmGetDigests
  refine .clocked hs0 fun s hs => ?_
  split
  · exact .next hs
  · exact .ite (.next (hs.spdmError _ _)) (.next (hs.spdmSay _ _ _))

theorem execSpdmGetCertificate_answers {s0 : State} (hs0 : s0.Queued cmds) : OutQueued cmds (execSpdmGetCertificate s0) := by
  unfold execSpdmGetCertificate
  refine .clocked hs0 fun s hs => ?_
  split
  · exact .next hs
  · split
    · exact .next (hs.spdmError _ _)
    · extract_lets at' n
      exact .ite (.next (hs.spdmError _ _)) (.next (hs.spdmSay _ _ _))

theorem execSpdmChallenge_answers {s0 : State} (hs0 : s0.Queued cmds) : OutQueued cmds (execSpdmChallenge s0) := by
  unfold execSpdmChallenge
  refine .clocked hs0 fun s hs => ?_
  split
  · exact .next hs
  · split
    · exact .next (hs.spdmError _ _)
    · split
      · exact .next (hs.spdmError _ _)
      · split
        · rename_i s1 e
          have hs1 : s1.Queued cmds := (hs.draw _).of_snd e
          split
          · rename_i s1 e
            have hs1 : s1.Queued cmds := (hs1.draw _).of_snd e
            extract_lets ms body _
            exact .next (hs1.spdmSay _ _ _)

theorem execSpdmGetMeasurements_answers {s0 : State} (hs0 : s0.Queued cmds) : OutQueued cmds (execSpdmGetMeasurements s0) := by
  unfold execSpdmGetMeasurements
  refine .clocked hs0 fun s hs => ?_
  split
  · exact .next hs
  · split
    · exact .next (hs.spdmError _ _)
    · extract_lets op l rec'
      split
      · exact .next (hs.spdmError _ _)
      · split
        · rename_i s1 e
          have hs1 : s1.Queued cmds := (hs.draw _).of_snd e
          extract_lets body
          split
          · split
            · rename_i s1 e
              have hs1 : s1.Queued cmds := (hs1.draw _).of_snd e
              exact .next (hs1.spdmSay _ _ _)
          · exact .next (hs1.spdmSay _ _ _)

/-! ### The functions of Machine/Uniform -/

theorem State.Queued.clearCause {s : State} (hs : s.Queued cmds) (blk cause) : (s.clearCause blk cause).Queued cmds :=
  .ite hs (.ite (hs.clearRefused _) (hs.setF _ _ _))

theorem State.Queued.dropLimit {s : State} (hs : s.Queued cmds) (blk v) : (s.dropLimit blk v).Queued cmds := by
  unfold State.dropLimit
  split
  · exact hs
  · split
    · exact hs
    · extract_lets s1 _
      have hs1 : s1.Queued cmds := hs.setF _ _ _
      exact .ite hs1.keep hs1

theorem execErrStatusClear_answers {s0 : State} (hs0 : s0.Queued cmds) (blk v) : OutQueued cmds (execErrStatusClear blk v s0) := by
  unfold execErrStatusClear
  refine .mmio hs0 fun s hs => ?_
  extract_lets ent bitsLeft s1
  have hs1 : s1.Queued cmds := (State.Queued.ite hs (hs.dropLimit _ _)).foldl (fun _ ht _ => ht.clearCause _ _) _
  exact .next (.ite (hs1.entClear _) hs1)

theorem execErrIrqEnWrite_answers {s0 : State} (hs0 : s0.Queued cmds) (blk v) : OutQueued cmds (execErrIrqEnWrite blk v s0) := by
  unfold execErrIrqEnWrite
  refine .mmio hs0 fun s hs => ?_
  extract_lets old s1
  have hs1 : s1.Queued cmds := hs.setF _ _ _
  exact .ite (.next (hs1.blockVector _)) (.next hs1)

theorem State.Queued.smbRead {s : State} (hs : s.Queued cmds) (code d withPec) : OutQueued cmds (s.smbRead code d withPec) := by
  unfold State.smbRead
  split
  · exact .next hs
  · extract_lets msg
    exact .next (hs.say _)

theorem execSmbReadTemp_answers {s : State} (hs : s.Queued cmds) (withPec) : OutQueued cmds (execSmbReadTemp withPec s) :=
  hs.smbRead _ _ _

theorem execSmbReadStatus_answers {s : State} (hs : s.Queued cmds) (withPec) : OutQueued cmds (execSmbReadStatus withPec s) :=
  hs.smbRead _ _ _

theorem execSmbReadPower_answers {s : State} (hs : s.Queued cmds) (withPec) : OutQueued cmds (execSmbReadPower withPec s) :=
  hs.smbRead _ _ _

theorem execSmbReadAlertStatus_answers {s : State} (hs : s.Queued cmds) (withPec) :
    OutQueued cmds (execSmbReadAlertStatus withPec s) := hs.smbRead _ _ _

theorem execSmbReadPowerLimit_answers {s : State} (hs : s.Queued cmds) (withPec) :
    OutQueued cmds (execSmbReadPowerLimit withPec s) := hs.smbRead _ _ _

theorem execSmbReadIdentity_answers {s : State} (hs : s.Queued cmds) (withPec) : OutQueued cmds (execSmbReadIdentity withPec s) :=
  hs.smbRead _ _ _

theorem State.Queued.clearAlerts {s : State} (hs : s.Queued cmds) (v) : (s.clearAlerts v).Queued cmds :=
  hs.foldl (fun _ ht _ => .ite (ht.setF _ _ _) ht) _

theorem State.Queued.smbRefuse {s : State} (hs : s.Queued cmds) (code) : (s.smbRefuse code).Queued cmds :=
  ((hs.say _).count _ _ _).raiseErr _ _ _ _

theorem execSmbClearAlertStatus_answers {s : State} (hs : s.Queued cmds) (v sent) :
    OutQueued cmds (execSmbClearAlertStatus v sent s) := by
  unfold execSmbClearAlertStatus
  split
  · exact .next hs
  · extract_lets good
    exact .ite (.next (hs.clearAlerts _)) (.next (hs.smbRefuse _))

theorem execSmbBadCommand_answers {s : State} (hs : s.Queued cmds) (code pecBad) :
    OutQueued cmds (execSmbBadCommand code pecBad s) :=
  .ite (.next hs) (.next (hs.smbRefuse _))

theorem execSmbAlertResponse_answers {s : State} (hs : s.Queued cmds) : OutQueued cmds (execSmbAlertResponse s) := by
  unfold execSmbAlertResponse
  exact .ite (.next (hs.keep.say _)) (.next hs)

theorem execSmbClockLowTimeout_answers {s0 : State} (hs0 : s0.Queued cmds) : OutQueued cmds (execSmbClockLowTimeout s0) :=
  .clocked hs0 fun _ hs => .next hs

/-! ### The functions of Machine/RegWrite -/

theorem State.Queued.writeField {s : State} (hs : s.Queued cmds) (r i v f) : (s.writeField r i v f).Queued cmds := by
  unfold State.writeField
  extract_lets acc
  exact .ite hs (hs.setF _ _ _)

theorem State.Queued.writeReg {s : State} (hs : s.Queued cmds) (r i v) : (s.writeReg r i v).Queued cmds := by
  unfold State.writeReg
  extract_lets t was
  have ht : t.Queued cmds := hs.foldl (fun _ ht _ => ht.writeField _ _ _ _) _
  split
  · split
    · exact hs.cfgRefuse _ _
    · refine State.Queued.cfgOk ?_ _
      unfold t
      exact hs.foldl (fun _ ht _ => ht.writeField _ _ _ _) _
  · refine State.Queued.cfgOk ?_ _
    unfold t
    exact hs.foldl (fun _ ht _ => ht.writeField _ _ _ _) _
  · exact .ite ((hs.setF _ _ _).setF _ _ _) hs
  · split
    · refine State.Queued.sourceLost ?_
      unfold t
      exact hs.foldl (fun _ ht _ => ht.writeField _ _ _ _) _
    · unfold t
      exact hs.foldl (fun _ ht _ => ht.writeField _ _ _ _) _
  · split
    · exact hs.clearRefused _
    · unfold t
      exact hs.foldl (fun _ ht _ => ht.writeField _ _ _ _) _
  · exact ht

theorem State.Queued.plainWrite {s : State} (hs : s.Queued cmds) (r i v) : (s.plainWrite r i v).Queued cmds :=
  .ite hs (hs.writeReg _ _ _)

theorem execRegisterWrite_answers {s0 : State} (hs0 : s0.Queued cmds) (r i v) :
    OutQueued cmds (execRegisterWrite r i v s0) :=
  .mmio hs0 fun _ hs => .next ((hs.plainWrite _ _ _).setHeld _ _ _)

theorem execReg64LowHalfWrite_answers {s0 : State} (hs0 : s0.Queued cmds) (r i v) :
    OutQueued cmds (execReg64LowHalfWrite r i v s0) :=
  .mmio hs0 fun _ hs => .ite (.next hs) (.next (hs.setHeld _ _ _))

theorem execReg64HighHalfWrite_answers {s0 : State} (hs0 : s0.Queued cmds) (r i v d img) :
    OutQueued cmds (execReg64HighHalfWrite r i v d img s0) := by
  unfold execReg64HighHalfWrite
  refine .mmio hs0 fun s hs => ?_
  refine .ite (.next hs) ?_
  extract_lets w s1
  have hs1 : s1.Queued cmds := hs.setHeld _ _ _
  split
  · exact execSealRangeWrite_answers hs1 _ _
  · exact execSealRangeWrite_answers hs1 _ _
  · exact execSealRangeWrite_answers hs1 _ _
  · exact .ite (execTimeSet_answers hs1 _) (.next hs1)
  · exact execScComplete_answers hs1 _ _ _ _ _
  · exact .next (hs1.plainWrite _ _ _)

theorem execReg64LowHalfRead_answers {s0 : State} (hs0 : s0.Queued cmds) (r i) : OutQueued cmds (execReg64LowHalfRead r i s0) := by
  unfold execReg64LowHalfRead
  refine .mmio hs0 fun s hs => ?_
  split
  · exact .next hs
  · extract_lets w s1
    have hs1 : s1.Queued cmds := hs.keep
    exact .next (hs1.say _)

/-! ### Every command -/

/-- Every command answers a next state and leaves the commands that wait: each row of the machine by its own lemma. -/
theorem exec_answers {s : State} (hs : s.Queued cmds) : ∀ c, OutQueued cmds (exec c s)
  | .registerWrite r i v => execRegisterWrite_answers hs r i v
  | .reg64LowHalfWrite r i v => execReg64LowHalfWrite_answers hs r i v
  | .reg64HighHalfWrite r i v d img => execReg64HighHalfWrite_answers hs r i v d img
  | .reg64LowHalfRead r i => execReg64LowHalfRead_answers hs r i
  | .fabricCodeMismatch => execFabricCodeMismatch_answers hs
  | .mmioBadRequest bar a size write => execMmioBadRequest_answers hs bar a size write
  | .mmioMemorySpaceDisabled => execMmioMemorySpaceDisabled_answers hs
  | .linkDownspeed => execLinkDownspeed_answers hs
  | .retrain v => execRetrain_answers hs v
  | .linkDown => execLinkDown_answers hs
  | .linkQuietTimeExpiry => execLinkQuietTimeExpiry_answers hs
  | .linkRecovered speed width => execLinkRecovered_answers hs speed width
  | .hostReadFailure w cause => execHostReadFailure_answers hs w cause
  | .msixUnmask v => execMsixUnmask_answers hs v
  | .ltrIdleTimer => execLtrIdleTimer_answers hs
  | .busMasterDisable d3 => execBusMasterDisable_answers hs d3
  | .busMasterEnable => execBusMasterEnable_answers hs
  | .flr => execFlr_answers hs
  | .doeRequest d => execDoeRequest_answers hs d
  | .doeDiscovery => execDoeDiscovery_answers hs
  | .doeAbort => execDoeAbort_answers hs
  | .spdmGetVersion => execSpdmGetVersion_answers hs
  | .spdmGetCertificate => execSpdmGetCertificate_answers hs
  | .spdmChallenge => execSpdmChallenge_answers hs
  | .spdmGetMeasurements => execSpdmGetMeasurements_answers hs
  | .perstAssert => execPerstAssert_answers hs
  | .perstRelease => execPerstRelease_answers hs
  | .hotReset => execHotReset_answers hs
  | .pmeTurnOff => execPmeTurnOff_answers hs
  | .ptmExchangeComplete master mid t1 => execPtmExchangeComplete_answers hs master mid t1
  | .ptmIntervalTimer => execPtmIntervalTimer_answers hs
  | .sliceEnable sl => execSliceEnable_answers hs sl
  | .sliceDisable sl => execSliceDisable_answers hs sl
  | .slicePause sl => execSlicePause_answers hs sl
  | .sliceUnpause sl => execSliceUnpause_answers hs sl
  | .sliceReset sl => execSliceReset_answers hs sl
  | .sliceResetComplete sl => execSliceResetComplete_answers hs sl
  | .slicePasidWrite sl v => execSlicePasidWrite_answers hs sl v
  | .pasidPendingClear sl => execPasidPendingClear_answers hs sl
  | .sliceQueuesWrite sl v => execSliceQueuesWrite_answers hs sl v
  | .sliceGrantWrite g sl v => execSliceGrantWrite_answers hs g sl v
  | .t2mSend sl => execT2mSend_answers hs sl
  | .t2mAck sl => execT2mAck_answers hs sl
  | .m2tSend sl => execM2tSend_answers hs sl
  | .m2tAck sl => execM2tAck_answers hs sl
  | .mailboxWrite sl tenant off d => execMailboxWrite_answers hs sl tenant off d
  | .dplLogEnable sl en => execDplLogEnable_answers hs sl en
  | .newRound sl => execNewRound_answers hs sl
  | .doorbellWrite sl i v => execDoorbellWrite_answers hs sl i v
  | .entryFetch q k => execEntryFetch_answers hs q k
  | .entryReceived q i d => execEntryReceived_answers hs q i d
  | .ownWaitRetry q d => execOwnWaitRetry_answers hs q d
  | .entryDecode q inT outT => execEntryDecode_answers hs q inT outT
  | .jobDispatch p => execJobDispatch_answers hs p
  | .jobPark q i => execJobPark_answers hs q i
  | .jobResume q i => execJobResume_answers hs q i
  | .executionEnd q i => execExecutionEnd_answers hs q i
  | .jobCommit q i => execJobCommit_answers hs q i
  | .coalTimer e => execCoalTimer_answers hs e
  | .evrConsWrite e v => execEvrConsWrite_answers hs e v
  | .evrOverflowClear e => execEvrOverflowClear_answers hs e
  | .queueEnable q v => execQueueEnable_answers hs q v
  | .queueDisable q v => execQueueDisable_answers hs q v
  | .queueReset q v => execQueueReset_answers hs q v
  | .evrEnable e v => execEvrEnable_answers hs e v
  | .scPost => execScPost_answers hs
  | .scHoldoffTimer c => execScHoldoffTimer_answers hs c
  | .scComplete c tag status d v => execScComplete_answers hs c tag status d v
  | .scSlotTimeout c tag => execScSlotTimeout_answers hs c tag
  | .scEnable c v => execScEnable_answers hs c v
  | .scDisable c v => execScDisable_answers hs c v
  | .nop q i => execNop_answers hs q i
  | .kemKeygen q i => execKemKeygen_answers hs q i
  | .kemEncaps q i inp => execKemEncaps_answers hs q i inp
  | .kemDecaps q i inp => execKemDecaps_answers hs q i inp
  | .sigKeygen q i => execSigKeygen_answers hs q i
  | .sigSign q i inp => execSigSign_answers hs q i inp
  | .sigVerify q i inp => execSigVerify_answers hs q i inp
  | .sigVerifyBatch q i inp => execSigVerifyBatch_answers hs q i inp
  | .keyAgree q i inp => execKeyAgree_answers hs q i inp
  | .hybridKem q i inp => execHybridKem_answers hs q i inp
  | .hash q i inp => execHash_answers hs q i inp
  | .hmac q i inp => execHmac_answers hs q i inp
  | .kmac q i inp => execKmac_answers hs q i inp
  | .kdf q i inp => execKdf_answers hs q i inp
  | .aeadEncrypt q i inp => execAeadEncrypt_answers hs q i inp
  | .aeadDecrypt q i inp => execAeadDecrypt_answers hs q i inp
  | .xtsEncrypt q i inp => execXtsEncrypt_answers hs q i inp
  | .xtsDecrypt q i inp => execXtsDecrypt_answers hs q i inp
  | .keyWrap q i inp => execKeyWrap_answers hs q i inp
  | .keyUnwrap q i inp => execKeyUnwrap_answers hs q i inp
  | .cmac q i inp => execCmac_answers hs q i inp
  | .random q i => execRandom_answers hs q i
  | .keyImport q i inp => execKeyImport_answers hs q i inp
  | .keyExportWrapped q i => execKeyExportWrapped_answers hs q i
  | .keyDestroy q i => execKeyDestroy_answers hs q i
  | .keyDestroyCommit k => execKeyDestroyCommit_answers hs k
  | .keyInfo q i => execKeyInfo_answers hs q i
  | .keyDerive q i inp => execKeyDerive_answers hs q i inp
  | .statefulReserve q i => execStatefulReserve_answers hs q i
  | .ledgerAppend q i inp => execLedgerAppend_answers hs q i inp
  | .ledgerCheckpoint q i => execLedgerCheckpoint_answers hs q i
  | .ledgerProveInclusion q i => execLedgerProveInclusion_answers hs q i
  | .ledgerProveConsistency q i => execLedgerProveConsistency_answers hs q i
  | .ledgerRead q i => execLedgerRead_answers hs q i
  | .streamOpen q i => execStreamOpen_answers hs q i
  | .streamClose q i => execStreamClose_answers hs q i
  | .sealWrite q i inp => execSealWrite_answers hs q i inp
  | .sealRead q i => execSealRead_answers hs q i
  | .sealAnchorWarm q i => execSealAnchorWarm_answers hs q i
  | .sealAnchorCold q i => execSealAnchorCold_answers hs q i
  | .coldAnchorEpochBurn ok => execColdAnchorEpochBurn_answers hs ok
  | .timeStamp q i inp => execTimeStamp_answers hs q i inp
  | .timeRead q i => execTimeRead_answers hs q i
  | .kernelRun q i inp => execKernelRun_answers hs q i inp
  | .kernelInfo q i => execKernelInfo_answers hs q i
  | .kernelLoad q i inp => execKernelLoad_answers hs q i inp
  | .kernelUnload q i => execKernelUnload_answers hs q i
  | .patchQuery q i => execPatchQuery_answers hs q i
  | .selfTest q i fails => execSelfTest_answers hs q i fails
  | .lcInfo q i => execLcInfo_answers hs q i
  | .attest q i inp => execAttest_answers hs q i inp
  | .recordPlace q i => execRecordPlace_answers hs q i
  | .engineFault q i unit cause part place => execEngineFault_answers hs q i unit cause part place
  | .binderRestart b t cause => execBinderRestart_answers hs b t cause
  | .binderPreciseHalt b t cause => execBinderPreciseHalt_answers hs b t cause
  | .binderResume b atNext => execBinderResume_answers hs b atNext
  | .seqBinderEnableWrite v => execSeqBinderEnableWrite_answers hs v
  | .microwordAlu b t q i o dst src arg => execMicrowordAlu_answers hs b t q i o dst src arg
  | .microwordField b t q i f insert reg lo len => execMicrowordField_answers hs b t q i f insert reg lo len
  | .microwordBranch b t q i kind cond target => execMicrowordBranch_answers hs b t q i kind cond target
  | .microwordDispatch b t q i reg table => execMicrowordDispatch_answers hs b t q i reg table
  | .microwordRequest b t q i tag reg => execMicrowordRequest_answers hs b t q i tag reg
  | .microwordWait b t q i tags => execMicrowordWait_answers hs b t q i tags
  | .microwordCheck b t q i cond target inT outT => execMicrowordCheck_answers hs b t q i cond target inT outT
  | .microwordAccept b t q i inT outT => execMicrowordAccept_answers hs b t q i inT outT
  | .microwordStage b t q i src dst pos n dest => execMicrowordStage_answers hs b t q i src dst pos n dest
  | .microwordCommit b t q i => execMicrowordCommit_answers hs b t q i
  | .microwordHostwrite b t q i => execMicrowordHostwrite_answers hs b t q i
  | .microwordEnd b t q i => execMicrowordEnd_answers hs b t q i
  | .jobPlace q i => execJobPlace_answers hs q i
  | .quarterLoaded c n inp => execQuarterLoaded_answers hs c n inp
  | .coreSwitch c => execCoreSwitch_answers hs c
  | .bundleExecute c => execBundleExecute_answers hs c
  | .jobSuspend c => execJobSuspend_answers hs c
  | .jobUnsuspend c n => execJobUnsuspend_answers hs c n
  | .drainComplete q i inp => execDrainComplete_answers hs q i inp
  | .quarterScrubComplete c n => execQuarterScrubComplete_answers hs c n
  | .marCoreReset c ecc bundle => execMarCoreReset_answers hs c ecc bundle
  | .marCoreEnableWrite v => execMarCoreEnableWrite_answers hs v
  | .marFaultResume c v => execMarFaultResume_answers hs c v
  | .aluAdd .. | .aluSub .. | .aluAnd .. | .aluOr .. | .aluXor .. | .aluAndn .. | .aluShl .. | .aluShr .. | .aluSar .. | .aluMinu .. | .aluMaxu ..
  | .aluMul .. | .aluPass .. | .aluCmpeq .. | .aluCmpne .. | .aluCmpltu .. | .aluCmplts .. | .aluCmpleu .. | .valuAdd .. | .valuSub .. | .valuAnd ..
  | .valuOr .. | .valuXor .. | .valuAndn .. | .valuShl .. | .valuShr .. | .valuSar .. | .valuMinu .. | .valuMaxu .. | .valuMins .. | .valuMaxs ..
  | .valuCmpeq .. | .valuCmpltu .. | .valuCmplts .. | .valuBlend .. | .valuBcast .. | .valuMullo .. | .valuWiden .. | .valuNarrow .. | .mmulMul ..
  | .mmulMac .. | .mmulMacz .. | .mmulMld .. | .maddAdd .. | .maddSub .. | .maddRed .. | .maddNeg .. | .maddCent .. | .maddRedq .. | .maddMld ..
  | .bfyCt .. | .bfyGs .. | .bfyCtp .. | .bfyGsp .. | .bfyMld .. | .fxpSadd .. | .fxpSsub .. | .fxpUadd .. | .fxpUsub .. | .fxpRshru ..
  | .fxpRshre .. | .fxpSshl .. | .fxpSmulrh .. | .fxpSabs .. | .fxpClamp .. | .fxpGetsat .. | .bitfExt .. | .bitfIns .. | .bitfPack ..
  | .bitfUnpack .. | .bitfSext .. | .clzClz .. | .clzCtz .. | .clzPopc .. | .permBperm .. | .permBrev .. | .lsuLd .. | .lsuSt .. | .lsuLdr ..
  | .lsuStr .. | .lsuLdv .. | .lsuStv .. | .lsuStvm .. | .gsuGather .. | .gsuScatter .. | .xsLd .. | .xsSt .. | .xsLdv .. | .xsStv .. | .xsLr ..
  | .xsSc .. | .hpOpen .. | .hpAbsorb .. | .hpFinal .. | .hpSqueeze .. | .hpSqueeze1 .. | .hpClose .. | .smpUnif12 .. | .smpUnif23 .. | .smpUnif16 ..
  | .smpCbd2 .. | .smpCbd3 .. | .smpBound2 .. | .smpBound4 .. | .smpRaw .. | .mskRand .. | .mskRandq .. | .mskShare2 .. | .mskShare3 ..
  | .mskRefresh2 .. | .mskRefresh3 .. | .mskRelease2 .. | .mskRelease3 .. | .twrWrite .. | .ctlJump .. | .ctlCall .. | .ctlBreak .. | .ctlEnd ..
  | .ctlSync .. => .next (hs.unitRow _ _ _ _)
  | .hashCallStart n q i sha2 masked fin blocks => execHashCallStart_answers hs n q i sha2 masked fin blocks
  | .hashCallEnd c good storeOk => execHashCallEnd_answers hs c good storeOk
  | .hashChainCall n q i masked start pos steps value adrs => execHashChainCall_answers hs n q i masked start pos steps value adrs
  | .maskedCallWaitTimeout n => execMaskedCallWaitTimeout_answers hs n
  | .hshCoreEnableWrite v => execHshCoreEnableWrite_answers hs v
  | .cdeKeygenAttemptEnd q i ok replaced => execCdeKeygenAttemptEnd_answers hs q i ok replaced
  | .cdePairwiseTest q i ok => execCdePairwiseTest_answers hs q i ok
  | .cdeUnitReset u => execCdeUnitReset_answers hs u
  | .cdeUnitEnableWrite v => execCdeUnitEnableWrite_answers hs v
  | .bgnValidationEnd q i inp => execBgnValidationEnd_answers hs q i inp
  | .bgnComputationEnd q i inp equal => execBgnComputationEnd_answers hs q i inp equal
  | .bgnMulEnableWrite v => execBgnMulEnableWrite_answers hs v
  | .strYield q i => execStrYield_answers hs q i
  | .strPipeEnableWrite v => execStrPipeEnableWrite_answers hs v
  | .cellHealthFail c test => execCellHealthFail_answers hs c test
  | .cellRetestComplete c test => execCellRetestComplete_answers hs c test
  | .entCellEnableWrite v => execEntCellEnableWrite_answers hs v
  | .conditionerOutput => execConditionerOutput_answers hs
  | .drbgReseed d => execDrbgReseed_answers hs d
  | .drbgStall d => execDrbgStall_answers hs d
  | .stringSeedDelivery k => execStringSeedDelivery_answers hs k
  | .maskGenReseedRequest k => execMaskGenReseedRequest_answers hs k
  | .maskGenDeadline k => execMaskGenDeadline_answers hs k
  | .entStartupTested fails => execEntStartupTested_answers hs fails
  | .entropyWaitTimeout q i => execEntropyWaitTimeout_answers hs q i
  | .entQuietTimeExpiry => execEntQuietTimeExpiry_answers hs
  | .entRestartComplete fails => execEntRestartComplete_answers hs fails
  | .entErrClearRestart v => execEntErrClearRestart_answers hs v
  | .entSwDataRead whole => execEntSwDataRead_answers hs whole
  | .hotKeyLoad k => execHotKeyLoad_answers hs k
  | .hotStoreEccError k localOk recordOk => execHotStoreEccError_answers hs k localOk recordOk
  | .commitGroupClose => execCommitGroupClose_answers hs
  | .sealRetryTimer => execSealRetryTimer_answers hs
  | .storageTimeLimit q i => execStorageTimeLimit_answers hs q i
  | .storeOpen v => execStoreOpen_answers hs v
  | .forceOpen v img => execForceOpen_answers hs v img
  | .format v => execFormat_answers hs v
  | .sealCtrlRefused v => execSealCtrlRefused_answers hs v
  | .sealRangeWrite r v => execSealRangeWrite_answers hs r v
  | .qreStreamStateLoaded img => execQreStreamStateLoaded_answers hs img
  | .streamRelease v => execStreamRelease_answers hs v
  | .journalEvent ev d => execJournalEvent_answers hs ev d
  | .ppsEdge => execPpsEdge_answers hs
  | .ref10mMeasurement f => execRef10mMeasurement_answers hs f
  | .slewComplete => execSlewComplete_answers hs
  | .timSlewRateWrite v => execTimSlewRateWrite_answers hs v
  | .timeSet sec => execTimeSet_answers hs sec
  | .timeSourceLoss => execTimeSourceLoss_answers hs
  | .holdoverLimitExpiry => execHoldoverLimitExpiry_answers hs
  | .timNowRead => execTimNowRead_answers hs
  | .ppsOutPulse => execPpsOutPulse_answers hs
  | .descriptorPost c a => execDescriptorPost_answers hs c a
  | .dmaBurst c data => execDmaBurst_answers hs c data
  | .dmaDescriptorEnd c => execDmaDescriptorEnd_answers hs c
  | .dmaCancel q i => execDmaCancel_answers hs q i
  | .lmcMacFailure w ch addr again => execLmcMacFailure_answers hs w ch addr again
  | .lmcRetrain cause ch addr jobs => execLmcRetrain_answers hs cause ch addr jobs
  | .lmcRetrainComplete => execLmcRetrainComplete_answers hs
  | .lmcQuietTimeExpiry => execLmcQuietTimeExpiry_answers hs
  | .lmcTrainingComplete gib ranks2 matched => execLmcTrainingComplete_answers hs gib ranks2 matched
  | .tamperAlarm n det => execTamperAlarm_answers hs n det
  | .detectorDisagree n => execDetectorDisagree_answers hs n
  | .tamperEventResponse => execTamperEventResponse_answers hs
  | .tmpUnlock v => execTmpUnlock_answers hs v
  | .tmpResume v => execTmpResume_answers hs v
  | .tmpRespLock v => execTmpRespLock_answers hs v
  | .otpIntegrityCheck bad => execOtpIntegrityCheck_answers hs bad
  | .lcoTransition v => execLcoTransition_answers hs v
  | .otpWordDone ok => execOtpWordDone_answers hs ok
  | .diagEnter v => execDiagEnter_answers hs v
  | .provFieldWrite v => execProvFieldWrite_answers hs v
  | .provClose v => execProvClose_answers hs v
  | .mainPowerOnReset bbkOk coreLow => execMainPowerOnReset_answers hs bbkOk coreLow
  | .bootBundleLoaded slot flashOk d => execBootBundleLoaded_answers hs slot flashOk d
  | .bootSelftestComplete binders cores hash cde bgn str => execBootSelftestComplete_answers hs binders cores hash cde bgn str
  | .bootRetry v d => execBootRetry_answers hs v d
  | .bootProgram v d => execBootProgram_answers hs v d
  | .bootProgramComplete good => execBootProgramComplete_answers hs good
  | .raiseMin v => execRaiseMin_answers hs v
  | .idleEntry => execIdleEntry_answers hs
  | .dozeEntry => execDozeEntry_answers hs
  | .wake => execWake_answers hs
  | .mainRailsOff => execMainRailsOff_answers hs
  | .vauxLoss => execVauxLoss_answers hs
  | .vauxReturn => execVauxReturn_answers hs
  | .aoPowerOnReset vaux => execAoPowerOnReset_answers hs vaux
  | .deepWakeSource n => execDeepWakeSource_answers hs n
  | .vbatMeasure mv => execVbatMeasure_answers hs mv
  | .governorWindow avg cur => execGovernorWindow_answers hs avg cur
  | .thermalReading sensor t => execThermalReading_answers hs sensor t
  | .thermtrip => execThermtrip_answers hs
  | .braceEnter rail mv => execBraceEnter_answers hs rail mv
  | .braceLift v => execBraceLift_answers hs v
  | .errStatusClear blk v => execErrStatusClear_answers hs blk v
  | .errIrqEnWrite blk v => execErrIrqEnWrite_answers hs blk v
  | .smbReadTemp withPec => execSmbReadTemp_answers hs withPec
  | .smbReadStatus withPec => execSmbReadStatus_answers hs withPec
  | .smbReadPower withPec => execSmbReadPower_answers hs withPec
  | .smbReadAlertStatus withPec => execSmbReadAlertStatus_answers hs withPec
  | .smbClearAlertStatus v sent => execSmbClearAlertStatus_answers hs v sent
  | .smbReadPowerLimit withPec => execSmbReadPowerLimit_answers hs withPec
  | .smbReadIdentity withPec => execSmbReadIdentity_answers hs withPec
  | .smbBadCommand code pecBad => execSmbBadCommand_answers hs code pecBad
  | .smbAlertResponse => execSmbAlertResponse_answers hs
  | .smbClockLowTimeout => execSmbClockLowTimeout_answers hs
  | .spdmGetCapabilities => execSpdmGetCapabilities_answers hs
  | .spdmNegotiateAlgorithms => execSpdmNegotiateAlgorithms_answers hs
  | .spdmGetDigests => execSpdmGetDigests_answers hs
  | .linkUp speed width => execLinkUp_answers hs speed width
  | .linkL1Entry pm => execLinkL1Entry_answers hs pm
  | .configRequest off v => execConfigRequest_answers hs off v
  | .receiverError => execReceiverError_answers hs
  | .replayTimerTimeout => execReplayTimerTimeout_answers hs
  | .scratchPageScrubComplete g p => execScratchPageScrubComplete_answers hs g p
  | .cdeZeroizeComplete n => execCdeZeroizeComplete_answers hs n
  | .aoTrimMeasurement ppb => execAoTrimMeasurement_answers hs ppb
  | .ref10mValidityChange ok => execRef10mValidityChange_answers hs ok
  | .tamperConditionEnd n => execTamperConditionEnd_answers hs n
  | .braceRailRecovery rail mv above => execBraceRailRecovery_answers hs rail mv above

/-- A step on a queue takes its first command, and every command answers. -/
theorem step_answers (s : State) : OutQueued s.pending.tail (step s) := by
  unfold step
  split
  · next h =>
    refine .next (State.Queued.idle ?_)
    rw [h]
    exact h
  · next c rest h =>
    rw [h]
    exact exec_answers rfl c

/-- Settles O2: no command's meaning touches the queue that its step has taken it from. -/
theorem stepServesTheQueueInOrder : Obligations.StepServesTheQueueInOrder := by
  unfold Obligations.StepServesTheQueueInOrder
  intro s t hstep
  obtain ⟨u, hu, hqueued⟩ := step_answers s
  obtain rfl := Host.Outcome.next.inj (hstep.symm.trans hu)
  exact hqueued

/-- Settles O3: every command, and the idle tick, answers a next state. -/
theorem everyStepAnswersANextState : Obligations.EveryStepAnswersANextState := by
  unfold Obligations.EveryStepAnswersANextState
  intro s
  obtain ⟨t, ht, -⟩ := step_answers s
  exact ⟨t, ht⟩

end Sys2Proof.Machine
end
